-- ==== Sys2Proof/Word.lean ====
section
/-! DEFINITION. Word.lean: the register word of the KDV8128, 32 bits, and the byte of its memories (R14, R29). -/

namespace Sys2Proof

/-- A register word. -/
abbrev Word := BitVec 32

/-- A byte of SRAM. -/
abbrev Byte := BitVec 8

/-- A register field of `w` bits holds `v` reduced to its width. -/
def trunc (w v : Nat) : Nat := v % 2 ^ w

end Sys2Proof
end

