-- ==== Sys2Proof/Syntax.lean ====
section
/-! DEFINITION. Syntax.lean: the commands of the KDV8128, one constructor of `Instr` per row of spec/opcode_table.json,
and the types of their operands. An outcome of the environment that a row reports (what a die answers, how a decode ends,
what a signature check finds) is an operand of the row (log entry 9). -/

namespace Sys2Proof

/-- A read-only value of configuration space (chapter 03). -/
inductive CapField where
  | totalVfs | initialVfs | numVfs | firstVfOffset | vfStride | maxPayload | maxReadRequest | tenBitTag | outstanding | powerStates
  | barType (bar : Nat)
  | ptmGranularity | atsQueueDepth | ariNext | aer | msixTable | msixPba
  deriving DecidableEq, Repr

/-- What a configuration request asks (chapter 03). -/
inductive CfgReq where
  | readIds | readClass | readSubsystem | readInterruptPin | readMsixSize
  | readBarSize (bar : Nat)
  | setPowerState (d3 : Bool)
  | setBusMaster (on : Bool)
  | setPmeEn (on : Bool)
  | setMsixEnable (on : Bool)
  | setVfEnable (numVfs : Nat)
  | setBus (bus : Nat)
  | readPowerState
  | clearPme
  | readCap (c : CapField)
  | setPayload (bytes : Nat)
  | setReadRequest (bytes : Nat)
  | setTenBitTag (on : Bool)
  | setMsixMask (on : Bool)
  | setAspm (l1 l11 l12 : Bool)
  | setLtr (on : Bool)
  | setPtm (on : Bool)
  | setAts (on : Bool)
  | readAer
  | readAerCorrectable
  | readAerHeader (word : Nat)
  | clearAer (bits : Nat)
  | clearAerCorrectable (bits : Nat)
  /-- a translation completion for the port's ATS cache, not a configuration request -/
  | atsTranslation (addr : Nat)
  /-- a memory read of `size` bytes at an offset of a BAR, not a configuration request -/
  | barRead (bar offset size : Nat)
  /-- a memory write of `size` bytes at an offset of a BAR, not a configuration request -/
  | barWrite (bar offset size value : Nat)
  deriving DecidableEq, Repr

/-- One firmware image as an image source offers it (R489, R512): what the secure ROM finds in it. -/
structure Image where
  headerOk : Bool
  digestOk : Bool
  ecOk : Bool              -- the ECDSA P-384 signature verifies with a key whose hash is an unrevoked PKH_EC
  mlOk : Bool              -- the ML-DSA-87 signature verifies with a key whose hash is an unrevoked PKH_ML
  revoked : Bool           -- a key of a required scheme is revoked
  svn : Nat
  encrypted : Bool
  payloadOk : Bool         -- every encrypted record's tag passes
  len : Nat
  entry : Nat
  digest : Nat
  payload : List Nat       -- payload bytes
  deriving DecidableEq, Repr

/-- What an image source holds: nothing readable, or an image. -/
inductive Source where
  | absent | image (i : Image)
  deriving DecidableEq, Repr

/-- A domain's answer to the entry handshake (R527). -/
inductive Answer where
  | none | ack | delay | refuse (code : Nat)
  deriving DecidableEq, Repr

/-- The atomic operations of an AMO access: AMOADD, AMOSWAP, or one that a bank does not perform (R439, R440). -/
inductive AmoOp where
  | add | swap | other
  deriving DecidableEq, Repr

/-- A submission queue entry as fetched: its 16 Dwords (R125). -/
structure Sqe where
  dw : List Nat
  deriving DecidableEq, Repr

/-- How the fetch of a piece's host data ends (R141, R364, R369, R482). -/
inductive FetchFail where
  | none | guard | tubParity | xts | transfer
  deriving DecidableEq, Repr

/-- Protection bits of a command (R368): PRACT, PRCHK (guard, application tag, reference tag), tags. -/
structure Pr where
  pract : Bool := false
  guard : Bool := false
  app : Bool := false
  ref : Bool := false
  ilbrt : Nat := 0
  lbat : Nat := 0
  lbatm : Nat := 0
  deriving DecidableEq, Repr

/-- The data of a Namespace Management create (R186, R187, R367). -/
structure NsSpec where
  csi : Nat
  nsze : Nat
  ncap : Nat
  lbaf : Nat
  pi : Nat := 0
  handles : List Nat := []
  deriving DecidableEq, Repr

/-- A dictionary value (R552): a number of a fixed-size type, or the bytes of a STR or BLOB. -/
inductive DVal where
  | num (v : Nat)
  | bytes (l : List Nat)
  deriving DecidableEq, Repr

/-- How one decode of a codeword ends (R351 to R354, R362, R608): bits corrected, and whether the guards pass; not corrected; an output
that fails the decoder's own syndrome check. -/
inductive Decode where
  | corrected (bits : Nat) (guardOk : Bool)
  | uncorrectable
  | checkFailed
  deriving DecidableEq, Repr

/-- What the inverse check of a GCM job finds (R483). -/
inductive GcmCheck where
  | ok | mismatchOnce | mismatchTwice
  deriving DecidableEq, Repr

/-- An Esnex frame's header and what the node finds of its integrity (Table 18.7, R567, R575). -/
structure Esnex where
  version : Nat := 1
  auth : Bool := false
  seq : Nat
  src : Nat
  dst : Nat
  session : Nat := 0
  opcode : Nat := 0              -- 0 the row's own; else a number that Table 18.8 does not give
  complete : Bool := true        -- the frame is no shorter than its fields and LEN is at most 1,040
  iv : Nat := 0                  -- invocation counter of the IV
  ivTop : Bool := false          -- bit 7 of the first IV byte
  tagOk : Bool := true
  deriving DecidableEq, Repr

/-- The medium of an MCTP message (R580). -/
inductive MctpMedium where
  | smbus | i3c | pcieVdm
  deriving DecidableEq, Repr

/-- What an MCTP message asks (R581): a control primitive, or a command whose own row follows. -/
inductive MctpBody where
  | pause | resume | otherPrimitive | command | absent
  deriving DecidableEq, Repr

/-- The commands: the 328 rows of spec/opcode_table.json, in the table's order. -/
inductive Instr where
  /-- REGISTER_WRITE (R14): A master writes a register that has no row of its own; the field types decide the effect and normal-world writes to RS fields are ignored. -/
  | registerWrite (master addr value size linkErrors : Nat)
  /-- HIGH_HALF_WRITE (R17): A write to the high half of a 64-bit pair commits it together with the master's staged low half. -/
  | highHalfWrite (master addr value : Nat)
  /-- RC_READ (R41): A normal-alias read of a register with RC fields returns them and clears them, except bits set in the same cycle. -/
  | rcRead (master addr size linkErrors : Nat)
  /-- RL_READ (R42): A normal-alias read of an RL half latches the high half into the reading master's shadow. -/
  | rlRead (master addr size linkErrors : Nat)
  /-- AMO (R439): A core performs AMOADD or AMOSWAP on SRAM as one indivisible read-modify-write. -/
  | amo (master : Nat) (op : AmoOp) (wide : Bool) (addr value : Nat)
  /-- LR (R440): A load-reserved sets the master's reservation on a 64-byte granule. -/
  | lr (master : Nat) (wide : Bool) (addr : Nat)
  /-- SC (R440): A store-conditional writes only while the master's reservation holds. -/
  | sc (master : Nat) (wide : Bool) (addr value : Nat)
  /-- SHBELL_PULSE (R50): A high pulse on SHBELL is classified by width and acts on the Bell lock loop as Table 2.3 gives. -/
  | shbellPulse (widthNs : Nat) (offsetNs : Int)
  /-- PLCA_BEACON (R55): A PLCA beacon is taken as a slot or frame mark under the PLCA-derived source and marks the network up. -/
  | plcaBeacon (offsetNs : Int)
  /-- SLOT_WINDOW_CLOSE (R52): A slot window closes without an on-time mark and counts a missing slot. -/
  | slotWindowClose
  /-- SLOT_BOUNDARY (R58): Bell time reaches a slot boundary, where mode commits, power-up enables, sensor reads and throttle changes take place. -/
  | slotBoundary (temps : List Int)
  /-- FRAME_START (R53): Bell time reaches a frame start, where pending period, preset, mask and budget changes, share counters and snapshots take effect. -/
  | frameStart
  /-- BEL_CTRL_WRITE (R62): A write of BEL_CTRL stages a new period and changes the Bell source, moving the lock state when the effective source changes. -/
  | belCtrlWrite (master value : Nat)
  /-- BEL_BUDGET_WRITE (R71): A write of the budget and read reserve is accepted as pending or ignored when it breaks the factor-2 condition. -/
  | belBudgetWrite (master value : Nat)
  /-- MODE_COMMIT_REQUEST (R78): BEL_MODE_CMD with GO = 1 captures the staged word for commit at the chosen slot, or is rejected. -/
  | modeCommitRequest (master value : Nat)
  /-- UNIT_EPOCH_REPORT (R80): A unit reports the new mode epoch, and the state becomes STABLE when the last unit reports. -/
  | unitEpochReport (unit : Nat)
  /-- POWERUP_LOCK_WAIT_EXPIRE (R74): The lock wait of a power-up sequence ends without LOCKED and the enables proceed under the fallback mask. -/
  | powerupLockWaitExpire
  /-- PERST_DEASSERT (R107): PERSTp_N rises, the straps are sampled at the first deassertion and the port starts link training. -/
  | perstDeassert (port : Nat) (bifur sris : Bool)
  /-- PERST_ASSERT (R110): PERSTp_N falls and resets the port and all its functions. -/
  | perstAssert (port : Nat)
  /-- HOT_RESET (R110): A hot reset resets the port and all its functions. -/
  | hotReset (port : Nat)
  /-- LINK_DISABLE (R110): A link disable resets the port and all its functions. -/
  | linkDisable (port : Nat)
  /-- LINK_LOSS (R112): The link falls to Detect without a reset and is treated as a conventional reset, then retrained. -/
  | linkLoss (port : Nat)
  /-- FLIT_CRC_FAIL (R93): A corrected FLIT or a replay is counted and a failed FLIT or TLP is not delivered. -/
  | flitCrcFail (port : Nat) (corrected : Bool)
  /-- L0P_REQUEST (R94): The link partner requests an L0p width change and the port accepts it. -/
  | l0pRequest (port width : Nat)
  /-- L0P_WIDTH_WRITE (R94): A write of PCI_CTRL.L0P_WIDTH makes the port request a narrower width or a return to full width. -/
  | l0pWidthWrite (master value : Nat)
  /-- CFG_READY_SET (R108): Firmware writes CFG_READYp = 1 and the port answers configuration requests normally. -/
  | cfgReadySet (master value : Nat)
  /-- CFG_READY_TIMEOUT (R108): At 1 s after PERST deassertion with CFG_READYp still 0, the device sets it and every function reports CSTS.CFS. -/
  | cfgReadyTimeout (port : Nat)
  /-- CONFIGURATION_REQUEST (R108): A configuration request reaches a port and is answered, or retried with CRS while CFG_READYp is 0. -/
  | configurationRequest (port fn : Nat) (req : CfgReq)
  /-- ATS_INVALIDATION (R106): An ATS invalidation request completes after DMA using the entry has finished. -/
  | atsInvalidation (port addr : Nat)
  /-- FUNCTION_LEVEL_RESET (R180): A Function Level Reset aborts the function's commands, clears its queues and mailbox and keeps its record. -/
  | functionLevelReset (fn : Nat)
  /-- VF_ENABLE_CLEAR (R180): Clearing VF Enable resets the virtual functions as an FLR does. -/
  | vfEnableClear (port : Nat)
  /-- CONTROLLER_ENABLE (R116): A CC.EN transition from 0 to 1 applies the function's queue allocation. -/
  | controllerEnable (fn ams : Nat)
  /-- CONTROLLER_RESET (R148): A controller reset aborts every command of the function whose last piece has not committed. -/
  | controllerReset (fn : Nat)
  /-- SQ_TAIL_DOORBELL (R121): A submission-queue tail doorbell write is observed and its new entries take consecutive admission tickets. -/
  | sqTailDoorbell (fn qid tail : Nat)
  /-- CQ_HEAD_DOORBELL (R124): A completion-queue head doorbell write frees completion entries or is ignored as invalid. -/
  | cqHeadDoorbell (fn qid head : Nat)
  /-- DEFERRED_DOORBELL_OBSERVE (R122): Doorbell writes held for a function at its command limit, or while ADMIT_EN was 0, are observed once a context is free. -/
  | deferredDoorbellObserve
  /-- ADMISSION (R123): The next ticketed entry is fetched, charged to the token buckets and decided, strictly in ticket order. -/
  | admission (sqe : Sqe)
  /-- COMMAND_DISPATCH (R129): Two-level arbitration dispatches an admitted command once tokens, fences and ordering allow. -/
  | commandDispatch
  /-- HOST_DATA_FETCH (R362): A piece's data arrives from the host into protected tubs, with host PI checks, path guards and deltas. -/
  | hostDataFetch (ticket index : Nat) (data piTags : List Nat) (fail : FetchFail)
  /-- PIECE_DISPATCH (R203): A piece is dispatched to media, taking a row or reclaim unit when its zone holds none. -/
  | pieceDispatch (ticket index : Nat)
  /-- PIECE_COMMIT (R141): A piece whose data, deltas and guards are in protected tubs commits in ticket order while ARMED, and the command completes at its last piece. -/
  | pieceCommit (ticket index : Nat)
  /-- READ (R126): The Read command returns the data left by every conflicting write with a lower ticket. -/
  | read (cid nsid slba nlb : Nat) (pr : Pr)
  /-- WRITE (R127): The Write command writes data, checked against the zone's admitted write pointer for a zoned namespace. -/
  | write (cid nsid slba nlb : Nat) (pr : Pr) (dspec : Nat)
  /-- WRITE_ZEROES (R139): The Write Zeroes command writes zeros in pieces. -/
  | writeZeroes (cid nsid slba nlb : Nat) (pr : Pr)
  /-- FLUSH (R128): The Flush command completes once every lower-ticket write to its namespace has committed. -/
  | flush (cid nsid : Nat)
  /-- VERIFY (R159): The Verify command reads media without transferring data. -/
  | verify (cid nsid slba nlb : Nat) (pr : Pr)
  /-- ORDER_FENCE (R138): Order Fence completes after every lower-ticket command of its queue and holds back later dispatch. -/
  | orderFence (cid : Nat) (cdw10to15 : List Nat)
  /-- ZONE_APPEND (R199): Zone Append receives its LBAs from the admitted write pointer at admission. -/
  | zoneAppend (cid nsid zslba nlb : Nat) (pr : Pr)
  /-- DATASET_MANAGEMENT (R233): A deallocation sets map entries to LOC 0b00 at its commit. -/
  | datasetManagement (cid nsid : Nat) (deallocate : Bool) (ranges : List (Nat × Nat))
  /-- IO_MANAGEMENT_SEND (R210): Reclaim Unit Handle Update detaches the attached reclaim unit at its commit. -/
  | ioManagementSend (cid nsid mo : Nat) (pids : List Nat)
  /-- IO_MANAGEMENT_RECEIVE (R211): I/O Management Receive returns Reclaim Unit Handle Status. -/
  | ioManagementReceive (cid nsid mo : Nat)
  /-- ZONE_OPEN (R193): The Open action explicitly opens a zone, or all Closed zones with Select All. -/
  | zoneOpen (cid nsid slba : Nat) (all : Bool)
  /-- ZONE_CLOSE (R191): The Close action closes an open zone. -/
  | zoneClose (cid nsid slba : Nat) (all : Bool)
  /-- ZONE_FINISH (R191): The Finish action makes a zone Full. -/
  | zoneFinish (cid nsid slba : Nat) (all : Bool)
  /-- ZONE_RESET (R201): The Reset action empties a zone at its commit and queues its rows for erase. -/
  | zoneReset (cid nsid slba : Nat) (all : Bool)
  /-- ZONE_OFFLINE (R191): The Offline action takes a Read Only zone Offline and hands its row to media management. -/
  | zoneOffline (cid nsid slba : Nat) (all : Bool)
  /-- ZONE_MANAGEMENT_RECEIVE (R195): Report Zones returns states and write pointers as at its admission. -/
  | zoneManagementReceive (cid nsid slba zra zrasf numd : Nat) (partialReport : Bool)
  /-- IDENTIFY (R188): Identify returns controller and namespace data structures. -/
  | identify (cid nsid cns cntid csi : Nat)
  /-- GET_LOG_PAGE (R154): Get Log Page returns a standard log page, such as SMART or Changed Zone List. -/
  | getLogPage (cid nsid lid numd lpo : Nat) (rae : Bool)
  /-- LOST_STRIPES_LOG (R396): Get Log Page C0h returns the lost-stripe table. -/
  | lostStripesLog (cid numd lpo : Nat)
  /-- TALLY_SNAPSHOT_LOG (R589): Get Log Page C1h returns the latest or a held Tally snapshot. -/
  | tallySnapshotLog (cid lsp lsi numd lpo : Nat)
  /-- EVENT_RECORDER_WINDOW_LOG (R603): Get Log Page C2h returns event records by SEQ to physical functions. -/
  | eventRecorderWindowLog (cid numd lpo : Nat)
  /-- CREATE_IO_SUBMISSION_QUEUE (R116): Create I/O Submission Queue creates an unordered queue within the function's allocation. -/
  | createIoSubmissionQueue (cid qid qsize cqid prio : Nat)
  /-- CREATE_IO_COMPLETION_QUEUE (R116): Create I/O Completion Queue creates a queue within the function's allocation. -/
  | createIoCompletionQueue (cid qid qsize vec : Nat) (ien : Bool)
  /-- DELETE_IO_SUBMISSION_QUEUE (R136): Delete I/O Submission Queue removes the queue and its Ordered attribute. -/
  | deleteIoSubmissionQueue (cid qid : Nat)
  /-- DELETE_IO_COMPLETION_QUEUE (R154): Delete I/O Completion Queue removes the queue. -/
  | deleteIoCompletionQueue (cid qid : Nat)
  /-- SET_FEATURES (R154): Set Features of a standard feature without its own row, such as Arbitration or Temperature Threshold. -/
  | setFeatures (cid fid value : Nat) (sv : Bool) (nsid cdw12 : Nat) (data : List Nat)
  /-- GET_FEATURES (R154): Get Features returns the current value of a standard feature. -/
  | getFeatures (cid fid sel cdw11 nsid : Nat)
  /-- SET_NUMBER_OF_QUEUES (R116): Set Features Number of Queues returns the allocated values whatever is requested. -/
  | setNumberOfQueues (cid nsqr ncqr : Nat)
  /-- SET_POWER_MANAGEMENT (R524): Set Features Power Management records an operational state or requests NAP or SHELF_SLEEP. -/
  | setPowerManagement (cid ps : Nat)
  /-- SET_QUEUE_ORDERING (R134): Set feature C0h sets the Ordered attribute of a submission queue for later tickets. -/
  | setQueueOrdering (cid cdw11 : Nat) (sv : Bool)
  /-- GET_QUEUE_ORDERING (R133): Get feature C0h returns the Ordered attribute of a queue. -/
  | getQueueOrdering (cid cdw11 : Nat)
  /-- SET_FUNCTION_WEIGHTS (R164): Set feature C1h writes the weight and die-time share of a function. -/
  | setFunctionWeights (cid cdw11 cdw12 : Nat)
  /-- GET_FUNCTION_WEIGHTS (R164): Get feature C1h returns the weight and share of a function. -/
  | getFunctionWeights (cid cdw11 cdw12 : Nat)
  /-- SET_TAIL_CLASS (R165): Set feature C2h makes a function tail class or ordinary. -/
  | setTailClass (cid cdw11 : Nat)
  /-- GET_TAIL_CLASS (R164): Get feature C2h returns a function's tail-class membership. -/
  | getTailClass (cid cdw11 : Nat)
  /-- SET_FDP (R208): Set Features FDP enables or disables the FDP configuration when no namespace exists. -/
  | setFdp (cid endgid : Nat) (enable : Bool)
  /-- ABORT (R150): Abort aborts a named command that has not yet been dispatched. -/
  | abort (cid sqid target : Nat)
  /-- ASYNCHRONOUS_EVENT_REQUEST (R507): An Asynchronous Event Request is held and completed with the oldest unmasked pending event. -/
  | asynchronousEventRequest (cid : Nat)
  /-- NAMESPACE_CREATE (R186): Namespace Management create reserves descriptors, rows, limits and keys for a new namespace. -/
  | namespaceCreate (cid : Nat) (spec : NsSpec)
  /-- NAMESPACE_DELETE (R204): Namespace Management delete releases the reservations and queues every held row for erase. -/
  | namespaceDelete (cid nsid : Nat)
  /-- NAMESPACE_ATTACHMENT (R205): Namespace Attachment attaches a namespace to functions, subject to tail separation. -/
  | namespaceAttachment (cid nsid : Nat) (attach : Bool) (ctrls : List Nat)
  /-- FORMAT_NVM (R473): Format NVM formats a namespace, replacing its keys for Secure Erase Settings 0b010. -/
  | formatNvm (cid nsid lbaf ses pi pil : Nat)
  /-- FIRMWARE_IMAGE_DOWNLOAD (R154): Firmware Image Download transfers part of an image. -/
  | firmwareImageDownload (cid numd ofst : Nat) (data : List Nat)
  /-- FIRMWARE_COMMIT (R154): Firmware Commit commits an image to one of 2 slots. -/
  | firmwareCommit (cid slot action : Nat)
  /-- DEVICE_SELF_TEST (R154): Device Self-test runs the firmware's field test flow. -/
  | deviceSelfTest (cid nsid stc : Nat)
  /-- SANITIZE_BLOCK_ERASE (R154): Sanitize with Block Erase erases the media. -/
  | sanitizeBlockErase (cid : Nat)
  /-- SANITIZE_CRYPTO_ERASE (R473): Sanitize with Crypto Erase replaces the keys of every slot in use. -/
  | sanitizeCryptoErase (cid : Nat)
  /-- NVME_MI_SEND (R154): NVMe-MI Send carries a management request in-band. -/
  | nvmeMiSend (cid : Nat) (req : List Nat)
  /-- NVME_MI_RECEIVE (R154): NVMe-MI Receive returns a management response in-band. -/
  | nvmeMiReceive (cid : Nat)
  /-- DICTIONARY_READ (R579): Admin C0h reads a dictionary entry and reports the outcome in Dword 0. -/
  | dictionaryRead (cid index sub len : Nat)
  /-- DICTIONARY_WRITE (R579): Admin C1h writes a dictionary entry and reports the outcome in Dword 0. -/
  | dictionaryWrite (cid index sub type : Nat) (value : DVal)
  /-- HFE_QALLOC_WRITE (R117): A write of HFE_QALLOC is staged for the next CC.EN or ignored with ALLOCERR. -/
  | hfeQallocWrite (master fn value : Nat)
  /-- HFE_CMDLIM_WRITE (R119): A write of a function's command limit is accepted or ignored with ALLOCERR. -/
  | hfeCmdlimWrite (master fn value : Nat)
  /-- ADMIT_EN_SET (R518): Setting HFE_CTRL.ADMIT_EN starts the observation of held doorbell writes. -/
  | admitEnSet (master value : Nat)
  /-- MAILBOX_IN_POST (R177): A host write of IN_POST copies IN_MSG to the manager, or sets IN_OVERRUN. -/
  | mailboxInPost (fn : Nat) (msg : List Nat)
  /-- MAILBOX_OUT_ACK (R178): A host write of OUT_ACK clears OUT_FULL. -/
  | mailboxOutAck (fn vector : Nat)
  /-- MAILBOX_RING_COMMIT (R179): A host write of RING_HI commits the ring base or sets RING_ERR. -/
  | mailboxRingCommit (fn lo hi size : Nat)
  /-- OUT_POST (R178): Firmware posts an outbound message to a function, or the post is rejected. -/
  | outPost (master value : Nat)
  /-- IN_DONE (R178): Firmware marks a function's inbound message as taken. -/
  | inDone (master value : Nat)
  /-- ZPM_SSET_WRITE (R183): A write declaring a stripe set's group and rows is accepted or ignored with ERR. -/
  | zpmSsetWrite (master set value : Nat)
  /-- ZPM_PGRP_WRITE (R183): A write of a placement group's row capacity or TAIL_ONLY is accepted or ignored while reserved. -/
  | zpmPgrpWrite (master group value : Nat)
  /-- DCMD_READ (R202): ZPM_DCMD READ copies a descriptor into ZPM_DWORD. -/
  | dcmdRead (master index : Nat)
  /-- SET_ATTR (R202): ZPM_DCMD SET_ATTR sets FZR and RZR of a zone between two admissions. -/
  | setAttr (master index : Nat)
  /-- READ_ONLY (R202): ZPM_DCMD READ_ONLY makes a zone Read Only between two admissions. -/
  | readOnly (master index : Nat)
  /-- OFFLINE (R202): ZPM_DCMD OFFLINE takes a zone Offline and hands its row to media management. -/
  | offline (master index : Nat)
  /-- SET_FWTAG (R202): ZPM_DCMD SET_FWTAG writes a descriptor's firmware tag. -/
  | setFwtag (master index : Nat)
  /-- CKPT_NOW (R214): Firmware starts a zone-table checkpoint. -/
  | ckptNow (master value : Nat)
  /-- ZONE_CHECKPOINT_END (R214): A checkpoint's pages and header are written and older journal records are discarded. -/
  | zoneCheckpointEnd (badPages : List Nat)
  /-- LAYOUT (R222): A write of MED_CTRL.LAYOUT = 1 closes the unit layout or sets LAYERR. -/
  | layout (master value : Nat)
  /-- UCMD_READ (R221): MED_UCMD READ copies a unit record into MED_UDATA. -/
  | ucmdRead (master value : Nat)
  /-- UCMD_SET (R221): MED_UCMD SET sets a unit's STATE while the layout is open. -/
  | ucmdSet (master value : Nat)
  /-- MAPFLUSH (R232): Firmware starts a map flush. -/
  | mapflush (master value : Nat)
  /-- MAP_FLUSH_END (R232): A map flush has written its dirty pages and the journal records before it are discarded. -/
  | mapFlushEnd
  /-- KILN_EN (R250): A write of KILN_EN = 1 starts the Kiln, or is ignored when a selected recipe is invalid. -/
  | kilnEn (master value : Nat)
  /-- RECIPE_STEP_WRITE (R250): A write of MED_RCPDATA stores a Kiln recipe step, ignored while KILN_EN is 1. -/
  | recipeStepWrite (master value : Nat)
  /-- MIGRATE (R258): MED_MIGR OP = 0x1 migrates a zone or reclaim unit, or sets MERR. -/
  | migrate (master value : Nat)
  /-- HEALTH_WRITE (R261): Every 64 frames the health entries are written to the system area. -/
  | healthWrite
  /-- PWR_ON (R279): FCH_GCTRL PWR_ON makes an OFF group join the next power-up sequence. -/
  | pwrOn (master group : Nat)
  /-- PWR_OFF (R279): FCH_GCTRL PWR_OFF powers a group off, or is ignored with ERR. -/
  | pwrOff (master group : Nat)
  /-- GROUP_READY (R279): FCH_GCTRL READY makes an UNTRAINED group READY when every die is calibrated. -/
  | groupReady (master group : Nat)
  /-- RAMP_WAIT_END (R279): The group's ramp wait ends, the band is checked and populated dies are reset. -/
  | rampWaitEnd (group band : Nat) (onfi jedec : Bool)
  /-- GROUP_DIE_RESET_TIMEOUT (R279): A populated die is not ready 20 ms after its Reset and the group goes to FAULT. -/
  | groupDieResetTimeout (group : Nat)
  /-- VCCQ_UNDERVOLTAGE (R643): VCCQ[g] stays below its threshold for 2 µs and the group aborts its work and goes to FAULT. -/
  | vccqUndervoltage (group : Nat)
  /-- TIMING_SET_WRITE (R276): A write of a timing-set word is accepted under the group's state rules or ignored with ERR. -/
  | timingSetWrite (master group set word value : Nat)
  /-- FENCE_SET (R285): A fence bit is set and every descriptor in progress on the die ends FENCED. -/
  | fenceSet (master group index value : Nat)
  /-- CALIBRATION_ENTRY_WRITE (R290): Firmware writes a calibration entry in UNTRAINED, or the write is ignored. -/
  | calibrationEntryWrite (master group chan die word value : Nat)
  /-- DESCRIPTOR_SUBMIT (R297): A firmware write of DRF_SUBMIT copies a descriptor image into a class ring, or sets OVF. -/
  | descriptorSubmit (master engine value : Nat)
  /-- HW_DESCRIPTOR_SUBMIT (R298): A hardware owner submits a descriptor through the internal port, waiting while the queue is full. -/
  | hwDescriptorSubmit (engine : Nat)
  /-- MEDIA_READ (R307): A READ descriptor starts after its checks, or a non-TAIL read completes DIE_BUSY. -/
  | mediaRead (engine cls : Nat)
  /-- PROG (R312): A PROG descriptor starts an SLC program after its checks and transfers its data. -/
  | prog (engine cls : Nat)
  /-- PROG_PASS (R312): A PROG_PASS descriptor starts a QLC program pass after its checks. -/
  | progPass (engine cls : Nat)
  /-- ERASE (R312): An ERASE descriptor issues the erase and confirm after its checks. -/
  | erase (engine cls : Nat)
  /-- DIE_RESET (R302): A RESET descriptor resets a die. -/
  | dieReset (engine : Nat)
  /-- SETFEAT (R302): A SETFEAT descriptor sets a die feature. -/
  | setfeat (engine : Nat)
  /-- GETFEAT (R302): A GETFEAT descriptor reads a die feature into a tub. -/
  | getfeat (engine : Nat) (value : Nat)
  /-- READID (R302): A READID descriptor reads ID bytes into the chain. -/
  | readid (engine : Nat) (bytes : List Nat)
  /-- TRAIN (R287): A TRAIN descriptor checks preconditions and runs a calibration of one kind. -/
  | train (engine : Nat) (eye : Nat) (codes : List Nat) (ready : Bool)
  /-- LIB (R324): A LIB descriptor runs a library routine by number. -/
  | lib (engine cls : Nat)
  /-- RUN (R323): A RUN descriptor runs code from the engine's program store. -/
  | run (engine cls : Nat)
  /-- LOADED_CONFIRM (R312): The second slot and budget check passes and the held confirm is issued. -/
  | loadedConfirm (engine die : Nat)
  /-- STATUS_POLL (R335): A due status poll reads a die's status and a ready status ends the operation. -/
  | statusPoll (engine die status failPlanes : Nat) (suspended : Bool)
  /-- TAIL_SUSPEND (R315): An eligible TAIL read suspends the program or erase on its die. -/
  | tailSuspend (engine die : Nat)
  /-- SUSPEND_TIMEOUT (R314): A die not suspended within 2 × t_sus returns to ACTIVE with no suspends left. -/
  | suspendTimeout (engine die : Nat)
  /-- DIE_WAIT_TIMEOUT (R317): A wait for ready status passes its limit, the die is reset and the descriptor completes TIMEOUT. -/
  | dieWaitTimeout (engine die : Nat) (resetOk : Bool)
  /-- DESCRIPTOR_MAXWAIT_EXPIRE (R313): A descriptor held by slot or budget past MAXWAIT frames completes DEFERRED_BUDGET. -/
  | descriptorMaxwaitExpire (engine cls die : Nat)
  /-- CQ_HEAD_ADVANCE (R300): Firmware advances DRF_CQPTR.HEAD and held completion records are written. -/
  | cqHeadAdvance (master engine value : Nat)
  /-- ENGINE_RUN (R318): A write of RUN = 1 starts a STOPPED engine, or sets ERR in HALTED or FENCED. -/
  | engineRun (master engine : Nat)
  /-- ENGINE_STOP (R318): A write of RUN = 0 stops the engine starting descriptors. -/
  | engineStop (master engine : Nat)
  /-- ENGINE_RESET (R318): DRF_CTRL RESET aborts every descriptor, resets busy dies and leaves the engine STOPPED. -/
  | engineReset (master engine : Nat)
  /-- DESCRIPTOR_WITHDRAW (R319): An owner withdraws a descriptor that has not started, which completes ABORTED 0xFFFC. -/
  | descriptorWithdraw (engine cls index : Nat)
  /-- ENGINE_CONFIG_WRITE (R320): A write of DRF_QBASE, DRF_QCFG, DRF_CQBASE or DRF_GEOM takes effect only while STOPPED and empty. -/
  | engineConfigWrite (master engine offset value : Nat)
  /-- CMD (R334): The CMD instruction issues one command cycle, checked under slot and budget rules for confirms. -/
  | cmd (engine ctx sched : Nat) (imm : Bool) (rb byte : Nat)
  /-- ADDR (R333): The ADDR instruction issues N address cycles. -/
  | addr (engine ctx rb ra n : Nat)
  /-- DOUT (R333): The DOUT instruction sends bytes or encoded codewords to the die. -/
  | dout (engine ctx rb ra src n : Nat)
  /-- DIN (R333): The DIN instruction receives bytes or codewords through the decoder. -/
  | din (engine ctx rd ra dst n : Nat) (bytes : List Nat)
  /-- WAITST (R335): The WAITST instruction reads a status byte and continues or gives up the engine. -/
  | waitst (engine ctx rd ra mask value status : Nat)
  /-- WAIT (R338): The WAIT instruction holds the bus for cycles or gives up the engine for microseconds. -/
  | wait (engine ctx : Nat) (u : Bool) (count : Nat)
  /-- SETT (R337): The SETT instruction sets the target die. -/
  | sett (engine ctx : Nat) (imm : Bool) (rb : Nat) (nv : Bool) (die : Nat)
  /-- FCHK (R336): The FCHK instruction tests the target die's fence and epoch. -/
  | fchk (engine ctx : Nat) (m : Bool)
  /-- YIELD (R338): The YIELD instruction gives up the engine and bus for one round. -/
  | yield (engine ctx : Nat)
  /-- DONE (R339): The DONE instruction completes the descriptor with a status and DETAIL. -/
  | done (engine ctx rd status : Nat)
  /-- LDI (R331): The LDI instruction loads an immediate. -/
  | ldi (engine ctx rd : Nat) (h : Bool) (value : Nat)
  /-- LDD (R331): The LDD instruction loads a local-memory word. -/
  | ldd (engine ctx rd ra offset : Nat)
  /-- STD (R331): The STD instruction stores a local-memory word. -/
  | std (engine ctx rs ra offset : Nat)
  /-- ADD (R331): The ADD instruction adds modulo 2^32. -/
  | add (engine ctx rd ra : Nat) (imm : Bool) (b : Nat)
  /-- AND (R331): The AND instruction. -/
  | and (engine ctx rd ra : Nat) (imm : Bool) (b : Nat)
  /-- OR (R331): The OR instruction. -/
  | or (engine ctx rd ra : Nat) (imm : Bool) (b : Nat)
  /-- XOR (R331): The XOR instruction. -/
  | xor (engine ctx rd ra : Nat) (imm : Bool) (b : Nat)
  /-- SHL (R331): The SHL instruction shifts left. -/
  | shl (engine ctx rd ra : Nat) (imm : Bool) (b : Nat)
  /-- SHR (R331): The SHR instruction shifts logically right. -/
  | shr (engine ctx rd ra : Nat) (imm : Bool) (b : Nat)
  /-- BR (R332): The BR instruction branches on a condition, waiting for decodes for decode conditions. -/
  | br (engine ctx cond ra target : Nat)
  /-- CALL (R331): The CALL instruction pushes the return index and jumps. -/
  | call (engine ctx target : Nat)
  /-- RET (R331): The RET instruction pops and returns. -/
  | ret (engine ctx : Nat)
  /-- PROGRAM_STORE_WRITE (R343): A write of DRF_PSDATA stores a word and increments INDEX while STOPPED or HALTED. -/
  | programStoreWrite (master engine value : Nat)
  /-- PROGRAM_STORE_READ (R343): A read of DRF_PSDATA returns a word and increments INDEX. -/
  | programStoreRead (master engine : Nat)
  /-- LOCAL_MEMORY_WINDOW_ACCESS (R345): An access of DRF_LMDATA reads or writes local memory and increments ADDR. -/
  | localMemoryWindowAccess (master engine : Nat) (write : Option Nat)
  /-- CODEWORD_DECODE_END (R354): A decode ends and the codeword is delivered, escalated, reconstructed or reported. -/
  | codewordDecodeEnd (engine ctx cw : Nat) (outcome : Decode)
  /-- CAND_POP (R360): A normal-alias read of ECC_CAND_LO removes the oldest candidate entry. -/
  | candPop (master : Nat)
  /-- DCLR (R361): ECC_CTRL DCLR clears every per-die ECC counter. -/
  | dclr (master : Nat)
  /-- ECC_PROFILE_WRITE (R350): A write of ECC_PROF is accepted only while every engine is STOPPED. -/
  | eccProfileWrite (master n value : Nat)
  /-- MSH_SSET_WRITE (R373): A write of MSH_SSET VALID makes a stripe set's dies MEMBER or returns them UNUSED. -/
  | mshSsetWrite (master set value : Nat)
  /-- POSITION_WRITE (R373): A write of MSH_PDATA declares a position's die while the set is not VALID. -/
  | positionWrite (master value : Nat)
  /-- MASH_RECIPE_WRITE (R376): A write of MSH_RCPDATA stores a recipe word unless a VALID set uses the recipe. -/
  | mashRecipeWrite (master value : Nat)
  /-- FAIL (R386): MSH_DCMD FAIL declares a die failed, fences it and seeks a spare. -/
  | fail (master die : Nat)
  /-- ASSIGN (R387): MSH_DCMD ASSIGN puts a SPARE die in a vacant position to rebuild. -/
  | assign (master die : Nat)
  /-- READMIT (R383): MSH_DCMD READMIT unfences a RETURNING die and starts its self-test. -/
  | readmit (master die : Nat)
  /-- RETIRE (R383): MSH_DCMD RETIRE retires a die. -/
  | retire (master die : Nat)
  /-- DIE_STATE_READ (R383): MSH_DCMD READ copies a die's membership state into MSH_DSTATE. -/
  | dieStateRead (master die : Nat)
  /-- DIE_PROBE (R388): Every probe interval each FAILED die is reset and identified, and returns when it answers. -/
  | dieProbe (answers : List Nat)
  /-- DIE_SELF_TEST_END (R389): A returning die's self-test ends, making it SPARE or RETIRED. -/
  | dieSelfTestEnd (die : Nat) (patternOk : Bool) (erased : Nat) (failed : List Nat)
  /-- REBUILD_ROW_TAKE (R392): A rebuilt row is taken for a position and its rebuild pointer advances. -/
  | rebuildRowTake (set pos row : Nat) (lost : List (Nat × Nat))
  /-- RESHAPE_START (R397): MSH_RSHP GO starts a reshape from group A to group B, or sets ERR. -/
  | reshapeStart (master value : Nat)
  /-- RESHAPE_COPY_SWITCH (R398): A zone's copy into group B completes and its rows are switched in one step. -/
  | reshapeCopySwitch (index : Nat)
  /-- PATROL_READ (R400): The patrol issues its paced reads and compares each stripe's parity. -/
  | patrolRead (set row : Nat) (mismatch : Option (Nat × Option Nat)) (last : Bool)
  /-- MAIN_SENSE_LOW (R411): A MAIN_SENSE sample below the loss threshold starts the loss timer. -/
  | mainSenseLow (mv : Nat)
  /-- LOSS_DEBOUNCE_EXPIRE (R411): The loss timer reaches the debounce time and main loss is debounced. -/
  | lossDebounceExpire
  /-- LOSS_TIMER_CLEAR (R411): MAIN_SENSE stays good for the recover time and the loss timer clears, a ride-through. -/
  | lossTimerClear (mv : Nat)
  /-- GOOD_DEBOUNCE_EXPIRE (R415): Main stays good for the good debounce and INIT moves to CHARGING. -/
  | goodDebounceExpire
  /-- HU_SENSE_CROSSING (R412): HU_SENSE crosses the arm, disarm or over-voltage threshold and charging follows. -/
  | huSenseCrossing (mv : Nat)
  /-- CHECK_NOW (R413): Firmware requests a store check. -/
  | checkNow (master value : Nat)
  /-- STORE_CHECK_END (R413): A store check ends and its energy estimate passes or fails. -/
  | storeCheckEnd (chargeUas dropMv : Nat)
  /-- STORE_CHECK_INTERVAL (R413): The store check interval passes while ARMED and a check starts. -/
  | storeCheckInterval
  /-- DRAIN (R415): HLD_CTRL DRAIN takes ARMED to DRAINING. -/
  | drain (master value : Nat)
  /-- HOLDUP_ENABLE_WRITE (R414): A write of HLD_CTRL.EN enables arming, or with 0 ends ARMED for DRAINING. -/
  | holdupEnableWrite (master value : Nat)
  /-- HOLDUP_ARM (R415): All arm conditions are met and the hold-up state becomes ARMED. -/
  | holdupArm
  /-- DRAIN_COMPLETE (R416): No protected-only data remains and a checkpoint and map flush have completed. -/
  | drainComplete
  /-- DUMP_END (R415): Every dump program has ended, trailers are written and the rails go down to DONE. -/
  | dumpEnd
  /-- DONE_RESTART (R415): In DONE main is good for the good debounce and a cold start begins. -/
  | doneRestart
  /-- BANK_ASSIGN_WRITE (R436): A write of MEM_BANKASN sets a bank's owner while LOCK is 0. -/
  | bankAssignWrite (master bank value : Nat)
  /-- LOCK (R436): A write of MEM_CTRL.LOCK = 1 locks the bank allocation or sets LOCKERR. -/
  | lock (master value : Nat)
  /-- CCLR (R442): MEM_CTRL CCLR clears every conflict counter. -/
  | cclr (master : Nat)
  /-- ROW_RETIRE (R449): MEM_RETIRE GO copies an SRAM row to a spare and redirects it. -/
  | rowRetire (master value : Nat)
  /-- SCRUB_READ (R611): The scrubber reads SRAM words at low priority over its pass interval. -/
  | scrubRead (addr badBytes : Nat)
  /-- TUB_ENABLE (R455): A write of TUB_CTRL.EN = 1 frees every header when the reservations are valid. -/
  | tubEnable (master value : Nat)
  /-- ALLOC (R456): A tub ALLOC request builds a new chain or waits in the shared queue. -/
  | alloc (tag : Nat) (prot : Bool) (n : Nat)
  /-- APPEND (R456): A tub APPEND request links new tubs after an owned last tub or waits. -/
  | append (tag : Nat) (prot : Bool) (n tub : Nat)
  /-- TUB_GRANT (R457): A waiting tub request is granted once tubs are released. -/
  | tubGrant (prot : Bool)
  /-- FREE (R460): A tub FREE releases a chain from its head. -/
  | free (tag tub : Nat)
  /-- TRIM (R460): A tub TRIM releases every tub after the given one. -/
  | trim (tag tub : Nat)
  /-- TUB_WINDOW_WRITE (R461): A core writes an owned tub's header bits or payload through its window. -/
  | tubWindowWrite (master offset value : Nat)
  /-- GCM_TAIL_WRITE (R476): Firmware advances CIP_GTAIL and the engine takes new jobs in ring order. -/
  | gcmTailWrite (master value : Nat)
  /-- ENCRYPT (R478): A GCM ENCRYPT job generates an IV, encrypts, checks inversely and writes the result. -/
  | encrypt (check : GcmCheck)
  /-- DECRYPT (R480): A GCM DECRYPT job verifies the tag before releasing plaintext. -/
  | decrypt (check : GcmCheck)
  /-- REKEY (R481): CIP_REKEY GO binds a new generation key to a firmware context. -/
  | rekey (master value : Nat)
  /-- RNG_READ (R485): A normal-alias read of CIP_RNG returns 32 fresh bits from DRBG instance 1. -/
  | rngRead (master : Nat)
  /-- DRBG_HEALTH_FAIL (R485): A noise source fails a health test and its DRBG instance stops. -/
  | drbgHealthFail (inst : Nat)
  /-- FORCE (R494): CIP_LEASE FORCE gates a block now, leased or not. -/
  | force (master value : Nat)
  /-- VAON_POWER_ON (R516): VAON comes within limits and the Lamp island leaves reset to wait for main good. -/
  | vaonPowerOn
  /-- PGOOD_RISE (R514): A PGOOD input rises and the next enable follows 1 ms later, the dies leaving reset after the last. -/
  | pgoodRise (rail : Nat)
  /-- PGOOD_TIMEOUT (R515): A PGOOD input is not high 10 ms after its enable and every enable is dropped. -/
  | pgoodTimeout (rail : Nat)
  /-- SUPPLY_RETRY (R515): One second after a supply failure the Lamp island retries the sequence. -/
  | supplyRetry
  /-- SRAM_CLEAR_END (R451): Clearing of SRAM after VDD_SRAM rises ends and masters leave reset. -/
  | sramClearEnd
  /-- BOOT_IMAGE_LOAD (R509): The secure ROM reads and verifies image sources in order and takes the first that passes. -/
  | bootImageLoad (xspi0 xspi1 slcA slcB : Source)
  /-- CONFIG_RECORD_LOAD (R557): The configuration record is loaded, key slots are loaded, groups reconciled and L0 released. -/
  | configRecordLoad
  /-- METADATA_LOAD (R516): Once LOCK is set and groups 1 and 2 are READY, the unit table, membership record and health values load. -/
  | metadataLoad
  /-- DUMP_LOAD (R428): With the dump groups READY, a valid dump is found and loaded into the protected class. -/
  | dumpLoad (crcOk : Bool)
  /-- ZONE_TABLE_RELOAD (R215): The zone table is reloaded from the checkpoint and journal. -/
  | zoneTableReload
  /-- DUMP_APPLICATION (R428): Replayed pieces become locations of record and the replayed generation is recorded. -/
  | dumpApplication
  /-- CORE_RUN (R499): A write of a RUN bit starts a logical core at SYS_BOOTADDR. -/
  | coreRun (master value : Nat)
  /-- CORE_RESET (R500): SYS_CORECTL CRESET resets a logical core and releases its unprotected tubs. -/
  | coreReset (master value : Nat)
  /-- RESTART (R520): SYS_RSTCTL RESTART drops the enables and restarts from step 3, accepted only in INIT or CHARGING. -/
  | restart (master value : Nat)
  /-- EVENT_CLAIM (R503): A read of EVT_CLAIM by its target returns and clears the lowest pending source. -/
  | eventClaim (master target : Nat)
  /-- SOFTWARE_TRIGGER (R506): EVT_SWTRIG asserts a software source 480 to 511 once. -/
  | softwareTrigger (master value : Nat)
  /-- ASYNC_EVENT_RAISE (R507): Firmware raises an NVMe asynchronous event through EVT_AEN. -/
  | asyncEventRaise (master value : Nat)
  /-- POWER_REQUEST (R524): PWR_REQ GO requests NAP, SHELF_SLEEP or DEEP_OFF, or withdraws the request. -/
  | powerRequest (master value : Nat)
  /-- DOMAIN_GATE (R535): PWR_DOMREQ gate gates one domain, refused when leased. -/
  | domainGate (master domain : Nat)
  /-- DOMAIN_POWER_DOWN (R535): PWR_DOMREQ power down removes one domain, refused when leased or busy. -/
  | domainPowerDown (master domain : Nat)
  /-- DOMAIN_POWER_ON (R535): PWR_DOMREQ power on restores one domain. -/
  | domainPowerOn (master domain : Nat)
  /-- DOMAIN_ANSWER (R527): A domain answers ACK, DELAY or REFUSE to an entry handshake. -/
  | domainAnswer (domain : Nat) (answer : Answer)
  /-- DOMAIN_DELAY_TIMEOUT (R527): A domain still delaying at its bound counts as a refusal with code TIMEOUT. -/
  | domainDelayTimeout (domain : Nat)
  /-- ENTRY_COMPLETE (R530): Gating and power-down end and the device enters the target state, waking at once when pending. -/
  | entryComplete
  /-- IDLE_ENTRY (R525): No work has run for the IDLE entry time and the device enters IDLE. -/
  | idleEntry
  /-- MAIN_WAKE (R537): MAIN_SENSE returns good after a fall and wakes the device. -/
  | mainWake
  /-- RTC_ALARM (R537): The RTC reaches AON_ALARM and wakes the device. -/
  | rtcAlarm
  /-- GPIO_WAKE (R537): A high level on GPIO[15:12] wakes the device. -/
  | gpioWake (pin : Nat)
  /-- ESNEX_WAKE_FRAME (R537): An Esnex write of 0 to 0x2102:00 in SHELF_SLEEP wakes the device. -/
  | esnexWakeFrame
  /-- THERMAL_SHUTDOWN (R546): A sensor reads at or above 110 °C at 3 samples and the device shuts down after any dump. -/
  | thermalShutdown
  /-- THERMAL_RESTART (R547): Sensor 15 stays below 90 °C for 60 s and the device restarts from step 2. -/
  | thermalRestart
  /-- SUSPCLR (R541): THM_CTRL SUSPCLR clears every sensor suspect mark. -/
  | suspclr (master : Nat)
  /-- MGT_READ (R560): A firmware read request through MGT_FREQ reads an entry into MGT_FDATA. -/
  | mgtRead (master value : Nat)
  /-- MGT_WRITE (R560): A firmware write request through MGT_FREQ writes an entry from MGT_FDATA. -/
  | mgtWrite (master value : Nat)
  /-- FRAME_REJECT (R566): A received frame not addressed to the node, of another EtherType or with a bad FCS is discarded. -/
  | frameReject (toUs etherOk lengthOk fcsOk : Bool)
  /-- ESNEX_READ (R568): An Esnex READ returns an entry's value. -/
  | esnexRead (h : Esnex) (index sub : Nat)
  /-- ESNEX_WRITE (R568): An Esnex WRITE writes an entry. -/
  | esnexWrite (h : Esnex) (index sub type : Nat) (value : DVal)
  /-- READ_BLOCK (R569): An Esnex READ_BLOCK returns a segment of an STR or BLOB entry. -/
  | readBlock (h : Esnex) (index sub offset count : Nat)
  /-- WRITE_BLOCK (R569): An Esnex WRITE_BLOCK stages a segment and commits the value when complete. -/
  | writeBlock (h : Esnex) (index sub offset total : Nat) (data : List Nat)
  /-- NOTIFY (R573): A received NOTIFY from node 0 with code 0x01 is a Bell-frame notice; others are discarded. -/
  | notify (h : Esnex) (code : Nat)
  /-- SNAPSHOT (R568): An Esnex SNAPSHOT requests a Tally snapshot at the next frame mark. -/
  | snapshot (h : Esnex)
  /-- SESSION_OPEN (R574): SESSION_OPEN derives a session key in the secure domain and binds it to a context. -/
  | sessionOpen (h : Esnex) (cred : Nat) (np : Nat)
  /-- SESSION_CLOSE (R576): SESSION_CLOSE closes an authenticated session. -/
  | sessionClose (h : Esnex)
  /-- CONFIG_RECORD_WRITE_DONE (R556): A configuration record write reaches both copies and the waiting RWP writes are answered. -/
  | configRecordWriteDone
  /-- CONFIG_COPY_TIMEOUT (R556): A copy program fails or cannot start within 64 frames and persistence fails with 0x0402. -/
  | configCopyTimeout (copyB : Bool)
  /-- STAGING_EXPIRE (R569): A WRITE_BLOCK staging without a segment for 32 frames is discarded. -/
  | stagingExpire (key : Nat)
  /-- SESSION_IDLE_EXPIRE (R576): A session without an accepted request for the idle limit closes. -/
  | sessionIdleExpire (session : Nat)
  /-- NETWORK_DOWN_TIMEOUT (R565): 4 ms pass without a PLCA beacon and the network is declared down. -/
  | networkDownTimeout
  /-- MCTP_MESSAGE (R580): An MCTP message arrives over SMBus, I3C or PCIe VDM and is handled. -/
  | mctpMessage (medium : MctpMedium) (micOk : Bool) (body : MctpBody)
  /-- READ_NVME_MI_DATA_STRUCTURE (R581): The NVMe-MI command returns an NVMe-MI data structure. -/
  | readNvmeMiDataStructure (dtyp : Nat)
  /-- NVM_SUBSYSTEM_HEALTH_STATUS_POLL (R581): The NVMe-MI command returns subsystem health. -/
  | nvmSubsystemHealthStatusPoll
  /-- CONTROLLER_HEALTH_STATUS_POLL (R581): The NVMe-MI command returns controller health. -/
  | controllerHealthStatusPoll (fn : Nat)
  /-- CONFIGURATION_GET (R581): The NVMe-MI command reads SMBus frequency or MCTP unit size. -/
  | configurationGet (cfgId : Nat)
  /-- CONFIGURATION_SET (R581): The NVMe-MI command sets SMBus frequency or MCTP unit size. -/
  | configurationSet (cfgId value : Nat)
  /-- VPD_READ (R581): The NVMe-MI command reads the vital product data of 0x1010:00. -/
  | vpdRead (offset len : Nat)
  /-- VPD_WRITE (R581): The NVMe-MI command writes the vital product data of 0x1010:00. -/
  | vpdWrite (offset : Nat) (data : List Nat)
  /-- NVME_ADMIN_COMMAND (R580): The NVMe-MI NVMe Admin Command carries an admin command to physical function 0. -/
  | nvmeAdminCommand (sqe : Sqe) (data : List Nat)
  /-- SNAP (R585): TLY_CTRL SNAP requests a snapshot at the next frame start. -/
  | snap (master value : Nat)
  /-- TALLY_VALUE_READ (R590): A normal-alias read of TLY_VAL_LO returns a counter and latches its high half and epoch. -/
  | tallyValueRead (master : Nat)
  /-- SOFT_TRIGGER (R591): EVR_TRIG GO fires every SOFT trigger whose ARG equals VALUE. -/
  | softTrigger (master value : Nat)
  /-- RECORDER_FLUSH (R597): Firmware writes EVR_CTRL FLUSH to flush unflushed records. -/
  | recorderFlush (master value : Nat)
  /-- RECORDER_FLUSH_TIMER (R597): 64 frames pass since the last flush and a flush starts. -/
  | recorderFlushTimer
  /-- RECORD_FETCH (R601): A write of EVR_CUR_HI commits the cursor and fetches that record. -/
  | recordFetch (master value : Nat)
  /-- RECORD_FETCH_DONE (R601): A fetched record arrives from ring or flash and the window state is set. -/
  | recordFetchDone (crcOk : Bool)
  /-- STEP (R601): EVR_CTRL STEP moves the cursor to the next held SEQ and fetches it. -/
  | step (master value : Nat)
  /-- CLRLAST (R602): EVR_CTRL CLRLAST erases every last-area unit. -/
  | clrlast (master value : Nat)
  /-- KICK (R610): A processor writes KICK to its own watchdog and restarts its timer. -/
  | kick (master processor value : Nat)
  /-- WATCHDOG_EXPIRE (R610): A watchdog reaches its timeout and an error of type 0x03, 0x04 or 0x13 is detected. -/
  | watchdogExpire (processor : Nat)
  /-- HEARTBEAT_MISSING (R609): A unit's heartbeat is missing at 4 consecutive boundaries, error type 0x0D. -/
  | heartbeatMissing (unit : Nat)
  /-- LOCKSTEP_MISMATCH (R498): A lockstep pair's outputs differ and the error is handled by its severity. -/
  | lockstepMismatch (core : Nat)
  /-- SUPPLY_MONITOR_TRIP (R607): A supply monitor trips and the device powers off under severity 4. -/
  | supplyMonitorTrip (monitor : Nat)
  /-- REFERENCE_CLOCK_LOST (R607): The reference clock monitor detects loss and a safe reset follows. -/
  | referenceClockLost
  /-- PERIODIC_SELF_TEST (R607): A safety mechanism's periodic self-test runs at its interval. -/
  | periodicSelfTest (mechanism : Nat) (pass : Bool)
  /-- SELF_TEST_VERDICT (R615): A targeted self-test ends and its verdict is recorded as transient or lasting. -/
  | selfTestVerdict (type unit : Nat) (pass : Bool)
  /-- LOOPBACK_START (R622): TST_LBCTL GO starts a loopback in a slot or refuses it. -/
  | loopbackStart (master slot value : Nat)
  /-- LOOPBACK_STOP (R623): TST_LBCTL STOP ends a running loopback. -/
  | loopbackStop (master slot value : Nat) (bits errors lanes : Nat)
  /-- LOOPBACK_DURATION_END (R622): A loopback's duration passes and it ends done. -/
  | loopbackDurationEnd (slot bits errors lanes : Nat)
  /-- BIST_START (R630): TST_BIST GO runs MBIST or LBIST on a target or refuses it. -/
  | bistStart (master value : Nat)
  /-- BIST_DONE (R630): A BIST ends and its result is reported in TST_BISTRES. -/
  | bistDone (nfail first : Nat)
  /-- DEBUG_UNLOCK_REQUEST (R635): TST_DBG REQ asks the secure domain to verify a debug unlock. -/
  | debugUnlockRequest (master value : Nat)
  /-- DEBUG_UNLOCK_VERDICT (R635): The secure domain grants the level or counts a failure and replaces the challenge. -/
  | debugUnlockVerdict (keyHashOk signatureOk : Bool)
  /-- IDCODE (R631): The IDCODE instruction selects the identification register. -/
  | idcode
  /-- SAMPLE_PRELOAD (R631): The SAMPLE/PRELOAD instruction samples and preloads the boundary register. -/
  | samplePreload (cells : List Nat)
  /-- EXTEST (R632): The EXTEST instruction drives the boundary cells, or acts as BYPASS when not allowed. -/
  | extest
  /-- HIGHZ (R632): The HIGHZ instruction floats the outputs, or acts as BYPASS. -/
  | highz
  /-- CLAMP (R632): The CLAMP instruction clamps the outputs, or acts as BYPASS. -/
  | clamp
  /-- EXTEST_PULSE (R632): The IEEE 1149.6 EXTEST_PULSE instruction, or BYPASS. -/
  | extestPulse
  /-- EXTEST_TRAIN (R632): The IEEE 1149.6 EXTEST_TRAIN instruction, or BYPASS. -/
  | extestTrain
  /-- DTMCS (R633): The RISC-V dtmcs instruction accesses debug transport control. -/
  | dtmcs (dmiReset : Bool)
  /-- DMI (R634): The RISC-V dmi instruction accesses the debug module within the access of Table 21.4. -/
  | dmi (op address data : Nat)
  /-- BYPASS (R631): The BYPASS instruction, also taken by every unlisted opcode. -/
  | bypass (opcode : Nat)
  /-- DEBUG_HALT (R633): The debug module halts a hart, stopping both cores of the pair and its watchdog. -/
  | debugHalt (hart : Nat)
  /-- VAON_LOSS (R539): VAON is lost, so the retention words, RTC and Lamp island state are lost and the next start uses the defaults of R75 and R564. -/
  | vaonLoss
  /-- LAMP_CRYSTAL_STABLE (R516): The 32.768 kHz crystal becomes stable and the Lamp island switches from its internal oscillator, setting SYS_CLKSTAT.LAMPXTAL. -/
  | lampCrystalStable
  /-- LINK_UP (R107): Link training of a port ends in L0 with the data link layer up, setting LINKUP, RATE, WIDTH and FLIT in PCI_LSTAT. -/
  | linkUp (port rate width : Nat) (flit : Bool)
  /-- RECOVERY_ENTRY (R156): A port enters Recovery from L0 or L0p, incrementing PCI_ERRCNT.RECOV and raising event 194 or 195. -/
  | recoveryEntry (port : Nat)
  /-- LINK_L1_ENTRY (R95): A port enters ASPM L1 or one of its substates, as the host's enable bits allow. -/
  | linkL1Entry (port substate : Nat)
  /-- LINK_L1_EXIT (R95): A port leaves L1 or an L1 substate for L0, driving CLKREQp_N within T_POWER_ON. -/
  | linkL1Exit (port : Nat)
  /-- LINK_L2_ENTRY (R529): After PME_Turn_Off the port enters L2, which lets domains 10 and 11 acknowledge an entry to SHELF_SLEEP or DEEP_OFF. -/
  | linkL2Entry (port : Nat)
  /-- RUN_TIME_LIMIT_EXPIRE (R327): A LIB or RUN descriptor runs longer than four times its time limit, completes TIMEOUT and its die is reset as R317 gives. -/
  | runTimeLimitExpire (engine ctx : Nat) (resetOk : Bool)
  deriving DecidableEq, Repr

end Sys2Proof
end

