-- ==== Sys2Proof/Config.lean ====
section
/-! DEFINITION. Config.lean: the free values of the model: constants with no body, so that no proof can see what they are
(log entry 11). -/

namespace Sys2Proof.Config

/-- A 32-bit value the spec leaves open, by the model's own counter. -/
opaque freeWord : Nat → BitVec 32

/-- A 4 KiB block content the spec leaves open (an undefined unit, a failed program), by the model's own counter. -/
opaque freeBlock : Nat → BitVec 32768

/-- What draw `k` of DRBG instance `i` delivers (R484, R485). -/
opaque draw : Nat → Nat → BitVec 256

/-- AES-256-XTS of one 4,128-byte data unit (R347, R469): key identity, data unit number, plaintext. The algorithm is not in
the spec's text. -/
opaque xts : Nat → Nat → BitVec 33024 → BitVec 33024

/-- Byte `j` of the key stream of AES-256-GCM (R477): key identity, IV. The algorithm is not in the spec's text. -/
opaque gcmStream : Nat → Nat → Nat → BitVec 8

/-- The 128-bit tag of AES-256-GCM (R477): key identity, IV, additional data, ciphertext. -/
opaque gcmTag : Nat → Nat → List Nat → List Nat → BitVec 128

/-- The session key the KDF of R574 derives from a credential, the two nonces and the context. AES-256-CMAC is not in the
spec's text. -/
opaque sessionKey : List Nat → Nat → Nat → Nat → BitVec 256

/-- The vendor identifier PCI-SIG has assigned (R98); the spec does not state it. -/
opaque vendorId : BitVec 16

/-- The bits of NVMe register CAP of which chapter 04 gives no value. -/
opaque capRest : BitVec 64

/-- What the Commands Supported and Effects and Feature Identifiers Supported and Effects logs say of an entry beyond R155. -/
opaque effects : Nat → BitVec 32

/-- A word of a function's controller registers or of a TLP's header of which no chapter gives a value: its offset, and the model's
own counter. -/
opaque bar0Word : Nat → Nat → BitVec 32

/-- The serial number set at manufacture (R562); the spec does not state it. -/
opaque serialNumber : List (BitVec 8)

end Sys2Proof.Config
end

