-- ==== Sys2Proof/Machine/DictTable.lean ====
section
/-! DEFINITION. Machine/DictTable.lean: the entries of the object dictionary, as Tables 2.9 to 20.5 and R151 list them:
index and subindex ranges, type, right, default and range of values. Defaults that depend on the index or on the part are
given in Machine/Dict.lean. -/

namespace Sys2Proof.Machine

/-- Types of Table 18.1. -/
inductive DType where
  | bool | u8 | u16 | u32 | u64 | i16 | i32 | bt | str | blob
  deriving DecidableEq, Repr

/-- The type's code (Table 18.1). -/
def DType.code : DType → Nat
  | .bool => 1 | .u8 => 2 | .u16 => 3 | .u32 => 4 | .u64 => 5 | .i16 => 6 | .i32 => 7 | .bt => 8 | .str => 9 | .blob => 10

/-- The type's size in bytes (Table 18.1); 0 for the types of varying size. -/
def DType.size : DType → Nat
  | .bool => 1 | .u8 => 1 | .u16 => 2 | .u32 => 4 | .u64 => 8 | .i16 => 2 | .i32 => 4 | .bt => 8 | .str => 0 | .blob => 0

/-- Does a value of the type vary in size? -/
def DType.varies : DType → Bool
  | .str => true
  | .blob => true
  | _ => false

/-- Access rights of an entry. -/
inductive DRight where
  | const | ro | rw | rwp | rws | wo
  deriving DecidableEq, Repr

/-- One row of the entry tables. `lo` and `hi` bound a number; `hi` bounds the size of a STR or BLOB. -/
structure DictRow where
  i0 : Nat
  i1 : Nat
  s0 : Nat
  s1 : Nat
  ty : DType
  right : DRight
  dflt : Nat
  lo : Nat
  hi : Nat
  deriving DecidableEq, Repr

/-- Entries 0x1000 to 0x1FFF. -/
def dictRows1 : List DictRow := [
  ⟨0x1000, 0x1000, 0, 0, .u16, .const, 1, 0, 65535⟩,
  ⟨0x1001, 0x1001, 0, 0, .str, .ro, 0, 0, 32⟩,
  ⟨0x1002, 0x1002, 0, 0, .str, .const, 0, 0, 32⟩,
  ⟨0x1003, 0x1003, 0, 0, .str, .const, 0, 0, 32⟩,
  ⟨0x1004, 0x1004, 0, 0, .u32, .const, 0, 0, 4294967295⟩,
  ⟨0x1005, 0x1005, 0, 0, .u32, .rwp, 2166882304, 0, 4294967295⟩,
  ⟨0x100f, 0x100f, 0, 0, .bool, .rws, 0, 0, 1⟩,
  ⟨0x1010, 0x1010, 0, 0, .blob, .rwp, 0, 0, 256⟩,
  ⟨0x1011, 0x1011, 0, 0, .str, .rwp, 0, 0, 32⟩,
  ⟨0x1100, 0x1100, 0, 0, .u8, .ro, 0, 0, 255⟩,
  ⟨0x1101, 0x1101, 0, 0, .u8, .rwp, 0, 0, 1⟩,
  ⟨0x1102, 0x1102, 0, 0, .u8, .rwp, 0, 0, 31⟩,
  ⟨0x1103, 0x1103, 0, 0, .u64, .rwp, 0, 0, 18446744073709551615⟩,
  ⟨0x1104, 0x1104, 0, 0, .bool, .rwp, 1, 0, 1⟩,
  ⟨0x1105, 0x1105, 0, 0, .u8, .rwp, 8, 1, 32⟩,
  ⟨0x1106, 0x1106, 0, 0, .u8, .rwp, 32, 1, 255⟩,
  ⟨0x1107, 0x1107, 0, 0, .u8, .rwp, 0, 0, 255⟩,
  ⟨0x1108, 0x1108, 0, 0, .u8, .rwp, 128, 0, 255⟩,
  ⟨0x1110, 0x1110, 0, 0, .u8, .rwp, 255, 0, 255⟩,
  ⟨0x1111, 0x1111, 0, 0, .blob, .rwp, 0, 0, 64⟩,
  ⟨0x1112, 0x1112, 0, 0, .u16, .rwp, 1024, 64, 65535⟩,
  ⟨0x1113, 0x1113, 0, 0, .u8, .ro, 0, 0, 255⟩,
  ⟨0x1114, 0x1114, 0, 0, .bool, .rws, 1, 0, 1⟩,
  ⟨0x1115, 0x1115, 0, 0, .u32, .ro, 0, 0, 4294967295⟩,
  ⟨0x1120, 0x1123, 0, 0, .u8, .const, 2, 0, 255⟩,
  ⟨0x1120, 0x1123, 1, 1, .blob, .rws, 0, 0, 32⟩,
  ⟨0x1120, 0x1123, 2, 2, .u8, .ro, 0, 0, 255⟩,
  ⟨0x1130, 0x1130, 0, 0, .u8, .rwp, 0, 0, 1⟩,
  ⟨0x1131, 0x1131, 0, 0, .u8, .rwp, 58, 8, 119⟩,
  ⟨0x1132, 0x1132, 0, 0, .bool, .rwp, 1, 0, 1⟩]

/-- Entries 0x2000 to 0x2FFF. -/
def dictRows2 : List DictRow := [
  ⟨0x2000, 0x2000, 0, 0, .u8, .rwp, 0, 0, 2⟩,
  ⟨0x2001, 0x2001, 0, 0, .u16, .rwp, 500, 250, 2000⟩,
  ⟨0x2002, 0x2002, 0, 0, .bt, .ro, 0, 0, 18446744073709551615⟩,
  ⟨0x2003, 0x2003, 0, 0, .u64, .wo, 0, 0, 18446744073709551615⟩,
  ⟨0x2004, 0x2004, 0, 0, .u8, .ro, 129, 0, 255⟩,
  ⟨0x2010, 0x2010, 0, 0, .u64, .rwp, 18446744073709551615, 0, 18446744073709551615⟩,
  ⟨0x2011, 0x2011, 0, 0, .u32, .rwp, 7500, 0, 65535⟩,
  ⟨0x2012, 0x2012, 0, 0, .u32, .rwp, 1200, 0, 65535⟩,
  ⟨0x2013, 0x2013, 0, 0, .u32, .rwp, 5000, 0, 4294967295⟩,
  ⟨0x2020, 0x202f, 0, 0, .u8, .const, 4, 0, 255⟩,
  ⟨0x2020, 0x202f, 1, 1, .u16, .rwp, 30, 0, 65535⟩,
  ⟨0x2020, 0x202f, 2, 2, .u16, .rwp, 50, 0, 65535⟩,
  ⟨0x2020, 0x202f, 3, 3, .u16, .rwp, 45, 0, 65535⟩,
  ⟨0x2020, 0x202f, 4, 4, .u16, .rwp, 80, 0, 65535⟩,
  ⟨0x2030, 0x2030, 0, 0, .u16, .rwp, 65535, 0, 65535⟩,
  ⟨0x2031, 0x2031, 0, 0, .u8, .rwp, 1, 1, 15⟩,
  ⟨0x2032, 0x2032, 0, 0, .u8, .rwp, 2, 0, 16⟩,
  ⟨0x2100, 0x2100, 0, 0, .u8, .ro, 0, 0, 255⟩,
  ⟨0x2101, 0x2101, 0, 0, .u8, .ro, 0, 0, 255⟩,
  ⟨0x2102, 0x2102, 0, 0, .u8, .rw, 0, 0, 4⟩,
  ⟨0x2103, 0x2103, 0, 0, .u32, .rwp, 10000, 100, 1000000⟩,
  ⟨0x2104, 0x2104, 0, 0, .u8, .const, 3, 0, 255⟩,
  ⟨0x2104, 0x2104, 1, 1, .u32, .const, 0, 0, 4294967295⟩,
  ⟨0x2104, 0x2104, 2, 2, .u32, .const, 1114112, 0, 4294967295⟩,
  ⟨0x2104, 0x2104, 3, 3, .u32, .const, 2359295, 0, 4294967295⟩,
  ⟨0x2105, 0x2105, 0, 0, .u8, .rwp, 1, 0, 255⟩,
  ⟨0x2200, 0x2200, 0, 0, .i16, .ro, 0, 0, 65535⟩,
  ⟨0x2201, 0x2201, 0, 0, .u8, .rwp, 95, 70, 100⟩,
  ⟨0x2202, 0x2202, 0, 0, .u8, .rwp, 100, 71, 105⟩,
  ⟨0x2203, 0x2203, 0, 0, .u8, .rwp, 3, 1, 10⟩,
  ⟨0x2204, 0x2204, 0, 0, .u8, .rwp, 1, 1, 16⟩,
  ⟨0x2205, 0x2205, 0, 0, .u8, .rwp, 4, 1, 64⟩,
  ⟨0x2206, 0x2206, 0, 0, .u16, .ro, 0, 0, 65535⟩,
  ⟨0x2207, 0x2207, 0, 0, .u32, .ro, 0, 0, 4294967295⟩,
  ⟨0x2208, 0x2208, 0, 0, .bool, .rw, 0, 0, 1⟩,
  ⟨0x2300, 0x2300, 0, 0, .u8, .ro, 0, 0, 255⟩,
  ⟨0x2301, 0x2301, 0, 0, .u16, .rwp, 900, 500, 1100⟩,
  ⟨0x2302, 0x2302, 0, 0, .u16, .rwp, 1000, 550, 1150⟩,
  ⟨0x2303, 0x2303, 0, 0, .u16, .rwp, 20, 2, 200⟩,
  ⟨0x2304, 0x2304, 0, 0, .u16, .rwp, 100, 20, 10000⟩,
  ⟨0x2305, 0x2305, 0, 0, .u16, .rwp, 200, 10, 5000⟩,
  ⟨0x2306, 0x2306, 0, 0, .u16, .rwp, 900, 500, 1150⟩,
  ⟨0x2307, 0x2307, 0, 0, .u16, .rwp, 850, 400, 1125⟩,
  ⟨0x2308, 0x2308, 0, 0, .u16, .rwp, 1000, 525, 1200⟩,
  ⟨0x2309, 0x2309, 0, 0, .u8, .rwp, 36, 5, 60⟩,
  ⟨0x230a, 0x230a, 0, 0, .u16, .rwp, 9000, 3000, 30000⟩,
  ⟨0x230b, 0x230b, 0, 0, .u16, .rwp, 750, 600, 20000⟩,
  ⟨0x230c, 0x230c, 0, 0, .u16, .rwp, 2000, 100, 20000⟩,
  ⟨0x230d, 0x230d, 0, 0, .u32, .rwp, 16384, 1024, 1048576⟩,
  ⟨0x230e, 0x230e, 0, 0, .u16, .rwp, 255, 0, 65535⟩,
  ⟨0x230f, 0x230f, 0, 0, .u8, .rwp, 1, 1, 15⟩,
  ⟨0x2310, 0x2310, 0, 0, .u64, .rwp, 18446744073709551615, 0, 18446744073709551615⟩,
  ⟨0x2311, 0x2311, 0, 0, .u32, .rwp, 6000, 1000, 65535⟩,
  ⟨0x2312, 0x2312, 0, 0, .u32, .ro, 0, 0, 4294967295⟩,
  ⟨0x2313, 0x2313, 0, 0, .u32, .ro, 0, 0, 4294967295⟩,
  ⟨0x2314, 0x2314, 0, 0, .u32, .ro, 0, 0, 4294967295⟩,
  ⟨0x2315, 0x2315, 0, 0, .bt, .ro, 0, 0, 18446744073709551615⟩,
  ⟨0x2316, 0x2316, 0, 0, .u32, .ro, 0, 0, 4294967295⟩]

/-- Entries 0x3000 to 0x3FFF. -/
def dictRows3 : List DictRow := [
  ⟨0x3000, 0x3000, 0, 0, .u32, .ro, 0, 0, 4294967295⟩,
  ⟨0x3001, 0x3001, 0, 0, .u8, .rwp, 32, 28, 34⟩,
  ⟨0x3002, 0x3002, 0, 0, .u16, .rwp, 256, 1, 1024⟩,
  ⟨0x3003, 0x3003, 0, 0, .u16, .rwp, 1024, 1, 4096⟩,
  ⟨0x3004, 0x3004, 0, 0, .u8, .rw, 0, 0, 63⟩,
  ⟨0x3005, 0x3005, 0, 0, .u8, .rwp, 1, 1, 64⟩,
  ⟨0x3006, 0x3006, 0, 0, .u8, .rwp, 75, 10, 90⟩,
  ⟨0x3010, 0x304f, 0, 0, .u8, .const, 7, 0, 255⟩,
  ⟨0x3010, 0x304f, 1, 1, .u8, .ro, 0, 0, 255⟩,
  ⟨0x3010, 0x304f, 2, 2, .u8, .ro, 0, 0, 255⟩,
  ⟨0x3010, 0x304f, 3, 3, .u32, .ro, 0, 0, 4294967295⟩,
  ⟨0x3010, 0x304f, 4, 4, .u32, .ro, 0, 0, 4294967295⟩,
  ⟨0x3010, 0x304f, 5, 5, .u32, .ro, 0, 0, 4294967295⟩,
  ⟨0x3010, 0x304f, 6, 6, .u8, .ro, 0, 0, 255⟩,
  ⟨0x3010, 0x304f, 7, 7, .u32, .ro, 0, 0, 4294967295⟩,
  ⟨0x30f0, 0x30f0, 0, 0, .bool, .rwp, 1, 0, 1⟩,
  ⟨0x3101, 0x3101, 0, 0, .u8, .rwp, 16, 1, 128⟩,
  ⟨0x3102, 0x3102, 0, 0, .u16, .rwp, 8, 1, 256⟩,
  ⟨0x3103, 0x3103, 0, 0, .u32, .rwp, 16384, 1024, 65536⟩,
  ⟨0x3110, 0x318f, 0, 0, .u16, .rwp, 0, 0, 4095⟩,
  ⟨0x3200, 0x3200, 0, 0, .u16, .rwp, 1024, 64, 4096⟩,
  ⟨0x3202, 0x3202, 0, 0, .u8, .rwp, 8, 1, 50⟩,
  ⟨0x3203, 0x3203, 0, 0, .u8, .rwp, 4, 1, 16⟩,
  ⟨0x3204, 0x3204, 0, 0, .u16, .rwp, 8, 2, 1024⟩,
  ⟨0x3205, 0x3205, 0, 0, .u16, .rwp, 16, 3, 2048⟩,
  ⟨0x3206, 0x3206, 0, 0, .u8, .rwp, 96, 1, 255⟩,
  ⟨0x3207, 0x3207, 0, 0, .u8, .rwp, 7, 3, 50⟩,
  ⟨0x3208, 0x3208, 0, 0, .u8, .rwp, 5, 1, 50⟩,
  ⟨0x3209, 0x3209, 0, 0, .u8, .rwp, 75, 10, 90⟩,
  ⟨0x320a, 0x320a, 0, 0, .u8, .rwp, 90, 50, 99⟩,
  ⟨0x3210, 0x321f, 0, 0, .u8, .const, 3, 0, 255⟩,
  ⟨0x3210, 0x321f, 1, 1, .u32, .rwp, 1500, 100, 100000⟩,
  ⟨0x3210, 0x321f, 2, 2, .u32, .rwp, 30000, 100, 1000000⟩,
  ⟨0x3210, 0x321f, 3, 3, .u8, .rwp, 0, 0, 15⟩,
  ⟨0x3220, 0x322f, 0, 0, .u8, .const, 6, 0, 255⟩,
  ⟨0x3220, 0x322f, 1, 1, .u8, .rwp, 0, 0, 1⟩,
  ⟨0x3220, 0x322f, 2, 2, .u8, .rwp, 0, 0, 2⟩,
  ⟨0x3220, 0x322f, 3, 3, .u16, .rwp, 65535, 0, 65535⟩,
  ⟨0x3220, 0x322f, 4, 4, .u16, .rwp, 5000, 100, 50000⟩,
  ⟨0x3220, 0x322f, 5, 5, .u8, .rwp, 20, 5, 60⟩,
  ⟨0x3220, 0x322f, 6, 6, .u8, .rwp, 31, 0, 255⟩,
  ⟨0x3230, 0x323f, 0, 0, .u8, .const, 7, 0, 255⟩,
  ⟨0x3230, 0x323f, 1, 1, .u16, .rwp, 60, 10, 1000⟩,
  ⟨0x3230, 0x323f, 2, 2, .u16, .rwp, 40, 10, 1000⟩,
  ⟨0x3230, 0x323f, 3, 3, .u16, .rwp, 30, 5, 500⟩,
  ⟨0x3230, 0x323f, 4, 4, .u16, .rwp, 250, 50, 5000⟩,
  ⟨0x3230, 0x323f, 5, 5, .u16, .rwp, 1800, 200, 20000⟩,
  ⟨0x3230, 0x323f, 6, 6, .u16, .rwp, 8000, 1000, 50000⟩,
  ⟨0x3230, 0x323f, 7, 7, .u8, .rwp, 5, 1, 100⟩,
  ⟨0x3240, 0x324f, 0, 0, .u8, .const, 2, 0, 255⟩,
  ⟨0x3240, 0x324f, 1, 1, .u8, .rwp, 0, 0, 15⟩,
  ⟨0x3240, 0x324f, 2, 2, .u8, .rwp, 1, 0, 15⟩,
  ⟨0x3250, 0x3250, 0, 0, .u8, .rwp, 32, 1, 255⟩,
  ⟨0x3251, 0x3251, 0, 0, .u8, .rwp, 64, 1, 255⟩,
  ⟨0x3260, 0x3260, 0, 0, .u32, .rwp, 49152, 8192, 57344⟩,
  ⟨0x3261, 0x3261, 0, 0, .u32, .ro, 49152, 0, 4294967295⟩,
  ⟨0x3262, 0x3262, 0, 0, .u8, .const, 12, 0, 255⟩,
  ⟨0x3262, 0x3262, 1, 12, .u16, .rwp, 0, 0, 65535⟩,
  ⟨0x3263, 0x3263, 0, 0, .u8, .const, 12, 0, 255⟩,
  ⟨0x3263, 0x3263, 1, 12, .u16, .rwp, 0, 0, 65535⟩,
  ⟨0x3264, 0x3264, 0, 0, .u8, .const, 48, 0, 255⟩,
  ⟨0x3264, 0x3264, 1, 48, .u8, .rwp, 0, 0, 255⟩,
  ⟨0x3265, 0x3265, 0, 0, .blob, .rwp, 0, 0, 4096⟩,
  ⟨0x3266, 0x3266, 0, 0, .bool, .rwp, 0, 0, 1⟩,
  ⟨0x3300, 0x3300, 0, 0, .u16, .ro, 0, 0, 65535⟩,
  ⟨0x3301, 0x3301, 0, 0, .u16, .rwp, 200, 0, 4000⟩,
  ⟨0x3302, 0x3302, 0, 0, .u16, .rwp, 32768, 0, 65535⟩,
  ⟨0x3303, 0x3303, 0, 0, .u16, .rwp, 30, 1, 365⟩,
  ⟨0x3304, 0x3304, 0, 0, .u16, .rwp, 64, 16, 65535⟩,
  ⟨0x3305, 0x3305, 0, 0, .u8, .rwp, 2, 1, 16⟩,
  ⟨0x3306, 0x3306, 0, 0, .u64, .ro, 0, 0, 18446744073709551615⟩,
  ⟨0x3307, 0x3307, 0, 0, .bool, .rwp, 1, 0, 1⟩]

/-- Entries 0x4000 to 0x4FFF. -/
def dictRows4 : List DictRow := [
  ⟨0x4000, 0x41ff, 0, 0, .u8, .const, 11, 0, 255⟩,
  ⟨0x4000, 0x41ff, 1, 1, .u32, .rwp, 0, 0, 4294967295⟩,
  ⟨0x4000, 0x41ff, 2, 2, .u32, .rwp, 0, 0, 4294967295⟩,
  ⟨0x4000, 0x41ff, 3, 3, .u32, .rwp, 256, 1, 65536⟩,
  ⟨0x4000, 0x41ff, 4, 4, .u32, .rwp, 512, 1, 65536⟩,
  ⟨0x4000, 0x41ff, 5, 5, .u8, .rwp, 16, 1, 255⟩,
  ⟨0x4000, 0x41ff, 6, 6, .u16, .rwp, 1024, 1, 1024⟩,
  ⟨0x4000, 0x41ff, 7, 7, .bool, .rwp, 0, 0, 1⟩,
  ⟨0x4000, 0x41ff, 8, 8, .u16, .rwp, 0, 1, 2048⟩,
  ⟨0x4000, 0x41ff, 16, 16, .u16, .rwp, 0, 0, 65535⟩,
  ⟨0x4000, 0x41ff, 17, 17, .u16, .rwp, 0, 0, 65535⟩,
  ⟨0x4000, 0x41ff, 18, 18, .u32, .rwp, 0, 0, 4294967295⟩]

/-- Entries 0x5000 to 0x5FFF. -/
def dictRows5 : List DictRow := [
  ⟨0x5000, 0x5eff, 0, 0, .u64, .ro, 0, 0, 18446744073709551615⟩,
  ⟨0x5f00, 0x5f00, 0, 0, .u16, .rwp, 32, 1, 65535⟩,
  ⟨0x5f01, 0x5f01, 0, 0, .u32, .ro, 0, 0, 4294967295⟩,
  ⟨0x5f02, 0x5f02, 0, 0, .bt, .ro, 0, 0, 18446744073709551615⟩,
  ⟨0x5f03, 0x5f03, 0, 0, .bool, .wo, 0, 0, 1⟩]

/-- Entries 0x6000 to 0x6FFF. -/
def dictRows6 : List DictRow := [
  ⟨0x6000, 0x6000, 0, 0, .bool, .rwp, 1, 0, 1⟩,
  ⟨0x6001, 0x6001, 0, 0, .u64, .ro, 1, 0, 18446744073709551615⟩,
  ⟨0x6002, 0x6002, 0, 0, .bool, .wo, 0, 0, 1⟩,
  ⟨0x6003, 0x6003, 0, 0, .bool, .rws, 0, 0, 1⟩,
  ⟨0x6004, 0x6004, 0, 0, .u32, .ro, 0, 0, 4294967295⟩,
  ⟨0x6005, 0x6005, 0, 0, .u64, .ro, 0, 0, 18446744073709551615⟩,
  ⟨0x6008, 0x6008, 0, 0, .u16, .rwp, 256, 16, 1024⟩,
  ⟨0x6010, 0x601f, 0, 0, .u8, .const, 5, 0, 255⟩,
  ⟨0x6010, 0x601f, 1, 1, .u8, .rwp, 0, 0, 3⟩,
  ⟨0x6010, 0x601f, 2, 2, .u16, .rwp, 0, 0, 65535⟩,
  ⟨0x6010, 0x601f, 3, 3, .u8, .rwp, 0, 0, 7⟩,
  ⟨0x6010, 0x601f, 4, 4, .bool, .rwp, 0, 0, 1⟩,
  ⟨0x6010, 0x601f, 5, 5, .u64, .rwp, 0, 0, 18446744073709551615⟩,
  ⟨0x6020, 0x6027, 0, 0, .blob, .rwp, 0, 0, 64⟩]

/-- Entries 0x7000 to 0x7FFF. -/
def dictRows7 : List DictRow := [
  ⟨0x7001, 0x7001, 0, 0, .u8, .ro, 100, 0, 255⟩,
  ⟨0x7002, 0x7002, 0, 0, .u8, .rwp, 10, 1, 50⟩,
  ⟨0x7003, 0x7003, 0, 0, .u8, .ro, 0, 0, 255⟩,
  ⟨0x7004, 0x7004, 0, 0, .u8, .const, 5, 0, 255⟩,
  ⟨0x7004, 0x7004, 1, 1, .u32, .ro, 0, 0, 4294967295⟩,
  ⟨0x7004, 0x7004, 2, 2, .u32, .ro, 0, 0, 4294967295⟩,
  ⟨0x7004, 0x7004, 3, 3, .u32, .ro, 0, 0, 4294967295⟩,
  ⟨0x7004, 0x7004, 4, 4, .u32, .ro, 0, 0, 4294967295⟩,
  ⟨0x7004, 0x7004, 5, 5, .u64, .ro, 0, 0, 18446744073709551615⟩,
  ⟨0x7010, 0x7010, 0, 0, .u8, .const, 28, 0, 255⟩,
  ⟨0x7010, 0x7010, 1, 24, .u64, .ro, 0, 0, 18446744073709551615⟩,
  ⟨0x7010, 0x7010, 25, 25, .i16, .ro, 65263, 0, 65535⟩,
  ⟨0x7010, 0x7010, 26, 26, .bt, .ro, 0, 0, 18446744073709551615⟩,
  ⟨0x7010, 0x7010, 27, 27, .i16, .ro, 327, 0, 65535⟩,
  ⟨0x7010, 0x7010, 28, 28, .bt, .ro, 0, 0, 18446744073709551615⟩,
  ⟨0x7100, 0x7100, 0, 0, .u32, .ro, 0, 0, 4294967295⟩,
  ⟨0x7101, 0x7101, 0, 0, .u16, .ro, 0, 0, 65535⟩,
  ⟨0x7102, 0x7102, 0, 0, .u16, .rwp, 4096, 256, 65535⟩,
  ⟨0x7103, 0x7103, 0, 0, .u8, .rwp, 8, 1, 16⟩,
  ⟨0x7111, 0x7123, 0, 0, .u8, .const, 5, 0, 255⟩,
  ⟨0x7111, 0x7123, 1, 1, .u32, .ro, 0, 0, 4294967295⟩,
  ⟨0x7111, 0x7123, 2, 2, .u32, .ro, 0, 0, 4294967295⟩,
  ⟨0x7111, 0x7123, 3, 3, .u32, .ro, 0, 0, 4294967295⟩,
  ⟨0x7111, 0x7123, 4, 4, .u32, .ro, 0, 0, 4294967295⟩,
  ⟨0x7111, 0x7123, 5, 5, .bt, .ro, 0, 0, 18446744073709551615⟩]

/-- Entries 0x8000 to 0x8FFF. -/
def dictRows8 : List DictRow := [
  ⟨0x8000, 0x8000, 0, 0, .u8, .const, 0, 0, 255⟩,
  ⟨0x8001, 0x8001, 0, 0, .u16, .rws, 256, 1, 256⟩,
  ⟨0x8002, 0x8002, 0, 0, .u16, .ro, 16384, 0, 65535⟩,
  ⟨0x8003, 0x8003, 0, 0, .u8, .ro, 0, 0, 255⟩,
  ⟨0x8004, 0x8004, 0, 0, .u8, .ro, 0, 0, 255⟩,
  ⟨0x8005, 0x8005, 0, 0, .u8, .ro, 0, 0, 255⟩,
  ⟨0x8006, 0x8006, 0, 0, .bool, .rws, 0, 0, 1⟩,
  ⟨0x8007, 0x8007, 0, 0, .u32, .ro, 0, 0, 4294967295⟩,
  ⟨0x8008, 0x8008, 0, 0, .blob, .ro, 0, 0, 48⟩,
  ⟨0x8010, 0x804f, 0, 0, .u8, .const, 3, 0, 255⟩,
  ⟨0x8010, 0x804f, 1, 1, .bool, .rws, 0, 0, 1⟩,
  ⟨0x8010, 0x804f, 2, 2, .u8, .rws, 1, 1, 64⟩,
  ⟨0x8010, 0x804f, 3, 3, .u8, .rws, 0, 0, 255⟩,
  ⟨0x8060, 0x8060, 0, 0, .u8, .const, 192, 0, 255⟩,
  ⟨0x8060, 0x8060, 1, 192, .u32, .ro, 0, 0, 4294967295⟩]

/-- The rows that may hold an index. -/
def dictRows (index : Nat) : List DictRow :=
  match index / 0x1000 with
  | 1 => dictRows1
  | 2 => dictRows2
  | 3 => dictRows3
  | 4 => dictRows4
  | 5 => dictRows5
  | 6 => dictRows6
  | 7 => dictRows7
  | 8 => dictRows8
  | _ => []

/-- Does some row hold the index? -/
def dictIndex (index : Nat) : Bool := (dictRows index).any fun r => decide (r.i0 ≤ index ∧ index ≤ r.i1)

/-- The row of an entry. -/
def dictRow (index sub : Nat) : Option DictRow :=
  (dictRows index).find? fun r => decide (r.i0 ≤ index ∧ index ≤ r.i1 ∧ r.s0 ≤ sub ∧ sub ≤ r.s1)

end Sys2Proof.Machine
end

