-- ==== Sys2Proof/Machine/RegFields.lean ====
section
/-! DEFINITION. Machine/RegFields.lean: every field of every register of the KDV8128, as the register tables of spec/
give it: the address of its word in the normal alias, its lowest bit, its width and its reset value. A pair of words
that holds one 64-bit quantity is one field at the low word's address. The index of an array is reduced to the array's size, so
that every field lies within its block; no command reaches an array with an index outside it. -/

namespace Sys2Proof.Machine

/-- A register field. -/
structure Fld where
  addr : Nat
  lo : Nat
  w : Nat
  reset : Nat
  deriving DecidableEq, Repr

/-- The key of a field in `State.regs`. -/
def Fld.key (f : Fld) : Nat := f.addr * 32 + f.lo

/-- The field's bits of a word. -/
def Fld.of (f : Fld) (word : Nat) : Nat := word / 2 ^ f.lo % 2 ^ f.w

/-! SYS_IDENT, spec/01_architecture.md -/
def SYS_IDENT.PART : Fld := ⟨0x40000000, 16, 16, 0x8128⟩
def SYS_IDENT.STEP : Fld := ⟨0x40000000, 8, 8, 0xb0⟩
def SYS_IDENT.VARIANT : Fld := ⟨0x40000000, 4, 4, 1⟩

/-! SYS_REFCNT, spec/01_architecture.md -/
def SYS_REFCNT.COUNT : Fld := ⟨0x40000010, 0, 64, 0⟩

/-! SYS_BUSERR, spec/01_architecture.md -/
def SYS_BUSERR.VALID : Fld := ⟨0x40000020, 31, 1, 0⟩
def SYS_BUSERR.CAUSE : Fld := ⟨0x40000020, 24, 4, 0⟩
def SYS_BUSERR.MASTER : Fld := ⟨0x40000020, 20, 4, 0⟩
def SYS_BUSERR.COUNT : Fld := ⟨0x40000020, 0, 16, 0⟩

/-! SYS_BUSERRA, spec/01_architecture.md -/
def SYS_BUSERRA.ADDR : Fld := ⟨0x40000024, 0, 40, 0⟩

/-! SYS_CORECTL, spec/16_control_cluster_startup.md -/
def SYS_CORECTL.CRESET : Fld := ⟨0x40000100, 8, 4, 0⟩
def SYS_CORECTL.RUN : Fld := ⟨0x40000100, 0, 4, 0⟩

/-! SYS_BOOTADDR, spec/16_control_cluster_startup.md -/
def SYS_BOOTADDR.ADDR : Fld := ⟨0x40000104, 0, 40, 0x25800000⟩

/-! SYS_RSTCAUSE, spec/16_control_cluster_startup.md -/
def SYS_RSTCAUSE.PGFAIL : Fld := ⟨0x4000010c, 12, 4, 0⟩
def SYS_RSTCAUSE.CAUSE : Fld := ⟨0x4000010c, 0, 4, 1⟩

/-! SYS_RSTCTL, spec/16_control_cluster_startup.md -/
def SYS_RSTCTL.RESTART : Fld := ⟨0x40000110, 31, 1, 0⟩
def SYS_RSTCTL.ERR : Fld := ⟨0x40000110, 30, 1, 0⟩

/-! SYS_CLKSTAT, spec/16_control_cluster_startup.md -/
def SYS_CLKSTAT.LAMPXTAL : Fld := ⟨0x40000114, 4, 1, 0⟩
def SYS_CLKSTAT.PLLPHY : Fld := ⟨0x40000114, 3, 1, 0⟩
def SYS_CLKSTAT.PLLDATA : Fld := ⟨0x40000114, 2, 1, 0⟩
def SYS_CLKSTAT.PLLCORE : Fld := ⟨0x40000114, 1, 1, 0⟩
def SYS_CLKSTAT.XTAL : Fld := ⟨0x40000114, 0, 1, 0⟩

/-! SYS_BOOTPHASE, spec/16_control_cluster_startup.md -/
def SYS_BOOTPHASE.STEP : Fld := ⟨0x40000118, 0, 5, 6⟩

/-! BEL_CTRL, spec/02_bell_time.md -/
def BEL_CTRL.PERIOD : Fld := ⟨0x40200000, 16, 11, 0x1f4⟩
def BEL_CTRL.SRC : Fld := ⟨0x40200000, 0, 2, 0⟩

/-! BEL_STAT, spec/02_bell_time.md -/
def BEL_STAT.MISSED : Fld := ⟨0x40200004, 16, 8, 0⟩
def BEL_STAT.EPOCH : Fld := ⟨0x40200004, 8, 8, 0⟩
def BEL_STAT.MASK_PEND : Fld := ⟨0x40200004, 5, 1, 0⟩
def BEL_STAT.FALLBACK : Fld := ⟨0x40200004, 4, 1, 1⟩
def BEL_STAT.DEGRADED : Fld := ⟨0x40200004, 3, 1, 1⟩
def BEL_STAT.LOCK : Fld := ⟨0x40200004, 0, 3, 1⟩

/-! BEL_ERRCNT, spec/02_bell_time.md -/
def BEL_ERRCNT.LOSSES : Fld := ⟨0x40200008, 16, 16, 0⟩
def BEL_ERRCNT.MISPLACED : Fld := ⟨0x40200008, 0, 16, 0⟩

/-! BEL_NOW, spec/02_bell_time.md -/
def BEL_NOW.TIME : Fld := ⟨0x40200010, 0, 64, 0⟩

/-! BEL_MASK, spec/02_bell_time.md -/
def BEL_MASK.MASK : Fld := ⟨0x40200020, 0, 64, 0xFFFFFFFFFFFFFFFF⟩

/-! BEL_BUDGET, spec/02_bell_time.md -/
def BEL_BUDGET.RESERVE : Fld := ⟨0x40200028, 16, 16, 0x4b0⟩
def BEL_BUDGET.BUDGET : Fld := ⟨0x40200028, 0, 16, 0x1d4c⟩

/-! BEL_ACCT, spec/02_bell_time.md -/
def BEL_ACCT.PEAK : Fld := ⟨0x4020002c, 16, 16, 0⟩
def BEL_ACCT.ACCOUNT : Fld := ⟨0x4020002c, 0, 16, 0⟩

/-! BEL_MODE_STAGE, spec/02_bell_time.md -/
def BEL_MODE_STAGE.WORD : Fld := ⟨0x40200040, 0, 32, 0⟩

/-! BEL_MODE_CMD, spec/02_bell_time.md -/
def BEL_MODE_CMD.GO : Fld := ⟨0x40200044, 31, 1, 0⟩
def BEL_MODE_CMD.ROLLBACK : Fld := ⟨0x40200044, 8, 1, 0⟩
def BEL_MODE_CMD.ANY : Fld := ⟨0x40200044, 6, 1, 1⟩
def BEL_MODE_CMD.AT_SLOT : Fld := ⟨0x40200044, 0, 6, 0⟩

/-! BEL_MODE_STAT, spec/02_bell_time.md -/
def BEL_MODE_STAT.LAGGARDS : Fld := ⟨0x40200048, 24, 8, 0⟩
def BEL_MODE_STAT.PENDING : Fld := ⟨0x40200048, 19, 1, 0⟩
def BEL_MODE_STAT.REJECTED : Fld := ⟨0x40200048, 18, 1, 0⟩
def BEL_MODE_STAT.STATE : Fld := ⟨0x40200048, 16, 2, 0⟩
def BEL_MODE_STAT.EPOCH : Fld := ⟨0x40200048, 0, 16, 0⟩

/-! BEL_MODE_LAG, spec/02_bell_time.md -/
def BEL_MODE_LAG.UNITS (i : Nat) : Fld := ⟨0x40200050 + 0x4 * (i % 8), 0, 32, 0⟩

/-! PCI_STRAP, spec/03_host_link.md -/
def PCI_STRAP.SRIS : Fld := ⟨0x40400000, 1, 1, 0⟩
def PCI_STRAP.BIF : Fld := ⟨0x40400000, 0, 1, 0⟩

/-! PCI_CTRL, spec/03_host_link.md -/
def PCI_CTRL.CFG_READY1 : Fld := ⟨0x40400004, 31, 1, 0⟩
def PCI_CTRL.CFG_READY0 : Fld := ⟨0x40400004, 30, 1, 0⟩
def PCI_CTRL.L0P_WIDTH : Fld := ⟨0x40400004, 8, 4, 0⟩
def PCI_CTRL.FLIT_DIS : Fld := ⟨0x40400004, 4, 1, 0⟩
def PCI_CTRL.MAXRATE : Fld := ⟨0x40400004, 0, 3, 6⟩

/-! PCI_LSTAT, spec/03_host_link.md -/
def PCI_LSTAT.LTSSM (p : Nat) : Fld := ⟨0x40400100 + 0x100 * (p % 2), 16, 8, 0⟩
def PCI_LSTAT.LINKUP (p : Nat) : Fld := ⟨0x40400100 + 0x100 * (p % 2), 15, 1, 0⟩
def PCI_LSTAT.FLIT (p : Nat) : Fld := ⟨0x40400100 + 0x100 * (p % 2), 14, 1, 0⟩
def PCI_LSTAT.RATE (p : Nat) : Fld := ⟨0x40400100 + 0x100 * (p % 2), 11, 3, 0⟩
def PCI_LSTAT.WIDTH (p : Nat) : Fld := ⟨0x40400100 + 0x100 * (p % 2), 7, 4, 0⟩
def PCI_LSTAT.ACTWIDTH (p : Nat) : Fld := ⟨0x40400100 + 0x100 * (p % 2), 3, 4, 0⟩
def PCI_LSTAT.L1SUB (p : Nat) : Fld := ⟨0x40400100 + 0x100 * (p % 2), 1, 2, 0⟩

/-! PCI_ERRCNT, spec/03_host_link.md -/
def PCI_ERRCNT.DOWN (p : Nat) : Fld := ⟨0x40400104 + 0x100 * (p % 2), 24, 8, 0⟩
def PCI_ERRCNT.RECOV (p : Nat) : Fld := ⟨0x40400104 + 0x100 * (p % 2), 16, 8, 0⟩
def PCI_ERRCNT.CORR (p : Nat) : Fld := ⟨0x40400104 + 0x100 * (p % 2), 0, 16, 0⟩

/-! HFE_CTRL, spec/04_command_queueing.md -/
def HFE_CTRL.ADMIT_EN : Fld := ⟨0x40600000, 1, 1, 0⟩
def HFE_CTRL.DA : Fld := ⟨0x40600000, 0, 1, 1⟩

/-! HFE_STAT, spec/04_command_queueing.md -/
def HFE_STAT.ALLOCERR : Fld := ⟨0x40600004, 31, 1, 0⟩
def HFE_STAT.CTXFREE : Fld := ⟨0x40600004, 0, 17, 0x10000⟩

/-! HFE_TICKET, spec/04_command_queueing.md -/
def HFE_TICKET.TICKET : Fld := ⟨0x40600010, 0, 64, 0⟩

/-! HFE_ERRCNT, spec/04_command_queueing.md -/
def HFE_ERRCNT.DBERR : Fld := ⟨0x40600018, 16, 16, 0⟩
def HFE_ERRCNT.VOIDS : Fld := ⟨0x40600018, 0, 16, 0⟩

/-! HFE_QALLOC, spec/04_command_queueing.md -/
def HFE_QALLOC.NCQ (f : Nat) : Fld := ⟨0x40610000 + 0x8 * (f % 512), 16, 14, if f = 0 then 0x400 else if f = 1 then 0 else 0x18⟩
def HFE_QALLOC.NSQ (f : Nat) : Fld := ⟨0x40610000 + 0x8 * (f % 512), 0, 14, if f = 0 then 0x400 else if f = 1 then 0 else 0x18⟩

/-! HFE_CMDLIM, spec/04_command_queueing.md -/
def HFE_CMDLIM.LIMIT (f : Nat) : Fld := ⟨0x40610004 + 0x8 * (f % 512), 0, 17, if f = 0 then 0x2000 else if f = 1 then 0 else 0x60⟩

/-! FNS_CTRL, spec/05_function_sharing.md -/
def FNS_CTRL.SHARE_EN : Fld := ⟨0x40800000, 1, 1, 1⟩
def FNS_CTRL.TOKEN_EN : Fld := ⟨0x40800000, 0, 1, 1⟩

/-! FNS_ACCSEL, spec/05_function_sharing.md -/
def FNS_ACCSEL.ACCOUNT : Fld := ⟨0x40800010, 16, 10, 0⟩
def FNS_ACCSEL.DIE : Fld := ⟨0x40800010, 0, 11, 0⟩

/-! FNS_ACCDATA, spec/05_function_sharing.md -/
def FNS_ACCDATA.DEFERRED : Fld := ⟨0x40800014, 31, 1, 0⟩
def FNS_ACCDATA.CHARGE : Fld := ⟨0x40800014, 0, 20, 0⟩

/-! FNS_DEFCNT, spec/05_function_sharing.md -/
def FNS_DEFCNT.COUNT : Fld := ⟨0x40800018, 0, 32, 0⟩

/-! FNS_MBXPEND, spec/05_function_sharing.md -/
def FNS_MBXPEND.PEND (i : Nat) : Fld := ⟨0x40800100 + 0x4 * (i % 16), 0, 32, 0⟩

/-! FNS_MBXACK, spec/05_function_sharing.md -/
def FNS_MBXACK.REJ : Fld := ⟨0x40800140, 31, 1, 0⟩
def FNS_MBXACK.OUT_POST : Fld := ⟨0x40800140, 17, 1, 0⟩
def FNS_MBXACK.IN_DONE : Fld := ⟨0x40800140, 16, 1, 0⟩
def FNS_MBXACK.FUNC : Fld := ⟨0x40800140, 0, 9, 0⟩

/-! ZPM_CTRL, spec/06_zones_placement.md -/
def ZPM_CTRL.TAIL_ENF : Fld := ⟨0x40a00000, 2, 1, 1⟩
def ZPM_CTRL.CKPT_NOW : Fld := ⟨0x40a00000, 1, 1, 0⟩
def ZPM_CTRL.EN : Fld := ⟨0x40a00000, 0, 1, 0⟩

/-! ZPM_STAT, spec/06_zones_placement.md -/
def ZPM_STAT.TAILOVL : Fld := ⟨0x40a00004, 31, 1, 0⟩
def ZPM_STAT.CKPT_BUSY : Fld := ⟨0x40a00004, 30, 1, 0⟩
def ZPM_STAT.RELOAD : Fld := ⟨0x40a00004, 22, 2, 0⟩
def ZPM_STAT.INUSE : Fld := ⟨0x40a00004, 0, 21, 0⟩

/-! ZPM_JRNL, spec/06_zones_placement.md -/
def ZPM_JRNL.RECORDS : Fld := ⟨0x40a00008, 0, 18, 0⟩

/-! ZPM_NSCNT, spec/06_zones_placement.md -/
def ZPM_NSCNT.OPEN (n : Nat) : Fld := ⟨0x40a00100 + 0x4 * (n % 64), 16, 11, 0⟩
def ZPM_NSCNT.ACTIVE (n : Nat) : Fld := ⟨0x40a00100 + 0x4 * (n % 64), 0, 13, 0⟩

/-! ZPM_DCMD, spec/06_zones_placement.md -/
def ZPM_DCMD.OP : Fld := ⟨0x40a00200, 28, 4, 0⟩
def ZPM_DCMD.DONE : Fld := ⟨0x40a00200, 27, 1, 1⟩
def ZPM_DCMD.ERR : Fld := ⟨0x40a00200, 26, 1, 0⟩
def ZPM_DCMD.INDEX : Fld := ⟨0x40a00200, 0, 20, 0⟩

/-! ZPM_DWORD, spec/06_zones_placement.md -/
def ZPM_DWORD.DATA (i : Nat) : Fld := ⟨0x40a00210 + 0x4 * (i % 8), 0, 32, 0⟩

/-! ZPM_PGRP, spec/06_zones_placement.md -/
def ZPM_PGRP.TAIL_ONLY (g : Nat) : Fld := ⟨0x40a01000 + 0x4 * (g % 64), 31, 1, 0⟩
def ZPM_PGRP.TAILFN (g : Nat) : Fld := ⟨0x40a01000 + 0x4 * (g % 64), 24, 7, 0⟩
def ZPM_PGRP.ROW (g : Nat) : Fld := ⟨0x40a01000 + 0x4 * (g % 64), 0, 16, 0⟩

/-! ZPM_SSET, spec/06_zones_placement.md -/
def ZPM_SSET.VALID (s : Nat) : Fld := ⟨0x40a10000 + 0x8 * (s % 4096), 31, 1, 0⟩
def ZPM_SSET.PGRP (s : Nat) : Fld := ⟨0x40a10000 + 0x8 * (s % 4096), 24, 6, 0⟩
def ZPM_SSET.ROWS (s : Nat) : Fld := ⟨0x40a10000 + 0x8 * (s % 4096), 0, 15, 0⟩

/-! ZPM_SROWS, spec/06_zones_placement.md -/
def ZPM_SROWS.UNRES (s : Nat) : Fld := ⟨0x40a10004 + 0x8 * (s % 4096), 16, 15, 0⟩
def ZPM_SROWS.FREE (s : Nat) : Fld := ⟨0x40a10004 + 0x8 * (s % 4096), 0, 15, 0⟩

/-! MED_CTRL, spec/07_media_management.md -/
def MED_CTRL.MAPFLUSH : Fld := ⟨0x40c00000, 5, 1, 0⟩
def MED_CTRL.LAYOUT : Fld := ⟨0x40c00000, 4, 1, 0⟩
def MED_CTRL.KILN_EN : Fld := ⟨0x40c00000, 2, 1, 0⟩
def MED_CTRL.WL_EN : Fld := ⟨0x40c00000, 1, 1, 0⟩
def MED_CTRL.GC_EN : Fld := ⟨0x40c00000, 0, 1, 0⟩

/-! MED_STAT, spec/07_media_management.md -/
def MED_STAT.LAYERR : Fld := ⟨0x40c00004, 31, 1, 0⟩
def MED_STAT.RCPERR : Fld := ⟨0x40c00004, 30, 1, 0⟩
def MED_STAT.UERR : Fld := ⟨0x40c00004, 29, 1, 0⟩
def MED_STAT.MERR : Fld := ⟨0x40c00004, 28, 1, 0⟩
def MED_STAT.UDONE : Fld := ⟨0x40c00004, 27, 1, 1⟩
def MED_STAT.SLCFILL : Fld := ⟨0x40c00004, 16, 8, 0⟩
def MED_STAT.FOLDREC : Fld := ⟨0x40c00004, 0, 14, 0⟩

/-! MED_SLCFREE, spec/07_media_management.md -/
def MED_SLCFREE.FREE : Fld := ⟨0x40c00008, 0, 29, 0⟩

/-! MED_ERRCNT, spec/07_media_management.md -/
def MED_ERRCNT.RETIRED : Fld := ⟨0x40c0000c, 16, 16, 0⟩
def MED_ERRCNT.RBFAIL : Fld := ⟨0x40c0000c, 0, 16, 0⟩

/-! MED_MAPSTAT, spec/07_media_management.md -/
def MED_MAPSTAT.DIRTY : Fld := ⟨0x40c00010, 17, 11, 0⟩
def MED_MAPSTAT.JRECS : Fld := ⟨0x40c00010, 0, 17, 0⟩

/-! MED_MAPMISS, spec/07_media_management.md -/
def MED_MAPMISS.COUNT : Fld := ⟨0x40c00014, 0, 32, 0⟩

/-! MED_UCMD, spec/07_media_management.md -/
def MED_UCMD.OP : Fld := ⟨0x40c00020, 28, 4, 0⟩
def MED_UCMD.DIE : Fld := ⟨0x40c00020, 17, 11, 0⟩
def MED_UCMD.UNIT : Fld := ⟨0x40c00020, 0, 17, 0⟩

/-! MED_UDATA, spec/07_media_management.md -/
def MED_UDATA.RECORD : Fld := ⟨0x40c00024, 0, 32, 0⟩

/-! MED_MIGR, spec/07_media_management.md -/
def MED_MIGR.OP : Fld := ⟨0x40c00030, 28, 4, 0⟩
def MED_MIGR.INDEX : Fld := ⟨0x40c00030, 0, 20, 0⟩

/-! MED_RCPSEL, spec/07_media_management.md -/
def MED_RCPSEL.RECIPE : Fld := ⟨0x40c00100, 4, 4, 0⟩
def MED_RCPSEL.STEP : Fld := ⟨0x40c00100, 0, 4, 0⟩

/-! MED_RCPDATA, spec/07_media_management.md -/
def MED_RCPDATA.STEPWORD : Fld := ⟨0x40c00104, 0, 32, 0⟩

/-! FCH_GCFG, spec/08_flash_channels.md -/
def FCH_GCFG.FAMILY (g : Nat) : Fld := ⟨0x40e00000 + 0x10000 * (g % 16), 18, 1, 0⟩
def FCH_GCFG.BAND (g : Nat) : Fld := ⟨0x40e00000 + 0x10000 * (g % 16), 16, 2, 0⟩
def FCH_GCFG.POP (g : Nat) : Fld := ⟨0x40e00000 + 0x10000 * (g % 16), 0, 16, 0xFFFF⟩

/-! FCH_GCTRL, spec/08_flash_channels.md -/
def FCH_GCTRL.PWR_ON (g : Nat) : Fld := ⟨0x40e00004 + 0x10000 * (g % 16), 31, 1, 0⟩
def FCH_GCTRL.PWR_OFF (g : Nat) : Fld := ⟨0x40e00004 + 0x10000 * (g % 16), 30, 1, 0⟩
def FCH_GCTRL.READY (g : Nat) : Fld := ⟨0x40e00004 + 0x10000 * (g % 16), 29, 1, 0⟩
def FCH_GCTRL.WP_REL (g : Nat) : Fld := ⟨0x40e00004 + 0x10000 * (g % 16), 0, 1, 0⟩

/-! FCH_GSTAT, spec/08_flash_channels.md -/
def FCH_GSTAT.STATE (g : Nat) : Fld := ⟨0x40e00008 + 0x10000 * (g % 16), 29, 3, 0⟩
def FCH_GSTAT.SET (g : Nat) : Fld := ⟨0x40e00008 + 0x10000 * (g % 16), 28, 1, 0⟩
def FCH_GSTAT.BANDSEEN (g : Nat) : Fld := ⟨0x40e00008 + 0x10000 * (g % 16), 26, 2, 3⟩
def FCH_GSTAT.WP (g : Nat) : Fld := ⟨0x40e00008 + 0x10000 * (g % 16), 25, 1, 0⟩
def FCH_GSTAT.ERR (g : Nat) : Fld := ⟨0x40e00008 + 0x10000 * (g % 16), 24, 1, 0⟩
def FCH_GSTAT.BANDERR (g : Nat) : Fld := ⟨0x40e00008 + 0x10000 * (g % 16), 23, 1, 0⟩
def FCH_GSTAT.RSTERR (g : Nat) : Fld := ⟨0x40e00008 + 0x10000 * (g % 16), 22, 1, 0⟩
def FCH_GSTAT.UV (g : Nat) : Fld := ⟨0x40e00008 + 0x10000 * (g % 16), 21, 1, 0⟩
def FCH_GSTAT.EPOCH (g : Nat) : Fld := ⟨0x40e00008 + 0x10000 * (g % 16), 0, 16, 0⟩

/-! FCH_TSETW0, spec/08_flash_channels.md -/
def FCH_TSETW0.INTF (g s : Nat) : Fld := ⟨0x40e00010 + 0x10000 * (g % 16) + 0x8 * (s % 2), 28, 4, 0⟩
def FCH_TSETW0.SDRMODE (g s : Nat) : Fld := ⟨0x40e00010 + 0x10000 * (g % 16) + 0x8 * (s % 2), 24, 4, 0⟩
def FCH_TSETW0.RATE (g s : Nat) : Fld := ⟨0x40e00010 + 0x10000 * (g % 16) + 0x8 * (s % 2), 0, 12, 0⟩

/-! FCH_TSETW1, spec/08_flash_channels.md -/
def FCH_TSETW1.VREFQ (g s : Nat) : Fld := ⟨0x40e00014 + 0x10000 * (g % 16) + 0x8 * (s % 2), 8, 4, 8⟩
def FCH_TSETW1.ODT (g s : Nat) : Fld := ⟨0x40e00014 + 0x10000 * (g % 16) + 0x8 * (s % 2), 4, 4, 0⟩
def FCH_TSETW1.DRV (g s : Nat) : Fld := ⟨0x40e00014 + 0x10000 * (g % 16) + 0x8 * (s % 2), 0, 4, 0⟩

/-! FCH_FENCE, spec/08_flash_channels.md -/
def FCH_FENCE.DIES (g i : Nat) : Fld := ⟨0x40e00040 + 0x10000 * (g % 16) + 0x4 * (i % 4), 0, 32, 0⟩

/-! FCH_CALRES, spec/08_flash_channels.md -/
def FCH_CALRES.KIND (g : Nat) : Fld := ⟨0x40e00060 + 0x10000 * (g % 16), 20, 4, 0⟩
def FCH_CALRES.DIE (g : Nat) : Fld := ⟨0x40e00060 + 0x10000 * (g % 16), 12, 8, 0⟩
def FCH_CALRES.EYEFAIL (g : Nat) : Fld := ⟨0x40e00060 + 0x10000 * (g % 16), 3, 1, 0⟩
def FCH_CALRES.PRECOND (g : Nat) : Fld := ⟨0x40e00060 + 0x10000 * (g % 16), 0, 3, 0⟩

/-! FCH_CHEVT, spec/08_flash_channels.md -/
def FCH_CHEVT.STATE (g k : Nat) : Fld := ⟨0x40e00080 + 0x10000 * (g % 16) + 0x4 * (k % 8), 3, 1, 0⟩
def FCH_CHEVT.CALFAIL (g k : Nat) : Fld := ⟨0x40e00080 + 0x10000 * (g % 16) + 0x4 * (k % 8), 2, 1, 0⟩
def FCH_CHEVT.FAULT (g k : Nat) : Fld := ⟨0x40e00080 + 0x10000 * (g % 16) + 0x4 * (k % 8), 1, 1, 0⟩
def FCH_CHEVT.RECAL (g k : Nat) : Fld := ⟨0x40e00080 + 0x10000 * (g % 16) + 0x4 * (k % 8), 0, 1, 0⟩

/-! DRF_CTRL, spec/09_flash_descriptors.md -/
def DRF_CTRL.RESET (e : Nat) : Fld := ⟨0x41000000 + 0x2000 * (e % 128), 31, 1, 0⟩
def DRF_CTRL.RUN (e : Nat) : Fld := ⟨0x41000000 + 0x2000 * (e % 128), 0, 1, 0⟩

/-! DRF_STAT, spec/09_flash_descriptors.md -/
def DRF_STAT.STATE (e : Nat) : Fld := ⟨0x41000004 + 0x2000 * (e % 128), 29, 3, 0⟩
def DRF_STAT.ERR (e : Nat) : Fld := ⟨0x41000004 + 0x2000 * (e % 128), 28, 1, 0⟩
def DRF_STAT.EPOCH (e : Nat) : Fld := ⟨0x41000004 + 0x2000 * (e % 128), 0, 16, 0⟩

/-! DRF_QBASE, spec/09_flash_descriptors.md -/
def DRF_QBASE.BASE (e : Nat) : Fld := ⟨0x41000008 + 0x2000 * (e % 128), 14, 8, e⟩

/-! DRF_QCFG, spec/09_flash_descriptors.md -/
def DRF_QCFG.MAINT (e : Nat) : Fld := ⟨0x4100000c + 0x2000 * (e % 128), 12, 4, 5⟩
def DRF_QCFG.BACKGROUND (e : Nat) : Fld := ⟨0x4100000c + 0x2000 * (e % 128), 8, 4, 6⟩
def DRF_QCFG.HOST (e : Nat) : Fld := ⟨0x4100000c + 0x2000 * (e % 128), 4, 4, 7⟩
def DRF_QCFG.TAIL (e : Nat) : Fld := ⟨0x4100000c + 0x2000 * (e % 128), 0, 4, 5⟩

/-! DRF_CQBASE, spec/09_flash_descriptors.md -/
def DRF_CQBASE.BASE (e : Nat) : Fld := ⟨0x41000010 + 0x2000 * (e % 128), 12, 10, 0x200 + e⟩
def DRF_CQBASE.LOG2 (e : Nat) : Fld := ⟨0x41000010 + 0x2000 * (e % 128), 0, 4, 8⟩

/-! DRF_CQPTR, spec/09_flash_descriptors.md -/
def DRF_CQPTR.WIDX (e : Nat) : Fld := ⟨0x41000014 + 0x2000 * (e % 128), 16, 10, 0⟩
def DRF_CQPTR.HEAD (e : Nat) : Fld := ⟨0x41000014 + 0x2000 * (e % 128), 0, 10, 0⟩

/-! DRF_SUBMIT, spec/09_flash_descriptors.md -/
def DRF_SUBMIT.CLASS (e : Nat) : Fld := ⟨0x41000020 + 0x2000 * (e % 128), 30, 2, 0⟩
def DRF_SUBMIT.SRC (e : Nat) : Fld := ⟨0x41000020 + 0x2000 * (e % 128), 6, 16, 0⟩

/-! DRF_QSTAT, spec/09_flash_descriptors.md -/
def DRF_QSTAT.OVF (e c : Nat) : Fld := ⟨0x41000030 + 0x2000 * (e % 128) + 0x4 * (c % 4), 31, 1, 0⟩
def DRF_QSTAT.HELD (e c : Nat) : Fld := ⟨0x41000030 + 0x2000 * (e % 128) + 0x4 * (c % 4), 16, 9, 0⟩
def DRF_QSTAT.FREE (e c : Nat) : Fld := ⟨0x41000030 + 0x2000 * (e % 128) + 0x4 * (c % 4), 0, 9, 0⟩

/-! DRF_ERRCNT, spec/09_flash_descriptors.md -/
def DRF_ERRCNT.TIMEOUT (e : Nat) : Fld := ⟨0x41000040 + 0x2000 * (e % 128), 24, 8, 0⟩
def DRF_ERRCNT.PFAIL (e : Nat) : Fld := ⟨0x41000040 + 0x2000 * (e % 128), 16, 8, 0⟩
def DRF_ERRCNT.UNCORR (e : Nat) : Fld := ⟨0x41000040 + 0x2000 * (e % 128), 8, 8, 0⟩
def DRF_ERRCNT.INVALID (e : Nat) : Fld := ⟨0x41000040 + 0x2000 * (e % 128), 0, 8, 0⟩

/-! DRF_SUSPCNT, spec/09_flash_descriptors.md -/
def DRF_SUSPCNT.SUSPENDS (e : Nat) : Fld := ⟨0x41000044 + 0x2000 * (e % 128), 16, 16, 0⟩
def DRF_SUSPCNT.DIEBUSY (e : Nat) : Fld := ⟨0x41000044 + 0x2000 * (e % 128), 0, 16, 0⟩

/-! DRF_EVT, spec/09_flash_descriptors.md -/
def DRF_EVT.CQFULL (e : Nat) : Fld := ⟨0x41000048 + 0x2000 * (e % 128), 4, 1, 0⟩
def DRF_EVT.HALT (e : Nat) : Fld := ⟨0x41000048 + 0x2000 * (e % 128), 3, 1, 0⟩
def DRF_EVT.TIMEOUT (e : Nat) : Fld := ⟨0x41000048 + 0x2000 * (e % 128), 2, 1, 0⟩
def DRF_EVT.FAIL (e : Nat) : Fld := ⟨0x41000048 + 0x2000 * (e % 128), 1, 1, 0⟩
def DRF_EVT.CQ (e : Nat) : Fld := ⟨0x41000048 + 0x2000 * (e % 128), 0, 1, 0⟩

/-! DRF_DIEERR, spec/09_flash_descriptors.md -/
def DRF_DIEERR.DIE (e : Nat) : Fld := ⟨0x4100004c + 0x2000 * (e % 128), 0, 16, 0⟩

/-! DRF_ARB, spec/09_flash_descriptors.md -/
def DRF_ARB.HOST (e : Nat) : Fld := ⟨0x41000050 + 0x2000 * (e % 128), 16, 8, 8⟩
def DRF_ARB.BACKGROUND (e : Nat) : Fld := ⟨0x41000050 + 0x2000 * (e % 128), 8, 8, 4⟩
def DRF_ARB.MAINT (e : Nat) : Fld := ⟨0x41000050 + 0x2000 * (e % 128), 0, 8, 2⟩

/-! DRF_DEPOCH, spec/09_flash_descriptors.md -/
def DRF_DEPOCH.EN (e d : Nat) : Fld := ⟨0x41000080 + 0x2000 * (e % 128) + 0x4 * (d % 16), 31, 1, 0⟩
def DRF_DEPOCH.MINEPOCH (e d : Nat) : Fld := ⟨0x41000080 + 0x2000 * (e % 128) + 0x4 * (d % 16), 0, 16, 0⟩

/-! DRF_PSADDR, spec/10_drift_microcode.md -/
def DRF_PSADDR.INDEX (e : Nat) : Fld := ⟨0x41000100 + 0x2000 * (e % 128), 0, 10, 0⟩

/-! DRF_PSDATA, spec/10_drift_microcode.md -/
def DRF_PSDATA.WORD (e : Nat) : Fld := ⟨0x41000104 + 0x2000 * (e % 128), 0, 32, 0⟩

/-! DRF_LMADDR, spec/10_drift_microcode.md -/
def DRF_LMADDR.ADDR (e : Nat) : Fld := ⟨0x41000108 + 0x2000 * (e % 128), 2, 13, 0⟩

/-! DRF_LMDATA, spec/10_drift_microcode.md -/
def DRF_LMDATA.WORD (e : Nat) : Fld := ⟨0x4100010c + 0x2000 * (e % 128), 0, 32, 0⟩

/-! DRF_FAULT, spec/10_drift_microcode.md -/
def DRF_FAULT.VALID (e : Nat) : Fld := ⟨0x41000110 + 0x2000 * (e % 128), 31, 1, 0⟩
def DRF_FAULT.CODE (e : Nat) : Fld := ⟨0x41000110 + 0x2000 * (e % 128), 24, 5, 0⟩
def DRF_FAULT.CTX (e : Nat) : Fld := ⟨0x41000110 + 0x2000 * (e % 128), 16, 5, 0⟩
def DRF_FAULT.PC (e : Nat) : Fld := ⟨0x41000110 + 0x2000 * (e % 128), 0, 13, 0⟩

/-! DRF_GEOM, spec/10_drift_microcode.md -/
def DRF_GEOM.PLANEBITS (e : Nat) : Fld := ⟨0x41000114 + 0x2000 * (e % 128), 4, 2, 2⟩
def DRF_GEOM.PAGEBITS (e : Nat) : Fld := ⟨0x41000114 + 0x2000 * (e % 128), 0, 4, 0xb⟩

/-! DRF_LIBVER, spec/10_drift_microcode.md -/
def DRF_LIBVER.VERSION (e : Nat) : Fld := ⟨0x41000118 + 0x2000 * (e % 128), 0, 32, 0x10004⟩

/-! DRF_PSCRC, spec/10_drift_microcode.md -/
def DRF_PSCRC.CRC (e : Nat) : Fld := ⟨0x4100011c + 0x2000 * (e % 128), 0, 32, 0⟩

/-! ECC_CTRL, spec/11_flash_ecc_integrity.md -/
def ECC_CTRL.DCLR : Fld := ⟨0x41200000, 1, 1, 0⟩
def ECC_CTRL.SOFT_EN : Fld := ⟨0x41200000, 0, 1, 1⟩

/-! ECC_STAT, spec/11_flash_ecc_integrity.md -/
def ECC_STAT.CANDLOST : Fld := ⟨0x41200004, 24, 8, 0⟩
def ECC_STAT.ERR : Fld := ⟨0x41200004, 23, 1, 0⟩
def ECC_STAT.MODE : Fld := ⟨0x41200004, 16, 1, 0⟩
def ECC_STAT.CANDS : Fld := ⟨0x41200004, 0, 11, 0⟩

/-! ECC_THR, spec/11_flash_ecc_integrity.md -/
def ECC_THR.RELOC : Fld := ⟨0x41200008, 8, 8, 0x40⟩
def ECC_THR.REPORT : Fld := ⟨0x41200008, 0, 8, 0x20⟩

/-! ECC_GUARDCNT, spec/11_flash_ecc_integrity.md -/
def ECC_GUARDCNT.READFAIL : Fld := ⟨0x4120000c, 16, 16, 0⟩
def ECC_GUARDCNT.WRITEFAIL : Fld := ⟨0x4120000c, 0, 16, 0⟩

/-! ECC_CAND, spec/11_flash_ecc_integrity.md -/
def ECC_CAND.ENTRY : Fld := ⟨0x41200010, 0, 64, 0⟩

/-! ECC_DSEL, spec/11_flash_ecc_integrity.md -/
def ECC_DSEL.KIND : Fld := ⟨0x41200018, 12, 2, 0⟩
def ECC_DSEL.DIE : Fld := ⟨0x41200018, 0, 11, 0⟩

/-! ECC_DDATA, spec/11_flash_ecc_integrity.md -/
def ECC_DDATA.COUNT : Fld := ⟨0x4120001c, 0, 32, 0⟩

/-! ECC_PROF, spec/11_flash_ecc_integrity.md -/
def ECC_PROF.SOFT (n : Nat) : Fld := ⟨0x41200100 + 0x4 * (n % 16), 31, 1, if n < 14 then 1 else 0⟩
def ECC_PROF.CODE (n : Nat) : Fld := ⟨0x41200100 + 0x4 * (n % 16), 29, 2, if n < 14 then 0 else 1⟩
def ECC_PROF.SOFTB (n : Nat) : Fld := ⟨0x41200100 + 0x4 * (n % 16), 20, 4, if n < 14 then 2 else 0⟩
def ECC_PROF.SOFTA (n : Nat) : Fld := ⟨0x41200100 + 0x4 * (n % 16), 16, 4, if n < 14 then 1 else 0⟩
def ECC_PROF.LRATE (n : Nat) : Fld := ⟨0x41200100 + 0x4 * (n % 16), 13, 3, if n = 1 ∨ 14 ≤ n then 0 else 2⟩
def ECC_PROF.BCHT (n : Nat) : Fld := ⟨0x41200100 + 0x4 * (n % 16), 0, 8, if n = 14 then 0x28 else if n = 15 then 0x48 else 0⟩

/-! MSH_CTRL, spec/12_redundancy.md -/
def MSH_CTRL.PATROL_EN : Fld := ⟨0x41400000, 3, 1, 0⟩
def MSH_CTRL.AUTOSPARE : Fld := ⟨0x41400000, 2, 1, 1⟩
def MSH_CTRL.AUTOFAIL : Fld := ⟨0x41400000, 1, 1, 1⟩
def MSH_CTRL.EN : Fld := ⟨0x41400000, 0, 1, 0⟩

/-! MSH_STAT, spec/12_redundancy.md -/
def MSH_STAT.ERR : Fld := ⟨0x41400004, 31, 1, 0⟩
def MSH_STAT.TBLFULL : Fld := ⟨0x41400004, 30, 1, 0⟩
def MSH_STAT.REBUILDS : Fld := ⟨0x41400004, 16, 8, 0⟩
def MSH_STAT.EPOCH : Fld := ⟨0x41400004, 0, 16, 0⟩

/-! MSH_DCMD, spec/12_redundancy.md -/
def MSH_DCMD.OP : Fld := ⟨0x41400010, 28, 4, 0⟩
def MSH_DCMD.DONE : Fld := ⟨0x41400010, 27, 1, 1⟩
def MSH_DCMD.DIE : Fld := ⟨0x41400010, 0, 11, 0⟩

/-! MSH_DARG, spec/12_redundancy.md -/
def MSH_DARG.SSET : Fld := ⟨0x41400014, 16, 12, 0⟩
def MSH_DARG.POS : Fld := ⟨0x41400014, 0, 7, 0⟩

/-! MSH_DSTATE, spec/12_redundancy.md -/
def MSH_DSTATE.STATE : Fld := ⟨0x41400018, 28, 4, 0⟩
def MSH_DSTATE.SSET : Fld := ⟨0x41400018, 16, 12, 0⟩
def MSH_DSTATE.POS : Fld := ⟨0x41400018, 8, 7, 0⟩

/-! MSH_PSEL, spec/12_redundancy.md -/
def MSH_PSEL.SSET : Fld := ⟨0x41400020, 16, 12, 0⟩
def MSH_PSEL.POS : Fld := ⟨0x41400020, 0, 7, 0⟩

/-! MSH_PDATA, spec/12_redundancy.md -/
def MSH_PDATA.PRESENT : Fld := ⟨0x41400024, 31, 1, 0⟩
def MSH_PDATA.VACANT : Fld := ⟨0x41400024, 30, 1, 0⟩
def MSH_PDATA.RBROW : Fld := ⟨0x41400024, 16, 14, 0⟩
def MSH_PDATA.DIE : Fld := ⟨0x41400024, 0, 11, 0⟩

/-! MSH_LOST, spec/12_redundancy.md -/
def MSH_LOST.NEW : Fld := ⟨0x41400030, 17, 15, 0⟩
def MSH_LOST.ENTRIES : Fld := ⟨0x41400030, 0, 17, 0⟩

/-! MSH_RSHP, spec/12_redundancy.md -/
def MSH_RSHP.GO : Fld := ⟨0x41400040, 31, 1, 0⟩
def MSH_RSHP.BUSY : Fld := ⟨0x41400040, 30, 1, 0⟩
def MSH_RSHP.ERR : Fld := ⟨0x41400040, 29, 1, 0⟩
def MSH_RSHP.DST : Fld := ⟨0x41400040, 8, 6, 0⟩
def MSH_RSHP.SRC : Fld := ⟨0x41400040, 0, 6, 0⟩

/-! MSH_PATCNT, spec/12_redundancy.md -/
def MSH_PATCNT.PASSES : Fld := ⟨0x41400050, 24, 8, 0⟩
def MSH_PATCNT.LOC : Fld := ⟨0x41400050, 12, 12, 0⟩
def MSH_PATCNT.UNLOC : Fld := ⟨0x41400050, 0, 12, 0⟩

/-! MSH_RCPSEL, spec/12_redundancy.md -/
def MSH_RCPSEL.RECIPE : Fld := ⟨0x41400100, 8, 4, 0⟩
def MSH_RCPSEL.WORD : Fld := ⟨0x41400100, 0, 7, 0⟩

/-! MSH_RCPDATA, spec/12_redundancy.md -/
def MSH_RCPDATA.WORD : Fld := ⟨0x41400104, 0, 32, 0⟩

/-! MSH_SSET, spec/12_redundancy.md -/
def MSH_SSET.VALID (s : Nat) : Fld := ⟨0x41410000 + 0x4 * (s % 4096), 31, 1, 0⟩
def MSH_SSET.RECIPE (s : Nat) : Fld := ⟨0x41410000 + 0x4 * (s % 4096), 24, 4, 0⟩
def MSH_SSET.DEGR (s : Nat) : Fld := ⟨0x41410000 + 0x4 * (s % 4096), 8, 8, 0⟩

/-! HLD_CTRL, spec/13_protected_cache_holdup.md -/
def HLD_CTRL.CHECK_NOW : Fld := ⟨0x41600000, 2, 1, 0⟩
def HLD_CTRL.DRAIN : Fld := ⟨0x41600000, 1, 1, 0⟩
def HLD_CTRL.EN : Fld := ⟨0x41600000, 0, 1, 0⟩

/-! HLD_STAT, spec/13_protected_cache_holdup.md -/
def HLD_STAT.STATE : Fld := ⟨0x41600004, 28, 4, 0⟩
def HLD_STAT.OV : Fld := ⟨0x41600004, 27, 1, 0⟩
def HLD_STAT.STOREBAD : Fld := ⟨0x41600004, 26, 1, 0⟩
def HLD_STAT.MAINGOOD : Fld := ⟨0x41600004, 25, 1, 0⟩
def HLD_STAT.SLOTFREE : Fld := ⟨0x41600004, 23, 2, 0⟩
def HLD_STAT.DUMPDIES : Fld := ⟨0x41600004, 16, 7, 0⟩

/-! HLD_SENSE, spec/13_protected_cache_holdup.md -/
def HLD_SENSE.HU : Fld := ⟨0x41600008, 16, 12, 0⟩
def HLD_SENSE.MAIN : Fld := ⟨0x41600008, 0, 12, 0⟩

/-! HLD_CNT, spec/13_protected_cache_holdup.md -/
def HLD_CNT.RIDES : Fld := ⟨0x4160000c, 16, 16, 0⟩
def HLD_CNT.CHECKS : Fld := ⟨0x4160000c, 0, 16, 0⟩

/-! HLD_DUMP, spec/13_protected_cache_holdup.md -/
def HLD_DUMP.VALID : Fld := ⟨0x41600010, 31, 1, 0⟩
def HLD_DUMP.INCOMPLETE : Fld := ⟨0x41600010, 30, 1, 0⟩
def HLD_DUMP.ERASURES : Fld := ⟨0x41600010, 20, 8, 0⟩
def HLD_DUMP.DURATION : Fld := ⟨0x41600010, 0, 20, 0⟩

/-! HLD_GEN, spec/13_protected_cache_holdup.md -/
def HLD_GEN.GEN : Fld := ⟨0x41600014, 0, 32, 0⟩

/-! TUB_CTRL, spec/14_memory_tub_pool.md -/
def TUB_CTRL.EN : Fld := ⟨0x41800000, 0, 1, 0⟩

/-! TUB_STAT, spec/14_memory_tub_pool.md -/
def TUB_STAT.ENERR : Fld := ⟨0x41800004, 31, 1, 0⟩
def TUB_STAT.RELERR : Fld := ⟨0x41800004, 30, 1, 0⟩
def TUB_STAT.HPARERR : Fld := ⟨0x41800004, 29, 1, 0⟩
def TUB_STAT.OWNERR : Fld := ⟨0x41800004, 28, 1, 0⟩
def TUB_STAT.FREE : Fld := ⟨0x41800004, 0, 17, 0⟩

/-! TUB_SPLIT, spec/14_memory_tub_pool.md -/
def TUB_SPLIT.P : Fld := ⟨0x41800008, 0, 17, 49152⟩

/-! TUB_WAITCNT, spec/14_memory_tub_pool.md -/
def TUB_WAITCNT.COUNT : Fld := ⟨0x4180000c, 0, 32, 0⟩

/-! TUB_RSV, spec/14_memory_tub_pool.md -/
def TUB_RSV.PROT (i : Nat) : Fld := ⟨0x41800100 + 0x4 * (i % 12), 16, 16, [16384, 4608, 0, 2048, 4096].getD i 0⟩
def TUB_RSV.UNPROT (i : Nat) : Fld := ⟨0x41800100 + 0x4 * (i % 12), 0, 16, [4096, 2048, 2048, 2048, 0, 0, 0, 0, 256, 256, 256, 256].getD i 0⟩

/-! TUB_HELD, spec/14_memory_tub_pool.md -/
def TUB_HELD.PROT (i : Nat) : Fld := ⟨0x41800140 + 0x4 * (i % 12), 16, 16, 0⟩
def TUB_HELD.UNPROT (i : Nat) : Fld := ⟨0x41800140 + 0x4 * (i % 12), 0, 16, 0⟩

/-! TUB_REQ, spec/14_memory_tub_pool.md -/
def TUB_REQ.CLASS (m : Nat) : Fld := ⟨0x41800200 + 0x8 * (m % 4), 31, 1, 0⟩
def TUB_REQ.OP (m : Nat) : Fld := ⟨0x41800200 + 0x8 * (m % 4), 27, 4, 0⟩
def TUB_REQ.COUNT (m : Nat) : Fld := ⟨0x41800200 + 0x8 * (m % 4), 16, 11, 0⟩
def TUB_REQ.TUB (m : Nat) : Fld := ⟨0x41800200 + 0x8 * (m % 4), 0, 16, 0⟩

/-! TUB_RES, spec/14_memory_tub_pool.md -/
def TUB_RES.STATE (m : Nat) : Fld := ⟨0x41800204 + 0x8 * (m % 4), 30, 2, 0⟩
def TUB_RES.HEAD (m : Nat) : Fld := ⟨0x41800204 + 0x8 * (m % 4), 0, 16, 0⟩

/-! TUB_REL, spec/14_memory_tub_pool.md -/
def TUB_REL.OP : Fld := ⟨0x41800220, 28, 4, 0⟩
def TUB_REL.TUB : Fld := ⟨0x41800220, 0, 16, 0⟩

/-! TUB_WSEL, spec/14_memory_tub_pool.md -/
def TUB_WSEL.SEL : Fld := ⟨0x41800230, 0, 16, 0⟩

/-! TUB_WHDR, spec/14_memory_tub_pool.md -/
def TUB_WHDR.HDR : Fld := ⟨0x41800234, 0, 64, 0⟩

/-! TUB_WUSE, spec/14_memory_tub_pool.md -/
def TUB_WUSE.USE : Fld := ⟨0x4180023c, 0, 32, 0⟩

/-! MEM_CTRL, spec/14_memory_tub_pool.md -/
def MEM_CTRL.CCLR : Fld := ⟨0x41a00000, 2, 1, 0⟩
def MEM_CTRL.LEGACY : Fld := ⟨0x41a00000, 1, 1, 0⟩
def MEM_CTRL.LOCK : Fld := ⟨0x41a00000, 0, 1, 0⟩

/-! MEM_STAT, spec/14_memory_tub_pool.md -/
def MEM_STAT.LOCKERR : Fld := ⟨0x41a00004, 31, 1, 0⟩
def MEM_STAT.RETERR : Fld := ⟨0x41a00004, 30, 1, 0⟩
def MEM_STAT.PARCNT : Fld := ⟨0x41a00004, 0, 16, 0⟩

/-! MEM_PARERR, spec/14_memory_tub_pool.md -/
def MEM_PARERR.VALID : Fld := ⟨0x41a00008, 31, 1, 0⟩
def MEM_PARERR.MASTER : Fld := ⟨0x41a00008, 16, 8, 0⟩
def MEM_PARERR.BYTES : Fld := ⟨0x41a00008, 8, 8, 0⟩
def MEM_PARERR.ADDR_HI : Fld := ⟨0x41a00008, 0, 8, 0⟩

/-! MEM_PARADDR, spec/14_memory_tub_pool.md -/
def MEM_PARADDR.ADDR_LO : Fld := ⟨0x41a0000c, 0, 32, 0⟩

/-! MEM_RETIRE, spec/14_memory_tub_pool.md -/
def MEM_RETIRE.GO : Fld := ⟨0x41a00010, 31, 1, 0⟩
def MEM_RETIRE.DONE : Fld := ⟨0x41a00010, 30, 1, 1⟩
def MEM_RETIRE.BANK : Fld := ⟨0x41a00010, 16, 6, 0⟩
def MEM_RETIRE.ROW : Fld := ⟨0x41a00010, 0, 11, 0⟩

/-! MEM_CSEL, spec/14_memory_tub_pool.md -/
def MEM_CSEL.MASTER : Fld := ⟨0x41a00020, 0, 8, 0⟩

/-! MEM_CDATA, spec/14_memory_tub_pool.md -/
def MEM_CDATA.COUNT : Fld := ⟨0x41a00024, 0, 32, 0⟩

/-! MEM_BANKASN, spec/14_memory_tub_pool.md -/
def MEM_BANKASN.OWNER (n : Nat) : Fld := ⟨0x41a00100 + 0x4 * (n % 56), 28, 4, if n < 16 then 2 else if n < 28 then 3 else if n < 44 then 4 else if n < 48 then 1 else 0⟩
def MEM_BANKASN.SPARE (n : Nat) : Fld := ⟨0x41a00100 + 0x4 * (n % 56), 0, 4, if n < 48 then 8 else 4⟩

/-! CIP_CAP, spec/15_cipher_secure_domain.md -/
def CIP_CAP.DRBG : Fld := ⟨0x41c00000, 2, 1, 1⟩
def CIP_CAP.GCM : Fld := ⟨0x41c00000, 1, 1, 1⟩
def CIP_CAP.XTS : Fld := ⟨0x41c00000, 0, 1, 1⟩

/-! CIP_STAT, spec/15_cipher_secure_domain.md -/
def CIP_STAT.MCLOW : Fld := ⟨0x41c00004, 2, 1, 0⟩
def CIP_STAT.WINDOW : Fld := ⟨0x41c00004, 1, 1, 0⟩
def CIP_STAT.RNGOK : Fld := ⟨0x41c00004, 0, 1, 0⟩

/-! CIP_GRING, spec/15_cipher_secure_domain.md -/
def CIP_GRING.BASE : Fld := ⟨0x41c00010, 12, 10, 0⟩
def CIP_GRING.LOG2 : Fld := ⟨0x41c00010, 0, 4, 4⟩

/-! CIP_GTAIL, spec/15_cipher_secure_domain.md -/
def CIP_GTAIL.TAIL : Fld := ⟨0x41c00014, 0, 10, 0⟩

/-! CIP_GHEAD, spec/15_cipher_secure_domain.md -/
def CIP_GHEAD.HEAD : Fld := ⟨0x41c00018, 0, 10, 0⟩

/-! CIP_ERRCNT, spec/15_cipher_secure_domain.md -/
def CIP_ERRCNT.XTSMIS : Fld := ⟨0x41c00020, 24, 8, 0⟩
def CIP_ERRCNT.GCMMIS : Fld := ⟨0x41c00020, 16, 8, 0⟩
def CIP_ERRCNT.TAGFAIL : Fld := ⟨0x41c00020, 0, 16, 0⟩

/-! CIP_RNG, spec/15_cipher_secure_domain.md -/
def CIP_RNG.WORD : Fld := ⟨0x41c00030, 0, 32, 0⟩

/-! CIP_REKEY, spec/15_cipher_secure_domain.md -/
def CIP_REKEY.GO : Fld := ⟨0x41c00040, 31, 1, 0⟩
def CIP_REKEY.DONE : Fld := ⟨0x41c00040, 30, 1, 1⟩
def CIP_REKEY.ERR : Fld := ⟨0x41c00040, 29, 1, 0⟩
def CIP_REKEY.CONTEXT : Fld := ⟨0x41c00040, 0, 8, 0⟩

/-! CIP_RSWCNT, spec/15_cipher_secure_domain.md -/
def CIP_RSWCNT.COUNT : Fld := ⟨0x41c00050, 0, 32, 0⟩

/-! CIP_RSWCAP, spec/15_cipher_secure_domain.md -/
def CIP_RSWCAP.VALID : Fld := ⟨0x41c00054, 31, 1, 0⟩
def CIP_RSWCAP.MASTER : Fld := ⟨0x41c00054, 27, 4, 0⟩
def CIP_RSWCAP.BLOCK : Fld := ⟨0x41c00054, 22, 5, 0⟩
def CIP_RSWCAP.OFFSET : Fld := ⟨0x41c00054, 0, 20, 0⟩

/-! CIP_LEASESTAT, spec/15_cipher_secure_domain.md -/
def CIP_LEASESTAT.REFUSALS : Fld := ⟨0x41c00060, 16, 16, 0⟩
def CIP_LEASESTAT.HELD : Fld := ⟨0x41c00060, 0, 5, 0x1f⟩

/-! CIP_BOOTSTAT, spec/15_cipher_secure_domain.md -/
def CIP_BOOTSTAT.RESULT : Fld := ⟨0x41c00070, 28, 4, 0⟩
def CIP_BOOTSTAT.SOURCE : Fld := ⟨0x41c00070, 24, 4, 0⟩
def CIP_BOOTSTAT.SVN : Fld := ⟨0x41c00070, 16, 8, 0⟩
def CIP_BOOTSTAT.SCHEMES : Fld := ⟨0x41c00070, 0, 2, 0⟩

/-! CIP_LEASE, spec/15_cipher_secure_domain.md -/
def CIP_LEASE.FORCE : Fld := ⟨0x41c80000, 8, 5, 0⟩
def CIP_LEASE.HOLD : Fld := ⟨0x41c80000, 0, 5, 0x1f⟩

/-! EVT_SRC, spec/16_control_cluster_startup.md -/
def EVT_SRC.EN (n : Nat) : Fld := ⟨0x41e00000 + 0x4 * (n % 512), 31, 1, if 288 ≤ n ∧ n ≤ 319 then 1 else 0⟩
def EVT_SRC.TARGET (n : Nat) : Fld := ⟨0x41e00000 + 0x4 * (n % 512), 28, 3, if 288 ≤ n ∧ n ≤ 319 then 4 else 0⟩
def EVT_SRC.OVF (n : Nat) : Fld := ⟨0x41e00000 + 0x4 * (n % 512), 1, 1, 0⟩
def EVT_SRC.PEND (n : Nat) : Fld := ⟨0x41e00000 + 0x4 * (n % 512), 0, 1, 0⟩

/-! EVT_CLAIM, spec/16_control_cluster_startup.md -/
def EVT_CLAIM.VALID (t : Nat) : Fld := ⟨0x41e01000 + 0x4 * (t % 6), 31, 1, 0⟩
def EVT_CLAIM.SOURCE (t : Nat) : Fld := ⟨0x41e01000 + 0x4 * (t % 6), 0, 9, 0⟩

/-! EVT_SWTRIG, spec/16_control_cluster_startup.md -/
def EVT_SWTRIG.SOURCE : Fld := ⟨0x41e01100, 0, 9, 0⟩

/-! EVT_AEN, spec/16_control_cluster_startup.md -/
def EVT_AEN.TYPE : Fld := ⟨0x41e01200, 29, 3, 0⟩
def EVT_AEN.INFO : Fld := ⟨0x41e01200, 21, 8, 0⟩
def EVT_AEN.LOG : Fld := ⟨0x41e01200, 13, 8, 0⟩
def EVT_AEN.ALL : Fld := ⟨0x41e01200, 12, 1, 0⟩
def EVT_AEN.FUNC : Fld := ⟨0x41e01200, 0, 9, 0⟩

/-! PWR_CTRL, spec/17_power_thermal.md -/
def PWR_CTRL.IDLE_EN : Fld := ⟨0x42000000, 0, 1, 1⟩

/-! PWR_REQ, spec/17_power_thermal.md -/
def PWR_REQ.GO : Fld := ⟨0x42000004, 31, 1, 0⟩
def PWR_REQ.TARGET : Fld := ⟨0x42000004, 0, 3, 0⟩

/-! PWR_STAT, spec/17_power_thermal.md -/
def PWR_STAT.STATE : Fld := ⟨0x42000008, 29, 3, 0⟩
def PWR_STAT.CTRL : Fld := ⟨0x42000008, 27, 2, 0⟩
def PWR_STAT.TARGET : Fld := ⟨0x42000008, 24, 3, 0⟩
def PWR_STAT.WAKEPEND : Fld := ⟨0x42000008, 23, 1, 0⟩
def PWR_STAT.PS : Fld := ⟨0x42000008, 20, 3, 0⟩
def PWR_STAT.ABORTS : Fld := ⟨0x42000008, 0, 16, 0⟩

/-! PWR_LAST, spec/17_power_thermal.md -/
def PWR_LAST.DOMAIN : Fld := ⟨0x4200000c, 20, 6, 0⟩
def PWR_LAST.CODE : Fld := ⟨0x4200000c, 16, 4, 0⟩
def PWR_LAST.MASTER : Fld := ⟨0x4200000c, 12, 4, 0⟩

/-! PWR_DOMREQ, spec/17_power_thermal.md -/
def PWR_DOMREQ.OP : Fld := ⟨0x42000010, 30, 2, 0⟩
def PWR_DOMREQ.DOMAIN : Fld := ⟨0x42000010, 0, 6, 0⟩

/-! PWR_ANS, spec/17_power_thermal.md -/
def PWR_ANS.ANS (i : Nat) : Fld := ⟨0x42000020 + 0x4 * (i % 4), 30, 2, 0⟩

/-! PWR_DOM, spec/17_power_thermal.md -/
def PWR_DOM.STATE (d : Nat) : Fld := ⟨0x42000100 + 0x4 * (d % 48), 30, 2, 0⟩
def PWR_DOM.DLYMAX (d : Nat) : Fld := ⟨0x42000100 + 0x4 * (d % 48), 0, 16, if d = 18 then 0x7D0 else 5⟩

/-! PWR_DCNT, spec/17_power_thermal.md -/
def PWR_DCNT.REFUSALS (d : Nat) : Fld := ⟨0x42000200 + 0x4 * (d % 48), 16, 16, 0⟩
def PWR_DCNT.DELAYS (d : Nat) : Fld := ⟨0x42000200 + 0x4 * (d % 48), 0, 16, 0⟩

/-! THM_CTRL, spec/17_power_thermal.md -/
def THM_CTRL.SUSPCLR : Fld := ⟨0x42200000, 31, 1, 0⟩
def THM_CTRL.NANDEN : Fld := ⟨0x42200000, 0, 1, 0⟩

/-! THM_STAT, spec/17_power_thermal.md -/
def THM_STAT.LEVEL : Fld := ⟨0x42200004, 30, 2, 0⟩
def THM_STAT.HWLEVEL : Fld := ⟨0x42200004, 28, 2, 0⟩
def THM_STAT.EPOCH : Fld := ⟨0x42200004, 16, 12, 0⟩
def THM_STAT.SUSPECT : Fld := ⟨0x42200004, 0, 16, 0⟩

/-! THM_DEVT, spec/17_power_thermal.md -/
def THM_DEVT.TEMP : Fld := ⟨0x42200008, 0, 16, 0⟩

/-! THM_NAND, spec/17_power_thermal.md -/
def THM_NAND.TEMP : Fld := ⟨0x4220000c, 0, 16, 0⟩

/-! THM_SENS, spec/17_power_thermal.md -/
def THM_SENS.DEV (i : Nat) : Fld := ⟨0x42200100 + 0x4 * (i % 16), 16, 2, 0⟩
def THM_SENS.TEMP (i : Nat) : Fld := ⟨0x42200100 + 0x4 * (i % 16), 0, 16, 0⟩

/-! MGT_CTRL, spec/8_object_dictionary_network.md -/
def MGT_CTRL.MCTP_EN : Fld := ⟨0x42400000, 1, 1, 1⟩
def MGT_CTRL.NET_EN : Fld := ⟨0x42400000, 0, 1, 1⟩

/-! MGT_STAT, spec/8_object_dictionary_network.md -/
def MGT_STAT.NODE : Fld := ⟨0x42400004, 27, 5, 0⟩
def MGT_STAT.COORD : Fld := ⟨0x42400004, 26, 1, 0⟩
def MGT_STAT.NETUP : Fld := ⟨0x42400004, 25, 1, 0⟩
def MGT_STAT.CFG : Fld := ⟨0x42400004, 23, 2, 0⟩
def MGT_STAT.SESSIONS : Fld := ⟨0x42400004, 0, 6, 0⟩

/-! MGT_FREQ, spec/8_object_dictionary_network.md -/
def MGT_FREQ.GO : Fld := ⟨0x42400010, 31, 1, 0⟩
def MGT_FREQ.DONE : Fld := ⟨0x42400010, 30, 1, 1⟩
def MGT_FREQ.OP : Fld := ⟨0x42400010, 28, 2, 0⟩
def MGT_FREQ.INDEX : Fld := ⟨0x42400010, 8, 16, 0⟩
def MGT_FREQ.SUB : Fld := ⟨0x42400010, 0, 8, 0⟩

/-! MGT_FLEN, spec/8_object_dictionary_network.md -/
def MGT_FLEN.TYPE : Fld := ⟨0x42400014, 16, 8, 0⟩
def MGT_FLEN.SIZE : Fld := ⟨0x42400014, 0, 13, 0⟩

/-! MGT_FRES, spec/8_object_dictionary_network.md -/
def MGT_FRES.ABORT : Fld := ⟨0x42400018, 0, 16, 0⟩

/-! MGT_NETCNT, spec/8_object_dictionary_network.md -/
def MGT_NETCNT.DROPPED : Fld := ⟨0x42400020, 16, 16, 0⟩
def MGT_NETCNT.RXERR : Fld := ⟨0x42400020, 0, 16, 0⟩

/-! MGT_SESCNT, spec/8_object_dictionary_network.md -/
def MGT_SESCNT.TAGFAIL : Fld := ⟨0x42400024, 16, 16, 0⟩
def MGT_SESCNT.REFUSED : Fld := ⟨0x42400024, 0, 16, 0⟩

/-! EVR_CTRL, spec/19_event_recorder_tally.md -/
def EVR_CTRL.STEP : Fld := ⟨0x42600000, 3, 1, 0⟩
def EVR_CTRL.CLRLAST : Fld := ⟨0x42600000, 2, 1, 0⟩
def EVR_CTRL.FLUSH : Fld := ⟨0x42600000, 1, 1, 0⟩
def EVR_CTRL.EN : Fld := ⟨0x42600000, 0, 1, 1⟩

/-! EVR_STAT, spec/19_event_recorder_tally.md -/
def EVR_STAT.BUSY : Fld := ⟨0x42600004, 31, 1, 0⟩
def EVR_STAT.FIRSTFULL : Fld := ⟨0x42600004, 30, 1, 0⟩
def EVR_STAT.NOAREA : Fld := ⟨0x42600004, 29, 1, 0⟩
def EVR_STAT.PEND : Fld := ⟨0x42600004, 16, 11, 0⟩
def EVR_STAT.SUPP : Fld := ⟨0x42600004, 0, 16, 0⟩

/-! EVR_TRIG, spec/19_event_recorder_tally.md -/
def EVR_TRIG.GO : Fld := ⟨0x42600008, 31, 1, 0⟩
def EVR_TRIG.VALUE : Fld := ⟨0x42600008, 0, 16, 0⟩

/-! EVR_CUR, spec/19_event_recorder_tally.md -/
def EVR_CUR.SEQ : Fld := ⟨0x42600010, 0, 64, 0⟩

/-! EVR_WST, spec/19_event_recorder_tally.md -/
def EVR_WST.STATE : Fld := ⟨0x42600018, 30, 2, 3⟩
def EVR_WST.CRCERR : Fld := ⟨0x42600018, 29, 1, 0⟩

/-! EVR_WIN, spec/19_event_recorder_tally.md -/
def EVR_WIN.WORD (i : Nat) : Fld := ⟨0x42600100 + 0x4 * (i % 24), 0, 32, 0⟩

/-! TLY_CTRL, spec/19_event_recorder_tally.md -/
def TLY_CTRL.SNAP : Fld := ⟨0x42800000, 0, 1, 0⟩

/-! TLY_STAT, spec/19_event_recorder_tally.md -/
def TLY_STAT.EPOCH : Fld := ⟨0x42800004, 0, 32, 0⟩

/-! TLY_SEL, spec/19_event_recorder_tally.md -/
def TLY_SEL.AGE : Fld := ⟨0x42800008, 28, 3, 0⟩
def TLY_SEL.COUNTER : Fld := ⟨0x42800008, 0, 12, 0⟩

/-! TLY_VAL, spec/19_event_recorder_tally.md -/
def TLY_VAL.VALUE : Fld := ⟨0x42800010, 0, 64, 0⟩

/-! TLY_VEPOCH, spec/19_event_recorder_tally.md -/
def TLY_VEPOCH.EPOCH : Fld := ⟨0x42800018, 0, 32, 0⟩

/-! SAF_CTRL, spec/safety_fault_classification.md -/
def SAF_CTRL.SCRUB_EN : Fld := ⟨0x42a00000, 2, 1, 1⟩
def SAF_CTRL.PST_EN : Fld := ⟨0x42a00000, 1, 1, 1⟩
def SAF_CTRL.WDOG_EN : Fld := ⟨0x42a00000, 0, 1, 1⟩

/-! SAF_STAT, spec/safety_fault_classification.md -/
def SAF_STAT.SEV : Fld := ⟨0x42a00004, 28, 4, 0⟩
def SAF_STAT.TYPE : Fld := ⟨0x42a00004, 20, 8, 0⟩
def SAF_STAT.VERDICT : Fld := ⟨0x42a00004, 18, 2, 0⟩
def SAF_STAT.LASTING : Fld := ⟨0x42a00004, 0, 16, 0⟩

/-! SAF_FADDR, spec/20_safety_fault_classification.md -/
def SAF_FADDR.ADDR : Fld := ⟨0x42a00008, 0, 40, 0⟩

/-! SAF_WDOG, spec/safety_fault_classification.md -/
def SAF_WDOG.KICK (n : Nat) : Fld := ⟨0x42a00020 + 0x4 * (n % 6), 31, 1, 0⟩
def SAF_WDOG.TIMEOUT (n : Nat) : Fld := ⟨0x42a00020 + 0x4 * (n % 6), 0, 5, 8⟩

/-! SAF_D2DCNT, spec/safety_fault_classification.md -/
def SAF_D2DCNT.RETRIED : Fld := ⟨0x42a00040, 16, 16, 0⟩
def SAF_D2DCNT.FAILED : Fld := ⟨0x42a00040, 0, 16, 0⟩

/-! SAF_PST, spec/safety_fault_classification.md -/
def SAF_PST.FAILED : Fld := ⟨0x42a00044, 0, 9, 0⟩

/-! TST_LBCTL, spec/21_test_loopbacks.md -/
def TST_LBCTL.GO (k : Nat) : Fld := ⟨0x42c00000 + 0x20 * (k % 4), 31, 1, 0⟩
def TST_LBCTL.STOP (k : Nat) : Fld := ⟨0x42c00000 + 0x20 * (k % 4), 30, 1, 0⟩
def TST_LBCTL.INTF (k : Nat) : Fld := ⟨0x42c00000 + 0x20 * (k % 4), 24, 4, 0⟩
def TST_LBCTL.DEPTH (k : Nat) : Fld := ⟨0x42c00000 + 0x20 * (k % 4), 20, 4, 1⟩
def TST_LBCTL.PAT (k : Nat) : Fld := ⟨0x42c00000 + 0x20 * (k % 4), 18, 2, 2⟩
def TST_LBCTL.INDEX (k : Nat) : Fld := ⟨0x42c00000 + 0x20 * (k % 4), 8, 4, 0⟩
def TST_LBCTL.DURATION (k : Nat) : Fld := ⟨0x42c00000 + 0x20 * (k % 4), 0, 8, 0xa⟩

/-! TST_LBSTAT, spec/21_test_loopbacks.md -/
def TST_LBSTAT.STATE (k : Nat) : Fld := ⟨0x42c00004 + 0x20 * (k % 4), 30, 2, 0⟩
def TST_LBSTAT.REASON (k : Nat) : Fld := ⟨0x42c00004 + 0x20 * (k % 4), 26, 4, 0⟩
def TST_LBSTAT.ERRORS (k : Nat) : Fld := ⟨0x42c00004 + 0x20 * (k % 4), 0, 24, 0⟩

/-! TST_LBBITS, spec/21_test_loopbacks.md -/
def TST_LBBITS.BITS (k : Nat) : Fld := ⟨0x42c00008 + 0x20 * (k % 4), 0, 64, 0⟩

/-! TST_LBWORD, spec/21_test_loopbacks.md -/
def TST_LBWORD.WORD (k : Nat) : Fld := ⟨0x42c00010 + 0x20 * (k % 4), 0, 32, 0⟩

/-! TST_LBLANE, spec/21_test_loopbacks.md -/
def TST_LBLANE.LANES (k : Nat) : Fld := ⟨0x42c00014 + 0x20 * (k % 4), 0, 32, 0⟩

/-! TST_BIST, spec/21_test_loopbacks.md -/
def TST_BIST.GO : Fld := ⟨0x42c00100, 31, 1, 0⟩
def TST_BIST.TYPE : Fld := ⟨0x42c00100, 8, 2, 0⟩
def TST_BIST.TARGET : Fld := ⟨0x42c00100, 0, 8, 0⟩

/-! TST_BISTRES, spec/21_test_loopbacks.md -/
def TST_BISTRES.STATE : Fld := ⟨0x42c00104, 30, 2, 0⟩
def TST_BISTRES.PASS : Fld := ⟨0x42c00104, 29, 1, 0⟩
def TST_BISTRES.NFAIL : Fld := ⟨0x42c00104, 12, 11, 0⟩
def TST_BISTRES.FIRST : Fld := ⟨0x42c00104, 0, 11, 0⟩

/-! TST_DBG, spec/21_test_loopbacks.md -/
def TST_DBG.REQ : Fld := ⟨0x42c00200, 31, 1, 0⟩
def TST_DBG.BUSY : Fld := ⟨0x42c00200, 30, 1, 0⟩
def TST_DBG.LEVEL : Fld := ⟨0x42c00200, 28, 2, 0⟩
def TST_DBG.UNLOCKED : Fld := ⟨0x42c00200, 26, 2, 0⟩
def TST_DBG.FAILS : Fld := ⟨0x42c00200, 24, 2, 0⟩

/-! TST_DBGCHAL, spec/21_test_loopbacks.md -/
def TST_DBGCHAL.WORD (i : Nat) : Fld := ⟨0x42c00210 + 0x4 * (i % 8), 0, 32, 0⟩

/-! AON_RET, spec/17_power_thermal.md -/
def AON_RET.WORD (i : Nat) : Fld := ⟨0x42e00000 + 0x4 * (i % 16), 0, 32, 0⟩

/-! AON_RTC, spec/17_power_thermal.md -/
def AON_RTC.COUNT : Fld := ⟨0x42e00040, 0, 48, 0⟩

/-! AON_ALARM, spec/17_power_thermal.md -/
def AON_ALARM.COUNT : Fld := ⟨0x42e00048, 0, 48, 0⟩

/-! AON_WAKE, spec/17_power_thermal.md -/
def AON_WAKE.CAUSE : Fld := ⟨0x42e00050, 16, 8, 0⟩
def AON_WAKE.EN : Fld := ⟨0x42e00050, 0, 8, 1⟩

end Sys2Proof.Machine
end

