-- ==== Sys2Proof/Machine/Tab.lean ====
section
/-! DEFINITION. Machine/Tab.lean: the sparse table every keyed store of the model is kept in: rising keys, and no entry
equal to what an unlisted key reads as, so that equal contents are equal data. -/

namespace Sys2Proof.Machine

/-- A sparse table by key. What an unlisted key reads as is an argument of every operation (`d`). -/
abbrev Tab (V : Type) := List (Nat × V)

namespace Tab

/-- The value at key `k`; an unlisted key reads `d`. -/
def get {V : Type} (d : V) : Tab V → Nat → V
  | [], _ => d
  | (j, v) :: t, k => if j = k then v else get d t k

/-- The table without key `k`. -/
def erase {V : Type} : Tab V → Nat → Tab V
  | [], _ => []
  | (j, v) :: t, k => if j = k then erase t k else (j, v) :: erase t k

/-- The table with `(k, v)` put before the first larger key. -/
def insert {V : Type} (t : Tab V) (k : Nat) (v : V) : Tab V :=
  match t with
  | [] => [(k, v)]
  | (j, u) :: r => if k < j then (k, v) :: (j, u) :: r else (j, u) :: insert r k v

/-- The table with key `k` reading `v`; writing the value an unlisted key reads as removes the entry. -/
def set {V : Type} [DecidableEq V] (d : V) (t : Tab V) (k : Nat) (v : V) : Tab V :=
  if v = d then erase t k else insert (erase t k) k v

/-- The keys strictly rise. -/
def rising {V : Type} : Tab V → Bool
  | [] => true
  | [_] => true
  | (j, _) :: (k, v) :: t => decide (j < k) && rising ((k, v) :: t)

/-- The canonical form: keys strictly rise and no entry equals what an unlisted key reads as. -/
def wf {V : Type} [DecidableEq V] (d : V) (t : Tab V) : Bool :=
  rising t && t.all fun e => decide (e.2 ≠ d)

/-- The table with every key that `p` marks reading `d` again. -/
def clear {V : Type} (t : Tab V) (p : Nat → Bool) : Tab V := t.filter fun e => !p e.1

/-- The table with `f` applied at key `k`. -/
def upd {V : Type} [DecidableEq V] (d : V) (t : Tab V) (k : Nat) (f : V → V) : Tab V := set d t k (f (get d t k))

end Tab
end Sys2Proof.Machine
end

