-- ==== Sys2Proof/Machine/State.lean ====
section
/-! DEFINITION. Machine/State.lean: everything the spec gives the KDV8128 that changes, as plain data. Register fields
stand in `State.regs` (keyed by address and place, see Machine/RegFields.lean); everything else stands in one structure
per subsystem. Each field's line cites the file and rule of spec/ that names it; INVENTORY.md lists the reset values. -/

namespace Sys2Proof.Machine

/-- What the part carries for life, and its fuses (chapters 00, 15). -/
structure Ident where
  /-- the part is a KDV8128-BN; KDV8128-BC at reset (DESIGN CHOICE: the spec gives two parts) (1 bit; 00 R3) -/
  bn : Bool := false
  deriving DecidableEq, Repr

/-- Register space, SRAM and bus-fault state beside the register fields (chapter 01). -/
structure BusIf where
  /-- high-half shadows, key pairAddr * 16 + master; zero after reset (R44) (32 bits for each RL/RH pair and each master 0-15; 01 R42) -/
  shadow : Tab Nat := []
  /-- staged low halves of 64-bit writes, key pairAddr * 16 + master; none staged at reset (32 bits and a valid mark for each RW pair and each master; 00 R17) -/
  staged : Tab (Option Nat) := []
  /-- dual-port SRAM, large banks and secure-domain SRAM, bytes by address; cleared to zero by R451 (4 MiB + 96 MiB + 1 MiB bytes; 01 R29) -/
  mem : List Host.Cell := []
  /-- load-reserved reservation of each master; none at reset (one granule address or none for each master; 14 R440) -/
  resv : Tab (Option Nat) := []
  /-- the model's own wire: the value the master's last read returned (32 bits for each master; 00 R14) -/
  rdata : Tab Nat := []
  /-- the model's own wire: the cause with which the master's last access ended; 0 none (4 bits for each master; 01 R45) -/
  rfault : Tab Nat := []
  deriving DecidableEq, Repr

/-- Bell time, lock loop, mode epochs and power-up sequence beside the BEL registers (chapter 02). -/
structure Bell where
  /-- FRAME of Bell time, zero at cold start (40 bits; 02 R61) -/
  frame : Nat := 0
  /-- SLOT of Bell time (6 bits; 02 R58) -/
  slot : Nat := 0
  /-- PHASE of Bell time (10 bits; 02 R58) -/
  phase : Nat := 0
  /-- reference-clock cycles since the slot began (the divider of the internal source) (16 bits; 02 R57) -/
  cycles : Nat := 0
  /-- rate correction of the running slot: its length change (signed ns; 02 R60) -/
  corr : Int := 0
  /-- rate correction of the slot that follows the last mark (signed ns; 02 R60) -/
  corrNext : Int := 0
  /-- slot period in force, us; BEL_CTRL.PERIOD is the one last written (11 bits; 02 R53) -/
  periodNow : Nat := 500
  /-- frame-count preset waiting for its moment (40 bits and a valid mark; 02 R61) -/
  presetPend : Option Nat := none
  /-- configured slot mask in force (64 bits; 02 R64) -/
  maskNow : Nat := 0xFFFFFFFFFFFFFFFF
  /-- configured budget in force (16 bits; 02 R64) -/
  budgetNow : Nat := 7500
  /-- configured read reserve in force (16 bits; 02 R64) -/
  reserveNow : Nat := 1200
  /-- start interval in force, ns (32 bits; 02 R64) -/
  startIntNow : Nat := 5000
  /-- reference-cycle count at which a high-current operation last started (64 bits and a valid mark; 02 R67) -/
  lastHcStart : Option Nat := none
  /-- next candidate slot expected in CONFIRM (6 bits; 02 R62) -/
  cand : Nat := 0
  /-- offset of the preceding frame mark while LOCKED (6 bits and a valid mark; 02 R62) -/
  lastSlip : Option Nat := none
  /-- a Bell-frame notice was received: the next beacon is a frame mark (1 bit; 02 R55) -/
  frameNotice : Bool := false
  /-- mode word in force (32 bits; 02 R79) -/
  modeWord : Nat := 0
  /-- mode word before the last requested commit (32 bits; 02 R81) -/
  modePrev : Nat := 0
  /-- captured staged word waiting for its boundary (32 bits and a valid mark; 02 R78) -/
  modePend : Option Nat := none
  /-- captured AT_SLOT (6 bits; 02 R78) -/
  modeAt : Nat := 0
  /-- captured ANY (1 bit; 02 R78) -/
  modeAny : Bool := true
  /-- captured ROLLBACK (1 bit; 02 R78) -/
  modeRb : Bool := false
  /-- a rollback commit waits for the next boundary (1 bit; 02 R81) -/
  rbPend : Bool := false
  /-- slot boundaries since the commit (3 bits; 02 R81) -/
  modeAge : Nat := 0
  /-- units that have reported the current mode epoch (150 bits; 02 R80) -/
  modeDone : List Nat := []
  /-- units fenced by a mode commit and not yet reset (150 bits; 02 R82) -/
  modeFenced : List Nat := []
  /-- a power-up sequence runs (1 bit; 02 R73) -/
  puActive : Bool := true
  /-- groups of the sequence still to enable (16 bits; 02 R73) -/
  puMask : Nat := 0xFFFF
  /-- assigned slots still to leave unused (4 bits; 02 R73) -/
  puSkip : Nat := 0
  /-- the lock wait is over: enables may start (1 bit; 02 R74) -/
  puOpen : Bool := false
  /-- the sequence's slot mask while LOCKED, fixed at its start; after VAON loss the fallback mask for node ID 0 (64 bits; 02 R75) -/
  puCfg : Nat := 0x1111111111111111
  /-- the sequence's fallback mask, fixed at its start (64 bits; 02 R75) -/
  puFall : Nat := 0x1111111111111111
  /-- the sequence's SPACING, fixed at its start (4 bits; 02 R75) -/
  puStep : Nat := 1
  /-- the sequence has enabled a group (1 bit; 02 R73) -/
  puDid : Bool := false
  deriving DecidableEq, Repr

/-- The answer to a configuration request (R108). -/
inductive CfgResp where
  | none | crs | data (v : Nat) | done | unsupported
  deriving DecidableEq, Repr

/-- One PCIe port (chapter 03). -/
structure Port where
  /-- PERSTp_N held low by the board (1 bit; 03 R107) -/
  perst : Bool := true
  /-- captured bus number (8 bits; 03 R97) -/
  bus : Nat := 0
  /-- highest rate advertised at the last link training (3 bits; 03 R90) -/
  trainRate : Nat := 6
  /-- FLIT mode advertised at the last link training (1 bit; 03 R92) -/
  trainFlit : Bool := true
  /-- link training runs (1 bit; 03 R107) -/
  training : Bool := false
  /-- width the port requests of its partner by L0p; 0 none or full (4 bits; 03 R94) -/
  l0pReq : Nat := 0
  /-- virtual functions enabled in the SR-IOV capability; 0 with VF Enable clear (9 bits; 03 R97) -/
  vfNum : Nat := 0
  /-- cached ATS translations, oldest first (1024 entries; 03 R106) -/
  ats : List Nat := []
  /-- subsystem identifiers in force since the port's last conventional reset; none: the default, equal to 0x1004:00 (32 bits; 03 R98) -/
  subsys : Option Nat := none
  /-- the host's enables of ASPM L1, L1.1 and L1.2 (3 bits; 03 R95) -/
  aspm : Nat := 0
  /-- LTR enabled (1 bit; 03 R95) -/
  ltr : Bool := false
  /-- PTM requester enabled (1 bit; 03 R106) -/
  ptm : Bool := false
  /-- CLKREQp_N released (1 bit; 03 R95) -/
  clkOff : Bool := false
  /-- non-posted requests the last host transfer had outstanding (10 bits; 03 R101) -/
  npOut : Nat := 0
  /-- the port's readiness timed out: every function reports CSTS.CFS (1 bit; 03 R108) -/
  cfsAll : Bool := false
  /-- the model's own wire: routing ID of the function that answered the last request (16 bits; 03 R97) -/
  cfgRid : Nat := 0
  /-- the model's own count of completed ATS invalidations (32 bits; 03 R106) -/
  atsDone : Nat := 0
  /-- the model's own wire: answer to the last configuration request (one answer; 03 R108) -/
  cfgResp : CfgResp := .none
  /-- WAKEp_N asserted (1 bit; 03 R114) -/
  wakeOut : Bool := false
  deriving DecidableEq, Repr

/-- PCIe host link beside the PCI registers (chapter 03). -/
structure Pci where
  /-- port 0 (port record; 03 R88) -/
  port0 : Port := {}
  /-- port 1 (port record; 03 R88) -/
  port1 : Port := {}
  /-- the straps have been sampled since the last cold start (1 bit; 03 R87) -/
  strapped : Bool := false
  /-- the model's own wire: functions whose PME messages left (16 bits each; 03 R102) -/
  pmeMsgs : List Nat := []
  /-- the model's own count of FLITs or TLPs delivered (32 bits; 03 R93) -/
  delivered : Nat := 0
  deriving DecidableEq, Repr

/-- The command a context holds, after its fetch (chapters 04 to 07). Fields a command does not use are 0. -/
inductive Op where
  | read | write | writeZeroes | flush | verify | fence | append
  | deallocate | ruhUpdate | ruhStatus
  | zoneOpen | zoneClose | zoneFinish | zoneReset | zoneOffline | report
  | admin (opcode : Nat)
  deriving DecidableEq, Repr

/-- One piece of a write, Write Zeroes or append (R139). -/
structure Piece where
  /-- first logical block (64 bits; 04 R139) -/
  lba : Nat := 0
  /-- blocks (17 bits; 04 R139) -/
  n : Nat := 0
  /-- block contents held in protected tubs once fetched (4 KiB each; 04 R141) -/
  data : List Nat := []
  /-- protection information of the blocks (8 bytes each; 11 R367) -/
  metas : List Nat := []
  /-- first tub of its protected chain plus 1; 0 none (16 bits and a valid mark; 14 R453) -/
  head : Nat := 0
  /-- its tub request is made and not yet taken up (1 bit; 14 R456) -/
  asked : Bool := false
  /-- it has been dispatched and waits for an erased row (1 bit; 06 R203) -/
  rowWait : Bool := false
  /-- dispatched to media: its zone holds a row, or its handle a reclaim unit (1 bit; 06 R203) -/
  placed : Bool := false
  /-- data, deltas and guards are in protected tubs (1 bit; 04 R141) -/
  fetched : Bool := false
  /-- the piece has committed (1 bit; 04 R141) -/
  committed : Bool := false
  deriving DecidableEq, Repr

/-- One command context (R119). -/
structure Cmd where
  /-- admission ticket (64 bits; 04 R121) -/
  ticket : Nat := 0
  /-- issuing function (9 bits; 04 R119) -/
  fn : Nat := 0
  /-- submission queue (16 bits; 04 R133) -/
  sqid : Nat := 0
  /-- command identifier (16 bits; 04 R154) -/
  cid : Nat := 0
  /-- the command as its row gives it, with its operands (the model's own link) (a command; 04 R154) -/
  req : Option Instr := none
  /-- what the command does (the decoded command; 04 R154) -/
  op : Op := .flush
  /-- namespace (32 bits; 04 R154) -/
  nsid : Nat := 0
  /-- first logical block of its range (assigned at admission for an append) (64 bits; 04 R126) -/
  lba : Nat := 0
  /-- blocks of its range (32 bits; 04 R126) -/
  n : Nat := 0
  /-- ranges of a Dataset Management command (up to 256 ranges; 07 R233) -/
  ranges : List (Nat × Nat) := []
  /-- descriptors of the zones it touches: of a read with WP_ADMIT at its admission, of a Zone Management Send with what its commit journals and releases (descriptors and 26 bits each; 06 R195, R212) -/
  zones : List (Nat × Nat) := []
  /-- action-specific bits (Select All, RUH, protection bits) (32 bits; 04 R154) -/
  arg : Nat := 0
  /-- pieces of a writing command (up to 9 pieces; 04 R139) -/
  pieces : List Piece := []
  /-- command-bucket debit position (64 bits; 05 R159) -/
  pos : Nat := 0
  /-- byte-bucket debit position (64 bits; 05 R159) -/
  bpos : Nat := 0
  /-- its queue was ordered for its ticket (1 bit; 04 R135) -/
  ordered : Bool := false
  /-- its function was tail class for its ticket (1 bit; 05 R166) -/
  tail : Bool := false
  /-- Deterministic Admission was on for its ticket (1 bit; 04 R151) -/
  da : Bool := true
  /-- Bell time of its admission (64 bits; 06 R190) -/
  bt : Nat := 0
  /-- dispatched (1 bit; 04 R129) -/
  dispatched : Bool := false
  /-- media blocks a dispatched read still waits for (32 bits; 04 R126) -/
  waits : Nat := 0
  /-- blocks a read has collected (lba and 4 KiB each; 04 R126) -/
  got : List (Nat × Nat) := []
  /-- status of the protection-information check that its data fails, given once its blocks are there (11 bits and a valid mark; 11 R368) -/
  piFail : Option Nat := none
  /-- decided outcome, waiting for its turn to post (16 bits and a valid mark; 04 R145) -/
  status : Option Nat := none
  /-- completion Dwords 0 and 1 (64 bits; 04 R133) -/
  dw0 : Nat := 0
  /-- Vendor Specific Information of its Error Information log entry (8 bits; 11 R366) -/
  vsi : Nat := 0
  /-- bytes it transfers over the link, beside the blocks of a read, write or append (32 bits; 05 R159) -/
  xfer : Nat := 0
  deriving DecidableEq, Repr

/-- One admission ticket not yet admitted (R121). -/
structure Tick where
  /-- ticket number (64 bits; 04 R121) -/
  ticket : Nat := 0
  /-- function (9 bits; 04 R121) -/
  fn : Nat := 0
  /-- queue (16 bits; 04 R121) -/
  sqid : Nat := 0
  deriving DecidableEq, Repr

/-- One completion posted to a host queue. -/
structure Cpl where
  /-- function (9 bits; 04 R119) -/
  fn : Nat := 0
  /-- completion queue (16 bits; 04 R119) -/
  cqid : Nat := 0
  /-- submission queue (16 bits; 04 R119) -/
  sqid : Nat := 0
  /-- command identifier (16 bits; 04 R119) -/
  cid : Nat := 0
  /-- ticket of the command (64 bits; 04 R119) -/
  ticket : Nat := 0
  /-- status: code type * 256 + code (16 bits; 04 R145) -/
  status : Nat := 0
  /-- Dwords 0 and 1 (64 bits; 04 R133) -/
  dw0 : Nat := 0
  /-- data transferred to the host: 4 KiB blocks or a data structure's fields (returned data; 04 R126) -/
  data : List Nat := []
  deriving DecidableEq, Repr

/-- One submission queue context (R115). -/
structure Sq where
  /-- entries; 0: the context is free (17 bits; 04 R118) -/
  size : Nat := 0
  /-- completion queue (16 bits; 04 R116) -/
  cqid : Nat := 0
  /-- arbitration class: 0 urgent, 1 high, 2 medium, 3 low (2 bits; 04 R129) -/
  prio : Nat := 0
  /-- next entry to fetch (16 bits; 04 R124) -/
  head : Nat := 0
  /-- last tail observed (16 bits; 04 R121) -/
  tail : Nat := 0
  /-- Ordered attribute for tickets above ordFrom (1 bit; 04 R133) -/
  ordered : Bool := false
  /-- attribute for tickets not above ordFrom (1 bit; 04 R134) -/
  ordPrev : Bool := false
  /-- ticket above which ordered applies (64 bits; 04 R134) -/
  ordFrom : Nat := 0
  deriving DecidableEq, Repr

/-- One completion queue context (R115). -/
structure Cq where
  /-- entries; 0: the context is free (17 bits; 04 R118) -/
  size : Nat := 0
  /-- posted entries the host has not freed (17 bits; 04 R124) -/
  used : Nat := 0
  /-- head last written by the host (16 bits; 04 R124) -/
  head : Nat := 0
  /-- MSI-X vector (11 bits; 03 R103) -/
  vec : Nat := 0
  /-- interrupts enabled (1 bit; 03 R105) -/
  ien : Bool := false
  deriving DecidableEq, Repr

/-- One doorbell write held unobserved (R122). -/
structure Doorbell where
  /-- function (9 bits; 04 R122) -/
  fn : Nat := 0
  /-- queue (16 bits; 04 R122) -/
  qid : Nat := 0
  /-- value written (16 bits; 04 R122) -/
  tail : Nat := 0
  /-- a completion queue's head doorbell (1 bit; 04 R124) -/
  cq : Bool := false
  deriving DecidableEq, Repr

/-- One NVMe function (chapters 03 to 05). -/
structure Fn where
  /-- CC.EN (1 bit; 04 R116) -/
  en : Bool := false
  /-- CSTS.RDY (1 bit; 16 R518) -/
  rdy : Bool := false
  /-- CSTS.CFS (1 bit; 03 R108) -/
  cfs : Bool := false
  /-- CC.AMS (3 bits; 04 R129) -/
  ams : Nat := 0
  /-- NSQ as applied at the last CC.EN transition (14 bits; 04 R116) -/
  nsq : Nat := 0
  /-- NCQ as applied at the last CC.EN transition (14 bits; 04 R116) -/
  ncq : Nat := 0
  /-- power state D3hot (1 bit; 03 R102) -/
  d3 : Bool := false
  /-- PME_En (1 bit; 03 R114) -/
  pmeEn : Bool := false
  /-- PME_Status (1 bit; 03 R102) -/
  pmeStat : Bool := false
  /-- Max Payload Size in force, bytes (3-bit code; 03 R101) -/
  mps : Nat := 128
  /-- Max Read Request Size in force, bytes (3-bit code; 03 R101) -/
  mrrs : Nat := 512
  /-- 10-Bit Tag Requester Enable (1 bit; 03 R101) -/
  tag10 : Bool := false
  /-- ATS enable (1 bit; 03 R106) -/
  atsEn : Bool := false
  /-- AER uncorrectable error status (32 bits; 03 R106) -/
  aerUnc : Nat := 0
  /-- AER correctable error status (32 bits; 03 R106) -/
  aerCor : Nat := 0
  /-- AER header log (4 or 14 words; 03 R106) -/
  aerHdr : List Nat := []
  /-- Bus Master Enable (1 bit; 05 R179) -/
  busMaster : Bool := false
  /-- MSI-X Enable (1 bit; 03 R103) -/
  msixEn : Bool := false
  /-- MSI-X Function Mask (1 bit; 03 R103) -/
  msixMask : Bool := false
  /-- address and data words of the MSI-X table, key vector * 4 + word (2,048 entries of 3 words; 03 R99) -/
  msixTab : Tab Nat := []
  /-- vectors whose mask bit is clear (2,048 bits; 03 R99) -/
  msixOpen : List Nat := []
  /-- the pending-bit array (2,048 bits; 03 R99) -/
  msixPend : List Nat := []
  /-- MSI-X allocation in force; 0: the default of R104 (12 bits; 03 R103) -/
  vecs : Nat := 0
  /-- what is left of the weighted round robin weights of classes high, medium and low (three weights; 04 R129) -/
  wrr : List Nat := []
  /-- I/O submission queue the function's arbitration served last (16 bits; 04 R129) -/
  rrQ : Nat := 0
  /-- commands of the Arbitration Burst that queue may still have dispatched (32 bits; 04 R129) -/
  rrLeft : Nat := 0
  /-- response of the last NVMe-MI Send, for NVMe-MI Receive (response message; 04 R154) -/
  miResp : List Nat := []
  /-- arbitration deficit, cost units (signed; 04 R129) -/
  deficit : Int := 0
  /-- current values of its standard features, by feature identifier (32 bits each; 04 R154) -/
  feats : Tab Nat := []
  /-- command-bucket debit D (64 bits; 05 R159) -/
  dC : Nat := 0
  /-- command-bucket credit C, in 1/25,000,000 command (64 bits scaled; 05 R160) -/
  cC : Nat := 6400000000
  /-- byte-bucket debit D (64 bits; 05 R159) -/
  dB : Nat := 0
  /-- byte-bucket credit C, in 1/(25,000,000 * 4096) unit of 4 KiB (64 bits scaled; 05 R160) -/
  cB : Nat := 52428800000000
  /-- reference-cycle count at which C was last brought up to date (64 bits; 05 R160) -/
  tAt : Nat := 0
  /-- event 214 raised for it in this frame (1 bit; 05 R181) -/
  tokEv : Bool := false
  /-- share of the running frame (11 bits; 05 R166) -/
  shareNow : Nat := 1024
  /-- tail classes of tickets not yet admitted, each up to a ticket, the lowest first (64 bits and 1 bit each; 05 R166) -/
  tailPast : List (Nat × Bool) := []
  /-- held Asynchronous Event Requests: cid and ticket (at most 8; 16 R507) -/
  aers : List (Nat × Nat) := []
  /-- pending asynchronous events, oldest first, as the Dword 0 they complete with (at most 16; 16 R507) -/
  events : List Nat := []
  /-- posted events whose type is masked until their log page is read, as the Dword 0 they completed with (8 event types; 16 R507) -/
  masked : List Nat := []
  /-- Error Information log: ticket, status and Vendor Specific Information, newest first (64 entries; 04 R152) -/
  errLog : List (Nat × Nat × Nat) := []
  /-- IN_MSG of the mailbox page (16 words; 05 R176) -/
  inMsg : Tab Nat := []
  /-- OUT_MSG of the mailbox page (16 words; 05 R176) -/
  outMsg : Tab Nat := []
  /-- STATUS.OUT_FULL (1 bit; 05 R178) -/
  outFull : Bool := false
  /-- STATUS.IN_BUSY (1 bit; 05 R177) -/
  inBusy : Bool := false
  /-- STATUS.RING_ERR (1 bit; 05 R179) -/
  ringErr : Bool := false
  /-- STATUS.IN_OVERRUN (1 bit; 05 R177) -/
  inOver : Bool := false
  /-- STATUS.IN_TAKEN (1 bit; 05 R178) -/
  inTaken : Bool := false
  /-- STATUS.OUT_NEW (1 bit; 05 R178) -/
  outNew : Bool := false
  /-- VECTOR (11 bits; 05 R176) -/
  vector : Nat := 0
  /-- VECTOR.EN (1 bit; 05 R176) -/
  vecEn : Bool := false
  /-- RING_LO (32 bits; 05 R176) -/
  ringLo : Nat := 0
  /-- RING_HI (32 bits; 05 R176) -/
  ringHi : Nat := 0
  /-- RING_SIZE (5 bits; 05 R176) -/
  ringSize : Nat := 12
  /-- FNS_MBX[f], delivered inbound message (16 words; 05 R177) -/
  mbxIn : Tab Nat := []
  /-- FNS_MBX[f], outbound staging buffer (16 words; 05 R178) -/
  mbxOut : Tab Nat := []
  /-- FNS_RING[f], committed base (64 bits; 05 R179) -/
  ringBase : Nat := 0
  /-- FNS_RING[f], committed size exponent (5 bits; 05 R179) -/
  ringExp : Nat := 0
  deriving DecidableEq, Repr

/-- NVMe front end beside the HFE registers (chapter 04). -/
structure Hfe where
  /-- the functions (512 records; 04 R115) -/
  fns : Tab Fn := []
  /-- submission queues, key fn * 65536 + qid (16384 contexts; 04 R115) -/
  sqs : Tab Sq := []
  /-- completion queues, key fn * 65536 + qid (16384 contexts; 04 R115) -/
  cqs : Tab Cq := []
  /-- tickets taken and not yet admitted, in ticket order (queue; 04 R121) -/
  tickets : List Tick := []
  /-- admitted commands, in ticket order (65536 contexts; 04 R119) -/
  ctx : List Cmd := []
  /-- doorbell writes not yet observed, in arrival order (queue; 04 R122) -/
  held : List Doorbell := []
  /-- the model's own record of completions posted, oldest first (unbounded; 04 R119) -/
  posted : List Cpl := []
  /-- the model's own record of MSI-X messages sent: function and vector (unbounded; 03 R105) -/
  msix : List (Nat × Nat) := []
  /-- protected chain that holds a block, as its head plus 1, key nsid * 2^40 + lba (16 bits and a valid mark; 14 R453) -/
  blkTub : Tab Nat := []
  /-- blocks a protected chain still holds, by its head (blocks; 14 R460) -/
  tubLeft : Tab Nat := []
  /-- first unit (4 KiB) of the piece whose chain starts at a tub, by that tub (48 bits each; 14 R453) -/
  tubBase : Tab Nat := []
  /-- admission stopped by a committed dump (1 bit; 04 R143) -/
  stopped : Bool := false
  /-- Deterministic Admission of tickets not yet admitted, each up to a ticket, the lowest first (64 bits and 1 bit each; 04 R151) -/
  daPast : List (Nat × Bool) := []
  /-- firmware image bytes downloaded, by offset (bytes; 04 R154) -/
  fwBuf : Tab Nat := []
  /-- Device Self-test in progress: its code; 0 none (4 bits; 04 R154) -/
  selfTest : Nat := 0
  /-- error count of the Error Information log (64 bits; 04 R152) -/
  errSeq : Nat := 0
  deriving DecidableEq, Repr

/-- Function sharing beside the FNS registers and the function records (chapter 05). -/
structure Fns where
  /-- die-time counters, key account * 2048 + die (20 bits each; 05 R170) -/
  charge : Tab Nat := []
  /-- pairs deferred in this frame, key account * 2048 + die (513 * 2048 bits; 05 R172) -/
  deferred : List Nat := []
  deriving DecidableEq, Repr

/-- Zone states of Table 6.2 (STATE); `free` also stands for a free descriptor. -/
inductive ZState where
  | free | empty | implicit | explicit | closed | readOnly | full | offline
  deriving DecidableEq, Repr

/-- One zone descriptor (Table 6.2); a reclaim unit uses the same record. -/
structure Zone where
  /-- STATE (4 bits; 06 R189) -/
  state : ZState := .free
  /-- KIND: 0 free, 1 zone, 2 reclaim unit (2 bits; 06 R189) -/
  kind : Nat := 0
  /-- WP_COMMIT (26 bits; 06 R189) -/
  wpCommit : Nat := 0
  /-- NSIDX (6 bits; 06 R189) -/
  nsidx : Nat := 0
  /-- WP_ADMIT (26 bits; 06 R189) -/
  wpAdmit : Nat := 0
  /-- SSET (12 bits; 06 R189) -/
  sset : Nat := 0
  /-- ROWNUM (14 bits; 06 R189) -/
  rownum : Nat := 0
  /-- RSPAN (3 bits; 06 R189) -/
  rspan : Nat := 0
  /-- WEAR (3 bits; 06 R189) -/
  wear : Nat := 0
  /-- RUH (8 bits; 06 R189) -/
  ruh : Nat := 0
  /-- RG (7 bits; 06 R189) -/
  rg : Nat := 0
  /-- FZR (1 bit; 06 R189) -/
  fzr : Bool := false
  /-- RZR (1 bit; 06 R189) -/
  rzr : Bool := false
  /-- ZFC (1 bit; 06 R189) -/
  zfc : Bool := false
  /-- VOID (1 bit; 06 R189) -/
  void : Bool := false
  /-- HASROW (1 bit; 06 R189) -/
  hasrow : Bool := false
  /-- BT_LO and BT_HI (64 bits; 06 R189) -/
  bt : Nat := 0
  /-- PEND (exact count, shown in 16 bits; 06 R189) -/
  pend : Nat := 0
  /-- VOIDS (16 bits; 06 R189) -/
  voids : Nat := 0
  /-- FWTAG (32 bits; 06 R189) -/
  fwtag : Nat := 0
  /-- ticket of the most recent entry to Implicitly Opened (the victim order) (64 bits; 06 R193) -/
  implTicket : Nat := 0
  /-- the voids of the zone (start and length in blocks; 06 R196) -/
  voidRuns : List (Nat × Nat) := []
  /-- the voids of writes admitted after a Reset that has not committed (start and length in blocks; 06 R196) -/
  voidNew : List (Nat × Nat) := []
  /-- committed write pointer last recorded in the journal (26 bits; 06 R213) -/
  recorded : Nat := 0
  /-- its Full transition has been journalled (1 bit; 06 R217) -/
  fullJ : Bool := false
  deriving DecidableEq, Repr

/-- One row of a stripe set. -/
structure Row where
  /-- the row is bound to a zone or reclaim unit (1 bit; 06 R203) -/
  held : Bool := false
  /-- erases outstanding before the row is free (units not yet erased; 06 R204) -/
  erasing : Nat := 0
  /-- the row is with media management for self-test (1 bit; 06 R204) -/
  offline : Bool := false
  /-- the row of a garbage-collection victim (1 bit; 07 R253) -/
  gc : Bool := false
  /-- it is erased after a zone Reset (1 bit; 06 R219) -/
  reset : Bool := false
  /-- the row has left its stripe set: a unit of it is retired and no spare was left (1 bit; 07 R260) -/
  out : Bool := false
  deriving DecidableEq, Repr

/-- One namespace (chapters 06, 07, 11, 15). -/
structure Ns where
  /-- 0 none, 1 conventional, 2 zoned (8 bits; 06 R218) -/
  kind : Nat := 0
  /-- size in logical blocks (64 bits; 06 R187) -/
  nsze : Nat := 0
  /-- 12 or 9 (log2 of the block size; 04 R140) -/
  bshift : Nat := 12
  /-- LBA format (4 bits; 11 R367) -/
  lbaf : Nat := 0
  /-- protection information type (3 bits; 11 R367) -/
  pi : Nat := 0
  /-- zone size, log2 bytes (8 bits; 06 R185) -/
  zlog : Nat := 0
  /-- zone count (32 bits; 06 R186) -/
  zones : Nat := 0
  /-- zone capacity, MiB (32 bits; 06 R185) -/
  zcapMib : Nat := 0
  /-- open limit (16 bits; 06 R186) -/
  openLim : Nat := 0
  /-- active limit (16 bits; 06 R186) -/
  actLim : Nat := 0
  /-- placement group (6 bits; 06 R186) -/
  pgrp : Nat := 0
  /-- rows reserved (32 bits; 06 R186) -/
  rowsRes : Nat := 0
  /-- r - 1 (3 bits; 06 R185) -/
  rspan : Nat := 0
  /-- first descriptor index (20 bits; 06 R186) -/
  first : Nat := 0
  /-- placement handle list (8 bits each; 06 R209) -/
  handles : List Nat := []
  /-- the namespace is encrypted (1 bit; 15 R469) -/
  enc : Bool := false
  /-- key ranges in use (7 bits; 15 R469) -/
  keys : Nat := 0
  /-- functions the namespace is attached to (512 bits; 06 R205) -/
  attached : List Nat := []
  /-- Changed Zone List; one entry more marks overflow (511 zone identifiers; 06 R197) -/
  changed : List Nat := []
  /-- event 229 raised for it in this frame (1 bit; 06 R203) -/
  waitEv : Bool := false
  deriving DecidableEq, Repr

/-- Zone and placement manager beside the ZPM registers (chapter 06). -/
structure Zpm where
  /-- zone descriptor table (1,048,576 descriptors; 06 R189) -/
  zones : Tab Zone := []
  /-- rows that are not free and erased, key sset * 16384 + row (4096 * 16384 rows; 06 R203) -/
  rows : Tab Row := []
  /-- namespaces, by NSID - 1 (64 records; 06 R186) -/
  ns : Tab Ns := []
  /-- zone journal, oldest first (131,072 records of 16 bytes; 06 R212) -/
  journal : List (Nat × Zone) := []
  /-- records for which the full journal has no room yet, oldest first (16 bytes each; 06 R214) -/
  journalLate : List (Nat × Zone) := []
  /-- journal records that precede the start of the running checkpoint (18 bits; 06 R214) -/
  ckptMark : Nat := 0
  /-- the FDP configuration is enabled (1 bit; 06 R208) -/
  fdpOn : Bool := false
  /-- free descriptors reserved for reclaim units (17 bits; 06 R211) -/
  ruRes : Nat := 0
  /-- attached reclaim unit of each pair, key rg * 256 + ruh (128 * 256 pairs; 06 R210) -/
  attachRu : Tab (Option Nat) := []
  /-- FDP events logged: 1 not fully written, 2 media reallocated (FDP Events log; 06 R210) -/
  fdpEvents : List Nat := []
  /-- FDP event types enabled, key namespace index * 2^16 + placement handle (8-bit types; 06 R210) -/
  fdpEn : Tab (List Nat) := []
  /-- FDP statistics: 0 host bytes written, 1 media bytes written, 2 media bytes erased (64 bits each; 06 R211) -/
  fdpStats : Tab Nat := []
  /-- committed host data, key nsid * 2^40 + lba; the content of the location of record (4 KiB per block held; 04 R126) -/
  blocks : Tab (Option Nat) := []
  /-- protection information stored with a block (8 bytes per block; 11 R367) -/
  blkMeta : Tab Nat := []
  deriving DecidableEq, Repr

/-- Unit states of Table 7.1. -/
inductive UState where
  | row | slc | system | map | spare | retired | test
  deriving DecidableEq, Repr

/-- Location of record of a written block (R225, Table 7.3). -/
inductive Loc where
  | none | slc (die unit page cw : Nat) | qlc (die unit page cw : Nat)
  deriving DecidableEq, Repr

/-- One unit record (Table 7.1). -/
structure URec where
  /-- STATE (3 bits; 07 R220) -/
  state : UState := .row
  /-- REPL (1 bit; 07 R220) -/
  repl : Bool := false
  /-- ERASES; WEAR is computed from it (20 bits; 07 R220) -/
  erases : Nat := 0
  /-- the unit is erased and holds no programmed page (1 bit; 07 R204) -/
  clean : Bool := true
  /-- its content is undefined (aborted or failed operation) (1 bit; 08 R283) -/
  undef : Bool := false
  /-- page * 16 + plane mask of each program since its last erase, where known (pages and a valid mark; 11 R666) -/
  written : Option (List Nat) := none
  deriving DecidableEq, Repr

/-- One fold record: a zone or reclaim unit with data in SLC (R241). -/
structure Fold where
  /-- the record is in use (1 bit; 07 R241) -/
  live : Bool := false
  /-- fold pointer (blocks; 07 R241) -/
  ptr : Nat := 0
  /-- eligible fold groups waiting for the Kiln: position and word line (positions and word lines; 07 R240) -/
  groups : List (Nat × Nat) := []
  /-- fold groups that the Kiln has begun and not released: position and word line (positions and word lines; 07 R249) -/
  begun : List (Nat × Nat) := []
  /-- of those, the word lines programmed: position and word line (positions and word lines; 07 R247) -/
  progd : List (Nat × Nat) := []
  /-- recipe run of each position: ((word line * 4 + extra turn) * 16 + step) + 1; 0 idle (word line, turn and step per position; 07 R249) -/
  run : Tab Nat := []
  /-- the zone is Full or the reclaim unit detached, with everything committed: the last word line is padded (1 bit; 07 R240) -/
  ended : Bool := false
  /-- its mark among the records (the model's own; 07 R248) -/
  gen : Nat := 0
  deriving DecidableEq, Repr

/-- One migration, or copy of a reshape, in progress (R256, R398). -/
structure Migr where
  /-- descriptor (20 bits; 07 R256) -/
  index : Nat := 0
  /-- destination stripe set (12 bits; 07 R256) -/
  sset : Nat := 0
  /-- destination row (14 bits; 07 R256) -/
  row : Nat := 0
  /-- the copy of a reshape, whose rows in group B start there (1 bit; 12 R398) -/
  reshape : Bool := false
  /-- of a reshape: everything is copied and verified (1 bit; 12 R398) -/
  ready : Bool := false
  deriving DecidableEq, Repr

/-- One garbage collection in progress (R253). -/
structure GcRun where
  /-- reclaim group (7 bits; 07 R252) -/
  rg : Nat := 0
  /-- victim descriptor (20 bits and a valid mark; 07 R253) -/
  victim : Option Nat := none
  /-- account charged (10 bits; 07 R252) -/
  account : Nat := 512
  /-- device-internal reclaim unit the copies go to (20 bits and a valid mark; 07 R253) -/
  dst : Option Nat := none
  /-- valid blocks of the victim that the running step copies: the map key and the block of the victim (at most 16 * W blocks; 07 R253) -/
  batch : List (Nat × Nat) := []
  deriving DecidableEq, Repr

/-- One page slot of the map cache (R230). -/
structure MapSlot where
  /-- page number: map pages namespace index * 2^40 + unit / 512, directory pages that / 512 + 2^56, unit-table pages die * 128 + unit / 1024 + 2^57 (58 bits; 07 R230) -/
  page : Nat := 0
  /-- changed since it was last programmed (1 bit; 07 R230) -/
  dirty : Bool := false
  /-- referenced since the hand last passed (1 bit; 07 R230) -/
  ref : Bool := false
  deriving DecidableEq, Repr

/-- One compaction in progress (R239). -/
structure Compact where
  /-- the die (11 bits; 07 R239) -/
  die : Nat := 0
  /-- the SLC unit it empties (17 bits; 07 R239) -/
  unit : Nat := 0
  /-- the chunk being copied, plus 1; 0 none (one chunk and a valid mark; 07 R239) -/
  chunk : Nat := 0
  /-- its erase is submitted (1 bit; 07 R239) -/
  erasing : Bool := false
  deriving DecidableEq, Repr

/-- What a copy of word lines is for. -/
inductive CopyUse where
  | gc (rg : Nat)              -- one step of a garbage collection (R253)
  | move                       -- a migration (R256)
  | reshape                    -- a zone of a reshape (R398)
  | replace (pos span : Nat)   -- the programmed word lines of a retired unit, to its spare (R259)
  deriving DecidableEq, Repr

/-- One copy of word lines inside the device: each is read, programmed and read back (R253, R256, R259, R398). -/
structure UCopy where
  /-- its mark (the model's own; 07 R228) -/
  id : Nat := 0
  /-- what it is for (the four uses; 07 R256) -/
  use : CopyUse := .move
  /-- descriptor whose data it copies (20 bits; 06 R189) -/
  index : Nat := 0
  /-- destination stripe set (12 bits; 12 R372) -/
  sset : Nat := 0
  /-- first destination row (14 bits; 06 R189) -/
  row : Nat := 0
  /-- account charged (10 bits; 05 R168) -/
  account : Nat := 512
  /-- its word lines are listed (1 bit; 07 R256) -/
  planned : Bool := false
  /-- word lines still to copy, the one in progress first, each with its positions; no position: all that hold data (word lines and positions; 07 R256) -/
  left : List (Nat × List Nat) := []
  /-- word lines copied (word lines; 07 R259) -/
  past : List Nat := []
  /-- reads of the word line in progress that are outstanding (reads; 07 R256) -/
  reads : Nat := 0
  /-- positions of the word line in progress still to program or read back (positions; 07 R256) -/
  todo : List Nat := []
  /-- destination units whose spare is not ready: position and row (units; 07 R259) -/
  await : List (Nat × Nat) := []
  deriving DecidableEq, Repr

/-- Media management and the Kiln beside the MED registers (chapter 07). -/
structure Med where
  /-- unit table, key die * 131072 + unit (2048 dies * 131,072 units; 07 R220) -/
  units : Tab URec := []
  /-- row remap table, key die * 16384 + row (17 bits and a valid mark; 07 R223) -/
  remap : Tab (Option Nat) := []
  /-- units that were not ROW when the layout closed, die * 131072 + unit, rising (2048 dies * 131,072 bits; 07 R223) -/
  nonRow : List Nat := []
  /-- SPARE units of each die at layout (17 bits per die; 07 R261) -/
  spare0 : Tab Nat := []
  /-- recipe store, key recipe * 16 + step; recipe 0 as R250 gives, the others END (16 * 16 * 32 bits; 07 R250) -/
  recipes : Tab Nat := [(0, 0x10000000), (1, 0x11000000), (2, 0x12000000), (3, 0x13000000), (4, 0x21000000), (5, 0x22000000), (6, 0x30000000), (7, 0x40000000)]
  /-- where a chunk's location of record is, key (descriptor * 128 + position) * 65536 + chunk; absent: protected tubs or unwritten (one per 16 KiB chunk of a row position; 07 R225) -/
  chunks : Tab Loc := []
  /-- function that wrote a chunk, plus 1, key as chunks (10 bits each; 05 R168) -/
  chunkFn : Tab Nat := []
  /-- conventional page map, key nsid * 2^40 + block: reclaim unit and block within it; none: LOC 0b00 (8 bytes per 4 KiB; 07 R229) -/
  map : Tab (Option (Nat × Nat)) := []
  /-- reverse of the map: key descriptor * 2^26 + block, value nsid * 2^40 + block + 1 (64 bits per block; 07 R253) -/
  ruBlk : Tab Nat := []
  /-- page slots of the map cache in use, in slot order (6,144 slots; 07 R230) -/
  mapCache : List MapSlot := []
  /-- hand of the clock rule (13 bits; 07 R230) -/
  mapHand : Nat := 0
  /-- pages changed while 1,536 others are dirty: the journal holds their changes until a flush (page numbers; 07 R230) -/
  mapLate : List Nat := []
  /-- flash address of each map page (the directory) and directory page (the top table), plus 1, by page number: (unit key * 16384 + page) * 4 + codeword (64 bits each; 07 R230) -/
  mapAddr : Tab Nat := []
  /-- pages programmed on a MAP unit since its erase, key die * 131072 + unit (pages; 07 R232) -/
  mapUsed : Tab Nat := []
  /-- MAP unit being filled, die * 131072 + unit, plus 1; 0 none (28 bits and a valid mark; 07 R232) -/
  mapUnit : Nat := 0
  /-- map journal, oldest first (65,536 records of 16 bytes; 07 R232) -/
  mapJrnl : List (Nat × Option (Nat × Nat)) := []
  /-- records for which the full map journal has no room yet, oldest first (16 bytes each; 07 R232) -/
  mapJrnlLate : List (Nat × Option (Nat × Nat)) := []
  /-- a map flush runs: the journal records before its start (17 bits and a valid mark; 07 R232) -/
  flushMark : Option Nat := none
  /-- pages that the running flush has still to program (page numbers; 07 R232) -/
  flushLeft : List Nat := []
  /-- pages of the program of the flush in progress, at most four (page numbers; 07 R232) -/
  flushOn : List Nat := []
  /-- reads of map and directory pages that commands wait for: ticket and page number (reads outstanding; 07 R231) -/
  mapReads : List (Nat × Nat) := []
  /-- SLC unit of a die being filled (its rotating fill position), by its place in rising unit order (17 bits per die; 07 R236) -/
  slcPtr : Tab Nat := []
  /-- pages programmed on an SLC unit since its erase, key die * 131072 + unit (pages; 07 R236) -/
  slcUsed : Tab Nat := []
  /-- pages of an SLC unit that are a location of record, key as slcUsed (pages; 07 R239) -/
  slcLive : Tab Nat := []
  /-- SLC programs waiting for space: descriptor, position, chunk (chunks; 07 R238) -/
  slcWait : List (Nat × Nat × Nat) := []
  /-- SLC capacity in force since the layout closed, GiB (13 bits; 07 R235) -/
  slcCap : Nat := 1024
  /-- fold records, by descriptor index (8,192 records; 07 R241) -/
  folds : Tab Fold := []
  /-- migrations in progress (at most 16; 07 R256) -/
  migr : List Migr := []
  /-- migrations that firmware asked for and that wait for their turn or for rows (descriptors; 07 R258) -/
  migrWait : List Nat := []
  /-- garbage collections in progress (one per reclaim group; 07 R252) -/
  gc : List GcRun := []
  /-- compactions in progress (one per channel group; 07 R239) -/
  compact : List Compact := []
  /-- copies of word lines in progress (copies; 07 R253, R256, R259) -/
  copies : List UCopy := []
  /-- the model's own number that marks the copies, folds and collections, so that a late completion is told from its successor's (unbounded; 07 R228) -/
  serial : Nat := 0
  /-- health entries by index * 256 + sub; zero at first (64 bits each; 07 R261) -/
  health : Tab Nat := []
  /-- 0x7010:19 highest temperature (16 bits; 07 R261) -/
  tMax : Int := -273
  /-- 0x7010:1A (64 bits; 07 R261) -/
  tMaxBt : Nat := 0
  /-- 0x7010:1B lowest temperature (16 bits; 07 R261) -/
  tMin : Int := 327
  /-- 0x7010:1C (64 bits; 07 R261) -/
  tMinBt : Nat := 0
  /-- SMART Critical Warning (8 bits; 07 R263) -/
  critWarn : Nat := 0
  deriving DecidableEq, Repr

/-- One NAND die as the device sees it. -/
structure Die where
  /-- the environment's: a die answers at this address (false at reset: DESIGN CHOICE, no board is attached) (1 bit; 08 R269) -/
  present : Bool := false
  /-- pattern register loaded and read back since the last Reset (1 bit; 08 R287) -/
  patternOk : Bool := false
  /-- features set by SETFEAT (32 bits each; 09 R302) -/
  feats : Tab Nat := []
  /-- the environment's: ID bytes the die answers, by address * 16 + byte (bytes; 09 R302) -/
  ident : Tab Nat := []
  deriving DecidableEq, Repr

/-- Flash channels beside the FCH registers (chapter 08). -/
structure Fch where
  /-- NPWR_EN[15:0] outputs (16 bits; 08 R279) -/
  npwr : Nat := 0
  /-- Gg_WP_N released, one bit per group (16 bits; 08 R282) -/
  wpRel : Nat := 0
  /-- groups that asked by PWR_ON to join the next power-up sequence (16 bits; 08 R279) -/
  joinNext : Nat := 0
  /-- groups whose reconciliation is not complete (16 bits; 08 R274) -/
  reconcile : Nat := 0
  /-- groups powered off and on again by their reconciliation (16 bits; 08 R274) -/
  cycling : Nat := 0
  /-- dies of a group whose Reset is not yet answered, as a bit set by local channel * 16 + die (128 bits per group; 08 R279) -/
  resetWait : Tab Nat := []
  /-- dies whose Reset, issued by the device itself, waits for the current budget, in the order asked (2048 bits; 02 R65) -/
  resetQ : List Nat := []
  /-- dies whose Reset, issued by the device itself, is in progress: the current it counts at, plus 1 (16 bits and a valid mark each; 02 R66) -/
  resetOn : Tab Nat := []
  /-- groups whose pattern buffer holds a loaded pattern (16 bits; 08 R287) -/
  patBuf : Nat := 0
  /-- dies whose entry has raised RECAL since it was last written (2048 bits; 08 R291) -/
  recalled : List Nat := []
  /-- the environment's: VCCQ[g] within its band (16 bits; 08 R287) -/
  vccqOk : Nat := 0xFFFF
  /-- the dies (2048 records; 08 R267) -/
  dies : Tab Die := []
  deriving DecidableEq, Repr

/-- What a hardware owner does when its descriptor completes: the model's own link between a descriptor and its owner's work (chapters 06, 07, 12, 13). -/
inductive Work where
  | none
  | hostRead (ticket lba : Nat)                  -- a media read of a host command
  | hostReread (ticket lba : Nat)                -- its repeat after a path-guard failure (R365)
  | slcProg (index pos chunk gen : Nat)          -- SLC program of one complete chunk of a row position
  | foldRead (index pos wl page gen : Nat)       -- Kiln READ_SLC
  | foldProg (index pos wl pass gen : Nat)       -- Kiln PROG
  | foldBack (index pos wl gen : Nat)            -- Kiln READBACK
  | startBack (index pos wl gen : Nat)           -- read-back of a word line at start-up (R247)
  | pageRecon (id pos : Nat)                     -- read of another position for a page that media management needs (R243)
  | mapRead (ticket page from_ : Nat)            -- read of page from_, a map page or its directory page, for a lookup of a map page (R231)
  | mapProg                                      -- program of up to four pages of a map flush (R232)
  | mapErase (die unit : Nat)                    -- erase of a MAP unit that holds no page in use
  | eraseRow (sset row : Nat)                    -- one unit of a queued row erase
  | eraseUnit (die unit row : Nat)               -- erase of a spare in its new place; row: the key, plus 1, of a row whose erase waits for it
  | slcErase (die unit : Nat)                    -- erase of an SLC unit
  | slcRead (die unit chunk : Nat)               -- read of a live page of an SLC unit being compacted, by chunk key
  | slcMove (die unit chunk : Nat)               -- its program on another SLC unit of the die
  | copyRead (id key : Nat)                      -- read of a page or block that is copied
  | copyProg (id pos pass : Nat)                 -- program of a destination word line, by its place among the passes
  | copyBack (id pos : Nat)                      -- its READBACK
  | testUnit (die unit row step : Nat)           -- test of a unit of an Offline zone: 0 erase, 1 program, 2 read, 3 erase
  | selfErase (die unit : Nat)                   -- erase of a returning die's self-test
  | recon (ticket lba pos : Nat)                 -- reconstruction read of another position
  | rebuild (sset pos row : Nat)                 -- rebuild read or program
  | patrol (sset row page : Nat)                 -- patrol read
  | dumpErase (slot : Nat) | dumpProg (slot : Nat)
  | recFlush                                     -- recorder flush program
  | probe (die : Nat)                            -- probe of a FAILED die
  deriving DecidableEq, Repr

/-- Die activity of Table 9.7. -/
inductive Act where
  | free | reading | loaded | active | suspending | suspended
  deriving DecidableEq, Repr

/-- One descriptor (Table 9.2), as the engine holds it. -/
structure Desc where
  /-- OP (6 bits; 09 R301) -/
  op : Nat := 0
  /-- CELL (2 bits; 09 R301) -/
  cell : Nat := 0
  /-- DIE (4 bits; 09 R301) -/
  die : Nat := 0
  /-- PLANES (4 bits; 09 R301) -/
  planes : Nat := 0
  /-- NPAGES (6 bits; 09 R301) -/
  npages : Nat := 0
  /-- CWMASK (4 bits; 09 R301) -/
  cwmask : Nat := 0
  /-- EPCHK (1 bit; 09 R301) -/
  epchk : Bool := false
  /-- RAW (1 bit; 09 R301) -/
  raw : Bool := false
  /-- NOTIFY (1 bit; 09 R301) -/
  notify : Bool := false
  /-- HC (1 bit; 09 R301) -/
  hc : Bool := false
  /-- UNIT (17 bits; 09 R301) -/
  unit : Nat := 0
  /-- PAGE (14 bits; 09 R301) -/
  page : Nat := 0
  /-- ACCOUNT (10 bits; 09 R301) -/
  account : Nat := 512
  /-- MEPOCH (16 bits; 09 R301) -/
  mepoch : Nat := 0
  /-- BUF (16 bits; 09 R301) -/
  buf : Nat := 0
  /-- ECCPROF (4 bits; 09 R301) -/
  eccprof : Nat := 0
  /-- RETRYMAX (4 bits; 09 R301) -/
  retrymax : Nat := 0
  /-- MAXWAIT (8 bits; 09 R301) -/
  maxwait : Nat := 0
  /-- TAG (32 bits; 09 R301) -/
  tag : Nat := 0
  /-- OWNER (4 bits; 09 R301) -/
  owner : Nat := 0
  /-- IRQ (1 bit; 09 R301) -/
  irq : Bool := false
  /-- ARG0 (32 bits; 09 R301) -/
  arg0 : Nat := 0
  /-- ARG1 (32 bits; 09 R301) -/
  arg1 : Nat := 0
  /-- INIT0 to INIT7 (8 * 32 bits; 09 R301) -/
  init : List Nat := []
  /-- what its hardware owner does with it (the model's own link; 09 R298) -/
  work : Work := .none
  /-- frame starts met while held (8 bits; 09 R313) -/
  heldFrames : Nat := 0
  /-- deferred in this frame (1 bit; 09 R172) -/
  defer : Bool := false
  /-- the slot or budget rule has held it (1 bit; 02 R68) -/
  held : Bool := false
  deriving DecidableEq, Repr

/-- One completion record held internally (R300). -/
structure Held where
  /-- word 0 without P (32 bits; 09 R300) -/
  w0 : Nat := 0
  /-- word 1 (32 bits; 09 R300) -/
  w1 : Nat := 0
  /-- word 2 (32 bits; 09 R300) -/
  w2 : Nat := 0
  /-- DETAIL (16 bits; 09 R300) -/
  detail : Nat := 0
  /-- IRQ of the descriptor (1 bit; 09 R301) -/
  irq : Bool := false
  deriving DecidableEq, Repr

/-- One execution context (R322) with the descriptor in progress. -/
structure Ctx where
  /-- the context exists (1 bit; 10 R322) -/
  live : Bool := false
  /-- the descriptor it runs (a descriptor; 10 R322) -/
  desc : Desc := {}
  /-- its class (2 bits; 09 R295) -/
  cls : Nat := 0
  /-- program counter (13 bits; 10 R322) -/
  pc : Nat := 0
  /-- working registers w0 to w7 (8 * 32 bits; 10 R322) -/
  w : List Nat := []
  /-- call stack (4 * 13 bits; 10 R322) -/
  stack : List Nat := []
  /-- a codeword of the last decodes stayed uncorrectable (1 bit; 10 R322) -/
  uncorr : Bool := false
  /-- a decode corrected above the report threshold (1 bit; 10 R322) -/
  corr : Bool := false
  /-- the fence flag (1 bit; 10 R336) -/
  fenceF : Bool := false
  /-- target die (4 bits; 10 R337) -/
  target : Nat := 0
  /-- NV of the last SETT (1 bit; 10 R333) -/
  nv : Bool := false
  /-- it holds the bus (1 bit; 10 R326) -/
  bus : Bool := false
  /-- consecutive instructions without a bus instruction (11 bits; 10 R326) -/
  quiet : Nat := 0
  /-- instructions since it was chosen (9 bits; 10 R325) -/
  ran : Nat := 0
  /-- it can be chosen (not waiting for a poll, a WAIT or a held CMD) (1 bit; 10 R325) -/
  ready : Bool := true
  /-- contexts that have a turn before it goes on after its YIELD (context numbers; 10 R338) -/
  after : List Nat := []
  /-- codewords (plane * 4 + codeword) whose decode has started and not ended (codewords; 10 R332) -/
  wait : List Nat := []
  /-- codewords of the page left uncorrectable by the decodes of the running step (codewords; 11 R354) -/
  fails : List Nat := []
  /-- step of the escalation: 0 first hard decode, k retry step k, 16 soft decode (5 bits; 11 R354) -/
  phase : Nat := 0
  /-- ready statuses still to come before the page's data moves (2 bits; 09 R316) -/
  polls : Nat := 0
  /-- candidate described so far (reason, codeword, bits, page and a valid mark; 11 R359) -/
  cand : Option (Nat × Nat × Nat × Nat) := none
  /-- a path-guard check of the descriptor's data failed (1 bit; 11 R363) -/
  guardBad : Bool := false
  /-- some decode of the descriptor met the OK_CORRECTED condition (1 bit; 10 R339) -/
  anyCorr : Bool := false
  /-- SCHED and byte of a held confirm cycle (2 + 8 bits and a valid mark; 10 R334) -/
  heldCmd : Option Nat := none
  /-- tubs of the chain used so far (16 bits; 09 R302) -/
  chain : Nat := 0
  /-- pages completed (8 bits; 09 R305) -/
  pages : Nat := 0
  /-- reference-cycle count at its first command cycle (64 bits; 09 R169) -/
  startAt : Nat := 0
  /-- reference cycles to leave out of its charge (suspended intervals) (64 bits; 09 R169) -/
  lostAt : Nat := 0
  /-- reference-cycle count of the last suspend command (64 bits; 09 R314) -/
  suspAt : Nat := 0
  /-- reference-cycle count of the last resume command (64 bits and a valid mark; 09 R315) -/
  resumeAt : Option Nat := none
  /-- suspends underwent (4 bits; 09 R304) -/
  susp : Nat := 0
  /-- marked with no suspends left (1 bit; 09 R314) -/
  noSusp : Bool := false
  /-- nominal current it counts in the account (16 bits; 09 R66) -/
  ma : Nat := 0
  /-- read-retry steps used (5 bits; 09 R304) -/
  retry : Nat := 0
  /-- largest corrected bit count (8 bits; 09 R304) -/
  maxbits : Nat := 0
  /-- codewords of the failing page that stayed uncorrectable (4 bits; 09 R304) -/
  cwfail : Nat := 0
  /-- last status byte read (8 bits; 09 R304) -/
  nstat : Nat := 0
  /-- this TAIL read caused the suspension it is served in (1 bit; 09 R314) -/
  caused : Bool := false
  /-- record of the TAIL read that caused the suspension, waiting for the resume (a record and a valid mark; 09 R314) -/
  tailHeld : Option Held := none
  /-- its account (10 bits; 09 R314) -/
  tailAcct : Nat := 512
  /-- its record goes to the firmware ring (1 bit; 09 R299) -/
  tailOut : Bool := false
  /-- data its operation carries: codewords of a program, or what the die answers (codewords, or bytes; 09 R302) -/
  data : List Nat := []
  /-- status and DETAIL of its DONE, waiting for the die's ready status (8 + 16 bits and a valid mark; 10 R339) -/
  fin : Option (Nat × Nat) := none
  /-- SCHED of the last confirm: 2 program, 3 erase (2 bits; 10 R334) -/
  sched : Nat := 0
  /-- its target, another die, counts as READING for it (1 bit; 10 R337) -/
  claimed : Bool := false
  /-- reference-cycle count at which its WAIT ends (64 bits; 10 R338) -/
  till : Nat := 0
  /-- reference-cycle count at its confirm (64 bits; 09 R312) -/
  confAt : Nat := 0
  deriving DecidableEq, Repr

/-- One Drift engine beside its DRF registers (chapters 09, 10). -/
structure Eng where
  /-- the class queues, by class code, oldest first (4 rings; 09 R295) -/
  q : Tab (List Desc) := []
  /-- ring slot the next submission of a class takes (4 * 8 bits; 09 R297) -/
  rtail : Tab Nat := []
  /-- hardware submissions not yet entered: class and descriptor (queue; 09 R298) -/
  hwq : List (Nat × Desc) := []
  /-- hardware reads that ended DIE_BUSY, submitted again once their die is free: class and descriptor (queue; 09 R307) -/
  parked : List (Nat × Desc) := []
  /-- die activity (16 dies; 09 R314) -/
  act : Tab Act := []
  /-- execution contexts, die * 2 + secondary (32 contexts; 10 R322) -/
  ctx : Tab Ctx := []
  /-- completion records held while the ring is full (at most 16 + 32; 09 R300) -/
  heldRecs : List Held := []
  /-- P of the running pass through the ring (1 bit; 09 R300) -/
  pass1 : Bool := true
  /-- SEQ of the next firmware record (16 bits; 09 R304) -/
  seq : Nat := 0
  /-- fenced operations still counted in the account (die and mA; 09 R310) -/
  fenceHold : List (Nat × Nat) := []
  /-- program store (1024 words; 10 R328) -/
  pstore : Tab Nat := []
  /-- the program store has been written since the last SRAM clearing (1 bit; 10 R344) -/
  psWritten : Bool := false
  /-- local memory above 0x00FF, by word index (8192 words; 10 R329) -/
  lmem : Tab Nat := []
  /-- class of HOST, BACKGROUND and MAINT whose turn it is (2 bits; 09 R308) -/
  arbCls : Nat := 1
  /-- descriptors it has started in this turn (8 bits; 09 R308) -/
  arbUsed : Nat := 0
  /-- volume last selected + 1; 0: none (2 chip-enables; 10 R333) -/
  vol : Tab Nat := []
  deriving DecidableEq, Repr

/-- Drift engines (chapters 09, 10). -/
structure Drf where
  /-- the engines (128 engines; 09 R295) -/
  eng : Tab Eng := []
  /-- erases of media management that wait for outstanding operations on their unit: engine, class and descriptor (descriptors; 07 R227) -/
  eraseWait : List (Nat × Nat × Desc) := []
  /-- what the dies hold, key ((die * 131072 + unit) * 16384 + page) * 64 + plane * 16 + codeword; the model's own record (4 KiB per codeword written; 09 R302) -/
  media : Tab Nat := []
  deriving DecidableEq, Repr

/-- The four per-die ECC counters (R361). -/
structure EccCnt where
  /-- codewords above the report threshold (32 bits; 11 R361) -/
  above : Nat := 0
  /-- retry reads (32 bits; 11 R361) -/
  retries : Nat := 0
  /-- soft decodes (32 bits; 11 R361) -/
  softs : Nat := 0
  /-- codewords left uncorrectable (32 bits; 11 R361) -/
  uncorr : Nat := 0
  deriving DecidableEq, Repr

/-- One codeword that waits for a decoder or is in one (R352). -/
structure DecJob where
  /-- its engine (7 bits; 11 R352) -/
  eng : Nat := 0
  /-- its execution context (5 bits; 11 R352) -/
  ctx : Nat := 0
  /-- the codeword, by plane * 4 + codeword or by its place in the chain (6 bits; 11 R352) -/
  cw : Nat := 0
  /-- it needs a soft decode (1 bit; 11 R354) -/
  soft : Bool := false
  /-- of a TAIL descriptor (1 bit; 11 R352) -/
  tail : Bool := false
  /-- this is its second decode, after a failing output check (1 bit; 20 R608) -/
  again : Bool := false
  /-- decoder whose output failed the check, plus 1; 0 none (6 bits; 20 R608) -/
  avoid : Nat := 0
  deriving DecidableEq, Repr

/-- Flash ECC beside the ECC registers (chapter 11). -/
structure Ecc where
  /-- candidate ring, oldest first, as Table 11.4 lays an entry out (1,024 * 64 bits; 11 R359) -/
  cands : List Nat := []
  /-- per-die counters (2048 records; 11 R361) -/
  cnt : Tab EccCnt := []
  /-- codewords that wait for a decoder or are in one (codewords; 11 R352) -/
  busy : Nat := 0
  /-- codewords that wait for a decoder, in the order in which their last byte left the bus (codewords; 11 R352) -/
  queue : List DecJob := []
  /-- the codeword each decoder works on: 0 to 47 hard-decision, 48 to 55 soft-decision decoders (56 decoders; 11 R351) -/
  jobs : Tab (Option DecJob) := []
  /-- a mode epoch not yet reported for decodes beyond the new limits (1 bit; 11 R353) -/
  modePend : Bool := false
  deriving DecidableEq, Repr

/-- Die membership states (Table 12.2). -/
inductive MState where
  | unused | member | spare | failed | rebuilding | returning | testing | retired
  deriving DecidableEq, Repr

/-- Membership of one die. -/
structure Mem where
  /-- membership state (3 bits; 12 R383) -/
  state : MState := .unused
  /-- stripe set of a MEMBER or REBUILDING die (12 bits; 12 R383) -/
  sset : Nat := 0
  /-- its position (7 bits; 12 R383) -/
  pos : Nat := 0
  /-- recorded MINEPOCH (16 bits and a valid mark; 12 R390) -/
  minEpoch : Option Nat := none
  deriving DecidableEq, Repr

/-- One position of a stripe set. -/
structure Pos where
  /-- declared (1 bit; 12 R373) -/
  present : Bool := false
  /-- die (the one that last held it, while vacant) (11 bits; 12 R373) -/
  die : Nat := 0
  /-- no die holds it (1 bit; 12 R387) -/
  vacant : Bool := false
  /-- rebuild pointer (14 bits; 12 R392) -/
  rbrow : Nat := 0
  /-- row at which it joined the running pass (14 bits; 12 R391) -/
  joined : Nat := 0
  /-- the second pass covers its rows below that row (1 bit; 12 R391) -/
  second : Bool := false
  /-- its rebuild was resumed at a start: the spare's unit of a row is erased first (1 bit; 12 R390) -/
  resumed : Bool := false
  deriving DecidableEq, Repr

/-- One lost-stripe table entry, as Table 12.3 lists it (R394, R396). -/
structure Lost where
  /-- stripe set (12 bits; 12 R394) -/
  sset : Nat := 0
  /-- row (14 bits; 12 R394) -/
  row : Nat := 0
  /-- stripe within the row (32 bits; 12 R394) -/
  stripe : Nat := 0
  /-- NSID, 0 for a reclaim unit (32 bits; 12 R396) -/
  nsid : Nat := 0
  /-- blocks in the range (32 bits; 12 R396) -/
  nlb : Nat := 0
  /-- first LBA (64 bits; 12 R396) -/
  slba : Nat := 0
  /-- LOSTMAP (64 bits; 12 R396) -/
  map : Nat := 0
  /-- Bell time (64 bits; 12 R396) -/
  bt : Nat := 0
  /-- membership epoch (16 bits; 12 R396) -/
  mepoch : Nat := 0
  /-- CAUSE (8 bits; 12 R396) -/
  cause : Nat := 0
  deriving DecidableEq, Repr

/-- One reconstruction in progress (R381, R382). -/
structure Recon where
  /-- host command it serves (64 bits; 12 R381) -/
  ticket : Nat := 0
  /-- block it rebuilds (64 bits; 12 R381) -/
  lba : Nat := 0
  /-- it follows a path-guard failure (1 bit; 11 R365) -/
  guard : Bool := false
  /-- descriptor of its row (20 bits; 12 R381) -/
  index : Nat := 0
  /-- stripe of the row (32 bits; 12 R381) -/
  stripe : Nat := 0
  /-- unit of the descriptor that it rebuilds (32 bits; 12 R381) -/
  block : Nat := 0
  /-- other positions read (7 bits; 12 R381) -/
  good : Nat := 0
  /-- positions that failed, the wanted one among them (66 bits; 12 R382) -/
  bad : List Nat := []
  /-- positions read once more (positions; 12 R382) -/
  retried : List Nat := []
  /-- readable positions not yet used, in order of preference (positions; 12 R382) -/
  left : List Nat := []
  deriving DecidableEq, Repr

/-- One page that is reconstructed, all of its codewords together, from W other positions of its row (R243, R381). -/
structure PageRec where
  /-- its mark (the model's own; 12 R381) -/
  id : Nat := 0
  /-- the operation of media management that needs the page (the model's own link; 07 R243) -/
  after : Work := .none
  /-- class of its reads (2 bits; 12 R381) -/
  cls : Nat := 0
  /-- their owner (4 bits; 09 R301) -/
  owner : Nat := 0
  /-- account charged (10 bits; 12 R381) -/
  account : Nat := 512
  /-- descriptor (20 bits; 06 R189) -/
  index : Nat := 0
  /-- chunk of the row positions (16 bits; 12 R374) -/
  chunk : Nat := 0
  /-- other positions not read yet (positions; 12 R382) -/
  left : List Nat := []
  /-- positions still to be read well (positions; 12 R381) -/
  need : Nat := 0
  /-- positions that failed, the wanted one among them (66 bits; 12 R382) -/
  bad : List Nat := []
  /-- positions whose failed read was repeated (positions; 12 R382) -/
  retried : List Nat := []
  deriving DecidableEq, Repr

/-- Mash parity engine beside the MSH registers (chapter 12). -/
structure Msh where
  /-- die membership (2048 records; 12 R383) -/
  dies : Tab Mem := []
  /-- positions, key sset * 128 + position (4096 * 66 records; 12 R373) -/
  pos : Tab Pos := []
  /-- recipe words written since reset, key recipe * 65 + word; R376 gives the others (16 * 65 * 32 bits; 12 R376) -/
  recipes : Tab Nat := []
  /-- recipe words written since reset (16 * 65 bits; 12 R376) -/
  written : List Nat := []
  /-- pages of media management that are being reconstructed (reconstructions in progress; 12 R381) -/
  pageRecs : List PageRec := []
  /-- running parity, key (descriptor * 2^20 + stripe) * 2 + parity position (4,128 bytes each; 12 R378) -/
  parity : Tab Nat := []
  /-- row the running rebuild pass of a stripe set stands at (14 bits per set; 12 R391) -/
  rebRow : Tab Nat := []
  /-- reconstructions in progress (reconstructions; 12 R381) -/
  recons : List Recon := []
  /-- lost-stripe table, oldest first (65,536 entries; 12 R394) -/
  lost : List Lost := []
  /-- stripes that became lost while the table was full: their codewords are marked on the media (lost stripes; 12 R394) -/
  lostMore : List Lost := []
  /-- stripes lost since manufacture (64 bits; 12 R395) -/
  lostEver : Nat := 0
  /-- generation count of log page C0h (64 bits; 12 R396) -/
  lostGen : Nat := 0
  /-- suspect codewords: sset * 16384 + row, and stripe * 128 + position (1,024 entries; 12 R402) -/
  suspects : List (Nat × Nat) := []
  /-- floor allowance left in this frame (bytes; 12 R393) -/
  floorLeft : Nat := 0
  /-- event 169 raised in this frame (1 bit; 12 R405) -/
  reconEv : Bool := false
  /-- the reshape in progress: source and target placement groups (two groups and a valid mark; 12 R397) -/
  reshape : Option (Nat × Nat) := none
  /-- zones whose reshape copy runs (20 bits each; 12 R398) -/
  copies : List Nat := []
  /-- rows a namespace still has reserved in the source group, by NSID - 1 (rows; 12 R399) -/
  resOld : Tab Nat := []
  /-- stripe set the patrol stands at (12 bits; 12 R400) -/
  patSet : Nat := 0
  /-- row the patrol stands at (14 bits; 12 R400) -/
  patRow : Nat := 0
  /-- a membership change not yet in the written record (1 bit; 12 R390) -/
  recDirty : Bool := false
  deriving DecidableEq, Repr

/-- One dump slot as the flash holds it (R420 to R431). -/
structure Slot where
  /-- the slot is erased on every usable dump die; erased when the part is new (DESIGN CHOICE) (1 bit; 13 R414) -/
  erased : Bool := true
  /-- generation in its trailers; 0 none (32 bits; 13 R421) -/
  gen : Nat := 0
  /-- dump dies with a matching trailer (0 to 64; 13 R427) -/
  trailers : Nat := 0
  /-- commit to last trailer, us (20 bits; 13 R422) -/
  duration : Nat := 0
  /-- Bell time of the commit (64 bits; 13 R421) -/
  bt : Nat := 0
  deriving DecidableEq, Repr

/-- Hold-up manager beside the HLD registers (chapter 13). -/
structure Hld where
  /-- HU_CHG_EN output (1 bit; 13 R409) -/
  chgEn : Bool := false
  /-- HU_DIS_EN output (1 bit; 13 R409) -/
  disEn : Bool := false
  /-- HU_TEST_EN output (1 bit; 13 R409) -/
  testEn : Bool := false
  /-- PFAIL_N driven low (1 bit; 13 R409) -/
  pfailLow : Bool := false
  /-- the loss timer runs (1 bit; 13 R411) -/
  timer : Bool := false
  /-- the store is charged (1 bit; 13 R412) -/
  charged : Bool := false
  /-- the last store check passed (1 bit; 13 R414) -/
  checkOk : Bool := false
  /-- a store check runs (1 bit; 13 R413) -/
  checking : Bool := false
  /-- state before SUSPECT (4 bits; 13 R415) -/
  before : Nat := 0
  /-- DRAIN requested since the last entry to DRAINING (1 bit; 13 R415) -/
  drainReq : Bool := false
  /-- a checkpoint started after entry to DRAINING has completed (1 bit; 13 R416) -/
  drainCkpt : Bool := false
  /-- a map flush started after entry to DRAINING has completed (1 bit; 13 R416) -/
  drainFlush : Bool := false
  /-- the checkpoint and flush of the drain have been started (1 bit; 13 R416) -/
  drainRun : Bool := false
  /-- a dump is committed (until the cold start) (1 bit; 13 R417) -/
  committed : Bool := false
  /-- dump dies whose programs have not ended (dump dies; 13 R422) -/
  dumpLeft : Nat := 0
  /-- dump dies that are erasures of this dump (dump dies; 13 R422) -/
  dumpBad : Nat := 0
  /-- slot the dump goes to (1 bit; 13 R420) -/
  dumpSlot : Nat := 0
  /-- reference-cycle count of the commit (64 bits; 13 R421) -/
  dumpAt : Nat := 0
  /-- dump group mask in force since the cold start (16 bits; 13 R433) -/
  maskNow : Nat := 0x00FF
  /-- dump die in force since the cold start (4 bits; 13 R433) -/
  dieNow : Nat := 1
  /-- the slot replayed and not yet erased (1 bit and a valid mark; 13 R430) -/
  replaySlot : Option Nat := none
  /-- the image of a valid dump is loaded (1 bit; 13 R428) -/
  loaded : Bool := false
  /-- charging is off after an over-voltage (1 bit; 13 R412) -/
  ovOff : Bool := false
  /-- a store check has ended since the cold start (1 bit; 13 R413) -/
  checkedOnce : Bool := false
  /-- dump dies whose erase of a slot has not ended (dump dies per slot; 13 R430) -/
  eraseLeft : Tab Nat := []
  /-- usable dump dies when last looked at (0 to 64; 13 R434) -/
  seen : Nat := 0
  deriving DecidableEq, Repr

/-- One tub (Table 14.5). -/
structure Tub where
  /-- NEXT (16 bits; 14 R452) -/
  next : Nat := 0
  /-- OWNER (8 bits; 14 R452) -/
  owner : Nat := 0xFF
  /-- LAST (1 bit; 14 R452) -/
  last : Bool := false
  /-- HEAD (1 bit; 14 R452) -/
  head : Bool := false
  /-- KIND (2 bits; 14 R452) -/
  kind : Nat := 0
  /-- MSLOT (4 bits; 14 R452) -/
  mslot : Nat := 0
  /-- MTUB (16 bits; 14 R452) -/
  mtub : Nat := 0
  /-- CTX (16 bits; 14 R452) -/
  ctx : Nat := 0
  /-- a header parity error was found: never allocated again until the next cold start (1 bit; 14 R448) -/
  bad : Bool := false
  deriving DecidableEq, Repr

/-- One tub request not yet decided (R456). -/
structure TubReq where
  /-- requester (8 bits; 14 R456) -/
  tag : Nat := 0
  /-- protected class (1 bit; 14 R456) -/
  prot : Bool := false
  /-- tubs asked for (11 bits; 14 R456) -/
  n : Nat := 0
  /-- APPEND: the tub to link after (16 bits and a valid mark; 14 R456) -/
  after : Option Nat := none
  deriving DecidableEq, Repr

/-- Tub pool beside the TUB registers (chapter 14). -/
structure Tubs where
  /-- headers that are not free (65,536 headers; 14 R452) -/
  tub : Tab Tub := []
  /-- tubs released since the enable, in the order of release, both classes (queue; 14 R456) -/
  freed : List Nat := []
  /-- protected tubs never yet taken since the enable start here (17 bits; 14 R456) -/
  freshP : Nat := 0
  /-- unprotected tubs never yet taken since the enable start here (17 bits; 14 R456) -/
  freshU : Nat := 0
  /-- payloads, a tub's 512 bytes as one little-endian number (512 bytes each; 14 R452) -/
  pay : Tab Nat := []
  /-- shared queue of the protected class (queue; 14 R457) -/
  queueP : List TubReq := []
  /-- shared queue of the unprotected class (queue; 14 R457) -/
  queueU : List TubReq := []
  /-- rotating pointer of the protected class (4 bits; 14 R458) -/
  rotP : Nat := 0
  /-- rotating pointer of the unprotected class (4 bits; 14 R458) -/
  rotU : Nat := 0
  /-- requesters that have waited in this frame (12 bits; 14 R459) -/
  waited : List Nat := []
  /-- the model's own wire: head of the last chain granted to a hardware requester, plus 1 (16 bits each; 14 R456) -/
  hwRes : Tab Nat := []
  deriving DecidableEq, Repr

/-- Banks, arbitration and parity beside the MEM registers (chapter 14). -/
structure Memc where
  /-- rows redirected to a spare, key bank * 2048 + row (56 * 2048 bits; 14 R449) -/
  retired : Tab Bool := []
  /-- conflict counters by master index (152 * 32 bits; 14 R442) -/
  conflict : Tab Nat := []
  /-- rotating pointer of each dual-port bank (8 * 8 bits; 14 R443) -/
  legPtr : Tab Nat := []
  /-- conflict cycles of each dual-port bank (8 * 32 bits; 14 R443) -/
  legCyc : Tab Nat := []
  /-- parity errors of each dual-port bank (8 * 16 bits; 14 R443) -/
  legPar : Tab Nat := []
  /-- SRAM clearing runs; masters are held in reset (1 bit; 14 R451) -/
  clearing : Bool := false
  deriving DecidableEq, Repr

/-- One of the five blocks the secure domain leases (R492). -/
inductive Leased where
  | cipher | keyStore | drbg0 | fuses | secureSram
  deriving DecidableEq, Repr

/-- One firmware GCM context (R475, R479). -/
structure Gctx where
  /-- window it holds (14 bits and a valid mark; 15 R479) -/
  window : Option Nat := none
  /-- encryptions in the window (24 bits; 15 R479) -/
  k : Nat := 0
  /-- latest window it has held since the start (14 bits; 15 R479) -/
  held : Nat := 0
  deriving DecidableEq, Repr

/-- One GCM job taken from the ring (R476). -/
structure GJob where
  /-- its job slot (10 bits; 15 R476) -/
  slot : Nat := 0
  /-- generation of its context's key when it was taken (32 bits; 15 R481) -/
  gen : Nat := 0
  /-- IV assigned before its completion (96 bits and a valid mark; 15 R478) -/
  iv : Option Nat := none
  deriving DecidableEq, Repr

/-- Cipher engine and secure domain beside the CIP registers (chapter 15). -/
structure Cip where
  /-- key slots, as the identity of the key loaded (what the DRBG drew for it); none: empty (4096 * 512 bits; 15 R469) -/
  slots : Tab (Option Nat) := []
  /-- wrapped XTS keys of the secure record, by slot (4096 wrapped keys; 15 R472) -/
  wrapped : Tab (Option Nat) := []
  /-- firmware contexts 64 to 255 (192 records; 15 R475) -/
  gctx : Tab Gctx := []
  /-- firmware context generations (secure record) (192 * 32 bits; 15 R481) -/
  gen : Tab Nat := []
  /-- window counts of the contexts' keys (secure record) (192 * 16 bits; 15 R479) -/
  wcount : Tab Nat := []
  /-- latest window taken since the start (14 bits and a valid mark; 15 R479) -/
  window : Option Nat := none
  /-- Esnex session contexts 32 to 63, as the identity of the key bound (32 contexts; 15 R475) -/
  sess : Tab (Option Nat) := []
  /-- MCOUNT positions burned (0 to 16,384; 15 R486) -/
  mcount : Nat := 0
  /-- SVN positions burned (0 to 64; 15 R486) -/
  svn : Nat := 0
  /-- LIFECYCLE: 0x0 BLANK (4 bits; 15 R486) -/
  lifecycle : Nat := 0
  /-- SIGPOL (2 bits; 15 R486) -/
  sigpol : Nat := 0
  /-- REVOKE (4 bits; 15 R486) -/
  revoke : Nat := 0
  /-- PKH_EC (2 * 384 bits; 15 R486) -/
  pkhEc : List Nat := [0, 0]
  /-- PKH_ML (2 * 384 bits; 15 R486) -/
  pkhMl : List Nat := [0, 0]
  /-- DBGKH (384 bits; 15 R486) -/
  dbgkh : Nat := 0
  /-- IMGKEY (256 bits; 15 R486) -/
  imgkey : Nat := 0
  /-- DRBG instance 0 runs (1 bit; 15 R485) -/
  rng0ok : Bool := true
  /-- draws of DRBG instance 0 (64 bits; 15 R484) -/
  drawn0 : Nat := 0
  /-- draws of DRBG instance 1 (64 bits; 15 R484) -/
  drawn1 : Nat := 0
  /-- GCM jobs taken and not completed, in ring order (at most 4; 15 R476) -/
  jobs : List GJob := []
  /-- contexts 64 to 255 hold their keys (1 bit; 15 R475) -/
  fwKeys : Bool := true
  /-- source of the running image (4 bits; 15 R490) -/
  runSrc : Nat := 0
  /-- security version of the running image (8 bits; 15 R490) -/
  runSvn : Nat := 0
  /-- schemes of the running image (2 bits; 15 R490) -/
  runSch : Nat := 0
  /-- digest of the running image (384 bits and a valid mark; 15 R490) -/
  runDigest : Option Nat := none
  /-- last range erased of each namespace (64 * 8 bits; 15 R495) -/
  lastRange : Tab Nat := []
  /-- leased blocks gated by FORCE or power management (5 bits; 15 R494) -/
  gated : Nat := 0
  /-- the model's own count of writes of the secure record (32 bits; 15 R474) -/
  secWrites : Nat := 0
  deriving DecidableEq, Repr

/-- Control cluster, supplies and start-up beside the SYS and EVT registers (chapter 16). -/
structure Ctl where
  /-- PWRSEQ[7:0] outputs; all high once the logic die has left reset (8 bits; 16 R514) -/
  pwrseq : Nat := 0xFF
  /-- PGOOD[7:0] inputs (8 bits; 16 R514) -/
  pgood : Nat := 0xFF
  /-- VAON within limits (1 bit; 16 R516) -/
  vaon : Bool := true
  /-- the Lamp ROM waits for main good (step 2) (1 bit; 16 R516) -/
  waitMain : Bool := false
  /-- failed supply attempts (2 bits; 16 R515) -/
  attempts : Nat := 0
  /-- the retry of the supply sequence waits for its second (1 bit; 16 R515) -/
  retry : Bool := false
  /-- three attempts failed: waits for a new main good (1 bit; 16 R515) -/
  stoppedSup : Bool := false
  /-- cause code the next start takes (SYS_RSTCAUSE.CAUSE) (4 bits; 16 R519) -/
  cause : Nat := 1
  /-- address at which each logical core last started (4 * 40 bits; 16 R499) -/
  pc : Tab Nat := []
  /-- address at which L0 starts at its release (40 bits; 16 R499) -/
  entry : Nat := 0
  /-- a0 of L0 at its release (32 bits; 16 R499) -/
  a0 : Nat := 0
  /-- a1 of L0 at its release (32 bits; 16 R499) -/
  a1 : Nat := 0
  /-- the model's own count of starts of each logical core (4 counts; 16 R499) -/
  starts : Tab Nat := []
  /-- cores in WFI after an ACK (4 bits; 17 R527) -/
  wfi : Nat := 0
  /-- XSPI_RESET_N high (released at step 7) (1 bit; 23 R656) -/
  xspiReset : Bool := false
  /-- no source yielded an image (1 bit; 16 R513) -/
  noImage : Bool := false
  /-- the configuration record is loaded (step 11) (1 bit; 16 R516) -/
  recLoaded : Bool := false
  deriving DecidableEq, Repr

/-- Power states and domains beside the PWR, THM and AON registers (chapter 17). -/
structure Pow where
  /-- domains asked and not yet acknowledged (48 bits; 17 R527) -/
  asked : List Nat := []
  /-- domains that acknowledged (48 bits; 17 R527) -/
  acked : List Nat := []
  /-- target of the entry in progress (3 bits; 17 R530) -/
  entry : Nat := 0
  /-- wake source that set WAKEPEND (3 bits and a valid mark; 17 R537) -/
  wakeBy : Option Nat := none
  /-- state before the asking (3 bits; 17 R530) -/
  restore : Nat := 0
  /-- the standing request was refused and is asked again at a frame start (1 bit; 17 R530) -/
  refused : Bool := false
  /-- last operational power state (3 bits; 17 R524) -/
  lastPs : Nat := 0
  /-- MAIN_SENSE fell below the loss threshold since the entry (1 bit; 17 R537) -/
  mainFell : Bool := false
  /-- the shutdown-pending bit (1 bit; 17 R546) -/
  shutPend : Bool := false
  /-- the rails are down after a thermal shutdown (1 bit; 17 R546) -/
  offRails : Bool := false
  /-- device temperatures at or above the level 1 threshold (consecutive readings; 17 R543) -/
  up1 : Nat := 0
  /-- device temperatures at or above the level 2 threshold (consecutive readings; 17 R543) -/
  up2 : Nat := 0
  /-- readings below the running level's threshold minus the hysteresis (consecutive readings; 17 R543) -/
  down : Nat := 0
  /-- last readings, 1/16 degree C (16 * 16 bits; 17 R540) -/
  temp : List Int := []
  /-- slot boundaries left before a die may start another high-current operation (slots per die; 17 R544) -/
  pauses : Tab Nat := []
  /-- cluster clock under PLIM (MHz; 17 R545) -/
  freqMhz : Nat := 1600
  /-- XTS lanes under PLIM (1 to 16; 17 R545) -/
  xtsLanes : Nat := 16
  /-- THERMTRIP_N driven low (1 bit; 23 R650) -/
  thermtrip : Bool := false
  /-- Lamp SRAM, by byte; lost in DEEP_OFF (16 KiB; 16 R501) -/
  lampSram : Tab Nat := []
  /-- fraction of an RTC unit, in 1/25,000,000 of it, for the tick of the empty queue (25 bits; 17 R537) -/
  rtcDiv : Nat := 0
  deriving DecidableEq, Repr

/-- One WRITE_BLOCK staging (R569). -/
structure Stage where
  /-- INDEX of the staged value (16 bits; 18 R569) -/
  index : Nat := 0
  /-- SUB of the staged value (8 bits; 18 R569) -/
  sub : Nat := 0
  /-- TOTAL (16 bits; 18 R569) -/
  total : Nat := 0
  /-- bytes staged so far (up to 4,096 bytes; 18 R569) -/
  bytes : List Nat := []
  deriving DecidableEq, Repr

/-- One Esnex session (R574). -/
structure Sess where
  /-- source node the session belongs to (8 bits; 18 R574) -/
  node : Nat := 0
  /-- credential it was opened with (2 bits; 18 R576) -/
  cred : Nat := 0
  /-- session key K_S bound to the context (256 bits; 18 R574) -/
  key : Nat := 0
  /-- invocation counter last accepted plus 1; 0 none (64 bits; 18 R575) -/
  lastIv : Nat := 0
  /-- consecutive tag failures (4 bits; 18 R576) -/
  fails : Nat := 0
  deriving DecidableEq, Repr

/-- One answer the engine has sent, on any path. -/
structure Reply where
  /-- path (0 secure, 1 firmware, 2 NVMe, 3 MCTP, 4 Esnex; 18 R558) -/
  path : Nat := 0
  /-- whom it answers (node, context or function; 18 R558) -/
  dest : Nat := 0
  /-- SEQ or command identifier (16 bits; 18 R567) -/
  seq : Nat := 0
  /-- opcode (8 bits; 18 R567) -/
  op : Nat := 0
  /-- session; 0: sent without authentication (16 bits; 18 R567) -/
  session : Nat := 0
  /-- abort code (16 bits; 18 R558) -/
  abort : Nat := 0
  /-- payload (for an authenticated response, its plaintext) (bytes; 18 R568) -/
  data : List Nat := []
  /-- IV of an authenticated response (96 bits; 18 R575) -/
  iv : Nat := 0
  deriving DecidableEq, Repr

/-- One answer held until the configuration record is in both copies (R556). -/
structure Wait where
  /-- the answer (an answer; 18 R556) -/
  reply : Reply := {}
  /-- it completes a Dictionary Write command (reply.dest is its context's ticket) (1 bit; 18 R579) -/
  cmd : Bool := false
  /-- its value is in the next record, not in the one in progress (1 bit; 18 R556) -/
  next : Bool := false
  deriving DecidableEq, Repr

/-- Object dictionary engine and shelf network beside the MGT registers (chapter 18). -/
structure Mgt where
  /-- values of the entries written since the last load and not held in a register, key index * 256 + sub; the entry's default otherwise (per entry, Tables 2.9 to 20.5; 18 R551) -/
  dict : Tab (Option DVal) := []
  /-- values in force of entries that take effect at the next cold start, as fixed at the last one (per entry; 18 R563) -/
  nextCold : Tab (Option DVal) := []
  /-- configuration record copy A as the flash holds it; none: not valid (generation and record; 18 R556) -/
  copyA : Option (Nat × Tab (Option DVal)) := none
  /-- configuration record copy B (generation and record; 18 R556) -/
  copyB : Option (Nat × Tab (Option DVal)) := none
  /-- generation of the last record started (64 bits; 18 R556) -/
  recGen : Nat := 0
  /-- the record whose write is in progress (a record and a valid mark; 18 R556) -/
  recNow : Option (Tab (Option DVal)) := none
  /-- RWP writes wait to be merged into the next record (1 bit; 18 R556) -/
  recNext : Bool := false
  /-- answers held for a record write (queue; 18 R556) -/
  waits : List Wait := []
  /-- from step 5 of the cold start until the load of R557 ends (1 bit; 18 R561) -/
  loading : Bool := true
  /-- SEQ and response of the last executed request of each source node (key node) and session (key 256 + context) (SEQ and response; 18 R570) -/
  last : Tab (Option (Nat × Reply)) := []
  /-- stagings, key as of last (one per source node or session; 18 R569) -/
  stages : Tab (Option Stage) := []
  /-- open sessions (contexts 32 to 63; 18 R574) -/
  sess : Tab (Option Sess) := []
  /-- credentials as the secure record keeps them (wrapped there); empty list: empty (4 * 32 bytes; 18 R577) -/
  creds : Tab (List Nat) := []
  /-- assertions of each event source in this frame (512 * 32 bits; 18 R572) -/
  notCount : Tab Nat := []
  /-- assertions of each event source in the previous frame (512 * 32 bits; 18 R572) -/
  notPrev : Tab Nat := []
  /-- the model's own record of NOTIFY payloads sent, as SOURCE, BT and COUNT (unbounded; 18 R572) -/
  notifies : List (List Nat) := []
  /-- the model's own record of answers sent on the Esnex and MCTP paths (unbounded; 18 R568) -/
  sent : List Reply := []
  /-- event 395 raised in this frame (1 bit; 18 R582) -/
  full395 : Bool := false
  /-- SMBus frequency of Configuration Set (1: 100 kHz) (4 bits; 18 R581) -/
  smbFreq : Nat := 1
  /-- MCTP transmission unit size, bytes (8 bits; 18 R580) -/
  mctpUnit : Nat := 64
  /-- Pause control primitive in force (1 bit; 18 R581) -/
  mctpPaused : Bool := false
  /-- MGT_FDATA by byte offset (4,096 bytes; 18 R559) -/
  fdata : Tab Nat := []
  /-- the environment's: GPIO input pins (32 bits; 16 R521) -/
  gpioIn : Nat := 0
  deriving DecidableEq, Repr

/-- One Tally snapshot (R587). -/
structure Snap where
  /-- epoch (32 bits; 19 R587) -/
  epoch : Nat := 0
  /-- Bell time of the latching cycle (64 bits; 19 R589) -/
  bt : Nat := 0
  /-- counters latched (3,840 * 64 bits; 19 R586) -/
  values : Tab Nat := []
  deriving DecidableEq, Repr

/-- Tally beside the TLY registers (chapter 19). -/
structure Tly where
  /-- native counters (3,840 * 64 bits; 19 R583) -/
  cnt : Tab Nat := []
  /-- held snapshots, latest first (8 snapshots; 19 R587) -/
  snaps : List Snap := []
  /-- a snapshot is requested (1 bit; 19 R585) -/
  req : Bool := false
  deriving DecidableEq, Repr

/-- One event record (Table 19.4), CRC computed. -/
structure Rec where
  /-- CLASS (4 bits; 19 R594) -/
  cls : Nat := 0
  /-- LIST (3 bits; 19 R594) -/
  list : Nat := 0
  /-- COUNT (5 bits; 19 R594) -/
  count : Nat := 0
  /-- LOST (11 bits; 19 R594) -/
  lost : Nat := 0
  /-- SOURCE (9 bits; 19 R594) -/
  source : Nat := 0
  /-- SEQ (64 bits; 19 R594) -/
  seq : Nat := 0
  /-- BT (64 bits; 19 R594) -/
  bt : Nat := 0
  /-- MEPOCH (16 bits; 19 R594) -/
  mepoch : Nat := 0
  /-- MODE (16 bits; 19 R594) -/
  mode : Nat := 0
  /-- DETAIL (16 bits; 19 R594) -/
  detail : Nat := 0
  /-- VALID (16 bits; 19 R594) -/
  valid : Nat := 0
  /-- DATA (16 * 32 bits; 19 R594) -/
  data : List Nat := []
  deriving DecidableEq, Repr

/-- Event recorder beside the EVR registers (chapter 19). -/
structure Evr where
  /-- records of the ring not yet flushed, oldest first (1,024 records; 19 R595) -/
  ring : List Rec := []
  /-- flushed records the ring still holds (1,024 records; 19 R595) -/
  flushed : List Rec := []
  /-- records of the ring a running flush writes (11 bits; 19 R597) -/
  flushing : Nat := 0
  /-- first area as the flash holds it (one unit; 19 R600) -/
  first : List Rec := []
  /-- last area: unit number (in the order of writing) and record (up to 7 channels' units; 19 R600) -/
  last : List (Nat × Rec) := []
  /-- last-area units written, the one being filled last, by die * 131072 + unit (units; 19 R600) -/
  lastUnits : List Nat := []
  /-- SLC pages of the first area written (0 to 2,048; 19 R600) -/
  firstPages : Nat := 0
  /-- SLC pages of the last-area unit being filled written (0 to 2,048; 19 R600) -/
  lastPages : Nat := 0
  /-- next SEQ to be assigned (64 bits; 19 R596) -/
  nextSeq : Nat := 1
  /-- the areas have been scanned since the cold start: records receive SEQ (1 bit; 19 R596) -/
  scanned : Bool := false
  /-- records created before the scan ended, waiting for their SEQ (records; 19 R596) -/
  early : List Rec := []
  /-- records dropped since manufacture (64 bits; 19 R603) -/
  dropped : Nat := 0
  /-- records dropped since the last record entered (11 bits; 19 R595) -/
  lostNext : Nat := 0
  /-- triggers that fired in this slot (16 bits; 19 R591) -/
  fired : List Nat := []
  /-- frame of the last flush (40 bits; 19 R597) -/
  lastFlush : Nat := 0
  /-- a flush waits: one was requested while another ran or while group 3 was not READY (1 bit; 19 R597) -/
  flushAgain : Bool := false
  deriving DecidableEq, Repr

/-- Safety mechanisms beside the SAF registers (chapter 20). -/
structure Saf where
  /-- reference-cycle count at which each watchdog last restarted (64 bits each; 20 R610) -/
  wdogAt : Tab Nat := []
  /-- targeted self-tests running or waiting for the next start (type and unit; 20 R615) -/
  tests : List (Nat × Nat) := []
  /-- tests marked 'next start' (type and unit; 20 R615) -/
  nextStart : List (Nat × Nat) := []
  /-- logical cores held in reset by a lasting verdict (4 bits; 20 R615) -/
  lastingCores : List Nat := []
  /-- XTS lanes fenced (5 bits; 20 R615) -/
  badLanes : Nat := 0
  /-- GCM lanes fenced (5 bits; 20 R615) -/
  badGcm : Nat := 0
  /-- decoders removed from their pool (56 bits; 20 R615) -/
  badDec : List Nat := []
  /-- the secure pair failed its test: the cluster is not released (1 bit; 20 R615) -/
  secHold : Bool := false
  /-- units held in reset by a lasting verdict (units; 20 R615) -/
  unitHold : List Nat := []
  /-- the Lamp core runs Lamp ROM only (1 bit; 20 R615) -/
  lampRomOnly : Bool := false
  /-- comparator marked failed: throttle floor level 2 (1 bit; 20 R615) -/
  compBad : Bool := false
  /-- the start holds both dies at step 5 (1 bit; 20 R615) -/
  startHold : Bool := false
  /-- the model's own: SAF_FADDR has captured since reset (1 bit; 20 R619) -/
  faddrSet : Bool := false
  /-- 0x7110+k:01 (19 * 32 bits; 20 R619) -/
  det : Tab Nat := []
  /-- 0x7110+k:02 (19 * 32 bits; 20 R619) -/
  trans : Tab Nat := []
  /-- 0x7110+k:03 (19 * 32 bits; 20 R619) -/
  lasting : Tab Nat := []
  /-- 0x7110+k:04 (19 * 32 bits; 20 R619) -/
  undecided : Tab Nat := []
  /-- 0x7110+k:05 (19 * 64 bits; 20 R619) -/
  lastBt : Tab Nat := []
  /-- 0x7100:00, type, severity and verdict of the last error (32 bits; 20 R619) -/
  last : Nat := 0
  /-- 0x7101:00, mechanisms marked failed (9 bits; 20 R619) -/
  marked : Nat := 0
  /-- bytes of the scrub pass read (27 bits; 20 R611) -/
  scrubAt : Nat := 0
  /-- event 455 raised in this frame (1 bit; 20 R620) -/
  d2dEv : Bool := false
  deriving DecidableEq, Repr

/-- Test access beside the TST registers (chapter 21). -/
structure Tst where
  /-- the loopback each slot runs (INTF, INDEX, DEPTH per slot; 21 R622) -/
  loops : Tab (Option (Nat × Nat × Nat)) := []
  /-- the BIST that runs (type and target and a valid mark; 21 R630) -/
  bistRun : Option (Nat × Nat) := none
  /-- TAP instruction register: IDCODE after Test-Logic-Reset (8 bits; 21 R631) -/
  ir : Nat := 1
  /-- the model's own wire: what the selected register reads (selected data register; 21 R631) -/
  dr : Nat := 0x18128A2B
  /-- boundary register, preloaded update values (4,412 cells; 21 R631) -/
  cells : Tab Nat := []
  /-- how the boundary cells would drive the balls (R632 lets them) (0 functional, 1 EXTEST, 2 HIGHZ, 3 CLAMP, 4 EXTEST_PULSE, 5 EXTEST_TRAIN; 21 R632) -/
  drive : Nat := 0
  /-- halted harts (6 bits; 21 R633) -/
  halted : List Nat := []
  /-- dmistat of dtmcs (2 bits; 21 R634) -/
  dmistat : Nat := 0
  /-- debug module registers, by DMI address (debug module registers; 21 R634) -/
  dmi : Tab Nat := []
  /-- data the last dmi access returned (32 bits; 21 R634) -/
  dmiData : Nat := 0
  /-- level requested and being verified (2 bits; 21 R635) -/
  dbgLevel : Nat := 0
  deriving DecidableEq, Repr

/-- What must survive a loss of power: as flash holds it (checkpoint zones, journals, map copy, unit table, placements), or as a dump image carries it (chapters 06, 07, 12, 13). -/
structure Keep where
  /-- namespaces (namespace records; 06 R186) -/
  ns : Tab Ns := []
  /-- rows that are not free and erased, as the erase units stand (flash; 06 R203) -/
  rows : Tab Row := []
  /-- zone journal (zone journal; 06 R213) -/
  journal : List (Nat × Zone) := []
  /-- conventional page map as the map pages on MAP units hold it (map pages; 07 R232) -/
  map : Tab (Option (Nat × Nat)) := []
  /-- directory and map top table (directory pages and system area; 07 R230) -/
  mapAddr : Tab Nat := []
  /-- pages programmed on each MAP unit (flash; 07 R232) -/
  mapUsed : Tab Nat := []
  /-- MAP unit being filled, plus 1 (flash; 07 R232) -/
  mapUnit : Nat := 0
  /-- map journal (map journal; 07 R232) -/
  mapJrnl : List (Nat × Option (Nat × Nat)) := []
  /-- chunk locations (those that the scan of R215 finds) (placements; 06 R215) -/
  chunks : Tab Loc := []
  /-- fold records (fold records; 07 R241) -/
  folds : Tab Fold := []
  /-- unit table (unit table; 07 R220) -/
  units : Tab URec := []
  /-- row remap table (row remap table; 07 R223) -/
  remap : Tab (Option Nat) := []
  /-- units that were not ROW when the layout closed (unit table; 07 R223) -/
  nonRow : List Nat := []
  /-- SPARE units of each die at layout (unit table; 07 R261) -/
  spare0 : Tab Nat := []
  /-- the layout is closed (unit table; 07 R222) -/
  layout : Bool := false
  /-- SLC capacity in force (unit table; 07 R235) -/
  slcCap : Nat := 1024
  /-- pages programmed on each SLC unit (flash; 07 R236) -/
  slcUsed : Tab Nat := []
  /-- pages of each SLC unit that are a location of record (flash; 07 R239) -/
  slcLive : Tab Nat := []
  /-- SLC unit of each die being filled (flash; 07 R236) -/
  slcPtr : Tab Nat := []
  /-- function that wrote a chunk, plus 1 (flash; 05 R168) -/
  chunkFn : Tab Nat := []
  /-- blocks held (4 KiB per block; 07 R225) -/
  blocks : Tab (Option Nat) := []
  /-- their protection information (8 bytes per block; 11 R367) -/
  blkMeta : Tab Nat := []
  /-- running parity (4,128 bytes each; 12 R378) -/
  parity : Tab Nat := []
  /-- health values (health values; 07 R261) -/
  health : Tab Nat := []
  /-- 0x7010:19 as written to the system area (16 bits; 07 R261) -/
  tMax : Int := -273
  /-- 0x7010:1A as written (64 bits; 07 R261) -/
  tMaxBt : Nat := 0
  /-- 0x7010:1B as written (16 bits; 07 R261) -/
  tMin : Int := 327
  /-- 0x7010:1C as written (64 bits; 07 R261) -/
  tMinBt : Nat := 0
  /-- unflushed event records (up to 1,024 records; 19 R598) -/
  recs : List Rec := []
  /-- headers of the protected tubs in use (8-byte headers; 13 R421) -/
  tubs : Tab Tub := []
  /-- their payloads (512 bytes each; 13 R421) -/
  pays : Tab Nat := []
  /-- tub chain of each committed 4 KiB unit (piece table; 13 R421) -/
  blkTub : Tab Nat := []
  /-- units each chain still carries (piece table; 13 R421) -/
  tubLeft : Tab Nat := []
  /-- first unit of each chain's piece (piece table; 13 R421) -/
  tubBase : Tab Nat := []
  /-- committed write pointer and voids of each descriptor whose committed pieces go beyond what the journal records (piece table; 13 R421) -/
  pieces : Tab (Nat × List (Nat × Nat)) := []
  deriving DecidableEq, Repr

/-- One copy of the zone-table checkpoint (R214). -/
structure Ckpt where
  /-- checkpoints written up to this copy; 0 never written (the header; 06 R214) -/
  gen : Nat := 0
  /-- its header is valid; both copies are valid and empty when the part is new (DESIGN CHOICE) (1 bit; 06 R215) -/
  ok : Bool := true
  /-- zone table (32 MiB of pages; 06 R214) -/
  zones : Tab Zone := []
  /-- pages of 128 descriptors that fail their check (checkpoint pages; 06 R216) -/
  bad : List Nat := []
  deriving DecidableEq, Repr

/-- Non-volatile contents beside the records named above (chapters 06, 07, 12, 13). -/
structure Nv where
  /-- the flash copies (flash; 06 R214) -/
  keep : Keep := {}
  /-- zone-table checkpoint copy A, on channels 8 to 15 (32 MiB; 07 R224) -/
  ckptA : Ckpt := {}
  /-- zone-table checkpoint copy B, on channels 16 to 23 (32 MiB; 07 R224) -/
  ckptB : Ckpt := {}
  /-- halves of the system area (0: channels 8 to 15, 1: channels 16 to 23) whose copy of the unit table, the row remap table, the map top table and the health values fails its hash (2 bits; 07 R224) -/
  sysBad : List Nat := []
  /-- contents of the newest complete dump, with its data (a dump image; 13 R420) -/
  image : Option Keep := none
  /-- its generation (32 bits; 13 R421) -/
  imageGen : Nat := 0
  /-- dump slot 0 (a dump slot; 13 R420) -/
  slotA : Slot := {}
  /-- dump slot 1 (a dump slot; 13 R420) -/
  slotB : Slot := {}
  /-- die membership as recorded (membership record; 12 R390) -/
  member : Tab Mem := []
  /-- positions as recorded (membership record; 12 R390) -/
  pos : Tab Pos := []
  /-- membership epoch as recorded (16 bits; 12 R390) -/
  memEpoch : Nat := 0
  /-- lost-stripe table as recorded (lost-stripe table; 12 R394) -/
  lost : List Lost := []
  /-- lost stripes that only their codewords on the media mark (lost stripes; 12 R394) -/
  lostMore : List Lost := []
  /-- suspect list as recorded (suspect list; 12 R390) -/
  suspects : List (Nat × Nat) := []
  /-- stripes lost since manufacture (64 bits; 12 R395) -/
  lostEver : Nat := 0
  /-- Bell time of the last dump commit (64 bits; 13 R433) -/
  dumpBt : Nat := 0
  /-- incomplete dumps found (32 bits; 13 R431) -/
  incomplete : Nat := 0
  /-- thermal shutdowns since manufacture (32 bits; 17 R546) -/
  shutdowns : Nat := 0
  /-- generation of the dump last replayed (32 bits; 13 R431) -/
  replayed : Nat := 0
  /-- generation of the last dump (32 bits; 13 R421) -/
  gen : Nat := 0
  /-- a power-off of severity 4 since the last start (1 bit; 20 R614) -/
  lostPower : Bool := false
  /-- protected tubs in force (0x3261:00), kept over a start with a dump to replay (16 bits; 14 R454) -/
  splitP : Nat := 49152
  /-- firmware images committed, by slot (2 images; 04 R154) -/
  fwSlots : Tab (List Nat) := []
  /-- firmware slot to activate at the next start; 0 none (2 bits; 04 R154) -/
  fwNext : Nat := 0
  /-- Device Self-test log: code and result, newest first (20 results; 04 R154) -/
  stLog : List (Nat × Nat) := []
  /-- Sanitize status: 0 never sanitized, 1 completed (3 bits; 04 R154) -/
  sanStat : Nat := 0
  deriving DecidableEq, Repr

/-- The machine. -/
structure State where
  /-- the queue of commands that wait, first in, first out -/
  pending : List Instr := []
  /-- the model's own counter that free values are applied to (log entry 11) -/
  free : Nat := 0
  /-- register fields that differ from their reset value, by field key (00 R14) -/
  regs : Tab Nat := []
  /-- What the part carries for life, and its fuses (chapters 00, 15) -/
  ident : Ident := {}
  /-- Register space, SRAM and bus-fault state beside the register fields (chapter 01) -/
  bus : BusIf := {}
  /-- Bell time, lock loop, mode epochs and power-up sequence beside the BEL registers (chapter 02) -/
  bell : Bell := {}
  /-- PCIe host link beside the PCI registers (chapter 03) -/
  pci : Pci := {}
  /-- NVMe front end beside the HFE registers (chapter 04) -/
  hfe : Hfe := {}
  /-- Function sharing beside the FNS registers and the function records (chapter 05) -/
  fns : Fns := {}
  /-- Zone and placement manager beside the ZPM registers (chapter 06) -/
  zpm : Zpm := {}
  /-- Media management and the Kiln beside the MED registers (chapter 07) -/
  med : Med := {}
  /-- Flash channels beside the FCH registers (chapter 08) -/
  fch : Fch := {}
  /-- Drift engines (chapters 09, 10) -/
  drf : Drf := {}
  /-- Flash ECC beside the ECC registers (chapter 11) -/
  ecc : Ecc := {}
  /-- Mash parity engine beside the MSH registers (chapter 12) -/
  msh : Msh := {}
  /-- Hold-up manager beside the HLD registers (chapter 13) -/
  hld : Hld := {}
  /-- Tub pool beside the TUB registers (chapter 14) -/
  tubs : Tubs := {}
  /-- Banks, arbitration and parity beside the MEM registers (chapter 14) -/
  memc : Memc := {}
  /-- Cipher engine and secure domain beside the CIP registers (chapter 15) -/
  cip : Cip := {}
  /-- Control cluster, supplies and start-up beside the SYS and EVT registers (chapter 16) -/
  ctl : Ctl := {}
  /-- Power states and domains beside the PWR, THM and AON registers (chapter 17) -/
  pow : Pow := {}
  /-- Object dictionary engine and shelf network beside the MGT registers (chapter 18) -/
  mgt : Mgt := {}
  /-- Tally beside the TLY registers (chapter 19) -/
  tly : Tly := {}
  /-- Event recorder beside the EVR registers (chapter 19) -/
  evr : Evr := {}
  /-- Safety mechanisms beside the SAF registers (chapter 20) -/
  saf : Saf := {}
  /-- Test access beside the TST registers (chapter 21) -/
  tst : Tst := {}
  /-- Non-volatile contents beside the records named above (chapters 06, 07, 12, 13) -/
  nv : Nv := {}
  deriving DecidableEq, Repr

/-- Why the machine stops with a fault. -/
inductive Fault where
  /-- Raised by nothing at present: every effect the spec describes is a next state. Safe. -/
  | none
  deriving DecidableEq, Repr

/-- Why a command has no meaning here. -/
inductive Refusal where
  /-- Raised by the dispatch arm of a command whose meaning is not written; safe: nothing is claimed of it. -/
  | notModelled (mnemonic : String)
  deriving DecidableEq, Repr

/-- The machine right after reset: the logic die has left reset and SRAM is cleared (R451, R516 step 6); every register
at the reset value of its table (log entries 4 and 5). -/
def State.reset : State := {}

end Sys2Proof.Machine
end

