-- ==== Sys2Proof/Machine/Setters.lean ====
section
/-! DEFINITION. Machine/Setters.lean: one update per subsystem of State. Meanings change State through these. -/

namespace Sys2Proof.Machine

/-- Change the register fields. -/
def State.modRegs (f : Tab Nat → Tab Nat) (s : State) : State := { s with regs := f s.regs }
/-- Change the free-value counter. -/
def State.modFree (f : Nat → Nat) (s : State) : State := { s with free := f s.free }
/-- Change `ident`. -/
def State.modIdent (f : Ident → Ident) (s : State) : State := { s with ident := f s.ident }
/-- Change `bus`. -/
def State.modBus (f : BusIf → BusIf) (s : State) : State := { s with bus := f s.bus }
/-- Change `bell`. -/
def State.modBell (f : Bell → Bell) (s : State) : State := { s with bell := f s.bell }
/-- Change `pci`. -/
def State.modPci (f : Pci → Pci) (s : State) : State := { s with pci := f s.pci }
/-- Change `hfe`. -/
def State.modHfe (f : Hfe → Hfe) (s : State) : State := { s with hfe := f s.hfe }
/-- Change `fns`. -/
def State.modFns (f : Fns → Fns) (s : State) : State := { s with fns := f s.fns }
/-- Change `zpm`. -/
def State.modZpm (f : Zpm → Zpm) (s : State) : State := { s with zpm := f s.zpm }
/-- Change `med`. -/
def State.modMed (f : Med → Med) (s : State) : State := { s with med := f s.med }
/-- Change `fch`. -/
def State.modFch (f : Fch → Fch) (s : State) : State := { s with fch := f s.fch }
/-- Change `drf`. -/
def State.modDrf (f : Drf → Drf) (s : State) : State := { s with drf := f s.drf }
/-- Change `ecc`. -/
def State.modEcc (f : Ecc → Ecc) (s : State) : State := { s with ecc := f s.ecc }
/-- Change `msh`. -/
def State.modMsh (f : Msh → Msh) (s : State) : State := { s with msh := f s.msh }
/-- Change `hld`. -/
def State.modHld (f : Hld → Hld) (s : State) : State := { s with hld := f s.hld }
/-- Change `tubs`. -/
def State.modTubs (f : Tubs → Tubs) (s : State) : State := { s with tubs := f s.tubs }
/-- Change `memc`. -/
def State.modMemc (f : Memc → Memc) (s : State) : State := { s with memc := f s.memc }
/-- Change `cip`. -/
def State.modCip (f : Cip → Cip) (s : State) : State := { s with cip := f s.cip }
/-- Change `ctl`. -/
def State.modCtl (f : Ctl → Ctl) (s : State) : State := { s with ctl := f s.ctl }
/-- Change `pow`. -/
def State.modPow (f : Pow → Pow) (s : State) : State := { s with pow := f s.pow }
/-- Change `mgt`. -/
def State.modMgt (f : Mgt → Mgt) (s : State) : State := { s with mgt := f s.mgt }
/-- Change `tly`. -/
def State.modTly (f : Tly → Tly) (s : State) : State := { s with tly := f s.tly }
/-- Change `evr`. -/
def State.modEvr (f : Evr → Evr) (s : State) : State := { s with evr := f s.evr }
/-- Change `saf`. -/
def State.modSaf (f : Saf → Saf) (s : State) : State := { s with saf := f s.saf }
/-- Change `tst`. -/
def State.modTst (f : Tst → Tst) (s : State) : State := { s with tst := f s.tst }
/-- Change `nv`. -/
def State.modNv (f : Nv → Nv) (s : State) : State := { s with nv := f s.nv }

end Sys2Proof.Machine
end

