-- ==== Sys2Proof/Machine/Ops.lean ====
section
/-! DEFINITION. Machine/Ops.lean: the operations every meaning is built from: register fields, saturating counters,
on-chip bytes and words, bit helpers and Bell time as a number. -/

namespace Sys2Proof.Machine

/-! Register fields (R14, R19). -/

/-- The value of a register field; its reset value where nothing has changed it. -/
def State.fld (s : State) (f : Fld) : Nat := Tab.get f.reset s.regs f.key

/-- The state with a register field holding `v`, reduced to the field's width. -/
def State.setFld (f : Fld) (v : Nat) (s : State) : State :=
  s.modRegs fun t => Tab.set f.reset t f.key (v % 2 ^ f.w)

/-- Is a one-bit field 1? -/
def State.on (s : State) (f : Fld) : Bool := s.fld f != 0

/-- The state with a one-bit field at `b`. -/
def State.put (f : Fld) (b : Bool) (s : State) : State := s.setFld f b.toNat

/-- A counter field increased by `n`, saturating at all ones. -/
def State.count (f : Fld) (n : Nat) (s : State) : State := s.setFld f (min (s.fld f + n) (2 ^ f.w - 1))

/-! Bits and lists. -/

/-- Bit `i` of `v`. -/
def bit (v i : Nat) : Bool := v.testBit i

/-- `v` with bit `i` at `b`. -/
def setBit (v i : Nat) (b : Bool) : Nat := if v.testBit i = b then v else if b then v + 2 ^ i else v - 2 ^ i

/-- Bits `[lo + w - 1 : lo]` of `v`. -/
def slice (v lo w : Nat) : Nat := v / 2 ^ lo % 2 ^ w

/-- The value of a two's complement number of `w` bits. -/
def signed (w v : Nat) : Int := if v % 2 ^ w < 2 ^ (w - 1) then (v % 2 ^ w : Nat) else (v % 2 ^ w : Nat) - (2 ^ w : Nat)

/-- A number as two's complement of `w` bits. -/
def twos (w : Nat) (v : Int) : Nat := (v % (2 ^ w : Nat)).toNat

/-- How many of the low `n` bits of `v` are 1. -/
def popCount (v : Nat) : Nat → Nat
  | 0 => 0
  | n + 1 => popCount v n + (v.testBit n).toNat

/-- The low bits of `v` that are 1, in rising order, below `n`. -/
def bitsOf (v n : Nat) : List Nat := (List.range n).filter fun i => v.testBit i

/-- A little-endian number of `n` bytes as its bytes. -/
def toBytes (v : Nat) : Nat → List Nat
  | 0 => []
  | n + 1 => v % 256 :: toBytes (v / 256) n

/-- The number whose little-endian bytes these are. -/
def ofBytes : List Nat → Nat
  | [] => 0
  | b :: l => b % 256 + 256 * ofBytes l

/-- The ceiling of a quotient. -/
def ceilDiv (a b : Nat) : Nat := if b = 0 then 0 else (a + b - 1) / b

/-- The list with element `x` added unless it is there. -/
def addTo {α : Type} [DecidableEq α] (x : α) (l : List α) : List α := if x ∈ l then l else l ++ [x]

/-- The list without element `x`. -/
def dropFrom {α : Type} [DecidableEq α] (x : α) (l : List α) : List α := l.filter fun y => decide (y ≠ x)

/-- The first element that `p` marks, changed by `f`. -/
def updFirst {α : Type} (p : α → Bool) (f : α → α) : List α → List α
  | [] => []
  | x :: l => if p x then f x :: l else x :: updFirst p f l

/-- The base-2 logarithm of a power of two, rounded down. -/
def log2 (n : Nat) : Nat := Nat.log2 n

/-- Apply a step to the state for each element in turn. -/
def each {α : Type} (l : List α) (f : α → State → State) (s : State) : State := l.foldl (fun s a => f a s) s

/-! Bell time as a number (Table 2.2): EPOCH 8, FRAME 40, SLOT 6, PHASE 10 bits. -/

/-- The 64-bit Bell time. -/
def State.bellTime (s : State) : Nat :=
  s.fld BEL_STAT.EPOCH * 2 ^ 56 + s.bell.frame % 2 ^ 40 * 2 ^ 16 + s.bell.slot % 64 * 2 ^ 10 + s.bell.phase % 1024

/-- The reference-cycle counter (R46), one cycle every 40 ns. -/
def State.now (s : State) : Nat := s.fld SYS_REFCNT.COUNT

/-! Free values (log entry 11). -/

/-- The state with the free-value counter advanced: the next free value has index `s.free`. -/
def State.tookFree (s : State) : State := s.modFree (· + 1)

/-! On-chip SRAM (R29, R435, R451). -/

/-- What an unlisted byte reads: SRAM clearing writes zero (R451). -/
def memDefault : BitVec 8 := 0

/-- One byte of on-chip SRAM. -/
def State.byte (s : State) (a : Nat) : Nat := (Tab.get memDefault s.bus.mem a).toNat

/-- The state with byte `a` at `v`. -/
def State.setByte (a v : Nat) (s : State) : State :=
  s.modBus fun b => { b with mem := Tab.set memDefault b.mem a (BitVec.ofNat 8 v) }

/-- `n` bytes from `a` on. -/
def State.bytes (s : State) (a n : Nat) : List Nat := (List.range n).map fun i => s.byte (a + i)

/-- The state with the bytes `l` from `a` on. -/
def State.setBytes (a : Nat) : List Nat → State → State
  | [], s => s
  | b :: l, s => State.setBytes (a + 1) l (s.setByte a b)

/-- The little-endian 32-bit word at `a`. -/
def State.word (s : State) (a : Nat) : Nat := ofBytes (s.bytes a 4)

/-- The state with the little-endian 32-bit word `v` at `a`. -/
def State.setWord (a v : Nat) (s : State) : State := s.setBytes a (toBytes v 4)

/-- The canonical form of memory. -/
def Memory.wf (m : List Host.Cell) : Bool := Tab.wf memDefault m

/-- The answer of a meaning that completes. -/
def done (s : State) : Host.Outcome State Fault Refusal := .next s

end Sys2Proof.Machine
end

