-- ==== Sys2Proof/Machine/RegMap.lean ====
section
/-! DEFINITION. Machine/RegMap.lean: the registers by address: which fields a word holds and of which access type
(R14), for the generic read and write of a register. -/

namespace Sys2Proof.Machine

/-- Access types of R14; `rl` is a 64-bit RL/RH pair, `pair` a 64-bit RW pair written under R17, `rh` a latched high half
of its own, `ret` a retention word (R539), `fence` the set-only fences of R285, `evt` RW or, for sources 288 to 319, RS. -/
inductive Acc where
  | const | ro | rw | rc | rs | wo | rl | pair | rh | ret | fence | evt
  deriving DecidableEq, Repr

/-- One register, or one array of registers, of the map. -/
structure RegRow where
  base : Nat
  n1 : Nat
  s1 : Nat
  n2 : Nat
  s2 : Nat
  size : Nat                                   -- bytes: 4, or 8 for a pair
  fields : Nat → Nat → List (Fld × Acc)

/-- Does the row hold the word at `a`? If so, its indices. -/
def RegRow.at? (r : RegRow) (a : Nat) : Option (Nat × Nat) :=
  if a < r.base then none
  else
    let d := a - r.base
    let i := if r.s1 = 0 then 0 else d / r.s1
    let d := d - i * r.s1
    let j := if r.s2 = 0 then 0 else d / r.s2
    let d := d - j * r.s2
    if i < r.n1 ∧ j < r.n2 ∧ d < r.size then some (i, j) else none

/-- Registers of block SYS. -/
def regMapSYS : List RegRow := [
  ⟨0x40000000, 1, 0x0, 1, 0x0, 4, fun _ _ => [(SYS_IDENT.PART, .const), (SYS_IDENT.STEP, .const), (SYS_IDENT.VARIANT, .const)]⟩,
  ⟨0x40000010, 1, 0x0, 1, 0x0, 8, fun _ _ => [(SYS_REFCNT.COUNT, .rl)]⟩,
  ⟨0x40000020, 1, 0x0, 1, 0x0, 4, fun _ _ => [(SYS_BUSERR.VALID, .rc), (SYS_BUSERR.CAUSE, .ro), (SYS_BUSERR.MASTER, .ro), (SYS_BUSERR.COUNT, .rc)]⟩,
  ⟨0x40000024, 1, 0x0, 1, 0x0, 8, fun _ _ => [(SYS_BUSERRA.ADDR, .rl)]⟩,
  ⟨0x40000100, 1, 0x0, 1, 0x0, 4, fun _ _ => [(SYS_CORECTL.CRESET, .wo), (SYS_CORECTL.RUN, .rw)]⟩,
  ⟨0x40000104, 1, 0x0, 1, 0x0, 8, fun _ _ => [(SYS_BOOTADDR.ADDR, .pair)]⟩,
  ⟨0x4000010c, 1, 0x0, 1, 0x0, 4, fun _ _ => [(SYS_RSTCAUSE.PGFAIL, .ro), (SYS_RSTCAUSE.CAUSE, .ro)]⟩,
  ⟨0x40000110, 1, 0x0, 1, 0x0, 4, fun _ _ => [(SYS_RSTCTL.RESTART, .wo), (SYS_RSTCTL.ERR, .rc)]⟩,
  ⟨0x40000114, 1, 0x0, 1, 0x0, 4, fun _ _ => [(SYS_CLKSTAT.LAMPXTAL, .ro), (SYS_CLKSTAT.PLLPHY, .ro), (SYS_CLKSTAT.PLLDATA, .ro), (SYS_CLKSTAT.PLLCORE, .ro), (SYS_CLKSTAT.XTAL, .ro)]⟩,
  ⟨0x40000118, 1, 0x0, 1, 0x0, 4, fun _ _ => [(SYS_BOOTPHASE.STEP, .ro)]⟩
]

/-- Registers of block BEL. -/
def regMapBEL : List RegRow := [
  ⟨0x40200000, 1, 0x0, 1, 0x0, 4, fun _ _ => [(BEL_CTRL.PERIOD, .rw), (BEL_CTRL.SRC, .rw)]⟩,
  ⟨0x40200004, 1, 0x0, 1, 0x0, 4, fun _ _ => [(BEL_STAT.MISSED, .ro), (BEL_STAT.EPOCH, .ro), (BEL_STAT.MASK_PEND, .ro), (BEL_STAT.FALLBACK, .ro), (BEL_STAT.DEGRADED, .ro), (BEL_STAT.LOCK, .ro)]⟩,
  ⟨0x40200008, 1, 0x0, 1, 0x0, 4, fun _ _ => [(BEL_ERRCNT.LOSSES, .rc), (BEL_ERRCNT.MISPLACED, .rc)]⟩,
  ⟨0x40200010, 1, 0x0, 1, 0x0, 8, fun _ _ => [(BEL_NOW.TIME, .rl)]⟩,
  ⟨0x40200020, 1, 0x0, 1, 0x0, 8, fun _ _ => [(BEL_MASK.MASK, .pair)]⟩,
  ⟨0x40200028, 1, 0x0, 1, 0x0, 4, fun _ _ => [(BEL_BUDGET.RESERVE, .rw), (BEL_BUDGET.BUDGET, .rw)]⟩,
  ⟨0x4020002c, 1, 0x0, 1, 0x0, 4, fun _ _ => [(BEL_ACCT.PEAK, .rc), (BEL_ACCT.ACCOUNT, .ro)]⟩,
  ⟨0x40200040, 1, 0x0, 1, 0x0, 4, fun _ _ => [(BEL_MODE_STAGE.WORD, .rw)]⟩,
  ⟨0x40200044, 1, 0x0, 1, 0x0, 4, fun _ _ => [(BEL_MODE_CMD.GO, .wo), (BEL_MODE_CMD.ROLLBACK, .rw), (BEL_MODE_CMD.ANY, .rw), (BEL_MODE_CMD.AT_SLOT, .rw)]⟩,
  ⟨0x40200048, 1, 0x0, 1, 0x0, 4, fun _ _ => [(BEL_MODE_STAT.LAGGARDS, .ro), (BEL_MODE_STAT.PENDING, .ro), (BEL_MODE_STAT.REJECTED, .rc), (BEL_MODE_STAT.STATE, .ro), (BEL_MODE_STAT.EPOCH, .ro)]⟩,
  ⟨0x40200050, 8, 0x4, 1, 0x0, 4, fun i _ => [(BEL_MODE_LAG.UNITS i, .ro)]⟩
]

/-- Registers of block PCI. -/
def regMapPCI : List RegRow := [
  ⟨0x40400000, 1, 0x0, 1, 0x0, 4, fun _ _ => [(PCI_STRAP.SRIS, .ro), (PCI_STRAP.BIF, .ro)]⟩,
  ⟨0x40400004, 1, 0x0, 1, 0x0, 4, fun _ _ => [(PCI_CTRL.CFG_READY1, .rw), (PCI_CTRL.CFG_READY0, .rw), (PCI_CTRL.L0P_WIDTH, .rw), (PCI_CTRL.FLIT_DIS, .rw), (PCI_CTRL.MAXRATE, .rw)]⟩,
  ⟨0x40400100, 2, 0x100, 1, 0x0, 4, fun i _ => [(PCI_LSTAT.LTSSM i, .ro), (PCI_LSTAT.LINKUP i, .ro), (PCI_LSTAT.FLIT i, .ro), (PCI_LSTAT.RATE i, .ro), (PCI_LSTAT.WIDTH i, .ro), (PCI_LSTAT.ACTWIDTH i, .ro), (PCI_LSTAT.L1SUB i, .ro)]⟩,
  ⟨0x40400104, 2, 0x100, 1, 0x0, 4, fun i _ => [(PCI_ERRCNT.DOWN i, .rc), (PCI_ERRCNT.RECOV i, .rc), (PCI_ERRCNT.CORR i, .rc)]⟩
]

/-- Registers of block HFE. -/
def regMapHFE : List RegRow := [
  ⟨0x40600000, 1, 0x0, 1, 0x0, 4, fun _ _ => [(HFE_CTRL.ADMIT_EN, .rw), (HFE_CTRL.DA, .rw)]⟩,
  ⟨0x40600004, 1, 0x0, 1, 0x0, 4, fun _ _ => [(HFE_STAT.ALLOCERR, .rc), (HFE_STAT.CTXFREE, .ro)]⟩,
  ⟨0x40600010, 1, 0x0, 1, 0x0, 8, fun _ _ => [(HFE_TICKET.TICKET, .rl)]⟩,
  ⟨0x40600018, 1, 0x0, 1, 0x0, 4, fun _ _ => [(HFE_ERRCNT.DBERR, .rc), (HFE_ERRCNT.VOIDS, .rc)]⟩,
  ⟨0x40610000, 512, 0x8, 1, 0x0, 4, fun i _ => [(HFE_QALLOC.NCQ i, .rw), (HFE_QALLOC.NSQ i, .rw)]⟩,
  ⟨0x40610004, 512, 0x8, 1, 0x0, 4, fun i _ => [(HFE_CMDLIM.LIMIT i, .rw)]⟩
]

/-- Registers of block FNS. -/
def regMapFNS : List RegRow := [
  ⟨0x40800000, 1, 0x0, 1, 0x0, 4, fun _ _ => [(FNS_CTRL.SHARE_EN, .rw), (FNS_CTRL.TOKEN_EN, .rw)]⟩,
  ⟨0x40800010, 1, 0x0, 1, 0x0, 4, fun _ _ => [(FNS_ACCSEL.ACCOUNT, .rw), (FNS_ACCSEL.DIE, .rw)]⟩,
  ⟨0x40800014, 1, 0x0, 1, 0x0, 4, fun _ _ => [(FNS_ACCDATA.DEFERRED, .ro), (FNS_ACCDATA.CHARGE, .ro)]⟩,
  ⟨0x40800018, 1, 0x0, 1, 0x0, 4, fun _ _ => [(FNS_DEFCNT.COUNT, .rc)]⟩,
  ⟨0x40800100, 16, 0x4, 1, 0x0, 4, fun i _ => [(FNS_MBXPEND.PEND i, .ro)]⟩,
  ⟨0x40800140, 1, 0x0, 1, 0x0, 4, fun _ _ => [(FNS_MBXACK.REJ, .rc), (FNS_MBXACK.OUT_POST, .wo), (FNS_MBXACK.IN_DONE, .wo), (FNS_MBXACK.FUNC, .wo)]⟩
]

/-- Registers of block ZPM. -/
def regMapZPM : List RegRow := [
  ⟨0x40a00000, 1, 0x0, 1, 0x0, 4, fun _ _ => [(ZPM_CTRL.TAIL_ENF, .rw), (ZPM_CTRL.CKPT_NOW, .wo), (ZPM_CTRL.EN, .rw)]⟩,
  ⟨0x40a00004, 1, 0x0, 1, 0x0, 4, fun _ _ => [(ZPM_STAT.TAILOVL, .rc), (ZPM_STAT.CKPT_BUSY, .ro), (ZPM_STAT.RELOAD, .ro), (ZPM_STAT.INUSE, .ro)]⟩,
  ⟨0x40a00008, 1, 0x0, 1, 0x0, 4, fun _ _ => [(ZPM_JRNL.RECORDS, .ro)]⟩,
  ⟨0x40a00100, 64, 0x4, 1, 0x0, 4, fun i _ => [(ZPM_NSCNT.OPEN i, .ro), (ZPM_NSCNT.ACTIVE i, .ro)]⟩,
  ⟨0x40a00200, 1, 0x0, 1, 0x0, 4, fun _ _ => [(ZPM_DCMD.OP, .wo), (ZPM_DCMD.DONE, .ro), (ZPM_DCMD.ERR, .rc), (ZPM_DCMD.INDEX, .rw)]⟩,
  ⟨0x40a00210, 8, 0x4, 1, 0x0, 4, fun i _ => [(ZPM_DWORD.DATA i, .rw)]⟩,
  ⟨0x40a01000, 64, 0x4, 1, 0x0, 4, fun i _ => [(ZPM_PGRP.TAIL_ONLY i, .rw), (ZPM_PGRP.TAILFN i, .ro), (ZPM_PGRP.ROW i, .rw)]⟩,
  ⟨0x40a10000, 4096, 0x8, 1, 0x0, 4, fun i _ => [(ZPM_SSET.VALID i, .rw), (ZPM_SSET.PGRP i, .rw), (ZPM_SSET.ROWS i, .rw)]⟩,
  ⟨0x40a10004, 4096, 0x8, 1, 0x0, 4, fun i _ => [(ZPM_SROWS.UNRES i, .ro), (ZPM_SROWS.FREE i, .ro)]⟩
]

/-- Registers of block MED. -/
def regMapMED : List RegRow := [
  ⟨0x40c00000, 1, 0x0, 1, 0x0, 4, fun _ _ => [(MED_CTRL.MAPFLUSH, .wo), (MED_CTRL.LAYOUT, .rw), (MED_CTRL.KILN_EN, .rw), (MED_CTRL.WL_EN, .rw), (MED_CTRL.GC_EN, .rw)]⟩,
  ⟨0x40c00004, 1, 0x0, 1, 0x0, 4, fun _ _ => [(MED_STAT.LAYERR, .rc), (MED_STAT.RCPERR, .rc), (MED_STAT.UERR, .rc), (MED_STAT.MERR, .rc), (MED_STAT.UDONE, .ro), (MED_STAT.SLCFILL, .ro), (MED_STAT.FOLDREC, .ro)]⟩,
  ⟨0x40c00008, 1, 0x0, 1, 0x0, 4, fun _ _ => [(MED_SLCFREE.FREE, .ro)]⟩,
  ⟨0x40c0000c, 1, 0x0, 1, 0x0, 4, fun _ _ => [(MED_ERRCNT.RETIRED, .rc), (MED_ERRCNT.RBFAIL, .rc)]⟩,
  ⟨0x40c00010, 1, 0x0, 1, 0x0, 4, fun _ _ => [(MED_MAPSTAT.DIRTY, .ro), (MED_MAPSTAT.JRECS, .ro)]⟩,
  ⟨0x40c00014, 1, 0x0, 1, 0x0, 4, fun _ _ => [(MED_MAPMISS.COUNT, .rc)]⟩,
  ⟨0x40c00020, 1, 0x0, 1, 0x0, 4, fun _ _ => [(MED_UCMD.OP, .wo), (MED_UCMD.DIE, .wo), (MED_UCMD.UNIT, .wo)]⟩,
  ⟨0x40c00024, 1, 0x0, 1, 0x0, 4, fun _ _ => [(MED_UDATA.RECORD, .rw)]⟩,
  ⟨0x40c00030, 1, 0x0, 1, 0x0, 4, fun _ _ => [(MED_MIGR.OP, .wo), (MED_MIGR.INDEX, .wo)]⟩,
  ⟨0x40c00100, 1, 0x0, 1, 0x0, 4, fun _ _ => [(MED_RCPSEL.RECIPE, .rw), (MED_RCPSEL.STEP, .rw)]⟩,
  ⟨0x40c00104, 1, 0x0, 1, 0x0, 4, fun _ _ => [(MED_RCPDATA.STEPWORD, .rw)]⟩
]

/-- Registers of block FCH. -/
def regMapFCH : List RegRow := [
  ⟨0x40e00000, 16, 0x10000, 1, 0x0, 4, fun i _ => [(FCH_GCFG.FAMILY i, .rw), (FCH_GCFG.BAND i, .rw), (FCH_GCFG.POP i, .rw)]⟩,
  ⟨0x40e00004, 16, 0x10000, 1, 0x0, 4, fun i _ => [(FCH_GCTRL.PWR_ON i, .wo), (FCH_GCTRL.PWR_OFF i, .wo), (FCH_GCTRL.READY i, .wo), (FCH_GCTRL.WP_REL i, .rw)]⟩,
  ⟨0x40e00008, 16, 0x10000, 1, 0x0, 4, fun i _ => [(FCH_GSTAT.STATE i, .ro), (FCH_GSTAT.SET i, .ro), (FCH_GSTAT.BANDSEEN i, .ro), (FCH_GSTAT.WP i, .ro), (FCH_GSTAT.ERR i, .rc), (FCH_GSTAT.BANDERR i, .ro), (FCH_GSTAT.RSTERR i, .ro), (FCH_GSTAT.UV i, .ro), (FCH_GSTAT.EPOCH i, .ro)]⟩,
  ⟨0x40e00010, 16, 0x10000, 2, 0x8, 4, fun i j => [(FCH_TSETW0.INTF i j, .rw), (FCH_TSETW0.SDRMODE i j, .rw), (FCH_TSETW0.RATE i j, .rw)]⟩,
  ⟨0x40e00014, 16, 0x10000, 2, 0x8, 4, fun i j => [(FCH_TSETW1.VREFQ i j, .rw), (FCH_TSETW1.ODT i j, .rw), (FCH_TSETW1.DRV i j, .rw)]⟩,
  ⟨0x40e00040, 16, 0x10000, 4, 0x4, 4, fun i j => [(FCH_FENCE.DIES i j, .fence)]⟩,
  ⟨0x40e00060, 16, 0x10000, 1, 0x0, 4, fun i _ => [(FCH_CALRES.KIND i, .ro), (FCH_CALRES.DIE i, .ro), (FCH_CALRES.EYEFAIL i, .rc), (FCH_CALRES.PRECOND i, .rc)]⟩,
  ⟨0x40e00080, 16, 0x10000, 8, 0x4, 4, fun i j => [(FCH_CHEVT.STATE i j, .rc), (FCH_CHEVT.CALFAIL i j, .rc), (FCH_CHEVT.FAULT i j, .rc), (FCH_CHEVT.RECAL i j, .rc)]⟩
]

/-- Registers of block DRF. -/
def regMapDRF : List RegRow := [
  ⟨0x41000000, 128, 0x2000, 1, 0x0, 4, fun i _ => [(DRF_CTRL.RESET i, .wo), (DRF_CTRL.RUN i, .rw)]⟩,
  ⟨0x41000004, 128, 0x2000, 1, 0x0, 4, fun i _ => [(DRF_STAT.STATE i, .ro), (DRF_STAT.ERR i, .rc), (DRF_STAT.EPOCH i, .ro)]⟩,
  ⟨0x41000008, 128, 0x2000, 1, 0x0, 4, fun i _ => [(DRF_QBASE.BASE i, .rw)]⟩,
  ⟨0x4100000c, 128, 0x2000, 1, 0x0, 4, fun i _ => [(DRF_QCFG.MAINT i, .rw), (DRF_QCFG.BACKGROUND i, .rw), (DRF_QCFG.HOST i, .rw), (DRF_QCFG.TAIL i, .rw)]⟩,
  ⟨0x41000010, 128, 0x2000, 1, 0x0, 4, fun i _ => [(DRF_CQBASE.BASE i, .rw), (DRF_CQBASE.LOG2 i, .rw)]⟩,
  ⟨0x41000014, 128, 0x2000, 1, 0x0, 4, fun i _ => [(DRF_CQPTR.WIDX i, .ro), (DRF_CQPTR.HEAD i, .rw)]⟩,
  ⟨0x41000020, 128, 0x2000, 1, 0x0, 4, fun i _ => [(DRF_SUBMIT.CLASS i, .wo), (DRF_SUBMIT.SRC i, .wo)]⟩,
  ⟨0x41000030, 128, 0x2000, 4, 0x4, 4, fun i j => [(DRF_QSTAT.OVF i j, .rc), (DRF_QSTAT.HELD i j, .ro), (DRF_QSTAT.FREE i j, .ro)]⟩,
  ⟨0x41000040, 128, 0x2000, 1, 0x0, 4, fun i _ => [(DRF_ERRCNT.TIMEOUT i, .rc), (DRF_ERRCNT.PFAIL i, .rc), (DRF_ERRCNT.UNCORR i, .rc), (DRF_ERRCNT.INVALID i, .rc)]⟩,
  ⟨0x41000044, 128, 0x2000, 1, 0x0, 4, fun i _ => [(DRF_SUSPCNT.SUSPENDS i, .rc), (DRF_SUSPCNT.DIEBUSY i, .rc)]⟩,
  ⟨0x41000048, 128, 0x2000, 1, 0x0, 4, fun i _ => [(DRF_EVT.CQFULL i, .rc), (DRF_EVT.HALT i, .rc), (DRF_EVT.TIMEOUT i, .rc), (DRF_EVT.FAIL i, .rc), (DRF_EVT.CQ i, .rc)]⟩,
  ⟨0x4100004c, 128, 0x2000, 1, 0x0, 4, fun i _ => [(DRF_DIEERR.DIE i, .rc)]⟩,
  ⟨0x41000050, 128, 0x2000, 1, 0x0, 4, fun i _ => [(DRF_ARB.HOST i, .rw), (DRF_ARB.BACKGROUND i, .rw), (DRF_ARB.MAINT i, .rw)]⟩,
  ⟨0x41000080, 128, 0x2000, 16, 0x4, 4, fun i j => [(DRF_DEPOCH.EN i j, .rw), (DRF_DEPOCH.MINEPOCH i j, .rw)]⟩,
  ⟨0x41000100, 128, 0x2000, 1, 0x0, 4, fun i _ => [(DRF_PSADDR.INDEX i, .rw)]⟩,
  ⟨0x41000104, 128, 0x2000, 1, 0x0, 4, fun i _ => [(DRF_PSDATA.WORD i, .rw)]⟩,
  ⟨0x41000108, 128, 0x2000, 1, 0x0, 4, fun i _ => [(DRF_LMADDR.ADDR i, .rw)]⟩,
  ⟨0x4100010c, 128, 0x2000, 1, 0x0, 4, fun i _ => [(DRF_LMDATA.WORD i, .rw)]⟩,
  ⟨0x41000110, 128, 0x2000, 1, 0x0, 4, fun i _ => [(DRF_FAULT.VALID i, .ro), (DRF_FAULT.CODE i, .ro), (DRF_FAULT.CTX i, .ro), (DRF_FAULT.PC i, .ro)]⟩,
  ⟨0x41000114, 128, 0x2000, 1, 0x0, 4, fun i _ => [(DRF_GEOM.PLANEBITS i, .rw), (DRF_GEOM.PAGEBITS i, .rw)]⟩,
  ⟨0x41000118, 128, 0x2000, 1, 0x0, 4, fun i _ => [(DRF_LIBVER.VERSION i, .const)]⟩,
  ⟨0x4100011c, 128, 0x2000, 1, 0x0, 4, fun i _ => [(DRF_PSCRC.CRC i, .ro)]⟩
]

/-- Registers of block ECC. -/
def regMapECC : List RegRow := [
  ⟨0x41200000, 1, 0x0, 1, 0x0, 4, fun _ _ => [(ECC_CTRL.DCLR, .wo), (ECC_CTRL.SOFT_EN, .rw)]⟩,
  ⟨0x41200004, 1, 0x0, 1, 0x0, 4, fun _ _ => [(ECC_STAT.CANDLOST, .rc), (ECC_STAT.ERR, .rc), (ECC_STAT.MODE, .ro), (ECC_STAT.CANDS, .ro)]⟩,
  ⟨0x41200008, 1, 0x0, 1, 0x0, 4, fun _ _ => [(ECC_THR.RELOC, .rw), (ECC_THR.REPORT, .rw)]⟩,
  ⟨0x4120000c, 1, 0x0, 1, 0x0, 4, fun _ _ => [(ECC_GUARDCNT.READFAIL, .rc), (ECC_GUARDCNT.WRITEFAIL, .rc)]⟩,
  ⟨0x41200010, 1, 0x0, 1, 0x0, 8, fun _ _ => [(ECC_CAND.ENTRY, .rl)]⟩,
  ⟨0x41200018, 1, 0x0, 1, 0x0, 4, fun _ _ => [(ECC_DSEL.KIND, .rw), (ECC_DSEL.DIE, .rw)]⟩,
  ⟨0x4120001c, 1, 0x0, 1, 0x0, 4, fun _ _ => [(ECC_DDATA.COUNT, .ro)]⟩,
  ⟨0x41200100, 16, 0x4, 1, 0x0, 4, fun i _ => [(ECC_PROF.SOFT i, .rw), (ECC_PROF.CODE i, .rw), (ECC_PROF.SOFTB i, .rw), (ECC_PROF.SOFTA i, .rw), (ECC_PROF.LRATE i, .rw), (ECC_PROF.BCHT i, .rw)]⟩
]

/-- Registers of block MSH. -/
def regMapMSH : List RegRow := [
  ⟨0x41400000, 1, 0x0, 1, 0x0, 4, fun _ _ => [(MSH_CTRL.PATROL_EN, .rw), (MSH_CTRL.AUTOSPARE, .rw), (MSH_CTRL.AUTOFAIL, .rw), (MSH_CTRL.EN, .rw)]⟩,
  ⟨0x41400004, 1, 0x0, 1, 0x0, 4, fun _ _ => [(MSH_STAT.ERR, .rc), (MSH_STAT.TBLFULL, .ro), (MSH_STAT.REBUILDS, .ro), (MSH_STAT.EPOCH, .ro)]⟩,
  ⟨0x41400010, 1, 0x0, 1, 0x0, 4, fun _ _ => [(MSH_DCMD.OP, .wo), (MSH_DCMD.DONE, .ro), (MSH_DCMD.DIE, .wo)]⟩,
  ⟨0x41400014, 1, 0x0, 1, 0x0, 4, fun _ _ => [(MSH_DARG.SSET, .rw), (MSH_DARG.POS, .rw)]⟩,
  ⟨0x41400018, 1, 0x0, 1, 0x0, 4, fun _ _ => [(MSH_DSTATE.STATE, .ro), (MSH_DSTATE.SSET, .ro), (MSH_DSTATE.POS, .ro)]⟩,
  ⟨0x41400020, 1, 0x0, 1, 0x0, 4, fun _ _ => [(MSH_PSEL.SSET, .rw), (MSH_PSEL.POS, .rw)]⟩,
  ⟨0x41400024, 1, 0x0, 1, 0x0, 4, fun _ _ => [(MSH_PDATA.PRESENT, .rw), (MSH_PDATA.VACANT, .ro), (MSH_PDATA.RBROW, .ro), (MSH_PDATA.DIE, .rw)]⟩,
  ⟨0x41400030, 1, 0x0, 1, 0x0, 4, fun _ _ => [(MSH_LOST.NEW, .rc), (MSH_LOST.ENTRIES, .ro)]⟩,
  ⟨0x41400040, 1, 0x0, 1, 0x0, 4, fun _ _ => [(MSH_RSHP.GO, .wo), (MSH_RSHP.BUSY, .ro), (MSH_RSHP.ERR, .rc), (MSH_RSHP.DST, .rw), (MSH_RSHP.SRC, .rw)]⟩,
  ⟨0x41400050, 1, 0x0, 1, 0x0, 4, fun _ _ => [(MSH_PATCNT.PASSES, .rc), (MSH_PATCNT.LOC, .rc), (MSH_PATCNT.UNLOC, .rc)]⟩,
  ⟨0x41400100, 1, 0x0, 1, 0x0, 4, fun _ _ => [(MSH_RCPSEL.RECIPE, .rw), (MSH_RCPSEL.WORD, .rw)]⟩,
  ⟨0x41400104, 1, 0x0, 1, 0x0, 4, fun _ _ => [(MSH_RCPDATA.WORD, .rw)]⟩,
  ⟨0x41410000, 4096, 0x4, 1, 0x0, 4, fun i _ => [(MSH_SSET.VALID i, .rw), (MSH_SSET.RECIPE i, .rw), (MSH_SSET.DEGR i, .ro)]⟩
]

/-- Registers of block HLD. -/
def regMapHLD : List RegRow := [
  ⟨0x41600000, 1, 0x0, 1, 0x0, 4, fun _ _ => [(HLD_CTRL.CHECK_NOW, .wo), (HLD_CTRL.DRAIN, .wo), (HLD_CTRL.EN, .rw)]⟩,
  ⟨0x41600004, 1, 0x0, 1, 0x0, 4, fun _ _ => [(HLD_STAT.STATE, .ro), (HLD_STAT.OV, .rc), (HLD_STAT.STOREBAD, .ro), (HLD_STAT.MAINGOOD, .ro), (HLD_STAT.SLOTFREE, .ro), (HLD_STAT.DUMPDIES, .ro)]⟩,
  ⟨0x41600008, 1, 0x0, 1, 0x0, 4, fun _ _ => [(HLD_SENSE.HU, .ro), (HLD_SENSE.MAIN, .ro)]⟩,
  ⟨0x4160000c, 1, 0x0, 1, 0x0, 4, fun _ _ => [(HLD_CNT.RIDES, .rc), (HLD_CNT.CHECKS, .rc)]⟩,
  ⟨0x41600010, 1, 0x0, 1, 0x0, 4, fun _ _ => [(HLD_DUMP.VALID, .ro), (HLD_DUMP.INCOMPLETE, .ro), (HLD_DUMP.ERASURES, .ro), (HLD_DUMP.DURATION, .ro)]⟩,
  ⟨0x41600014, 1, 0x0, 1, 0x0, 4, fun _ _ => [(HLD_GEN.GEN, .ro)]⟩
]

/-- Registers of block TUB. -/
def regMapTUB : List RegRow := [
  ⟨0x41800000, 1, 0x0, 1, 0x0, 4, fun _ _ => [(TUB_CTRL.EN, .rw)]⟩,
  ⟨0x41800004, 1, 0x0, 1, 0x0, 4, fun _ _ => [(TUB_STAT.ENERR, .rc), (TUB_STAT.RELERR, .rc), (TUB_STAT.HPARERR, .rc), (TUB_STAT.OWNERR, .rc), (TUB_STAT.FREE, .ro)]⟩,
  ⟨0x41800008, 1, 0x0, 1, 0x0, 4, fun _ _ => [(TUB_SPLIT.P, .ro)]⟩,
  ⟨0x4180000c, 1, 0x0, 1, 0x0, 4, fun _ _ => [(TUB_WAITCNT.COUNT, .rc)]⟩,
  ⟨0x41800100, 12, 0x4, 1, 0x0, 4, fun i _ => [(TUB_RSV.PROT i, .rw), (TUB_RSV.UNPROT i, .rw)]⟩,
  ⟨0x41800140, 12, 0x4, 1, 0x0, 4, fun i _ => [(TUB_HELD.PROT i, .ro), (TUB_HELD.UNPROT i, .ro)]⟩,
  ⟨0x41800200, 4, 0x8, 1, 0x0, 4, fun i _ => [(TUB_REQ.CLASS i, .wo), (TUB_REQ.OP i, .wo), (TUB_REQ.COUNT i, .wo), (TUB_REQ.TUB i, .wo)]⟩,
  ⟨0x41800204, 4, 0x8, 1, 0x0, 4, fun i _ => [(TUB_RES.STATE i, .ro), (TUB_RES.HEAD i, .ro)]⟩,
  ⟨0x41800220, 1, 0x0, 1, 0x0, 4, fun _ _ => [(TUB_REL.OP, .wo), (TUB_REL.TUB, .wo)]⟩,
  ⟨0x41800230, 1, 0x0, 1, 0x0, 4, fun _ _ => [(TUB_WSEL.SEL, .rw)]⟩,
  ⟨0x41800234, 1, 0x0, 1, 0x0, 8, fun _ _ => [(TUB_WHDR.HDR, .rl)]⟩,
  ⟨0x4180023c, 1, 0x0, 1, 0x0, 4, fun _ _ => [(TUB_WUSE.USE, .rw)]⟩
]

/-- Registers of block MEM. -/
def regMapMEM : List RegRow := [
  ⟨0x41a00000, 1, 0x0, 1, 0x0, 4, fun _ _ => [(MEM_CTRL.CCLR, .wo), (MEM_CTRL.LEGACY, .rw), (MEM_CTRL.LOCK, .rw)]⟩,
  ⟨0x41a00004, 1, 0x0, 1, 0x0, 4, fun _ _ => [(MEM_STAT.LOCKERR, .rc), (MEM_STAT.RETERR, .rc), (MEM_STAT.PARCNT, .rc)]⟩,
  ⟨0x41a00008, 1, 0x0, 1, 0x0, 4, fun _ _ => [(MEM_PARERR.VALID, .rc), (MEM_PARERR.MASTER, .ro), (MEM_PARERR.BYTES, .ro), (MEM_PARERR.ADDR_HI, .ro)]⟩,
  ⟨0x41a0000c, 1, 0x0, 1, 0x0, 4, fun _ _ => [(MEM_PARADDR.ADDR_LO, .ro)]⟩,
  ⟨0x41a00010, 1, 0x0, 1, 0x0, 4, fun _ _ => [(MEM_RETIRE.GO, .wo), (MEM_RETIRE.DONE, .ro), (MEM_RETIRE.BANK, .rw), (MEM_RETIRE.ROW, .rw)]⟩,
  ⟨0x41a00020, 1, 0x0, 1, 0x0, 4, fun _ _ => [(MEM_CSEL.MASTER, .rw)]⟩,
  ⟨0x41a00024, 1, 0x0, 1, 0x0, 4, fun _ _ => [(MEM_CDATA.COUNT, .ro)]⟩,
  ⟨0x41a00100, 56, 0x4, 1, 0x0, 4, fun i _ => [(MEM_BANKASN.OWNER i, .rw), (MEM_BANKASN.SPARE i, .ro)]⟩
]

/-- Registers of block CIP. -/
def regMapCIP : List RegRow := [
  ⟨0x41c00000, 1, 0x0, 1, 0x0, 4, fun _ _ => [(CIP_CAP.DRBG, .const), (CIP_CAP.GCM, .const), (CIP_CAP.XTS, .const)]⟩,
  ⟨0x41c00004, 1, 0x0, 1, 0x0, 4, fun _ _ => [(CIP_STAT.MCLOW, .ro), (CIP_STAT.WINDOW, .ro), (CIP_STAT.RNGOK, .ro)]⟩,
  ⟨0x41c00010, 1, 0x0, 1, 0x0, 4, fun _ _ => [(CIP_GRING.BASE, .rw), (CIP_GRING.LOG2, .rw)]⟩,
  ⟨0x41c00014, 1, 0x0, 1, 0x0, 4, fun _ _ => [(CIP_GTAIL.TAIL, .rw)]⟩,
  ⟨0x41c00018, 1, 0x0, 1, 0x0, 4, fun _ _ => [(CIP_GHEAD.HEAD, .ro)]⟩,
  ⟨0x41c00020, 1, 0x0, 1, 0x0, 4, fun _ _ => [(CIP_ERRCNT.XTSMIS, .rc), (CIP_ERRCNT.GCMMIS, .rc), (CIP_ERRCNT.TAGFAIL, .rc)]⟩,
  ⟨0x41c00030, 1, 0x0, 1, 0x0, 4, fun _ _ => [(CIP_RNG.WORD, .ro)]⟩,
  ⟨0x41c00040, 1, 0x0, 1, 0x0, 4, fun _ _ => [(CIP_REKEY.GO, .wo), (CIP_REKEY.DONE, .ro), (CIP_REKEY.ERR, .rc), (CIP_REKEY.CONTEXT, .wo)]⟩,
  ⟨0x41c00050, 1, 0x0, 1, 0x0, 4, fun _ _ => [(CIP_RSWCNT.COUNT, .rc)]⟩,
  ⟨0x41c00054, 1, 0x0, 1, 0x0, 4, fun _ _ => [(CIP_RSWCAP.VALID, .rc), (CIP_RSWCAP.MASTER, .ro), (CIP_RSWCAP.BLOCK, .ro), (CIP_RSWCAP.OFFSET, .ro)]⟩,
  ⟨0x41c00060, 1, 0x0, 1, 0x0, 4, fun _ _ => [(CIP_LEASESTAT.REFUSALS, .rc), (CIP_LEASESTAT.HELD, .ro)]⟩,
  ⟨0x41c00070, 1, 0x0, 1, 0x0, 4, fun _ _ => [(CIP_BOOTSTAT.RESULT, .ro), (CIP_BOOTSTAT.SOURCE, .ro), (CIP_BOOTSTAT.SVN, .ro), (CIP_BOOTSTAT.SCHEMES, .ro)]⟩,
  ⟨0x41c80000, 1, 0x0, 1, 0x0, 4, fun _ _ => [(CIP_LEASE.FORCE, .rs), (CIP_LEASE.HOLD, .rs)]⟩
]

/-- Registers of block EVT. -/
def regMapEVT : List RegRow := [
  ⟨0x41e00000, 512, 0x4, 1, 0x0, 4, fun i _ => [(EVT_SRC.EN i, .evt), (EVT_SRC.TARGET i, .evt), (EVT_SRC.OVF i, .rc), (EVT_SRC.PEND i, .ro)]⟩,
  ⟨0x41e01000, 6, 0x4, 1, 0x0, 4, fun i _ => [(EVT_CLAIM.VALID i, .ro), (EVT_CLAIM.SOURCE i, .ro)]⟩,
  ⟨0x41e01100, 1, 0x0, 1, 0x0, 4, fun _ _ => [(EVT_SWTRIG.SOURCE, .wo)]⟩,
  ⟨0x41e01200, 1, 0x0, 1, 0x0, 4, fun _ _ => [(EVT_AEN.TYPE, .wo), (EVT_AEN.INFO, .wo), (EVT_AEN.LOG, .wo), (EVT_AEN.ALL, .wo), (EVT_AEN.FUNC, .wo)]⟩
]

/-- Registers of block PWR. -/
def regMapPWR : List RegRow := [
  ⟨0x42000000, 1, 0x0, 1, 0x0, 4, fun _ _ => [(PWR_CTRL.IDLE_EN, .rw)]⟩,
  ⟨0x42000004, 1, 0x0, 1, 0x0, 4, fun _ _ => [(PWR_REQ.GO, .wo), (PWR_REQ.TARGET, .wo)]⟩,
  ⟨0x42000008, 1, 0x0, 1, 0x0, 4, fun _ _ => [(PWR_STAT.STATE, .ro), (PWR_STAT.CTRL, .ro), (PWR_STAT.TARGET, .ro), (PWR_STAT.WAKEPEND, .ro), (PWR_STAT.PS, .ro), (PWR_STAT.ABORTS, .rc)]⟩,
  ⟨0x4200000c, 1, 0x0, 1, 0x0, 4, fun _ _ => [(PWR_LAST.DOMAIN, .ro), (PWR_LAST.CODE, .ro), (PWR_LAST.MASTER, .ro)]⟩,
  ⟨0x42000010, 1, 0x0, 1, 0x0, 4, fun _ _ => [(PWR_DOMREQ.OP, .wo), (PWR_DOMREQ.DOMAIN, .wo)]⟩,
  ⟨0x42000020, 4, 0x4, 1, 0x0, 4, fun i _ => [(PWR_ANS.ANS i, .wo)]⟩,
  ⟨0x42000100, 48, 0x4, 1, 0x0, 4, fun i _ => [(PWR_DOM.STATE i, .ro), (PWR_DOM.DLYMAX i, if 4 ≤ i ∧ i ≤ 9 then .rs else .rw)]⟩,
  ⟨0x42000200, 48, 0x4, 1, 0x0, 4, fun i _ => [(PWR_DCNT.REFUSALS i, .rc), (PWR_DCNT.DELAYS i, .rc)]⟩
]

/-- Registers of block THM. -/
def regMapTHM : List RegRow := [
  ⟨0x42200000, 1, 0x0, 1, 0x0, 4, fun _ _ => [(THM_CTRL.SUSPCLR, .wo), (THM_CTRL.NANDEN, .rw)]⟩,
  ⟨0x42200004, 1, 0x0, 1, 0x0, 4, fun _ _ => [(THM_STAT.LEVEL, .ro), (THM_STAT.HWLEVEL, .ro), (THM_STAT.EPOCH, .ro), (THM_STAT.SUSPECT, .ro)]⟩,
  ⟨0x42200008, 1, 0x0, 1, 0x0, 4, fun _ _ => [(THM_DEVT.TEMP, .ro)]⟩,
  ⟨0x4220000c, 1, 0x0, 1, 0x0, 4, fun _ _ => [(THM_NAND.TEMP, .rw)]⟩,
  ⟨0x42200100, 16, 0x4, 1, 0x0, 4, fun i _ => [(THM_SENS.DEV i, .ro), (THM_SENS.TEMP i, .ro)]⟩
]

/-- Registers of block MGT. -/
def regMapMGT : List RegRow := [
  ⟨0x42400000, 1, 0x0, 1, 0x0, 4, fun _ _ => [(MGT_CTRL.MCTP_EN, .rw), (MGT_CTRL.NET_EN, .rw)]⟩,
  ⟨0x42400004, 1, 0x0, 1, 0x0, 4, fun _ _ => [(MGT_STAT.NODE, .ro), (MGT_STAT.COORD, .ro), (MGT_STAT.NETUP, .ro), (MGT_STAT.CFG, .ro), (MGT_STAT.SESSIONS, .ro)]⟩,
  ⟨0x42400010, 1, 0x0, 1, 0x0, 4, fun _ _ => [(MGT_FREQ.GO, .wo), (MGT_FREQ.DONE, .ro), (MGT_FREQ.OP, .rw), (MGT_FREQ.INDEX, .rw), (MGT_FREQ.SUB, .rw)]⟩,
  ⟨0x42400014, 1, 0x0, 1, 0x0, 4, fun _ _ => [(MGT_FLEN.TYPE, .rw), (MGT_FLEN.SIZE, .rw)]⟩,
  ⟨0x42400018, 1, 0x0, 1, 0x0, 4, fun _ _ => [(MGT_FRES.ABORT, .ro)]⟩,
  ⟨0x42400020, 1, 0x0, 1, 0x0, 4, fun _ _ => [(MGT_NETCNT.DROPPED, .rc), (MGT_NETCNT.RXERR, .rc)]⟩,
  ⟨0x42400024, 1, 0x0, 1, 0x0, 4, fun _ _ => [(MGT_SESCNT.TAGFAIL, .rc), (MGT_SESCNT.REFUSED, .rc)]⟩
]

/-- Registers of block EVR. -/
def regMapEVR : List RegRow := [
  ⟨0x42600000, 1, 0x0, 1, 0x0, 4, fun _ _ => [(EVR_CTRL.STEP, .wo), (EVR_CTRL.CLRLAST, .wo), (EVR_CTRL.FLUSH, .wo), (EVR_CTRL.EN, .rw)]⟩,
  ⟨0x42600004, 1, 0x0, 1, 0x0, 4, fun _ _ => [(EVR_STAT.BUSY, .ro), (EVR_STAT.FIRSTFULL, .ro), (EVR_STAT.NOAREA, .ro), (EVR_STAT.PEND, .ro), (EVR_STAT.SUPP, .rc)]⟩,
  ⟨0x42600008, 1, 0x0, 1, 0x0, 4, fun _ _ => [(EVR_TRIG.GO, .wo), (EVR_TRIG.VALUE, .wo)]⟩,
  ⟨0x42600010, 1, 0x0, 1, 0x0, 8, fun _ _ => [(EVR_CUR.SEQ, .pair)]⟩,
  ⟨0x42600018, 1, 0x0, 1, 0x0, 4, fun _ _ => [(EVR_WST.STATE, .ro), (EVR_WST.CRCERR, .ro)]⟩,
  ⟨0x42600100, 24, 0x4, 1, 0x0, 4, fun i _ => [(EVR_WIN.WORD i, .ro)]⟩
]

/-- Registers of block TLY. -/
def regMapTLY : List RegRow := [
  ⟨0x42800000, 1, 0x0, 1, 0x0, 4, fun _ _ => [(TLY_CTRL.SNAP, .wo)]⟩,
  ⟨0x42800004, 1, 0x0, 1, 0x0, 4, fun _ _ => [(TLY_STAT.EPOCH, .ro)]⟩,
  ⟨0x42800008, 1, 0x0, 1, 0x0, 4, fun _ _ => [(TLY_SEL.AGE, .rw), (TLY_SEL.COUNTER, .rw)]⟩,
  ⟨0x42800010, 1, 0x0, 1, 0x0, 8, fun _ _ => [(TLY_VAL.VALUE, .rl)]⟩,
  ⟨0x42800018, 1, 0x0, 1, 0x0, 4, fun _ _ => [(TLY_VEPOCH.EPOCH, .rh)]⟩
]

/-- Registers of block SAF. -/
def regMapSAF : List RegRow := [
  ⟨0x42a00000, 1, 0x0, 1, 0x0, 4, fun _ _ => [(SAF_CTRL.SCRUB_EN, .rw), (SAF_CTRL.PST_EN, .rw), (SAF_CTRL.WDOG_EN, .rw)]⟩,
  ⟨0x42a00004, 1, 0x0, 1, 0x0, 4, fun _ _ => [(SAF_STAT.SEV, .ro), (SAF_STAT.TYPE, .ro), (SAF_STAT.VERDICT, .ro), (SAF_STAT.LASTING, .rc)]⟩,
  ⟨0x42a00008, 1, 0x0, 1, 0x0, 8, fun _ _ => [(SAF_FADDR.ADDR, .rl)]⟩,
  ⟨0x42a00020, 6, 0x4, 1, 0x0, 4, fun i _ => [(SAF_WDOG.KICK i, .wo), (SAF_WDOG.TIMEOUT i, .rw)]⟩,
  ⟨0x42a00040, 1, 0x0, 1, 0x0, 4, fun _ _ => [(SAF_D2DCNT.RETRIED, .rc), (SAF_D2DCNT.FAILED, .rc)]⟩,
  ⟨0x42a00044, 1, 0x0, 1, 0x0, 4, fun _ _ => [(SAF_PST.FAILED, .ro)]⟩
]

/-- Registers of block TST. -/
def regMapTST : List RegRow := [
  ⟨0x42c00000, 4, 0x20, 1, 0x0, 4, fun i _ => [(TST_LBCTL.GO i, .wo), (TST_LBCTL.STOP i, .wo), (TST_LBCTL.INTF i, .rw), (TST_LBCTL.DEPTH i, .rw), (TST_LBCTL.PAT i, .rw), (TST_LBCTL.INDEX i, .rw), (TST_LBCTL.DURATION i, .rw)]⟩,
  ⟨0x42c00004, 4, 0x20, 1, 0x0, 4, fun i _ => [(TST_LBSTAT.STATE i, .ro), (TST_LBSTAT.REASON i, .ro), (TST_LBSTAT.ERRORS i, .ro)]⟩,
  ⟨0x42c00008, 4, 0x20, 1, 0x0, 8, fun i _ => [(TST_LBBITS.BITS i, .rl)]⟩,
  ⟨0x42c00010, 4, 0x20, 1, 0x0, 4, fun i _ => [(TST_LBWORD.WORD i, .rw)]⟩,
  ⟨0x42c00014, 4, 0x20, 1, 0x0, 4, fun i _ => [(TST_LBLANE.LANES i, .ro)]⟩,
  ⟨0x42c00100, 1, 0x0, 1, 0x0, 4, fun _ _ => [(TST_BIST.GO, .wo), (TST_BIST.TYPE, .rw), (TST_BIST.TARGET, .rw)]⟩,
  ⟨0x42c00104, 1, 0x0, 1, 0x0, 4, fun _ _ => [(TST_BISTRES.STATE, .ro), (TST_BISTRES.PASS, .ro), (TST_BISTRES.NFAIL, .ro), (TST_BISTRES.FIRST, .ro)]⟩,
  ⟨0x42c00200, 1, 0x0, 1, 0x0, 4, fun _ _ => [(TST_DBG.REQ, .wo), (TST_DBG.BUSY, .ro), (TST_DBG.LEVEL, .wo), (TST_DBG.UNLOCKED, .ro), (TST_DBG.FAILS, .ro)]⟩,
  ⟨0x42c00210, 8, 0x4, 1, 0x0, 4, fun i _ => [(TST_DBGCHAL.WORD i, .ro)]⟩
]

/-- Registers of block AON. -/
def regMapAON : List RegRow := [
  ⟨0x42e00000, 16, 0x4, 1, 0x0, 4, fun i _ => [(AON_RET.WORD i, .ret)]⟩,
  ⟨0x42e00040, 1, 0x0, 1, 0x0, 8, fun _ _ => [(AON_RTC.COUNT, .rl)]⟩,
  ⟨0x42e00048, 1, 0x0, 1, 0x0, 8, fun _ _ => [(AON_ALARM.COUNT, .pair)]⟩,
  ⟨0x42e00050, 1, 0x0, 1, 0x0, 4, fun _ _ => [(AON_WAKE.CAUSE, .ro), (AON_WAKE.EN, .rw)]⟩
]

/-- The registers of the block at `k` of register space (R33). -/
def regMapBlock : Nat → List RegRow
  | 0 => regMapSYS
  | 1 => regMapBEL
  | 2 => regMapPCI
  | 3 => regMapHFE
  | 4 => regMapFNS
  | 5 => regMapZPM
  | 6 => regMapMED
  | 7 => regMapFCH
  | 8 => regMapDRF
  | 9 => regMapECC
  | 10 => regMapMSH
  | 11 => regMapHLD
  | 12 => regMapTUB
  | 13 => regMapMEM
  | 14 => regMapCIP
  | 15 => regMapEVT
  | 16 => regMapPWR
  | 17 => regMapTHM
  | 18 => regMapMGT
  | 19 => regMapEVR
  | 20 => regMapTLY
  | 21 => regMapSAF
  | 22 => regMapTST
  | 23 => regMapAON
  | _ => []

/-- The fields of the register word at normal-alias address `a` (with the byte offset of the word in its register). -/
def fieldsAt (a : Nat) : List (Fld × Acc) :=
  match (regMapBlock ((a - 0x40000000) / 0x200000)).filterMap fun r => (r.at? a).map fun ij => r.fields ij.1 ij.2 with
  | f :: _ => f
  | [] => []

end Sys2Proof.Machine
end

