-- ==== Sys2Proof/Machine/Operands.lean ====
section
/-! DEFINITION. Machine/Operands.lean: what the block's words and values read as: the register fields whose value is
computed from other state, the records kept by key, which masters are secure, and the value in force of a dictionary entry
kept in the dictionary's own store. -/

namespace Sys2Proof.Machine

/-! Dictionary values without a register home (R551). -/

/-- The default reservations of Table 14.6, protected. -/
def rsvProt : List Nat := [16384, 4608, 0, 2048, 4096]

/-- The default of an entry as a number: the table's, or the value that depends on the index or the part. -/
def State.dictDefaultNum (s : State) (index sub : Nat) : Nat :=
  if 0x3110 ≤ index ∧ index ≤ 0x318F then index - 0x3110                                  -- r
  else if 0x4000 ≤ index ∧ index ≤ 0x41FF ∧ sub = 8 then (if index < 0x4002 then 2048 else 24)   -- Table 5.1
  else if 0x8010 ≤ index ∧ index ≤ 0x804F ∧ sub = 1 then (!s.ident.bn).toNat              -- Table 15.8
  else if index = 0x8000 then (if s.ident.bn then 0 else 3)
  else if index = 0x1004 then 0x8128 * 65536 + Config.vendorId.toNat                      -- R98
  else if index = 0x1005 then 0x8128 * 65536 + Config.vendorId.toNat
  else if index = 0x1103 then 0x020000000000 + s.fld MGT_STAT.NODE                        -- Table 18.6
  else match dictRow index sub with
    | some r => r.dflt
    | none => 0

/-- ASCII bytes of a text. -/
def ascii (t : String) : List Nat := t.toList.map Char.toNat

/-- The default of a STR or BLOB entry. -/
def State.dictDefaultBytes (s : State) (index : Nat) : List Nat :=
  if index = 0x1001 then Config.serialNumber.map BitVec.toNat
  else if index = 0x1002 then ascii (if s.ident.bn then "KDV8128-BN" else "KDV8128-BC")
  else if index = 0x1003 then ascii "B0"
  else if index = 0x1111 then List.replicate 64 0
  else []

/-- The default of an entry. -/
def State.dictDefault (s : State) (index sub : Nat) : DVal :=
  match dictRow index sub with
  | some r => if r.ty.varies then .bytes (s.dictDefaultBytes index) else .num (s.dictDefaultNum index sub)
  | none => .num 0

/-- Key of an entry in the dictionary's store. -/
def dictKey (index sub : Nat) : Nat := index * 256 + sub

/-- The value the dictionary's own store holds for an entry. -/
def State.dstored (s : State) (index sub : Nat) : DVal :=
  (Tab.get none s.mgt.dict (dictKey index sub)).getD (s.dictDefault index sub)

/-- The number an entry without a register home holds. -/
def State.dnum (s : State) (index sub : Nat) : Nat :=
  match s.dstored index sub with
  | .num v => v
  | .bytes l => ofBytes l

/-- The bytes an entry without a register home holds. -/
def State.dbytes (s : State) (index sub : Nat) : List Nat :=
  match s.dstored index sub with
  | .num _ => []
  | .bytes l => l

/-- The state with an entry of the dictionary's own store at `v`. -/
def State.setDict (index sub : Nat) (v : DVal) (s : State) : State :=
  s.modMgt fun m => { m with dict := Tab.set none m.dict (dictKey index sub) (some v) }

/-! Masters (R37, R634). -/

/-- Is the secure system bus open to the debug module (Table 21.4)? LIFECYCLE 0 BLANK, 1 PROVISIONED, 3 LOCKED, 7
DECOMMISSIONED (Table 15.5); the granted level is TST_DBG.UNLOCKED, 0b10 secure. -/
def State.debugSecure (s : State) : Bool :=
  match s.cip.lifecycle with
  | 0 => true
  | 1 => s.fld TST_DBG.UNLOCKED == 2
  | 3 => s.fld TST_DBG.UNLOCKED == 2
  | _ => false

/-- Does the master count as secure world? -/
def State.secure (s : State) (master : Nat) : Bool := master == 4 || (master == 6 && s.debugSecure)

/-! Records kept by key, with the values of keys nothing has set. -/

/-- Default record of a function: its limits at reset. -/
def fnDefault : Fn := {}

/-- Function `f`'s record. -/
def State.fn (s : State) (f : Nat) : Fn := Tab.get fnDefault s.hfe.fns f
/-- Change function `f`'s record. -/
def State.modFn (f : Nat) (g : Fn → Fn) (s : State) : State := s.modHfe fun h => { h with fns := Tab.upd fnDefault h.fns f g }

/-- Zone descriptor `i`. -/
def State.zone (s : State) (i : Nat) : Zone := Tab.get {} s.zpm.zones i
/-- Change zone descriptor `i`. -/
def State.modZone (i : Nat) (g : Zone → Zone) (s : State) : State := s.modZpm fun z => { z with zones := Tab.upd {} z.zones i g }

/-- Namespace record of index `n` (NSID - 1). -/
def State.ns (s : State) (n : Nat) : Ns := Tab.get {} s.zpm.ns n
/-- Change namespace record `n`. -/
def State.modNs (n : Nat) (g : Ns → Ns) (s : State) : State := s.modZpm fun z => { z with ns := Tab.upd {} z.ns n g }

/-- Unit record of a die's unit. -/
def State.unitRec (s : State) (die unit : Nat) : URec := Tab.get {} s.med.units (die * 131072 + unit)
/-- Change a unit record. -/
def State.modUnit (die unit : Nat) (g : URec → URec) (s : State) : State :=
  s.modMed fun m => { m with units := Tab.upd {} m.units (die * 131072 + unit) g }

/-- NAND die `d` as seen by the device. -/
def State.nand (s : State) (d : Nat) : Die := Tab.get {} s.fch.dies d
/-- Change NAND die `d`. -/
def State.modNand (d : Nat) (g : Die → Die) (s : State) : State := s.modFch fun c => { c with dies := Tab.upd {} c.dies d g }

/-- Drift engine `e`. -/
def State.engine (s : State) (e : Nat) : Eng := Tab.get {} s.drf.eng e
/-- Change Drift engine `e`. -/
def State.modEng (e : Nat) (g : Eng → Eng) (s : State) : State := s.modDrf fun d => { d with eng := Tab.upd {} d.eng e g }

/-- Membership of die `d`. -/
def State.mem (s : State) (d : Nat) : Mem := Tab.get {} s.msh.dies d
/-- Change the membership of die `d`. -/
def State.modMem (d : Nat) (g : Mem → Mem) (s : State) : State := s.modMsh fun m => { m with dies := Tab.upd {} m.dies d g }

/-- Position `p` of stripe set `set`. -/
def State.position (s : State) (set p : Nat) : Pos := Tab.get {} s.msh.pos (set * 128 + p)
/-- Change a position of a stripe set. -/
def State.modPos (set p : Nat) (g : Pos → Pos) (s : State) : State :=
  s.modMsh fun m => { m with pos := Tab.upd {} m.pos (set * 128 + p) g }

/-- Tubs of the protected class that hold the zone journal (R212) and, behind them, the map journal (R232). -/
def zoneJournalTubs : Nat := 4096
/-- The two journals' tubs. -/
def journalTubs : Nat := 6144

/-- Header of a tub of the journals: the zone manager's and media management's chain, taken from the enable of the pool on and never
released. DESIGN CHOICE (log entry 46): which tubs these are, the first ones of the class. -/
def journalTub (t : Nat) : Tub :=
  let zone := decide (t < zoneJournalTubs)
  let last := t + 1 == zoneJournalTubs || t + 1 == journalTubs
  { next := if last then 0 else t + 1, owner := if zone then 4 else 3, last := last, head := t == 0 || t == zoneJournalTubs, kind := 3 }

/-- Does tub `t` hold a part of a journal? -/
def State.isJournalTub (s : State) (t : Nat) : Bool := decide (t < journalTubs) && s.on TUB_CTRL.EN

/-- Tub `t`'s header. -/
def State.tub (s : State) (t : Nat) : Tub := if s.isJournalTub t then journalTub t else Tab.get {} s.tubs.tub t
/-- Change tub `t`'s header. -/
def State.modTub (t : Nat) (g : Tub → Tub) (s : State) : State := s.modTubs fun p => { p with tub := Tab.upd {} p.tub t g }

/-! Computed register fields. -/

/-- Zones of NSID - 1 = `n` in an open state, and in an open or the Closed state (Table 6.3). -/
def State.openZones (s : State) (n : Nat) : Nat :=
  s.zpm.zones.countP fun z => z.2.kind == 1 && z.2.nsidx == n && (z.2.state == .implicit || z.2.state == .explicit)
/-- Active zones. -/
def State.activeZones (s : State) (n : Nat) : Nat :=
  s.zpm.zones.countP fun z => z.2.kind == 1 && z.2.nsidx == n &&
    (z.2.state == .implicit || z.2.state == .explicit || z.2.state == .closed)

/-- The header of tub `t` as Table 14.5 lays it out. -/
def Tub.word (t : Tub) : Nat :=
  t.next * 2 ^ 48 + t.owner * 2 ^ 40 + t.last.toNat * 2 ^ 39 + t.head.toNat * 2 ^ 38 + t.kind * 2 ^ 36 + t.mslot * 2 ^ 32
    + t.mtub * 2 ^ 16 + t.ctx

/-- Tubs of class `prot` held by requester `r` (tubs below P are the protected class, R454). -/
def State.tubsHeld (s : State) (r : Nat) (prot : Bool) : Nat :=
  (s.tubs.tub.countP fun t => !s.isJournalTub t.1 && t.2.owner == r && (decide (t.1 < s.fld TUB_SPLIT.P) == prot)) +
    (if prot && s.on TUB_CTRL.EN then (if r = 4 then zoneJournalTubs else if r = 3 then journalTubs - zoneJournalTubs else 0) else 0)

/-- Tubs of a class held by anyone. -/
def State.tubsUsed (s : State) (prot : Bool) : Nat :=
  (s.tubs.tub.countP fun t => !s.isJournalTub t.1 && t.2.owner != 0xFF && (decide (t.1 < s.fld TUB_SPLIT.P) == prot)) +
    (if prot && s.on TUB_CTRL.EN then journalTubs else 0)

/-- Free tubs of a class (0 while the pool is disabled, R452). -/
def State.tubsFree (s : State) (prot : Bool) : Nat :=
  if s.on TUB_CTRL.EN then
    (if prot then s.fld TUB_SPLIT.P else 65536 - s.fld TUB_SPLIT.P) - s.tubsUsed prot
      - (s.tubs.tub.countP fun t => t.2.bad && t.2.owner == 0xFF && (decide (t.1 < s.fld TUB_SPLIT.P) == prot))
  else 0

/-- The snapshot of age `n`, 0 the latest (R587). -/
def State.snap (s : State) (n : Nat) : Option Snap := s.tly.snaps[n]?

/-- Counter `n` of a snapshot; counters not assigned read zero (R583). -/
def Snap.counter (p : Snap) (n : Nat) : Nat := Tab.get 0 p.values n

/-! Hardware submissions (R298). -/

/-- The state with a descriptor handed to engine `e` by a hardware owner, in class `cls`; HW_DESCRIPTOR_SUBMIT enters it.
After a dump commit only the hold-up manager works (Table 13.3). -/
def State.submitHw (e cls : Nat) (d : Desc) (s : State) : State :=
  if s.hld.committed && d.owner != 6 then s else s.modEng e fun g => { g with hwq := g.hwq ++ [(cls, d)] }

end Sys2Proof.Machine
end

