-- ==== Sys2Proof/Machine/Views.lean ====
section
/-! DEFINITION. Machine/Views.lean: what the registers read as (R15, R16, R43): values computed from other state, and a whole
register word with no side effect (a peek). -/

namespace Sys2Proof.Machine

/-! CRC-32 of IEEE 802.3, reflected (R344, R594). -/

/-- One bit of the reflected CRC-32. -/
def crc32Bit (c : Nat) : Nat := if c % 2 = 1 then (c / 2) ^^^ 0xEDB88320 else c / 2

/-- `n` bits of the reflected CRC-32. -/
def crc32Bits (c : Nat) : Nat → Nat
  | 0 => c
  | n + 1 => crc32Bits (crc32Bit c) n

/-- One byte of the reflected CRC-32. -/
def crc32Byte (c b : Nat) : Nat := crc32Bits (c ^^^ (b % 256)) 8

/-- CRC-32 over bytes. -/
def crc32 (l : List Nat) : Nat := (l.foldl crc32Byte 0xFFFFFFFF) ^^^ 0xFFFFFFFF

/-! Stripe sets, placement groups and their rows (R182 to R206, R376). -/

/-- A number of function `f`'s record 0x4000 + f (Table 5.1). -/
def State.fnSetting (s : State) (f sub : Nat) : Nat := s.dnum (0x4000 + f) sub

/-- Is function `f` of the tail class now? -/
def State.isTail (s : State) (f : Nat) : Bool := s.fnSetting f 7 == 1

/-- The stripe sets a placement group holds. -/
def State.groupSets (s : State) (g : Nat) : List Nat :=
  (List.range 4096).filter fun t => s.on (ZPM_SSET.VALID t) && s.fld (ZPM_SSET.PGRP t) == g

/-- Stripe sets that serve as reclaim groups while a conventional namespace exists. -/
def State.reclaimSets (s : State) : List Nat :=
  if s.zpm.ns.any fun n => n.2.kind == 1 then (List.range (s.dnum 0x3101 0)).map fun r => s.dnum (0x3110 + r) 0 else []

/-- Free erased rows of a stripe set. -/
def State.freeRows (s : State) (t : Nat) : Nat :=
  if s.on (ZPM_SSET.VALID t) then s.fld (ZPM_SSET.ROWS t) - s.zpm.rows.countP fun e => e.1 / 16384 == t && decide (e.1 % 16384 < s.fld (ZPM_SSET.ROWS t))
  else 0

/-- The rows that zoned namespaces reserve in group `g` (R186, R398). -/
def State.rowsReserved (s : State) (g : Nat) : Nat :=
  (s.zpm.ns.map fun n => if n.2.kind = 2 ∧ n.2.pgrp = g then n.2.rowsRes else 0).sum
    + (match s.msh.reshape with
       | some (a, _) => if a = g then (s.msh.resOld.map (·.2)).sum else 0
       | none => 0)

/-- Rows attributed within a list of sets, taking `left` rows in order: what set `t` is attributed (ZPM_SROWS). -/
def attributed (rows : Nat → Nat) (t : Nat) : List Nat → Nat → Nat
  | [], _ => 0
  | u :: l, left => if u = t then min left (rows t) else attributed rows t l (left - rows u)

/-- ZPM_SROWS[t].UNRES. -/
def State.srowsUnres (s : State) (t : Nat) : Nat :=
  if !s.on (ZPM_SSET.VALID t) || s.reclaimSets.contains t then 0
  else
    let g := s.fld (ZPM_SSET.PGRP t)
    let sets := (s.groupSets g).filter fun u => !s.reclaimSets.contains u
    s.fld (ZPM_SSET.ROWS t) - attributed (fun u => s.fld (ZPM_SSET.ROWS u)) t sets (s.rowsReserved g)

/-- The group in which a reshape still holds reservations of a namespace, those of its rows there (R399). -/
def State.oldGroup (s : State) (n : Nat) : List Nat :=
  match s.msh.reshape with
  | some (a, b) => if (s.ns n).pgrp = b ∧ b ≠ a ∧ Tab.get 0 s.msh.resOld n ≠ 0 then [a] else []
  | none => []

/-- The placement groups in which a namespace holds reservations. -/
def State.nsGroups (s : State) (n : Nat) : List Nat :=
  match (s.ns n).kind with
  | 2 => (s.ns n).pgrp :: s.oldGroup n
  | 1 => (s.reclaimSets.map fun t => s.fld (ZPM_SSET.PGRP t)).eraseDups
  | _ => []

/-- Tail-class functions on group `g` (R205). -/
def State.tailFns (s : State) (g : Nat) : Nat :=
  ((((List.range 64).filter fun n => (s.nsGroups n).contains g).flatMap fun n => (s.ns n).attached).eraseDups.filter s.isTail).length

/-- Product in GF(2^8) with x^8 + x^4 + x^3 + x^2 + 1 by x (R375). -/
def gfX (a : Nat) : Nat := if a < 128 then 2 * a else (2 * a) ^^^ 0x11D

/-- 2^m in GF(2^8). -/
def gfPow2 : Nat → Nat
  | 0 => 1
  | m + 1 => gfX (gfPow2 m)

/-- Reset value of word `w` of Mash recipe `r` (R376). -/
def mshRecipeReset (r w : Nat) : Nat :=
  if r = 0 then (if w = 0 then 0x001E0200 else gfPow2 (w - 1))
  else if r = 1 ∧ w = 0 then 0x001E0100
  else 0

/-- Word `w` of Mash recipe `r`. -/
def State.mshWord (s : State) (r w : Nat) : Nat :=
  if s.msh.written.contains (r * 65 + w) then Tab.get 0 s.msh.recipes (r * 65 + w) else mshRecipeReset r w

/-- Data positions of a stripe set. -/
def State.setW (s : State) (t : Nat) : Nat := slice (s.mshWord (s.fld (MSH_SSET.RECIPE t)) 0) 16 7

/-- Parity positions of a stripe set. -/
def State.setP (s : State) (t : Nat) : Nat := slice (s.mshWord (s.fld (MSH_SSET.RECIPE t)) 0) 8 2

/-- Positions of a stripe set. -/
def State.setPositions (s : State) (t : Nat) : Nat := s.setW t + s.setP t

/-! The SLC buffer (R235 to R239). -/

/-- SLC pages of a unit of 32 MiB (R600). -/
def slcPagesPerUnit : Nat := 2048

/-- 16 KiB chunks of one unit of the row of a stripe set: ROW MiB over W data positions. -/
def State.unitChunks (s : State) (t : Nat) : Nat := s.fld (ZPM_PGRP.ROW (s.fld (ZPM_SSET.PGRP t))) * 64 / max 1 (s.setW t)

/-- Pages of an SLC unit of a die: a quarter of the unit's capacity in QLC mode (R235), as the die's stripe set gives it. DEDUCED
(log entry 47): a die of no set that states a capacity has units of 128 MiB, the example of R235. -/
def State.slcPages (s : State) (die : Nat) : Nat :=
  match s.unitChunks (s.mem die).sset / 4 with
  | 0 => slcPagesPerUnit
  | n + 1 => n + 1

/-- All SLC units. -/
def State.allSlc (s : State) : List Nat := (s.med.units.filter fun u => u.2.state == .slc).map (·.1)

/-- Pages in use as a percentage of the SLC capacity (MED_STAT.SLCFILL). -/
def State.slcFill (s : State) : Nat := (s.med.slcLive.map (·.2)).sum * 100 / max 1 (s.med.slcCap * 65536)

/-- Free erased SLC pages of all dies (MED_SLCFREE). -/
def State.slcFree (s : State) : Nat := (s.allSlc.map fun k => s.slcPages (k / 131072) - Tab.get 0 s.med.slcUsed k).sum

/-! Drift engines: states, queues, fences (Table 9.8, R284, R295). -/

/-- DRF_STAT.STATE codes. -/
def engStopped : Nat := 0

/-- RUNNING -/
def engRunning : Nat := 1

/-- FENCED -/
def engFenced : Nat := 2

/-- HALTED -/
def engHalted : Nat := 3

/-- The state of engine `e`. -/
def State.engState (s : State) (e : Nat) : Nat := s.fld (DRF_STAT.STATE e)

/-- The class queue. -/
def State.queue (s : State) (e c : Nat) : List Desc := Tab.get [] (s.engine e).q c

/-- Set the class queue. -/
def State.setQueue (e c : Nat) (l : List Desc) (s : State) : State := s.modEng e fun g => { g with q := Tab.set [] g.q c l }
/-- The depth field of a class. -/
def qcfg (e c : Nat) : Fld :=
  match c with
  | 0 => DRF_QCFG.TAIL e
  | 1 => DRF_QCFG.HOST e
  | 2 => DRF_QCFG.BACKGROUND e
  | _ => DRF_QCFG.MAINT e

/-- Depth of a class queue (R295). -/
def State.qDepth (s : State) (e c : Nat) : Nat := 2 ^ s.fld (qcfg e c)

/-- Place of the fence bit of die `d` of channel `e`: register and bit (FCH_FENCE). -/
def fenceFld (e : Nat) : Fld := FCH_FENCE.DIES (e / 8) (e % 8 / 2)

/-- Its bit. -/
def fenceBit (e d : Nat) : Nat := e % 2 * 16 + d

/-- Is the die fenced (R284)? -/
def State.fenced (s : State) (e d : Nat) : Bool := bit (s.fld (fenceFld e)) (fenceBit e d)

/-! Dump dies and slots (R414, R420). -/

/-- FCH_GSTAT[g].STATE of a READY group (Table 8.3). -/
def groupReady : Nat := 3

/-- The dump dies (R420): the dump die of each channel of the groups in the mask. -/
def State.dumpDies (s : State) : List Nat :=
  (bitsOf s.hld.maskNow 16).flatMap fun g => (List.range 8).map fun k => (g * 8 + k) * 16 + s.hld.dieNow

/-- The SYSTEM units of a die, in rising order. -/
def State.systemUnits (s : State) (die : Nat) : List Nat :=
  (s.med.units.filter fun u => u.1 / 131072 == die && u.2.state == .system).map fun u => u.1 % 131072

/-- Is a dump die usable (R414)? -/
def State.usableDie (s : State) (die : Nat) : Bool :=
  s.fld (FCH_GSTAT.STATE (die / 128)) == groupReady && s.engState (die / 16) == engRunning && !s.fenced (die / 16) (die % 16) &&
    !bit (s.fld (DRF_DIEERR.DIE (die / 16))) (die % 16) && decide (2 ≤ (s.systemUnits die).length)

/-- Usable dump dies. -/
def State.usableDies (s : State) : Nat := s.dumpDies.countP s.usableDie

/-- Which dump slots are erased on every usable dump die (HLD_STAT.SLOTFREE). -/
def State.slotFree (s : State) : Nat :=
  if s.usableDies = 0 then 0 else s.nv.slotA.erased.toNat + 2 * s.nv.slotB.erased.toNat

/-- Monotonic-counter positions left. -/
def State.mcountLeft (s : State) : Nat := 16384 - s.cip.mcount

/-! Values of registers that other state gives. -/

/-- Is the position REBUILDING? -/
def State.rebuildingAt (s : State) (t p : Nat) : Bool := !(s.position t p).vacant && (s.mem (s.position t p).die).state == .rebuilding

/-- Positions vacant or REBUILDING of a VALID set (MSH_SSET.DEGR). -/
def State.degraded (s : State) (t : Nat) : Nat :=
  if s.on (MSH_SSET.VALID t) then (List.range (s.setPositions t)).countP fun p => (s.position t p).vacant || s.rebuildingAt t p else 0

/-- REBUILDING positions, saturating at 0xFF (MSH_STAT.REBUILDS). -/
def State.rebuilds (s : State) : Nat := min 0xFF (s.msh.dies.countP fun x => x.2.state == .rebuilding)

/-- The position MSH_PSEL selects. -/
def State.selPos (s : State) : Pos := if s.fld MSH_PSEL.POS < 66 then s.position (s.fld MSH_PSEL.SSET) (s.fld MSH_PSEL.POS) else {}

/-- CRC-32 of an engine's program store in ascending address order (R344); zero until the store is first written. -/
def State.storeCrc (s : State) (e : Nat) : Nat :=
  if (s.engine e).psWritten then crc32 ((List.range 1024).flatMap fun i => toBytes (Tab.get 0 (s.engine e).pstore i) 4) else 0

/-- Are the functions of every port configured (step 13)? Port 1 exists when the ports are bifurcated. -/
def State.portsReady (s : State) : Bool := s.on PCI_CTRL.CFG_READY0 && (s.fld PCI_STRAP.BIF == 0 || s.on PCI_CTRL.CFG_READY1)

/-- Are all groups READY, with LOCK and the tub pool's EN set (step 14)? -/
def State.unitsReady (s : State) : Bool :=
  ((List.range 16).all fun g => s.fld (FCH_GSTAT.STATE g) == groupReady) && s.on MEM_CTRL.LOCK && s.on TUB_CTRL.EN

/-- The last step completed (SYS_BOOTPHASE): steps 13 and 14 are complete once their conditions hold (Table 16.6). -/
def State.bootPhase (s : State) : Nat :=
  let n := s.fld SYS_BOOTPHASE.STEP
  if n = 12 && s.portsReady then (if s.unitsReady then 14 else 13) else n

/-- The value a register field reads as: its own stored value, or the value computed from other state. -/
def State.view (s : State) (f : Fld) : Nat :=
  let a := f.addr
  let set := (a - 0x40a10000) / 8
  let grp := (a - 0x40a01000) / 4
  let eng := (a - 0x41000000) / 0x2000
  let cls := (a % 0x2000 - 0x30) / 4
  let msh := (a - 0x41410000) / 4
  if a = BEL_NOW.TIME.addr then s.bellTime
  else if f = HFE_STAT.CTXFREE then 65536 - s.hfe.ctx.length
  else if f = FNS_ACCDATA.CHARGE then
    Tab.get 0 s.fns.charge (s.fld FNS_ACCSEL.ACCOUNT * 2048 + s.fld FNS_ACCSEL.DIE)
  else if f = FNS_ACCDATA.DEFERRED then
    (s.fns.deferred.contains (s.fld FNS_ACCSEL.ACCOUNT * 2048 + s.fld FNS_ACCSEL.DIE)).toNat
  else if 0x40800100 ≤ a ∧ a < 0x40800140 then
    (List.range 32).foldl (fun v b => v + (s.fn ((a - 0x40800100) / 4 * 32 + b)).inBusy.toNat * 2 ^ b) 0
  else if f = ZPM_STAT.INUSE then s.zpm.zones.countP fun z => z.2.kind != 0
  else if f = ZPM_JRNL.RECORDS then s.zpm.journal.length
  else if 0x40a00100 ≤ a ∧ a < 0x40a00200 then
    (if f.lo = 16 then s.openZones ((a - 0x40a00100) / 4) else s.activeZones ((a - 0x40a00100) / 4))
  else if f = MED_STAT.FOLDREC then s.med.folds.length
  else if f = MED_MAPSTAT.DIRTY then s.med.mapCache.countP (·.dirty)
  else if f = MED_MAPSTAT.JRECS then s.med.mapJrnl.length
  else if f = MED_RCPDATA.STEPWORD then Tab.get 0 s.med.recipes (s.fld MED_RCPSEL.RECIPE * 16 + s.fld MED_RCPSEL.STEP)
  else if f = ECC_STAT.CANDS then s.ecc.cands.length
  else if f = ECC_CAND.ENTRY then s.ecc.cands.headD 0
  else if f = ECC_DDATA.COUNT then
    let c := Tab.get {} s.ecc.cnt (s.fld ECC_DSEL.DIE)
    (match s.fld ECC_DSEL.KIND with | 0 => c.above | 1 => c.retries | 2 => c.softs | _ => c.uncorr)
  else if f = MSH_LOST.ENTRIES then s.msh.lost.length
  else if f = MEM_CDATA.COUNT then Tab.get 0 s.memc.conflict (s.fld MEM_CSEL.MASTER)
  else if f = TUB_STAT.FREE then s.tubsFree true + s.tubsFree false
  else if 0x41800140 ≤ a ∧ a < 0x41800170 then s.tubsHeld ((a - 0x41800140) / 4) (f.lo == 16)
  else if f = TUB_WHDR.HDR then (if s.on TUB_CTRL.EN then (s.tub (s.fld TUB_WSEL.SEL)).word else 0)
  else if f = TLY_VAL.VALUE then
    (match s.snap (s.fld TLY_SEL.AGE) with | some p => p.counter (s.fld TLY_SEL.COUNTER) | none => 0)
  else if f = EVR_STAT.PEND then s.evr.ring.length
  else if f = MGT_STAT.SESSIONS then s.mgt.sess.length
  else if f = ZPM_SROWS.UNRES set then s.srowsUnres set
  else if f = ZPM_SROWS.FREE set then s.freeRows set
  else if f = ZPM_PGRP.TAILFN grp then s.tailFns grp
  else if f = MED_STAT.SLCFILL then s.slcFill
  else if f = MED_SLCFREE.FREE then s.slcFree
  else if f = DRF_QSTAT.HELD eng cls then (s.queue eng cls).length
  else if f = DRF_QSTAT.FREE eng cls then s.qDepth eng cls - (s.queue eng cls).length
  else if f = DRF_PSDATA.WORD eng then Tab.get 0 (s.engine eng).pstore (s.fld (DRF_PSADDR.INDEX eng))
  else if f = DRF_LMDATA.WORD eng then
    (if s.fld (DRF_LMADDR.ADDR eng) < 0x40 then (Config.freeWord s.free).toNat else Tab.get 0 (s.engine eng).lmem (s.fld (DRF_LMADDR.ADDR eng)))
  else if f = DRF_PSCRC.CRC eng then s.storeCrc eng
  else if f = MSH_STAT.REBUILDS then s.rebuilds
  else if f = MSH_PDATA.PRESENT then s.selPos.present.toNat
  else if f = MSH_PDATA.VACANT then s.selPos.vacant.toNat
  else if f = MSH_PDATA.RBROW then s.selPos.rbrow
  else if f = MSH_PDATA.DIE then s.selPos.die
  else if f = MSH_RCPDATA.WORD then
    (if s.fld MSH_RCPSEL.WORD ≤ 64 then s.mshWord (s.fld MSH_RCPSEL.RECIPE) (s.fld MSH_RCPSEL.WORD) else 0)
  else if f = MSH_SSET.DEGR msh then s.degraded msh
  else if f = MSH_RSHP.BUSY then s.msh.reshape.isSome.toNat
  else if f = HLD_STAT.DUMPDIES then s.usableDies
  else if f = HLD_STAT.SLOTFREE then s.slotFree
  else if f = CIP_STAT.MCLOW then (decide (s.mcountLeft < 1024)).toNat
  else if f = CIP_STAT.WINDOW then s.cip.window.isSome.toNat
  else if f = CIP_CAP.XTS ∨ f = CIP_CAP.GCM then (!s.ident.bn).toNat
  else if f = SYS_BOOTPHASE.STEP then s.bootPhase
  else s.fld f

/-! A register word as a peek returns it (R15, R16, R43). -/

/-- Is the field of type RS (R36, R505)? -/
def fieldRS (f : Fld) (t : Acc) : Bool :=
  t == .rs || (t == .evt && decide (0x41e00000 + 4 * 288 ≤ f.addr) && decide (f.addr < 0x41e00000 + 4 * 320))

/-- The shadow of master `m` for the pair at address `a` (R42). -/
def State.shadow (s : State) (a m : Nat) : Nat := Tab.get 0 s.bus.shadow (a * 16 + m)

/-- The bits one field gives to the word at `a`, as master `m` reads them. -/
def State.fieldBits (s : State) (m a : Nat) (e : Fld × Acc) : Nat :=
  let f := e.1
  if fieldRS f e.2 && !s.secure m then 0
  else match e.2 with
  | .wo => 0
  | .rl => if a = f.addr then s.view f % 2 ^ 32 else s.shadow f.addr m
  | .pair => if a = f.addr then s.view f % 2 ^ 32 else s.view f / 2 ^ 32
  | .rh => s.shadow f.addr m
  | _ => s.view f * 2 ^ f.lo

/-- Bytes of a function's mailbox words as a register word (05: FNS_MBX). -/
def State.mbxWord (s : State) (off : Nat) : Nat :=
  let r := s.fn (off / 0x80)
  let k := off % 0x80 / 4
  if k < 16 then Tab.get 0 r.mbxIn k else Tab.get 0 r.mbxOut (k - 16)

/-- A word of a function's committed ring (05: FNS_RING), low half at +0 (RL), high half at +4 (RH), size at +8. -/
def State.ringWord (s : State) (m off : Nat) : Nat :=
  let r := s.fn (off / 0x10)
  match off % 0x10 / 4 with
  | 0 => r.ringBase % 2 ^ 32
  | 1 => s.shadow (0x40820000 + off / 16 * 16) m
  | 2 => r.ringExp
  | _ => 0

/-- A word of the tub window as core `m` reads it (R461). -/
def State.tubWindow (s : State) (m off : Nat) : Nat :=
  let t := s.fld TUB_WSEL.SEL
  if s.on TUB_CTRL.EN && m < 4 && (s.tub t).owner == 8 + m then slice (Tab.get 0 s.tubs.pay t) (off / 4 * 32) 32 else 0

/-- A word of the KDV6032 page (R443). -/
def State.legacyWord (s : State) (off : Nat) : Nat :=
  if s.on MEM_CTRL.LEGACY && off < 0x80 then
    match off % 16 / 4 with
    | 0 => Tab.get 0 s.memc.legPtr (off / 16)
    | 1 => Tab.get 0 s.memc.legCyc (off / 16)
    | 2 => Tab.get 0 s.memc.legPar (off / 16)
    | _ => 0
  else 0

/-- The value of the register word at normal-alias address `a` as master `m` peeks at it: no side effect (R15). -/
def State.peekWord (s : State) (m a : Nat) : Nat :=
  if 0x40810000 ≤ a ∧ a < 0x40820000 then s.mbxWord (a - 0x40810000)
  else if 0x40820000 ≤ a ∧ a < 0x40822000 then s.ringWord m (a - 0x40820000)
  else if 0x41801000 ≤ a ∧ a < 0x41801200 then s.tubWindow m (a - 0x41801000)
  else if 0x41a80000 ≤ a ∧ a < 0x41b00000 then s.legacyWord (a - 0x41a80000)
  else if 0x42401000 ≤ a ∧ a < 0x42402000 then
    ofBytes ((List.range 4).map fun i => Tab.get 0 s.mgt.fdata (a - 0x42401000 + i))
  else if a = 0x4180023C then                                       -- TUB_WUSE: header bits [31:0] of an owned tub
    (if s.on TUB_CTRL.EN && m < 4 && (s.tub (s.fld TUB_WSEL.SEL)).owner == 8 + m
      then (s.tub (s.fld TUB_WSEL.SEL)).word % 2 ^ 32 else 0)
  else if (a - 0x40e00000) % 0x10000 ≥ 0x1000 ∧ 0x40e00000 ≤ a ∧ a < 0x40f00000 then
    s.fld ⟨a, 0, 32, 0⟩                                             -- calibration entries (Table 8.6)
  else ((fieldsAt a).map (s.fieldBits m a)).sum

end Sys2Proof.Machine
end

