-- ==== Sys2Proof/Machine/Flags.lean ====
section
/-! DEFINITION. Machine/Flags.lean: what many meanings raise: an access fault captured in SYS_BUSERR, an event source with
its NOTIFY and recorder triggers, a record of the event recorder and its flush, an asynchronous event of a function. -/

namespace Sys2Proof.Machine

/-! Access faults (R45, R47). -/

/-- Causes of Table 1.9. -/
def causeSize : Nat := 1
/-- unmapped address -/
def causeUnmapped : Nat := 2
/-- power domain off -/
def causeDomainOff : Nat := 3
/-- die-to-die link failure -/
def causeLink : Nat := 4
/-- secure address from the normal world -/
def causeSecure : Nat := 5
/-- large bank not assigned to the master -/
def causeBank : Nat := 6

/-- The state after an access of `master` to `a` ended with an access fault: captured while VALID is 0, else only counted. -/
def State.accessFault (master a cause : Nat) (s : State) : State :=
  let s := s.modBus fun b => { b with rfault := Tab.set 0 b.rfault master cause, rdata := Tab.set 0 b.rdata master 0 }
  if s.on SYS_BUSERR.VALID then s.count SYS_BUSERR.COUNT 1
  else (((s.put SYS_BUSERR.VALID true).setFld SYS_BUSERR.CAUSE cause).setFld SYS_BUSERR.MASTER master).setFld SYS_BUSERRA.ADDR a
    |>.count SYS_BUSERR.COUNT 1

/-- The domain that holds the register at normal-alias address `a` (Table 17.3); none where no domain holds it. -/
def domainOfReg (a : Nat) : Option Nat :=
  let off := (a - 0x40000000) % 0x200000
  match (a - 0x40000000) / 0x200000 with
  | 1 => some 26
  | 2 => some (if 0x200 ≤ off ∧ off < 0x300 then 11 else 10)
  | 3 => some 12
  | 4 => some 13
  | 5 => some 14
  | 6 => some 15
  | 7 => some (32 + off % 0x100000 / 0x10000)
  | 8 => some (32 + off % 0x100000 / 0x10000)
  | 9 => some 16
  | 10 => some 17
  | 12 => some 18
  | 14 => some 5
  | 18 => some 27
  | 19 => some 28
  | 20 => some 29
  | 21 => some 30
  | 22 => some 31
  | _ => none

/-- PWR_DOM[d].STATE: 0b10 off. -/
def domOff : Nat := 2
/-- PWR_DOM[d].STATE: 0b01 gated. -/
def domGated : Nat := 1

/-- Is domain `d` off? -/
def State.domainOff (s : State) (d : Option Nat) : Bool :=
  match d with
  | some k => s.fld (PWR_DOM.STATE k) == domOff
  | none => false

/-- An access restores the clock of a gated domain (R40). -/
def State.ungate (d : Option Nat) (s : State) : State :=
  match d with
  | some k => if s.fld (PWR_DOM.STATE k) = domGated then s.setFld (PWR_DOM.STATE k) 0 else s
  | none => s

/-- Is the debug module's normal-world system bus open (Table 21.4), or is `a` in the unlock window, TST_DBG or TST_DBGCHAL (R634)? -/
def State.debugBus (s : State) (a : Nat) : Bool :=
  s.cip.lifecycle != 3 || s.fld TST_DBG.UNLOCKED != 0 || (decide (0x103FFF00 ≤ a) && decide (a < 0x10400000)) ||
    a == TST_DBG.REQ.addr || (decide (0x42c00210 ≤ a) && decide (a < 0x42c00230))

/-- May master `m` reach address `a` at all? Not while the rails are off or SRAM clearing holds the masters in reset (R451); the
Lamp core, which VAON keeps running, then reaches its own block, and blocks HLD and THM of the companion die while VDD_COMP is up
(R526). -/
def State.mayAccess (s : State) (m a : Nat) : Bool :=
  (s.ctl.pwrseq == 0xFF && s.ctl.pgood == 0xFF && !s.memc.clearing && (m != 6 || s.debugBus a)) ||
    (m == 5 && ((a - 0x40000000) / 0x200000 == 23 ||
      (bit s.ctl.pgood 0 && ((a - 0x40000000) / 0x200000 == 11 || (a - 0x40000000) / 0x200000 == 17))))

/-- Does an access of the Lamp core meet a register block that has no power (R40, R526)? -/
def State.lampOff (s : State) (m a : Nat) : Bool :=
  m == 5 && s.ctl.pwrseq != 0xFF && s.ctl.vaon && decide (0x40000000 ≤ a) && decide (a < 0x43000000)

/-- An access while block SYS has no power ends with cause `c`, which only the master sees: SYS_BUSERR captures nothing. -/
def State.faultUnseen (m c : Nat) (s : State) : State :=
  s.modBus fun b => { b with rfault := Tab.set 0 b.rfault m c, rdata := Tab.set 0 b.rdata m 0 }

/-- A write or read of master `m` at normal-alias address `a` goes through to `f`: no effect for a master that does not exist
(R37) or is held in reset, an access fault while the block's domain is off, the clock of a gated domain restored (R40). -/
def State.access (m a : Nat) (f : State → State) (s : State) : State :=
  if 7 < m then s
  else if !s.mayAccess m a then (if s.lampOff m a then s.faultUnseen m causeDomainOff else s)
  else if s.domainOff (domainOfReg a) then s.accessFault m a causeDomainOff
  else f ((s.ungate (domainOfReg a)).modBus fun b => { b with rfault := Tab.set 0 b.rfault m 0 })

/-- The low half of the pair at `a`, staged by master `m` (R17). -/
def State.stageLow (m a v : Nat) (s : State) : State :=
  s.modBus fun b => { b with staged := Tab.set none b.staged (a * 16 + m) (some (v % 2 ^ 32)) }

/-- The value that a write of `v` to the high half of the pair at `a` commits: with the low half that master `m` has staged, else
with the current one (R17). -/
def State.halves (s : State) (m a v cur : Nat) : Nat :=
  v % 2 ^ 32 * 2 ^ 32 + (Tab.get none s.bus.staged (a * 16 + m)).getD cur % 2 ^ 32

/-- The commit consumes the staged half. -/
def State.unstage (m a : Nat) (s : State) : State :=
  s.modBus fun b => { b with staged := Tab.set none b.staged (a * 16 + m) none }

/-- A reset of processor `n` takes its latched and staged halves and its reservation (R44). -/
def State.clearHalves (n : Nat) (s : State) : State :=
  s.modBus fun b => { b with
    shadow := Tab.clear b.shadow (fun k => k % 16 == n), staged := Tab.clear b.staged (fun k => k % 16 == n),
    resv := Tab.set none b.resv n none }

/-- A register word read through the peek alias by master `m` (R15), with the faults of R38 and R40. -/
def State.peekRead (m a : Nat) (s : State) : Option Nat × State :=
  if a % 4 ≠ 0 then (none, s.accessFault m (a + 0x100000) causeSize)
  else if s.domainOff (domainOfReg a) then (none, s.accessFault m (a + 0x100000) causeDomainOff)
  else let s := s.ungate (domainOfReg a); (some (s.peekWord m a), s)

/-- Words 0 to 22 of a record (Table 19.4). -/
def Rec.words22 (r : Rec) : List Nat :=
  [r.cls * 2 ^ 28 + r.list * 2 ^ 25 + r.count * 2 ^ 20 + r.lost * 2 ^ 9 + r.source,
   r.seq % 2 ^ 32, r.seq / 2 ^ 32, r.bt % 2 ^ 32, r.bt / 2 ^ 32, r.mepoch * 2 ^ 16 + r.mode, r.detail * 2 ^ 16 + r.valid]
    ++ (List.range 16).map fun i => r.data.getD i 0

/-- The 24 words of a record, CRC included (Table 19.4). -/
def Rec.words (r : Rec) : List Nat := r.words22 ++ [crc32 (r.words22.flatMap fun w => toBytes w 4)]

/-! The recorder's flash areas and flush (R597, R599, R600). -/

/-- Records one SLC page takes: 42 in each of its four codewords (R597). -/
def recsPerPage : Nat := 168

/-- The die key of die 0 on channel `c`: die number (R267). -/
def die0 (c : Nat) : Nat := c * 16

/-- The first area: the lowest SYSTEM unit of die 0 on channel 24. -/
def State.firstArea (s : State) : Option Nat :=
  (s.med.units.filter fun u => u.1 / 131072 == die0 24 && u.2.state == .system).head?.map (·.1)

/-- The last area: the SYSTEM units of die 0 on channels 25 to 31, in ascending channel and unit order. -/
def State.lastArea (s : State) : List Nat :=
  (s.med.units.filter fun u => u.1 / 131072 % 16 == 0 && decide (25 ≤ u.1 / 131072 / 16) && decide (u.1 / 131072 / 16 ≤ 31)
    && u.2.state == .system).map (·.1)

/-- Have flushes their areas (R599)? -/
def State.areasOk (s : State) : Bool := s.firstArea.isSome && decide (2 ≤ s.lastArea.length)

/-- The class codes of Table 9.1. -/
def clsTail : Nat := 0
/-- HOST class -/
def clsHost : Nat := 1
/-- BACKGROUND class -/
def clsBack : Nat := 2
/-- MAINT class -/
def clsMaint : Nat := 3

/-- A MAINT-class SLC program of system account 512 by media management. -/
def sysProg (die unit page : Nat) (w : Work) : Desc :=
  { op := 2, cell := 0, die := die % 16, planes := 1, unit := unit, page := page, account := 512, owner := 4, work := w }

/-- The next last-area unit in ascending channel and unit order after `u`. -/
def State.nextLast (s : State) (u : Nat) : Nat :=
  ((s.lastArea.find? fun v => decide (u < v)).getD (s.lastArea.headD 0))

/-- The unit and page that the next page of a flush goes to (R600): the first area while it has pages, else the last area, whose next unit
follows a full one. -/
def State.flushTarget (s : State) : Nat × Nat :=
  if !s.on EVR_STAT.FIRSTFULL && decide (s.evr.firstPages < slcPagesPerUnit) then (s.firstArea.getD 0, s.evr.firstPages)
  else
    let u := s.evr.lastUnits.getLastD (s.lastArea.headD 0)
    if s.evr.lastUnits.isEmpty then (u, 0)
    else if s.evr.lastPages < slcPagesPerUnit then (u, s.evr.lastPages)
    else (s.nextLast u, 0)

/-- The erase of a unit of the recorder's areas that is not erased, with the class and account of its programs (R600, R602). -/
def State.eraseArea (u : Nat) (s : State) : State :=
  if (s.unitRec (u / 131072) (u % 131072)).clean then s
  else s.submitHw (u / 131072 / 16) clsMaint { sysProg (u / 131072) (u % 131072) 0 .none with op := 4 }

/-- The program of a flush's next page, after the erase of a last-area unit that it begins (R600). -/
def State.flushPage (s : State) : State :=
  let t := s.flushTarget
  let s := if t.2 = 0 ∧ s.firstArea ≠ some t.1 then s.eraseArea t.1 else s
  s.submitHw (t.1 / 131072 / 16) clsMaint (sysProg (t.1 / 131072) (t.1 % 131072) t.2 .recFlush)

/-- Start a flush of the unflushed records: MAINT programs, one SLC page each (R597). It waits while group 3 is not READY. -/
def State.startFlush (s : State) : State :=
  if s.on EVR_STAT.BUSY then s.modEvr fun e => { e with flushAgain := true }
  else if !s.areasOk then s.put EVR_STAT.NOAREA true
  else
    let s := s.put EVR_STAT.NOAREA false
    if s.evr.ring.isEmpty then s
    else if s.fld (FCH_GSTAT.STATE 3) != groupReady then s.modEvr fun e => { e with flushAgain := true }
    else
      let s := s.put EVR_STAT.BUSY true
      (s.modEvr fun e => { e with flushing := e.ring.length, lastFlush := s.bell.frame }).flushPage

/-- A flush that waits starts, unless one runs. -/
def State.flushWaiting (s : State) : State :=
  if s.evr.flushAgain && !s.on EVR_STAT.BUSY then (s.modEvr fun e => { e with flushAgain := false }).startFlush else s

/-! Records (R591 to R596). -/

/-- Words of a selection list: offsets in register space (R593). -/
def State.selection (s : State) (l : Nat) : List Nat :=
  let b := s.dbytes (0x6020 + l) 0
  (List.range (b.length / 4)).map fun i => ofBytes ((b.drop (4 * i)).take 4)

/-- Capture the words of a selection list as master 7, through the peek alias (R593): data and VALID bits. -/
def State.capture : List Nat → Nat → State → (List Nat × Nat) × State
  | [], _, s => (([], 0), s)
  | o :: l, i, s =>
    let r := s.peekRead 7 (0x40000000 + o)
    let q := State.capture l (i + 1) r.2
    ((r.1.getD 0 :: q.1.1, (if r.1.isSome then 2 ^ i else 0) + q.1.2), q.2)

/-- A new record enters the ring, or is dropped when 1,024 unflushed records stand in it (R595). -/
def State.pushRecord (r : Rec) (s : State) : State :=
  if s.evr.ring.length + s.evr.early.length ≥ 1024 then
    s.modEvr fun e => { e with dropped := e.dropped + 1, lostNext := min (e.lostNext + 1) 2047 }
  else
    let s := s.modEvr fun e =>
      let r := { r with lost := e.lostNext }
      if e.scanned then { e with ring := e.ring ++ [{ r with seq := e.nextSeq }], nextSeq := e.nextSeq + 1, lostNext := 0 }
      else { e with early := e.early ++ [r], lostNext := 0 }
    if s.dnum 0x6008 0 ≤ s.evr.ring.length then s.startFlush else s

/-- Create a record: the Bell time and epochs of the firing, and the words of selection list `l` (R593, R594). -/
def State.record (cls l source detail : Nat) (s : State) : State :=
  let sel := s.selection l
  let bt := s.bellTime
  let q := s.capture sel 0
  let s := q.2
  s.pushRecord { cls := cls, list := l, count := sel.length, source := source, bt := bt, mepoch := s.fld MSH_STAT.EPOCH,
                 mode := s.fld BEL_MODE_STAT.EPOCH, detail := detail, valid := q.1.2, data := q.1.1 }

/-- Trigger `t` fires: at most once per slot; a firing beyond that is suppressed and counted (R591). -/
def State.fire (t source detail : Nat) (s : State) : State :=
  if s.evr.fired.contains t then s.count EVR_STAT.SUPP 1
  else
    let s := s.modEvr fun e => { e with fired := t :: e.fired }
    let s := s.record (s.dnum (0x6010 + t) 1) (s.dnum (0x6010 + t) 3) source detail
    if s.dnum (0x6010 + t) 4 = 1 then s.startFlush else s

/-- The triggers of class `cls` that `p` selects by ARG. -/
def State.triggers (s : State) (cls : Nat) (p : Nat → Bool) : List Nat :=
  if s.on EVR_CTRL.EN then (List.range 16).filter fun t => s.dnum (0x6010 + t) 1 == cls && p (s.dnum (0x6010 + t) 2) else []

/-! Event sources (R502, R572). -/

/-- The unsolicited NOTIFY of an event source's first assertion in a frame (R572). -/
def State.notifyEvent (n : Nat) (s : State) : State :=
  let c := Tab.get 0 s.mgt.notCount n
  let send := c == 0 && s.dnum 0x1110 0 != 0xFF && bit ((s.dbytes 0x1111 0).getD (n / 8) 0) (n % 8) && s.on MGT_CTRL.NET_EN
  let bt := s.bellTime
  s.modMgt fun m => { m with
    notCount := Tab.set 0 m.notCount n (c + 1),
    notifies := if send then m.notifies ++ [[n, bt, Tab.get 0 m.notPrev n]] else m.notifies }

/-- Event source `n` becomes pending: PEND, or OVF when already pending; a NOTIFY; every EVENT trigger that names it. -/
def State.pendEvent (n : Nat) (s : State) : State :=
  let s := if s.on (EVT_SRC.PEND n) then s.put (EVT_SRC.OVF n) true else s.put (EVT_SRC.PEND n) true
  let s := s.notifyEvent n
  each (s.triggers 1 fun a => a == n) (fun t s => s.fire t n 0) s

/-- The device returns from IDLE to ACTIVE (R525); event 320. -/
def State.wakeIdle (s : State) : State :=
  if s.fld PWR_STAT.STATE = 1 then (s.setFld PWR_STAT.STATE 0).pendEvent 320 else s

/-- Event source `n` asserts; an assertion ends IDLE (R525). -/
def State.assertEvent (n : Nat) (s : State) : State := s.wakeIdle.pendEvent n

/-- Assert several sources in turn. -/
def State.assertEvents (l : List Nat) (s : State) : State := each l State.assertEvent s

/-- Assert `n` when `b`. -/
def State.assertIf (b : Bool) (n : Nat) (s : State) : State := if b then s.assertEvent n else s

/-- The interrupt line of target `t` (R502). -/
def State.line (s : State) (t : Nat) : Bool :=
  (List.range 512).any fun n => s.on (EVT_SRC.PEND n) && s.on (EVT_SRC.EN n) && s.fld (EVT_SRC.TARGET n) == t

/-! Detected errors (R612, R615, R619). -/

/-- Error types whose targeted self-test runs at the next start (Table 20.3). -/
def nextStartTypes : List Nat := [0x02, 0x04, 0x0C, 0x0D, 0x0F, 0x10]

/-- The VERDICT of the last error, in SAF_STAT and in entry 0x7100:00. -/
def State.setVerdict (v : Nat) (s : State) : State :=
  (s.setFld SAF_STAT.VERDICT v).modSaf fun x => { x with last := x.last / 2 ^ 18 * 2 ^ 18 + v * 2 ^ 16 }

/-- An error of type `ty` is detected on `unit` with severity `sev`: counted, recorded, `addr` captured when no earlier capture
is unread, event 448; its targeted self-test starts unless one of the same type and unit runs. -/
def State.noteError (ty unit sev addr : Nat) (s : State) : State :=
  let s := (s.setFld SAF_STAT.SEV sev).setFld SAF_STAT.TYPE ty
  let s := s.modSaf fun x => { x with
    det := Tab.upd 0 x.det ty (fun n => min (n + 1) 0xFFFFFFFF), last := ty * 2 ^ 24 + sev * 2 ^ 20,
    tests := if nextStartTypes.contains ty then x.tests else addTo (ty, unit) x.tests,
    nextStart := if nextStartTypes.contains ty then addTo (ty, unit) x.nextStart else x.nextStart }
  let s := s.setVerdict 1
  let s := if s.saf.faddrSet then s else (s.setFld SAF_FADDR.ADDR addr).modSaf fun x => { x with faddrSet := true }
  s.assertEvent 448

/-! Loopbacks (R622, R623). -/

/-- A slot of an interface runs: its INTF, INDEX and DEPTH. -/
def State.loopOf (s : State) (k : Nat) : Option (Nat × Nat × Nat) := Tab.get none s.tst.loops k

/-- The loopbacks that `p` marks end early with REASON `r`; the counts gathered stay. -/
def State.endLoops (r : Nat) (p : Nat × Nat × Nat → Bool) (s : State) : State :=
  each (List.range 4) (fun k s =>
    match s.loopOf k with
    | some l =>
      if p l then
        ((s.modTst fun t => { t with loops := Tab.set none t.loops k none }).setFld (TST_LBSTAT.STATE k) 3).setFld (TST_LBSTAT.REASON k) r
      else s
    | none => s) s

/-- Does a loopback run on NAND channel group `g`? -/
def State.nandLoop (s : State) (g : Nat) : Bool :=
  (List.range 4).any fun k => match s.loopOf k with | some l => l.1 == 1 && l.2.1 == g | none => false

/-- Does the condition of Table 21.1 for 10BASE-T1S or SHBELL hold at depth `d`? -/
def State.netLoopOk (s : State) (intf d : Nat) : Bool :=
  if intf = 3 then (if d = 3 then s.on MGT_STAT.NETUP else !s.on MGT_CTRL.NET_EN)
  else if d = 2 then s.fld BEL_CTRL.SRC != 0
  else d == 1 || (s.fld BEL_CTRL.SRC == 0 && s.on MGT_STAT.NETUP)

/-- End the loopbacks of those interfaces whose condition holds no longer. -/
def State.endNetLoops (s : State) : State :=
  s.endLoops 5 fun l => (l.1 == 3 || l.1 == 5) && !s.netLoopOk l.1 l.2.2

/-! Asynchronous events of a function (R507). -/

/-- The Dword 0 an Asynchronous Event Request completes with: log page, information, type. -/
def aenWord (type info log : Nat) : Nat := log * 65536 + info * 256 + type

/-- Key of a queue: function and queue number. -/
def qkey (f q : Nat) : Nat := f * 65536 + q

/-- Completion queue `q` of function `f`. -/
def State.cq (s : State) (f q : Nat) : Cq := Tab.get {} s.hfe.cqs (qkey f q)

/-- Room for one more completion in a queue. -/
def State.cqRoom (s : State) (f q : Nat) : Bool := decide ((s.cq f q).used + 1 < (s.cq f q).size)

/-- The MSI-X message of vector `v` of function `f` leaves, or stands in the pending-bit array while it is masked (R99, R103). -/
def State.sendMsix (f v : Nat) (s : State) : State :=
  let r := s.fn f
  if !r.msixEn then s
  else if r.msixMask || !r.msixOpen.contains v then s.modFn f fun r => { r with msixPend := addTo v r.msixPend }
  else s.modHfe fun h => { h with msix := h.msix ++ [(f, v)] }

/-- Post a completion: its entry in the queue, its context freed, the command counted, its MSI-X message sent (R105, R119). -/
def State.postRaw (c : Cpl) (s : State) : State :=
  let q := s.cq c.fn c.cqid
  let s := s.modHfe fun h => { h with
    posted := h.posted ++ [c], ctx := h.ctx.filter (fun x => x.ticket != c.ticket),
    cqs := Tab.upd {} h.cqs (qkey c.fn c.cqid) (fun x => { x with used := x.used + 1 }) }
  let s := if q.ien then s.sendMsix c.fn q.vec else s
  s.modTly fun t => { t with cnt := Tab.upd 0 t.cnt c.fn (fun v => (v + 1) % 2 ^ 64) }

/-- Complete outstanding requests of function `f` with its oldest pending unmasked events, while its admin completion queue has room
(R507). -/
def postAens : Nat → Nat → State → State
  | 0, _, s => s
  | n + 1, f, s =>
    let r := s.fn f
    if !s.cqRoom f 0 then s
    else match r.aers, r.events.find? fun e => !r.masked.any (fun m => m % 8 == e % 8) with
    | a :: rest, some e =>
      let s := s.modFn f fun r => { r with aers := rest, events := r.events.erase e, masked := addTo e r.masked }
      postAens n f (s.postRaw { fn := f, cqid := 0, sqid := 0, cid := a.1, ticket := a.2, status := 0, dw0 := e })
    | _, _ => s

/-- The bit of Asynchronous Event Configuration (feature 0Bh) that enables an event; other events are always enabled. -/
def aenEnabled (cfg type info : Nat) : Bool :=
  if type = 1 ∧ info = 0 then bit cfg 2            -- SMART: Reliability
  else if type = 1 ∧ info = 1 then bit cfg 1       -- SMART: Temperature Threshold
  else if type = 2 ∧ info = 0xEF then bit cfg 27   -- Notice: Zone Descriptor Changed
  else true

/-- Queue an asynchronous event for function `f`: merged with an equal one, dropped when 16 are pending (R507). -/
def State.raiseAen (f type info log : Nat) (s : State) : State :=
  let r := s.fn f
  let e := aenWord type info log
  if !r.en || !aenEnabled (Tab.get 0 r.feats 0x0B) type info then s
  else
    let s := if r.events.contains e || 16 ≤ r.events.length then s else s.modFn f fun r => { r with events := r.events ++ [e] }
    postAens 8 f s

/-- Tally counter `n` grows by `k` (R583). -/
def State.tally (n k : Nat) (s : State) : State :=
  s.modTly fun t => { t with cnt := Tab.upd 0 t.cnt n (fun v => (v + k) % 2 ^ 64) }

end Sys2Proof.Machine
end

