-- ==== Sys2Proof/Machine/BellOps.lean ====
section
/-! DEFINITION. Machine/BellOps.lean: Bell time, the lock loop's transitions, masks and budgets, the power-up sequence and
mode epochs, as operations (02_bell_time.md). The commands of the chapter are in Machine/Bell.lean. -/

namespace Sys2Proof.Machine

/-- BEL_STAT.LOCK codes (Table 2.7). -/
def lockFree : Nat := 0
/-- ACQUIRE -/
def lockAcquire : Nat := 1
/-- CONFIRM -/
def lockConfirm : Nat := 2
/-- LOCKED -/
def lockLocked : Nat := 3

/-- BEL_STAT.LOCK. -/
def State.lock (s : State) : Nat := s.fld BEL_STAT.LOCK
/-- Is the lock state LOCKED? -/
def State.locked (s : State) : Bool := s.lock == lockLocked

/-- A number in force since the last cold start, of an entry that takes effect at the next one (R563). -/
def State.coldNum (s : State) (index sub : Nat) : Nat :=
  match Tab.get none s.mgt.nextCold (dictKey index sub) with
  | some (.num v) => v
  | some (.bytes l) => ofBytes l
  | none => s.dictDefaultNum index sub

/-- The effective Bell source for a value of SRC: 3 as 2, and 1 as 2 where the node follows no beacon (R54, R56). -/
def State.effSrc (s : State) (src : Nat) : Nat :=
  if src = 3 then 2
  else if src = 1 ∧ (s.fld MGT_STAT.NODE = 0 ∨ s.coldNum 0x1104 0 = 0) then 2
  else src

/-- The effective source in force. -/
def State.bellSrc (s : State) : Nat := s.effSrc (s.fld BEL_CTRL.SRC)

/-- The Bell source epoch increments (R58); event 427. -/
def State.nextEpoch (s : State) : State :=
  (s.setFld BEL_STAT.EPOCH (s.fld BEL_STAT.EPOCH + 1)).assertEvent 427

/-- A missing-slot count of zero: a mark counts as the mark of its slot (R62). -/
def State.marked (s : State) : State := s.setFld BEL_STAT.MISSED 0

/-- A pulse or mark counted as misplaced (R50, R52); event 420. -/
def State.misplaced (s : State) : State := (s.count BEL_ERRCNT.MISPLACED 1).assertEvent 420

/-- Enter lock state `l` other than LOCKED from a state other than LOCKED. -/
def State.toLock (l : Nat) (s : State) : State := s.setFld BEL_STAT.LOCK l

/-- A transition out of LOCKED: EPOCH + 1, the fallback, LOSSES counted (Table 2.3, R57, R70). -/
def State.leaveLocked (l : Nat) (s : State) : State :=
  let s := (((s.setFld BEL_STAT.LOCK l).put BEL_STAT.FALLBACK true).put BEL_STAT.DEGRADED true).count BEL_ERRCNT.LOSSES 1
  (s.modBell fun b => { b with lastSlip := none }).nextEpoch

/-- Leave any state for `l` because the source or the period changed. -/
def State.relockTo (l : Nat) (s : State) : State := if s.locked then s.leaveLocked l else s.toLock l

/-- Is a change of the slot period pending (R53)? -/
def State.periodPending (s : State) : Bool := s.fld BEL_CTRL.PERIOD != s.bell.periodNow

/-- The pending mask, budget, reserve and start interval come into force (R64). -/
def State.applyMask (s : State) : State :=
  let m := s.fld BEL_MASK.MASK
  let b := s.fld BEL_BUDGET.BUDGET
  let r := s.fld BEL_BUDGET.RESERVE
  let i := s.dnum 0x2013 0
  (s.modBell fun x => { x with maskNow := m, budgetNow := b, reserveNow := r, startIntNow := i }).put BEL_STAT.MASK_PEND false

/-- The fallback mask of a node: slots s with s mod 4 = node mod 4 (R70). -/
def fallbackMask (node : Nat) : Nat := 0x1111111111111111 * 2 ^ (node % 4)

/-- The slot mask in force: the dump slot mask from a dump commit on (R419), else configured in LOCKED and the fallback
otherwise (R64, R70). -/
def State.slotMask (s : State) : Nat :=
  if s.hld.committed then s.dnum 0x2310 0
  else if s.locked then s.bell.maskNow else fallbackMask (s.fld MGT_STAT.NODE)

/-- The budget in force (R70: half the value most recently written, outside LOCKED; R419: the dump budget). -/
def State.budget (s : State) : Nat :=
  if s.hld.committed then s.dnum 0x2311 0 else if s.locked then s.bell.budgetNow else s.fld BEL_BUDGET.BUDGET / 2
/-- The read reserve in force. -/
def State.reserve (s : State) : Nat :=
  if s.hld.committed then 0 else if s.locked then s.bell.reserveNow else s.fld BEL_BUDGET.RESERVE / 2

/-- Is the running slot assigned to the drive? -/
def State.slotAssigned (s : State) : Bool := bit s.slotMask (s.bell.slot % 64)

/-- The largest program or erase nominal current of any group (R71). -/
def State.maxNominal (s : State) : Nat :=
  (List.range 16).foldl (fun m g => max m (max (s.dnum (0x2020 + g) 2) (s.dnum (0x2020 + g) 3))) 0

/-- The condition of R71: budget at least 2 * (reserve + largest nominal). -/
def budgetOk (budget reserve nominal : Nat) : Bool := decide (2 * (reserve + nominal) ≤ budget)

/-- A write of budget and reserve: rejected with event 425 when it breaks R71, else pending a frame start. -/
def State.writeBudget (budget reserve : Nat) (s : State) : State :=
  if budgetOk budget reserve s.maxNominal then
    ((s.setFld BEL_BUDGET.BUDGET budget).setFld BEL_BUDGET.RESERVE reserve).put BEL_STAT.MASK_PEND true
  else s.assertEvent 425

/-- A write of BEL_CTRL or of the dictionary's source: transitions of Table 2.3 on a change of the effective source (R62). -/
def State.writeSrc (src : Nat) (s : State) : State :=
  let old := s.bellSrc
  let s := s.setFld BEL_CTRL.SRC src
  let new := s.bellSrc
  (if new = old then s else s.relockTo (if new = 2 then lockFree else lockAcquire)).endNetLoops

/-- A write of the slot period: 250 to 2,000 us, else unchanged (R53). -/
def State.writePeriod (p : Nat) (s : State) : State := if 250 ≤ p ∧ p ≤ 2000 then s.setFld BEL_CTRL.PERIOD p else s

/-- Pulse classes of Table 2.1. -/
inductive Pulse where
  | glitch | invalid | slotMark | frameMark
  deriving DecidableEq, Repr

/-- The class of a pulse of `w` ns (R50). -/
def pulseClass (w : Nat) : Pulse :=
  if w < 500 then .glitch
  else if w < 1500 then .invalid
  else if w ≤ 3000 then .slotMark
  else if w < 5000 then .invalid
  else if w ≤ 8000 then .frameMark
  else .invalid

/-- The class the device gives a pulse of `w` ns: within 50 ns of a boundary of Table 2.1 either class, as a free value chooses (R646,
log entry 12). -/
def State.pulseKind (s : State) (w : Nat) : Pulse :=
  match [500, 1500, 3000, 5000, 8000].find? fun b => decide (b ≤ w + 50) && decide (w ≤ b + 50) with
  | some b => if (Config.freeWord s.free).toNat % 2 = 0 then pulseClass (b - 51) else pulseClass (b + 51)
  | none => pulseClass w

/-- Is a mark `d` ns from its expected time on time (R52)? -/
def onTime (d : Int) : Bool := decide (d.natAbs ≤ 5000)

/-- The slot an on-time mark marks: the next one when it comes before the boundary. -/
def State.markSlot (s : State) (d : Int) : Nat := if d < 0 then (s.bell.slot + 1) % 64 else s.bell.slot % 64

/-- Reference cycles of the running slot: its period in force, lengthened or shortened by the phase correction (R53, R60). -/
def State.slotCycles (s : State) : Nat := ((((s.bell.periodNow * 1000 : Nat) : Int) + s.bell.corr) / 40).toNat

/-- Phase correction of an on-time mark: the next slot to begin lengthens or shortens by at most 1 part in 64, so that PHASE changes
its rate and never steps (R59, R60). DEDUCED (log entry 54): "the slot that follows the mark" is the next slot to begin, for a late mark
too, which comes inside the slot it marks. -/
def State.correct (d : Int) (s : State) : State :=
  let lim : Int := (s.bell.periodNow * 1000 / 64 : Nat)
  let c := max (-lim) (min lim d)
  s.marked.modBell fun b => { b with corrNext := c }

/-- The slot period in force becomes `p` inside a slot: PHASE goes on from where it stands, at the new rate (R53, R59, R62). -/
def State.swapPeriod (p : Nat) (s : State) : State :=
  let old := max 1 s.slotCycles
  let new := ((((p * 1000 : Nat) : Int) + s.bell.corr) / 40).toNat
  s.modBell fun b => { b with periodNow := p, cycles := ceilDiv (b.cycles * new) old }

/-- A frame start of Bell time: SLOT and PHASE zero, FRAME + 1 or the preset (R58, R61). -/
def State.startFrame (s : State) : State :=
  match s.bell.presetPend with
  | some p =>
    if s.lock = lockAcquire ∨ s.lock = lockConfirm then
      s.modBell fun b => { b with frame := (b.frame + 1) % 2 ^ 40, slot := 0, phase := 0, cycles := 0, corr := b.corrNext, corrNext := 0 }
    else
      (s.modBell fun b => { b with frame := p % 2 ^ 40, slot := 0, phase := 0, cycles := 0, presetPend := none, corr := b.corrNext, corrNext := 0 }).nextEpoch
  | none => s.modBell fun b => { b with frame := (b.frame + 1) % 2 ^ 40, slot := 0, phase := 0, cycles := 0, corr := b.corrNext, corrNext := 0 }

/-- What a frame start does to the Bell's own pending values (R53, R64): period, mask, budget, reserve, start interval. -/
def State.frameBell (s : State) : State :=
  let s := if s.locked then s.applyMask else s
  if s.periodPending then
    let p := s.fld BEL_CTRL.PERIOD
    let s := s.modBell fun b => { b with periodNow := p }
    if s.locked then s.leaveLocked lockAcquire
    else if s.lock = lockConfirm then s.toLock lockAcquire
    else s
  else s

/-- LOCKED is entered at an on-time frame mark of candidate slot 0 (Table 2.3): EPOCH + 1, SLOT and PHASE zero, FRAME + 1
or the preset, the configured mask and budget. -/
def State.enterLocked (s : State) : State :=
  let s := ((s.setFld BEL_STAT.LOCK lockLocked).put BEL_STAT.FALLBACK false).put BEL_STAT.DEGRADED false
  let s := s.modBell fun b => { b with
    frame := (b.presetPend.getD (b.frame + 1)) % 2 ^ 40, presetPend := none, slot := 0, phase := 0, cycles := 0,
    lastSlip := some 0, puOpen := true }
  ((s.marked.applyMask).nextEpoch).assertEvent 418

/-- The outcome of a mark: did the state enter LOCKED (a frame start of Bell time)? -/
structure Marked where
  state : State
  relocked : Bool

/-- A frame mark `d` ns from the expected slot start (Table 2.3). DESIGN CHOICE (log entry 37): the mark in CONFIRM that makes a pending
PERIOD effective counts as its slot's mark and clears MISSED, as Table 2.1 says of every frame mark; its row of Table 2.3 does not
say so. -/
def State.frameMark (d : Int) (s : State) : Marked :=
  if s.lock = lockFree then ⟨s, false⟩
  else if s.lock = lockAcquire then
    ⟨((s.modBell fun b => { b with cand := 1 }).toLock lockConfirm).marked, false⟩
  else if s.lock = lockConfirm then
    if onTime d && s.bell.cand == 0 then
      if s.periodPending then ⟨((s.swapPeriod (s.fld BEL_CTRL.PERIOD)).toLock lockAcquire).marked, false⟩
      else ⟨s.enterLocked, true⟩
    else ⟨(s.modBell fun b => { b with cand := 1 }).marked, false⟩
  else if !onTime d then ⟨s.misplaced, false⟩
  else
    let k := s.markSlot d
    if k = 0 then ⟨(s.modBell fun b => { b with lastSlip := some 0 }).correct d, false⟩
    else
      let again := s.bell.lastSlip == some k
      let s := ((s.marked).modBell fun b => { b with lastSlip := some k }).assertEvent 421
      ⟨if again then s.leaveLocked lockAcquire else s, false⟩

/-- A slot mark `d` ns from the expected slot start (Table 2.3). -/
def State.slotMark (d : Int) (s : State) : State :=
  if s.lock = lockFree then s
  else if s.lock = lockAcquire then s.misplaced
  else if !onTime d then s.misplaced
  else if s.lock = lockConfirm then
    if s.bell.cand = 0 then s.marked.toLock lockAcquire
    else s.marked.modBell fun b => { b with cand := (b.cand + 1) % 64 }
  else s.correct d

/-- The window of a slot closes without an on-time mark: a missing slot (R52, R62, R63). -/
def State.missingSlot (s : State) : State :=
  if s.lock = lockConfirm then
    let s := (s.count BEL_STAT.MISSED 1).tally 2210 1
    if 3 ≤ s.fld BEL_STAT.MISSED then s.toLock lockAcquire
    else s.modBell fun b => { b with cand := (b.cand + 1) % 64 }
  else if s.locked then
    let s := (s.count BEL_STAT.MISSED 1).tally 2210 1
    if 3 ≤ s.fld BEL_STAT.MISSED then (s.leaveLocked lockAcquire).assertEvent 419 else s
  else s

/-! The current account (R66). -/

/-- An operation of `ma` enters the account. -/
def State.acctAdd (ma : Nat) (s : State) : State :=
  let a := s.fld BEL_ACCT.ACCOUNT + ma
  (s.setFld BEL_ACCT.ACCOUNT a).setFld BEL_ACCT.PEAK (max (s.fld BEL_ACCT.PEAK) a)
/-- An operation of `ma` leaves the account. -/
def State.acctSub (ma : Nat) (s : State) : State := s.setFld BEL_ACCT.ACCOUNT (s.fld BEL_ACCT.ACCOUNT - ma)

/-- May a high-current operation of `ma` start (R65, R67)? -/
def State.hcMayStart (s : State) (ma : Nat) : Bool :=
  s.slotAssigned && decide (s.fld BEL_ACCT.ACCOUNT + ma + s.reserve ≤ s.budget) &&
    (match s.bell.lastHcStart with
     | none => true
     | some t => decide (s.bell.startIntNow ≤ (s.now - t) * 40))

/-- May a read-class operation of `ma` start (R65)? -/
def State.readMayStart (s : State) (ma : Nat) : Bool := decide (s.fld BEL_ACCT.ACCOUNT + ma ≤ s.budget)

/-! Mode epochs (R77 to R84). -/

/-- BEL_MODE_STAT.STATE codes. -/
def modeStable : Nat := 0
/-- MIXED -/
def modeMixed : Nat := 1
/-- ROLLBACK -/
def modeRollback : Nat := 2

/-- A write of BEL_MODE_CMD (R78, R83); rejected from a dump commit on (Table 13.3). -/
def State.modeCommand (v : Nat) (s : State) : State :=
  let s := ((s.setFld BEL_MODE_CMD.ROLLBACK (BEL_MODE_CMD.ROLLBACK.of v)).setFld BEL_MODE_CMD.ANY (BEL_MODE_CMD.ANY.of v)).setFld
    BEL_MODE_CMD.AT_SLOT (BEL_MODE_CMD.AT_SLOT.of v)
  if BEL_MODE_CMD.GO.of v = 0 then s
  else if s.fld BEL_MODE_STAT.STATE ≠ modeStable ∨ s.on BEL_MODE_STAT.PENDING ∨ s.hld.committed then s.put BEL_MODE_STAT.REJECTED true
  else
    let w := s.fld BEL_MODE_STAGE.WORD
    (s.modBell fun b => { b with modePend := some w, modeAt := BEL_MODE_CMD.AT_SLOT.of v,
                                 modeAny := BEL_MODE_CMD.ANY.of v == 1, modeRb := BEL_MODE_CMD.ROLLBACK.of v == 1 }).put
      BEL_MODE_STAT.PENDING true

/-- The epoch after `e`: 0x0001 to 0xFFFF, then 0x0001 (R79). -/
def nextModeEpoch (e : Nat) : Nat := if e = 0xFFFF then 1 else e + 1

/-- Commit mode word `w` as a further epoch, with state `st`. -/
def State.modeCommit (w st : Nat) (s : State) : State :=
  let s := (s.setFld BEL_MODE_STAT.EPOCH (nextModeEpoch (s.fld BEL_MODE_STAT.EPOCH))).setFld BEL_MODE_STAT.STATE st
  s.modBell fun b => { b with modePrev := b.modeWord, modeWord := w, modeAge := 0, modeDone := [], rbPend := false }

/-- The units of R77. -/
def modeUnits : Nat := 150

/-- Units that neither have reported the epoch nor are fenced. -/
def State.modeLate (s : State) : List Nat :=
  (List.range modeUnits).filter fun u => !s.bell.modeDone.contains u && !s.bell.modeFenced.contains u

/-- The state becomes STABLE when no unit is late (R80, R81); events 422 and 424. -/
def State.modeSettle (s : State) : State :=
  if s.bell.rbPend || !s.modeLate.isEmpty then s
  else if s.fld BEL_MODE_STAT.STATE = modeMixed then (s.setFld BEL_MODE_STAT.STATE modeStable).assertEvent 422
  else if s.fld BEL_MODE_STAT.STATE = modeRollback then (s.setFld BEL_MODE_STAT.STATE modeStable).assertEvent 424
  else s

/-- Unit `u` applies the mode epoch: what its registers show (R278, R318, R353, R545). -/
def State.applyMode (u : Nat) (s : State) : State :=
  let ep := s.fld BEL_MODE_STAT.EPOCH
  let w := s.bell.modeWord
  if u < 128 then s.setFld (DRF_STAT.EPOCH u) ep
  else if u < 144 then (s.setFld (FCH_GSTAT.EPOCH (u - 128)) ep).put (FCH_GSTAT.SET (u - 128)) (bit w (u - 128))
  else if u = 144 then s.put ECC_STAT.MODE (bit w 16)
  else if u = 149 then
    let plim := slice w 20 2
    (s.setFld THM_STAT.EPOCH ep).modPow fun p => { p with
      freqMhz := if plim = 0 then 1600 else if plim = 1 then 1200 else 800, xtsLanes := if plim = 0 then 16 else if plim = 1 then 8 else 4 }
  else s

/-- Unit `u` reports the mode epoch in force (R80). -/
def State.reportUnit (u : Nat) (s : State) : State :=
  if s.fld BEL_MODE_STAT.STATE = modeStable ∨ s.bell.modeDone.contains u ∨ s.bell.modeFenced.contains u then s
  else ((s.applyMode u).modBell fun b => { b with modeDone := u :: b.modeDone }).modeSettle

/-- A fenced unit leaves its reset: it applies the epoch in force and is fenced no longer (R82). DESIGN CHOICE (log entry 38): the chapters
of a channel group, the ECC block, the Mash engine, the Kiln, the zone and placement manager, the front end and the thermal block name no
procedure that resets that unit alone; such a unit stays fenced until the whole device restarts. -/
def State.unfenceUnit (u : Nat) (s : State) : State :=
  ((s.applyMode u).modBell fun b => { b with modeFenced := dropFrom u b.modeFenced, modeDone := addTo u b.modeDone }).modeSettle

/-- Mark unit `u` in BEL_MODE_LAG and LAGGARDS (R81). -/
def State.modeLag (u : Nat) (s : State) : State :=
  let f := BEL_MODE_LAG.UNITS (u / 32)
  ((s.setFld f (setBit (s.fld f) (u % 32) true)).count BEL_MODE_STAT.LAGGARDS 1).modBell fun b =>
    { b with modeFenced := addTo u b.modeFenced }

/-- Clear the laggards of the last commit. -/
def State.modeClearLag (s : State) : State :=
  each (List.range 8) (fun i s => s.setFld (BEL_MODE_LAG.UNITS i) 0) (s.setFld BEL_MODE_STAT.LAGGARDS 0)

/-! The power-up sequence (R73 to R75). -/

/-- Are the power-up parameters of the retention words valid (Table 17.7)? -/
def State.puValid (s : State) : Bool := bit (s.fld (AON_RET.WORD 2)) 31
/-- Power-up group mask. -/
def State.puGroups (s : State) : Nat := if s.puValid then slice (s.fld (AON_RET.WORD 2)) 0 16 else 0xFFFF
/-- SPACING. -/
def State.puSpacing (s : State) : Nat := if s.puValid then slice (s.fld (AON_RET.WORD 2)) 16 4 else 1
/-- Node ID of the power-up fallback mask. -/
def State.puNode (s : State) : Nat := if s.puValid then slice (s.fld (AON_RET.WORD 2)) 25 5 else 0
/-- The configured slot mask of a power-up sequence that starts now; the fallback mask for node ID 0 after VAON loss (R75). -/
def State.puConfigured (s : State) : Nat :=
  if s.puValid then s.fld (AON_RET.WORD 0) + s.fld (AON_RET.WORD 1) * 2 ^ 32 else fallbackMask 0
/-- The slot mask of the running power-up sequence: the parameters are those of its start (R74, R75). -/
def State.puSlots (s : State) : Nat := if s.locked then s.bell.puCfg else s.bell.puFall

/-- Mirror the power-up parameters into retention words 0 to 2 (R75, Table 17.7). -/
def State.mirrorPowerUp (s : State) : State :=
  let m := s.fld BEL_MASK.MASK
  ((s.setFld (AON_RET.WORD 0) m).setFld (AON_RET.WORD 1) (m / 2 ^ 32)).setFld (AON_RET.WORD 2)
    (2 ^ 31 + s.fld MGT_STAT.NODE * 2 ^ 25 + s.dnum 0x2032 0 * 2 ^ 20 + s.dnum 0x2031 0 * 2 ^ 16 + s.dnum 0x2030 0)

/-- A power-up sequence of the groups of `mask` starts, with the mirrored parameters of that moment (R73 to R75). -/
def State.startPowerUp (mask : Nat) (s : State) : State :=
  let l := s.locked
  let cfg := s.puConfigured
  let fall := fallbackMask s.puNode
  let sp := s.puSpacing
  s.modBell fun b => { b with puActive := decide (mask ≠ 0), puMask := mask, puSkip := 0, puOpen := l, puCfg := cfg, puFall := fall, puStep := sp, puDid := false }

end Sys2Proof.Machine
end

