-- ==== Sys2Proof/Machine/MemOps.lean ====
section
/-! DEFINITION. Machine/MemOps.lean: who may reach which SRAM, reads, writes and atomic operations of the banks, and the
tub pool's requests and releases, as operations (14_memory_tub_pool.md). -/

namespace Sys2Proof.Machine

/-! Banks (R29, R31, R32, R435). -/

/-- Has the secure domain released the cluster (Table 16.6 step 10)? -/
def State.released (s : State) : Bool := decide (11 ≤ s.fld SYS_BOOTPHASE.STEP)

/-- May master `m` access a large bank of OWNER `o` (Table 14.1)? -/
def State.bankOpen (s : State) (o m : Nat) : Bool :=
  o == 1 && (decide (m < 4) || m == 4 || (m == 6 && s.released))

/-- The cause with which an access of master `m` to the memory address `a` ends; none where it goes through. Of the secure private
range only what Table 15.1 lists is mapped (R466). -/
def State.memFault (s : State) (m a : Nat) : Option Nat :=
  if 0x80000000 ≤ a ∧ s.secure m = false then some causeSecure
  else if a < 0x40000 then none
  else if 0x10000000 ≤ a ∧ a < 0x10400000 then (if s.domainOff (some 19) then some causeDomainOff else none)
  else if 0x20000000 ≤ a ∧ a < 0x26000000 then
    let n := (a - 0x20000000) / 0x200000
    if !s.bankOpen (s.fld (MEM_BANKASN.OWNER n)) m then some causeBank
    else if s.domainOff (some (20 + n / 8)) then some causeDomainOff
    else none
  else if 0x80000000 ≤ a ∧ a < 0x80100000 then (if s.domainOff (some 9) then some causeDomainOff else none)
  else if (0x80100000 ≤ a ∧ a < 0x80130000) ∨ (0x81000000 ≤ a ∧ a < 0x81010000) then none
  else some causeUnmapped

/-- Is the address in SRAM? -/
def isSram (a : Nat) : Bool :=
  (decide (0x10000000 ≤ a) && decide (a < 0x10400000)) || (decide (0x20000000 ≤ a) && decide (a < 0x26000000)) ||
    (decide (0x80000000 ≤ a) && decide (a < 0x80100000))

/-- The domain of an SRAM address (Table 17.3). -/
def sramDomain (a : Nat) : Option Nat :=
  if a < 0x10400000 then some 19 else if a < 0x26000000 then some (20 + (a - 0x20000000) / 0x200000 / 8) else some 9

/-- A write to the granule of `a` by master `m` breaks the reservations other masters hold on it (R440). -/
def State.breakResv (m a : Nat) (s : State) : State :=
  s.modBus fun b => { b with resv := b.resv.filter fun e => e.1 == m || e.2 != some (a / 64) }

/-- The number of bytes of a word or doubleword access. -/
def widthOf (wide : Bool) : Nat := if wide then 8 else 4

/-- The value at `a`. -/
def State.load (s : State) (wide : Bool) (a : Nat) : Nat := ofBytes (s.bytes a (widthOf wide))

/-- Master `m` stores the low `n` bytes of `v` at `a`. -/
def State.storeBytes (m n a v : Nat) (s : State) : State :=
  ((s.breakResv m a).breakResv m (a + n - 1)).setBytes a (toBytes v n)

/-- Master `m` stores `v` at `a`. -/
def State.store (m : Nat) (wide : Bool) (a v : Nat) (s : State) : State := s.storeBytes m (widthOf wide) a v

/-- A load of master `m` returns `v`. -/
def State.returns (m v : Nat) (s : State) : State :=
  s.modBus fun b => { b with rdata := Tab.set 0 b.rdata m v, rfault := Tab.set 0 b.rfault m 0 }

/-- A read of the low half of a register pair at `a` returns its low half and latches the high half for master `m` (R42). -/
def State.returnPair (m a v : Nat) (s : State) : State :=
  (s.returns m (v % 2 ^ 32)).modBus fun b => { b with shadow := Tab.set 0 b.shadow (a * 16 + m) (v / 2 ^ 32 % 2 ^ 32) }

/-- An atomic access goes through to SRAM: aligned, reachable. Else the cause it ends with (R38, R440). -/
def State.atomicFault (s : State) (m : Nat) (wide : Bool) (a : Nat) : Option Nat :=
  match s.memFault m a with
  | some c => if 0x40000000 ≤ a ∧ a < 0x43000000 then some causeSize else some c
  | none => if !isSram a || a % widthOf wide ≠ 0 then some causeSize else none

/-- The value AMO `op` stores over `old`. -/
def amoResult (op : AmoOp) (wide : Bool) (old v : Nat) : Nat :=
  match op with
  | .add => (old + v) % 2 ^ (8 * widthOf wide)
  | .swap => v % 2 ^ (8 * widthOf wide)
  | .other => old

/-- In legacy mode the pointer of a dual-port bank moves to the index after the winner (R441, Table 14.3). -/
def State.granted (m a : Nat) (s : State) : State :=
  if s.on MEM_CTRL.LEGACY && decide (0x10000000 ≤ a) && decide (a < 0x10400000) then
    s.modMemc fun c => { c with legPtr := Tab.set 0 c.legPtr ((a - 0x10000000) / 0x80000) ((m + 1) % 152) }
  else s

/-- An AMO of master `m` (R439, R440): one indivisible read-modify-write that returns the old value. -/
def State.amo (m : Nat) (op : AmoOp) (wide : Bool) (a v : Nat) (s : State) : State :=
  match s.atomicFault m wide a with
  | some c => s.accessFault m a c
  | none =>
    if op = .other then s.accessFault m a causeSize
    else
      let s := (s.ungate (sramDomain a)).granted m a
      let old := s.load wide a
      (s.store m wide a (amoResult op wide old v)).returns m old

/-- A load-reserve: returns the value and takes the reservation of the granule (R440). -/
def State.loadReserve (m : Nat) (wide : Bool) (a : Nat) (s : State) : State :=
  match s.atomicFault m wide a with
  | some c => s.accessFault m a c
  | none =>
    let s := (s.ungate (sramDomain a)).granted m a
    (s.returns m (s.load wide a)).modBus fun b => { b with resv := Tab.set none b.resv m (some (a / 64)) }

/-- A store-conditional: succeeds, returning 0, only while the reservation holds; else returns 1 (R440). -/
def State.storeCond (m : Nat) (wide : Bool) (a v : Nat) (s : State) : State :=
  match s.atomicFault m wide a with
  | some c => s.accessFault m a c
  | none =>
    let s := (s.ungate (sramDomain a)).granted m a
    let held := Tab.get none s.bus.resv m == some (a / 64)
    let s := s.modBus fun b => { b with resv := Tab.set none b.resv m none }
    if held then (s.store m wide a v).returns m 0 else s.returns m 1

/-! Parity (R446, R448). -/

/-- A parity error found by a read of master index `i` at `a`: counted and captured; events 256 and 257. -/
def State.parityError (i a badBytes : Nat) (s : State) : State :=
  let s := s.count MEM_STAT.PARCNT 1
  let s := if s.on MEM_PARERR.VALID then s
    else ((((s.put MEM_PARERR.VALID true).setFld MEM_PARERR.MASTER i).setFld MEM_PARERR.BYTES badBytes).setFld
      MEM_PARERR.ADDR_HI (a / 2 ^ 32)).setFld MEM_PARADDR.ADDR_LO a
  if 0x20000000 ≤ a ∧ a < 0x26000000 then s.assertEvent 256
  else if 0x10000000 ≤ a ∧ a < 0x10400000 then
    (s.modMemc fun m => { m with legPar := Tab.upd 0 m.legPar ((a - 0x10000000) / 0x80000) fun v => min (v + 1) 0xFFFF }).assertEvent 257
  else s

/-! Bank allocation and control (R436, R441, R442). -/

/-- Banks of owner `o`. -/
def State.banksOf (s : State) (o : Nat) : Nat := (List.range 48).countP fun n => s.fld (MEM_BANKASN.OWNER n) == o

/-- Is a write of LOCK = 1 accepted (R436)? -/
def State.lockOk (s : State) : Bool :=
  s.banksOf 4 == 16 && decide (1 ≤ s.banksOf 1) && decide (1 ≤ s.banksOf 2) && decide (1 ≤ s.banksOf 3)

/-- A write of MEM_CTRL. -/
def State.writeMemCtrl (v : Nat) (s : State) : State :=
  let s := s.put MEM_CTRL.LEGACY (bit v 1)
  let s := if bit v 2 then s.modMemc fun m => { m with conflict := [] } else s
  if !bit v 0 || s.on MEM_CTRL.LOCK then s
  else if s.lockOk then (s.put MEM_CTRL.LOCK true).assertEvent 261
  else (s.put MEM_STAT.LOCKERR true).assertEvent 262

/-- A write of MEM_BANKASN[n]: ignored once LOCK is 1, and for the dual-port banks. -/
def State.writeBank (n v : Nat) (s : State) : State :=
  if s.on MEM_CTRL.LOCK || decide (48 ≤ n) then s else s.setFld (MEM_BANKASN.OWNER n) (v / 2 ^ 28)

/-! Row retirement (R449). -/

/-- Retire row `row` of bank `bank`. -/
def State.retireRow (bank row : Nat) (s : State) : State :=
  if 55 < bank ∨ s.fld (MEM_BANKASN.SPARE bank) = 0 then (s.put MEM_STAT.RETERR true).assertEvent 260
  else
    ((s.setFld (MEM_BANKASN.SPARE bank) (s.fld (MEM_BANKASN.SPARE bank) - 1)).modMemc fun m =>
      { m with retired := Tab.set false m.retired (bank * 2048 + row) true }).assertEvent 259

/-- A write of MEM_RETIRE. -/
def State.writeRetire (v : Nat) (s : State) : State :=
  let bank := slice v 16 6
  let row := slice v 0 11
  let s := (s.setFld MEM_RETIRE.BANK bank).setFld MEM_RETIRE.ROW row
  if bit v 31 then s.retireRow bank row else s

/-! The tub pool (R452 to R462). -/

/-- Requesters of Table 14.6. -/
def tagFront : Nat := 0
/-- Mash engine -/
def tagMash : Nat := 1
/-- media management -/
def tagMedia : Nat := 3
/-- zone manager -/
def tagZone : Nat := 4

/-- The reservation of requester `r` in a class. -/
def State.rsv (s : State) (r : Nat) (prot : Bool) : Nat := s.fld (if prot then TUB_RSV.PROT r else TUB_RSV.UNPROT r)

/-- The unused reservation of requester `r` (R457). -/
def State.ownLeft (s : State) (r : Nat) (prot : Bool) : Nat := s.rsv r prot - s.tubsHeld r prot

/-- The free tubs of a class that no reservation covers (R457). -/
def State.freeShared (s : State) (prot : Bool) : Nat :=
  s.tubsFree prot - ((List.range 12).map fun r => s.ownLeft r prot).sum

/-- The shared tubs a request needs. -/
def State.tubNeed (s : State) (q : TubReq) : Nat := q.n - s.ownLeft q.tag q.prot

/-- The shared queue of a class. -/
def State.tubQueue (s : State) (prot : Bool) : List TubReq := if prot then s.tubs.queueP else s.tubs.queueU

/-- The state with the shared queue of a class at `l`. -/
def State.setTubQueue (prot : Bool) (l : List TubReq) (s : State) : State :=
  s.modTubs fun t => if prot then { t with queueP := l } else { t with queueU := l }

/-- The next `n` free tubs of a class in the order of their release (R456; log entry 13 for the order at the enable). -/
def State.pickTubs (s : State) (prot : Bool) (n : Nat) : List Nat :=
  let p := s.fld TUB_SPLIT.P
  let lo := if prot then s.tubs.freshP else s.tubs.freshU
  let hi := if prot then p else 65536
  let fresh := (List.range (min n (hi - lo))).map (lo + ·)
  fresh ++ ((s.tubs.freed.filter fun t => (decide (t < p) == prot) && !(s.tub t).bad).take (n - fresh.length))

/-- Link tubs into a chain owned by `r`; `head` marks the first as the head of the chain. -/
def State.linkTubs (r : Nat) : Bool → List Nat → State → State
  | _, [], s => s
  | head, [t], s => s.modTub t fun h => { h with owner := r, next := 0, last := true, head := head, kind := 0, mslot := 0,
                                                 mtub := 0, ctx := 0 }
  | head, t :: u :: l, s =>
    State.linkTubs r false (u :: l) (s.modTub t fun h => { h with owner := r, next := u, last := false, head := head,
                                                                   kind := 0, mslot := 0, mtub := 0, ctx := 0 })

/-- Grant a request: take the tubs, build the chain and report it to the requester. -/
def State.grantTubs (q : TubReq) (s : State) : State :=
  let l := s.pickTubs q.prot q.n
  let p := s.fld TUB_SPLIT.P
  let fresh := (if q.prot then p - s.tubs.freshP else 65536 - s.tubs.freshU)
  let k := min q.n fresh
  let s := s.modTubs fun t => { t with
    freshP := if q.prot then t.freshP + k else t.freshP, freshU := if q.prot then t.freshU else t.freshU + k,
    freed := t.freed.filter fun x => !l.contains x }
  let s := s.linkTubs q.tag q.after.isNone l
  let h := l.headD 0
  let s := match q.after with
    | some t => s.modTub t fun x => { x with last := false, next := h }
    | none => s
  let s := s.tally 2214 1
  if 8 ≤ q.tag ∧ q.tag < 12 then
    (s.setFld (TUB_RES.STATE (q.tag - 8)) 2).setFld (TUB_RES.HEAD (q.tag - 8)) h
  else s.modTubs fun t => { t with hwRes := Tab.set 0 t.hwRes q.tag (h + 1) }

/-- A requester waits for the first time in a frame (R459). -/
def State.tubWaits (r : Nat) (s : State) : State :=
  if s.tubs.waited.contains r then s
  else ((s.modTubs fun t => { t with waited := r :: t.waited }).count TUB_WAITCNT.COUNT 1).assertEvent 263

/-- After a request has entered a class's shared queue, its rotating pointer stands at the tag after it (R458). -/
def State.rotateTubs (prot : Bool) (tag : Nat) (s : State) : State :=
  s.modTubs fun t => if prot then { t with rotP := (tag + 1) % 12 } else { t with rotU := (tag + 1) % 12 }

/-- Decide a request (R457): grant it, or put it at the end of the class's shared queue. -/
def State.requestTubs (q : TubReq) (s : State) : State :=
  let earlier := (s.tubQueue q.prot).any fun w => w.tag == q.tag
  let need := s.tubNeed q
  if !earlier && (need == 0 || ((s.tubQueue q.prot).isEmpty && decide (need ≤ s.freeShared q.prot)))
      && decide (q.n ≤ s.tubsFree q.prot) then s.grantTubs q
  else
    let s := (s.setTubQueue q.prot (s.tubQueue q.prot ++ [q])).rotateTubs q.prot q.tag
    let s := if 8 ≤ q.tag ∧ q.tag < 12 then s.setFld (TUB_RES.STATE (q.tag - 8)) 1 else s
    s.tubWaits q.tag

/-- Grant the waiting requests of a class whose need has fallen to 0 (R457). -/
def State.grantCovered (prot : Bool) : Nat → State → State
  | 0, s => s
  | n + 1, s =>
    match (s.tubQueue prot).find? fun q => s.tubNeed q == 0 && decide (q.n ≤ s.tubsFree prot) &&
        ((s.tubQueue prot).find? fun w => w.tag == q.tag) == some q with
    | some q => State.grantCovered prot n ((s.setTubQueue prot ((s.tubQueue prot).erase q)).grantTubs q)
    | none => s

/-- Serve the head of a class's shared queue, when its need is met (R457). -/
def State.serveHead (prot : Bool) (s : State) : State :=
  match s.tubQueue prot with
  | q :: l => if s.tubNeed q ≤ s.freeShared prot ∧ q.n ≤ s.tubsFree prot then (s.setTubQueue prot l).grantTubs q else s
  | [] => s

/-- The tubs of a chain from `t` on, following NEXT at most `n` times. -/
def State.chain (s : State) : Nat → Nat → List Nat
  | 0, _ => []
  | n + 1, t => t :: (if (s.tub t).last then [] else State.chain s n (s.tub t).next)

/-- Release tubs: their headers take the free value and they join the free order. -/
def State.releaseTubs (l : List Nat) (s : State) : State :=
  let s := s.modTubs fun p => { p with
    tub := l.foldl (fun m t => Tab.upd {} m t fun h => ({ bad := h.bad } : Tub)) p.tub,
    freed := p.freed ++ l }
  (s.grantCovered true s.tubs.queueP.length).grantCovered false s.tubs.queueU.length

/-- A release that is ignored (R460): RELERR, event 264. -/
def State.releaseError (s : State) : State := (s.put TUB_STAT.RELERR true).assertEvent 264

/-- FREE of tub `t` by requester `r`: the tub, which must be a head of the requester's, and every tub after it (R460). -/
def State.freeChain (r t : Nat) (s : State) : State :=
  if !s.on TUB_CTRL.EN || (s.tub t).owner != r || !(s.tub t).head then s.releaseError
  else s.releaseTubs (s.chain 65536 t)

/-- TRIM of tub `t` by requester `r`: every tub after it (R460). -/
def State.trimChain (r t : Nat) (s : State) : State :=
  if !s.on TUB_CTRL.EN || (s.tub t).owner != r || (s.tub t).last then s.releaseError
  else
    let l := s.chain 65536 (s.tub t).next
    (s.modTub t fun h => { h with last := true, next := 0 }).releaseTubs l

/-! Requests of the cores and the window (R456, R460, R461). -/

/-- May tag `r` ask at all (Table 14.6)? -/
def tagOk (r : Nat) : Bool := decide (r < 5) || (decide (8 ≤ r) && decide (r < 12))

/-- A request of requester `r`: rejected when its count or its tub is wrong; ignored while a request of the core waits. -/
def State.askTubs (q : TubReq) (s : State) : State :=
  let core := decide (8 ≤ q.tag)
  let waits := core && s.fld (TUB_RES.STATE (q.tag - 8)) == 1
  let linkOk := match q.after with
    | some t => (s.tub t).owner == q.tag && (s.tub t).last
    | none => true
  if !tagOk q.tag || waits then s
  else if q.n = 0 ∨ 1024 < q.n ∨ linkOk = false then (if core then s.setFld (TUB_RES.STATE (q.tag - 8)) 3 else s)
  else s.requestTubs q

/-- A write of TUB_REQ[c] by master `m`. -/
def State.writeTubReq (m c v : Nat) (s : State) : State :=
  if m ≠ c then s
  else
    let op := slice v 27 4
    let q : TubReq := { tag := 8 + m, prot := bit v 31, n := slice v 16 11 }
    if s.fld (TUB_RES.STATE m) = 1 then s
    else if op = 1 then s.askTubs q
    else if op = 2 then s.askTubs { q with after := some (slice v 0 16) }
    else s.setFld (TUB_RES.STATE m) 3

/-- A write of TUB_REL on behalf of the writing core. -/
def State.writeTubRel (m v : Nat) (s : State) : State :=
  if 4 ≤ m then s
  else if slice v 28 4 = 1 then s.freeChain (8 + m) (slice v 0 16)
  else if slice v 28 4 = 2 then s.trimChain (8 + m) (slice v 0 16)
  else s

/-- Does master `m` own the selected tub? -/
def State.ownsTub (s : State) (m : Nat) : Bool :=
  s.on TUB_CTRL.EN && decide (m < 4) && (s.tub (s.fld TUB_WSEL.SEL)).owner == 8 + m

/-- A write of TUB_WUSE: header bits [31:0] of an owned tub. -/
def State.writeTubUse (m v : Nat) (s : State) : State :=
  if s.ownsTub m then
    s.modTub (s.fld TUB_WSEL.SEL) fun t => { t with mtub := slice v 16 16, ctx := slice v 0 16 }
  else s.put TUB_STAT.OWNERR true

/-- A write of the payload word at `off` of an owned tub. -/
def State.writeTubWin (m off v : Nat) (s : State) : State :=
  if s.ownsTub m then
    let t := s.fld TUB_WSEL.SEL
    let p := Tab.get 0 s.tubs.pay t
    let lo := off / 4 * 32
    s.modTubs fun x => { x with pay := Tab.set 0 x.pay t (p - slice p lo 32 * 2 ^ lo + v % 2 ^ 32 * 2 ^ lo) }
  else s.put TUB_STAT.OWNERR true

/-- A reset of logical core `n` releases its unprotected tubs (R462); event 265. -/
def State.reclaimTubs (n : Nat) (s : State) : State :=
  let l := (s.tubs.tub.filter fun t => t.2.owner == 8 + n && decide (s.fld TUB_SPLIT.P ≤ t.1)).map (·.1)
  if l.isEmpty then s else (s.releaseTubs l).assertEvent 265

/-- Is the enable of the pool accepted (R455)? -/
def State.tubEnableOk (s : State) : Bool :=
  decide (((List.range 12).map fun r => s.rsv r true).sum ≤ s.fld TUB_SPLIT.P) &&
  decide (((List.range 12).map fun r => s.rsv r false).sum ≤ 65536 - s.fld TUB_SPLIT.P) &&
  decide (4096 ≤ s.rsv tagZone true) && decide (2048 ≤ s.rsv tagMedia true)

/-- Enable the pool: every header takes the free value; event 266 and ENERR when rejected (R452, R455). -/
def State.enableTubs (s : State) : State :=
  if s.on TUB_CTRL.EN then s
  else if s.tubEnableOk then
    let p := s.fld TUB_SPLIT.P
    (s.modTubs fun t => { t with tub := [], freed := [], freshP := journalTubs, freshU := p, hwRes := [] }).put TUB_CTRL.EN true
      |> fun s => (s.grantCovered true s.tubs.queueP.length).grantCovered false s.tubs.queueU.length
  else (s.put TUB_STAT.ENERR true).assertEvent 266

end Sys2Proof.Machine
end

