-- ==== Sys2Proof/Machine/NvmeOps.lean ====
section
/-! DEFINITION. Machine/NvmeOps.lean: functions, ports, queues, command contexts, token buckets and completions of the NVMe
front end, as operations (03_host_link.md, 04_command_queueing.md, 05_function_sharing.md). -/

namespace Sys2Proof.Machine

/-! Statuses by the names the spec gives them; their numbers are those of NVMe (log entry 17): code type * 256 + code. -/

/-- Success -/
def stOk : Nat := 0x000
/-- Invalid Command Opcode -/
def stOpcode : Nat := 0x001
/-- Invalid Field in Command -/
def stField : Nat := 0x002
/-- Data Transfer Error -/
def stTransfer : Nat := 0x004
/-- Internal Error -/
def stInternal : Nat := 0x006
/-- Command Abort Requested -/
def stAborted : Nat := 0x007
/-- Invalid Namespace or Format -/
def stNamespace : Nat := 0x00B
/-- Namespace Is Write Protected -/
def stWriteProt : Nat := 0x020
/-- LBA Out of Range -/
def stLba : Nat := 0x080
/-- Completion Queue Invalid -/
def stCqInvalid : Nat := 0x100
/-- Invalid Queue Identifier -/
def stQueueId : Nat := 0x101
/-- Invalid Queue Size -/
def stQueueSize : Nat := 0x102
/-- Asynchronous Event Request Limit Exceeded -/
def stAerLimit : Nat := 0x105
/-- Invalid Firmware Slot -/
def stFwSlot : Nat := 0x106
/-- Invalid Interrupt Vector -/
def stVector : Nat := 0x108
/-- Invalid Log Page -/
def stLogPage : Nat := 0x109
/-- Invalid Format -/
def stFormat : Nat := 0x10A
/-- Invalid Queue Deletion -/
def stQueueDelete : Nat := 0x10C
/-- Feature Identifier Not Saveable -/
def stNotSaveable : Nat := 0x10D
/-- Namespace Insufficient Capacity -/
def stCapacity : Nat := 0x115
/-- Namespace Identifier Unavailable -/
def stNsUnavailable : Nat := 0x116
/-- Namespace Already Attached -/
def stNsAttached : Nat := 0x118
/-- Namespace Not Attached -/
def stNsNotAttached : Nat := 0x11A
/-- Controller List Invalid -/
def stCtrlList : Nat := 0x11C
/-- Zone Boundary Error -/
def stZoneBoundary : Nat := 0x1B8
/-- Zone Is Full -/
def stZoneFull : Nat := 0x1B9
/-- Zone Is Read Only -/
def stZoneReadOnly : Nat := 0x1BA
/-- Zone Is Offline -/
def stZoneOffline : Nat := 0x1BB
/-- Zone Invalid Write -/
def stZoneInvWrite : Nat := 0x1BC
/-- Too Many Active Zones -/
def stTooManyActive : Nat := 0x1BD
/-- Too Many Open Zones -/
def stTooManyOpen : Nat := 0x1BE
/-- Zone Invalid State Transition -/
def stZoneTransition : Nat := 0x1BF
/-- Write Fault -/
def stWriteFault : Nat := 0x280
/-- Unrecovered Read Error -/
def stUnrecovered : Nat := 0x281
/-- End-to-end Guard Check Error -/
def stGuard : Nat := 0x282
/-- End-to-end Application Tag Check Error -/
def stAppTag : Nat := 0x283
/-- End-to-end Reference Tag Check Error -/
def stRefTag : Nat := 0x284
/-- Deallocated or Unwritten Logical Block -/
def stUnwritten : Nat := 0x287

/-! Ports and functions (Tables 3.1 and 3.2). -/

/-- The functions of port `p` in the running configuration. -/
def State.portFns (s : State) (p : Nat) : List Nat :=
  if s.on PCI_STRAP.BIF then
    (if p = 0 then 0 :: (List.range 255).map (· + 2) else 1 :: (List.range 255).map (· + 257))
  else if p = 0 then 0 :: (List.range 510).map (· + 2) else []

/-- The port that carries function `f`. -/
def State.portOf (s : State) (f : Nat) : Nat := if s.on PCI_STRAP.BIF && (f == 1 || decide (257 ≤ f)) then 1 else 0

/-- Is `f` a physical function of the configuration? -/
def State.isPf (s : State) (f : Nat) : Bool := f == 0 || (f == 1 && s.on PCI_STRAP.BIF)

/-- The physical function of `f`'s port. -/
def State.pfOf (s : State) (f : Nat) : Nat := s.portOf f

/-- The virtual function number k of `f` (Table 3.2). -/
def State.vfNumber (s : State) (f : Nat) : Nat := if s.portOf f = 1 then f - 256 else f - 1

/-- A port's record. -/
def State.port (s : State) (p : Nat) : Port := if p = 1 then s.pci.port1 else s.pci.port0
/-- Change a port's record. -/
def State.modPort (p : Nat) (g : Port → Port) (s : State) : State :=
  s.modPci fun x => if p = 1 then { x with port1 := g x.port1 } else { x with port0 := g x.port0 }

/-- A function exists (R97): a physical function of the configuration, or a virtual function enabled on its port. -/
def State.fnExists (s : State) (f : Nat) : Bool :=
  s.isPf f || (decide (2 ≤ f) && decide (f < 512) && decide (s.vfNumber f ≤ (s.port (s.portOf f)).vfNum))

/-- An uncorrectable error of bit `b` is logged in the AER registers of function `f` (R106). -/
def State.logAer (f b : Nat) (s : State) : State := s.modFn f fun r => { r with aerUnc := setBit r.aerUnc b true }

/-- An Unsupported Request to port `p` is logged by its physical function as an advisory non-fatal error (R106): 4 words of header in
non-FLIT mode, 14 in FLIT mode, of a request the model does not form: free values; event 196. -/
def State.logUnsupported (p : Nat) (s : State) : State :=
  let k := s.free
  let w := (List.range (if s.on (PCI_LSTAT.FLIT p) then 14 else 4)).map fun i => (Config.bar0Word i k).toNat
  let s := s.modFn p fun r => { r with aerCor := setBit r.aerCor 13 true, aerHdr := if r.aerUnc == 0 then w else r.aerHdr }
  ((s.logAer p 20).tookFree).assertEvent 196

/-! Settings that change from a ticket on (R134, R151, R166). -/

/-- What held for ticket `t`: the value up to the first change above it, else the value now. -/
def pastAt (l : List (Nat × Bool)) (t : Nat) (now : Bool) : Bool := ((l.find? fun e => decide (t < e.1)).map (·.2)).getD now

/-- A change for tickets from `t` on of what is `now` in force: it takes the place of earlier changes for higher tickets; those that every
ticket still to be admitted (`low` and above) has seen are dropped. -/
def pastPut (l : List (Nat × Bool)) (low t : Nat) (now : Bool) : List (Nat × Bool) :=
  (l.filter fun e => decide (low < e.1) && decide (e.1 ≤ t)) ++ [(t, pastAt l (t - 1) now)]

/-- The lowest ticket not yet admitted. -/
def State.lowTicket (s : State) : Nat := match s.hfe.tickets with | t :: _ => t.ticket | [] => s.fld HFE_TICKET.TICKET

/-- Is function `f` of the tail class for ticket `t` (R166)? -/
def State.tailFor (s : State) (f t : Nat) : Bool := pastAt (s.fn f).tailPast t (s.isTail f)

/-- Deterministic Admission for ticket `t` (R151). -/
def State.daFor (s : State) (t : Nat) : Bool := pastAt s.hfe.daPast t (s.on HFE_CTRL.DA)

/-- A change of Deterministic Admission: it holds for tickets above the last one taken. -/
def State.setDa (v : Bool) (s : State) : State :=
  let old := s.on HFE_CTRL.DA
  let t := s.fld HFE_TICKET.TICKET
  let low := s.lowTicket
  (s.put HFE_CTRL.DA v).modHfe fun h => if old = v then h else { h with daPast := pastPut h.daPast low t old }

/-- A change of the tail class of `f` from ticket `t` on, for the commands admitted already too (R166); event 213. -/
def State.setTail (f t : Nat) (v : Bool) (s : State) : State :=
  let old := s.isTail f
  let low := s.lowTicket
  let s := (s.setDict (0x4000 + f) 7 (.num v.toNat)).modFn f fun r => { r with tailPast := pastPut r.tailPast low t old }
  (s.modHfe fun h => { h with ctx := h.ctx.map fun c => if c.fn = f ∧ t ≤ c.ticket then { c with tail := v } else c }).assertEvent 213

/-! Queues and contexts (R115, R119). -/

/-- Submission queue `q` of function `f`. -/
def State.sq (s : State) (f q : Nat) : Sq := Tab.get {} s.hfe.sqs (qkey f q)
/-- Change a submission queue. -/
def State.modSq (f q : Nat) (g : Sq → Sq) (s : State) : State := s.modHfe fun h => { h with sqs := Tab.upd {} h.sqs (qkey f q) g }
/-- Change a completion queue. -/
def State.modCq (f q : Nat) (g : Cq → Cq) (s : State) : State := s.modHfe fun h => { h with cqs := Tab.upd {} h.cqs (qkey f q) g }

/-- The ordered attribute of a queue for ticket `t` (R134). -/
def Sq.orderedFor (q : Sq) (t : Nat) : Bool := if q.ordFrom < t then q.ordered else q.ordPrev

/-- A change of the ordered attribute of queue `q` of function `f` from above ticket `t` on, for the commands admitted already too
(R134). -/
def State.setOrdered (f q t : Nat) (v : Bool) (s : State) : State :=
  let old := (s.sq f q).orderedFor t
  let s := s.modSq f q fun x => { x with ordered := v, ordPrev := old, ordFrom := t }
  s.modHfe fun h => { h with ctx := h.ctx.map fun c => if c.fn = f ∧ c.sqid = q ∧ t < c.ticket then { c with ordered := v } else c }

/-- The context of ticket `t`. -/
def State.cmd (s : State) (t : Nat) : Option Cmd := s.hfe.ctx.find? fun c => c.ticket == t
/-- Change the context of ticket `t`. -/
def State.modCmd (t : Nat) (g : Cmd → Cmd) (s : State) : State :=
  s.modHfe fun h => { h with ctx := updFirst (fun c => c.ticket == t) g h.ctx }

/-- Command contexts function `f` holds. DEDUCED (log entry 45): a context is taken at its command's admission, so that tickets not yet
admitted hold none here and none in HFE_STAT.CTXFREE. -/
def State.ctxHeld (s : State) (f : Nat) : Nat := s.hfe.ctx.countP fun c => c.fn == f
/-- The command limit of function `f`; 0 acts as 1 (Table 4.9). -/
def State.cmdLimit (s : State) (f : Nat) : Nat := max 1 (s.fld (HFE_CMDLIM.LIMIT f))

/-! Completions (R119, R135, R143, R145). -/

/-- 4 KiB units of a command that transfers data over the link, for counters 512 to 1,023 and the byte bucket. -/
def opMovesData : Op → Bool
  | .read => true
  | .write => true
  | .append => true
  | _ => false

/-- Logical block size exponent of a namespace. -/
def State.bshift (s : State) (nsid : Nat) : Nat := (s.ns (nsid - 1)).bshift

/-- Started 4 KiB units of `n` logical blocks of a namespace. -/
def State.units4k (s : State) (nsid n : Nat) : Nat := ceilDiv (n * 2 ^ s.bshift nsid) 4096

/-- May the decided command `c` post now: room in its completion queue, and its turn on an ordered queue (R135)? -/
def State.mayPost (s : State) (c : Cmd) : Bool :=
  c.status.isSome && !s.hfe.stopped && s.cqRoom c.fn (s.sq c.fn c.sqid).cqid &&
    (!c.ordered || !(s.hfe.ctx.any fun d => d.fn == c.fn && d.sqid == c.sqid && decide (d.ticket < c.ticket)))

/-- Post the completion of `c` with `status`. -/
def State.postCmd (c : Cmd) (status : Nat) (s : State) : State :=
  let cqid := (s.sq c.fn c.sqid).cqid
  let units := if opMovesData c.op && status == stOk then s.units4k c.nsid c.n else 0
  let s := s.postRaw { fn := c.fn, cqid := cqid, sqid := c.sqid, cid := c.cid, ticket := c.ticket, status := status,
                       dw0 := c.dw0, data := if status = stOk then c.got.map (·.2) else [] }
  let s := s.tally (512 + c.fn) units
  if status = stOk then s
  else
    let s := s.modHfe fun h => { h with errSeq := h.errSeq + 1 }
    s.modFn c.fn fun r => { r with errLog := ((c.ticket, status, c.vsi) :: r.errLog).take 64 }

/-- Post every decided command whose turn has come. -/
def State.drain : Nat → State → State
  | 0, s => s
  | n + 1, s =>
    match s.hfe.ctx.find? fun c => s.mayPost c with
    | some c => State.drain n (s.postCmd c (c.status.getD 0))
    | none => s

/-- Post what can be posted. -/
def State.postAll (s : State) : State := s.drain s.hfe.ctx.length

/-- Decide the outcome of the command of ticket `t`. -/
def State.outcome (t status : Nat) (s : State) : State := s.modCmd t fun c => { c with status := some status }

/-! Token buckets (R159 to R162). -/

/-- The command-bucket credit of one command, in the unit of `Fn.cC`. -/
def creditC : Nat := 25000000
/-- The byte-bucket credit of one 4 KiB, in the unit of `Fn.cB`. -/
def creditB : Nat := 102400000000

/-- Bring the credits of function `f` up to the present reference cycle (R160). -/
def State.refill (f : Nat) (s : State) : State :=
  let dt := s.now - (s.fn f).tAt
  let rc := s.fnSetting f 1
  let rb := s.fnSetting f 2
  let bc := s.fnSetting f 3
  let bb := s.fnSetting f 4
  s.modFn f fun r => { r with
    tAt := s.now, cC := min (r.cC + rc * dt) ((r.dC + bc) * creditC), cB := min (r.cB + rb * 1000000 * dt) ((r.dB + bb) * creditB) }

/-- The credit of the command bucket (`cmd`) or the byte bucket of function `f` is set to D + burst; that of the other bucket is
brought up to date (R160, R162). -/
def State.setCredit (cmd : Bool) (f : Nat) (s : State) : State :=
  let s := s.refill f
  let bc := s.fnSetting f 3
  let bb := s.fnSetting f 4
  s.modFn f fun r => if cmd then { r with cC := (r.dC + bc) * creditC } else { r with cB := (r.dB + bb) * creditB }

/-- Started 4 KiB units a command transfers over the link (R129, R159). -/
def State.moved (s : State) (c : Cmd) : Nat := if opMovesData c.op then s.units4k c.nsid c.n else ceilDiv c.xfer 4096

/-- Charges of a command: commands and 4 KiB units (R159). -/
def State.charges (s : State) (c : Cmd) : Nat × Nat :=
  match c.op with
  | .admin _ => (0, 0)
  | .fence => (0, 0)
  | _ => (1, s.moved c)

/-- Does the token rule hold command `c` back (R161, R174)? -/
def State.tokenHeld (s : State) (c : Cmd) : Bool :=
  let r := s.fn c.fn
  let q := s.charges c
  s.on FNS_CTRL.TOKEN_EN && q.1 != 0 &&
    ((s.fnSetting c.fn 1 != 0 && decide (r.cC < c.pos * creditC)) || (s.fnSetting c.fn 2 != 0 && decide (r.cB < c.bpos * creditB)))

/-- Cost units of a command at dispatch (R129, R138). -/
def State.cost (s : State) (c : Cmd) : Nat := if c.op = .fence then 0 else 1 + s.moved c

/-! Mailbox (R176 to R179). -/

/-- Bit `f` of FNS_MBXPEND follows IN_BUSY; a mailbox cleared by a reset of the function (Table 5.8). -/
def State.clearMailbox (f : Nat) (s : State) : State :=
  s.modFn f fun r => { r with inMsg := [], outMsg := [], outFull := false, inBusy := false, ringErr := false, inOver := false,
                              inTaken := false, outNew := false, vector := 0, vecEn := false, ringLo := 0, ringHi := 0, ringSize := 12,
                              mbxIn := [], mbxOut := [], ringBase := 0, ringExp := 0 }

end Sys2Proof.Machine
end

