-- ==== Sys2Proof/Machine/ZoneOps.lean ====
section
/-! DEFINITION. Machine/ZoneOps.lean: zone descriptors, their transitions, rows of stripe sets, the zone journal and voids,
as operations (06_zones_placement.md). -/

namespace Sys2Proof.Machine

/-! Descriptors (Table 6.2). -/

/-- STATE codes of Table 6.2. -/
def ZState.code : ZState → Nat
  | .free => 0
  | .empty => 1
  | .implicit => 2
  | .explicit => 3
  | .closed => 4
  | .readOnly => 0xD
  | .full => 0xE
  | .offline => 0xF

/-- The eight words of a descriptor. -/
def Zone.words (z : Zone) : List Nat :=
  if z.kind = 0 then [0, 0, 0, 0, 0, 0, 0, 0]
  else
    [z.state.code * 2 ^ 28 + z.kind * 2 ^ 26 + z.wpCommit,
     z.nsidx * 2 ^ 26 + z.wpAdmit,
     z.sset * 2 ^ 20 + z.rownum * 2 ^ 6 + z.rspan * 2 ^ 3 + z.wear,
     z.ruh * 2 ^ 24 + z.rg * 2 ^ 17 + z.fzr.toNat * 2 ^ 16 + z.rzr.toNat * 2 ^ 15 + z.zfc.toNat * 2 ^ 14
       + z.void.toNat * 2 ^ 13 + z.hasrow.toNat * 2 ^ 12,
     z.bt % 2 ^ 32, z.bt / 2 ^ 32,
     min z.pend 0xFFFF * 2 ^ 16 + min z.voids 0xFFFF,
     z.fwtag]

/-- Is the state one that counts as open? -/
def ZState.isOpen : ZState → Bool
  | .implicit => true
  | .explicit => true
  | _ => false

/-- Is the state one that counts as active? -/
def ZState.isActive (z : ZState) : Bool := z.isOpen || z == .closed

/-! Namespaces. -/

/-- Zone size in logical blocks. -/
def Ns.zoneBlocks (n : Ns) : Nat := 2 ^ (n.zlog - n.bshift)
/-- Zone capacity in logical blocks. -/
def Ns.zcap (n : Ns) : Nat := n.zcapMib * 2 ^ (20 - n.bshift)

/-- Does the namespace exist? -/
def State.nsExists (s : State) (nsid : Nat) : Bool := decide (1 ≤ nsid) && decide (nsid ≤ 64) && (s.ns (nsid - 1)).kind != 0

/-- The descriptor of the zone that holds `lba`. -/
def State.zoneOf (s : State) (nsid lba : Nat) : Nat := let n := s.ns (nsid - 1); n.first + lba / n.zoneBlocks

/-- The first LBA of the zone of descriptor `i`. -/
def State.zoneStart (s : State) (i : Nat) : Nat := let n := s.ns (s.zone i).nsidx; (i - n.first) * n.zoneBlocks

/-- The NSID of descriptor `i`. -/
def State.zoneNsid (s : State) (i : Nat) : Nat := (s.zone i).nsidx + 1

/-- The descriptors of namespace index `n`, in zone order. -/
def State.nsZones (s : State) (n : Nat) : List Nat := (List.range (s.ns n).zones).map ((s.ns n).first + ·)

/-! Rows of stripe sets (R182, R203, R372). -/

/-- Is the row free and erased? -/
def State.rowFree (s : State) (t r : Nat) : Bool := (Tab.get {} s.zpm.rows (t * 16384 + r)) == ({} : Row)

/-- Unreserved rows of group `g`, the sum of UNRES over its sets. -/
def State.unreserved (s : State) (g : Nat) : Nat :=
  (((s.groupSets g).filter fun t => !s.reclaimSets.contains t).map fun t => s.fld (ZPM_SSET.ROWS t)).sum - s.rowsReserved g

/-- Does group `g` hold a reservation (R183)? -/
def State.groupReserved (s : State) (g : Nat) : Bool := (List.range 64).any fun n => (s.nsGroups n).contains g

/-- TAILFN of every placement group. -/
def State.tailCounts (s : State) : List Nat := (List.range 64).map s.tailFns

/-- TAILOVL and event 232 when a change from TAILFN `old` makes that of a group exceed the tail overlap limit (R206). -/
def State.checkOverlap (old : List Nat) (s : State) : State :=
  if (List.range 64).any fun g => decide (s.dnum 0x3005 0 < s.tailFns g) && decide (old.getD g 0 < s.tailFns g) then
    (s.put ZPM_STAT.TAILOVL true).assertEvent 232
  else s

/-- Recipe of a stripe set, its data and parity positions (Table 12.1). -/
def mshRecipe0 : Nat → Nat := fun w => if w = 0 then 0x001E0200 else 0

/-- Unit row `r` of a die as it stood when the layout closed: the (r + 1)-th unit that was ROW (R223). -/
def State.layoutUnit (s : State) (die r : Nat) : Nat :=
  (s.med.nonRow.filter fun k => k / 131072 == die).foldl (fun u k => if k % 131072 ≤ u then u + 1 else u) r

/-- The unit that is row `r` of a die (R223). -/
def State.rowUnit (s : State) (die r : Nat) : Nat :=
  (Tab.get none s.med.remap (die * 16384 + r)).getD (s.layoutUnit die r)

/-- Wear class of a unit (Table 7.1). -/
def State.wearClass (s : State) (die unit : Nat) : Nat :=
  min 7 (8 * (s.unitRec die unit).erases / max 1 (s.dnum (0x3210 + die / 128) 1))

/-- Wear class of a row: the highest of its units. -/
def State.rowWear (s : State) (t r : Nat) : Nat :=
  (List.range (s.setW t + s.setP t)).foldl (fun w p =>
    let q := s.position t p
    if q.present && !q.vacant then max w (s.wearClass q.die (s.rowUnit q.die r)) else w) 0

/-- The highest wear class of the run of `n` rows from `r`. -/
def State.runWear (s : State) (t r n : Nat) : Nat := (List.range n).foldl (fun w k => max w (s.rowWear t (r + k))) 0

/-- The first rows of the runs of `n` consecutive free erased rows of a stripe set. -/
def State.runs (s : State) (t n : Nat) : List Nat :=
  (List.range (s.fld (ZPM_SSET.ROWS t) + 1 - n)).filter fun r => (List.range n).all fun k => s.rowFree t (r + k)

/-- The element with the smallest key, the first one on a tie. -/
def leastBy (key : Nat → Nat) : List Nat → Option Nat
  | [] => none
  | x :: l => some (l.foldl (fun b y => if key y < key b then y else b) x)

/-- May rows be taken from the stripe set (R372)? -/
def State.setUsable (s : State) (t : Nat) : Bool := s.on (ZPM_SSET.VALID t) && s.on (MSH_SSET.VALID t)

/-- The run of `n` rows that R203 chooses among the stripe sets `sets`: the set with the most free erased rows that holds
one, and in it the run whose highest wear class is lowest. -/
def State.chooseRun (s : State) (sets : List Nat) (n : Nat) : Option (Nat × Nat) :=
  match leastBy (fun t => 16384 - s.freeRows t) (sets.filter fun t => s.setUsable t && !(s.runs t n).isEmpty) with
  | none => none
  | some t => (leastBy (fun r => s.runWear t r n) (s.runs t n)).map fun r => (t, r)

/-! The zone journal (R212 to R214). -/

/-- Records the journal holds at most. -/
def journalMax : Nat := 131072

/-- Is copy A the older one, which the next checkpoint writes (R214)? -/
def State.olderA (s : State) : Bool := !s.nv.ckptA.ok || (s.nv.ckptB.ok && decide (s.nv.ckptA.gen ≤ s.nv.ckptB.gen))

/-- Change the older of the two checkpoint copies. -/
def State.modOlder (g : Ckpt → Ckpt) (s : State) : State :=
  if s.olderA then s.modNv fun v => { v with ckptA := g v.ckptA } else s.modNv fun v => { v with ckptB := g v.ckptB }

/-- A checkpoint starts: it writes the older copy, whose header is written last, and the records that precede it are discarded at
its end (R214). -/
def State.startCheckpoint (s : State) : State :=
  if s.on ZPM_STAT.CKPT_BUSY then s
  else ((s.modOlder fun c => { c with ok := false }).modZpm fun z => { z with ckptMark := z.journal.length }).put ZPM_STAT.CKPT_BUSY true

/-- Is the zone journal full? -/
def State.journalFull (s : State) : Bool := decide (journalMax ≤ s.zpm.journal.length)

/-- Append descriptor `i`'s record to the journal; the fill of 0x3006:00 starts a checkpoint. DESIGN CHOICE (log entry 48): a record
for which the full journal has no room enters it when the checkpoint has made room. -/
def State.journalZone (i : Nat) (s : State) : State :=
  let s := s.modZone i fun z => { z with recorded := z.wpCommit }
  let r := (i, s.zone i)
  let s := if s.journalFull then s.modZpm fun z => { z with journalLate := z.journalLate ++ [r] }
    else s.modZpm fun z => { z with journal := z.journal ++ [r] }
  if s.dnum 0x3006 0 * journalMax ≤ s.zpm.journal.length * 100 then s.startCheckpoint else s

/-- The Full transition of zone `i` is journalled (R212, R217). -/
def State.journalFullZone (i : Nat) (s : State) : State := (s.modZone i fun z => { z with fullJ := true }).journalZone i

/-! Transitions. -/

/-- A zone joins the Changed Zone List of its namespace (R197); the asynchronous event goes to the functions attached. -/
def State.listChanged (i : Nat) (s : State) : State :=
  let n := (s.zone i).nsidx
  let s := s.modNs n fun x => { x with changed := if x.changed.length ≤ 511 then addTo i x.changed else x.changed }
  each (s.ns n).attached (fun f s => s.raiseAen f 2 0xEF 0xBF) s

/-- Enter state `st`, stamped with Bell time `bt`, that of the admission that caused the transition (R190). -/
def State.enterZoneAt (i : Nat) (st : ZState) (bt : Nat) (s : State) : State := s.modZone i fun z => { z with state := st, bt := bt }

/-- Enter state `st` now (R190): at an admission, or as firmware or replay applies it. -/
def State.enterZone (i : Nat) (st : ZState) (s : State) : State := s.enterZoneAt i st s.bellTime

/-- Close the victim of namespace index `n`: the Implicitly Opened zone whose entry carries the lowest ticket; event 226. -/
def State.closeVictim (n : Nat) (s : State) : State :=
  match leastBy (fun i => (s.zone i).implTicket) ((s.nsZones n).filter fun i => (s.zone i).state == .implicit) with
  | some i => (s.enterZone i .closed).assertEvent 226
  | none => s

/-- Has the namespace an Implicitly Opened zone? -/
def State.hasImplicit (s : State) (n : Nat) : Bool := (s.nsZones n).any fun i => (s.zone i).state == .implicit

/-- The check of a write or append at admission (R192): the first failure found. -/
def State.writeCheck (s : State) (i : Nat) (append : Bool) (lba nlb : Nat) : Option Nat :=
  let z := s.zone i
  let n := s.ns z.nsidx
  let start := s.zoneStart i
  if z.state = .full then some stZoneFull
  else if z.state = .readOnly then some stZoneReadOnly
  else if z.state = .offline then some stZoneOffline
  else if append = false ∧ lba ≠ start + z.wpAdmit then some stZoneInvWrite
  else if append = true ∧ lba ≠ start then some stField
  else if n.zcap < z.wpAdmit + nlb then some stZoneBoundary
  else if z.state = .empty ∧ n.actLim ≤ s.activeZones z.nsidx then some stTooManyActive
  else if (z.state = .empty ∨ z.state = .closed) ∧ n.openLim ≤ s.openZones z.nsidx ∧ s.hasImplicit z.nsidx = false then some stTooManyOpen
  else none

/-- Event 227 when a limit status is returned. -/
def State.limitEvent (st : Nat) (s : State) : State := s.assertIf (st == stTooManyActive || st == stTooManyOpen) 227

/-- A write or append of `nlb` blocks that passed its check is admitted to zone `i` with ticket `t` (Table 6.3): a victim
is closed when an open slot is needed, WP_ADMIT advances, `pieces` pieces become pending. -/
def State.admitWrite (i t nlb pieces : Nat) (s : State) : State :=
  let z := s.zone i
  let n := s.ns z.nsidx
  let opens := z.state == .empty || z.state == .closed
  let s := if opens && decide (n.openLim ≤ s.openZones z.nsidx) then s.closeVictim z.nsidx else s
  let s := if opens then (s.enterZone i .implicit).modZone i fun z => { z with implTicket := t } else s
  let s := s.modZone i fun z => { z with wpAdmit := z.wpAdmit + nlb, pend := z.pend + pieces }
  if (s.zone i).wpAdmit = n.zcap then s.enterZone i .full else s

/-- The Open of a single zone (Table 6.3, R193). -/
def State.openCheck (s : State) (i : Nat) : Option Nat :=
  let z := s.zone i
  let n := s.ns z.nsidx
  match z.state with
  | .empty => if n.actLim ≤ s.activeZones z.nsidx then some stTooManyActive
              else if n.openLim ≤ s.openZones z.nsidx ∧ s.hasImplicit z.nsidx = false then some stTooManyOpen else none
  | .closed => if n.openLim ≤ s.openZones z.nsidx ∧ s.hasImplicit z.nsidx = false then some stTooManyOpen else none
  | .implicit => none
  | .explicit => none
  | _ => some stZoneTransition

/-- A zone is opened explicitly. -/
def State.openZone (i : Nat) (s : State) : State :=
  let z := s.zone i
  match z.state with
  | .explicit => s
  | .implicit => s.enterZone i .explicit
  | _ => (if (s.ns z.nsidx).openLim ≤ s.openZones z.nsidx then s.closeVictim z.nsidx else s).enterZone i .explicit

/-- Zone actions. -/
inductive ZAct where
  | openZ | close | finish | reset | offline
  deriving DecidableEq, Repr

/-- The status with which a single-zone action fails (Table 6.3); none where it is allowed. -/
def State.actCheck (s : State) (a : ZAct) (i : Nat) : Option Nat :=
  match a with
  | .openZ => s.openCheck i
  | .close =>
    (match (s.zone i).state with
     | .implicit => none
     | .explicit => none
     | .closed => none
     | _ => some stZoneTransition)
  | .finish =>
    (match (s.zone i).state with
     | .readOnly => some stZoneTransition
     | .offline => some stZoneTransition
     | .free => some stZoneTransition
     | _ => none)
  | .reset =>
    (match (s.zone i).state with
     | .readOnly => some stZoneTransition
     | .offline => some stZoneTransition
     | .free => some stZoneTransition
     | _ => none)
  | .offline => if (s.zone i).state = .readOnly then none else some stZoneTransition

/-- The zones a Select All action applies to (R194). -/
def State.actApplies (s : State) (a : ZAct) (i : Nat) : Bool :=
  match a, (s.zone i).state with
  | .openZ, .closed => true
  | .close, st => st.isOpen
  | .finish, st => st.isActive
  | .reset, st => st.isActive || st == .full
  | .offline, .readOnly => true
  | _, _ => false

/-- An action's transition, decided at its admission (R191, R201). -/
def State.actAdmit (a : ZAct) (i : Nat) (s : State) : State :=
  match a with
  | .openZ => s.openZone i
  | .close => if (s.zone i).state = .closed then s
              else if (s.zone i).wpAdmit = 0 then s.enterZone i .empty else s.enterZone i .closed
  | .finish => if (s.zone i).state = .full then s else s.enterZone i .full
  | .reset =>
    if (s.zone i).state = .empty then s
    else (s.enterZone i .empty).modZone i fun z => { z with wpAdmit := 0, fzr := false, rzr := false, zfc := false, voidNew := [] }
  | .offline => ((s.enterZone i .offline).listChanged i).assertEvent 225

/-- What the commit of an action on zone `i` does beside the action's own effect: 0 nothing, 1 a journal record (R212: a transition
between the Opened and Closed states makes none), 2 that and the release of the row of a zone that Close has left Empty (R203). -/
def State.actMark (s : State) (a : ZAct) (i : Nat) : Nat :=
  let z := s.zone i
  match a with
  | .openZ => if z.state == .empty then 1 else 0
  | .close => if z.state.isOpen && z.wpAdmit == 0 then 2 else 0
  | _ => 1

/-- Does every Closed zone of the namespace find a free open slot (R194)? -/
def State.openAllOk (s : State) (n : Nat) : Bool :=
  decide (((s.nsZones n).countP fun i => (s.zone i).state == .closed) ≤ (s.ns n).openLim - s.openZones n)

/-! Voids (R146). -/

/-- WP_COMMIT passes the voids it has reached. -/
def State.passVoids (i : Nat) : Nat → State → State
  | 0, s => s
  | n + 1, s =>
    match (s.zone i).voidRuns.find? fun v => v.1 == (s.zone i).wpCommit && v.2 != 0 with
    | some v => State.passVoids i n (s.modZone i fun z => { z with wpCommit := z.wpCommit + v.2 })
    | none => s

/-- Advance WP_COMMIT past the voids that follow it. -/
def State.advance (i : Nat) (s : State) : State := s.passVoids i (s.zone i).voidRuns.length

/-- Is block `b` of the zone inside a void? -/
def Zone.inVoid (z : Zone) (b : Nat) : Bool := z.voidRuns.any fun v => decide (v.1 ≤ b) && decide (b < v.1 + v.2)

/-- The writes and appends in flight on zone `i` that have not failed. -/
def State.writesOn (s : State) (i : Nat) : List Cmd :=
  s.hfe.ctx.filter fun c => (c.op == .write || c.op == .append || c.op == .writeZeroes) && c.status.isNone &&
    s.nsExists c.nsid && (s.ns (c.nsid - 1)).kind == 2 && s.zoneOf c.nsid c.lba == i

/-- The range `[lo, lo + len)` of zone `i` (from the zone start), which the failed command of ticket `t` leaves
uncommitted: it becomes a void when an admitted range or a void lies beyond it, else WP_ADMIT returns to its start. A Reset of a
higher ticket leaves nothing of it; a void behind a Reset that has not committed counts from that commit on (R196). -/
def State.failRange (i t lo len : Nat) (s : State) : State :=
  let start := s.zoneStart i
  let resets := s.hfe.ctx.filter fun c => c.op == .zoneReset && (c.zones.any fun z => z.1 == i) && c.status.isNone
  let since := (resets.filter fun c => decide (c.ticket < t)).foldl (fun m c => max m (c.ticket + 1)) 0
  let fresh := since != 0
  let later := (s.writesOn i).any fun c => c.ticket != t && decide (since ≤ c.ticket) && decide (lo + len ≤ c.lba - start)
  let later := later || (if fresh then (s.zone i).voidNew else (s.zone i).voidRuns).any fun v => decide (lo + len ≤ v.1)
  if len = 0 || (resets.any fun c => decide (t < c.ticket)) then s
  else if later then
    let s := s.modZone i fun z => { z with
      voidRuns := if fresh then z.voidRuns else z.voidRuns ++ [(lo, len)], voidNew := if fresh then z.voidNew ++ [(lo, len)] else z.voidNew,
      void := true, voids := z.voids + 1 }
    ((if fresh then s else s.advance i).count HFE_ERRCNT.VOIDS 1).assertEvent 204
  else s.modZone i fun z => { z with wpAdmit := lo }

/-! Firmware changes of a zone (R202, R257). -/

/-- READ_ONLY of zone `i`: counts released, event 224, the Changed Zone List, a journal record. -/
def State.makeReadOnly (i : Nat) (s : State) : State :=
  match (s.zone i).state with
  | .readOnly => s
  | .offline => s
  | .free => s
  | _ => (((s.enterZone i .readOnly).listChanged i).journalZone i).assertEvent 224

/-- Descriptors the zone manager's banks hold (R437). A bank of OWNER 2 is the zone manager's. -/
def State.descriptors (s : State) : Nat := ((List.range 48).countP fun b => s.fld (MEM_BANKASN.OWNER b) == 2) * 65536

/-- Is descriptor `i` within those? -/
def State.descriptorHeld (s : State) (i : Nat) : Bool := decide (i < s.descriptors)

/-- Descriptors in use. -/
def State.descriptorsUsed (s : State) : List Nat := (s.zpm.zones.filter fun z => z.2.kind != 0).map (·.1)

end Sys2Proof.Machine
end

