-- ==== Sys2Proof/Machine/MediaOps.lean ====
section
/-! DEFINITION. Machine/MediaOps.lean: stripes and their running parity, locations of record, the SLC buffer and its
compaction, the page map and its flush, rows, erases and reclaim units, as operations (06_zones_placement.md,
07_media_management.md, 12_redundancy.md R374 to R380). -/

namespace Sys2Proof.Machine

/-! Information bytes of a block (Table 11.1). -/

/-- One bit of the reflected CRC-64 (R362). -/
def crc64Bit (c : Nat) : Nat := if c % 2 = 1 then (c / 2) ^^^ 0xC96C5795D7870F42 else c / 2
/-- `n` bits of the reflected CRC-64. -/
def crc64Bits (c : Nat) : Nat → Nat
  | 0 => c
  | n + 1 => crc64Bits (crc64Bit c) n
/-- The path guard of a byte string: CRC-64, initial value and final XOR all ones (R362). -/
def crc64 (l : List Nat) : Nat :=
  (l.foldl (fun c b => crc64Bits (c ^^^ (b % 256)) 8) 0xFFFFFFFFFFFFFFFF) ^^^ 0xFFFFFFFFFFFFFFFF

/-- The 4,128 information bytes of a 4 KiB as one little-endian number: data, metadata, location tag, path guard. -/
def infoOf (nsidx unit data pi : Nat) : Nat :=
  let tag := nsidx * 2 ^ 58 + unit % 2 ^ 48
  let body := data % 2 ^ 32768 + pi % 2 ^ 128 * 2 ^ 32768 + tag * 2 ^ 32896
  body + crc64 (toBytes body 4120) * 2 ^ 32960

/-- What the encoder receives for a unit of a namespace: ciphertext when it is encrypted (R375, R468, R469). -/
def State.mediaInfo (s : State) (nsidx unit data pi : Nat) : Nat :=
  let n := s.ns nsidx
  let v := infoOf nsidx unit data pi
  if n.enc then
    let u := n.nsze / 2 ^ (12 - n.bshift)
    let slot := 64 * nsidx + unit * n.keys / max 1 u
    (Config.xts ((Tab.get none s.cip.slots slot).getD 0) (nsidx * 2 ^ 48 + unit) (BitVec.ofNat 33024 v)).toNat
  else v

/-- Product of two bytes in GF(2^8) (R375). -/
def gfMul (a : Nat) : Nat → Nat → Nat
  | 0, _ => 0
  | n + 1, b => (if b % 2 = 1 then a else 0) ^^^ gfMul (gfX a) n (b / 2)

/-- Every byte of a number of `n` bytes multiplied by `c`. -/
def gfScale (c : Nat) (v n : Nat) : Nat := ofBytes ((toBytes v n).map fun b => gfMul c 8 b)

/-- Add the contribution of data position `m` into the running parity of a stripe (R377, R378). -/
def State.addParity (index stripe m set info : Nat) (s : State) : State :=
  let k := (index * 2 ^ 20 + stripe) * 2
  let s := s.modMsh fun x => { x with parity := Tab.upd 0 x.parity k (fun v => v ^^^ info) }
  if s.setP set = 2 then
    let q := s.mshWord (s.fld (MSH_SSET.RECIPE set)) (1 + m) % 256
    s.modMsh fun x => { x with parity := Tab.upd 0 x.parity (k + 1) (fun v => v ^^^ gfScale q info 4128) }
  else s

/-- Discard the running parity of a descriptor (R379). -/
def State.dropParity (index : Nat) (s : State) : State :=
  s.modMsh fun x => { x with parity := Tab.clear x.parity fun k => k / 2 ^ 21 == index }

/-! Places of a block (R374). -/

/-- Key of a chunk. -/
def chunkKey (index pos chunk : Nat) : Nat := (index * 128 + pos) * 65536 + chunk

/-- Where a chunk is. -/
def State.chunkLoc (s : State) (index pos chunk : Nat) : Loc := Tab.get .none s.med.chunks (chunkKey index pos chunk)
/-- Put a chunk's location. -/
def State.setChunk (index pos chunk : Nat) (l : Loc) (s : State) : State :=
  s.modMed fun m => { m with chunks := Tab.set .none m.chunks (chunkKey index pos chunk) l }

/-- Is the location SLC? -/
def Loc.isSlc : Loc → Bool
  | .slc _ _ _ _ => true
  | _ => false
/-- Is the location QLC? -/
def Loc.isQlc : Loc → Bool
  | .qlc _ _ _ _ => true
  | _ => false

/-- The namespace index and 4 KiB unit that block `b` of a descriptor holds; none for an unused block of a reclaim unit. -/
def State.unitAt (s : State) (index b : Nat) : Option (Nat × Nat) :=
  let z := s.zone index
  if z.kind = 2 then
    match Tab.get 0 s.med.ruBlk (index * 2 ^ 26 + b) with
    | 0 => none
    | v + 1 => some (v / 2 ^ 40, v % 2 ^ 40)
  else some (z.nsidx, (s.zoneStart index) / 2 ^ (12 - (s.ns z.nsidx).bshift) + b)

/-- The descriptor and block in it that hold unit `u` of a namespace: the zone's, or what the map says. -/
def State.placeOf (s : State) (nsid u : Nat) : Option (Nat × Nat) :=
  if (s.ns (nsid - 1)).kind = 2 then
    let sh := 12 - (s.ns (nsid - 1)).bshift
    let i := s.zoneOf nsid (u * 2 ^ sh)
    some (i, u - s.zoneStart i / 2 ^ sh)
  else Tab.get none s.med.map ((nsid - 1) * 2 ^ 40 + u)

/-- Is block `b` of a descriptor in the protected cache: do tubs of its piece still hold it (R225)? -/
def State.inCache (s : State) (index b : Nat) : Bool :=
  match s.unitAt index b with
  | some (n, x) => Tab.get 0 s.hfe.blkTub (n * 2 ^ 40 + x) != 0
  | none => false

/-- The location of record of unit `b` (4 KiB) of a descriptor (R225): none while it is in the protected cache, or unwritten. -/
def State.locOf (s : State) (index b : Nat) : Loc :=
  let w := max 1 (s.setW (s.zone index).sset)
  let st := b / w
  if s.inCache index b then .none
  else match s.chunkLoc index (b % w) (st / 4) with
  | .slc d u p _ => .slc d u p (st % 4)
  | .qlc d u p _ => .qlc d u p (st % 4)
  | .none => .none

/-- Committed units (4 KiB) of a descriptor, a last one that is partly filled among them. -/
def State.unitsHeld (s : State) (index : Nat) : Nat :=
  let z := s.zone index
  if z.kind = 2 then z.wpCommit else ceilDiv z.wpCommit (2 ^ (12 - (s.ns z.nsidx).bshift))

/-- The blocks of a descriptor whose data, or whose parity, chunk `c` of position `p` holds (R374). -/
def State.chunkBlocks (s : State) (index p c : Nat) : List Nat :=
  let w := max 1 (s.setW (s.zone index).sset)
  (List.range 4).flatMap fun k => if p < w then [(4 * c + k) * w + p] else (List.range w).map ((4 * c + k) * w + ·)

/-- Does the chunk hold committed data, or the parity of some? -/
def State.chunkHolds (s : State) (index p c : Nat) : Bool := (s.chunkBlocks index p c).any fun b => decide (b < s.unitsHeld index)

/-- The die that takes programs of position `p` of a stripe set: none while the position is vacant or its die FAILED (R380). -/
def State.posDie (s : State) (t p : Nat) : Option Nat :=
  let q := s.position t p
  if q.present && !q.vacant && (s.mem q.die).state != .failed then some q.die else none

/-- Has the rebuild of a position taken row `row` (R391, R392): below the pointer, of the rows from where it joined the pass, or
in its second pass of the rows below that too? -/
def Pos.taken (q : Pos) (row : Nat) : Bool :=
  if q.second then decide (q.joined ≤ row) || decide (row < q.rbrow) else decide (q.joined ≤ row) && decide (row < q.rbrow)

/-- Has the rebuild not taken the row of a REBUILDING position yet (R380, R392)? -/
def State.notTaken (s : State) (t p row : Nat) : Bool :=
  let q := s.position t p
  (s.mem q.die).state == .rebuilding && !q.taken row

/-- The row of a descriptor that holds chunk `c`. -/
def State.chunkRow (s : State) (index c : Nat) : Nat :=
  (s.zone index).rownum + c / max 1 (s.unitChunks (s.zone index).sset)

/-! Descriptors that hardware owners submit (R298, R385). -/

/-- The ECC profile an owner takes for a die's group (R350): entry 0x3240 + g, sub-index 2 for SLC, 1 for QLC. -/
def State.ownerProfile (s : State) (die cell : Nat) : Nat := s.dnum (0x3240 + die / 128) (if cell = 0 then 2 else 1)

/-- A read of four codewords of a page. -/
def State.readDesc (s : State) (owner account die unit page cell : Nat) (w : Work) : Desc :=
  { op := 1, cell := cell, die := die % 16, planes := 1, cwmask := 15, epchk := true, unit := unit, page := page,
    account := account, mepoch := s.fld MSH_STAT.EPOCH, eccprof := s.ownerProfile die cell, retrymax := 15, owner := owner, work := w }

/-- Another operation: PROG (2), PROG_PASS (3) or ERASE (4). -/
def State.opDesc (s : State) (op owner account die unit page arg : Nat) (w : Work) : Desc :=
  { op := op, cell := if op = 3 then 3 else 0, die := die % 16, planes := 1, epchk := true, unit := unit, page := page,
    account := account, mepoch := s.fld MSH_STAT.EPOCH, eccprof := s.ownerProfile die (if op = 3 then 3 else 0),
    owner := owner, arg0 := arg, work := w }

/-! Erases that wait (R227, R248). -/

/-- Is a hardware owner's read or program of the unit handed over, queued, parked or in progress? -/
def State.unitBusy (s : State) (die unit : Nat) : Bool :=
  let g := s.engine (die / 16)
  let hit := fun (d : Desc) => d.work != .none && d.op != 4 && d.die == die % 16 && d.unit == unit
  (g.hwq.any fun x => hit x.2) || (g.parked.any fun x => hit x.2) || ((List.range 4).any fun c => (Tab.get [] g.q c).any hit) ||
    g.ctx.any fun c => c.2.live && hit c.2.desc

/-- An erase of media management is submitted; while an operation on its unit is outstanding it waits. -/
def State.submitErase (e cls : Nat) (d : Desc) (s : State) : State :=
  if s.unitBusy (e * 16 + d.die) d.unit then s.modDrf fun x => { x with eraseWait := x.eraseWait ++ [(e, cls, d)] } else s.submitHw e cls d

/-- The erases that wait and find their unit free now are submitted. -/
def State.releaseErases (s : State) : State :=
  each s.drf.eraseWait (fun x s => s.submitErase x.1 x.2.1 x.2.2) (s.modDrf fun d => { d with eraseWait := [] })

/-! Fold records (R241). -/

/-- Fold record of a descriptor. -/
def State.fold (s : State) (i : Nat) : Fold := Tab.get {} s.med.folds i
/-- Change a fold record. -/
def State.modFold (i : Nat) (g : Fold → Fold) (s : State) : State := s.modMed fun m => { m with folds := Tab.upd {} m.folds i g }

/-- The next number of the model's own marks. -/
def State.nextSerial (s : State) : State := s.modMed fun m => { m with serial := m.serial + 1 }

/-- Descriptor `i` has a fold record. -/
def State.openFold (i : Nat) (s : State) : State :=
  if (s.fold i).live then s
  else
    let s := s.nextSerial
    let g := s.med.serial
    s.modFold i fun _ => { live := true, gen := g }

/-- May the descriptor have a fold record: it has one, or fewer than 8,192 are in use? -/
def State.foldRoom (s : State) (i : Nat) : Bool := (s.fold i).live || decide (s.med.folds.length < 8192)

/-- The account of a chunk's fold work: the function that wrote it (Table 5.4). -/
def State.chunkAccount (s : State) (i p c : Nat) : Nat :=
  match Tab.get 0 s.med.chunkFn (chunkKey i p c) with
  | 0 => 512
  | f + 1 => f

/-! The SLC buffer (R235 to R239). -/

/-- SLC units of a die, in rising order. -/
def State.slcUnits (s : State) (die : Nat) : List Nat :=
  (s.med.units.filter fun u => u.1 / 131072 == die && u.2.state == .slc).map fun u => u.1 % 131072

/-- Pages programmed on an SLC unit. -/
def State.slcUsedOf (s : State) (die unit : Nat) : Nat := Tab.get 0 s.med.slcUsed (die * 131072 + unit)
/-- Pages of an SLC unit that are a location of record. -/
def State.slcLiveOf (s : State) (die unit : Nat) : Nat := Tab.get 0 s.med.slcLive (die * 131072 + unit)
/-- A number of live pages of an SLC unit changes. -/
def State.modSlcLive (die unit : Nat) (g : Nat → Nat) (s : State) : State :=
  s.modMed fun m => { m with slcLive := Tab.upd 0 m.slcLive (die * 131072 + unit) g }

/-- Free erased SLC pages of a die. -/
def State.slcFreeDie (s : State) (die : Nat) : Nat := ((s.slcUnits die).map fun u => s.slcPages die - s.slcUsedOf die u).sum

/-- Is the SLC unit being compacted? -/
def State.compacting (s : State) (die unit : Nat) : Bool := s.med.compact.any fun c => c.die == die && c.unit == unit

/-- The unit and page the next SLC program of a die takes: its SLC units in rotating order (R236). -/
def State.slcNext (s : State) (die : Nat) : Option (Nat × Nat) :=
  let l := s.slcUnits die
  let at0 := Tab.get 0 s.med.slcPtr die
  let order := l.drop at0 ++ l.take at0
  (order.find? fun u => decide (s.slcUsedOf die u < s.slcPages die) && !s.compacting die u).map fun u => (u, s.slcUsedOf die u)

/-- An SLC page of a die is taken. -/
def State.slcTake (die unit : Nat) (s : State) : State :=
  let k := die * 131072 + unit
  let i := (s.slcUnits die).idxOf unit
  s.modMed fun m => { m with slcUsed := Tab.upd 0 m.slcUsed k (· + 1), slcPtr := Tab.set 0 m.slcPtr die i }

/-- Kiln and SLC programs use the HOST class from the urgent SLC fill on (R242); event 243 when it is reached. -/
def State.kilnClass (s : State) : Nat := if s.dnum 0x320A 0 ≤ s.slcFill then clsHost else clsBack

/-- Keys of the chunks whose location of record is a page of an SLC unit. -/
def State.slcChunks (s : State) (die unit : Nat) : List Nat :=
  (s.med.chunks.filter fun e => match e.2 with
    | .slc d u _ _ => d == die && u == unit
    | _ => false).map (·.1)

/-- Can the chunk fold: is its group eligible, or begun (R239)? -/
def State.canFold (s : State) (key : Nat) : Bool :=
  let f := s.fold (key / 65536 / 128)
  let g := (key / 65536 % 128, key % 65536 / 4)
  f.groups.contains g || f.begun.contains g

/-- Change the compaction of a die. -/
def State.modCompact (die : Nat) (g : Compact → Compact) (s : State) : State :=
  s.modMed fun m => { m with compact := m.compact.map fun c => if c.die = die then g c else c }

/-- A compaction goes on (R239): the next live page that cannot fold yet is read; the unit is erased once it holds none and its
other live pages have folded. -/
def State.compactGo (die : Nat) (s : State) : State :=
  match s.med.compact.find? fun c => c.die == die with
  | none => s
  | some c =>
    if c.chunk ≠ 0 || c.erasing then s
    else match (s.slcChunks die c.unit).find? fun k => !s.canFold k with
    | some k =>
      if (s.slcNext die).isNone then s
      else match Tab.get .none s.med.chunks k with
        | .slc _ u pg _ => (s.modCompact die fun c => { c with chunk := k + 1 }).submitHw (die / 16) clsBack (s.readDesc 4 512 die u pg 0 (.slcRead die u k))
        | _ => s
    | none =>
      if s.slcLiveOf die c.unit = 0 then
        (s.modCompact die fun c => { c with erasing := true }).submitErase (die / 16) clsBack (s.opDesc 4 4 512 die c.unit 0 0 (.slcErase die c.unit))
      else s

/-- The compactions that wait go on. -/
def State.compactAll (s : State) : State := each (s.med.compact.map (·.die)) State.compactGo s

/-- Start the compaction of the SLC unit of a die with the fewest live pages, when its free pages have fallen below the
threshold and no compaction runs in its channel group (R239). -/
def State.maybeCompact (die : Nat) (s : State) : State :=
  let l := s.slcUnits die
  if s.slcFreeDie die * 100 < s.dnum 0x3208 0 * (l.length * s.slcPages die) && !(s.med.compact.any fun c => c.die / 128 == die / 128) then
    match leastBy (fun u => s.slcLiveOf die u) (l.filter fun u => s.slcUsedOf die u != 0 && !s.unitBusy die u) with
    | some u => (s.modMed fun m => { m with compact := m.compact ++ [{ die := die, unit := u }] }).compactGo die
    | none => s
  else s

/-! Tubs of committed blocks, and the entry of a piece into SLC (R225, R453, R460). -/

/-- Free a protected chain of the front end from its head. -/
def freeFront (h : Nat) (s : State) : State := s.freeChain tagFront h

/-- Unit `u` (4 KiB) of namespace index `n` leaves protected tubs: its chain is freed with its last block. -/
def freeTubUnit (n u : Nat) (s : State) : State :=
  let k := n * 2 ^ 40 + u
  match Tab.get 0 s.hfe.blkTub k with
  | 0 => s
  | h + 1 =>
    let left := Tab.get 0 s.hfe.tubLeft h - 1
    let s := s.modHfe fun x => { x with
      blkTub := Tab.set 0 x.blkTub k 0, tubLeft := Tab.set 0 x.tubLeft h left, tubBase := if left = 0 then Tab.set 0 x.tubBase h 0 else x.tubBase }
    if left = 0 then freeFront h s else s

/-- Is every SLC program of the chunk that holds a block, and of its stripes' parity, complete? -/
def State.blockInSlc (s : State) (index b : Nat) : Bool :=
  let t := (s.zone index).sset
  let w := max 1 (s.setW t)
  let c := b / w / 4
  s.chunkLoc index (b % w) c != .none && (List.range (s.setP t)).all fun k => s.chunkLoc index (w + k) c != .none

/-- The units of a piece that the chain with head `h` still holds, by namespace index * 2^40 + unit. -/
def State.chainUnits (s : State) (h : Nat) : List Nat := (s.hfe.blkTub.filter fun e => e.2 == h + 1).map (·.1)

/-- Is the word line `wl` of position `p` of a descriptor an eligible fold group (R240): every page that it will hold is in SLC under
R225, the last one's others filler? -/
def State.wlEligible (s : State) (index p wl : Nat) : Bool :=
  let f := s.fold index
  let there := fun (k : Nat) => (s.chunkLoc index p (4 * wl + k)).isSlc && !((s.chunkBlocks index p (4 * wl + k)).any fun b => s.inCache index b)
  f.live && !f.groups.contains (p, wl) && !f.begun.contains (p, wl) && ((List.range 4).any there) &&
    (List.range 4).all fun k => there k || (f.ended && !s.chunkHolds index p (4 * wl + k))

/-- A fold group that has become eligible is noted for the Kiln. -/
def State.noteEligible (index p wl : Nat) (s : State) : State :=
  if s.wlEligible index p wl then s.modFold index fun f => { f with groups := addTo (p, wl) f.groups } else s

/-- The fold groups of block `b`'s chunk and of its parity are looked at. -/
def State.noteBlock (index b : Nat) (s : State) : State :=
  let t := (s.zone index).sset
  let w := max 1 (s.setW t)
  each ((b % w) :: (List.range (s.setP t)).map (w + ·)) (fun p s => s.noteEligible index p (b / w / 16)) s

/-- A piece enters SLC in one step when every SLC program of its data and parity is complete (R225, R226): a record of the committed
pointer of its zone precedes the release of its tubs (R213). -/
def State.enterSlc (h : Nat) (s : State) : State :=
  let l := s.chainUnits h
  let places := l.filterMap fun k => s.placeOf (k / 2 ^ 40 + 1) (k % 2 ^ 40)
  if l.isEmpty || !(places.all fun x => s.blockInSlc x.1 x.2) then s
  else
    let s := each (places.map (·.1)).eraseDups (fun i s =>
      if (s.zone i).kind = 1 && (s.zone i).recorded != (s.zone i).wpCommit then s.journalZone i else s) s
    let s := each l (fun k s => freeTubUnit (k / 2 ^ 40) (k % 2 ^ 40) s) s
    each places (fun x s => s.noteBlock x.1 x.2) s

/-- The SLC program of a chunk is complete, or counts as complete (R225, R380). -/
def State.chunkDone (index p c : Nat) (s : State) : State :=
  let heads := ((s.chunkBlocks index p c).filterMap fun b =>
    (s.unitAt index b).bind fun x => match Tab.get 0 s.hfe.blkTub (x.1 * 2 ^ 40 + x.2) with
      | 0 => none
      | h + 1 => some h).eraseDups
  (each heads State.enterSlc s).noteEligible index p (c / 4)

/-- Program chunk `c` of position `p` into SLC: a HOST program charged to the function that wrote it; without a free page it
waits (event 244), and without a die it counts as complete (R236, R238, R380). -/
def State.progChunk (index p c : Nat) (s : State) : State :=
  let t := (s.zone index).sset
  match s.posDie t p with
  | none =>
    let die := (s.position t p).die
    (s.setChunk index p c (.qlc die (s.rowUnit die (s.chunkRow index c)) (c % max 1 (s.unitChunks t)) 0)).chunkDone index p c
  | some die =>
    match s.slcNext die with
    | none => ((s.modMed fun m => { m with slcWait := m.slcWait ++ [(index, p, c)] }).assertEvent 244).maybeCompact die
    | some (u, pg) =>
      let d := s.opDesc 2 1 (s.chunkAccount index p c) die u pg 0 (.slcProg index p c (s.fold index).gen)
      ((s.slcTake die u).submitHw (die / 16) clsHost d).maybeCompact die

/-- Issue the SLC programs that wait for space and now find it. -/
def State.retrySlc (s : State) : State :=
  let l := s.med.slcWait
  each l (fun e s =>
    match s.posDie (s.zone e.1).sset e.2.1 with
    | some die => if (s.slcNext die).isSome then s.progChunk e.1 e.2.1 e.2.2 else s.modMed fun m => { m with slcWait := m.slcWait ++ [e] }
    | none => s.progChunk e.1 e.2.1 e.2.2) (s.modMed fun m => { m with slcWait := [] })

/-- The function that wrote a chunk is noted. -/
def State.noteWriter (index p c account : Nat) (s : State) : State :=
  s.modMed fun m => { m with chunkFn := Tab.set 0 m.chunkFn (chunkKey index p c) (account + 1) }

/-- The chunk programs that become complete when units `[lo, hi)` of a descriptor commit (R236, R374, R379). -/
def State.progRange (index account : Nat) : Nat → Nat → State → State
  | 0, _, s => s
  | n + 1, b, s =>
    let t := (s.zone index).sset
    let w := s.setW t
    let st := b / max 1 w
    let p := b % max 1 w
    let s := s.noteWriter index p (st / 4) account
    let s := if st % 4 = 3 then s.progChunk index p (st / 4) else s
    let s := if st % 4 = 3 ∧ p + 1 = w then
        each (List.range (s.setP t)) (fun k s => (s.noteWriter index (w + k) (st / 4) account).progChunk index (w + k) (st / 4)) s
      else s
    State.progRange index account n (b + 1) s

/-- The last, partly filled chunks of a descriptor that has ended are programmed, their parity too, charged to the function that wrote
last (R236, R379). -/
def State.tailChunks (index : Nat) (s : State) : State :=
  let t := (s.zone index).sset
  let w := max 1 (s.setW t)
  let units := s.unitsHeld index
  let left := units % (4 * w)
  let c := units / (4 * w)
  let account := s.chunkAccount index ((units - 1) % w) ((units - 1) / w / 4)
  let want := fun (s : State) (p : Nat) => s.chunkLoc index p c == .none
  if left = 0 then s
  else
    let s := each (List.range w) (fun p s => if p < left ∧ left ≤ 3 * w + p ∧ want s p = true then s.progChunk index p c else s) s
    each (List.range (s.setP t)) (fun k s => if want s (w + k) then (s.noteWriter index (w + k) c account).progChunk index (w + k) c else s) s

/-- The last word line of a descriptor that has ended may become eligible, its other pages filler (R240). -/
def State.padTail (index : Nat) (s : State) : State :=
  let w := max 1 (s.setW (s.zone index).sset)
  each (List.range (s.setPositions (s.zone index).sset)) (fun p s => s.noteEligible index p ((s.unitsHeld index - 1) / (16 * w))) s

/-- A descriptor has ended with everything committed: its last, partly filled chunks are programmed, their parity too, charged to the
function that wrote last; filler never is; the last word line may become eligible (R240, R379). -/
def State.progTail (index : Nat) (s : State) : State :=
  let f := s.fold index
  if !f.live || f.ended || s.unitsHeld index = 0 || !(s.zone index).hasrow then s
  else ((s.modFold index fun f => { f with ended := true }).tailChunks index).padTail index

/-! Rows and erases (R203, R204, R253). -/

/-- Why a row is erased: after a zone Reset, as the row of a garbage-collection victim, or for another reason. -/
inductive RowEnd where
  | reset | gc | other
  deriving DecidableEq, Repr

/-- The event of a row that has become free (Tables 6.8, 7.9). -/
def Row.freeEvent (r : Row) (s : State) : State := (s.assertIf r.gc 236).assertIf r.reset 228

/-- One unit of a row has erased (R204): the row is free with the last one, unless it has left its set (R260). -/
def State.rowErased (t row : Nat) (s : State) : State :=
  let k := t * 16384 + row
  let r := Tab.get {} s.zpm.rows k
  if !r.out && decide (r.erasing ≤ 1) then r.freeEvent (s.modZpm fun z => { z with rows := Tab.erase z.rows k })
  else s.modZpm fun z => { z with rows := Tab.set {} z.rows k { r with erasing := r.erasing - 1 } }

/-- The placement group whose erased rows a command's waiting pieces want. -/
def State.waitGroup (s : State) (c : Cmd) : Nat :=
  let n := s.ns (c.nsid - 1)
  if n.kind = 2 then n.pgrp else s.fld (ZPM_SSET.PGRP (s.dnum (0x3110 + c.arg / 256) 0))

/-- Does a piece of the stripe set's placement group wait for an erased row now (R203, R204)? -/
def State.rowWaits (s : State) (t : Nat) : Bool :=
  s.hfe.ctx.any fun c => c.status.isNone && (c.pieces.any fun p => p.rowWait && !p.placed) && s.waitGroup c == s.fld (ZPM_SSET.PGRP t)

/-- Is the row's unit on the die retired, with no spare in its place (R260)? -/
def State.unitGone (s : State) (die row : Nat) : Bool := (s.unitRec die (s.rowUnit die row)).state == .retired

/-- The class of the descriptors that erase a row (R204) and of garbage collection (R254). -/
def State.eraseClass (s : State) (t : Nat) (gc : Bool) : Nat :=
  if s.rowWaits t || (gc && decide (s.freeRows t < 2)) then clsHost else clsBack

/-- Queue the units of a row for erase (R204), charged to `account`. A unit without a readable die receives no erase and counts as
erased; a row with a retired unit does not come back (R260). -/
def State.eraseRow (t row account : Nat) (why : RowEnd) (s : State) : State :=
  let all := (List.range (s.setW t + s.setP t)).filterMap fun p => s.posDie t p
  let dies := all.filter fun die => !s.unitGone die row
  let cls := s.eraseClass t (why == .gc)
  let r : Row := { held := false, erasing := dies.length, gc := why == .gc, reset := why == .reset, out := all.any fun die => s.unitGone die row }
  let s := s.modZpm fun z => { z with rows := Tab.set {} z.rows (t * 16384 + row) r }
  let s := s.modMsh fun m => { m with lost := m.lost.filter (fun l => !(l.sset == t && l.row == row)),
                                      lostMore := m.lostMore.filter (fun l => !(l.sset == t && l.row == row)),
                                      suspects := m.suspects.filter (fun x => x.1 != t * 16384 + row) }
  each dies (fun die s =>
    let u := s.rowUnit die row
    (s.modUnit die u fun r => { r with clean := false }).submitErase (die / 16) cls (s.opDesc 4 5 account die u 0 0 (.eraseRow t row)))
    (if dies.isEmpty then s.rowErased t row else s)

/-- Forget everything the media hold of a descriptor: chunks, fold record, running parity; SLC pages become free (R248). -/
def State.dropMedia (index : Nat) (s : State) : State :=
  let mine := fun (k : Nat) => k / 65536 / 128 == index
  let s := each (s.med.chunks.filter fun e => mine e.1) (fun e s =>
    match e.2 with
    | .slc d u _ _ => s.modSlcLive d u (· - 1)
    | _ => s) s
  ((s.modMed fun m => { m with
    chunks := Tab.clear m.chunks mine, chunkFn := Tab.clear m.chunkFn mine,
    folds := Tab.clear m.folds (fun k => k == index), slcWait := m.slcWait.filter (fun e => e.1 != index) }).dropParity index).compactAll

/-- Rows a descriptor holds. -/
def Zone.rowList (z : Zone) : List Nat := if z.hasrow then (List.range (z.rspan + 1)).map (z.rownum + ·) else []

/-- The rows of a descriptor are released for erase. -/
def State.releaseRows (index account : Nat) (why : RowEnd) (s : State) : State :=
  let z := s.zone index
  each z.rowList (fun r s => s.eraseRow z.sset r account why) s

/-- Assign rows to a descriptor by R203 among `sets`: none when no run is free. -/
def State.assignRows (index n : Nat) (sets : List Nat) (s : State) : Option State :=
  match s.chooseRun sets n with
  | none => none
  | some (t, r) =>
    let w := s.runWear t r n
    let s := s.modZone index fun z => { z with sset := t, rownum := r, wear := w, hasrow := true }
    let s := s.modZpm fun z => { z with rows := (List.range n).foldl (fun l k => Tab.set {} l (t * 16384 + r + k) ({ held := true } : Row)) z.rows }
    some (s.journalZone index)

/-! The page map (R229 to R232). -/

/-- The map page of unit `u` of namespace index `n`. -/
def mapPage (n u : Nat) : Nat := n * 2 ^ 40 + u / 512
/-- The directory page of a map page. -/
def dirPage (page : Nat) : Nat := page / 2 ^ 40 * 2 ^ 40 + page % 2 ^ 40 / 512 + 2 ^ 56
/-- The unit-table page of a unit. -/
def unitPage (die unit : Nat) : Nat := die * 128 + unit / 1024 + 2 ^ 57

/-- First tub of the block that holds unit `u` of namespace index `n`, which protected tubs hold (R453). -/
def State.firstTub (s : State) (n u : Nat) : Nat :=
  let h := Tab.get 0 s.hfe.blkTub (n * 2 ^ 40 + u) - 1
  (s.chain 1024 h).getD (8 * (u - Tab.get 0 s.hfe.tubBase h)) 0

/-- A flash address as the entry holds it: CHAN, DIE, UNIT, PAGE and SLOT. -/
def locFields (die unit page cw : Nat) : Nat := die / 16 * 2 ^ 51 + die % 16 * 2 ^ 47 + unit * 2 ^ 30 + page * 2 ^ 16 + cw * 2 ^ 12

/-- The map entry of unit `u` of namespace index `n` (Table 7.3). -/
def State.mapEntry (s : State) (n u : Nat) : Nat :=
  match Tab.get none s.med.map (n * 2 ^ 40 + u) with
  | none => 0
  | some (i, b) =>
    match s.locOf i b with
    | .slc d x p c => 2 * 2 ^ 62 + locFields d x p c
    | .qlc d x p c => 3 * 2 ^ 62 + locFields d x p c
    | .none => 2 ^ 62 + s.firstTub n u

/-- Page slots of the map cache (R437). -/
def State.mapSlots (s : State) : Nat := ((List.range 48).countP fun b => s.fld (MEM_BANKASN.OWNER b) == 3) * 512

/-- The clock rule (R230): the hand passes dirty slots, clears the mark of referenced ones, and the first other slot takes the page. -/
def clockTake (page : Nat) : Nat → Med → Med
  | 0, m => m
  | n + 1, m =>
    let h := if m.mapHand < m.mapCache.length then m.mapHand else 0
    match m.mapCache[h]? with
    | none => m
    | some x =>
      if x.dirty then clockTake page n { m with mapHand := h + 1 }
      else if x.ref then clockTake page n { m with mapHand := h + 1, mapCache := m.mapCache.set h { x with ref := false } }
      else { m with mapHand := h + 1, mapCache := m.mapCache.set h { page := page } }

/-- Is a page in the cache? -/
def Med.cached (m : Med) (page : Nat) : Bool := m.mapCache.any fun x => x.page == page

/-- A page is used: brought into the cache where it is not there, in place of a clean one when every slot is taken. -/
def State.mapUse (page : Nat) (s : State) : State :=
  let slots := s.mapSlots
  s.modMed fun m =>
    if m.cached page then { m with mapCache := m.mapCache.map fun x => if x.page = page then { x with ref := true } else x }
    else if m.mapCache.length < slots then { m with mapCache := m.mapCache ++ [{ page := page }] }
    else clockTake page (2 * m.mapCache.length + 1) m

/-- An erase of a unit is issued (R220): ERASES grows, whatever its status will be, in the unit table that the map cache caches. -/
def State.countErase (die unit : Nat) (s : State) : State :=
  (s.modUnit die unit fun r => { r with erases := min (r.erases + 1) 0xFFFFF }).mapUse (unitPage die unit)

/-- Firmware programs or erases a SYSTEM unit of die 0 of channels 8 to 23: the copies of that half of the system area fail their hash
(R224) until they are written again. -/
def State.sysTouch (e : Nat) (d : Desc) (s : State) : State :=
  if d.owner = 0 ∧ 8 ≤ e ∧ e < 24 ∧ d.die = 0 ∧ (s.unitRec (e * 16) d.unit).state = .system then
    s.modNv fun v => { v with sysBad := addTo ((e - 8) / 8) v.sysBad }
  else s

/-- The lookup of a map page reads page `x` at its flash address: of the read class, system account 512 (R231). -/
def State.mapReadAt (ticket page x : Nat) (s : State) : State :=
  match Tab.get 0 s.med.mapAddr x with
  | 0 => s.modMed fun m => { m with mapReads := dropFrom (ticket, page) m.mapReads }
  | a + 1 =>
    let d := s.readDesc 4 512 (a / 4 / 16384 / 131072) (a / 4 / 16384 % 131072) (a / 4 % 16384) 0 (.mapRead ticket page x)
    (s.modMed fun m => { m with mapReads := addTo (ticket, page) m.mapReads }).submitHw (a / 4 / 16384 / 131072 / 16) clsHost { d with cwmask := 2 ^ (a % 4) }

/-- A lookup of a map page that misses the cache counts, and reads the directory page where that is not cached either, then the map
page; a page that no flush has written holds no entry, and nothing is read. -/
def State.mapFetch (ticket page : Nat) (s : State) : State :=
  if s.med.cached page then s.mapUse page
  else
    let s := s.count MED_MAPMISS.COUNT 1
    if Tab.get 0 s.med.mapAddr page = 0 then s.mapUse page
    else if s.med.cached (dirPage page) || Tab.get 0 s.med.mapAddr (dirPage page) == 0 then (s.mapUse (dirPage page)).mapReadAt ticket page page
    else s.mapReadAt ticket page (dirPage page)

/-- The lookups of units `[u, u + n)` of namespace index `k` by the command of a ticket. -/
def State.mapLookup (ticket k u n : Nat) (s : State) : State :=
  if n = 0 then s
  else each ((List.range ((u + n - 1) / 512 - u / 512 + 1)).map (mapPage k u + ·)) (fun page s => s.mapFetch ticket page) s

/-- Dirty pages at most (R230). -/
def mapDirtyMax : Nat := 1536
/-- Dirty pages. -/
def State.mapDirty (s : State) : Nat := s.med.mapCache.countP (·.dirty)

/-- A page is changed: it is dirty. DESIGN CHOICE (log entry 48): while 1,536 others are, or no slot is left, the journal alone holds
its change until a flush. -/
def State.mapTouch (page : Nat) (s : State) : State :=
  let s := s.mapUse page
  let full := decide (mapDirtyMax ≤ s.mapDirty)
  s.modMed fun m =>
    if m.mapCache.any fun x => x.page == page && (x.dirty || !full) then
      { m with mapCache := m.mapCache.map fun x => if x.page = page then { x with dirty := true } else x }
    else { m with mapLate := addTo page m.mapLate }

/-- The SLC page of a MAP unit that the next program of a flush takes, or the MAP unit to erase first: the one being filled, else one
that is erased, else one that holds no page in use. DESIGN CHOICE (log entry 49): the order in which MAP units are taken. -/
def State.mapPlace (s : State) : Option (Nat × Nat) × Option Nat :=
  let units := (s.med.units.filter fun u => u.2.state == .map).map (·.1)
  let room := fun (k : Nat) => decide (Tab.get 0 s.med.mapUsed k < s.slcPages (k / 131072))
  let inUse := fun (k : Nat) => s.med.mapAddr.any fun e => decide (0 < e.2) && (e.2 - 1) / 4 / 16384 == k
  let now := units.filter fun k => k + 1 == s.med.mapUnit && room k
  match now ++ units.filter fun k => Tab.get 0 s.med.mapUsed k == 0 with
  | k :: _ => (some (k, Tab.get 0 s.med.mapUsed k), none)
  | [] => (none, units.find? fun k => !inUse k)

/-- A map flush goes on (R232): up to four pages are programmed on one SLC page of a MAP unit. -/
def State.flushGo (s : State) : State :=
  if s.med.flushMark.isNone || !s.med.flushOn.isEmpty then s
  else match s.med.flushLeft.take 4 with
  | [] => s
  | l =>
    match s.mapPlace with
    | (some (k, pg), _) =>
      let s := s.modMed fun m => { m with
        flushOn := l, flushLeft := m.flushLeft.drop 4, mapUnit := k + 1, mapUsed := Tab.upd 0 m.mapUsed k (· + 1) }
      s.submitHw (k / 131072 / 16) clsBack (s.opDesc 2 4 512 (k / 131072) (k % 131072) pg 0 .mapProg)
    | (none, some k) =>
      if s.drf.eraseWait.any fun x => x.2.2.work == .mapErase (k / 131072) (k % 131072) then s
      else s.submitErase (k / 131072 / 16) clsBack (s.opDesc 4 4 512 (k / 131072) (k % 131072) 0 0 (.mapErase (k / 131072) (k % 131072)))
    | (none, none) => s

/-- Start a map flush (R232): the dirty pages, then the directory pages that name them. -/
def State.startMapFlush (s : State) : State :=
  if s.med.flushMark.isSome then s
  else
    let l := (s.med.mapCache.filter fun x => x.dirty && decide (x.page < 2 ^ 56)).map (·.page)
    (s.modMed fun m => { m with flushMark := some m.mapJrnl.length, flushLeft := l ++ (l.map dirPage).eraseDups }).flushGo

/-- Records the map journal holds at most. -/
def mapJournalMax : Nat := 65536
/-- Is the map journal full? -/
def State.mapJournalFull (s : State) : Bool := decide (mapJournalMax ≤ s.med.mapJrnl.length)

/-- A change of a map entry is recorded in the map journal (R232); a record without room waits for the flush (log entry 48). -/
def State.journalMap (k : Nat) (v : Option (Nat × Nat)) (s : State) : State :=
  if s.mapJournalFull then s.modMed fun m => { m with mapJrnlLate := m.mapJrnlLate ++ [(k, v)] }
  else s.modMed fun m => { m with mapJrnl := m.mapJrnl ++ [(k, v)] }

/-- The reverse map with the block of an entry at `x`. -/
def linkBlk (r : Tab Nat) (e : Option (Nat × Nat)) (x : Nat) : Tab Nat :=
  match e with
  | some e => Tab.set 0 r (e.1 * 2 ^ 26 + e.2) x
  | none => r

/-- Is a flush due: the journal's fill, the dirty pages, or no clean slot left? -/
def State.flushDue (s : State) : Bool :=
  decide (s.dnum 0x3209 0 * mapJournalMax ≤ s.med.mapJrnl.length * 100) || decide (mapDirtyMax ≤ s.mapDirty) || !s.med.mapLate.isEmpty

/-- A due flush starts. -/
def State.flushIfDue (s : State) : State := if s.flushDue then s.startMapFlush else s

/-- Change a map entry (R226, R229, R232): recorded in the map journal, its page dirty; fills start a flush. -/
def State.setMap (nsidx unit : Nat) (v : Option (Nat × Nat)) (s : State) : State :=
  let k := nsidx * 2 ^ 40 + unit
  let old := Tab.get none s.med.map k
  let s := ((s.modMed fun m => { m with map := Tab.set none m.map k v, ruBlk := linkBlk (linkBlk m.ruBlk old 0) v (k + 1) }).journalMap k v).mapTouch
    (mapPage nsidx unit)
  s.flushIfDue

/-- Valid 4 KiB blocks of a reclaim unit. -/
def State.ruValid (s : State) (index : Nat) : Nat := s.med.ruBlk.countP fun e => e.1 / 2 ^ 26 == index

/-! Reclaim units (R210, R211). -/

/-- Blocks (4 KiB) of one row of a stripe set. -/
def State.rowUnits (s : State) (t : Nat) : Nat := s.fld (ZPM_PGRP.ROW (s.fld (ZPM_SSET.PGRP t))) * 256

/-- The lowest free descriptor within those held. -/
def State.freeDescriptor (s : State) : Option Nat :=
  (List.range ((s.zpm.zones.map (·.1)).foldl max 0 + 2)).find? fun i => (s.zone i).kind == 0 && s.descriptorHeld i

/-- The stripe set of reclaim group `r`. -/
def State.rgSet (s : State) (r : Nat) : Nat := s.dnum (0x3110 + r) 0

/-- Reclaim-unit descriptors in use. -/
def State.rusUsed (s : State) : Nat := s.zpm.zones.countP fun z => z.2.kind == 2

/-- A descriptor for a new reclaim unit: none while the reserve is used up (R211). -/
def State.ruDescriptor (s : State) : Option Nat := if s.zpm.ruRes ≤ s.rusUsed then none else s.freeDescriptor

/-- Take a descriptor and a row for a new reclaim unit of group `rg` in state `st`, stamped `bt` (R190, R210): none when the piece
has to wait. One that no handle names is not attached: 0xE (R253). -/
def State.newRu (s : State) (rg ruh nsidx : Nat) (st : ZState) (bt : Nat) : Option (Nat × State) :=
  match s.ruDescriptor with
  | none => none
  | some i =>
    let t := s.modZone i fun _ => { state := st, kind := 2, nsidx := nsidx, ruh := ruh, rg := rg, bt := bt }
    (t.assignRows i 1 [s.rgSet rg]).map fun u => (i, if st = .full then u else u.openFold i)

/-- Key of a (reclaim group, handle) pair. -/
def ruKey (rg ruh : Nat) : Nat := rg * 256 + ruh

/-- The attached reclaim unit of a pair. -/
def State.attached (s : State) (rg ruh : Nat) : Option Nat := Tab.get none s.zpm.attachRu (ruKey rg ruh)

/-- A statistic of the FDP Statistics log grows (R211): 0 host bytes, 1 media bytes written, 2 media bytes erased. -/
def State.fdpCount (k n : Nat) (s : State) : State := s.modZpm fun z => { z with fdpStats := Tab.upd 0 z.fdpStats k (· + n) }

/-- Is FDP event `type` enabled for the placement handle that names reclaim unit handle `ruh` in some namespace (R210)? -/
def State.fdpEnabled (s : State) (type ruh : Nat) : Bool :=
  s.zpm.fdpEn.any fun e => e.2.contains type && (s.ns (e.1 / 2 ^ 16)).handles[e.1 % 2 ^ 16]? == some ruh

/-- Detach reclaim unit `i` (STATE 0xE), stamped `bt`: padded, journalled, logged when it is not fully written and the event is
enabled. -/
def State.detachRu (i bt : Nat) (s : State) : State :=
  let z := s.zone i
  let s := (s.enterZoneAt i .full bt).modZpm fun x => { x with attachRu := Tab.clear x.attachRu fun k => Tab.get none x.attachRu k == some i }
  let s := if z.wpCommit < s.rowUnits z.sset && s.fdpEnabled 0 z.ruh then s.modZpm fun x => { x with fdpEvents := x.fdpEvents ++ [1] } else s
  (s.progTail i).journalZone i

/-! Retirement (R259): spares, counts and warnings. -/

/-- SPARE units of a die. -/
def State.spares (s : State) (die : Nat) : List Nat :=
  (s.med.units.filter fun u => u.1 / 131072 == die && u.2.state == .spare).map fun u => u.1 % 131072

/-- Spare left, percent (0x7001:00): the least over the dies that had spares at the layout. -/
def State.spareLeft (s : State) : Nat :=
  s.med.spare0.foldl (fun m e => min m ((s.spares e.1).length * 100 / max 1 e.2)) 100

/-- A health count grows. -/
def State.healthCount (sub : Nat) (s : State) : State :=
  s.modMed fun m => { m with health := Tab.upd 0 m.health (0x7004 * 256 + sub) fun v => min (v + 1) 0xFFFFFFFF }

/-- What the system area or a dump image keeps of the health entries (R261). -/
def State.saveHealth (s : State) (k : Keep) : Keep :=
  { k with health := s.med.health, tMax := s.med.tMax, tMaxBt := s.med.tMaxBt, tMin := s.med.tMin, tMinBt := s.med.tMinBt }
/-- The health entries from there. -/
def State.loadHealth (k : Keep) (s : State) : State :=
  s.modMed fun m => { m with health := k.health, tMax := k.tMax, tMaxBt := k.tMaxBt, tMin := k.tMin, tMinBt := k.tMinBt }

/-- Health entry 0x7004:05 counts a media or data-integrity error (R366). -/
def State.integrityError (s : State) : State :=
  s.modMed fun m => { m with health := Tab.upd 0 m.health (0x7004 * 256 + 5) (· + 1) }

/-- Set bit `b` of the Critical Warning; the health event follows for every enabled function. -/
def State.criticalWarning (b : Nat) (s : State) : State :=
  if bit s.med.critWarn b then s
  else
    let s := s.modMed fun m => { m with critWarn := setBit m.critWarn b true }
    each ((s.hfe.fns.filter fun f => f.2.en).map (·.1)) (fun f s => s.raiseAen f 1 0 2) s

/-- A unit becomes RETIRED: counted, event 240; event 250 and Critical Warning bit 0 when spare left falls below its
threshold. -/
def State.retireUnit (die unit : Nat) (s : State) : State :=
  let before := s.spareLeft
  let s := (s.modUnit die unit fun r => { r with state := .retired }).count MED_ERRCNT.RETIRED 1
  let s := (s.healthCount 4).assertEvent 240
  let thr := s.dnum 0x7002 0
  if before ≥ thr ∧ s.spareLeft < thr then (s.assertEvent 250).criticalWarning 0 else s

/-- The spare of a die with the lowest ERASES. -/
def State.bestSpare (s : State) (die : Nat) : Option Nat := leastBy (fun u => (s.unitRec die u).erases) (s.spares die)

end Sys2Proof.Machine
end

