-- ==== Sys2Proof/Machine/KilnOps.lean ====
section
/-! DEFINITION. Machine/KilnOps.lean: page reads and their reconstruction, lost stripes, copies of word lines inside the device,
garbage collection, migration, retirement and the Kiln, as operations (07_media_management.md R240 to R260, 12_redundancy.md R381,
R382, R395, R398). -/

namespace Sys2Proof.Machine

/-- Key of a block. -/
def blkKey (nsid lba : Nat) : Nat := nsid * 2 ^ 40 + lba

/-- Logical blocks per 4 KiB unit, as an exponent. -/
def State.unitShift (s : State) (nsid : Nat) : Nat := 12 - s.bshift nsid

/-! Copies and migrations that are given up (R228, R257, R399). -/

/-- A copy is over, or given up: what it has in progress is discarded (R228). -/
def State.dropCopies (p : UCopy → Bool) (s : State) : State := s.modMed fun m => { m with copies := m.copies.filter fun c => !p c }

/-- Give up the migration or reshape copy of descriptor `i`: its destination is erased. -/
def State.quitMigr (i : Nat) (s : State) : State :=
  match s.med.migr.find? fun m => m.index == i with
  | none => s
  | some m =>
    let n := (if m.reshape then (s.ns (s.zone i).nsidx).rspan else (s.zone i).rspan) + 1
    let s := s.modMed fun x => { x with migr := x.migr.filter fun y => y.index != i }
    let s := (s.modMsh fun x => { x with copies := dropFrom i x.copies }).dropCopies fun c => c.index == i && (c.use == .move || c.use == .reshape)
    each (List.range n) (fun k s => s.eraseRow m.sset (m.row + k) 512 .other) s

/-- Abandon the migration or reshape copy of descriptor `i` (R257, R399); event 239. -/
def State.dropMigr (i : Nat) (s : State) : State :=
  match s.med.migr.find? fun m => m.index == i with
  | none => s
  | some m => (s.quitMigr i).assertIf (!m.reshape) 239

/-- READ_ONLY of a zone, as a ZPM_DCMD change: a migration of it is abandoned (R202, R257); a reshape's copy is not (R399). -/
def State.readOnlyZone (i : Nat) (s : State) : State :=
  (if s.med.migr.any (fun m => m.index == i && !m.reshape) then s.dropMigr i else s).makeReadOnly i

/-! Positions and lost stripes (R381, R394, R395). -/

/-- Is position `p` of a stripe set readable in a row (R381): a die holds it, not FAILED, and the rebuild has taken the row? -/
def State.readable (s : State) (t p row : Nat) : Bool := (s.posDie t p).isSome && !s.notTaken t p row

/-- Can chunk `c` of position `p` be read where it lies (R381)? One that no media hold is in tubs, or holds nothing. -/
def State.chunkReadable (s : State) (i p c : Nat) : Bool :=
  let t := (s.zone i).sset
  let here := fun (d : Nat) => s.posDie t p == some d && s.readable t p (s.chunkRow i c)
  match s.chunkLoc i p c with
  | .slc d _ _ _ => here d
  | .qlc d _ _ _ => here d
  | .none => true

/-- The stripe of a row that stripe `st` of a descriptor is (R374). -/
def State.rowStripe (s : State) (i st : Nat) : Nat := st % (4 * max 1 (s.unitChunks (s.zone i).sset))

/-- Is the codeword of data position `m` of a stripe of a row listed as lost? -/
def State.lostBlock (s : State) (t row stripe m : Nat) : Bool :=
  (s.msh.lost ++ s.msh.lostMore).any fun l => l.sset == t && l.row == row && l.stripe == stripe && bit l.map m

/-- Is codeword `st` of position `p` of a descriptor on the suspect list (R402)? -/
def State.suspect (s : State) (i p st : Nat) : Bool :=
  s.msh.suspects.contains ((s.zone i).sset * 16384 + s.chunkRow i (st / 4), s.rowStripe i st * 128 + p)

/-- LOSTMAP of stripe `st` of a descriptor: the data positions of its committed blocks among `bad` and those that cannot be read. -/
def State.lostMap (s : State) (i st : Nat) (bad : List Nat) : Nat :=
  let t := (s.zone i).sset
  let w := s.setW t
  (List.range w).foldl (fun m p =>
    if decide (st * w + p < s.unitsHeld i) && (bad.contains p || !s.chunkReadable i p (st / 4)) then m ||| 2 ^ p else m) 0

/-- Stripe `st` of descriptor `i`, in row `row`, becomes lost (R395): entry, counts, event 164, READ_ONLY or detach; with
the table full no entry, Critical Warning bit 3, event 165. -/
def State.loseStripe (i row st map cause : Nat) (s : State) : State :=
  let z := s.zone i
  let w := s.setW z.sset
  let stripe := s.rowStripe i st
  if (s.msh.lost ++ s.msh.lostMore).any fun l => l.sset == z.sset && l.row == row && l.stripe == stripe then s
  else
    let bt := s.bellTime
    let ep := s.fld MSH_STAT.EPOCH
    let start := s.zoneStart i + st * w * 2 ^ s.unitShift (z.nsidx + 1)
    let e : Lost := { sset := z.sset, row := row, stripe := stripe, nsid := if z.kind = 2 then 0 else z.nsidx + 1,
                      nlb := w, slba := if z.kind = 2 then 0 else start, map := map, bt := bt, mepoch := ep, cause := cause }
    let s := if s.msh.lost.length < 65536 then s.modMsh fun m => { m with lost := m.lost ++ [e], lostGen := m.lostGen + 1 }
      else (((s.modMsh fun m => { m with lostMore := m.lostMore ++ [e] }).put MSH_STAT.TBLFULL true).criticalWarning 3).assertEvent 165
    let s := ((s.modMsh fun m => { m with lostEver := m.lostEver + 1 }).count MSH_LOST.NEW 1).assertEvent 164
    if z.kind = 2 then (if z.state = .full then s else s.detachRu i s.bellTime) else s.readOnlyZone i

/-! Page reads of media management (R231, R243, R381). -/

/-- Read chunk `c` of position `p` where it lies, the codewords of `cw`. -/
def State.submitPage (i p c cw owner account cls : Nat) (w : Work) (s : State) : State :=
  match s.chunkLoc i p c with
  | .slc d u pg _ => s.submitHw (d / 16) cls { s.readDesc owner account d u pg 0 w with cwmask := cw }
  | .qlc d u pg _ => s.submitHw (d / 16) cls { s.readDesc owner account d u pg 3 w with cwmask := cw }
  | .none => s

/-- The stripes of chunk `c` are lost, with the positions `bad` (R243, R382). -/
def State.losePage (i c cause : Nat) (bad : List Nat) (s : State) : State :=
  each (List.range 4) (fun k s =>
    match s.lostMap i (4 * c + k) bad with
    | 0 => s
    | m => s.loseStripe i (s.chunkRow i c) (4 * c + k) m cause) s

/-- Reconstruct chunk `c` of position `p` for the operation `w` (R243): W other readable positions are read, data first, then P, then Q,
those with a suspect codeword (R402) last
(none: the reads run); one that holds no page on the media, its data in tubs or none, needs no read (some true: nothing is to be read).
With too few positions its stripes are lost (some false). -/
def State.pageAsk (i p c owner account cls : Nat) (w : Work) (s : State) : State × Option Bool :=
  let t := (s.zone i).sset
  let n := max 1 (s.setW t)
  let whole := fun (q : Nat) => (List.range 4).all fun k => !s.suspect i q (4 * c + k)
  let can := (List.range (n + s.setP t)).filter fun q => q != p && s.chunkReadable i q c
  let all := can.filter whole ++ can.filter fun q => !whole q
  let l := all.filter fun q => s.chunkLoc i q c != .none
  let need := n - (all.length - l.length)
  if all.length < n then (s.losePage i c 4 [p], some false)
  else if need = 0 then (s, some true)
  else
    let s := s.nextSerial
    let id := s.med.serial
    let r : PageRec := { id := id, after := w, cls := cls, owner := owner, account := account, index := i, chunk := c, left := l.drop need, need := need, bad := [p] }
    (each (l.take need) (fun q s => s.submitPage i q c 15 owner account cls (.pageRecon id q)) (s.modMsh fun m => { m with pageRecs := m.pageRecs ++ [r] }), none)

/-- A reconstruction's read of position `q` has ended: the page is there (some true), lost (some false), or more reads must end. A
failed read is repeated once, then counts as an erasure and is replaced (R382). -/
def State.pageRead (id q : Nat) (ok fenced : Bool) (s : State) : State × Option Bool :=
  match s.msh.pageRecs.find? fun r => r.id == id with
  | none => (s, none)
  | some r =>
    let put := fun (g : PageRec → PageRec) (s : State) => s.modMsh fun m => { m with pageRecs := updFirst (fun x => x.id == id) g m.pageRecs }
    let drop := s.modMsh fun m => { m with pageRecs := m.pageRecs.filter fun x => x.id != id }
    let ask := fun (p : Nat) (s : State) => s.submitPage r.index p r.chunk 15 r.owner r.account r.cls (.pageRecon id p)
    if ok then (if r.need ≤ 1 then (drop.tally 2206 1, some true) else (put (fun x => { x with need := x.need - 1 }) s, none))
    else if !fenced && !r.retried.contains q then (ask q (put (fun x => { x with retried := q :: x.retried }) s), none)
    else match r.left with
      | p :: l => (ask p (put (fun x => { x with left := l, bad := q :: x.bad }) s), none)
      | [] => (drop.losePage r.index r.chunk 4 (q :: r.bad), some false)

/-! Copies of word lines inside the device (R226 to R228, R253, R256, R259, R398). -/

/-- The copy with mark `id`. -/
def State.copy (s : State) (id : Nat) : Option UCopy := s.med.copies.find? fun c => c.id == id
/-- Change a copy. -/
def State.modCopy (id : Nat) (g : UCopy → UCopy) (s : State) : State :=
  s.modMed fun m => { m with copies := updFirst (fun c => c.id == id) g m.copies }
/-- Word lines of one unit of a stripe set. -/
def State.unitWls (s : State) (t : Nat) : Nat := max 1 (s.unitChunks t / 4)

/-- The die, unit row and unit that take word line `n` of position `p` of a copy. -/
def State.copyPlace (s : State) (c : UCopy) (p n : Nat) : Nat × Nat × Nat :=
  let die := (s.position c.sset p).die
  let row := c.row + n / s.unitWls c.sset
  (die, row, s.rowUnit die row)

/-- Does position `p` of a descriptor hold a page of word line `n` in QLC, away from unit `u` of die `d`? -/
def State.wlInQlc (s : State) (i p n : Nat) (away : Nat → Nat → Bool) : Bool :=
  (List.range 4).any fun k => match s.chunkLoc i p (4 * n + k) with
    | .qlc d u _ _ => away d u
    | _ => false

/-- The highest word line of a descriptor that may hold data, plus 1. -/
def State.wlEnd (s : State) (i : Nat) : Nat := ceilDiv (s.unitsHeld i) (16 * max 1 (s.setW (s.zone i).sset))

/-- The word lines a copy has to copy: of a migration those with a page in QLC, of a replacement those still on the retired unit, of a
reshape all that hold data under the new layout. -/
def State.copyPlan (s : State) (c : UCopy) : List Nat :=
  match c.use with
  | .gc _ => []
  | .move => (List.range (s.wlEnd c.index)).filter fun n => (List.range (s.setPositions c.sset)).any fun p => s.wlInQlc c.index p n fun _ _ => true
  | .reshape => List.range (ceilDiv (s.unitsHeld c.index) (16 * max 1 (s.setW c.sset)))
  | .replace pos span => (List.range (s.wlEnd c.index)).filter fun n =>
      n / s.unitWls c.sset == span && s.wlInQlc c.index pos n fun d u => !(d == (s.position c.sset pos).die && u == (s.copyPlace c pos n).2.2)

/-- The positions of a word line that a copy programs. -/
def State.copyPos (s : State) (c : UCopy) (n : Nat) (ps : List Nat) : List Nat :=
  let l := match ps, c.use with
    | [], .move => (List.range (s.setPositions c.sset)).filter fun p => s.wlInQlc c.index p n fun _ _ => true
    | [], .replace pos _ => [pos]
    | [], _ => List.range (s.setPositions c.sset)
    | l, _ => l
  l.filter fun p => (s.posDie c.sset p).isSome && !s.notTaken c.sset p (s.copyPlace c p n).2.1

/-- The valid blocks that the running step of a collection copies. -/
def State.gcBatch (s : State) (rg : Nat) : List (Nat × Nat) := ((s.med.gc.find? fun g => g.rg == rg).map (·.batch)).getD []

/-- What is read for a word line, by key: pages as position * 65536 + chunk, single blocks as 2^40 + block; blocks in tubs are not. -/
def State.copyReads (s : State) (c : UCopy) (n : Nat) (ps : List Nat) : List Nat :=
  match c.use with
  | .gc rg => ((s.gcBatch rg).filter fun e => s.locOf c.index e.2 != .none).map fun e => 2 ^ 40 + e.2
  | .reshape =>
    let w := 16 * max 1 (s.setW c.sset)
    ((List.range w).filter fun k => decide (n * w + k < s.unitsHeld c.index) && s.locOf c.index (n * w + k) != .none).map fun k => 2 ^ 40 + (n * w + k)
  | _ => ps.flatMap fun p => ((List.range 4).filter fun k => (s.chunkLoc c.index p (4 * n + k)).isQlc).map fun k => p * 65536 + (4 * n + k)

/-- The position, chunk and codewords of a read key. -/
def State.copyKey (s : State) (c : UCopy) (key : Nat) : Nat × Nat × Nat :=
  if key < 2 ^ 40 then (key / 65536, key % 65536, 15)
  else
    let w := max 1 (s.setW (s.zone c.index).sset)
    let b := key - 2 ^ 40
    (b % w, b / w / 4, 2 ^ (b / w % 4))

/-- The class of garbage-collection descriptors of a stripe set (R254). -/
def State.gcClass (s : State) (t : Nat) : Nat := if s.freeRows t < 2 then clsHost else clsBack

/-- The class of a copy's descriptors. -/
def State.copyClass (s : State) (c : UCopy) : Nat :=
  match c.use with
  | .gc _ => s.gcClass c.sset
  | _ => clsBack

/-- PROG arguments of the Kiln recipe of a channel group, in their order. -/
def State.progPasses (s : State) (g : Nat) : List Nat :=
  let r := s.dnum (0x3210 + g) 3 % 16 * 16
  let l := ((List.range 16).map fun k => Tab.get 0 s.med.recipes (r + k)).takeWhile fun w => w / 2 ^ 28 != 0
  match (l.filter fun w => w / 2 ^ 28 == 2).map fun w => w / 2 ^ 24 % 16 with
  | [] => [1]
  | l => l

/-- Program word line `n` of position `p` of a copy, pass number `k`. -/
def State.copyProg (c : UCopy) (n p k : Nat) (s : State) : State :=
  let x := s.copyPlace c p n
  s.submitHw (x.1 / 16) (s.copyClass c)
    (s.opDesc 3 4 c.account x.1 x.2.2 (4 * (n % s.unitWls c.sset)) ((s.progPasses (x.1 / 128)).getD k 1) (.copyProg c.id p k))

/-- Read it back. -/
def State.copyBack (c : UCopy) (n p : Nat) (s : State) : State :=
  let x := s.copyPlace c p n
  s.submitHw (x.1 / 16) (s.copyClass c)
    { s.readDesc 4 c.account x.1 x.2.2 (4 * (n % s.unitWls c.sset)) 3 (.copyBack c.id p) with npages := 3 }

/-- The word line in progress has been read: its positions are programmed. -/
def State.copyProgram (id : Nat) (s : State) : State :=
  match s.copy id with
  | none => s
  | some c =>
    match c.left with
    | [] => s
    | (n, ps) :: _ =>
      let pos := s.copyPos c n ps
      each pos (fun p s => s.copyProg c n p 0) (s.modCopy id fun c => { c with todo := pos })

/-- One read of the word line in progress is over; the programs follow the last one. -/
def State.copyRead1 (id : Nat) (s : State) : State :=
  match s.copy id with
  | none => s
  | some c => if c.reads ≤ 1 then (s.modCopy id fun c => { c with reads := 0 }).copyProgram id else s.modCopy id fun c => { c with reads := c.reads - 1 }

/-- Read what `key` names for a copy: at its location of record, or by reconstruction where the position cannot be read or a codeword
is suspect; a page that cannot be reconstructed is lost, and the copy goes on. -/
def State.copyFetch (c : UCopy) (key : Nat) (s : State) : State :=
  let x := s.copyKey c key
  let bad := !s.chunkReadable c.index x.1 x.2.1 || (bitsOf x.2.2 4).any fun k => s.suspect c.index x.1 (4 * x.2.1 + k)
  if !bad then s.submitPage c.index x.1 x.2.1 x.2.2 4 c.account (s.copyClass c) (.copyRead c.id key)
  else match s.pageAsk c.index x.1 x.2.1 4 c.account (s.copyClass c) (.copyRead c.id key) with
    | (s, none) => s
    | (s, some _) => s.copyRead1 c.id

/-- The next word line of a copy starts, past those that have no position to program; one whose destination unit's spare is not ready
waits. -/
def State.copyNext (id : Nat) : Nat → State → State
  | 0, s => s
  | fuel + 1, s =>
    match s.copy id with
    | none => s
    | some c =>
      match c.left with
      | [] => s
      | (n, ps) :: l =>
        let pos := s.copyPos c n ps
        if c.reads ≠ 0 || !c.todo.isEmpty || pos.any (fun p => c.await.contains (p, (s.copyPlace c p n).2.1)) then s
        else if pos.isEmpty then State.copyNext id fuel (s.modCopy id fun c => { c with left := l, past := n :: c.past })
        else
          let keys := s.copyReads c n pos
          let s := s.modCopy id fun c => { c with reads := keys.length }
          if keys.isEmpty then s.copyProgram id else each keys (State.copyFetch c) s

/-- A position of the word line in progress is done with; the word line is over with its last one. -/
def State.copyDrop (id p : Nat) (s : State) : State :=
  s.modCopy id fun c =>
    let l := dropFrom p c.todo
    match c.left with
    | (n, _) :: r => if c.todo.contains p && l.isEmpty then { c with todo := [], left := r, past := n :: c.past } else { c with todo := l }
    | [] => { c with todo := l }

/-- The chunks of position `p`, word line `n`, of descriptor `i` are in QLC from now on, at unit `u` of die `d`, their SLC pages free. -/
def State.wlToQlc (i p n d u page : Nat) (all : Bool) (s : State) : State :=
  each (List.range 4) (fun k s =>
    let c := 4 * n + k
    match s.chunkLoc i p c with
    | .slc x y _ _ => (s.modSlcLive x y (· - 1)).setChunk i p c (.qlc d u (page + k) 0)
    | .qlc _ _ _ _ => s.setChunk i p c (.qlc d u (page + k) 0)
    | .none => if all then s.setChunk i p c (.qlc d u (page + k) 0) else s) s

/-! Garbage collection (R252 to R254). -/

/-- Change a collection. -/
def State.modGc (rg : Nat) (g : GcRun → GcRun) (s : State) : State :=
  s.modMed fun m => { m with gc := m.gc.map fun x => if x.rg = rg then g x else x }

/-- The victim of a reclaim group: the detached unit with the fewest valid blocks, which no collection fills. -/
def State.gcVictim (s : State) (rg : Nat) : Option Nat :=
  leastBy (fun i => s.ruValid i) ((s.zpm.zones.filter fun z => z.2.kind == 2 && z.2.rg == rg && z.2.state == .full && z.2.hasrow &&
    !(s.med.gc.any fun g => g.dst == some z.1)).map (·.1))

/-- Put a reclaim-unit descriptor back to free. -/
def State.freeRu (i : Nat) (s : State) : State :=
  (((s.dropMedia i).dropCopies fun c => c.index == i).modZpm fun z => { z with zones := Tab.set {} z.zones i {} }).journalZone i

/-- A step of a collection is read back: each block that is still the victim's moves in the map (R226, R228), and the word line is the
destination's. -/
def State.gcMap (rg : Nat) (c : UCopy) (s : State) : State :=
  match s.med.gc.find? fun g => g.rg == rg with
  | none => s
  | some g =>
    match g.victim, g.dst with
    | some v, some d =>
      let w := max 1 (s.setW c.sset)
      let n := (s.zone d).wpCommit / (16 * w)
      let s := each (List.range (s.setPositions c.sset)) (fun p s =>
        let x := s.copyPlace c p n
        s.wlToQlc d p n x.1 x.2.2 (4 * (n % s.unitWls c.sset)) true) s
      let s := each g.batch.zipIdx (fun e s =>
        if Tab.get none s.med.map e.1.1 = some (v, e.1.2) then s.setMap (e.1.1 / 2 ^ 40) (e.1.1 % 2 ^ 40) (some (d, 16 * w * n + e.2)) else s) s
      let s := s.modZone d fun z => { z with wpCommit := 16 * w * (n + 1), wpAdmit := 16 * w * (n + 1) }
      (s.modGc rg fun g => { g with batch := [] }).fdpCount 1 (65536 * s.setPositions c.sset)
    | _, _ => s

/-! Migration (R255 to R258, R398). -/

/-- The switch of a migration or reshape (R256, R398): the descriptor moves to its new rows in one step, its word lines in QLC with it,
their lost stripes listed there; what the Kiln has begun folds again; event 238. -/
def State.switchMigr (m : Migr) (rspan : Nat) (s : State) : State :=
  let z := s.zone m.index
  let wear := s.runWear m.sset m.row (rspan + 1)
  let old := z.rowList
  let s := s.modZone m.index fun z => { z with sset := m.sset, rownum := m.row, rspan := rspan, wear := wear }
  let s := s.modMed fun x => { x with
    migr := x.migr.filter (fun y => y.index != m.index),
    chunks := x.chunks.map fun e =>
      if e.1 / 65536 / 128 = m.index ∧ e.2.isQlc then
        let die := (s.position m.sset (e.1 / 65536 % 128)).die
        let c := e.1 % 65536
        (e.1, .qlc die (s.rowUnit die (s.chunkRow m.index c)) (c % max 1 (s.unitChunks m.sset)) 0)
      else e }
  let moved := fun (l : Lost) => if l.sset == z.sset && old.contains l.row then { l with sset := m.sset, row := m.row + (l.row - z.rownum) } else l
  let s := if m.reshape then s else s.modMsh fun x => { x with lost := x.lost.map moved, lostMore := x.lostMore.map moved }
  let s := if (s.fold m.index).live then
      s.modFold m.index fun f => { f with groups := f.begun.foldl (fun l g => addTo g l) f.groups, begun := [], progd := [], run := [] }
    else s
  let s := (s.journalZone m.index).dropCopies fun c => c.index == m.index
  let s := each old (fun r s => s.eraseRow z.sset r 512 .other) s
  s.assertIf (!m.reshape) 238

/-- The switch of a replacement (R259): the copied word lines are read from the spare. -/
def State.switchUnit (c : UCopy) (pos span : Nat) (s : State) : State :=
  let die := (s.position c.sset pos).die
  let row := c.row + span
  let u := s.rowUnit die row
  s.modMed fun x => { x with
    chunks := x.chunks.map fun e => match e.2 with
      | .qlc d _ pg w => if e.1 / 65536 = c.index * 128 + pos ∧ d = die ∧ s.chunkRow c.index (e.1 % 65536) = row then (e.1, .qlc d u pg w) else e
      | _ => e,
    copies := x.copies.map fun y => if y.sset = c.sset then { y with await := dropFrom (pos, row) y.await } else y }

/-- A copy whose word lines are all over ends with the update its use gives. -/
def State.copyEnd (id : Nat) (s : State) : State :=
  match s.copy id with
  | none => s
  | some c =>
    if !c.planned || !c.left.isEmpty || !c.todo.isEmpty || !c.await.isEmpty then s
    else
      let s := s.dropCopies fun x => x.id == id
      match c.use with
      | .gc rg => s.gcMap rg c
      | .replace pos span => s.switchUnit c pos span
      | .reshape => s.modMed fun m => { m with migr := updFirst (fun m => m.index == c.index) (fun m => { m with ready := true }) m.migr }
      | .move =>
        match s.med.migr.find? fun m => m.index == c.index with
        | some m => s.switchMigr m (s.zone c.index).rspan
        | none => s

/-- Is the Kiln idle where a copy moves what it has folded: on the position of a replacement, else on all of the descriptor? -/
def State.kilnIdle (s : State) (c : UCopy) : Bool :=
  match c.use with
  | .replace pos _ => Tab.get 0 (s.fold c.index).run pos == 0
  | _ => (s.fold c.index).run.all fun e => e.2 == 0

/-- A copy goes on where it can: its word lines are listed once the Kiln's running operations on its source have ended. -/
def State.copyGo (id : Nat) (s : State) : State :=
  match s.copy id with
  | none => s
  | some c =>
    let s := if c.planned || !s.kilnIdle c || !c.await.isEmpty then s
      else
        let l := s.copyPlan c
        s.modCopy id fun c => { c with planned := true, left := l.map fun n => (n, []) }
    (s.copyNext id (((s.copy id).map fun c => c.left.length + 1).getD 0)).copyEnd id

/-- A copy starts. -/
def State.startCopy (c : UCopy) (s : State) : State :=
  let s := s.nextSerial
  let id := s.med.serial
  (s.modMed fun m => { m with copies := m.copies ++ [{ c with id := id }] }).copyGo id

/-- Every copy goes on where it can. -/
def State.copyAll (s : State) : State := each (s.med.copies.map (·.id)) State.copyGo s

/-- Take the next step of a collection (R253): a victim without a valid block is erased at once; else the valid blocks of up to one word
line of the destination are copied. It ends when the stop value is reached or GC_EN is cleared. -/
def State.gcNext (rg : Nat) : Nat → State → State
  | 0, s => s
  | fuel + 1, s =>
    match s.med.gc.find? fun g => g.rg == rg with
    | none => s
    | some g =>
      let t := s.rgSet rg
      if s.med.copies.any (fun c => c.use == CopyUse.gc rg) then s
      else if !s.on MED_CTRL.GC_EN || decide (s.dnum 0x3205 0 ≤ s.freeRows t) then s.modMed fun m => { m with gc := m.gc.filter fun x => x.rg != rg }
      else match (if (g.victim.map fun v => (s.zone v).kind == 2 && (s.zone v).hasrow).getD false then g.victim else s.gcVictim rg) with
      | none => s.modMed fun m => { m with gc := m.gc.filter fun x => x.rg != rg }
      | some v =>
        if s.ruValid v = 0 then State.gcNext rg fuel (((s.releaseRows v g.account .gc).freeRu v).modGc rg fun g => { g with victim := none })
        else
          let w := 16 * max 1 (s.setW t)
          let room := fun (d : Nat) => (s.zone d).kind == 2 && (s.zone d).hasrow && decide ((s.zone d).wpCommit + w ≤ s.rowUnits t)
          match (if (g.dst.map room).getD false then g.dst.map fun d => (d, s) else s.newRu rg 0 (s.zone v).nsidx .full s.bellTime) with
          | none => s
          | some (d, s) =>
            let batch := ((s.med.ruBlk.filter fun e => e.1 / 2 ^ 26 == v).take w).map fun e => (e.2 - 1, e.1 % 2 ^ 26)
            let s := s.modGc rg fun g => { g with victim := some v, dst := some d, batch := batch }
            let n := (s.zone d).wpCommit / w
            State.gcNext rg fuel (s.startCopy { use := .gc rg, index := v, sset := t, row := (s.zone d).rownum, account := g.account, planned := true, left := [(n, [])] })

/-- Steps of a collection that can follow at once. -/
def gcFuel : Nat := 64

/-- Every collection goes on where it can. -/
def State.gcRetry (s : State) : State := each (s.med.gc.map (·.rg)) (fun rg s => s.gcNext rg gcFuel) s

/-- Garbage collection starts in reclaim group `rg` when its set has too few free erased rows (R252); event 235. -/
def State.gcCheck (rg account : Nat) (s : State) : State :=
  if s.on MED_CTRL.GC_EN && decide (s.freeRows (s.rgSet rg) < s.dnum 0x3204 0) && !(s.med.gc.any fun g => g.rg == rg) then
    ((s.modMed fun m => { m with gc := m.gc ++ [{ rg := rg, account := account }] }).assertEvent 235).gcNext rg gcFuel
  else s

/-- Garbage collection is looked at in every reclaim group of stripe set `t`, a row of which has been taken. -/
def State.gcRow (t account : Nat) (s : State) : State :=
  if s.reclaimSets.contains t then
    each ((List.range (s.dnum 0x3101 0)).filter fun r => s.rgSet r == t) (fun r s => s.gcCheck r account) s
  else s

/-- Start the copy of descriptor `i` into rows of stripe set `t` from `row` on (R256); event 237. -/
def State.startMigr (i t row : Nat) (reshape : Bool) (rows : Nat) (s : State) : State :=
  let s := s.modZpm fun z => { z with rows := (List.range rows).foldl (fun l k => Tab.set {} l (t * 16384 + row + k) ({ held := true } : Row)) z.rows }
  let s := s.modMed fun m => { m with migr := m.migr ++ [{ index := i, sset := t, row := row, reshape := reshape }] }
  ((s.assertIf (!reshape) 237).startCopy { use := if reshape then .reshape else .move, index := i, sset := t, row := row }).gcRow t 512

/-- May a migration of descriptor `i` start: fewer than 0x3203:00 run, none in its stripe set, none of it (R256, R258)? -/
def State.migrRoom (s : State) (i : Nat) : Bool :=
  decide ((s.med.migr.filter fun m => !m.reshape).length < s.dnum 0x3203 0) &&
    !(s.med.migr.any fun m => m.index == i || m.sset == (s.zone i).sset || (s.zone m.index).sset == (s.zone i).sset)

/-- Can the zone or reclaim unit of descriptor `i` be migrated: Full, Closed or detached (R258)? -/
def Zone.migratable (z : Zone) : Bool := z.state == .full || (z.kind == 1 && z.state == .closed)

/-- Start a waiting migration, into a row that R203 chooses, once there is room for it; a descriptor with no row has nothing to
copy. -/
def State.tryMigr (i : Nat) (s : State) : State :=
  let z := s.zone i
  if !z.hasrow then s.modMed fun m => { m with migrWait := dropFrom i m.migrWait }
  else if !s.migrRoom i then s
  else match s.chooseRun (s.groupSets (s.fld (ZPM_SSET.PGRP z.sset))) (z.rspan + 1) with
    | none => s
    | some (t, r) => (s.modMed fun m => { m with migrWait := dropFrom i m.migrWait }).startMigr i t r false (z.rspan + 1)

/-- The waiting migrations are tried again. -/
def State.retryMigr (s : State) : State := each s.med.migrWait State.tryMigr s

/-- The free erased row, or run of `n` rows, of the highest wear class of a stripe set (R255). -/
def State.wornRun (s : State) (t n : Nat) : Option Nat := leastBy (fun r => 7 - s.runWear t r n) (s.runs t n)

/-- The wear-levelling check of a die at a frame start (R255). -/
def State.wlCheck (die : Nat) (s : State) : State :=
  let m := s.mem die
  if m.state != .member || !s.on MED_CTRL.WL_EN then s
  else
    let rows := List.range (s.fld (ZPM_SSET.ROWS m.sset))
    let er := fun r => (s.unitRec die (s.rowUnit die r)).erases
    let spread := rows.foldl (fun a r => max a (er r)) 0 - (match leastBy er rows with | some r => er r | none => 0)
    if spread * 100 ≤ s.dnum 0x3202 0 * s.dnum (0x3210 + die / 128) 1 then s
    else
      let cands := s.zpm.zones.filter fun z => z.2.hasrow && z.2.sset == m.sset && z.2.state == .full
      match leastBy er (cands.flatMap fun z => z.2.rowList) with
      | none => s
      | some r =>
        match cands.find? fun z => z.2.rowList.contains r with
        | none => s
        | some z =>
          match s.wornRun m.sset (z.2.rspan + 1) with
          | some d => if s.migrRoom z.1 then s.startMigr z.1 m.sset d false (z.2.rspan + 1) else s
          | none => s

/-! Retirement (R259, R260). -/

/-- The descriptor that holds row `row` of stripe set `t`. -/
def State.rowOwner (s : State) (t row : Nat) : Option Nat :=
  (s.zpm.zones.find? fun z => z.2.kind != 0 && z.2.hasrow && z.2.sset == t && z.2.rowList.contains row).map (·.1)

/-- The migration whose destination row `row` of stripe set `t` is. -/
def State.rowTarget (s : State) (t row : Nat) : Option Migr :=
  s.med.migr.find? fun m =>
    m.sset == t && decide (m.row ≤ row) && decide (row ≤ m.row + (if m.reshape then (s.ns (s.zone m.index).nsidx).rspan else (s.zone m.index).rspan))

/-- A row leaves its stripe set, a unit of it being retired with no spare left (R260): what it holds migrates, or else the zone becomes
Read Only or the reclaim unit is detached; a migration that was filling it is given up and tried again; event 241, Critical Warning
bit 2. -/
def State.rowOut (t row : Nat) (s : State) : State :=
  let s := (s.assertEvent 241).criticalWarning 2
  match s.rowOwner t row with
  | some i =>
    let z := s.zone i
    let s := (s.dropCopies fun c => match c.use with
      | .replace _ _ => c.index == i
      | .gc rg => s.med.gc.any fun g => g.rg == rg && g.dst == some i
      | _ => false).modMed fun m => { m with gc := m.gc.map fun g => if g.dst = some i then { g with dst := none, batch := [] } else g }
    if s.med.migr.any fun m => m.index == i then s
    else if (s.chooseRun (s.groupSets (s.fld (ZPM_SSET.PGRP t))) (z.rspan + 1)).isSome then (s.modMed fun m => { m with migrWait := addTo i m.migrWait }).tryMigr i
    else if z.kind = 2 then (if z.state = .full then s else s.detachRu i s.bellTime) else s.readOnlyZone i
  | none =>
    match s.rowTarget t row with
    | some m => (s.quitMigr m.index).modMed fun x => { x with migrWait := if m.reshape then x.migrWait else addTo m.index x.migrWait }
    | none => s.modZpm fun z => { z with rows := Tab.upd {} z.rows (t * 16384 + row) fun r => { r with out := true, erasing := r.erasing - 1 } }

/-- The spare `u` of a die is erased for its new place; `row` is the key, plus 1, of a row whose erase waits for it. -/
def State.eraseSpare (die u row : Nat) (s : State) : State :=
  s.submitErase (die / 16) clsBack (s.opDesc 4 4 512 die u 0 0 (.eraseUnit die u row))

/-- The unit of row `row` of a die is retired: the die's best spare takes its place and is erased first (Table 7.6); then it receives
the word lines that a descriptor holds on the retired unit, which is read until the switch. `erasing`: the row's erase waits for it.
Without a spare the whole row leaves (R260). -/
def State.replaceRowUnit (die row t : Nat) (erasing : Bool) (s : State) : State :=
  let s := s.retireUnit die (s.rowUnit die row)
  match s.bestSpare die with
  | none => s.rowOut t row
  | some u =>
    let s := s.modUnit die u fun r => { r with state := .row, repl := true }
    let s := s.modMed fun m => { m with remap := Tab.set none m.remap (die * 16384 + row) (some u) }
    let pos := (s.mem die).pos
    let s := match s.rowOwner t row with
      | none => s
      | some i =>
        let z := s.zone i
        let s := if z.kind = 2 && s.fdpEnabled 0x80 z.ruh then s.modZpm fun z => { z with fdpEvents := z.fdpEvents ++ [2] } else s
        let span := row - z.rownum
        if s.med.copies.any (fun c => c.index == i && c.use == CopyUse.replace pos span) then
          let s := s.nextSerial
          let id := s.med.serial
          s.modMed fun m => { m with copies := m.copies.map fun (c : UCopy) =>
            if c.index = i ∧ c.use = CopyUse.replace pos span then { c with id := id, planned := false, left := [], past := [], reads := 0, todo := [], await := [(pos, row)] } else c }
        else s.startCopy { use := .replace pos span, index := i, sset := t, row := z.rownum, await := [(pos, row)] }
    s.eraseSpare die u (if erasing then t * 16384 + row + 1 else 0)

/-- A copy's destination unit at position `p` has failed (Table 7.6): its spare takes the place and receives the word lines already
copied there and the one in progress. -/
def State.copyFail (id p : Nat) (s : State) : State :=
  match s.copy id with
  | none => s
  | some c =>
    match c.left with
    | [] => s
    | (n, ps) :: l =>
      let x := s.copyPlace c p n
      let redo := ((c.past.filter fun m => m / s.unitWls c.sset == n / s.unitWls c.sset).reverse ++ [n]).map fun m => (m, [p])
      let s := match c.use with
        | .replace _ _ => s
        | _ => (s.modCopy id fun c => { c with left := (n, ps) :: redo ++ l, await := addTo (p, x.2.1) c.await }).copyDrop id p
      s.replaceRowUnit x.1 x.2.1 c.sset false

/-- The spare in its new place is erased: the replacement copies of its row go on, or else every copy that waits for it. -/
def State.unitReady (die unit : Nat) (s : State) : State :=
  let t := (s.mem die).sset
  let pos := (s.mem die).pos
  match (s.med.remap.find? fun e => e.1 / 16384 == die && e.2 == some unit).map fun e => e.1 % 16384 with
  | none => s
  | some row =>
    let waits := fun (c : UCopy) => c.sset == t && c.await.contains (pos, row)
    let first := fun (c : UCopy) => match c.use with
      | .replace _ _ => true
      | _ => false
    let some := s.med.copies.any fun c => waits c && first c
    s.modMed fun m => { m with copies := m.copies.map fun c => if waits c && (first c || !some) then { c with await := dropFrom (pos, row) c.await } else c }

/-- An SLC unit fails a program or an erase: retired, and a spare becomes SLC when one is left (Table 7.6). -/
def State.replaceSlcUnit (die unit : Nat) (s : State) : State :=
  let s := s.retireUnit die unit
  match s.bestSpare die with
  | some u => (s.modUnit die u fun r => { r with state := .slc }).eraseSpare die u 0
  | none => s

/-! The Kiln (R240 to R250). -/

/-- Recipe step words of a channel group. -/
def State.kilnStep (s : State) (g step : Nat) : Nat := Tab.get 0 s.med.recipes (s.dnum (0x3210 + g) 3 % 16 * 16 + step)

/-- Steps before END. -/
def recipeSteps (w : Nat → Nat) : Nat → Nat → List Nat
  | 0, _ => []
  | n + 1, k => if w k / 2 ^ 28 = 0 then [] else w k :: recipeSteps w n (k + 1)

/-- Does the list of steps contain, before place `k`, a step that `p` marks? -/
def anyBefore (l : List Nat) (k : Nat) (p : Nat → Bool) : Bool := (l.take k).any p

/-- OP, ARG and BACK of a step (Table 7.4). -/
def stepOp (w : Nat) : Nat := w / 2 ^ 28 % 16
/-- ARG -/
def stepArg (w : Nat) : Nat := w / 2 ^ 24 % 16
/-- BACK -/
def stepBack (w : Nat) : Nat := w / 2 ^ 20 % 16

/-- Is one step well formed (Table 7.4)? -/
def stepOk (w : Nat) : Bool :=
  w % 2 ^ 20 == 0 &&
  (match stepOp w with
   | 1 => decide (stepArg w ≤ 3) && stepBack w == 0
   | 2 => decide (1 ≤ stepArg w) && decide (stepArg w ≤ 3) && decide (stepBack w ≤ 3)
   | 3 => stepArg w == 0 && decide (stepBack w ≤ 3)
   | 4 => stepArg w == 0 && decide (stepBack w ≤ 3)
   | _ => false)

/-- A recipe is valid (R250). -/
def recipeValid (w : Nat → Nat) : Bool :=
  let l := recipeSteps w 16 0
  let idx := List.range l.length
  let firstProg := (l.findIdx fun x => stepOp x == 2)
  decide (l.length < 16) && l.all stepOk &&
  ((List.range 4).all fun p => (l.countP fun x => stepOp x == 1 && stepArg x == p) == 1 &&
      ((l.take firstProg).any fun x => stepOp x == 1 && stepArg x == p)) &&
  (idx.all fun k => let x := l.getD k 0
    (stepOp x != 3 || anyBefore l k (fun y => stepOp y == 2 && stepBack y == stepBack x)) &&
    (stepOp x != 4 || anyBefore l k (fun y => stepOp y == 3 && stepBack y == stepBack x))) &&
  ((List.range 4).all fun b => !(l.any fun x => stepOp x == 2 && stepBack x == b) || (l.countP fun x => stepOp x == 4 && stepBack x == b) == 1)

/-- Recipe `r` as the store holds it. -/
def State.kilnRecipe (s : State) (r : Nat) : Nat → Nat := fun k => Tab.get 0 s.med.recipes (r * 16 + k)

/-- Are the recipes that the channel groups select valid (R250)? -/
def State.recipesOk (s : State) : Bool := (List.range 16).all fun g => recipeValid (s.kilnRecipe (s.dnum (0x3210 + g) 3 % 16))

/-- The last word line of the unit that word line `n` of a descriptor lies on, or of an ended descriptor (R240, R249). -/
def State.lastWl (s : State) (i n : Nat) : Bool :=
  let u := s.unitWls (s.zone i).sset
  n % u == u - 1 || ((s.fold i).ended && n + 1 == s.wlEnd i)

/-- Does a migration, a reshape or a replacement keep the Kiln from starting on position `p` of a descriptor? -/
def State.kilnBlocked (s : State) (i p : Nat) : Bool :=
  (s.med.migr.any fun m => m.index == i) || s.med.copies.any fun c => c.index == i && (match c.use with
    | .replace q _ => q == p
    | _ => false)

/-- A fold record is not needed any more: nothing of the descriptor is in SLC, in tubs or pending. -/
def State.kilnTidy (i : Nat) (s : State) : State :=
  let z := s.zone i
  if (s.med.chunks.any fun e => e.1 / 65536 / 128 == i && e.2.isSlc) || z.pend != 0 || (z.kind == 2 && z.state == .implicit) ||
      s.hfe.blkTub.any fun e => (s.placeOf (e.1 / 2 ^ 40 + 1) (e.1 % 2 ^ 40)).map (·.1) == some i then s
  else s.modMed fun m => { m with folds := Tab.clear m.folds fun k => k == i }

/-- The fold pointer of a descriptor (R241): the blocks below the first word line that is not in QLC on every position. -/
def State.foldPtr (s : State) (i : Nat) : Nat :=
  let t := (s.zone i).sset
  let w := max 1 (s.setW t)
  let n := s.wlEnd i
  ((List.range n).findIdx fun k => !((List.range (s.setPositions t)).all fun p => s.wlInQlc i p k fun _ _ => true)) * (16 * w)

/-- RELEASE of word line `n` of position `p` (R245): its chunks move to QLC in one step, recorded in the zone journal or, block by block,
in the map journal; its SLC pages become free. -/
def State.kilnRelease (i p n : Nat) (s : State) : State :=
  let t := (s.zone i).sset
  let die := (s.position t p).die
  let s := s.wlToQlc i p n die (s.rowUnit die (s.chunkRow i (4 * n))) (4 * (n % s.unitWls t)) false
  let s := if (s.zone i).kind = 2 then
      if p < s.setW t then
        (each ((List.range 4).flatMap fun k => s.chunkBlocks i p (4 * n + k)) (fun b s => match s.unitAt i b with
          | some (x, u) => s.journalMap (x * 2 ^ 40 + u) (some (i, b))
          | none => s) s).flushIfDue.fdpCount 1 65536
      else s.fdpCount 1 65536
    else s.journalZone i
  let ptr := s.foldPtr i
  let s := s.modFold i fun f => { f with ptr := ptr, progd := f.progd.filter (fun g => g != (p, n)), begun := f.begun.filter (fun g => g != (p, n)),
                                         groups := f.groups.filter (fun g => g != (p, n)) }
  ((s.tally 2209 1).kilnTidy i).compactAll

/-- Where a run stands: word line, extra turn and step, plus 1 (0: idle). -/
def runCode (n v k : Nat) : Nat := (n * 4 + v) * 16 + k + 1

/-- The recipe of position `p` runs on from word line `n`, extra turn `v`, step `k`, up to the next step that issues a descriptor
(R249). The turns follow the last word line of a unit: in turn v a step applies to word line n + v - BACK. -/
def State.kilnRun (i p : Nat) : Nat → Nat → Nat → Nat → State → State
  | 0, _, _, _, s => s
  | fuel + 1, n, v, k, s =>
    let t := (s.zone i).sset
    let q := s.position t p
    let w := s.kilnStep (q.die / 128) k
    let f := s.fold i
    let wpu := s.unitWls t
    let b := stepBack w
    let tgt := n + v - b
    let row := s.chunkRow i (4 * tgt)
    let unit := s.rowUnit q.die row
    let page := 4 * (tgt % wpu)
    let acc := s.chunkAccount i p (4 * tgt)
    let setRun := fun (x : Nat) (s : State) => s.modFold i fun f => { f with run := Tab.set 0 f.run p x }
    let skip := fun (s : State) => State.kilnRun i p fuel n v (k + 1) s
    let gone := s.notTaken t p row || (s.posDie t p).isNone
    if stepOp w = 0 then
      if (v ≠ 0 || s.lastWl i n) && decide (v < 3) && (f.begun.any fun g => g.1 == p && g.2 / wpu == n / wpu) then State.kilnRun i p fuel n (v + 1) 0 s
      else match leastBy id ((f.groups.filter fun g => g.1 == p).map (·.2)) with
        | some m => if s.kilnBlocked i p || !s.on MED_CTRL.KILN_EN then setRun 0 s
                    else State.kilnRun i p fuel m 0 0 (s.modFold i fun f => { f with groups := dropFrom (p, m) f.groups, begun := addTo (p, m) f.begun })
        | none => setRun 0 s
    else if b < v || decide (n % wpu + v < b) || !f.begun.contains (p, tgt) then skip s
    else if stepOp w = 1 then
      let c := 4 * tgt + stepArg w
      let x := s.chunkAccount i p c
      let bad := (List.range 4).any fun j => s.suspect i p (4 * c + j)
      match s.chunkLoc i p c with
      | .slc d u pg _ =>
        if bad || !s.chunkReadable i p c then
          match s.pageAsk i p c 2 x s.kilnClass (.foldRead i p tgt (stepArg w) f.gen) with
          | (s, none) => setRun (runCode n v k) s
          | (s, some _) => skip s
        else setRun (runCode n v k) (s.submitHw (d / 16) s.kilnClass (s.readDesc 2 x d u pg 0 (.foldRead i p tgt (stepArg w) f.gen)))
      | _ => skip s
    else if stepOp w = 2 then
      let s := s.modFold i fun f => { f with progd := addTo (p, tgt) f.progd }
      if gone then skip s
      else setRun (runCode n v k) (s.submitHw (q.die / 16) s.kilnClass (s.opDesc 3 2 acc q.die unit page (stepArg w) (.foldProg i p tgt (stepArg w) f.gen)))
    else if stepOp w = 3 then
      if gone then skip s
      else setRun (runCode n v k) (s.submitHw (q.die / 16) s.kilnClass { s.readDesc 2 acc q.die unit page 3 (.foldBack i p tgt f.gen) with npages := 3 })
    else skip (s.kilnRelease i p tgt)

/-- Steps of the Kiln that can follow at once. -/
def kilnFuel : Nat := 128

/-- Start the Kiln on position `p` of descriptor `i` when it is idle there and a group is eligible (R242). -/
def State.kilnKick (i p : Nat) (s : State) : State :=
  let f := s.fold i
  if s.on MED_CTRL.KILN_EN && Tab.get 0 f.run p == 0 && !s.kilnBlocked i p then
    match leastBy id ((f.groups.filter fun g => g.1 == p).map (·.2)) with
    | some n => (s.modFold i fun f => { f with groups := dropFrom (p, n) f.groups, begun := addTo (p, n) f.begun }).kilnRun i p kilnFuel n 0 0
    | none => s
  else s

/-- The Kiln starts on every position with an eligible fold group. -/
def State.kilnStart (s : State) : State :=
  each (s.med.folds.map fun f => (f.1, (f.2.groups.map (·.1)).eraseDups)) (fun e s => each e.2 (fun p s => s.kilnKick e.1 p) s) s

/-- The step in progress of position `p` has completed well: go on with the next one. -/
def State.kilnNext (i p : Nat) (s : State) : State :=
  match Tab.get 0 (s.fold i).run p with
  | 0 => s
  | x + 1 => s.kilnRun i p kilnFuel (x / 64) (x / 16 % 4) (x % 16 + 1)

/-- The Kiln's operation on position `p` ends without a result: the word lines that it has begun there fold again later. -/
def State.kilnAgain (i p : Nat) (wls : Nat → Bool) (s : State) : State :=
  s.modFold i fun f =>
    let l := f.begun.filter fun g => g.1 == p && wls g.2
    { f with run := Tab.set 0 f.run p 0, groups := l.foldl (fun a g => addTo g a) f.groups,
             begun := f.begun.filter (fun g => !l.contains g), progd := f.progd.filter (fun g => !l.contains g) }

/-- The destination unit of word line `n` failed (R246, Table 7.6): it is replaced, and what was pending there folds again from SLC. -/
def State.kilnRefold (i p n : Nat) (s : State) : State :=
  let t := (s.zone i).sset
  let u := s.unitWls t
  (s.kilnAgain i p fun m => m / u == n / u).replaceRowUnit (s.position t p).die (s.chunkRow i (4 * n)) t false

/-- A READBACK failed (R244): counted, event 242. -/
def State.backFailed (s : State) : State := ((s.count MED_ERRCNT.RBFAIL 1).healthCount 3).assertEvent 242

/-- The SLC program of chunk `c` of position `p` is complete (R225, R379): its page is live, a parity chunk's codewords leave the running
parity; event 243 when the fill reaches the urgent value. -/
def State.slcDone (i p c d u pg : Nat) (s : State) : State :=
  let fill := s.slcFill
  let s := (s.modSlcLive d u (· + 1)).setChunk i p c (.slc d u pg 0)
  let s := s.assertIf (decide (fill < s.dnum 0x320A 0) && decide (s.dnum 0x320A 0 ≤ s.slcFill)) 243
  let w := max 1 (s.setW (s.zone i).sset)
  let s := if w ≤ p then each (List.range 4) (fun k s => s.modMsh fun x => { x with
      parity := Tab.erase x.parity ((i * 2 ^ 20 + (4 * c + k)) * 2 + (p - w)) }) s else s
  let s := if (s.zone i).kind = 2 then s.fdpCount 1 16384 else s
  s.chunkDone i p c

/-- What waits in media management for what has just changed goes on: erases, copies, migrations, collections, the Kiln. -/
def State.mediaTurn (s : State) : State := s.releaseErases.copyAll.copyAll.retryMigr.gcRetry.kilnStart

end Sys2Proof.Machine
end

