-- ==== Sys2Proof/Machine/PiOps.lean ====
section
/-! DEFINITION. Machine/PiOps.lean: host protection information (11_flash_ecc_integrity.md R367 to R369). The layout of the
three guards and their polynomials are NVMe's (log entry 17). -/

namespace Sys2Proof.Machine

/-- `n` bits of a CRC of width `w`, most significant bit first. -/
def crcMsb (w poly : Nat) (c : Nat) : Nat → Nat
  | 0 => c
  | n + 1 => crcMsb w poly (if c.testBit (w - 1) then (2 * c % 2 ^ w) ^^^ poly else 2 * c % 2 ^ w) n

/-- CRC-16 of the 16-bit guard. -/
def crc16 (l : List Nat) : Nat := l.foldl (fun c b => crcMsb 16 0x8BB7 (c ^^^ (b % 256 * 256)) 8) 0

/-- `n` bits of a reflected CRC. -/
def crcLsb (poly : Nat) (c : Nat) : Nat → Nat
  | 0 => c
  | n + 1 => crcLsb poly (if c % 2 = 1 then (c / 2) ^^^ poly else c / 2) n

/-- CRC-32C of the 32-bit guard. -/
def crc32c (l : List Nat) : Nat := (l.foldl (fun c b => crcLsb 0x82F63B78 (c ^^^ (b % 256)) 8) 0xFFFFFFFF) ^^^ 0xFFFFFFFF

/-- CRC-64 of the 64-bit guard. -/
def crc64n (l : List Nat) : Nat :=
  (l.foldl (fun c b => crcLsb 0x9A6C9329AC4BC9B5 (c ^^^ (b % 256)) 8) 0xFFFFFFFFFFFFFFFF) ^^^ 0xFFFFFFFFFFFFFFFF

/-- Guard bytes of an LBA format (Table 11.5); 0: the format has no protection information. -/
def guardLen (lbaf : Nat) : Nat :=
  match lbaf with
  | 1 => 2
  | 2 => 4
  | 3 => 8
  | _ => 0

/-- Bytes of protection information of a format. -/
def piLen (lbaf : Nat) : Nat := if lbaf = 1 then 8 else if guardLen lbaf = 0 then 0 else 16

/-- The guard of a block of `bytes` bytes. -/
def guardOf (lbaf data bytes : Nat) : Nat :=
  match lbaf with
  | 1 => crc16 (toBytes data bytes)
  | 2 => crc32c (toBytes data bytes)
  | _ => crc64n (toBytes data bytes)

/-- A big-endian number of the bytes `[i, i + n)` of little-endian `v`. -/
def beField (v len i n : Nat) : Nat := ofBytes (((toBytes v len).drop i).take n).reverse

/-- Guard, application tag and reference tag of a block's protection information. -/
def piGuard (lbaf v : Nat) : Nat := beField v (piLen lbaf) 0 (guardLen lbaf)
/-- Application tag. -/
def piApp (lbaf v : Nat) : Nat := beField v (piLen lbaf) (guardLen lbaf) 2
/-- Reference tag. -/
def piRef (lbaf v : Nat) : Nat := beField v (piLen lbaf) (guardLen lbaf + 2) (piLen lbaf - guardLen lbaf - 2)
/-- Bits of a reference tag. -/
def refBits (lbaf : Nat) : Nat := 8 * (piLen lbaf - guardLen lbaf - 2)

/-- Protection information of its three fields. -/
def mkPi (lbaf guard app ref : Nat) : Nat :=
  ofBytes ((toBytes guard (guardLen lbaf)).reverse ++ (toBytes app 2).reverse ++ (toBytes ref (piLen lbaf - guardLen lbaf - 2)).reverse)

/-- The first failing field of block `k` of a command (R368): guard, application tag, reference tag. Type 1 and 2 blocks
whose application tag is all ones, and type 3 blocks whose tags are both all ones, are not checked. -/
def piFault (type lbaf bytes : Nat) (p : Pr) (k data v : Nat) : Option Nat :=
  let app := piApp lbaf v
  let ref := piRef lbaf v
  let bits := refBits lbaf
  if type = 0 || guardLen lbaf = 0 || p.pract then none
  else if app == 0xFFFF && (type != 3 || ref == 2 ^ bits - 1) then none
  else if p.guard && piGuard lbaf v != guardOf lbaf data bytes then some stGuard
  else if p.app && ((app ^^^ p.lbat) &&& p.lbatm) != 0 then some stAppTag
  else if p.ref && type != 3 && ref != (p.ilbrt + k) % 2 ^ bits then some stRefTag
  else none

/-- The first fault over the blocks of a piece, the first of which is block `k` of the command. -/
def piFaults (type lbaf bytes : Nat) (p : Pr) : Nat → List Nat → List Nat → Option Nat
  | _, [], _ => none
  | k, d :: l, t =>
    match piFault type lbaf bytes p k d (t.headD 0) with
    | some f => some f
    | none => piFaults type lbaf bytes p (k + 1) l t.tail

/-- What is stored with block `k` of a write at `lba`: generated with PRACT; for an append of type 1 the reference tag is
rewritten to the assigned LBA (R369). -/
def piStored (type lbaf bytes : Nat) (append : Bool) (p : Pr) (lba k data v : Nat) : Nat :=
  if type = 0 || guardLen lbaf = 0 then 0
  else if p.pract then
    mkPi lbaf (guardOf lbaf data bytes) p.lbat ((if append && type == 1 then lba else if type = 3 then p.ilbrt else p.ilbrt + k) % 2 ^ refBits lbaf)
  else if append && type == 1 then mkPi lbaf (piGuard lbaf v) (piApp lbaf v) (lba % 2 ^ refBits lbaf)
  else v

end Sys2Proof.Machine
end

