-- ==== Sys2Proof/Machine/ReadOps.lean ====
section
/-! DEFINITION. Machine/ReadOps.lean: media reads of host commands, reconstruction and lost stripes, as operations (R225 to
R233, R381, R382, R394 to R396). -/

namespace Sys2Proof.Machine

/-- The content of a logical block; zeros where nothing is held (R233). -/
def State.blockData (s : State) (nsid lba : Nat) : Nat := (Tab.get none s.zpm.blocks (blkKey nsid lba)).getD 0

/-- The content of 4 KiB unit `u` of a namespace. -/
def State.unitData (s : State) (nsid u : Nat) : Nat :=
  let sh := s.unitShift nsid
  let bits := 8 * 2 ^ s.bshift nsid
  ((List.range (2 ^ sh)).map fun k => s.blockData nsid (u * 2 ^ sh + k) % 2 ^ bits * 2 ^ (bits * k)).sum

/-- The protection information stored with unit `u` (formats with 4 KiB blocks only). -/
def State.unitPi (s : State) (nsid u : Nat) : Nat := if s.unitShift nsid = 0 then Tab.get 0 s.zpm.blkMeta (blkKey nsid u) else 0

/-- Put a block's content and protection information. -/
def State.setBlock (nsid lba data pi : Nat) (s : State) : State :=
  s.modZpm fun z => { z with blocks := Tab.set none z.blocks (blkKey nsid lba) (some data),
                             blkMeta := Tab.set 0 z.blkMeta (blkKey nsid lba) pi }

/-- Drop a block's content. -/
def State.dropBlock (nsid lba : Nat) (s : State) : State :=
  s.modZpm fun z => { z with blocks := Tab.set none z.blocks (blkKey nsid lba) none, blkMeta := Tab.set 0 z.blkMeta (blkKey nsid lba) 0 }

/-! Media reads of a host command. -/

/-- Every block of the Read or Verify of ticket `t` is there and has passed its path-guard check: the host protection information decides
the status (R368), else Success. -/
def State.readServed (t : Nat) (s : State) : State :=
  match s.cmd t with
  | some c =>
    if c.waits ≠ 0 ∨ c.status ≠ none then s
    else match c.piFail with
      | some st => (if st = stGuard then (s.outcome t st).integrityError else s.outcome t st).assertEvent 134
      | none => s.outcome t stOk
  | none => s

/-- A media read or a reconstruction of the command of ticket `t` has ended well: the last one decides. -/
def State.readDone (t : Nat) (s : State) : State := (s.modCmd t fun c => { c with waits := c.waits - 1 }).readServed t

/-- It failed with `st`; Data integrity statuses count in 0x7004:05 once per command (R366). -/
def State.readFailed (t st : Nat) (s : State) : State :=
  match s.cmd t with
  | some c =>
    if c.status.isSome then s
    else
      let s := s.modCmd t fun c => { c with waits := c.waits - 1, status := some st }
      if st = stUnrecovered ∨ st = stGuard then s.integrityError else s
  | none => s

/-- Read codeword `stripe % 4` of chunk `stripe / 4` of position `p` where it lies, in class `cls`. -/
def State.submitRead (i p stripe account cls : Nat) (w : Work) (s : State) : State :=
  s.submitPage i p (stripe / 4) (2 ^ (stripe % 4)) 1 account cls w

/-! Candidate ring (R359). -/

/-- Reasons of Table 11.4: 1 first hard decode at or above RELOC, 2 decoded after retry, 3 soft-decoded, 4 uncorrectable,
5 path-guard failure. -/
def candGuard : Nat := 5

/-- A candidate entry joins the ring; one that finds it full is dropped and counted; events 128 and 129. -/
def State.addCandidate (reason retry bits die unit page cw cell : Nat) (s : State) : State :=
  let e := 2 ^ 63 + reason * 2 ^ 60 + min retry 15 * 2 ^ 56 + (if 4 ≤ reason then 0 else bits) * 2 ^ 48 + die * 2 ^ 37 + unit * 2 ^ 20
    + page * 2 ^ 6 + cw * 2 ^ 2 + cell
  if s.ecc.cands.length < 1024 then (s.modEcc fun x => { x with cands := x.cands ++ [e] }).assertEvent 128
  else (s.count ECC_STAT.CANDLOST 1).assertEvent 129

/-- A passing repeat or reconstruction of unit `u` of a namespace adds a candidate of its codeword (R365). -/
def State.guardCandidate (nsid u : Nat) (s : State) : State :=
  match s.placeOf nsid u with
  | none => s
  | some (i, b) =>
    match s.locOf i b with
    | .slc d x p c => s.addCandidate candGuard 0 0 d x p c 0
    | .qlc d x p c => s.addCandidate candGuard 0 0 d x p c 3
    | .none => s

/-- A read that ends with a path-guard failure that nothing mended (R365); event 132. -/
def State.guardFailed (t : Nat) (s : State) : State :=
  (((s.modCmd t fun c => { c with vsi := 1 }).readFailed t stGuard).count ECC_GUARDCNT.READFAIL 1).assertEvent 132

/-- A block cannot be reconstructed: its stripe is lost (R382, R395), with the positions `bad`, and the read fails, with the guard error
when a guard failure led to it (R365). -/
def State.reconLost (t i b : Nat) (guard : Bool) (bad : List Nat) (s : State) : State :=
  let st := b / max 1 (s.setW (s.zone i).sset)
  let s := s.loseStripe i (s.chunkRow i (st / 4)) st (s.lostMap i st bad) 2
  if guard then s.guardFailed t else s.readFailed t stUnrecovered

/-- Class of the reads of a command: TAIL for a Read of a function that is tail class for it (R167). -/
def State.readClass (s : State) (t : Nat) : Nat := if ((s.cmd t).map fun c => c.tail && c.op == .read).getD false then clsTail else clsHost

/-- A read is served by reconstruction: event 169, at most once per frame (R405). -/
def State.reconServed (s : State) : State :=
  if s.msh.reconEv then s else (s.modMsh fun m => { m with reconEv := true }).assertEvent 169

/-- Start the reconstruction of block `lba` (a 4 KiB unit) of ticket `t`: W other readable positions, data first, then P,
then Q (R381), of which those that no media hold need no read; too few leave the stripe lost (R382). -/
def State.startRecon (guard : Bool) (t lba i b : Nat) (s : State) : State :=
  let z := s.zone i
  let w := max 1 (s.setW z.sset)
  let st := b / w
  let all := (List.range (w + s.setP z.sset)).filter fun p => p != b % w && s.chunkReadable i p (st / 4) && !s.suspect i p st
  let l := all.filter fun p => s.chunkLoc i p (st / 4) != .none
  let free := all.length - l.length
  let account := ((s.cmd t).map (·.fn)).getD 512
  let cls := s.readClass t
  if all.length < w then s.reconLost t i b guard [b % w]
  else if w ≤ free then (s.reconServed).readDone t
  else
    let r : Recon := { ticket := t, lba := lba, guard := guard, index := i, stripe := st, block := b, good := free, bad := [b % w], left := l.drop (w - free) }
    each (l.take (w - free)) (fun p s => s.submitRead i p st account cls (.recon t lba p)) (s.modMsh fun m => { m with recons := m.recons ++ [r] })

/-- A reconstruction read has ended: the block is there with the W-th good one; a failed read is repeated once, then
counts as an erasure and is replaced (R382). -/
def State.reconRead (t lba p : Nat) (ok fenced : Bool) (s : State) : State :=
  match s.msh.recons.find? fun r => r.ticket == t && r.lba == lba with
  | none => s
  | some r =>
    let is := fun (x : Recon) => x.ticket == t && x.lba == lba
    let put := fun (g : Recon → Recon) (s : State) => s.modMsh fun m => { m with recons := updFirst is g m.recons }
    let drop := fun (s : State) => s.modMsh fun m => { m with recons := m.recons.filter fun x => !is x }
    let ask := fun (q : Nat) (s : State) => s.submitRead r.index q r.stripe (((s.cmd t).map (·.fn)).getD 512) (s.readClass t) (.recon t lba q)
    if ok then
      if r.good + 1 = max 1 (s.setW (s.zone r.index).sset) then
        let s := ((drop s).tally 2206 1).reconServed
        let s := if r.guard then s.guardCandidate (((s.cmd t).map (·.nsid)).getD 0) lba else s
        s.readDone t
      else put (fun x => { x with good := x.good + 1 }) s
    else if !fenced && !r.retried.contains p then ask p (put (fun x => { x with retried := p :: x.retried }) s)
    else
      match r.left with
      | q :: l => ask q (put (fun x => { x with bad := p :: x.bad, left := l }) s)
      | [] => (drop s).reconLost t r.index r.block r.guard (p :: r.bad)

/-- Read unit `u` of a namespace for ticket `t` from its location of record: nothing to do while it is in protected tubs;
reconstruction where the position cannot be read or the codeword is suspect. -/
def State.readUnit (t nsid u account cls : Nat) (s : State) : State :=
  match s.placeOf nsid u with
  | none => s
  | some (i, b) =>
    let z := s.zone i
    let w := max 1 (s.setW z.sset)
    let st := b / w
    if s.locOf i b = .none then s
    else
      let s := s.modCmd t fun c => { c with waits := c.waits + 1 }
      if s.lostBlock z.sset (s.chunkRow i (st / 4)) (s.rowStripe i st) (b % w) then s.readFailed t stUnrecovered
      else if !s.chunkReadable i (b % w) (st / 4) || s.suspect i (b % w) st then s.startRecon false t u i b
      else s.submitRead i (b % w) st account cls (.hostRead t u)

/-- Has the zone become Offline by an action of a higher ticket that has not committed (R191, R201)? -/
def State.offlineLater (s : State) (i t : Nat) : Bool :=
  s.hfe.ctx.any fun d => d.op == .zoneOffline && decide (t < d.ticket) && d.status.isNone && d.zones.any fun z => z.1 == i

/-- Why a block of a zone cannot be read (R191, R196): an Offline zone, a block no write of a lower ticket has left, a void. -/
def State.readFault (s : State) (c : Cmd) (lba : Nat) : Option Nat :=
  if (s.ns (c.nsid - 1)).kind ≠ 2 then none
  else
    let i := s.zoneOf c.nsid lba
    let z := s.zone i
    let b := lba - s.zoneStart i
    let at0 := ((c.zones.find? fun e => e.1 == i).map (·.2)).getD z.wpAdmit
    if z.state = .offline ∧ s.offlineLater i c.ticket = false then some stZoneOffline
    else if min at0 z.wpCommit ≤ b ∨ z.inVoid b = true then some stUnwritten
    else none

/-- The protection-information bits of the command's row. -/
def Cmd.pr (c : Cmd) : Pr :=
  match c.req with
  | some (.read _ _ _ _ p) => p
  | some (.write _ _ _ _ p _) => p
  | some (.writeZeroes _ _ _ _ p) => p
  | some (.verify _ _ _ _ p) => p
  | some (.zoneAppend _ _ _ _ p) => p
  | _ => {}

/-- 4 KiB units of a command's range: the first one and how many. -/
def State.cmdUnits (s : State) (c : Cmd) : Nat × Nat :=
  let sh := s.unitShift c.nsid
  (c.lba / 2 ^ sh, if c.n = 0 then 0 else ceilDiv (c.lba + c.n) (2 ^ sh) - c.lba / 2 ^ sh)

/-- The media reads of a Read or Verify, once its map pages are there (R231); with none to wait for it is done. -/
def State.readMedia (c : Cmd) (s : State) : State :=
  if s.med.mapReads.any (fun x => x.1 == c.ticket) || c.status.isSome then s
  else
    let u := s.cmdUnits c
    (each (List.range u.2) (fun k s => s.readUnit c.ticket c.nsid (u.1 + k) c.fn (s.readClass c.ticket)) s).readServed c.ticket

/-- A dispatched Read or Verify takes what it returns and looks its blocks up (R126, R227, R231). -/
def State.startRead (c : Cmd) (s : State) : State :=
  let lbas := (List.range c.n).map (c.lba + ·)
  match lbas.findSome? fun a => s.readFault c a with
  | some st => s.outcome c.ticket st
  | none =>
    let n := s.ns (c.nsid - 1)
    let data := lbas.map fun a => (a, s.blockData c.nsid a)
    let held := lbas.filter fun a => (Tab.get none s.zpm.blocks (blkKey c.nsid a)).isSome
    let pif := if held.length = lbas.length then
        piFaults n.pi n.lbaf (2 ^ n.bshift) c.pr 0 (data.map (·.2)) (lbas.map fun a => Tab.get 0 s.zpm.blkMeta (blkKey c.nsid a))
      else none
    let s := s.modCmd c.ticket fun x => { x with got := if c.op = .read then data else [], piFail := pif }
    let u := s.cmdUnits c
    let s := if n.kind = 1 then s.mapLookup c.ticket (c.nsid - 1) u.1 u.2 else s
    s.readMedia c

end Sys2Proof.Machine
end

