-- ==== Sys2Proof/Machine/CmdOps.lean ====
section
/-! DEFINITION. Machine/CmdOps.lean: admission of I/O commands, dispatch, pieces and their commit, failures and aborts, and
what completes once its turn has come, as operations (04_command_queueing.md, 05, 06). -/

namespace Sys2Proof.Machine

/-! What commands touch (R126). -/

/-- Does the command write? -/
def opWrites : Op → Bool
  | .write => true
  | .writeZeroes => true
  | .append => true
  | .deallocate => true
  | _ => false

/-- Is it a Zone Management Send? -/
def opZone : Op → Bool
  | .zoneOpen => true
  | .zoneClose => true
  | .zoneFinish => true
  | .zoneReset => true
  | .zoneOffline => true
  | _ => false

/-- Is it a write made of pieces? -/
def opPieces : Op → Bool
  | .write => true
  | .writeZeroes => true
  | .append => true
  | _ => false

/-- The ranges of a command. -/
def Cmd.span (c : Cmd) : List (Nat × Nat) :=
  match c.op with
  | .read => [(c.lba, c.n)]
  | .verify => [(c.lba, c.n)]
  | .write => [(c.lba, c.n)]
  | .writeZeroes => [(c.lba, c.n)]
  | .append => [(c.lba, c.n)]
  | .deallocate => c.ranges
  | _ => []

/-- Do two ranges overlap? -/
def overlap (a b : Nat × Nat) : Bool := decide (a.1 < b.1 + b.2) && decide (b.1 < a.1 + a.2)

/-- The zones a command touches. -/
def State.zonesOf (s : State) (c : Cmd) : List Nat :=
  if (s.ns (c.nsid - 1)).kind ≠ 2 then []
  else if opZone c.op then c.zones.map (·.1)
  else c.span.flatMap fun r => if r.2 = 0 then [] else
    let a := s.zoneOf c.nsid r.1
    (List.range (s.zoneOf c.nsid (r.1 + r.2 - 1) - a + 1)).map (a + ·)

/-- Do two commands conflict (R126)? -/
def State.conflict (s : State) (c d : Cmd) : Bool :=
  c.nsid == d.nsid &&
    (((opWrites c.op || opWrites d.op) && c.span.any fun a => d.span.any fun b => overlap a b) ||
     ((opZone c.op || opZone d.op) && (s.zonesOf c).any fun i => (s.zonesOf d).contains i))

/-- Lower-ticket commands of the same queue that have neither taken effect nor failed. -/
def State.orderOk (s : State) (c : Cmd) : Bool :=
  !c.ordered || !(s.hfe.ctx.any fun d => d.fn == c.fn && d.sqid == c.sqid && decide (d.ticket < c.ticket) && d.status.isNone)

/-- May command `c` take effect: its turn on an ordered queue, and no conflicting lower ticket left (R126, R135, R201)? -/
def State.clear (s : State) (c : Cmd) : Bool :=
  s.orderOk c && !(s.hfe.ctx.any fun d => decide (d.ticket < c.ticket) && d.status.isNone && (c.da || opZone c.op) && s.conflict c d)

/-- Is a block of the command's range still in flight in its zone, Deterministic Admission being off (R153)? -/
def State.inFlight (s : State) (c : Cmd) : Bool :=
  s.hfe.ctx.any fun d => opPieces d.op && decide (d.ticket < c.ticket) && d.status.isNone && s.conflict c d && (s.ns (c.nsid - 1)).kind == 2

/-- May command `c` be dispatched (R129, R138, R161)? A fence holds those behind it until its completion is posted; one that failed at
its admission holds none (R137). -/
def State.mayDispatch (s : State) (c : Cmd) : Bool :=
  !c.dispatched && c.status.isNone && c.op != .fence && !s.tokenHeld c && !s.hfe.stopped &&
    !(s.hfe.ctx.any fun d => d.fn == c.fn && d.sqid == c.sqid && decide (d.ticket < c.ticket) && d.op == .fence &&
      (d.status.isNone || d.status == some stOk)) &&
    (match c.op with
     | .read => s.clear c && !s.inFlight c
     | .verify => s.clear c && !s.inFlight c
     | .admin o => s.orderOk c && !((o == 0xC0 || o == 0xC1) && decide (64 ≤ s.mgt.waits.length))
     | _ => true)

/-! Pieces (R139). -/

/-- Split `n` blocks from `lba` at the aligned boundaries of 256 KiB. -/
def splitPieces (unit : Nat) : Nat → Nat → Nat → List Piece
  | 0, _, _ => []
  | _ + 1, _, 0 => []
  | fuel + 1, lba, n =>
    let k := min n (unit - lba % unit)
    { lba := lba, n := k } :: splitPieces unit fuel (lba + k) (n - k)

/-- The pieces of a write of `n` blocks of `2 ^ bshift` bytes. -/
def piecesOf (bshift lba n : Nat) : List Piece :=
  let unit := 2 ^ (18 - bshift)
  if n ≤ unit then [{ lba := lba, n := n }] else splitPieces unit (n / unit + 2) lba n

/-- Blocks of a command that have committed. -/
def Cmd.committed (c : Cmd) : Nat := ((c.pieces.filter (·.committed)).map (·.n)).sum

/-- Change piece `k` of the command of ticket `t`. -/
def State.modPiece (t k : Nat) (g : Piece → Piece) (s : State) : State :=
  s.modCmd t fun c => { c with pieces := c.pieces.mapIdx fun i p => if i = k then g p else p }

/-! The end of a zone (R200, R240, R398). -/

/-- Add the contribution of unit `b` of a descriptor, which holds unit `u` of its namespace, to its stripe (R378). -/
def State.stripeUnit (i b nsidx u : Nat) (s : State) : State :=
  let t := (s.zone i).sset
  let w := max 1 (s.setW t)
  s.addParity i (b / w) (b % w) t (s.mediaInfo nsidx u (s.unitData (nsidx + 1) u) (s.unitPi (nsidx + 1) u))

/-- Is the zone Full with everything admitted committed? -/
def State.zoneEnded (s : State) (i : Nat) : Bool :=
  let z := s.zone i
  z.state == .full && z.wpCommit == z.wpAdmit && z.kind == 1

/-- The reshape copies zone `i` when it ends, if it still holds rows in the source group (R398). -/
def State.reshapeZone (i : Nat) (s : State) : State :=
  match s.msh.reshape with
  | none => s
  | some (a, b) =>
    let z := s.zone i
    if z.hasrow && s.fld (ZPM_SSET.PGRP z.sset) == a && s.zoneEnded i && !s.msh.copies.contains i && decide (s.msh.copies.length < s.dnum 0x3305 0) &&
        !(s.med.migr.any fun m => m.index == i) then
      let rows := (s.ns z.nsidx).rspan + 1
      match s.chooseRun (s.groupSets b) rows with
      | some (t, r) => (s.modMsh fun m => { m with copies := m.copies ++ [i] }).startMigr i t r true rows
      | none => s
    else s

/-- A zone has ended: the parity of a last unit that is partly filled is complete (R379), its last chunks are programmed and padded
(R240), and a reshape may copy it. -/
def State.endZone (i : Nat) (s : State) : State :=
  let z := s.zone i
  let sh := 12 - (s.ns z.nsidx).bshift
  let b := z.wpCommit / 2 ^ sh
  let s := if z.wpCommit % 2 ^ sh = 0 || (s.fold i).ended then s else s.stripeUnit i b z.nsidx (s.zoneStart i / 2 ^ sh + b)
  (s.progTail i).reshapeZone i

/-- A zone that has become Full by its writes, with everything committed, ends; a Finish that has not committed ends it at its commit. The
Full transition is journalled where the piece that brought WP_ADMIT to ZCAP has committed (R200, R212). -/
def State.endDone (i : Nat) (s : State) : State :=
  let z := s.zone i
  if !s.zoneEnded i || (s.fold i).ended || s.hfe.ctx.any fun c => c.op == .zoneFinish && c.status.isNone && (c.zones.any fun e => e.1 == i) then s
  else (if z.wpAdmit = (s.ns z.nsidx).zcap then s.journalFullZone i else s).endZone i

/-! Failures (R145 to R147). -/

/-- The tub request of a piece that is dropped: withdrawn, or what it was granted freed. -/
def State.dropAsk (s : State) : State :=
  match Tab.get 0 s.tubs.hwRes tagFront with
  | 0 => s.modTubs fun t => { t with queueP := t.queueP.filter fun q => q.tag != tagFront }
  | h + 1 => freeFront h (s.modTubs fun t => { t with hwRes := Tab.set 0 t.hwRes tagFront 0 })

/-- The pieces that have not committed are dropped: their tubs freed, their zone's range voided or returned (R146). -/
def State.dropPieces (c : Cmd) (s : State) : State :=
  let left := c.pieces.filter fun p => !p.committed
  let s := each left (fun p s => match p.head with | 0 => (if p.asked then s.dropAsk else s) | h + 1 => freeFront h s) s
  let s := s.modMed fun m => { m with mapReads := m.mapReads.filter fun x => x.1 != c.ticket }
  if opPieces c.op && (s.ns (c.nsid - 1)).kind == 2 then
    let i := s.zoneOf c.nsid c.lba
    let len := (left.map (·.n)).sum
    let s := s.modZone i fun z => { z with pend := z.pend - left.length }
    (s.failRange i c.ticket (c.lba - s.zoneStart i + (c.n - len)) len).endDone i
  else s

/-- The command of ticket `t` fails with `st`: others proceed as if it had not been submitted. -/
def State.failCmd (t st : Nat) (s : State) : State :=
  match s.cmd t with
  | some c => if c.status.isSome then s else (s.outcome t st).dropPieces c
  | none => s

/-- A command is aborted by a reset: no completion, its context freed (R148). -/
def State.abortCmd (c : Cmd) (s : State) : State :=
  let live := c.status.isNone
  let s := s.modHfe fun h => { h with ctx := h.ctx.filter fun x => x.ticket != c.ticket }
  let s := (s.modMsh fun m => { m with recons := m.recons.filter fun r => r.ticket != c.ticket }).modMed fun m =>
    { m with mapReads := m.mapReads.filter fun x => x.1 != c.ticket }
  if live then s.dropPieces c else s

/-- Is a descriptor a read of a host command that is gone? -/
def State.readGone (s : State) (d : Desc) : Bool :=
  match d.work with
  | .hostRead t _ => (s.cmd t).isNone
  | .hostReread t _ => (s.cmd t).isNone
  | .recon t _ _ => (s.cmd t).isNone
  | .mapRead t _ _ => (s.cmd t).isNone
  | _ => false

/-- The host front end withdraws the queued reads of commands that are gone (R319). -/
def State.withdrawGone (s : State) : State :=
  each (s.drf.eng.map (·.1)) (fun e s =>
    let s := s.modEng e fun g =>
      { g with hwq := g.hwq.filter fun x => !s.readGone x.2, parked := g.parked.filter fun x => !s.readGone x.2 }
    each (List.range 4) (fun c s => s.setQueue e c ((s.queue e c).filter fun d => !s.readGone d)) s)
    (s.modMed fun m => { m with mapReads := m.mapReads.filter fun x => (s.cmd x.1).isSome })

/-- Abort every command of function `f`, the highest ticket first, with its tickets and held doorbells. -/
def State.abortFn (f : Nat) (s : State) : State :=
  let l := (s.hfe.ctx.filter fun c => c.fn == f).reverse
  let s := (each l State.abortCmd s).withdrawGone
  let s := s.modHfe fun h => { h with tickets := h.tickets.filter (fun t => t.fn != f), held := h.held.filter (fun d => d.fn != f) }
  s.modFn f fun r => { r with aers := [], events := [], masked := [] }

/-! Commits. -/

/-- Tub requests of a piece: data, areas and deltas (R377, R453). -/
def State.pieceTubs (s : State) (c : Cmd) (p : Piece) : Nat :=
  let sh := s.unitShift c.nsid
  let u := ceilDiv (p.lba + p.n) (2 ^ sh) - p.lba / 2 ^ sh
  let t := if (s.ns (c.nsid - 1)).kind = 2 then (s.zone (s.zoneOf c.nsid c.lba)).sset else s.rgSet (c.arg / 256)
  let w := max 1 (s.setW t)
  let stripes := if (s.ns (c.nsid - 1)).kind = 2 then
      let b := (p.lba - s.zoneStart (s.zoneOf c.nsid c.lba)) / 2 ^ sh
      (b + u + w - 1) / w - b / w
    else ceilDiv u w
  8 * u + ceilDiv u 16 + 9 * s.setP t * stripes

/-- The chain of a committed piece is named block by block, to be freed with its last block (R453). -/
def State.linkTub (nsidx u0 units head : Nat) (s : State) : State :=
  match head with
  | 0 => s
  | h + 1 =>
    let s := each (List.range units) (fun k s => freeTubUnit nsidx (u0 + k) s) s
    s.modHfe fun x => { x with
      tubBase := Tab.set 0 x.tubBase h u0, tubLeft := Tab.set 0 x.tubLeft h units,
      blkTub := (List.range units).foldl (fun l k => Tab.set 0 l (nsidx * 2 ^ 40 + u0 + k) (h + 1)) x.blkTub }

/-- Put the blocks of a piece, with what stands beside them. -/
def State.putBlocks (c : Cmd) (p : Piece) (s : State) : State :=
  each (List.range p.n) (fun k s => s.setBlock c.nsid (p.lba + k) (p.data.getD k 0) (p.metas.getD k 0)) s

/-- A piece of a zoned namespace commits in one step (R141, R212, R378). -/
def State.commitZoned (c : Cmd) (p : Piece) (s : State) : State :=
  let i := s.zoneOf c.nsid c.lba
  let sh := s.unitShift c.nsid
  let start := s.zoneStart i
  let s := s.putBlocks c p
  let lo := (s.zone i).wpCommit / 2 ^ sh
  let s := (s.modZone i fun z => { z with wpCommit := p.lba - start + p.n, pend := z.pend - 1 }).advance i
  let hi := (s.zone i).wpCommit / 2 ^ sh
  let s := each (List.range (hi - lo)) (fun k s => s.stripeUnit i (lo + k) (c.nsid - 1) (start / 2 ^ sh + lo + k)) s
  let s := s.linkTub (c.nsid - 1) (p.lba / 2 ^ sh) (ceilDiv (p.lba + p.n) (2 ^ sh) - p.lba / 2 ^ sh) p.head
  let s := s.progRange i c.fn (hi - lo) lo
  let w := max 1 (s.setW (s.zone i).sset)
  let s := if (s.zone i).wpCommit % 2 ^ sh = 0 then s else s.noteWriter i (hi % w) (hi / w / 4) c.fn
  s.endDone i

/-- The reclaim unit of a pair that still has room: the attached one, or a new one, attached at Bell time `bt` (R190, R210, R211). -/
def State.ruFor (rg ruh nsidx account bt : Nat) (s : State) : Option (Nat × State) :=
  match s.attached rg ruh with
  | some i => some (i, s)
  | none =>
    (s.newRu rg ruh nsidx .implicit bt).map fun r =>
      (r.1, ((r.2.modZpm fun z => { z with attachRu := Tab.set none z.attachRu (ruKey rg ruh) (some r.1) }).journalZone r.1).gcCheck rg account)

/-- Place the units `[u, u + n)` of a conventional piece, in commit order (R210, R229). -/
def State.placeUnits (c : Cmd) : Nat → Nat → State → State
  | 0, _, s => s
  | n + 1, u, s =>
    match s.ruFor (c.arg / 256) (c.arg % 256) (c.nsid - 1) c.fn c.bt with
    | none => s
    | some (i, s) =>
      let b := (s.zone i).wpCommit
      let s := s.setMap (c.nsid - 1) u (some (i, b))
      let s := (s.stripeUnit i b (c.nsid - 1) u).modZone i fun z => { z with wpCommit := b + 1, wpAdmit := b + 1 }
      let s := s.progRange i c.fn 1 b
      let s := if (s.zone i).wpCommit = s.rowUnits (s.zone i).sset then s.detachRu i c.bt else s
      State.placeUnits c n (u + 1) s

/-- A piece of a conventional namespace commits in one step. -/
def State.commitConv (c : Cmd) (p : Piece) (s : State) : State :=
  let sh := s.unitShift c.nsid
  let u := p.lba / 2 ^ sh
  let n := ceilDiv (p.lba + p.n) (2 ^ sh) - u
  (((s.putBlocks c p).fdpCount 0 (p.n * 2 ^ s.bshift c.nsid)).placeUnits c n u).linkTub (c.nsid - 1) u n p.head

/-- Room for `n` more units: in the attached reclaim unit, or a free row and descriptor for another. -/
def State.ruRoom (s : State) (rg ruh nsidx n : Nat) : Bool :=
  let more := decide (s.med.folds.length < 8192) && (s.newRu rg ruh nsidx .implicit 0).isSome
  match s.attached rg ruh with
  | some i => decide (n ≤ s.rowUnits (s.zone i).sset - (s.zone i).wpCommit) || more
  | none => more

/-- Does piece `k` of command `c` meet every condition of its commit (R127, R135, R139, R141, R407)? -/
def State.mayCommit (s : State) (c : Cmd) (k : Nat) : Bool :=
  match c.pieces[k]? with
  | none => false
  | some p =>
    c.dispatched && c.status.isNone && p.placed && p.fetched && !p.committed && (c.pieces.take k).all (·.committed) &&
      !s.hfe.stopped && s.fld HLD_STAT.STATE == 2 && s.clear c &&
      (if (s.ns (c.nsid - 1)).kind = 2 then
         !((s.writesOn (s.zoneOf c.nsid c.lba)).any fun d => decide (d.ticket < c.ticket))
       else s.ruRoom (c.arg / 256) (c.arg % 256) (c.nsid - 1) (s.units4k c.nsid p.n + 1))

/-- Commit piece `k` of the command of ticket `t`; the command completes with its last piece (R141). -/
def State.commitPiece (c : Cmd) (k : Nat) (s : State) : State :=
  match c.pieces[k]? with
  | none => s
  | some p =>
    let s := if (s.ns (c.nsid - 1)).kind = 2 then s.commitZoned c p else s.commitConv c p
    let s := s.modPiece c.ticket k fun p => { p with committed := true, data := [], metas := [] }
    if k + 1 = c.pieces.length then s.outcome c.ticket stOk else s

/-! Zone actions, deallocations and the other commands that commit as one step. -/

/-- Tubs of every block of a zone are freed and its contents dropped. -/
def State.dropZoneData (i : Nat) (s : State) : State :=
  let z := s.zone i
  let n := s.ns z.nsidx
  let start := s.zoneStart i
  let sh := 12 - n.bshift
  let u0 := start / 2 ^ sh
  let keys := (s.hfe.blkTub.filter fun e => e.1 / 2 ^ 40 == z.nsidx && decide (u0 ≤ e.1 % 2 ^ 40) && decide (e.1 % 2 ^ 40 < u0 + n.zoneBlocks / 2 ^ sh)).map (·.1)
  let s := each keys (fun k s => freeTubUnit z.nsidx (k % 2 ^ 40) s) s
  let inZone := fun k => k / 2 ^ 40 == z.nsidx + 1 && decide (start ≤ k % 2 ^ 40) && decide (k % 2 ^ 40 < start + n.zoneBlocks)
  s.modZpm fun x => { x with blocks := Tab.clear x.blocks inZone, blkMeta := Tab.clear x.blkMeta inZone }

/-- The rows of a descriptor are released for erase, and what the media hold of it is discarded (R203, R204, R248, R257). -/
def State.dropRow (i account : Nat) (why : RowEnd) (s : State) : State :=
  let s := ((s.dropMigr i).dropCopies fun c => c.index == i).releaseRows i account why
  (s.dropMedia i).modZone i fun z => { z with sset := 0, rownum := 0, wear := 0, hasrow := false }

/-- Everything that a zone holds is discarded; the voids of writes admitted after its Reset count from the last Reset's commit on
(R196). -/
def State.emptyZone (i account : Nat) (why : RowEnd) (s : State) : State :=
  let again := s.hfe.ctx.countP fun c => c.op == .zoneReset && c.status.isNone && c.zones.any fun z => z.1 == i
  let s := (s.dropZoneData i).dropRow i account why
  s.modZone i fun z =>
    let runs := if 2 ≤ again then [] else z.voidNew
    { z with wpCommit := 0, fullJ := false, void := !runs.isEmpty, voidRuns := runs, voidNew := if 2 ≤ again then z.voidNew else [] }

/-- A Reset commits (R201, R204, R248). -/
def State.commitReset (i account : Nat) (s : State) : State := ((s.emptyZone i account .reset).journalZone i).tally 2208 1

/-- The row of an Offline zone goes to media management (Table 7.6): its units are tested. -/
def State.handRows (i : Nat) (s : State) : State :=
  let z := s.zone i
  let dies := (List.range (s.setW z.sset + s.setP z.sset)).filterMap fun p => s.posDie z.sset p
  let s := (((s.dropMigr i).dropCopies fun c => c.index == i).dropZoneData i).dropMedia i
  let s := each z.rowList (fun r s =>
    let row : Row := { offline := true, erasing := dies.length }
    let s := s.modZpm fun x => { x with rows := Tab.set {} x.rows (z.sset * 16384 + r) row }
    each dies (fun die s =>
      let u := s.rowUnit die r
      (s.modUnit die u fun x => { x with state := .test }).submitErase (die / 16) clsBack
        (s.opDesc 4 4 512 die u 0 0 (.testUnit die u (z.sset * 16384 + r) 0))) s) s
  (s.modZone i fun z => { z with hasrow := false, sset := 0, rownum := 0, wear := 0 }).journalZone i

/-- A Zone Management Send commits as one step (R201). -/
def State.commitAct (c : Cmd) (s : State) : State :=
  each c.zones (fun e s =>
    let i := e.1
    match c.op with
    | .zoneReset => s.commitReset i c.fn
    | .zoneOffline => s.handRows i
    | .zoneFinish =>
      let s := s.journalFullZone i
      if s.zoneEnded i then s.endZone i else s
    | _ => if e.2 = 0 then s else (if e.2 = 2 then s.dropRow i c.fn .other else s).journalZone i) s

/-- A deallocation commits (R233): the map entries of whole units go to LOC 0b00, their contents with them. -/
def State.commitDealloc (c : Cmd) (s : State) : State :=
  each c.ranges (fun r s =>
    let sh := s.unitShift c.nsid
    let a := ceilDiv r.1 (2 ^ sh)
    let b := (r.1 + r.2) / 2 ^ sh
    let s := each (List.range r.2) (fun k s => s.dropBlock c.nsid (r.1 + k)) s
    each (List.range (b - a)) (fun k s => freeTubUnit (c.nsid - 1) (a + k) (s.setMap (c.nsid - 1) (a + k) none)) s) s

/-- A Reclaim Unit Handle Update commits (R210). -/
def State.commitRuhUpdate (c : Cmd) (s : State) : State :=
  each (c.ranges.map (·.1)) (fun pid s =>
    match s.attached (pid / 256) ((s.ns (c.nsid - 1)).handles.getD (pid % 256) 0) with
    | some i => s.detachRu i c.bt
    | none => s) s

/-- Is the outcome of a command that needs no piece due? -/
def State.due (s : State) (c : Cmd) : Bool :=
  c.status.isNone && !s.hfe.stopped &&
  (match c.op with
   | .fence => !(s.hfe.ctx.any fun d => d.fn == c.fn && d.sqid == c.sqid && decide (d.ticket < c.ticket))
   | .flush => c.dispatched && s.orderOk c && !(s.hfe.ctx.any fun d => decide (d.ticket < c.ticket) && d.status.isNone && opPieces d.op && (d.nsid == c.nsid || c.nsid == 0xFFFFFFFF))
   | .zoneOpen => c.dispatched && s.clear c
   | .zoneClose => c.dispatched && s.clear c
   | .zoneFinish => c.dispatched && s.clear c
   | .zoneReset => c.dispatched && s.clear c
   | .zoneOffline => c.dispatched && s.clear c
   | .deallocate => c.dispatched && s.clear c
   | .ruhUpdate => c.dispatched && s.orderOk c
   | .ruhStatus => c.dispatched && s.orderOk c
   | .report => c.dispatched && s.orderOk c
   | _ => false)

/-- The outcome of a due command. -/
def State.finish (c : Cmd) (s : State) : State :=
  let s := match c.op with
    | .deallocate => s.commitDealloc c
    | .ruhUpdate => s.commitRuhUpdate c
    | o => if opZone o then s.commitAct c else s
  s.outcome c.ticket stOk

/-- Complete what is due and post what can be posted, until nothing more is. -/
def State.settleN : Nat → State → State
  | 0, s => s
  | n + 1, s =>
    let s := s.postAll
    match s.hfe.ctx.find? fun c => s.due c with
    | some c => State.settleN n (s.finish c)
    | none => s

/-- Complete what is due (each command needs at most two rounds); media management goes on with what that has made ready. -/
def State.settle (s : State) : State := (s.settleN (2 * s.hfe.ctx.length + 1)).postAll.mediaTurn

/-! Dispatch (R129). -/

/-- What an I/O command does at its dispatch. -/
def State.dispatchIo (c : Cmd) (s : State) : State :=
  match c.op with
  | .read => s.startRead c
  | .verify => s.startRead c
  | _ => s

/-! Placement of a piece (R203, R210, R241). -/

/-- Piece `k` of a command waits for an erased row: event 229 at most once per namespace per frame (R203, R204). -/
def State.rowWait (c : Cmd) (k : Nat) (s : State) : State :=
  let n := c.nsid - 1
  let s := s.modPiece c.ticket k fun p => { p with rowWait := true }
  if (s.ns n).waitEv then s else (s.modNs n fun x => { x with waitEv := true }).assertEvent 229

/-- The piece goes to media with descriptor `i`, when that has a fold record or may take one (R241); else it waits, event 245. -/
def State.placeAt (c : Cmd) (k i : Nat) (s : State) : State :=
  if s.foldRoom i then (s.openFold i).modPiece c.ticket k fun p => { p with placed := true } else s.assertEvent 245

/-- Dispatch piece `k` of command `c` to media: one without a free row waits, and so does one without a free descriptor in the reserve
of reclaim units (R211). -/
def State.placePiece (c : Cmd) (k : Nat) (s : State) : State :=
  let n := c.nsid - 1
  if (s.ns n).kind = 2 then
    let i := s.zoneOf c.nsid c.lba
    if s.hfe.ctx.any fun d => opZone d.op && d.status.isNone && decide (d.ticket < c.ticket) && d.nsid == c.nsid && (d.zones.any fun z => z.1 == i) then s
    else if (s.zone i).hasrow then s.placeAt c k i
    else if !s.foldRoom i then s.assertEvent 245
    else
      match s.assignRows i ((s.ns n).rspan + 1) (s.groupSets (s.ns n).pgrp) with
      | some s => s.placeAt c k i
      | none => s.rowWait c k
  else if !s.foldRoom ((s.attached (c.arg / 256) (c.arg % 256)).getD (2 ^ 20)) then s.assertEvent 245
  else
    match s.ruFor (c.arg / 256) (c.arg % 256) n c.fn c.bt with
    | some (i, s) =>
      let u := match c.pieces[k]? with
        | some p => s.cmdUnits { c with lba := p.lba, n := p.n }
        | none => (0, 0)
      (s.mapLookup c.ticket n u.1 u.2).placeAt c k i
    | none => if s.ruDescriptor.isNone then s else s.rowWait c k

/-! Admission of I/O commands (R123, R125). -/

/-- Does the function have the namespace attached? -/
def State.nsFor (s : State) (f nsid : Nat) : Bool := s.nsExists nsid && (s.ns (nsid - 1)).attached.contains f

/-- Descriptors of the zones of a range with WP_ADMIT now. -/
def State.zoneMarks (s : State) (nsid lba n : Nat) : List (Nat × Nat) :=
  if (s.ns (nsid - 1)).kind ≠ 2 || n = 0 then []
  else
    let a := s.zoneOf nsid lba
    (List.range (s.zoneOf nsid (lba + n - 1) - a + 1)).map fun k => (a + k, (s.zone (a + k)).wpAdmit)

/-- Would the command transfer more than 2 MiB (R142)? -/
def State.tooLong (s : State) (nsid n : Nat) : Bool := decide (2 ^ 21 < n * 2 ^ s.bshift nsid)

/-- Admit a read or verify. -/
def State.admitRead (c : Cmd) (s : State) : State :=
  if s.nsFor c.fn c.nsid = false then s.outcome c.ticket stNamespace
  else if c.op = .read ∧ s.tooLong c.nsid c.n = true then s.outcome c.ticket stField
  else if (s.ns (c.nsid - 1)).nsze < c.lba + c.n then s.outcome c.ticket stLba
  else s.modCmd c.ticket fun x => { x with zones := s.zoneMarks c.nsid c.lba c.n }

/-- Admit a write, Write Zeroes or append of `c.n` blocks; `dspec` is DTYPE * 2^16 + DSPEC. DESIGN CHOICE (log entry 51): the transfer
limit and LBA Out of Range come before the checks of R192; a write without DTYPE 2 takes the first handle of the namespace's list
(R209). -/
def State.admitPieces (c : Cmd) (dspec : Nat) (s : State) : State :=
  let n := s.ns (c.nsid - 1)
  if s.nsFor c.fn c.nsid = false then s.outcome c.ticket stNamespace
  else if s.on MSH_STAT.TBLFULL then s.outcome c.ticket stWriteProt
  else if c.op ≠ .writeZeroes ∧ s.tooLong c.nsid c.n = true then s.outcome c.ticket stField
  else if n.nsze < c.lba + c.n then s.outcome c.ticket stLba
  else if n.kind = 2 then
    let i := s.zoneOf c.nsid c.lba
    match s.writeCheck i (c.op == .append) c.lba c.n with
    | some st => (s.outcome c.ticket st).limitEvent st
    | none =>
      let lba := s.zoneStart i + (s.zone i).wpAdmit
      let ps := piecesOf n.bshift lba c.n
      let s := s.modCmd c.ticket fun x => { x with lba := lba, pieces := ps, dw0 := if c.op = .append then lba else 0 }
      let s := if c.op = .append then s.tally 2207 1 else s
      s.admitWrite i c.ticket c.n ps.length
  else if c.op = .append then s.outcome c.ticket stOpcode
  else
    let fdp := s.zpm.fdpOn && dspec / 2 ^ 16 == 2
    let rg := if fdp then slice dspec 8 7 else 0
    let ph := if fdp then dspec % 256 else 0
    if fdp && (decide (s.dnum 0x3101 0 ≤ rg) || decide (n.handles.length ≤ ph)) then s.outcome c.ticket stField
    else s.modCmd c.ticket fun x => { x with pieces := piecesOf n.bshift c.lba c.n, arg := rg * 256 + n.handles.getD ph 0 }

/-- The action of an operation. -/
def opAct : Op → ZAct
  | .zoneOpen => .openZ
  | .zoneClose => .close
  | .zoneFinish => .finish
  | .zoneReset => .reset
  | _ => .offline

/-- Admit a Zone Management Send (R191, R193, R194). -/
def State.admitAct (c : Cmd) (all : Bool) (s : State) : State :=
  let n := s.ns (c.nsid - 1)
  let a := opAct c.op
  if s.nsFor c.fn c.nsid = false then s.outcome c.ticket stNamespace
  else if n.kind ≠ 2 then s.outcome c.ticket stOpcode
  else if all then
    if a = .openZ ∧ s.openAllOk (c.nsid - 1) = false then (s.outcome c.ticket stTooManyOpen).limitEvent stTooManyOpen
    else
      let l := (s.nsZones (c.nsid - 1)).filter fun i => s.actApplies a i
      let marks := l.map fun i => (i, s.actMark a i)
      (each l (fun i s => s.actAdmit a i) s).modCmd c.ticket fun x => { x with zones := marks }
  else if n.nsze ≤ c.lba then s.outcome c.ticket stLba
  else if c.lba % n.zoneBlocks ≠ 0 then s.outcome c.ticket stField
  else
    let i := s.zoneOf c.nsid c.lba
    match s.actCheck a i with
    | some st => (s.outcome c.ticket st).limitEvent st
    | none =>
      let mark := s.actMark a i
      (s.actAdmit a i).modCmd c.ticket fun x => { x with zones := [(i, mark)] }

/-- Does a state match the filter of Report Zones? -/
def reportFilter (f : Nat) (st : ZState) : Bool :=
  match f with
  | 0 => true
  | 1 => st == .empty
  | 2 => st == .implicit
  | 3 => st == .explicit
  | 4 => st == .closed
  | 5 => st == .full
  | 6 => st == .readOnly
  | 7 => st == .offline
  | _ => false

/-- What Report Zones says of a zone: state, attributes, ZSLBA, capacity, write pointer (R195). -/
def State.reportZone (s : State) (i : Nat) : List Nat :=
  let z := s.zone i
  let start := s.zoneStart i
  let wp := match z.state with
    | .full => 2 ^ 64 - 1
    | .readOnly => 2 ^ 64 - 1
    | .offline => 2 ^ 64 - 1
    | _ => start + z.wpAdmit
  [z.state.code, z.zfc.toNat + 2 * z.fzr.toNat + 4 * z.rzr.toNat, start, (s.ns z.nsidx).zcap, wp]

/-- Admit Report Zones or Extended Report Zones: the answer as it stands now (R195). -/
def State.admitReport (c : Cmd) (zra zrasf numd : Nat) (part : Bool) (s : State) : State :=
  let n := s.ns (c.nsid - 1)
  if s.nsFor c.fn c.nsid = false then s.outcome c.ticket stNamespace
  else if n.kind ≠ 2 then s.outcome c.ticket stOpcode
  else if 1 < zra ∨ 7 < zrasf then s.outcome c.ticket stField
  else if n.nsze ≤ c.lba then s.outcome c.ticket stLba
  else
    let l := (s.nsZones (c.nsid - 1)).filter fun i => decide (s.zoneOf c.nsid c.lba ≤ i) && reportFilter zrasf (s.zone i).state
    let room := ((numd + 1) * 4 - 64) / 64
    let out := l.take room
    let words := (if part then out.length else l.length) :: out.flatMap fun i => s.reportZone i
    s.modCmd c.ticket fun x => { x with got := words.map fun v => (0, v) }

/-- Admit a deallocation. -/
def State.admitDealloc (c : Cmd) (s : State) : State :=
  let n := s.ns (c.nsid - 1)
  if s.nsFor c.fn c.nsid = false then s.outcome c.ticket stNamespace
  else if n.kind ≠ 1 then s.outcome c.ticket stOpcode
  else if c.ranges.any fun r => decide (n.nsze < r.1 + r.2) then s.outcome c.ticket stLba
  else s

/-- Admit an I/O Management command. -/
def State.admitRuh (c : Cmd) (mo : Nat) (s : State) : State :=
  let n := s.ns (c.nsid - 1)
  if s.nsFor c.fn c.nsid = false then s.outcome c.ticket stNamespace
  else if n.kind ≠ 1 then s.outcome c.ticket stOpcode
  else if mo ≠ 1 || !s.zpm.fdpOn then s.outcome c.ticket stField
  else if c.op = .ruhUpdate ∧ (c.ranges.any fun r => decide (s.dnum 0x3101 0 ≤ r.1 / 256) || decide (n.handles.length ≤ r.1 % 256)) = true then s.outcome c.ticket stField
  else if c.op = .ruhStatus then
    let words := (List.range (s.dnum 0x3101 0)).flatMap fun rg => (List.range n.handles.length).flatMap fun ph =>
      let ruh := n.handles.getD ph 0
      [rg * 256 + ph, ruh, match s.attached rg ruh with | some i => s.rowUnits (s.zone i).sset - (s.zone i).wpCommit | none => s.rowUnits (s.rgSet rg)]
    s.modCmd c.ticket fun x => { x with got := words.map fun v => (0, v) }
  else s

end Sys2Proof.Machine
end

