-- ==== Sys2Proof/Machine/FnOps.lean ====
section
/-! DEFINITION. Machine/FnOps.lean: resets of functions and ports, observation of doorbells, as operations (R110, R121 to
R124, R148, R180). -/

namespace Sys2Proof.Machine

/-- The queues of function `f` are gone. -/
def State.dropQueues (f : Nat) (s : State) : State :=
  s.modHfe fun h => { h with sqs := Tab.clear h.sqs (fun k => k / 65536 == f), cqs := Tab.clear h.cqs (fun k => k / 65536 == f) }

/-- CC.EN of function `f` goes to 0, with everything a controller reset does (R148, R162); event 200. -/
def State.disableFn (f : Nat) (s : State) : State :=
  let was := (s.fn f).en
  let s := ((s.abortFn f).dropQueues f).setCredit true f |>.setCredit false f
  (s.modFn f fun r => { r with en := false, rdy := false, wrr := [], rrQ := 0, rrLeft := 0, deficit := 0, feats := [], miResp := [] }).assertIf was 200

/-- The effects of Table 5.8 on function `f`. -/
def State.clearFn (f : Nat) (s : State) : State :=
  let s := (s.disableFn f).clearMailbox f
  s.modFn f fun r => { r with
    msixEn := false, msixMask := false, msixTab := [], msixOpen := [], msixPend := [], busMaster := false, cfs := false, d3 := false }

/-- A Function Level Reset of function `f` (Table 5.8); event 215 (Table 5.9). -/
def State.flrFn (f : Nat) (s : State) : State := (s.clearFn f).assertEvent 215

/-- Function `f` with the configuration space of a conventional reset (R98, R101, R106, R110). -/
def State.clearCfg (f : Nat) (s : State) : State :=
  s.modFn f fun r => { r with
    pmeEn := false, pmeStat := false, mps := 128, mrrs := 512, tag10 := false, atsEn := false, aerUnc := 0, aerCor := 0, aerHdr := [] }

/-- The virtual functions of port `p` that exist. -/
def State.portVfs (s : State) (p : Nat) : List Nat := (s.portFns p).filter fun f => !s.isPf f && s.fnExists f

/-- VF Enable of port `p` is cleared (R180). -/
def State.clearVfs (p : Nat) (s : State) : State :=
  (each (s.portVfs p) (fun f s => (s.flrFn f).clearCfg f) s).modPort p fun x => { x with vfNum := 0 }

/-- The link of port `p` is down, in LTSSM state `l`. -/
def State.linkDown (p l : Nat) (s : State) : State :=
  (((((s.setFld (PCI_LSTAT.LTSSM p) l).put (PCI_LSTAT.LINKUP p) false).put (PCI_LSTAT.FLIT p) false).setFld (PCI_LSTAT.RATE p) 0).setFld
    (PCI_LSTAT.WIDTH p) 0).setFld (PCI_LSTAT.ACTWIDTH p) 0 |>.setFld (PCI_LSTAT.L1SUB p) 0

/-- CFG_READY of port `p`. -/
def cfgReady (p : Nat) : Fld := if p = 1 then PCI_CTRL.CFG_READY1 else PCI_CTRL.CFG_READY0

/-- MSI-X vectors in force of function `f` (R103, R104). -/
def State.vectors (s : State) (f : Nat) : Nat :=
  match (s.fn f).vecs with
  | 0 => if f < 2 then 2048 else 24
  | n + 1 => n + 1

/-- Port `p` and all its functions are reset (R110): functions with their configuration space, VF Enable, CFG_READY; values that wait
for a conventional reset come into force (R98, R103). -/
def State.resetPort (p : Nat) (s : State) : State :=
  let s := each ((s.portFns p).filter s.fnExists) (fun f s => (s.clearFn f).clearCfg f) s
  let sub := s.dnum 0x1005 0
  let s := s.modPort p fun x => { x with
    vfNum := 0, bus := 0, ats := [], l0pReq := 0, aspm := 0, ltr := false, ptm := false, clkOff := false, cfsAll := false, subsys := some sub }
  let s := s.put (cfgReady p) false
  let v := s.fnSetting p 8
  s.modFn p fun r => { r with vecs := v }

/-- The highest rate a port advertises (R90): 0b000 and 0b111 act as 0b110. -/
def State.maxRate (s : State) : Nat :=
  match s.fld PCI_CTRL.MAXRATE with
  | 0 => 6
  | 7 => 6
  | r => r

/-- Link training of port `p` starts, in Detect (R90, R92, R107, Table 3.5). -/
def State.startTraining (p : Nat) (s : State) : State :=
  let r := s.maxRate
  let f := !s.on PCI_CTRL.FLIT_DIS
  (s.linkDown p 0).modPort p fun x => { x with training := true, trainRate := r, trainFlit := f }

/-- Does port `p` exist in the running configuration (R89)? -/
def State.portExists (s : State) (p : Nat) : Bool := p == 0 || (p == 1 && s.on PCI_STRAP.BIF)

/-- The link of port `p` is lost (R112): a conventional reset, DOWN counted, events 192 and 193, training again. -/
def State.loseLink (p : Nat) (s : State) : State :=
  if s.portExists p && s.on (PCI_LSTAT.LINKUP p) then
    ((((s.resetPort p).startTraining p).count (PCI_ERRCNT.DOWN p) 1).assertEvent (192 + p)).settle
  else s

/-- Does the condition of Table 21.1 for a PCIe loopback of port `p` hold at depth `d`, the LTSSM being in state `l` at depth 3: L0 when it
starts, Loopback while it runs? -/
def State.pcieLoopOk (s : State) (p d l : Nat) : Bool :=
  if d = 3 then s.fld (PCI_LSTAT.LTSSM p) == l && ((s.portFns p).all fun f => !(s.fn f).en)
  else (s.port p).perst || s.fld (PCI_LSTAT.LTSSM p) == 7

/-- End the PCIe loopbacks whose condition holds no longer (R623). -/
def State.endPcieLoops (s : State) : State := s.endLoops 5 fun l => l.1 == 0 && !s.pcieLoopOk l.2.1 l.2.2 8

/-! Doorbells (R121 to R124). -/

/-- A doorbell write is ignored (R124): counted, event 202, an Error asynchronous event of information `info`. -/
def State.doorbellError (f info : Nat) (s : State) : State :=
  ((s.count HFE_ERRCNT.DBERR 1).assertEvent 202).raiseAen f 0 info 1

/-- `k` new entries of a queue take consecutive tickets, one each in queue order (R121). -/
def State.takeTickets (f q : Nat) : Nat → State → State
  | 0, s => s
  | k + 1, s =>
    let t := s.fld HFE_TICKET.TICKET
    let s := s.modHfe fun h => { h with tickets := h.tickets ++ [{ ticket := t, fn := f, sqid := q }] }
    let s := s.modSq f q fun x => { x with tail := (x.tail + 1) % max 1 x.size }
    State.takeTickets f q k (s.setFld HFE_TICKET.TICKET (t + 1))

/-- A doorbell write is observed: all the entries it brings take consecutive tickets (R121); true when it stays deferred, its function
holding as many contexts as it may (R122). -/
def State.observe (d : Doorbell) (s : State) : Bool × State :=
  let q := s.sq d.fn d.qid
  if q.size = 0 then (false, s.doorbellError d.fn 0)
  else if q.size ≤ d.tail ∨ (d.tail + q.size - q.head) % q.size < (q.tail + q.size - q.head) % q.size then (false, s.doorbellError d.fn 1)
  else if s.cmdLimit d.fn ≤ s.ctxHeld d.fn then (true, s)
  else (false, s.takeTickets d.fn d.qid ((d.tail + q.size - q.tail) % q.size))

/-- A completion queue head doorbell write is observed: it frees entries, so that waiting completions and events are posted (R124). -/
def State.observeCq (f qid head : Nat) (s : State) : State :=
  let q := s.cq f qid
  let k := (head + q.size - q.head) % max 1 q.size
  if q.size = 0 then s.doorbellError f 0
  else if q.size ≤ head ∨ q.used < k then s.doorbellError f 1
  else (postAens 8 f (s.modCq f qid fun q => { q with head := head, used := q.used - k })).settle

/-- Observe the held doorbell writes in arrival order; the submission doorbells of a function at its limit stay (R122). -/
def State.observeHeld : List Doorbell → List Nat → State → State
  | [], _, s => s
  | d :: l, blocked, s =>
    if d.cq then State.observeHeld l blocked (s.observeCq d.fn d.qid d.tail)
    else if blocked.contains d.fn then State.observeHeld l blocked (s.modHfe fun h => { h with held := h.held ++ [d] })
    else
      match s.observe d with
      | (true, s') => State.observeHeld l (d.fn :: blocked) (s'.modHfe fun h => { h with held := h.held ++ [d] })
      | (false, s') => State.observeHeld l blocked s'

/-- Observe what can be observed: nothing while ADMIT_EN is 0 or a dump is committed (R143, Table 4.6). -/
def State.observeAll (s : State) : State :=
  if s.on HFE_CTRL.ADMIT_EN && !s.hfe.stopped then
    State.observeHeld s.hfe.held [] (s.modHfe fun h => { h with held := [] })
  else s

/-- Every function's CSTS.RDY follows CC.EN and ADMIT_EN (R518). -/
def State.setReady (s : State) : State :=
  let a := s.on HFE_CTRL.ADMIT_EN
  s.modHfe fun h => { h with fns := h.fns.map fun e => (e.1, { e.2 with rdy := e.2.en && a }) }

end Sys2Proof.Machine
end

