-- ==== Sys2Proof/Machine/RecOps.lean ====
section
/-! DEFINITION. Machine/RecOps.lean: the event recorder's flash areas and its window, and Tally snapshots, as operations
(19_event_recorder_tally.md). -/

namespace Sys2Proof.Machine

/-! Flash areas (R597 to R602). -/

/-- A last-area unit is full: the next one is taken, erased first when it holds records (R600). -/
def State.rotateLast (s : State) : State :=
  let cur := s.evr.lastUnits.getLastD (s.lastArea.headD 0)
  let u := if s.evr.lastUnits.isEmpty then s.lastArea.headD 0 else s.nextLast cur
  s.modEvr fun e => { e with lastUnits := dropFrom u e.lastUnits ++ [u], lastPages := 0, last := e.last.filter fun r => r.1 != u }

/-- One SLC page of a flush is programmed (R597, R600): its records are in the first area while it has pages, else in the
last area. The flush ends with its last page. -/
def State.flushedPage (s : State) : State :=
  let n := min recsPerPage s.evr.flushing
  let l := s.evr.ring.take n
  let s := s.modEvr fun e => { e with ring := e.ring.drop n, flushing := e.flushing - n,
                                      flushed := (e.flushed ++ l).drop ((e.flushed.length + e.ring.length) - 1024) }
  let s :=
    if !s.on EVR_STAT.FIRSTFULL then
      let s := s.modEvr fun e => { e with first := e.first ++ l, firstPages := e.firstPages + 1 }
      s.put EVR_STAT.FIRSTFULL (decide (slcPagesPerUnit ≤ s.evr.firstPages))
    else
      let s := if s.evr.lastUnits.isEmpty || decide (slcPagesPerUnit ≤ s.evr.lastPages) then s.rotateLast else s
      let u := s.evr.lastUnits.getLastD 0
      s.modEvr fun e => { e with last := e.last ++ l.map fun r => (u, r), lastPages := e.lastPages + 1 }
  if s.evr.flushing = 0 then (s.put EVR_STAT.BUSY false).flushWaiting else s.flushPage

/-- Every last-area unit is erased and the ring's flushed records are discarded (R602). -/
def State.clearLast (s : State) : State :=
  (each s.evr.lastUnits State.eraseArea s).modEvr fun e => { e with last := [], lastUnits := [], lastPages := 0, flushed := [] }

/-- The first area is erased (R602). -/
def State.clearFirst (s : State) : State :=
  let s := match s.firstArea with
    | some u => s.eraseArea u
    | none => s
  (s.modEvr fun e => { e with first := [], firstPages := 0, flushed := [] }).put EVR_STAT.FIRSTFULL false

/-! The window (R601). -/

/-- Every record held: in the ring, in the first area or in the last area. -/
def State.heldRecs (s : State) : List Rec := s.evr.ring ++ s.evr.flushed ++ s.evr.first ++ s.evr.last.map (·.2)

/-- EVR_WST.STATE codes. -/
def wstFetching : Nat := 0
/-- PRESENT -/
def wstPresent : Nat := 1
/-- GONE -/
def wstGone : Nat := 2
/-- NOT_YET -/
def wstNotYet : Nat := 3

/-- A fetch of the record of the cursor starts. -/
def State.startFetch (s : State) : State := s.setFld EVR_WST.STATE wstFetching

/-- The fetch ends: the record in the window, GONE or NOT_YET; CRCERR for a record read from flash whose CRC fails. -/
def State.endFetch (crcOk : Bool) (s : State) : State :=
  let q := s.fld EVR_CUR.SEQ
  match s.heldRecs.find? fun r => r.seq == q with
  | some r =>
    let ring := (s.evr.ring ++ s.evr.flushed).any fun x => x.seq == q
    let w := r.words
    let s := each (List.range 24) (fun i s => s.setFld (EVR_WIN.WORD i) (w.getD i 0)) s
    (s.setFld EVR_WST.STATE wstPresent).put EVR_WST.CRCERR (!ring && !crcOk)
  | none => (s.setFld EVR_WST.STATE (if q < s.evr.nextSeq then wstGone else wstNotYet)).put EVR_WST.CRCERR false

/-- The lowest held SEQ above the cursor. -/
def State.nextHeld (s : State) : Option Nat :=
  let q := s.fld EVR_CUR.SEQ
  ((s.heldRecs.map (·.seq)).filter fun x => decide (q < x)).foldl (fun m x => match m with | none => some x | some y => some (min x y)) none

/-- STEP (R601). -/
def State.stepCursor (s : State) : State :=
  match s.nextHeld with
  | some q => (s.setFld EVR_CUR.SEQ q).startFetch
  | none => s.setFld EVR_WST.STATE wstNotYet

/-! Tally snapshots (R585 to R587). -/

/-- A snapshot is requested for the next frame start. -/
def State.requestSnap (s : State) : State := s.modTly fun t => { t with req := true }

/-- The value of every counter with a nonzero value now. -/
def State.tallyNow (s : State) : Tab Nat :=
  let c := (s.memc.conflict.map fun e => (2048 + e.1, e.2)).foldl (fun t e => Tab.set 0 t e.1 e.2) s.tly.cnt
  Tab.set 0 c 2200 (s.fld HFE_TICKET.TICKET)

/-- The epoch after `e`: 1 to 2^32 - 1, then 1. -/
def nextSnapEpoch (e : Nat) : Nat := if e = 2 ^ 32 - 1 then 1 else e + 1

/-- Did counter `n` rise by more than `thr` since `old`, modulo its width? -/
def rose (n old new thr : Nat) : Bool :=
  let w := if 2048 ≤ n ∧ n < 2200 then 2 ^ 32 else 2 ^ 64
  decide (thr < (new + w - old % w) % w)

/-- A snapshot: all counters in one cycle; at most 8 are kept; THRESH triggers compare with the previous one (R591). -/
def State.takeSnap (s : State) : State :=
  let e := nextSnapEpoch (s.fld TLY_STAT.EPOCH)
  let bt := s.bellTime
  let v := s.tallyNow
  let old := (s.tly.snaps.head?.map (·.values)).getD []
  let had := !s.tly.snaps.isEmpty
  let s := (s.modTly fun t => { t with req := false, snaps := ({ epoch := e, bt := bt, values := v } :: t.snaps).take 8 }).setFld TLY_STAT.EPOCH e
  if had then
    each (s.triggers 2 fun _ => true) (fun t s =>
      let n := s.dnum (0x6010 + t) 2
      if rose n (Tab.get 0 old n) (Tab.get 0 v n) (s.dnum (0x6010 + t) 5) then s.fire t t n else s) s
  else s

/-- The snapshot of a frame start (R585). -/
def State.frameSnap (s : State) : State :=
  if s.tly.req || s.bell.frame % max 1 (s.dnum 0x5F00 0) == 0 then s.takeSnap else s

end Sys2Proof.Machine
end

