-- ==== Sys2Proof/Machine/WorkOps.lean ====
section
/-! DEFINITION. Machine/WorkOps.lean: what a hardware owner does when its descriptor completes (R231, R232, R237,
R239 to R249, R253, R256, R259, R365, R380 to R382, R422, R597). -/

namespace Sys2Proof.Machine

/-- Completion statuses of Table 9.5. -/
def csOk : Nat := 0
/-- OK_CORRECTED -/
def csCorrected : Nat := 1
/-- DIE_BUSY -/
def csBusy : Nat := 2
/-- PROG_FAIL -/
def csProgFail : Nat := 3
/-- ERASE_FAIL -/
def csEraseFail : Nat := 4
/-- UNCORRECTABLE -/
def csUncorr : Nat := 5
/-- TIMEOUT -/
def csTimeout : Nat := 6
/-- FENCED -/
def csFenced : Nat := 7
/-- ABORTED -/
def csAborted : Nat := 8
/-- DEFERRED_BUDGET -/
def csDeferred : Nat := 9
/-- CAL_PRECOND -/
def csPrecond : Nat := 10

/-- What an owner learns of a completed descriptor. -/
structure Ended where
  status : Nat
  maxbits : Nat := 0
  retry : Nat := 0
  guardBad : Bool := false
  deriving DecidableEq, Repr

/-- Did the descriptor complete well? -/
def Ended.ok (r : Ended) : Bool := decide (r.status ≤ csCorrected)

/-- Health counts of 0x7004: program failures, erase failures (Table 7.8). -/
def hcProg : Nat := 1
/-- erase failures -/
def hcErase : Nat := 2

/-- Has a READBACK passed (R244): every codeword on its first attempt, within the limit of 0x3206:00? -/
def State.backPassed (s : State) (r : Ended) : Bool := r.ok && r.retry == 0 && decide (r.maxbits ≤ s.dnum 0x3206 0)

/-- Is the page not readable where it lies: UNCORRECTABLE, TIMEOUT or FENCED (R381)? -/
def Ended.unreadable (r : Ended) : Bool := r.status == csUncorr || r.status == csTimeout || r.status == csFenced

/-- One tested or replaced unit of an Offline zone's row is done: the row returns to the free rows with the last one (R204), unless it
has left its set (R260). -/
def State.testDone (k : Nat) (s : State) : State :=
  let r := Tab.get {} s.zpm.rows k
  if !r.out && decide (r.erasing ≤ 1) then s.modZpm fun z => { z with rows := Tab.erase z.rows k }
  else s.modZpm fun z => { z with rows := Tab.set {} z.rows k { r with erasing := r.erasing - 1 } }

/-- The end of a host read (R365, R381). -/
def State.hostReadDone (e cls : Nat) (d : Desc) (t u : Nat) (again : Bool) (r : Ended) (s : State) : State :=
  match s.cmd t with
  | none => s
  | some c =>
    let recon := fun (g : Bool) (s : State) =>
      match s.placeOf c.nsid u with
      | some (i, b) => s.startRecon g t u i b
      | none => s.readFailed t stUnrecovered
    if r.ok then
      if !r.guardBad then s.readDone t |> fun s => if again then s.guardCandidate c.nsid u else s
      else
        let s := s.noteError 0x09 144 1 144
        if again then recon true s else s.submitHw e cls { d with work := .hostReread t u }
    else if r.status = csUncorr ∨ r.status = csTimeout ∨ r.status = csFenced then recon again s
    else s.submitHw e cls d

/-- The end of an SLC program (R225, R237, R380): a failed one is reissued to another page of the die, or, when its die has just failed,
counts as complete. One of a descriptor that a Reset has emptied meanwhile is discarded (R248). -/
def State.slcProgDone (die i p c gen unit page : Nat) (r : Ended) (s : State) : State :=
  if !(s.fold i).live || (s.fold i).gen != gen then s
  else if r.ok then s.slcDone i p c die unit page
  else if r.status = csProgFail then ((s.healthCount hcProg).replaceSlcUnit die unit).progChunk i p c
  else s.progChunk i p c

/-! Pages that media management reads: the Kiln, compactions and copies (R239, R243, R253, R256). -/

/-- A page that the Kiln, a compaction or a copy reads has been read, reconstructed or found lost: what needs it goes on. -/
def State.pageThere (w : Work) (s : State) : State :=
  match w with
  | .foldRead i p _ _ _ => s.kilnNext i p
  | .copyRead id _ => s.copyRead1 id
  | .slcRead die unit k =>
    match s.slcNext die with
    | none => s.modCompact die fun c => { c with chunk := 0 }
    | some (u, pg) => (s.slcTake die u).submitHw (die / 16) clsBack (s.opDesc 2 4 512 die u pg 0 (.slcMove die unit k))
  | _ => s

/-- The descriptor, position and chunk of such a page: none when what it is for is gone (R228, R248). -/
def State.pageOf (s : State) (w : Work) : Option (Nat × Nat × Nat) :=
  match w with
  | .foldRead i p wl page gen => if (s.fold i).live && (s.fold i).gen == gen then some (i, p, 4 * wl + page) else none
  | .copyRead id key => (s.copy id).map fun c => (c.index, (s.copyKey c key).1, (s.copyKey c key).2.1)
  | .slcRead die unit k => if s.compacting die unit then some (k / 65536 / 128, k / 65536 % 128, k % 65536) else none
  | _ => none

/-- The end of such a read: one that cannot be decoded where it lies is reconstructed from the stripe's other positions (R243). -/
def State.ownerPage (e cls : Nat) (d : Desc) (r : Ended) (s : State) : State :=
  match s.pageOf d.work with
  | none => s
  | some (i, p, c) =>
    if r.ok then s.pageThere d.work
    else if r.unreadable then
      match s.pageAsk i p c d.owner d.account cls d.work with
      | (s, none) => s
      | (s, some _) => s.pageThere d.work
    else s.submitHw e cls d

/-- A read of such a reconstruction has ended (R382): the page is there, or its stripes are lost and the operation goes on. -/
def State.pageReconDone (e cls : Nat) (d : Desc) (id q : Nat) (r : Ended) (s : State) : State :=
  match s.msh.pageRecs.find? fun x => x.id == id with
  | none => s
  | some x =>
    if !r.ok && !r.unreadable then s.submitHw e cls d
    else match s.pageRead id q r.ok (r.status == csFenced) with
      | (s, none) => s
      | (s, some _) => if (s.pageOf x.after).isSome then s.pageThere x.after else s

/-! The Kiln (R243 to R248). -/

/-- The read-back of a word line at start-up fails (R246, R247): its destination unit is replaced and it folds again. -/
def State.startBackFail (i p wl : Nat) (s : State) : State := s.backFailed.kilnRefold i p wl

/-- The end of a Kiln program or READBACK; of a record that is gone the result is discarded (R248). A program on a die that has just
failed counts as complete (R380); a READBACK there decodes nothing, and its word line folds again. -/
def State.kilnDone (e cls : Nat) (d : Desc) (r : Ended) (s : State) : State :=
  let mine := fun (i gen : Nat) => (s.fold i).live && (s.fold i).gen == gen
  match d.work with
  | .foldProg i p wl _ gen =>
    if !mine i gen then s
    else if r.ok ∨ r.status = csFenced then s.kilnNext i p
    else if r.status = csProgFail then (s.healthCount hcProg).kilnRefold i p wl
    else s.submitHw e cls d
  | .foldBack i p wl gen =>
    if !mine i gen then s
    else if s.backPassed r then s.kilnNext i p
    else if r.status = csFenced then s.kilnAgain i p fun n => n == wl
    else if r.status = csAborted ∨ r.status = csDeferred then s.submitHw e cls d
    else s.backFailed.kilnRefold i p wl
  | .startBack i p wl gen =>
    if !mine i gen then s
    else if s.backPassed r then s.kilnRelease i p wl
    else if r.status = csFenced then s.kilnAgain i p fun n => n == wl
    else if r.status = csAborted ∨ r.status = csDeferred then s.submitHw e cls d
    else s.startBackFail i p wl
  | _ => s

/-! Erases and retirement (R204, R239, Table 7.6). -/

/-- The end of an erase of a row's unit (R204, Table 7.6). -/
def State.eraseRowDone (e cls die : Nat) (d : Desc) (t row : Nat) (r : Ended) (s : State) : State :=
  if r.ok ∨ r.status = csFenced then
    (if s.reclaimSets.contains t then s.fdpCount 2 (16384 * s.unitChunks t) else s).rowErased t row
  else if r.status = csEraseFail then (s.healthCount hcErase).replaceRowUnit die row t true
  else s.submitHw e cls d

/-- The row a unit of a die stands for in the remap table. -/
def State.rowOfSpare (s : State) (die unit : Nat) : Option Nat :=
  (s.med.remap.find? fun e => e.1 / 16384 == die && e.2 == some unit).map fun e => e.1 % 16384

/-- The erase of a spare in its new place has ended (Table 7.6): the row that waits for it counts one unit less to erase, SLC pages are
free, and copies to it start. `row` is the key of a waiting row plus 1. -/
def State.eraseUnitDone (e cls die unit row : Nat) (d : Desc) (r : Ended) (s : State) : State :=
  if r.ok ∨ r.status = csFenced then
    let s := s.unitReady die unit
    match row with
    | 0 => s.retrySlc
    | k + 1 => if (Tab.get {} s.zpm.rows k).offline then s.testDone k else s.rowErased (k / 16384) (k % 16384)
  else if r.status = csEraseFail then
    let s := s.healthCount hcErase
    match s.rowOfSpare die unit with
    | some x => s.replaceRowUnit die x (s.mem die).sset (row != 0)
    | none => s.replaceSlcUnit die unit
  else s.submitHw e cls d

/-- The program of a compaction's copy has ended (R239): the chunk moves, unless its source has changed (R226, R228). -/
def State.slcMoveDone (e cls die unit k : Nat) (d : Desc) (r : Ended) (s : State) : State :=
  if r.ok then
    let s := match Tab.get .none s.med.chunks k with
      | .slc x u _ _ =>
        if x = die ∧ u = unit then
          ((s.modSlcLive die unit (· - 1)).modSlcLive die d.unit (· + 1)).modMed fun m => { m with chunks := Tab.set .none m.chunks k (.slc die d.unit d.page 0) }
        else s
      | _ => s
    (s.modCompact die fun c => { c with chunk := 0 }).compactGo die
  else if r.status = csProgFail then ((s.healthCount hcProg).replaceSlcUnit die d.unit).pageThere (.slcRead die unit k)
  else if r.status = csFenced then s.modMed fun m => { m with compact := m.compact.filter fun c => c.die != die }
  else s.submitHw e cls d

/-- The erase of an SLC unit has ended (R239): its pages are free again, programs that wait take them; event 246. -/
def State.slcErased (e cls die unit : Nat) (d : Desc) (r : Ended) (s : State) : State :=
  let closed := fun (s : State) => s.modMed fun m => { m with compact := m.compact.filter fun c => c.die != die }
  if r.ok then (((closed s).modMed fun m => { m with slcUsed := Tab.set 0 m.slcUsed (die * 131072 + unit) 0 }).assertEvent 246).retrySlc.maybeCompact die
  else if r.status = csEraseFail then ((closed s).healthCount hcErase).replaceSlcUnit die unit
  else if r.status = csFenced then closed s
  else s.submitHw e cls d

/-- A step of the test of a unit of an Offline zone has ended (Table 7.6): erase, program, read; a pass returns the unit to
ROW, a failure retires it. -/
def State.testDoneStep (e cls die unit k step : Nat) (d : Desc) (r : Ended) (s : State) : State :=
  if r.ok then
    if step = 0 then s.submitHw e cls (s.opDesc 2 4 512 die unit 0 0 (.testUnit die unit k 1))
    else if step = 1 then s.submitHw e cls (s.readDesc 4 512 die unit 0 0 (.testUnit die unit k 2))
    else if step = 2 then s.submitHw e cls (s.opDesc 4 4 512 die unit 0 0 (.testUnit die unit k 3))
    else (s.modUnit die unit fun x => { x with state := .row }).testDone k
  else if r.status = csProgFail ∨ r.status = csEraseFail ∨ r.status = csUncorr then
    (if r.status = csProgFail then s.healthCount hcProg else if r.status = csEraseFail then s.healthCount hcErase else s).replaceRowUnit
      die (k % 16384) (k / 16384) true
  else if r.status = csFenced then s.testDone k
  else s.submitHw e cls d

/-! Copies of word lines (R253, R256, R259, R398). -/

/-- A position of a copy's word line is programmed and verified, or has no die any more (R380). -/
def State.copyVerified (id p : Nat) (s : State) : State := (s.copyDrop id p).copyGo id

/-- The end of a copy's program or READBACK (R253, R256, Table 7.6). -/
def State.copyDone (e cls : Nat) (d : Desc) (r : Ended) (s : State) : State :=
  match d.work with
  | .copyProg id p k =>
    (match s.copy id with
     | none => s
     | some c =>
       if r.ok then
         let n := (c.left.headD (0, [])).1
         if k + 1 < (s.progPasses (e / 8)).length then s.copyProg c n p (k + 1) else s.copyBack c n p
       else if r.status = csProgFail then (s.healthCount hcProg).copyFail id p
       else if r.status = csFenced then s.copyVerified id p
       else s.submitHw e cls d)
  | .copyBack id p =>
    if (s.copy id).isNone then s
    else if s.backPassed r then s.copyVerified id p
    else if r.status = csFenced then (if (s.posDie (((s.copy id).map (·.sset)).getD 0) p).isNone then s.copyVerified id p else s.submitHw e cls d)
    else if r.status = csAborted ∨ r.status = csDeferred then s.submitHw e cls d
    else s.backFailed.copyFail id p
  | _ => s

/-! The page map (R231, R232). -/

/-- A read of a map or directory page has ended (R231): the page is in the cache; the map page follows its directory page; the media reads
follow the last one. DESIGN CHOICE (log entry 49): a page that cannot be read ends a Read or Verify with Unrecovered Read Error. -/
def State.mapReadDone (e cls : Nat) (d : Desc) (t page x : Nat) (r : Ended) (s : State) : State :=
  if !(s.med.mapReads.contains (t, page)) then s
  else if !r.ok && !r.unreadable then s.submitHw e cls d
  else
    let s := if r.ok then s.mapUse x else s
    if r.ok ∧ x ≠ page then s.mapReadAt t page page
    else
      let s := s.modMed fun m => { m with mapReads := dropFrom (t, page) m.mapReads }
      match s.cmd t with
      | some c => if c.op ≠ .read ∧ c.op ≠ .verify then s else if r.ok then s.readMedia c else s.readFailed t stUnrecovered
      | none => s

/-- A program of the map flush has ended (R232): its pages are at their new addresses, and the flush goes on; a failed one is programmed
elsewhere, its MAP unit retired. -/
def State.mapProgDone (e cls die : Nat) (d : Desc) (r : Ended) (s : State) : State :=
  if r.ok then
    let s := s.modMed fun m => { m with
      mapAddr := m.flushOn.zipIdx.foldl (fun t x => Tab.set 0 t x.1 (((die * 131072 + d.unit) * 16384 + d.page) * 4 + x.2 + 1)) m.mapAddr, flushOn := [] }
    s.flushGo
  else if r.status = csProgFail ∨ r.status = csFenced then
    let s := s.modMed fun m => { m with flushLeft := m.flushOn ++ m.flushLeft, flushOn := [], mapUnit := 0, mapUsed := Tab.set 0 m.mapUsed (die * 131072 + d.unit) (s.slcPages die) }
    let s := if r.status = csProgFail then (s.healthCount hcProg).retireUnit die d.unit else s
    s.flushGo
  else s.submitHw e cls d

/-- The erase of a MAP unit has ended: it can be filled again. -/
def State.mapErased (e cls die : Nat) (d : Desc) (r : Ended) (s : State) : State :=
  if r.ok then (s.modMed fun m => { m with mapUsed := Tab.set 0 m.mapUsed (die * 131072 + d.unit) 0 }).flushGo
  else if r.status = csEraseFail then ((s.healthCount hcErase).retireUnit die d.unit).flushGo
  else if r.status = csFenced then s
  else s.submitHw e cls d

/-- A program of the recorder's flush has ended (R597): a failed one is repeated, a fenced die ends the flush. -/
def State.recFlushDone (e cls : Nat) (d : Desc) (r : Ended) (s : State) : State :=
  if r.ok then s.flushedPage
  else if r.status = csFenced then (s.put EVR_STAT.BUSY false).modEvr fun x => { x with flushing := 0 }
  else s.submitHw e cls d

/-- A program of the dump has ended (R422): with OK its die goes on to its next page, the trailer on one plane last; any other
status makes the die an erasure. ARG0 holds the planes of an image page, ARG1 the programs that follow. -/
def State.dumpProgDone (e cls : Nat) (d : Desc) (r : Ended) (s : State) : State :=
  if r.status = csOk then
    if d.arg1 = 0 then s.modHld fun h => { h with dumpLeft := h.dumpLeft - 1 }
    else s.submitHw e cls { d with page := d.page + 1, arg1 := d.arg1 - 1, planes := if d.arg1 = 1 then 1 else d.arg0 }
  else s.modHld fun h => { h with dumpLeft := h.dumpLeft - 1, dumpBad := h.dumpBad + 1 }

/-- The erase of a dump slot on one dump die has ended (R428, R430): the slot is erased with its last die; event 368. -/
def State.dumpEraseDone (e cls : Nat) (d : Desc) (slot : Nat) (r : Ended) (s : State) : State :=
  if r.status = csAborted ∨ r.status = csDeferred then s.submitHw e cls d
  else
    let n := Tab.get 0 s.hld.eraseLeft slot - 1
    let s := s.modHld fun h => { h with eraseLeft := Tab.set 0 h.eraseLeft slot n }
    if n = 0 then
      (s.modNv fun v => if slot = 0 then { v with slotA := { erased := true } } else { v with slotB := { erased := true } }).assertEvent 368
    else s

/-- What the owner of a completed descriptor does with it. -/
def State.ownerDone (e cls : Nat) (d : Desc) (r : Ended) (s : State) : State :=
  let die := e * 16 + d.die
  match d.work with
  | .hostRead t u => s.hostReadDone e cls d t u false r
  | .hostReread t u => s.hostReadDone e cls d t u true r
  | .recon t u p => if (s.cmd t).isNone then s else s.reconRead t u p (r.ok && !r.guardBad) (r.status == csFenced)
  | .slcProg i p c gen => s.slcProgDone die i p c gen d.unit d.page r
  | .foldRead _ _ _ _ _ => s.ownerPage e cls d r
  | .copyRead _ _ => s.ownerPage e cls d r
  | .slcRead _ _ _ => s.ownerPage e cls d r
  | .pageRecon id q => s.pageReconDone e cls d id q r
  | .foldProg _ _ _ _ _ => s.kilnDone e cls d r
  | .foldBack _ _ _ _ => s.kilnDone e cls d r
  | .startBack _ _ _ _ => s.kilnDone e cls d r
  | .copyProg _ _ _ => s.copyDone e cls d r
  | .copyBack _ _ => s.copyDone e cls d r
  | .mapRead t page x => s.mapReadDone e cls d t page x r
  | .mapProg => s.mapProgDone e cls die d r
  | .mapErase _ _ => s.mapErased e cls die d r
  | .eraseRow t row => s.eraseRowDone e cls die d t row r
  | .eraseUnit _ unit row => s.eraseUnitDone e cls die unit row d r
  | .slcErase _ unit => s.slcErased e cls die unit d r
  | .slcMove _ unit k => s.slcMoveDone e cls die unit k d r
  | .testUnit _ unit k step => s.testDoneStep e cls die unit k step d r
  | .dumpProg _ => s.dumpProgDone e cls d r
  | .dumpErase slot => s.dumpEraseDone e cls d slot r
  | .recFlush => s.recFlushDone e cls d r
  | _ => s

/-- A descriptor of a hardware owner on engine `e`, class `cls`, has completed; what waits in media management goes on. -/
def State.workDone (e cls : Nat) (d : Desc) (r : Ended) (s : State) : State := (s.ownerDone e cls d r).mediaTurn

end Sys2Proof.Machine
end

