-- ==== Sys2Proof/Machine/DriftOps.lean ====
section
/-! DEFINITION. Machine/DriftOps.lean: the Drift engines' queues, start checks, die activity, data movement, completions,
suspension, decoding and escalation, as operations (09_flash_descriptors.md, 11_flash_ecc_integrity.md). -/

namespace Sys2Proof.Machine

/-! Engine states (Table 9.8). -/

/-- Die activity of die `d` of engine `e` (Table 9.7). -/
def State.act (s : State) (e d : Nat) : Act := Tab.get .free (s.engine e).act d
/-- Set it. -/
def State.setAct (e d : Nat) (a : Act) (s : State) : State := s.modEng e fun g => { g with act := Tab.set .free g.act d a }

/-- Execution context `k` (die * 2 + secondary). -/
def State.ctxOf (s : State) (e k : Nat) : Ctx := Tab.get {} (s.engine e).ctx k
/-- Change it. -/
def State.modCtx (e k : Nat) (f : Ctx → Ctx) (s : State) : State := s.modEng e fun g => { g with ctx := Tab.upd {} g.ctx k f }

/-- Is the class queue full? -/
def State.qFull (s : State) (e c : Nat) : Bool := decide (s.qDepth e c ≤ (s.queue e c).length)

/-- Are all four queues empty (R320)? -/
def State.queuesEmpty (s : State) (e : Nat) : Bool := (List.range 4).all fun c => (s.queue e c).isEmpty

/-- Has the engine nothing in progress or queued (R280)? -/
def State.engineIdle (s : State) (e : Nat) : Bool := s.queuesEmpty e && (s.engine e).ctx.isEmpty

/-- Does group `g` have no descriptor in progress or queued (R280)? -/
def State.groupIdle (s : State) (g : Nat) : Bool := (List.range 8).all fun k => s.engineIdle (8 * g + k)

/-! The descriptor image (Table 9.2). -/

/-- The 16 words of a descriptor. -/
def Desc.words (d : Desc) : List Nat :=
  [d.op % 64 * 2 ^ 26 + d.cell % 4 * 2 ^ 24 + d.die % 16 * 2 ^ 20 + d.planes % 16 * 2 ^ 16 + d.npages % 64 * 2 ^ 8 + d.cwmask % 16 * 2 ^ 4
     + d.epchk.toNat * 8 + d.raw.toNat * 4 + d.notify.toNat * 2 + d.hc.toNat,
   d.unit % 2 ^ 17 * 2 ^ 15 + d.page % 2 ^ 14 * 2,
   d.account % 1024 * 2 ^ 22 + d.mepoch % 2 ^ 16,
   d.buf % 2 ^ 16 * 2 ^ 16 + d.eccprof % 16 * 2 ^ 12 + d.retrymax % 16 * 2 ^ 8 + d.maxwait % 256,
   d.tag % 2 ^ 32,
   d.owner % 16 * 2 ^ 28 + d.irq.toNat * 2 ^ 27,
   d.arg0 % 2 ^ 32, d.arg1 % 2 ^ 32] ++ (List.range 8).map fun i => d.init.getD i 0

/-- The descriptor that a firmware image of 16 words spells; OWNER is set to 0 (R297). -/
def descOf (w : List Nat) : Desc :=
  let x := fun i => w.getD i 0
  { op := slice (x 0) 26 6, cell := slice (x 0) 24 2, die := slice (x 0) 20 4, planes := slice (x 0) 16 4, npages := slice (x 0) 8 6,
    cwmask := slice (x 0) 4 4, epchk := bit (x 0) 3, raw := bit (x 0) 2, notify := bit (x 0) 1, hc := bit (x 0) 0,
    unit := slice (x 1) 15 17, page := slice (x 1) 1 14, account := slice (x 2) 22 10, mepoch := slice (x 2) 0 16,
    buf := slice (x 3) 16 16, eccprof := slice (x 3) 12 4, retrymax := slice (x 3) 8 4, maxwait := slice (x 3) 0 8,
    tag := x 4, owner := 0, irq := bit (x 5) 27, arg0 := x 6, arg1 := x 7, init := (List.range 8).map fun i => x (8 + i) }

/-- First address of the dual-port SRAM. -/
def dpSram : Nat := 0x10000000

/-- A write of the engine to SRAM ends the reservations on what it writes (R440). -/
def State.engineStore (a : Nat) (words : List Nat) (s : State) : State :=
  (s.breakResv 0xFFFF a).setBytes a (words.flatMap fun w => toBytes w 4)

/-- Address of slot `i` of a class ring (R296). -/
def State.ringSlot (s : State) (e c i : Nat) : Nat :=
  dpSram + s.fld (DRF_QBASE.BASE e) * 0x4000 + ((List.range c).map fun k => s.qDepth e k * 64).sum + i * 64

/-- A descriptor enters the tail of a class queue: its image goes to the ring (R296 to R298). -/
def State.enterQueue (e c : Nat) (d : Desc) (s : State) : State :=
  let i := Tab.get 0 (s.engine e).rtail c
  let n := s.qDepth e c
  let s := s.engineStore (s.ringSlot e c i) d.words
  s.modEng e fun g => { g with q := Tab.upd [] g.q c (· ++ [d]), rtail := Tab.set 0 g.rtail c ((i + 1) % n) }

/-! Completion records (R299, R300, R304). -/

/-- A bit of DRF_EVT is set: event source e (R321). -/
def State.drfEvt (e : Nat) (f : Fld) (s : State) : State := (s.put f true).assertEvent e

/-- Is the completion ring full (R300)? -/
def State.cqFull (s : State) (e : Nat) : Bool :=
  let n := 2 ^ s.fld (DRF_CQBASE.LOG2 e)
  (s.fld (DRF_CQPTR.WIDX e) + 1) % n == s.fld (DRF_CQPTR.HEAD e) % n

/-- Write one record to the ring: P, SEQ, the write index, and the event bits it sets. -/
def State.putRecord (e : Nat) (h : Held) (s : State) : State :=
  let n := 2 ^ s.fld (DRF_CQBASE.LOG2 e)
  let i := s.fld (DRF_CQPTR.WIDX e)
  let g := s.engine e
  let st := h.w0 / 2 ^ 24
  let s := s.engineStore (dpSram + s.fld (DRF_CQBASE.BASE e) * 0x1000 + i * 16)
    [h.w0 + g.pass1.toNat * 2 ^ 21, h.w1, h.w2, h.detail * 2 ^ 16 + g.seq]
  let s := (s.setFld (DRF_CQPTR.WIDX e) ((i + 1) % n)).modEng e fun g =>
    { g with seq := (g.seq + 1) % 2 ^ 16, pass1 := if i + 1 = n then !g.pass1 else g.pass1 }
  let s := if csBusy < st then s.drfEvt e (DRF_EVT.FAIL e) else s
  if h.irq then s.drfEvt e (DRF_EVT.CQ e) else s

/-- A record goes to the ring, or is held while the ring is full; with 16 held the engine starts nothing (R300). -/
def State.writeRecord (e : Nat) (h : Held) (s : State) : State :=
  if (s.engine e).heldRecs.isEmpty && !s.cqFull e then s.putRecord e h
  else
    let s := s.modEng e fun g => { g with heldRecs := g.heldRecs ++ [h] }
    if 16 ≤ (s.engine e).heldRecs.length then s.drfEvt e (DRF_EVT.CQFULL e) else s

/-- Write the held records for which entries are free. -/
def State.flushRecords (e : Nat) : Nat → State → State
  | 0, s => s
  | n + 1, s =>
    match (s.engine e).heldRecs with
    | h :: l => if s.cqFull e then s else State.flushRecords e n ((s.modEng e fun g => { g with heldRecs := l }).putRecord e h)
    | [] => s

/-- The charge of a completed operation (R170). -/
def State.addCharge (account die us : Nat) (s : State) : State :=
  let s := s.modFns fun f => { f with charge := Tab.upd 0 f.charge (account * 2048 + die) fun v => min (v + us) 0xFFFFF }
  if account < 512 then s.tally (1024 + account) us else s

/-- The fields of a completion (Table 9.4). -/
structure Comp where
  status : Nat
  detail : Nat
  susp : Nat := 0
  retry : Nat := 0
  maxbits : Nat := 0
  charge : Nat := 0
  cwfail : Nat := 0
  nstat : Nat := 0
  deriving DecidableEq, Repr

/-- The record of a completion, without P and SEQ. -/
def Comp.held (c : Comp) (cls : Nat) (d : Desc) : Held :=
  { w0 := c.status * 2 ^ 24 + cls * 2 ^ 22 + d.die * 2 ^ 17 + min c.susp 8 * 2 ^ 13 + min c.retry 31 * 2 ^ 8 + min c.maxbits 255,
    w1 := d.tag, w2 := min c.charge 0xFFFFF * 2 ^ 12 + c.cwfail % 16 * 2 ^ 8 + c.nstat % 256, detail := c.detail % 2 ^ 16, irq := d.irq }

/-- Does a completion go to the firmware ring (R299)? -/
def recorded (d : Desc) (status : Nat) : Bool := d.owner == 0 || d.notify || decide (csBusy < status)

/-- Error counters and event bits of a completion (DRF_ERRCNT, DRF_EVT). -/
def State.countStatus (e st : Nat) (s : State) : State :=
  if st = csProgFail ∨ st = csEraseFail then s.count (DRF_ERRCNT.PFAIL e) 1
  else if st = csUncorr then s.count (DRF_ERRCNT.UNCORR e) 1
  else if st = csTimeout then (s.count (DRF_ERRCNT.TIMEOUT e) 1).drfEvt e (DRF_EVT.TIMEOUT e)
  else if st = csBusy then (s.count (DRF_SUSPCNT.DIEBUSY e) 1).tally (1792 + e) 1
  else s

/-- A descriptor completes: counters, record, charge, delivery to its owner. A hardware read that met a busy die is
submitted again once the die is free (R307). -/
def State.deliver (e cls : Nat) (d : Desc) (c : Comp) (guardBad : Bool) (s : State) : State :=
  let s := (s.countStatus e c.status).tally (1536 + e) 1
  let s := s.addCharge d.account (e * 16 + d.die) c.charge
  let s := if recorded d c.status then s.writeRecord e (c.held cls d) else s
  if c.status = csBusy ∧ d.owner ≠ 0 then s.modEng e fun g => { g with parked := g.parked ++ [(cls, d)] }
  else s.workDone e cls d { status := c.status, maxbits := c.maxbits, retry := c.retry, guardBad := guardBad }

/-- Is a group (hence its engines) open to class `cls` (R281, R274)? -/
def State.groupOpen (s : State) (e cls : Nat) : Bool :=
  let g := e / 8
  let st := s.fld (FCH_GSTAT.STATE g)
  !bit s.fch.reconcile g && (st == 3 || (st == 2 && cls == clsMaint))

/-- Is die `d` of channel `e` populated (R269, R274)? -/
def State.populated (s : State) (e d : Nat) : Bool :=
  if s.ctl.recLoaded then bit (s.fld (FCH_GCFG.POP (e / 8))) d else d == 0

/-- Does the epoch check of R311 fail for a descriptor? -/
def State.staleEpoch (s : State) (e : Nat) (d : Desc) : Bool :=
  d.epchk && s.on (DRF_DEPOCH.EN e d.die) && decide (32768 ≤ (d.mepoch + 65536 - s.fld (DRF_DEPOCH.MINEPOCH e d.die) % 65536) % 65536)

/-- Die features of a group (0x3220 + g:06). -/
def State.features (s : State) (e : Nat) : Nat := s.dnum (0x3220 + e / 8) 6

/-! Validity (R303). -/

/-- FLASH, bytes of a codeword on flash under profile `n` (R349, Table 11.2). -/
def State.flashBytes (s : State) (n : Nat) : Nat :=
  if s.fld (ECC_PROF.CODE n) = 1 then 4128 + 2 * s.fld (ECC_PROF.BCHT n)
  else [4352, 4480, 4608, 4736, 4864, 5120].getD (s.fld (ECC_PROF.LRATE n)) 5120

/-- Tubs one read codeword fills (R302, R348). -/
def State.cwTubs (s : State) (d : Desc) : Nat := if d.raw then ceilDiv (s.flashBytes d.eccprof) 512 else 8

/-- Codewords a READ moves per page, as plane * 4 + codeword in ascending order. -/
def Desc.pageCws (d : Desc) : List Nat :=
  (bitsOf d.planes 4).flatMap fun p => (bitsOf d.cwmask 4).map fun c => p * 4 + c

/-- Tubs the transfer of a descriptor needs. -/
def State.tubsNeeded (s : State) (d : Desc) : Nat :=
  match d.op with
  | 1 => (d.npages + 1) * d.pageCws.length * s.cwTubs d
  | 2 => popCount d.planes 4 * 32
  | 3 => popCount d.planes 4 * 128
  | 7 => 1
  | 8 => ceilDiv (d.arg1 % 2 ^ 13) 512
  | _ => 0

/-- Tubs of the chain that starts at `t`, at most `n` of them; none while the pool is not enabled. -/
def State.chainOf (s : State) (t n : Nat) : List Nat := if n = 0 || !s.on TUB_CTRL.EN || (s.tub t).owner == 0xFF then [] else s.chain n t

/-- Does the class queue accept the operation (Table 9.3)? -/
def classAccepts (cls op : Nat) : Bool :=
  if cls = clsTail then op == 1 else if 5 ≤ op ∧ op ≤ 9 then cls == clsMaint else true

/-- Does CELL match OP? -/
def cellOk (d : Desc) : Bool :=
  (d.cell == 0 || d.cell == 3) && (d.op != 2 || d.cell == 0) && (d.op != 3 || d.cell == 3)

/-- Is the descriptor valid? A hardware owner's chain is long enough. -/
def State.descValid (s : State) (e cls : Nat) (d : Desc) : Bool :=
  decide (1 ≤ d.op) && decide (d.op ≤ 11) && classAccepts cls d.op && cellOk d && s.populated e d.die &&
    (d.planes != 0 || decide (4 < d.op)) && (d.op != 1 || d.cwmask != 0) && decide (d.account ≤ 512) && decide (d.owner ≤ 6) &&
    (d.owner != 0 || (s.chainOf d.buf (s.tubsNeeded d)).length == s.tubsNeeded d)

/-! Start checks (Table 9.6). -/

/-- The nominal read current of a channel's group. -/
def State.readMa (s : State) (e : Nat) : Nat := s.dnum (0x2020 + e / 8) 1
/-- The nominal program current. -/
def State.progMa (s : State) (e : Nat) : Nat := s.dnum (0x2020 + e / 8) 2
/-- The nominal erase current. -/
def State.eraseMa (s : State) (e : Nat) : Nat := s.dnum (0x2020 + e / 8) 3

/-- Is the operation of the high-current class (R65)? -/
def Desc.highCurrent (d : Desc) : Bool := d.op == 2 || d.op == 3 || d.op == 4 || (d.op == 1 && d.hc)

/-- The nominal current it counts at. -/
def State.nominal (s : State) (e : Nat) (d : Desc) : Nat :=
  if d.op = 2 ∨ d.op = 3 then s.progMa e else if d.op = 4 then s.eraseMa e else s.readMa e

/-! Resets that the device issues itself (R65, R66). -/

/-- Does a Reset of die `die` wait for the budget, or run? -/
def State.resetting (s : State) (die : Nat) : Bool := s.fch.resetQ.contains die || Tab.get 0 s.fch.resetOn die != 0

/-- The Reset of a die is issued when the budget lets a read-class operation start; it counts at the nominal read current. -/
def State.issueReset (die : Nat) (s : State) : State :=
  let ma := s.readMa (die / 16)
  if s.readMayStart ma then
    ((s.acctAdd ma).modNand die fun x => { x with patternOk := false }).modFch fun f =>
      { f with resetQ := dropFrom die f.resetQ, resetOn := Tab.set 0 f.resetOn die (ma + 1) }
  else s

/-- Every Reset that waits is issued, in the order asked, while the budget allows. -/
def State.issueResets (s : State) : State := each s.fch.resetQ State.issueReset s

/-- The device issues a Reset to a die, at once or when the budget allows. -/
def State.askReset (die : Nat) (s : State) : State :=
  if s.resetting die then s else (s.modFch fun f => { f with resetQ := f.resetQ ++ [die] }).issueResets

/-- The Reset of a die ends: the die is ready, fenced, or without supply. -/
def State.endReset (die : Nat) (s : State) : State :=
  match Tab.get 0 s.fch.resetOn die with
  | 0 => s.modFch fun f => { f with resetQ := dropFrom die f.resetQ }
  | ma + 1 => ((s.modFch fun f => { f with resetOn := Tab.set 0 f.resetOn die 0 }).acctSub ma).issueResets

/-- An operation of `ma` leaves the account; Resets that wait may follow. -/
def State.acctFree (ma : Nat) (s : State) : State := (s.acctSub ma).issueResets

/-! The checks. -/

/-- Slot boundaries a die still pauses (R544); dump descriptors are exempt (R419). -/
def State.paused (s : State) (e : Nat) (d : Desc) : Bool := d.owner != 6 && Tab.get 0 s.pow.pauses (e * 16 + d.die) != 0

/-- At least 64 PHASE units of the slot remain (R312). -/
def State.phaseLeft (s : State) : Bool := decide (s.bell.phase + 64 ≤ 1024)

/-- The slot and budget check before the first bus cycle (R65, R312, R544); LIB and RUN are checked per operation. -/
def State.budgetFirst (s : State) (e cls : Nat) (d : Desc) : Bool :=
  if 10 ≤ d.op then true
  else if d.highCurrent then s.hcMayStart (s.nominal e d) && s.phaseLeft && !s.paused e d
  else s.readMayStart (s.nominal e d) &&
    !(s.paused e d && s.fld THM_STAT.LEVEL == 2 && (cls == clsBack || cls == clsMaint))

/-- Has the account of a descriptor reached its limit on the die (R171, R173, R174)? -/
def State.overShare (s : State) (e : Nat) (d : Desc) : Bool :=
  s.on FNS_CTRL.SHARE_EN && decide (d.account < 512) &&
    decide ((s.fn d.account).shareNow * 64 * s.bell.periodNow ≤ Tab.get 0 s.fns.charge (d.account * 2048 + (e * 16 + d.die)) * 1024)

/-- What the checks of Table 9.6 say of a queued descriptor. -/
inductive Chk where
  | invalid | waits | fenced | dead | deferred | busy | held | start
  deriving DecidableEq, Repr

/-- Check 5: is the die free for the descriptor? It waits for a Reset that the device issues itself to the die. A TRAIN meets a busy die in its own preconditions (R287, log entry 22). A
TAIL READ is also served in a suspension, and in a READ at a page
boundary or between two reads of an escalation (R314, R316, R355). -/
def State.dieCheck (s : State) (e cls : Nat) (d : Desc) : Chk :=
  let p := s.ctxOf e (d.die * 2)
  let q := s.ctxOf e (d.die * 2 + 1)
  let tail := cls == clsTail
  if s.resetting (e * 16 + d.die) then (if d.op = 9 then .start else .waits) else
  match s.act e d.die with
  | .free => if p.live then .waits else .start
  | .reading => if tail && p.live && p.desc.op == 1 && !p.ready && !q.live || d.op == 9 then .start else .waits
  | .suspended => if d.op = 9 then .start else if tail then (if q.live then .waits else .start) else if d.op = 1 then .busy else .waits
  | _ => if d.op = 9 then .start else if !tail && d.op == 1 then .busy else .waits

/-- Does the scheduler hold the operations of engine `e` for a mode commit: the engine's unit or its group's has not reported the
mode epoch (R80), or the group's unit is fenced and accepts no work (R82)? DEDUCED (log entry 55): which operations need the new mode. -/
def State.modeHolds (s : State) (e : Nat) : Bool :=
  let g := 128 + e / 8
  s.bell.modeFenced.contains g ||
    (s.fld BEL_MODE_STAT.STATE != modeStable &&
      ((!s.bell.modeDone.contains e && !s.bell.modeFenced.contains e) || !s.bell.modeDone.contains g))

/-- Checks 1 to 4 of a queued descriptor; `start` when they pass. -/
def State.check14 (s : State) (e cls : Nat) (d : Desc) : Chk :=
  if !s.descValid e cls d then .invalid
  else if (s.hld.committed && d.owner != 6) || !s.groupOpen e cls || s.modeHolds e ||
      bit (Tab.get 0 s.fch.resetWait (e / 8)) (e % 8 * 16 + d.die) then .waits
  else if s.fenced e d.die || s.staleEpoch e d then .fenced
  else if bit (s.fld (DRF_DIEERR.DIE e)) d.die then .dead
  else if (s.on FNS_CTRL.SHARE_EN && d.defer) || s.overShare e d then .deferred
  else .start

/-- All six checks. -/
def State.check (s : State) (e cls : Nat) (d : Desc) : Chk :=
  match s.check14 e cls d with
  | .start =>
    (match s.dieCheck e cls d with
     | .start => if s.budgetFirst e cls d then .start else .held
     | c => c)
  | c => c

/-- Does the engine start descriptors at all: RUNNING, fewer than 16 records held (R300, R318)? -/
def State.mayStart (s : State) (e : Nat) : Bool := s.engState e == engRunning && decide ((s.engine e).heldRecs.length < 16)

/-- The first descriptor of a queue whose checks decide it (R308, R309): its place and what they say. A descriptor that waits
or is held holds back the later ones of its die, a deferred one those of its account. DESIGN CHOICE (log entry 39): those of its account on
other dies wait too; R172 says that descriptors of the same account keep their order, R309 gives different dies none. -/
def State.selectIn (s : State) (e cls : Nat) : List Nat → List Nat → Nat → List Desc → Option (Nat × Chk)
  | _, _, _, [] => none
  | dies, accts, i, d :: l =>
    if dies.contains d.die || accts.contains d.account then State.selectIn s e cls dies accts (i + 1) l
    else
      match s.check e cls d with
      | .waits => State.selectIn s e cls (d.die :: dies) accts (i + 1) l
      | .held => State.selectIn s e cls (d.die :: dies) accts (i + 1) l
      | .deferred => State.selectIn s e cls dies (d.account :: accts) (i + 1) l
      | c => some (i, c)

/-- The descriptor of a class that the engine takes next. -/
def State.select (s : State) (e cls : Nat) : Option (Nat × Chk) :=
  if s.mayStart e then s.selectIn e cls [] [] 0 (s.queue e cls) else none

/-- Is a TAIL READ eligible for die `d` (R315)? -/
def State.tailEligible (s : State) (e d : Nat) : Bool :=
  s.mayStart e &&
    (match (s.queue e clsTail).find? fun x => x.die == d && s.check14 e clsTail x != .deferred with
     | some x => s.check14 e clsTail x == .start
     | none => false)

/-- Mark what the checks newly defer or hold: FNS_DEFCNT and event 212 at the first deferral of a pair in a frame (R172),
counter 2,212 at the first hold of a descriptor (R68). -/
def State.markIn (e cls i : Nat) (d : Desc) (s : State) : State :=
  match s.check e cls d with
  | .deferred =>
    let k := d.account * 2048 + (e * 16 + d.die)
    let s := s.setQueue e cls ((s.queue e cls).mapIdx fun j x => if j = i then { x with defer := true } else x)
    if s.fns.deferred.contains k then s
    else ((s.modFns fun f => { f with deferred := k :: f.deferred }).count FNS_DEFCNT.COUNT 1).assertEvent 212
  | .held =>
    if d.held then s
    else (s.setQueue e cls ((s.queue e cls).mapIdx fun j x => if j = i then { x with held := true } else x)).tally 2212 1
  | _ => s

/-- The descriptors of a class queue that the checks reach: no earlier one of the class holds them back (R309). -/
def State.reachedIn (s : State) (e cls : Nat) : List Nat → List Nat → Nat → List Desc → List (Nat × Desc)
  | _, _, _, [] => []
  | dies, accts, i, d :: l =>
    if dies.contains d.die || accts.contains d.account then State.reachedIn s e cls dies accts (i + 1) l
    else if s.check e cls d = .deferred then (i, d) :: State.reachedIn s e cls dies (d.account :: accts) (i + 1) l
    else (i, d) :: State.reachedIn s e cls (d.die :: dies) accts (i + 1) l

/-- The descriptors that the checks of class `cls` reach. -/
def State.reached (s : State) (e cls : Nat) : List (Nat × Desc) := s.reachedIn e cls [] [] 0 (s.queue e cls)

/-- The descriptors of a class that a slot or budget check holds. -/
def State.heldNow (s : State) (e cls : Nat) : List (Nat × Desc) := (s.reached e cls).filter fun x => s.check e cls x.2 == .held

/-- Mark the descriptors of a class queue. -/
def State.markQueue (e cls : Nat) (s : State) : State :=
  if s.mayStart e then each (s.reached e cls) (fun x s => s.markIn e cls x.1 x.2) s else s

/-- A frame start met by the held descriptors of an engine (R313). -/
def State.heldFrame (e : Nat) (s : State) : State :=
  each (List.range 4) (fun cls s =>
    let l := (s.heldNow e cls).map Prod.fst
    s.setQueue e cls ((s.queue e cls).mapIdx fun i d => if l.contains i then { d with heldFrames := d.heldFrames + 1 } else d)) s

/-! Time (R169, R307). -/

/-- Reference cycles as µs. -/
def cyclesUs (n : Nat) : Nat := n / 25

/-- The charge of context `k` up to now (R169): suspended intervals left out, the one in course too. -/
def State.chargeOf (s : State) (e k : Nat) : Nat :=
  let c := s.ctxOf e k
  let open' := if k % 2 = 0 ∧ s.act e (k / 2) = .suspended then s.now - c.suspAt else 0
  cyclesUs (s.now - c.startAt - c.lostAt - open')

/-- The time the die's operation is to last, µs, from the die timing record (R293). -/
def State.opTime (s : State) (e : Nat) (c : Ctx) : Nat :=
  let g := e / 8
  if c.desc.op = 4 then s.dnum (0x3230 + g) 6
  else if c.desc.op = 3 then s.dnum (0x3230 + g) 5
  else if c.desc.op = 2 then s.dnum (0x3230 + g) 4
  else if c.desc.arg1 = 0 then 100000 else c.desc.arg1

/-- µs until the operation of a die is expected to end, saturating (Table 9.5, DIE_BUSY). -/
def State.busyUs (s : State) (e d : Nat) : Nat :=
  let c := s.ctxOf e (d * 2)
  let at0 := if s.act e d = .suspended then c.suspAt else s.now
  let ran := if s.act e d = .loaded then 0 else cyclesUs (at0 - c.confAt - c.lostAt)
  min (s.opTime e c - ran) 0xFFFF

/-! Media contents of firmware's own operations (R302, R283). -/

/-- Key of a codeword the dies hold. -/
def mediaKey (die unit page cw : Nat) : Nat := ((die * 131072 + unit) * 16384 + page) * 64 + (cw / 4) * 16 + cw % 4

/-- The 512-byte payload of a tub. -/
def State.payload (s : State) (t : Nat) : Nat := Tab.get 0 s.tubs.pay t
/-- Set it. -/
def State.setPayload (t v : Nat) (s : State) : State := s.modTubs fun x => { x with pay := Tab.set 0 x.pay t (v % 2 ^ 4096) }

/-- The content of consecutive tubs as one number. -/
def State.gather (s : State) : List Nat → Nat
  | [] => 0
  | t :: l => s.payload t + 2 ^ 4096 * State.gather s l

/-- Spread a number over consecutive tubs. -/
def State.scatter : List Nat → Nat → State → State
  | [], _, s => s
  | t :: l, v, s => State.scatter l (v / 2 ^ 4096) (s.setPayload t v)

/-- A codeword of the media; one that was never programmed, or is undefined, is a free value. -/
def State.mediaRead (s : State) (die unit page cw : Nat) : Nat × State :=
  match Tab.get 0 s.drf.media (mediaKey die unit page cw) with
  | 0 => ((Config.freeBlock s.free).toNat, s.tookFree)
  | v + 1 => (v, s)

/-- Put a codeword on the media. -/
def State.mediaWrite (die unit page cw v : Nat) (s : State) : State :=
  s.modDrf fun x => { x with media := Tab.set 0 x.media (mediaKey die unit page cw) (v + 1) }

/-- Forget the codewords of pages `[page, page + n)` of the planes of a unit: undefined, or erased (R283). -/
def State.mediaForget (die unit page n planes : Nat) (s : State) : State :=
  s.modDrf fun x => { x with media := Tab.clear x.media fun k =>
    k / 2 ^ 20 == die * 131072 + unit && decide (page ≤ k / 64 % 16384) && decide (k / 64 % 16384 < page + n) && bit planes (k / 16 % 4) }

/-- Codewords a program carries, from its chain, in transfer order: page, plane, codeword (R302). -/
def State.takeData (s : State) (d : Desc) : List Nat :=
  if d.owner ≠ 0 then []
  else
    let t := s.chainOf d.buf (s.tubsNeeded d)
    (List.range (t.length / 8)).map fun i => s.gather ((t.drop (8 * i)).take 8)

/-- Pages of a program. -/
def Desc.progPages (d : Desc) : Nat := if d.op = 3 then 4 else 1

/-- A program ends well on the planes that did not fail: the media hold its data; a failed plane's pages are undefined. -/
def State.putProgram (e : Nat) (d : Desc) (data : List Nat) (failed : Nat) (s : State) : State :=
  let die := e * 16 + d.die
  let pages := (List.range d.progPages).map fun g => (d.page + g) * 16 + d.planes
  let s := (s.modUnit die d.unit fun r => { r with clean := false, written := r.written.map (· ++ pages) }).mediaForget die d.unit d.page
    d.progPages d.planes
  let ps := bitsOf d.planes 4
  if d.owner ≠ 0 then s
  else
    let cws := ps.flatMap fun p => (List.range 4).map fun c => p * 4 + c
    let all := (List.range d.progPages).flatMap fun g => cws.map fun c => (d.page + g, c)
    each (all.zip data) (fun x s => if bit failed (x.1.2 / 4) then s else s.mediaWrite die d.unit x.1.1 x.1.2 x.2) s

/-- A microcode program's program (2) or erase (3) confirm goes out: an erase of the descriptor's unit is counted (R220). -/
def State.confirmed (e k sched : Nat) (s : State) : State :=
  let d := (s.ctxOf e k).desc
  (if sched = 3 then s.countErase (e * 16 + d.die) d.unit else s).sysTouch e d

/-- An erase ends: every plane named is erased, and undefined where it failed. -/
def State.putErase (e : Nat) (d : Desc) (failed : Nat) (s : State) : State :=
  let die := e * 16 + d.die
  (s.modUnit die d.unit fun r => { r with
    clean := failed == 0, undef := failed != 0, written := if failed = 0 then some [] else none }).mediaForget die d.unit 0 16384 d.planes

/-- A confirmed program or erase ended without a status: its unit is undefined (R283, R317). -/
def State.leaveUndefined (e : Nat) (d : Desc) (s : State) : State :=
  let die := e * 16 + d.die
  if d.op = 2 ∨ d.op = 3 ∨ d.op = 4 then
    (s.modUnit die d.unit fun r => { r with undef := true, clean := false, written := none }).mediaForget die d.unit 0 16384 d.planes
  else s

/-! Decoders (R351 to R353, R608). -/

/-- The decoders of a kind. -/
def decoders (soft : Bool) : List Nat := if soft then (List.range 8).map (48 + ·) else List.range 48

/-- How many decoders of a kind may work at once (R353). -/
def State.decLimit (s : State) (soft : Bool) : Nat :=
  match s.on ECC_STAT.MODE, soft with
  | true, false => 24
  | true, true => 4
  | false, false => 48
  | false, true => 8

/-- Decoders of a kind at work. -/
def State.decInUse (s : State) (soft : Bool) : Nat := s.ecc.jobs.countP fun x => decide (48 ≤ x.1) == soft

/-- The decoder that takes a codeword now: a free one of its kind, in its pool, and not the one whose output failed (R608). -/
def State.decoderFor (s : State) (j : DecJob) : Option Nat :=
  if s.decLimit j.soft ≤ s.decInUse j.soft then none
  else (decoders j.soft).find? fun d => (Tab.get none s.ecc.jobs d).isNone && !s.saf.badDec.contains d && j.avoid != d + 1

/-- The next codeword to enter a decoder, with the decoder: TAIL-class codewords first, then in the order of their last byte (R352). -/
def State.nextDecode (s : State) : Option (DecJob × Nat) :=
  (s.ecc.queue.filter (fun j => j.tail) ++ s.ecc.queue.filter (fun j => !j.tail)).findSome? fun j => (s.decoderFor j).map fun d => (j, d)

/-- Codewords that wait enter the free decoders, `n` of them at most. -/
def State.assignDecoders : Nat → State → State
  | 0, s => s
  | n + 1, s =>
    match s.nextDecode with
    | some (j, d) =>
      State.assignDecoders n (s.modEcc fun x => { x with queue := x.queue.erase j, jobs := Tab.set none x.jobs d (some j) })
    | none => s

/-- Codewords that wait enter the free decoders. -/
def State.feedDecoders (s : State) : State := s.assignDecoders s.ecc.queue.length

/-- Codewords `l` of context `k` have left the bus, `moves` times each (R583), and wait for a decoder. -/
def State.toDecoders (e k moves : Nat) (soft : Bool) (l : List Nat) (s : State) : State :=
  let tail := (s.ctxOf e k).cls == clsTail
  ((s.tally (1664 + e) (moves * l.length)).modEcc fun x => { x with
    busy := x.busy + l.length, queue := x.queue ++ l.map fun w => { eng := e, ctx := k, cw := w, soft := soft, tail := tail } }).feedDecoders

/-- The decoder that works on a codeword, with its work. -/
def State.decoderOf (s : State) (e k cw : Nat) : Option (Nat × DecJob) :=
  s.ecc.jobs.findSome? fun x =>
    match x.2 with
    | some j => if j.eng = e ∧ j.ctx = k ∧ j.cw = cw then some (x.1, j) else none
    | none => none

/-- The decodes of a context that has ended are discarded (R357). -/
def State.dropDecodes (e k : Nat) (s : State) : State :=
  let n := (s.ctxOf e k).wait.length
  (s.modEcc fun x => { x with
    busy := x.busy - n,
    queue := x.queue.filter (fun j => !(j.eng == e && j.ctx == k)),
    jobs := x.jobs.filter fun y => match y.2 with | some j => !(j.eng == e && j.ctx == k) | none => false }).feedDecoders

/-- Do more decodes run than the limits of a mode epoch with bit 16 allow (R353)? -/
def State.overLimit (s : State) : Bool := decide (24 < s.decInUse false) || decide (4 < s.decInUse true)

/-! Contexts start and end. -/

/-- A context begins (R323). -/
def State.startCtx (e k cls : Nat) (d : Desc) (s : State) : State :=
  let w := if 10 ≤ d.op then (List.range 8).map fun i => d.init.getD i 0
    else [d.words.getD 0 0, d.words.getD 1 0, d.arg0, d.arg1, 0, 0, 0, 0]
  let t := s.now
  s.modCtx e k fun _ => { live := true, desc := d, cls := cls, w := w, target := d.die, startAt := t, confAt := t }

/-- A descriptor leaves its queue. -/
def State.dequeue (e cls i : Nat) (s : State) : State := s.setQueue e cls ((s.queue e cls).eraseIdx i)

/-- The operation of a context counts in the account from now on (R66); a high-current start is noted (R67, counter 2,211). -/
def State.countStart (e k ma : Nat) (hc : Bool) (s : State) : State :=
  let t := s.now
  let s := (s.acctAdd ma).modCtx e k fun c => { c with ma := c.ma + ma, confAt := t }
  if hc then (s.modBell fun b => { b with lastHcStart := some t }).tally 2211 1 else s

/-- The pause of a die after a high-current operation (R544). -/
def State.pauseDie (e d : Nat) (s : State) : State :=
  let l := s.fld THM_STAT.LEVEL
  if l = 0 then s
  else
    let n := s.dnum (if l = 1 then 0x2204 else 0x2205) 0
    s.modPow fun p => { p with pauses := Tab.set 0 p.pauses (e * 16 + d) n }

/-- The hardware reads that met this die busy are submitted again (R307). -/
def State.unparkReads (e d : Nat) (s : State) : State :=
  let l := (s.engine e).parked.filter fun x => x.2.die == d
  s.modEng e fun g => { g with parked := g.parked.filter (fun x => x.2.die != d), hwq := g.hwq ++ l }

/-- The resume command of a suspended operation (R314): the causing read's record and charge follow. -/
def State.resume (e d : Nat) (s : State) : State :=
  let c := s.ctxOf e (d * 2)
  let t := s.now
  let span := t - c.suspAt
  let s := (s.setAct e d .active).modCtx e (d * 2) fun c =>
    { c with lostAt := c.lostAt + span, resumeAt := some t, caused := false, tailHeld := none }
  match c.tailHeld with
  | some h =>
    let s := s.addCharge c.tailAcct (e * 16 + d) (cyclesUs span)
    if c.tailOut then s.writeRecord e { h with w2 := h.w2 + min (cyclesUs span) 0xFFFFF * 2 ^ 12 } else s
  | none => s

/-- A die whose TAIL reads are served goes on: a suspended operation is resumed, a READ that gave way continues (R314, R316). -/
def State.goOn (e d : Nat) (s : State) : State :=
  if (s.ctxOf e (d * 2 + 1)).live || s.tailEligible e d then s
  else if s.act e d = .suspended then s.resume e d
  else if s.act e d = .reading ∧ (s.ctxOf e (d * 2)).ready = false ∧ (s.ctxOf e (d * 2)).desc.op = 1 then
    s.modCtx e (d * 2) fun c => { c with ready := true }
  else s

/-- The candidate entry of a READ that has ended (R359). -/
def State.giveCandidate (e : Nat) (c : Ctx) (s : State) : State :=
  match c.cand with
  | some (reason, cw, bits, page) => s.addCandidate reason c.retry bits (e * 16 + c.desc.die) c.desc.unit page cw c.desc.cell
  | none => s

/-- Context `k` of engine `e` ends with `status` and `detail`: the die's account, the charge, the record, the owner. A TAIL
read that caused the suspension it is served in is charged and recorded at the resume (R314). -/
def State.endCtx (e k status detail : Nat) (s : State) : State :=
  let c := s.ctxOf e k
  let d := k / 2
  let charge := s.chargeOf e k
  if !c.live then s
  else
    let s := ((s.acctFree c.ma).giveCandidate e c).dropDecodes e k
    let s := if (c.desc.highCurrent || c.sched != 0) && c.ma != 0 then s.pauseDie e d else s
    let s := s.modEng e fun g => { g with ctx := Tab.set {} g.ctx k {} }
    let s := if c.claimed then (s.setAct e c.target .free).unparkReads e c.target else s
    let comp : Comp := { status := status, detail := detail, susp := c.susp, retry := c.retry, maxbits := c.maxbits,
                         charge := charge, cwfail := if status = csUncorr then c.cwfail else 0, nstat := c.nstat }
    if k % 2 = 1 then
      if s.act e d = .suspended then
        if c.caused then
          let h := comp.held c.cls c.desc
          let s := (s.countStatus e status).tally (1536 + e) 1
          let s := s.modCtx e (d * 2) fun p =>
            { p with tailHeld := some { h with w2 := h.w2 % 2 ^ 12 }, tailAcct := c.desc.account, tailOut := recorded c.desc status }
          (s.workDone e c.cls c.desc { status := status, maxbits := c.maxbits, retry := c.retry, guardBad := c.guardBad }).goOn e d
        else (s.deliver e c.cls c.desc { comp with charge := 0 } c.guardBad).goOn e d
      else (s.deliver e c.cls c.desc comp c.guardBad).goOn e d
    else
      let s := s.setAct e d .free
      let s := match c.tailHeld with
        | some h =>
          let us := cyclesUs (s.now - c.suspAt)
          let s := s.addCharge c.tailAcct (e * 16 + d) us
          if c.tailOut then s.writeRecord e { h with w2 := h.w2 + min us 0xFFFFF * 2 ^ 12 } else s
        | none => s
      (s.deliver e c.cls c.desc comp c.guardBad).unparkReads e d

/-- A queued descriptor ends without having started: no bus cycle, no charge. -/
def State.endQueued (e cls i status detail : Nat) (s : State) : State :=
  match (s.queue e cls)[i]? with
  | some d => (s.dequeue e cls i).deliver e cls d { status := status, detail := detail } false
  | none => s

/-! Reads (R302, R316, R354). -/

/-- Does a decode above the report threshold count (R356)? 0 acts as 1. -/
def State.reportThr (s : State) : Nat := max 1 (s.fld ECC_THR.REPORT)

/-- Tubs of codeword `cw` of the page a READ stands at. -/
def State.cwPlace (s : State) (c : Ctx) (cw : Nat) : List Nat :=
  let n := s.cwTubs c.desc
  let per := c.desc.pageCws.length
  let i := c.pages * per + c.desc.pageCws.idxOf cw
  ((s.chainOf c.desc.buf (s.tubsNeeded c.desc)).drop (n * i)).take n

/-- A decoded codeword reaches the chain of a firmware READ; a RAW codeword's bytes are those on flash: free values. -/
def State.moveCw (e : Nat) (c : Ctx) (cw : Nat) (s : State) : State :=
  let s := if c.desc.raw then s.tally (1664 + e) 1 else s
  if c.desc.owner ≠ 0 then s
  else
    let l := s.cwPlace c cw
    if c.desc.raw then each l (fun t s => (s.setPayload t ((Config.freeBlock s.free).toNat)).tookFree) s
    else
      let r := s.mediaRead (e * 16 + c.desc.die) c.desc.unit (c.desc.page + c.pages) cw
      r.2.scatter l r.1

/-- A read command of a READ's next read: one ready status, or `n`, must come before its data moves. -/
def State.nextRead (e k n : Nat) (s : State) : State :=
  let gives := k % 2 == 0 && s.tailEligible e (k / 2)
  s.modCtx e k fun c => { c with polls := n, fails := c.fails, ready := !gives }

/-- The page of a READ is done: the last one completes the descriptor (R305, R316). -/
def State.pageDone (e k : Nat) (s : State) : State :=
  let c := s.ctxOf e k
  let esc := c.phase != 0
  let s := s.modCtx e k fun c => { c with pages := c.pages + 1, fails := [], phase := 0 }
  if c.desc.npages < c.pages + 1 then
    s.endCtx e k (if c.anyCorr then csCorrected else csOk) (c.pages + 1)
  else
    let stream := bit (s.features e) 1 && !esc && !(k % 2 == 0 && s.tailEligible e (k / 2))
    if stream then
      let l := if c.desc.raw then [] else c.desc.pageCws
      (s.modCtx e k fun c => { c with wait := l, polls := 0 }).toDecoders e k 1 false l
    else s.nextRead e k 1

/-- The pages of a RAW read that need no ready status of their own. -/
def State.rawPages (e k : Nat) : Nat → State → State
  | 0, s => s
  | n + 1, s =>
    let c := s.ctxOf e k
    if !c.live || c.polls != 0 then s
    else State.rawPages e k n ((each c.desc.pageCws (fun cw s => s.moveCw e c cw) s).pageDone e k)

/-- The data of a page (or of one read of its escalation) moves once its ready statuses have come (R352, R354). -/
def State.pageReady (e k : Nat) (s : State) : State :=
  let c := s.ctxOf e k
  if c.desc.raw then s.rawPages e k 64
  else
    let l := if c.phase = 0 then c.desc.pageCws else c.fails
    (s.modCtx e k fun x => { x with wait := l, fails := [] }).toDecoders e k (if c.phase = 16 then 3 else 1) (c.phase == 16) l

/-- A candidate of a codeword replaces the one described so far when its reason is higher, or equal with a lower index. -/
def betterCand (old : Option (Nat × Nat × Nat × Nat)) (reason cw bits page : Nat) : Option (Nat × Nat × Nat × Nat) :=
  match old with
  | some (r, c, b, p) => if r < reason ∨ (r = reason ∧ cw < c ∧ p = page) then some (reason, cw, bits, page) else some (r, c, b, p)
  | none => some (reason, cw, bits, page)

/-- Change the counters of a die (R361). -/
def State.modCnt (die : Nat) (f : EccCnt → EccCnt) (s : State) : State := s.modEcc fun x => { x with cnt := Tab.upd {} x.cnt die f }

/-- A saturating 32-bit count. -/
def sat32 (v n : Nat) : Nat := min (v + n) 0xFFFFFFFF

/-- A codeword is corrected with `bits` bits: the flags, the largest count, the candidate, the counters (R339, R356, R359). -/
def State.decodedWell (e k cw bits : Nat) (guardOk : Bool) (s : State) : State :=
  let c := s.ctxOf e k
  let die := e * 16 + c.desc.die
  let b := if c.phase = 16 then 255 else min bits 255
  let above := decide (s.reportThr < bits) || c.phase != 0
  let reason := if c.phase = 16 then 3 else if c.phase ≠ 0 then 2 else if s.fld ECC_THR.RELOC ≤ bits then 1 else 0
  let s := s.moveCw e c cw
  let s := s.modCtx e k fun c => { c with
    maxbits := max c.maxbits b, anyCorr := c.anyCorr || above, corr := c.corr || above, guardBad := c.guardBad || !guardOk,
    cand := if reason = 0 then c.cand else betterCand c.cand reason cw b (c.desc.page + c.pages) }
  if above then (s.modCnt die fun x => { x with above := sat32 x.above 1 }).tally 2202 1 else s

/-- Escalation after the last decode of a step left codewords uncorrectable (R354): the next retry step, the soft decode, or
the end of the descriptor. -/
def State.escalate (e k : Nat) (s : State) : State :=
  let c := s.ctxOf e k
  let die := e * 16 + c.desc.die
  let refs := bit (s.features e) 4
  let soft := s.on (ECC_PROF.SOFT c.desc.eccprof) && s.on ECC_CTRL.SOFT_EN
  if refs && decide (c.phase < c.desc.retrymax) && c.phase != 16 then
    let s := ((s.modCtx e k fun c => { c with phase := c.phase + 1, retry := c.retry + 1 }).modCnt die fun x =>
      { x with retries := sat32 x.retries 1 }).tally 2203 1
    s.nextRead e k 1
  else if refs && soft && c.phase != 16 then
    let p := c.desc.eccprof
    let steps := (s.fld (ECC_PROF.SOFTA p) != 0).toNat + (s.fld (ECC_PROF.SOFTB p) != 0).toNat
    let s := ((s.modCtx e k fun c => { c with phase := 16, retry := c.retry + steps }).modCnt die fun x =>
      { x with softs := sat32 x.softs c.fails.length }).tally 2203 steps
    (s.assertEvent 130).nextRead e k 3
  else
    let n := c.fails.length
    let mask := c.fails.foldl (fun m w => m ||| 2 ^ (w % 4)) 0
    let cand := c.fails.foldl (fun o w => betterCand o 4 w 0 (c.desc.page + c.pages)) c.cand
    let s := (s.modCnt die fun x => { x with uncorr := sat32 x.uncorr n }).tally 2205 n
    let s := each c.fails (fun _ s => s.assertEvent 131) s
    (s.modCtx e k fun c => { c with uncorr := true, cwfail := mask, cand := cand }).endCtx e k csUncorr c.pages

/-- A decode of a READ has ended (R352 to R356). -/
def State.readDecoded (e k cw : Nat) (o : Decode) (s : State) : State :=
  let soft := (s.ctxOf e k).phase == 16
  let s := (s.modEcc fun x => { x with busy := x.busy - 1 }).tally (if soft then 2204 else 2201) 1
  let s := s.modCtx e k fun c => { c with wait := dropFrom cw c.wait }
  let s := match o with
    | .corrected bits g => s.decodedWell e k cw bits g
    | _ => s.modCtx e k fun c => { c with fails := c.fails ++ [cw], uncorr := true }
  let c := s.ctxOf e k
  if !c.wait.isEmpty then s
  else if c.fails.isEmpty then s.pageDone e k
  else s.escalate e k

/-! Ends of operations. -/

/-- Bytes that a die answers reach the chain of a firmware descriptor. -/
def State.answerBytes (c : Ctx) (l : List Nat) (s : State) : State :=
  if c.desc.owner ≠ 0 then s
  else
    let t := s.chainOf c.desc.buf (s.tubsNeeded c.desc)
    each (List.range t.length) (fun i s => s.setPayload (t.getD i 0) (ofBytes (((l.drop (512 * i)).take 512)))) s

/-- A word of the calibration entry of local channel `k`, die `d` of group `g` (Table 8.6). -/
def calFld (g k d w : Nat) : Fld := ⟨0x40e00000 + 0x10000 * (g % 16) + 0x1000 + 0x100 * (k % 8) + 0x10 * (d % 16) + 4 * (w % 4), 0, 32, 0⟩

/-- A bit of FCH_CHEVT is set: event source c (08: FCH_CHEVT). -/
def State.chEvt (c : Nat) (f : Nat → Nat → Fld) (s : State) : State := (s.put (f (c / 8) (c % 8)) true).assertEvent c

/-- `v` with its bits `[lo + w - 1 : lo]` at `x`. -/
def putSlice (v lo w x : Nat) : Nat := v - slice v lo w * 2 ^ lo + x % 2 ^ w * 2 ^ lo

/-- The companion sensor of a group (R287): sensor 12 + g div 4, its reading in °C. -/
def State.groupTemp (s : State) (g : Nat) : Int := s.pow.temp.getD (12 + g / 4) 0 / 16

/-- A training that found its eye writes the calibration entry (R288): the values of its kind, the temperature, VALID. -/
def State.writeTraining (e d kind : Nat) (codes : List Nat) (eye : Nat) (s : State) : State :=
  let g := e / 8
  let k := e % 8
  let x := fun i => codes.getD i 0
  let upd := fun (w : Nat) (f : Nat → Nat) (s : State) => s.setFld (calFld g k d w) (f (s.fld (calFld g k d w)))
  let t := twos 8 (s.groupTemp g)
  let s := upd 0 (fun v => putSlice (putSlice v 31 1 1) 16 8 t) s
  let s := match kind with
    | 1 => upd 3 (fun v => putSlice v 8 8 (x 0)) s
    | 2 => upd 3 (fun v => putSlice v 16 8 (x 0)) s
    | 3 => upd 3 (fun v => putSlice (putSlice v 24 8 (x 3)) 0 8 eye) (upd 2 (fun _ => x 2) (upd 1 (fun _ => x 1) (upd 0 (fun v => putSlice v 8 8 (x 0)) s)))
    | _ => upd 0 (fun v => putSlice v 0 8 (x 0)) s
  s.modFch fun f => { f with recalled := dropFrom (e * 16 + d) f.recalled }

/-- Is the eye narrower than 20 % of the unit interval (R288)? The read and write eyes, on a DDR interface. -/
def State.narrowEye (s : State) (g kind eye : Nat) : Bool :=
  let set := s.fld (FCH_GSTAT.SET g)
  let rate := s.fld (FCH_TSETW0.RATE g set)
  decide (3 ≤ kind) && rate != 0 && decide (eye * 25 * rate < 1000000)

/-- A maintenance operation finds the die ready: its effect, status and DETAIL. -/
def State.endMaint (e k : Nat) (s : State) : State :=
  let c := s.ctxOf e k
  let d := c.desc
  let die := e * 16 + d.die
  match d.op with
  | 5 => (s.modNand die fun x => { x with patternOk := false }).endCtx e k csOk 0
  | 6 => (s.modNand die fun x => { x with feats := Tab.set 0 x.feats (d.arg0 % 256) d.arg1 }).endCtx e k csOk 0
  | 7 => (s.answerBytes c c.data).endCtx e k csOk 0
  | 8 => (s.answerBytes c (c.data.take (d.arg1 % 2 ^ 13))).endCtx e k csOk 0
  | _ =>
    let kind := d.arg0 % 16
    let eye := c.data.headD 0
    if s.narrowEye (e / 8) kind eye then
      let s := (s.put (FCH_CALRES.EYEFAIL (e / 8)) true).chEvt e FCH_CHEVT.CALFAIL
      s.endCtx e k csAborted 0xFFFE
    else (s.writeTraining e d.die kind c.data.tail eye).endCtx e k csOk 0

/-- A program or erase reports ready, with the planes it failed on (R305): its effect on the media and its completion. -/
def State.endWrite (e k failed : Nat) (s : State) : State :=
  let c := s.ctxOf e k
  let d := c.desc
  if d.op = 4 then (s.putErase e d failed).endCtx e k (if failed = 0 then csOk else csEraseFail) failed
  else (s.putProgram e d c.data failed).endCtx e k (if failed = 0 then csOk else csProgFail) (if failed = 0 then d.progPages else failed)

/-- The status byte's fail bit with the planes named. -/
def failedPlanes (status planes : Nat) : Nat := if bit status 0 then planes else 0

/-- The operation of a microcode program has ended: the die is FREE, the account and the pause follow (R335). -/
def State.microFree (e k : Nat) (s : State) : State :=
  let c := s.ctxOf e k
  let s := s.acctFree c.ma
  let s := if c.sched != 0 && c.ma != 0 then s.pauseDie e (k / 2) else s
  ((s.modCtx e k fun c => { c with ma := 0, sched := 0, ready := true }).setAct e (k / 2) .free).unparkReads e (k / 2)

/-- The die of an operation reports ready (R335, Table 9.7): a LIB or RUN context whose DONE waits for it completes. -/
def State.dieReady (e k status failPlanes : Nat) (s : State) : State :=
  let c := s.ctxOf e k
  match c.desc.op with
  | 1 =>
    let s := s.modCtx e k fun c => { c with polls := c.polls - 1 }
    if (s.ctxOf e k).polls = 0 then s.pageReady e k else s
  | 2 => s.endWrite e k (failedPlanes status failPlanes)
  | 3 => s.endWrite e k (failedPlanes status failPlanes)
  | 4 => s.endWrite e k (failedPlanes status failPlanes)
  | 10 => (match c.fin with | some f => s.endCtx e k f.1 f.2 | none => s.microFree e k)
  | 11 => (match c.fin with | some f => s.endCtx e k f.1 f.2 | none => s.microFree e k)
  | _ => s.endMaint e k

/-! Fences, time limits, aborts, resets (R310, R317, R318, R319). -/

/-- The contexts of a die. -/
def dieCtxs (d : Nat) : List Nat := [d * 2 + 1, d * 2]

/-- Is the context's operation a confirmed program or erase? -/
def Ctx.confirmed (c : Ctx) : Bool := c.live && c.ma != 0 && (c.desc.op == 2 || c.desc.op == 3 || c.desc.op == 4 || c.sched != 0)

/-- End whatever is in progress on a die. A confirmed program or erase leaves its unit undefined. -/
def State.endDie (e d status : Nat) (detail : Ctx → Nat) (s : State) : State :=
  each (dieCtxs d) (fun k s =>
    let c := s.ctxOf e k
    if c.live then
      let s := if c.confirmed then s.leaveUndefined e c.desc else s
      s.endCtx e k status (detail c)
    else s) s

/-- The fence bit of a die has been set: everything in progress on it ends FENCED; a confirmed program or erase stays in the
account until its time limit (R310). -/
def State.fenceDie (e d : Nat) (s : State) : State :=
  let c := s.ctxOf e (d * 2)
  let s := if c.confirmed then
      ((s.leaveUndefined e c.desc).modCtx e (d * 2) fun x => { x with ma := 0 }).modEng e fun g => { g with fenceHold := g.fenceHold ++ [(d, c.ma)] }
    else s
  s.endDie e d csFenced fun c => c.pages

/-- Every queued descriptor of engine `e` that `p` marks completes ABORTED with `detail`, queue by queue in class order. -/
def State.abortQueued (e detail : Nat) (p : Desc → Bool) (s : State) : State :=
  each (List.range 4) (fun cls s =>
    let l := (s.queue e cls).filter p
    let s := s.setQueue e cls ((s.queue e cls).filter fun d => !p d)
    each l (fun d s => s.deliver e cls d { status := csAborted, detail := detail } false) s) s

/-- Every descriptor in progress and queued of engine `e` completes ABORTED, 0xFFFD (Tables 8.3 and 9.8). -/
def State.abortEngine (e : Nat) (s : State) : State :=
  let s := each (List.range 16) (fun d s => s.endDie e d csAborted fun _ => 0xFFFD) s
  s.abortQueued e 0xFFFD fun _ => true

/-- The dies of engine `e` with a confirmed program or erase. -/
def State.confirmedDies (s : State) (e : Nat) : List Nat := (List.range 16).filter fun d => (s.ctxOf e (d * 2)).confirmed

/-- The device issues a Reset to each of some dies of an engine. -/
def State.askResets (e : Nat) (l : List Nat) (s : State) : State := each l (fun d s => s.askReset (e * 16 + d)) s

/-- RESET = 1 (Table 9.8): everything ends, each die with a confirmed program or erase is reset, RUN = 0, the fault record clears, the
current mode epoch is applied; an engine that a lasting verdict holds in reset stays FENCED (R615). -/
def State.resetEngine (e : Nat) (s : State) : State :=
  let l := s.confirmedDies e
  let s := ((((s.abortEngine e).askResets e l)).put (DRF_CTRL.RUN e) false).setFld (DRF_STAT.STATE e) engStopped
  let s := (((s.put (DRF_FAULT.VALID e) false).setFld (DRF_FAULT.CODE e) 0).setFld (DRF_FAULT.CTX e) 0).setFld (DRF_FAULT.PC e) 0
  if s.saf.unitHold.contains e then s.setFld (DRF_STAT.STATE e) engFenced else s.unfenceUnit e

/-- RUN = 1 (Table 9.8). -/
def State.runEngine (e : Nat) (s : State) : State :=
  let s := (s.put (DRF_CTRL.RUN e) true).endLoops 5 fun l => l.1 == 1 && l.2.1 == e / 8
  if s.engState e = engStopped then s.setFld (DRF_STAT.STATE e) engRunning
  else if s.engState e = engRunning then s
  else s.put (DRF_STAT.ERR e) true

/-- RUN = 0: a RUNNING engine stops, and reports a pending mode epoch in that cycle. -/
def State.stopEngine (e : Nat) (s : State) : State :=
  let s := s.put (DRF_CTRL.RUN e) false
  if s.engState e = engRunning then (s.setFld (DRF_STAT.STATE e) engStopped).reportUnit e else s

/-- A mode commit reaches a unit that applies it at once: every engine that is not RUNNING and not fenced (Table 9.8). -/
def State.modeEngines (s : State) : State :=
  each (List.range 128) (fun e s => if s.engState e = engStopped ∨ s.engState e = engHalted then s.reportUnit e else s) s

/-- A unit is fenced by a mode commit (R81, Table 9.8). -/
def State.modeFence (u : Nat) (s : State) : State :=
  let s := (s.modeLag u).noteError 0x12 u 2 (u + 16)
  if u < 128 ∧ s.engState u = engRunning then s.setFld (DRF_STAT.STATE u) engFenced else s

/-- The Reset of a die does not bring it ready within 20 ms (R317): its bit of DRF_DIEERR is set. -/
def State.resetFails (die : Nat) (s : State) : State :=
  let f := DRF_DIEERR.DIE (die / 16)
  (s.endReset die).setFld f (setBit (s.fld f) (die % 16) true)

/-- A die whose wait passed its limit is reset (R317); `resetOk` tells whether the Reset brings it ready within 20 ms. -/
def State.limitReset (die : Nat) (resetOk : Bool) (s : State) : State :=
  let s := s.askReset die
  if resetOk then s else s.resetFails die

/-- A wait for a die's ready status passes its limit (R317): the die is reset, the descriptor completes TIMEOUT; a TAIL read
served in a suspension takes the suspended operation with it. The limit of a Reset that the device issued itself sets DRF_DIEERR;
that of a fenced operation takes it out of the account (R310). -/
def State.timeoutDie (e d : Nat) (resetOk : Bool) (s : State) : State :=
  let p := s.ctxOf e (d * 2)
  let q := s.ctxOf e (d * 2 + 1)
  if !p.live && !q.live then
    if Tab.get 0 s.fch.resetOn (e * 16 + d) ≠ 0 then s.resetFails (e * 16 + d)
    else match (s.engine e).fenceHold.find? fun x => x.1 == d with
    | some x => (s.modEng e fun g => { g with fenceHold := g.fenceHold.erase x }).acctFree x.2
    | none => s
  else if s.act e d = .free ∨ s.act e d = .loaded then s
  else
    let s := if q.live ∧ s.act e d = .reading then s.endCtx e (d * 2 + 1) csTimeout q.pages
      else s.endDie e d csTimeout fun c => c.pages
    s.limitReset (e * 16 + d) resetOk

end Sys2Proof.Machine
end

