-- ==== Sys2Proof/Machine/HoldState.lean ====
section
/-! DEFINITION. Machine/HoldState.lean: the hold-up manager's conditions and states: usable dump dies, arm conditions, store
checks, draining (13_protected_cache_holdup.md R411 to R416). -/

namespace Sys2Proof.Machine

/-! HLD_STAT.STATE codes. -/

/-- INIT -/
def hldInit : Nat := 0
/-- CHARGING -/
def hldCharging : Nat := 1
/-- ARMED -/
def hldArmed : Nat := 2
/-- SUSPECT -/
def hldSuspect : Nat := 3
/-- DRAINING -/
def hldDraining : Nat := 4
/-- DUMPING -/
def hldDumping : Nat := 5
/-- DONE -/
def hldDone : Nat := 6

/-- The hold-up state. -/
def State.hldState (s : State) : Nat := s.fld HLD_STAT.STATE

/-- The state with the hold-up manager in state `x`. -/
def State.toHld (x : Nat) (s : State) : State := s.setFld HLD_STAT.STATE x

/-- Does an entry to SHELF_SLEEP or DEEP_OFF keep the manager from arming (R528)? -/
def State.entryRemovesSram (s : State) : Bool :=
  (s.fld PWR_STAT.CTRL == 1 || s.fld PWR_STAT.CTRL == 2) && decide (3 ≤ s.pow.entry)

/-- The arm conditions but for the store's voltage and check, with at least `n` usable dump dies. -/
def State.armBase (s : State) (n : Nat) : Bool :=
  s.on HLD_CTRL.EN && !s.hld.timer && s.slotFree != 0 && decide (n ≤ s.usableDies)

/-- The arm conditions but for the check. -/
def State.armCharged (s : State) : Bool := s.armBase 64 && decide (s.dnum 0x2306 0 ≤ s.fld HLD_SENSE.HU)

/-- All arm conditions (R414). -/
def State.armOk (s : State) : Bool := s.armCharged && s.hld.checkOk && !s.entryRemovesSram

/-- ARMED is kept (R414): 63 dump dies are enough, and the disarm threshold replaces the two conditions of the store. -/
def State.armKept (s : State) : Bool := s.armBase 63 && s.hld.charged

/-- A store check starts (R413). -/
def State.startCheck (s : State) : State :=
  if s.hld.checking then s
  else (s.modHld fun h => { h with checking := true, chgEn := false, testEn := true }).count HLD_CNT.CHECKS 1

/-- Is the charge FET on outside a check: charging in progress and no over-voltage? -/
def State.chargeOn (s : State) : Bool := (s.hldState ∈ [hldCharging, hldArmed, hldSuspect, hldDraining]) && !s.hld.ovOff

/-- A store check is over: both outputs are restored. -/
def State.stopCheck (s : State) : State :=
  if s.hld.checking then
    let c := s.chargeOn
    s.modHld fun h => { h with checking := false, testEn := false, chgEn := c }
  else s

/-- While draining: once nothing remains only in protected tubs, a checkpoint and a map flush start (R416). -/
def State.drainWork (s : State) : State :=
  if s.hldState = hldDraining ∧ s.hld.drainRun = false ∧ s.hfe.blkTub = [] ∧ s.msh.parity = [] ∧
      s.on ZPM_STAT.CKPT_BUSY = false ∧ s.med.flushMark = none then
    (s.startCheckpoint.startMapFlush).modHld fun h => { h with drainRun := true }
  else s

/-- DRAINING is entered: commits stop; event 359. -/
def State.enterDraining (s : State) : State :=
  (((s.toHld hldDraining).modHld fun h => { h with drainReq := false, drainRun := false, drainCkpt := false, drainFlush := false }).assertEvent
    359).drainWork

/-- What the manager does when its conditions change: ARMED no longer kept, the first check of CHARGING, the drain's work;
event 364 when the usable dump dies fall below 64. -/
def State.holdCheck (s : State) : State :=
  let n := s.usableDies
  let was := s.hld.seen
  let s := (s.modHld fun h => { h with seen := n }).assertIf (decide (n < 64) && decide (64 ≤ was)) 364
  if s.hldState = hldArmed then (if s.armKept then s else s.enterDraining)
  else if s.hldState = hldDraining then s.drainWork
  else if s.hldState = hldCharging && s.armCharged && !s.hld.checkOk && !s.hld.checkedOnce then s.startCheck
  else s

/-- A write of HLD_CTRL (R413, R414, R415). -/
def State.writeHldCtrl (v : Nat) (s : State) : State :=
  let s := s.put HLD_CTRL.EN (bit v 0)
  if s.hldState = hldDumping ∨ s.hldState = hldDone then s
  else
    let s := if bit v 2 && !s.hld.timer then s.startCheck else s
    let s :=
      if bit v 1 && s.hldState == hldArmed then s.enterDraining.modHld fun h => { h with drainReq := true }
      else if bit v 1 && s.hldState == hldDraining then s.modHld fun h => { h with drainReq := true }
      else s
    s.holdCheck

end Sys2Proof.Machine
end

