-- ==== Sys2Proof/Machine/FchOps.lean ====
section
/-! DEFINITION. Machine/FchOps.lean: channel groups: boot profiles, states, supply and write-protect, timing sets,
calibration checks, as operations (08_flash_channels.md). -/

namespace Sys2Proof.Machine

/-- FCH_GSTAT.STATE codes. -/
def grpOff : Nat := 0
/-- POWERING -/
def grpPowering : Nat := 1
/-- UNTRAINED -/
def grpUntrained : Nat := 2
/-- READY -/
def grpReady : Nat := 3
/-- FAULT -/
def grpFault : Nat := 4

/-- The state of group `g`. -/
def State.grp (s : State) (g : Nat) : Nat := s.fld (FCH_GSTAT.STATE g)

/-- Group request or write ignored. -/
def State.grpErr (g : Nat) (s : State) : State := s.put (FCH_GSTAT.ERR g) true

/-- Gg_WP_N follows the state and WP_REL, and is low while a NAND loopback runs (R625); a dump commit releases it for the READY groups of the dump (R282). -/
def State.updateWp (g : Nat) (s : State) : State :=
  let b := (s.grp g == grpUntrained || s.grp g == grpReady) && s.on (FCH_GCTRL.WP_REL g) ||
    (s.hld.committed && s.grp g == grpReady && bit s.hld.maskNow g)
  let b := b && !s.nandLoop g
  (s.put (FCH_GSTAT.WP g) b).modFch fun f => { f with wpRel := setBit f.wpRel g b }

/-- Group `g` changes to state `st`: FCH_CHEVT.STATE of its channels, FAULT with it on entry to FAULT. -/
def State.toGrp (g st : Nat) (s : State) : State :=
  if s.grp g = st then s
  else
    let s := ((s.setFld (FCH_GSTAT.STATE g) st).endLoops 5 fun l => l.1 == 1 && l.2.1 == g).updateWp g
    each (List.range 8) (fun k s =>
      let s := if st = grpFault then s.put (FCH_CHEVT.FAULT g k) true else s
      s.chEvt (8 * g + k) FCH_CHEVT.STATE) s

/-- NPWR_EN[g]. -/
def State.setNpwr (g : Nat) (b : Bool) (s : State) : State := s.modFch fun f => { f with npwr := setBit f.npwr g b }

/-- The reconciliation of group `g` is complete (R274). -/
def State.reconciled (g : Nat) (s : State) : State := s.modFch fun f => { f with reconcile := setBit f.reconcile g false, cycling := setBit f.cycling g false }

/-- The Resets of a group's dies end with its supply. -/
def State.dropResets (g : Nat) (s : State) : State :=
  each ((s.fch.resetQ ++ s.fch.resetOn.map (·.1)).filter fun d => d / 128 == g) State.endReset s

/-- Group `g` enters OFF: supply low, write-protect low, WP_REL cleared. -/
def State.grpToOff (g : Nat) (s : State) : State :=
  let s := ((s.dropResets g).setNpwr g false).modFch fun f => { f with resetWait := Tab.set 0 f.resetWait g 0 }
  (s.put (FCH_GCTRL.WP_REL g) false).toGrp g grpOff

/-- Group `g` enters FAULT. -/
def State.grpToFault (g : Nat) (f : Nat → Fld) (s : State) : State :=
  let s := (((s.dropResets g).put (f g) true).setNpwr g false).modFch fun x => { x with resetWait := Tab.set 0 x.resetWait g 0 }
  (s.toGrp g grpFault).reconciled g

/-- Every descriptor of the group's engines ends ABORTED (Table 8.3, R279). -/
def State.abortGroup (g : Nat) (s : State) : State := each (List.range 8) (fun k s => s.abortEngine (8 * g + k)) s

/-- Entry to SHELF_SLEEP or DEEP_OFF, thermal shutdown, or the dump commit for a group outside the dump (Table 8.3). -/
def State.grpForceOff (g : Nat) (s : State) : State := if s.grp g = grpOff then s.setNpwr g false else (s.abortGroup g).grpToOff g

/-- Undervoltage of VCCQ[g] (Table 8.3). -/
def State.undervoltage (g : Nat) (s : State) : State :=
  if s.grp g = grpUntrained ∨ s.grp g = grpReady then
    ((s.abortGroup g).modFch fun f => { f with vccqOk := setBit f.vccqOk g false }).grpToFault g FCH_GSTAT.UV
  else s

/-- Boot profile of a family and band (Table 8.2): INTF, RATE. -/
def bootProfile (jedec : Bool) (band : Nat) : Nat × Nat :=
  if jedec then (if band = 0 then (5, 50) else (4, 50)) else if band = 0 then (2, 50) else (0, 0)

/-- Load a boot profile into both timing sets (R275). -/
def State.loadProfile (g : Nat) (jedec : Bool) (band : Nat) (s : State) : State :=
  let p := bootProfile jedec band
  each [0, 1] (fun k s => ((s.setFld (FCH_TSETW0.INTF g k) p.1).setFld (FCH_TSETW0.SDRMODE g k) 0).setFld (FCH_TSETW0.RATE g k) p.2) s

/-- The configured band; 0b11 acts as 0b01. -/
def State.grpBand (s : State) (g : Nat) : Nat := if s.fld (FCH_GCFG.BAND g) = 3 then 1 else s.fld (FCH_GCFG.BAND g)

/-- Entering POWERING: supply on, boot profile, calibration entries not VALID (R275, R279, R290). -/
def State.enterPowering (g : Nat) (s : State) : State :=
  let s := (s.setNpwr g true).toGrp g grpPowering
  let s := if s.ctl.recLoaded then s.loadProfile g (s.on (FCH_GCFG.FAMILY g)) (s.grpBand g) else s
  each (List.range 128) (fun i s =>
    let f := calFld g (i / 16) (i % 16) 0
    s.setFld f (s.fld f % 2 ^ 31)) s

/-- The dies of group `g` that take a Reset: populated and not fenced, as local channel * 16 + die. -/
def State.resetSet (s : State) (g pop : Nat) : Nat :=
  (List.range 128).foldl (fun m i => if bit pop (i % 16) && !s.fenced (8 * g + i / 16) (i % 16) then m + 2 ^ i else m) 0

/-- All dies of group `g` have answered their Reset: POWERING ends, an addition of dies ends (R274, R279). -/
def State.resetsDone (g : Nat) (s : State) : State :=
  if Tab.get 0 s.fch.resetWait g ≠ 0 then s
  else if s.grp g = grpPowering then (s.toGrp g grpUntrained).reconciled g
  else s.reconciled g

/-- Issue Resets to a set of dies of group `g`, as the budget allows. -/
def State.resetDies (g set : Nat) (s : State) : State :=
  let s := s.modFch fun f => { f with resetWait := Tab.set 0 f.resetWait g set, patBuf := setBit f.patBuf g false }
  (each (bitsOf set 128) (fun i s => s.askReset ((8 * g + i / 16) * 16 + i % 16)) s).resetsDone g

/-- A die whose Reset is awaited is ready, or is no longer waited for. -/
def State.resetReady (e d : Nat) (s : State) : State :=
  let g := e / 8
  let s := s.endReset (e * 16 + d)
  if bit (Tab.get 0 s.fch.resetWait g) (e % 8 * 16 + d) then
    (s.modFch fun f => { f with resetWait := Tab.set 0 f.resetWait g (setBit (Tab.get 0 f.resetWait g) (e % 8 * 16 + d) false) }).resetsDone g
  else s

/-- A die that is fenced takes no Reset and is not waited for (R279, R284, R310). -/
def State.fenceReset (die : Nat) (s : State) : State :=
  if s.resetting die || bit (Tab.get 0 s.fch.resetWait (die / 128)) (die % 128) then s.resetReady (die / 16) (die % 16) else s

/-- The populated dies in force, as a mask. -/
def State.popMask (s : State) (g : Nat) : Nat := if s.ctl.recLoaded then s.fld (FCH_GCFG.POP g) else 1

/-- The ramp wait of group `g` ends with VCCQ[g] in band `band` (3: none); before the record is loaded the family is probed,
with what die 0 answers in each profile (R274, R275, R279). -/
def State.rampEnd (g band : Nat) (onfi jedec : Bool) (s : State) : State :=
  if s.grp g ≠ grpPowering ∨ Tab.get 0 s.fch.resetWait g ≠ 0 then s
  else
    let s := (s.setFld (FCH_GSTAT.BANDSEEN g) band).modFch fun f => { f with vccqOk := setBit f.vccqOk g (band != 3) }
    if s.ctl.recLoaded then
      if band = s.grpBand g then s.resetDies g (s.resetSet g (s.popMask g)) else s.grpToFault g FCH_GSTAT.BANDERR
    else if 3 ≤ band then s.grpToFault g FCH_GSTAT.BANDERR
    else
      let s := s.loadProfile g false band
      if onfi then s.resetDies g (s.resetSet g 1)
      else
        let s := s.loadProfile g true band
        if jedec then s.resetDies g (s.resetSet g 1) else s.grpToFault g FCH_GSTAT.RSTERR

/-- PWR_ON = 1 (Table 8.3): an OFF group joins the next power-up sequence as its only group. -/
def State.grpOn (g : Nat) (s : State) : State :=
  if s.grp g ≠ grpOff then s.grpErr g
  else if s.bell.puActive then s.modFch fun f => { f with joinNext := setBit f.joinNext g true }
  else s.startPowerUp (2 ^ g)

/-- PWR_OFF = 1. -/
def State.grpOffReq (g : Nat) (s : State) : State :=
  let st := s.grp g
  if st = grpPowering then s.grpToOff g
  else if st = grpUntrained ∨ st = grpReady then (if s.groupIdle g then s.grpToOff g else s.grpErr g)
  else if st = grpFault then (((s.put (FCH_GSTAT.BANDERR g) false).put (FCH_GSTAT.RSTERR g) false).put (FCH_GSTAT.UV g) false).grpToOff g
  else s.grpErr g

/-- Has every populated unfenced die of group `g` a VALID calibration entry? -/
def State.allCalibrated (s : State) (g : Nat) : Bool :=
  (bitsOf (s.resetSet g (s.popMask g)) 128).all fun i => bit (s.fld (calFld g (i / 16) (i % 16) 0)) 31

/-- READY = 1. A recorder flush that waits for group 3 starts (R597). -/
def State.grpReadyReq (g : Nat) (s : State) : State :=
  if s.grp g = grpUntrained ∧ s.allCalibrated g = true then
    let s := s.toGrp g grpReady
    if g = 3 then s.flushWaiting else s
  else s.grpErr g

/-- WP_REL. -/
def State.setWpRel (g : Nat) (b : Bool) (s : State) : State := (s.put (FCH_GCTRL.WP_REL g) b).updateWp g

/-- Does Table 8.1 allow the interface at this band, rate and mode (R270, R276)? -/
def timingOk (intf band rate mode : Nat) : Bool :=
  let ddr := fun (lim : Nat) => decide (50 ≤ rate) && decide (rate ≤ lim) && mode == 0
  match intf with
  | 0 => (band == 1 || band == 2) && decide (mode ≤ 5) && rate == 0
  | 1 => if band = 1 then ddr 533 else band == 2 && ddr 200
  | 2 => band == 0 && ddr 1600
  | 3 => band == 0 && ddr 3600
  | 4 => if band = 1 then ddr 533 else band == 2 && ddr 133
  | 5 => band == 0 && ddr 3600
  | _ => false

/-- The band of group `g` that bounds its interface: the configured one once the record is loaded, else the one measured. -/
def State.bandNow (s : State) (g : Nat) : Nat := if s.ctl.recLoaded then s.grpBand g else s.fld (FCH_GSTAT.BANDSEEN g)

/-- Put word 0 of a timing set. -/
def State.putTset0 (g k v : Nat) (s : State) : State :=
  ((s.setFld (FCH_TSETW0.INTF g k) (slice v 28 4)).setFld (FCH_TSETW0.SDRMODE g k) (slice v 24 4)).setFld (FCH_TSETW0.RATE g k) (slice v 0 12)

/-- A write of word `w` of timing set `k` (R276): ignored writes set ERR; word 0 of set 0 also goes to set 1 (R275). -/
def State.writeTset (g k w v : Nat) (s : State) : State :=
  let quiet := s.grp g == grpOff || s.grp g == grpUntrained
  if w = 0 then
    let ok := timingOk (slice v 28 4) (s.bandNow g) (slice v 0 12) (slice v 24 4)
    if k = 0 then (if ok && quiet then (s.putTset0 g 0 v).putTset0 g 1 v else s.grpErr g)
    else if ok && slice v 28 4 == s.fld (FCH_TSETW0.INTF g 0) && decide (slice v 0 12 ≤ s.fld (FCH_TSETW0.RATE g 0)) then s.putTset0 g 1 v
    else s.grpErr g
  else if quiet || (k == 1 && !s.on (FCH_GSTAT.SET g)) then
    ((s.setFld (FCH_TSETW1.VREFQ g k) (slice v 8 4)).setFld (FCH_TSETW1.ODT g k) (slice v 4 4)).setFld (FCH_TSETW1.DRV g k) (slice v 0 4)
  else s.grpErr g

/-- Set the fence bit of a die, and its effects. -/
def State.setFence (die : Nat) (s : State) : State :=
  let e := die / 16
  let d := die % 16
  let f := fenceFld e
  if s.fenced e d then s else ((s.setFld f (setBit (s.fld f) (fenceBit e d) true)).fenceDie e d).fenceReset die

/-- Clear it. -/
def State.clearFence (die : Nat) (s : State) : State :=
  let f := fenceFld (die / 16)
  s.setFld f (setBit (s.fld f) (fenceBit (die / 16) (die % 16)) false)

/-- A write of a fence register: ones set, zeros are ignored (R285). -/
def State.writeFence (g i v : Nat) (s : State) : State :=
  each (bitsOf v 32) (fun b s => s.setFence ((8 * g + 2 * i + b / 16) * 16 + b % 16)) s

/-- A write of a word of a calibration entry (R290, R291). -/
def State.writeCal (g k d w v : Nat) (s : State) : State :=
  if s.grp g ≠ grpUntrained then s.grpErr g
  else
    (s.setFld (calFld g k d w) (if w = 0 then putSlice (v % 2 ^ 32) 24 7 0 else v)).modFch fun f =>
      { f with recalled := dropFrom ((8 * g + k) * 16 + d) f.recalled }

/-- The drift check of a frame mark (R291). -/
def State.recalCheck (s : State) : State :=
  each (List.range 2048) (fun die s =>
    let c := die / 16
    let w := s.fld (calFld (c / 8) (c % 8) (die % 16) 0)
    let t := signed 8 (slice w 16 8)
    if bit w 31 && !s.fch.recalled.contains die && decide ((s.dnum (0x3220 + c / 8) 5 : Int) < ((s.groupTemp (c / 8) - t).natAbs : Int)) then
      (s.modFch fun f => { f with recalled := die :: f.recalled }).chEvt c FCH_CHEVT.RECAL
    else s) s

/-- A write of FCH_GCFG: only in OFF. -/
def State.writeGcfg (g v : Nat) (s : State) : State :=
  if s.grp g ≠ grpOff then s.grpErr g
  else ((s.setFld (FCH_GCFG.FAMILY g) (slice v 18 1)).setFld (FCH_GCFG.BAND g) (slice v 16 2)).setFld (FCH_GCFG.POP g) (slice v 0 16)

/-- The loaded family, band and population go to FCH_GCFG (R294). -/
def State.loadGcfg (g : Nat) (s : State) : State :=
  let a := s.dnum (0x3220 + g) 1
  let b := s.dnum (0x3220 + g) 2
  let p := s.dnum (0x3220 + g) 3
  ((s.setFld (FCH_GCFG.FAMILY g) a).setFld (FCH_GCFG.BAND g) b).setFld (FCH_GCFG.POP g) p

/-- The reconciliation of group `g` with the loaded record (R274): a group past OFF with another family or band is powered off
and on again; added dies are reset. -/
def State.reconcileGroup (g : Nat) (s : State) : State :=
  let jedec := decide (4 ≤ s.fld (FCH_TSETW0.INTF g 0))
  let band := s.fld (FCH_GSTAT.BANDSEEN g)
  let s := s.loadGcfg g
  let st := s.grp g
  if st = grpOff ∨ st = grpFault then s
  else if st = grpPowering ∨ jedec ≠ s.on (FCH_GCFG.FAMILY g) ∨ band ≠ s.grpBand g then
    let s := (s.grpToOff g).modFch fun f => { f with reconcile := setBit f.reconcile g true, cycling := setBit f.cycling g true }
    s.grpOn g
  else
    let added := s.resetSet g (s.fld (FCH_GCFG.POP g) &&& 0xFFFE)
    if added = 0 then s else (s.modFch fun f => { f with reconcile := setBit f.reconcile g true }).resetDies g added

/-- A mode commit reaches the units that report it at once (R278, R318, R353, R403): engines that are not RUNNING, groups in
OFF, the ECC block unless too many decodes run, the Mash engine. -/
def State.modeAtOnce (s : State) : State :=
  let s := s.modeEngines
  let s := each (List.range 16) (fun g s => if s.grp g = grpOff || s.nandLoop g then s.reportUnit (128 + g) else s) s
  let s := s.put ECC_STAT.MODE (bit s.bell.modeWord 16)
  let s := if bit s.bell.modeWord 16 && s.overLimit then s.modEcc fun x => { x with modePend := true } else s.reportUnit 144
  s.reportUnit 145

/-- The ECC block reports a pending mode epoch once few enough decodes run (R353). -/
def State.eccMode (s : State) : State :=
  if s.ecc.modePend && !s.overLimit then (s.modEcc fun x => { x with modePend := false }).reportUnit 144 else s

end Sys2Proof.Machine
end

