-- ==== Sys2Proof/Machine/Flash.lean ====
section
/-! DEFINITION. Machine/Flash.lean: the commands of the channel groups and of the Drift engines' queues
(08_flash_channels.md, 09_flash_descriptors.md). -/

namespace Sys2Proof.Machine

/-! Channel groups. -/

/-- First address of the page of group `g` (R35). -/
def fchPage (g : Nat) : Nat := 0x40e00000 + 0x10000 * g

/-- PWR_ON (R279). -/
def pwrOn (m g : Nat) (s : State) : State := if 16 ≤ g then s else s.access m (fchPage g + 4) (State.grpOn g)
def execPwrOn (master group : Nat) (s : State) : Host.Outcome State Fault Refusal := done (pwrOn master group s)

/-- PWR_OFF (R279, R280). -/
def pwrOff (m g : Nat) (s : State) : State := if 16 ≤ g then s else s.access m (fchPage g + 4) fun s => (s.grpOffReq g).holdCheck
def execPwrOff (master group : Nat) (s : State) : Host.Outcome State Fault Refusal := done (pwrOff master group s)

/-- GROUP_READY (R279, R281). -/
def groupReadyReq (m g : Nat) (s : State) : State := if 16 ≤ g then s else s.access m (fchPage g + 4) fun s => (s.grpReadyReq g).holdCheck
def execGroupReady (master group : Nat) (s : State) : Host.Outcome State Fault Refusal := done (groupReadyReq master group s)

/-- A write of FCH_GCTRL[g]: WP_REL, then each request in the order of Table 8.3. -/
def State.writeGctrl (g v : Nat) (s : State) : State :=
  let s := s.setWpRel g (bit v 0)
  let s := if bit v 31 then s.grpOn g else s
  let s := if bit v 30 then s.grpOffReq g else s
  (if bit v 29 then s.grpReadyReq g else s).holdCheck

/-- RAMP_WAIT_END (R274, R275, R279). -/
def rampWaitEnd (g band : Nat) (onfi jedec : Bool) (s : State) : State := if 16 ≤ g ∨ 4 ≤ band then s else s.rampEnd g band onfi jedec
def execRampWaitEnd (group band : Nat) (onfi jedec : Bool) (s : State) : Host.Outcome State Fault Refusal :=
  done (rampWaitEnd group band onfi jedec s)

/-- Has a die of group `g` whose Reset is awaited had it issued? -/
def State.resetIssued (s : State) (g : Nat) : Bool :=
  s.fch.resetOn.any fun x => x.1 / 128 == g && bit (Tab.get 0 s.fch.resetWait g) (x.1 % 128)

/-- GROUP_DIE_RESET_TIMEOUT (R274, R279): a die whose Reset is awaited is not ready within 20 ms of its Reset. -/
def groupDieResetTimeout (g : Nat) (s : State) : State :=
  if 16 ≤ g ∨ !s.resetIssued g then s else ((s.abortGroup g).grpToFault g FCH_GSTAT.RSTERR).holdCheck
def execGroupDieResetTimeout (group : Nat) (s : State) : Host.Outcome State Fault Refusal := done (groupDieResetTimeout group s)

/-- VCCQ_UNDERVOLTAGE (R279). -/
def vccqUndervoltage (g : Nat) (s : State) : State := if 16 ≤ g then s else (s.undervoltage g).holdCheck
def execVccqUndervoltage (group : Nat) (s : State) : Host.Outcome State Fault Refusal := done (vccqUndervoltage group s)

/-- TIMING_SET_WRITE (R275, R276). -/
def timingSetWrite (m g k w v : Nat) (s : State) : State :=
  if 16 ≤ g ∨ 2 ≤ k ∨ 2 ≤ w then s else s.access m (fchPage g + 0x10 + 8 * k + 4 * w) (State.writeTset g k w v)
def execTimingSetWrite (master group set word value : Nat) (s : State) : Host.Outcome State Fault Refusal :=
  done (timingSetWrite master group set word value s)

/-- FENCE_SET (R285, R310). -/
def fenceSet (m g i v : Nat) (s : State) : State :=
  if 16 ≤ g ∨ 4 ≤ i then s else s.access m (fchPage g + 0x40 + 4 * i) fun s => (s.writeFence g i v).holdCheck
def execFenceSet (master group index value : Nat) (s : State) : Host.Outcome State Fault Refusal := done (fenceSet master group index value s)

/-- CALIBRATION_ENTRY_WRITE (R290, R291). -/
def calibrationEntryWrite (m g k d w v : Nat) (s : State) : State :=
  if 16 ≤ g ∨ 8 ≤ k ∨ 16 ≤ d ∨ 4 ≤ w then s
  else s.access m (fchPage g + 0x1000 + 0x100 * k + 0x10 * d + 4 * w) (State.writeCal g k d w v)
def execCalibrationEntryWrite (master group chan die word value : Nat) (s : State) : Host.Outcome State Fault Refusal :=
  done (calibrationEntryWrite master group chan die word value s)

/-! Submission. -/

/-- First address of the page of engine `e` (R35). -/
def drfPage (e : Nat) : Nat := 0x41000000 + 0x2000 * e

/-- A write of DRF_SUBMIT[e] (R297): the image is copied to the ring, or OVF is set. -/
def State.submit (e v : Nat) (s : State) : State :=
  let c := slice v 30 2
  if s.qFull e c then s.put (DRF_QSTAT.OVF e c) true
  else s.enterQueue e c (descOf ((List.range 16).map fun i => s.word (dpSram + slice v 6 16 * 64 + 4 * i)))

/-- DESCRIPTOR_SUBMIT (R297). -/
def descriptorSubmit (m e v : Nat) (s : State) : State := if 128 ≤ e then s else s.access m (drfPage e + 0x20) (State.submit e v)
def execDescriptorSubmit (master engine value : Nat) (s : State) : Host.Outcome State Fault Refusal :=
  done (descriptorSubmit master engine value s)

/-- The first waiting hardware submission whose queue has room, and the others. -/
def takeRoom (full : Nat → Bool) : List (Nat × Desc) → Option ((Nat × Desc) × List (Nat × Desc))
  | [] => none
  | x :: l => if full x.1 then (takeRoom full l).map fun r => (r.1, x :: r.2) else some (x, l)

/-- HW_DESCRIPTOR_SUBMIT (R298). -/
def hwDescriptorSubmit (e : Nat) (s : State) : State :=
  match takeRoom (fun c => s.qFull e c) (s.engine e).hwq with
  | some (x, l) => (s.modEng e fun g => { g with hwq := l }).enterQueue e x.1 x.2
  | none => s
def execHwDescriptorSubmit (engine : Nat) (s : State) : Host.Outcome State Fault Refusal := done (hwDescriptorSubmit engine s)

/-! Starting a descriptor (R306 to R309). -/

/-- Does the class have a descriptor that passes its checks? -/
def State.startable (s : State) (e c : Nat) : Bool :=
  match s.select e c with
  | some (_, .start) => true
  | _ => false

/-- Weight of a class (R308). -/
def State.arbWeight (s : State) (e c : Nat) : Nat :=
  max 1 (s.fld (if c = clsHost then DRF_ARB.HOST e else if c = clsBack then DRF_ARB.BACKGROUND e else DRF_ARB.MAINT e))

/-- The class after `c` in the turn of HOST, BACKGROUND and MAINT. -/
def nextCls (c : Nat) : Nat := if 3 ≤ c then 1 else c + 1

/-- The classes in the order in which the weighted round robin asks them. -/
def State.turnOrder (s : State) (e : Nat) : List Nat :=
  let g := s.engine e
  let c := g.arbCls
  if g.arbUsed < s.arbWeight e c then [c, nextCls c, nextCls (nextCls c)] else [nextCls c, nextCls (nextCls c), c]

/-- The class whose turn it is: the first of the order with a descriptor that passes its checks. -/
def State.turn (s : State) (e : Nat) : Option Nat := (s.turnOrder e).find? fun c => s.startable e c

/-- A descriptor of class `c` has been started in its turn. -/
def State.tookTurn (e c : Nat) (s : State) : State :=
  let w := s.arbWeight e (s.engine e).arbCls
  s.modEng e fun g => if g.arbCls = c ∧ g.arbUsed < w then { g with arbUsed := g.arbUsed + 1 } else { g with arbCls := c, arbUsed := 1 }

/-- May class `c` start a descriptor now: TAIL first, the others in turn (R308)? -/
def State.mayTurn (s : State) (e c : Nat) : Bool :=
  c == clsTail || (!s.startable e clsTail && s.turn e == some c)

/-- A descriptor that the checks end before its first bus cycle (Table 9.6). -/
def State.endChecked (e c i : Nat) (d : Desc) (k : Chk) (s : State) : State :=
  match k with
  | .invalid => (((s.count (DRF_ERRCNT.INVALID e) 1).endQueued e c i csAborted 0xFFFF)).goOn e d.die
  | .fenced => (s.endQueued e c i csFenced 0).goOn e d.die
  | .dead => (s.endQueued e c i csTimeout 0).goOn e d.die
  | .busy => s.endQueued e c i csBusy (s.busyUs e d.die)
  | _ => s

/-- Descriptors whose OP is not in Table 9.3 end before the others of their class are looked at. -/
def State.endUnknown (e c : Nat) : Nat → State → State
  | 0, s => s
  | n + 1, s =>
    match s.select e c with
    | some (i, k) =>
      (match (s.queue e c)[i]? with
       | some d => if d.op = 0 ∨ 11 < d.op then State.endUnknown e c n (s.endChecked e c i d k) else s
       | none => s)
    | none => s

/-- The engine takes the next descriptor of class `c`, which has operation `op`: `go` starts it. -/
def State.take (e c op : Nat) (go : Nat → Desc → State → State) (s : State) : State :=
  if 128 ≤ e ∨ 4 ≤ c then s
  else
    let s := s.markQueue e c
    let s := s.endUnknown e c (s.queue e c).length
    match s.select e c with
    | some (i, k) =>
      (match (s.queue e c)[i]? with
       | some d =>
         if d.op ≠ op then s
         else if k = .start then (if s.mayTurn e c then go i d (if c = clsTail then s else s.tookTurn e c) else s)
         else s.endChecked e c i d k
       | none => s)
    | none => s

/-- A READ starts: in the die's own context, or in the secondary one while another operation gives way (R314, R316). -/
def State.beginRead (e c i : Nat) (d : Desc) (s : State) : State :=
  let own := s.act e d.die == .free
  let k := d.die * 2 + (!own).toNat
  let first := s.act e d.die == .suspended && !(s.ctxOf e (d.die * 2)).caused
  let ma := s.readMa e
  let s := ((s.dequeue e c i).startCtx e k c d).countStart e k ma d.hc
  let s := s.modCtx e k fun x => { x with polls := 1, caused := first }
  if own then s.setAct e d.die .reading
  else if first then s.modCtx e (d.die * 2) fun x => { x with caused := true }
  else s

/-- MEDIA_READ (R302, R307, R308, R314). -/
def mediaReadRow (e c : Nat) (s : State) : State := s.take e c 1 (State.beginRead e c)
def execMediaRead (engine cls : Nat) (s : State) : Host.Outcome State Fault Refusal := done (mediaReadRow engine cls s)

/-- A program starts: its data moves and the die is LOADED (Table 9.7). -/
def State.startProg (e c i : Nat) (d : Desc) (s : State) : State :=
  let k := d.die * 2
  let data := s.takeData d
  let s := (s.tally (1664 + e) (popCount d.planes 4 * 4 * d.progPages)).sysTouch e d
  (((s.dequeue e c i).startCtx e k c d).modCtx e k fun x => { x with data := data }).setAct e d.die .loaded

/-- PROG (R302, R312). -/
def prog (e c : Nat) (s : State) : State := s.take e c 2 (State.startProg e c)
def execProg (engine cls : Nat) (s : State) : Host.Outcome State Fault Refusal := done (prog engine cls s)

/-- PROG_PASS (R302, R312). -/
def progPass (e c : Nat) (s : State) : State := s.take e c 3 (State.startProg e c)
def execProgPass (engine cls : Nat) (s : State) : Host.Outcome State Fault Refusal := done (progPass engine cls s)

/-- An ERASE starts: command and confirm (Table 9.7). -/
def State.startErase (e c i : Nat) (d : Desc) (s : State) : State :=
  let k := d.die * 2
  let s := (((s.dequeue e c i).startCtx e k c d).countStart e k (s.eraseMa e) true).setAct e d.die .active
  (s.countErase (e * 16 + d.die) d.unit).sysTouch e d

/-- ERASE (R302, R312). -/
def erase (e c : Nat) (s : State) : State := s.take e c 4 (State.startErase e c)
def execErase (engine cls : Nat) (s : State) : Host.Outcome State Fault Refusal := done (erase engine cls s)

/-- A maintenance operation starts, of the read class at the group's nominal read current; `l` is what the die will answer. -/
def State.startMaint (e : Nat) (l : List Nat) (i : Nat) (d : Desc) (s : State) : State :=
  let k := d.die * 2
  let s := ((s.dequeue e clsMaint i).startCtx e k clsMaint d).countStart e k (s.readMa e) false
  (s.modCtx e k fun x => { x with data := l }).setAct e d.die .reading

/-- DIE_RESET (R302, R317). -/
def dieReset (e : Nat) (s : State) : State := s.take e clsMaint 5 (State.startMaint e [])
def execDieReset (engine : Nat) (s : State) : Host.Outcome State Fault Refusal := done (dieReset engine s)

/-- SETFEAT (R302). -/
def setfeat (e : Nat) (s : State) : State := s.take e clsMaint 6 (State.startMaint e [])
def execSetfeat (engine : Nat) (s : State) : Host.Outcome State Fault Refusal := done (setfeat engine s)

/-- GETFEAT (R302): the die answers the four bytes of `value`. -/
def getfeat (e v : Nat) (s : State) : State := s.take e clsMaint 7 (State.startMaint e (toBytes v 4))
def execGetfeat (engine value : Nat) (s : State) : Host.Outcome State Fault Refusal := done (getfeat engine value s)

/-- READID (R302): the die answers `bytes`. -/
def readid (e : Nat) (bytes : List Nat) (s : State) : State := s.take e clsMaint 8 (State.startMaint e bytes)
def execReadid (engine : Nat) (bytes : List Nat) (s : State) : Host.Outcome State Fault Refusal := done (readid engine bytes s)

/-- Does die `d` of channel `e` report ready? -/
def State.dieAtRest (s : State) (e d : Nat) : Bool := !s.resetting (e * 16 + d) && (s.act e d == .free || s.act e d == .loaded)

/-- The failed checks of Table 8.4: bit 0 die idle, bit 1 pattern present, bit 2 sensor in range. -/
def State.trainFails (s : State) (e : Nat) (d : Desc) (ready : Bool) : Nat :=
  let g := e / 8
  let kind := d.arg0 % 16
  let mates := (List.range 8).map fun i => d.die / 8 * 8 + i
  let idle := ready && s.act e d.die == .free && !s.resetting (e * 16 + d.die) && (kind != 1 || mates.all fun x => s.dieAtRest e x)
  let pattern := if kind = 3 then (s.nand (e * 16 + d.die)).patternOk else if kind = 4 then bit s.fch.patBuf g else true
  let k := 12 + g / 4
  let sensor := !bit (s.fld THM_STAT.SUSPECT) k && decide (0 ≤ s.pow.temp.getD k 0) && decide (s.pow.temp.getD k 0 ≤ 105 * 16) && bit s.fch.vccqOk g
  (!idle).toNat + 2 * (!pattern).toNat + 4 * (!sensor).toNat

/-- A TRAIN starts, or ends CAL_PRECOND before its first bus cycle (R287). -/
def State.startTrain (e eye : Nat) (codes : List Nat) (ready : Bool) (i : Nat) (d : Desc) (s : State) : State :=
  let g := e / 8
  let fails := s.trainFails e d ready
  let s := (s.setFld (FCH_CALRES.KIND g) (d.arg0 % 16)).setFld (FCH_CALRES.DIE g) (e % 8 * 16 + d.die)
  if fails ≠ 0 then
    (((s.setFld (FCH_CALRES.PRECOND g) (s.fld (FCH_CALRES.PRECOND g) ||| fails)).chEvt e FCH_CHEVT.CALFAIL).endQueued e clsMaint i csPrecond fails)
  else s.startMaint e (eye :: codes) i d

/-- TRAIN (R286 to R288). -/
def train (e eye : Nat) (codes : List Nat) (ready : Bool) (s : State) : State := s.take e clsMaint 9 (State.startTrain e eye codes ready)
def execTrain (engine eye : Nat) (codes : List Nat) (ready : Bool) (s : State) : Host.Outcome State Fault Refusal :=
  done (train engine eye codes ready s)

/-! Microcode descriptors. -/

/-- A microcode fault (R341): the descriptor ends ABORTED 0xFFFB, the engine halts, the first fault is recorded. -/
def State.microFault (e k code pc : Nat) (s : State) : State :=
  let s := s.endCtx e k csAborted 0xFFFB
  let s := if s.on (DRF_FAULT.VALID e) then s
    else (((s.put (DRF_FAULT.VALID e) true).setFld (DRF_FAULT.CODE e) code).setFld (DRF_FAULT.CTX e) k).setFld (DRF_FAULT.PC e) pc
  (((s.setFld (DRF_STAT.STATE e) engHalted).drfEvt e (DRF_EVT.HALT e)).reportUnit e).holdCheck

/-- Routine numbers of Table 10.9. -/
def libRoutines : List Nat := [1, 2, 3, 4, 5, 6, 7, 8, 9, 10, 11, 12, 16, 17, 18, 19, 20, 21, 22]

/-- A LIB descriptor starts; where the ROM has a routine is a free value in the ROM's index range. -/
def State.startLib (e c i : Nat) (d : Desc) (s : State) : State :=
  let n := d.arg0 % 256
  if !libRoutines.contains n || (18 ≤ n && n ≤ 21 && c != clsMaint) then s.endQueued e c i csAborted 0xFFFF
  else
    let pc := 0x1000 + (Config.freeWord s.free).toNat % 0x1000
    (((s.dequeue e c i).startCtx e (d.die * 2) c d).modCtx e (d.die * 2) fun x => { x with pc := pc }).tookFree

/-- LIB (R324). -/
def lib (e c : Nat) (s : State) : State := s.take e c 10 (State.startLib e c)
def execLib (engine cls : Nat) (s : State) : Host.Outcome State Fault Refusal := done (lib engine cls s)

/-- A RUN descriptor starts at its program-store word; a misaligned entry faults at the first fetch. -/
def State.startRun (e c i : Nat) (d : Desc) (s : State) : State :=
  let k := d.die * 2
  let pc := slice d.arg0 2 10
  let s := ((s.dequeue e c i).startCtx e k c d).modCtx e k fun x => { x with pc := pc }
  if d.arg0 % 4 ≠ 0 then s.microFault e k 2 pc else s

/-- RUN (R323, R324). -/
def run (e c : Nat) (s : State) : State := s.take e c 11 (State.startRun e c)
def execRun (engine cls : Nat) (s : State) : Host.Outcome State Fault Refusal := done (run engine cls s)

/-! Operations in progress. -/

/-- The confirm of a LIB or RUN program that its CMD held (R334). -/
def State.confirmHeld (e d sched : Nat) (s : State) : State :=
  let k := d * 2
  let ma := if sched = 3 then s.eraseMa e else s.progMa e
  if s.hcMayStart ma && Tab.get 0 s.pow.pauses (e * 16 + d) == 0 then
    let s := s.confirmed e k sched
    ((s.countStart e k ma true).modCtx e k fun x => { x with heldCmd := none, sched := sched, ready := true, pc := (x.pc + 1) % 2 ^ 13 }).setAct e d .active
  else s

/-- LOADED_CONFIRM (R312, R334): the second check of R65 to R67 passes and the confirm is issued. -/
def loadedConfirm (e d : Nat) (s : State) : State :=
  let k := d * 2
  let c := s.ctxOf e k
  if s.engState e = engHalted ∨ s.act e d ≠ .loaded ∨ !c.live then s
  else
    match c.heldCmd with
    | some h => s.confirmHeld e d (h / 256)
    | none =>
      if s.hcMayStart (s.progMa e) && !s.paused e c.desc then (s.countStart e k (s.progMa e) true).setAct e d .active else s
def execLoadedConfirm (engine die : Nat) (s : State) : Host.Outcome State Fault Refusal := done (loadedConfirm engine die s)

/-- A poll of a die that is being suspended (Table 9.7). -/
def State.pollSuspending (e d st failPlanes : Nat) (suspended : Bool) (s : State) : State :=
  let s := s.modCtx e (d * 2) fun c => { c with nstat := st % 256 }
  if suspended then (s.setAct e d .suspended).goOn e d
  else if bit st 6 then s.dieReady e (d * 2) st failPlanes
  else s

/-- Does a status poll of context `k` await a ready status: a microcode context polls by its WAITST, but for a DONE (R335, R339)? -/
def Ctx.polled (c : Ctx) : Bool :=
  c.live && (if c.desc.op = 1 then c.polls != 0 && c.ready else if 10 ≤ c.desc.op then c.fin.isSome else true)

/-- A poll of a die at work. -/
def State.pollDie (e d st failPlanes : Nat) (s : State) : State :=
  let k := if (s.ctxOf e (d * 2 + 1)).live then d * 2 + 1 else d * 2
  if (s.ctxOf e k).polled then
    let s := s.modCtx e k fun c => { c with nstat := st % 256 }
    if bit st 6 then s.dieReady e k st failPlanes else s
  else s

/-- STATUS_POLL (R308, R314, R335, Table 9.7): the die answers `status`; bit 6 is its ready bit. -/
def statusPoll (e d st failPlanes : Nat) (suspended : Bool) (s : State) : State :=
  if 128 ≤ e ∨ 16 ≤ d ∨ s.engState e = engHalted then s
  else if s.resetting (e * 16 + d) then
    (if Tab.get 0 s.fch.resetOn (e * 16 + d) ≠ 0 ∧ bit st 6 = true then s.resetReady e d else s.issueResets)
  else
    let s := s.issueResets.goOn e d
    let s := match s.act e d with
      | .suspending => s.pollSuspending e d st failPlanes suspended
      | .free => s
      | .loaded => s
      | _ => s.pollDie e d st failPlanes
    s.eccMode
def execStatusPoll (engine die status failPlanes : Nat) (suspended : Bool) (s : State) : Host.Outcome State Fault Refusal :=
  done (statusPoll engine die status failPlanes suspended s)

/-- Is the operation of a context an erase? -/
def Ctx.erases (c : Ctx) : Bool := c.desc.op == 4 || c.sched == 3

/-- May the operation of die `d` be suspended now (R314, R315)? -/
def State.maySuspend (s : State) (e d : Nat) : Bool :=
  let c := s.ctxOf e (d * 2)
  s.act e d == .active && s.tailEligible e d && bit (s.features e) 0 && !c.noSusp &&
    decide (c.susp < if c.erases then 8 else 4) &&
    (match c.resumeAt with | some t => decide (t + 5000 ≤ s.now) | none => true)

/-- TAIL_SUSPEND (R314, R315): the suspend command. -/
def tailSuspend (e d : Nat) (s : State) : State :=
  if s.engState e ≠ engHalted ∧ s.maySuspend e d = true then
    let t := s.now
    let s := (s.setAct e d .suspending).modCtx e (d * 2) fun c => { c with susp := c.susp + 1, suspAt := t }
    (s.count (DRF_SUSPCNT.SUSPENDS e) 1).tally (1920 + e) 1
  else s
def execTailSuspend (engine die : Nat) (s : State) : Host.Outcome State Fault Refusal := done (tailSuspend engine die s)

/-- SUSPEND_TIMEOUT (R314): not suspended within 2 × t_sus: the operation has no suspends left. -/
def suspendTimeout (e d : Nat) (s : State) : State :=
  if s.act e d = .suspending then (s.setAct e d .active).modCtx e (d * 2) fun c => { c with noSusp := true } else s
def execSuspendTimeout (engine die : Nat) (s : State) : Host.Outcome State Fault Refusal := done (suspendTimeout engine die s)

/-- DESCRIPTOR_MAXWAIT_EXPIRE (R313): the held descriptor of the class to die `die` has been held beyond its MAXWAIT. -/
def descriptorMaxwaitExpire (e c die : Nat) (s : State) : State :=
  match (s.heldNow e c).find? fun x => x.2.die == die with
  | some (i, d) => if d.maxwait ≠ 0 ∧ d.maxwait < d.heldFrames then s.endQueued e c i csDeferred d.heldFrames else s
  | none => s
def execDescriptorMaxwaitExpire (engine cls die : Nat) (s : State) : Host.Outcome State Fault Refusal :=
  done (descriptorMaxwaitExpire engine cls die s)

/-- A write of DRF_CQPTR[e].HEAD (R300): held records follow. -/
def State.writeHead (e v : Nat) (s : State) : State :=
  (s.setFld (DRF_CQPTR.HEAD e) (v % 1024)).flushRecords e (s.engine e).heldRecs.length

/-- CQ_HEAD_ADVANCE (R300). -/
def cqHeadAdvance (m e v : Nat) (s : State) : State := if 128 ≤ e then s else s.access m (drfPage e + 0x14) (State.writeHead e v)
def execCqHeadAdvance (master engine value : Nat) (s : State) : Host.Outcome State Fault Refusal := done (cqHeadAdvance master engine value s)

/-- ENGINE_RUN (R318). -/
def engineRun (m e : Nat) (s : State) : State := if 128 ≤ e then s else s.access m (drfPage e) fun s => (s.runEngine e).holdCheck
def execEngineRun (master engine : Nat) (s : State) : Host.Outcome State Fault Refusal := done (engineRun master engine s)

/-- ENGINE_STOP (R318). -/
def engineStop (m e : Nat) (s : State) : State := if 128 ≤ e then s else s.access m (drfPage e) fun s => (s.stopEngine e).holdCheck
def execEngineStop (master engine : Nat) (s : State) : Host.Outcome State Fault Refusal := done (engineStop master engine s)

/-- ENGINE_RESET (R318, R82). -/
def engineReset (m e : Nat) (s : State) : State := if 128 ≤ e then s else s.access m (drfPage e) fun s => (s.resetEngine e).holdCheck
def execEngineReset (master engine : Nat) (s : State) : Host.Outcome State Fault Refusal := done (engineReset master engine s)

/-- A write of DRF_CTRL[e]. -/
def State.writeDrfCtrl (e v : Nat) (s : State) : State :=
  (if bit v 31 then s.resetEngine e else if bit v 0 then s.runEngine e else s.stopEngine e).holdCheck

/-- DESCRIPTOR_WITHDRAW (R319): the owner of a queued descriptor withdraws it. -/
def descriptorWithdraw (e c i : Nat) (s : State) : State :=
  match (s.queue e c)[i]? with
  | some d => (s.endQueued e c i csAborted 0xFFFC).goOn e d.die
  | none => s
def execDescriptorWithdraw (engine cls index : Nat) (s : State) : Host.Outcome State Fault Refusal :=
  done (descriptorWithdraw engine cls index s)

/-- A write of DRF_QBASE, DRF_QCFG, DRF_CQBASE or DRF_GEOM that takes effect (R320). -/
def State.writeEngCfg (e off v : Nat) (s : State) : State :=
  if off = 0x08 then s.setFld (DRF_QBASE.BASE e) (slice v 14 8)
  else if off = 0x0C then
    if (List.range 4).all fun c => decide (2 ≤ slice v (4 * c) 4) && decide (slice v (4 * c) 4 ≤ 8) then
      each (List.range 4) (fun c s => s.setFld (qcfg e c) (slice v (4 * c) 4)) (s.modEng e fun g => { g with rtail := [] })
    else s
  else if off = 0x10 then
    if 4 ≤ v % 16 ∧ v % 16 ≤ 10 then
      ((((s.setFld (DRF_CQBASE.BASE e) (slice v 12 10)).setFld (DRF_CQBASE.LOG2 e) (v % 16)).setFld (DRF_CQPTR.WIDX e) 0).setFld
        (DRF_CQPTR.HEAD e) 0).modEng e fun g => { g with pass1 := true }
    else s
  else (s.setFld (DRF_GEOM.PLANEBITS e) (slice v 4 2)).setFld (DRF_GEOM.PAGEBITS e) (v % 16)

/-- A write of an engine's configuration: only while STOPPED with its queues empty (R320). -/
def State.engCfg (e off v : Nat) (s : State) : State :=
  if s.engState e = engStopped ∧ s.queuesEmpty e = true then s.writeEngCfg e off v else s.put (DRF_STAT.ERR e) true

/-- ENGINE_CONFIG_WRITE (R320). -/
def engineConfigWrite (m e off v : Nat) (s : State) : State :=
  if 128 ≤ e ∨ !([0x08, 0x0C, 0x10, 0x114].contains off) then s else s.access m (drfPage e + off) (State.engCfg e off v)
def execEngineConfigWrite (master engine offset value : Nat) (s : State) : Host.Outcome State Fault Refusal :=
  done (engineConfigWrite master engine offset value s)

end Sys2Proof.Machine
end

