-- ==== Sys2Proof/Machine/MicroOps.lean ====
section
/-! DEFINITION. Machine/MicroOps.lean: Drift microcode: the instruction words, their encoding, local memory, and how an
instruction of a context is run (10_drift_microcode.md). -/

namespace Sys2Proof.Machine

/-- One microcode instruction (Table 10.5). -/
inductive MicroInstr where
  | cmd (sched : Nat) (imm : Bool) (rb byte : Nat)
  | addr (rb ra n : Nat)
  | dout (rb ra src n : Nat)
  | din (rd ra dst n : Nat)
  | waitst (rd ra mask value : Nat)
  | wait (u : Bool) (count : Nat)
  | sett (imm : Bool) (rb : Nat) (nv : Bool) (die : Nat)
  | fchk (m : Bool)
  | yield
  | done (rd status : Nat)
  | ldi (rd : Nat) (h : Bool) (value : Nat)
  | ldd (rd ra offset : Nat)
  | std (rs ra offset : Nat)
  | alu (op rd ra : Nat) (imm : Bool) (b : Nat)   -- op 0 to 5: ADD, AND, OR, XOR, SHL, SHR
  | br (cond ra target : Nat)
  | call (target : Nat)
  | ret
  deriving DecidableEq, Repr

/-- Does every field fit its place of Table 10.5? -/
def MicroInstr.wf : MicroInstr → Bool
  | .cmd sched _ rb byte => decide (sched < 4) && decide (rb < 8) && decide (byte < 256)
  | .addr rb ra n => decide (rb < 8) && decide (ra < 8) && decide (n < 8)
  | .dout rb ra src n => decide (rb < 8) && decide (ra < 8) && decide (src < 4) && decide (n < 8)
  | .din rd ra dst n => decide (rd < 8) && decide (ra < 8) && decide (dst < 4) && decide (n < 8)
  | .waitst rd ra mask value => decide (rd < 8) && decide (ra < 8) && decide (mask < 256) && decide (value < 256)
  | .wait _ count => decide (count < 2 ^ 15)
  | .sett _ rb _ die => decide (rb < 8) && decide (die < 16)
  | .fchk _ => true
  | .yield => true
  | .done rd status => decide (rd < 8) && decide (status < 256)
  | .ldi rd _ value => decide (rd < 8) && decide (value < 2 ^ 16)
  | .ldd rd ra offset => decide (rd < 8) && decide (ra < 8) && decide (offset < 2 ^ 16)
  | .std rs ra offset => decide (rs < 8) && decide (ra < 8) && decide (offset < 2 ^ 16)
  | .alu op rd ra imm b => decide (op < 6) && decide (rd < 8) && decide (ra < 8) && decide (b < if imm then 2 ^ 16 else 8)
  | .br cond ra target => decide (cond < 16) && decide (ra < 8) && decide (target < 2 ^ 13)
  | .call target => decide (target < 2 ^ 13)
  | .ret => true

/-- The word of an instruction (Table 10.5), ignored bits zero. -/
def MicroInstr.encode : MicroInstr → Nat
  | .cmd sched imm rb byte => 0x01 * 2 ^ 26 + sched * 2 ^ 24 + imm.toNat * 2 ^ 19 + rb * 2 ^ 16 + byte
  | .addr rb ra n => 0x02 * 2 ^ 26 + rb * 2 ^ 23 + ra * 2 ^ 20 + n
  | .dout rb ra src n => 0x03 * 2 ^ 26 + rb * 2 ^ 23 + ra * 2 ^ 20 + src * 2 ^ 18 + n
  | .din rd ra dst n => 0x04 * 2 ^ 26 + rd * 2 ^ 23 + ra * 2 ^ 20 + dst * 2 ^ 18 + n
  | .waitst rd ra mask value => 0x05 * 2 ^ 26 + rd * 2 ^ 23 + ra * 2 ^ 20 + mask * 2 ^ 8 + value
  | .wait u count => 0x06 * 2 ^ 26 + u.toNat * 2 ^ 15 + count
  | .sett imm rb nv die => 0x07 * 2 ^ 26 + imm.toNat * 2 ^ 19 + rb * 2 ^ 16 + nv.toNat * 2 ^ 5 + die
  | .fchk m => 0x08 * 2 ^ 26 + m.toNat
  | .yield => 0x09 * 2 ^ 26
  | .done rd status => 0x0A * 2 ^ 26 + rd * 2 ^ 23 + status
  | .ldi rd h value => 0x10 * 2 ^ 26 + rd * 2 ^ 23 + h.toNat * 2 ^ 19 + value
  | .ldd rd ra offset => 0x11 * 2 ^ 26 + rd * 2 ^ 23 + ra * 2 ^ 20 + offset
  | .std rs ra offset => 0x12 * 2 ^ 26 + rs * 2 ^ 23 + ra * 2 ^ 20 + offset
  | .alu op rd ra imm b =>
    (0x13 + op) * 2 ^ 26 + rd * 2 ^ 23 + ra * 2 ^ 20 + imm.toNat * 2 ^ 19 + (if imm then b else b * 2 ^ 16)
  | .br cond ra target => 0x20 * 2 ^ 26 + cond * 2 ^ 22 + ra * 2 ^ 19 + target
  | .call target => 0x21 * 2 ^ 26 + target
  | .ret => 0x22 * 2 ^ 26

/-- The instruction a word spells; none for an OP that is not listed (R330). -/
def decodeMicro (w : Nat) : Option MicroInstr :=
  let rd := slice w 23 3
  let ra := slice w 20 3
  let rb := slice w 16 3
  let i := slice w 19 1 == 1
  match slice w 26 6 with
  | 0x01 => some (.cmd (slice w 24 2) i rb (slice w 0 8))
  | 0x02 => some (.addr rd ra (slice w 0 3))
  | 0x03 => some (.dout rd ra (slice w 18 2) (slice w 0 3))
  | 0x04 => some (.din rd ra (slice w 18 2) (slice w 0 3))
  | 0x05 => some (.waitst rd ra (slice w 8 8) (slice w 0 8))
  | 0x06 => some (.wait (slice w 15 1 == 1) (slice w 0 15))
  | 0x07 => some (.sett i rb (slice w 5 1 == 1) (slice w 0 4))
  | 0x08 => some (.fchk (slice w 0 1 == 1))
  | 0x09 => some .yield
  | 0x0A => some (.done rd (slice w 0 8))
  | 0x10 => some (.ldi rd i (slice w 0 16))
  | 0x11 => some (.ldd rd ra (slice w 0 16))
  | 0x12 => some (.std rd ra (slice w 0 16))
  | 0x13 => some (.alu 0 rd ra i (if i then slice w 0 16 else rb))
  | 0x14 => some (.alu 1 rd ra i (if i then slice w 0 16 else rb))
  | 0x15 => some (.alu 2 rd ra i (if i then slice w 0 16 else rb))
  | 0x16 => some (.alu 3 rd ra i (if i then slice w 0 16 else rb))
  | 0x17 => some (.alu 4 rd ra i (if i then slice w 0 16 else rb))
  | 0x18 => some (.alu 5 rd ra i (if i then slice w 0 16 else rb))
  | 0x20 => some (.br (slice w 22 4) (slice w 19 3) (slice w 0 13))
  | 0x21 => some (.call (slice w 0 13))
  | 0x22 => some .ret
  | _ => none

/-! Registers and local memory. -/

/-- A working register. -/
def Ctx.reg (c : Ctx) (i : Nat) : Nat := c.w.getD i 0
/-- Write it, modulo 2^32. -/
def Ctx.setReg (i v : Nat) (c : Ctx) : Ctx := { c with w := c.w.set i (v % 2 ^ 32) }

/-- Sign-extend 16 bits to 32. -/
def sext16 (v : Nat) : Nat := if v % 2 ^ 16 < 2 ^ 15 then v % 2 ^ 16 else v % 2 ^ 16 + 0xFFFF0000

/-- The fence bits of the 16 dies of a channel. -/
def State.channelFences (s : State) (e : Nat) : Nat := slice (s.fld (fenceFld e)) (e % 2 * 16) 16

/-- Environment word at byte address `a` (Table 10.4). -/
def State.envWord (s : State) (e k a : Nat) : Nat :=
  let g := e / 8
  let set := s.fld (FCH_GSTAT.SET g)
  match a with
  | 0x80 => e % 128 * 2 ^ 16 + g * 2 ^ 8 + k
  | 0x84 => s.fld (FCH_TSETW0.INTF g set) * 2 ^ 28 + s.fld (FCH_TSETW0.SDRMODE g set) * 2 ^ 24 + s.fld (FCH_TSETW0.RATE g set)
  | 0x88 => s.dnum (0x3230 + g) 1 * 2 ^ 16 + s.dnum (0x3230 + g) 2
  | 0x8C => s.dnum (0x3230 + g) 3 * 2 ^ 16 + s.dnum (0x3230 + g) 7
  | 0x90 => s.dnum (0x3220 + g) 3 * 2 ^ 16 + s.dnum (0x3220 + g) 1 % 2 * 2 ^ 15 + s.features e % 256
  | 0x94 => s.fld (DRF_GEOM.PLANEBITS e) * 16 + s.fld (DRF_GEOM.PAGEBITS e)
  | 0x98 => s.bellTime % 2 ^ 16
  | 0x9C => s.channelFences e
  | 0xA0 => s.fld (DRF_STAT.EPOCH e)
  | _ => 0

/-- The local-memory word that context `k` sees at byte address `a` (Table 10.3). -/
def State.localWord (s : State) (e k a : Nat) : Nat :=
  if a < 0x40 then (s.ctxOf e k).desc.words.getD (a / 4) 0
  else if a < 0x100 then s.envWord e k a
  else Tab.get 0 (s.engine e).lmem (a / 4)

/-- Write a word of the shared local memory. -/
def State.setLocal (e a v : Nat) (s : State) : State := s.modEng e fun g => { g with lmem := Tab.set 0 g.lmem (a / 4) (v % 2 ^ 32) }

/-- A byte of the byte buffer. -/
def State.bufByte (s : State) (e a : Nat) : Nat := Tab.get 0 (s.engine e).lmem (a / 4) / 256 ^ (a % 4) % 256

/-- Write bytes into the byte buffer. -/
def State.setBuf (e a : Nat) : List Nat → State → State
  | [], s => s
  | b :: l, s => State.setBuf e (a + 1) l (s.setLocal e a (putSlice (Tab.get 0 (s.engine e).lmem (a / 4)) (8 * (a % 4)) 8 b))

/-! Running an instruction (R325, R326). -/

/-- The next instruction, or the target of a jump. -/
def State.next (e k pc : Nat) (s : State) : State := s.modCtx e k fun c => { c with pc := pc % 2 ^ 13 }

/-- The context goes on to the next instruction. -/
def State.pcNext (e k : Nat) (s : State) : State := s.next e k ((s.ctxOf e k).pc + 1)

/-- The context gives up the engine and the bus: it has had its turn. -/
def State.giveUp (e k : Nat) (s : State) : State :=
  (each (((s.engine e).ctx.map Prod.fst).filter fun j => (s.ctxOf e j).after.contains k)
    (fun j s => s.modCtx e j fun c => { c with after := dropFrom k c.after }) s).modCtx e k fun c => { c with ran := 0, bus := false, quiet := 0 }

/-- Is another context running? -/
def State.otherRuns (s : State) (e k : Nat) : Bool := (s.engine e).ctx.any fun x => x.1 != k && x.2.ran != 0

/-- Does a LIB or RUN context wait for nothing (R325)? -/
def State.microReady (s : State) (e k : Nat) : Bool :=
  let c := s.ctxOf e k
  c.live && decide (10 ≤ c.desc.op) && c.ready && c.fin.isNone && c.heldCmd.isNone && decide (c.till ≤ s.now)

/-- Can context `k` execute an instruction now: it waits for nothing, the contexts that its YIELD let pass have had their turn (R338),
and the engine, not halted, runs no other one? -/
def State.microMay (s : State) (e k : Nat) : Bool :=
  decide (e < 128) && s.microReady e k && ((s.ctxOf e k).after.all fun j => !s.microReady e j) && s.engState e != engHalted &&
    !s.otherRuns e k

/-- One executed instruction is counted: 1,024 without a bus instruction while the bus is held fault, 256 without giving up
the engine give it up (R325, R326). -/
def State.ticked (e k pc : Nat) (isBus : Bool) (s : State) : State :=
  let c := s.ctxOf e k
  if !c.live then s
  else
    let quiet := if isBus then 0 else if c.bus then c.quiet + 1 else 0
    let s := s.modCtx e k fun c => { c with ran := min (c.ran + 1) 511, bus := c.bus || isBus, quiet := quiet }
    if 1024 ≤ quiet then s.microFault e k 9 pc
    else if 256 ≤ c.ran + 1 ∧ (s.ctxOf e k).bus = false then s.giveUp e k
    else s

/-- Context `k` of engine `e` executes `i`, whose effect is `go`: the word at its pc must spell `i`; in the library ROM, whose
words the specification does not give, any instruction may stand (log entry 21). -/
def State.micro (e k : Nat) (i : MicroInstr) (go : State → State) (s : State) : State :=
  let pc := (s.ctxOf e k).pc
  if !s.microMay e k then s
  else if 0x1000 ≤ pc ∧ pc < 0x2000 then go s
  else if 0x400 ≤ pc then s.microFault e k 2 pc
  else
    match decodeMicro (Tab.get 0 (s.engine e).pstore pc) with
    | none => s.microFault e k 1 pc
    | some j => if j = i then go s else s

/-- An instruction that changes only its context, then goes on. -/
def State.plain (e k : Nat) (f : Ctx → Ctx) (s : State) : State :=
  let pc := (s.ctxOf e k).pc
  ((s.modCtx e k f).pcNext e k).ticked e k pc false

/-- A bus instruction to the target die (R326, R333, R336, R337): fenced, the descriptor ends; another die is waited for and
then counts as READING; the volume is selected. -/
def State.busInstr (e k : Nat) (go : State → State) (s : State) : State :=
  let c := s.ctxOf e k
  let t := c.target
  let sel := fun (s : State) =>
    if c.nv then s else s.modEng e fun g => { g with vol := Tab.set 0 g.vol (t / 8) (t % 8 + 1) }
  if s.fenced e t then s.endCtx e k csFenced c.pages
  else if t = c.desc.die ∨ c.claimed = true then go (sel s)
  else if s.act e t = .free ∧ (s.ctxOf e (t * 2)).live = false then
    go (sel ((s.setAct e t .reading).modCtx e k fun c => { c with claimed := true }))
  else s.giveUp e k

/-- A bus instruction is done: go on. -/
def State.busDone (e k : Nat) (s : State) : State :=
  let pc := (s.ctxOf e k).pc
  (s.pcNext e k).ticked e k pc true

/-- A context lets go of another die that it has claimed (R337). -/
def State.unclaim (e k : Nat) (s : State) : State :=
  let c := s.ctxOf e k
  if c.claimed then
    ((s.setAct e c.target .free).modCtx e k fun c => { c with claimed := false }).unparkReads e c.target
  else s

/-- The tubs of a context's chain that the next `n` tubs of a transfer take; none where the chain ends before. -/
def State.takeChain (s : State) (c : Ctx) (n : Nat) : Option (List Nat) :=
  let l := s.chainOf c.desc.buf (c.chain + n)
  if l.length = c.chain + n then some (l.drop c.chain) else none

/-- Put bytes into tubs, 512 each. -/
def State.fillTubs (tubs : List Nat) (bytes : List Nat) (s : State) : State := s.scatter tubs (ofBytes bytes)

/-- What a program or an erase of microcode leaves on the media is not known to the model: every codeword of the die reads as
a free value from then on (log entry 25). -/
def State.mediaUnknown (die : Nat) (s : State) : State :=
  s.modDrf fun x => { x with media := Tab.clear x.media fun k => k / 2 ^ 37 == die }

end Sys2Proof.Machine
end

