-- ==== Sys2Proof/Machine/Micro.lean ====
section
/-! DEFINITION. Machine/Micro.lean: the microcode instructions of a Drift engine and the commands of its program store and local
memory (10_drift_microcode.md). -/

namespace Sys2Proof.Machine

/-! Bus instructions. -/

/-- A CMD cycle (R333, R334): plain, a read start, or a program or erase confirm, which the slot and budget rules may hold. -/
def State.cmdCycle (e k sched byte : Nat) (s : State) : State :=
  let c := s.ctxOf e k
  let d := c.desc.die
  if sched = 0 then s.busDone e k
  else if c.target ≠ d then s.microFault e k 7 c.pc
  else if sched = 1 then
    if s.readMayStart (s.readMa e) then ((s.countStart e k (s.readMa e) false).setAct e d .reading).busDone e k else s.giveUp e k
  else
    let ma := if sched = 3 then s.eraseMa e else s.progMa e
    if s.hcMayStart ma && Tab.get 0 s.pow.pauses (e * 16 + d) == 0 then
      (((((s.confirmed e k sched).countStart e k ma true).modCtx e k fun x => { x with sched := sched }).setAct e d .active).mediaUnknown (e * 16 + d)).busDone e k
    else
      (((s.modCtx e k fun x => { x with heldCmd := some (sched * 256 + byte % 256) }).setAct e d .loaded).mediaUnknown (e * 16 + d)).giveUp e k

/-- CMD (R333, R334). -/
def cmd (e k sched : Nat) (imm : Bool) (rb byte : Nat) (s : State) : State :=
  s.micro e k (.cmd sched imm rb byte) fun s =>
    s.busInstr e k fun s => s.cmdCycle e k sched (if imm then byte else (s.ctxOf e k).reg rb % 256)
def execCmd (engine ctx sched : Nat) (imm : Bool) (rb byte : Nat) (s : State) : Host.Outcome State Fault Refusal :=
  done (cmd engine ctx sched imm rb byte s)

/-- ADDR (R333, Table 10.10). -/
def addr (e k rb ra n : Nat) (s : State) : State :=
  s.micro e k (.addr rb ra n) fun s =>
    if n = 0 ∨ 5 < n then s.microFault e k 0xB (s.ctxOf e k).pc else s.busInstr e k (State.busDone e k)
def execAddr (engine ctx rb ra n : Nat) (s : State) : Host.Outcome State Fault Refusal := done (addr engine ctx rb ra n s)

/-- Use `n` tubs of the chain, or fault 0x06. -/
def State.useChain (e k n : Nat) (go : List Nat → State → State) (s : State) : State :=
  let c := s.ctxOf e k
  match s.takeChain c n with
  | some l => go l (s.modCtx e k fun c => { c with chain := c.chain + n })
  | none => s.microFault e k 6 c.pc

/-- Do `n` bytes from byte address `a` lie in the byte buffer (Table 10.3)? -/
def inBuffer (a n : Nat) : Bool := decide (0x1000 ≤ a) && decide (a + n ≤ 0x8000)

/-- DOUT (R333): what moves reaches the die; the model keeps it with the context. -/
def dout (e k rb ra src n : Nat) (s : State) : State :=
  s.micro e k (.dout rb ra src n) fun s =>
    let c := s.ctxOf e k
    let a := c.reg ra
    let keep := fun (n : Nat) (l : List Nat) (s : State) => ((s.tally (1664 + e) n).modCtx e k fun c => { c with data := l }).busDone e k
    if src = 0 ∧ (n = 0 ∨ 4 < n) then s.microFault e k 0xB c.pc
    else s.busInstr e k fun s =>
      if src = 0 then keep 0 (toBytes a n) s
      else if src = 1 then s.useChain e k (8 * (a % 32)) fun l s => keep (a % 32) (l.map fun t => s.payload t) s
      else if src = 2 then
        (if inBuffer (c.reg rb) a then keep 0 ((List.range a).map fun i => s.bufByte e (c.reg rb + i)) s else s.microFault e k 6 c.pc)
      else s.useChain e k (ceilDiv a 512) fun l s => keep 0 (l.map fun t => s.payload t) s
def execDout (engine ctx rb ra src n : Nat) (s : State) : Host.Outcome State Fault Refusal := done (dout engine ctx rb ra src n s)

/-- DIN (R333): `bytes` is what the die sends; a codeword goes through the decoder, whose end is CODEWORD_DECODE_END. -/
def din (e k rd ra dst n : Nat) (bytes : List Nat) (s : State) : State :=
  s.micro e k (.din rd ra dst n) fun s =>
    let c := s.ctxOf e k
    let a := c.reg ra
    if dst = 0 ∧ (n = 0 ∨ 4 < n) then s.microFault e k 0xB c.pc
    else s.busInstr e k fun s =>
      if dst = 0 then (s.modCtx e k (Ctx.setReg rd (ofBytes (bytes.take n)))).busDone e k
      else if dst = 1 then
        s.useChain e k (8 * (a % 32)) fun l s =>
          let cws := (List.range (a % 32)).map fun i => c.chain / 8 + i
          let s := (s.fillTubs l bytes).modCtx e k fun c => { c with wait := c.wait ++ cws }
          (s.toDecoders e k 1 false cws).busDone e k
      else if dst = 2 then
        (if inBuffer (c.reg rd) a then (s.setBuf e (c.reg rd) (bytes.take a)).busDone e k else s.microFault e k 6 c.pc)
      else s.useChain e k (ceilDiv a 512) fun l s => (s.fillTubs l (bytes.take a)).busDone e k
def execDin (engine ctx rd ra dst n : Nat) (bytes : List Nat) (s : State) : Host.Outcome State Fault Refusal :=
  done (din engine ctx rd ra dst n bytes s)

/-- WAITST (R335): `status` is the byte read; one that does not match is read again after the poll interval. A context whose die is
being suspended, or is suspended, makes no poll. -/
def waitst (e k rd ra mask value status : Nat) (s : State) : State :=
  s.micro e k (.waitst rd ra mask value) fun s =>
    let t := (s.ctxOf e k).target
    if s.act e t = .suspending ∨ s.act e t = .suspended then s
    else s.busInstr e k fun s =>
      let b := status % 256
      let s := s.modCtx e k fun c => { (c.setReg rd b) with nstat := b }
      let s := if bit b 6 && t == (s.ctxOf e k).desc.die && s.act e t != .free then s.microFree e k else s
      let t := s.now + s.dnum (0x3230 + e / 8) 7 * 25
      if b &&& mask = value then s.busDone e k else (s.modCtx e k fun c => { c with till := t }).giveUp e k
def execWaitst (engine ctx rd ra mask value status : Nat) (s : State) : Host.Outcome State Fault Refusal :=
  done (waitst engine ctx rd ra mask value status s)

/-! Control of the context. -/

/-- WAIT (R338). -/
def wait (e k : Nat) (u : Bool) (count : Nat) (s : State) : State :=
  s.micro e k (.wait u count) fun s =>
    if u then
      let t := s.now + count * 25
      ((s.modCtx e k fun c => { c with till := t }).pcNext e k).giveUp e k
    else s.plain e k id
def execWait (engine ctx : Nat) (u : Bool) (count : Nat) (s : State) : Host.Outcome State Fault Refusal := done (wait engine ctx u count s)

/-- SETT (R337). -/
def sett (e k : Nat) (imm : Bool) (rb : Nat) (nv : Bool) (die : Nat) (s : State) : State :=
  s.micro e k (.sett imm rb nv die) fun s =>
    let c := s.ctxOf e k
    let t := if imm then die % 16 else c.reg rb % 16
    if t ≠ c.desc.die ∧ c.cls ≠ clsMaint then s.microFault e k 7 c.pc
    else (s.unclaim e k).plain e k fun c => { c with target := t, nv := nv }
def execSett (engine ctx : Nat) (imm : Bool) (rb : Nat) (nv : Bool) (die : Nat) (s : State) : Host.Outcome State Fault Refusal :=
  done (sett engine ctx imm rb nv die s)

/-- FCHK (R336). -/
def fchk (e k : Nat) (m : Bool) (s : State) : State :=
  s.micro e k (.fchk m) fun s =>
    let c := s.ctxOf e k
    if s.fenced e c.target || s.staleEpoch e c.desc then
      (if m then s.plain e k fun c => { c with fenceF := true } else s.endCtx e k csFenced c.pages)
    else s.plain e k id
def execFchk (engine ctx : Nat) (m : Bool) (s : State) : Host.Outcome State Fault Refusal := done (fchk engine ctx m s)

/-- The other contexts of the engine that are ready. -/
def State.othersReady (s : State) (e k : Nat) : List Nat := (List.range 32).filter fun j => j != k && s.microReady e j

/-- YIELD (R338): every other context that is ready has one turn first. -/
def yield (e k : Nat) (s : State) : State :=
  s.micro e k .yield fun s =>
    let l := s.othersReady e k
    ((s.pcNext e k).giveUp e k).modCtx e k fun c => { c with after := l }
def execYield (engine ctx : Nat) (s : State) : Host.Outcome State Fault Refusal := done (yield engine ctx s)

/-- Statuses that DONE may give (R339). -/
def doneStatuses : List Nat := [0, 1, 3, 4, 5, 8, 0xA]

/-- The pattern routine of the library has loaded the die's pattern (Table 10.9, R287). -/
def State.patternLoaded (e : Nat) (d : Desc) (s : State) : State :=
  if d.op = 10 ∧ d.arg0 % 256 = 0x15 then
    (s.modNand (e * 16 + d.die) fun x => { x with patternOk := true }).modFch fun f => { f with patBuf := setBit f.patBuf (e / 8) true }
  else s

/-- DONE (R339): it waits for a die that still has an operation without a ready status. -/
def doneInstr (e k rd status : Nat) (s : State) : State :=
  s.micro e k (.done rd status) fun s =>
    let c := s.ctxOf e k
    if !doneStatuses.contains status then s.microFault e k 0xA c.pc
    else
      let st := if status = 0 ∧ c.anyCorr = true then csCorrected else status
      let detail := if status = 8 then 0xFFFE else c.reg rd % 2 ^ 16
      let d := c.desc.die
      let s := ((s.unclaim e k).giveUp e k).modCtx e k fun c => { c with target := d }
      let s := if status = 0 then s.patternLoaded e c.desc else s
      if s.act e d = .reading ∨ s.act e d = .active ∨ s.act e d = .suspending ∨ s.act e d = .suspended then
        s.modCtx e k fun c => { c with fin := some (st, detail) }
      else s.endCtx e k st detail
def execDone (engine ctx rd status : Nat) (s : State) : Host.Outcome State Fault Refusal := done (doneInstr engine ctx rd status s)

/-! ALU, memory and flow (Table 10.6). -/

/-- LDI. -/
def ldi (e k rd : Nat) (h : Bool) (v : Nat) (s : State) : State :=
  s.micro e k (.ldi rd h v) fun s => s.plain e k fun c =>
    c.setReg rd (if h then v % 2 ^ 16 * 2 ^ 16 + c.reg rd % 2 ^ 16 else v % 2 ^ 16)
def execLdi (engine ctx rd : Nat) (h : Bool) (value : Nat) (s : State) : Host.Outcome State Fault Refusal := done (ldi engine ctx rd h value s)

/-- The address of an LDD or STD. -/
def Ctx.localAddr (c : Ctx) (ra offset : Nat) : Nat := (c.reg ra + sext16 offset) % 2 ^ 32

/-- Is it outside the local memory, or not a word's (R329)? -/
def badLocal (a : Nat) : Bool := a % 4 != 0 || decide (0x7FFF < a)

/-- LDD (R329). -/
def ldd (e k rd ra offset : Nat) (s : State) : State :=
  s.micro e k (.ldd rd ra offset) fun s =>
    let c := s.ctxOf e k
    let a := c.localAddr ra offset
    if badLocal a then s.microFault e k 4 c.pc else s.plain e k fun c => c.setReg rd (s.localWord e k a)
def execLdd (engine ctx rd ra offset : Nat) (s : State) : Host.Outcome State Fault Refusal := done (ldd engine ctx rd ra offset s)

/-- STD (R329). -/
def std (e k rs ra offset : Nat) (s : State) : State :=
  s.micro e k (.std rs ra offset) fun s =>
    let c := s.ctxOf e k
    let a := c.localAddr ra offset
    if badLocal a then s.microFault e k 4 c.pc
    else if a < 0x100 then s.microFault e k 5 c.pc
    else (s.setLocal e a (c.reg rs)).plain e k id
def execStd (engine ctx rs ra offset : Nat) (s : State) : Host.Outcome State Fault Refusal := done (std engine ctx rs ra offset s)

/-- An ALU instruction (R331): `f` of ra and B. -/
def State.alu (e k op rd ra : Nat) (imm : Bool) (b : Nat) (f : Nat → Nat → Nat) (s : State) : State :=
  s.micro e k (.alu op rd ra imm b) fun s => s.plain e k fun c =>
    c.setReg rd (f (c.reg ra) (if imm then (if op = 0 then sext16 b else b % 2 ^ 16) else c.reg b))

/-- ADD. -/
def add (e k rd ra : Nat) (imm : Bool) (b : Nat) (s : State) : State := s.alu e k 0 rd ra imm b (· + ·)
def execAdd (engine ctx rd ra : Nat) (imm : Bool) (b : Nat) (s : State) : Host.Outcome State Fault Refusal := done (add engine ctx rd ra imm b s)

/-- AND. -/
def andInstr (e k rd ra : Nat) (imm : Bool) (b : Nat) (s : State) : State := s.alu e k 1 rd ra imm b (· &&& ·)
def execAnd (engine ctx rd ra : Nat) (imm : Bool) (b : Nat) (s : State) : Host.Outcome State Fault Refusal := done (andInstr engine ctx rd ra imm b s)

/-- OR. -/
def orInstr (e k rd ra : Nat) (imm : Bool) (b : Nat) (s : State) : State := s.alu e k 2 rd ra imm b (· ||| ·)
def execOr (engine ctx rd ra : Nat) (imm : Bool) (b : Nat) (s : State) : Host.Outcome State Fault Refusal := done (orInstr engine ctx rd ra imm b s)

/-- XOR. -/
def xorInstr (e k rd ra : Nat) (imm : Bool) (b : Nat) (s : State) : State := s.alu e k 3 rd ra imm b (· ^^^ ·)
def execXor (engine ctx rd ra : Nat) (imm : Bool) (b : Nat) (s : State) : Host.Outcome State Fault Refusal := done (xorInstr engine ctx rd ra imm b s)

/-- SHL. -/
def shl (e k rd ra : Nat) (imm : Bool) (b : Nat) (s : State) : State := s.alu e k 4 rd ra imm b fun x y => x * 2 ^ (y % 32)
def execShl (engine ctx rd ra : Nat) (imm : Bool) (b : Nat) (s : State) : Host.Outcome State Fault Refusal := done (shl engine ctx rd ra imm b s)

/-- SHR. -/
def shr (e k rd ra : Nat) (imm : Bool) (b : Nat) (s : State) : State := s.alu e k 5 rd ra imm b fun x y => x / 2 ^ (y % 32)
def execShr (engine ctx rd ra : Nat) (imm : Bool) (b : Nat) (s : State) : Host.Outcome State Fault Refusal := done (shr engine ctx rd ra imm b s)

/-- Does a branch condition hold (Table 10.7)? None for a reserved one. -/
def State.branchHolds (s : State) (e : Nat) (c : Ctx) (cond ra : Nat) : Option Bool :=
  let v := c.reg ra
  match cond with
  | 0 => some true
  | 1 => some (v == 0)
  | 2 => some (v != 0)
  | 3 => some (bit v 31)
  | 4 => some (!bit v 31)
  | 5 => some c.uncorr
  | 6 => some (!c.uncorr)
  | 7 => some c.corr
  | 8 => some c.fenceF
  | 9 => some (s.tailEligible e c.target)
  | _ => none

/-- BR (R331, R332, Table 10.7). -/
def br (e k cond ra target : Nat) (s : State) : State :=
  s.micro e k (.br cond ra target) fun s =>
    let c := s.ctxOf e k
    let decode := cond == 5 || cond == 6 || cond == 7
    match s.branchHolds e c cond ra with
    | none => s.microFault e k 1 c.pc
    | some b =>
      if decode && !c.wait.isEmpty then s
      else
        let s := s.plain e k fun c => if decode then { c with uncorr := false, corr := false } else c
        if b ∧ (s.ctxOf e k).live = true then s.next e k target else s
def execBr (engine ctx cond ra target : Nat) (s : State) : Host.Outcome State Fault Refusal := done (br engine ctx cond ra target s)

/-- CALL (Table 10.6). -/
def call (e k target : Nat) (s : State) : State :=
  s.micro e k (.call target) fun s =>
    let c := s.ctxOf e k
    if 4 ≤ c.stack.length then s.microFault e k 3 c.pc
    else
      let s := s.plain e k fun c => { c with stack := (c.pc + 1) % 2 ^ 13 :: c.stack }
      if (s.ctxOf e k).live then s.next e k target else s
def execCall (engine ctx target : Nat) (s : State) : Host.Outcome State Fault Refusal := done (call engine ctx target s)

/-- RET (Table 10.6). -/
def ret (e k : Nat) (s : State) : State :=
  s.micro e k .ret fun s =>
    let c := s.ctxOf e k
    match c.stack with
    | [] => s.microFault e k 3 c.pc
    | t :: l =>
      let s := s.plain e k fun c => { c with stack := l }
      if (s.ctxOf e k).live then s.next e k t else s
def execRet (engine ctx : Nat) (s : State) : Host.Outcome State Fault Refusal := done (ret engine ctx s)

/-! Program store and local memory, by registers. -/

/-- A write of DRF_PSDATA[e] (R343): only while STOPPED or HALTED. -/
def State.writeStore (e v : Nat) (s : State) : State :=
  if s.engState e = engStopped ∨ s.engState e = engHalted then
    let i := s.fld (DRF_PSADDR.INDEX e)
    (s.modEng e fun g => { g with pstore := Tab.set 0 g.pstore i (v % 2 ^ 32), psWritten := true }).setFld (DRF_PSADDR.INDEX e) (i + 1)
  else s.put (DRF_STAT.ERR e) true

/-- PROGRAM_STORE_WRITE (R343). -/
def programStoreWrite (m e v : Nat) (s : State) : State := if 128 ≤ e then s else s.access m (drfPage e + 0x104) (State.writeStore e v)
def execProgramStoreWrite (master engine value : Nat) (s : State) : Host.Outcome State Fault Refusal :=
  done (programStoreWrite master engine value s)

/-- A read of DRF_PSDATA[e]: the word at INDEX, which then increments (R343). -/
def State.readStore (m e : Nat) (s : State) : State :=
  let i := s.fld (DRF_PSADDR.INDEX e)
  (s.returns m (Tab.get 0 (s.engine e).pstore i)).setFld (DRF_PSADDR.INDEX e) (i + 1)

/-- PROGRAM_STORE_READ (R343). -/
def programStoreRead (m e : Nat) (s : State) : State := if 128 ≤ e then s else s.access m (drfPage e + 0x104) (State.readStore m e)
def execProgramStoreRead (master engine : Nat) (s : State) : Host.Outcome State Fault Refusal := done (programStoreRead master engine s)

/-- An access through DRF_LMDATA[e]: ADDR increments; a write below 0x0100 is ignored; a read there is of no context: a free
value. -/
def State.windowLocal (m e : Nat) (write : Option Nat) (s : State) : State :=
  let i := s.fld (DRF_LMADDR.ADDR e)
  let s := match write with
    | some v => if i < 0x40 then s else s.setLocal e (4 * i) v
    | none =>
      if i < 0x40 then (s.returns m (Config.freeWord s.free).toNat).tookFree else s.returns m (Tab.get 0 (s.engine e).lmem i)
  s.setFld (DRF_LMADDR.ADDR e) (i + 1)

/-- LOCAL_MEMORY_WINDOW_ACCESS (R345). -/
def localMemoryWindowAccess (m e : Nat) (write : Option Nat) (s : State) : State :=
  if 128 ≤ e then s else s.access m (drfPage e + 0x10C) (State.windowLocal m e write)
def execLocalMemoryWindowAccess (master engine : Nat) (write : Option Nat) (s : State) : Host.Outcome State Fault Refusal :=
  done (localMemoryWindowAccess master engine write s)

end Sys2Proof.Machine
end

