-- ==== Sys2Proof/Machine/Ecc.lean ====
section
/-! DEFINITION. Machine/Ecc.lean: the commands of the flash ECC (11_flash_ecc_integrity.md). -/

namespace Sys2Proof.Machine

/-- A decode of a microcode context has ended (R332, R339): its flags, largest count and counters. -/
def State.microDecoded (e k cw : Nat) (o : Decode) (s : State) : State :=
  let c := s.ctxOf e k
  let s := (s.modEcc fun x => { x with busy := x.busy - 1 }).tally 2201 1
  let s := s.modCtx e k fun c => { c with wait := dropFrom cw c.wait }
  match o with
  | .corrected bits _ =>
    let above := decide (s.reportThr < bits)
    let s := s.modCtx e k fun c => { c with maxbits := max c.maxbits (min bits 255), corr := c.corr || above, anyCorr := c.anyCorr || above }
    if above then (s.modCnt (e * 16 + c.desc.die) fun x => { x with above := sat32 x.above 1 }).tally 2202 1 else s
  | _ => s.modCtx e k fun c => { c with uncorr := true }

/-- Does codeword `cw` of the page at which firmware's READ stands lie on a plane not programmed since the unit's erase (R666)? -/
def State.readsErased (s : State) (e k cw : Nat) : Bool :=
  let c := s.ctxOf e k
  let page := c.desc.page + c.pages
  c.desc.owner == 0 &&
    (match (s.unitRec (e * 16 + c.desc.die) c.desc.unit).written with
     | some l => !l.any fun x => x / 16 == page && bit x (cw / 4)
     | none => false)

/-- The result of a codeword's decode is used (R332, R354); the codewords of an erased page are uncorrectable (R666). -/
def State.useDecode (e k cw : Nat) (o : Decode) (s : State) : State :=
  if (s.ctxOf e k).desc.op = 1 then s.readDecoded e k cw (if s.readsErased e k cw then .uncorrectable else o) else s.microDecoded e k cw o

/-- The output of decoder `d` fails its check (R608): error type 0x0B; the codeword is decoded again on another decoder of the kind.
DESIGN CHOICE (log entry 40): it goes back to the front of those that wait, and when the second output fails its check too, the second
result is a codeword left uncorrectable. -/
def State.outputFails (d : Nat) (j : DecJob) (s : State) : State :=
  let s := (s.noteError 0x0B d 1 145).tally (if j.soft then 2204 else 2201) 1
  s.modEcc fun x => { x with queue := { j with again := true, avoid := d + 1 } :: x.queue }

/-- CODEWORD_DECODE_END (R332, R352 to R357, R608): the decode of a codeword that a decoder works on ends, and the decoder takes the
next. -/
def codewordDecodeEnd (e k cw : Nat) (o : Decode) (s : State) : State :=
  match s.decoderOf e k cw with
  | none => s
  | some (d, j) =>
    let s := s.modEcc fun x => { x with jobs := Tab.set none x.jobs d none }
    let s :=
      if o ≠ .checkFailed then s.useDecode e k cw o
      else if j.again then (s.noteError 0x0B d 1 145).useDecode e k cw .uncorrectable
      else s.outputFails d j
    s.feedDecoders.eccMode
def execCodewordDecodeEnd (engine ctx cw : Nat) (outcome : Decode) (s : State) : Host.Outcome State Fault Refusal :=
  done (codewordDecodeEnd engine ctx cw outcome s)

/-- The oldest candidate leaves the ring (R360). -/
def State.popCand (m : Nat) (s : State) : State :=
  let v := s.ecc.cands.headD 0
  (s.returnPair m ECC_CAND.ENTRY.addr v).modEcc fun x => { x with cands := x.cands.tail }

/-- CAND_POP (R360, R42). -/
def candPop (m : Nat) (s : State) : State := s.access m ECC_CAND.ENTRY.addr (State.popCand m)
def execCandPop (master : Nat) (s : State) : Host.Outcome State Fault Refusal := done (candPop master s)

/-- Every per-die counter is cleared (R361). -/
def State.clearEccCounts (s : State) : State := s.modEcc fun x => { x with cnt := [] }

/-- DCLR (R361). -/
def dclr (m : Nat) (s : State) : State := s.access m ECC_CTRL.DCLR.addr State.clearEccCounts
def execDclr (master : Nat) (s : State) : Host.Outcome State Fault Refusal := done (dclr master s)

/-- Does a profile word name a code, an LRATE and a BCHT that R350 allows? -/
def profileOk (v : Nat) : Bool :=
  decide (slice v 29 2 ≤ 1) && decide (slice v 13 3 ≤ 5) && (slice v 29 2 == 0 || (decide (8 ≤ v % 256) && decide (v % 256 ≤ 120)))

/-- A write of ECC_PROF[n] (R350). -/
def State.writeProfile (n v : Nat) (s : State) : State :=
  if n = 15 then s
  else if (List.range 128).all (fun e => s.engState e == engStopped) && profileOk v then
    (((((s.setFld (ECC_PROF.SOFT n) (slice v 31 1)).setFld (ECC_PROF.CODE n) (slice v 29 2)).setFld (ECC_PROF.SOFTB n) (slice v 20 4)).setFld
      (ECC_PROF.SOFTA n) (slice v 16 4)).setFld (ECC_PROF.LRATE n) (slice v 13 3)).setFld (ECC_PROF.BCHT n) (v % 256)
  else (s.put ECC_STAT.ERR true).assertEvent 135

/-- ECC_PROFILE_WRITE (R350). -/
def eccProfileWrite (m n v : Nat) (s : State) : State := if 16 ≤ n then s else s.access m (ECC_PROF.SOFT n).addr (State.writeProfile n v)
def execEccProfileWrite (master n value : Nat) (s : State) : Host.Outcome State Fault Refusal := done (eccProfileWrite master n value s)

end Sys2Proof.Machine
end

