-- ==== Sys2Proof/Machine/MashOps.lean ====
section
/-! DEFINITION. Machine/MashOps.lean: die membership, spares, rebuild, reshape and the lost-stripe table, as operations
(12_redundancy.md). -/

namespace Sys2Proof.Machine

/-- A command or write of the Mash engine is ignored (R383): ERR, event 176. -/
def State.mshErr (s : State) : State := (s.put MSH_STAT.ERR true).assertEvent 176

/-- The membership epoch increments (R383); the record is to be written (R390). -/
def State.newEpoch (s : State) : State :=
  (s.setFld MSH_STAT.EPOCH ((s.fld MSH_STAT.EPOCH + 1) % 2 ^ 16)).modMsh fun m => { m with recDirty := true }

/-- MINEPOCH of a die becomes the current epoch, and its engine checks it (R384). -/
def State.setMinEpoch (die : Nat) (s : State) : State :=
  let ep := s.fld MSH_STAT.EPOCH
  let s := s.modMem die fun x => { x with minEpoch := some ep }
  (s.put (DRF_DEPOCH.EN (die / 16) (die % 16)) true).setFld (DRF_DEPOCH.MINEPOCH (die / 16) (die % 16)) ep

/-- Channel of a die. -/
def chanOf (die : Nat) : Nat := die / 16
/-- Channel group of a die. -/
def groupOfDie (die : Nat) : Nat := die / 128

/-- Does another position of the set use channel `c`? A vacant one still uses that of its last die (R387). -/
def State.channelUsed (s : State) (t p c : Nat) : Bool :=
  (List.range (s.setPositions t)).any fun q => q != p && chanOf (s.position t q).die == c

/-- The rows of a stripe set that hold data, in rising order. -/
def State.dataRows (s : State) (t : Nat) : List Nat :=
  (s.zpm.rows.filter fun e => e.1 / 16384 == t && e.2.held && (s.rowOwner t (e.1 % 16384)).isSome).map fun e => e.1 % 16384

/-- The row a REBUILDING position takes next: in ascending order from where it joined, then the rows below that (R391). -/
def State.nextRebuild (s : State) (t p : Nat) : Option Nat :=
  let q := s.position t p
  (s.dataRows t).find? fun r =>
    if q.second then decide (q.rbrow ≤ r) && decide (r < q.joined) else decide (q.rbrow ≤ r) && decide (q.joined ≤ r)

/-- A position whose rows of this pass are done goes on to its second pass, or becomes MEMBER (R391); event 163. -/
def State.settleRebuild (t p : Nat) (s : State) : State :=
  let q := s.position t p
  if (s.mem q.die).state ≠ .rebuilding ∨ (s.nextRebuild t p).isSome = true then s
  else
    let s := if q.second || q.joined == 0 then s else s.modPos t p fun x => { x with second := true, rbrow := 0 }
    if (s.position t p).second ≠ q.second ∧ (s.nextRebuild t p).isSome = true then s
    else
      let s := (s.modPos t p fun x => { x with rbrow := 0, joined := 0, second := false }).modMem q.die fun x => { x with state := .member }
      s.newEpoch.assertEvent 163

/-- Does a rebuild pass run in the set, apart from position `p`? -/
def State.passRuns (s : State) (t p : Nat) : Bool :=
  (List.range (s.setPositions t)).any fun q => q != p && !(s.position t q).vacant && (s.mem (s.position t q).die).state == .rebuilding

/-- A SPARE die is assigned to a vacant position (Table 12.2): REBUILDING; event 161. -/
def State.assignSpare (die t p : Nat) (s : State) : State :=
  let at0 := if s.passRuns t p then Tab.get 0 s.msh.rebRow t else 0
  let s := s.modMsh fun m => { m with rebRow := Tab.set 0 m.rebRow t at0 }
  let s := (s.modMem die fun x => { x with state := .rebuilding, sset := t, pos := p }).modPos t p fun x =>
    { x with die := die, vacant := false, rbrow := 0, joined := at0, second := false, resumed := false }
  (((s.newEpoch).setMinEpoch die).assertEvent 161).settleRebuild t p

/-- The SPARE die that R387 finds for a vacant position: same channel group, a free channel, the own channel first, then the
lowest number. -/
def State.spareFor (s : State) (t p : Nat) : Option Nat :=
  let old := (s.position t p).die
  let ok := (s.msh.dies.filter fun x => x.2.state == .spare && groupOfDie x.1 == groupOfDie old && !s.channelUsed t p (chanOf x.1)).map (·.1)
  match ok.find? fun d => chanOf d == chanOf old with
  | some d => some d
  | none => ok.head?

/-- A position has become vacant: a spare is sought (R387); event 162 when none qualifies. -/
def State.seekSpare (t p : Nat) (s : State) : State :=
  if s.on MSH_CTRL.AUTOSPARE then
    match s.spareFor t p with
    | some d => s.assignSpare d t p
    | none => s.assertEvent 162
  else s

/-- A MEMBER or REBUILDING die is declared failed (Table 12.2): fenced, its position vacant; event 160. -/
def State.failDie (die : Nat) (s : State) : State :=
  let x := s.mem die
  let s := (s.modMem die fun x => { x with state := .failed, sset := 0, pos := 0 }).modPos x.sset x.pos fun q =>
    { q with vacant := true, rbrow := 0, joined := 0, second := false }
  let s := ((s.newEpoch).setMinEpoch die).setFence die
  (s.assertEvent 160).seekSpare x.sset x.pos

/-- The first vacant position a die can fill, in ascending stripe set and position order (R387). -/
def State.vacancyFor (s : State) (die : Nat) : Option (Nat × Nat) :=
  (s.msh.pos.find? fun e =>
    e.2.present && e.2.vacant && s.on (MSH_SSET.VALID (e.1 / 128)) && groupOfDie e.2.die == groupOfDie die &&
      !s.channelUsed (e.1 / 128) (e.1 % 128) (chanOf die)).map fun e => (e.1 / 128, e.1 % 128)

/-- A die becomes SPARE (Table 12.2), and is assigned at once where R387 finds it a position. -/
def State.becomeSpare (die : Nat) (s : State) : State :=
  let s := (s.modMem die fun x => { x with state := .spare }).newEpoch
  if s.on MSH_CTRL.AUTOSPARE then
    match s.vacancyFor die with
    | some q => s.assignSpare die q.1 q.2
    | none => s
  else s

/-- A die becomes RETIRED; `fence` where Table 12.2 sets the fence bit. -/
def State.retireDie (die : Nat) (fence : Bool) (s : State) : State :=
  let s := (s.modMem die fun x => { x with state := .retired }).newEpoch
  if fence then s.setFence die else s

/-- The bit of a die in DRF_DIEERR has been set (R386, Table 12.2). -/
def State.autoFail (die : Nat) (s : State) : State :=
  match (s.mem die).state with
  | .member => if s.on MSH_CTRL.AUTOFAIL && s.on MSH_CTRL.EN then s.failDie die else s
  | .rebuilding => if s.on MSH_CTRL.AUTOFAIL && s.on MSH_CTRL.EN then s.failDie die else s
  | .testing => (s.retireDie die true).assertEvent 168
  | _ => s

/-- FAIL (Table 12.2). -/
def State.dcmdFail (die : Nat) (s : State) : State :=
  match (s.mem die).state with
  | .member => s.failDie die
  | .rebuilding => s.failDie die
  | .spare => s.retireDie die true
  | _ => s.mshErr

/-- ASSIGN to the position in MSH_DARG (R387). -/
def State.dcmdAssign (die : Nat) (s : State) : State :=
  let t := s.fld MSH_DARG.SSET
  let p := s.fld MSH_DARG.POS
  let q := s.position t p
  if s.on (MSH_SSET.VALID t) && decide (p < s.setPositions t) && q.present && q.vacant && (s.mem die).state == .spare && !s.channelUsed t p (chanOf die) then
    s.assignSpare die t p
  else s.mshErr

/-- READMIT (Table 12.2, R389): the self-test starts. -/
def State.dcmdReadmit (die : Nat) (s : State) : State :=
  if (s.mem die).state = .returning then
    ((((s.modMem die fun x => { x with state := .testing }).newEpoch).setMinEpoch die).clearFence die)
  else s.mshErr

/-- RETIRE (Table 12.2). -/
def State.dcmdRetire (die : Nat) (s : State) : State :=
  match (s.mem die).state with
  | .spare => s.retireDie die true
  | .failed => s.retireDie die false
  | .returning => s.retireDie die false
  | _ => s.mshErr

/-- STATE codes of MSH_DSTATE. -/
def MState.code : MState → Nat
  | .unused => 0 | .member => 1 | .spare => 2 | .failed => 3 | .rebuilding => 4 | .returning => 5 | .testing => 6 | .retired => 7

/-- READ into MSH_DSTATE. -/
def State.dcmdRead (die : Nat) (s : State) : State :=
  let x := s.mem die
  let held := x.state == .member || x.state == .rebuilding
  ((s.setFld MSH_DSTATE.STATE x.state.code).setFld MSH_DSTATE.SSET (if held then x.sset else 0)).setFld MSH_DSTATE.POS (if held then x.pos else 0)

/-- A write of MSH_DCMD. -/
def State.writeDcmd (v : Nat) (s : State) : State :=
  let die := v % 2048
  match slice v 28 4 with
  | 1 => s.dcmdFail die
  | 2 => s.dcmdAssign die
  | 3 => s.dcmdReadmit die
  | 4 => s.dcmdRetire die
  | 5 => s.dcmdRead die
  | _ => s.mshErr

/-! Stripe sets and recipes (R373, R376). -/

/-- Is a Mash recipe valid (R376)? -/
def State.mshRecipeValid (s : State) (r : Nat) : Bool :=
  let w := slice (s.mshWord r 0) 16 7
  let p := slice (s.mshWord r 0) 8 2
  let q := (List.range w).map fun m => s.mshWord r (1 + m) % 256
  decide (4 ≤ w) && decide (w ≤ 64) && (p == 1 || (p == 2 && !q.contains 0 && decide q.Nodup))

/-- The dies of the positions of a set under recipe `r`. -/
def State.posDies (s : State) (t r : Nat) : List Nat :=
  (List.range (slice (s.mshWord r 0) 16 7 + slice (s.mshWord r 0) 8 2)).map fun p => (s.position t p).die

/-- May the set be made VALID with recipe `r` (R373)? -/
def State.mayValidate (s : State) (t r : Nat) : Bool :=
  let n := slice (s.mshWord r 0) 16 7 + slice (s.mshWord r 0) 8 2
  let l := s.posDies t r
  s.mshRecipeValid r && ((List.range n).all fun p => (s.position t p).present) && (l.all fun d => (s.mem d).state == .unused) &&
    decide (l.map chanOf).Nodup

/-- VALID becomes 1: the named dies become MEMBER with one epoch increment. -/
def State.validateSet (t r : Nat) (s : State) : State :=
  let l := s.posDies t r
  let s := each (l.zipIdx) (fun x s => s.modMem x.1 fun y => { y with state := .member, sset := t, pos := x.2 }) s
  ((s.setFld (MSH_SSET.RECIPE t) r).put (MSH_SSET.VALID t) true).newEpoch

/-- VALID becomes 0: dies return to UNUSED, vacancies and rebuild pointers clear, one epoch increment. -/
def State.invalidateSet (t : Nat) (s : State) : State :=
  let held := (s.msh.dies.filter fun x => (x.2.state == .member || x.2.state == .rebuilding) && x.2.sset == t).map (·.1)
  let s := each held (fun d s => s.modMem d fun y => { y with state := .unused, sset := 0, pos := 0 }) s
  let s := each (List.range 66) (fun p s => s.modPos t p fun x => { x with vacant := false, rbrow := 0, joined := 0, second := false }) s
  (s.put (MSH_SSET.VALID t) false).newEpoch

/-- A write of MSH_SSET[t]. -/
def State.writeMshSset (t v : Nat) (s : State) : State :=
  let on := bit v 31
  let r := slice v 24 4
  if s.on (MSH_SSET.VALID t) then
    if on then s else if s.on (ZPM_SSET.VALID t) then s.mshErr else s.invalidateSet t
  else if on then (if s.mayValidate t r then s.validateSet t r else s.mshErr)
  else s.setFld (MSH_SSET.RECIPE t) r

/-- A write of MSH_PDATA: only while the set is not VALID (R373). -/
def State.writePdata (v : Nat) (s : State) : State :=
  let t := s.fld MSH_PSEL.SSET
  let p := s.fld MSH_PSEL.POS
  if s.on (MSH_SSET.VALID t) ∨ 66 ≤ p then s.mshErr
  else s.modPos t p fun _ => { present := bit v 31, die := v % 2048 }

/-- A write of MSH_RCPDATA (R376). -/
def State.writeRcpdata (v : Nat) (s : State) : State :=
  let r := s.fld MSH_RCPSEL.RECIPE
  let w := s.fld MSH_RCPSEL.WORD
  let used := (List.range 4096).any fun t => s.on (MSH_SSET.VALID t) && s.fld (MSH_SSET.RECIPE t) == r
  if 64 < w ∨ used = true then s.mshErr
  else
    let x := if w = 0 then slice v 16 7 * 2 ^ 16 + slice v 8 2 * 2 ^ 8 else v % 256
    s.modMsh fun m => { m with recipes := Tab.set 0 m.recipes (r * 65 + w) x, written := addTo (r * 65 + w) m.written }

/-! Probe and self-test (R388, R389). -/

/-- A probe of the FAILED dies: those in `answers` become RETURNING, one epoch increment each; event 166. -/
def State.probeDies (answers : List Nat) (s : State) : State :=
  let failed := (s.msh.dies.filter fun x => x.2.state == .failed).map (·.1)
  let s := each failed State.setMinEpoch s
  each failed (fun d s =>
    if answers.contains d then (((s.modMem d fun x => { x with state := .returning }).newEpoch).assertEvent 166) else s) s

/-- The self-test of a TESTING die ends (R389): the pattern's verdict, the units erased and those that failed. -/
def State.endSelfTest (die : Nat) (patternOk : Bool) (erased : Nat) (failed : List Nat) (s : State) : State :=
  if (s.mem die).state ≠ .testing then s
  else
    let s := each failed (State.retireUnit die) s
    if patternOk ∧ failed.length * 100 ≤ erased then
      let s := each ((List.range 131072).filter fun u => (s.unitRec die u).state != .retired) (fun u s => s.modUnit die u fun r =>
        { r with clean := true, undef := false, written := some [], erases := min (r.erases + 1) 0xFFFFF }) s
      (s.becomeSpare die).assertEvent 167
    else (s.retireDie die true).assertEvent 168

/-! Rebuild (R391 to R394). -/

/-- The chunks of position `p` of a row that stand in QLC move to the die that holds the position now. -/
def State.moveToSpare (i t p row : Nat) (s : State) : State :=
  let die := (s.position t p).die
  let u := s.rowUnit die row
  let s := s.modMed fun m => { m with chunks := m.chunks.map fun e =>
    match e.2 with
    | .qlc _ _ pg cw => if e.1 / 65536 = i * 128 + p ∧ s.chunkRow i (e.1 % 65536) = row then (e.1, .qlc die u pg cw) else e
    | _ => e }
  s.modUnit die u fun x => { x with clean := false, written := none }

/-- Before a resumed rebuild takes a row, it erases the spare's unit of that row (R390). -/
def State.eraseResumed (t p row : Nat) (s : State) : State :=
  let q := s.position t p
  if q.resumed then s.countErase q.die (s.rowUnit q.die row) else s

/-- Row `row` of a REBUILDING position is taken and rebuilt; `lost` are the stripes found lost, with their positions. -/
def State.takeRow (t p row : Nat) (lost : List (Nat × Nat)) (s : State) : State :=
  let s := s.eraseResumed t p row
  let s := match s.rowOwner t row with
    | some i =>
      let st0 := (row - (s.zone i).rownum) * (4 * max 1 (s.unitChunks t))
      (each lost (fun l s => s.loseStripe i row (st0 + l.1) l.2 1) s).moveToSpare i t p row
    | none => s
  let bytes := s.unitChunks t * 16384
  let s := s.modMsh fun m => { m with floorLeft := m.floorLeft - bytes, rebRow := Tab.set 0 m.rebRow t (row + 1), recDirty := true }
  (s.modPos t p fun x => { x with rbrow := row + 1 }).settleRebuild t p

/-- May the rebuild take a row of the set now: EN, no dump committed (R417), the record of the change written, under the mode word only within the floor
allowance (R390, R393, R403)? -/
def State.mayRebuild (s : State) : Bool :=
  s.on MSH_CTRL.EN && !s.hld.committed && !s.msh.recDirty && (!bit s.bell.modeWord 17 || s.msh.floorLeft != 0)

/-- The membership record is written to the system area (R390). -/
def State.saveMembership (s : State) : State :=
  let ep := s.fld MSH_STAT.EPOCH
  let m := s.msh
  (s.modMsh fun m => { m with recDirty := false }).modNv fun n =>
    { n with member := m.dies, pos := m.pos, memEpoch := ep, lost := m.lost, lostMore := m.lostMore, suspects := m.suspects, lostEver := m.lostEver }

/-- What a frame start does for the Mash engine: the floor allowance, the once-per-frame mark, the membership record (R390, R393,
R405). -/
def State.frameMash (s : State) : State :=
  let floor := s.dnum 0x3301 0 * s.bell.periodNow * 64
  let s := s.modMsh fun m => { m with floorLeft := floor, reconEv := false }
  if s.msh.recDirty && !s.hld.committed then s.saveMembership else s

/-! Reshape (R397 to R399). -/

/-- The zoned namespaces whose reservations are in group `a`. -/
def State.nsOfGroup (s : State) (a : Nat) : List Nat := (List.range 64).filter fun n => (s.ns n).kind == 2 && (s.ns n).pgrp == a

/-- r = min(8, floor(zone size / ROW)) in group `g` (R397). -/
def State.rowsPerZone (s : State) (n g : Nat) : Nat := min 8 (2 ^ (s.ns n).zlog / (s.fld (ZPM_PGRP.ROW g) * 2 ^ 20))

/-- Does the device accept a reshape from group `a` to group `b` (R397)? -/
def State.reshapeOk (s : State) (a b : Nat) : Bool :=
  let l := s.nsOfGroup a
  a != b && s.msh.reshape.isNone && !s.groupReserved b && !(s.zpm.ns.any (fun x => x.2.kind == 1) && s.reclaimSets.any fun t => s.fld (ZPM_SSET.PGRP t) == a) &&
    decide ((l.map fun n => (s.ns n).zones * s.rowsPerZone n b).sum ≤ s.unreserved b) &&
    l.all fun n => s.rowsPerZone n b != 0 && s.rowsPerZone n b * s.fld (ZPM_PGRP.ROW b) == s.rowsPerZone n a * s.fld (ZPM_PGRP.ROW a)

/-- A reshape starts (R398): reservations in B, zones already Full are copied; event 173. -/
def State.startReshape (a b : Nat) (s : State) : State :=
  let l := s.nsOfGroup a
  let s := each l (fun n s =>
    let z := (s.nsZones n).countP fun i => (s.zone i).hasrow
    let rb := s.rowsPerZone n b
    let ra := (s.ns n).rspan + 1
    let s := s.modMsh fun m => { m with resOld := Tab.set 0 m.resOld n (z * ra) }
    s.modNs n fun x => { x with pgrp := b, rowsRes := x.zones * rb, rspan := rb - 1 }) s
  let s := (s.modMsh fun m => { m with reshape := some (a, b) }).assertEvent 173
  each (l.flatMap fun n => s.nsZones n) State.reshapeZone s

/-- Does a zone still hold a row in the source group? -/
def State.holdsIn (s : State) (a : Nat) : Bool := s.zpm.zones.any fun z => z.2.kind == 1 && z.2.hasrow && s.fld (ZPM_SSET.PGRP z.2.sset) == a

/-- The reshape ends when no zone holds a row in A (R399): event 175. -/
def State.settleReshape (s : State) : State :=
  match s.msh.reshape with
  | some (a, _) => if s.holdsIn a then s else (s.modMsh fun m => { m with reshape := none, resOld := [] }).assertEvent 175
  | none => s

/-- A write of MSH_RSHP: DST and SRC, and a start with GO. -/
def State.writeRshp (v : Nat) (s : State) : State :=
  let a := slice v 0 6
  let b := slice v 8 6
  let s := (s.setFld MSH_RSHP.DST b).setFld MSH_RSHP.SRC a
  if bit v 31 then (if s.reshapeOk a b then (s.startReshape a b).settleReshape else s.put MSH_RSHP.ERR true) else s

/-- The chunks of a zone that hold data under the layout of set `t`, as position and chunk. -/
def State.zoneChunks (s : State) (i t : Nat) : List (Nat × Nat) :=
  let _ := s.zone i
  let n := ceilDiv (ceilDiv (s.unitsHeld i) (max 1 (s.setW t))) 4
  (List.range (s.setPositions t)).flatMap fun p => (List.range n).map fun c => (p, c)

/-- The lost blocks of a zone's rows in set `t` from row `row0` on, as blocks of the zone. -/
def State.lostBlocks (s : State) (t row0 n : Nat) : List (Nat × Lost) :=
  let per := s.rowUnits t
  (s.msh.lost ++ s.msh.lostMore).flatMap fun l =>
    if l.sset = t ∧ row0 ≤ l.row ∧ l.row < row0 + n then
      (bitsOf l.map 64).map fun m => ((l.row - row0) * per + l.stripe * s.setW t + m, l)
    else []

/-- A lost block of a zone is listed under its place in set `t` from row `row0` on (R398). -/
def State.relistLost (i t row0 : Nat) (x : Nat × Lost) (s : State) : State :=
  let b := x.1
  let per := max 1 (s.rowUnits t)
  let w := max 1 (s.setW t)
  let row := row0 + b / per
  let stripe := b % per / w
  let m := b % per % w
  let hit := fun (l : Lost) => l.sset == t && l.row == row && l.stripe == stripe
  let more := fun (l : Lost) => { l with map := l.map ||| 2 ^ m }
  if s.msh.lost.any hit then s.modMsh fun x => { x with lost := updFirst hit more x.lost, lostGen := x.lostGen + 1 }
  else if s.msh.lostMore.any hit then s.modMsh fun x => { x with lostMore := updFirst hit more x.lostMore }
  else
    let z := s.zone i
    let e : Lost := { sset := t, row := row, stripe := stripe, nsid := z.nsidx + 1, nlb := w,
                      slba := s.zoneStart i + (row - row0) * per * 2 ^ s.unitShift (z.nsidx + 1) + stripe * w * 2 ^ s.unitShift (z.nsidx + 1),
                      map := 2 ^ m, bt := x.2.bt, mepoch := x.2.mepoch, cause := x.2.cause }
    if s.msh.lost.length < 65536 then s.modMsh fun x => { x with lost := x.lost ++ [e], lostGen := x.lostGen + 1 }
    else s.modMsh fun x => { x with lostMore := x.lostMore ++ [e] }

/-- A reshape copy of zone `i` has been verified: it switches to its rows in B (R398); event 174. -/
def State.reshapeSwitch (i : Nat) (s : State) : State :=
  match s.med.migr.find? fun m => m.index == i && m.reshape with
  | none => s
  | some m =>
    if !m.ready || s.hld.committed then s
    else
      let z := s.zone i
      let lost := s.lostBlocks z.sset z.rownum (z.rspan + 1)
      let s := s.dropMedia i
      let s := each (s.zoneChunks i m.sset) (fun x s =>
        let die := (s.position m.sset x.1).die
        let n := max 1 (s.unitChunks m.sset)
        s.setChunk i x.1 x.2 (.qlc die (s.rowUnit die (m.row + x.2 / n)) (x.2 % n) 0)) s
      let s := s.switchMigr m (s.ns z.nsidx).rspan
      let s := each lost (State.relistLost i m.sset m.row) s
      let s := s.modMsh fun x => { x with copies := dropFrom i x.copies }
      let s := s.assertEvent 174
      match s.msh.reshape with
      | some (_, b) => (each ((s.nsOfGroup b).flatMap fun n => s.nsZones n) State.reshapeZone s).settleReshape.mediaTurn
      | none => s.mediaTurn

/-! Patrol (R400 to R402). -/

/-- A suspect codeword joins the list (R402). -/
def State.addSuspect (t row stripe p : Nat) (s : State) : State :=
  if s.msh.suspects.length < 1024 then
    ((s.modMsh fun m => { m with suspects := addTo (t * 16384 + row, stripe * 128 + p) m.suspects, recDirty := true }).count MSH_PATCNT.LOC 1).assertEvent 171
  else (s.count MSH_PATCNT.LOC 1).assertEvents [171, 177]

/-- Does the patrol read stripe set `t` now (R400, R403, R417)? -/
def State.mayPatrol (s : State) (t : Nat) : Bool :=
  s.on MSH_CTRL.EN && s.on MSH_CTRL.PATROL_EN && !s.hld.committed && !bit s.bell.modeWord 17 && s.on (MSH_SSET.VALID t) &&
    (List.range (s.setPositions t)).all fun p => !(s.position t p).vacant && (s.mem (s.position t p).die).state != .rebuilding

/-! Time limits of flash operations (R317, R327, R386). -/

/-- A microcode descriptor has run for longer than four times its limit (R327): the die is reset, the descriptor ends TIMEOUT. -/
def State.microTimeout (e k : Nat) (resetOk : Bool) (s : State) : State :=
  let c := s.ctxOf e k
  if !c.live || decide (c.desc.op < 10) then s
  else
    (s.endDie e c.desc.die csTimeout fun c => c.pages).limitReset (e * 16 + c.desc.die) resetOk

/-- The bit of a die in DRF_DIEERR is newly set: the membership follows (R386). -/
def State.dieErrCheck (e d : Nat) (before : Bool) (s : State) : State :=
  if !before && bit (s.fld (DRF_DIEERR.DIE e)) d then s.autoFail (e * 16 + d) else s

end Sys2Proof.Machine
end

