-- ==== Sys2Proof/Machine/CtlOps.lean ====
section
/-! DEFINITION. Machine/CtlOps.lean: loss and return of the rails (R514 to R520, R531): what survives in flash, fuses and the
VAON domain, the enables in their order, and the moment both dies leave reset. -/

namespace Sys2Proof.Machine

/-- Are all rails up and both dies out of reset? -/
def State.up (s : State) : Bool := s.ctl.pwrseq == 0xFF && s.ctl.pgood == 0xFF

/-! Retention word 3 (Table 17.7). -/

/-- Bits `[lo + w - 1 : lo]` of retention word 3 at `v`. -/
def State.setRet3 (lo w v : Nat) (s : State) : State :=
  s.setFld (AON_RET.WORD 3) (putSlice (s.fld (AON_RET.WORD 3)) lo w v)

/-- Bits of retention word 3. -/
def State.ret3 (s : State) (lo w : Nat) : Nat := slice (s.fld (AON_RET.WORD 3)) lo w

/-- An entry is given up (R530, R532): domain `d` refused with `code`; counted and recorded; event 324. -/
def State.abandonEntry (d code master : Nat) (s : State) : State :=
  let s := (((s.count (PWR_DCNT.REFUSALS d) 1).count PWR_STAT.ABORTS 1).setFld PWR_LAST.DOMAIN d).setFld PWR_LAST.CODE code
  let s := (s.setFld PWR_LAST.MASTER master).setFld PWR_STAT.CTRL 0
  let s := (s.put PWR_STAT.WAKEPEND false).setFld PWR_STAT.STATE s.pow.restore
  (s.modPow fun p => { p with asked := [], acked := [], refused := true }).assertEvent 324

/-! What the flash holds (R214, R215, R220, R225, R232, R432). -/

/-- Does a location of record of the block with this key lie on the media? -/
def State.onMedia (s : State) (key : Nat) : Bool :=
  let nsid := key / 2 ^ 40
  let u := key % 2 ^ 40 / 2 ^ s.unitShift nsid
  match s.placeOf nsid u with
  | some (i, b) => s.locOf i b != .none
  | none => false

/-- Blocks of which the map pages on flash name an older copy than the last one, or one that has been given up since: without the map
journal the start finds that copy. -/
def State.staleBlocks (s : State) : List Nat :=
  (s.nv.keep.map.filter fun e => e.2.isSome && Tab.get none s.med.map e.1 != e.2).flatMap fun e =>
    let n := e.1 / 2 ^ 40 + 1
    (List.range (2 ^ s.unitShift n)).map fun k => blkKey n (e.1 % 2 ^ 40 * 2 ^ s.unitShift n + k)

/-- The flash copies when the rails fall: what media operations have written, with the tables as last written. The older copy of a
stale block has a content that the model has not kept: a free value. -/
def State.flashNow (s : State) : Keep :=
  let k := s.nv.keep
  { k with
    ns := s.zpm.ns, rows := s.zpm.rows, chunks := s.med.chunks, chunkFn := s.med.chunkFn, folds := s.med.folds, units := s.med.units,
    remap := s.med.remap, nonRow := s.med.nonRow, spare0 := s.med.spare0, layout := s.on MED_CTRL.LAYOUT,
    slcCap := s.med.slcCap, slcUsed := s.med.slcUsed, slcLive := s.med.slcLive, slcPtr := s.med.slcPtr,
    mapUsed := s.med.mapUsed, mapUnit := s.med.mapUnit,
    blocks := s.staleBlocks.zipIdx.foldl (fun t e => Tab.set none t e.1 (some (Config.freeBlock (s.free + e.2)).toNat))
      (s.zpm.blocks.filter fun e => s.onMedia e.1),
    blkMeta := s.zpm.blkMeta.filter fun e => s.onMedia e.1 }

/-- The piece table of a dump (Table 13.4): the committed pointer and the voids of the descriptors of which the zone journal does not
record them. -/
def State.pieceTable (s : State) : Tab (Nat × List (Nat × Nat)) :=
  (s.zpm.zones.filter fun e => e.2.kind != 0 && (e.2.wpCommit != e.2.recorded || !e.2.voidRuns.isEmpty)).map fun e => (e.1, (e.2.wpCommit, e.2.voidRuns))

/-- What a dump image carries, with the flash copies beside it (R421). -/
def State.imageNow (s : State) : Keep :=
  { s.saveHealth s.flashNow with
    journal := s.zpm.journal ++ s.zpm.journalLate, mapJrnl := s.med.mapJrnl ++ s.med.mapJrnlLate, pieces := s.pieceTable,
    blocks := s.zpm.blocks, blkMeta := s.zpm.blkMeta, parity := s.msh.parity, recs := s.evr.ring,
    tubs := s.tubs.tub.filter fun e => decide (e.1 < s.fld TUB_SPLIT.P) && e.2.owner != 0xFF,
    pays := s.tubs.pay.filter fun e => decide (e.1 < s.fld TUB_SPLIT.P),
    blkTub := s.hfe.blkTub, tubLeft := s.hfe.tubLeft, tubBase := s.hfe.tubBase }

/-! Loss of the rails. -/

/-- Register fields that lie in the VAON domain: block AON, and the Lamp clock's bit of SYS_CLKSTAT. -/
def aonKey (k : Nat) : Bool :=
  (decide (0x42e00000 * 32 ≤ k) && decide (k < 0x42e00100 * 32)) || k == SYS_CLKSTAT.LAMPXTAL.key

/-- Is the half with this key one of the Lamp core's of a pair in block AON, neither of which the fall resets (R16, R17, R44)? -/
def aonHalf (k : Nat) : Bool := k % 16 == 5 && decide (0x42e00000 * 16 ≤ k) && decide (k < 0x42e00100 * 16)

/-- What the safety block keeps: its records, and the tests of the next start; a test that runs is recorded as undecided (R615). -/
def State.keptSafety (s : State) : Saf :=
  { (State.reset).saf with
    det := s.saf.det, trans := s.saf.trans, lasting := s.saf.lasting, lastBt := s.saf.lastBt, last := s.saf.last,
    marked := s.saf.marked, nextStart := s.saf.nextStart, lampRomOnly := s.saf.lampRomOnly, compBad := s.saf.compBad,
    undecided := s.saf.tests.foldl (fun t e => Tab.upd 0 t e.1 fun n => min (n + 1) 0xFFFFFFFF) s.saf.undecided }

/-- The machine with every rail but VAON lost: what flash, fuses, the dies and the VAON domain hold stays, all else is as it
will be when both dies leave reset. -/
def State.loseRails (s : State) : State :=
  let r := State.reset
  { r with
    pending := s.pending, free := s.free + s.staleBlocks.length, ident := s.ident,
    regs := s.regs.filter fun e => aonKey e.1,
    bus := { r.bus with
      shadow := s.bus.shadow.filter fun e => aonHalf e.1, staged := s.bus.staged.filter fun e => aonHalf e.1,
      resv := s.bus.resv.filter fun e => e.1 == 5 },
    pci := { r.pci with port0 := { wakeOut := s.pci.port0.wakeOut }, port1 := { wakeOut := s.pci.port1.wakeOut } },
    fch := { r.fch with dies := s.fch.dies.map fun e => (e.1, { present := e.2.present, ident := e.2.ident }) },
    drf := { r.drf with media := s.drf.media },
    zpm := { r.zpm with fdpOn := s.zpm.fdpOn, ruRes := s.zpm.ruRes, fdpEn := s.zpm.fdpEn, fdpStats := s.zpm.fdpStats },
    nv := { s.nv with keep := s.flashNow },
    cip := { r.cip with
      wrapped := s.cip.wrapped, gen := s.cip.gen, wcount := s.cip.wcount, mcount := s.cip.mcount, svn := s.cip.svn,
      lifecycle := s.cip.lifecycle, sigpol := s.cip.sigpol, revoke := s.cip.revoke, pkhEc := s.cip.pkhEc,
      pkhMl := s.cip.pkhMl, dbgkh := s.cip.dbgkh, imgkey := s.cip.imgkey, drawn0 := s.cip.drawn0, drawn1 := s.cip.drawn1,
      lastRange := s.cip.lastRange, secWrites := s.cip.secWrites },
    ctl := { r.ctl with
      pwrseq := 0, pgood := 0, vaon := s.ctl.vaon, waitMain := false, attempts := s.ctl.attempts, cause := s.ctl.cause },
    pow := { r.pow with
      lampSram := s.pow.lampSram, mainFell := s.pow.mainFell, shutPend := s.pow.shutPend, rtcDiv := s.pow.rtcDiv },
    saf := s.keptSafety,
    mgt := { r.mgt with
      copyA := s.mgt.copyA, copyB := s.mgt.copyB, recGen := s.mgt.recGen, creds := s.mgt.creds, gpioIn := s.mgt.gpioIn },
    evr := { r.evr with
      first := s.evr.first, last := s.evr.last, lastUnits := s.evr.lastUnits, firstPages := s.evr.firstPages,
      lastPages := s.evr.lastPages, dropped := s.evr.dropped } }

/-! Start (Table 16.6). -/

/-- An enable goes high. -/
def State.raiseRail (i : Nat) (s : State) : State := s.modCtl fun c => { c with pwrseq := setBit c.pwrseq i true }

/-- Start at step 2: the Lamp ROM waits for main good. -/
def State.startStep2 (cause : Nat) (s : State) : State := s.modCtl fun c => { c with waitMain := true, cause := cause }

/-- The node is the PLCA coordinator (R564). -/
def State.setCoord (s : State) : State :=
  s.put MGT_STAT.COORD (s.fld MGT_STAT.NODE == 0 && s.coldNum 0x1104 0 == 1)

/-- The node ID in force, fixed at step 5 (R564), copied into retention word 2. -/
def State.fixNode (s : State) : State :=
  let w := s.fld (AON_RET.WORD 5)
  let n := if bit w 31 && bit w 8 then slice w 0 5 else slice s.mgt.gpioIn 0 5
  let s := (s.setFld MGT_STAT.NODE n).setFld (AON_RET.WORD 2) (putSlice (s.fld (AON_RET.WORD 2)) 25 5 n)
  s.setCoord

/-- Step 5: clocks and PLLs run, both dies leave reset, SRAM clearing runs, the power-up sequence of the NAND groups is armed
(R73, R451, R516). A wake reaches ACTIVE here (Table 17.4); a restart after a thermal shutdown raises event 332. -/
def State.leaveReset (s : State) : State :=
  let c := s.ctl.cause
  let s := (((s.put SYS_CLKSTAT.XTAL true).put SYS_CLKSTAT.PLLCORE true).put SYS_CLKSTAT.PLLDATA true).put SYS_CLKSTAT.PLLPHY true
  let s := (s.setFld SYS_RSTCAUSE.CAUSE c).setFld SYS_RSTCAUSE.PGFAIL (s.ret3 0 4)
  let s := (s.setRet3 4 4 0).modCtl fun x => { x with attempts := 0 }
  let s := (s.modMemc fun m => { m with clearing := true }).startPowerUp s.puGroups
  let s := s.fixNode
  let woke := s.fld PWR_STAT.STATE ≠ 0
  let s := (s.setFld PWR_STAT.STATE 0).setFld PWR_STAT.CTRL 0
  let s := s.setFld SAF_PST.FAILED s.saf.marked
  (s.assertIf (decide woke) 320).assertIf (c == 5) 332

/-- PGOOD of rail `i` is high: the next enable follows; after the last, step 5 (R514). -/
def State.railGood (i : Nat) (s : State) : State :=
  if bit s.ctl.pwrseq i && !bit s.ctl.pgood i then
    let s := s.modCtl fun c => { c with pgood := setBit c.pgood i true }
    if i = 7 then (if s.up then s.leaveReset else s) else s.raiseRail (i + 1)
  else s

/-- PGOOD of rail `i` is not high in time (R515). -/
def State.railLate (i : Nat) (s : State) : State :=
  if bit s.ctl.pwrseq i && !bit s.ctl.pgood i then
    let n := s.ctl.attempts + 1
    let s := ((s.setRet3 0 4 (i + 1)).setRet3 4 4 n).modCtl fun c => { c with pwrseq := 0, pgood := 0, attempts := n }
    if 3 ≤ n then (s.modCtl fun c => { c with stoppedSup := true, waitMain := true, retry := false }).modPow fun p => { p with mainFell := false }
    else s.modCtl fun c => { c with retry := true }
  else s

/-- One second after a failure the sequence is tried again. -/
def State.railRetry (s : State) : State :=
  if s.ctl.retry then (s.modCtl fun c => { c with retry := false, cause := 7 }).raiseRail 0 else s

/-- Main is good while the Lamp ROM waits for it: step 3. After three failed attempts main must have fallen first. -/
def State.mainGoodStart (s : State) : State :=
  if s.ctl.stoppedSup && !s.pow.mainFell then s
  else
    let s := if s.ctl.stoppedSup then s.modCtl fun c => { c with attempts := 0, stoppedSup := false, cause := 7 } else s
    (s.modCtl fun c => { c with waitMain := false }).raiseRail 0

/-- The record in AON_WAKE of a start that is not a wake. -/
def State.notWoken (s : State) : State := s.setFld AON_WAKE.CAUSE 0xFF

/-- Every rail but VAON falls and comes back with the ordinary start at step 3 (R520), cause `c`. -/
def State.restartNow (c : Nat) (s : State) : State :=
  ((s.loseRails).notWoken.modCtl fun x => { x with cause := c }).raiseRail 0

end Sys2Proof.Machine
end

