-- ==== Sys2Proof/Machine/HoldOps.lean ====
section
/-! DEFINITION. Machine/HoldOps.lean: the dump: its commit, its programs and its end (13_protected_cache_holdup.md R417 to R426),
and the store check's result (R413). -/

namespace Sys2Proof.Machine

/-- A loss of the main input starts the loss timer (R411): a store check ends, ARMED and DRAINING become SUSPECT (Table 13.2). -/
def State.mainLow (s : State) : State :=
  let s := s.modPow fun p => { p with mainFell := true }
  if !s.up || s.hld.timer then s
  else
    let s := (s.put HLD_STAT.MAINGOOD false).modHld fun h => { h with timer := true }
    let s := s.stopCheck
    if s.hldState = hldArmed ∨ s.hldState = hldDraining then
      let b := s.hldState
      ((s.modHld fun h => { h with before := b }).toHld hldSuspect).assertEvent 352
    else s

/-! Store check (R413). -/

/-- Energy in mJ: `charge` µA·s over a drop of `drop` mV at the sense input. -/
def storeEnergy (charge drop ratio disarm vmin : Nat) : Nat :=
  charge * ((disarm * ratio) ^ 2 - vmin ^ 2) / (2000000 * drop * ratio)

/-- Capacitance in µF. -/
def storeCap (charge drop ratio : Nat) : Nat := charge * 1000 / (drop * ratio)

/-- A store check ends with its measurement; without a drop the quotient has no value the spec states (log entry 11). -/
def State.endCheck (charge drop : Nat) (s : State) : State :=
  if !s.hld.checking then s
  else
    let s := s.stopCheck
    let ratio := s.dnum 0x2309 0
    let open_ := drop = 0
    let e := if open_ then (Config.freeWord s.free).toNat else storeEnergy charge drop ratio (s.dnum 0x2307 0) (s.dnum 0x230A 0)
    let c := if open_ then (Config.freeWord (s.free + 1)).toNat else storeCap charge drop ratio
    let s := if open_ then s.tookFree.tookFree else s
    let ok := decide (s.dnum 0x230B 0 ≤ e)
    let s := (s.setDict 0x2312 0 (.num (c % 2 ^ 32))).setDict 0x2313 0 (.num (e % 2 ^ 32))
    let s := (s.put HLD_STAT.STOREBAD (!ok)).modHld fun h => { h with checkOk := ok, checkedOnce := true }
    let s := if ok then s.modMed fun m => { m with critWarn := setBit m.critWarn 4 false } else s.criticalWarning 4
    (s.assertEvent (if ok then 361 else 362)).holdCheck

/-! The image and its programs (R420 to R423). -/

/-- Protected tubs in use. -/
def State.protTubs (s : State) : Nat := s.tubsUsed true

/-- Bytes of the image with `meta` bytes of metadata. -/
def State.imageBytes (s : State) (md : Nat) : Nat := 65536 + md + 512 * s.protTubs

/-- Programs of one dump die: header, image page-planes, trailer (R423). -/
def dumpPrograms (bytes planes : Nat) : Nat := 2 + ceilDiv (ceilDiv (ceilDiv (ceilDiv bytes 4096) 62) 4) (max 1 planes)

/-- The first program of a dump die: its header page on one plane. -/
def State.dumpFirst (s : State) (die slot n planes : Nat) : Desc :=
  let d := s.opDesc 2 6 512 die ((s.systemUnits die).getD slot 0) 0 planes (.dumpProg slot)
  { d with arg1 := n - 1 }

/-- Start the programs of a dump on every usable dump die; the others are erasures. -/
def State.startDump (slot : Nat) (s : State) : State :=
  let md := (Config.freeWord s.free).toNat % (1536 * 1024 + 1)
  let s := s.tookFree
  let bytes := s.imageBytes md
  let l := s.dumpDies.filter s.usableDie
  let s := s.modHld fun h => { h with dumpLeft := l.length, dumpBad := 64 - l.length, dumpSlot := slot }
  each l (fun die s =>
    let multi := bit (s.features (die / 16)) 3
    let planes := if multi then 2 ^ min 4 (2 ^ s.fld (DRF_GEOM.PLANEBITS (die / 16))) - 1 else 1
    let n := dumpPrograms bytes (popCount planes 4)
    s.submitHw (die / 16) clsHost (s.dumpFirst die slot n planes)) s

/-! The commit (R417, Table 13.3). -/

/-- Every other descriptor ends; a die with a confirmed operation is reset. -/
def State.dumpAborts (e : Nat) (s : State) : State :=
  let l := s.confirmedDies e
  let s := (each (List.range 16) (fun d s => s.endDie e d csAborted fun _ => 0xFFFD) s).askResets e l
  (s.abortQueued e 0xFFFD fun d => d.owner != 6).modEng e fun g => { g with
    hwq := g.hwq.filter (fun x => x.2.owner == 6), parked := [] }

/-- A dump commit in NAP or during an entry ungates every domain; the entry is abandoned with code HOLDUP (R534). -/
def State.dumpPower (s : State) : State :=
  if s.fld PWR_STAT.STATE = 2 ∨ s.fld PWR_STAT.CTRL ≠ 0 then
    let entering := s.fld PWR_STAT.CTRL = 1 ∨ s.fld PWR_STAT.CTRL = 2
    let s := each (List.range 48) (fun d s => if s.fld (PWR_DOM.STATE d) = domGated then s.setFld (PWR_DOM.STATE d) 0 else s) s
    let s := if entering then s.abandonEntry 18 4 0xF else s
    (s.setFld PWR_STAT.STATE 0).setFld PWR_STAT.CTRL 0
  else s

/-- A dump is committed. -/
def State.commitDump (s : State) : State :=
  let s := s.dumpPower.endLoops 4 fun _ => true
  let slot := if s.nv.slotA.erased then 0 else 1
  let bt := s.bellTime
  let t := s.now
  let s := (s.toHld hldDumping).modHld fun h => { h with
    checking := false, testEn := false, chgEn := false, disEn := true, pfailLow := true, committed := true, dumpAt := t }
  let s := ((s.modHfe fun h => { h with stopped := true }).modCtl fun c => { c with cause := 4 }).assertEvents [207, 354]
  let s := if s.on EVR_CTRL.EN then s.record 5 0 0 0 else s
  let image := s.imageNow
  let s := s.modNv fun v =>
    let g := v.gen + 1
    let w : Slot := { gen := g, bt := bt }
    let v := { v with gen := g, dumpBt := bt, image := some image, imageGen := g }
    if slot = 0 then { v with slotA := w } else { v with slotB := w }
  let s := each (List.range 128) State.dumpAborts s
  let s := each (List.range 16) (fun g s => if bit s.hld.maskNow g then s.updateWp g else s.grpForceOff g) s
  let s := each (List.range 128) (fun e s =>
    if bit s.hld.maskNow (e / 8) && s.engState e != engRunning then (s.resetEngine e).runEngine e else s) s
  s.startDump slot

/-- The rails fall after a dump, or at a thermal shutdown or safe reset without one; the hold-up state is DONE (R424). -/
def State.enterDone (s : State) : State :=
  let p := s.hld.pfailLow
  ((s.loseRails).toHld hldDone).modHld fun h => { h with pfailLow := p }

/-- Every dump program has ended (R422, Table 13.2): the trailers stand, the rails fall. -/
def State.endDump (s : State) : State :=
  if s.hldState ≠ hldDumping ∨ s.hld.dumpLeft ≠ 0 then s
  else
    let us := cyclesUs (s.now - s.hld.dumpAt)
    let n := 64 - s.hld.dumpBad
    let f := fun (w : Slot) => { w with trailers := n, duration := us % 2 ^ 20 }
    let s := s.modNv fun v => if s.hld.dumpSlot = 0 then { v with slotA := f v.slotA } else { v with slotB := f v.slotB }
    let s := if 62 ≤ n then s.saveMembership else s
    let off := s.pow.shutPend
    (s.assertEvent 355).enterDone.modPow fun p => { p with offRails := off }

/-! Replayed pieces (R428). -/

/-- The chunks of descriptor `i` that are complete, every unit of theirs committed, and have no place on the media, as position and
chunk. -/
def State.unplacedChunks (s : State) (i : Nat) : List (Nat × Nat) :=
  let z := s.zone i
  let w := max 1 (s.setW z.sset)
  let n := if z.kind = 1 then z.wpCommit / 2 ^ s.unitShift (z.nsidx + 1) else z.wpCommit
  (List.range (ceilDiv n (4 * w))).flatMap fun c =>
    ((List.range (w + s.setP z.sset)).filter fun p =>
      s.chunkLoc i p c == .none && (if p < w then decide ((4 * c + 3) * w + p < n) else decide ((4 * c + 4) * w ≤ n))).map
      fun p => (p, c)

/-- The replayed pieces of descriptor `i` proceed to SLC: its complete chunks, and those of its end where it has ended. -/
def State.resumeZone (i : Nat) (s : State) : State :=
  let s := each (s.unplacedChunks i) (fun x s => s.progChunk i x.1 x.2) s
  if (s.fold i).ended then (s.tailChunks i).padTail i
  else if s.zoneEnded i then s.endZone i
  else if (s.zone i).kind = 2 ∧ (s.zone i).state = .full then s.progTail i
  else s

/-- Replayed pieces proceed to SLC as any committed piece does. -/
def State.resumeSlc (s : State) : State := each ((s.zpm.zones.filter fun z => z.2.hasrow).map (·.1)) State.resumeZone s

/-! Loss debounce and recovery (Table 13.2). -/

/-- Main loss is debounced: a dump from SUSPECT, none from CHARGING (R432). -/
def State.lossDebounced (s : State) : State :=
  if !s.up || !s.hld.timer then s
  else if s.hldState = hldSuspect then s.commitDump
  else if s.hldState = hldCharging then (s.modHld fun h => { h with chgEn := false }).toHld hldInit
  else s

/-- The loss timer clears: a ride-through from SUSPECT; event 357 while dumping. -/
def State.lossCleared (s : State) : State :=
  if !s.up || !s.hld.timer then s
  else
    let s := (s.put HLD_STAT.MAINGOOD true).modHld fun h => { h with timer := false }
    if s.hldState = hldSuspect then ((((s.toHld s.hld.before).count HLD_CNT.RIDES 1).tally 2213 1 |>.assertEvent 353)).holdCheck
    else if s.hldState = hldDumping then s.assertEvent 357
    else s.holdCheck

/-- A hardware thermal shutdown or a safe reset acts (R426, R546, R613): a dump where one can commit, else the rails fall. -/
def State.fallOrDump (cause : Nat) (s : State) : State :=
  if s.hldState = hldArmed ∨ s.hldState = hldSuspect ∨ s.hldState = hldDraining then
    s.commitDump.modCtl fun c => { c with cause := cause }
  else if s.hldState = hldDumping then s.modCtl fun c => { c with cause := cause }
  else
    let off := s.pow.shutPend
    ((s.modCtl fun c => { c with cause := cause }).enterDone).modPow fun p => { p with offRails := off }

end Sys2Proof.Machine
end

