-- ==== Sys2Proof/Machine/CipOps.lean ====
section
/-! DEFINITION. Machine/CipOps.lean: key slots and keys, GCM jobs with their windows, the DRBGs, secure writes and boot
verification, as operations (15_cipher_secure_domain.md). AES and its modes are not in the spec's text: they are free values
of their inputs (log entry 11). -/

namespace Sys2Proof.Machine

/-! RS writes (R467). -/

/-- A normal-world write to an RS field at `a` by master `m`: ignored, counted, captured; event 297. -/
def State.rsWrite (m a : Nat) (s : State) : State :=
  let s := s.count CIP_RSWCNT.COUNT 1
  let s := if s.on CIP_RSWCAP.VALID then s
    else (((s.put CIP_RSWCAP.VALID true).setFld CIP_RSWCAP.MASTER m).setFld CIP_RSWCAP.BLOCK ((a - 0x40000000) / 0x200000)).setFld
      CIP_RSWCAP.OFFSET (a % 0x100000)
  s.assertEvent 297

/-! Keys (R469, R472, R473, R484). -/

/-- A 512-bit key as DRBG instance 0 draws it. -/
def State.drawKey (s : State) : Nat := (Config.draw 0 s.cip.drawn0).toNat + 2 ^ 256 * (Config.draw 0 (s.cip.drawn0 + 1)).toNat

/-- A fresh key in slot `k`: generated, wrapped, kept in the secure record, loaded. -/
def State.freshKey (k : Nat) (s : State) : State :=
  let v := s.drawKey
  s.modCip fun c => { c with
    drawn0 := c.drawn0 + 2, slots := Tab.set none c.slots k (some v), wrapped := Tab.set none c.wrapped k (some v),
    secWrites := c.secWrites + 1 }

/-- Slots of a namespace's key ranges. -/
def State.nsSlots (s : State) (n : Nat) : List Nat := (List.range (s.ns n).keys).map (64 * n + ·)

/-- Keys of a new namespace (R472); event 302. -/
def State.makeKeys (n : Nat) (s : State) : State := (each (s.nsSlots n) State.freshKey s).assertEvent 302

/-- Keys replaced by a crypto erase (R473); event 303. -/
def State.replaceKeys (l : List Nat) (s : State) : State := (each l State.freshKey s).assertEvent 303

/-- The keys of a deleted namespace are gone from the slots and the record. -/
def State.dropKeys (n : Nat) (s : State) : State :=
  let l := s.nsSlots n
  s.modCip fun c => { c with slots := Tab.clear c.slots (fun k => l.contains k), wrapped := Tab.clear c.wrapped fun k => l.contains k }

/-- Every stored key is loaded into its slot (R474). -/
def State.loadKeys (s : State) : State := s.modCip fun c => { c with slots := c.wrapped, fwKeys := true }

/-- The slot of the unit with index `i` of namespace index `n` (R469). -/
def State.slotOf (s : State) (n i : Nat) : Nat :=
  64 * n + i * (s.ns n).keys / max 1 (s.units4k (n + 1) (s.ns n).nsze)

/-! GCM jobs (R475 to R483). -/

/-- Job statuses of Table 15.4. -/
def gcmOk : Nat := 0
/-- TAG_FAIL -/
def gcmTagFail : Nat := 1
/-- KEY_EXHAUSTED -/
def gcmExhausted : Nat := 2
/-- NO_KEY -/
def gcmNoKey : Nat := 3
/-- INVALID -/
def gcmInvalid : Nat := 4
/-- MISMATCH -/
def gcmMismatch : Nat := 5
/-- DENIED -/
def gcmDenied : Nat := 6
/-- NOT_PRESENT -/
def gcmNotPresent : Nat := 0xF

/-- Address of a job slot. -/
def State.jobAddr (s : State) (slot : Nat) : Nat := 0x10000000 + s.fld CIP_GRING.BASE * 4096 + slot * 64

/-- Word `i` of a job slot. -/
def State.jobWord (s : State) (slot i : Nat) : Nat := s.word (s.jobAddr slot + 4 * i)

/-- Hardware writes bytes to SRAM: reservations on what they touch are broken (R440). -/
def State.hwWrite (a : Nat) (l : List Nat) (s : State) : State :=
  let s := each (List.range (l.length / 64 + 2)) (fun i s => if a / 64 + i ≤ (a + l.length - 1) / 64 then s.breakResv 16 ((a / 64 + i) * 64) else s) s
  s.setBytes a l

/-- Write a word of a job slot. -/
def State.setJob (slot i v : Nat) (s : State) : State := s.hwWrite (s.jobAddr slot + 4 * i) (toBytes v 4)

/-- May the job path reach `n` bytes from `a` on: dual-port SRAM, or banks that firmware owns? -/
def State.jobRange (s : State) (a n : Nat) : Bool :=
  n == 0 || (decide (0x10000000 ≤ a) && decide (a + n ≤ 0x10400000)) ||
    (decide (0x20000000 ≤ a) && decide (a + n ≤ 0x26000000) &&
      (List.range (n / 0x200000 + 2)).all fun i =>
        let b := (a - 0x20000000) / 0x200000 + i
        decide ((a + n - 1 - 0x20000000) / 0x200000 < b) || s.fld (MEM_BANKASN.OWNER b) == 1)

/-- OP of a job. -/
def State.jobOp (s : State) (slot : Nat) : Nat := slice (s.jobWord slot 0) 12 4
/-- CONTEXT of a job. -/
def State.jobCtx (s : State) (slot : Nat) : Nat := slice (s.jobWord slot 0) 0 8
/-- LEN of a job. -/
def State.jobLen (s : State) (slot : Nat) : Nat := slice (s.jobWord slot 1) 0 17
/-- AADLEN of a job. -/
def State.jobAad (s : State) (slot : Nat) : Nat := slice (s.jobWord slot 2) 0 11
/-- SRC of a job. -/
def State.jobSrc (s : State) (slot : Nat) : Nat := s.jobWord slot 3 + slice (s.jobWord slot 4) 0 8 * 2 ^ 32
/-- DST of a job. -/
def State.jobDst (s : State) (slot : Nat) : Nat := s.jobWord slot 5 + slice (s.jobWord slot 6) 0 8 * 2 ^ 32

/-- The status a job ends with before any computation; none where it runs. -/
def State.jobRefused (s : State) (slot : Nat) : Option Nat :=
  if s.ident.bn then some gcmNotPresent
  else if s.jobCtx slot < 64 then some gcmDenied
  else if !(s.jobOp slot == 1 || s.jobOp slot == 2) || decide (65536 < s.jobLen slot) || decide (1024 < s.jobAad slot) ||
      !s.jobRange (s.jobSrc slot) (s.jobAad slot + s.jobLen slot) || !s.jobRange (s.jobDst slot) (s.jobLen slot) then some gcmInvalid
  else if !s.cip.fwKeys then some gcmNoKey
  else none

/-- A job slot takes its result: DONE and STATUS; event 296 with IRQ, 291 for KEY_EXHAUSTED. -/
def State.endJob (slot status : Nat) (s : State) : State :=
  let w := s.jobWord slot 0
  let s := s.setJob slot 0 (putSlice (setBit w 31 true) 16 8 status)
  (s.assertIf (bit w 30) 296).assertIf (status == gcmExhausted) 291

/-- A firmware context. -/
def State.gctx (s : State) (c : Nat) : Gctx := Tab.get {} s.cip.gctx c
/-- Change a firmware context. -/
def State.modGctx (c : Nat) (f : Gctx → Gctx) (s : State) : State := s.modCip fun x => { x with gctx := Tab.upd {} x.gctx c f }

/-- A window is taken: the next position is burned (R479); events 292 to 294. -/
def State.takeWindow (s : State) : State :=
  let w := s.cip.mcount + 1
  let s := (s.modCip fun c => { c with mcount := w, window := some w }).assertEvent 292
  (s.assertIf (s.mcountLeft == 1023) 293).assertIf (s.mcountLeft == 0) 294

/-- A window for a context whose key has used `count` windows, with the limit `lim`: the latest one when the context has not held
it, else a new one; none when the key or the fuses are exhausted. -/
def State.windowFor (g : Gctx) (count lim : Nat) (s : State) : Option Nat × State :=
  if lim < count + 1 then (none, s)
  else
    match s.cip.window with
    | some w =>
      if g.held < w then (some w, s)
      else if s.mcountLeft = 0 then (none, s) else (some (s.cip.mcount + 1), s.takeWindow)
    | none => if s.mcountLeft = 0 then (none, s) else (some (s.cip.mcount + 1), s.takeWindow)

/-- Does a context need a window for its next encryption? -/
def Gctx.needs (g : Gctx) : Bool := g.window.isNone || decide (2 ^ 24 ≤ g.k)

/-- The IV of the next ENCRYPT of firmware context `c` (R478, R479): context field and counter; none when exhausted. -/
def State.nextIv (c : Nat) (s : State) : Option Nat × State :=
  let g := s.gctx c
  let ctxField := 2 ^ 31 + c
  if !g.needs then
    let w := g.window.getD 0
    (some (ctxField * 2 ^ 64 + w * 2 ^ 24 + g.k), s.modGctx c fun g => { g with k := g.k + 1 })
  else
    let n := Tab.get 0 s.cip.wcount c
    let r := s.windowFor g n (s.dnum 0x8001 0)
    match r.1 with
    | none => (none, r.2)
    | some w =>
      (some (ctxField * 2 ^ 64 + w * 2 ^ 24),
       (r.2.modGctx c fun g => { g with window := some w, k := 1, held := w }).modCip fun x => { x with
         wcount := Tab.set 0 x.wcount c (n + 1), secWrites := x.secWrites + 1 })

/-- Identity of K_FW(c, gen). -/
def fwKey (c gen : Nat) : Nat := c * 2 ^ 32 + gen

/-- The key stream over bytes, from byte 0 on. -/
def gcmXor (key iv : Nat) (l : List Nat) : List Nat :=
  (l.zip (List.range l.length)).map fun x => (x.1 % 256) ^^^ (Config.gcmStream key iv x.2).toNat

/-- The engine takes jobs in ring order, at most four at once; one that cannot run ends at once (R476). -/
def State.takeJobs : Nat → State → State
  | 0, s => s
  | n + 1, s =>
    let h := s.fld CIP_GHEAD.HEAD
    if h = s.fld CIP_GTAIL.TAIL ∨ 4 ≤ s.cip.jobs.length then s
    else
      let s := s.setFld CIP_GHEAD.HEAD ((h + 1) % 2 ^ s.fld CIP_GRING.LOG2)
      let s := match s.jobRefused h with
        | some st => s.endJob h st
        | none =>
          let g := Tab.get 0 s.cip.gen (s.jobCtx h)
          s.modCip fun c => { c with jobs := c.jobs ++ [{ slot := h, gen := g }] }
      State.takeJobs n s

/-- A write of CIP_GTAIL. -/
def State.writeGtail (v : Nat) (s : State) : State :=
  (s.setFld CIP_GTAIL.TAIL (v % 1024 % 2 ^ s.fld CIP_GRING.LOG2)).takeJobs 1024

/-- A write of CIP_GRING: only while the ring is empty, with LOG2 from 4 to 10. -/
def State.writeGring (v : Nat) (s : State) : State :=
  let l := slice v 0 4
  if s.fld CIP_GHEAD.HEAD = s.fld CIP_GTAIL.TAIL ∧ 4 ≤ l ∧ l ≤ 10 then
    (s.setFld CIP_GRING.BASE (slice v 12 10)).setFld CIP_GRING.LOG2 l
  else s

/-- The first taken job with operation `op`. -/
def State.nextJob (s : State) (op : Nat) : Option GJob := s.cip.jobs.find? fun j => s.jobOp j.slot == op

/-- A taken job leaves the engine; more are taken. -/
def State.dropJob (j : GJob) (s : State) : State := (s.modCip fun c => { c with jobs := c.jobs.filter (fun x => x.slot != j.slot) }).takeJobs 1024

/-- The second mismatch of a job's inverse check (R483): event 289. -/
def State.gcmBad (slot : Nat) (s : State) : State := (((s.count CIP_ERRCNT.GCMMIS 1).noteError 0x0A 128 1 146).assertEvent 289).endJob slot gcmMismatch

/-- The tag's four words of a job slot. -/
def State.jobTag (s : State) (slot : Nat) : Nat := ofBytes (s.bytes (s.jobAddr slot + 40) 16)

/-- ENCRYPT with its IV (R477, R478). -/
def State.encryptWith (j : GJob) (iv : Nat) (check : GcmCheck) (s : State) : State :=
  let c := s.jobCtx j.slot
  let key := fwKey c j.gen
  let aad := s.bytes (s.jobSrc j.slot) (s.jobAad j.slot)
  let ct := gcmXor key iv (s.bytes (s.jobSrc j.slot + s.jobAad j.slot) (s.jobLen j.slot))
  if check = .mismatchTwice then s.gcmBad j.slot
  else
    let tag := (Config.gcmTag key iv aad ct).toNat
    let s := s.hwWrite (s.jobDst j.slot) ct
    let s := ((s.setJob j.slot 7 (iv / 2 ^ 64)).setJob j.slot 8 (iv / 2 ^ 32 % 2 ^ 32)).setJob j.slot 9 (iv % 2 ^ 32)
    (s.hwWrite (s.jobAddr j.slot + 40) (toBytes tag 16)).endJob j.slot gcmOk

/-- The next taken ENCRYPT job completes. -/
def State.encryptJob (check : GcmCheck) (s : State) : State :=
  match s.nextJob 1 with
  | none => s
  | some j =>
    let r := match j.iv with
      | some iv => (some iv, s)
      | none => s.nextIv (s.jobCtx j.slot)
    match r.1 with
    | none => (r.2.endJob j.slot gcmExhausted).dropJob j
    | some iv => (r.2.encryptWith j iv check).dropJob j

/-- The next taken DECRYPT job completes (R480). -/
def State.decryptJob (check : GcmCheck) (s : State) : State :=
  match s.nextJob 2 with
  | none => s
  | some j =>
    let key := fwKey (s.jobCtx j.slot) j.gen
    let iv := s.jobWord j.slot 7 * 2 ^ 64 + s.jobWord j.slot 8 * 2 ^ 32 + s.jobWord j.slot 9
    let aad := s.bytes (s.jobSrc j.slot) (s.jobAad j.slot)
    let ct := s.bytes (s.jobSrc j.slot + s.jobAad j.slot) (s.jobLen j.slot)
    let s :=
      if (Config.gcmTag key iv aad ct).toNat ≠ s.jobTag j.slot then
        ((s.count CIP_ERRCNT.TAGFAIL 1).assertEvent 290).endJob j.slot gcmTagFail
      else if check = .mismatchTwice then s.gcmBad j.slot
      else (s.hwWrite (s.jobDst j.slot) (gcmXor key iv ct)).endJob j.slot gcmOk
    s.dropJob j

/-- Jobs of context `c` taken under its old key get their IVs before the rekey. -/
def State.settleIvs (c : Nat) (s : State) : State :=
  each (s.cip.jobs.filter fun j => s.jobCtx j.slot == c && s.jobOp j.slot == 1 && j.iv.isNone) (fun j s =>
    let r := s.nextIv c
    match r.1 with
    | some iv => r.2.modCip fun x => { x with jobs := x.jobs.map fun k => if k.slot = j.slot then { k with iv := some iv } else k }
    | none => (r.2.endJob j.slot gcmExhausted).modCip fun x => { x with jobs := x.jobs.filter fun k => k.slot != j.slot }) s

/-- A write of CIP_REKEY (R481). -/
def State.writeRekey (v : Nat) (s : State) : State :=
  let c := slice v 0 8
  if !bit v 31 then s
  else if c < 64 then s.put CIP_REKEY.ERR true
  else
    let s := s.settleIvs c
    let s := (s.modGctx c fun g => { g with window := none, k := 0 }).modCip fun x => { x with
      gen := Tab.upd 0 x.gen c (fun n => (n + 1) % 2 ^ 32), wcount := Tab.set 0 x.wcount c 0, secWrites := x.secWrites + 1 }
    (s.assertEvent 304).takeJobs 1024

/-! DRBG (R485). -/

/-- A normal-alias read of CIP_RNG by master `m`. -/
def State.readRng (m : Nat) (s : State) : State :=
  if s.on CIP_STAT.RNGOK then
    (s.returns m ((Config.draw 1 s.cip.drawn1).toNat % 2 ^ 32)).modCip fun c => { c with drawn1 := c.drawn1 + 1 }
  else s.returns m 0

/-- An instance's source fails a health test. -/
def State.rngFail (i : Nat) (s : State) : State :=
  if i = 0 then (s.modCip fun c => { c with rng0ok := false }).assertEvent 295
  else if i = 1 then (s.put CIP_STAT.RNGOK false).assertEvent 295
  else s

/-! Leases (R492 to R494). -/

/-- The domain of leased block `k` (Tables 15 and 17.3): 5 cipher, 6 key store, 7 DRBG 0, 8 fuse controller, 9 secure SRAM. -/
def leaseDomain (k : Nat) : Nat := 5 + k

/-- Is domain `d` under lease? The secure pair, domain 4, runs while any lease is held. -/
def State.leased (s : State) (d : Nat) : Bool :=
  (decide (5 ≤ d) && decide (d ≤ 9) && bit (s.fld CIP_LEASE.HOLD) (d - 5)) || (d == 4 && s.fld CIP_LEASE.HOLD != 0)

/-- A request that would affect a leased block is refused for it (R493). -/
def State.leaseRefusal (s : State) : State := (s.count CIP_LEASESTAT.REFUSALS 1).assertEvent 298

/-- A write of CIP_LEASE by master `m`: RS; FORCE gates blocks at once. -/
def State.writeLease (m v : Nat) (s : State) : State :=
  if !s.secure m then s.rsWrite m CIP_LEASE.HOLD.addr
  else
    let f := slice v 8 5
    let h := slice v 0 5
    let s := ((s.setFld CIP_LEASE.FORCE f).setFld CIP_LEASE.HOLD h).setFld CIP_LEASESTAT.HELD h
    if f = 0 then s
    else
      let s := each (bitsOf f 5) (fun k s => s.setFld (PWR_DOM.STATE (leaseDomain k)) domGated) s
      (s.modCip fun c => { c with gated := c.gated ||| f }).assertEvent 299

/-- The secure domain writes its record, clears slots and contexts and releases its leases before VDD_CORE goes (R494). -/
def State.releaseLeases (s : State) : State :=
  let s := s.modCip fun c => { c with slots := [], sess := [], gctx := [], fwKeys := false, secWrites := c.secWrites + 1 }
  (s.setFld CIP_LEASE.HOLD 0).setFld CIP_LEASESTAT.HELD 0

/-! Boot verification (R489, R490, R509, R512). -/

/-- The schemes the policy requires: bit 0 ECDSA P-384, bit 1 ML-DSA-87; 0b00 acts as 0b11. -/
def State.bootSchemes (s : State) : Nat := if s.cip.sigpol = 0 then 3 else s.cip.sigpol

/-- RESULT of CIP_BOOTSTAT for what a source offers. -/
def State.verify (s : State) : Source → Nat
  | .absent => 2
  | .image i =>
    let p := s.bootSchemes
    if !i.headerOk || decide (8372224 < i.len) || i.entry % 4 != 0 || decide (i.len ≤ i.entry) then 2
    else if !i.digestOk then 3
    else if i.revoked then 5
    else if (bit p 0 && !i.ecOk) || (bit p 1 && !i.mlOk) then 4
    else if i.svn < s.cip.svn then 6
    else if i.encrypted && s.ident.bn then 7
    else if i.encrypted && !i.payloadOk then 8
    else 1

/-- One source is tried: rejected with event 301, or accepted with event 300. -/
def State.trySource (code : Nat) (src : Source) (s : State) : Bool × State :=
  let r := s.verify src
  let v := match src with
    | .image i => i.svn
    | .absent => 0
  let s := ((s.setFld CIP_BOOTSTAT.RESULT r).setFld CIP_BOOTSTAT.SOURCE code).setFld CIP_BOOTSTAT.SVN v
  match src with
  | .image i =>
    if r = 1 then
      let p := s.bootSchemes
      let s := (s.setFld CIP_BOOTSTAT.SCHEMES p).modCip fun c => { c with
        runSrc := code, runSvn := i.svn, runSch := p, runDigest := some i.digest }
      let s := s.modCtl fun c => { c with entry := 0x25800000 + i.entry, a0 := code, a1 := i.len }
      (true, (s.setBytes 0x25800000 (i.payload.take i.len)).assertEvent 300)
    else (false, s.assertEvent 301)
  | .absent => (false, s.assertEvent 301)

/-- The sources in order; the SLC boot area is read only once group 0 is UNTRAINED (R511). -/
def State.bootFrom (xspi0 xspi1 slcA slcB : Source) (s : State) : State :=
  let r := s.trySource 1 xspi0
  if r.1 then r.2.setFld SYS_BOOTPHASE.STEP 8
  else
    let r := r.2.trySource 2 xspi1
    if r.1 then r.2.setFld SYS_BOOTPHASE.STEP 9
    else
      let r := r.2.trySource 3 slcA
      if r.1 then r.2.setFld SYS_BOOTPHASE.STEP 10
      else
        let r := r.2.trySource 3 slcB
        if r.1 then r.2.setFld SYS_BOOTPHASE.STEP 10
        else r.2.modCtl fun c => { c with noImage := true }

end Sys2Proof.Machine
end

