-- ==== Sys2Proof/Machine/NsOps.lean ====
section
/-! DEFINITION. Machine/NsOps.lean: creation, deletion, attachment, format and sanitize of namespaces, as operations
(R185 to R188, R204 to R211, R234, R472, R473). -/

namespace Sys2Proof.Machine

/-- More status names with NVMe's numbers (log entry 17): Sanitize In Progress -/
def stSanitizing : Nat := 0x01D
/-- Format In Progress -/
def stFormatting : Nat := 0x084

/-! Creation. -/

/-- First index of the first contiguous range of `n` free descriptors (R186). -/
def State.firstFit (s : State) (n : Nat) : Option Nat :=
  let used := s.descriptorsUsed
  leastBy id ((0 :: used.map (· + 1)).filter fun i => decide (i + n ≤ s.descriptors) && used.all fun u => decide (u < i) || decide (i + n ≤ u))

/-- Free descriptors that no reserve for reclaim units covers (R211). -/
def State.descriptorsFree (s : State) : Nat := s.descriptors - s.descriptorsUsed.length - (s.zpm.ruRes - s.rusUsed)

/-- Rows per zone (R185): min(8, floor(zone size / ROW)). -/
def State.zoneRows (s : State) (zlog g : Nat) : Nat :=
  let row := s.fld (ZPM_PGRP.ROW g)
  if row = 0 then 0 else min 8 (2 ^ (zlog - 20) / row)

/-- The block-size exponent of an LBA format (Table 11.5). -/
def formatShift (lbaf : Nat) : Nat := if lbaf = 4 then 9 else 12

/-- The open and active limits a new namespace takes (R186). -/
def State.newLimits (s : State) : Nat × Nat :=
  let o := min (s.dnum 0x3002 0) (1024 - (s.zpm.ns.map fun n => n.2.openLim).sum)
  let a := min (s.dnum 0x3003 0) (4096 - (s.zpm.ns.map fun n => n.2.actLim).sum)
  (min o a, a)

/-- The key ranges of a new namespace, of `u` units of 4 KiB (R472): none where the command fails. -/
def State.newKeys (s : State) (n u : Nat) : Option Nat :=
  if s.ident.bn || s.dnum (0x8010 + n) 1 == 0 then some 0
  else
    let r := s.dnum (0x8010 + n) 2
    if [1, 2, 4, 8, 16, 32, 64].contains r && u % r == 0 then some r else none

/-- Capacity in bytes of a namespace. -/
def Ns.bytes (n : Ns) : Nat := n.nsze * 2 ^ n.bshift

/-- May conventional namespaces hold `b` bytes more (R234)? -/
def State.convRoom (s : State) (b : Nat) : Bool :=
  let total := (s.zpm.ns.map fun n => if n.2.kind = 1 then n.2.bytes else 0).sum + b
  let mib := ((List.range (s.dnum 0x3101 0)).map fun r =>
    let t := s.rgSet r
    if s.on (ZPM_SSET.VALID t) then s.fld (ZPM_SSET.ROWS t) * s.fld (ZPM_PGRP.ROW (s.fld (ZPM_SSET.PGRP t))) else 0).sum
  decide (total ≤ 2 ^ 44) && decide (total ≤ mib * (100 - s.dnum 0x3207 0) / 100 * 2 ^ 20)

/-- Keys of a new namespace are made, when it has key ranges. -/
def State.giveKeys (n r : Nat) (s : State) : State := if r = 0 then s else s.makeKeys n

/-- Both checkpoint copies hold descriptor `d` at `n` indexes from `first` on. DESIGN CHOICE (log entry 52): the creation and the
deletion of a zoned namespace change its descriptors there, together with its record; no rule says how they survive a loss of power. -/
def State.storeZones (first n : Nat) (d : Zone) (s : State) : State :=
  let put := fun (c : Ckpt) => { c with zones := (List.range n).foldl (fun t k => Tab.set {} t (first + k) d) c.zones }
  s.modNv fun v => { v with ckptA := put v.ckptA, ckptB := put v.ckptB }

/-- Create a zoned namespace as index `n` (R185 to R187): the status with which it fails, or the new state. DESIGN CHOICE (log entry 51):
NSZE = 0 fails with Invalid Field in Command. -/
def State.createZoned (n : Nat) (p : NsSpec) (s : State) : Nat × State :=
  let zlog := s.dnum 0x3001 0
  let g := s.dnum 0x3004 0
  let bs := formatShift p.lbaf
  let size := p.nsze * 2 ^ bs
  let r := s.zoneRows zlog g
  let z := size / 2 ^ zlog
  let lim := s.newLimits
  if size % 2 ^ zlog ≠ 0 ∨ size = 0 ∨ r = 0 then (stField, s)
  else match s.newKeys n (ceilDiv size 4096) with
    | none => (stField, s)
    | some k =>
      match s.firstFit z with
      | none => (stCapacity, s)
      | some first =>
        if s.descriptorsFree < z ∨ s.unreserved g < z * r ∨ lim.1 = 0 then (stCapacity, s)
        else if k ≠ 0 ∧ s.cip.rng0ok = false then (stInternal, s)
        else
          let bt := s.bellTime
          let x : Ns := { kind := 2, nsze := p.nsze, bshift := bs, lbaf := p.lbaf, pi := p.pi, zlog := zlog, zones := z,
                          zcapMib := r * s.fld (ZPM_PGRP.ROW g), openLim := lim.1, actLim := lim.2, pgrp := g, rowsRes := z * r,
                          rspan := r - 1, first := first, enc := k != 0, keys := k }
          let d : Zone := { state := .empty, kind := 1, nsidx := n, rspan := r - 1, bt := bt }
          let s := s.modNs n fun _ => x
          let s := each (List.range z) (fun i s => s.modZone (first + i) fun _ => d) s
          (stOk, (s.storeZones first z d).giveKeys n k)

/-- Create a conventional namespace as index `n` (R209, R211, R234). -/
def State.createConv (n : Nat) (p : NsSpec) (s : State) : Nat × State :=
  let bs := formatShift p.lbaf
  let size := p.nsze * 2 ^ bs
  let first := !(s.zpm.ns.any fun e => e.2.kind == 1)
  if size = 0 ∨ (p.handles.any fun h => decide (s.dnum 0x3102 0 ≤ h)) = true then (stField, s)
  else match s.newKeys n (ceilDiv size 4096) with
    | none => (stField, s)
    | some k =>
      if s.convRoom size = false ∨ (first = true ∧ s.descriptorsFree < s.dnum 0x3103 0) then (stCapacity, s)
      else if k ≠ 0 ∧ s.cip.rng0ok = false then (stInternal, s)
      else
        let res := s.dnum 0x3103 0
        let x : Ns := { kind := 1, nsze := p.nsze, bshift := bs, lbaf := p.lbaf, pi := p.pi, enc := k != 0, keys := k, handles := p.handles }
        let s := s.modNs n fun _ => x
        let s := if first then s.modZpm fun y => { y with ruRes := res } else s
        (stOk, s.giveKeys n k)

/-- The lowest namespace index that is free. -/
def State.freeNs (s : State) : Option Nat := (List.range 64).find? fun n => (s.ns n).kind == 0

/-- Namespace Management create: the status, the NSID, the state. -/
def State.createNs (p : NsSpec) (s : State) : Nat × Nat × State :=
  if 4 < p.lbaf then (stFormat, 0, s)
  else if 3 < p.pi ∨ (p.pi ≠ 0 ∧ (p.lbaf = 0 ∨ p.lbaf = 4)) ∨ ¬(p.csi = 0 ∨ p.csi = 2) ∨ p.ncap ≠ p.nsze then (stField, 0, s)
  else match s.freeNs with
    | none => (stNsUnavailable, 0, s)
    | some n =>
      let r := if p.csi = 2 then s.createZoned n p else s.createConv n p
      (r.1, n + 1, r.2)

/-! Contents. -/

/-- Every map entry of a conventional namespace goes to LOC 0b00, its contents with it. -/
def State.clearMap (n : Nat) (s : State) : State :=
  let keys := (s.med.map.filter fun e => e.1 / 2 ^ 40 == n).map (·.1)
  let s := each keys (fun k s => freeTubUnit n (k % 2 ^ 40) (s.setMap n (k % 2 ^ 40) none)) s
  s.modZpm fun z => { z with blocks := Tab.clear z.blocks (fun k => k / 2 ^ 40 == n + 1), blkMeta := Tab.clear z.blkMeta fun k => k / 2 ^ 40 == n + 1 }

/-- Commands in flight on the namespace fail with `st`. -/
def State.failNs (nsid st t : Nat) (s : State) : State :=
  each ((s.hfe.ctx.filter fun c => c.nsid == nsid && c.ticket != t && c.status.isNone && (match c.op with | .admin _ => false | .fence => false | _ => true)).reverse)
    (fun c s => s.failCmd c.ticket st) s

/-- Everything a namespace holds is discarded: zones but those Read Only and Offline become Empty, map entries LOC 0b00. -/
def State.eraseNs (n account : Nat) (s : State) : State :=
  if (s.ns n).kind = 2 then
    each (s.nsZones n) (fun i s =>
      match (s.zone i).state with
      | .readOnly => s
      | .offline => s
      | _ => (((s.enterZone i .empty).modZone i fun z => { z with wpAdmit := 0, fzr := false, rzr := false, zfc := false, voidNew := [] }).emptyZone i account .other).journalZone i) s
  else s.clearMap n

/-- Every reclaim unit is given up and its row queued for erase. -/
def State.freeAllRus (account : Nat) (s : State) : State :=
  let l := (s.zpm.zones.filter fun z => z.2.kind == 2).map (·.1)
  let s := (s.modMed fun m => { m with gc := [] }).modZpm fun z => { z with attachRu := [] }
  each l (fun i s => ((s.dropMigr i).releaseRows i account .other).freeRu i) s

/-- Collections start where reclaim groups are short of rows. -/
def State.gcAll (account : Nat) (s : State) : State := each (List.range (s.dnum 0x3101 0)) (fun g s => s.gcCheck g account) s

/-- Namespace Management delete (R186, R204, R211): rows queued for erase, reservations, keys and attachments released. -/
def State.deleteNs (n t : Nat) (s : State) : State :=
  let s := s.failNs (n + 1) stNamespace t
  let s :=
    if (s.ns n).kind = 2 then
      let l := s.nsZones n
      let s := (each l (fun i s => s.emptyZone i 512 .other) s).storeZones (s.ns n).first (s.ns n).zones {}
      s.modZpm fun z => { z with
        zones := l.foldl (fun m i => Tab.set {} m i {}) z.zones,
        ckptMark := (z.journal.take z.ckptMark).countP (fun e => !l.contains e.1),
        journal := z.journal.filter (fun e => !l.contains e.1), journalLate := z.journalLate.filter fun e => !l.contains e.1 }
    else s.clearMap n
  let conv := (s.ns n).kind = 1
  let s := ((s.dropKeys n).modNs n fun _ => {}).modZpm fun z => { z with fdpEn := Tab.clear z.fdpEn fun k => k / 2 ^ 16 == n }
  if conv ∧ (s.zpm.ns.any fun e => e.2.kind == 1) = false then (s.freeAllRus 512).modZpm fun z => { z with ruRes := 0 }
  else if conv then s.gcAll 512
  else s

/-! Attachment (R205, R206). -/

/-- Namespace Attachment: the status and the state. -/
def State.attachNs (nsid : Nat) (attach : Bool) (l : List Nat) (s : State) : Nat × State :=
  if s.nsExists nsid = false then (stNamespace, s)
  else if l = [] ∨ (l.any fun f => !s.fnExists f) = true then (stCtrlList, s)
  else
    let n := nsid - 1
    let a := (s.ns n).attached
    if attach then
      if l.any fun f => a.contains f then (stNsAttached, s)
      else if s.on ZPM_CTRL.TAIL_ENF && ((s.nsGroups n).any fun g => s.on (ZPM_PGRP.TAIL_ONLY g)) && l.any (fun f => !s.isTail f) then (stCtrlList, s)
      else (stOk, (s.modNs n fun x => { x with attached := x.attached ++ l.eraseDups }).checkOverlap s.tailCounts)
    else if l.any fun f => !a.contains f then (stNsNotAttached, s)
    else (stOk, s.modNs n fun x => { x with attached := x.attached.filter fun f => !l.contains f })

/-- Would TAIL = 0 for function `f` break the separation of a tail-only group (R205)? -/
def State.tailBound (s : State) (f : Nat) : Bool :=
  s.on ZPM_CTRL.TAIL_ENF && (List.range 64).any fun n => (s.ns n).attached.contains f && (s.nsGroups n).any fun g => s.on (ZPM_PGRP.TAIL_ONLY g)

/-! Format and Sanitize (R367, R473). -/

/-- Format NVM of one namespace: contents discarded, the new format in force, its keys replaced for 0b010. -/
def State.formatNs (n lbaf ses pi account t : Nat) (s : State) : State :=
  let s := (s.failNs (n + 1) stFormatting t).eraseNs n account
  let b := (s.ns n).bytes
  let bs := formatShift lbaf
  let s := s.modNs n fun x => { x with bshift := bs, lbaf := lbaf, pi := pi, nsze := b / 2 ^ bs }
  let s := if (s.ns n).kind = 1 then s.gcAll account else s
  if ses = 2 ∧ (s.ns n).keys ≠ 0 then s.replaceKeys (s.nsSlots n) else s

/-- The namespaces a command with this NSID names: one, or all. -/
def State.nsNamed (s : State) (nsid : Nat) : List Nat :=
  if nsid = 0xFFFFFFFF then (List.range 64).filter fun n => (s.ns n).kind != 0
  else if s.nsExists nsid then [nsid - 1] else []

/-- Format NVM: the status and the state. -/
def State.format (nsid lbaf ses pi pil account t : Nat) (s : State) : Nat × State :=
  let l := s.nsNamed nsid
  if l = [] ∧ nsid ≠ 0xFFFFFFFF then (stNamespace, s)
  else if 4 < lbaf then (stFormat, s)
  else if 2 < ses ∨ 3 < pi ∨ 1 < pil ∨ (pi ≠ 0 ∧ (lbaf = 0 ∨ lbaf = 4)) ∨ (ses = 2 ∧ s.ident.bn = true) then (stField, s)
  else if ses = 2 ∧ s.cip.rng0ok = false then (stInternal, s)
  else (stOk, each l (fun n s => s.formatNs n lbaf ses pi account t) s)

/-- Sanitize: everything stored is discarded; with Crypto Erase the keys of every slot in use are replaced. -/
def State.sanitize (crypto : Bool) (account t : Nat) (s : State) : Nat × State :=
  if crypto ∧ s.ident.bn = true then (stField, s)
  else if crypto ∧ s.cip.rng0ok = false then (stInternal, s)
  else
    let s := each (s.nsNamed 0xFFFFFFFF) (fun n s => (s.failNs (n + 1) stSanitizing t).eraseNs n account) s
    let s := s.freeAllRus account
    let slots := (s.cip.slots.filter fun e => e.2.isSome).map (·.1)
    let s := if crypto then s.replaceKeys slots else s
    (stOk, s.modNv fun v => { v with sanStat := 1 })

end Sys2Proof.Machine
end

