-- ==== Sys2Proof/Machine/Media.lean ====
section
/-! DEFINITION. Machine/Media.lean: firmware's commands to media management and the Kiln, the end of a map flush, and the health
values (07_media_management.md). -/

namespace Sys2Proof.Machine

/-! Layout (R221, R222). -/

/-- UState of Table 7.1 by code; none for 0b111. -/
def UState.ofCode : Nat → Option UState
  | 0 => some .row
  | 1 => some .slc
  | 2 => some .system
  | 3 => some .map
  | 4 => some .spare
  | 5 => some .retired
  | 6 => some .test
  | _ => none

/-- Its code. -/
def UState.code : UState → Nat
  | .row => 0
  | .slc => 1
  | .system => 2
  | .map => 3
  | .spare => 4
  | .retired => 5
  | .test => 6

/-- A unit record as Table 7.1 lays it out. -/
def State.unitWord (s : State) (die unit : Nat) : Nat :=
  let r := s.unitRec die unit
  r.state.code * 2 ^ 29 + r.repl.toNat * 2 ^ 28 + s.wearClass die unit * 2 ^ 25 + r.erases % 2 ^ 20

/-- SYSTEM units of a die. -/
def State.sysUnits (s : State) (die : Nat) : Nat := s.med.units.countP fun u => u.1 / 131072 == die && u.2.state == .system

/-- Does a die carry ROW units: is it there, and is one of its 131,072 units ROW? -/
def State.carriesRows (s : State) (die : Nat) : Bool :=
  (Tab.get {} s.fch.dies die).present && decide ((s.med.units.countP fun u => u.1 / 131072 == die && u.2.state != .row) < 131072)

/-- The three conditions of R222; the SLC units hold what R235 gives each of them. -/
def State.layoutOk (s : State) : Bool :=
  ((List.range 16).all fun k => decide (8 ≤ s.sysUnits (die0 (8 + k)))) &&
  decide (s.dnum 0x3200 0 * 65536 ≤ (s.allSlc.map fun k => s.slcPages (k / 131072)).sum) &&
  ((s.fch.dies.map (·.1)).all fun d => !s.carriesRows d || !(s.slcUnits d).isEmpty)

/-- The layout closes, with the unit rows, the spares and the SLC capacity as they now stand. -/
def State.closeLayout (s : State) : State :=
  let cap := s.dnum 0x3200 0
  (s.put MED_CTRL.LAYOUT true).modMed fun m => { m with
    slcCap := cap,
    nonRow := (m.units.filter fun u => u.2.state != .row).map (·.1),
    spare0 := (m.units.filter fun u => u.2.state == .spare).foldl (fun t u => Tab.upd 0 t (u.1 / 131072) (· + 1)) [] }

/-- KILN_EN, WL_EN and GC_EN while LAYOUT is 1 (R250, R252, R255). A collection that GC_EN = 0 has caught ends at its next step. -/
def State.medEnables (v : Nat) (s : State) : State :=
  let s :=
    if MED_CTRL.KILN_EN.of v = 0 then s.put MED_CTRL.KILN_EN false
    else if s.recipesOk then (s.put MED_CTRL.KILN_EN true).kilnStart
    else (s.put MED_STAT.RCPERR true).assertEvent 249
  let gc := MED_CTRL.GC_EN.of v = 1 && !s.on MED_CTRL.GC_EN
  let s := (s.setFld MED_CTRL.WL_EN (MED_CTRL.WL_EN.of v)).setFld MED_CTRL.GC_EN (MED_CTRL.GC_EN.of v)
  if gc && s.zpm.ns.any (fun n => n.2.kind == 1) then s.gcRetry.gcAll 512 else s

/-- A write to MED_CTRL: the enables look at LAYOUT as it stands before the write; a write of LAYOUT 0 is ignored. -/
def State.writeMedCtrl (v : Nat) (s : State) : State :=
  let was := s.on MED_CTRL.LAYOUT
  let s := if was then s.medEnables v else s
  let s :=
    if MED_CTRL.LAYOUT.of v = 0 || was then s
    else if s.layoutOk then s.closeLayout
    else s.put MED_STAT.LAYERR true
  if MED_CTRL.MAPFLUSH.of v = 1 then s.startMapFlush else s

/-- LAYOUT (R222). -/
def layout (m v : Nat) (s : State) : State := s.access m MED_CTRL.LAYOUT.addr (State.writeMedCtrl v)
def execLayout (master value : Nat) (s : State) : Host.Outcome State Fault Refusal := done (layout master value s)

/-- KILN_EN (R250). -/
def kilnEn (m v : Nat) (s : State) : State := s.access m MED_CTRL.KILN_EN.addr (State.writeMedCtrl v)
def execKilnEn (master value : Nat) (s : State) : Host.Outcome State Fault Refusal := done (kilnEn master value s)

/-- MAPFLUSH (R232). -/
def mapflush (m v : Nat) (s : State) : State := s.access m MED_CTRL.MAPFLUSH.addr (State.writeMedCtrl v)
def execMapflush (master value : Nat) (s : State) : Host.Outcome State Fault Refusal := done (mapflush master value s)

/-! Unit records (R221). -/

/-- MED_UCMD READ, of the unit-table page in the map cache (R220). -/
def State.ucmdGet (die unit : Nat) (s : State) : State :=
  let w := s.unitWord die unit
  (s.mapUse (unitPage die unit)).setFld MED_UDATA.RECORD w

/-- MED_UCMD SET: STATE from MED_UDATA, only while the layout is open. -/
def State.ucmdPut (die unit : Nat) (s : State) : State :=
  match s.on MED_CTRL.LAYOUT, UState.ofCode (s.fld MED_UDATA.RECORD / 2 ^ 29) with
  | false, some x => (s.modUnit die unit fun r => { r with state := x }).mapUse (unitPage die unit)
  | _, _ => s.put MED_STAT.UERR true

/-- A write to MED_UCMD. -/
def State.writeUcmd (v : Nat) (s : State) : State :=
  match MED_UCMD.OP.of v with
  | 1 => s.ucmdGet (MED_UCMD.DIE.of v) (MED_UCMD.UNIT.of v)
  | 2 => s.ucmdPut (MED_UCMD.DIE.of v) (MED_UCMD.UNIT.of v)
  | _ => s.put MED_STAT.UERR true

/-- The word of MED_UCMD with operation `op` on the die and unit of `v`. -/
def ucmdWord (op v : Nat) : Nat := op * 2 ^ 28 + v % 2 ^ 28

/-- UCMD_READ (R221). -/
def ucmdRead (m v : Nat) (s : State) : State := s.access m MED_UCMD.OP.addr (State.writeUcmd (ucmdWord 1 v))
def execUcmdRead (master value : Nat) (s : State) : Host.Outcome State Fault Refusal := done (ucmdRead master value s)

/-- UCMD_SET (R221). -/
def ucmdSet (m v : Nat) (s : State) : State := s.access m MED_UCMD.OP.addr (State.writeUcmd (ucmdWord 2 v))
def execUcmdSet (master value : Nat) (s : State) : Host.Outcome State Fault Refusal := done (ucmdSet master value s)

/-! The map flush (R232). -/

/-- The end of a map flush (R232): map pages, directory and top table are written, and the journal records that precede it are
discarded, but for those whose page was no dirty one at its start; a page that a record still held has changed stays dirty, and the
records and pages that waited for room take theirs (log entry 48). The top table goes to both halves of the system area. -/
def State.flushEnd (n : Nat) (s : State) : State :=
  let page := fun (r : Nat × Option (Nat × Nat)) => mapPage (r.1 / 2 ^ 40) (r.1 % 2 ^ 40)
  let late := s.med.mapLate
  let left := ((s.med.mapJrnl.take n).filter fun r => late.contains (page r)) ++ s.med.mapJrnl.drop n
  let jrnl := left ++ s.med.mapJrnlLate
  let changed := jrnl.map page
  let m := s.med
  let s := s.modNv fun v => { v with keep := { v.keep with
    mapAddr := m.mapAddr, map := jrnl.foldl (fun t r => Tab.set none t r.1 (Tab.get none v.keep.map r.1)) m.map } }
  let s := s.modMed fun m => { m with
    flushMark := none, mapJrnl := jrnl.take mapJournalMax, mapJrnlLate := jrnl.drop mapJournalMax, mapLate := [],
    mapCache := m.mapCache.map fun x => { x with dirty := x.dirty && changed.contains x.page } }
  each late State.mapTouch s

/-- MAP_FLUSH_END (R232, R416): of a flush whose programs have ended, no dump having aborted them (R417); event 247. -/
def mapFlushEnd (s : State) : State :=
  match s.med.flushMark with
  | none => s
  | some n =>
    if !s.med.flushLeft.isEmpty || !s.med.flushOn.isEmpty || s.hld.committed then s
    else
      let s := (s.flushEnd n).modHld fun h => if h.drainRun then { h with drainFlush := true } else h
      ((s.assertEvent 247).flushIfDue).settle
def execMapFlushEnd (s : State) : Host.Outcome State Fault Refusal := done (mapFlushEnd s)

/-! The recipe store, migration and health values. -/

/-- A write to MED_RCPDATA (R250). -/
def State.writeRecipe (v : Nat) (s : State) : State :=
  if s.on MED_CTRL.KILN_EN then s.put MED_STAT.RCPERR true
  else
    let k := s.fld MED_RCPSEL.RECIPE * 16 + s.fld MED_RCPSEL.STEP
    s.modMed fun m => { m with recipes := Tab.set 0 m.recipes k (v % 2 ^ 32) }

/-- RECIPE_STEP_WRITE (R250). -/
def recipeStepWrite (m v : Nat) (s : State) : State := s.access m MED_RCPDATA.STEPWORD.addr (State.writeRecipe v)
def execRecipeStepWrite (master value : Nat) (s : State) : Host.Outcome State Fault Refusal := done (recipeStepWrite master value s)

/-- A write to MED_MIGR (R256, R258): beyond the migrations that may run, and without a free row, it waits. -/
def State.writeMigr (v : Nat) (s : State) : State :=
  let i := MED_MIGR.INDEX.of v
  if MED_MIGR.OP.of v ≠ 1 then s
  else if !(s.zone i).migratable || s.med.migrWait.contains i || s.med.migr.any (fun m => m.index == i) then s.put MED_STAT.MERR true
  else (s.modMed fun m => { m with migrWait := m.migrWait ++ [i] }).tryMigr i

/-- MIGRATE (R256, R258). -/
def migrate (m v : Nat) (s : State) : State := s.access m MED_MIGR.OP.addr (State.writeMigr v)
def execMigrate (master value : Nat) (s : State) : Host.Outcome State Fault Refusal := done (migrate master value s)

/-- The health entries go to the system area (R261), with the tables beside them, in both halves (R224). -/
def State.storeHealth (s : State) : State :=
  let k := s.saveHealth s.nv.keep
  s.modNv fun v => { v with keep := k, sysBad := [] }

/-- HEALTH_WRITE (R261): from the load of the health values (step 15) until a dump commit. -/
def healthWrite (s : State) : State := if decide (15 ≤ s.fld SYS_BOOTPHASE.STEP) && !s.hld.committed then s.storeHealth else s
def execHealthWrite (s : State) : Host.Outcome State Fault Refusal := done (healthWrite s)

end Sys2Proof.Machine
end

