-- ==== Sys2Proof/Machine/PowerOps.lean ====
section
/-! DEFINITION. Machine/PowerOps.lean: requests for a deeper state, the entry handshake, entries and wakes, single-domain
requests, sensors and throttling, as operations (17_power_thermal.md). -/

namespace Sys2Proof.Machine

/-! PWR_STAT.STATE and CTRL codes. -/

/-- NAP -/
def pwrNap : Nat := 2
/-- SHELF_SLEEP -/
def pwrShelf : Nat := 3
/-- DEEP_OFF -/
def pwrDeep : Nat := 4
/-- CTRL: ASKING -/
def ctrlAsking : Nat := 1
/-- CTRL: ENTERING -/
def ctrlEntering : Nat := 2
/-- CTRL: WAKING -/
def ctrlWaking : Nat := 3

/-- The device state. -/
def State.pwrState (s : State) : Nat := s.fld PWR_STAT.STATE
/-- The power controller's state. -/
def State.pwrCtrl (s : State) : Nat := s.fld PWR_STAT.CTRL

/-- The domains that NAP gates (Table 17.3). -/
def napDomains : List Nat :=
  List.range 5 ++ (List.range 13).map (· + 13) ++ [28, 29, 31] ++ (List.range 16).map (· + 32)

/-- The domains an entry to `t` asks (R527): those it gates or removes. -/
def State.askedFor (s : State) (t : Nat) : List Nat :=
  (if t = pwrNap then napDomains else List.range 48).filter fun d => !s.domainOff (some d)

/-- The asking begins (Table 17.4); event 322; an entry that removes VDD_SRAM drains (R528). -/
def State.startAsking (s : State) : State :=
  let t := s.fld PWR_STAT.TARGET
  let s := s.assertEvent 322
  let was := s.pwrState
  let l := s.askedFor t
  let s := (s.modPow fun p => { p with entry := t, restore := was, asked := l, acked := [], refused := false, wakeBy := none }).setFld PWR_STAT.CTRL ctrlAsking
  if pwrShelf ≤ t then s.writeHldCtrl (s.fld HLD_CTRL.EN + 2) else s

/-- A deeper state is requested (R524): a request for the present state or a shallower one is met as it is made. -/
def State.requestPower (t : Nat) (s : State) : State :=
  if t < pwrNap ∨ pwrDeep < t ∨ (s.pwrCtrl = 0 ∧ t ≤ s.pwrState) then s
  else
    let s := s.setFld PWR_STAT.TARGET t
    if s.pwrCtrl = 0 then s.startAsking else s

/-- NAP is left: every gated domain is clocked again; event 320 (Table 17.4). -/
def State.napWake (s : State) : State :=
  let s := each (List.range 48) (fun d s => s.ungate (some d)) s
  let ps := s.pow.lastPs
  let s := s.modCtl fun c => { c with wfi := 0 }
  (((s.setFld PWR_STAT.STATE 0).setFld PWR_STAT.CTRL 0).setFld PWR_STAT.PS ps).assertEvent 320

/-- A wake during an entry (R533): WAKEPEND; event 325 unless the request was withdrawn. -/
def State.wakePending (ev : Bool) (s : State) : State := (s.put PWR_STAT.WAKEPEND true).assertIf ev 325

/-- Is an entry under way? -/
def State.inEntry (s : State) : Bool := s.pwrCtrl == ctrlAsking || s.pwrCtrl == ctrlEntering

/-- The request is withdrawn by a write of target ACTIVE or of 0 to 0x2102:00 (Table 17.4). -/
def State.withdrawPower (s : State) : State :=
  let s := (s.setFld PWR_STAT.TARGET 0).modPow fun p => { p with refused := false }
  if s.inEntry then s.wakePending false else s

/-- A write of 0x2102:00: 0 also wakes from NAP (R524). -/
def State.writeRequested (v : Nat) (s : State) : State :=
  if v = 0 then
    let s := s.withdrawPower
    if s.pwrState = pwrNap ∧ s.pwrCtrl = 0 then s.napWake else s
  else s.requestPower v

/-- A write of PWR_REQ: other targets are ignored. -/
def State.writePwrReq (v : Nat) (s : State) : State :=
  if PWR_REQ.GO.of v = 0 then s
  else if PWR_REQ.TARGET.of v = 0 then s.withdrawPower
  else s.requestPower (PWR_REQ.TARGET.of v)

/-- Set Features Power Management (R523, R524): an operational state ends a standing request; it wakes from NAP. -/
def State.setPs (ps : Nat) (s : State) : State :=
  let s := s.setFld PWR_STAT.PS ps
  if ps < 3 then
    let s := ((s.modPow fun p => { p with lastPs := ps, refused := false }).setFld PWR_STAT.TARGET 0).assertEvent 321
    if s.inEntry then s.wakePending true
    else if s.pwrState = pwrNap then s.napWake
    else s
  else s.requestPower (ps - 1)

/-- A submission-queue doorbell write wakes from NAP (R524). -/
def State.doorbellWake (s : State) : State :=
  let s := s.wakeIdle
  if s.pwrState = pwrNap ∧ s.pwrCtrl = 0 then s.napWake else s

/-- A standing refused request is asked again at a frame start (R530). -/
def State.reask (s : State) : State :=
  if s.pwrCtrl = 0 ∧ s.pow.refused ∧ s.fld PWR_STAT.TARGET ≠ 0 then s.startAsking else s

/-! Answers (R527 to R529, R532). -/

/-- The port of a PCIe domain refuses an entry that removes its supply (R529). -/
def State.portRefuses (s : State) (p : Nat) : Bool :=
  s.portExists p && !(s.port p).perst && s.on (PCI_LSTAT.LINKUP p) && s.fld (PCI_LSTAT.LTSSM p) != 6 && s.fld (PCI_LSTAT.LTSSM p) != 7

/-- Has hardware domain `d` work in progress? -/
def State.domWorks (s : State) (d t : Nat) : Bool :=
  if d = 12 then !s.hfe.ctx.isEmpty || !s.hfe.tickets.isEmpty
  else if d = 14 then s.on ZPM_STAT.CKPT_BUSY
  else if d = 15 then s.med.flushMark.isSome || !s.med.copies.isEmpty || !s.med.gc.isEmpty || !s.med.migr.isEmpty || !s.med.compact.isEmpty ||
    s.med.folds.any fun f => !f.2.run.isEmpty
  else if d = 16 then s.ecc.busy != 0
  else if d = 17 then !s.msh.recons.isEmpty || !s.msh.copies.isEmpty
  else if d = 18 then decide (pwrShelf ≤ t) && !(s.hldState == hldCharging && s.hfe.blkTub.isEmpty && s.msh.parity.isEmpty)
  else if d = 27 then s.mgt.recNow.isSome || !s.mgt.waits.isEmpty
  else if d = 28 then s.on EVR_STAT.BUSY
  else if d = 30 then !s.saf.tests.isEmpty
  else if d = 31 then s.tst.bistRun.isSome || (List.range 4).any fun k => (s.loopOf k).isSome
  else if 32 ≤ d then !s.groupIdle (d - 32)
  else false

/-- The answer of hardware domain `d` to an entry to `t`: its code where it refuses (Table 17.5). -/
def State.hwAnswer (s : State) (d t : Nat) : Answer :=
  if (d = 10 ∨ d = 11) ∧ s.portRefuses (d - 10) = true then .refuse 5
  else if d = 18 ∧ (s.hldState = hldSuspect ∨ s.hldState = hldDumping ∨ s.hldState = hldDone) then .refuse 4
  else if d = 26 ∧ (s.fld BEL_MODE_STAT.STATE ≠ modeStable ∨ s.on BEL_MODE_STAT.PENDING = true) then .refuse 6
  else if s.domWorks d t then .delay
  else .ack

/-- Domain `d` acknowledges: a core is in WFI (R527); the secure domain has cleared itself for an entry that removes VDD_CORE
(R494). The entry is committed with the last one; event 323. -/
def State.acknowledge (d : Nat) (s : State) : State :=
  let s := if d < 4 then s.modCtl fun c => { c with wfi := setBit c.wfi d true } else s
  let s := if d = 4 ∧ pwrShelf ≤ s.pow.entry then s.releaseLeases else s
  let s := s.modPow fun p => { p with asked := dropFrom d p.asked, acked := addTo d p.acked }
  if s.pow.asked.isEmpty then (s.setFld PWR_STAT.CTRL ctrlEntering).assertEvent 323 else s

/-- A refusal ends the asking: cores that had acknowledged run again. -/
def State.refuseEntry (d code master : Nat) (s : State) : State :=
  (s.modCtl fun c => { c with wfi := 0 }).abandonEntry d code master

/-- Domain `d` answers: firmware and the secure domain as `a` says, hardware by its own state. -/
def State.answerDomain (d : Nat) (a : Answer) (s : State) : State :=
  if s.pwrCtrl ≠ ctrlAsking ∨ s.pow.asked.contains d = false then s
  else
    let a := if d < 10 then a else s.hwAnswer d s.pow.entry
    match a with
    | .none => s
    | .ack => s.acknowledge d
    | .delay => s.count (PWR_DCNT.DELAYS d) 1
    | .refuse c => if d < 4 then s.refuseEntry d 1 d else if d < 10 then s.refuseEntry d 2 4 else s.refuseEntry d c 0xF

/-- A write of PWR_ANS[n] by master `m`: by Ln only. -/
def State.writeAns (n m v : Nat) (s : State) : State :=
  if m ≠ n then s
  else
    match slice v 30 2 with
    | 1 => s.answerDomain n .ack
    | 2 => s.answerDomain n .delay
    | 3 => s.answerDomain n (.refuse 1)
    | _ => s

/-- A domain still delaying when its bound passes counts as a refusal with code TIMEOUT (R527). -/
def State.answerLate (d : Nat) (s : State) : State :=
  if s.pwrCtrl = ctrlAsking ∧ s.pow.asked.contains d then s.refuseEntry d 3 0xF else s

/-! Entries and wakes (R530, R531, R533, R537, R539). -/

/-- The PME_En summary of port `p` (R114). -/
def State.pmeSummary (s : State) (p : Nat) : Bool := s.portExists p && (s.portFns p).any fun f => s.fnExists f && (s.fn f).pmeEn

/-- A wake from SHELF_SLEEP or DEEP_OFF (R114, R519, R531): the source recorded, if one fired; then WAKEp_N where PME was enabled; a
cold start. -/
def State.coldWake (by_ : Option Nat) (s : State) : State :=
  let b := by_.getD 0xFF
  let s := (s.setFld AON_WAKE.CAUSE b).setRet3 16 8 b
  let p0 := by_.isSome && s.ret3 24 1 == 1
  let p1 := by_.isSome && s.ret3 25 1 == 1
  let s := (s.modPort 0 fun p => { p with wakeOut := p.wakeOut || p0 }).modPort 1 fun p => { p with wakeOut := p.wakeOut || p1 }
  if s.pwrState = pwrShelf then ((s.modCtl fun c => { c with cause := 2 }).setFld PWR_STAT.CTRL ctrlWaking).raiseRail 1
  else (s.startStep2 3).setFld PWR_STAT.CTRL ctrlWaking

/-- The rails fall for SHELF_SLEEP, which keeps VDD_COMP, or DEEP_OFF, where the Lamp SRAM is lost too (R531, R536). -/
def State.fallAsleep (t : Nat) (s : State) : State :=
  let p0 := s.pmeSummary 0
  let p1 := s.pmeSummary 1
  let ev := s.on PWR_STAT.WAKEPEND
  let by_ := s.pow.wakeBy
  let s := (((s.setRet3 24 1 p0.toNat).setRet3 25 1 p1.toNat).setRet3 12 4 t).modPow fun p => { p with mainFell := false }
  let s := s.loseRails
  let s := if t = pwrShelf then s.modCtl fun c => { c with pwrseq := 1, pgood := 1 } else s.modPow fun p => { p with lampSram := [] }
  let s := (s.setFld PWR_STAT.STATE t).setFld PWR_STAT.CTRL 0
  if ev then s.coldWake by_ else s

/-- The source of a wake is recorded (R537, Table 17.7). -/
def State.recordWake (b : Nat) (s : State) : State := (s.setFld AON_WAKE.CAUSE b).setRet3 16 8 b

/-- Gating and power-down are done (Table 17.4); event 320 for NAP, whose state the event block outlives; a request for a deeper state
made meanwhile stands and is asked at the next frame start. -/
def State.completeEntry (s : State) : State :=
  if s.pwrCtrl ≠ ctrlEntering then s
  else
    let t := s.pow.entry
    if t = pwrNap then
      let s := each s.pow.acked (fun d s => if s.domainOff (some d) then s else s.setFld (PWR_DOM.STATE d) domGated) s
      let w := s.on PWR_STAT.WAKEPEND
      let met := s.fld PWR_STAT.TARGET = t
      let s := ((s.setFld PWR_STAT.STATE t).setFld PWR_STAT.CTRL 0).put PWR_STAT.WAKEPEND false
      let s := (if met then s.setFld PWR_STAT.TARGET 0 else s.modPow fun p => { p with refused := true }).assertEvent 320
      let s := s.setRet3 12 4 t
      if w then (match s.pow.wakeBy with | some b => s.recordWake b | none => s).napWake else s
    else s.fallAsleep t

/-- The functions in D3hot with PME_En set generate PME (R102): PME_Status, and their message while the link is up. -/
def State.raisePme (s : State) : State :=
  each ((List.range 512).filter fun f => s.fnExists f && (s.fn f).d3 && (s.fn f).pmeEn && !(s.fn f).pmeStat) (fun f s =>
    let s := s.modFn f fun r => { r with pmeStat := true }
    if s.on (PCI_LSTAT.LINKUP (s.portOf f)) then s.modPci fun x => { x with pmeMsgs := x.pmeMsgs ++ [f] } else s) s

/-- Wake source `b` of Table 17.6 acts; functions in D3hot report it by PME (R102; log entry 42). -/
def State.wakeSource (b : Nat) (s : State) : State :=
  let s := if bit (s.fld AON_WAKE.EN) b then s.raisePme else s
  if !bit (s.fld AON_WAKE.EN) b then s
  else if s.inEntry then (s.wakePending true).modPow fun p => { p with wakeBy := some b }
  else if s.pwrCtrl ≠ 0 then s
  else if s.pwrState = pwrNap then (s.recordWake b).napWake
  else if s.pwrState = pwrShelf ∨ s.pwrState = pwrDeep then s.coldWake (some b)
  else s

/-! Single domains (R535). -/

/-- A single-domain request for domain `d` is refused with `code` by `master`; event 326. -/
def State.refuseDomain (d code master : Nat) (s : State) : State :=
  ((((s.count (PWR_DCNT.REFUSALS d) 1).setFld PWR_LAST.DOMAIN d).setFld PWR_LAST.CODE code).setFld PWR_LAST.MASTER master).assertEvent 326

/-- Does domain `d` hold state in use (R535)? -/
def State.domainHolds (s : State) (d : Nat) : Bool :=
  d == 0 || (decide (4 ≤ d) && decide (d ≤ 19)) || (decide (26 ≤ d) && decide (d ≤ 31)) ||
    (decide (20 ≤ d) && decide (d ≤ 25) && (List.range 8).any fun k =>
      let o := s.fld (MEM_BANKASN.OWNER (8 * (d - 20) + k)); o != 0 && o != 0xF) ||
    (decide (32 ≤ d) && s.fld (FCH_GSTAT.STATE (d - 32)) != 0)

/-- A domain request, in ACTIVE only: 1 gate, 2 power down, 3 power on. -/
def State.domainRequest (op d : Nat) (s : State) : State :=
  if 48 ≤ d ∨ s.pwrState ≠ 0 ∨ s.pwrCtrl ≠ 0 then s
  else if op = 3 then s.setFld (PWR_DOM.STATE d) 0
  else if s.leased d then (s.refuseDomain d 2 4).leaseRefusal
  else if op = 1 then (if s.domainOff (some d) then s else s.setFld (PWR_DOM.STATE d) domGated)
  else if op = 2 then
    if s.domainHolds d then s.refuseDomain d 7 0xF
    else
      let s := s.setFld (PWR_DOM.STATE d) domOff
      if d < 4 then ((s.clearHalves d).reclaimTubs d).setFld SYS_CORECTL.RUN (setBit (s.fld SYS_CORECTL.RUN) d false) else s
  else s

/-! IDLE (R525). -/

/-- No command context, descriptor, Kiln, Mash or GCM work is in progress. -/
def State.noWork (s : State) : Bool :=
  s.hfe.ctx.isEmpty && s.hfe.tickets.isEmpty && ((List.range 16).all fun g => s.groupIdle g) && s.med.gc.isEmpty && s.med.migr.isEmpty && s.med.copies.isEmpty &&
    s.msh.recons.isEmpty && s.msh.copies.isEmpty && s.cip.jobs.isEmpty && s.med.folds.all fun f => f.2.run.isEmpty

/-- The device enters IDLE; event 327 and 320. -/
def State.enterIdle (s : State) : State :=
  if s.up && s.on PWR_CTRL.IDLE_EN && s.pwrState == 0 && s.pwrCtrl == 0 && s.noWork then
    ((s.setFld PWR_STAT.STATE 1).pendEvent 327).pendEvent 320
  else s

/-! Sensors (R540 to R543, R548). -/

/-- The list with `x` inserted in rising order. -/
def insertInt (x : Int) : List Int → List Int
  | [] => [x]
  | y :: l => if x ≤ y then x :: y :: l else y :: insertInt x l

/-- Twice the median of a list: the middle reading, or the mean of the two middle readings. -/
def median2 (l : List Int) : Int :=
  let r := l.foldl (fun r x => insertInt x r) []
  r.getD ((r.length - 1) / 2) 0 + r.getD (r.length / 2) 0

/-- Is sensor `i` suspect? -/
def State.sensorSuspect (s : State) (i : Nat) : Bool := bit (s.fld THM_STAT.SUSPECT) i

/-- The sensors of `i`'s die. -/
def sensorDie (i : Nat) : List Nat := if i < 12 then List.range 12 else [12, 13, 14, 15]

/-- The deviation check of sensor `i` (R541): 3 consecutive deviations above 8 degrees mark it suspect; event 329. -/
def State.checkSensor (t : List Int) (susp : Nat) (i : Nat) (s : State) : State :=
  let l := (sensorDie i).filter fun k => !bit susp k
  if bit susp i || decide (l.length < 3) then s
  else
    let m := median2 ((l.filter (· != i)).map fun k => t.getD k 0)
    if 256 < (2 * t.getD i 0 - m).natAbs then
      let n := min 3 (s.fld (THM_SENS.DEV i) + 1)
      let s := s.setFld (THM_SENS.DEV i) n
      if 3 ≤ n then (s.setFld THM_STAT.SUSPECT (setBit (s.fld THM_STAT.SUSPECT) i true)).assertEvent 329 else s
    else s.setFld (THM_SENS.DEV i) 0

/-- The device temperature, 1/16 °C: none where no sensor is left and the NAND temperature does not count. -/
def State.deviceTemp (s : State) : Option Int :=
  let l := (List.range 16).filterMap fun i => if s.sensorSuspect i then none else some (s.pow.temp.getD i 0)
  let l := if s.on THM_CTRL.NANDEN then signed 16 (s.fld THM_NAND.TEMP) :: l else l
  match l with
  | [] => none
  | x :: r => some (r.foldl max x)

/-- Composite Temperature in kelvin (R548): rounded to whole kelvin. -/
def kelvin (t : Int) : Int := (t + 8) / 16 + 273

/-- The composite temperature from THM_DEVT. -/
def State.composite (s : State) : Int := kelvin (signed 16 (s.fld THM_DEVT.TEMP))

/-- The threshold of a level, 1/16 °C. -/
def State.thrOf (s : State) (l : Nat) : Int := 16 * (if l = 1 then s.dnum 0x2201 0 else s.dnum 0x2202 0 : Nat)

/-- The hardware throttle level after a device temperature (R543). -/
def State.hwThrottle (t : Int) (s : State) : State :=
  let l := s.fld THM_STAT.HWLEVEL
  let u1 := if s.thrOf 1 ≤ t then s.pow.up1 + 1 else 0
  let u2 := if s.thrOf 2 ≤ t then s.pow.up2 + 1 else 0
  let d := if l ≠ 0 ∧ t < s.thrOf l - 16 * (s.dnum 0x2203 0 : Nat) then s.pow.down + 1 else 0
  let s := s.modPow fun p => { p with up1 := u1, up2 := u2, down := d }
  if 2 ≤ u2 ∧ l < 2 then (s.setFld THM_STAT.HWLEVEL 2).modPow fun p => { p with down := 0 }
  else if 2 ≤ u1 ∧ l < 1 then (s.setFld THM_STAT.HWLEVEL 1).modPow fun p => { p with down := 0 }
  else if 64 ≤ d then (s.setFld THM_STAT.HWLEVEL (l - 1)).modPow fun p => { p with down := 0 }
  else s

/-- The effective level (R542, R543, R545, R615); event 328 on a change. -/
def State.effLevel (s : State) : State :=
  let floor := min 2 (slice s.bell.modeWord 18 2)
  let held := s.fld THM_STAT.SUSPECT == 0xFFFF || s.saf.compBad
  let l := if held then 2 else max (s.fld THM_STAT.HWLEVEL) floor
  if l = s.fld THM_STAT.LEVEL then s else (s.setFld THM_STAT.LEVEL l).assertEvent 328

/-- The Temperature Threshold of function `f` (feature 04h; 368 K until set). -/
def State.tempThreshold (s : State) (f : Nat) : Nat :=
  match Tab.get 0 (s.fn f).feats 4 with
  | 0 => 368
  | v + 1 => (v + 1) % 65536

/-- Functions whose Temperature Threshold lies between two composite temperatures (R548, R550). -/
def State.crossedFns (s : State) (old new : Int) : List Nat :=
  (List.range 512).filter fun f => (s.fn f).en &&
    (decide ((s.tempThreshold f : Int) ≤ new) != decide ((s.tempThreshold f : Int) ≤ old))

/-- The sensors are read at a slot boundary (R540 to R543): readings in 1/16 °C. -/
def State.readSensors (temps : List Int) (s : State) : State :=
  let t := (List.range 16).map fun i => temps.getD i 0
  let susp := s.fld THM_STAT.SUSPECT
  let old := s.composite
  let s := s.modPow fun p => { p with temp := t }
  let s := each (List.range 16) (fun i s => s.setFld (THM_SENS.TEMP i) (twos 16 (t.getD i 0))) s
  let s := each (List.range 16) (State.checkSensor t susp) s
  let s := s.assertIf (s.fld THM_STAT.SUSPECT == 0xFFFF && susp != 0xFFFF) 331
  let s := match s.deviceTemp with
    | some d => (s.setFld THM_DEVT.TEMP (twos 16 d)).hwThrottle d
    | none => s
  let l := s.crossedFns old s.composite
  let s := if l.isEmpty then s else s.assertEvent 330
  let up := decide (old < s.composite)
  let s := if up then each l (fun f s => s.raiseAen f 1 1 2) s else s
  s.effLevel

/-- THM_CTRL.SUSPCLR (R541). -/
def State.clearSuspects (s : State) : State :=
  (each (List.range 16) (fun i s => s.setFld (THM_SENS.DEV i) 0) s).setFld THM_STAT.SUSPECT 0

/-- A write of THM_CTRL. -/
def State.writeThmCtrl (v : Nat) (s : State) : State :=
  let s := s.put THM_CTRL.NANDEN (bit v 0)
  if bit v 31 then s.clearSuspects else s

end Sys2Proof.Machine
end

