-- ==== Sys2Proof/Machine/Bell.lean ====
section
/-! DEFINITION. Machine/Bell.lean: the commands of Bell time (02_bell_time.md): pulses and beacons, slot boundaries and frame starts
with everything the other chapters hang on them, and the writes of the Bell's own registers. -/

namespace Sys2Proof.Machine

/-! Slot boundaries (R58, R73, R78 to R81, R540 to R544, R591). -/

/-- The age of a mode commit: at the fourth boundary every unit that has not reported is fenced (event 423); with ROLLBACK the
previous word waits for the next boundary (R81). -/
def State.modeAging (s : State) : State :=
  if s.fld BEL_MODE_STAT.STATE = modeStable then s
  else
    let n := s.bell.modeAge + 1
    let s := s.modBell fun b => { b with modeAge := n }
    if n ≠ 4 then s
    else
      let late := s.modeLate
      let back := !late.isEmpty && s.bell.modeRb && s.fld BEL_MODE_STAT.STATE == modeMixed
      let s := each late (fun u s => (s.modeFence u).assertEvent 423) s
      (s.modBell fun b => { b with rbPend := back }).modeSettle

/-- The mode commits due at the boundary of the slot now running (R78, R79, R81). -/
def State.modeBoundary (s : State) : State :=
  if s.bell.rbPend then (s.modeCommit s.bell.modePrev modeRollback).modeAtOnce
  else match s.bell.modePend with
    | some w =>
      if s.bell.modeAny || s.bell.modeAt == s.bell.slot % 64 then
        let s := (s.modBell fun b => { b with modePend := none }).put BEL_MODE_STAT.PENDING false
        (s.modeClearLag.modeCommit w modeMixed).modeAtOnce
      else s.modeAging
    | none => s.modeAging

/-- A power-up sequence has ended; the next group that asked to join one makes the next sequence (R279). -/
def State.puEnd (s : State) : State :=
  match (bitsOf s.fch.joinNext 16).head? with
  | some g => (s.modFch fun f => { f with joinNext := setBit f.joinNext g false }).startPowerUp (2 ^ g)
  | none => s.modBell fun b => { b with puActive := false, puMask := 0 }

/-- The turn of a power-up sequence at the start of an assigned slot (R73, R74); event 426 at its last enable, which shows only at the
next turn when the groups left are no longer OFF. -/
def State.puTurn (s : State) : State :=
  if !s.bell.puActive || !s.bell.puOpen || !bit s.puSlots (s.bell.slot % 64) then s
  else if s.bell.puSkip ≠ 0 then s.modBell fun b => { b with puSkip := b.puSkip - 1 }
  else
    match (bitsOf s.bell.puMask 16).dropWhile fun g => s.grp g != grpOff with
    | [] => (s.assertIf s.bell.puDid 426).puEnd
    | g :: rest =>
      let s := (s.modBell fun b => { b with
        puMask := rest.foldl (fun m k => m + 2 ^ k) 0, puSkip := b.puStep - 1, puDid := true }).enterPowering g
      if rest.isEmpty then (s.assertEvent 426).puEnd else s

/-- Everything that happens at a slot boundary, in the slot that begins; `temps` are the sensor readings in 1/16 °C; event 416. -/
def State.slotHooks (temps : List Int) (s : State) : State :=
  let s := s.modEvr fun e => { e with fired := [] }
  let s := (s.modeBoundary).puTurn
  let s := s.readSensors temps
  let s := s.modPow fun p => { p with pauses := p.pauses.filterMap fun e => if e.2 ≤ 1 then none else some (e.1, e.2 - 1) }
  (s.issueResets.holdCheck).assertEvent 416

/-! Frame starts (R53, R64, R166, R170, R172, R255, R261, R313, R393, R530, R585). -/

/-- A namespace record without its mark of this frame. -/
def unmarkNs (e : Nat × Ns) : Option (Nat × Ns) :=
  let n : Ns := { e.2 with waitEv := false }
  if n = {} then none else some (e.1, n)
/-- A function record without its mark of this frame. -/
def unmarkFn (e : Nat × Fn) : Option (Nat × Fn) :=
  let r : Fn := { e.2 with tokEv := false }
  if r = fnDefault then none else some (e.1, r)

/-- What is counted or raised once per frame begins anew. -/
def State.frameOnce (s : State) : State :=
  let s := s.modZpm fun z => { z with ns := z.ns.filterMap unmarkNs }
  let s := s.modHfe fun h => { h with fns := h.fns.filterMap unmarkFn }
  let s := (s.modTubs fun t => { t with waited := [] }).modSaf fun x => { x with d2dEv := false }
  s.modMgt fun m => { m with full395 := false, notPrev := m.notCount, notCount := [] }

/-- Die-time counters clear, deferred descriptors become eligible, and the shares written come into force (R166, R170, R172). -/
def State.frameShares (s : State) : State :=
  let s := s.modFns fun f => { f with charge := [], deferred := [] }
  let s := each (s.drf.eng.map (·.1)) (fun e s => s.modEng e fun g =>
    { g with q := g.q.map fun q => (q.1, q.2.map fun d => { d with defer := false }) }) s
  each (List.range 512) (fun f s =>
    let v := s.fnSetting f 6
    if (s.fn f).shareNow = v then s else s.modFn f fun r => { r with shareNow := v }) s

/-- Everything that happens at a frame start, once Bell time has moved on; event 417. -/
def State.frameHooks (s : State) : State :=
  let s := s.frameOnce
  let s := each (s.drf.eng.map (·.1)) State.heldFrame s
  let s := (s.frameShares).frameMash.frameSnap
  let s := (each (s.msh.dies.map (·.1)) State.wlCheck s).retryMigr
  let s := if s.bell.frame % 64 = 0 then s.storeHealth else s
  (s.reask).assertEvent 417

/-- The boundary and frame start that a relock creates (R78, R585): the sensors keep their readings. -/
def State.relockHooks (s : State) : State := (s.slotHooks s.pow.temp).frameHooks

/-- Does Bell time run? -/
def State.bellRuns (s : State) : Bool := s.up && !s.domainOff (some 26)

/-- The end of slot 63 (R53, R58, R61). DESIGN CHOICE (log entry 37): when a preset (R61) and a period change (R53) both take effect at this
frame start in LOCKED, EPOCH increments twice, once for each; the spec does not say whether it is once or twice. -/
def State.frameBoundary (temps : List Int) (s : State) : State := ((s.startFrame.frameBell).slotHooks temps).frameHooks

/-- SLOT_BOUNDARY (R58): the end of the running slot; of slot 63, a frame start too. -/
def slotBoundary (temps : List Int) (s : State) : State :=
  if !s.bellRuns then s
  else if s.bell.slot = 63 then s.frameBoundary temps
  else (s.modBell fun b => { b with slot := (b.slot + 1) % 64, phase := 0, cycles := 0, corr := b.corrNext, corrNext := 0 }).slotHooks temps
def execSlotBoundary (temps : List Int) (s : State) : Host.Outcome State Fault Refusal := done (slotBoundary temps s)

/-- FRAME_START (R53): the end of slot 63, with the sensors at their last readings. -/
def frameStart (s : State) : State := if s.bellRuns ∧ s.bell.slot = 63 then s.frameBoundary s.pow.temp else s
def execFrameStart (s : State) : Host.Outcome State Fault Refusal := done (frameStart s)

/-! Marks (R50 to R55, R62). -/

/-- The temperature history of a frame mark (R262); event 251 at a new extreme. -/
def State.frameTemp (s : State) : State :=
  match s.deviceTemp with
  | none => s
  | some d =>
    let c := d / 16
    let band := if c < 0 then 0 else min 23 (c.toNat / 5 + 1)
    let bt := s.bellTime
    let hi := decide (s.med.tMax < c)
    let lo := decide (c < s.med.tMin)
    (s.modMed fun m => { m with
      health := Tab.upd 0 m.health (0x7010 * 256 + band + 1) (· + 1),
      tMax := if hi then c else m.tMax, tMaxBt := if hi then bt else m.tMaxBt,
      tMin := if lo then c else m.tMin, tMinBt := if lo then bt else m.tMinBt }).assertIf (hi || lo) 251

/-- A frame mark of the source: its effect on the lock loop, the samples of R262 and R291, and the frame start of a relock. -/
def State.takeFrameMark (d : Int) (s : State) : State :=
  if s.lock = lockFree then s
  else
    let r := s.frameMark d
    let t := (r.state.frameTemp).recalCheck
    if r.relocked then t.relockHooks else t

/-- SHBELL_PULSE (R50, R52, R62, R646): a high pulse of `widthNs`, its rising edge `offsetNs` after the expected slot start. Every pulse is
classified; a mark acts only while SHBELL is the source. -/
def shbellPulse (widthNs : Nat) (offsetNs : Int) (s : State) : State :=
  if !s.bellRuns then s
  else
    match s.pulseKind widthNs with
    | .glitch => s.tookFree
    | .invalid => s.tookFree.misplaced
    | .slotMark => if s.bellSrc = 0 then s.tookFree.slotMark offsetNs else s.tookFree
    | .frameMark => if s.bellSrc = 0 then s.tookFree.takeFrameMark offsetNs else s.tookFree
def execShbellPulse (widthNs : Nat) (offsetNs : Int) (s : State) : Host.Outcome State Fault Refusal := done (shbellPulse widthNs offsetNs s)

/-- The network is up at a beacon (R565); event 394. -/
def State.beaconSeen (s : State) : State :=
  if s.on MGT_STAT.NETUP then s else ((s.put MGT_STAT.NETUP true).assertEvent 394).endNetLoops

/-- PLCA_BEACON (R55, R565): a node that follows a beacon takes it as a slot mark, or as a frame mark after a Bell-frame notice. -/
def plcaBeacon (offsetNs : Int) (s : State) : State :=
  if !s.up || s.coldNum 0x1104 0 == 0 || s.on MGT_STAT.COORD then s
  else
    let s := s.beaconSeen
    let note := s.bell.frameNotice
    let s := s.modBell fun b => { b with frameNotice := false }
    if !s.bellRuns ∨ s.bellSrc ≠ 1 then s
    else if note then s.takeFrameMark offsetNs
    else s.slotMark offsetNs
def execPlcaBeacon (offsetNs : Int) (s : State) : Host.Outcome State Fault Refusal := done (plcaBeacon offsetNs s)

/-- SLOT_WINDOW_CLOSE (R52, R62, R63): the window of a slot closes without an on-time mark. -/
def slotWindowClose (s : State) : State := if s.bellRuns then s.missingSlot else s
def execSlotWindowClose (s : State) : Host.Outcome State Fault Refusal := done (slotWindowClose s)

/-! Writes of the Bell's registers, mode epochs, the lock wait. -/

/-- A write to BEL_CTRL (R53, R54, R62). -/
def State.writeBelCtrl (v : Nat) (s : State) : State := (s.writePeriod (BEL_CTRL.PERIOD.of v)).writeSrc (BEL_CTRL.SRC.of v)

/-- BEL_CTRL_WRITE (R53, R54, R62). -/
def belCtrlWrite (m v : Nat) (s : State) : State := s.access m BEL_CTRL.SRC.addr (State.writeBelCtrl v)
def execBelCtrlWrite (master value : Nat) (s : State) : Host.Outcome State Fault Refusal := done (belCtrlWrite master value s)

/-- A write to BEL_BUDGET (R64, R71). -/
def State.writeBelBudget (v : Nat) (s : State) : State := s.writeBudget (BEL_BUDGET.BUDGET.of v) (BEL_BUDGET.RESERVE.of v)

/-- BEL_BUDGET_WRITE (R64, R69, R71). -/
def belBudgetWrite (m v : Nat) (s : State) : State := s.access m BEL_BUDGET.BUDGET.addr (State.writeBelBudget v)
def execBelBudgetWrite (master value : Nat) (s : State) : Host.Outcome State Fault Refusal := done (belBudgetWrite master value s)

/-- MODE_COMMIT_REQUEST (R78, R83). -/
def modeCommitRequest (m v : Nat) (s : State) : State := s.access m BEL_MODE_CMD.GO.addr (State.modeCommand v)
def execModeCommitRequest (master value : Nat) (s : State) : Host.Outcome State Fault Refusal := done (modeCommitRequest master value s)

/-- UNIT_EPOCH_REPORT (R80). -/
def unitEpochReport (u : Nat) (s : State) : State := if u < modeUnits then s.reportUnit u else s
def execUnitEpochReport (unit : Nat) (s : State) : Host.Outcome State Fault Refusal := done (unitEpochReport unit s)

/-- POWERUP_LOCK_WAIT_EXPIRE (R74): the enables start under the fallback mask. -/
def powerupLockWaitExpire (s : State) : State := if s.bell.puActive then s.modBell fun b => { b with puOpen := true } else s
def execPowerupLockWaitExpire (s : State) : Host.Outcome State Fault Refusal := done (powerupLockWaitExpire s)

end Sys2Proof.Machine
end

