-- ==== Sys2Proof/Machine/Cipher.lean ====
section
/-! DEFINITION. Machine/Cipher.lean: the commands of the cipher engine and the secure domain (15_cipher_secure_domain.md). -/

namespace Sys2Proof.Machine

/-- GCM_TAIL_WRITE (R476). -/
def gcmTailWrite (m v : Nat) (s : State) : State := s.access m CIP_GTAIL.TAIL.addr (State.writeGtail v)
def execGcmTailWrite (master value : Nat) (s : State) : Host.Outcome State Fault Refusal := done (gcmTailWrite master value s)

/-- ENCRYPT (R478, R479, R483). -/
def encrypt (check : GcmCheck) (s : State) : State := s.encryptJob check
def execEncrypt (check : GcmCheck) (s : State) : Host.Outcome State Fault Refusal := done (encrypt check s)

/-- DECRYPT (R480, R483). -/
def decrypt (check : GcmCheck) (s : State) : State := s.decryptJob check
def execDecrypt (check : GcmCheck) (s : State) : Host.Outcome State Fault Refusal := done (decrypt check s)

/-- REKEY (R481). -/
def rekey (m v : Nat) (s : State) : State := s.access m CIP_REKEY.GO.addr (State.writeRekey v)
def execRekey (master value : Nat) (s : State) : Host.Outcome State Fault Refusal := done (rekey master value s)

/-- RNG_READ (R485). -/
def rngRead (m : Nat) (s : State) : State := s.access m CIP_RNG.WORD.addr (State.readRng m)
def execRngRead (master : Nat) (s : State) : Host.Outcome State Fault Refusal := done (rngRead master s)

/-- DRBG_HEALTH_FAIL (R485). -/
def drbgHealthFail (i : Nat) (s : State) : State := s.rngFail i
def execDrbgHealthFail (inst : Nat) (s : State) : Host.Outcome State Fault Refusal := done (drbgHealthFail inst s)

/-- FORCE (R494). -/
def force (m v : Nat) (s : State) : State := s.access m CIP_LEASE.HOLD.addr (State.writeLease m v)
def execForce (master value : Nat) (s : State) : Host.Outcome State Fault Refusal := done (force master value s)

end Sys2Proof.Machine
end

