-- ==== Sys2Proof/Machine/DictOps.lean ====
section
/-! DEFINITION. Machine/DictOps.lean: the object dictionary engine: values in force, the checks of a request in their order,
the effect of a write, the configuration record (18_object_dictionary_network.md and the entry tables of the other chapters). -/

namespace Sys2Proof.Machine

/-! Abort codes (Table 18.3). -/

/-- none -/
def abOk : Nat := 0
/-- index does not exist -/
def abIndex : Nat := 0x0101
/-- subindex does not exist -/
def abSub : Nat := 0x0102
/-- write to CONST or RO -/
def abReadOnly : Nat := 0x0201
/-- read of WO -/
def abWriteOnly : Nat := 0x0202
/-- RWS write without a session and not from the secure domain -/
def abSecure : Nat := 0x0203
/-- the path may not make this request -/
def abPath : Nat := 0x0204
/-- type or size mismatch -/
def abType : Nat := 0x0301
/-- value out of range -/
def abRange : Nat := 0x0302
/-- value not allowed in the current state -/
def abState : Nat := 0x0303
/-- feature absent -/
def abAbsent : Nat := 0x0401
/-- persistence failed -/
def abPersist : Nat := 0x0402
/-- request queue full -/
def abFull : Nat := 0x0403
/-- block segment out of sequence, or staging expired -/
def abBlock : Nat := 0x0404
/-- dictionary unavailable in the current device state -/
def abDown : Nat := 0x0405
/-- unknown session -/
def abSession : Nat := 0x0501
/-- authentication failed -/
def abAuth : Nat := 0x0502
/-- no free session -/
def abNoSession : Nat := 0x0503
/-- IV not above the last accepted IV -/
def abIv : Nat := 0x0504
/-- session key exhausted -/
def abKey : Nat := 0x0505
/-- unsupported opcode -/
def abOpcode : Nat := 0x0601
/-- malformed request -/
def abForm : Nat := 0x0602

/-- The paths of Table 18.4. -/
inductive DPath where
  | secure | firmware | pf | vf (f : Nat) | mctp | esnex | session
  deriving DecidableEq, Repr

/-! Values in force. -/

/-- The register field that holds an entry (R555). -/
def dictHome (index sub : Nat) : Option Fld :=
  if 0x4000 ≤ index ∧ index ≤ 0x41FF then
    (if sub = 0x10 then some (HFE_QALLOC.NSQ (index - 0x4000))
     else if sub = 0x11 then some (HFE_QALLOC.NCQ (index - 0x4000))
     else if sub = 0x12 then some (HFE_CMDLIM.LIMIT (index - 0x4000))
     else none)
  else if index = 0x3262 ∧ 1 ≤ sub then some (TUB_RSV.PROT (sub - 1))
  else if index = 0x3263 ∧ 1 ≤ sub then some (TUB_RSV.UNPROT (sub - 1))
  else if index = 0x3264 ∧ 1 ≤ sub then some (MEM_BANKASN.OWNER (sub - 1))
  else match index with
    | 0x2000 => some BEL_CTRL.SRC
    | 0x2001 => some BEL_CTRL.PERIOD
    | 0x2010 => some BEL_MASK.MASK
    | 0x2011 => some BEL_BUDGET.BUDGET
    | 0x2012 => some BEL_BUDGET.RESERVE
    | 0x2105 => some AON_WAKE.EN
    | 0x2208 => some THM_CTRL.NANDEN
    | 0x30F0 => some HFE_CTRL.DA
    | 0x3250 => some ECC_THR.REPORT
    | 0x3251 => some ECC_THR.RELOC
    | 0x3266 => some MEM_CTRL.LEGACY
    | 0x6000 => some EVR_CTRL.EN
    | _ => none

/-- The register a read-only entry shows. -/
def dictShows (index : Nat) : Option Fld :=
  match index with
  | 0x1100 => some MGT_STAT.NODE
  | 0x2100 => some PWR_STAT.STATE
  | 0x2101 => some PWR_STAT.PS
  | 0x2102 => some PWR_STAT.TARGET
  | 0x2200 => some THM_DEVT.TEMP
  | 0x2206 => some THM_STAT.SUSPECT
  | 0x2300 => some HLD_STAT.STATE
  | 0x3261 => some TUB_SPLIT.P
  | 0x3300 => some MSH_STAT.EPOCH
  | 0x5F01 => some TLY_STAT.EPOCH
  | _ => none

/-- Wear used, percent (0x7003:00): mean ERASES of the ROW units over the rated QLC endurance, and of the SLC units over the SLC
endurance, the largest over the dies, saturating at 255. -/
def State.wearUsed (s : State) : Nat :=
  let pct := fun (die : Nat) (l : List Nat) (rated : Nat) =>
    (l.map fun u => (s.unitRec die u).erases).sum * 100 / max 1 (l.length * rated)
  let dies := (List.range 2048).filter fun d => (s.mem d).state == .member
  min 255 (dies.foldl (fun m d =>
    let g := 0x3210 + d / 128
    let rows := (List.range (s.fld (ZPM_SSET.ROWS (s.mem d).sset))).map fun r => s.rowUnit d r
    let slc := (s.med.units.filter fun u => u.1 / 131072 == d && u.2.state == .slc).map fun u => u.1 % 131072
    max m (max (pct d rows (s.dnum g 1)) (pct d slc (s.dnum g 2)))) 0)

/-- The namespace record 0x3010 + n (Table 6.7). -/
def State.nsEntry (s : State) (n sub : Nat) : Nat :=
  let r := s.ns n
  match sub with
  | 0 => 7
  | 1 => r.kind
  | 2 => r.zlog
  | 3 => r.zones
  | 4 => r.zcapMib
  | 5 => r.openLim * 65536 + r.actLim
  | 6 => r.pgrp
  | _ => r.first

/-- A computed number of chapters 2 to 7. -/
def State.dictNumLow (s : State) (index sub : Nat) : Nat :=
  if 0x1120 ≤ index ∧ index ≤ 0x1123 ∧ sub = 2 then (!(Tab.get [] s.mgt.creds (index - 0x1120)).isEmpty).toNat
  else if 0x3010 ≤ index ∧ index ≤ 0x304F then s.nsEntry (index - 0x3010) sub
  else match index with
    | 0x1113 => s.mgt.sess.length
    | 0x2002 => s.bellTime
    | 0x2004 => s.lock + 128 * s.fld BEL_STAT.DEGRADED
    | 0x2207 => s.nv.shutdowns
    | 0x2314 => s.nv.gen
    | 0x2315 => s.nv.dumpBt
    | 0x2316 => s.nv.incomplete
    | 0x3000 => s.zpm.zones.countP fun z => z.2.kind != 0
    | 0x3306 => s.msh.lostEver
    | _ => s.dnum index sub

/-- A computed number of chapters 15, 19 and 20 and of the health entries. -/
def State.dictNumHigh (s : State) (index sub : Nat) : Nat :=
  if index < 0x5F00 then (match s.snap 0 with | some p => p.counter (index - 0x5000) | none => 0)
  else if 0x7111 ≤ index ∧ index ≤ 0x7123 then
    let k := index - 0x7110
    (match sub with
     | 0 => 5
     | 1 => Tab.get 0 s.saf.det k
     | 2 => Tab.get 0 s.saf.trans k
     | 3 => Tab.get 0 s.saf.lasting k
     | 4 => Tab.get 0 s.saf.undecided k
     | _ => Tab.get 0 s.saf.lastBt k)
  else if 0x8010 ≤ index ∧ index ≤ 0x804F ∧ sub = 3 then Tab.get 0 s.cip.lastRange (index - 0x8010)
  else if index = 0x8060 ∧ 1 ≤ sub then Tab.get 0 s.cip.gen (sub + 63)
  else if index = 0x7004 ∧ 1 ≤ sub then Tab.get 0 s.med.health (index * 256 + sub)
  else if index = 0x7010 ∧ 1 ≤ sub then
    (match sub with
     | 0x19 => twos 16 s.med.tMax
     | 0x1A => s.med.tMaxBt
     | 0x1B => twos 16 s.med.tMin
     | 0x1C => s.med.tMinBt
     | _ => Tab.get 0 s.med.health (index * 256 + sub))
  else match index with
    | 0x5F02 => (s.snap 0).elim 0 (·.bt)
    | 0x6001 => s.evr.nextSeq
    | 0x6004 => s.evr.first.length
    | 0x6005 => s.evr.dropped
    | 0x7001 => s.spareLeft
    | 0x7003 => s.wearUsed
    | 0x7100 => s.saf.last
    | 0x7101 => s.saf.marked
    | 0x8002 => s.mcountLeft
    | 0x8003 => s.cip.lifecycle
    | 0x8004 => s.cip.sigpol
    | 0x8005 => s.cip.svn
    | 0x8007 => s.cip.runSrc * 2 ^ 28 + s.cip.runSvn * 2 ^ 16 + s.cip.runSch
    | _ => s.dnum index sub

/-- The number an entry holds; a written 3 of 0x2000:00 acts and reads as 2 (R54). -/
def State.dictNum (s : State) (index sub : Nat) : Nat :=
  match dictHome index sub with
  | some f => if index = 0x2000 then min (s.fld f) 2 else s.fld f
  | none =>
    match dictShows index with
    | some f => s.fld f
    | none => if index < 0x5000 then s.dictNumLow index sub else s.dictNumHigh index sub

/-- The bytes of a STR or BLOB entry; a credential reads as SIZE 0 (R577). -/
def State.dictBytes (s : State) (index sub : Nat) : List Nat :=
  if 0x1120 ≤ index ∧ index ≤ 0x1123 then []
  else if index = 0x8008 then (s.cip.runDigest.elim [] fun d => toBytes d 48)
  else s.dbytes index sub

/-- The value in force of an entry (R555). -/
def State.dictValue (s : State) (index sub : Nat) : DVal :=
  match dictRow index sub with
  | some r => if r.ty.varies then .bytes (s.dictBytes index sub) else .num (s.dictNum index sub)
  | none => .num 0

/-- The bytes of a value of type `ty` (R551). -/
def wireOf (ty : DType) : DVal → List Nat
  | .num v => toBytes v ty.size
  | .bytes l => l

/-- The default of an entry, that of a register's entry being the register's reset value. -/
def State.entryDefault (s : State) (index sub : Nat) : DVal :=
  match dictHome index sub with
  | some f => .num f.reset
  | none => s.dictDefault index sub

/-! Checks of a request in the order of R665. -/

/-- The right of an entry: 0x8010 + n:01 is CONST on the BN part (Table 15.9). -/
def State.dictRight (s : State) (index sub : Nat) : DRight :=
  match dictRow index sub with
  | some r => if s.ident.bn ∧ 0x8010 ≤ index ∧ index ≤ 0x804F ∧ sub = 1 then .const else r.right
  | none => .ro

/-- Is the dictionary unavailable to this request (R561)? -/
def State.dictDown (s : State) (write : Bool) (index sub : Nat) : Bool :=
  if !s.up || s.hld.committed then true
  else if s.mgt.loading then
    !(s.ctl.noImage && !write && ((decide (0x1000 ≤ index) && decide (index ≤ 0x10FF)) ||
      (decide (0x8000 ≤ index) && decide (index ≤ 0x80FF) && s.dictRight index sub != .rws)))
  else false

/-- Does the path refuse a request that finds 64 waiting (R560)? -/
def DPath.refusesFull : DPath → Bool
  | .esnex => true
  | .session => true
  | .mctp => true
  | _ => false

/-- Checks 2 and 3: state of the dictionary, full queue, index, subindex. -/
def State.dictReach (s : State) (p : DPath) (write : Bool) (index sub : Nat) : Nat :=
  if s.dictDown write index sub then abDown
  else if p.refusesFull && decide (64 ≤ s.mgt.waits.length) then abFull
  else if !dictIndex index then abIndex
  else if (dictRow index sub).isNone then abSub
  else abOk

/-- May the path read the entry (Table 18.4)? -/
def DPath.mayRead (p : DPath) (index : Nat) : Bool :=
  match p with
  | .vf f => (decide (0x1000 ≤ index) && decide (index ≤ 0x10FF)) || (decide (0x7000 ≤ index) && decide (index ≤ 0x70FF)) ||
      index == 0x4000 + f
  | _ => true

/-- Checks 2 to 5 of a read. -/
def State.dictReadCheck (s : State) (p : DPath) (index sub : Nat) : Nat :=
  let a := s.dictReach p false index sub
  if a ≠ abOk then a
  else if !p.mayRead index then abPath
  else if s.dictRight index sub = .wo then abWriteOnly
  else abOk

/-- Does the path write as the secure domain? -/
def DPath.isSecure : DPath → Bool
  | .secure => true
  | .session => true
  | _ => false

/-- Is it a virtual function's path? -/
def DPath.isVf : DPath → Bool
  | .vf _ => true
  | _ => false

/-- Is this the credential that an NVMe physical function or MCTP may set while it is empty (R577)? -/
def State.firstCred (s : State) (p : DPath) (index sub : Nat) : Bool :=
  (p == .pf || p == .mctp) && decide (0x1120 ≤ index) && decide (index ≤ 0x1123) && sub == 1 &&
    (Tab.get [] s.mgt.creds (index - 0x1120)).isEmpty

/-- Checks 2 to 6 of a write. -/
def State.dictWriteCheck (s : State) (p : DPath) (index sub : Nat) : Nat :=
  let a := s.dictReach p true index sub
  let r := s.dictRight index sub
  if a ≠ abOk then a
  else if r = .rws ∧ p.isSecure = false ∧ s.firstCred p index sub = false then abSecure
  else if p.isVf ∨ (p = .esnex ∧ s.dnum 0x1114 0 = 0) then abPath
  else if r = .const ∨ r = .ro then abReadOnly
  else if s.ident.bn ∧ 0x8010 ≤ index ∧ index ≤ 0x804F ∧ sub = 3 then abAbsent
  else abOk

/-- Check 7: does a value fit the entry's type, size and limit? -/
def DictRow.fits (r : DictRow) : DVal → Bool
  | .num v => !r.ty.varies && decide (v < 2 ^ (8 * r.ty.size))
  | .bytes l => r.ty.varies && decide (l.length ≤ r.hi)

/-- The total of a field over the functions with `v` in place of function `f`'s value. -/
def State.fnTotal (s : State) (fld : Nat → Fld) (f v : Nat) : Nat :=
  ((List.range 512).map fun k => if k = f then v else s.fld (fld k)).sum

/-- May a value of a function's record be written (R103, R117, R119, R158, R165)? -/
def State.fnValueOk (s : State) (f sub v : Nat) : Bool :=
  match sub with
  | 7 => v == 0 || s.isTail f || decide (((List.range 512).countP fun k => s.isTail k) < 64)
  | 8 => decide (((List.range 512).map fun k =>
      if k = 1 ∧ s.on PCI_STRAP.BIF = false then 0 else if k = f then v else s.fnSetting k 8).sum ≤ 16384) &&
      (decide (f < 2) || decide ((s.port (s.portOf f)).vfNum = 0))
  | 0x10 => decide (v ≤ 15871) && decide (s.fnTotal HFE_QALLOC.NSQ f v ≤ 15872)
  | 0x11 => decide (v ≤ 15871) && decide (s.fnTotal HFE_QALLOC.NCQ f v ≤ 15872)
  | 0x12 => decide (v ≤ 65536) && decide (s.fnTotal HFE_CMDLIM.LIMIT f v ≤ 65536)
  | _ => true

/-- R71 with one nominal current replaced. -/
def State.nominalOk (s : State) (index sub v : Nat) : Bool :=
  let m := (List.range 16).foldl (fun m g =>
    let x := fun k => if 0x2020 + g = index ∧ k = sub then v else s.dnum (0x2020 + g) k
    max m (max (x 2) (x 3))) 0
  budgetOk (s.fld BEL_BUDGET.BUDGET) (s.fld BEL_BUDGET.RESERVE) m

/-- Check 9: the stated range of a number and the conditions owning chapters reject with the out-of-range code. -/
def State.numOk (s : State) (r : DictRow) (index sub v : Nat) : Bool :=
  let vs := r.ty == .i16 || r.ty == .i32
  let range := vs || (decide (r.lo ≤ v) && decide (v ≤ r.hi))
  range &&
    (if 0x4000 ≤ index ∧ index ≤ 0x41FF then s.fnValueOk (index - 0x4000) sub v
     else if 0x2020 ≤ index ∧ index ≤ 0x202F then (if sub = 2 ∨ sub = 3 then s.nominalOk index sub v else true)
     else if 0x6010 ≤ index ∧ index ≤ 0x601F ∧ sub = 2 then
       (match s.dnum index 1 with | 1 => decide (v ≤ 511) | 2 => decide (v ≤ 3839) | _ => true)
     else if 0x8010 ≤ index ∧ index ≤ 0x804F ∧ sub = 3 then decide (v < (s.ns (index - 0x8010)).keys)
     else match index with
       | 0x1110 => decide (v ≤ 31) || v == 0xFF
       | 0x2011 => budgetOk v (s.fld BEL_BUDGET.RESERVE) s.maxNominal
       | 0x2012 => budgetOk (s.fld BEL_BUDGET.BUDGET) v s.maxNominal
       | 0x2102 => v != 1
       | 0x2202 => decide (s.dnum 0x2201 0 + 1 ≤ v)
       | 0x2302 => decide (s.dnum 0x2301 0 + 50 ≤ v)
       | 0x2307 => decide (v + 25 ≤ s.dnum 0x2306 0)
       | 0x2308 => decide (s.dnum 0x2306 0 + 25 ≤ v)
       | 0x230E => popCount v 16 == 8
       | 0x3205 => decide (s.dnum 0x3204 0 < v)
       | 0x3260 => v % 1024 == 0
       | 0x3262 => !(decide (6 ≤ sub) && decide (sub ≤ 8)) || v == 0
       | 0x3263 => !(decide (6 ≤ sub) && decide (sub ≤ 8)) || v == 0
       | 0x3264 => decide (v ≤ 4) || v == 0xF
       | _ => true)

/-- Offsets a selection list may hold (R593). -/
def selectOk (o : Nat) : Bool := decide (o < 0x3000000) && decide (o % 0x200000 < 0x100000) && o % 4 == 0

/-- Check 9 for a STR or BLOB. -/
def bytesOk (index : Nat) (l : List Nat) : Bool :=
  if 0x6020 ≤ index ∧ index ≤ 0x6027 then
    l.length % 4 == 0 && (List.range (l.length / 4)).all fun i => selectOk (ofBytes ((l.drop (4 * i)).take 4))
  else if 0x1120 ≤ index ∧ index ≤ 0x1123 then l.length == 32
  else if index = 0x3265 then l.length % 4 == 0
  else true

/-- Zones that lie in key range `r` of namespace index `n`. -/
def State.rangeZones (s : State) (n r : Nat) : List Nat :=
  let x := s.ns n
  let u := s.units4k (n + 1) x.nsze / max 1 x.keys
  (s.nsZones n).filter fun i =>
    let z0 := s.zoneStart i / 2 ^ (12 - x.bshift)
    let z1 := (s.zoneStart i + x.zoneBlocks) / 2 ^ (12 - x.bshift)
    decide (z0 < (r + 1) * u) && decide (r * u < z1)

/-- Check 10: the current state (R436, R455, R473). -/
def State.stateOk (s : State) (index sub v : Nat) : Bool :=
  if index = 0x3262 ∨ index = 0x3263 then !s.on TUB_CTRL.EN
  else if index = 0x3264 then !s.on MEM_CTRL.LOCK
  else if 0x8010 ≤ index ∧ index ≤ 0x804F ∧ sub = 3 then
    let n := index - 0x8010
    (s.ns n).kind == 2 && s.cip.rng0ok &&
      (s.rangeZones n v).all fun i => (s.zone i).state == .empty || (s.zone i).state == .offline
  else true

/-- Checks 9 and 10 of a value. -/
def State.valueCheck (s : State) (r : DictRow) (index sub : Nat) : DVal → Nat
  | .num v => if !s.numOk r index sub v then abRange else if !s.stateOk index sub v then abState else abOk
  | .bytes l => if bytesOk index l then abOk else abRange

/-! The effect of a write. -/

/-- Bell, power and thermal entries. -/
def State.applyLow (index sub v : Nat) (s : State) : State :=
  match index with
  | 0x2000 => s.writeSrc v
  | 0x2001 => s.writePeriod v
  | 0x2003 => s.modBell fun b => { b with presetPend := some (v % 2 ^ 40) }
  | 0x2010 => ((s.setFld BEL_MASK.MASK v).put BEL_STAT.MASK_PEND true).mirrorPowerUp
  | 0x2011 => (s.setFld BEL_BUDGET.BUDGET v).put BEL_STAT.MASK_PEND true
  | 0x2012 => (s.setFld BEL_BUDGET.RESERVE v).put BEL_STAT.MASK_PEND true
  | 0x2013 => (s.setDict index sub (.num v)).put BEL_STAT.MASK_PEND true
  | 0x2030 => (s.setDict index sub (.num v)).mirrorPowerUp
  | 0x2031 => (s.setDict index sub (.num v)).mirrorPowerUp
  | 0x2032 => (s.setDict index sub (.num v)).mirrorPowerUp
  | 0x2102 => s.writeRequested v
  | 0x2105 => s.setFld AON_WAKE.EN v
  | 0x2208 => s.put THM_CTRL.NANDEN (v != 0)
  | 0x1101 => let s := s.setDict index sub (.num v); s.setFld (AON_RET.WORD 5) (2 ^ 31 + v * 256 + s.dnum 0x1102 0)
  | 0x1102 => let s := s.setDict index sub (.num v); s.setFld (AON_RET.WORD 5) (2 ^ 31 + s.dnum 0x1101 0 * 256 + v)
  | _ => (s.setDict index sub (.num v)).holdCheck

/-- A function's record (R162, R166). -/
def State.applyFn (f sub v : Nat) (s : State) : State :=
  if sub = 7 then (s.setTail f (s.fld HFE_TICKET.TICKET) (v != 0)).checkOverlap s.tailCounts
  else
    let s := if 1 ≤ sub ∧ sub ≤ 4 then s.refill f else s
    let s := s.setDict (0x4000 + f) sub (.num v)
    if 1 ≤ sub ∧ sub ≤ 4 then s.setCredit (sub % 2 == 1) f
    else if sub = 5 ∨ sub = 6 then s.assertEvent 213
    else if sub = 8 ∧ 2 ≤ f then s.modFn f fun r => { r with vecs := v }
    else s

/-- Zones, media, memory, redundancy entries. -/
def State.applyMid (index sub v : Nat) (s : State) : State :=
  if 0x3220 ≤ index ∧ index ≤ 0x322F ∧ 1 ≤ sub ∧ sub ≤ 3 then
    let s := s.setDict index sub (.num v)
    if s.grp (index - 0x3220) = grpOff then s.loadGcfg (index - 0x3220) else s
  else match index with
    | 0x30F0 => s.setDa (v != 0)
    | 0x3307 => (s.setDict index sub (.num v)).put MSH_CTRL.PATROL_EN (v != 0)
    | _ => s.setDict index sub (.num v)

/-- The fuses of the security version are burned up to the running image's (R491). -/
def State.advanceSvn (s : State) : State := s.modCip fun c => { c with svn := max c.svn (min 64 c.runSvn) }

/-- Tally, recorder, secure entries. -/
def State.applyHigh (index sub v : Nat) (s : State) : State :=
  if 0x8010 ≤ index ∧ index ≤ 0x804F ∧ sub = 3 then
    let n := index - 0x8010
    (s.modCip fun c => { c with lastRange := Tab.set 0 c.lastRange n v }).replaceKeys [64 * n + v]
  else match index with
    | 0x5F03 => if v = 1 then s.requestSnap else s
    | 0x6002 => if v = 1 then s.clearLast else s
    | 0x6003 => if v = 1 then s.clearFirst else s
    | 0x8006 => if v = 1 then s.advanceSvn else s
    | _ => s.setDict index sub (.num v)

/-- A session closes (R576); event 389. -/
def State.closeSession (c : Nat) (s : State) : State :=
  match Tab.get none s.mgt.sess c with
  | none => s
  | some _ =>
    ((s.modMgt fun m => { m with sess := Tab.set none m.sess c none, stages := Tab.set none m.stages (256 + c) none,
                                 last := Tab.set none m.last (256 + c) none }).modCip fun x =>
      { x with sess := Tab.set none x.sess c none }).assertEvent 389

/-- The contexts of the sessions opened with credential `k`. -/
def State.credSessions (s : State) (k : Nat) : List Nat :=
  (s.mgt.sess.filter fun e => match e.2 with | some x => x.cred == k | none => false).map (·.1)

/-- A credential is set, or cleared by 32 zero bytes, which closes its sessions (R577). -/
def State.setCred (k : Nat) (l : List Nat) (s : State) : State :=
  let s := s.modCip fun c => { c with secWrites := c.secWrites + 1 }
  if l.all (· == 0) then
    each (s.credSessions k) (fun c s => s.closeSession c) (s.modMgt fun m => { m with creds := Tab.set [] m.creds k [] })
  else s.modMgt fun m => { m with creds := Tab.set [] m.creds k l }

/-- The effect of a value on its entry. -/
def State.applyEntry (index sub : Nat) (v : DVal) (s : State) : State :=
  match v with
  | .bytes l => if 0x1120 ≤ index ∧ index ≤ 0x1123 then s.setCred (index - 0x1120) l else s.setDict index sub (.bytes l)
  | .num n =>
    match dictHome index sub with
    | some f =>
      if index < 0x3000 then s.applyLow index sub n
      else if index = 0x30F0 then s.setDa (n != 0)
      else if index = 0x3264 then s.writeBank (sub - 1) (n * 2 ^ 28)
      else s.setFld f n
    | none =>
      if index < 0x3000 then s.applyLow index sub n
      else if index < 0x4000 then s.applyMid index sub n
      else if index < 0x5000 then s.applyFn (index - 0x4000) sub n
      else s.applyHigh index sub n

/-! The configuration record (R556, R557, R667). -/

/-- Subindices and indices of a row, each with its key. -/
def DictRow.keys (r : DictRow) : List Nat :=
  (List.range (r.i1 - r.i0 + 1)).flatMap fun i => (List.range (r.s1 - r.s0 + 1)).map fun j => (r.i0 + i) * 256 + r.s0 + j

/-- Keys of the entries of right RWP, and of 0x100F:00, which is persisted as they are. -/
def rwpKeys : List Nat :=
  0x100F00 :: ((dictRows1 ++ dictRows2 ++ dictRows3 ++ dictRows4 ++ dictRows5 ++ dictRows6 ++ dictRows7).filter
    fun r => r.right == .rwp).flatMap DictRow.keys

/-- The record: every RWP value in force that differs from its default. -/
def State.recordOf (s : State) : Tab (Option DVal) :=
  rwpKeys.foldl (fun t k =>
    let v := if k = 0x100F00 then s.dstored 0x100F 0 else s.dictValue (k / 256) (k % 256)
    if v = s.entryDefault (k / 256) (k % 256) then t else Tab.set none t k (some v)) []

/-- A write of the record starts, or is left to the next one (R556). -/
def State.startRecord (s : State) : State :=
  if s.mgt.recNow.isSome then s.modMgt fun m => { m with recNext := true }
  else
    let r := s.recordOf
    s.modMgt fun m => { m with recNow := some r, recGen := m.recGen + 1, recNext := false,
                               waits := m.waits.map fun w => { w with next := false } }

/-- Persist: the answer `r` waits for a record that holds the value. -/
def State.holdAnswer (r : Reply) (cmd : Bool) (s : State) : State :=
  let busy := s.mgt.recNow.isSome
  (s.modMgt fun m => { m with waits := m.waits ++ [{ reply := r, cmd := cmd, next := busy }] }).startRecord

/-- Is a write of this entry answered only once its record is in both copies? -/
def State.persists (s : State) (index sub : Nat) : Bool := s.dictRight index sub == .rwp || index == 0x100F

/-- A write whose checks it passes takes effect; RWS entries raise event 396. -/
def State.dictApply (index sub : Nat) (v : DVal) (s : State) : State :=
  (s.applyEntry index sub v).assertIf (s.dictRight index sub == .rws) 396

/-- An allocation write is ignored (R117, R119): ALLOCERR, event 203. -/
def State.allocError (s : State) : State := (s.put HFE_STAT.ALLOCERR true).assertEvent 203

/-- What a refused value sets: an allocation over its totals ALLOCERR and event 203 (R117, R119), a budget or nominal current that
R71 rejects event 425 (R86). -/
def State.valueRefused (index sub : Nat) (v : DVal) (s : State) : State :=
  let within := match v, dictRow index sub with
    | .num n, some r => decide (r.lo ≤ n) && decide (n ≤ r.hi)
    | _, _ => false
  if 0x4000 ≤ index ∧ index ≤ 0x41FF ∧ 0x10 ≤ sub ∧ sub ≤ 0x12 then s.allocError
  else if within && (index == 0x2011 || index == 0x2012 || (decide (0x2020 ≤ index) && decide (index ≤ 0x202F) && (sub == 2 || sub == 3)))
  then s.assertEvent 425
  else s

/-- The path whose rights a write has: R578 excepts the wake write of Table 17.6, which then has the rights of the other paths. -/
def DPath.forWrite (p : DPath) (index sub : Nat) (v : DVal) : DPath :=
  if p = .esnex ∧ index = 0x2102 ∧ sub = 0 ∧ v = .num 0 then .mctp else p

/-- All checks of a whole-value write. -/
def State.dictWriteAbort (s : State) (p : DPath) (index sub : Nat) (tyOk : Bool) (v : DVal) : Nat :=
  let a := s.dictWriteCheck (p.forWrite index sub v) index sub
  if a ≠ abOk then a
  else match dictRow index sub with
    | none => abSub
    | some r => if !tyOk || !r.fits v then abType else s.valueCheck r index sub v

/-! Start (R557, R563, R564). -/

/-- Entries that take effect at the next cold start (R433, R454, R563). -/
def coldKeys : List Nat :=
  [0x110100, 0x110200, 0x110300, 0x110400, 0x110500, 0x110600, 0x110700, 0x110800, 0x113000, 0x113100, 0x230E00, 0x230F00, 0x326000]

/-- Load a record: each RWP entry takes its value, or its default; the load counts as a write of the masks and budgets (R64), and
the entries of a cold start stand at the record's values from the first (R56, R563), as do those that a conventional reset of
the ports brings into force (R98, R103). -/
def State.loadRecord (r : Tab (Option DVal)) (s : State) : State :=
  let value := fun k => (Tab.get none r k).getD (s.entryDefault (k / 256) (k % 256))
  let cold := coldKeys.foldl (fun t k => Tab.set none t k (some (value k))) []
  let s := s.modMgt fun m => { m with nextCold := cold }
  let s := each rwpKeys (fun k s =>
    let i := k / 256
    if k = 0x100F00 then s.setDict i 0 (value k)
    else if s.dictValue i (k % 256) = value k then s else s.applyEntry i (k % 256) (value k)) s
  let s := (s.put MSH_CTRL.PATROL_EN (s.dnum 0x3307 0 != 0)).put BEL_STAT.MASK_PEND true
  let s := s.setFld (AON_RET.WORD 5) (2 ^ 31 + s.dnum 0x1101 0 * 256 + s.dnum 0x1102 0)
  let s := each [0, 1] (fun p s =>
    let v := s.fnSetting p 8
    let i := s.dnum 0x1005 0
    (s.modFn p fun r => { r with vecs := v }).modPort p fun x => { x with subsys := some i }) s
  (s.mirrorPowerUp).setCoord

/-- The record without the RWP entries outside 0x1100 to 0x11FF, when a restore was asked (R667). -/
def restored (r : Tab (Option DVal)) : Tab (Option DVal) :=
  if Tab.get none r 0x100F00 = some (.num 1) then r.filter fun e => decide (0x110000 ≤ e.1 ∧ e.1 < 0x120000) else r

/-- The load of R557: the valid copy with the higher generation, else defaults; events 386 and 387. -/
def State.loadConfig (s : State) : State :=
  let a : Nat := (s.mgt.copyA.map (·.1)).getD 0
  let b : Nat := (s.mgt.copyB.map (·.1)).getD 0
  let pick : Nat × Option (Tab (Option DVal)) := if s.mgt.copyA.isSome && (s.mgt.copyB.isNone || decide (b ≤ a)) then (1, s.mgt.copyA.map (·.2))
    else if s.mgt.copyB.isSome then (2, s.mgt.copyB.map (·.2)) else (3, none)
  let r := pick.2.getD []
  let again := Tab.get none r 0x100F00 = some (.num 1)
  let s := (s.setFld MGT_STAT.CFG pick.1).loadRecord (restored r)
  let s := (s.modMgt fun m => { m with loading := false, recGen := max m.recGen (max a b) }).assertEvent (if pick.1 = 3 then 387 else 386)
  if again then s.startRecord else s

end Sys2Proof.Machine
end

