-- ==== Sys2Proof/Machine/EsnexOps.lean ====
section
/-! DEFINITION. Machine/EsnexOps.lean: requests of the dictionary's paths: MGT_FREQ, Esnex frames with their sessions, the
management transport, and the answers held for a record (18_object_dictionary_network.md). -/

namespace Sys2Proof.Machine

/-- What a request comes to: its abort code, the response's payload, and whether its answer waits for a record. -/
structure DAnswer where
  abort : Nat
  data : List Nat := []
  hold : Bool := false
  deriving DecidableEq, Repr

/-- The type of an entry; U8 where none is defined. -/
def dictType (index sub : Nat) : DType := (dictRow index sub).elim .u8 (·.ty)

/-- The value of an entry on the wire. -/
def State.dictWire (s : State) (index sub : Nat) : List Nat := wireOf (dictType index sub) (s.dictValue index sub)

/-- A value from its wire bytes, for an entry; bytes that are not of the entry's size make no number. -/
def wireValue (index sub : Nat) (l : List Nat) : DVal :=
  if (dictType index sub).varies ∨ l.length ≠ (dictType index sub).size then .bytes l else .num (ofBytes l)

/-- A write of a value whose type and size match (`tyOk`) or do not. -/
def State.dictPut (p : DPath) (index sub : Nat) (tyOk : Bool) (v : DVal) (s : State) : DAnswer × State :=
  let a := s.dictWriteAbort p index sub tyOk v
  if a = abRange then ({ abort := a }, s.valueRefused index sub v)
  else if a ≠ abOk then ({ abort := a }, s)
  else ({ abort := abOk, hold := s.persists index sub }, s.dictApply index sub v)

/-! Firmware and the secure domain (MGT_FREQ). -/

/-- A request through MGT_FREQ is answered. -/
def State.answerFreq (abort : Nat) (s : State) : State := (s.setFld MGT_FRES.ABORT abort).put MGT_FREQ.DONE true

/-- MGT_FDATA takes bytes. -/
def State.setFdata (l : List Nat) (s : State) : State :=
  s.modMgt fun m => { m with fdata := (l.zip (List.range l.length)).foldl (fun t x => Tab.set 0 t x.2 (x.1 % 256)) m.fdata }

/-- A read through MGT_FREQ. -/
def State.freqRead (p : DPath) (index sub : Nat) (s : State) : State :=
  let a := s.dictReadCheck p index sub
  if a ≠ abOk then s.answerFreq a
  else
    let l := s.dictWire index sub
    ((((s.setFld MGT_FLEN.TYPE (dictType index sub).code).setFld MGT_FLEN.SIZE l.length).setFdata l)).answerFreq abOk

/-- A write through MGT_FREQ: TYPE and SIZE in MGT_FLEN, the value in MGT_FDATA. -/
def State.freqWrite (p : DPath) (index sub : Nat) (s : State) : State :=
  let n := s.fld MGT_FLEN.SIZE
  let ty := dictType index sub
  let l := (List.range n).map fun i => Tab.get 0 s.mgt.fdata i
  let tyOk := s.fld MGT_FLEN.TYPE == ty.code && (ty.varies || n == ty.size)
  let r := s.dictPut p index sub tyOk (wireValue index sub l)
  if r.1.hold then (r.2.put MGT_FREQ.DONE false).holdAnswer { path := if p = .secure then 0 else 1, dest := 0 } false
  else r.2.answerFreq r.1.abort

/-- A write of MGT_FREQ by master `m`; GO is ignored while DONE is 0. Requests of master 4 come from the secure domain. -/
def State.writeFreq (m v : Nat) (s : State) : State :=
  let go := bit v 31 && s.on MGT_FREQ.DONE
  let s := ((s.setFld MGT_FREQ.OP (slice v 28 2)).setFld MGT_FREQ.INDEX (slice v 8 16)).setFld MGT_FREQ.SUB (slice v 0 8)
  let p := if m = 4 then DPath.secure else DPath.firmware
  if !go then s
  else if slice v 28 2 = 1 then s.freqRead p (slice v 8 16) (slice v 0 8)
  else if slice v 28 2 = 2 then s.freqWrite p (slice v 8 16) (slice v 0 8)
  else s.answerFreq abOpcode

/-! Esnex answers (R570, R575). -/

/-- Key of the last request of a source: its node, or its session. -/
def esnexKey (src session : Nat) : Nat := if session = 0 then src else 256 + session

/-- An answer leaves on the Esnex path; the last one of its source or session is kept (R570). An authenticated one takes a
hardware IV; when the key is exhausted the session closes and 0x0505 goes out without authentication. -/
def State.sendEsnex (keep : Bool) (r : Reply) (s : State) : State :=
  let q : Reply × State :=
    if r.session = 0 then (r, s)
    else
      let n := s.nextIv r.session
      match n.1 with
      | some iv => ({ r with iv := iv }, n.2)
      | none => ({ r with session := 0, abort := abKey, data := [] }, n.2.closeSession r.session)
  let on := s.on MGT_CTRL.NET_EN
  q.2.modMgt fun m => { m with
    sent := if on then m.sent ++ [q.1] else m.sent,
    last := if keep && q.1.session == r.session then Tab.set none m.last (esnexKey r.dest r.session) (some (r.seq, q.1)) else m.last }

/-- A frame is discarded and counted. -/
def State.dropFrame (s : State) : State := s.count MGT_NETCNT.DROPPED 1

/-- The answer to the request with header `h`. -/
def esnexReply (h : Esnex) (op abort : Nat) (data : List Nat) : Reply :=
  { path := 4, dest := h.src, seq := h.seq, op := op, session := if h.auth then h.session else 0, abort := abort, data := data }

/-- A refusal without authentication of a request that is not executed. -/
def State.refuseFrame (h : Esnex) (op abort : Nat) (s : State) : State :=
  s.sendEsnex false { esnexReply h op abort [] with session := 0 }

/-- The checks of R575: the abort code, and the state after them. -/
def State.authFrame (h : Esnex) (s : State) : Nat × State :=
  match Tab.get none s.mgt.sess h.session with
  | none => (abSession, s)
  | some x =>
    if x.node ≠ h.src then (abSession, s)
    else if h.iv < x.lastIv ∨ h.ivTop = true then (abIv, s)
    else if !h.tagOk then
      let s := (s.count MGT_SESCNT.TAGFAIL 1).setDict 0x1115 0 (.num ((s.dnum 0x1115 0 + 1) % 2 ^ 32))
      let s := (s.modMgt fun m => { m with sess := Tab.set none m.sess h.session (some { x with fails := x.fails + 1 }) }).assertEvent 390
      (abAuth, if 8 ≤ x.fails + 1 then s.closeSession h.session else s)
    else
      (abOk, s.modMgt fun m => { m with sess := Tab.set none m.sess h.session (some { x with fails := 0, lastIv := h.iv + 1 }) })

/-- A request refused for a full queue: counted; event 395 once per frame. -/
def State.fullFrame (s : State) : State :=
  (s.dropFrame.assertIf (!s.mgt.full395) 395).modMgt fun m => { m with full395 := true }

/-- The answer of an executed request goes out, or waits for its record. -/
def State.finishFrame (h : Esnex) (op : Nat) (r : DAnswer × State) : State :=
  let a := esnexReply h op r.1.abort r.1.data
  if r.1.hold then r.2.holdAnswer a false
  else if r.1.abort = abFull then r.2.fullFrame.sendEsnex false a
  else r.2.sendEsnex true a

/-- A request that is no repeat: the frame checks, the checks of its session, its execution. -/
def State.frameNew (h : Esnex) (op : Nat) (run : DPath → State → DAnswer × State) (s : State) : State :=
  if h.complete = false ∨ h.version ≠ 1 then s.refuseFrame h op abForm
  else if op = 0 ∨ 8 < op then s.refuseFrame h op abOpcode
  else if h.auth then
    let a := s.authFrame h
    if a.1 ≠ abOk then a.2.refuseFrame h op a.1 else State.finishFrame h op (run .session a.2)
  else State.finishFrame h op (run .esnex s)

/-- The stored answer to a repeat of the last executed request of the source or session. -/
def State.repeated (s : State) (h : Esnex) (key : Nat) : Option Reply :=
  match Tab.get none s.mgt.last key with
  | some (q, r) => if q = h.seq ∧ r.dest = h.src then some r else none
  | none => none

/-- A received Esnex frame with opcode `rowOp`, or with the header's own where that is none of Table 18.8, executed by `run` (R567, R570,
R571, R575, R665). -/
def State.frame (h : Esnex) (rowOp : Nat) (run : DPath → State → DAnswer × State) (s : State) : State :=
  let op := if h.opcode = 0 then rowOp else h.opcode
  let key := esnexKey h.src (if h.auth then h.session else 0)
  if !s.up || !s.on MGT_CTRL.NET_EN || (h.opcode != rowOp && decide (1 ≤ h.opcode) && decide (h.opcode ≤ 8)) then s
  else if h.dst = 0xFF then
    (if op = 6 ∧ h.complete = true ∧ h.version = 1 then
      (if h.auth then (if (s.authFrame h).1 = abOk then (run .session (s.authFrame h).2).2 else (s.authFrame h).2) else (run .esnex s).2)
    else s.dropFrame)
  else if h.dst ≠ s.fld MGT_STAT.NODE then s.dropFrame
  else if s.mgt.waits.any (fun w => w.reply.path == 4 && w.reply.seq == h.seq && esnexKey w.reply.dest w.reply.session == key) then s.dropFrame
  else match s.repeated h key with
    | some r => s.modMgt fun m => { m with sent := m.sent ++ [r] }
    | none => s.frameNew h op run

/-! Esnex requests (Table 18.8). -/

/-- READ: TYPE, reserved, SIZE, value; a BLOB fails. -/
def State.runRead (index sub : Nat) (p : DPath) (s : State) : DAnswer × State :=
  let a := s.dictReadCheck p index sub
  let ty := dictType index sub
  if a ≠ abOk then ({ abort := a }, s)
  else if ty = .blob then ({ abort := abType }, s)
  else
    let l := s.dictWire index sub
    ({ abort := abOk, data := [ty.code, 0] ++ toBytes l.length 2 ++ l }, s)

/-- WRITE. -/
def State.runWrite (index sub type : Nat) (v : DVal) (p : DPath) (s : State) : DAnswer × State :=
  let ty := dictType index sub
  s.dictPut p index sub (type == ty.code && ty != .blob) v

/-- READ_BLOCK: TOTAL, reserved, data. -/
def State.runReadBlock (index sub offset count : Nat) (p : DPath) (s : State) : DAnswer × State :=
  let a := s.dictReadCheck p index sub
  if a ≠ abOk then ({ abort := a }, s)
  else if !(dictType index sub).varies then ({ abort := abType }, s)
  else if count = 0 ∨ 1024 < count then ({ abort := abRange }, s)
  else
    let l := s.dictWire index sub
    ({ abort := abOk, data := toBytes l.length 2 ++ [0, 0] ++ (l.drop offset).take count }, s)

/-- A staging's key: the source node or the session. -/
def stageKey (h : Esnex) (p : DPath) : Nat := if p = .session then 256 + h.session else h.src

/-- A staging is dropped. -/
def State.dropStage (k : Nat) (s : State) : State := s.modMgt fun m => { m with stages := Tab.set none m.stages k none }

/-- WRITE_BLOCK (R569): staged; the segment that completes the value commits it as one write. -/
def State.runWriteBlock (h : Esnex) (index sub offset total : Nat) (data : List Nat) (p : DPath) (s : State) : DAnswer × State :=
  let a := s.dictWriteCheck p index sub
  let k := stageKey h p
  let fits := match dictRow index sub with
    | some r => r.ty.varies && decide (total ≤ r.hi)
    | none => false
  if a ≠ abOk then ({ abort := a }, s)
  else if !fits then ({ abort := abType }, s)
  else
    let old : List Nat := match Tab.get none s.mgt.stages k with
      | some g => if g.index = index ∧ g.sub = sub ∧ g.total = total then g.bytes else []
      | none => []
    if offset ≠ 0 ∧ (old = [] ∨ old.length ≠ offset) then ({ abort := abBlock }, s.dropStage k)
    else
      let l := if offset = 0 then data else old ++ data
      if total < l.length then ({ abort := abBlock }, s.dropStage k)
      else if l.length < total then
        ({ abort := abOk }, s.modMgt fun m => { m with stages := Tab.set none m.stages k (some { index := index, sub := sub, total := total, bytes := l }) })
      else (s.dropStage k).dictPut p index sub true (.bytes l)

/-- The Bell time of the frame start that follows (R568 SNAPSHOT). -/
def State.nextFrameBt (s : State) : Nat :=
  let e := s.fld BEL_STAT.EPOCH
  match s.bell.presetPend with
  | some f => (e + 1) % 256 * 2 ^ 56 + f % 2 ^ 40 * 2 ^ 16
  | none => e * 2 ^ 56 + (s.bell.frame + 1) % 2 ^ 40 * 2 ^ 16

/-- SNAPSHOT: a Tally snapshot at the next frame mark. -/
def State.runSnapshot (p : DPath) (s : State) : DAnswer × State :=
  let bt := toBytes s.nextFrameBt 8
  if s.dictDown true 0 0 then ({ abort := abDown }, s)
  else if p.refusesFull && decide (64 ≤ s.mgt.waits.length) then ({ abort := abFull }, s)
  else ({ abort := abOk, data := bt }, s.requestSnap)

/-- A SESSION_OPEN is refused; event 391. -/
def State.refuseSession (a : Nat) (s : State) : DAnswer × State := ({ abort := a }, (s.count MGT_SESCNT.REFUSED 1).assertEvent 391)

/-- The context of a new session: the lowest free one that has not held the latest window, else the lowest free one (R574). -/
def State.freeSession (s : State) : Option Nat :=
  let l := ((List.range 32).map (· + 32)).filter fun c => (Tab.get none s.mgt.sess c).isNone
  match l.find? fun c => decide ((s.gctx c).held < s.cip.window.getD 0) with
  | some c => some c
  | none => l.head?

/-- SESSION_OPEN (R574). -/
def State.runOpen (h : Esnex) (cred np : Nat) (p : DPath) (s : State) : DAnswer × State :=
  let k := Tab.get [] s.mgt.creds cred
  if s.dictDown true 0 0 then ({ abort := abDown }, s)
  else if p.refusesFull && decide (64 ≤ s.mgt.waits.length) then ({ abort := abFull }, s)
  else if s.ident.bn then s.refuseSession abAbsent
  else if k.isEmpty then s.refuseSession abRange
  else match s.freeSession with
    | none => s.refuseSession abNoSession
    | some c =>
      if !s.cip.rng0ok then s.refuseSession abDown
      else
        let nd := (Config.draw 0 s.cip.drawn0).toNat % 2 ^ 128
        let key := (Config.sessionKey k np nd c).toNat
        let s := s.modCip fun x => { x with
          drawn0 := x.drawn0 + 1, sess := Tab.set none x.sess c (some key), wcount := Tab.set 0 x.wcount c 0,
          gctx := Tab.upd {} x.gctx c fun g => { g with window := none, k := 0 } }
        let s := (s.modMgt fun m => { m with sess := Tab.set none m.sess c (some { node := h.src, cred := cred, key := key }) }).assertEvent 388
        let n := s.nextIv c
        match n.1 with
        | none => ({ abort := abKey }, n.2.closeSession c)
        | some iv =>
          let proof := (Config.gcmTag key iv (toBytes np 16 ++ toBytes nd 16 ++ toBytes c 2) []).toNat
          ({ abort := abOk, data := toBytes c 2 ++ [0, 0] ++ toBytes nd 16 ++ (toBytes iv 12).reverse ++ toBytes proof 16 }, n.2)

/-- SESSION_CLOSE: only in a session; the answer goes out under it, and it closes (R576). -/
def State.runClose (p : DPath) (s : State) : DAnswer × State :=
  if s.dictDown true 0 0 then ({ abort := abDown }, s)
  else if p = .session then ({ abort := abOk }, s) else ({ abort := abSession }, s)

/-! Answers held for a record (R556). -/

/-- A held answer goes out with `abort`. -/
def State.deliverHeld (abort : Nat) (w : Wait) (s : State) : State :=
  if w.cmd then
    (s.modCmd w.reply.dest fun c => { c with status := some stOk, dw0 := w.reply.op * 65536 + abort }).settle
  else if w.reply.path ≤ 1 then s.answerFreq abort
  else if w.reply.path = 4 then s.sendEsnex true { w.reply with abort := abort }
  else s.modMgt fun m => { m with sent := m.sent ++ [{ w.reply with abort := abort }] }

/-- The write of a record has ended: its answers go out; a further one starts when writes wait for it. -/
def State.recordEnded (abort ev : Nat) (s : State) : State :=
  let l := s.mgt.waits.filter fun w => !w.next
  let again := s.mgt.recNext
  let s := (s.modMgt fun m => { m with recNow := none, recNext := false, waits := m.waits.filter (·.next) }).assertEvent ev
  let s := each l (State.deliverHeld abort) s
  if again then s.startRecord else s

/-- The record is in both copies; a dump commit has stopped its programs (Table 13.3). -/
def State.recordDone (s : State) : State :=
  match s.mgt.recNow with
  | none => s
  | some r =>
    let g := s.mgt.recGen
    if s.hld.committed then s else (s.modMgt fun m => { m with copyA := some (g, r), copyB := some (g, r) }).recordEnded abOk 384

/-- The program of a copy fails or cannot start in time: copy A keeps the new record when only copy B failed. -/
def State.recordFailed (copyB : Bool) (s : State) : State :=
  match s.mgt.recNow with
  | none => s
  | some r =>
    let g := s.mgt.recGen
    let copyB := copyB && !s.hld.committed
    (if copyB then s.modMgt fun m => { m with copyA := some (g, r) } else s).recordEnded abPersist 385

/-! MCTP (R580, R581). -/

/-- Is the medium in use? -/
def State.mediumOn (s : State) : MctpMedium → Bool
  | .smbus => s.coldNum 0x1130 0 == 0
  | .i3c => s.coldNum 0x1130 0 == 1
  | .pcieVdm => s.dnum 0x1132 0 == 1 && s.on (PCI_LSTAT.LINKUP 0)

/-- May NVMe-MI commands be answered? -/
def State.miOn (s : State) : Bool := s.up && s.on MGT_CTRL.MCTP_EN && !s.mgt.mctpPaused

/-- An NVMe-MI answer: `abort` holds the NVMe-MI status, 0 Success (its numbers are log entry 17's). -/
def State.sendMi (op abort : Nat) (data : List Nat) (s : State) : State :=
  if s.miOn then s.modMgt fun m => { m with sent := m.sent ++ [{ path := 3, op := op, abort := abort, data := data }] } else s

/-- NVMe-MI status Invalid Command Opcode -/
def miOpcode : Nat := 3
/-- NVMe-MI status Invalid Parameter -/
def miParam : Nat := 4
/-- NVMe-MI status Internal Error -/
def miInternal : Nat := 2

/-- The composite fields of a subsystem health poll: Critical Warning, Available Spare, its threshold, Percentage Used, Composite
Temperature. -/
def State.healthFields (s : State) : List Nat :=
  [s.med.critWarn, s.spareLeft, s.dnum 0x7002 0, s.wearUsed, s.composite.toNat]

end Sys2Proof.Machine
end

