-- ==== Sys2Proof/Machine/LogOps.lean ====
section
/-! DEFINITION. Machine/LogOps.lean: what Identify, the log pages and the standard features return (R116, R118, R129, R140,
R142, R154, R188, R263, R396, R548, R589, R603). The vendor pages are bytes in the spec's layout; of the standard structures
and pages the fields that the spec gives a value stand in the order named, one number each (log entry 17). -/

namespace Sys2Proof.Machine

/-! Identify. -/

/-- A namespace: NSZE, NCAP, highest format index, format in use, protection type, shared, NAWUN, NAWUPF, NABSN, NABO, NABSPF
and DLFEAT (R140, R233, R367). -/
def State.idNs (s : State) (n : Nat) : List Nat :=
  let x := s.ns n
  let au := 2 ^ (18 - x.bshift) - 1
  [x.nsze, x.nsze, 4, x.lbaf, x.pi, 1, au, au, 0, 0, 0, 1]

/-- A zoned namespace (Table 6.1): ZOC, OZCS, MAR, MOR, RRL, FRL, ZSZE, descriptor extension size. -/
def State.idZoned (s : State) (n : Nat) : List Nat :=
  let x := s.ns n
  [0, 1, x.actLim - 1, x.openLim - 1, 0, 0, x.zoneBlocks, 0]

/-- The controller: VID, MDTS, AERL, NN, AWUN, AWUPF, ACWU, VWC, WCTEMP, CCTEMP, firmware slots, SANICAP (Crypto Erase, Block
Erase), ANACAP, last endurance group, controller ID; then the serial number's bytes. -/
def State.idCtrl (s : State) (f : Nat) : List Nat :=
  [Config.vendorId.toNat, 9, 7, 64, 63, 63, 0, 0, 368, 383, 2, if s.ident.bn then 2 else 3, 0, 1, f] ++ Config.serialNumber.map (·.toNat)

/-- The namespaces above `nsid` that `p` marks. -/
def State.nsList (s : State) (nsid : Nat) (p : Nat → Bool) : List Nat :=
  ((List.range 64).filter fun n => decide (nsid < n + 1) && (s.ns n).kind != 0 && p n).map (· + 1)

/-- Identify for function `f` (CNS numbers are NVMe's): the status and the data. -/
def State.identifyData (s : State) (f nsid cns cntid csi : Nat) : Nat × List Nat :=
  let ok := s.nsExists nsid
  let mine := fun n => (s.ns n).attached.contains f
  let ns := fun (all : Bool) =>
    if nsid = 0xFFFFFFFF then (stOk, [0, 0, 4, 0, 0, 1, 63, 63, 0, 0, 0, 1])
    else if !ok then (stNamespace, [])
    else (stOk, if all || mine (nsid - 1) then s.idNs (nsid - 1) else List.replicate 12 0)
  match cns with
  | 0x00 => ns false
  | 0x01 => (stOk, s.idCtrl f)
  | 0x02 => (stOk, s.nsList nsid mine)
  | 0x03 => if ok then (stOk, [if (s.ns (nsid - 1)).kind = 2 then 2 else 0]) else (stNamespace, [])
  | 0x05 =>
    if !ok then (stNamespace, [])
    else if csi = 2 ∧ (s.ns (nsid - 1)).kind = 2 then (stOk, if mine (nsid - 1) then s.idZoned (nsid - 1) else List.replicate 8 0)
    else if csi = 0 then (stOk, [0])
    else (stField, [])
  | 0x06 => if csi = 2 then (stOk, [9]) else if csi = 0 then (stOk, [0]) else (stField, [])
  | 0x10 => (stOk, s.nsList nsid fun _ => true)
  | 0x11 => ns true
  | 0x12 => if ok then (stOk, (s.ns (nsid - 1)).attached.filter fun g => decide (cntid ≤ g)) else (stNamespace, [])
  | 0x13 => (stOk, (List.range 512).filter fun g => decide (cntid ≤ g) && s.fnExists g)
  | 0x1C => (stOk, [5])
  | _ => (stField, [])

/-! Log pages. -/

/-- `numd + 1` Dwords of a page of bytes from byte `lpo` on. -/
def logBytes (numd lpo : Nat) (byte : Nat → Nat) : List Nat := (List.range ((numd + 1) * 4)).map fun i => byte (lpo + i)

/-- An entry of log page C0h (Table 12.3). -/
def Lost.bytes (l : Lost) : List Nat :=
  toBytes l.nsid 4 ++ toBytes l.nlb 4 ++ toBytes l.slba 8 ++ toBytes l.map 8 ++ toBytes l.bt 8 ++ toBytes l.sset 2 ++ toBytes l.row 2
    ++ toBytes l.stripe 4 ++ toBytes l.mepoch 2 ++ [l.cause] ++ List.replicate 21 0

/-- Byte `i` of log page C0h (R396). -/
def State.lostByte (s : State) (i : Nat) : Nat :=
  if i < 64 then (toBytes s.msh.lostEver 8 ++ toBytes s.msh.lost.length 4 ++ toBytes s.msh.lostGen 8).getD i 0
  else match s.msh.lost[(i - 64) / 64]? with
    | some l => l.bytes.getD (i % 64) 0
    | none => 0

/-- The snapshot log page C1h selects: the latest, or the held one whose epoch has these low bits (R589). -/
def State.snapFor (s : State) (lsp lsi : Nat) : Option Snap :=
  if lsp % 2 = 0 then some (s.tly.snaps.headD {}) else s.tly.snaps.find? fun x => x.epoch % 65536 == lsi

/-- Byte `i` of log page C1h for function `f` (Table 19.2). -/
def State.snapByte (s : State) (f : Nat) (x : Snap) (i : Nat) : Nat :=
  let c := (i - 64) / 8
  if i < 64 then (toBytes x.epoch 4 ++ [0, 0, 0, 0] ++ toBytes x.bt 8 ++ toBytes 3840 4 ++ toBytes (s.dnum 0x5F00 0) 4).getD i 0
  else if 3840 ≤ c ∨ (s.isPf f = false ∧ c < 1536 ∧ c % 512 ≠ f) then 0
  else (toBytes (Tab.get 0 x.values c) 8).getD (i % 8) 0

/-- The lowest and the highest SEQ of records; 0 with none. -/
def seqLow (l : List Rec) : Nat := match l with | [] => 0 | r :: t => t.foldl (fun m x => min m x.seq) r.seq
/-- The highest. -/
def seqHigh (l : List Rec) : Nat := l.foldl (fun m x => max m x.seq) 0

/-- Byte `i` of log page C2h (Table 19.6). -/
def State.recByte (s : State) (i : Nat) : Nat :=
  if i < 512 then
    (toBytes (seqLow s.evr.first) 8 ++ toBytes (seqHigh s.evr.first) 8 ++ toBytes (seqLow (s.evr.last.map (·.2) ++ s.evr.ring ++ s.evr.flushed)) 8
      ++ toBytes s.evr.nextSeq 8 ++ toBytes s.evr.dropped 8).getD i 0
  else match s.heldRecs.find? fun r => r.seq == (i - 512) / 96 + 1 with
    | some r => (r.words.flatMap fun w => toBytes w 4).getD ((i - 512) % 96) 0
    | none => 0

/-- Log page identifiers supported. -/
def logPages : List Nat := [0x00, 0x01, 0x02, 0x03, 0x05, 0x06, 0x12, 0x20, 0x21, 0x22, 0x23, 0x81, 0xBF, 0xC0, 0xC1, 0xC2]

/-- Feature identifiers supported (Tables 4.3 and 4.4). -/
def featureIds : List Nat := [0x01, 0x02, 0x04, 0x07, 0x08, 0x09, 0x0B, 0x0E, 0x16, 0x1D, 0x1E, 0xC0, 0xC1, 0xC2]

/-- Admin opcodes supported. -/
def adminOpcodes : List Nat :=
  [0x00, 0x01, 0x02, 0x04, 0x05, 0x06, 0x08, 0x09, 0x0A, 0x0C, 0x0D, 0x10, 0x11, 0x14, 0x15, 0x1D, 0x1E, 0x80, 0x84, 0xC0, 0xC1]

/-- I/O opcodes supported. -/
def ioOpcodes : List Nat := [0x00, 0x01, 0x02, 0x08, 0x09, 0x0C, 0x12, 0x1D, 0x79, 0x7A, 0x7D, 0x81]

/-- The Effects field of an opcode or feature (R155): bit 0 where it is supported; no namespace or controller capability change (bits
4 to 2) for the vendor's own; what it says else is a free value. -/
def effectsOf (k : Nat) (supported vendor : Bool) : Nat :=
  let x := (Config.effects k).toNat
  if !supported then 0
  else if vendor then 1 + 2 * slice x 1 1 + 32 * slice x 5 27
  else 1 + 2 * slice x 1 31

/-- Reclaim unit handle type Initially Isolated (R207), with NVMe's number. -/
def ruhInitially : Nat := 1

/-- A standard log page for function `f`: the status and the data. Page 20h: FDP configuration 0, whether FDP is enabled, groups, handles,
RUNS and the type of each handle (R207); page 22h: host bytes, media bytes written and media bytes erased (R211). -/
def State.logData (s : State) (f nsid lid : Nat) : Nat × List Nat :=
  let x := s.ns (nsid - 1)
  match lid with
  | 0x00 => (stOk, logPages)
  | 0x01 => (stOk, (s.fn f).errLog.flatMap fun e => [e.1, e.2.1, e.2.2])
  | 0x02 => (stOk, s.healthFields ++ [s.dnum 0x7004 5])
  | 0x03 => (stOk, [s.nv.fwNext, (Tab.get [] s.nv.fwSlots 1).length, (Tab.get [] s.nv.fwSlots 2).length])
  | 0x05 => (stOk, ((List.range 256).map fun o => effectsOf o (adminOpcodes.contains o) false) ++
      (List.range 256).map fun o => effectsOf (256 + o) (ioOpcodes.contains o) (o == 0x81))
  | 0x06 => (stOk, s.hfe.selfTest :: s.nv.stLog.flatMap fun e => [e.1, e.2])
  | 0x12 => (stOk, (List.range 256).map fun o => effectsOf (512 + o) (featureIds.contains o) (decide (0xC0 ≤ o)))
  | 0x20 => (stOk, [0, s.zpm.fdpOn.toNat, s.dnum 0x3101 0, s.dnum 0x3102 0, s.fld (ZPM_PGRP.ROW (s.fld (ZPM_SSET.PGRP (s.rgSet 0)))) * 2 ^ 20] ++
      List.replicate (s.dnum 0x3102 0) ruhInitially)
  | 0x21 => (stOk, (List.range (s.dnum 0x3102 0)).map fun h => (s.zpm.ns.any fun n => n.2.handles.contains h).toNat)
  | 0x22 => (stOk, (List.range 3).map fun k => Tab.get 0 s.zpm.fdpStats k)
  | 0x23 => (stOk, s.zpm.fdpEvents)
  | 0x81 => (stOk, [s.nv.sanStat])
  | 0xBF =>
    if !s.nsExists nsid || !x.attached.contains f then (stNamespace, [])
    else if x.kind ≠ 2 then (stField, [])
    else if 511 < x.changed.length then (stOk, [0xFFFF])
    else (stOk, x.changed.length :: x.changed.map fun i => s.zoneStart i)
  | _ => (stField, [])

/-- The masks of the event types whose posted event names log page `lid` are lifted (R507). -/
def State.liftMask (f lid : Nat) (s : State) : State :=
  postAens 8 f (s.modFn f fun r => { r with masked := r.masked.filter fun e => e / 65536 != lid })

/-- A log page was read with Retain Asynchronous Event 0: its mask is lifted; the Changed Zone List starts anew. -/
def State.readLog (f nsid lid : Nat) (s : State) : State :=
  let s := s.liftMask f lid
  if lid = 0xBF then s.modNs (nsid - 1) fun n => { n with changed := [] } else s

/-! Features. -/

/-- Standard features held as a number per function. -/
def plainFeature (fid : Nat) : Bool := [0x01, 0x04, 0x08, 0x09, 0x0B, 0x0E, 0x16].contains fid

/-- The key under which a feature's value is held, of the Dword 11 of its command: Interrupt Vector Configuration holds one for each
vector, Temperature Threshold one for each sensor and direction. -/
def featureKey (fid w : Nat) : Nat :=
  if fid = 0x09 then 0x90000 + w % 65536
  else if fid = 0x04 ∧ slice w 16 6 ≠ 0 then 0x40000 + slice w 16 6
  else fid

/-- The default of a standard feature (R548: the Temperature Threshold is 368 K until set). -/
def featureDefault (fid : Nat) : Nat := if fid = 0x04 then 368 else 0

/-- Milliseconds since the Timestamp feature was set. -/
def State.sinceStamp (s : State) (f : Nat) : Nat := (s.now - Tab.get 0 (s.fn f).feats 0xE0000) / 25000

/-- A standard feature is set: its Dword 11, or the data structure it names. -/
def State.setFeature (f fid v : Nat) (s : State) : State :=
  let t := s.now
  let s := s.modFn f fun r => { r with feats := Tab.set 0 r.feats (featureKey fid v) v }
  if fid = 0x0E then s.modFn f fun r => { r with feats := Tab.set 0 r.feats 0xE0000 t } else s

/-- The current value of a standard feature, for Dword 11 `w` of the command that asks. -/
def State.featureValue (s : State) (f fid w : Nat) : Nat :=
  match fid with
  | 0x04 => if slice w 16 6 = 0 then s.tempThreshold f else Tab.get 0 (s.fn f).feats (featureKey fid w)
  | 0x0E => (Tab.get 0 (s.fn f).feats 0x0E + s.sinceStamp f) % 2 ^ 48
  | _ => Tab.get 0 (s.fn f).feats (if fid = 0x09 then featureKey fid w else fid)

/-- NSQ and NCQ in force of function `f`, 0's based, as Number of Queues reports them (R116); a count of 0 has no 0's based form: a
free value. -/
def State.queueCounts (s : State) (f : Nat) : Nat :=
  let x := (Config.freeWord s.free).toNat
  let part := fun (n k : Nat) => if n = 0 then slice x k 16 else n - 1
  part (s.fn f).ncq 16 * 65536 + part (s.fn f).nsq 0

/-- May function `f` set or read the weights and tail class of function `g` (R163)? -/
def State.mayTarget (s : State) (set : Bool) (f g : Nat) : Bool :=
  if s.isPf f then s.portOf f == s.portOf g && (s.portFns (s.portOf f)).contains g else !set && f == g

end Sys2Proof.Machine
end

