-- ==== Sys2Proof/Machine/AdmOps.lean ====
section
/-! DEFINITION. Machine/AdmOps.lean: the effect of each admin command at its dispatch, as operations (R116, R118, R133 to R136,
R150, R154, R163 to R166, R186 to R188, R205, R208, R473, R507, R524, R579). -/

namespace Sys2Proof.Machine

/-- More status names with NVMe's numbers (log entry 17): Invalid Firmware Image -/
def stFwImage : Nat := 0x107
/-- Firmware Activation Requires Conventional Reset -/
def stFwReset : Nat := 0x10B
/-- Device Self-test In Progress -/
def stSelfTest : Nat := 0x11D
/-- Command Aborted due to SQ Deletion -/
def stSqDeleted : Nat := 0x008

/-- The command of ticket `t` succeeds with Dwords 0 and 1 and data. -/
def State.answer (t dw0 : Nat) (data : List Nat) (s : State) : State :=
  (s.modCmd t fun c => { c with dw0 := dw0, got := data.map fun v => (0, v) }).outcome t stOk

/-- It ends with a status, and the data where that is Success. -/
def State.answerWith (t : Nat) (r : Nat × List Nat) (s : State) : State :=
  if r.1 = stOk then s.answer t 0 r.2 else s.outcome t r.1

/-- It ends with the status of an operation that has changed the state. -/
def State.ended (t : Nat) (r : Nat × State) : State := r.2.outcome t r.1

/-! Log pages and Identify. -/

/-- Get Log Page of a standard page. -/
def State.getLog (c : Cmd) (lid : Nat) (rae : Bool) (s : State) : State :=
  let r := s.logData c.fn c.nsid lid
  let s := s.answerWith c.ticket r
  if r.1 = stOk ∧ rae = false then s.readLog c.fn c.nsid lid else s

/-- Log page C0h (R396). -/
def State.getLost (c : Cmd) (numd lpo : Nat) (s : State) : State :=
  (s.answer c.ticket 0 (logBytes numd lpo s.lostByte)).liftMask c.fn 0xC0

/-- Log page C1h (R589). -/
def State.getSnap (c : Cmd) (lsp lsi numd lpo : Nat) (s : State) : State :=
  match s.snapFor lsp lsi with
  | none => s.outcome c.ticket stField
  | some x => (s.answer c.ticket 0 (logBytes numd lpo (s.snapByte c.fn x))).liftMask c.fn 0xC1

/-- Log page C2h (R603): physical functions only. -/
def State.getRecs (c : Cmd) (numd lpo : Nat) (s : State) : State :=
  if s.isPf c.fn then (s.answer c.ticket 0 (logBytes numd lpo s.recByte)).liftMask c.fn 0xC2 else s.outcome c.ticket stField

/-! Queues (R116, R118, R136). -/

/-- I/O submission queues of function `f`. -/
def State.sqsOf (s : State) (f : Nat) : Nat := s.hfe.sqs.countP fun e => e.1 / 65536 == f && e.1 % 65536 != 0 && e.2.size != 0
/-- I/O completion queues of function `f`. -/
def State.cqsOf (s : State) (f : Nat) : Nat := s.hfe.cqs.countP fun e => e.1 / 65536 == f && e.1 % 65536 != 0 && e.2.size != 0

/-- Create I/O Completion Queue; QSIZE is 0's based. -/
def State.createCq (c : Cmd) (qid qsize vec : Nat) (ien : Bool) (s : State) : State :=
  let r := s.fn c.fn
  if qid = 0 ∨ r.ncq < qid ∨ r.ncq ≤ s.cqsOf c.fn ∨ (s.cq c.fn qid).size ≠ 0 then s.outcome c.ticket stQueueId
  else if qsize = 0 ∨ 65536 ≤ qsize then s.outcome c.ticket stQueueSize
  else if ien ∧ s.vectors c.fn ≤ vec then s.outcome c.ticket stVector
  else ((s.modCq c.fn qid fun _ => { size := qsize + 1, vec := vec, ien := ien })).answer c.ticket 0 []

/-- Create I/O Submission Queue: unordered (R136). -/
def State.createSq (c : Cmd) (qid qsize cqid prio : Nat) (s : State) : State :=
  let r := s.fn c.fn
  if qid = 0 ∨ r.nsq < qid ∨ r.nsq ≤ s.sqsOf c.fn ∨ (s.sq c.fn qid).size ≠ 0 then s.outcome c.ticket stQueueId
  else if cqid = 0 ∨ (s.cq c.fn cqid).size = 0 then s.outcome c.ticket stCqInvalid
  else if qsize = 0 ∨ 65536 ≤ qsize then s.outcome c.ticket stQueueSize
  else (s.modSq c.fn qid fun _ => { size := qsize + 1, cqid := cqid, prio := prio % 4 }).answer c.ticket 0 []

/-- Delete I/O Submission Queue: what it still holds is aborted. -/
def State.deleteSq (c : Cmd) (qid : Nat) (s : State) : State :=
  if qid = 0 ∨ (s.sq c.fn qid).size = 0 then s.outcome c.ticket stQueueId
  else
    let l := (s.hfe.ctx.filter fun d => d.fn == c.fn && d.sqid == qid && d.status.isNone).reverse
    let s := (each l (fun d s => s.failCmd d.ticket stSqDeleted) s).postAll
    let s := s.modHfe fun h => { h with
      ctx := h.ctx.filter (fun d => !(d.fn == c.fn && d.sqid == qid)),
      tickets := h.tickets.filter (fun t => !(t.fn == c.fn && t.sqid == qid)),
      held := h.held.filter (fun d => d.cq || !(d.fn == c.fn && d.qid == qid)),
      sqs := Tab.set {} h.sqs (qkey c.fn qid) {} }
    s.answer c.ticket 0 []

/-- Delete I/O Completion Queue: not while a submission queue uses it. -/
def State.deleteCq (c : Cmd) (qid : Nat) (s : State) : State :=
  if qid = 0 ∨ (s.cq c.fn qid).size = 0 then s.outcome c.ticket stQueueId
  else if s.hfe.sqs.any fun e => e.1 / 65536 == c.fn && e.2.size != 0 && e.2.cqid == qid then s.outcome c.ticket stQueueDelete
  else (s.modCq c.fn qid fun _ => {}).answer c.ticket 0 []

/-! Features. -/

/-- Number of Queues (R116): NSQ and NCQ whatever is asked. -/
def State.numberOfQueues (c : Cmd) (s : State) : State := (s.answer c.ticket (s.queueCounts c.fn) []).tookFree

/-- Set Features Power Management (R523, R524). -/
def State.powerFeature (c : Cmd) (ps : Nat) (s : State) : State :=
  if 4 < ps then s.outcome c.ticket stField else (s.answer c.ticket 0 []).setPs ps

/-- Does Command Dword 11 name an I/O submission queue of the function, with its reserved bits zero (Table 4.1)? -/
def State.orderField (s : State) (f w : Nat) : Bool :=
  slice w 17 15 == 0 && slice w 0 16 != 0 && (s.sq f (slice w 0 16)).size != 0

/-- Set feature C0h (R133, R134); event 205 when the attribute changes. -/
def State.setOrdering (c : Cmd) (w : Nat) (sv : Bool) (s : State) : State :=
  let q := slice w 0 16
  if sv then s.outcome c.ticket stNotSaveable
  else if !s.orderField c.fn w then s.outcome c.ticket stField
  else
    let old := (s.sq c.fn q).orderedFor c.ticket
    ((s.setOrdered c.fn q c.ticket (bit w 16)).answer c.ticket 0 []).assertIf (old != bit w 16) 205

/-- Get feature C0h. -/
def State.getOrdering (c : Cmd) (w : Nat) (s : State) : State :=
  if s.orderField c.fn (setBit w 16 false) then s.answer c.ticket ((s.sq c.fn (slice w 0 16)).ordered.toNat * 2 ^ 16) []
  else s.outcome c.ticket stField

/-- The command completes once the configuration record holds what it wrote (R164, R556). -/
def State.holdSet (t : Nat) (s : State) : State := s.holdAnswer { path := 2, dest := t } true

/-- Are the fields of feature C1h's Dwords within the rights and reserved bits of R163? -/
def State.weightField (s : State) (set : Bool) (f w v : Nat) : Bool :=
  slice w 24 8 == 0 && slice w 9 7 == 0 && slice v 11 21 == 0 && s.mayTarget set f (slice w 0 9)

/-- Set feature C1h (R164, Table 5.2); event 213. -/
def State.setWeights (c : Cmd) (w v : Nat) (s : State) : State :=
  let wt := slice w 16 8
  let sh := slice v 0 11
  if !s.weightField true c.fn w v || wt == 0 || sh == 0 || decide (1024 < sh) then s.outcome c.ticket stField
  else
    let f := slice w 0 9
    (((s.setDict (0x4000 + f) 5 (.num wt)).setDict (0x4000 + f) 6 (.num sh)).assertEvent 213).holdSet c.ticket

/-- Get feature C1h. -/
def State.getWeights (c : Cmd) (w v : Nat) (s : State) : State :=
  if s.weightField false c.fn w v then
    s.answer c.ticket (s.fnSetting (slice w 0 9) 5 * 2 ^ 16 + s.fnSetting (slice w 0 9) 6) []
  else s.outcome c.ticket stField

/-- Are the fields of feature C2h's Dword 11 within the rights and reserved bits of R163? -/
def State.tailField (s : State) (set : Bool) (f w : Nat) : Bool :=
  slice w 17 15 == 0 && slice w 9 7 == 0 && s.mayTarget set f (slice w 0 9)

/-- Set feature C2h (R164 to R166, R205). -/
def State.setTailClass (c : Cmd) (w : Nat) (s : State) : State :=
  let f := slice w 0 9
  let v := bit w 16
  if !s.tailField true c.fn w || !s.fnValueOk f 7 v.toNat || (!v && s.tailBound f) then s.outcome c.ticket stField
  else ((s.setTail f (c.ticket + 1) v).checkOverlap s.tailCounts).holdSet c.ticket

/-- Get feature C2h. -/
def State.getTailClass (c : Cmd) (w : Nat) (s : State) : State :=
  if s.tailField false c.fn w then s.answer c.ticket ((s.isTail (slice w 0 9)).toNat * 2 ^ 16) [] else s.outcome c.ticket stField

/-- Set Features FDP (R207, R208). -/
def State.setFdp (c : Cmd) (endgid : Nat) (enable : Bool) (s : State) : State :=
  let sets := (List.range (s.dnum 0x3101 0)).map s.rgSet
  let row := fun t => s.fld (ZPM_PGRP.ROW (s.fld (ZPM_SSET.PGRP t)))
  if endgid ≠ 1 ∨ (s.zpm.ns.any fun n => n.2.kind != 0) = true ∨ (sets.any fun t => !s.on (ZPM_SSET.VALID t)) = true
      ∨ (sets.any fun t => row t != row (sets.headD 0)) = true then s.outcome c.ticket stField
  else (s.modZpm fun z => { z with fdpOn := enable }).answer c.ticket 0 []

/-- FDP event types the device logs, with NVMe's numbers: Reclaim Unit Not Fully Written and Media Reallocated (R210). -/
def fdpTypes : List Nat := [0, 0x80]

/-- The key of the event types of a placement handle, where the command's namespace has it and FDP is enabled. -/
def State.fdpHandle (s : State) (c : Cmd) (w : Nat) : Option Nat :=
  if s.zpm.fdpOn && s.nsFor c.fn c.nsid && decide (w % 2 ^ 16 < (s.ns (c.nsid - 1)).handles.length) then some ((c.nsid - 1) * 2 ^ 16 + w % 2 ^ 16)
  else none

/-- Set Features FDP Events (R210), in NVMe's form (log entry 53): Dword 11 holds the placement handle and the number of event types of the
data, Dword 12 whether they are enabled or disabled. -/
def State.setFdpEvents (c : Cmd) (w w12 : Nat) (data : List Nat) (s : State) : State :=
  let l := data.take (slice w 16 8)
  match s.fdpHandle c w with
  | none => s.outcome c.ticket stField
  | some k =>
    if l.any fun t => !fdpTypes.contains t then s.outcome c.ticket stField
    else (s.modZpm fun z => { z with fdpEn := Tab.upd [] z.fdpEn k fun e => if bit w12 0 then l.foldl (fun e t => addTo t e) e else e.filter fun t => !l.contains t }).answer
      c.ticket 0 []

/-- The event types of a handle, each with whether it is enabled. -/
def State.fdpTypeList (s : State) (k : Nat) : List Nat := fdpTypes.flatMap fun t => [t, ((Tab.get [] s.zpm.fdpEn k).contains t).toNat]

/-- Get Features FDP Events: the number of types, then each with whether it is enabled. -/
def State.getFdpEvents (c : Cmd) (w : Nat) (s : State) : State :=
  match s.fdpHandle c w with
  | none => s.outcome c.ticket stField
  | some k => s.answer c.ticket fdpTypes.length (s.fdpTypeList k)

/-- Set Features (R154): a standard feature, or the vendor feature its number names; `w` is Dword 12. -/
def State.setFeatures (c : Cmd) (fid v : Nat) (sv : Bool) (w : Nat) (data : List Nat) (s : State) : State :=
  match fid with
  | 0x02 => if sv then s.outcome c.ticket stNotSaveable else s.powerFeature c (v % 32)
  | 0x07 => if sv then s.outcome c.ticket stNotSaveable else s.numberOfQueues c
  | 0xC0 => s.setOrdering c v sv
  | 0x1D => if sv then s.outcome c.ticket stNotSaveable else s.setFdp c (v % 2 ^ 16) (bit w 0)
  | 0x1E => if sv then s.outcome c.ticket stNotSaveable else s.setFdpEvents c v w data
  | 0xC1 => s.setWeights c v w
  | 0xC2 => s.setTailClass c v
  | _ =>
    if !plainFeature fid then s.outcome c.ticket stField
    else if sv then s.outcome c.ticket stNotSaveable
    else (s.setFeature c.fn fid v).answer c.ticket 0 []

/-- Get Features (R154): the current value; of a standard feature the default for SEL 1 and Changeable for SEL 3; of a vendor feature
the current value with any SEL (R164). Timestamp and Host Behavior Support return a data structure. -/
def State.getFeatures (c : Cmd) (fid sel w : Nat) (s : State) : State :=
  if !featureIds.contains fid then s.outcome c.ticket stField
  else if sel = 3 ∧ fid < 0xC0 then s.answer c.ticket 4 []
  else match fid with
    | 0x02 => s.answer c.ticket (s.fld PWR_STAT.PS) []
    | 0x07 => s.numberOfQueues c
    | 0x1D => s.answer c.ticket s.zpm.fdpOn.toNat []
    | 0x1E => s.getFdpEvents c w
    | 0xC0 => s.getOrdering c w
    | 0xC1 => s.getWeights c w 0
    | 0xC2 => s.getTailClass c w
    | 0x0E => s.answer c.ticket 0 (toBytes (if sel = 1 then 0 else s.featureValue c.fn fid w) 8)
    | 0x16 => s.answer c.ticket 0 (toBytes (if sel = 1 then 0 else s.featureValue c.fn fid w) 512)
    | _ => s.answer c.ticket (if sel = 1 then featureDefault fid else s.featureValue c.fn fid w) []

/-! Abort and asynchronous events. -/

/-- Abort (R150). -/
def State.abortNamed (c : Cmd) (sqid cid : Nat) (s : State) : State :=
  match s.hfe.ctx.find? fun d => d.fn == c.fn && d.sqid == sqid && d.cid == cid && d.ticket != c.ticket && !d.dispatched && d.status.isNone with
  | some d => (s.failCmd d.ticket stAborted).answer c.ticket 0 []
  | none => s.answer c.ticket 1 []

/-- An Asynchronous Event Request is held, at most eight, and completed with the oldest unmasked event (R507). -/
def State.holdAer (c : Cmd) (s : State) : State :=
  if 8 ≤ (s.fn c.fn).aers.length then s.outcome c.ticket stAerLimit
  else postAens 8 c.fn (s.modFn c.fn fun r => { r with aers := r.aers ++ [(c.cid, c.ticket)] })

/-! Firmware, self-test, NVMe-MI. -/

/-- Firmware Image Download: bytes at Dword offset `ofst`. -/
def State.download (c : Cmd) (numd ofst : Nat) (data : List Nat) (s : State) : State :=
  let l := (List.range ((numd + 1) * 4)).map fun i => data.getD i 0 % 256 + 1
  (s.modHfe fun h => { h with fwBuf := (l.zip (List.range l.length)).foldl (fun t x => Tab.set 0 t (ofst * 4 + x.2) x.1) h.fwBuf }).answer c.ticket 0 []

/-- The downloaded image, to the highest byte written. -/
def State.fwImage (s : State) : List Nat :=
  (List.range (s.hfe.fwBuf.foldl (fun m e => max m (e.1 + 1)) 0)).map fun i => Tab.get 0 s.hfe.fwBuf i - 1

/-- Firmware Commit to one of the 2 slots (slot 0: the device takes slot 2): 0 and 1 store the downloaded image, 1 and 2 mark it
for the next start, 3 asks for what only a start does. -/
def State.fwCommit (c : Cmd) (slot action : Nat) (s : State) : State :=
  let k := if slot = 0 then 2 else slot
  let img := s.fwImage
  if 2 < slot then s.outcome c.ticket stFwSlot
  else if 3 < action then s.outcome c.ticket stField
  else if action ≤ 1 then
    if img = [] then s.outcome c.ticket stFwImage
    else
      let s := (s.modNv fun v => { v with fwSlots := Tab.set [] v.fwSlots k img, fwNext := if action = 1 then k else v.fwNext }).modHfe
        fun h => { h with fwBuf := [] }
      s.answer c.ticket 0 []
  else if Tab.get [] s.nv.fwSlots k = [] then s.outcome c.ticket stFwImage
  else
    let s := s.modNv fun v => { v with fwNext := k }
    if action = 3 then s.outcome c.ticket stFwReset else s.answer c.ticket 0 []

/-- Device Self-test: 1 short and 2 extended start, 0xF aborts; the flow is firmware's (log entry 26). -/
def State.selfTest (c : Cmd) (stc : Nat) (s : State) : State :=
  if stc = 0xF then
    let k := s.hfe.selfTest
    let s := if k = 0 then s else s.modNv fun v => { v with stLog := ((k, 1) :: v.stLog).take 20 }
    (s.modHfe fun h => { h with selfTest := 0 }).answer c.ticket 0 []
  else if stc ≠ 1 ∧ stc ≠ 2 then s.outcome c.ticket stField
  else if s.hfe.selfTest ≠ 0 then s.outcome c.ticket stSelfTest
  else (s.modHfe fun h => { h with selfTest := stc }).answer c.ticket 0 []

/-- The answer to an NVMe-MI request in-band (Table 18.10): its status and its bytes. Byte 0 is the opcode, with NVMe-MI's
numbers; the bytes behind it are the command's. -/
def State.miReply (s : State) (f : Nat) (q : List Nat) : Nat × List Nat :=
  let a := q.getD 1 0
  match q.headD 0 with
  | 0 => (0, [a, (Config.freeWord s.free).toNat])
  | 1 => (0, s.healthFields)
  | 2 => (0, [f, (s.fn f).rdy.toNat, (s.fn f).cfs.toNat] ++ s.healthFields)
  | 3 => if (a = 1 ∧ 1 ≤ q.getD 2 0 ∧ q.getD 2 0 ≤ 3) ∨ (a = 3 ∧ 64 ≤ q.getD 2 0 ∧ q.getD 2 0 ≤ 250) then (0, []) else (miParam, [])
  | 4 => if a = 1 then (0, [s.mgt.smbFreq]) else if a = 3 then (0, [s.mgt.mctpUnit]) else (miParam, [])
  | 5 =>
    if s.dictReadCheck .pf 0x1010 0 ≠ abOk then (miInternal, [])
    else if (s.dictBytes 0x1010 0).length < a + q.getD 2 0 then (miParam, [])
    else (0, ((s.dictBytes 0x1010 0).drop a).take (q.getD 2 0))
  | 6 => if 256 < a + (q.drop 2).length then (miParam, []) else (0, [])
  | _ => (miOpcode, [])

/-- The state an NVMe-MI request leaves; true when its answer waits for a record. -/
def State.miRun (q : List Nat) (s : State) : Bool × State :=
  let a := q.getD 1 0
  match q.headD 0 with
  | 0 => (false, s.tookFree)
  | 3 => (false, s.modMgt fun m => if a = 1 then { m with smbFreq := q.getD 2 0 } else { m with mctpUnit := q.getD 2 0 })
  | 6 =>
    let old := s.dictBytes 0x1010 0
    let l := (old.take a ++ List.replicate (a - old.length) 0) ++ q.drop 2 ++ old.drop (a + (q.drop 2).length)
    let r := s.dictPut .pf 0x1010 0 true (.bytes l)
    (r.1.hold, r.2)
  | _ => (false, s)

/-- NVMe-MI Send: the request runs; its response waits for NVMe-MI Receive; Dword 0 holds the NVMe-MI status. -/
def State.miSend (c : Cmd) (q : List Nat) (s : State) : State :=
  let r := s.miReply c.fn q
  let s := s.modFn c.fn fun x => { x with miResp := r.1 :: r.2 }
  if r.1 ≠ 0 then s.answer c.ticket r.1 []
  else
    let e := s.miRun q
    if e.1 then e.2.holdSet c.ticket else e.2.answer c.ticket 0 []

/-! Dictionary (R579). -/

/-- The path of an NVMe function's dictionary commands. -/
def State.nvmePath (s : State) (f : Nat) : DPath := if s.isPf f then .pf else .vf f

/-- TYPE of an entry as Dword 0 reports it; 0 where there is none. -/
def dictCode (index sub : Nat) : Nat := (dictRow index sub).elim 0 (·.ty.code)

/-- Dictionary Read of min(LEN, SIZE) bytes: Dword 0 holds TYPE and the abort code, Dword 1 SIZE. -/
def State.dictReadCmd (c : Cmd) (index sub len : Nat) (s : State) : State :=
  if len = 0 ∨ 4096 < len then s.outcome c.ticket stField else
  let a := s.dictReadCheck (s.nvmePath c.fn) index sub
  let l := if a = abOk then s.dictWire index sub else []
  s.answer c.ticket (dictCode index sub * 2 ^ 16 + a + l.length * 2 ^ 32) (l.take len)

/-- Dictionary Write. -/
def State.dictWriteCmd (c : Cmd) (index sub type : Nat) (v : DVal) (s : State) : State :=
  let r := s.dictPut (s.nvmePath c.fn) index sub (type == dictCode index sub) v
  if r.1.hold then r.2.holdAnswer { path := 2, dest := c.ticket, op := dictCode index sub } true
  else r.2.answer c.ticket (dictCode index sub * 2 ^ 16 + r.1.abort) []

/-! All admin commands. -/

/-- The effect of a dispatched admin command. -/
def State.runAdmin (c : Cmd) (s : State) : State :=
  match c.req with
  | some (.identify _ nsid cns cntid csi) => s.answerWith c.ticket (s.identifyData c.fn nsid cns cntid csi)
  | some (.getLogPage _ _ lid _ _ rae) => s.getLog c lid rae
  | some (.lostStripesLog _ numd lpo) => s.getLost c numd lpo
  | some (.tallySnapshotLog _ lsp lsi numd lpo) => s.getSnap c lsp lsi numd lpo
  | some (.eventRecorderWindowLog _ numd lpo) => s.getRecs c numd lpo
  | some (.createIoSubmissionQueue _ qid qsize cqid prio) => s.createSq c qid qsize cqid prio
  | some (.createIoCompletionQueue _ qid qsize vec ien) => s.createCq c qid qsize vec ien
  | some (.deleteIoSubmissionQueue _ qid) => s.deleteSq c qid
  | some (.deleteIoCompletionQueue _ qid) => s.deleteCq c qid
  | some (.setFeatures _ fid v sv _ w data) => s.setFeatures c fid v sv w data
  | some (.getFeatures _ fid sel w _) => s.getFeatures c fid sel w
  | some (.setNumberOfQueues _ _ _) => s.numberOfQueues c
  | some (.setPowerManagement _ ps) => s.powerFeature c ps
  | some (.setQueueOrdering _ w sv) => s.setOrdering c w sv
  | some (.getQueueOrdering _ w) => s.getOrdering c w
  | some (.setFunctionWeights _ w v) => s.setWeights c w v
  | some (.getFunctionWeights _ w v) => s.getWeights c w v
  | some (.setTailClass _ w) => s.setTailClass c w
  | some (.getTailClass _ w) => s.getTailClass c w
  | some (.setFdp _ endgid enable) => s.setFdp c endgid enable
  | some (.abort _ sqid target) => s.abortNamed c sqid target
  | some (.asynchronousEventRequest _) => s.holdAer c
  | some (.namespaceCreate _ spec) =>
    let r := s.createNs spec
    if r.1 = stOk then r.2.2.answer c.ticket r.2.1 [] else s.outcome c.ticket r.1
  | some (.namespaceDelete _ nsid) =>
    let l := s.nsNamed nsid
    if l = [] ∧ nsid ≠ 0xFFFFFFFF then s.outcome c.ticket stNamespace
    else (each l (fun n s => s.deleteNs n c.ticket) s).answer c.ticket 0 []
  | some (.namespaceAttachment _ nsid attach ctrls) => State.ended c.ticket (s.attachNs nsid attach ctrls)
  | some (.formatNvm _ nsid lbaf ses pi pil) => State.ended c.ticket (s.format nsid lbaf ses pi pil c.fn c.ticket)
  | some (.firmwareImageDownload _ numd ofst data) => s.download c numd ofst data
  | some (.firmwareCommit _ slot action) => s.fwCommit c slot action
  | some (.deviceSelfTest _ _ stc) => s.selfTest c stc
  | some (.sanitizeBlockErase _) => State.ended c.ticket (s.sanitize false c.fn c.ticket)
  | some (.sanitizeCryptoErase _) => State.ended c.ticket (s.sanitize true c.fn c.ticket)
  | some (.nvmeMiSend _ q) => s.miSend c q
  | some (.nvmeMiReceive _) => s.answer c.ticket ((s.fn c.fn).miResp.headD 0) (s.fn c.fn).miResp.tail
  | some (.dictionaryRead _ index sub len) => s.dictReadCmd c index sub len
  | some (.dictionaryWrite _ index sub type v) => s.dictWriteCmd c index sub type v
  | _ => s.outcome c.ticket stOpcode

end Sys2Proof.Machine
end

