-- ==== Sys2Proof/Machine/ArbOps.lean ====
section
/-! DEFINITION. Machine/ArbOps.lean: admission in ticket order, two-level arbitration and dispatch, the data of pieces, as
operations (R119, R123, R125, R129, R137 to R142, R159 to R161, R362 to R369, R482). -/

namespace Sys2Proof.Machine

/-! Arbitration (R129, R130). -/

/-- The functions with dispatchable commands. -/
def readyFns (l : List Cmd) : List Nat := (List.range 512).filter fun f => l.any fun c => c.fn == f

/-- A round: each function with dispatchable commands gains 16 × weight cost units; a weight set before it applies (R166). -/
def State.arbRound (l : List Nat) (s : State) : State :=
  each l (fun f s => let w := s.fnSetting f 5; s.modFn f fun r => { r with deficit := r.deficit + 16 * (w : Int) }) s

/-- The function that may dispatch: the lowest with a positive deficit, after as many rounds as that takes. DESIGN CHOICE (log entry 44):
of several functions with a positive deficit the one with the lowest number dispatches first, and a function that has nothing to dispatch
keeps its deficit; R129 says neither. -/
def State.pickFn : Nat → List Nat → State → Option Nat × State
  | 0, _, s => (none, s)
  | n + 1, l, s =>
    match l.find? fun f => decide (0 < (s.fn f).deficit) with
    | some f => (some f, s)
    | none => State.pickFn n l (s.arbRound l)

/-- Weight of class 1 high, 2 medium, 3 low and the burst, of the Arbitration feature (0's based weights, log entry 17). -/
def classWeight (v k : Nat) : Nat := slice v (32 - 8 * k) 8 + 1
/-- Arbitration Burst: 0b111 is no limit. -/
def burst (v : Nat) : Nat := if v % 8 = 7 then 2 ^ 32 else 2 ^ (v % 8)

/-- The next queue in turn among the queues of `l`: the one served last while its burst lasts, else the next by number. -/
def State.pickQueue (f : Nat) (l : List Cmd) (s : State) : Option Cmd × State :=
  let r := s.fn f
  let go := fun (c : Cmd) (left : Nat) => (some c, s.modFn f fun r => { r with rrQ := c.sqid, rrLeft := left })
  match l.find? fun c => c.sqid == r.rrQ && r.rrLeft != 0 with
  | some c => go c (r.rrLeft - 1)
  | none =>
    let qs := l.map (·.sqid)
    match (leastBy id (qs.filter fun q => decide (r.rrQ < q))).or (leastBy id qs) with
    | none => (none, s)
    | some q =>
      match l.find? fun c => c.sqid == q with
      | some c => go c (burst (Tab.get 0 r.feats 1) - 1)
      | none => (none, s)

/-- The class weighted round robin serves next; weights start anew when those present are used up. -/
def State.pickClass (f : Nat) (l : List Cmd) (s : State) : Nat × State :=
  let r := s.fn f
  let v := Tab.get 0 r.feats 1
  let here := fun k => l.any fun c => (s.sq f c.sqid).prio == k
  let full := [classWeight v 1, classWeight v 2, classWeight v 3]
  let use := fun (k : Nat) (w : List Nat) => (k, s.modFn f fun r => { r with wrr := w.mapIdx fun i x => if i + 1 = k then x - 1 else x })
  match [1, 2, 3].find? fun k => here k && r.wrr.getD (k - 1) 0 != 0 with
  | some k => use k r.wrr
  | none => use (([1, 2, 3].find? here).getD 1) full

/-- The command of function `f` that goes next: the admin queue, then as CC.AMS says. -/
def State.pickCmd (f : Nat) (l : List Cmd) (s : State) : Option Cmd × State :=
  match l.find? fun c => c.sqid == 0 with
  | some c => (some c, s)
  | none =>
    if (s.fn f).ams ≠ 1 then s.pickQueue f l
    else
      let urgent := l.filter fun c => (s.sq f c.sqid).prio == 0
      if urgent ≠ [] then s.pickQueue f urgent
      else
        let k := s.pickClass f l
        k.2.pickQueue f (l.filter fun c => (s.sq f c.sqid).prio == k.1)

/-- Bring the credits of every function with waiting commands up to date; the first held command of a function in a frame
raises event 214 (R160, R161, R181). -/
def State.refillAll (s : State) : State :=
  let l := readyFns (s.hfe.ctx.filter fun c => !c.dispatched && c.status.isNone)
  let s := each l State.refill s
  each (l.filter fun f => !(s.fn f).tokEv && s.hfe.ctx.any fun c => c.fn == f && !c.dispatched && c.status.isNone && s.tokenHeld c)
    (fun f s => (s.modFn f fun r => { r with tokEv := true }).assertEvent 214) s

/-- A command is dispatched: its cost debited, its effect begun. -/
def State.dispatch (c : Cmd) (s : State) : State :=
  let k := s.cost c
  let s := s.modFn c.fn fun r => { r with deficit := r.deficit - (k : Int) }
  let s := s.modCmd c.ticket fun x => { x with dispatched := true }
  match c.op with
  | .admin _ => s.runAdmin c
  | _ => s.dispatchIo c

/-- Arbitration dispatches one command; what is due then completes. -/
def State.dispatchNext (s : State) : State :=
  let s := s.refillAll
  let l := s.hfe.ctx.filter s.mayDispatch
  let r := s.pickFn 64 (readyFns l)
  match r.1 with
  | none => s
  | some f =>
    let q := r.2.pickCmd f (l.filter fun c => c.fn == f)
    match q.1 with
    | none => s
    | some c => (q.2.dispatch c).settle

/-- After its admission a command is dispatched at once when nothing else may be (log entry 8). -/
def State.afterAdmit (t : Nat) (s : State) : State :=
  let s := s.settle.refillAll
  match s.hfe.ctx.filter s.mayDispatch with
  | [c] => if c.ticket = t then s.dispatchNext else s
  | _ => s

/-! Admission (R123). -/

/-- The next entry in ticket order, when it may be fetched: of an admin queue or an I/O queue as `admin` says, and of a function below
its command limit (R119, R123; log entry 45). -/
def State.nextTicket (s : State) (admin : Bool) : Option Tick :=
  match s.hfe.tickets with
  | t :: _ => if s.hfe.stopped || (t.sqid == 0) != admin || decide (s.cmdLimit t.fn ≤ s.ctxHeld t.fn) then none else some t
  | [] => none

/-- The fetched entry takes its context; the buckets are charged (R119, R159); event 201 when it is the function's last (R156). -/
def State.takeEntry (t : Tick) (c : Cmd) (s : State) : State :=
  let c := { c with ticket := t.ticket, fn := t.fn, sqid := t.sqid, ordered := t.sqid != 0 && (s.sq t.fn t.sqid).orderedFor t.ticket,
                    tail := s.tailFor t.fn t.ticket, da := s.daFor t.ticket }
  let q := s.charges c
  let s := (s.modHfe fun h => { h with tickets := h.tickets.tail }).modSq t.fn t.sqid fun x => { x with head := (x.head + 1) % max 1 x.size }
  let s := (s.refill t.fn).modFn t.fn fun r => { r with dC := r.dC + q.1, dB := r.dB + q.2 }
  let r := s.fn t.fn
  let s := s.modHfe fun h => { h with ctx := h.ctx ++ [{ c with pos := r.dC, bpos := r.dB, bt := s.bellTime }] }
  s.assertIf (decide (s.cmdLimit t.fn ≤ s.ctxHeld t.fn)) 201

/-- Must the admission of an I/O command wait: for the zone table, or for journal space? -/
def State.admitWaits (s : State) (c : Cmd) : Bool :=
  c.op != .fence && c.op != .flush && (!s.on ZPM_CTRL.EN ||
    ((opWrites c.op || opZone c.op) && ((s.ns (c.nsid - 1)).kind == 2 && s.journalFull)) ||
    ((opWrites c.op || c.op == .ruhUpdate) && (s.ns (c.nsid - 1)).kind == 1 && (s.mapJournalFull || s.journalFull)))

/-- Events 231 and 248: admission waits for journal space. -/
def State.waitEvents (c : Cmd) (s : State) : State :=
  if !s.on ZPM_CTRL.EN then s
  else (s.assertIf s.journalFull 231).assertIf ((s.ns (c.nsid - 1)).kind == 1 && s.mapJournalFull) 248

/-- The next entry is I/O command `c`, decided by `check`. -/
def State.admitIo (c : Cmd) (check : Cmd → State → State) (s : State) : State :=
  match s.nextTicket false with
  | none => s
  | some t =>
    if s.admitWaits c then s.waitEvents c
    else
      let s := s.takeEntry t c
      match s.cmd t.ticket with
      | some x => (check x s).afterAdmit t.ticket
      | none => s

/-- The next entry is an admin command: one that would transfer more than MDTS allows fails (R142). -/
def State.admitAdmin (i : Instr) (opcode cid nsid xfer : Nat) (s : State) : State :=
  match s.nextTicket true with
  | none => s
  | some t =>
    let s := s.takeEntry t { cid := cid, nsid := nsid, op := .admin opcode, req := some i, xfer := xfer }
    let s := if 2 ^ 21 < xfer then s.outcome t.ticket stField else s
    s.afterAdmit t.ticket

/-- The next entry's opcode is not listed (R154). -/
def State.admitUnknown (admin : Bool) (opcode cid : Nat) (s : State) : State :=
  match s.nextTicket admin with
  | none => s
  | some t => ((s.takeEntry t { cid := cid, op := .admin opcode }).outcome t.ticket stOpcode).afterAdmit t.ticket

/-! Each I/O command (R125 to R128, R137, R195, R210). -/

/-- Read or Verify of `nlb + 1` blocks. -/
def State.admitReadCmd (i : Instr) (op : Op) (cid nsid slba nlb : Nat) (s : State) : State :=
  s.admitIo { cid := cid, nsid := nsid, op := op, req := some i, lba := slba, n := nlb + 1 } State.admitRead

/-- Write, Write Zeroes or Zone Append of `nlb + 1` blocks. -/
def State.admitPieceCmd (i : Instr) (op : Op) (cid nsid slba nlb dspec : Nat) (s : State) : State :=
  s.admitIo { cid := cid, nsid := nsid, op := op, req := some i, lba := slba, n := nlb + 1 } fun c s => s.admitPieces c dspec

/-- Flush of one namespace or of all. -/
def State.admitFlush (i : Instr) (cid nsid : Nat) (s : State) : State :=
  s.admitIo { cid := cid, nsid := nsid, op := .flush, req := some i } fun c s =>
    if nsid = 0xFFFFFFFF ∨ s.nsFor c.fn nsid = true then s else s.outcome c.ticket stNamespace

/-- Order Fence (R137): a Dword that is not zero makes it fail at once, and it fences nothing. -/
def State.admitFence (i : Instr) (cid : Nat) (dws : List Nat) (s : State) : State :=
  s.admitIo { cid := cid, op := .fence, req := some i } fun c s => if dws.any (· != 0) then s.outcome c.ticket stField else s

/-- Dataset Management: without Deallocate it changes nothing. -/
def State.admitDsm (i : Instr) (cid nsid : Nat) (dealloc : Bool) (l : List (Nat × Nat)) (s : State) : State :=
  s.admitIo { cid := cid, nsid := nsid, op := .deallocate, req := some i, ranges := if dealloc then l else [], xfer := 16 * l.length }
    State.admitDealloc

/-- I/O Management Send. -/
def State.admitIoSend (i : Instr) (cid nsid mo : Nat) (pids : List Nat) (s : State) : State :=
  s.admitIo { cid := cid, nsid := nsid, op := .ruhUpdate, req := some i, ranges := pids.map fun p => (p, 0), xfer := 2 * pids.length }
    fun c s => s.admitRuh c mo

/-- I/O Management Receive. -/
def State.admitIoReceive (i : Instr) (cid nsid mo : Nat) (s : State) : State :=
  let k := s.dnum 0x3101 0 * (s.ns (nsid - 1)).handles.length
  s.admitIo { cid := cid, nsid := nsid, op := .ruhStatus, req := some i, xfer := 16 + 32 * k } fun c s => s.admitRuh c mo

/-- Zone Management Send. -/
def State.admitZone (i : Instr) (op : Op) (cid nsid slba : Nat) (all : Bool) (s : State) : State :=
  s.admitIo { cid := cid, nsid := nsid, op := op, req := some i, lba := slba } fun c s => s.admitAct c all

/-- Zone Management Receive. -/
def State.admitReceive (i : Instr) (cid nsid slba zra zrasf numd : Nat) (part : Bool) (s : State) : State :=
  s.admitIo { cid := cid, nsid := nsid, op := .report, req := some i, lba := slba, xfer := (numd + 1) * 4 } fun c s =>
    if 2 ^ 21 < (numd + 1) * 4 then s.outcome c.ticket stField else s.admitReport c zra zrasf numd part

/-! The data of a piece (R141, R362 to R369, R377, R453, R482). -/

/-- The piece has its tub chain: at hand, or asked for and granted; none while it waits. -/
def State.pieceChain (c : Cmd) (k : Nat) (p : Piece) (s : State) : Option State :=
  let took := fun (h : Nat) (s : State) =>
    some ((s.modPiece c.ticket k fun p => { p with head := h, asked := false }).modTubs fun t => { t with hwRes := Tab.set 0 t.hwRes tagFront 0 })
  if p.head ≠ 0 then some s
  else if p.asked then (match Tab.get 0 s.tubs.hwRes tagFront with | 0 => none | h + 1 => took (h + 1) s)
  else none

/-- A piece without a chain asks for one, when no other piece of the front end still waits for its own (R456). -/
def State.askChain (c : Cmd) (k : Nat) (p : Piece) (s : State) : State :=
  if p.head ≠ 0 ∨ p.asked = true ∨ (s.hfe.ctx.any fun d => d.pieces.any (·.asked)) = true then s
  else
    let n := s.pieceTubs c p
    let s := (s.modTubs fun t => { t with hwRes := Tab.set 0 t.hwRes tagFront 0 }).modPiece c.ticket k fun p => { p with asked := true }
    s.requestTubs { tag := tagFront, prot := true, n := n }

/-- The zeros of piece `k` of a Write Zeroes stand in protected tubs once its chain is granted, with no transfer from the host (R21,
R139, R141). -/
def State.zeroPiece (c : Cmd) (k : Nat) (p : Piece) (s : State) : State :=
  if c.op ≠ .writeZeroes ∨ p.fetched = true ∨ s.on TUB_CTRL.EN = false then s
  else
    let s := s.askChain c k p
    match ((s.cmd c.ticket).bind fun c => c.pieces[k]?).bind fun p => s.pieceChain c k p with
    | none => s
    | some s => s.modPiece c.ticket k fun p => { p with fetched := true }

/-- A write-path guard failure of the command (R364, R366, R447): it fails, the count and event 133. -/
def State.writeGuardFail (c : Cmd) (s : State) : State :=
  let s := (s.modCmd c.ticket fun x => { x with vsi := 1 }).failCmd c.ticket stGuard
  ((s.integrityError).count ECC_GUARDCNT.WRITEFAIL 1).assertEvent 133

/-- Host protection information fails with `st` (R368): event 134. -/
def State.piFail (c : Cmd) (st : Nat) (s : State) : State :=
  let s := s.failCmd c.ticket st
  (if st = stGuard then s.integrityError else s).assertEvent 134

/-- The first block of piece `k`, counted from the command's first. -/
def Cmd.pieceStart (c : Cmd) (k : Nat) : Nat := ((c.pieces.take k).map (·.n)).sum

/-- The protection bits an append is checked with: of type 1, against the zone's first LBA (R369). -/
def State.checkPr (s : State) (c : Cmd) : Pr :=
  if c.op = .append ∧ (s.ns (c.nsid - 1)).pi = 1 then { c.pr with ilbrt := s.zoneStart (s.zoneOf c.nsid c.lba) } else c.pr

/-- The data of piece `k` has come: checked, guarded, encrypted, its deltas added. -/
def State.pieceData (c : Cmd) (k : Nat) (p : Piece) (data tags : List Nat) (s : State) : State :=
  let n := s.ns (c.nsid - 1)
  let bytes := 2 ^ n.bshift
  let l := (List.range p.n).map fun i => data.getD i 0 % 2 ^ (8 * bytes)
  let t := (List.range p.n).map fun i => tags.getD i 0 % 2 ^ (8 * piLen n.lbaf)
  let j := c.pieceStart k
  match piFaults n.pi n.lbaf bytes (s.checkPr c) j l t with
  | some st => s.piFail c st
  | none =>
    let m := (List.range p.n).map fun i => piStored n.pi n.lbaf bytes (c.op == .append) c.pr (p.lba + i) (j + i) (l.getD i 0) (t.getD i 0)
    s.modPiece c.ticket k fun p => { p with fetched := true, data := l, metas := m }

/-- HOST_DATA_FETCH of piece `k` of a dispatched command, with what the fetch meets. -/
def State.fetchPiece (c : Cmd) (k : Nat) (p : Piece) (data tags : List Nat) (fail : FetchFail) (s : State) : State :=
  match fail with
  | .none => s.pieceData c k p data tags
  | .transfer => s.failCmd c.ticket stTransfer
  | .guard => (s.writeGuardFail c).noteError 0x09 144 1 144
  | .tubParity => (s.writeGuardFail c).noteError 0x07 144 1 144
  | .xts =>
    if (s.ns (c.nsid - 1)).enc then (((s.failCmd c.ticket stInternal).count CIP_ERRCNT.XTSMIS 1).assertEvent 288).noteError 0x0A 128 1 146
    else s.pieceData c k p data tags

/-! An entry as it was fetched (R123, R154). Opcodes and the places of fields are NVMe's (log entry 17). -/

/-- Dword `i` of an entry. -/
def sqeDw (q : Sqe) (i : Nat) : Nat := q.dw.getD i 0 % 2 ^ 32

/-- Protection bits of an entry: PRINFO in Dword 12, tags in Dwords 14 and 15. -/
def sqePr (q : Sqe) : Pr :=
  let w := sqeDw q 12
  { pract := bit w 29, guard := bit w 28, app := bit w 27, ref := bit w 26, ilbrt := sqeDw q 14, lbat := slice (sqeDw q 15) 0 16,
    lbatm := slice (sqeDw q 15) 16 16 }

/-- `k` words of host memory that the spec says nothing of: free values. -/
def State.hostWords (s : State) (k : Nat) : List Nat := (List.range k).map fun i => (Config.freeWord (s.free + i)).toNat

/-- The I/O command an entry spells; none for an opcode that is not listed. -/
def State.ioEntry (s : State) (q : Sqe) : Option Instr :=
  let w := sqeDw q 0
  let cid := slice w 16 16
  let nsid := sqeDw q 1
  let slba := sqeDw q 10 + sqeDw q 11 * 2 ^ 32
  let nlb := slice (sqeDw q 12) 0 16
  let all := bit (sqeDw q 13) 8
  match slice w 0 8 with
  | 0x00 => some (.flush cid nsid)
  | 0x01 => some (.write cid nsid slba nlb (sqePr q) (slice (sqeDw q 12) 20 4 * 2 ^ 16 + slice (sqeDw q 13) 16 16))
  | 0x02 => some (.read cid nsid slba nlb (sqePr q))
  | 0x08 => some (.writeZeroes cid nsid slba nlb (sqePr q))
  | 0x09 =>
    let h := s.hostWords (4 * (slice (sqeDw q 10) 0 8 + 1))
    some (.datasetManagement cid nsid (bit (sqeDw q 11) 2)
      ((List.range (slice (sqeDw q 10) 0 8 + 1)).map fun k => (h.getD (4 * k + 2) 0 + h.getD (4 * k + 3) 0 * 2 ^ 32, h.getD (4 * k + 1) 0)))
  | 0x0C => some (.verify cid nsid slba nlb (sqePr q))
  | 0x12 => some (.ioManagementReceive cid nsid (slice (sqeDw q 10) 0 8))
  | 0x1D => some (.ioManagementSend cid nsid (slice (sqeDw q 10) 0 8) ((s.hostWords (slice (sqeDw q 10) 16 16 + 1)).map (· % 65536)))
  | 0x79 =>
    (match slice (sqeDw q 13) 0 8 with
     | 1 => some (.zoneClose cid nsid slba all)
     | 2 => some (.zoneFinish cid nsid slba all)
     | 3 => some (.zoneOpen cid nsid slba all)
     | 4 => some (.zoneReset cid nsid slba all)
     | 5 => some (.zoneOffline cid nsid slba all)
     | _ => none)
  | 0x7A => some (.zoneManagementReceive cid nsid slba (slice (sqeDw q 13) 0 8) (slice (sqeDw q 13) 8 8) (sqeDw q 12) (bit (sqeDw q 13) 16))
  | 0x7D => some (.zoneAppend cid nsid slba nlb (sqePr q))
  | 0x81 => some (.orderFence cid ((List.range 6).map fun k => sqeDw q (10 + k)))
  | _ => none

/-- The Set Features or Get Features command an entry spells; a data structure it sets is in host memory: a free value. -/
def State.sqeFeature (s : State) (q : Sqe) (set : Bool) : Instr :=
  let cid := slice (sqeDw q 0) 16 16
  let w := sqeDw q 10
  let sv := bit w 31
  match set, slice w 0 8 with
  | true, 0x02 => .setPowerManagement cid (slice (sqeDw q 11) 0 5)
  | true, 0x07 => .setNumberOfQueues cid (slice (sqeDw q 11) 0 16) (slice (sqeDw q 11) 16 16)
  | true, 0x1D => .setFdp cid (slice (sqeDw q 11) 0 16) (bit (sqeDw q 12) 0)
  | true, 0xC0 => .setQueueOrdering cid (sqeDw q 11) sv
  | true, 0xC1 => .setFunctionWeights cid (sqeDw q 11) (sqeDw q 12)
  | true, 0xC2 => .setTailClass cid (sqeDw q 11)
  | true, 0x0E => .setFeatures cid 0x0E (ofBytes ((s.hostWords 2).flatMap fun v => toBytes v 4)) sv (sqeDw q 1) 0 []
  | true, 0x16 => .setFeatures cid 0x16 (ofBytes ((s.hostWords 128).flatMap fun v => toBytes v 4)) sv (sqeDw q 1) 0 []
  | true, f => .setFeatures cid f (sqeDw q 11) sv (sqeDw q 1) (sqeDw q 12) (if f = 0x1E then (s.hostWords 256).map (· % 256) else [])
  | false, 0xC0 => .getQueueOrdering cid (sqeDw q 11)
  | false, 0xC1 => .getFunctionWeights cid (sqeDw q 11) (sqeDw q 12)
  | false, 0xC2 => .getTailClass cid (sqeDw q 11)
  | false, f => .getFeatures cid f (slice w 8 3) (sqeDw q 11) (sqeDw q 1)

/-- The Get Log Page command an entry spells. -/
def sqeLog (q : Sqe) : Instr :=
  let cid := slice (sqeDw q 0) 16 16
  let w := sqeDw q 10
  let numd := slice w 16 16 + slice (sqeDw q 11) 0 16 * 2 ^ 16
  let lpo := sqeDw q 12 + sqeDw q 13 * 2 ^ 32
  match slice w 0 8 with
  | 0xC0 => .lostStripesLog cid numd lpo
  | 0xC1 => .tallySnapshotLog cid (slice w 8 7) (slice (sqeDw q 11) 16 16) numd lpo
  | 0xC2 => .eventRecorderWindowLog cid numd lpo
  | l => .getLogPage cid (sqeDw q 1) l numd lpo (bit w 15)

/-- The admin command an entry spells, with its data as free values; none for an opcode that is not listed. -/
def State.adminEntry (s : State) (q : Sqe) : Option Instr :=
  let w := sqeDw q 0
  let cid := slice w 16 16
  let nsid := sqeDw q 1
  let a := sqeDw q 10
  let b := sqeDw q 11
  match slice w 0 8 with
  | 0x00 => some (.deleteIoSubmissionQueue cid (slice a 0 16))
  | 0x01 => some (.createIoSubmissionQueue cid (slice a 0 16) (slice a 16 16) (slice b 16 16) (slice b 1 2))
  | 0x02 => some (sqeLog q)
  | 0x04 => some (.deleteIoCompletionQueue cid (slice a 0 16))
  | 0x05 => some (.createIoCompletionQueue cid (slice a 0 16) (slice a 16 16) (slice b 16 16) (bit b 1))
  | 0x06 => some (.identify cid nsid (slice a 0 8) (slice a 16 16) (slice b 24 8))
  | 0x08 => some (.abort cid (slice a 0 16) (slice a 16 16))
  | 0x09 => some (s.sqeFeature q true)
  | 0x0A => some (s.sqeFeature q false)
  | 0x0C => some (.asynchronousEventRequest cid)
  | 0x0D =>
    if slice a 0 4 = 1 then some (.namespaceDelete cid nsid)
    else
      let h := s.hostWords 8
      some (.namespaceCreate cid { csi := slice b 24 8, nsze := h.getD 0 0 + h.getD 1 0 * 2 ^ 32, ncap := h.getD 2 0 + h.getD 3 0 * 2 ^ 32,
                                   lbaf := h.getD 4 0 % 16, pi := h.getD 5 0 % 8, handles := [] })
  | 0x10 => some (.firmwareCommit cid (slice a 0 3) (slice a 3 3))
  | 0x11 => some (.firmwareImageDownload cid a b ((s.hostWords (a + 1)).flatMap fun v => toBytes v 4))
  | 0x14 => some (.deviceSelfTest cid nsid (slice a 0 4))
  | 0x15 =>
    let h := s.hostWords 2
    some (.namespaceAttachment cid nsid (slice a 0 4 == 0) ((List.range (h.getD 0 0 % 2048)).map fun k => (Config.freeWord (s.free + 1 + k)).toNat % 65536))
  | 0x1D => some (.nvmeMiSend cid ((s.hostWords 1024).map (· % 256)))
  | 0x1E => some (.nvmeMiReceive cid)
  | 0x80 => some (.formatNvm cid nsid (slice a 0 4) (slice a 9 3) (slice a 5 3) (slice a 8 1))
  | 0x84 => if slice a 0 3 = 2 then some (.sanitizeBlockErase cid) else if slice a 0 3 = 4 then some (.sanitizeCryptoErase cid) else none
  | 0xC0 => some (.dictionaryRead cid (slice a 8 16) (slice a 0 8) (slice b 0 13))
  | 0xC1 =>
    let l := (s.hostWords 1024).flatMap fun v => toBytes v 4
    some (.dictionaryWrite cid (slice a 8 16) (slice a 0 8) (slice b 16 8) (wireValue (slice a 8 16) (slice a 0 8) (l.take (slice b 0 13))))
  | _ => none

/-- I/O opcodes whose commands name a data buffer. -/
def bufferOpcodes : List Nat := [0x01, 0x02, 0x09, 0x12, 0x1D, 0x7A, 0x7D]

/-- SGL Descriptor Type Invalid -/
def stSglType : Nat := 0x011
/-- SGL Data Block Granularity Invalid -/
def stSglAlign : Nat := 0x01E

/-- Does the data pointer of an entry fail (Table 4.3): PRP for every command, and for I/O commands an SGL of a Data Block or Segment
descriptor (types 0, 2 and 3, log entry 17), dword-aligned? -/
def badPointer (admin : Bool) (q : Sqe) : Option Nat :=
  let psdt := slice (sqeDw q 0) 14 2
  if psdt = 0 then none
  else if admin || psdt == 3 then some stField
  else if !bufferOpcodes.contains (slice (sqeDw q 0) 0 8) then none
  else if !([0, 2, 3].contains (slice (sqeDw q 9) 28 4)) then some stSglType
  else if sqeDw q 6 % 4 ≠ 0 ∨ sqeDw q 8 % 4 ≠ 0 then some stSglAlign
  else none

/-- The fused bits, and of a dictionary command the bits it reserves and a LEN outside 1 to 4,096 (Table 18.9). -/
def badEntry (admin : Bool) (q : Sqe) : Bool :=
  slice (sqeDw q 0) 8 2 != 0 ||
    (admin && (slice (sqeDw q 0) 0 8 == 0xC0 || slice (sqeDw q 0) 0 8 == 0xC1) &&
      (slice (sqeDw q 10) 24 8 != 0 || slice (sqeDw q 11) 24 8 != 0 || slice (sqeDw q 11) 13 3 != 0 ||
        slice (sqeDw q 11) 0 13 == 0 || decide (4096 < slice (sqeDw q 11) 0 13)))

end Sys2Proof.Machine
end

