-- ==== Sys2Proof/Machine/FrontEnd.lean ====
section
/-! DEFINITION. Machine/FrontEnd.lean: doorbells, the registers of the NVMe front end, and the mailbox pages
(04_command_queueing.md, 05_function_sharing.md). -/

namespace Sys2Proof.Machine

/-! Doorbells (R120 to R124). -/

/-- Does a write to the doorbells of function `f` reach the front end: the rails up, the function there and in D0 (R102)? -/
def State.bar (s : State) (f : Nat) : Bool := s.up && s.fnExists f && !(s.fn f).d3

/-- SQ_TAIL_DOORBELL (R121, R122, R124, R524): held, then observed as far as it can be. -/
def sqTailDoorbell (f qid tail : Nat) (s : State) : State :=
  if s.bar f then ((s.doorbellWake).modHfe fun h => { h with held := h.held ++ [{ fn := f, qid := qid, tail := tail }] }).observeAll else s
def execSqTailDoorbell (fn qid tail : Nat) (s : State) : Host.Outcome State Fault Refusal := done (sqTailDoorbell fn qid tail s)

/-- CQ_HEAD_DOORBELL (R122, R124, R525): held like any doorbell write, observed even while its function is at its limit. -/
def cqHeadDoorbell (f qid head : Nat) (s : State) : State :=
  if s.bar f then ((s.wakeIdle).modHfe fun h => { h with held := h.held ++ [{ fn := f, qid := qid, tail := head, cq := true }] }).observeAll
  else s
def execCqHeadDoorbell (fn qid head : Nat) (s : State) : Host.Outcome State Fault Refusal := done (cqHeadDoorbell fn qid head s)

/-- DEFERRED_DOORBELL_OBSERVE (R122, R143). -/
def deferredDoorbellObserve (s : State) : State := s.observeAll
def execDeferredDoorbellObserve (s : State) : Host.Outcome State Fault Refusal := done (deferredDoorbellObserve s)

/-! HFE registers. -/

/-- A write of HFE_QALLOC[f] (R117). -/
def State.writeQalloc (f v : Nat) (s : State) : State :=
  let q := HFE_QALLOC.NSQ f |>.of v
  let c := HFE_QALLOC.NCQ f |>.of v
  if s.fnValueOk f 0x10 q && s.fnValueOk f 0x11 c then (s.setFld (HFE_QALLOC.NSQ f) q).setFld (HFE_QALLOC.NCQ f) c else s.allocError

/-- A write of HFE_CMDLIM[f] (R119). -/
def State.writeCmdlim (f v : Nat) (s : State) : State :=
  let l := HFE_CMDLIM.LIMIT f |>.of v
  if s.fnValueOk f 0x12 l then s.setFld (HFE_CMDLIM.LIMIT f) l else s.allocError

/-- A write of HFE_CTRL (Table 4.6, R151, R518). -/
def State.writeHfeCtrl (v : Nat) (s : State) : State :=
  (((s.setDa (HFE_CTRL.DA.of v == 1)).setFld HFE_CTRL.ADMIT_EN (HFE_CTRL.ADMIT_EN.of v)).setReady).observeAll

/-- HFE_QALLOC_WRITE (R117). -/
def hfeQallocWrite (m f v : Nat) (s : State) : State := if 512 ≤ f then s else s.access m (HFE_QALLOC.NSQ f).addr (State.writeQalloc f v)
def execHfeQallocWrite (master fn value : Nat) (s : State) : Host.Outcome State Fault Refusal := done (hfeQallocWrite master fn value s)

/-- HFE_CMDLIM_WRITE (R119). -/
def hfeCmdlimWrite (m f v : Nat) (s : State) : State := if 512 ≤ f then s else s.access m (HFE_CMDLIM.LIMIT f).addr (State.writeCmdlim f v)
def execHfeCmdlimWrite (master fn value : Nat) (s : State) : Host.Outcome State Fault Refusal := done (hfeCmdlimWrite master fn value s)

/-- ADMIT_EN_SET (R518). -/
def admitEnSet (m v : Nat) (s : State) : State := s.access m HFE_CTRL.DA.addr (State.writeHfeCtrl v)
def execAdmitEnSet (master value : Nat) (s : State) : Host.Outcome State Fault Refusal := done (admitEnSet master value s)

/-! Mailbox (R176 to R179). -/

/-- A ring base that a write of RING_HI commits is accepted (R179): Bus Master Enable is 1 and the base aligned to the ring size. DESIGN
CHOICE (log entry 51): with a RING_SIZE outside 12 to 20, of which R179 does not say what a commit does, it is rejected too. -/
def Fn.ringOk (r : Fn) : Bool :=
  r.busMaster && decide (12 ≤ r.ringSize) && decide (r.ringSize ≤ 20) && (r.ringHi * 2 ^ 32 + r.ringLo) % 2 ^ r.ringSize == 0

/-- DOORBELL.IN_POST (R177): IN_MSG is delivered, or the post is an overrun while IN_BUSY. -/
def State.inPost (f : Nat) (s : State) : State :=
  if (s.fn f).inBusy then (s.modFn f fun r => { r with inOver := true }).assertEvent 210
  else (s.modFn f fun r => { r with mbxIn := r.inMsg, inBusy := true }).assertEvent 208

/-- DOORBELL.OUT_ACK (R178). -/
def State.outAck (f : Nat) (s : State) : State := (s.modFn f fun r => { r with outFull := false }).assertEvent 209

/-- A write of RING_HI commits the base (R179); event 211. -/
def State.commitRing (f hi : Nat) (s : State) : State :=
  let s := s.modFn f fun r => { r with ringHi := hi % 2 ^ 32 }
  if (s.fn f).ringOk then
    (s.modFn f fun r => { r with ringBase := r.ringHi * 2 ^ 32 + r.ringLo, ringExp := r.ringSize }).assertEvent 211
  else s.modFn f fun r => { r with ringErr := true }

/-- The host writes a word of the mailbox page of function `f` (Table 5.6). -/
def State.mbxPageWrite (f off v : Nat) (s : State) : State :=
  if off % 4 ≠ 0 then s
  else if off < 0x40 then s.modFn f fun r => { r with inMsg := Tab.set 0 r.inMsg (off / 4) (v % 2 ^ 32) }
  else match off with
    | 0x80 =>
      let s := if bit v 1 then s.outAck f else s
      if bit v 0 then s.inPost f else s
    | 0x88 => s.modFn f fun r => { r with vector := slice v 0 11, vecEn := bit v 15 }
    | 0x90 => s.modFn f fun r => { r with ringLo := v % 2 ^ 32 / 4096 * 4096 }
    | 0x94 => s.commitRing f v
    | 0x98 => s.modFn f fun r => { r with ringSize := v % 32 }
    | _ => s

/-- STATUS (Table 5.7). -/
def Fn.mbxStatus (r : Fn) : Nat :=
  r.outFull.toNat * 512 + r.inBusy.toNat * 256 + r.ringErr.toNat * 8 + r.inOver.toNat * 4 + r.inTaken.toNat * 2 + r.outNew.toNat

/-- A word of the mailbox page as the host reads it (Table 5.6). -/
def Fn.mbxPage (r : Fn) (off : Nat) : Nat :=
  if off % 4 ≠ 0 then 0
  else if off < 0x40 then Tab.get 0 r.inMsg (off / 4)
  else if off < 0x80 then Tab.get 0 r.outMsg (off / 4 - 16)
  else match off with
    | 0x84 => r.mbxStatus
    | 0x88 => r.vecEn.toNat * 2 ^ 15 + r.vector
    | 0x90 => r.ringLo
    | 0x94 => r.ringHi
    | 0x98 => r.ringSize
    | _ => 0

/-- A read of STATUS clears its RC bits. -/
def State.mbxPageRead (f off : Nat) (s : State) : State :=
  if off = 0x84 then s.modFn f fun r => { r with ringErr := false, inOver := false, inTaken := false, outNew := false } else s

/-- MAILBOX_IN_POST (R177): the host writes IN_MSG, then IN_POST = 1. -/
def mailboxInPost (f : Nat) (msg : List Nat) (s : State) : State :=
  if !s.bar f then s
  else (s.modFn f fun r => { r with inMsg := (List.range 16).foldl (fun t i => Tab.set 0 t i (msg.getD i 0 % 2 ^ 32)) [] }).inPost f
def execMailboxInPost (fn : Nat) (msg : List Nat) (s : State) : Host.Outcome State Fault Refusal := done (mailboxInPost fn msg s)

/-- MAILBOX_OUT_ACK (R178): the host writes VECTOR, then OUT_ACK = 1. -/
def mailboxOutAck (f v : Nat) (s : State) : State := if !s.bar f then s else (s.mbxPageWrite f 0x88 v).outAck f
def execMailboxOutAck (fn vector : Nat) (s : State) : Host.Outcome State Fault Refusal := done (mailboxOutAck fn vector s)

/-- MAILBOX_RING_COMMIT (R179): the host writes RING_LO and RING_SIZE, then RING_HI. -/
def mailboxRingCommit (f lo hi size : Nat) (s : State) : State :=
  if !s.bar f then s else ((s.mbxPageWrite f 0x90 lo).mbxPageWrite f 0x98 size).commitRing f hi
def execMailboxRingCommit (fn lo hi size : Nat) (s : State) : Host.Outcome State Fault Refusal := done (mailboxRingCommit fn lo hi size s)

/-- An outbound message is posted to function `f` (R178): copied, with the MSI-X message of VECTOR; ignored while OUT_FULL. -/
def State.outPost (f : Nat) (s : State) : State :=
  let r := s.fn f
  if r.outFull then s.put FNS_MBXACK.REJ true
  else
    let s := s.modFn f fun r => { r with outMsg := r.mbxOut, outFull := true, outNew := true }
    if r.vecEn then s.sendMsix f r.vector else s

/-- The inbound message of function `f` is taken (R178). -/
def State.inDone (f : Nat) (s : State) : State := s.modFn f fun r => { r with inBusy := false, inTaken := true }

/-- A write of FNS_MBXACK. -/
def State.writeMbxAck (v : Nat) (s : State) : State :=
  let f := FNS_MBXACK.FUNC.of v
  let s := if FNS_MBXACK.OUT_POST.of v = 1 then s.outPost f else s
  if FNS_MBXACK.IN_DONE.of v = 1 then s.inDone f else s

/-- OUT_POST (R178). -/
def outPost (m v : Nat) (s : State) : State := s.access m FNS_MBXACK.FUNC.addr (State.writeMbxAck v)
def execOutPost (master value : Nat) (s : State) : Host.Outcome State Fault Refusal := done (outPost master value s)

/-- IN_DONE (R178). -/
def inDone (m v : Nat) (s : State) : State := s.access m FNS_MBXACK.FUNC.addr (State.writeMbxAck v)
def execInDone (master value : Nat) (s : State) : Host.Outcome State Fault Refusal := done (inDone master value s)

end Sys2Proof.Machine
end

