-- ==== Sys2Proof/Machine/Hold.lean ====
section
/-! DEFINITION. Machine/Hold.lean: the commands of the hold-up manager (13_protected_cache_holdup.md). -/

namespace Sys2Proof.Machine

/-- MAIN_SENSE_LOW (R411): a sample of `mv` mV; below the loss threshold it starts the loss timer. -/
def mainSenseLow (mv : Nat) (s : State) : State :=
  let s := if s.up then s.setFld HLD_SENSE.MAIN mv else s
  if mv < s.dnum 0x2301 0 then s.mainLow else s
def execMainSenseLow (mv : Nat) (s : State) : Host.Outcome State Fault Refusal := done (mainSenseLow mv s)

/-- LOSS_DEBOUNCE_EXPIRE (R411, R417, R432). -/
def lossDebounceExpire (s : State) : State := s.lossDebounced
def execLossDebounceExpire (s : State) : Host.Outcome State Fault Refusal := done (lossDebounceExpire s)

/-- LOSS_TIMER_CLEAR (R411): main has stayed above the good threshold; the last sample is `mv`. -/
def lossTimerClear (mv : Nat) (s : State) : State :=
  let s := if s.up then s.setFld HLD_SENSE.MAIN mv else s
  if s.dnum 0x2302 0 < mv then s.lossCleared else s
def execLossTimerClear (mv : Nat) (s : State) : Host.Outcome State Fault Refusal := done (lossTimerClear mv s)

/-- GOOD_DEBOUNCE_EXPIRE (R415, R514): main has stayed good: step 3 of the start, or INIT to CHARGING. -/
def goodDebounceExpire (s : State) : State :=
  if s.ctl.waitMain && s.ctl.vaon then s.mainGoodStart
  else if s.up && s.hldState == hldInit && !s.hld.timer then
    ((((s.toHld hldCharging).put HLD_STAT.MAINGOOD true).modHld fun h => { h with chgEn := !h.ovOff && !h.checking })).holdCheck
  else s
def execGoodDebounceExpire (s : State) : Host.Outcome State Fault Refusal := done (goodDebounceExpire s)

/-- HU_SENSE_CROSSING (R412): HU_SENSE reads `mv` mV after a crossing. -/
def huSenseCrossing (mv : Nat) (s : State) : State :=
  if !s.up || s.hldState == hldDone then s
  else
    let s := s.setFld HLD_SENSE.HU mv
    let arm := s.dnum 0x2306 0
    let dis := s.dnum 0x2307 0
    let s := s.modHld fun h => { h with charged := decide (arm ≤ mv) || (h.charged && decide (dis ≤ mv)) }
    if s.hldState = hldDumping then s
    else
      let s := if s.dnum 0x2308 0 < mv ∧ s.hld.ovOff = false then
          ((s.modHld fun h => { h with ovOff := true, chgEn := false }).put HLD_STAT.OV true).assertEvent 363 else s
      let s := if mv < arm ∧ s.hld.ovOff then
          let s := s.modHld fun h => { h with ovOff := false }
          let c := s.chargeOn && !s.hld.checking
          s.modHld fun h => { h with chgEn := c }
        else s
      s.holdCheck
def execHuSenseCrossing (mv : Nat) (s : State) : Host.Outcome State Fault Refusal := done (huSenseCrossing mv s)

/-- CHECK_NOW (R413). -/
def checkNow (m v : Nat) (s : State) : State := s.access m HLD_CTRL.EN.addr (State.writeHldCtrl v)
def execCheckNow (master value : Nat) (s : State) : Host.Outcome State Fault Refusal := done (checkNow master value s)

/-- STORE_CHECK_END (R413): the charge and the drop the check measured. -/
def storeCheckEnd (chargeUas dropMv : Nat) (s : State) : State := s.endCheck chargeUas dropMv
def execStoreCheckEnd (chargeUas dropMv : Nat) (s : State) : Host.Outcome State Fault Refusal := done (storeCheckEnd chargeUas dropMv s)

/-- STORE_CHECK_INTERVAL (R413). -/
def storeCheckInterval (s : State) : State := if s.hldState = hldArmed then s.startCheck else s
def execStoreCheckInterval (s : State) : Host.Outcome State Fault Refusal := done (storeCheckInterval s)

/-- DRAIN (R415). -/
def drainWrite (m v : Nat) (s : State) : State := s.access m HLD_CTRL.EN.addr (State.writeHldCtrl v)
def execDrain (master value : Nat) (s : State) : Host.Outcome State Fault Refusal := done (drainWrite master value s)

/-- HOLDUP_ENABLE_WRITE (R414, R520). -/
def holdupEnableWrite (m v : Nat) (s : State) : State := s.access m HLD_CTRL.EN.addr (State.writeHldCtrl v)
def execHoldupEnableWrite (master value : Nat) (s : State) : Host.Outcome State Fault Refusal := done (holdupEnableWrite master value s)

/-- The erase of a dump slot on every dump die starts (R428, R430). -/
def State.eraseSlot (slot : Nat) (s : State) : State :=
  let l := s.dumpDies.filter s.usableDie
  let s := s.modHld fun h => { h with eraseLeft := Tab.set 0 h.eraseLeft slot l.length }
  each l (fun die s => s.submitHw (die / 16) clsBack (s.opDesc 4 6 512 die ((s.systemUnits die).getD slot 0) 0 0 (.dumpErase slot))) s

/-- HOLDUP_ARM (R407, R415, R430): ARMED is entered; the slot replayed at this start is erased; replayed pieces
proceed to SLC; waiting pieces commit. -/
def holdupArm (s : State) : State :=
  if s.armOk && (s.hldState == hldCharging || (s.hldState == hldDraining && !s.hld.drainReq)) then
    let s := (s.toHld hldArmed).assertEvent 358
    let s := match s.hld.replaySlot with
      | some k => (s.modHld fun h => { h with replaySlot := none }).eraseSlot k
      | none => s
    let s := if s.hld.loaded then s.resumeSlc.modHld fun h => { h with loaded := false } else s
    s.settle
  else s
def execHoldupArm (s : State) : Host.Outcome State Fault Refusal := done (holdupArm s)

/-- DRAIN_COMPLETE (R416). -/
def drainComplete (s : State) : State :=
  if s.hldState = hldDraining ∧ s.hfe.blkTub = [] ∧ s.msh.parity = [] ∧ s.hld.drainCkpt ∧ s.hld.drainFlush then
    ((s.assertEvent 360).toHld hldCharging).holdCheck
  else s
def execDrainComplete (s : State) : Host.Outcome State Fault Refusal := done (drainComplete s)

/-- DUMP_END (R422, R424). -/
def dumpEnd (s : State) : State := s.endDump
def execDumpEnd (s : State) : Host.Outcome State Fault Refusal := done (dumpEnd s)

/-- DONE_RESTART (R415, R519): main has been good for the good debounce; the start begins at step 2. A thermal shutdown waits for
its own restart (R547). -/
def doneRestart (s : State) : State :=
  if s.hldState = hldDone ∧ s.pow.shutPend = false then
    (((s.toHld hldInit).notWoken.modHld fun h => { h with pfailLow := false }).startStep2 s.ctl.cause)
  else s
def execDoneRestart (s : State) : Host.Outcome State Fault Refusal := done (doneRestart s)

end Sys2Proof.Machine
end

