-- ==== Sys2Proof/Machine/Link.lean ====
section
/-! DEFINITION. Machine/Link.lean: the commands of the PCIe host link (03_host_link.md). -/

namespace Sys2Proof.Machine

/-- Are VDDA_PCIE and VDDH_PCIE on (Table 16.5, R538)? -/
def State.pcieSupplied (s : State) : Bool := bit s.ctl.pgood 3 && bit s.ctl.pgood 4

/-- The straps are sampled (R87); with PCIE_BIF = 1 function 1 has the allocation of Table 4.8 and Table 4.9. -/
def State.sampleStraps (bifur sris : Bool) (s : State) : State :=
  let s := ((s.put PCI_STRAP.BIF bifur).put PCI_STRAP.SRIS sris).modPci fun x => { x with strapped := true }
  if bifur && s.fld (HFE_CMDLIM.LIMIT 1) == 0 then
    ((s.setFld (HFE_QALLOC.NSQ 1) 0x400).setFld (HFE_QALLOC.NCQ 1) 0x400).setFld (HFE_CMDLIM.LIMIT 1) 0x2000
  else s

/-- PERST_DEASSERT (R87, R107, R114, R538): ignored without the PCIe supplies. The straps are sampled at port 0's first one after the
logic die left reset, which starts port 1 too where its own came before; training starts, WAKEp_N is released. A port that does
not exist ignores it (R89). -/
def perstDeassert (p : Nat) (bifur sris : Bool) (s : State) : State :=
  if !s.pcieSupplied || !(s.port p).perst || (s.pci.strapped && !s.portExists p) then s
  else
    let s := s.modPort p fun x => { x with perst := false, wakeOut := false }
    if !s.up then s
    else
      let first := p == 0 && !s.pci.strapped
      let s := if first then s.sampleStraps bifur sris else s
      let s := if s.pci.strapped && s.portExists p then s.startTraining p else s
      if first && s.portExists 1 && !(s.port 1).perst then s.startTraining 1 else s
def execPerstDeassert (port : Nat) (bifur sris : Bool) (s : State) : Host.Outcome State Fault Refusal :=
  done (perstDeassert port bifur sris s).endPcieLoops

/-- PERST_ASSERT (R110, R538). -/
def perstAssert (p : Nat) (s : State) : State :=
  if s.pcieSupplied && !(s.port p).perst then
    (if s.portExists p then (((s.resetPort p).linkDown p 0).modPort p fun x => { x with perst := true, training := false }).settle
     else s.modPort p fun x => { x with perst := true })
  else s
def execPerstAssert (port : Nat) (s : State) : Host.Outcome State Fault Refusal := done (perstAssert port s).endPcieLoops

/-- HOT_RESET (R110): the port and its functions are reset and the link trains again. -/
def hotReset (p : Nat) (s : State) : State :=
  if s.portExists p && s.on (PCI_LSTAT.LINKUP p) then (((s.resetPort p).startTraining p).setFld (PCI_LSTAT.LTSSM p) 9).settle else s
def execHotReset (port : Nat) (s : State) : Host.Outcome State Fault Refusal := done (hotReset port s).endPcieLoops

/-- LINK_DISABLE (R110). -/
def linkDisable (p : Nat) (s : State) : State :=
  if s.portExists p && s.on (PCI_LSTAT.LINKUP p) then
    (((s.resetPort p).linkDown p 7).modPort p fun x => { x with training := false }).settle
  else s
def execLinkDisable (port : Nat) (s : State) : Host.Outcome State Fault Refusal := done (linkDisable port s).endPcieLoops

/-- LINK_LOSS (R112). -/
def linkLoss (p : Nat) (s : State) : State := s.loseLink p
def execLinkLoss (port : Nat) (s : State) : Host.Outcome State Fault Refusal := done (linkLoss port s).endPcieLoops

/-- Is L0p possible on port `p` (R94)? -/
def State.l0pOk (s : State) (p : Nat) : Bool :=
  s.on (PCI_LSTAT.LINKUP p) && s.on (PCI_LSTAT.FLIT p) && s.fld (PCI_LSTAT.RATE p) == 6 && s.fld (PCI_LSTAT.LTSSM p) == 3

/-- The width an L0P_WIDTH code names; 0 for none or full. -/
def l0pWidth (code : Nat) : Nat := if code = 1 then 1 else if code = 2 then 2 else if code = 3 then 4 else 0

/-- The width port `p` requests of its partner (R94): that of L0P_WIDTH where it is narrower than the negotiated one; full width where
L0P_WIDTH is written 0 and the active width is narrower; 0 for none. -/
def State.l0pWish (s : State) (p : Nat) : Nat :=
  let w := l0pWidth (s.fld PCI_CTRL.L0P_WIDTH)
  let full := s.fld (PCI_LSTAT.WIDTH p)
  if !s.l0pOk p then 0
  else if w = 0 then (if s.fld (PCI_LSTAT.ACTWIDTH p) < full then full else 0)
  else if w < full then w else 0

/-- LINK_UP (R90, R92, R94, R107): training ends in L0 with what both partners can do. -/
def linkUp (p rate width : Nat) (flit : Bool) (s : State) : State :=
  let x := s.port p
  let lanes := if s.on PCI_STRAP.BIF then 4 else 8
  let ok := s.portExists p && x.training && !x.perst && decide (1 ≤ rate) && decide (rate ≤ x.trainRate) && (x.trainFlit || !flit) &&
    (flit || decide (rate ≤ 5)) && [1, 2, 4, 8].contains width && decide (width ≤ lanes)
  if ok then
    let s := ((s.setFld (PCI_LSTAT.LTSSM p) 3).put (PCI_LSTAT.LINKUP p) true).put (PCI_LSTAT.FLIT p) flit
    ((((s.setFld (PCI_LSTAT.RATE p) rate).setFld (PCI_LSTAT.WIDTH p) width).setFld (PCI_LSTAT.ACTWIDTH p) width).setFld
      (PCI_LSTAT.L1SUB p) 0).modPort p fun y => { y with training := false, l0pReq := 0, clkOff := false }
  else s
def execLinkUp (port rate width : Nat) (flit : Bool) (s : State) : Host.Outcome State Fault Refusal := done (linkUp port rate width flit s)

/-- RECOVERY_ENTRY (R156): from L0 or L0p; events 194 and 195. -/
def recoveryEntry (p : Nat) (s : State) : State :=
  if s.portExists p && s.fld (PCI_LSTAT.LTSSM p) == 3 then
    (((s.setFld (PCI_LSTAT.LTSSM p) 4).count (PCI_ERRCNT.RECOV p) 1).modPort p fun x => { x with training := true }).assertEvent (194 + p)
  else s
def execRecoveryEntry (port : Nat) (s : State) : Host.Outcome State Fault Refusal := done (recoveryEntry port s).endPcieLoops

/-- FLIT_CRC_FAIL (R93): a corrected FLIT, or a replay in non-FLIT mode, is counted; a failed one is not delivered. -/
def flitCrcFail (p : Nat) (corrected : Bool) (s : State) : State :=
  if s.portExists p && s.on (PCI_LSTAT.LINKUP p) then
    if s.on (PCI_LSTAT.FLIT p) then
      (if corrected then (s.count (PCI_ERRCNT.CORR p) 1).modPci fun x => { x with delivered := x.delivered + 1 } else s)
    else s.count (PCI_ERRCNT.CORR p) 1
  else s
def execFlitCrcFail (port : Nat) (corrected : Bool) (s : State) : Host.Outcome State Fault Refusal := done (flitCrcFail port corrected s)

/-- L0P_REQUEST (R94): every width change the partner requests is accepted; that of the width the port itself has asked for is the
partner's agreement. -/
def l0pRequest (p width : Nat) (s : State) : State :=
  if s.portExists p && s.l0pOk p && [1, 2, 4, 8].contains width && decide (width ≤ s.fld (PCI_LSTAT.WIDTH p)) then
    (s.setFld (PCI_LSTAT.ACTWIDTH p) width).modPort p fun x => { x with l0pReq := if x.l0pReq = width then 0 else x.l0pReq }
  else s
def execL0pRequest (port width : Nat) (s : State) : Host.Outcome State Fault Refusal := done (l0pRequest port width s)

/-- A write of PCI_CTRL (Table 3.7): CFG_READY only sets; L0P_WIDTH makes each port request a narrower width, or the return to
full width (R94). -/
def writePciCtrl (v : Nat) (s : State) : State :=
  let s := if PCI_CTRL.CFG_READY0.of v = 1 then s.put PCI_CTRL.CFG_READY0 true else s
  let s := if PCI_CTRL.CFG_READY1.of v = 1 then s.put PCI_CTRL.CFG_READY1 true else s
  let s := ((s.setFld PCI_CTRL.L0P_WIDTH (PCI_CTRL.L0P_WIDTH.of v)).setFld PCI_CTRL.FLIT_DIS (PCI_CTRL.FLIT_DIS.of v)).setFld
    PCI_CTRL.MAXRATE (PCI_CTRL.MAXRATE.of v)
  each [0, 1] (fun p s => s.modPort p fun x => { x with l0pReq := s.l0pWish p }) s

/-- L0P_WIDTH_WRITE (R94). -/
def l0pWidthWrite (m v : Nat) (s : State) : State := s.access m PCI_CTRL.MAXRATE.addr (writePciCtrl v)
def execL0pWidthWrite (master value : Nat) (s : State) : Host.Outcome State Fault Refusal := done (l0pWidthWrite master value s)

/-- CFG_READY_SET (R108). -/
def cfgReadySet (m v : Nat) (s : State) : State := s.access m PCI_CTRL.MAXRATE.addr (writePciCtrl v)
def execCfgReadySet (master value : Nat) (s : State) : Host.Outcome State Fault Refusal := done (cfgReadySet master value s)

/-- CFG_READY_TIMEOUT (R108): the device sets CFG_READYp and every function of the port, those enabled later among them, reports
CSTS.CFS; events 197, 206. -/
def cfgReadyTimeout (p : Nat) (s : State) : State :=
  if s.portExists p && !(s.port p).perst && !s.on (cfgReady p) then
    let s := each ((s.portFns p).filter s.fnExists) (fun f s => s.modFn f fun r => { r with cfs := true }) s
    ((s.modPort p fun x => { x with cfsAll := true }).put (cfgReady p) true).assertEvents [197, 206]
  else s
def execCfgReadyTimeout (port : Nat) (s : State) : Host.Outcome State Fault Refusal := done (cfgReadyTimeout port s)

/-- Size of a BAR (Table 3.3). -/
def barSize (b : Nat) : Nat := if b = 0 then 131072 else if b = 2 then 4096 else if b = 4 then 65536 else 0

/-- TotalVFs of a physical function (Table 3.2). -/
def State.totalVfs (s : State) : Nat := if s.on PCI_STRAP.BIF then 255 else 510

/-- The routing ID of function `f` (Table 3.2). -/
def State.routingId (s : State) (f : Nat) : Nat :=
  let k := if s.isPf f then 0 else s.vfNumber f
  ((s.port (s.portOf f)).bus + k / 256) * 256 + k % 256

/-- CAP (R109, R118, R130, Table 3.3): MQES, CQR, AMS with weighted round robin with urgent, TO, DSTRD; 4 KiB is the least memory page
size (R142); its other bits are free values. -/
def capWord : Nat :=
  let r := Config.capRest.toNat
  0xFFFF + 2 ^ 16 + 2 ^ 17 + slice r 19 5 * 2 ^ 19 + 120 * 2 ^ 24 + slice r 36 12 * 2 ^ 36 + slice r 52 12 * 2 ^ 52

/-- A word of the controller registers of function `f`: CAP, CC and CSTS as far as the spec gives them. -/
def State.bar0Word (s : State) (f off : Nat) : Nat :=
  let r := s.fn f
  let rest := (Config.bar0Word off s.free).toNat
  match off with
  | 0x00 => capWord % 2 ^ 32
  | 0x04 => capWord / 2 ^ 32
  | 0x14 => slice rest 1 10 * 2 + r.en.toNat + r.ams * 2 ^ 11 + slice rest 14 18 * 2 ^ 14
  | 0x1C => slice rest 2 30 * 4 + r.cfs.toNat * 2 + r.rdy.toNat
  | _ => rest

/-- A word of BAR4 of function `f`: the MSI-X table, then the pending-bit array (Table 3.3). -/
def Fn.bar4Word (r : Fn) (off : Nat) : Nat :=
  if off < 0x8000 then
    (if off % 16 = 12 then (!r.msixOpen.contains (off / 16)).toNat else Tab.get 0 r.msixTab (off / 16 * 4 + off % 16 / 4))
  else ((List.range 32).map fun i => if r.msixPend.contains ((off - 0x8000) * 8 + i) then 2 ^ i else 0).sum

/-- A memory read of a word of BAR `b` of function `f` (R99, R176). -/
def State.barWord (s : State) (f b off : Nat) : Nat :=
  if b = 0 then s.bar0Word f off
  else if b = 2 then (s.fn f).mbxPage off
  else if b = 4 then (s.fn f).bar4Word off
  else 0

/-- The vectors of function `f` that pend and are no longer masked leave. -/
def State.releaseMsix (f : Nat) (s : State) : State :=
  let r := s.fn f
  if r.msixMask || !r.msixEn then s
  else
    let l := r.msixPend.filter r.msixOpen.contains
    (s.modFn f fun r => { r with msixPend := r.msixPend.filter fun v => !r.msixOpen.contains v }).modHfe fun h =>
      { h with msix := h.msix ++ l.map fun v => (f, v) }

/-- A write of a word of the MSI-X table. -/
def State.msixWrite (f off v : Nat) (s : State) : State :=
  let k := off / 16
  if 0x8000 ≤ off ∨ s.vectors f ≤ k then s
  else if off % 16 = 12 then
    (s.modFn f fun r => { r with msixOpen := if bit v 0 then dropFrom k r.msixOpen else addTo k r.msixOpen }).releaseMsix f
  else s.modFn f fun r => { r with msixTab := Tab.set 0 r.msixTab (k * 4 + off % 16 / 4) (v % 2 ^ 32) }

/-- CONTROLLER_ENABLE (R116, R117, R518), which no port in Loopback receives: the allocation is applied, the admin queues exist; event 200. -/
def controllerEnable (f ams : Nat) (s : State) : State :=
  if s.fnExists f && !(s.fn f).en && !(s.fn f).d3 && decide (ams ≤ 1) && s.fld (PCI_LSTAT.LTSSM (s.portOf f)) != 8 then
    let q := s.fld (HFE_QALLOC.NSQ f)
    let c := s.fld (HFE_QALLOC.NCQ f)
    let a := s.on HFE_CTRL.ADMIT_EN
    let s := s.modFn f fun r => { r with en := true, rdy := a, ams := ams, nsq := q, ncq := c }
    let s := s.modSq f 0 fun _ => { size := 4096 }
    (s.modCq f 0 fun _ => { size := 4096, ien := true }).assertEvent 200
  else s
def execControllerEnable (fn ams : Nat) (s : State) : Host.Outcome State Fault Refusal := done (controllerEnable fn ams s).endPcieLoops

/-- CONTROLLER_RESET (R148). -/
def controllerReset (f : Nat) (s : State) : State := if (s.fn f).en then ((s.disableFn f).settle).observeAll else s
def execControllerReset (fn : Nat) (s : State) : Host.Outcome State Fault Refusal := done (controllerReset fn s)

/-- A write of a word of the controller registers or doorbells of function `f`: CC, and the doorbells at their 4-byte stride. -/
def State.bar0Write (f off v : Nat) (s : State) : State :=
  if off = 0x14 then
    (if bit v 0 then controllerEnable f (slice v 11 3) s else controllerReset f s)
  else if off < 0x1000 then s
  else if off % 8 = 0 then sqTailDoorbell f ((off - 0x1000) / 8) (v % 65536) s
  else cqHeadDoorbell f ((off - 0x1000) / 8) (v % 65536) s

/-- A memory write of a word of BAR `b` of function `f` (R99, R176). -/
def State.barWrite (f b off v : Nat) (s : State) : State :=
  if b = 0 then s.bar0Write f off v
  else if b = 2 then s.mbxPageWrite f off v
  else if b = 4 then s.msixWrite f off v
  else s

/-- The value of a read-only field of configuration space (R95, R97, R99, R101, R102, R106). -/
def State.capField (s : State) (f : Nat) : CapField → Nat
  | .totalVfs => if s.isPf f then s.totalVfs else 0
  | .initialVfs => if s.isPf f then s.totalVfs else 0
  | .numVfs => if s.isPf f then (s.port (s.portOf f)).vfNum else 0
  | .firstVfOffset => if s.isPf f then 1 else 0
  | .vfStride => if s.isPf f then 1 else 0
  | .maxPayload => 512
  | .maxReadRequest => 4096
  | .tenBitTag => 3                                   -- as completer and as requester
  | .outstanding => 768
  | .powerStates => 0b10001                           -- D0, D3hot and D3cold; neither D1 nor D2
  | .barType b => if b = 0 ∨ b = 2 ∨ b = 4 then 0b0100 else 0   -- memory, 64-bit, not prefetchable
  | .ptmGranularity => 40
  | .atsQueueDepth => 0                               -- 0 stands for 32
  | .ariNext => 0
  | .aer => 1
  | .msixTable => 0x0000 + 4                          -- offset 0 of BAR4
  | .msixPba => 0x8000 + 4

/-- Payload sizes supported, bytes (R101). -/
def payloadSizes : List Nat := [128, 256, 512]

/-- Read request sizes supported, bytes (R101). -/
def requestSizes : List Nat := [128, 256, 512, 1024, 2048, 4096]

/-- The power state of function `f` (R102): 0 D0, 3 D3hot. D3cold is a port without its main power, which answers nothing. -/
def Fn.dState (r : Fn) : Nat := if r.d3 then 3 else 0

/-- Reads of configuration space (R97 to R106). -/
def State.configRead (s : State) (p f : Nat) : CfgReq → Option Nat
  | .readIds => some (0x8128 * 65536 + Config.vendorId.toNat)
  | .readClass => some 0x010802
  | .readSubsystem => some ((s.port p).subsys.getD (0x8128 * 65536 + Config.vendorId.toNat))
  | .readInterruptPin => some 0
  | .readMsixSize => some (s.vectors f)
  | .readBarSize b => some (barSize b)
  | .readPowerState => some ((s.fn f).pmeStat.toNat * 2 ^ 15 + (s.fn f).pmeEn.toNat * 2 ^ 8 + (s.fn f).dState)
  | .readCap c => some (s.capField f c)
  | .readAer => some (s.fn f).aerUnc
  | .readAerCorrectable => some (s.fn f).aerCor
  | .readAerHeader w => some ((s.fn f).aerHdr.getD w 0)
  | _ => none

/-- Virtual functions 1 to `n` of port `p` are enabled, or none (R97, R103, R108, R180). -/
def State.enableVfs (p n : Nat) (s : State) : State :=
  if n = 0 then (s.clearVfs p).settle
  else
    let s := s.modPort p fun x => { x with vfNum := n }
    let c := (s.port p).cfsAll
    (each (s.portVfs p) (fun v s => s.modFn v fun x => { x with vecs := s.fnSetting v 8, cfs := x.cfs || c }) s).assertIf c 206

/-- Bits of `v` without those of `b`: a write-one-to-clear register. -/
def clearBits (v b : Nat) : Nat := v - (v &&& b)

/-- Writes of configuration space, and what else reaches a function (R97 to R106); none where the request is not supported. -/
def State.configWrite (p f : Nat) (r : CfgReq) (s : State) : Option State :=
  match r with
  | .setPowerState d => some (s.modFn f fun x => { x with d3 := d })
  | .setBusMaster on => some (s.modFn f fun x => { x with busMaster := on })
  | .setPmeEn on => some (s.modFn f fun x => { x with pmeEn := on })
  | .clearPme => some (s.modFn f fun x => { x with pmeStat := false })
  | .setMsixEnable on => some ((s.modFn f fun x => { x with msixEn := on }).releaseMsix f)
  | .setMsixMask on => some ((s.modFn f fun x => { x with msixMask := on }).releaseMsix f)
  | .setVfEnable n => if s.isPf f && decide (n ≤ s.totalVfs) then some (s.enableVfs p n) else none
  | .setBus b => some (s.modPort p fun x => { x with bus := b })
  | .setPayload n => some (if payloadSizes.contains n then s.modFn f fun x => { x with mps := n } else s)
  | .setReadRequest n => some (if requestSizes.contains n then s.modFn f fun x => { x with mrrs := n } else s)
  | .setTenBitTag on => some (s.modFn f fun x => { x with tag10 := on })
  | .setAspm l1 l11 l12 => some (s.modPort p fun x => { x with aspm := l1.toNat + 2 * l11.toNat + 4 * l12.toNat })
  | .setLtr on => some (s.modPort p fun x => { x with ltr := on })
  | .setPtm on => some (s.modPort p fun x => { x with ptm := on })
  | .setAts on => some (s.modFn f fun x => { x with atsEn := on })
  | .clearAer b => some (s.modFn f fun x => { x with aerUnc := clearBits x.aerUnc b })
  | .clearAerCorrectable b => some (s.modFn f fun x => { x with aerCor := clearBits x.aerCor b })
  | .atsTranslation a =>
    if (s.fn f).atsEn then some (s.modPort p fun x => { x with ats := (dropFrom a x.ats ++ [a]).drop (x.ats.length + 1 - 1024) }) else none
  | _ => none

/-- A memory request of `n` bytes to BAR `b` of function `f`, in words (R99, R176); none where the request is not supported. -/
def State.barRequest (f : Nat) (r : CfgReq) (s : State) : Option (Option Nat × State) :=
  match r with
  | .barRead b off n =>
    if !s.bar f || barSize b ≤ off then none
    else if n = 4 && off % 4 == 0 then some (some (s.barWord f b off), (if b = 2 then s.mbxPageRead f off else s).tookFree)
    else if n = 8 && off % 8 == 0 && b != 2 then some (some (s.barWord f b off + s.barWord f b (off + 4) * 2 ^ 32), s.tookFree)
    else some (some 0, s)
  | .barWrite b off n v =>
    if !s.bar f || barSize b ≤ off then none
    else if n = 4 && off % 4 == 0 then some (none, s.barWrite f b off v)
    else if n = 8 && off % 8 == 0 && b != 2 then some (none, (s.barWrite f b off (v % 2 ^ 32)).barWrite f b (off + 4) (v / 2 ^ 32))
    else some (none, s)
  | _ => none

/-- Is it a memory request to a BAR? -/
def isBarRequest : CfgReq → Bool
  | .barRead _ _ _ => true
  | .barWrite _ _ _ _ => true
  | _ => false

/-- What a request to function `f` of port `p` is answered, and its effect; an unsupported one is logged in AER (R106). -/
def configRequest (p f : Nat) (r : CfgReq) (s : State) : CfgResp × State :=
  if isBarRequest r then
    (match s.barRequest f r with
     | some (some v, t) => (.data v, t)
     | some (none, t) => (.done, t)
     | none => (.unsupported, s.logUnsupported p))
  else
    match s.configRead p f r with
    | some v => (.data v, s)
    | none =>
      match s.configWrite p f r with
      | some t => (.done, t)
      | none => (.unsupported, s.logUnsupported p)

/-- CONFIGURATION_REQUEST (R108): retried with CRS while CFG_READYp is 0; with the memory requests to a BAR that no other row carries
(log entry 41). -/
def configurationRequest (p f : Nat) (r : CfgReq) (s : State) : State :=
  if s.up && s.portExists p && !(s.port p).perst then
    if !s.on (cfgReady p) && !isBarRequest r then s.modPort p fun x => { x with cfgResp := .crs }
    else if !s.fnExists f || s.portOf f != p then (s.logUnsupported p).modPort p fun x => { x with cfgResp := .unsupported }
    else
      let a := configRequest p f r s
      let rid := s.routingId f
      a.2.modPort p fun x => { x with cfgResp := a.1, cfgRid := rid }
  else s
def execConfigurationRequest (port fn : Nat) (req : CfgReq) (s : State) : Host.Outcome State Fault Refusal :=
  done (configurationRequest port fn req s)

/-- ATS_INVALIDATION (R106): the entry is dropped and the invalidation completes. Every transfer of the model ends in its own step, so
none that uses the entry is in progress and the queue of 32 never fills (log entry 42). -/
def execAtsInvalidation (port addr : Nat) (s : State) : Host.Outcome State Fault Refusal :=
  done (s.modPort port fun x => { x with ats := dropFrom addr x.ats, atsDone := x.atsDone + 1 })

/-- Do the host's enable bits allow the state of L1 with L1SUB code `sub` (R95)? -/
def State.l1Enabled (s : State) (p sub : Nat) : Bool :=
  let a := (s.port p).aspm
  bit a 0 && (sub == 1 || (sub == 2 && bit a 1) || (sub == 3 && bit a 2))

/-- LINK_L1_ENTRY (R95): L1.0, L1.1 or L1.2 as the host's enable bits allow; CLKREQp_N is released in a substate. -/
def linkL1Entry (p sub : Nat) (s : State) : State :=
  if s.portExists p && s.fld (PCI_LSTAT.LTSSM p) == 3 && s.l1Enabled p sub then
    ((s.setFld (PCI_LSTAT.LTSSM p) 5).setFld (PCI_LSTAT.L1SUB p) sub).modPort p fun x => { x with clkOff := decide (2 ≤ sub) }
  else s
def execLinkL1Entry (port substate : Nat) (s : State) : Host.Outcome State Fault Refusal := done (linkL1Entry port substate s).endPcieLoops

/-- LINK_L1_EXIT (R95). -/
def linkL1Exit (p : Nat) (s : State) : State :=
  if s.portExists p && s.fld (PCI_LSTAT.LTSSM p) == 5 then 
    ((s.setFld (PCI_LSTAT.LTSSM p) 3).setFld (PCI_LSTAT.L1SUB p) 0).modPort p fun x => { x with clkOff := false }
  else s
def execLinkL1Exit (port : Nat) (s : State) : Host.Outcome State Fault Refusal := done (linkL1Exit port s)

/-- LINK_L2_ENTRY (R529). -/
def linkL2Entry (p : Nat) (s : State) : State :=
  if s.portExists p && (s.fld (PCI_LSTAT.LTSSM p) == 3 || s.fld (PCI_LSTAT.LTSSM p) == 5) then s.linkDown p 6 else s
def execLinkL2Entry (port : Nat) (s : State) : Host.Outcome State Fault Refusal := done (linkL2Entry port s).endPcieLoops

/-- FUNCTION_LEVEL_RESET (R113, R180); events 198 and 199. -/
def functionLevelReset (f : Nat) (s : State) : State :=
  if s.fnExists f then ((((s.assertEvent 198).flrFn f).settle).observeAll).assertEvent 199 else s
def execFunctionLevelReset (fn : Nat) (s : State) : Host.Outcome State Fault Refusal := done (functionLevelReset fn s)

/-- VF_ENABLE_CLEAR (R180). -/
def execVfEnableClear (port : Nat) (s : State) : Host.Outcome State Fault Refusal := done ((s.clearVfs port).settle)

end Sys2Proof.Machine
end

