-- ==== Sys2Proof/Machine/Mash.lean ====
section
/-! DEFINITION. Machine/Mash.lean: the commands of the Mash engine (12_redundancy.md), and the time limits of flash operations
that can fail a die (09_flash_descriptors.md, 10_drift_microcode.md). -/

namespace Sys2Proof.Machine

/-- MSH_SSET_WRITE (R373). -/
def mshSsetWrite (m t v : Nat) (s : State) : State :=
  if 4096 ≤ t then s else s.access m (MSH_SSET.VALID t).addr (State.writeMshSset t v)
def execMshSsetWrite (master set value : Nat) (s : State) : Host.Outcome State Fault Refusal := done (mshSsetWrite master set value s)

/-- POSITION_WRITE (R373). -/
def positionWrite (m v : Nat) (s : State) : State := s.access m MSH_PDATA.DIE.addr (State.writePdata v)
def execPositionWrite (master value : Nat) (s : State) : Host.Outcome State Fault Refusal := done (positionWrite master value s)

/-- MASH_RECIPE_WRITE (R376). -/
def mashRecipeWrite (m v : Nat) (s : State) : State := s.access m MSH_RCPDATA.WORD.addr (State.writeRcpdata v)
def execMashRecipeWrite (master value : Nat) (s : State) : Host.Outcome State Fault Refusal := done (mashRecipeWrite master value s)

/-- A command of MSH_DCMD to die `d`. -/
def dieCommand (m d : Nat) (f : Nat → State → State) (s : State) : State := if 2048 ≤ d then s else s.access m MSH_DCMD.OP.addr fun s => (f d s).holdCheck

/-- FAIL (R383, R386). -/
def fail (m d : Nat) (s : State) : State := dieCommand m d State.dcmdFail s
def execFail (master die : Nat) (s : State) : Host.Outcome State Fault Refusal := done (fail master die s)

/-- ASSIGN (R387). -/
def assign (m d : Nat) (s : State) : State := dieCommand m d State.dcmdAssign s
def execAssign (master die : Nat) (s : State) : Host.Outcome State Fault Refusal := done (assign master die s)

/-- READMIT (R383, R389). -/
def readmit (m d : Nat) (s : State) : State := dieCommand m d State.dcmdReadmit s
def execReadmit (master die : Nat) (s : State) : Host.Outcome State Fault Refusal := done (readmit master die s)

/-- RETIRE (R383). -/
def retire (m d : Nat) (s : State) : State := dieCommand m d State.dcmdRetire s
def execRetire (master die : Nat) (s : State) : Host.Outcome State Fault Refusal := done (retire master die s)

/-- DIE_STATE_READ: MSH_DCMD READ. -/
def dieStateRead (m d : Nat) (s : State) : State := dieCommand m d State.dcmdRead s
def execDieStateRead (master die : Nat) (s : State) : Host.Outcome State Fault Refusal := done (dieStateRead master die s)

/-- DIE_PROBE (R388). -/
def dieProbe (answers : List Nat) (s : State) : State := if s.on MSH_CTRL.EN && !s.hld.committed then s.probeDies answers else s
def execDieProbe (answers : List Nat) (s : State) : Host.Outcome State Fault Refusal := done (dieProbe answers s)

/-- DIE_SELF_TEST_END (R389). -/
def dieSelfTestEnd (d : Nat) (patternOk : Bool) (erased : Nat) (failed : List Nat) (s : State) : State :=
  if 2048 ≤ d || s.hld.committed then s else s.endSelfTest d patternOk erased failed
def execDieSelfTestEnd (die : Nat) (patternOk : Bool) (erased : Nat) (failed : List Nat) (s : State) : Host.Outcome State Fault Refusal :=
  done (dieSelfTestEnd die patternOk erased failed s)

/-- REBUILD_ROW_TAKE (R391, R392): the row the pass takes next for the position. -/
def rebuildRowTake (t p row : Nat) (lost : List (Nat × Nat)) (s : State) : State :=
  if !s.mayRebuild then s
  else
    let s := s.settleRebuild t p
    if (s.mem (s.position t p).die).state = .rebuilding ∧ s.nextRebuild t p = some row then s.takeRow t p row lost else s
def execRebuildRowTake (set pos row : Nat) (lost : List (Nat × Nat)) (s : State) : Host.Outcome State Fault Refusal :=
  done (rebuildRowTake set pos row lost s)

/-- RESHAPE_START (R397, R398). -/
def reshapeStart (m v : Nat) (s : State) : State := s.access m MSH_RSHP.GO.addr (State.writeRshp v)
def execReshapeStart (master value : Nat) (s : State) : Host.Outcome State Fault Refusal := done (reshapeStart master value s)

/-- RESHAPE_COPY_SWITCH (R398). -/
def reshapeCopySwitch (i : Nat) (s : State) : State := s.reshapeSwitch i
def execReshapeCopySwitch (index : Nat) (s : State) : Host.Outcome State Fault Refusal := done (reshapeCopySwitch index s)

/-- PATROL_READ (R400 to R402): a row of a stripe set is read; `mismatch` names a stripe whose parity disagrees and, where it is
located, the wrong position; `last` ends the pass. -/
def patrolRead (t row : Nat) (mismatch : Option (Nat × Option Nat)) (last : Bool) (s : State) : State :=
  let here := t * 16384 + row
  if !s.mayPatrol t || (s.rowOwner t row).isNone || decide (here < s.msh.patSet * 16384 + s.msh.patRow) then s
  else
    let s := match mismatch with
      | some (st, some p) => s.addSuspect t row st p
      | some (_, none) => (s.count MSH_PATCNT.UNLOC 1).assertEvent 172
      | none => s
    let s := s.modMsh fun m => if last then { m with patSet := 0, patRow := 0 } else { m with patSet := t, patRow := row }
    if last then (s.count MSH_PATCNT.PASSES 1).assertEvent 170 else s
def execPatrolRead (set row : Nat) (mismatch : Option (Nat × Option Nat)) (last : Bool) (s : State) : Host.Outcome State Fault Refusal :=
  done (patrolRead set row mismatch last s)

/-- DIE_WAIT_TIMEOUT (R317, R386). -/
def dieWaitTimeout (e d : Nat) (resetOk : Bool) (s : State) : State :=
  let before := bit (s.fld (DRF_DIEERR.DIE e)) d
  if 128 ≤ e ∨ 16 ≤ d then s else ((s.timeoutDie e d resetOk).dieErrCheck e d before).holdCheck
def execDieWaitTimeout (engine die : Nat) (resetOk : Bool) (s : State) : Host.Outcome State Fault Refusal :=
  done (dieWaitTimeout engine die resetOk s)

/-- RUN_TIME_LIMIT_EXPIRE (R327, R386). -/
def runTimeLimitExpire (e k : Nat) (resetOk : Bool) (s : State) : State :=
  let d := (s.ctxOf e k).desc.die
  let before := bit (s.fld (DRF_DIEERR.DIE e)) d
  if 128 ≤ e then s else ((s.microTimeout e k resetOk).dieErrCheck e d before).holdCheck
def execRunTimeLimitExpire (engine ctx : Nat) (resetOk : Bool) (s : State) : Host.Outcome State Fault Refusal :=
  done (runTimeLimitExpire engine ctx resetOk s)

end Sys2Proof.Machine
end

