-- ==== Sys2Proof/Machine/CtlLoad.lean ====
section
/-! DEFINITION. Machine/CtlLoad.lean: the steps of the cold start from the configuration record to the application of a dump
(Table 16.6; R215 to R217, R222, R247, R390, R427 to R431, R596), as operations. -/

namespace Sys2Proof.Machine

/-- The last step completed. -/
def State.bootStep (s : State) : Nat := s.fld SYS_BOOTPHASE.STEP

/-- The state with `n` as the last step completed. -/
def State.toStep (n : Nat) (s : State) : State := s.setFld SYS_BOOTPHASE.STEP n

/-! The search for a dump (R427, R431). -/

/-- The slots that hold trailers above the replayed generation. -/
def State.dumpSlots (s : State) : List Nat :=
  [0, 1].filter fun k =>
    let w := if k = 0 then s.nv.slotA else s.nv.slotB
    !w.erased && decide (1 ≤ w.trailers) && decide (s.nv.replayed < w.gen)

/-- A slot's record. -/
def State.slotRec (s : State) (k : Nat) : Slot := if k = 0 then s.nv.slotA else s.nv.slotB

/-- The slot that the start replays: of those with 62 trailers the one with the highest generation. -/
def State.replayable (s : State) : Option Nat :=
  leastBy (fun k => 2 ^ 32 - (s.slotRec k).gen) (s.dumpSlots.filter fun k => decide (62 ≤ (s.slotRec k).trailers))

/-- An incomplete dump is found: counted once, Critical Warning bit 4, event 356 (R431). -/
def State.incompleteDump (s : State) : State :=
  if s.on HLD_DUMP.INCOMPLETE then s
  else
    let s := (s.put HLD_DUMP.INCOMPLETE true).modNv fun v => { v with incomplete := (v.incomplete + 1) % 2 ^ 32 }
    (s.criticalWarning 4).assertEvent 356

/-- Are the dump groups READY? -/
def State.dumpReady (s : State) : Bool := (bitsOf s.hld.maskNow 16).all fun g => s.grp g == grpReady

/-! Step 11 and 12 (R274, R454, R474, R499, R557, R592). -/

/-- The size of the protected class at a cold start (R454). -/
def State.loadSplit (s : State) : State :=
  if s.replayable.isSome then s.setFld TUB_SPLIT.P s.nv.splitP
  else
    let p := s.coldNum 0x3260 0
    (s.setFld TUB_SPLIT.P p).modNv fun v => { v with splitP := p }

/-- The watchdog of processor `n` starts with the timeout of entry 0x7103:00 (R610). -/
def State.startWatchdog (n : Nat) (s : State) : State :=
  let t := s.now
  (s.setFld (SAF_WDOG.TIMEOUT n) (s.dnum 0x7103 0)).modSaf fun x => { x with wdogAt := Tab.set 0 x.wdogAt n t }

/-- Logical core `n` starts at `pc`. -/
def State.startCore (n pc : Nat) (s : State) : State :=
  ((s.startWatchdog n).setFld SYS_CORECTL.RUN (setBit (s.fld SYS_CORECTL.RUN) n true)).modCtl fun c => { c with
    pc := Tab.set 0 c.pc n (pc % 2 ^ 40), starts := Tab.upd 0 c.starts n (· + 1) }

/-- The secure domain places a challenge from DRBG instance 0 in TST_DBGCHAL (R635). -/
def State.placeChallenge (s : State) : State :=
  let c := (Config.draw 0 s.cip.drawn0).toNat
  each (List.range 8) (fun i s => s.setFld (TST_DBGCHAL.WORD i) (slice c (32 * i) 32)) (s.modCip fun x => { x with drawn0 := x.drawn0 + 1 })

/-- SYS_RSTCAUSE bits [15:0]. -/
def State.rstCause (s : State) : Nat := s.fld SYS_RSTCAUSE.PGFAIL * 2 ^ 12 + s.fld SYS_RSTCAUSE.CAUSE

/-- Steps 11 and 12. -/
def State.loadRecords (s : State) : State :=
  let s := (s.loadConfig).loadKeys
  let mask := s.coldNum 0x230E 0
  let die := s.coldNum 0x230F 0
  let s := (s.modHld fun h => { h with maskNow := mask, dieNow := die }).loadSplit
  let s := each (List.range 16) State.reconcileGroup (s.modCtl fun c => { c with recLoaded := true })
  let s := ((s.toStep 11).startCore 0 s.ctl.entry).toStep 12
  if s.on EVR_CTRL.EN then s.record 4 0 0 s.rstCause else s

/-! Step 15 (R222, R390). -/

/-- The unit table, what flash holds of chunks and SLC pages, and the health values, from a half of the system area whose copy matches
its hash (R222, R224); with none LAYOUT stays 0. The numbers of the fold records go on from those in use. -/
def State.loadUnits (s : State) : State :=
  let k := s.nv.keep
  if s.nv.sysBad.contains 0 && s.nv.sysBad.contains 1 then s
  else
    (s.modMed fun m => { m with
      units := k.units, remap := k.remap, nonRow := k.nonRow, spare0 := k.spare0, slcCap := k.slcCap, slcUsed := k.slcUsed,
      slcLive := k.slcLive, slcPtr := k.slcPtr, chunks := k.chunks, chunkFn := k.chunkFn, folds := k.folds, mapAddr := k.mapAddr,
      mapUsed := k.mapUsed, mapUnit := k.mapUnit,
      serial := k.folds.foldl (fun n e => max n e.2.gen) m.serial }).loadHealth k |>.put MED_CTRL.LAYOUT k.layout

/-- The membership record; on the first start with none, the dies of the spare mask become SPARE. -/
def State.loadMembership (s : State) : State :=
  let v := s.nv
  if v.member = [] ∧ v.pos = [] then
    let mask := s.dnum 0x3302 0
    each (List.range 2048) (fun d s => if bit mask (d % 16) then s.modMem d fun x => { x with state := .spare } else s) s
  else
    let s := (s.setFld MSH_STAT.EPOCH v.memEpoch).modMsh fun m => { m with
      dies := v.member, pos := v.pos.map (fun e => (e.1, { e.2 with resumed := (Tab.get {} v.member e.2.die).state == .rebuilding })),
      lost := v.lost, lostMore := v.lostMore, suspects := v.suspects, lostEver := v.lostEver,
      rebRow := v.pos.foldl (fun t e =>
        if (Tab.get {} v.member e.2.die).state = .rebuilding then Tab.upd 0 t (e.1 / 128) (max e.2.rbrow) else t) [] }
    let s := s.put MSH_STAT.TBLFULL (decide (65536 ≤ v.lost.length))
    each v.member (fun e s =>
      let s := match e.2.minEpoch with
        | some n => (s.put (DRF_DEPOCH.EN (e.1 / 16) (e.1 % 16)) true).setFld (DRF_DEPOCH.MINEPOCH (e.1 / 16) (e.1 % 16)) n
        | none => s
      if e.2.state = .failed ∨ e.2.state = .returning ∨ e.2.state = .retired then s.setFence e.1 else s) s

/-! Step 16 (R428). -/

/-- The image of slot `k` is read into the protected class; the other slot is erased; event 365. -/
def State.loadDump (k : Nat) (s : State) : State :=
  let w := s.slotRec k
  let i := s.nv.image.getD {}
  let p := s.fld TUB_SPLIT.P
  let used := i.tubs.map (·.1)
  let s := s.modTubs fun t => { t with
    tub := i.tubs.foldl (fun m e => Tab.set {} m e.1 e.2) t.tub,
    pay := i.pays.foldl (fun m e => Tab.set 0 m e.1 e.2) t.pay,
    freshP := p, freed := ((List.range p).filter fun x => !used.contains x && decide (journalTubs ≤ x)) ++ t.freed.filter fun x => decide (p ≤ x) }
  let s := s.modMsh fun m => { m with parity := i.parity }
  let s := s.loadHealth i
  let s := s.modEvr fun e => { e with ring := i.recs }
  let s := s.modHld fun h => { h with loaded := true, replaySlot := some k }
  let s := ((s.put HLD_DUMP.VALID true).setFld HLD_DUMP.ERASURES (64 - w.trailers)).setFld HLD_DUMP.DURATION w.duration
  (((s.setFld HLD_GEN.GEN w.gen).eraseSlot (1 - k)).assertEvent 365).startFlush.toStep 16

/-! Step 17 (R215 to R217, R596). -/

/-- The checkpoint copy that the reload takes: the newer valid one (Table 6.4 step 1). -/
def Nv.checkpoint (v : Nv) : Ckpt :=
  if v.ckptA.ok && (!v.ckptB.ok || decide (v.ckptB.gen ≤ v.ckptA.gen)) then v.ckptA else if v.ckptB.ok then v.ckptB else {}

/-- The map as replay gives it: the map pages on flash, with the map journal of a dump applied (R232). -/
def State.replayedMap (s : State) (i : Keep) : Tab (Option (Nat × Nat)) := i.mapJrnl.foldl (fun t r => Tab.set none t r.1 r.2) s.nv.keep.map

/-- The reverse of a map. -/
def reverseMap (m : Tab (Option (Nat × Nat))) : Tab Nat := m.foldl (fun t e => linkBlk t e.2 (e.1 + 1)) []

/-- A descriptor as the reload gives it: its write pointer at the end of its last committed piece (R144), nothing pending. -/
def Zone.reloaded (z : Zone) : Zone := { z with wpAdmit := z.wpCommit, pend := 0, implTicket := 0 }

/-- Rows that descriptors hold. -/
def heldRows (l : Tab Zone) : List Nat := l.flatMap fun e => e.2.rowList.map fun r => e.2.sset * 16384 + r

/-- The units of a row whose test after an Offline zone was under way are tested from the start (log entry 24). -/
def State.testRow (k : Nat) (r : Row) (s : State) : State :=
  let t := k / 16384
  let dies := (List.range (s.setPositions t)).filterMap fun p => s.posDie t p
  let s := s.modZpm fun z => { z with rows := Tab.set {} z.rows k { r with erasing := dies.length } }
  each dies (fun die s =>
    let u := s.rowUnit die (k % 16384)
    s.submitErase (die / 16) clsBack (s.opDesc 4 4 512 die u 0 0 (.testUnit die u k 0))) s

/-- Step 4 of Table 6.4: the rows that descriptors hold and those of Offline zones; the others that the flash shows as not erased
are queued for erase, or for the rest of their test, again (log entry 24). -/
def State.scanRows (rows : Tab Row) (s : State) : State :=
  let held := heldRows s.zpm.zones
  let base := held.foldl (fun t r => Tab.set {} t r ({ held := true } : Row)) (rows.filter fun e => e.2.offline || e.2.out)
  let s := s.modZpm fun z => { z with rows := base }
  each (rows.filter fun e => !held.contains e.1 && !((e.2.offline || e.2.out) && e.2.erasing == 0)) (fun e s =>
    if e.2.offline then s.testRow e.1 e.2
    else s.eraseRow (e.1 / 16384) (e.1 % 16384) 512 (if e.2.gc then .gc else if e.2.reset then .reset else .other)) s

/-- The reclaim units that were attached (R210). -/
def State.scanRus (s : State) : State :=
  s.modZpm fun z => { z with attachRu := z.zones.foldl (fun t e =>
    if e.2.kind = 2 ∧ e.2.state = .implicit then Tab.set none t (ruKey e.2.rg e.2.ruh) (some e.1) else t) [] }

/-- The 128 zones of a page with no valid copy are Offline (R216), their rows with media management (R204). -/
def State.badPage (page : Nat) (s : State) : State :=
  each (((s.zpm.zones.filter fun e => e.1 / 128 == page && e.2.kind == 1).map (·.1))) (fun i s =>
    (((s.enterZone i .offline).listChanged i).assertEvent 225).handRows i) s

/-- Finish the lowest Closed zones of namespace index `n` until its active count is within its limit (R217). -/
def State.finishExcess (n : Nat) : Nat → State → State
  | 0, s => s
  | fuel + 1, s =>
    if s.activeZones n ≤ (s.ns n).actLim then s
    else
      match (s.nsZones n).find? fun i => (s.zone i).state == .closed with
      | some i => State.finishExcess n fuel ((((s.enterZone i .full).modZone i fun z => { z with zfc := true }).listChanged i).journalFullZone i)
      | none => s

/-- What reload and replay leave of a zone's state (R217): an Opened zone, and one whose entry to Full or Empty the journal has not, is
Closed, or Empty with its row released. -/
def State.settleZone (i : Nat) (s : State) : State :=
  let z := s.zone i
  if z.kind ≠ 1 ∨ z.state = .readOnly ∨ z.state = .offline then s
  else if z.fullJ then (if z.state = .full then s else s.enterZone i .full)
  else if z.state.isOpen || z.state == .full || (z.state == .empty && z.wpCommit != 0) then
    let s := s.enterZone i (if z.wpCommit = 0 then .empty else .closed)
    if z.wpCommit = 0 ∧ z.hasrow = true then (s.dropRow i 512 .other).journalZone i else s
  else s

/-- R217 for every zone; replayed data go to SLC once ARMED is reached, and without any the last word line of a zone that has ended is
padded at once. -/
def State.settleZones (s : State) : State :=
  let s := each (s.zpm.zones.map (·.1)) State.settleZone s
  let s := each (List.range 64) (fun n s => if (s.ns n).kind = 2 then s.finishExcess n (s.ns n).zones else s) s
  if s.hld.loaded then s
  else each (s.med.folds.map (·.1)) (fun i s => if s.zoneEnded i then (s.modFold i fun f => { f with ended := true }).padTail i else s) s

/-- The recorder's search for the highest SEQ: records created since the start receive theirs (R596). -/
def State.scanRecords (s : State) : State :=
  let top := (s.heldRecs.map (·.seq)).foldl max 0
  let n := if s.heldRecs.isEmpty then s.evr.nextSeq else top + 1
  s.modEvr fun e => { e with
    scanned := true, early := [], nextSeq := n + e.early.length, ring := e.ring ++ e.early.mapIdx fun i r => { r with seq := n + i } }

/-- The reload of the zone table (Table 6.4): the newer valid checkpoint copy, then the journal of a dump that is loaded. -/
def State.reloadZones (s : State) : State :=
  let c := s.nv.checkpoint
  let k := s.nv.keep
  let i := if s.hld.loaded then s.nv.image.getD {} else { k with journal := [], mapJrnl := [] }
  let zones := i.journal.foldl (fun t r => Tab.set {} t r.1 r.2) c.zones
  let map := s.replayedMap i
  let s := s.modZpm fun z => { z with
    zones := zones.map (fun e => (e.1, e.2.reloaded)), ns := k.ns, blocks := i.blocks, blkMeta := i.blkMeta, journal := i.journal }
  let s := s.modMed fun m => { m with map := map, ruBlk := reverseMap map, mapJrnl := i.mapJrnl }
  let s := each (i.mapJrnl.map fun r => mapPage (r.1 / 2 ^ 40) (r.1 % 2 ^ 40)).eraseDups State.mapTouch s
  let s := ((s.scanRows k.rows).scanRus).scanRecords
  let s := each c.bad State.badPage s
  let s := if s.nv.lostPower then (s.criticalWarning 2).modNv fun v => { v with lostPower := false } else s
  let s := if c.bad = [] then (s.setFld ZPM_STAT.RELOAD 2).assertEvent 233 else ((s.setFld ZPM_STAT.RELOAD 3).assertEvent 234).assertEvent 233
  (if s.hld.loaded then s else s.settleZones).toStep 17

/-! Step 18 (R247, R428). -/

/-- The tubs that committed pieces hold. -/
def State.pieceChains (s : State) : List Nat := s.hfe.tubLeft.flatMap fun e => s.chain 1024 e.1

/-- Tubs of uncommitted pieces are freed. -/
def State.freeUncommitted (s : State) : State :=
  let keep := s.pieceChains
  s.releaseTubs ((s.tubs.tub.filter fun e => decide (e.1 < s.fld TUB_SPLIT.P) && e.2.owner == tagFront && !keep.contains e.1).map (·.1))

/-- The Kiln reads back every word line that was programmed and not released (R247); the others that it had begun fold again. -/
def State.startReadbacks (s : State) : State :=
  each s.med.folds (fun e s =>
    let i := e.1
    let t := (s.zone i).sset
    let s := s.modFold i fun f => { f with run := [], begun := f.progd, groups := (f.begun.foldl (fun l g => addTo g l) f.groups).filter fun g => !f.progd.contains g }
    each e.2.progd (fun g s =>
      let die := (s.position t g.1).die
      let page := 4 * g.2
      let d := s.readDesc 2 (s.chunkAccount i g.1 page) die (s.rowUnit die (s.chunkRow i page)) (page % max 1 (s.unitChunks t)) 3 (.startBack i g.1 g.2 e.2.gen)
      s.submitHw (die / 16) clsBack { d with npages := 3 }) s) s

/-- Does the spare that stands in for a unit of descriptor `i`, at position `p` and row `r` of its rows, still have to be erased and to
receive word lines: some lie on the retired unit, or nothing of the descriptor is on it and it is not erased? -/
def State.spareUnready (s : State) (i p r : Nat) : Bool :=
  let z := s.zone i
  let die := (s.position z.sset p).die
  let u := s.rowUnit die (z.rownum + r)
  let here := s.med.chunks.filter fun e => e.1 / 65536 == i * 128 + p && s.chunkRow i (e.1 % 65536) == z.rownum + r && e.2.isQlc
  let at_ := fun (l : Loc) => match l with
    | .qlc d x _ _ => d == die && x == u
    | _ => false
  (Tab.get none s.med.remap (die * 16384 + z.rownum + r)).isSome && (s.posDie z.sset p).isSome &&
    (here.any (fun e => !at_ e.2) || (here.isEmpty && !(s.unitRec die u).clean && !((s.fold i).progd.any fun g => g.1 == p && g.2 / s.unitWls z.sset == r)))

/-- The replacements of retired units that the stop cut short start again (Table 7.6). -/
def State.restartSpares (s : State) : State :=
  each (s.zpm.zones.filter fun e => e.2.hasrow) (fun e s =>
    each ((List.range (s.setPositions e.2.sset)).flatMap fun p => (List.range (e.2.rspan + 1)).map fun r => (p, r)) (fun x s =>
      if s.spareUnready e.1 x.1 x.2 then
        let die := (s.position e.2.sset x.1).die
        let row := e.2.rownum + x.2
        (s.startCopy { use := .replace x.1 x.2, index := e.1, sset := e.2.sset, row := e.2.rownum, await := [(x.1, row)] }).eraseSpare die (s.rowUnit die row) 0
      else s) s) s

/-- Write pointers and voids as the piece table of a dump gives them (R144, R428). -/
def State.replayPieces (l : Tab (Nat × List (Nat × Nat))) (s : State) : State :=
  each l (fun e s => s.modZone e.1 fun z => { z with wpCommit := e.2.1, wpAdmit := e.2.1, voidRuns := e.2.2, void := !e.2.2.isEmpty }) s

/-- The application of a dump (R428); without one only the read-backs and what else the stop cut short. -/
def State.applyDump (s : State) : State :=
  let s :=
    if s.hld.loaded then
      let i := s.nv.image.getD {}
      let g := s.fld HLD_GEN.GEN
      let s := (s.modHfe fun h => { h with blkTub := i.blkTub, tubLeft := i.tubLeft, tubBase := i.tubBase }).freeUncommitted
      let s := (s.replayPieces i.pieces).settleZones
      ((s.assertEvent 366).modNv fun v => { v with replayed := g }).assertEvent 367
    else s
  s.startReadbacks.restartSpares.mediaTurn.toStep 18

end Sys2Proof.Machine
end

