-- ==== Sys2Proof/Machine/Control.lean ====
section
/-! DEFINITION. Machine/Control.lean: the commands of 16_control_cluster_startup.md. -/

namespace Sys2Proof.Machine

/-- VAON_POWER_ON (Table 16.6 step 1, R75): the Lamp island leaves reset and waits for main good. -/
def vaonPowerOn (s : State) : State :=
  if s.ctl.vaon then s else ((s.modCtl fun c => { c with vaon := true }).startStep2 1).notWoken
def execVaonPowerOn (s : State) : Host.Outcome State Fault Refusal := done (vaonPowerOn s)

/-- VAON_LOSS (R75, R501, R539): the rails fall with it; the retention words, the RTC and the Lamp SRAM are lost. -/
def vaonLoss (s : State) : State :=
  if !s.ctl.vaon then s
  else
    let s := { s.loseRails with regs := [] }
    let s := s.modPow fun p => { p with lampSram := [], mainFell := false, shutPend := false, offRails := false, rtcDiv := 0 }
    s.modCtl fun c => { c with vaon := false, waitMain := false, attempts := 0, retry := false, stoppedSup := false }
def execVaonLoss (s : State) : Host.Outcome State Fault Refusal := done (vaonLoss s)

/-- LAMP_CRYSTAL_STABLE (Table 16.6 step 1). -/
def lampCrystalStable (s : State) : State := if s.ctl.vaon then s.put SYS_CLKSTAT.LAMPXTAL true else s
def execLampCrystalStable (s : State) : Host.Outcome State Fault Refusal := done (lampCrystalStable s)

/-- PGOOD_RISE (R514, Table 16.6 steps 4 and 5). -/
def pgoodRise (i : Nat) (s : State) : State := if i < 8 then s.railGood i else s
def execPgoodRise (rail : Nat) (s : State) : Host.Outcome State Fault Refusal := done (pgoodRise rail s)

/-- PGOOD_TIMEOUT (R515). -/
def pgoodTimeout (i : Nat) (s : State) : State := if i < 8 then s.railLate i else s
def execPgoodTimeout (rail : Nat) (s : State) : Host.Outcome State Fault Refusal := done (pgoodTimeout rail s)

/-- A start that a failed test holds at step 5 is retried as R515 gives (R615). -/
def State.retryHeld (s : State) : State :=
  let n := s.ctl.attempts + 1
  let t := s.saf.nextStart
  let s := s.loseRails
  let s := s.modSaf fun x => { x with nextStart := addTo (0x0C, 0) t }
  let s := (s.setRet3 4 4 n).modCtl fun c => { c with attempts := n }
  if 3 ≤ n then (s.modCtl fun c => { c with stoppedSup := true, waitMain := true }).modPow fun p => { p with mainFell := false }
  else (s.modCtl fun c => { c with cause := 7 }).raiseRail 0

/-- SUPPLY_RETRY (R515): one second after a failed attempt. -/
def supplyRetry (s : State) : State := if s.saf.startHold && s.up then s.retryHeld else s.railRetry
def execSupplyRetry (s : State) : Host.Outcome State Fault Refusal := done (supplyRetry s)

/-- SRAM_CLEAR_END (R451, Table 16.6 step 6): every byte is zero; the masters leave reset; event 267. -/
def sramClearEnd (s : State) : State :=
  if s.up && s.memc.clearing then
    let s := (s.modBus fun b => { b with mem := [] }).modMemc fun m => { m with clearing := false }
    ((s.assertEvent 267).startWatchdog 4).toStep 6
  else s
def execSramClearEnd (s : State) : Host.Outcome State Fault Refusal := done (sramClearEnd s)

/-- Does a source verify? -/
def State.accepts (s : State) (src : Source) : Bool := s.verify src == 1

/-- BOOT_IMAGE_LOAD (R509 to R513, Table 16.6 steps 7 to 10): once the ROM's self-tests of step 7 have their verdicts (R615), the random-number sources run and the ROM
takes the first image that verifies; the boot area waits for group 0. -/
def bootImageLoad (xspi0 xspi1 slcA slcB : Source) (s : State) : State :=
  let area := !s.accepts xspi0 && !s.accepts xspi1
  if !s.up || s.memc.clearing || s.bootStep != 6 || s.saf.secHold || s.saf.startHold || !s.saf.nextStart.isEmpty || (area && decide (s.grp 0 < grpUntrained)) then s
  else
    let s := ((s.put CIP_STAT.RNGOK true).modCip fun c => { c with rng0ok := true }).modCtl fun c => { c with xspiReset := true, noImage := false }
    s.placeChallenge.bootFrom xspi0 xspi1 slcA slcB
def execBootImageLoad (xspi0 xspi1 slcA slcB : Source) (s : State) : Host.Outcome State Fault Refusal :=
  done (bootImageLoad xspi0 xspi1 slcA slcB s)

/-- CONFIG_RECORD_LOAD (R517, R557, Table 16.6 steps 11 and 12). -/
def configRecordLoad (s : State) : State :=
  if s.up && decide (8 ≤ s.bootStep) && decide (s.bootStep ≤ 10) && s.grp 1 == grpUntrained && s.grp 2 == grpUntrained then s.loadRecords
  else s
def execConfigRecordLoad (s : State) : Host.Outcome State Fault Refusal := done (configRecordLoad s)

/-- METADATA_LOAD (R222, R390, Table 16.6 step 15). -/
def metadataLoad (s : State) : State :=
  if s.up && s.on MEM_CTRL.LOCK && s.grp 1 == grpReady && s.grp 2 == grpReady && decide (12 ≤ s.bootStep) && decide (s.bootStep < 15) then
    (s.loadUnits.loadMembership).toStep 15
  else s
def execMetadataLoad (s : State) : Host.Outcome State Fault Refusal := done (metadataLoad s)

/-- DUMP_LOAD (R427, R428, R431, Table 16.6 step 16): the search for a dump; `crcOk` says whether the image rebuilt from the
dump dies matches its CRC-64. -/
def dumpLoad (crcOk : Bool) (s : State) : State :=
  if !s.up || s.bootStep != 15 || !s.on TUB_CTRL.EN || !s.dumpReady then s
  else
    match s.replayable with
    | some k => if crcOk && !s.on HLD_DUMP.INCOMPLETE then s.loadDump k else s.incompleteDump
    | none => if s.dumpSlots = [] then s else s.incompleteDump
def execDumpLoad (crcOk : Bool) (s : State) : Host.Outcome State Fault Refusal := done (dumpLoad crcOk s)

/-- ZONE_TABLE_RELOAD (R215, R216, Table 16.6 step 17): after the load of a dump, or when the search has found none. -/
def zoneTableReload (s : State) : State :=
  if !s.up then s
  else if s.bootStep = 16 then s.reloadZones
  else if s.bootStep = 15 ∧ (s.dumpSlots = [] ∨ s.on HLD_DUMP.INCOMPLETE) then s.reloadZones
  else s
def execZoneTableReload (s : State) : Host.Outcome State Fault Refusal := done (zoneTableReload s)

/-- DUMP_APPLICATION (R428, R217, R247, Table 16.6 step 18). -/
def dumpApplication (s : State) : State := if s.up && s.bootStep == 17 then s.applyDump else s
def execDumpApplication (s : State) : Host.Outcome State Fault Refusal := done (dumpApplication s)

/-! Cores (R499, R500). -/

/-- The start address of SYS_BOOTADDR. -/
def State.bootAddr (s : State) : Nat := s.fld SYS_BOOTADDR.ADDR

/-- A write of 1 to RUN[n] starts logical core `n` (R499); a write of 0 is ignored, and so is one before the cluster is released
or for a core that a self-test has taken out. -/
def State.runCore (n : Nat) (s : State) : State :=
  if s.bootStep < 12 || bit (s.fld SYS_CORECTL.RUN) n || s.saf.lastingCores.contains n then s else s.startCore n s.bootAddr

/-- A reset of logical core `n` (R44, R462, R500): its tubs, its latched halves and its reservation go with it. -/
def State.resetCore (n : Nat) (s : State) : State :=
  let s := s.setFld SYS_CORECTL.RUN (setBit (s.fld SYS_CORECTL.RUN) n false)
  let s := s.clearHalves n
  let s := (s.modCtl fun c => { c with wfi := setBit c.wfi n false }).reclaimTubs n
  if n = 0 && s.fld SYS_CORECTL.RUN == 0 && !s.saf.lastingCores.contains 0 && decide (12 ≤ s.bootStep) then s.startCore 0 s.bootAddr else s

/-- A write of SYS_CORECTL: resets first, that of L0 the last of them (DEDUCED, R500: it sees which other cores run), then starts. -/
def State.writeCorectl (v : Nat) (s : State) : State :=
  each (bitsOf (slice v 0 4) 4) State.runCore (each (bitsOf (slice v 8 4) 4).reverse State.resetCore s)

/-- CORE_RUN (R499): a write of SYS_CORECTL. -/
def coreRun (m v : Nat) (s : State) : State := s.access m SYS_CORECTL.RUN.addr (State.writeCorectl v)
def execCoreRun (master value : Nat) (s : State) : Host.Outcome State Fault Refusal := done (coreRun master value s)

/-- CORE_RESET (R500): a write of SYS_CORECTL. -/
def coreReset (m v : Nat) (s : State) : State := s.access m SYS_CORECTL.RUN.addr (State.writeCorectl v)
def execCoreReset (master value : Nat) (s : State) : Host.Outcome State Fault Refusal := done (coreReset master value s)

/-- A write of SYS_RSTCTL by master `m` (R520): only by a logical core or the secure domain, only in INIT or CHARGING. -/
def State.writeRstctl (m v : Nat) (s : State) : State :=
  if !bit v 31 || 4 < m then s
  else if s.hldState = hldInit ∨ s.hldState = hldCharging then s.restartNow 6
  else s.put SYS_RSTCTL.ERR true

/-- RESTART (R520). -/
def restart (m v : Nat) (s : State) : State := s.access m SYS_RSTCTL.RESTART.addr (State.writeRstctl m v)
def execRestart (master value : Nat) (s : State) : Host.Outcome State Fault Refusal := done (restart master value s)

/-! Events (R502 to R507). -/

/-- The lowest-numbered source that is pending, enabled and routed to target `t`. -/
def State.claimable (s : State) (t : Nat) : Option Nat :=
  (List.range 512).find? fun n => s.on (EVT_SRC.PEND n) && s.on (EVT_SRC.EN n) && s.fld (EVT_SRC.TARGET n) == t

/-- A normal-alias read of EVT_CLAIM[t] by master `m` (R503). -/
def State.claim (m t : Nat) (s : State) : State :=
  if m ≠ t then s.returns m 0
  else
    match s.claimable t with
    | some n => (s.put (EVT_SRC.PEND n) false).returns m (2 ^ 31 + n)
    | none => s.returns m 0

/-- EVENT_CLAIM (R503). -/
def eventClaim (m t : Nat) (s : State) : State :=
  if 5 < t then s else s.access m (EVT_CLAIM.VALID t).addr (State.claim m t)
def execEventClaim (master target : Nat) (s : State) : Host.Outcome State Fault Refusal := done (eventClaim master target s)

/-- A write of EVT_SWTRIG (R506). -/
def State.writeSwtrig (v : Nat) (s : State) : State := s.assertIf (decide (480 ≤ slice v 0 9)) (slice v 0 9)

/-- SOFTWARE_TRIGGER (R506). -/
def softwareTrigger (m v : Nat) (s : State) : State := s.access m EVT_SWTRIG.SOURCE.addr (State.writeSwtrig v)
def execSoftwareTrigger (master value : Nat) (s : State) : Host.Outcome State Fault Refusal := done (softwareTrigger master value s)

/-- A write of EVT_AEN (R508). -/
def State.writeAen (v : Nat) (s : State) : State :=
  let go := fun (f : Nat) (s : State) => s.raiseAen f (slice v 29 3) (slice v 21 8) (slice v 13 8)
  if bit v 12 then each ((List.range 512).filter s.fnExists) go s
  else if s.fnExists (slice v 0 9) then go (slice v 0 9) s
  else s

/-- ASYNC_EVENT_RAISE (R507, R508). -/
def asyncEventRaise (m v : Nat) (s : State) : State := s.access m EVT_AEN.TYPE.addr (State.writeAen v)
def execAsyncEventRaise (master value : Nat) (s : State) : Host.Outcome State Fault Refusal := done (asyncEventRaise master value s)

end Sys2Proof.Machine
end

