-- ==== Sys2Proof/Machine/Power.lean ====
section
/-! DEFINITION. Machine/Power.lean: the commands of 17_power_thermal.md. -/

namespace Sys2Proof.Machine

/-- POWER_REQUEST (R524, R530): a write of PWR_REQ. -/
def powerRequest (m v : Nat) (s : State) : State := s.access m PWR_REQ.GO.addr (State.writePwrReq v)
def execPowerRequest (master value : Nat) (s : State) : Host.Outcome State Fault Refusal := done (powerRequest master value s)

/-- DOMAIN_GATE (R535): a write of PWR_DOMREQ with OP 0b01. -/
def domainGate (m d : Nat) (s : State) : State := s.access m PWR_DOMREQ.OP.addr (State.domainRequest 1 d)
def execDomainGate (master domain : Nat) (s : State) : Host.Outcome State Fault Refusal := done (domainGate master domain s)

/-- DOMAIN_POWER_DOWN (R535): a write of PWR_DOMREQ with OP 0b10. -/
def domainPowerDown (m d : Nat) (s : State) : State := s.access m PWR_DOMREQ.OP.addr (State.domainRequest 2 d)
def execDomainPowerDown (master domain : Nat) (s : State) : Host.Outcome State Fault Refusal := done (domainPowerDown master domain s)

/-- DOMAIN_POWER_ON (R535): a write of PWR_DOMREQ with OP 0b11. -/
def domainPowerOn (m d : Nat) (s : State) : State := s.access m PWR_DOMREQ.OP.addr (State.domainRequest 3 d)
def execDomainPowerOn (master domain : Nat) (s : State) : Host.Outcome State Fault Refusal := done (domainPowerOn master domain s)

/-- DOMAIN_ANSWER (R527 to R529). -/
def domainAnswer (d : Nat) (a : Answer) (s : State) : State := s.answerDomain d a
def execDomainAnswer (domain : Nat) (answer : Answer) (s : State) : Host.Outcome State Fault Refusal := done (domainAnswer domain answer s)

/-- DOMAIN_DELAY_TIMEOUT (R527, R532). -/
def domainDelayTimeout (d : Nat) (s : State) : State := s.answerLate d
def execDomainDelayTimeout (domain : Nat) (s : State) : Host.Outcome State Fault Refusal := done (domainDelayTimeout domain s)

/-- ENTRY_COMPLETE (R530, R531). -/
def entryComplete (s : State) : State := s.completeEntry
def execEntryComplete (s : State) : Host.Outcome State Fault Refusal := done (entryComplete s)

/-- IDLE_ENTRY (R525): the time of entry 0x2103:00 has passed without work. -/
def idleEntry (s : State) : State := s.enterIdle
def execIdleEntry (s : State) : Host.Outcome State Fault Refusal := done (idleEntry s)

/-- MAIN_WAKE (R537): MAIN_SENSE rises above the good threshold after a fall. -/
def mainWake (s : State) : State :=
  if s.pow.mainFell then (s.modPow fun p => { p with mainFell := false }).wakeSource 0 else s
def execMainWake (s : State) : Host.Outcome State Fault Refusal := done (mainWake s)

/-- RTC_ALARM (R537): the RTC reaches AON_ALARM; event 333. -/
def rtcAlarm (s : State) : State :=
  let a := s.fld AON_ALARM.COUNT
  if !s.ctl.vaon || decide (a < s.fld AON_RTC.COUNT) then s
  else
    let s := s.setFld AON_RTC.COUNT a
    (s.assertIf s.up 333).wakeSource 1
def execRtcAlarm (s : State) : Host.Outcome State Fault Refusal := done (rtcAlarm s)

/-- GPIO_WAKE (R537): a high level on GPIO[15:12]. -/
def gpioWake (pin : Nat) (s : State) : State :=
  if pin < 12 ∨ 15 < pin then s
  else (s.modMgt fun m => { m with gpioIn := setBit m.gpioIn pin true }).wakeSource (pin - 8)
def execGpioWake (pin : Nat) (s : State) : Host.Outcome State Fault Refusal := done (gpioWake pin s)

/-- ESNEX_WAKE_FRAME (R537): in SHELF_SLEEP only. -/
def esnexWakeFrame (s : State) : State := if s.pwrState = pwrShelf ∨ s.pow.entry = pwrShelf then s.wakeSource 2 else s
def execEsnexWakeFrame (s : State) : Host.Outcome State Fault Refusal := done (esnexWakeFrame s)

/-- THERMAL_SHUTDOWN (R426, R546): the comparator, which VDD_COMP supplies (R526), has acted. -/
def thermalShutdown (s : State) : State :=
  if !bit s.ctl.pwrseq 0 then s else
  let s := ((s.setRet3 31 1 1).setFld (AON_RET.WORD 4) (s.fld (AON_RET.WORD 4) + 1)).modPow fun p => { p with shutPend := true, thermtrip := true }
  let s := s.modNv fun v => { v with shutdowns := (v.shutdowns + 1) % 2 ^ 32 }
  if s.up then (s.noteError 0x10 0 3 0).fallOrDump 5 else (s.loseRails.modCtl fun c => { c with cause := 5 }).modPow fun p => { p with offRails := true }
def execThermalShutdown (s : State) : Host.Outcome State Fault Refusal := done (thermalShutdown s)

/-- THERMAL_RESTART (R547): sensor 15 has stayed below 90 °C for 60 s: the start at step 2, CAUSE 5. -/
def thermalRestart (s : State) : State :=
  if s.pow.shutPend && s.pow.offRails then
    ((s.setRet3 31 1 0).modPow fun p => { p with shutPend := false, offRails := false, thermtrip := false }).notWoken.toHld hldInit |>.startStep2 5
  else s
def execThermalRestart (s : State) : Host.Outcome State Fault Refusal := done (thermalRestart s)

/-- SUSPCLR (R541). -/
def suspclr (m : Nat) (s : State) : State := s.access m THM_CTRL.SUSPCLR.addr State.clearSuspects
def execSuspclr (master : Nat) (s : State) : Host.Outcome State Fault Refusal := done (suspclr master s)

end Sys2Proof.Machine
end

