-- ==== Sys2Proof/Machine/Mechanisms.lean ====
section
/-! DEFINITION. Machine/Mechanisms.lean: the commands of 20_safety_fault_classification.md: watchdogs, heartbeats, lockstep, the
scrubber, self-tests and their verdicts. -/

namespace Sys2Proof.Machine

/-! Severities (Table 20.2). -/

/-- An internal error is reported in AER by every function as an Uncorrectable Internal Error (bit 22; R106, log entry 43). -/
def State.internalError (s : State) : State := (each ((List.range 512).filter s.fnExists) (fun f s => s.logAer f 22) s).assertEvent 196

/-- A safe reset (R613): CSTS.CFS in every function with event 206, the AER report, event 451, then a dump and a cold start, or the restart of R520; CAUSE 0x8. -/
def State.safeReset (s : State) : State :=
  let s := (each ((List.range 512).filter s.fnExists) (fun f s => s.modFn f fun r => { r with cfs := true }) s).internalError
  let s := s.assertEvents [206, 451]
  if s.hldState = hldArmed ∨ s.hldState = hldSuspect ∨ s.hldState = hldDraining then s.commitDump.modCtl fun c => { c with cause := 8 }
  else if s.hldState = hldDumping then s.modCtl fun c => { c with cause := 8 }
  else s.restartNow 8

/-- A power-off of severity 4 (R614): no dump; the Lamp island retries after 1 s, as R515 gives; `rail` is the enable index + 1 of
a PGOOD fall, 0 for another monitor. -/
def State.powerOff (rail : Nat) (s : State) : State :=
  let n := s.ctl.attempts + 1
  let s := s.loseRails.modNv fun v => { v with lostPower := true }
  let s := ((s.setRet3 0 4 rail).setRet3 4 4 n).modCtl fun c => { c with attempts := n }
  if 3 ≤ n then (s.modCtl fun c => { c with stoppedSup := true, waitMain := true }).modPow fun p => { p with mainFell := false }
  else s.modCtl fun c => { c with retry := true }

/-! Watchdogs (R610). -/

/-- Does processor `n` run: a logical core, the secure pair (4), the Lamp core (5)? -/
def State.procRuns (s : State) (n : Nat) : Bool :=
  if n < 4 then s.up && bit (s.fld SYS_CORECTL.RUN) n
  else if n = 4 then s.up && !s.memc.clearing
  else n == 5 && s.ctl.vaon

/-- A write of SAF_WDOG[n]: by processor `n` itself only. -/
def State.writeWdog (m n v : Nat) (s : State) : State :=
  if m ≠ n then s
  else
    let s := s.setFld (SAF_WDOG.TIMEOUT n) (slice v 0 5)
    let t := s.now
    if bit v 31 then s.modSaf fun x => { x with wdogAt := Tab.set 0 x.wdogAt n t } else s

/-- KICK (R610): a write of SAF_WDOG[n]. -/
def kick (m n v : Nat) (s : State) : State := if n < 6 then s.access m (SAF_WDOG.KICK n).addr (State.writeWdog m n v) else s
def execKick (master processor value : Nat) (s : State) : Host.Outcome State Fault Refusal := done (kick master processor value s)

/-- WATCHDOG_EXPIRE (R610, R633, Table 20.3): the watchdog of a halted hart has stopped. -/
def watchdogExpire (n : Nat) (s : State) : State :=
  if !s.on SAF_CTRL.WDOG_EN || !s.procRuns n || s.tst.halted.contains n || !s.up then s
  else
    let s := s.assertEvent 452
    if n < 4 then (s.noteError 0x03 n 2 n).resetCore n
    else if n = 4 then (s.noteError 0x04 4 3 4).safeReset
    else (s.noteError 0x13 5 2 5).clearHalves 5
def execWatchdogExpire (processor : Nat) (s : State) : Host.Outcome State Fault Refusal := done (watchdogExpire processor s)

/-! Heartbeats, lockstep, supplies, clock. -/

/-- The master index of a unit (Table 14.3) for SAF_FADDR: engines 16 on, the ECC block, the Mash engine. -/
def unitIndex (u : Nat) : Nat := if u < 128 then u + 16 else if u = 144 then 145 else if u = 145 then 147 else 0xFF

/-- The power domain of a unit with a heartbeat (Table 17.3); the thermal block has none. Unit 150 is the tub pool. -/
def unitDomain (u : Nat) : Option Nat :=
  if u < 128 then some (32 + u / 8) else if u < 144 then some (u - 96)
  else match u with
    | 144 => some 16
    | 145 => some 17
    | 146 => some 15
    | 147 => some 14
    | 148 => some 12
    | 150 => some 18
    | _ => none

/-- HEARTBEAT_MISSING (R609): missing at four consecutive boundaries; a unit that is fenced, held in reset or in a domain that is not on
does not count. -/
def heartbeatMissing (u : Nat) (s : State) : State :=
  if !s.up || s.bell.modeFenced.contains u || s.saf.unitHold.contains u || ((unitDomain u).any fun d => s.fld (PWR_DOM.STATE d) != 0) then s
  else ((s.assertEvent 454).noteError 0x0D u 3 (unitIndex u)).safeReset
def execHeartbeatMissing (unit : Nat) (s : State) : Host.Outcome State Fault Refusal := done (heartbeatMissing unit s)

/-- LOCKSTEP_MISMATCH (R498, Table 20.3): of a logical core, or of the secure pair (4). -/
def lockstepMismatch (n : Nat) (s : State) : State :=
  if !s.procRuns n || decide (4 < n) then s
  else
    let s := s.assertEvent 453
    if n < 4 then (s.noteError 0x01 n 2 n).resetCore n else (s.noteError 0x02 4 3 4).safeReset
def execLockstepMismatch (core : Nat) (s : State) : Host.Outcome State Fault Refusal := done (lockstepMismatch core s)

/-- SUPPLY_MONITOR_TRIP (R612, R614, R515): 0 to 7 PGOOD[7:0], above them an on-die monitor. -/
def supplyMonitorTrip (k : Nat) (s : State) : State :=
  if !s.up then s else ((s.assertEvent 460).noteError 0x0E k 4 0).powerOff (if k < 8 then k + 1 else 0)
def execSupplyMonitorTrip (monitor : Nat) (s : State) : Host.Outcome State Fault Refusal := done (supplyMonitorTrip monitor s)

/-- REFERENCE_CLOCK_LOST (Table 20.3). -/
def referenceClockLost (s : State) : State := if !s.up then s else ((s.assertEvent 461).noteError 0x0F 0 3 0).safeReset
def execReferenceClockLost (s : State) : Host.Outcome State Fault Refusal := done (referenceClockLost s)

/-! The scrubber (R611). -/

/-- Bytes of one scrub pass: 48 large banks, the dual-port SRAM, the header store. -/
def scrubPass : Nat := 0x6480000

/-- The address of a place of the pass; the header store has none. -/
def scrubAddr (at_ : Nat) : Nat := if at_ < 0x6000000 then 0x20000000 + at_ else if at_ < 0x6400000 then 0x10000000 + (at_ - 0x6000000) else 0

/-- The error type of a parity error at a place of the pass, by the owner of the word. -/
def State.scrubType (s : State) (at_ : Nat) : Nat :=
  if 0x6400000 ≤ at_ then 0x08
  else if 0x6000000 ≤ at_ then 0x05
  else
    match s.fld (MEM_BANKASN.OWNER (at_ / 0x200000)) with
    | 2 => 0x06
    | 3 => 0x06
    | 4 => 0x07
    | _ => 0x05

/-- SCRUB_READ (R446, R448, R611): the scrubber reads the aligned 8 bytes at byte `addr` of its pass (the large banks, the dual-port
SRAM, the header store, in that order), of which `badBytes` have wrong parity. -/
def scrubRead (a badBytes : Nat) (s : State) : State :=
  if !s.up || s.memc.clearing || !s.on SAF_CTRL.SCRUB_EN || decide (scrubPass ≤ a) then s
  else
    let n := s.saf.scrubAt + 8
    let s := s.modSaf fun x => { x with scrubAt := if n = scrubPass then 0 else n }
    let s := s.assertIf (n == scrubPass) 458
    if badBytes = 0 then s
    else
      let ty := s.scrubType a
      let s :=
        if ty = 0x08 then
          ((s.put TUB_STAT.HPARERR true).modTub ((a - 0x6400000) / 8) fun h => { h with bad := true }).assertEvent 258
        else s.parityError 0xFF (scrubAddr a) badBytes
      (s.noteError ty (a / 0x200000) 0 (scrubAddr a)).assertEvent 459
def execScrubRead (addr badBytes : Nat) (s : State) : Host.Outcome State Fault Refusal := done (scrubRead addr badBytes s)

/-! Self-tests (R607, R615). -/

/-- PERIODIC_SELF_TEST (R607): mechanism 0 to 8 in the order of SAF_PST. -/
def periodicSelfTest (k : Nat) (pass : Bool) (s : State) : State :=
  if !s.up || !s.on SAF_CTRL.PST_EN || pass || decide (8 < k) then s
  else ((s.assertEvent 457).noteError 0x11 k 0 0xFF).criticalWarning 2
def execPeriodicSelfTest (mechanism : Nat) (pass : Bool) (s : State) : Host.Outcome State Fault Refusal := done (periodicSelfTest mechanism pass s)

/-- A mechanism is marked failed; of the comparator, throttle floor level 2 is held and Critical Warning bit 1 set. -/
def State.markFailed (k : Nat) (s : State) : State :=
  let s := s.modSaf fun x => { x with marked := setBit x.marked k true }
  let s := s.setFld SAF_PST.FAILED s.saf.marked
  if k = 8 then (s.modSaf fun x => { x with compBad := true }).criticalWarning 1 else s

/-- The outcome of a lasting verdict (Table 20.3). -/
def State.lastingOutcome (ty unit : Nat) (s : State) : State :=
  if ty = 0x01 ∨ ty = 0x03 then
    (s.setFld SYS_CORECTL.RUN (setBit (s.fld SYS_CORECTL.RUN) unit false)).modSaf fun x => { x with lastingCores := addTo unit x.lastingCores }
  else if ty = 0x02 ∨ ty = 0x04 then s.modSaf fun x => { x with secHold := true }
  else if ty = 0x09 then s.safeReset
  else if ty = 0x0A then s.modSaf fun x => if unit < 128 then { x with badLanes := x.badLanes + 1 } else { x with badGcm := x.badGcm + 1 }
  else if ty = 0x0B then s.modSaf fun x => { x with badDec := addTo unit x.badDec }
  else if ty = 0x0C ∨ ty = 0x0F then s.modSaf fun x => { x with startHold := true }
  else if ty = 0x0D then
    let s := s.modSaf fun x => { x with unitHold := addTo unit x.unitHold }
    if unit < 128 then s.setFld (DRF_STAT.STATE unit) engFenced else s
  else if ty = 0x10 then s.markFailed 8
  else if ty = 0x11 then s.markFailed unit
  else if ty = 0x13 then s.modSaf fun x => { x with lampRomOnly := true }
  else s

/-- Does the targeted self-test of type `ty` on `unit` run: at once, or, of those marked 'next start', at step 7? -/
def State.testRuns (s : State) (ty unit : Nat) : Bool :=
  s.saf.tests.contains (ty, unit) || (s.saf.nextStart.contains (ty, unit) && s.bootStep == 6 && !s.memc.clearing)

/-- SELF_TEST_VERDICT (R615, R617): counted and recorded; events 449 and 450. -/
def selfTestVerdict (ty unit : Nat) (pass : Bool) (s : State) : State :=
  if !s.up || !s.testRuns ty unit then s
  else
    let bt := s.bellTime
    let s := s.modSaf fun x => { x with tests := dropFrom (ty, unit) x.tests, nextStart := dropFrom (ty, unit) x.nextStart }
    let s := if s.saf.last / 2 ^ 24 = ty then s.setVerdict (if pass then 2 else 3) else s
    if pass then (s.modSaf fun x => { x with trans := Tab.upd 0 x.trans ty fun n => min (n + 1) 0xFFFFFFFF }).assertEvent 449
    else
      let s := (s.count SAF_STAT.LASTING 1).modSaf fun x => { x with
        lasting := Tab.upd 0 x.lasting ty (fun n => min (n + 1) 0xFFFFFFFF), lastBt := Tab.set 0 x.lastBt ty bt }
      (s.assertEvent 450).lastingOutcome ty unit
def execSelfTestVerdict (type unit : Nat) (pass : Bool) (s : State) : Host.Outcome State Fault Refusal :=
  done (selfTestVerdict type unit pass s)

end Sys2Proof.Machine
end

