-- ==== Sys2Proof/Machine/Memory.lean ====
section
/-! DEFINITION. Machine/Memory.lean: the commands of the banks and the tub pool (14_memory_tub_pool.md), and the atomic
accesses of the masters. -/

namespace Sys2Proof.Machine

/-- Does master `m` exist and run (R37, R451)? -/
def State.masterRuns (s : State) (m a : Nat) : Bool := decide (m ≤ 7) && s.mayAccess m a

/-- AMO (R439, R440). -/
def amo (m : Nat) (op : AmoOp) (wide : Bool) (a v : Nat) (s : State) : State :=
  if s.masterRuns m a then s.amo m op wide a v else s
def execAmo (master : Nat) (op : AmoOp) (wide : Bool) (addr value : Nat) (s : State) : Host.Outcome State Fault Refusal :=
  done (amo master op wide addr value s)

/-- LR (R440). -/
def lr (m : Nat) (wide : Bool) (a : Nat) (s : State) : State := if s.masterRuns m a then s.loadReserve m wide a else s
def execLr (master : Nat) (wide : Bool) (addr : Nat) (s : State) : Host.Outcome State Fault Refusal := done (lr master wide addr s)

/-- SC (R440). -/
def sc (m : Nat) (wide : Bool) (a v : Nat) (s : State) : State := if s.masterRuns m a then s.storeCond m wide a v else s
def execSc (master : Nat) (wide : Bool) (addr value : Nat) (s : State) : Host.Outcome State Fault Refusal :=
  done (sc master wide addr value s)

/-- BANK_ASSIGN_WRITE (R436). -/
def bankAssignWrite (m n v : Nat) (s : State) : State :=
  if 56 ≤ n then s else s.access m (MEM_BANKASN.OWNER n).addr (State.writeBank n v)
def execBankAssignWrite (master bank value : Nat) (s : State) : Host.Outcome State Fault Refusal := done (bankAssignWrite master bank value s)

/-- LOCK (R436). -/
def lockBanks (m v : Nat) (s : State) : State := s.access m MEM_CTRL.LOCK.addr (State.writeMemCtrl v)
def execLock (master value : Nat) (s : State) : Host.Outcome State Fault Refusal := done (lockBanks master value s)

/-- CCLR (R442): the other bits of MEM_CTRL keep their values. -/
def cclr (m : Nat) (s : State) : State := s.access m MEM_CTRL.CCLR.addr fun s => s.modMemc fun c => { c with conflict := [] }
def execCclr (master : Nat) (s : State) : Host.Outcome State Fault Refusal := done (cclr master s)

/-- ROW_RETIRE (R449). -/
def rowRetire (m v : Nat) (s : State) : State := s.access m MEM_RETIRE.GO.addr (State.writeRetire v)
def execRowRetire (master value : Nat) (s : State) : Host.Outcome State Fault Refusal := done (rowRetire master value s)

/-- TUB_ENABLE (R455): a write of EN = 0 is ignored. -/
def State.writeTubCtrl (v : Nat) (s : State) : State := if bit v 0 then s.enableTubs else s
def tubEnable (m v : Nat) (s : State) : State := s.access m TUB_CTRL.EN.addr (State.writeTubCtrl v)
def execTubEnable (master value : Nat) (s : State) : Host.Outcome State Fault Refusal := done (tubEnable master value s)

/-- ALLOC (R456, R457). -/
def alloc (tag : Nat) (prot : Bool) (n : Nat) (s : State) : State := s.askTubs { tag := tag, prot := prot, n := n }
def execAlloc (tag : Nat) (prot : Bool) (n : Nat) (s : State) : Host.Outcome State Fault Refusal := done (alloc tag prot n s)

/-- APPEND (R456, R457). -/
def append (tag : Nat) (prot : Bool) (n tub : Nat) (s : State) : State := s.askTubs { tag := tag, prot := prot, n := n, after := some tub }
def execAppend (tag : Nat) (prot : Bool) (n tub : Nat) (s : State) : Host.Outcome State Fault Refusal := done (append tag prot n tub s)

/-- TUB_GRANT (R457): the head of the class's shared queue, when its need is met. -/
def tubGrant (prot : Bool) (s : State) : State := s.serveHead prot
def execTubGrant (prot : Bool) (s : State) : Host.Outcome State Fault Refusal := done (tubGrant prot s)

/-- FREE (R460). -/
def free (tag tub : Nat) (s : State) : State := s.freeChain tag tub
def execFree (tag tub : Nat) (s : State) : Host.Outcome State Fault Refusal := done (free tag tub s)

/-- TRIM (R460). -/
def trim (tag tub : Nat) (s : State) : State := s.trimChain tag tub
def execTrim (tag tub : Nat) (s : State) : Host.Outcome State Fault Refusal := done (trim tag tub s)

/-- TUB_WINDOW_WRITE (R461): `offset` in block TUB, 0x23C for TUB_WUSE or a word of the payload window. -/
def tubWindowWrite (m off v : Nat) (s : State) : State :=
  if off = 0x23C then s.access m (0x41800000 + off) (State.writeTubUse m v)
  else if 0x1000 ≤ off ∧ off < 0x1200 ∧ off % 4 = 0 then s.access m (0x41800000 + off) (State.writeTubWin m (off - 0x1000) v)
  else s
def execTubWindowWrite (master offset value : Nat) (s : State) : Host.Outcome State Fault Refusal := done (tubWindowWrite master offset value s)

end Sys2Proof.Machine
end

