-- ==== Sys2Proof/Machine/Network.lean ====
section
/-! DEFINITION. Machine/Network.lean: the commands of 18_object_dictionary_network.md. -/

namespace Sys2Proof.Machine

/-- MGT_READ (R559): a write of MGT_FREQ with OP 0b01. -/
def mgtRead (m v : Nat) (s : State) : State := s.access m MGT_FREQ.GO.addr (State.writeFreq m v)
def execMgtRead (master value : Nat) (s : State) : Host.Outcome State Fault Refusal := done (mgtRead master value s)

/-- MGT_WRITE (R559): a write of MGT_FREQ with OP 0b10. -/
def mgtWrite (m v : Nat) (s : State) : State := s.access m MGT_FREQ.GO.addr (State.writeFreq m v)
def execMgtWrite (master value : Nat) (s : State) : Host.Outcome State Fault Refusal := done (mgtWrite master value s)

/-- FRAME_REJECT (R566): a frame not for the node, of another EtherType, too long or with a bad FCS. -/
def frameReject (toUs etherOk lengthOk fcsOk : Bool) (s : State) : State :=
  if !s.up || !s.on MGT_CTRL.NET_EN || (toUs && etherOk && lengthOk && fcsOk) then s
  else if !fcsOk then s.count MGT_NETCNT.RXERR 1 else s
def execFrameReject (toUs etherOk lengthOk fcsOk : Bool) (s : State) : Host.Outcome State Fault Refusal :=
  done (frameReject toUs etherOk lengthOk fcsOk s)

/-- ESNEX_READ (R568). -/
def esnexRead (h : Esnex) (index sub : Nat) (s : State) : State := s.frame h 1 (State.runRead index sub)
def execEsnexRead (h : Esnex) (index sub : Nat) (s : State) : Host.Outcome State Fault Refusal := done (esnexRead h index sub s)

/-- ESNEX_WRITE (R568). -/
def esnexWrite (h : Esnex) (index sub type : Nat) (v : DVal) (s : State) : State := s.frame h 2 (State.runWrite index sub type v)
def execEsnexWrite (h : Esnex) (index sub type : Nat) (value : DVal) (s : State) : Host.Outcome State Fault Refusal :=
  done (esnexWrite h index sub type value s)

/-- READ_BLOCK (R569). -/
def readBlock (h : Esnex) (index sub offset count : Nat) (s : State) : State := s.frame h 3 (State.runReadBlock index sub offset count)
def execReadBlock (h : Esnex) (index sub offset count : Nat) (s : State) : Host.Outcome State Fault Refusal :=
  done (readBlock h index sub offset count s)

/-- WRITE_BLOCK (R569). -/
def writeBlock (h : Esnex) (index sub offset total : Nat) (data : List Nat) (s : State) : State :=
  s.frame h 4 (State.runWriteBlock h index sub offset total data)
def execWriteBlock (h : Esnex) (index sub offset total : Nat) (data : List Nat) (s : State) : Host.Outcome State Fault Refusal :=
  done (writeBlock h index sub offset total data s)

/-- NOTIFY (R573): the Bell-frame notice of node 0; others are discarded. -/
def notify (h : Esnex) (code : Nat) (s : State) : State :=
  if !s.up || !s.on MGT_CTRL.NET_EN then s
  else if h.src = 0 ∧ code = 1 ∧ h.complete = true ∧ h.version = 1 ∧ (h.dst = 0xFF ∨ h.dst = s.fld MGT_STAT.NODE) then
    (s.modBell fun b => { b with frameNotice := true }).assertEvent 392
  else s.dropFrame
def execNotify (h : Esnex) (code : Nat) (s : State) : Host.Outcome State Fault Refusal := done (notify h code s)

/-- SNAPSHOT (R568, R571). -/
def snapshot (h : Esnex) (s : State) : State := s.frame h 6 State.runSnapshot
def execSnapshot (h : Esnex) (s : State) : Host.Outcome State Fault Refusal := done (snapshot h s)

/-- SESSION_OPEN (R574). -/
def sessionOpen (h : Esnex) (cred np : Nat) (s : State) : State := s.frame h 7 (State.runOpen h cred np)
def execSessionOpen (h : Esnex) (cred np : Nat) (s : State) : Host.Outcome State Fault Refusal := done (sessionOpen h cred np s)

/-- SESSION_CLOSE (R576): the authenticated answer, then the close. -/
def sessionClose (h : Esnex) (s : State) : State :=
  let t := s.frame h 8 State.runClose
  let ok := match t.mgt.sent.getLast? with
    | some r => r.op == 8 && r.seq == h.seq && r.session == h.session && r.abort == abOk && h.auth && decide (s.mgt.sent.length < t.mgt.sent.length)
    | none => false
  if ok then t.closeSession h.session else t
def execSessionClose (h : Esnex) (s : State) : Host.Outcome State Fault Refusal := done (sessionClose h s)

/-- CONFIG_RECORD_WRITE_DONE (R556). -/
def configRecordWriteDone (s : State) : State := s.recordDone
def execConfigRecordWriteDone (s : State) : Host.Outcome State Fault Refusal := done (configRecordWriteDone s)

/-- CONFIG_COPY_TIMEOUT (R556). -/
def configCopyTimeout (copyB : Bool) (s : State) : State := s.recordFailed copyB
def execConfigCopyTimeout (copyB : Bool) (s : State) : Host.Outcome State Fault Refusal := done (configCopyTimeout copyB s)

/-- STAGING_EXPIRE (R569): 32 frames without a segment. -/
def stagingExpire (key : Nat) (s : State) : State := s.dropStage key
def execStagingExpire (key : Nat) (s : State) : Host.Outcome State Fault Refusal := done (stagingExpire key s)

/-- SESSION_IDLE_EXPIRE (R576). -/
def sessionIdleExpire (c : Nat) (s : State) : State := s.closeSession c
def execSessionIdleExpire (session : Nat) (s : State) : Host.Outcome State Fault Refusal := done (sessionIdleExpire session s)

/-- NETWORK_DOWN_TIMEOUT (R565): 4 ms without a beacon, at a node that follows one. -/
def networkDownTimeout (s : State) : State :=
  if s.up && s.coldNum 0x1104 0 == 1 && !s.on MGT_STAT.COORD && s.on MGT_STAT.NETUP then ((s.put MGT_STAT.NETUP false).assertEvent 393).endNetLoops else s
def execNetworkDownTimeout (s : State) : Host.Outcome State Fault Refusal := done (networkDownTimeout s)

/-- MCTP_MESSAGE (R580, R581): a message whose integrity check fails raises event 397; control primitives Pause and Resume; what
is absent is answered as an invalid opcode; a command is a row of its own. -/
def mctpMessage (medium : MctpMedium) (micOk : Bool) (body : MctpBody) (s : State) : State :=
  if !s.up || !s.on MGT_CTRL.MCTP_EN || !s.mediumOn medium then s
  else if !micOk then s.assertEvent 397
  else match body with
    | .pause => s.modMgt fun m => { m with mctpPaused := true }
    | .resume => s.modMgt fun m => { m with mctpPaused := false }
    | .otherPrimitive => s.sendMi 0xFF miOpcode []
    | .absent => s.sendMi 0xFE miOpcode []
    | .command => s
def execMctpMessage (medium : MctpMedium) (micOk : Bool) (body : MctpBody) (s : State) : Host.Outcome State Fault Refusal :=
  done (mctpMessage medium micOk body s)

/-- READ_NVME_MI_DATA_STRUCTURE (R581): the structure's contents are not in the spec: a free value. -/
def readNvmeMiDataStructure (dtyp : Nat) (s : State) : State :=
  if s.miOn then (s.sendMi 0 0 [dtyp, (Config.freeWord s.free).toNat]).tookFree else s
def execReadNvmeMiDataStructure (dtyp : Nat) (s : State) : Host.Outcome State Fault Refusal := done (readNvmeMiDataStructure dtyp s)

/-- NVM_SUBSYSTEM_HEALTH_STATUS_POLL (R581). -/
def nvmSubsystemHealthStatusPoll (s : State) : State := s.sendMi 1 0 s.healthFields
def execNvmSubsystemHealthStatusPoll (s : State) : Host.Outcome State Fault Refusal := done (nvmSubsystemHealthStatusPoll s)

/-- CONTROLLER_HEALTH_STATUS_POLL (R581): CSTS.RDY and CFS of the controller, and the health fields. -/
def controllerHealthStatusPoll (f : Nat) (s : State) : State :=
  if s.fnExists f then s.sendMi 2 0 ([f, (s.fn f).rdy.toNat, (s.fn f).cfs.toNat] ++ s.healthFields) else s.sendMi 2 miParam []
def execControllerHealthStatusPoll (fn : Nat) (s : State) : Host.Outcome State Fault Refusal := done (controllerHealthStatusPoll fn s)

/-- CONFIGURATION_GET (R581): 1 SMBus frequency, 3 MCTP transmission unit size. -/
def configurationGet (id : Nat) (s : State) : State :=
  if id = 1 then s.sendMi 4 0 [s.mgt.smbFreq] else if id = 3 then s.sendMi 4 0 [s.mgt.mctpUnit] else s.sendMi 4 miParam []
def execConfigurationGet (cfgId : Nat) (s : State) : Host.Outcome State Fault Refusal := done (configurationGet cfgId s)

/-- CONFIGURATION_SET (R581): SMBus frequency 1 to 3; units of 64 to 250 bytes (R580). -/
def configurationSet (id v : Nat) (s : State) : State :=
  if !s.miOn then s
  else if id = 1 ∧ 1 ≤ v ∧ v ≤ 3 then (s.modMgt fun m => { m with smbFreq := v }).sendMi 3 0 []
  else if id = 3 ∧ 64 ≤ v ∧ v ≤ 250 then (s.modMgt fun m => { m with mctpUnit := v }).sendMi 3 0 []
  else s.sendMi 3 miParam []
def execConfigurationSet (cfgId value : Nat) (s : State) : Host.Outcome State Fault Refusal := done (configurationSet cfgId value s)

/-- VPD_READ (R581): the vital product data of 0x1010:00. -/
def vpdRead (offset len : Nat) (s : State) : State :=
  if s.dictReadCheck .mctp 0x1010 0 ≠ abOk then s.sendMi 5 miInternal []
  else if (s.dictBytes 0x1010 0).length < offset + len then s.sendMi 5 miParam []
  else s.sendMi 5 0 (((s.dictBytes 0x1010 0).drop offset).take len)
def execVpdRead (offset len : Nat) (s : State) : Host.Outcome State Fault Refusal := done (vpdRead offset len s)

/-- VPD_WRITE (R581): a write of the bytes from `offset` on, answered once the record holds them (R556). -/
def vpdWrite (offset : Nat) (data : List Nat) (s : State) : State :=
  let old := s.dictBytes 0x1010 0
  let l := (old.take offset ++ List.replicate (offset - old.length) 0) ++ data ++ old.drop (offset + data.length)
  if !s.miOn then s
  else if 256 < offset + data.length then s.sendMi 6 miParam []
  else
    let r := s.dictPut .mctp 0x1010 0 true (.bytes l)
    if r.1.hold then r.2.holdAnswer { path := 3, op := 6 } false else r.2.sendMi 6 miInternal []
def execVpdWrite (offset : Nat) (data : List Nat) (s : State) : Host.Outcome State Fault Refusal := done (vpdWrite offset data s)

end Sys2Proof.Machine
end

