-- ==== Sys2Proof/Machine/Recorder.lean ====
section
/-! DEFINITION. Machine/Recorder.lean: the commands of 19_event_recorder_tally.md. -/

namespace Sys2Proof.Machine

/-- SNAP (R585): a write of TLY_CTRL. -/
def snapWrite (m v : Nat) (s : State) : State := s.access m TLY_CTRL.SNAP.addr fun s => if bit v 0 then s.requestSnap else s
def execSnap (master value : Nat) (s : State) : Host.Outcome State Fault Refusal := done (snapWrite master value s)

/-- The epoch of the snapshot that TLY_SEL.AGE selects; 0 when none is held. -/
def State.snapEpoch (s : State) : Nat := ((s.snap (s.fld TLY_SEL.AGE)).map (·.epoch)).getD 0

/-- A read of TLY_VAL by master `m` (R590): the low half is returned; the high half and the epoch are latched for the master. -/
def State.readTally (m : Nat) (s : State) : State :=
  let e := s.snapEpoch
  (s.returnPair m TLY_VAL.VALUE.addr (s.view TLY_VAL.VALUE)).modBus fun b =>
    { b with shadow := Tab.set 0 b.shadow (TLY_VEPOCH.EPOCH.addr * 16 + m) e }

/-- TALLY_VALUE_READ (R590). -/
def tallyValueRead (m : Nat) (s : State) : State := s.access m TLY_VAL.VALUE.addr (State.readTally m)
def execTallyValueRead (master : Nat) (s : State) : Host.Outcome State Fault Refusal := done (tallyValueRead master s)

/-- A write of EVR_TRIG (R591): every SOFT trigger whose ARG equals VALUE fires. -/
def State.writeTrig (v : Nat) (s : State) : State :=
  if bit v EVR_TRIG.GO.lo then
    let n := slice v EVR_TRIG.VALUE.lo EVR_TRIG.VALUE.w
    each (s.triggers 3 fun a => a == n) (fun t s => s.fire t t n) s
  else s

/-- SOFT_TRIGGER (R591). -/
def softTrigger (m v : Nat) (s : State) : State := s.access m EVR_TRIG.GO.addr (State.writeTrig v)
def execSoftTrigger (master value : Nat) (s : State) : Host.Outcome State Fault Refusal := done (softTrigger master value s)

/-- A write of EVR_CTRL (R597, R601, R602). -/
def State.writeEvrCtrl (v : Nat) (s : State) : State :=
  let s := s.put EVR_CTRL.EN (bit v 0)
  let s := if bit v 2 then s.clearLast else s
  let s := if bit v 1 then s.startFlush else s
  if bit v 3 then s.stepCursor else s

/-- RECORDER_FLUSH (R597): a write of EVR_CTRL. -/
def recorderFlush (m v : Nat) (s : State) : State := s.access m EVR_CTRL.EN.addr (State.writeEvrCtrl v)
def execRecorderFlush (master value : Nat) (s : State) : Host.Outcome State Fault Refusal := done (recorderFlush master value s)

/-- RECORDER_FLUSH_TIMER (R597): 64 frames have passed since the last flush. -/
def recorderFlushTimer (s : State) : State := if s.up then s.startFlush else s
def execRecorderFlushTimer (s : State) : Host.Outcome State Fault Refusal := done (recorderFlushTimer s)

/-- The cursor is committed by a write of EVR_CUR_HI, and a fetch starts (R601). -/
def State.writeCursor (m v : Nat) (s : State) : State :=
  let a := EVR_CUR.SEQ.addr
  let q := s.halves m a v (s.fld EVR_CUR.SEQ)
  ((s.setFld EVR_CUR.SEQ q).unstage m a).startFetch

/-- RECORD_FETCH (R601): a write of EVR_CUR_HI. -/
def recordFetch (m v : Nat) (s : State) : State := s.access m (EVR_CUR.SEQ.addr + 4) (State.writeCursor m v)
def execRecordFetch (master value : Nat) (s : State) : Host.Outcome State Fault Refusal := done (recordFetch master value s)

/-- RECORD_FETCH_DONE (R601): the fetch in progress ends. -/
def recordFetchDone (crcOk : Bool) (s : State) : State :=
  if s.up && s.fld EVR_WST.STATE == wstFetching then s.endFetch crcOk else s
def execRecordFetchDone (crcOk : Bool) (s : State) : Host.Outcome State Fault Refusal := done (recordFetchDone crcOk s)

/-- STEP (R601): a write of EVR_CTRL. -/
def stepWrite (m v : Nat) (s : State) : State := s.access m EVR_CTRL.EN.addr (State.writeEvrCtrl v)
def execStep (master value : Nat) (s : State) : Host.Outcome State Fault Refusal := done (stepWrite master value s)

/-- CLRLAST (R602): a write of EVR_CTRL. -/
def clrlast (m v : Nat) (s : State) : State := s.access m EVR_CTRL.EN.addr (State.writeEvrCtrl v)
def execClrlast (master value : Nat) (s : State) : Host.Outcome State Fault Refusal := done (clrlast master value s)

end Sys2Proof.Machine
end

