-- ==== Sys2Proof/Machine/TestRows.lean ====
section
/-! DEFINITION. Machine/TestRows.lean: the commands of 21_test_loopbacks.md: loopbacks, BIST, the TAP and debug access. The numbers of
the debug module's registers are those of RISC-V External Debug Support 1.0 (log entry 17). -/

namespace Sys2Proof.Machine

/-! Loopbacks (R621 to R629). -/

/-- Are the eight engines of group `g` STOPPED with no operation in progress? -/
def State.groupStopped (s : State) (g : Nat) : Bool :=
  (List.range 8).all fun k =>
    let e := 8 * g + k
    s.engState e == engStopped && (List.range 32).all fun c => !(s.ctxOf e c).live

/-- The condition of Table 21.1. -/
def State.loopOk (s : State) (intf index depth : Nat) : Bool :=
  match intf with
  | 0 => s.portExists index && s.pcieLoopOk index depth 3
  | 1 => decide (index < 16) && (s.grp index == grpUntrained || s.grp index == grpReady) && s.groupStopped index
  | 2 => true
  | 3 => s.netLoopOk 3 depth
  | 4 => decide (8 ≤ s.bootStep) || s.ctl.noImage
  | 5 => s.netLoopOk 5 depth
  | _ => false

/-- A slot is refused with REASON `r`. -/
def State.loopRefuse (k r : Nat) (s : State) : State := (s.setFld (TST_LBSTAT.STATE k) 3).setFld (TST_LBSTAT.REASON k) r

/-- GO = 1 of slot `k` (R622). -/
def State.loopStart (k : Nat) (s : State) : State :=
  let intf := s.fld (TST_LBCTL.INTF k)
  let index := s.fld (TST_LBCTL.INDEX k)
  let depth := s.fld (TST_LBCTL.DEPTH k)
  let s := ((s.setFld (TST_LBSTAT.ERRORS k) 0).setFld (TST_LBBITS.BITS k) 0).setFld (TST_LBLANE.LANES k) 0
  if depth = 0 ∨ 3 < depth ∨ 5 < intf then s.loopRefuse k 3
  else if s.hld.committed then s.loopRefuse k 4
  else if (List.range 4).any fun j => match s.loopOf j with | some l => l.1 == intf && l.2.1 == index | none => false then s.loopRefuse k 2
  else if !s.loopOk intf index depth then s.loopRefuse k 1
  else
    let s := s.modTst fun t => { t with loops := Tab.set none t.loops k (some (intf, index, depth)) }
    let s := (s.setFld (TST_LBSTAT.STATE k) 1).setFld (TST_LBSTAT.REASON k) 0
    if intf = 1 then (s.updateWp index).reportUnit (128 + index)
    else if intf = 0 ∧ depth = 3 then s.setFld (PCI_LSTAT.LTSSM index) 8
    else s

/-- The loopback of slot `k` ends with the counts it has gathered (R624, R625, R628). -/
def State.loopEnd (k st r bits errors lanes : Nat) (s : State) : State :=
  match s.loopOf k with
  | none => s
  | some l =>
    let s := s.modTst fun t => { t with loops := Tab.set none t.loops k none }
    let s := (s.setFld (TST_LBSTAT.STATE k) st).setFld (TST_LBSTAT.REASON k) r
    let s := ((s.setFld (TST_LBSTAT.ERRORS k) (min errors 0xFFFFFF)).setFld (TST_LBBITS.BITS k) bits).setFld (TST_LBLANE.LANES k) (lanes % 256)
    if l.1 = 1 then s.updateWp l.2.1
    else if l.1 = 0 ∧ l.2.2 = 3 then s.loseLink l.2.1
    else s

/-- The stored fields of a write of TST_LBCTL[k]. -/
def State.storeLbctl (k v : Nat) (s : State) : State :=
  ((((s.setFld (TST_LBCTL.INTF k) (slice v 24 4)).setFld (TST_LBCTL.DEPTH k) (slice v 20 4)).setFld (TST_LBCTL.PAT k) (slice v 18 2)).setFld
    (TST_LBCTL.INDEX k) (slice v 8 4)).setFld (TST_LBCTL.DURATION k) (slice v 0 8)

/-- A write of TST_LBCTL[k]; STOP ends the loopback of the slot with the counts given. -/
def State.writeLbctl (k v bits errors lanes : Nat) (s : State) : State :=
  let s := s.storeLbctl k v
  let s := if bit v 30 then s.loopEnd k 3 6 bits errors lanes else s
  if bit v 31 && (s.loopOf k).isNone then s.loopStart k else s

/-- LOOPBACK_START (R622). -/
def loopbackStart (m k v : Nat) (s : State) : State :=
  if k < 4 then s.access m (TST_LBCTL.GO k).addr (State.writeLbctl k v 0 0 0) else s
def execLoopbackStart (master slot value : Nat) (s : State) : Host.Outcome State Fault Refusal := done (loopbackStart master slot value s)

/-- LOOPBACK_STOP (R623). -/
def loopbackStop (m k v bits errors lanes : Nat) (s : State) : State :=
  if k < 4 then s.access m (TST_LBCTL.GO k).addr (State.writeLbctl k v bits errors lanes) else s
def execLoopbackStop (master slot value : Nat) (bits errors lanes : Nat) (s : State) : Host.Outcome State Fault Refusal :=
  done (loopbackStop master slot value bits errors lanes s)

/-- LOOPBACK_DURATION_END (R622): DURATION ms have passed; a DURATION of 0 runs until STOP. -/
def loopbackDurationEnd (k bits errors lanes : Nat) (s : State) : State :=
  if s.fld (TST_LBCTL.DURATION k) = 0 then s else s.loopEnd k 2 0 bits errors lanes
def execLoopbackDurationEnd (slot bits errors lanes : Nat) (s : State) : Host.Outcome State Fault Refusal :=
  done (loopbackDurationEnd slot bits errors lanes s)

/-! BIST (R630). -/

/-- Is engine `e` STOPPED with no operation in progress? -/
def State.engineStill (s : State) (e : Nat) : Bool := s.engState e == engStopped && (List.range 32).all fun c => !(s.ctxOf e c).live

/-- The condition of Table 21.2. -/
def State.bistOk (s : State) (ty tgt : Nat) : Bool :=
  if ty = 0 then
    if tgt < 48 then s.fld (MEM_BANKASN.OWNER tgt) == 0 || s.fld (MEM_BANKASN.OWNER tgt) == 0xF
    else decide (tgt < 56) && ((List.range 128).all fun e => (List.range 32).all fun c => !(s.ctxOf e c).live) && s.cip.jobs.isEmpty
  else if ty = 1 then
    if tgt < 4 then !bit (s.fld SYS_CORECTL.RUN) tgt
    else decide (64 ≤ tgt) && decide (tgt < 192) && s.engineStill (tgt - 64)
  else false

/-- A write of TST_BIST. -/
def State.writeBist (v : Nat) (s : State) : State :=
  let ty := slice v 8 2
  let tgt := slice v 0 8
  let s := (s.setFld TST_BIST.TYPE ty).setFld TST_BIST.TARGET tgt
  if !bit v 31 then s
  else if s.tst.bistRun.isSome || !s.bistOk ty tgt then s.setFld TST_BISTRES.STATE 3
  else
    ((((s.modTst fun t => { t with bistRun := some (ty, tgt) }).setFld TST_BISTRES.STATE 1).put TST_BISTRES.PASS false).setFld
      TST_BISTRES.NFAIL 0).setFld TST_BISTRES.FIRST 0

/-- BIST_START (R630). -/
def bistStart (m v : Nat) (s : State) : State := s.access m TST_BIST.GO.addr (State.writeBist v)
def execBistStart (master value : Nat) (s : State) : Host.Outcome State Fault Refusal := done (bistStart master value s)

/-- Zero the bytes `[lo, hi)` of on-chip SRAM. -/
def State.zeroRange (lo hi : Nat) (s : State) : State :=
  s.modBus fun b => { b with mem := b.mem.filter fun e => decide (e.1 < lo) || decide (hi ≤ e.1) }

/-- BIST_DONE (R630): `nfail` failing rows, the first one `first`; a tested bank is zero. -/
def bistDone (nfail first : Nat) (s : State) : State :=
  match s.tst.bistRun with
  | none => s
  | some (ty, tgt) =>
    let s := s.modTst fun t => { t with bistRun := none }
    let s := ((s.setFld TST_BISTRES.STATE 2).put TST_BISTRES.PASS (nfail == 0)).setFld TST_BISTRES.NFAIL (min nfail 0x7FF)
    let s := s.setFld TST_BISTRES.FIRST (if nfail = 0 then 0 else first)
    if ty ≠ 0 then s
    else if tgt < 48 then s.zeroRange (0x20000000 + tgt * 0x200000) (0x20000000 + (tgt + 1) * 0x200000)
    else s.zeroRange (0x10000000 + (tgt - 48) * 0x80000) (0x10000000 + (tgt - 47) * 0x80000)
def execBistDone (nfail first : Nat) (s : State) : Host.Outcome State Fault Refusal := done (bistDone nfail first s)

/-! Debug access (R633 to R635). -/

/-- A write of TST_DBG: a request of level 0b01 or 0b10, refused after three failures. -/
def State.writeDbg (v : Nat) (s : State) : State :=
  let l := slice v 28 2
  if !bit v 31 || s.on TST_DBG.BUSY || decide (3 ≤ s.fld TST_DBG.FAILS) || (l != 1 && l != 2) then s
  else (s.put TST_DBG.BUSY true).modTst fun t => { t with dbgLevel := l }

/-- DEBUG_UNLOCK_REQUEST (R635). -/
def debugUnlockRequest (m v : Nat) (s : State) : State := s.access m TST_DBG.REQ.addr (State.writeDbg v)
def execDebugUnlockRequest (master value : Nat) (s : State) : Host.Outcome State Fault Refusal := done (debugUnlockRequest master value s)

/-- DEBUG_UNLOCK_VERDICT (R635): the level is granted (a higher level granted before lasts), or FAILS grows and the challenge is replaced. -/
def debugUnlockVerdict (keyHashOk signatureOk : Bool) (s : State) : State :=
  if !s.on TST_DBG.BUSY then s
  else
    let s := s.put TST_DBG.BUSY false
    if keyHashOk && signatureOk then s.setFld TST_DBG.UNLOCKED (max (s.fld TST_DBG.UNLOCKED) s.tst.dbgLevel)
    else (s.setFld TST_DBG.FAILS (min 3 (s.fld TST_DBG.FAILS + 1))).placeChallenge
def execDebugUnlockVerdict (keyHashOk signatureOk : Bool) (s : State) : Host.Outcome State Fault Refusal :=
  done (debugUnlockVerdict keyHashOk signatureOk s)

/-- Is hart `h` accessible (Table 21.4)? -/
def State.hartOpen (s : State) (h : Nat) : Bool :=
  if h = 4 then s.debugSecure
  else decide (h < 6) && (s.cip.lifecycle != 3 || s.fld TST_DBG.UNLOCKED != 0)

/-- Hart `h` halts: both cores of the pair together (R633). -/
def State.haltHart (h : Nat) (s : State) : State := if s.hartOpen h then s.modTst fun t => { t with halted := addTo h t.halted } else s

/-- DEBUG_HALT (R633, R634): a hart that is not accessible answers as nonexistent. -/
def debugHalt (h : Nat) (s : State) : State := s.haltHart h
def execDebugHalt (hart : Nat) (s : State) : Host.Outcome State Fault Refusal := done (debugHalt hart s)

/-! The TAP (R631, R632). -/

/-- The instruction register takes `ir`; the cells drive as `drive`; the selected register reads `dr`. -/
def State.tap (ir drive dr : Nat) (s : State) : State := s.modTst fun t => { t with ir := ir, drive := drive, dr := dr }

/-- IDCODE (R631). -/
def tapIdcode (s : State) : State := s.tap 0x01 0 0x18128A2B
def execIdcode (s : State) : Host.Outcome State Fault Refusal := done (tapIdcode s)

/-- SAMPLE/PRELOAD (R631): the boundary register takes new update values. -/
def samplePreload (cells : List Nat) (s : State) : State :=
  (s.tap 0x02 0 0).modTst fun t => { t with
    cells := ((cells.take 4412).mapIdx fun i v => (i, v % 2)).foldl (fun l e => Tab.set 0 l e.1 e.2) t.cells }
def execSamplePreload (cells : List Nat) (s : State) : Host.Outcome State Fault Refusal := done (samplePreload cells s)

/-- How the boundary cells drive the balls now: not at all unless the hold-up state is INIT or CHARGING and ADMIT_EN is 0 (R632). -/
def State.cellDrive (s : State) : Nat :=
  if (s.hldState == hldInit || s.hldState == hldCharging) && !s.on HFE_CTRL.ADMIT_EN then s.tst.drive else 0

/-- An instruction that takes over the balls: while the boundary cells may not drive it acts as BYPASS (R632), which
`State.cellDrive` says of every later state. -/
def State.tapDrive (ir drive : Nat) (s : State) : State := s.tap ir drive 0

/-- EXTEST (R631, R632). -/
def extest (s : State) : State := s.tapDrive 0x03 1
def execExtest (s : State) : Host.Outcome State Fault Refusal := done (extest s)

/-- HIGHZ (R631, R632). -/
def highz (s : State) : State := s.tapDrive 0x04 2
def execHighz (s : State) : Host.Outcome State Fault Refusal := done (highz s)

/-- CLAMP (R631, R632). -/
def clamp (s : State) : State := s.tapDrive 0x05 3
def execClamp (s : State) : Host.Outcome State Fault Refusal := done (clamp s)

/-- EXTEST_PULSE (R631, R632). -/
def extestPulse (s : State) : State := s.tapDrive 0x06 4
def execExtestPulse (s : State) : Host.Outcome State Fault Refusal := done (extestPulse s)

/-- EXTEST_TRAIN (R631, R632). -/
def extestTrain (s : State) : State := s.tapDrive 0x07 5
def execExtestTrain (s : State) : Host.Outcome State Fault Refusal := done (extestTrain s)

/-- Is `opcode` one of those that Table 21.3 gives another instruction? -/
def tapListed (opcode : Nat) : Bool := (1 ≤ opcode % 256 && opcode % 256 ≤ 7) || opcode % 256 == 0x10 || opcode % 256 == 0x11

/-- BYPASS (R631): 0xFF and every opcode that Table 21.3 does not list. -/
def tapBypass (opcode : Nat) (s : State) : State := if tapListed opcode then s else s.tap (opcode % 256) 0 0
def execBypass (opcode : Nat) (s : State) : Host.Outcome State Fault Refusal := done (tapBypass opcode s)

/-- What dtmcs reads: version 1, 7 address bits, the status of the last access. -/
def State.dtmcsWord (s : State) : Nat := 1 + 7 * 2 ^ 4 + s.tst.dmistat * 2 ^ 10

/-- DTMCS (R631): dmireset clears the sticky status. -/
def dtmcs (dmiReset : Bool) (s : State) : State :=
  let s := if dmiReset then s.modTst fun t => { t with dmistat := 0 } else s
  s.tap 0x10 0 s.dtmcsWord
def execDtmcs (dmiReset : Bool) (s : State) : Host.Outcome State Fault Refusal := done (dtmcs dmiReset s)

/-- The hart that dmcontrol selects. -/
def dmHart (v : Nat) : Nat := slice v 16 10 + slice v 6 10 * 1024

/-- A write of dmcontrol: haltreq and resumereq act on the selected hart. -/
def State.dmControl (v : Nat) (s : State) : State :=
  let h := dmHart v
  if !bit v 0 then s.modTst fun t => { t with dmi := [], halted := [] }
  else
    let s := s.modTst fun t => { t with dmi := Tab.set 0 t.dmi 0x10 (v % 2 ^ 30) }
    if bit v 31 then s.haltHart h
    else if bit v 30 && s.hartOpen h then s.modTst fun t => { t with halted := dropFrom h t.halted }
    else s

/-- dmstatus of the selected hart: halted, running or nonexistent; version 3. -/
def State.dmStatus (s : State) : Nat :=
  let h := dmHart (Tab.get 0 s.tst.dmi 0x10)
  3 + 2 ^ 7 + (if !s.hartOpen h then 3 * 2 ^ 14 else if s.tst.halted.contains h then 3 * 2 ^ 8 else 3 * 2 ^ 10)

/-- DMI (R631, R633): an access to a debug-module register; a reserved operation leaves a sticky failure. -/
def dmiAccess (op a data : Nat) (s : State) : State :=
  let s := s.tap 0x11 0 0
  if s.tst.dmistat ≠ 0 then s
  else if op = 0 then s
  else if op = 1 then
    let v := if a = 0x11 then s.dmStatus else Tab.get 0 s.tst.dmi a
    s.modTst fun t => { t with dmiData := v }
  else if op = 2 then (if a = 0x10 then s.dmControl data else if a = 0x11 then s else s.modTst fun t => { t with dmi := Tab.set 0 t.dmi a data })
  else s.modTst fun t => { t with dmistat := 2 }
def execDmi (op address data : Nat) (s : State) : Host.Outcome State Fault Refusal := done (dmiAccess op address data s)

end Sys2Proof.Machine
end

