-- ==== Sys2Proof/Machine/Zones.lean ====
section
/-! DEFINITION. Machine/Zones.lean: firmware's commands to the zone manager (06_zones_placement.md): stripe sets, placement groups,
descriptor operations and checkpoints. -/

namespace Sys2Proof.Machine

/-! Stripe sets and placement groups (R183). -/

/-- ZPM_DCMD.ERR: an operation or write was ignored. -/
def State.zcmdFail (s : State) : State := s.put ZPM_DCMD.ERR true

/-- Is a write of `v` to ZPM_SSET[t] ignored? -/
def State.ssetRefused (s : State) (t v : Nat) : Bool :=
  s.reclaimSets.contains t ||
    (s.on (ZPM_SSET.VALID t) && s.groupReserved (s.fld (ZPM_SSET.PGRP t)) &&
      ((ZPM_SSET.VALID t).of v == 0 || (ZPM_SSET.PGRP t).of v != s.fld (ZPM_SSET.PGRP t) || (ZPM_SSET.ROWS t).of v != s.fld (ZPM_SSET.ROWS t)))

/-- A write to ZPM_SSET[t]. -/
def State.writeSset (t v : Nat) (s : State) : State :=
  if s.ssetRefused t v then s.zcmdFail
  else ((s.setFld (ZPM_SSET.VALID t) ((ZPM_SSET.VALID t).of v)).setFld (ZPM_SSET.PGRP t) ((ZPM_SSET.PGRP t).of v)).setFld (ZPM_SSET.ROWS t)
    ((ZPM_SSET.ROWS t).of v)

/-- A write to ZPM_PGRP[g]: ROW is ignored while the group holds a reservation. -/
def State.writePgrp (g v : Nat) (s : State) : State :=
  let s := s.setFld (ZPM_PGRP.TAIL_ONLY g) ((ZPM_PGRP.TAIL_ONLY g).of v)
  if s.groupReserved g then s.zcmdFail else s.setFld (ZPM_PGRP.ROW g) ((ZPM_PGRP.ROW g).of v)

/-- ZPM_SSET_WRITE (R182, R183). -/
def zpmSsetWrite (m t v : Nat) (s : State) : State := if 4096 ≤ t then s else s.access m (ZPM_SSET.VALID t).addr (State.writeSset t v)
def execZpmSsetWrite (master set value : Nat) (s : State) : Host.Outcome State Fault Refusal := done (zpmSsetWrite master set value s)

/-- ZPM_PGRP_WRITE (R182, R183). -/
def zpmPgrpWrite (m g v : Nat) (s : State) : State := if 64 ≤ g then s else s.access m (ZPM_PGRP.ROW g).addr (State.writePgrp g v)
def execZpmPgrpWrite (master group value : Nat) (s : State) : Host.Outcome State Fault Refusal := done (zpmPgrpWrite master group value s)

/-! Descriptor operations (R202). -/

/-- READ: the eight words of the descriptor; zero for one that the banks do not hold. DESIGN CHOICE (log entry 51): a READ of an Offline
zone is no change that Table 6.3 has the device ignore, and is carried out. -/
def State.zcmdRead (i : Nat) (s : State) : State :=
  let l := if s.descriptorHeld i then (s.zone i).words else []
  let s := if s.descriptorHeld i then s else s.zcmdFail
  each (List.range 8) (fun k s => s.setFld (ZPM_DWORD.DATA k) (l.getD k 0)) s

/-- May SET_ATTR, READ_ONLY or OFFLINE change descriptor `i`: a zone that is not Offline (Table 6.3)? DESIGN CHOICE (log entry 51): on a
reclaim unit, for which the spec gives them no effect, they are ignored with ERR. -/
def State.zoneOpOk (s : State) (i : Nat) : Bool := s.descriptorHeld i && (s.zone i).kind == 1 && (s.zone i).state != .offline

/-- SET_ATTR: FZR and RZR from ZPM_DWORD[3]; a bit newly set lists the zone (R197). -/
def State.zcmdAttr (i : Nat) (s : State) : State :=
  if !s.zoneOpOk i then s.zcmdFail
  else
    let z := s.zone i
    let w := s.fld (ZPM_DWORD.DATA 3)
    let s := (s.modZone i fun z => { z with fzr := bit w 16, rzr := bit w 15 }).journalZone i
    if (bit w 16 && !z.fzr) || (bit w 15 && !z.rzr) then s.listChanged i else s

/-- READ_ONLY: a migration of the zone is abandoned (R257). -/
def State.zcmdReadOnly (i : Nat) (s : State) : State :=
  if !s.zoneOpOk i then s.zcmdFail
  else if (s.zone i).state = .readOnly then s
  else s.readOnlyZone i

/-- OFFLINE: the row goes to media management. -/
def State.zcmdOffline (i : Nat) (s : State) : State :=
  if !s.zoneOpOk i then s.zcmdFail
  else (((s.enterZone i .offline).listChanged i).assertEvent 225).handRows i

/-- SET_FWTAG: from ZPM_DWORD[7]. -/
def State.zcmdTag (i : Nat) (s : State) : State :=
  if !s.descriptorHeld i || (s.zone i).kind == 0 || (s.zone i).state == .offline then s.zcmdFail
  else
    let w := s.fld (ZPM_DWORD.DATA 7)
    (s.modZone i fun z => { z with fwtag := w }).journalZone i

/-- A write to ZPM_DCMD: INDEX, and the operation OP names. -/
def State.writeZcmd (v : Nat) (s : State) : State :=
  let i := ZPM_DCMD.INDEX.of v
  let s := s.setFld ZPM_DCMD.INDEX i
  match ZPM_DCMD.OP.of v with
  | 1 => s.zcmdRead i
  | 2 => s.zcmdAttr i
  | 3 => s.zcmdReadOnly i
  | 4 => s.zcmdOffline i
  | 5 => s.zcmdTag i
  | _ => s.zcmdFail

/-- The word of ZPM_DCMD with operation `op` on descriptor `i`. -/
def zcmdWord (op i : Nat) : Nat := op * 2 ^ 28 + i % 2 ^ 20

/-- DCMD_READ (R202). -/
def dcmdRead (m i : Nat) (s : State) : State := s.access m ZPM_DCMD.OP.addr (State.writeZcmd (zcmdWord 1 i))
def execDcmdRead (master index : Nat) (s : State) : Host.Outcome State Fault Refusal := done (dcmdRead master index s)

/-- SET_ATTR (R190, R197, R202). -/
def setAttr (m i : Nat) (s : State) : State := s.access m ZPM_DCMD.OP.addr (State.writeZcmd (zcmdWord 2 i))
def execSetAttr (master index : Nat) (s : State) : Host.Outcome State Fault Refusal := done (setAttr master index s)

/-- READ_ONLY (R191, R202, R257). -/
def readOnly (m i : Nat) (s : State) : State := s.access m ZPM_DCMD.OP.addr (State.writeZcmd (zcmdWord 3 i))
def execReadOnly (master index : Nat) (s : State) : Host.Outcome State Fault Refusal := done (readOnly master index s)

/-- OFFLINE (R191, R202, R204). -/
def offline (m i : Nat) (s : State) : State := s.access m ZPM_DCMD.OP.addr (State.writeZcmd (zcmdWord 4 i))
def execOffline (master index : Nat) (s : State) : Host.Outcome State Fault Refusal := done (offline master index s)

/-- SET_FWTAG (R202). -/
def setFwtag (m i : Nat) (s : State) : State := s.access m ZPM_DCMD.OP.addr (State.writeZcmd (zcmdWord 5 i))
def execSetFwtag (master index : Nat) (s : State) : Host.Outcome State Fault Refusal := done (setFwtag master index s)

/-! Checkpoints (R214). -/

/-- A write to ZPM_CTRL. -/
def State.writeZpmCtrl (v : Nat) (s : State) : State :=
  let s := (s.setFld ZPM_CTRL.TAIL_ENF (ZPM_CTRL.TAIL_ENF.of v)).setFld ZPM_CTRL.EN (ZPM_CTRL.EN.of v)
  (if ZPM_CTRL.CKPT_NOW.of v = 1 then s.startCheckpoint else s).settle

/-- CKPT_NOW (R214). -/
def ckptNow (m v : Nat) (s : State) : State := s.access m ZPM_CTRL.CKPT_NOW.addr (State.writeZpmCtrl v)
def execCkptNow (master value : Nat) (s : State) : Host.Outcome State Fault Refusal := done (ckptNow master value s)

/-- The end of a checkpoint (R214): the older copy holds the table and its valid header, written last; the journal records that precede its
start are discarded, and those that waited for room take it (log entry 48). -/
def State.checkpointEnd (badPages : List Nat) (s : State) : State :=
  let table := s.zpm.zones
  let g := max s.nv.ckptA.gen s.nv.ckptB.gen + 1
  let s := s.modOlder fun _ => { gen := g, ok := true, zones := table, bad := badPages }
  (s.modZpm fun z =>
    let l := z.journal.drop z.ckptMark ++ z.journalLate
    { z with journal := l.take journalMax, journalLate := l.drop journalMax, ckptMark := 0 }).put ZPM_STAT.CKPT_BUSY false

/-- ZONE_CHECKPOINT_END (R214, R215, R416): `badPages` are the pages of the copy that fail their check when they are next read; a dump commit
ends a checkpoint that is being written (R417); event
230. -/
def zoneCheckpointEnd (badPages : List Nat) (s : State) : State :=
  if !s.on ZPM_STAT.CKPT_BUSY || s.hld.committed then s
  else (((s.checkpointEnd badPages).modHld fun h => if h.drainRun then { h with drainCkpt := true } else h).assertEvent 230).settle
def execZoneCheckpointEnd (badPages : List Nat) (s : State) : Host.Outcome State Fault Refusal := done (zoneCheckpointEnd badPages s)

end Sys2Proof.Machine
end

