-- ==== Sys2Proof/Machine/BusWrite.lean ====
section
/-! DEFINITION. Machine/BusWrite.lean: a write of a register word by a master, block by block (R14, R17, R36 to R40): words with
an effect of their own go to the operation of that effect, all others follow their fields' access types. -/

namespace Sys2Proof.Machine

/-! Words whose access types say all (R14, R17). -/

/-- A write of `v` to one field of the word at `a`. -/
def State.writeField (m a v : Nat) (e : Fld × Acc) (s : State) : State :=
  match e.2 with
  | .rw => s.setFld e.1 (e.1.of v)
  | .rs => s.setFld e.1 (e.1.of v)
  | .evt => s.setFld e.1 (e.1.of v)
  | .ret => if (AON_RET.WORD 8).addr ≤ a then s.setFld e.1 v else s
  | .pair =>
    if a = e.1.addr then s.stageLow m a v
    else (s.setFld e.1 (s.halves m e.1.addr v (s.fld e.1))).unstage m e.1.addr
  | _ => s

/-- A write of a word with no effect of its own. -/
def State.plainWrite (m a v : Nat) (s : State) : State := each (fieldsAt a) (State.writeField m a v) s

/-- Has the word at `a` an RS field (R36, R505)? -/
def rsWord (a : Nat) : Bool := (fieldsAt a).any fun e => fieldRS e.1 e.2

/-! The blocks of Table 1.6. -/

/-- SYS. -/
def writeSys (m a v : Nat) (s : State) : State :=
  if a = SYS_CORECTL.RUN.addr then s.writeCorectl v
  else if a = SYS_RSTCTL.RESTART.addr then s.writeRstctl m v
  else s.plainWrite m a v

/-- BEL; a slot mask waits for the next frame and is mirrored for the power-up (R58, R75). -/
def writeBel (m a v : Nat) (s : State) : State :=
  if a = BEL_CTRL.SRC.addr then s.writeBelCtrl v
  else if a = BEL_MASK.MASK.addr + 4 then ((s.plainWrite m a v).put BEL_STAT.MASK_PEND true).mirrorPowerUp
  else if a = BEL_BUDGET.BUDGET.addr then s.writeBelBudget v
  else if a = BEL_MODE_CMD.GO.addr then s.modeCommand v
  else s.plainWrite m a v

/-- PCI. -/
def writePci (m a v : Nat) (s : State) : State :=
  if a = PCI_CTRL.MAXRATE.addr then writePciCtrl v s else s.plainWrite m a v

/-- HFE. -/
def writeHfe (m a v : Nat) (s : State) : State :=
  let f := (a - 0x40610000) / 8
  if a = HFE_CTRL.DA.addr then s.writeHfeCtrl v
  else if a = (HFE_QALLOC.NSQ f).addr ∧ f < 512 then s.writeQalloc f v
  else if a = (HFE_CMDLIM.LIMIT f).addr ∧ f < 512 then s.writeCmdlim f v
  else s.plainWrite m a v

/-- FNS; of a function's mailbox words the outbound 16 are writable. -/
def writeFns (m a v : Nat) (s : State) : State :=
  let off := a - 0x40810000
  if a = FNS_MBXACK.FUNC.addr then s.writeMbxAck v
  else if 0x40810000 ≤ a ∧ a < 0x40820000 then
    (if off % 0x80 < 0x40 then s
     else s.modFn (off / 0x80) fun r => { r with mbxOut := Tab.set 0 r.mbxOut (off % 0x40 / 4) (v % 2 ^ 32) })
  else s.plainWrite m a v

/-- ZPM. -/
def writeZpm (m a v : Nat) (s : State) : State :=
  let t := (a - 0x40a10000) / 8
  let g := (a - 0x40a01000) / 4
  if a = ZPM_CTRL.CKPT_NOW.addr then s.writeZpmCtrl v
  else if a = ZPM_DCMD.OP.addr then s.writeZcmd v
  else if a = (ZPM_PGRP.ROW g).addr ∧ g < 64 then s.writePgrp g v
  else if a = (ZPM_SSET.VALID t).addr ∧ t < 4096 then s.writeSset t v
  else s.plainWrite m a v

/-- MED. -/
def writeMed (m a v : Nat) (s : State) : State :=
  if a = MED_CTRL.LAYOUT.addr then s.writeMedCtrl v
  else if a = MED_UCMD.OP.addr then s.writeUcmd v
  else if a = MED_MIGR.OP.addr then s.writeMigr v
  else if a = MED_RCPDATA.STEPWORD.addr then s.writeRecipe v
  else s.plainWrite m a v

/-- FCH, by the page of the channel group (R35). -/
def writeFch (a v : Nat) (s : State) : State :=
  let g := (a - 0x40e00000) / 0x10000
  let off := a % 0x10000
  if off = 0 then s.writeGcfg g v
  else if off = 4 then s.writeGctrl g v
  else if 0x10 ≤ off ∧ off < 0x20 then s.writeTset g ((off - 0x10) / 8) (off % 8 / 4) v
  else if 0x40 ≤ off ∧ off < 0x50 then (s.writeFence g ((off - 0x40) / 4) v).holdCheck
  else if 0x1000 ≤ off ∧ off < 0x1800 then s.writeCal g ((off - 0x1000) / 0x100) (off % 0x100 / 0x10) (off % 0x10 / 4) v
  else s

/-- DRF, by the page of the engine (R35). -/
def writeDrf (m a v : Nat) (s : State) : State :=
  let e := (a - 0x41000000) / 0x2000
  match a % 0x2000 with
  | 0x00 => s.writeDrfCtrl e v
  | 0x08 => s.engCfg e 0x08 v
  | 0x0C => s.engCfg e 0x0C v
  | 0x10 => s.engCfg e 0x10 v
  | 0x114 => s.engCfg e 0x114 v
  | 0x14 => s.writeHead e v
  | 0x20 => s.submit e v
  | 0x104 => s.writeStore e v
  | 0x10C => s.windowLocal m e (some v)
  | _ => s.plainWrite m a v

/-- ECC. -/
def writeEcc (m a v : Nat) (s : State) : State :=
  let n := (a - 0x41200100) / 4
  if a = ECC_CTRL.DCLR.addr then
    (let s := s.plainWrite m a v
     if ECC_CTRL.DCLR.of v = 1 then s.clearEccCounts else s)
  else if a = (ECC_PROF.SOFT n).addr ∧ n < 16 then s.writeProfile n v
  else s.plainWrite m a v

/-- MSH. -/
def writeMsh (m a v : Nat) (s : State) : State :=
  let t := (a - 0x41410000) / 4
  if a = MSH_DCMD.OP.addr then (s.writeDcmd v).holdCheck
  else if a = MSH_PDATA.DIE.addr then s.writePdata v
  else if a = MSH_RCPDATA.WORD.addr then s.writeRcpdata v
  else if a = MSH_RSHP.GO.addr then s.writeRshp v
  else if a = (MSH_SSET.VALID t).addr ∧ t < 4096 then s.writeMshSset t v
  else s.plainWrite m a v

/-- HLD. -/
def writeHld (m a v : Nat) (s : State) : State := if a = HLD_CTRL.EN.addr then s.writeHldCtrl v else s.plainWrite m a v

/-- TUB; the reservations are writable only while the pool is disabled (R455). -/
def writeTub (m a v : Nat) (s : State) : State :=
  let c := (a - 0x41800200) / 8
  if a = TUB_CTRL.EN.addr then s.writeTubCtrl v
  else if 0x41800100 ≤ a ∧ a < 0x41800130 then (if s.on TUB_CTRL.EN then s else s.plainWrite m a v)
  else if a = (TUB_REQ.OP c).addr ∧ c < 4 then s.writeTubReq m c v
  else if a = TUB_REL.OP.addr then s.writeTubRel m v
  else if a = TUB_WUSE.USE.addr then s.writeTubUse m v
  else if 0x41801000 ≤ a ∧ a < 0x41801200 then s.writeTubWin m (a - 0x41801000) v
  else s.plainWrite m a v

/-- MEM. -/
def writeMem (m a v : Nat) (s : State) : State :=
  let n := (a - 0x41a00100) / 4
  if a = MEM_CTRL.LOCK.addr then s.writeMemCtrl v
  else if a = MEM_RETIRE.GO.addr then s.writeRetire v
  else if a = (MEM_BANKASN.OWNER n).addr ∧ n < 56 then s.writeBank n v
  else s.plainWrite m a v

/-- CIP. -/
def writeCip (m a v : Nat) (s : State) : State :=
  if a = CIP_GRING.BASE.addr then s.writeGring v
  else if a = CIP_GTAIL.TAIL.addr then s.writeGtail v
  else if a = CIP_REKEY.GO.addr then s.writeRekey v
  else if a = CIP_LEASE.HOLD.addr then s.writeLease m v
  else s.plainWrite m a v

/-- EVT. -/
def writeEvt (m a v : Nat) (s : State) : State :=
  if a = EVT_SWTRIG.SOURCE.addr then s.writeSwtrig v
  else if a = EVT_AEN.TYPE.addr then s.writeAen v
  else s.plainWrite m a v

/-- PWR. -/
def writePwr (m a v : Nat) (s : State) : State :=
  let n := (a - 0x42000020) / 4
  if a = PWR_REQ.GO.addr then s.writePwrReq v
  else if a = PWR_DOMREQ.OP.addr then s.domainRequest (PWR_DOMREQ.OP.of v) (PWR_DOMREQ.DOMAIN.of v)
  else if a = (PWR_ANS.ANS n).addr ∧ n < 4 then s.writeAns n m v
  else s.plainWrite m a v

/-- THM. -/
def writeThm (m a v : Nat) (s : State) : State := if a = THM_CTRL.NANDEN.addr then s.writeThmCtrl v else s.plainWrite m a v

/-- MGT; the firmware request's data buffer is 4 KiB of bytes. -/
def writeMgt (m a v : Nat) (s : State) : State :=
  if a = MGT_CTRL.NET_EN.addr then (s.plainWrite m a v).endNetLoops
  else if a = MGT_FREQ.GO.addr then s.writeFreq m v
  else if 0x42401000 ≤ a ∧ a < 0x42402000 then
    each (List.range 4) (fun i s => s.modMgt fun x =>
      { x with fdata := Tab.set 0 x.fdata (a - 0x42401000 + i) (v / 256 ^ i % 256) }) s
  else s.plainWrite m a v

/-- EVR. -/
def writeEvr (m a v : Nat) (s : State) : State :=
  if a = EVR_CTRL.EN.addr then s.writeEvrCtrl v
  else if a = EVR_TRIG.GO.addr then s.writeTrig v
  else if a = EVR_CUR.SEQ.addr + 4 then s.writeCursor m v
  else s.plainWrite m a v

/-- TLY. -/
def writeTly (m a v : Nat) (s : State) : State :=
  if a = TLY_CTRL.SNAP.addr then (if bit v 0 then s.requestSnap else s) else s.plainWrite m a v

/-- SAF. -/
def writeSaf (m a v : Nat) (s : State) : State :=
  let n := (a - 0x42a00020) / 4
  if a = (SAF_WDOG.KICK n).addr ∧ n < 6 then s.writeWdog m n v else s.plainWrite m a v

/-- TST; what a loopback that STOP ends has counted is not the write's to say: free values. -/
def writeTst (m a v : Nat) (s : State) : State :=
  let k := (a - 0x42c00000) / 0x20
  let x := (Config.freeWord s.free).toNat
  if a = (TST_LBCTL.GO k).addr ∧ k < 4 then s.tookFree.writeLbctl k v x (x % 2 ^ 24) (x % 256)
  else if a = TST_BIST.GO.addr then s.writeBist v
  else if a = TST_DBG.REQ.addr then s.writeDbg v
  else s.plainWrite m a v

/-- The write of the word at normal-alias address `a` by master `m`: ignored and counted where the word is of type RS and the master
of the normal world (R467). -/
def State.writeWord (m a v : Nat) (s : State) : State :=
  if rsWord a && !s.secure m then s.rsWrite m a
  else
    match (a - 0x40000000) / 0x200000 with
    | 0 => writeSys m a v s
    | 1 => writeBel m a v s
    | 2 => writePci m a v s
    | 3 => writeHfe m a v s
    | 4 => writeFns m a v s
    | 5 => writeZpm m a v s
    | 6 => writeMed m a v s
    | 7 => writeFch a v s
    | 8 => writeDrf m a v s
    | 9 => writeEcc m a v s
    | 10 => writeMsh m a v s
    | 11 => writeHld m a v s
    | 12 => writeTub m a v s
    | 13 => writeMem m a v s
    | 14 => writeCip m a v s
    | 15 => writeEvt m a v s
    | 16 => writePwr m a v s
    | 17 => writeThm m a v s
    | 18 => writeMgt m a v s
    | 19 => writeEvr m a v s
    | 20 => writeTly m a v s
    | 21 => writeSaf m a v s
    | 22 => writeTst m a v s
    | 23 => s.plainWrite m a v
    | _ => s

end Sys2Proof.Machine
end

