-- ==== Sys2Proof/Machine/Bus.lean ====
section
/-! DEFINITION. Machine/Bus.lean: the masters' accesses of register space and of memory: REGISTER_WRITE, HIGH_HALF_WRITE, RC_READ,
RL_READ (R14 to R18, R26 to R32, R36 to R47). -/

namespace Sys2Proof.Machine

/-! The die-to-die link (R27, Table 1.4). -/

/-- Does the access of master `m` to the register at `a` cross the die-to-die link? Blocks FCH, HLD, THM, AON and the Lamp core lie
on the companion die. -/
def crosses (m a : Nat) : Bool := [7, 11, 17, 23].contains ((a - 0x40000000) / 0x200000) != (m == 5)

/-- A transfer that succeeded after a retry; event 455 at most once per frame. -/
def State.linkRetried (s : State) : State :=
  let s := s.count SAF_D2DCNT.RETRIED 1
  if s.saf.d2dEv then s else (s.modSaf fun x => { x with d2dEv := true }).assertEvent 455

/-- An access still failing after 4 retries: cause 0x4, event 456, an error of type 0x0C and its safe reset. -/
def State.linkFailed (m a : Nat) (s : State) : State :=
  ((((s.count SAF_D2DCNT.FAILED 1).accessFault m a causeLink).assertEvent 456).noteError 0x0C 0 3 m).safeReset

/-- The access `f` over the link, which receives it `n` times with a link error. -/
def State.overLink (m a n : Nat) (f : State → State) (s : State) : State :=
  if !crosses m a || n = 0 then f s
  else if n ≤ 4 then f s.linkRetried
  else s.linkFailed m a

/-! Addresses (R29 to R34). -/

/-- Is the address in register space? -/
def inRegs (a : Nat) : Bool := decide (0x40000000 ≤ a) && decide (a < 0x43000000)

/-- Is it in a block's peek alias (R15, R34)? -/
def inPeek (a : Nat) : Bool := decide (0x100000 ≤ a % 0x200000)

/-- A write of `n` bytes of memory (R29 to R32); the ROMs and the secure private range take none. -/
def State.memWrite (m a v n : Nat) (s : State) : State :=
  match s.memFault m a with
  | some c => s.accessFault m a c
  | none => if isSram a then ((s.ungate (sramDomain a)).granted m a).storeBytes m n a (v % 2 ^ (8 * n)) else s

/-- A read of `n` bytes of memory; what the ROMs and the secure private range hold is not given: a free value. -/
def State.memRead (m a n : Nat) (s : State) : State :=
  match s.memFault m a with
  | some c => s.accessFault m a c
  | none =>
    if isSram a then (let s := (s.ungate (sramDomain a)).granted m a; s.returns m (ofBytes (s.bytes a n)))
    else (s.returns m ((Config.freeWord s.free).toNat % 2 ^ (8 * n))).tookFree

/-- May an access of `n` bytes at `a` reach a register (R38)? -/
def regAligned (a n : Nat) : Bool := a % 4 == 0 && n == 4

/-- An access of `n` bytes that reaches nothing: of a master that does not exist (R37), or of the Lamp core to a block without
power (R40). -/
def State.unreached (m a n : Nat) (s : State) : State :=
  if m ≤ 7 && s.lampOff m a then s.faultUnseen m (if regAligned a n then causeDomainOff else causeSize) else s

/-- An access of register space that is not of 32 bits naturally aligned (R38), captured where block SYS has power. -/
def State.sizeFault (m a : Nat) (s : State) : State :=
  if s.ctl.pwrseq = 0xFF then s.accessFault m a causeSize else s.faultUnseen m causeSize

/-- A write of master `m` of `n` bytes (R14, R15, R30 to R32, R38, R40), which the die-to-die link receives `e` times with an error. -/
def State.busWrite (m a v n e : Nat) (s : State) : State :=
  if 7 < m || !s.mayAccess m a then s.unreached m a n
  else if !inRegs a then s.memWrite m a v n
  else if !regAligned a n then s.sizeFault m a
  else if inPeek a then s
  else s.overLink m a e (State.access m a (State.writeWord m a v))

/-! Reads (R14 to R16, R41 to R43). -/

/-- The RC fields of the word at `a` clear; the PEAK of BEL_ACCT starts again from the account. -/
def State.clearRc (a : Nat) (s : State) : State :=
  if a = BEL_ACCT.PEAK.addr then s.setFld BEL_ACCT.PEAK (s.fld BEL_ACCT.ACCOUNT)
  else each (fieldsAt a) (fun e s => if e.2 = .rc then s.setFld e.1 0 else s) s

/-- The RL field of the word at `a`, if it has one there. -/
def rlField (a : Nat) : Option Fld := ((fieldsAt a).find? fun e => e.2 == .rl && e.1.addr == a).map (·.1)

/-- The KDV6032 page's RC words clear (R443). -/
def State.clearLegacy (off : Nat) (s : State) : State :=
  if s.on MEM_CTRL.LEGACY && off < 0x80 then
    s.modMemc fun c =>
      if off % 16 = 4 then { c with legCyc := Tab.set 0 c.legCyc (off / 16) 0 }
      else if off % 16 = 8 then { c with legPar := Tab.set 0 c.legPar (off / 16) 0 }
      else c
  else s

/-- Reading SAF_FADDR lets the next error be captured (R615). -/
def State.afterRl (a : Nat) (s : State) : State :=
  if a = SAF_FADDR.ADDR.addr then s.modSaf fun x => { x with faddrSet := false } else s

/-- A normal-alias read of the word at `a`, whose RL field is `f` if it has one: the pair's low half, else the word and its RC fields. -/
def State.fieldRead (f : Option Fld) (m a : Nat) (s : State) : State :=
  match f with
  | some f => (s.returnPair m a (s.view f)).afterRl a
  | none => (s.returns m (s.peekWord m a)).clearRc a

/-- A normal-alias read of the word at `a` with no effect but those of its access types. -/
def State.plainRead (m a : Nat) (s : State) : State := s.fieldRead (rlField a) m a

/-- A normal-alias read of the word at `a` by master `m`. -/
def State.readWord (m a : Nat) (s : State) : State :=
  let e := (a - 0x41000000) / 0x2000
  let t := (a - 0x41e01000) / 4
  let r := (a - 0x40820000) / 0x10
  if a = CIP_RNG.WORD.addr then s.readRng m
  else if a = ECC_CAND.ENTRY.addr then s.popCand m
  else if a = (EVT_CLAIM.VALID t).addr ∧ t < 6 then s.claim m t
  else if a = TLY_VAL.VALUE.addr then s.readTally m
  else if a = (DRF_PSDATA.WORD e).addr ∧ e < 128 then s.readStore m e
  else if a = (DRF_LMDATA.WORD e).addr ∧ e < 128 then s.windowLocal m e none
  else if a = 0x40820000 + 0x10 * r ∧ r < 512 then s.returnPair m a (s.fn r).ringBase
  else if 0x41a80000 ≤ a ∧ a < 0x41b00000 then (s.returns m (s.peekWord m a)).clearLegacy (a - 0x41a80000)
  else s.plainRead m a

/-- A read of the normal-alias word `low` through its peek alias `a`: no side effect (R15). -/
def State.peekBus (m a low : Nat) (s : State) : State :=
  if s.domainOff (domainOfReg low) then s.accessFault m a causeDomainOff
  else State.access m low (fun s => s.returns m (s.peekWord m low)) s

/-- A read of master `m` of `n` bytes. -/
def State.busRead (m a n e : Nat) (s : State) : State :=
  let low := if inPeek a then a - 0x100000 else a
  if 7 < m || !s.mayAccess m a then s.unreached m a n
  else if !inRegs a then s.memRead m a n
  else if !regAligned a n then s.sizeFault m a
  else if inPeek a then s.overLink m a e (State.peekBus m a low)
  else s.overLink m a e (State.access m a (State.readWord m a))

/-- REGISTER_WRITE (R14, R38): `size` bytes. -/
def registerWrite (m a v size n : Nat) (s : State) : State := s.busWrite m a v size n
def execRegisterWrite (master addr value size linkErrors : Nat) (s : State) : Host.Outcome State Fault Refusal :=
  done (registerWrite master addr value size linkErrors s)

/-- HIGH_HALF_WRITE (R17): a write whose word is the high half of a pair commits it with the master's staged low half. -/
def highHalfWrite (m a v : Nat) (s : State) : State := s.busWrite m a v 4 0
def execHighHalfWrite (master addr value : Nat) (s : State) : Host.Outcome State Fault Refusal := done (highHalfWrite master addr value s)

/-- RC_READ (R38, R41): `size` bytes. -/
def rcRead (m a size n : Nat) (s : State) : State := s.busRead m a size n
def execRcRead (master addr size linkErrors : Nat) (s : State) : Host.Outcome State Fault Refusal := done (rcRead master addr size linkErrors s)

/-- RL_READ (R38, R42): `size` bytes. -/
def rlRead (m a size n : Nat) (s : State) : State := s.busRead m a size n
def execRlRead (master addr size linkErrors : Nat) (s : State) : Host.Outcome State Fault Refusal := done (rlRead master addr size linkErrors s)

end Sys2Proof.Machine
end

