-- ==== Sys2Proof/Machine/Mi.lean ====
section
/-! DEFINITION. Machine/Mi.lean: the NVMe-MI NVMe Admin Command to physical function 0 (18_object_dictionary_network.md R580, R581,
Table 18.10). -/

namespace Sys2Proof.Machine

/-- What Get Features returns to physical function 0: its status, Dword 0 and the data structure of a feature that has one. -/
def State.miFeature (s : State) (nsid fid sel w v : Nat) : Nat × Nat × List Nat :=
  let val := fun (x : Nat) => (stOk, x, ([] : List Nat))
  let no := (stField, 0, ([] : List Nat))
  if !featureIds.contains fid then no
  else if sel = 3 ∧ fid < 0xC0 then val 4
  else match fid with
    | 0x02 => val (s.fld PWR_STAT.PS)
    | 0x07 => val (s.queueCounts 0)
    | 0x0E => (stOk, 0, toBytes (if sel = 1 then 0 else s.featureValue 0 fid w) 8)
    | 0x16 => (stOk, 0, toBytes (if sel = 1 then 0 else s.featureValue 0 fid w) 512)
    | 0x1D => val s.zpm.fdpOn.toNat
    | 0x1E =>
      (match s.fdpHandle { nsid := nsid } w with
       | none => no
       | some k => (stOk, fdpTypes.length, s.fdpTypeList k))
    | 0xC0 => if s.orderField 0 (setBit w 16 false) then val ((s.sq 0 (slice w 0 16)).ordered.toNat * 2 ^ 16) else no
    | 0xC1 => if s.weightField false 0 w v then val (s.fnSetting (slice w 0 9) 5 * 2 ^ 16 + s.fnSetting (slice w 0 9) 6) else no
    | 0xC2 => if s.tailField false 0 w then val ((s.isTail (slice w 0 9)).toNat * 2 ^ 16) else no
    | _ => val (if sel = 1 then featureDefault fid else s.featureValue 0 fid w)

/-- The data of a log page for physical function 0, with its status. -/
def State.miLog (s : State) (i : Instr) : Nat × List Nat :=
  match i with
  | .lostStripesLog _ numd lpo => (stOk, logBytes numd lpo s.lostByte)
  | .tallySnapshotLog _ lsp lsi numd lpo =>
    (match s.snapFor lsp lsi with
     | some x => (stOk, logBytes numd lpo (s.snapByte 0 x))
     | none => (stField, []))
  | .eventRecorderWindowLog _ numd lpo => (stOk, logBytes numd lpo s.recByte)
  | .getLogPage _ nsid lid _ _ _ => s.logData 0 nsid lid
  | _ => (stField, [])

/-- The response to an NVMe Admin Command: its status, Dword 0, and the data; `op` is 256 and the opcode. -/
def State.sendAdmin (o st dw0 : Nat) (data : List Nat) (s : State) : State := s.sendMi (256 + o) 0 ([st, dw0] ++ data)

/-- Dictionary Write over MCTP: a response that waits for its record carries the abort code as the reply's own. -/
def State.miDictWrite (index sub type : Nat) (v : DVal) (s : State) : State :=
  let r := s.dictPut .mctp index sub (type == dictCode index sub) v
  if r.1.hold then r.2.holdAnswer { path := 3, op := 256 + 0xC1, data := [stOk, dictCode index sub * 2 ^ 16] } false
  else r.2.sendAdmin 0xC1 stOk (dictCode index sub * 2 ^ 16 + r.1.abort) []

/-- NVME_ADMIN_COMMAND (R580, R581): Identify, Get Log Page, Get Features, Dictionary Read and Write for physical function 0; any
other admin command is answered as an invalid opcode. -/
def nvmeAdminCommand (sqe : Sqe) (data : List Nat) (s : State) : State :=
  let a := sqeDw sqe 10
  let b := sqeDw sqe 11
  let o := slice (sqeDw sqe 0) 0 8
  if !s.miOn then s
  else if badEntry true sqe then s.sendAdmin o stField 0 []
  else match o with
    | 0x02 =>
      let r := s.miLog (sqeLog sqe)
      let s := s.sendAdmin o r.1 0 r.2
      let lid := slice a 0 8
      if r.1 = stOk ∧ (bit a 15 = false ∨ 0xC0 ≤ lid) then s.readLog 0 (sqeDw sqe 1) lid else s
    | 0x06 =>
      let r := s.identifyData 0 (sqeDw sqe 1) (slice a 0 8) (slice a 16 16) (slice b 24 8)
      s.sendAdmin o r.1 0 r.2
    | 0x0A =>
      let r := s.miFeature (sqeDw sqe 1) (slice a 0 8) (slice a 8 3) b (sqeDw sqe 12)
      (s.sendAdmin o r.1 r.2.1 r.2.2).tookFree
    | 0xC0 =>
      let c := s.dictReadCheck .mctp (slice a 8 16) (slice a 0 8)
      let l := if c = abOk then s.dictWire (slice a 8 16) (slice a 0 8) else []
      s.sendAdmin o stOk (dictCode (slice a 8 16) (slice a 0 8) * 2 ^ 16 + c) (l.length :: l.take (slice b 0 13))
    | 0xC1 => s.miDictWrite (slice a 8 16) (slice a 0 8) (slice b 16 8) (wireValue (slice a 8 16) (slice a 0 8) (data.take (slice b 0 13)))
    | _ => s.sendMi (256 + o) miOpcode []
def execNvmeAdminCommand (sqe : Sqe) (data : List Nat) (s : State) : Host.Outcome State Fault Refusal :=
  done (nvmeAdminCommand sqe data s)

end Sys2Proof.Machine
end

