-- ==== Sys2Proof/Machine/NvmeAdmin.lean ====
section
/-! DEFINITION. Machine/NvmeAdmin.lean: the admin commands (04_command_queueing.md, 05_function_sharing.md, 16, 17, 18). A row is
the admission of the next entry in ticket order, of an admin queue, which holds that command; its effect is `State.runAdmin` at its
dispatch, at once when nothing else may be dispatched (log entry 8). -/

namespace Sys2Proof.Machine

/-- IDENTIFY (R188). -/
def identify (cid nsid cns cntid csi : Nat) (s : State) : State := s.admitAdmin (.identify cid nsid cns cntid csi) 0x6 cid nsid 4096
def execIdentify (cid nsid cns cntid csi : Nat) (s : State) : Host.Outcome State Fault Refusal := done (identify cid nsid cns cntid csi s)

/-- GET_LOG_PAGE (R154, R507). -/
def getLogPage (cid nsid lid numd lpo : Nat) (rae : Bool) (s : State) : State := s.admitAdmin (.getLogPage cid nsid lid numd lpo rae) 0x2 cid nsid ((numd + 1) * 4)
def execGetLogPage (cid nsid lid numd lpo : Nat) (rae : Bool) (s : State) : Host.Outcome State Fault Refusal := done (getLogPage cid nsid lid numd lpo rae s)

/-- LOST_STRIPES_LOG (R396). -/
def lostStripesLog (cid numd lpo : Nat) (s : State) : State := s.admitAdmin (.lostStripesLog cid numd lpo) 0x2 cid 0 ((numd + 1) * 4)
def execLostStripesLog (cid numd lpo : Nat) (s : State) : Host.Outcome State Fault Refusal := done (lostStripesLog cid numd lpo s)

/-- TALLY_SNAPSHOT_LOG (R589). -/
def tallySnapshotLog (cid lsp lsi numd lpo : Nat) (s : State) : State := s.admitAdmin (.tallySnapshotLog cid lsp lsi numd lpo) 0x2 cid 0 ((numd + 1) * 4)
def execTallySnapshotLog (cid lsp lsi numd lpo : Nat) (s : State) : Host.Outcome State Fault Refusal := done (tallySnapshotLog cid lsp lsi numd lpo s)

/-- EVENT_RECORDER_WINDOW_LOG (R603). -/
def eventRecorderWindowLog (cid numd lpo : Nat) (s : State) : State := s.admitAdmin (.eventRecorderWindowLog cid numd lpo) 0x2 cid 0 ((numd + 1) * 4)
def execEventRecorderWindowLog (cid numd lpo : Nat) (s : State) : Host.Outcome State Fault Refusal := done (eventRecorderWindowLog cid numd lpo s)

/-- CREATE_IO_SUBMISSION_QUEUE (R116, R118, R136). -/
def createIoSubmissionQueue (cid qid qsize cqid prio : Nat) (s : State) : State := s.admitAdmin (.createIoSubmissionQueue cid qid qsize cqid prio) 0x1 cid 0 0
def execCreateIoSubmissionQueue (cid qid qsize cqid prio : Nat) (s : State) : Host.Outcome State Fault Refusal := done (createIoSubmissionQueue cid qid qsize cqid prio s)

/-- CREATE_IO_COMPLETION_QUEUE (R116, R118). -/
def createIoCompletionQueue (cid qid qsize vec : Nat) (ien : Bool) (s : State) : State := s.admitAdmin (.createIoCompletionQueue cid qid qsize vec ien) 0x5 cid 0 0
def execCreateIoCompletionQueue (cid qid qsize vec : Nat) (ien : Bool) (s : State) : Host.Outcome State Fault Refusal := done (createIoCompletionQueue cid qid qsize vec ien s)

/-- DELETE_IO_SUBMISSION_QUEUE (R136). -/
def deleteIoSubmissionQueue (cid qid : Nat) (s : State) : State := s.admitAdmin (.deleteIoSubmissionQueue cid qid) 0x0 cid 0 0
def execDeleteIoSubmissionQueue (cid qid : Nat) (s : State) : Host.Outcome State Fault Refusal := done (deleteIoSubmissionQueue cid qid s)

/-- DELETE_IO_COMPLETION_QUEUE (R154). -/
def deleteIoCompletionQueue (cid qid : Nat) (s : State) : State := s.admitAdmin (.deleteIoCompletionQueue cid qid) 0x4 cid 0 0
def execDeleteIoCompletionQueue (cid qid : Nat) (s : State) : Host.Outcome State Fault Refusal := done (deleteIoCompletionQueue cid qid s)

/-- SET_FEATURES (R154). -/
def setFeatures (cid fid value : Nat) (sv : Bool) (nsid cdw12 : Nat) (data : List Nat) (s : State) : State := s.admitAdmin (.setFeatures cid fid value sv nsid cdw12 data) 0x9 cid nsid 0
def execSetFeatures (cid fid value : Nat) (sv : Bool) (nsid cdw12 : Nat) (data : List Nat) (s : State) : Host.Outcome State Fault Refusal := done (setFeatures cid fid value sv nsid cdw12 data s)

/-- GET_FEATURES (R154). -/
def getFeatures (cid fid sel cdw11 nsid : Nat) (s : State) : State := s.admitAdmin (.getFeatures cid fid sel cdw11 nsid) 0xa cid nsid 0
def execGetFeatures (cid fid sel cdw11 nsid : Nat) (s : State) : Host.Outcome State Fault Refusal := done (getFeatures cid fid sel cdw11 nsid s)

/-- SET_NUMBER_OF_QUEUES (R116). -/
def setNumberOfQueues (cid nsqr ncqr : Nat) (s : State) : State := s.admitAdmin (.setNumberOfQueues cid nsqr ncqr) 0x9 cid 0 0
def execSetNumberOfQueues (cid nsqr ncqr : Nat) (s : State) : Host.Outcome State Fault Refusal := done (setNumberOfQueues cid nsqr ncqr s)

/-- SET_POWER_MANAGEMENT (R523, R524). -/
def setPowerManagement (cid ps : Nat) (s : State) : State := s.admitAdmin (.setPowerManagement cid ps) 0x9 cid 0 0
def execSetPowerManagement (cid ps : Nat) (s : State) : Host.Outcome State Fault Refusal := done (setPowerManagement cid ps s)

/-- SET_QUEUE_ORDERING (R133, R134). -/
def setQueueOrdering (cid cdw11 : Nat) (sv : Bool) (s : State) : State := s.admitAdmin (.setQueueOrdering cid cdw11 sv) 0x9 cid 0 0
def execSetQueueOrdering (cid cdw11 : Nat) (sv : Bool) (s : State) : Host.Outcome State Fault Refusal := done (setQueueOrdering cid cdw11 sv s)

/-- GET_QUEUE_ORDERING (R133). -/
def getQueueOrdering (cid cdw11 : Nat) (s : State) : State := s.admitAdmin (.getQueueOrdering cid cdw11) 0xa cid 0 0
def execGetQueueOrdering (cid cdw11 : Nat) (s : State) : Host.Outcome State Fault Refusal := done (getQueueOrdering cid cdw11 s)

/-- SET_FUNCTION_WEIGHTS (R163, R164). -/
def setFunctionWeights (cid cdw11 cdw12 : Nat) (s : State) : State := s.admitAdmin (.setFunctionWeights cid cdw11 cdw12) 0x9 cid 0 0
def execSetFunctionWeights (cid cdw11 cdw12 : Nat) (s : State) : Host.Outcome State Fault Refusal := done (setFunctionWeights cid cdw11 cdw12 s)

/-- GET_FUNCTION_WEIGHTS (R163, R164). -/
def getFunctionWeights (cid cdw11 cdw12 : Nat) (s : State) : State := s.admitAdmin (.getFunctionWeights cid cdw11 cdw12) 0xa cid 0 0
def execGetFunctionWeights (cid cdw11 cdw12 : Nat) (s : State) : Host.Outcome State Fault Refusal := done (getFunctionWeights cid cdw11 cdw12 s)

/-- SET_TAIL_CLASS (R163 to R166, R205, R206). -/
def setTailClass (cid cdw11 : Nat) (s : State) : State := s.admitAdmin (.setTailClass cid cdw11) 0x9 cid 0 0
def execSetTailClass (cid cdw11 : Nat) (s : State) : Host.Outcome State Fault Refusal := done (setTailClass cid cdw11 s)

/-- GET_TAIL_CLASS (R163, R164). -/
def getTailClass (cid cdw11 : Nat) (s : State) : State := s.admitAdmin (.getTailClass cid cdw11) 0xa cid 0 0
def execGetTailClass (cid cdw11 : Nat) (s : State) : Host.Outcome State Fault Refusal := done (getTailClass cid cdw11 s)

/-- SET_FDP (R207, R208). -/
def setFdp (cid endgid : Nat) (enable : Bool) (s : State) : State := s.admitAdmin (.setFdp cid endgid enable) 0x9 cid 0 0
def execSetFdp (cid endgid : Nat) (enable : Bool) (s : State) : Host.Outcome State Fault Refusal := done (setFdp cid endgid enable s)

/-- ABORT (R150). -/
def abort (cid sqid target : Nat) (s : State) : State := s.admitAdmin (.abort cid sqid target) 0x8 cid 0 0
def execAbort (cid sqid target : Nat) (s : State) : Host.Outcome State Fault Refusal := done (abort cid sqid target s)

/-- ASYNCHRONOUS_EVENT_REQUEST (R507). -/
def asynchronousEventRequest (cid : Nat) (s : State) : State := s.admitAdmin (.asynchronousEventRequest cid) 0xc cid 0 0
def execAsynchronousEventRequest (cid : Nat) (s : State) : Host.Outcome State Fault Refusal := done (asynchronousEventRequest cid s)

/-- NAMESPACE_CREATE (R185 to R187, R211, R234, R472). -/
def namespaceCreate (cid : Nat) (spec : NsSpec) (s : State) : State := s.admitAdmin (.namespaceCreate cid spec) 0xd cid 0 4096
def execNamespaceCreate (cid : Nat) (spec : NsSpec) (s : State) : Host.Outcome State Fault Refusal := done (namespaceCreate cid spec s)

/-- NAMESPACE_DELETE (R186, R204, R211). -/
def namespaceDelete (cid nsid : Nat) (s : State) : State := s.admitAdmin (.namespaceDelete cid nsid) 0xd cid nsid 0
def execNamespaceDelete (cid nsid : Nat) (s : State) : Host.Outcome State Fault Refusal := done (namespaceDelete cid nsid s)

/-- NAMESPACE_ATTACHMENT (R205, R206). -/
def namespaceAttachment (cid nsid : Nat) (attach : Bool) (ctrls : List Nat) (s : State) : State := s.admitAdmin (.namespaceAttachment cid nsid attach ctrls) 0x15 cid nsid 4096
def execNamespaceAttachment (cid nsid : Nat) (attach : Bool) (ctrls : List Nat) (s : State) : Host.Outcome State Fault Refusal := done (namespaceAttachment cid nsid attach ctrls s)

/-- FORMAT_NVM (R367, R473). -/
def formatNvm (cid nsid lbaf ses pi pil : Nat) (s : State) : State := s.admitAdmin (.formatNvm cid nsid lbaf ses pi pil) 0x80 cid nsid 0
def execFormatNvm (cid nsid lbaf ses pi pil : Nat) (s : State) : Host.Outcome State Fault Refusal := done (formatNvm cid nsid lbaf ses pi pil s)

/-- FIRMWARE_IMAGE_DOWNLOAD (R154). -/
def firmwareImageDownload (cid numd ofst : Nat) (data : List Nat) (s : State) : State := s.admitAdmin (.firmwareImageDownload cid numd ofst data) 0x11 cid 0 ((numd + 1) * 4)
def execFirmwareImageDownload (cid numd ofst : Nat) (data : List Nat) (s : State) : Host.Outcome State Fault Refusal := done (firmwareImageDownload cid numd ofst data s)

/-- FIRMWARE_COMMIT (R154). -/
def firmwareCommit (cid slot action : Nat) (s : State) : State := s.admitAdmin (.firmwareCommit cid slot action) 0x10 cid 0 0
def execFirmwareCommit (cid slot action : Nat) (s : State) : Host.Outcome State Fault Refusal := done (firmwareCommit cid slot action s)

/-- DEVICE_SELF_TEST (R154). -/
def deviceSelfTest (cid nsid stc : Nat) (s : State) : State := s.admitAdmin (.deviceSelfTest cid nsid stc) 0x14 cid nsid 0
def execDeviceSelfTest (cid nsid stc : Nat) (s : State) : Host.Outcome State Fault Refusal := done (deviceSelfTest cid nsid stc s)

/-- SANITIZE_BLOCK_ERASE (R154). -/
def sanitizeBlockErase (cid : Nat) (s : State) : State := s.admitAdmin (.sanitizeBlockErase cid) 0x84 cid 0 0
def execSanitizeBlockErase (cid : Nat) (s : State) : Host.Outcome State Fault Refusal := done (sanitizeBlockErase cid s)

/-- SANITIZE_CRYPTO_ERASE (R473). -/
def sanitizeCryptoErase (cid : Nat) (s : State) : State := s.admitAdmin (.sanitizeCryptoErase cid) 0x84 cid 0 0
def execSanitizeCryptoErase (cid : Nat) (s : State) : Host.Outcome State Fault Refusal := done (sanitizeCryptoErase cid s)

/-- NVME_MI_SEND (R154, R581). -/
def nvmeMiSend (cid : Nat) (req : List Nat) (s : State) : State := s.admitAdmin (.nvmeMiSend cid req) 0x1d cid 0 4096
def execNvmeMiSend (cid : Nat) (req : List Nat) (s : State) : Host.Outcome State Fault Refusal := done (nvmeMiSend cid req s)

/-- NVME_MI_RECEIVE (R154, R581). -/
def nvmeMiReceive (cid : Nat) (s : State) : State := s.admitAdmin (.nvmeMiReceive cid) 0x1e cid 0 4096
def execNvmeMiReceive (cid : Nat) (s : State) : Host.Outcome State Fault Refusal := done (nvmeMiReceive cid s)

/-- DICTIONARY_READ (R579). -/
def dictionaryRead (cid index sub len : Nat) (s : State) : State := s.admitAdmin (.dictionaryRead cid index sub len) 0xc0 cid 0 4096
def execDictionaryRead (cid index sub len : Nat) (s : State) : Host.Outcome State Fault Refusal := done (dictionaryRead cid index sub len s)

/-- DICTIONARY_WRITE (R579). -/
def dictionaryWrite (cid index sub type : Nat) (value : DVal) (s : State) : State := s.admitAdmin (.dictionaryWrite cid index sub type value) 0xc1 cid 0 4096
def execDictionaryWrite (cid index sub type : Nat) (value : DVal) (s : State) : Host.Outcome State Fault Refusal := done (dictionaryWrite cid index sub type value s)

end Sys2Proof.Machine
end

