-- ==== Sys2Proof/Machine/NvmeIo.lean ====
section
/-! DEFINITION. Machine/NvmeIo.lean: the I/O commands (04_command_queueing.md, 06_zones_placement.md). A row is the admission of
the next entry in ticket order, which holds that command; when nothing else may be dispatched it is dispatched at once, and what
is due completes (log entry 8). Without such an entry nothing happens. -/

namespace Sys2Proof.Machine

/-- READ (R126, R196): the next entry is this command. -/
def read (cid nsid slba nlb : Nat) (pr : Pr) (s : State) : State := s.admitReadCmd (.read cid nsid slba nlb pr) .read cid nsid slba nlb
def execRead (cid nsid slba nlb : Nat) (pr : Pr) (s : State) : Host.Outcome State Fault Refusal := done (read cid nsid slba nlb pr s)

/-- WRITE (R127, R192, R209). -/
def write (cid nsid slba nlb : Nat) (pr : Pr) (dspec : Nat) (s : State) : State := s.admitPieceCmd (.write cid nsid slba nlb pr dspec) .write cid nsid slba nlb dspec
def execWrite (cid nsid slba nlb : Nat) (pr : Pr) (dspec : Nat) (s : State) : Host.Outcome State Fault Refusal := done (write cid nsid slba nlb pr dspec s)

/-- WRITE_ZEROES (R139). -/
def writeZeroes (cid nsid slba nlb : Nat) (pr : Pr) (s : State) : State := s.admitPieceCmd (.writeZeroes cid nsid slba nlb pr) .writeZeroes cid nsid slba nlb 0
def execWriteZeroes (cid nsid slba nlb : Nat) (pr : Pr) (s : State) : Host.Outcome State Fault Refusal := done (writeZeroes cid nsid slba nlb pr s)

/-- FLUSH (R128). -/
def flush (cid nsid : Nat) (s : State) : State := s.admitFlush (.flush cid nsid) cid nsid
def execFlush (cid nsid : Nat) (s : State) : Host.Outcome State Fault Refusal := done (flush cid nsid s)

/-- VERIFY (R159). -/
def verify (cid nsid slba nlb : Nat) (pr : Pr) (s : State) : State := s.admitReadCmd (.verify cid nsid slba nlb pr) .verify cid nsid slba nlb
def execVerify (cid nsid slba nlb : Nat) (pr : Pr) (s : State) : Host.Outcome State Fault Refusal := done (verify cid nsid slba nlb pr s)

/-- ORDER_FENCE (R137, R138). -/
def orderFence (cid : Nat) (cdw10to15 : List Nat) (s : State) : State := s.admitFence (.orderFence cid cdw10to15) cid cdw10to15
def execOrderFence (cid : Nat) (cdw10to15 : List Nat) (s : State) : Host.Outcome State Fault Refusal := done (orderFence cid cdw10to15 s)

/-- ZONE_APPEND (R125, R199). -/
def zoneAppend (cid nsid zslba nlb : Nat) (pr : Pr) (s : State) : State := s.admitPieceCmd (.zoneAppend cid nsid zslba nlb pr) .append cid nsid zslba nlb 0
def execZoneAppend (cid nsid zslba nlb : Nat) (pr : Pr) (s : State) : Host.Outcome State Fault Refusal := done (zoneAppend cid nsid zslba nlb pr s)

/-- DATASET_MANAGEMENT (R233). -/
def datasetManagement (cid nsid : Nat) (deallocate : Bool) (ranges : List (Nat × Nat)) (s : State) : State := s.admitDsm (.datasetManagement cid nsid deallocate ranges) cid nsid deallocate ranges
def execDatasetManagement (cid nsid : Nat) (deallocate : Bool) (ranges : List (Nat × Nat)) (s : State) : Host.Outcome State Fault Refusal := done (datasetManagement cid nsid deallocate ranges s)

/-- IO_MANAGEMENT_SEND (R210): Reclaim Unit Handle Update. -/
def ioManagementSend (cid nsid mo : Nat) (pids : List Nat) (s : State) : State := s.admitIoSend (.ioManagementSend cid nsid mo pids) cid nsid mo pids
def execIoManagementSend (cid nsid mo : Nat) (pids : List Nat) (s : State) : Host.Outcome State Fault Refusal := done (ioManagementSend cid nsid mo pids s)

/-- IO_MANAGEMENT_RECEIVE (R211): Reclaim Unit Handle Status. -/
def ioManagementReceive (cid nsid mo : Nat) (s : State) : State := s.admitIoReceive (.ioManagementReceive cid nsid mo) cid nsid mo
def execIoManagementReceive (cid nsid mo : Nat) (s : State) : Host.Outcome State Fault Refusal := done (ioManagementReceive cid nsid mo s)

/-- ZONE_OPEN (R191, R193, R194, R201). -/
def zoneOpen (cid nsid slba : Nat) (all : Bool) (s : State) : State := s.admitZone (.zoneOpen cid nsid slba all) .zoneOpen cid nsid slba all
def execZoneOpen (cid nsid slba : Nat) (all : Bool) (s : State) : Host.Outcome State Fault Refusal := done (zoneOpen cid nsid slba all s)

/-- ZONE_CLOSE (R191, R194, R201). -/
def zoneClose (cid nsid slba : Nat) (all : Bool) (s : State) : State := s.admitZone (.zoneClose cid nsid slba all) .zoneClose cid nsid slba all
def execZoneClose (cid nsid slba : Nat) (all : Bool) (s : State) : Host.Outcome State Fault Refusal := done (zoneClose cid nsid slba all s)

/-- ZONE_FINISH (R191, R194, R201). -/
def zoneFinish (cid nsid slba : Nat) (all : Bool) (s : State) : State := s.admitZone (.zoneFinish cid nsid slba all) .zoneFinish cid nsid slba all
def execZoneFinish (cid nsid slba : Nat) (all : Bool) (s : State) : Host.Outcome State Fault Refusal := done (zoneFinish cid nsid slba all s)

/-- ZONE_RESET (R191, R194, R201, R204). -/
def zoneReset (cid nsid slba : Nat) (all : Bool) (s : State) : State := s.admitZone (.zoneReset cid nsid slba all) .zoneReset cid nsid slba all
def execZoneReset (cid nsid slba : Nat) (all : Bool) (s : State) : Host.Outcome State Fault Refusal := done (zoneReset cid nsid slba all s)

/-- ZONE_OFFLINE (R191, R194, R201). -/
def zoneOffline (cid nsid slba : Nat) (all : Bool) (s : State) : State := s.admitZone (.zoneOffline cid nsid slba all) .zoneOffline cid nsid slba all
def execZoneOffline (cid nsid slba : Nat) (all : Bool) (s : State) : Host.Outcome State Fault Refusal := done (zoneOffline cid nsid slba all s)

/-- ZONE_MANAGEMENT_RECEIVE (R195). -/
def zoneManagementReceive (cid nsid slba zra zrasf numd : Nat) (partialReport : Bool) (s : State) : State := s.admitReceive (.zoneManagementReceive cid nsid slba zra zrasf numd partialReport) cid nsid slba zra zrasf numd partialReport
def execZoneManagementReceive (cid nsid slba zra zrasf numd : Nat) (partialReport : Bool) (s : State) : Host.Outcome State Fault Refusal := done (zoneManagementReceive cid nsid slba zra zrasf numd partialReport s)

end Sys2Proof.Machine
end

