-- ==== Sys2Proof/Machine/Pipeline.lean ====
section
/-! DEFINITION. Machine/Pipeline.lean: what carries every NVMe command on: the admission of an entry as it was fetched, dispatch,
the data of pieces, their dispatch to media and their commit (R123, R129, R139, R141, R203, R362). -/

namespace Sys2Proof.Machine

/-- The admission of an entry that holds this command. -/
def admitInstr (i : Instr) (s : State) : State :=
  match i with
  | .read cid nsid slba nlb pr => read cid nsid slba nlb pr s
  | .write cid nsid slba nlb pr dspec => write cid nsid slba nlb pr dspec s
  | .writeZeroes cid nsid slba nlb pr => writeZeroes cid nsid slba nlb pr s
  | .flush cid nsid => flush cid nsid s
  | .verify cid nsid slba nlb pr => verify cid nsid slba nlb pr s
  | .orderFence cid cdw10to15 => orderFence cid cdw10to15 s
  | .zoneAppend cid nsid zslba nlb pr => zoneAppend cid nsid zslba nlb pr s
  | .datasetManagement cid nsid deallocate ranges => datasetManagement cid nsid deallocate ranges s
  | .ioManagementSend cid nsid mo pids => ioManagementSend cid nsid mo pids s
  | .ioManagementReceive cid nsid mo => ioManagementReceive cid nsid mo s
  | .zoneOpen cid nsid slba all => zoneOpen cid nsid slba all s
  | .zoneClose cid nsid slba all => zoneClose cid nsid slba all s
  | .zoneFinish cid nsid slba all => zoneFinish cid nsid slba all s
  | .zoneReset cid nsid slba all => zoneReset cid nsid slba all s
  | .zoneOffline cid nsid slba all => zoneOffline cid nsid slba all s
  | .zoneManagementReceive cid nsid slba zra zrasf numd partialReport => zoneManagementReceive cid nsid slba zra zrasf numd partialReport s
  | .identify cid nsid cns cntid csi => identify cid nsid cns cntid csi s
  | .getLogPage cid nsid lid numd lpo rae => getLogPage cid nsid lid numd lpo rae s
  | .lostStripesLog cid numd lpo => lostStripesLog cid numd lpo s
  | .tallySnapshotLog cid lsp lsi numd lpo => tallySnapshotLog cid lsp lsi numd lpo s
  | .eventRecorderWindowLog cid numd lpo => eventRecorderWindowLog cid numd lpo s
  | .createIoSubmissionQueue cid qid qsize cqid prio => createIoSubmissionQueue cid qid qsize cqid prio s
  | .createIoCompletionQueue cid qid qsize vec ien => createIoCompletionQueue cid qid qsize vec ien s
  | .deleteIoSubmissionQueue cid qid => deleteIoSubmissionQueue cid qid s
  | .deleteIoCompletionQueue cid qid => deleteIoCompletionQueue cid qid s
  | .setFeatures cid fid value sv nsid w data => setFeatures cid fid value sv nsid w data s
  | .getFeatures cid fid sel w nsid => getFeatures cid fid sel w nsid s
  | .setNumberOfQueues cid nsqr ncqr => setNumberOfQueues cid nsqr ncqr s
  | .setPowerManagement cid ps => setPowerManagement cid ps s
  | .setQueueOrdering cid cdw11 sv => setQueueOrdering cid cdw11 sv s
  | .getQueueOrdering cid cdw11 => getQueueOrdering cid cdw11 s
  | .setFunctionWeights cid cdw11 cdw12 => setFunctionWeights cid cdw11 cdw12 s
  | .getFunctionWeights cid cdw11 cdw12 => getFunctionWeights cid cdw11 cdw12 s
  | .setTailClass cid cdw11 => setTailClass cid cdw11 s
  | .getTailClass cid cdw11 => getTailClass cid cdw11 s
  | .setFdp cid endgid enable => setFdp cid endgid enable s
  | .abort cid sqid target => abort cid sqid target s
  | .asynchronousEventRequest cid => asynchronousEventRequest cid s
  | .namespaceCreate cid spec => namespaceCreate cid spec s
  | .namespaceDelete cid nsid => namespaceDelete cid nsid s
  | .namespaceAttachment cid nsid attach ctrls => namespaceAttachment cid nsid attach ctrls s
  | .formatNvm cid nsid lbaf ses pi pil => formatNvm cid nsid lbaf ses pi pil s
  | .firmwareImageDownload cid numd ofst data => firmwareImageDownload cid numd ofst data s
  | .firmwareCommit cid slot action => firmwareCommit cid slot action s
  | .deviceSelfTest cid nsid stc => deviceSelfTest cid nsid stc s
  | .sanitizeBlockErase cid => sanitizeBlockErase cid s
  | .sanitizeCryptoErase cid => sanitizeCryptoErase cid s
  | .nvmeMiSend cid req => nvmeMiSend cid req s
  | .nvmeMiReceive cid => nvmeMiReceive cid s
  | .dictionaryRead cid index sub len => dictionaryRead cid index sub len s
  | .dictionaryWrite cid index sub type value => dictionaryWrite cid index sub type value s
  | _ => s

/-- The next entry is admitted and fails at once. -/
def State.admitFail (admin : Bool) (opcode cid st : Nat) (s : State) : State :=
  match s.nextTicket admin with
  | none => s
  | some t => ((s.takeEntry t { cid := cid, op := .admin opcode }).outcome t.ticket st).afterAdmit t.ticket

/-- ADMISSION (R123, R125, R154): the next ticketed entry is fetched as `sqe`, on whichever queue its ticket names. -/
def admission (sqe : Sqe) (s : State) : State :=
  match s.hfe.tickets with
  | [] => s
  | t :: _ =>
    let admin := t.sqid == 0
    let o := slice (sqeDw sqe 0) 0 8
    let cid := slice (sqeDw sqe 0) 16 16
    if badEntry admin sqe then s.admitFail admin o cid stField
    else match badPointer admin sqe with
    | some st => s.admitFail admin o cid st
    | none =>
      match (if admin then s.adminEntry sqe else s.ioEntry sqe) with
      | some i => (admitInstr i s).modFree (· + 2 ^ 33)
      | none => s.admitFail admin o cid (if (if admin then adminOpcodes else ioOpcodes).contains o then stField else stOpcode)
def execAdmission (sqe : Sqe) (s : State) : Host.Outcome State Fault Refusal := done (admission sqe s)

/-- COMMAND_DISPATCH (R129 to R131, R138, R161). -/
def commandDispatch (s : State) : State := s.settle.dispatchNext
def execCommandDispatch (s : State) : Host.Outcome State Fault Refusal := done (commandDispatch s)

/-- A piece that can still be worked on: of a dispatched command whose outcome is open. -/
def State.openPiece (s : State) (ticket k : Nat) : Option (Cmd × Piece) :=
  match s.cmd ticket with
  | none => none
  | some c => if !c.dispatched || c.status.isSome || s.hfe.stopped then none else (c.pieces[k]?).map fun p => (c, p)

/-- The reads of a host transfer of a piece of `n` blocks: requests of the function's Max Read Request Size, at most 768 of them outstanding
(R101). -/
def State.noteRequests (c : Cmd) (n : Nat) (s : State) : State :=
  s.modPort (s.portOf c.fn) fun x => { x with npOut := min 768 (ceilDiv (n * 2 ^ s.bshift c.nsid) (max 128 (s.fn c.fn).mrrs)) }

/-- HOST_DATA_FETCH (R141, R362 to R369, R377, R482): the data of a piece comes, once its tubs are granted; a piece of
a Write Zeroes takes nothing from the host. -/
def hostDataFetch (ticket index : Nat) (data piTags : List Nat) (fail : FetchFail) (s : State) : State :=
  match s.openPiece ticket index with
  | none => s
  | some (c, p) =>
    if c.op = .writeZeroes then s.zeroPiece c index p
    else if p.fetched || !s.on TUB_CTRL.EN then s
    else
      let s := s.askChain c index p
      match (s.openPiece ticket index).bind fun x => s.pieceChain x.1 index x.2 with
      | none => s
      | some s => ((s.fetchPiece c index p data piTags fail).noteRequests c p.n).settle
def execHostDataFetch (ticket index : Nat) (data piTags : List Nat) (fail : FetchFail) (s : State) : Host.Outcome State Fault Refusal :=
  done (hostDataFetch ticket index data piTags fail s)

/-- PIECE_DISPATCH (R203, R210, R241); a piece of a Write Zeroes fills its tubs (R141). -/
def pieceDispatch (ticket index : Nat) (s : State) : State :=
  match s.openPiece ticket index with
  | none => s
  | some (c, p) => (if p.placed then s else s.placePiece c index).zeroPiece c index p
def execPieceDispatch (ticket index : Nat) (s : State) : Host.Outcome State Fault Refusal := done (pieceDispatch ticket index s)

/-- PIECE_COMMIT (R127, R135, R139, R141, R407). -/
def pieceCommit (ticket index : Nat) (s : State) : State :=
  match s.cmd ticket with
  | none => s
  | some c => if s.mayCommit c index then (s.commitPiece c index).settle else s
def execPieceCommit (ticket index : Nat) (s : State) : Host.Outcome State Fault Refusal := done (pieceCommit ticket index s)

end Sys2Proof.Machine
end

