-- ==== Sys2Proof/Machine/Dispatch.lean ====
section
/-! DEFINITION. Machine/Dispatch.lean: one arm per command, a direct call of its meaning. -/

namespace Sys2Proof.Machine

def exec (i : Instr) (s : State) : Host.Outcome State Fault Refusal :=
  match i with
  | .registerWrite master addr value size linkErrors => Sys2Proof.Machine.execRegisterWrite master addr value size linkErrors s
  | .highHalfWrite master addr value => Sys2Proof.Machine.execHighHalfWrite master addr value s
  | .rcRead master addr size linkErrors => Sys2Proof.Machine.execRcRead master addr size linkErrors s
  | .rlRead master addr size linkErrors => Sys2Proof.Machine.execRlRead master addr size linkErrors s
  | .amo master op wide addr value => Sys2Proof.Machine.execAmo master op wide addr value s
  | .lr master wide addr => Sys2Proof.Machine.execLr master wide addr s
  | .sc master wide addr value => Sys2Proof.Machine.execSc master wide addr value s
  | .shbellPulse widthNs offsetNs => Sys2Proof.Machine.execShbellPulse widthNs offsetNs s
  | .plcaBeacon offsetNs => Sys2Proof.Machine.execPlcaBeacon offsetNs s
  | .slotWindowClose => Sys2Proof.Machine.execSlotWindowClose s
  | .slotBoundary temps => Sys2Proof.Machine.execSlotBoundary temps s
  | .frameStart => Sys2Proof.Machine.execFrameStart s
  | .belCtrlWrite master value => Sys2Proof.Machine.execBelCtrlWrite master value s
  | .belBudgetWrite master value => Sys2Proof.Machine.execBelBudgetWrite master value s
  | .modeCommitRequest master value => Sys2Proof.Machine.execModeCommitRequest master value s
  | .unitEpochReport unit => Sys2Proof.Machine.execUnitEpochReport unit s
  | .powerupLockWaitExpire => Sys2Proof.Machine.execPowerupLockWaitExpire s
  | .perstDeassert port bifur sris => Sys2Proof.Machine.execPerstDeassert port bifur sris s
  | .perstAssert port => Sys2Proof.Machine.execPerstAssert port s
  | .hotReset port => Sys2Proof.Machine.execHotReset port s
  | .linkDisable port => Sys2Proof.Machine.execLinkDisable port s
  | .linkLoss port => Sys2Proof.Machine.execLinkLoss port s
  | .flitCrcFail port corrected => Sys2Proof.Machine.execFlitCrcFail port corrected s
  | .l0pRequest port width => Sys2Proof.Machine.execL0pRequest port width s
  | .l0pWidthWrite master value => Sys2Proof.Machine.execL0pWidthWrite master value s
  | .cfgReadySet master value => Sys2Proof.Machine.execCfgReadySet master value s
  | .cfgReadyTimeout port => Sys2Proof.Machine.execCfgReadyTimeout port s
  | .configurationRequest port fn req => Sys2Proof.Machine.execConfigurationRequest port fn req s
  | .atsInvalidation port addr => Sys2Proof.Machine.execAtsInvalidation port addr s
  | .functionLevelReset fn => Sys2Proof.Machine.execFunctionLevelReset fn s
  | .vfEnableClear port => Sys2Proof.Machine.execVfEnableClear port s
  | .controllerEnable fn ams => Sys2Proof.Machine.execControllerEnable fn ams s
  | .controllerReset fn => Sys2Proof.Machine.execControllerReset fn s
  | .sqTailDoorbell fn qid tail => Sys2Proof.Machine.execSqTailDoorbell fn qid tail s
  | .cqHeadDoorbell fn qid head => Sys2Proof.Machine.execCqHeadDoorbell fn qid head s
  | .deferredDoorbellObserve => Sys2Proof.Machine.execDeferredDoorbellObserve s
  | .admission sqe => Sys2Proof.Machine.execAdmission sqe s
  | .commandDispatch => Sys2Proof.Machine.execCommandDispatch s
  | .hostDataFetch ticket index data piTags fail => Sys2Proof.Machine.execHostDataFetch ticket index data piTags fail s
  | .pieceDispatch ticket index => Sys2Proof.Machine.execPieceDispatch ticket index s
  | .pieceCommit ticket index => Sys2Proof.Machine.execPieceCommit ticket index s
  | .read cid nsid slba nlb pr => Sys2Proof.Machine.execRead cid nsid slba nlb pr s
  | .write cid nsid slba nlb pr dspec => Sys2Proof.Machine.execWrite cid nsid slba nlb pr dspec s
  | .writeZeroes cid nsid slba nlb pr => Sys2Proof.Machine.execWriteZeroes cid nsid slba nlb pr s
  | .flush cid nsid => Sys2Proof.Machine.execFlush cid nsid s
  | .verify cid nsid slba nlb pr => Sys2Proof.Machine.execVerify cid nsid slba nlb pr s
  | .orderFence cid cdw10to15 => Sys2Proof.Machine.execOrderFence cid cdw10to15 s
  | .zoneAppend cid nsid zslba nlb pr => Sys2Proof.Machine.execZoneAppend cid nsid zslba nlb pr s
  | .datasetManagement cid nsid deallocate ranges => Sys2Proof.Machine.execDatasetManagement cid nsid deallocate ranges s
  | .ioManagementSend cid nsid mo pids => Sys2Proof.Machine.execIoManagementSend cid nsid mo pids s
  | .ioManagementReceive cid nsid mo => Sys2Proof.Machine.execIoManagementReceive cid nsid mo s
  | .zoneOpen cid nsid slba all => Sys2Proof.Machine.execZoneOpen cid nsid slba all s
  | .zoneClose cid nsid slba all => Sys2Proof.Machine.execZoneClose cid nsid slba all s
  | .zoneFinish cid nsid slba all => Sys2Proof.Machine.execZoneFinish cid nsid slba all s
  | .zoneReset cid nsid slba all => Sys2Proof.Machine.execZoneReset cid nsid slba all s
  | .zoneOffline cid nsid slba all => Sys2Proof.Machine.execZoneOffline cid nsid slba all s
  | .zoneManagementReceive cid nsid slba zra zrasf numd partialReport => Sys2Proof.Machine.execZoneManagementReceive cid nsid slba zra zrasf numd partialReport s
  | .identify cid nsid cns cntid csi => Sys2Proof.Machine.execIdentify cid nsid cns cntid csi s
  | .getLogPage cid nsid lid numd lpo rae => Sys2Proof.Machine.execGetLogPage cid nsid lid numd lpo rae s
  | .lostStripesLog cid numd lpo => Sys2Proof.Machine.execLostStripesLog cid numd lpo s
  | .tallySnapshotLog cid lsp lsi numd lpo => Sys2Proof.Machine.execTallySnapshotLog cid lsp lsi numd lpo s
  | .eventRecorderWindowLog cid numd lpo => Sys2Proof.Machine.execEventRecorderWindowLog cid numd lpo s
  | .createIoSubmissionQueue cid qid qsize cqid prio => Sys2Proof.Machine.execCreateIoSubmissionQueue cid qid qsize cqid prio s
  | .createIoCompletionQueue cid qid qsize vec ien => Sys2Proof.Machine.execCreateIoCompletionQueue cid qid qsize vec ien s
  | .deleteIoSubmissionQueue cid qid => Sys2Proof.Machine.execDeleteIoSubmissionQueue cid qid s
  | .deleteIoCompletionQueue cid qid => Sys2Proof.Machine.execDeleteIoCompletionQueue cid qid s
  | .setFeatures cid fid value sv nsid cdw12 data => Sys2Proof.Machine.execSetFeatures cid fid value sv nsid cdw12 data s
  | .getFeatures cid fid sel cdw11 nsid => Sys2Proof.Machine.execGetFeatures cid fid sel cdw11 nsid s
  | .setNumberOfQueues cid nsqr ncqr => Sys2Proof.Machine.execSetNumberOfQueues cid nsqr ncqr s
  | .setPowerManagement cid ps => Sys2Proof.Machine.execSetPowerManagement cid ps s
  | .setQueueOrdering cid cdw11 sv => Sys2Proof.Machine.execSetQueueOrdering cid cdw11 sv s
  | .getQueueOrdering cid cdw11 => Sys2Proof.Machine.execGetQueueOrdering cid cdw11 s
  | .setFunctionWeights cid cdw11 cdw12 => Sys2Proof.Machine.execSetFunctionWeights cid cdw11 cdw12 s
  | .getFunctionWeights cid cdw11 cdw12 => Sys2Proof.Machine.execGetFunctionWeights cid cdw11 cdw12 s
  | .setTailClass cid cdw11 => Sys2Proof.Machine.execSetTailClass cid cdw11 s
  | .getTailClass cid cdw11 => Sys2Proof.Machine.execGetTailClass cid cdw11 s
  | .setFdp cid endgid enable => Sys2Proof.Machine.execSetFdp cid endgid enable s
  | .abort cid sqid target => Sys2Proof.Machine.execAbort cid sqid target s
  | .asynchronousEventRequest cid => Sys2Proof.Machine.execAsynchronousEventRequest cid s
  | .namespaceCreate cid spec => Sys2Proof.Machine.execNamespaceCreate cid spec s
  | .namespaceDelete cid nsid => Sys2Proof.Machine.execNamespaceDelete cid nsid s
  | .namespaceAttachment cid nsid attach ctrls => Sys2Proof.Machine.execNamespaceAttachment cid nsid attach ctrls s
  | .formatNvm cid nsid lbaf ses pi pil => Sys2Proof.Machine.execFormatNvm cid nsid lbaf ses pi pil s
  | .firmwareImageDownload cid numd ofst data => Sys2Proof.Machine.execFirmwareImageDownload cid numd ofst data s
  | .firmwareCommit cid slot action => Sys2Proof.Machine.execFirmwareCommit cid slot action s
  | .deviceSelfTest cid nsid stc => Sys2Proof.Machine.execDeviceSelfTest cid nsid stc s
  | .sanitizeBlockErase cid => Sys2Proof.Machine.execSanitizeBlockErase cid s
  | .sanitizeCryptoErase cid => Sys2Proof.Machine.execSanitizeCryptoErase cid s
  | .nvmeMiSend cid req => Sys2Proof.Machine.execNvmeMiSend cid req s
  | .nvmeMiReceive cid => Sys2Proof.Machine.execNvmeMiReceive cid s
  | .dictionaryRead cid index sub len => Sys2Proof.Machine.execDictionaryRead cid index sub len s
  | .dictionaryWrite cid index sub type value => Sys2Proof.Machine.execDictionaryWrite cid index sub type value s
  | .hfeQallocWrite master fn value => Sys2Proof.Machine.execHfeQallocWrite master fn value s
  | .hfeCmdlimWrite master fn value => Sys2Proof.Machine.execHfeCmdlimWrite master fn value s
  | .admitEnSet master value => Sys2Proof.Machine.execAdmitEnSet master value s
  | .mailboxInPost fn msg => Sys2Proof.Machine.execMailboxInPost fn msg s
  | .mailboxOutAck fn vector => Sys2Proof.Machine.execMailboxOutAck fn vector s
  | .mailboxRingCommit fn lo hi size => Sys2Proof.Machine.execMailboxRingCommit fn lo hi size s
  | .outPost master value => Sys2Proof.Machine.execOutPost master value s
  | .inDone master value => Sys2Proof.Machine.execInDone master value s
  | .zpmSsetWrite master set value => Sys2Proof.Machine.execZpmSsetWrite master set value s
  | .zpmPgrpWrite master group value => Sys2Proof.Machine.execZpmPgrpWrite master group value s
  | .dcmdRead master index => Sys2Proof.Machine.execDcmdRead master index s
  | .setAttr master index => Sys2Proof.Machine.execSetAttr master index s
  | .readOnly master index => Sys2Proof.Machine.execReadOnly master index s
  | .offline master index => Sys2Proof.Machine.execOffline master index s
  | .setFwtag master index => Sys2Proof.Machine.execSetFwtag master index s
  | .ckptNow master value => Sys2Proof.Machine.execCkptNow master value s
  | .zoneCheckpointEnd badPages => Sys2Proof.Machine.execZoneCheckpointEnd badPages s
  | .layout master value => Sys2Proof.Machine.execLayout master value s
  | .ucmdRead master value => Sys2Proof.Machine.execUcmdRead master value s
  | .ucmdSet master value => Sys2Proof.Machine.execUcmdSet master value s
  | .mapflush master value => Sys2Proof.Machine.execMapflush master value s
  | .mapFlushEnd => Sys2Proof.Machine.execMapFlushEnd s
  | .kilnEn master value => Sys2Proof.Machine.execKilnEn master value s
  | .recipeStepWrite master value => Sys2Proof.Machine.execRecipeStepWrite master value s
  | .migrate master value => Sys2Proof.Machine.execMigrate master value s
  | .healthWrite => Sys2Proof.Machine.execHealthWrite s
  | .pwrOn master group => Sys2Proof.Machine.execPwrOn master group s
  | .pwrOff master group => Sys2Proof.Machine.execPwrOff master group s
  | .groupReady master group => Sys2Proof.Machine.execGroupReady master group s
  | .rampWaitEnd group band onfi jedec => Sys2Proof.Machine.execRampWaitEnd group band onfi jedec s
  | .groupDieResetTimeout group => Sys2Proof.Machine.execGroupDieResetTimeout group s
  | .vccqUndervoltage group => Sys2Proof.Machine.execVccqUndervoltage group s
  | .timingSetWrite master group set word value => Sys2Proof.Machine.execTimingSetWrite master group set word value s
  | .fenceSet master group index value => Sys2Proof.Machine.execFenceSet master group index value s
  | .calibrationEntryWrite master group chan die word value => Sys2Proof.Machine.execCalibrationEntryWrite master group chan die word value s
  | .descriptorSubmit master engine value => Sys2Proof.Machine.execDescriptorSubmit master engine value s
  | .hwDescriptorSubmit engine => Sys2Proof.Machine.execHwDescriptorSubmit engine s
  | .mediaRead engine cls => Sys2Proof.Machine.execMediaRead engine cls s
  | .prog engine cls => Sys2Proof.Machine.execProg engine cls s
  | .progPass engine cls => Sys2Proof.Machine.execProgPass engine cls s
  | .erase engine cls => Sys2Proof.Machine.execErase engine cls s
  | .dieReset engine => Sys2Proof.Machine.execDieReset engine s
  | .setfeat engine => Sys2Proof.Machine.execSetfeat engine s
  | .getfeat engine value => Sys2Proof.Machine.execGetfeat engine value s
  | .readid engine bytes => Sys2Proof.Machine.execReadid engine bytes s
  | .train engine eye codes ready => Sys2Proof.Machine.execTrain engine eye codes ready s
  | .lib engine cls => Sys2Proof.Machine.execLib engine cls s
  | .run engine cls => Sys2Proof.Machine.execRun engine cls s
  | .loadedConfirm engine die => Sys2Proof.Machine.execLoadedConfirm engine die s
  | .statusPoll engine die status failPlanes suspended => Sys2Proof.Machine.execStatusPoll engine die status failPlanes suspended s
  | .tailSuspend engine die => Sys2Proof.Machine.execTailSuspend engine die s
  | .suspendTimeout engine die => Sys2Proof.Machine.execSuspendTimeout engine die s
  | .dieWaitTimeout engine die resetOk => Sys2Proof.Machine.execDieWaitTimeout engine die resetOk s
  | .descriptorMaxwaitExpire engine cls die => Sys2Proof.Machine.execDescriptorMaxwaitExpire engine cls die s
  | .cqHeadAdvance master engine value => Sys2Proof.Machine.execCqHeadAdvance master engine value s
  | .engineRun master engine => Sys2Proof.Machine.execEngineRun master engine s
  | .engineStop master engine => Sys2Proof.Machine.execEngineStop master engine s
  | .engineReset master engine => Sys2Proof.Machine.execEngineReset master engine s
  | .descriptorWithdraw engine cls index => Sys2Proof.Machine.execDescriptorWithdraw engine cls index s
  | .engineConfigWrite master engine offset value => Sys2Proof.Machine.execEngineConfigWrite master engine offset value s
  | .cmd engine ctx sched imm rb byte => Sys2Proof.Machine.execCmd engine ctx sched imm rb byte s
  | .addr engine ctx rb ra n => Sys2Proof.Machine.execAddr engine ctx rb ra n s
  | .dout engine ctx rb ra src n => Sys2Proof.Machine.execDout engine ctx rb ra src n s
  | .din engine ctx rd ra dst n bytes => Sys2Proof.Machine.execDin engine ctx rd ra dst n bytes s
  | .waitst engine ctx rd ra mask value status => Sys2Proof.Machine.execWaitst engine ctx rd ra mask value status s
  | .wait engine ctx u count => Sys2Proof.Machine.execWait engine ctx u count s
  | .sett engine ctx imm rb nv die => Sys2Proof.Machine.execSett engine ctx imm rb nv die s
  | .fchk engine ctx m => Sys2Proof.Machine.execFchk engine ctx m s
  | .yield engine ctx => Sys2Proof.Machine.execYield engine ctx s
  | .done engine ctx rd status => Sys2Proof.Machine.execDone engine ctx rd status s
  | .ldi engine ctx rd h value => Sys2Proof.Machine.execLdi engine ctx rd h value s
  | .ldd engine ctx rd ra offset => Sys2Proof.Machine.execLdd engine ctx rd ra offset s
  | .std engine ctx rs ra offset => Sys2Proof.Machine.execStd engine ctx rs ra offset s
  | .add engine ctx rd ra imm b => Sys2Proof.Machine.execAdd engine ctx rd ra imm b s
  | .and engine ctx rd ra imm b => Sys2Proof.Machine.execAnd engine ctx rd ra imm b s
  | .or engine ctx rd ra imm b => Sys2Proof.Machine.execOr engine ctx rd ra imm b s
  | .xor engine ctx rd ra imm b => Sys2Proof.Machine.execXor engine ctx rd ra imm b s
  | .shl engine ctx rd ra imm b => Sys2Proof.Machine.execShl engine ctx rd ra imm b s
  | .shr engine ctx rd ra imm b => Sys2Proof.Machine.execShr engine ctx rd ra imm b s
  | .br engine ctx cond ra target => Sys2Proof.Machine.execBr engine ctx cond ra target s
  | .call engine ctx target => Sys2Proof.Machine.execCall engine ctx target s
  | .ret engine ctx => Sys2Proof.Machine.execRet engine ctx s
  | .programStoreWrite master engine value => Sys2Proof.Machine.execProgramStoreWrite master engine value s
  | .programStoreRead master engine => Sys2Proof.Machine.execProgramStoreRead master engine s
  | .localMemoryWindowAccess master engine write => Sys2Proof.Machine.execLocalMemoryWindowAccess master engine write s
  | .codewordDecodeEnd engine ctx cw outcome => Sys2Proof.Machine.execCodewordDecodeEnd engine ctx cw outcome s
  | .candPop master => Sys2Proof.Machine.execCandPop master s
  | .dclr master => Sys2Proof.Machine.execDclr master s
  | .eccProfileWrite master n value => Sys2Proof.Machine.execEccProfileWrite master n value s
  | .mshSsetWrite master set value => Sys2Proof.Machine.execMshSsetWrite master set value s
  | .positionWrite master value => Sys2Proof.Machine.execPositionWrite master value s
  | .mashRecipeWrite master value => Sys2Proof.Machine.execMashRecipeWrite master value s
  | .fail master die => Sys2Proof.Machine.execFail master die s
  | .assign master die => Sys2Proof.Machine.execAssign master die s
  | .readmit master die => Sys2Proof.Machine.execReadmit master die s
  | .retire master die => Sys2Proof.Machine.execRetire master die s
  | .dieStateRead master die => Sys2Proof.Machine.execDieStateRead master die s
  | .dieProbe answers => Sys2Proof.Machine.execDieProbe answers s
  | .dieSelfTestEnd die patternOk erased failed => Sys2Proof.Machine.execDieSelfTestEnd die patternOk erased failed s
  | .rebuildRowTake set pos row lost => Sys2Proof.Machine.execRebuildRowTake set pos row lost s
  | .reshapeStart master value => Sys2Proof.Machine.execReshapeStart master value s
  | .reshapeCopySwitch index => Sys2Proof.Machine.execReshapeCopySwitch index s
  | .patrolRead set row mismatch last => Sys2Proof.Machine.execPatrolRead set row mismatch last s
  | .mainSenseLow mv => Sys2Proof.Machine.execMainSenseLow mv s
  | .lossDebounceExpire => Sys2Proof.Machine.execLossDebounceExpire s
  | .lossTimerClear mv => Sys2Proof.Machine.execLossTimerClear mv s
  | .goodDebounceExpire => Sys2Proof.Machine.execGoodDebounceExpire s
  | .huSenseCrossing mv => Sys2Proof.Machine.execHuSenseCrossing mv s
  | .checkNow master value => Sys2Proof.Machine.execCheckNow master value s
  | .storeCheckEnd chargeUas dropMv => Sys2Proof.Machine.execStoreCheckEnd chargeUas dropMv s
  | .storeCheckInterval => Sys2Proof.Machine.execStoreCheckInterval s
  | .drain master value => Sys2Proof.Machine.execDrain master value s
  | .holdupEnableWrite master value => Sys2Proof.Machine.execHoldupEnableWrite master value s
  | .holdupArm => Sys2Proof.Machine.execHoldupArm s
  | .drainComplete => Sys2Proof.Machine.execDrainComplete s
  | .dumpEnd => Sys2Proof.Machine.execDumpEnd s
  | .doneRestart => Sys2Proof.Machine.execDoneRestart s
  | .bankAssignWrite master bank value => Sys2Proof.Machine.execBankAssignWrite master bank value s
  | .lock master value => Sys2Proof.Machine.execLock master value s
  | .cclr master => Sys2Proof.Machine.execCclr master s
  | .rowRetire master value => Sys2Proof.Machine.execRowRetire master value s
  | .scrubRead addr badBytes => Sys2Proof.Machine.execScrubRead addr badBytes s
  | .tubEnable master value => Sys2Proof.Machine.execTubEnable master value s
  | .alloc tag prot n => Sys2Proof.Machine.execAlloc tag prot n s
  | .append tag prot n tub => Sys2Proof.Machine.execAppend tag prot n tub s
  | .tubGrant prot => Sys2Proof.Machine.execTubGrant prot s
  | .free tag tub => Sys2Proof.Machine.execFree tag tub s
  | .trim tag tub => Sys2Proof.Machine.execTrim tag tub s
  | .tubWindowWrite master offset value => Sys2Proof.Machine.execTubWindowWrite master offset value s
  | .gcmTailWrite master value => Sys2Proof.Machine.execGcmTailWrite master value s
  | .encrypt check => Sys2Proof.Machine.execEncrypt check s
  | .decrypt check => Sys2Proof.Machine.execDecrypt check s
  | .rekey master value => Sys2Proof.Machine.execRekey master value s
  | .rngRead master => Sys2Proof.Machine.execRngRead master s
  | .drbgHealthFail inst => Sys2Proof.Machine.execDrbgHealthFail inst s
  | .force master value => Sys2Proof.Machine.execForce master value s
  | .vaonPowerOn => Sys2Proof.Machine.execVaonPowerOn s
  | .pgoodRise rail => Sys2Proof.Machine.execPgoodRise rail s
  | .pgoodTimeout rail => Sys2Proof.Machine.execPgoodTimeout rail s
  | .supplyRetry => Sys2Proof.Machine.execSupplyRetry s
  | .sramClearEnd => Sys2Proof.Machine.execSramClearEnd s
  | .bootImageLoad xspi0 xspi1 slcA slcB => Sys2Proof.Machine.execBootImageLoad xspi0 xspi1 slcA slcB s
  | .configRecordLoad => Sys2Proof.Machine.execConfigRecordLoad s
  | .metadataLoad => Sys2Proof.Machine.execMetadataLoad s
  | .dumpLoad crcOk => Sys2Proof.Machine.execDumpLoad crcOk s
  | .zoneTableReload => Sys2Proof.Machine.execZoneTableReload s
  | .dumpApplication => Sys2Proof.Machine.execDumpApplication s
  | .coreRun master value => Sys2Proof.Machine.execCoreRun master value s
  | .coreReset master value => Sys2Proof.Machine.execCoreReset master value s
  | .restart master value => Sys2Proof.Machine.execRestart master value s
  | .eventClaim master target => Sys2Proof.Machine.execEventClaim master target s
  | .softwareTrigger master value => Sys2Proof.Machine.execSoftwareTrigger master value s
  | .asyncEventRaise master value => Sys2Proof.Machine.execAsyncEventRaise master value s
  | .powerRequest master value => Sys2Proof.Machine.execPowerRequest master value s
  | .domainGate master domain => Sys2Proof.Machine.execDomainGate master domain s
  | .domainPowerDown master domain => Sys2Proof.Machine.execDomainPowerDown master domain s
  | .domainPowerOn master domain => Sys2Proof.Machine.execDomainPowerOn master domain s
  | .domainAnswer domain answer => Sys2Proof.Machine.execDomainAnswer domain answer s
  | .domainDelayTimeout domain => Sys2Proof.Machine.execDomainDelayTimeout domain s
  | .entryComplete => Sys2Proof.Machine.execEntryComplete s
  | .idleEntry => Sys2Proof.Machine.execIdleEntry s
  | .mainWake => Sys2Proof.Machine.execMainWake s
  | .rtcAlarm => Sys2Proof.Machine.execRtcAlarm s
  | .gpioWake pin => Sys2Proof.Machine.execGpioWake pin s
  | .esnexWakeFrame => Sys2Proof.Machine.execEsnexWakeFrame s
  | .thermalShutdown => Sys2Proof.Machine.execThermalShutdown s
  | .thermalRestart => Sys2Proof.Machine.execThermalRestart s
  | .suspclr master => Sys2Proof.Machine.execSuspclr master s
  | .mgtRead master value => Sys2Proof.Machine.execMgtRead master value s
  | .mgtWrite master value => Sys2Proof.Machine.execMgtWrite master value s
  | .frameReject toUs etherOk lengthOk fcsOk => Sys2Proof.Machine.execFrameReject toUs etherOk lengthOk fcsOk s
  | .esnexRead h index sub => Sys2Proof.Machine.execEsnexRead h index sub s
  | .esnexWrite h index sub type value => Sys2Proof.Machine.execEsnexWrite h index sub type value s
  | .readBlock h index sub offset count => Sys2Proof.Machine.execReadBlock h index sub offset count s
  | .writeBlock h index sub offset total data => Sys2Proof.Machine.execWriteBlock h index sub offset total data s
  | .notify h code => Sys2Proof.Machine.execNotify h code s
  | .snapshot h => Sys2Proof.Machine.execSnapshot h s
  | .sessionOpen h cred np => Sys2Proof.Machine.execSessionOpen h cred np s
  | .sessionClose h => Sys2Proof.Machine.execSessionClose h s
  | .configRecordWriteDone => Sys2Proof.Machine.execConfigRecordWriteDone s
  | .configCopyTimeout copyB => Sys2Proof.Machine.execConfigCopyTimeout copyB s
  | .stagingExpire key => Sys2Proof.Machine.execStagingExpire key s
  | .sessionIdleExpire session => Sys2Proof.Machine.execSessionIdleExpire session s
  | .networkDownTimeout => Sys2Proof.Machine.execNetworkDownTimeout s
  | .mctpMessage medium micOk body => Sys2Proof.Machine.execMctpMessage medium micOk body s
  | .readNvmeMiDataStructure dtyp => Sys2Proof.Machine.execReadNvmeMiDataStructure dtyp s
  | .nvmSubsystemHealthStatusPoll => Sys2Proof.Machine.execNvmSubsystemHealthStatusPoll s
  | .controllerHealthStatusPoll fn => Sys2Proof.Machine.execControllerHealthStatusPoll fn s
  | .configurationGet cfgId => Sys2Proof.Machine.execConfigurationGet cfgId s
  | .configurationSet cfgId value => Sys2Proof.Machine.execConfigurationSet cfgId value s
  | .vpdRead offset len => Sys2Proof.Machine.execVpdRead offset len s
  | .vpdWrite offset data => Sys2Proof.Machine.execVpdWrite offset data s
  | .nvmeAdminCommand sqe data => Sys2Proof.Machine.execNvmeAdminCommand sqe data s
  | .snap master value => Sys2Proof.Machine.execSnap master value s
  | .tallyValueRead master => Sys2Proof.Machine.execTallyValueRead master s
  | .softTrigger master value => Sys2Proof.Machine.execSoftTrigger master value s
  | .recorderFlush master value => Sys2Proof.Machine.execRecorderFlush master value s
  | .recorderFlushTimer => Sys2Proof.Machine.execRecorderFlushTimer s
  | .recordFetch master value => Sys2Proof.Machine.execRecordFetch master value s
  | .recordFetchDone crcOk => Sys2Proof.Machine.execRecordFetchDone crcOk s
  | .step master value => Sys2Proof.Machine.execStep master value s
  | .clrlast master value => Sys2Proof.Machine.execClrlast master value s
  | .kick master processor value => Sys2Proof.Machine.execKick master processor value s
  | .watchdogExpire processor => Sys2Proof.Machine.execWatchdogExpire processor s
  | .heartbeatMissing unit => Sys2Proof.Machine.execHeartbeatMissing unit s
  | .lockstepMismatch core => Sys2Proof.Machine.execLockstepMismatch core s
  | .supplyMonitorTrip monitor => Sys2Proof.Machine.execSupplyMonitorTrip monitor s
  | .referenceClockLost => Sys2Proof.Machine.execReferenceClockLost s
  | .periodicSelfTest mechanism pass => Sys2Proof.Machine.execPeriodicSelfTest mechanism pass s
  | .selfTestVerdict type unit pass => Sys2Proof.Machine.execSelfTestVerdict type unit pass s
  | .loopbackStart master slot value => Sys2Proof.Machine.execLoopbackStart master slot value s
  | .loopbackStop master slot value bits errors lanes => Sys2Proof.Machine.execLoopbackStop master slot value bits errors lanes s
  | .loopbackDurationEnd slot bits errors lanes => Sys2Proof.Machine.execLoopbackDurationEnd slot bits errors lanes s
  | .bistStart master value => Sys2Proof.Machine.execBistStart master value s
  | .bistDone nfail first => Sys2Proof.Machine.execBistDone nfail first s
  | .debugUnlockRequest master value => Sys2Proof.Machine.execDebugUnlockRequest master value s
  | .debugUnlockVerdict keyHashOk signatureOk => Sys2Proof.Machine.execDebugUnlockVerdict keyHashOk signatureOk s
  | .idcode => Sys2Proof.Machine.execIdcode s
  | .samplePreload cells => Sys2Proof.Machine.execSamplePreload cells s
  | .extest => Sys2Proof.Machine.execExtest s
  | .highz => Sys2Proof.Machine.execHighz s
  | .clamp => Sys2Proof.Machine.execClamp s
  | .extestPulse => Sys2Proof.Machine.execExtestPulse s
  | .extestTrain => Sys2Proof.Machine.execExtestTrain s
  | .dtmcs dmiReset => Sys2Proof.Machine.execDtmcs dmiReset s
  | .dmi op address data => Sys2Proof.Machine.execDmi op address data s
  | .bypass opcode => Sys2Proof.Machine.execBypass opcode s
  | .debugHalt hart => Sys2Proof.Machine.execDebugHalt hart s
  | .vaonLoss => Sys2Proof.Machine.execVaonLoss s
  | .lampCrystalStable => Sys2Proof.Machine.execLampCrystalStable s
  | .linkUp port rate width flit => Sys2Proof.Machine.execLinkUp port rate width flit s
  | .recoveryEntry port => Sys2Proof.Machine.execRecoveryEntry port s
  | .linkL1Entry port substate => Sys2Proof.Machine.execLinkL1Entry port substate s
  | .linkL1Exit port => Sys2Proof.Machine.execLinkL1Exit port s
  | .linkL2Entry port => Sys2Proof.Machine.execLinkL2Entry port s
  | .runTimeLimitExpire engine ctx resetOk => Sys2Proof.Machine.execRunTimeLimitExpire engine ctx resetOk s

end Sys2Proof.Machine
end

