-- ==== Sys2Proof/Machine/Tick.lean ====
section
/-! DEFINITION. Machine/Tick.lean: what an empty queue does: one cycle of the 25 MHz reference clock (log entry 2). -/

namespace Sys2Proof.Machine

/-- The RTC runs at 32,768 Hz while VAON is up (R537). -/
def State.tickRtc (s : State) : State :=
  let acc := s.pow.rtcDiv + 32768
  if s.ctl.vaon = false then s
  else if acc < 25000000 then s.modPow fun p => { p with rtcDiv := acc }
  else (s.setFld AON_RTC.COUNT (s.fld AON_RTC.COUNT + 1)).modPow fun p => { p with rtcDiv := acc - 25000000 }

/-- One reference cycle: the RTC; while both dies are up SYS_REFCNT counts (R46) and PHASE runs through its slot, staying at its
last value until the slot boundary, which is a command of its own. -/
def State.tick (s : State) : State :=
  let s := s.tickRtc
  if s.up then
    let n := s.slotCycles
    (s.setFld SYS_REFCNT.COUNT (s.fld SYS_REFCNT.COUNT + 1)).modBell fun b =>
      { b with cycles := b.cycles + 1, phase := min 1023 ((b.cycles + 1) * 1024 / max 1 n) }
  else s

end Sys2Proof.Machine
end

