-- ==== Sys2Proof/Machine/Frame.lean ====
section
/-! DEFINITION. Machine/Frame.lean: the terms the statements use for what a command leaves unchanged: the registers, the bytes of
on-chip memory and the subsystems, apart from what the assertion of an event source may change (R502, R572, R591, R525). -/

namespace Sys2Proof.Machine

/-- The register fields that the assertion of an event source may change, by key: the pending and overflow bits, the fault capture
and the clocks of gated domains (a trigger's capture of registers, R593), the end of IDLE (R525), the recorder's status. -/
def eventKey (k : Nat) : Bool :=
  decide ((0x40000020 * 32 ≤ k ∧ k < 0x4000002c * 32) ∨                        -- SYS_BUSERR, SYS_BUSERRA
    (0x41e00000 * 32 ≤ k ∧ k < 0x41e00800 * 32 ∧ k % 32 ≤ 1) ∨                 -- PEND and OVF
    k = 0x42000008 * 32 + 29 ∨                                                 -- PWR_STAT.STATE
    (0x42000100 * 32 ≤ k ∧ k < 0x420001c0 * 32 ∧ k % 32 = 30) ∨                -- PWR_DOM.STATE
    (0x42600004 * 32 ≤ k ∧ k < 0x42600008 * 32))                               -- EVR_STAT

/-- A state without its registers and what the assertion of an event source may change of the subsystems: the recorder, the notices
waiting for the network, the engines' queues of hardware submissions, the masters' last read and fault. -/
def State.quiet (s : State) : State :=
  { s with regs := [], evr := {}, mgt := { s.mgt with notCount := [], notifies := [] }, drf := { s.drf with eng := [] },
           bus := { s.bus with rfault := [], rdata := [] } }

/-! Parts of the state. -/

/-- A part of the state: the registers of one block, what event sources may change of the registers, or a subsystem. -/
inductive Part where
  | regSys | regBel | regPci | regHfe | regFns | regZpm | regMed | regFch | regDrf | regEcc | regMsh | regHld | regTub | regMem | regCip | regEvt | regPwr | regThm | regMgt | regEvr | regTly | regSaf | regTst | regAon  -- the registers of one block of Table 1.6
  | events  -- what the assertion of an event source may change of the registers
  | free | ident | mem | lastAccess | bus | bell | pci | hfe | fns | zpm | med | fch | media | engines | ecc | msh | hld | tubs | memc | cip | ctl | pow | dict | notices | mgt | tly | evr | saf | tst | nv | pending
  deriving DecidableEq, Repr

/-- The part's place in a mask. -/
def Part.idx : Part → Nat
  | .regSys => 0
  | .regBel => 1
  | .regPci => 2
  | .regHfe => 3
  | .regFns => 4
  | .regZpm => 5
  | .regMed => 6
  | .regFch => 7
  | .regDrf => 8
  | .regEcc => 9
  | .regMsh => 10
  | .regHld => 11
  | .regTub => 12
  | .regMem => 13
  | .regCip => 14
  | .regEvt => 15
  | .regPwr => 16
  | .regThm => 17
  | .regMgt => 18
  | .regEvr => 19
  | .regTly => 20
  | .regSaf => 21
  | .regTst => 22
  | .regAon => 23
  | .events => 24
  | .free => 26
  | .ident => 27
  | .mem => 28
  | .lastAccess => 29
  | .bus => 30
  | .bell => 31
  | .pci => 32
  | .hfe => 33
  | .fns => 34
  | .zpm => 35
  | .med => 36
  | .fch => 37
  | .media => 38
  | .engines => 39
  | .ecc => 40
  | .msh => 41
  | .hld => 42
  | .tubs => 43
  | .memc => 44
  | .cip => 45
  | .ctl => 46
  | .pow => 47
  | .dict => 48
  | .notices => 49
  | .mgt => 50
  | .tly => 51
  | .evr => 52
  | .saf => 53
  | .tst => 54
  | .nv => 55
  | .pending => 56

/-- The mask of a list of parts. -/
def parts (l : List Part) : Nat := l.foldr (fun p m => m ||| 2 ^ p.idx) 0

/-- The part of a register field's key: its block of Table 1.6, unless an event may change it. -/
def partOfKey (k : Nat) : Nat := if eventKey k then 24 else (k / 32 - 0x40000000) / 0x200000 % 24

/-- The sparse stores software reaches keep their canonical form: on-chip memory lists each byte once, in rising order, and none that
reads zero; the register fields are listed once, in rising order. -/
def State.canon (s : State) : Prop := Memory.wf s.bus.mem = true ∧ Tab.rising s.regs = true

/-- `t` differs from `s` in the parts of the mask `m` at most, and has its sparse stores in canonical form if `s` has. -/
structure Within (m : Nat) (s t : State) : Prop where
  canon : s.canon → t.canon
  regs : ∀ f : Fld, m.testBit (partOfKey f.key) = false → t.fld f = s.fld f
  free : m.testBit 26 = false → t.free = s.free
  ident : m.testBit 27 = false → t.ident = s.ident
  mem : m.testBit 28 = false → t.bus.mem = s.bus.mem
  lastAccess : m.testBit 29 = false → t.bus.rdata = s.bus.rdata ∧ t.bus.rfault = s.bus.rfault
  bus : m.testBit 30 = false → { t.bus with mem := [], rdata := [], rfault := [] } = { s.bus with mem := [], rdata := [], rfault := [] }
  bell : m.testBit 31 = false → t.bell = s.bell
  pci : m.testBit 32 = false → t.pci = s.pci
  hfe : m.testBit 33 = false → t.hfe = s.hfe
  fns : m.testBit 34 = false → t.fns = s.fns
  zpm : m.testBit 35 = false → t.zpm = s.zpm
  med : m.testBit 36 = false → t.med = s.med
  fch : m.testBit 37 = false → t.fch = s.fch
  media : m.testBit 38 = false → t.drf.media = s.drf.media
  engines : m.testBit 39 = false → t.drf.eng = s.drf.eng ∧ t.drf.eraseWait = s.drf.eraseWait
  ecc : m.testBit 40 = false → t.ecc = s.ecc
  msh : m.testBit 41 = false → t.msh = s.msh
  hld : m.testBit 42 = false → t.hld = s.hld
  tubs : m.testBit 43 = false → t.tubs = s.tubs
  memc : m.testBit 44 = false → t.memc = s.memc
  cip : m.testBit 45 = false → t.cip = s.cip
  ctl : m.testBit 46 = false → t.ctl = s.ctl
  pow : m.testBit 47 = false → t.pow = s.pow
  dict : m.testBit 48 = false → t.mgt.dict = s.mgt.dict
  notices : m.testBit 49 = false → t.mgt.notCount = s.mgt.notCount ∧ t.mgt.notPrev = s.mgt.notPrev ∧ t.mgt.notifies = s.mgt.notifies
  mgt : m.testBit 50 = false → { t.mgt with dict := [], notCount := [], notPrev := [], notifies := [] } = { s.mgt with dict := [], notCount := [], notPrev := [], notifies := [] }
  tly : m.testBit 51 = false → t.tly = s.tly
  evr : m.testBit 52 = false → t.evr = s.evr
  saf : m.testBit 53 = false → t.saf = s.saf
  tst : m.testBit 54 = false → t.tst = s.tst
  nv : m.testBit 55 = false → t.nv = s.nv
  pending : m.testBit 56 = false → t.pending = s.pending

/-- Every register field but those of `l`, and those an event may change, reads as before. -/
def keepsRegs (l : List Fld) (s t : State) : Prop :=
  ∀ g : Fld, eventKey g.key = false → (∀ f ∈ l, g.key ≠ f.key) → t.fld g = s.fld g

/-- Every byte of on-chip memory reads as before. -/
def keepsMem (s t : State) : Prop := ∀ a, t.byte a = s.byte a

/-- Does an access of master `m` to the register at normal-alias address `a` go through: a master of Table 1.7 out of reset, the block's
power domain not off (R37, R40)? -/
def State.reaches (s : State) (m a : Nat) : Prop := m ≤ 7 ∧ s.mayAccess m a = true ∧ s.domainOff (domainOfReg a) = false

/-- The state in which such an access takes effect: a gated domain's clock restored (R40), no fault for the master. -/
def State.arrive (m a : Nat) (s : State) : State :=
  (s.ungate (domainOfReg a)).modBus fun b => { b with rfault := Tab.set 0 b.rfault m 0 }

/-- Does an access that the die-to-die link receives with `n` errors go straight through: a word of the normal alias, reached by the
master, a transfer that crosses no link or is good at once (R14, R27, R37, R40)? -/
def State.direct (s : State) (m a n : Nat) : Prop :=
  s.reaches m a ∧ inRegs a = true ∧ inPeek a = false ∧ a % 4 = 0 ∧ (crosses m a = false ∨ n = 0)

/-! A descriptor whose turn it is. -/

/-- Descriptor `d` stands alone in class queue `c` of engine `e`, which starts descriptors, and its checks say `k` (R306). -/
structure State.checks (s : State) (e c : Nat) (d : Desc) (k : Chk) : Prop where
  engine : e < 128
  cls : c < 4
  starts : s.mayStart e = true
  queue : s.queue e c = [d]
  check : s.check e c d = k

/-- The start checks of that descriptor pass and the turn is its class's (R308). -/
structure State.turnOf (s : State) (e c : Nat) (d : Desc) : Prop where
  passes : s.checks e c d .start
  turn : s.mayTurn e c = true

/-- Firmware's descriptor `d` is what context `k` of engine `e` runs. -/
structure State.busyWith (s : State) (e k : Nat) (d : Desc) : Prop where
  live : (s.ctxOf e k).live = true
  desc : (s.ctxOf e k).desc = d
  owner : d.owner = 0
  work : d.work = .none

/-- Where engine `e` writes its next completion record (R299). -/
def State.cqSlot (s : State) (e : Nat) : Nat :=
  dpSram + s.fld (DRF_CQBASE.BASE e) * 0x1000 + s.fld (DRF_CQPTR.WIDX e) * 16

/-- Engine `e` holds no record back and its completion ring has room (R300). -/
def State.ringReady (s : State) (e : Nat) : Prop := s.cqFull e = false ∧ (s.engine e).heldRecs = []

/-- The completion `c` of a class `cls` descriptor `d` of engine `e` stands in the ring, and no other byte of memory has changed (R299, R300). -/
structure State.records (s t : State) (e cls : Nat) (d : Desc) (c : Comp) : Prop where
  bytes : t.bytes (s.cqSlot e) 16 =
    [(c.held cls d).w0 + (s.engine e).pass1.toNat * 2 ^ 21, (c.held cls d).w1, (c.held cls d).w2,
      (c.held cls d).detail * 2 ^ 16 + (s.engine e).seq].flatMap fun w => toBytes w 4
  index : t.fld (DRF_CQPTR.WIDX e) = (s.fld (DRF_CQPTR.WIDX e) + 1) % 2 ^ s.fld (DRF_CQBASE.LOG2 e) % 2 ^ 10
  seq : (t.engine e).seq = ((s.engine e).seq + 1) % 2 ^ 16
  mem : ∀ a, a < s.cqSlot e ∨ s.cqSlot e + 16 ≤ a → t.byte a = s.byte a

/-- What a completion record changes of the registers of its engine: the write index and the event bits. -/
def recordFields (e : Nat) : List Fld :=
  [DRF_CQPTR.WIDX e, DRF_EVT.FAIL e, DRF_EVT.CQ e, DRF_EVT.TIMEOUT e, DRF_ERRCNT.PFAIL e, DRF_ERRCNT.UNCORR e, DRF_ERRCNT.TIMEOUT e,
   DRF_ERRCNT.INVALID e, DRF_SUSPCNT.DIEBUSY e]

/-- Firmware's descriptor `d` runs alone on its die of engine `e`, in context `k`: no TAIL read waits or runs beside it, nothing of it is held
back, no Reset of the die runs and none waits for the budget, the ring has room. -/
structure State.runsAlone (s : State) (e k : Nat) (d : Desc) : Prop where
  busy : s.busyWith e k d
  place : k = d.die * 2
  engine : e < 128
  die : d.die < 16
  notHalted : s.engState e ≠ engHalted
  beside : (s.ctxOf e (k + 1)).live = false
  tail : s.queue e clsTail = []
  cand : (s.ctxOf e k).cand = none
  held : (s.ctxOf e k).tailHeld = none
  claimed : (s.ctxOf e k).claimed = false
  resets : s.fch.resetQ = [] ∧ Tab.get 0 s.fch.resetOn (e * 16 + d.die) = 0
  ring : s.ringReady e
  mode : s.ecc.modePend = false

/-- The completion of what context `k` of engine `e` runs, with status byte `st`. -/
def State.compOf (s : State) (e k status detail st : Nat) : Comp :=
  { status := status, detail := detail, susp := (s.ctxOf e k).susp, retry := (s.ctxOf e k).retry, maxbits := (s.ctxOf e k).maxbits,
    charge := s.chargeOf e k, cwfail := if status = csUncorr then (s.ctxOf e k).cwfail else 0, nstat := st }

/-- Nothing runs on die `d`, and no Reset of it runs or is waited for. -/
def State.dieQuiet (s : State) (d : Nat) : Prop :=
  (s.ctxOf (d / 16) (d % 16 * 2)).live = false ∧ (s.ctxOf (d / 16) (d % 16 * 2 + 1)).live = false ∧ s.resetting d = false ∧
    bit (Tab.get 0 s.fch.resetWait (d / 128)) (d % 128) = false

/-- The membership epoch has advanced by one (R383). -/
def State.epochMoves (s t : State) : Prop := t.fld MSH_STAT.EPOCH = (s.fld MSH_STAT.EPOCH + 1) % 2 ^ 16

/-- A command or write of the Mash engine has been ignored: ERR, event 176, no membership change (R383). -/
def State.mashIgnores (s t : State) : Prop := t.on MSH_STAT.ERR = true ∧ t.on (EVT_SRC.PEND 176) = true ∧ t.msh = s.msh

/-- Context `k` of engine `e` executes `i` next: it may run, and the word at its pc spells `i`, which in the library ROM may be any. -/
structure State.fetches (s : State) (e k : Nat) (i : MicroInstr) : Prop where
  may : s.microMay e k = true
  word : (0x1000 ≤ (s.ctxOf e k).pc ∧ (s.ctxOf e k).pc < 0x2000) ∨
    ((s.ctxOf e k).pc < 0x400 ∧ decodeMicro (Tab.get 0 (s.engine e).pstore (s.ctxOf e k).pc) = some i)
  regs : (s.ctxOf e k).w.length = 8
  quiet : (s.ctxOf e k).bus = false ∨ (s.ctxOf e k).quiet + 1 < 1024

/-- It may use the bus for its own die: the die is not fenced (R336, R337). -/
def State.ownDie (s : State) (e k : Nat) : Prop :=
  (s.ctxOf e k).target = (s.ctxOf e k).desc.die ∧ s.fenced e (s.ctxOf e k).target = false

/-- It ends with a microcode fault of the code, which the engine records unless an earlier fault stands, and the engine is HALTED (R341). -/
structure State.faultsMicro (s t : State) (e k code : Nat) : Prop where
  ended : (t.ctxOf e k).live = false
  halted : t.engState e = engHalted
  recorded : s.on (DRF_FAULT.VALID e) = false → t.on (DRF_FAULT.VALID e) = true ∧ t.fld (DRF_FAULT.CODE e) = code ∧
    t.fld (DRF_FAULT.CTX e) = k % 2 ^ 5 ∧ t.fld (DRF_FAULT.PC e) = (s.ctxOf e k).pc % 2 ^ 13
  kept : s.on (DRF_FAULT.VALID e) = true → t.fld (DRF_FAULT.CODE e) = s.fld (DRF_FAULT.CODE e) ∧
    t.fld (DRF_FAULT.CTX e) = s.fld (DRF_FAULT.CTX e) ∧ t.fld (DRF_FAULT.PC e) = s.fld (DRF_FAULT.PC e)

/-- It goes on with the instruction at `pc`: no register, no byte of memory, no other context changes, but that one that let it pass in a
YIELD need not wait for it any more (R338). -/
structure State.goesOn (s t : State) (e k pc : Nat) : Prop where
  live : (t.ctxOf e k).live = true
  pc : (t.ctxOf e k).pc = pc
  others : ∀ j, j ≠ k → t.ctxOf e j = s.ctxOf e j ∨ t.ctxOf e j = { s.ctxOf e j with after := dropFrom k (s.ctxOf e j).after }
  regs : keepsRegs [] s t
  mem : keepsMem s t

/-- Its working register `rd` holds `v`, the others what they held. -/
def State.setsReg (s t : State) (e k rd v : Nat) : Prop :=
  (t.ctxOf e k).reg rd = v ∧ ∀ j, j ≠ rd → (t.ctxOf e k).reg j = (s.ctxOf e k).reg j

/-! Start-up and faults. -/

/-- The image `i` of source code `code` has been taken in step `step`: its payload stands in the firmware banks, its entry, code and length are
what L0 starts with, event 300 (R499, R509, R512). -/
structure State.bootedBy (s t : State) (i : Image) (code step : Nat) : Prop where
  step : t.bootStep = step
  result : t.fld CIP_BOOTSTAT.RESULT = 1
  source : t.fld CIP_BOOTSTAT.SOURCE = code
  entry : t.ctl.entry = 0x25800000 + i.entry ∧ t.ctl.a0 = code ∧ t.ctl.a1 = i.len
  event : t.on (EVT_SRC.PEND 300) = true
  payload : t.bytes 0x25800000 (i.payload.take i.len).length = (i.payload.take i.len).map (· % 256)
  mem : ∀ a, a < 0x25800000 ∨ 0x25800000 + (i.payload.take i.len).length ≤ a → t.byte a = s.byte a

/-- The secure ROM may try the image sources: step 6 is the last completed, and no self-test holds the start (R516, R615). -/
structure State.mayBoot (s : State) : Prop where
  up : s.up = true
  cleared : s.memc.clearing = false
  step : s.bootStep = 6
  noHold : s.saf.secHold = false ∧ s.saf.startHold = false ∧ s.saf.nextStart = []

/-- A safe reset for error type `ty` on `unit` (R613): the next start takes cause 8 and tests the mechanism; a machine without a dump to write
starts again, one that dumps goes on with it. -/
structure State.safelyReset (s t : State) (ty unit : Nat) : Prop where
  cause : t.ctl.cause = 8
  restart : s.hldState = hldInit ∨ s.hldState = hldCharging → t.ctl.pwrseq = 1 ∧ t.ctl.pgood = 0 ∧ t.drf.media = s.drf.media ∧ t.hfe.ctx = [] ∧
    Tab.get 0 t.saf.det ty = min (Tab.get 0 s.saf.det ty + 1) 0xFFFFFFFF ∧ (ty, unit) ∈ t.saf.nextStart
  dumping : s.hldState = hldDumping → t.on (EVT_SRC.PEND 448) = true ∧ t.on (EVT_SRC.PEND 451) = true ∧
    (∀ f, f < 512 → s.fnExists f = true → (t.fn f).cfs = true) ∧
    Tab.get 0 t.saf.det ty = min (Tab.get 0 s.saf.det ty + 1) 0xFFFFFFFF ∧ (ty, unit) ∈ t.saf.nextStart ∧ keepsMem s t

/-- An error of type `ty` on `unit` with severity `sev` has been noted (R612, R615, R619). -/
structure State.noted (s t : State) (ty unit sev : Nat) : Prop where
  event : t.on (EVT_SRC.PEND 448) = true
  kind : t.fld SAF_STAT.TYPE = ty ∧ t.fld SAF_STAT.SEV = sev ∧ t.fld SAF_STAT.VERDICT = 1
  counted : Tab.get 0 t.saf.det ty = min (Tab.get 0 s.saf.det ty + 1) 0xFFFFFFFF
  tested : (ty, unit) ∈ (if nextStartTypes.contains ty then t.saf.nextStart else t.saf.tests)

/-- The registers that the note of an error writes. -/
def noteFields : List Fld := [SAF_STAT.SEV, SAF_STAT.TYPE, SAF_STAT.VERDICT, SAF_FADDR.ADDR]

/-! SRAM and tubs. -/

/-- An atomic access of master `m` to address `a` goes through to SRAM (R37, R439, R440). -/
structure State.atomicOk (s : State) (m : Nat) (wide : Bool) (a : Nat) : Prop where
  runs : s.masterRuns m a = true
  reach : s.atomicFault m wide a = none

/-- A request for tubs is one that a requester may make now (R456). -/
structure State.asks (s : State) (q : TubReq) : Prop where
  tag : tagOk q.tag = true
  idle : q.tag < 8 ∨ s.fld (TUB_RES.STATE (q.tag - 8)) ≠ 1
  count : 1 ≤ q.n ∧ q.n ≤ 1024

/-- A request is granted at once: none of the requester waits in the class, its reservation covers it, or nobody waits and the shared tubs do,
and so many are free (R457). -/
def State.grantsNow (s : State) (q : TubReq) : Bool :=
  !((s.tubQueue q.prot).any fun w => w.tag == q.tag) &&
    (s.tubNeed q == 0 || ((s.tubQueue q.prot).isEmpty && decide (s.tubNeed q ≤ s.freeShared q.prot))) && decide (q.n ≤ s.tubsFree q.prot)

/-- The request `q` has been granted with the tubs `l` as one chain, which the requester is told (R456, R457). -/
structure State.grantedTo (s t : State) (q : TubReq) (l : List Nat) : Prop where
  owned : ∀ x ∈ l, (t.tub x).owner = q.tag
  chain : t.chain l.length (l.headD 0) = l
  taken : ∀ x ∈ l, x ∉ t.tubs.freed
  core : 8 ≤ q.tag → t.fld (TUB_RES.STATE (q.tag - 8)) = 2 ∧ t.fld (TUB_RES.HEAD (q.tag - 8)) = l.headD 0 % 2 ^ 16
  engine : q.tag < 8 → Tab.get 0 t.tubs.hwRes q.tag = l.headD 0 + 1
  regs : keepsRegs [TUB_RES.STATE (q.tag - 8), TUB_RES.HEAD (q.tag - 8)] s t
  mem : keepsMem s t

/-! Registers that a change of a channel group may change beside the group's own. -/

/-- What the end of a loopback changes (R625). -/
def loopFields : List Fld := (List.range 4).flatMap fun k => [TST_LBSTAT.STATE k, TST_LBSTAT.REASON k]

/-- What a write of TST_LBCTL of slot `k` stores (R622). -/
def lbctlFields (k : Nat) : List Fld := [TST_LBCTL.INTF k, TST_LBCTL.DEPTH k, TST_LBCTL.PAT k, TST_LBCTL.INDEX k, TST_LBCTL.DURATION k]

/-- The state and counts of loopback slot `k`. -/
def lbstatFields (k : Nat) : List Fld := [TST_LBSTAT.STATE k, TST_LBSTAT.REASON k, TST_LBSTAT.ERRORS k, TST_LBBITS.BITS k, TST_LBLANE.LANES k]

/-- What a Reset that the device issues, or its end, changes of the current account (R66). -/
def acctFields : List Fld := [BEL_ACCT.ACCOUNT, BEL_ACCT.PEAK]

/-- What the work that media management goes on with by itself may change of the registers: the checkpoint, the lost stripes, the tubs it asks for
and gives back. -/
def mediaFields : List Fld :=
  [ZPM_STAT.CKPT_BUSY, MSH_LOST.NEW, MSH_STAT.TBLFULL, TUB_STAT.RELERR, TUB_WAITCNT.COUNT] ++
    (List.range 4).flatMap fun k => [TUB_RES.STATE k, TUB_RES.HEAD k]

/-- What the hold-up manager's check of its conditions may change (R414, R416). -/
def holdFields : List Fld := [HLD_STAT.STATE, HLD_CNT.CHECKS, ZPM_STAT.CKPT_BUSY]

/-- What a change of the state of group `g` changes: the state, write-protect, the channels' event words. -/
def groupFields (g : Nat) : List Fld :=
  [FCH_GSTAT.STATE g, FCH_GSTAT.WP g] ++ (List.range 8).flatMap fun k => [FCH_CHEVT.STATE g k, FCH_CHEVT.FAULT g k]

/-! An entry that stands alone. -/

/-- Media management has nothing to go on with: no erase waits for its reads, no copy and no collection runs, no migration waits for a row,
no word line waits for its fold. -/
structure State.mediaIdle (s : State) : Prop where
  erases : s.drf.eraseWait = []
  copies : s.med.copies = []
  migrations : s.med.migrWait = []
  collections : s.med.gc = []
  folds : ∀ e ∈ s.med.folds, e.2.groups = []

/-- The next ticketed entry is `tk` and the front end holds nothing else: its function and queue can take it and the function has a context
to spare after it, its completion queue has room, neither tokens nor a used-up deficit hold it back, and media management is idle. -/
structure State.onlyEntry (s : State) (tk : Tick) : Prop where
  tickets : s.hfe.tickets = [tk]
  contexts : s.hfe.ctx = []
  running : s.hfe.stopped = false
  fn : tk.fn < 512
  deficit : 0 < (s.fn tk.fn).deficit
  prio : (s.sq tk.fn tk.sqid).prio < 4
  tokens : s.on FNS_CTRL.TOKEN_EN = false
  room : s.cqRoom tk.fn (s.sq tk.fn tk.sqid).cqid = true
  limit : 2 ≤ s.cmdLimit tk.fn
  media : s.mediaIdle

/-- That entry is of an I/O queue, and neither the zone table nor a journal holds its admission back. -/
structure State.onlyIo (s : State) (tk : Tick) : Prop where
  only : s.onlyEntry tk
  queue : tk.sqid ≠ 0
  table : s.on ZPM_CTRL.EN = true
  journal : s.journalFull = false
  mapJournal : s.mapJournalFull = false

/-- The completion of that entry's command. -/
def State.cplOf (s : State) (tk : Tick) (cid status dw0 : Nat) (data : List Nat) : Cpl :=
  { fn := tk.fn, cqid := (s.sq tk.fn tk.sqid).cqid, sqid := tk.sqid, cid := cid, ticket := tk.ticket, status := status, dw0 := dw0,
    data := data }

/-- The command has completed, and nothing else has. -/
def State.completes (s t : State) (tk : Tick) (cid status dw0 : Nat) (data : List Nat) : Prop :=
  t.hfe.posted = s.hfe.posted ++ [s.cplOf tk cid status dw0 data] ∧ t.hfe.tickets = [] ∧ t.hfe.ctx = []

/-- That entry is of the admin queue, which completes to completion queue 0. -/
structure State.onlyAdmin (s : State) (tk : Tick) : Prop where
  only : s.onlyEntry tk
  queue : tk.sqid = 0
  cq : (s.sq tk.fn 0).cqid = 0

/-- The command has completed, after what its own effect completed. -/
def State.ends (s t : State) (tk : Tick) (cid status dw0 : Nat) (data : List Nat) : Prop :=
  t.hfe.posted.getLast? = some (s.cplOf tk cid status dw0 data) ∧ t.hfe.tickets = [] ∧ t.hfe.ctx = []

/-- The command has run, and waits for the configuration record that holds what it wrote. -/
def State.waitsRecord (s t : State) (tk : Tick) : Prop :=
  t.hfe.posted = s.hfe.posted ∧ t.hfe.tickets = [] ∧ t.hfe.ctx.map (fun c => (c.ticket, c.status)) = [(tk.ticket, none)] ∧
    t.mgt.waits.getLast?.map (·.reply.dest) = some tk.ticket ∧ t.mgt.recNow.isSome = true

/-- It is a Zone Management Send for zone `i`, named by its first block, of a namespace attached to the function. -/
structure State.actsOn (s : State) (tk : Tick) (nsid slba i : Nat) : Prop where
  only : s.onlyIo tk
  attached : s.nsFor tk.fn nsid = true
  zoned : (s.ns (nsid - 1)).kind = 2
  inside : slba < (s.ns (nsid - 1)).nsze
  first : slba % (s.ns (nsid - 1)).zoneBlocks = 0
  zone : i = s.zoneOf nsid slba
  ours : (s.zone i).nsidx = nsid - 1
  queue : 0 < (s.sq tk.fn tk.sqid).cqid ∧ (s.sq tk.fn tk.sqid).cqid < 65536

/-! Requests of the shelf network. -/

/-- The node hears the request with header `h`, which asks its row's own opcode without authentication and is no repeat (R566, R567, R570). -/
def State.hears (s : State) (h : Esnex) : Prop :=
  s.up = true ∧ s.on MGT_CTRL.NET_EN = true ∧ h.opcode = 0 ∧ h.auth = false ∧ h.complete = true ∧ h.version = 1 ∧ h.dst ≠ 0xFF ∧
    h.dst = s.fld MGT_STAT.NODE ∧ s.mgt.waits = [] ∧ s.repeated h h.src = none

/-- The answer to that request has gone out, and is kept against a repeat (R570). -/
def State.answers (s t : State) (h : Esnex) (op abort : Nat) (data : List Nat) : Prop :=
  t.mgt.sent = s.mgt.sent ++ [esnexReply h op abort data] ∧ Tab.get none t.mgt.last h.src = some (h.seq, esnexReply h op abort data)

/-! Which registers, and only which. -/

/-- Every register field but those of `l` reads as before, and every byte of on-chip memory. -/
def onlyRegs (l : List Fld) (s t : State) : Prop := (∀ g : Fld, (∀ f ∈ l, g.key ≠ f.key) → t.fld g = s.fld g) ∧ keepsMem s t

/-- The access of master `m` to address `a` ended with an access fault of cause `c`, captured unless an earlier capture is unread (R45, R47),
and has no other effect. -/
structure State.faulted (s t : State) (m a c : Nat) : Prop where
  captured : s.on SYS_BUSERR.VALID = false →
    t.fld SYS_BUSERR.CAUSE = c ∧ t.fld SYS_BUSERR.MASTER = m ∧ t.fld SYS_BUSERRA.ADDR = a % 2 ^ 40
  kept : s.on SYS_BUSERR.VALID = true → t.fld SYS_BUSERR.CAUSE = s.fld SYS_BUSERR.CAUSE ∧
    t.fld SYS_BUSERR.MASTER = s.fld SYS_BUSERR.MASTER ∧ t.fld SYS_BUSERRA.ADDR = s.fld SYS_BUSERRA.ADDR
  valid : t.on SYS_BUSERR.VALID = true
  counted : t.fld SYS_BUSERR.COUNT = min (s.fld SYS_BUSERR.COUNT + 1) 0xFFFF
  reported : Tab.get 0 t.bus.rfault m = c
  only : onlyRegs [SYS_BUSERR.VALID, SYS_BUSERR.CAUSE, SYS_BUSERR.MASTER, SYS_BUSERR.COUNT, SYS_BUSERRA.ADDR] s t

/-- RW fields of registers whose write has no effect beyond the field (R14). -/
def plainRw : List Fld :=
  [BEL_MODE_STAGE.WORD, FNS_CTRL.SHARE_EN, FNS_CTRL.TOKEN_EN, FNS_ACCSEL.ACCOUNT, FNS_ACCSEL.DIE, MED_UDATA.RECORD, MED_RCPSEL.RECIPE,
   MED_RCPSEL.STEP, ECC_THR.RELOC, ECC_THR.REPORT, ECC_DSEL.KIND, ECC_DSEL.DIE, MSH_DARG.SSET, MSH_DARG.POS, MSH_PSEL.SSET, MSH_PSEL.POS,
   MSH_RCPSEL.RECIPE, MSH_RCPSEL.WORD, MEM_CSEL.MASTER, TUB_WSEL.SEL, THM_NAND.TEMP]

/-- RC fields of registers that hold nothing else a read changes (R14). -/
def plainRc : List Fld :=
  [BEL_ERRCNT.LOSSES, BEL_ERRCNT.MISPLACED, HFE_ERRCNT.DBERR, HFE_ERRCNT.VOIDS, FNS_DEFCNT.COUNT, MED_STAT.LAYERR, MED_STAT.RCPERR,
   MED_STAT.UERR, MED_STAT.MERR, MED_ERRCNT.RETIRED, MED_ERRCNT.RBFAIL, MED_MAPMISS.COUNT, ECC_GUARDCNT.READFAIL, ECC_GUARDCNT.WRITEFAIL,
   MSH_PATCNT.PASSES, MSH_PATCNT.LOC, MSH_PATCNT.UNLOC, HLD_CNT.RIDES, HLD_CNT.CHECKS, MEM_STAT.LOCKERR, MEM_STAT.RETERR, MEM_STAT.PARCNT,
   TUB_WAITCNT.COUNT, CIP_ERRCNT.XTSMIS, CIP_ERRCNT.GCMMIS, CIP_ERRCNT.TAGFAIL, CIP_RSWCNT.COUNT, MGT_NETCNT.DROPPED, MGT_NETCNT.RXERR,
   SAF_D2DCNT.RETRIED, SAF_D2DCNT.FAILED]

/-- RL/RH pairs whose low half's read has no effect beyond the shadow (R42). -/
def plainRl : List Fld := [SYS_REFCNT.COUNT, SYS_BUSERRA.ADDR, BEL_NOW.TIME, AON_RTC.COUNT]

end Sys2Proof.Machine
end

