-- ==== Sys2Proof/Machine/Touch.lean ====
section
/-! DEFINITION. Machine/Touch.lean: which parts of the state each command may change at most, all forms and all states together: the
command's own effect, the access fault and the clock of a gated domain where it is an access (R40, R45), and what the assertion of an
event source may change (R502, R572, R591). -/

namespace Sys2Proof.Machine

/-- Every part but the queue of waiting commands. -/
def everyPart : Nat := 72057594004373503

/-- Every part but those of `l` and the queue. -/
def othersThan (l : List Part) : Nat := everyPart ^^^ parts l

/-- The parts a command may change. -/
def mayChange : Instr → Nat
  | .registerWrite .. | .highHalfWrite .. | .rcRead .. | .rlRead .. | .thermalShutdown | .watchdogExpire .. | .heartbeatMissing ..
  | .lockstepMismatch .. | .referenceClockLost | .selfTestVerdict .. =>
      othersThan [.ident]
  | .amo .. | .sc .. =>
      parts [.events, .mem, .lastAccess, .bus, .memc]
  | .lr .. =>
      parts [.events, .lastAccess, .bus, .memc]
  | .shbellPulse .. =>
      othersThan [.regSys, .regPci, .regHfe, .regFns, .regMed, .regMem, .regCip, .regEvt, .regMgt, .regEvr, .regAon, .ident, .mem, .bus, .pci,
        .media, .memc, .cip, .ctl, .dict]
  | .plcaBeacon .. =>
      othersThan [.regSys, .regPci, .regHfe, .regFns, .regMed, .regMem, .regCip, .regEvt, .regEvr, .regAon, .free, .ident, .mem, .bus, .pci,
        .media, .memc, .cip, .ctl, .dict]
  | .slotWindowClose =>
      parts [.regBel, .events, .lastAccess, .bell, .engines, .notices, .tly, .evr]
  | .slotBoundary .. | .frameStart =>
      othersThan [.regSys, .regPci, .regHfe, .regFns, .regMed, .regMem, .regCip, .regEvt, .regMgt, .regEvr, .regAon, .free, .ident, .mem, .bus,
        .pci, .media, .memc, .cip, .ctl, .dict]
  | .belCtrlWrite .. =>
      parts [.regBel, .regTst, .events, .lastAccess, .bell, .engines, .notices, .evr, .tst]
  | .belBudgetWrite .. =>
      parts [.regBel, .events, .lastAccess, .engines, .notices, .evr]
  | .modeCommitRequest .. =>
      parts [.regBel, .events, .lastAccess, .bell]
  | .unitEpochReport .. =>
      parts [.regBel, .regFch, .regDrf, .regEcc, .regThm, .events, .lastAccess, .bell, .engines, .pow, .notices, .evr]
  | .powerupLockWaitExpire =>
      parts [.bell]
  | .perstDeassert .. =>
      parts [.regPci, .regHfe, .regTst, .pci, .tst]
  | .perstAssert .. | .hotReset .. | .linkDisable .. | .linkLoss .. =>
      parts [.regPci, .regHfe, .regZpm, .regMsh, .regTub, .regTst, .events, .lastAccess, .pci, .hfe, .zpm, .med, .engines, .msh, .tubs, .notices,
        .tly, .evr, .tst, .nv]
  | .flitCrcFail .. | .l0pRequest .. | .linkUp .. | .linkL1Exit .. =>
      parts [.regPci, .pci]
  | .l0pWidthWrite .. | .cfgReadySet .. =>
      parts [.regPci, .events, .lastAccess, .pci]
  | .cfgReadyTimeout .. =>
      parts [.regPci, .events, .lastAccess, .pci, .hfe, .engines, .notices, .evr]
  | .configurationRequest .. =>
      parts [.regHfe, .regZpm, .regMsh, .regTub, .regPwr, .events, .free, .lastAccess, .pci, .hfe, .zpm, .med, .engines, .msh, .tubs, .ctl,
        .notices, .tly, .evr, .nv]
  | .atsInvalidation .. =>
      parts [.pci]
  | .functionLevelReset .. | .controllerReset .. | .cqHeadDoorbell .. | .deferredDoorbellObserve | .admitEnSet .. =>
      parts [.regHfe, .regZpm, .regMsh, .regTub, .events, .lastAccess, .hfe, .zpm, .med, .engines, .msh, .tubs, .notices, .tly, .evr, .nv]
  | .vfEnableClear .. =>
      parts [.regHfe, .regZpm, .regMsh, .regTub, .events, .lastAccess, .pci, .hfe, .zpm, .med, .engines, .msh, .tubs, .notices, .tly, .evr, .nv]
  | .controllerEnable .. =>
      parts [.regTst, .events, .lastAccess, .hfe, .engines, .notices, .evr, .tst]
  | .sqTailDoorbell .. =>
      parts [.regHfe, .regZpm, .regMsh, .regTub, .regPwr, .events, .lastAccess, .hfe, .zpm, .med, .engines, .msh, .tubs, .ctl, .notices, .tly,
        .evr, .nv]
  | .admission .. | .commandDispatch | .read .. | .write .. | .writeZeroes .. | .flush .. | .verify .. | .orderFence .. | .zoneAppend ..
  | .datasetManagement .. | .ioManagementSend .. | .ioManagementReceive .. | .zoneOpen .. | .zoneClose .. | .zoneFinish .. | .zoneReset ..
  | .zoneOffline .. | .zoneManagementReceive .. | .identify .. | .getLogPage .. | .lostStripesLog .. | .tallySnapshotLog ..
  | .eventRecorderWindowLog .. | .createIoSubmissionQueue .. | .createIoCompletionQueue .. | .deleteIoSubmissionQueue .. | .deleteIoCompletionQueue ..
  | .setFeatures .. | .getFeatures .. | .setNumberOfQueues .. | .setPowerManagement .. | .setQueueOrdering .. | .getQueueOrdering ..
  | .setFunctionWeights .. | .getFunctionWeights .. | .setTailClass .. | .getTailClass .. | .setFdp .. | .abort .. | .asynchronousEventRequest ..
  | .namespaceCreate .. | .namespaceDelete .. | .namespaceAttachment .. | .formatNvm .. | .firmwareImageDownload .. | .firmwareCommit ..
  | .deviceSelfTest .. | .sanitizeBlockErase .. | .sanitizeCryptoErase .. | .nvmeMiSend .. | .nvmeMiReceive .. | .dictionaryRead ..
  | .dictionaryWrite .. =>
      othersThan [.ident, .mem, .bus, .pci, .fns, .fch, .media, .ecc, .memc, .saf]
  | .hostDataFetch .. =>
      parts [.regHfe, .regZpm, .regEcc, .regMsh, .regTub, .regCip, .regSaf, .events, .lastAccess, .pci, .hfe, .zpm, .med, .engines, .msh, .tubs,
        .notices, .tly, .evr, .saf, .nv]
  | .pieceDispatch .. | .layout .. | .mapflush .. | .kilnEn .. | .migrate .. =>
      parts [.regZpm, .regMed, .regMsh, .regTub, .events, .lastAccess, .hfe, .zpm, .med, .engines, .msh, .tubs, .notices, .tly, .evr, .nv]
  | .pieceCommit .. | .ckptNow .. | .rebuildRowTake .. | .reshapeStart .. | .reshapeCopySwitch .. =>
      parts [.regZpm, .regMsh, .regTub, .events, .lastAccess, .hfe, .zpm, .med, .engines, .msh, .tubs, .notices, .tly, .evr, .nv]
  | .hfeQallocWrite .. | .hfeCmdlimWrite .. =>
      parts [.regHfe, .events, .lastAccess, .engines, .notices, .evr]
  | .mailboxInPost .. | .mailboxOutAck .. | .mailboxRingCommit .. =>
      parts [.events, .lastAccess, .hfe, .engines, .notices, .evr]
  | .outPost .. | .inDone .. =>
      parts [.regFns, .events, .lastAccess, .hfe]
  | .zpmSsetWrite .. | .zpmPgrpWrite .. =>
      parts [.regZpm, .events, .lastAccess]
  | .dcmdRead .. | .setAttr .. | .readOnly .. | .offline .. | .setFwtag .. =>
      parts [.regZpm, .regTub, .events, .lastAccess, .hfe, .zpm, .med, .engines, .msh, .tubs, .notices, .tly, .evr, .nv]
  | .zoneCheckpointEnd .. | .mapFlushEnd =>
      parts [.regZpm, .regMsh, .regTub, .events, .lastAccess, .hfe, .zpm, .med, .engines, .msh, .hld, .tubs, .notices, .tly, .evr, .nv]
  | .ucmdRead .. | .ucmdSet .. | .recipeStepWrite .. =>
      parts [.regMed, .events, .lastAccess, .med]
  | .healthWrite =>
      parts [.nv]
  | .pwrOn .. =>
      parts [.regFch, .events, .lastAccess, .bell, .fch]
  | .pwrOff .. =>
      parts [.regBel, .regZpm, .regFch, .regHld, .regTst, .events, .lastAccess, .zpm, .med, .fch, .engines, .hld, .notices, .evr, .tst, .nv]
  | .groupReady .. =>
      parts [.regZpm, .regFch, .regHld, .regTst, .events, .lastAccess, .zpm, .med, .fch, .engines, .hld, .notices, .evr, .tst, .nv]
  | .rampWaitEnd .. =>
      parts [.regBel, .regFch, .regTst, .events, .lastAccess, .fch, .engines, .notices, .evr, .tst]
  | .groupDieResetTimeout .. | .vccqUndervoltage .. | .fenceSet .. | .dieWaitTimeout .. | .fail .. | .retire .. | .runTimeLimitExpire .. =>
      othersThan [.regSys, .regPci, .regHfe, .regFns, .regMem, .regCip, .regEvt, .regPwr, .regThm, .regMgt, .regEvr, .regTly, .regAon, .free,
        .ident, .bell, .pci, .memc, .cip, .ctl, .dict, .mgt]
  | .timingSetWrite .. =>
      parts [.regFch, .events, .lastAccess]
  | .calibrationEntryWrite .. =>
      parts [.regFch, .events, .lastAccess, .fch]
  | .descriptorSubmit .. =>
      parts [.regDrf, .events, .mem, .lastAccess, .bus, .engines]
  | .hwDescriptorSubmit .. =>
      parts [.mem, .bus, .engines]
  | .mediaRead .. | .erase .. | .dieReset .. | .setfeat .. | .getfeat .. | .readid .. =>
      othersThan [.regSys, .regPci, .regHfe, .regFch, .regHld, .regMem, .regCip, .regEvt, .regPwr, .regThm, .regMgt, .regEvr, .regTly, .regTst,
        .regAon, .free, .ident, .pci, .fch, .media, .memc, .cip, .ctl, .pow, .dict, .mgt, .tst]
  | .prog .. | .progPass .. =>
      parts [.regFns, .regZpm, .regMed, .regDrf, .regEcc, .regMsh, .regTub, .regSaf, .events, .mem, .lastAccess, .bus, .hfe, .fns, .zpm, .med,
        .engines, .ecc, .msh, .hld, .tubs, .notices, .tly, .evr, .saf, .nv]
  | .train .. =>
      othersThan [.regSys, .regPci, .regHfe, .regHld, .regMem, .regCip, .regEvt, .regPwr, .regThm, .regMgt, .regEvr, .regTly, .regTst, .regAon,
        .free, .ident, .pci, .fch, .media, .memc, .cip, .ctl, .pow, .dict, .mgt, .tst]
  | .lib .. =>
      parts [.regFns, .regZpm, .regMed, .regDrf, .regEcc, .regMsh, .regTub, .regSaf, .events, .free, .mem, .lastAccess, .bus, .hfe, .fns, .zpm,
        .med, .engines, .ecc, .msh, .hld, .tubs, .notices, .tly, .evr, .saf, .nv]
  | .run .. =>
      othersThan [.regSys, .regPci, .regHfe, .regMem, .regCip, .regEvt, .regPwr, .regMgt, .regEvr, .regTly, .regTst, .regAon, .free, .ident, .pci,
        .media, .memc, .cip, .ctl, .dict, .mgt, .tst]
  | .loadedConfirm .. =>
      parts [.regBel, .bell, .med, .engines, .tly, .nv]
  | .statusPoll .. =>
      othersThan [.regSys, .regPci, .regHfe, .regFns, .regHld, .regMem, .regCip, .regEvt, .regPwr, .regMgt, .regEvr, .regTly, .regAon, .ident,
        .pci, .memc, .cip, .ctl, .dict, .mgt]
  | .tailSuspend .. =>
      parts [.regDrf, .engines, .tly]
  | .suspendTimeout .. =>
      parts [.engines]
  | .descriptorMaxwaitExpire .. | .descriptorWithdraw .. =>
      parts [.regZpm, .regMed, .regDrf, .regEcc, .regMsh, .regTub, .regSaf, .events, .mem, .lastAccess, .bus, .hfe, .fns, .zpm, .med, .engines,
        .ecc, .msh, .hld, .tubs, .notices, .tly, .evr, .saf, .nv]
  | .cqHeadAdvance .. =>
      parts [.regDrf, .events, .mem, .lastAccess, .bus, .engines, .notices, .evr]
  | .engineRun .. =>
      parts [.regZpm, .regDrf, .regHld, .regTst, .events, .lastAccess, .zpm, .med, .engines, .hld, .notices, .evr, .tst, .nv]
  | .engineStop .. =>
      parts [.regBel, .regZpm, .regFch, .regDrf, .regEcc, .regHld, .regThm, .events, .lastAccess, .bell, .zpm, .med, .engines, .hld, .pow,
        .notices, .evr, .nv]
  | .engineReset .. | .cmd .. =>
      othersThan [.regSys, .regPci, .regHfe, .regFns, .regMem, .regCip, .regEvt, .regPwr, .regMgt, .regEvr, .regTly, .regTst, .regAon, .free,
        .ident, .pci, .memc, .cip, .ctl, .dict, .mgt, .tst]
  | .engineConfigWrite .. | .programStoreWrite .. =>
      parts [.regDrf, .events, .lastAccess, .engines]
  | .addr .. | .dout .. | .din .. | .waitst .. | .wait .. | .sett .. | .fchk .. | .yield .. | .done .. | .ldi .. | .ldd .. | .std .. | .add ..
  | .and .. | .or .. | .xor .. | .shl .. | .shr .. | .br .. | .call .. | .ret .. =>
      othersThan [.regSys, .regPci, .regHfe, .regFns, .regMem, .regCip, .regEvt, .regPwr, .regMgt, .regEvr, .regTly, .regTst, .regAon, .free,
        .ident, .pci, .media, .memc, .cip, .ctl, .dict, .mgt, .tst]
  | .programStoreRead .. =>
      parts [.regDrf, .events, .lastAccess]
  | .localMemoryWindowAccess .. =>
      parts [.regDrf, .events, .free, .lastAccess, .engines]
  | .codewordDecodeEnd .. =>
      othersThan [.regSys, .regPci, .regHfe, .regFns, .regHld, .regMem, .regCip, .regEvt, .regPwr, .regMgt, .regEvr, .regTly, .regTst, .regAon,
        .ident, .pci, .media, .memc, .cip, .ctl, .dict, .mgt, .tst]
  | .candPop .. =>
      parts [.events, .lastAccess, .bus, .ecc]
  | .dclr .. =>
      parts [.events, .lastAccess, .ecc]
  | .eccProfileWrite .. =>
      parts [.regEcc, .events, .lastAccess, .engines, .notices, .evr]
  | .mshSsetWrite .. | .positionWrite .. | .mashRecipeWrite .. | .patrolRead .. =>
      parts [.regMsh, .events, .lastAccess, .engines, .msh, .notices, .evr]
  | .assign .. =>
      parts [.regZpm, .regDrf, .regMsh, .regHld, .events, .lastAccess, .zpm, .med, .engines, .msh, .hld, .notices, .evr, .nv]
  | .readmit .. =>
      parts [.regZpm, .regFch, .regDrf, .regMsh, .regHld, .events, .lastAccess, .zpm, .med, .engines, .msh, .hld, .notices, .evr, .nv]
  | .dieStateRead .. =>
      parts [.regZpm, .regMsh, .regHld, .events, .lastAccess, .zpm, .med, .engines, .hld, .notices, .evr, .nv]
  | .dieProbe .. =>
      parts [.regDrf, .regMsh, .events, .lastAccess, .engines, .msh, .notices, .evr]
  | .dieSelfTestEnd .. =>
      othersThan [.regSys, .regPci, .regHfe, .regFns, .regHld, .regMem, .regCip, .regEvt, .regPwr, .regThm, .regMgt, .regEvr, .regTly, .regAon,
        .free, .ident, .bell, .pci, .memc, .cip, .ctl, .dict, .mgt]
  | .mainSenseLow .. =>
      parts [.regHld, .events, .lastAccess, .engines, .hld, .pow, .notices, .evr]
  | .lossDebounceExpire =>
      othersThan [.regSys, .regPci, .regHfe, .regFns, .regMem, .regCip, .regEvt, .regMgt, .regEvr, .regTly, .regAon, .ident, .pci, .memc, .cip,
        .dict, .mgt]
  | .lossTimerClear .. =>
      parts [.regZpm, .regHld, .events, .lastAccess, .zpm, .med, .engines, .hld, .notices, .tly, .evr, .nv]
  | .goodDebounceExpire =>
      parts [.regZpm, .regHld, .events, .lastAccess, .zpm, .med, .engines, .hld, .ctl, .notices, .evr, .nv]
  | .huSenseCrossing .. | .checkNow .. | .drain .. | .holdupEnableWrite .. | .drainComplete =>
      parts [.regZpm, .regHld, .events, .lastAccess, .zpm, .med, .engines, .hld, .notices, .evr, .nv]
  | .storeCheckEnd .. =>
      parts [.regZpm, .regHld, .events, .free, .lastAccess, .hfe, .zpm, .med, .engines, .hld, .dict, .notices, .tly, .evr, .nv]
  | .storeCheckInterval =>
      parts [.regHld, .hld]
  | .holdupArm =>
      parts [.regZpm, .regMsh, .regHld, .regTub, .events, .lastAccess, .hfe, .zpm, .med, .engines, .msh, .hld, .tubs, .notices, .tly, .evr, .nv]
  | .dumpEnd | .supplyRetry | .restart .. | .entryComplete | .supplyMonitorTrip .. | .vaonLoss =>
      othersThan [.ident, .media]
  | .doneRestart =>
      parts [.regHld, .regAon, .hld, .ctl]
  | .bankAssignWrite .. =>
      parts [.regMem, .events, .lastAccess]
  | .lock .. | .rowRetire .. =>
      parts [.regMem, .events, .lastAccess, .engines, .memc, .notices, .evr]
  | .cclr .. =>
      parts [.events, .lastAccess, .memc]
  | .scrubRead .. =>
      parts [.regTub, .regMem, .regSaf, .events, .lastAccess, .engines, .tubs, .memc, .notices, .evr, .saf]
  | .tubEnable .. | .alloc .. | .append .. | .free .. | .trim .. =>
      parts [.regTub, .events, .lastAccess, .engines, .tubs, .notices, .tly, .evr]
  | .tubGrant .. =>
      parts [.regTub, .tubs, .tly]
  | .tubWindowWrite .. =>
      parts [.regTub, .events, .lastAccess, .tubs]
  | .gcmTailWrite .. | .rekey .. =>
      parts [.regCip, .events, .mem, .lastAccess, .bus, .engines, .cip, .notices, .evr]
  | .encrypt .. | .decrypt .. =>
      parts [.regCip, .regSaf, .events, .mem, .lastAccess, .bus, .engines, .cip, .notices, .evr, .saf]
  | .rngRead .. =>
      parts [.events, .lastAccess, .cip]
  | .drbgHealthFail .. | .force .. =>
      parts [.regCip, .events, .lastAccess, .engines, .cip, .notices, .evr]
  | .vaonPowerOn =>
      parts [.regAon, .ctl]
  | .pgoodRise .. =>
      parts [.regSys, .regPwr, .regMgt, .regSaf, .regAon, .events, .lastAccess, .bell, .engines, .memc, .ctl, .notices, .evr]
  | .pgoodTimeout .. =>
      parts [.regAon, .ctl, .pow]
  | .sramClearEnd =>
      parts [.regSys, .regSaf, .events, .mem, .lastAccess, .engines, .memc, .notices, .evr, .saf]
  | .bootImageLoad .. =>
      parts [.regSys, .regCip, .regTst, .events, .mem, .lastAccess, .engines, .cip, .ctl, .notices, .evr]
  | .configRecordLoad =>
      othersThan [.free, .ident, .mem, .bus, .fns, .media, .ecc, .msh, .tubs, .memc]
  | .metadataLoad =>
      othersThan [.regPci, .regHfe, .regFns, .regHld, .regMem, .regCip, .regEvt, .regPwr, .regThm, .regMgt, .regEvr, .regTly, .regAon, .free,
        .ident, .bell, .pci, .memc, .cip, .ctl, .dict, .mgt]
  | .dumpLoad .. =>
      parts [.regSys, .regHld, .events, .lastAccess, .hfe, .med, .engines, .msh, .hld, .tubs, .notices, .tly, .evr, .nv]
  | .zoneTableReload =>
      parts [.regSys, .regZpm, .regTub, .events, .lastAccess, .hfe, .zpm, .med, .engines, .msh, .tubs, .notices, .tly, .evr, .nv]
  | .dumpApplication =>
      parts [.regSys, .regZpm, .regMsh, .regTub, .events, .lastAccess, .hfe, .zpm, .med, .engines, .msh, .tubs, .notices, .tly, .evr, .nv]
  | .coreRun .. | .coreReset .. =>
      parts [.regSys, .regTub, .regSaf, .events, .lastAccess, .bus, .engines, .tubs, .ctl, .notices, .tly, .evr, .saf]
  | .eventClaim .. =>
      parts [.events, .lastAccess]
  | .softwareTrigger .. | .idleEntry =>
      parts [.events, .lastAccess, .engines, .notices, .evr]
  | .asyncEventRaise .. =>
      parts [.events, .lastAccess, .hfe, .tly]
  | .powerRequest .. =>
      parts [.regZpm, .regHld, .regPwr, .events, .lastAccess, .zpm, .med, .engines, .hld, .pow, .notices, .evr, .nv]
  | .domainGate .. | .domainPowerDown .. | .domainPowerOn .. =>
      parts [.regSys, .regTub, .regCip, .regPwr, .events, .lastAccess, .bus, .engines, .tubs, .notices, .tly, .evr]
  | .domainAnswer .. =>
      parts [.regCip, .regPwr, .events, .lastAccess, .engines, .cip, .ctl, .pow, .notices, .evr]
  | .domainDelayTimeout .. =>
      parts [.regPwr, .events, .lastAccess, .engines, .ctl, .pow, .notices, .evr]
  | .mainWake | .rtcAlarm | .esnexWakeFrame =>
      parts [.regPwr, .regAon, .events, .lastAccess, .pci, .hfe, .engines, .ctl, .pow, .notices, .evr]
  | .gpioWake .. =>
      parts [.regPwr, .regAon, .events, .lastAccess, .pci, .hfe, .engines, .ctl, .pow, .notices, .mgt, .evr]
  | .thermalRestart =>
      parts [.regHld, .regAon, .ctl, .pow]
  | .suspclr .. =>
      parts [.regThm, .events, .lastAccess]
  | .mgtRead .. | .mgtWrite .. | .esnexWrite .. | .writeBlock .. | .vpdWrite .. =>
      othersThan [.free, .ident, .mem, .bus, .pci, .fns, .fch, .media, .ecc, .msh, .tubs, .memc, .saf]
  | .frameReject .. =>
      parts [.regMgt]
  | .esnexRead .. | .readBlock .. | .sessionOpen .. | .sessionClose .. =>
      parts [.regMgt, .events, .lastAccess, .engines, .cip, .dict, .notices, .mgt, .evr]
  | .notify .. =>
      parts [.regMgt, .events, .lastAccess, .bell, .engines, .notices, .evr]
  | .snapshot .. =>
      parts [.regMgt, .events, .lastAccess, .engines, .cip, .dict, .notices, .mgt, .tly, .evr]
  | .configRecordWriteDone | .configCopyTimeout .. =>
      parts [.regZpm, .regMsh, .regTub, .regMgt, .events, .lastAccess, .hfe, .zpm, .med, .engines, .msh, .tubs, .cip, .notices, .mgt, .tly, .evr,
        .nv]
  | .stagingExpire .. | .nvmSubsystemHealthStatusPoll | .controllerHealthStatusPoll .. | .configurationGet .. | .configurationSet .. | .vpdRead .. =>
      parts [.mgt]
  | .sessionIdleExpire .. =>
      parts [.events, .lastAccess, .engines, .cip, .notices, .mgt, .evr]
  | .networkDownTimeout =>
      parts [.regMgt, .regTst, .events, .lastAccess, .engines, .notices, .evr, .tst]
  | .mctpMessage .. =>
      parts [.events, .lastAccess, .engines, .notices, .mgt, .evr]
  | .readNvmeMiDataStructure .. =>
      parts [.free, .mgt]
  | .nvmeAdminCommand .. =>
      othersThan [.ident, .mem, .bus, .pci, .fns, .fch, .media, .ecc, .msh, .tubs, .memc, .saf]
  | .snap .. =>
      parts [.events, .lastAccess, .tly]
  | .tallyValueRead .. =>
      parts [.events, .lastAccess, .bus]
  | .softTrigger .. =>
      parts [.events, .lastAccess, .engines, .evr]
  | .recorderFlush .. | .step .. | .clrlast .. =>
      parts [.regEvr, .events, .lastAccess, .engines, .evr]
  | .recorderFlushTimer =>
      parts [.events, .engines, .evr]
  | .recordFetch .. =>
      parts [.regEvr, .events, .lastAccess, .bus]
  | .recordFetchDone .. =>
      parts [.regEvr]
  | .kick .. =>
      parts [.regSaf, .events, .lastAccess, .saf]
  | .periodicSelfTest .. =>
      parts [.regSaf, .events, .lastAccess, .hfe, .med, .engines, .notices, .tly, .evr, .saf]
  | .loopbackStart .. | .loopbackStop .. =>
      othersThan [.regSys, .regFns, .regMed, .regHld, .regMem, .regCip, .regEvt, .regPwr, .regMgt, .regEvr, .regTly, .regSaf, .regAon, .free,
        .ident, .mem, .bus, .fns, .media, .ecc, .hld, .memc, .cip, .ctl, .dict, .mgt, .saf]
  | .loopbackDurationEnd .. =>
      parts [.regPci, .regHfe, .regZpm, .regFch, .regMsh, .regTub, .regTst, .events, .lastAccess, .pci, .hfe, .zpm, .med, .fch, .engines, .msh,
        .tubs, .notices, .tly, .evr, .tst, .nv]
  | .bistStart .. | .debugUnlockRequest .. =>
      parts [.regTst, .events, .lastAccess, .tst]
  | .bistDone .. =>
      parts [.regTst, .mem, .tst]
  | .debugUnlockVerdict .. =>
      parts [.regTst, .cip]
  | .idcode | .samplePreload .. | .extest | .highz | .clamp | .extestPulse | .extestTrain | .dtmcs .. | .dmi .. | .bypass .. | .debugHalt .. =>
      parts [.tst]
  | .lampCrystalStable =>
      parts [.regSys]
  | .recoveryEntry .. =>
      parts [.regPci, .regTst, .events, .lastAccess, .pci, .engines, .notices, .evr, .tst]
  | .linkL1Entry .. =>
      parts [.regPci, .regTst, .pci, .tst]
  | .linkL2Entry .. =>
      parts [.regPci, .regTst, .tst]

end Sys2Proof.Machine
end

