-- ==== Sys2Proof/Safety.lean ====
section
/-! DEFINITION. Safety.lean: what a safe run of the block is, in the terms the statements use. -/

namespace Sys2Proof.Safety

open Sys2Proof.Machine

/-- Does a step answer a next state? -/
def advances (s : State) : Prop := ∃ t, step s = .next t

/-- The invariant of the sparse stores software reaches: register fields and on-chip memory keep their canonical form. -/
def Inv (s : State) : Prop := Memory.wf s.bus.mem = true

end Sys2Proof.Safety
end

