-- ==== Sys2Proof/WellFormed.lean ====
section
/-! DEFINITION. WellFormed.lean: the operand ranges of the commands: a master is 0 to 15 (R37), a function 0 to 511 (R97),
an engine 0 to 127 (R295), a register word 32 bits (R14), and so on. A sender sends well-formed commands only. -/

namespace Sys2Proof

/-- The operand lies below its bound. -/
def fits (v bound : Nat) : Bool := decide (v < bound)

/-- Bounds of 16-, 20-, 32-, 40- and 64-bit operands. -/
def w16 : Nat := 65536
/-- 2^20 -/
def w20 : Nat := 1048576
/-- 2^32 -/
def w32 : Nat := 4294967296
/-- 2^40 -/
def w40 : Nat := 1099511627776
/-- 2^64 -/
def w64 : Nat := 18446744073709551616

/-- The sizes of a plain access: 1, 2, 4 or 8 bytes (R38). -/
def accessSize (n : Nat) : Bool := n == 1 || n == 2 || n == 4 || n == 8

/-- Are the operands of a request of the host link in their ranges (03)? -/
def cfgReqOk : CfgReq → Bool
  | .readBarSize b => fits b 6
  | .setVfEnable n => fits n w16
  | .setBus b => fits b 256
  | .setPayload n => fits n 8192
  | .setReadRequest n => fits n 8192
  | .readAerHeader w => fits w 14
  | .clearAer b => fits b w32
  | .clearAerCorrectable b => fits b w32
  | .atsTranslation a => fits a w64
  | .barRead b o n => fits b 6 && fits o 131072 && accessSize n
  | .barWrite b o n v => fits b 6 && fits o 131072 && accessSize n && decide (v < 2 ^ (8 * n))
  | _ => true

/-- Every operand of the command lies in its range. -/
def wellFormed : Instr → Bool
  | .registerWrite master addr value size _ => fits master 16 && fits addr w40 && accessSize size && decide (value < 2 ^ (8 * size))
  | .highHalfWrite master addr value => fits master 16 && fits addr w40 && fits value w32
  | .rcRead master addr size _ => fits master 16 && fits addr w40 && accessSize size
  | .rlRead master addr size _ => fits master 16 && fits addr w40 && accessSize size
  | .amo master _ _ addr value => fits master 16 && fits addr w40 && fits value w64
  | .lr master _ addr => fits master 16 && fits addr w40
  | .sc master _ addr value => fits master 16 && fits addr w40 && fits value w64
  | .shbellPulse _ _ => true
  | .plcaBeacon _ => true
  | .slotWindowClose => true
  | .slotBoundary _ => true
  | .frameStart => true
  | .belCtrlWrite master value => fits master 16 && fits value w32
  | .belBudgetWrite master value => fits master 16 && fits value w32
  | .modeCommitRequest master value => fits master 16 && fits value w32
  | .unitEpochReport unit => fits unit 150
  | .powerupLockWaitExpire => true
  | .perstDeassert port _ _ => fits port 2
  | .perstAssert port => fits port 2
  | .hotReset port => fits port 2
  | .linkDisable port => fits port 2
  | .linkLoss port => fits port 2
  | .flitCrcFail port _ => fits port 2
  | .l0pRequest port width => fits port 2 && fits width 17
  | .l0pWidthWrite master value => fits master 16 && fits value w32
  | .cfgReadySet master value => fits master 16 && fits value w32
  | .cfgReadyTimeout port => fits port 2
  | .configurationRequest port fn req => fits port 2 && fits fn 512 && cfgReqOk req
  | .atsInvalidation port addr => fits port 2 && fits addr w40
  | .functionLevelReset fn => fits fn 512
  | .vfEnableClear port => fits port 2
  | .controllerEnable fn _ => fits fn 512
  | .controllerReset fn => fits fn 512
  | .sqTailDoorbell fn qid tail => fits fn 512 && fits qid w16 && fits tail w16
  | .cqHeadDoorbell fn qid head => fits fn 512 && fits qid w16 && fits head w16
  | .deferredDoorbellObserve => true
  | .admission _ => true
  | .commandDispatch => true
  | .hostDataFetch ticket index _ _ _ => fits ticket w64 && fits index w20
  | .pieceDispatch ticket index => fits ticket w64 && fits index w16
  | .pieceCommit ticket index => fits ticket w64 && fits index w20
  | .read cid nsid slba nlb _ => fits cid w16 && fits nsid w32 && fits slba w64 && fits nlb w16
  | .write cid nsid slba nlb _ _ => fits cid w16 && fits nsid w32 && fits slba w64 && fits nlb w16
  | .writeZeroes cid nsid slba nlb _ => fits cid w16 && fits nsid w32 && fits slba w64 && fits nlb w16
  | .flush cid nsid => fits cid w16 && fits nsid w32
  | .verify cid nsid slba nlb _ => fits cid w16 && fits nsid w32 && fits slba w64 && fits nlb w16
  | .orderFence cid _ => fits cid w16
  | .zoneAppend cid nsid zslba nlb _ => fits cid w16 && fits nsid w32 && fits zslba w64 && fits nlb w16
  | .datasetManagement cid nsid _ _ => fits cid w16 && fits nsid w32
  | .ioManagementSend cid nsid _ _ => fits cid w16 && fits nsid w32
  | .ioManagementReceive cid nsid _ => fits cid w16 && fits nsid w32
  | .zoneOpen cid nsid slba _ => fits cid w16 && fits nsid w32 && fits slba w64
  | .zoneClose cid nsid slba _ => fits cid w16 && fits nsid w32 && fits slba w64
  | .zoneFinish cid nsid slba _ => fits cid w16 && fits nsid w32 && fits slba w64
  | .zoneReset cid nsid slba _ => fits cid w16 && fits nsid w32 && fits slba w64
  | .zoneOffline cid nsid slba _ => fits cid w16 && fits nsid w32 && fits slba w64
  | .zoneManagementReceive cid nsid slba _ _ _ _ => fits cid w16 && fits nsid w32 && fits slba w64
  | .identify cid nsid _ _ _ => fits cid w16 && fits nsid w32
  | .getLogPage cid nsid _ _ _ _ => fits cid w16 && fits nsid w32
  | .lostStripesLog cid _ _ => fits cid w16
  | .tallySnapshotLog cid _ _ _ _ => fits cid w16
  | .eventRecorderWindowLog cid _ _ => fits cid w16
  | .createIoSubmissionQueue cid qid _ _ _ => fits cid w16 && fits qid w16
  | .createIoCompletionQueue cid qid _ vec _ => fits cid w16 && fits qid w16 && fits vec 2048
  | .deleteIoSubmissionQueue cid qid => fits cid w16 && fits qid w16
  | .deleteIoCompletionQueue cid qid => fits cid w16 && fits qid w16
  | .setFeatures cid fid value _ nsid cdw12 data =>
    fits cid w16 && fits nsid w32 && fits cdw12 w32 && data.all (fits · 256) && (fits value w32 || (fid == 0x0E && fits value w64) || (fid == 0x16 && fits value (2 ^ 4096)))
  | .getFeatures cid _ _ w nsid => fits cid w16 && fits w w32 && fits nsid w32
  | .setNumberOfQueues cid _ _ => fits cid w16
  | .setPowerManagement cid _ => fits cid w16
  | .setQueueOrdering cid cdw11 _ => fits cid w16 && fits cdw11 w32
  | .getQueueOrdering cid cdw11 => fits cid w16 && fits cdw11 w32
  | .setFunctionWeights cid cdw11 cdw12 => fits cid w16 && fits cdw11 w32 && fits cdw12 w32
  | .getFunctionWeights cid cdw11 cdw12 => fits cid w16 && fits cdw11 w32 && fits cdw12 w32
  | .setTailClass cid cdw11 => fits cid w16 && fits cdw11 w32
  | .getTailClass cid cdw11 => fits cid w16 && fits cdw11 w32
  | .setFdp cid _ _ => fits cid w16
  | .abort cid _ target => fits cid w16 && fits target w16
  | .asynchronousEventRequest cid => fits cid w16
  | .namespaceCreate cid _ => fits cid w16
  | .namespaceDelete cid nsid => fits cid w16 && fits nsid w32
  | .namespaceAttachment cid nsid _ _ => fits cid w16 && fits nsid w32
  | .formatNvm cid nsid _ _ _ _ => fits cid w16 && fits nsid w32
  | .firmwareImageDownload cid _ _ _ => fits cid w16
  | .firmwareCommit cid slot _ => fits cid w16 && fits slot 4
  | .deviceSelfTest cid nsid _ => fits cid w16 && fits nsid w32
  | .sanitizeBlockErase cid => fits cid w16
  | .sanitizeCryptoErase cid => fits cid w16
  | .nvmeMiSend cid _ => fits cid w16
  | .nvmeMiReceive cid => fits cid w16
  | .dictionaryRead cid index sub len => fits cid w16 && fits index w16 && fits sub 256 && fits len 8192
  | .dictionaryWrite cid index sub _ _ => fits cid w16 && fits index w16 && fits sub 256
  | .hfeQallocWrite master fn value => fits master 16 && fits fn 512 && fits value w32
  | .hfeCmdlimWrite master fn value => fits master 16 && fits fn 512 && fits value w32
  | .admitEnSet master value => fits master 16 && fits value w32
  | .mailboxInPost fn _ => fits fn 512
  | .mailboxOutAck fn vector => fits fn 512 && fits vector w16
  | .mailboxRingCommit fn lo hi size => fits fn 512 && fits lo w32 && fits hi w32 && fits size 32
  | .outPost master value => fits master 16 && fits value w32
  | .inDone master value => fits master 16 && fits value w32
  | .zpmSsetWrite master set value => fits master 16 && fits set 4096 && fits value w32
  | .zpmPgrpWrite master group value => fits master 16 && fits group 64 && fits value w32
  | .dcmdRead master index => fits master 16 && fits index w20
  | .setAttr master index => fits master 16 && fits index w20
  | .readOnly master index => fits master 16 && fits index w20
  | .offline master index => fits master 16 && fits index w20
  | .setFwtag master index => fits master 16 && fits index w20
  | .ckptNow master value => fits master 16 && fits value w32
  | .zoneCheckpointEnd _ => true
  | .layout master value => fits master 16 && fits value w32
  | .ucmdRead master value => fits master 16 && fits value w32
  | .ucmdSet master value => fits master 16 && fits value w32
  | .mapflush master value => fits master 16 && fits value w32
  | .mapFlushEnd => true
  | .kilnEn master value => fits master 16 && fits value w32
  | .recipeStepWrite master value => fits master 16 && fits value w32
  | .migrate master value => fits master 16 && fits value w32
  | .healthWrite => true
  | .pwrOn master group => fits master 16 && fits group 16
  | .pwrOff master group => fits master 16 && fits group 16
  | .groupReady master group => fits master 16 && fits group 16
  | .rampWaitEnd group _ _ _ => fits group 16
  | .groupDieResetTimeout group => fits group 16
  | .vccqUndervoltage group => fits group 16
  | .timingSetWrite master group set word value => fits master 16 && fits group 16 && fits set 2 && fits word 2 && fits value w32
  | .fenceSet master group index value => fits master 16 && fits group 16 && fits index 4 && fits value w32
  | .calibrationEntryWrite master group chan die word value => fits master 16 && fits group 16 && fits chan 8 && fits die 16 && fits word 4 && fits value w32
  | .descriptorSubmit master engine value => fits master 16 && fits engine 128 && fits value w32
  | .hwDescriptorSubmit engine => fits engine 128
  | .mediaRead engine cls => fits engine 128 && fits cls 4
  | .prog engine cls => fits engine 128 && fits cls 4
  | .progPass engine cls => fits engine 128 && fits cls 4
  | .erase engine cls => fits engine 128 && fits cls 4
  | .dieReset engine => fits engine 128
  | .setfeat engine => fits engine 128
  | .getfeat engine value => fits engine 128 && fits value w32
  | .readid engine _ => fits engine 128
  | .train engine _ _ _ => fits engine 128
  | .lib engine cls => fits engine 128 && fits cls 4
  | .run engine cls => fits engine 128 && fits cls 4
  | .loadedConfirm engine die => fits engine 128 && fits die 16
  | .statusPoll engine die status _ _ => fits engine 128 && fits die 16 && fits status 256
  | .tailSuspend engine die => fits engine 128 && fits die 16
  | .suspendTimeout engine die => fits engine 128 && fits die 16
  | .dieWaitTimeout engine die _ => fits engine 128 && fits die 16
  | .descriptorMaxwaitExpire engine cls die => fits engine 128 && fits cls 4 && fits die 16
  | .cqHeadAdvance master engine value => fits master 16 && fits engine 128 && fits value w32
  | .engineRun master engine => fits master 16 && fits engine 128
  | .engineStop master engine => fits master 16 && fits engine 128
  | .engineReset master engine => fits master 16 && fits engine 128
  | .descriptorWithdraw engine cls index => fits engine 128 && fits cls 4 && fits index w20
  | .engineConfigWrite master engine offset value => fits master 16 && fits engine 128 && fits offset 8192 && fits value w32
  | .cmd engine ctx _ _ rb byte => fits engine 128 && fits ctx 32 && fits rb 8 && fits byte 256
  | .addr engine ctx rb ra n => fits engine 128 && fits ctx 32 && fits rb 8 && fits ra 8 && fits n 9
  | .dout engine ctx rb ra _ _ => fits engine 128 && fits ctx 32 && fits rb 8 && fits ra 8
  | .din engine ctx rd ra _ _ _ => fits engine 128 && fits ctx 32 && fits rd 8 && fits ra 8
  | .waitst engine ctx rd ra mask value status => fits engine 128 && fits ctx 32 && fits rd 8 && fits ra 8 && fits mask 256 && fits value 256 && fits status 256
  | .wait engine ctx _ _ => fits engine 128 && fits ctx 32
  | .sett engine ctx _ rb _ die => fits engine 128 && fits ctx 32 && fits rb 8 && fits die 16
  | .fchk engine ctx _ => fits engine 128 && fits ctx 32
  | .yield engine ctx => fits engine 128 && fits ctx 32
  | .done engine ctx rd status => fits engine 128 && fits ctx 32 && fits rd 8 && fits status 256
  | .ldi engine ctx rd _ value => fits engine 128 && fits ctx 32 && fits rd 8 && fits value w32
  | .ldd engine ctx rd ra _ => fits engine 128 && fits ctx 32 && fits rd 8 && fits ra 8
  | .std engine ctx rs ra _ => fits engine 128 && fits ctx 32 && fits rs 8 && fits ra 8
  | .add engine ctx rd ra _ _ => fits engine 128 && fits ctx 32 && fits rd 8 && fits ra 8
  | .and engine ctx rd ra _ _ => fits engine 128 && fits ctx 32 && fits rd 8 && fits ra 8
  | .or engine ctx rd ra _ _ => fits engine 128 && fits ctx 32 && fits rd 8 && fits ra 8
  | .xor engine ctx rd ra _ _ => fits engine 128 && fits ctx 32 && fits rd 8 && fits ra 8
  | .shl engine ctx rd ra _ _ => fits engine 128 && fits ctx 32 && fits rd 8 && fits ra 8
  | .shr engine ctx rd ra _ _ => fits engine 128 && fits ctx 32 && fits rd 8 && fits ra 8
  | .br engine ctx _ ra target => fits engine 128 && fits ctx 32 && fits ra 8 && fits target 8192
  | .call engine ctx target => fits engine 128 && fits ctx 32 && fits target 8192
  | .ret engine ctx => fits engine 128 && fits ctx 32
  | .programStoreWrite master engine value => fits master 16 && fits engine 128 && fits value w32
  | .programStoreRead master engine => fits master 16 && fits engine 128
  | .localMemoryWindowAccess master engine _ => fits master 16 && fits engine 128
  | .codewordDecodeEnd engine ctx cw _ => fits engine 128 && fits ctx 32 && fits cw 64
  | .candPop master => fits master 16
  | .dclr master => fits master 16
  | .eccProfileWrite master n value => fits master 16 && fits n 16 && fits value w32
  | .mshSsetWrite master set value => fits master 16 && fits set 4096 && fits value w32
  | .positionWrite master value => fits master 16 && fits value w32
  | .mashRecipeWrite master value => fits master 16 && fits value w32
  | .fail master die => fits master 16 && fits die 2048
  | .assign master die => fits master 16 && fits die 2048
  | .readmit master die => fits master 16 && fits die 2048
  | .retire master die => fits master 16 && fits die 2048
  | .dieStateRead master die => fits master 16 && fits die 2048
  | .dieProbe _ => true
  | .dieSelfTestEnd die _ _ _ => fits die 2048
  | .rebuildRowTake set pos row _ => fits set 4096 && fits pos 128 && fits row 16384
  | .reshapeStart master value => fits master 16 && fits value w32
  | .reshapeCopySwitch index => fits index w20
  | .patrolRead set row _ _ => fits set 4096 && fits row 16384
  | .mainSenseLow _ => true
  | .lossDebounceExpire => true
  | .lossTimerClear _ => true
  | .goodDebounceExpire => true
  | .huSenseCrossing _ => true
  | .checkNow master value => fits master 16 && fits value w32
  | .storeCheckEnd _ _ => true
  | .storeCheckInterval => true
  | .drain master value => fits master 16 && fits value w32
  | .holdupEnableWrite master value => fits master 16 && fits value w32
  | .holdupArm => true
  | .drainComplete => true
  | .dumpEnd => true
  | .doneRestart => true
  | .bankAssignWrite master bank value => fits master 16 && fits bank 56 && fits value w32
  | .lock master value => fits master 16 && fits value w32
  | .cclr master => fits master 16
  | .rowRetire master value => fits master 16 && fits value w32
  | .scrubRead addr _ => fits addr w40
  | .tubEnable master value => fits master 16 && fits value w32
  | .alloc tag _ _ => fits tag 12
  | .append tag _ _ tub => fits tag 12 && fits tub w16
  | .tubGrant _ => true
  | .free tag tub => fits tag 12 && fits tub w16
  | .trim tag tub => fits tag 12 && fits tub w16
  | .tubWindowWrite master offset value => fits master 16 && fits offset 512 && fits value w32
  | .gcmTailWrite master value => fits master 16 && fits value w32
  | .encrypt _ => true
  | .decrypt _ => true
  | .rekey master value => fits master 16 && fits value w32
  | .rngRead master => fits master 16
  | .drbgHealthFail inst => fits inst 2
  | .force master value => fits master 16 && fits value w32
  | .vaonPowerOn => true
  | .pgoodRise rail => fits rail 8
  | .pgoodTimeout rail => fits rail 8
  | .supplyRetry => true
  | .sramClearEnd => true
  | .bootImageLoad _ _ _ _ => true
  | .configRecordLoad => true
  | .metadataLoad => true
  | .dumpLoad _ => true
  | .zoneTableReload => true
  | .dumpApplication => true
  | .coreRun master value => fits master 16 && fits value w32
  | .coreReset master value => fits master 16 && fits value w32
  | .restart master value => fits master 16 && fits value w32
  | .eventClaim master target => fits master 16 && fits target 6
  | .softwareTrigger master value => fits master 16 && fits value w32
  | .asyncEventRaise master value => fits master 16 && fits value w32
  | .powerRequest master value => fits master 16 && fits value w32
  | .domainGate master domain => fits master 16 && fits domain 48
  | .domainPowerDown master domain => fits master 16 && fits domain 48
  | .domainPowerOn master domain => fits master 16 && fits domain 48
  | .domainAnswer domain _ => fits domain 48
  | .domainDelayTimeout domain => fits domain 48
  | .entryComplete => true
  | .idleEntry => true
  | .mainWake => true
  | .rtcAlarm => true
  | .gpioWake pin => fits pin 32
  | .esnexWakeFrame => true
  | .thermalShutdown => true
  | .thermalRestart => true
  | .suspclr master => fits master 16
  | .mgtRead master value => fits master 16 && fits value w32
  | .mgtWrite master value => fits master 16 && fits value w32
  | .frameReject _ _ _ _ => true
  | .esnexRead _ index sub => fits index w16 && fits sub 256
  | .esnexWrite _ index sub type _ => fits index w16 && fits sub 256 && fits type 256
  | .readBlock _ index sub _ _ => fits index w20 && fits sub 256
  | .writeBlock _ index sub _ _ _ => fits index w20 && fits sub 256
  | .notify _ _ => true
  | .snapshot _ => true
  | .sessionOpen _ _ _ => true
  | .sessionClose _ => true
  | .configRecordWriteDone => true
  | .configCopyTimeout _ => true
  | .stagingExpire _ => true
  | .sessionIdleExpire session => fits session w16
  | .networkDownTimeout => true
  | .mctpMessage _ _ _ => true
  | .readNvmeMiDataStructure _ => true
  | .nvmSubsystemHealthStatusPoll => true
  | .controllerHealthStatusPoll fn => fits fn 512
  | .configurationGet _ => true
  | .configurationSet _ value => fits value w32
  | .vpdRead _ _ => true
  | .vpdWrite _ _ => true
  | .nvmeAdminCommand _ _ => true
  | .snap master value => fits master 16 && fits value w32
  | .tallyValueRead master => fits master 16
  | .softTrigger master value => fits master 16 && fits value w32
  | .recorderFlush master value => fits master 16 && fits value w32
  | .recorderFlushTimer => true
  | .recordFetch master value => fits master 16 && fits value w32
  | .recordFetchDone _ => true
  | .step master value => fits master 16 && fits value w32
  | .clrlast master value => fits master 16 && fits value w32
  | .kick master processor value => fits master 16 && fits processor 6 && fits value w32
  | .watchdogExpire processor => fits processor 6
  | .heartbeatMissing unit => fits unit 256
  | .lockstepMismatch core => fits core 5
  | .supplyMonitorTrip _ => true
  | .referenceClockLost => true
  | .periodicSelfTest _ _ => true
  | .selfTestVerdict type unit _ => fits type 32 && fits unit 256
  | .loopbackStart master slot value => fits master 16 && fits slot 4 && fits value w32
  | .loopbackStop master slot value _ _ _ => fits master 16 && fits slot 4 && fits value w32
  | .loopbackDurationEnd slot _ _ _ => fits slot 4
  | .bistStart master value => fits master 16 && fits value w32
  | .bistDone _ _ => true
  | .debugUnlockRequest master value => fits master 16 && fits value w32
  | .debugUnlockVerdict _ _ => true
  | .idcode => true
  | .samplePreload _ => true
  | .extest => true
  | .highz => true
  | .clamp => true
  | .extestPulse => true
  | .extestTrain => true
  | .dtmcs _ => true
  | .dmi op address _ => fits op 4 && fits address w32
  | .bypass opcode => fits opcode 256
  | .debugHalt hart => fits hart 6
  | .vaonLoss => true
  | .lampCrystalStable => true
  | .linkUp port rate width _ => fits port 2 && fits rate 7 && fits width 17
  | .recoveryEntry port => fits port 2
  | .linkL1Entry port substate => fits port 2 && fits substate 4
  | .linkL1Exit port => fits port 2
  | .linkL2Entry port => fits port 2
  | .runTimeLimitExpire engine ctx _ => fits engine 128 && fits ctx 32

end Sys2Proof
end

