-- ==== Sys2Proof/Certificates/Slice0/Obligations.lean ====
section
/-! DEFINITION. Certificates/Slice0/Obligations.lean: the statements about the block, one definition each, listed in OBLIGATIONS.json. -/

open Sys2Proof Sys2Proof.Machine

/-- Every command completes from every state, and changes no part of the state but those of `mayChange`; none empties or fills the queue. -/
def Obligations.EveryCommandStaysWithinItsParts : Prop :=
  ∀ (i : Instr) (s : State), ∃ t, exec i s = .next t ∧ Within (mayChange i) s t ∧ t.pending = s.pending ∧ t.ident = s.ident

/-- The sparse stores that software reaches keep their canonical form: on-chip memory and the register fields. -/
def Obligations.EveryStepKeepsCanonicalStores : Prop :=
  ∀ s t : State, s.canon → step s = .next t → t.canon

/-- The state after reset has them in canonical form. -/
def Obligations.ResetIsCanonical : Prop := State.reset.canon ∧ Safety.Inv State.reset ∧ State.reset.pending = []

/-- What the register tables say of the state after reset (SYS_IDENT, SYS_REFCNT, SYS_BUSERR, BEL_CTRL, BEL_MASK,
PCI_CTRL, PCI_LSTAT, FCH_GSTAT, EVT_SRC): part and step, the default period, the rate advertised, ports in Detect, channel groups off, event
sources disabled but the security group's, the boot address. -/
def Obligations.ResetLeavesRegisterDefaults : Prop :=
  State.reset.fld SYS_IDENT.PART = 0x8128 ∧ State.reset.fld SYS_IDENT.STEP = 0xB0 ∧ State.reset.fld SYS_REFCNT.COUNT = 0 ∧
    State.reset.on SYS_BUSERR.VALID = false ∧ State.reset.fld SYS_BOOTADDR.ADDR = 0x25800000 ∧ State.reset.fld SYS_CORECTL.RUN = 0 ∧
    State.reset.fld BEL_CTRL.PERIOD = 500 ∧ State.reset.fld BEL_MASK.MASK = 0xFFFFFFFFFFFFFFFF ∧ State.reset.fld PCI_CTRL.MAXRATE = 6 ∧
    (∀ p, p < 2 → State.reset.on (PCI_LSTAT.LINKUP p) = false ∧ State.reset.fld (PCI_LSTAT.LTSSM p) = 0) ∧
    (∀ g, g < 4 → State.reset.fld (FCH_GSTAT.STATE g) = 0) ∧
    (∀ n, n < 512 → State.reset.on (EVT_SRC.PEND n) = false ∧ State.reset.on (EVT_SRC.EN n) = (decide (288 ≤ n) && decide (n ≤ 319))) ∧
    (∀ p, p < 2 → State.reset.on (cfgReady p) = false)

/-- The block's step (log entries 2 and 3): the command at the front of the queue runs on the state with the queue's rest, and its outcome is
the step's; on an empty queue one cycle of the reference clock passes (R46). -/
def Obligations.StepRunsFrontCommand : Prop :=
  (∀ (c : Instr) (q : List Instr) (s : State), s.pending = c :: q → step s = exec c { s with pending := q }) ∧
  (∀ s : State, s.pending = [] → s.up = true →
    ∃ t, step s = .next t ∧ t.fld SYS_REFCNT.COUNT = (s.fld SYS_REFCNT.COUNT + 1) % 2 ^ 64 ∧
      t.bell.slot = s.bell.slot ∧ t.bell.frame = s.bell.frame ∧ s.bell.cycles + 1 = t.bell.cycles ∧
      onlyRegs [SYS_REFCNT.COUNT, AON_RTC.COUNT] s t) ∧
  (∀ (s : State) (nbits w : Nat), s.withFetchWord nbits w = s ∧ decodeTableWord nbits w = none)

/-- R14, R38, R40 and R45 for REGISTER_WRITE and RC_READ: an access that goes through sets the RW fields of the word to its bits and no field of
another type, or clears the RC fields of the word and returns it; nothing else changes. -/
def Obligations.RegisterAccessFollowsFieldTypes : Prop :=
  (∀ (s : State) (m v n : Nat) (f : Fld), f ∈ plainRw → s.direct m f.addr n →
    ∃ t, exec (.registerWrite m f.addr v 4 n) s = .next t ∧ t.fld f = f.of v ∧
      (∀ e ∈ fieldsAt f.addr, e.2 ≠ .rw → t.fld e.1 = s.fld e.1) ∧
      keepsRegs ((fieldsAt f.addr).map (·.1)) s t ∧ keepsMem s t ∧ Tab.get 0 t.bus.rfault m = 0) ∧
  (∀ (s : State) (m n : Nat) (f : Fld), f ∈ plainRc → s.direct m f.addr n →
    ∃ t, exec (.rcRead m f.addr 4 n) s = .next t ∧ t.fld f = 0 ∧ Tab.get 0 t.bus.rdata m = (s.arrive m f.addr).peekWord m f.addr ∧
      (∀ e ∈ fieldsAt f.addr, e.2 ≠ .rc → t.fld e.1 = s.fld e.1) ∧
      keepsRegs ((fieldsAt f.addr).map (·.1)) s t ∧ keepsMem s t ∧ Tab.get 0 t.bus.rfault m = 0)

/-- R15 and R43: a write through the peek alias changes nothing at all (of the Lamp core while the block has no power, it is R40's fault); a read through it returns the word, and the reading master's shadow of a
high half, and clears no field and latches no shadow (the debug module, master 6, reaches a peek alias only where Table 21.4 opens the bus, so it has
no general statement). -/
def Obligations.PeekAliasHasNoSideEffect : Prop :=
  (∀ (s : State) (m a v n : Nat), inRegs a = true → inPeek a = true → a % 4 = 0 → m ≠ 5 ∨ s.mayAccess m a = true →
    exec (.registerWrite m a v 4 n) s = .next s ∧ exec (.highHalfWrite m a v) s = .next s) ∧
  (∀ (s : State) (m a n : Nat), m ≠ 6 → s.reaches m a → inRegs (a + 0x100000) = true → inPeek (a + 0x100000) = true → a % 4 = 0 →
    (crosses m (a + 0x100000) = false ∨ n = 0) →
    ∃ t, exec (.rcRead m (a + 0x100000) 4 n) s = .next t ∧ exec (.rlRead m (a + 0x100000) 4 n) s = .next t ∧
      Tab.get 0 t.bus.rdata m = (s.arrive m a).peekWord m a ∧ t.bus.shadow = s.bus.shadow ∧ t.bus.staged = s.bus.staged ∧
      keepsRegs [] s t ∧ keepsMem s t) ∧
  (∀ (s : State) (m n : Nat) (f : Fld), f ∈ plainRl → m ≠ 6 → s.reaches m (f.addr + 4) → (crosses m f.addr = false ∨ n = 0) →
    ∃ t, exec (.rcRead m (f.addr + 0x100004) 4 n) s = .next t ∧ Tab.get 0 t.bus.rdata m = Tab.get 0 s.bus.shadow (f.addr * 16 + m))

/-- R16, R17 and R42 for RL_READ and HIGH_HALF_WRITE: a read of a pair's low half returns it and latches the high half for the reading master
alone; a write of the high half of a writable pair commits it together with the low half the master has staged, or the current low half. -/
def Obligations.WidePairsLatchAndCommit : Prop :=
  (∀ (s : State) (m n : Nat) (f : Fld), f ∈ plainRl → s.direct m f.addr n →
    ∃ t, exec (.rlRead m f.addr 4 n) s = .next t ∧ Tab.get 0 t.bus.rdata m = (s.arrive m f.addr).view f % 2 ^ 32 ∧
      Tab.get 0 t.bus.shadow (f.addr * 16 + m) = (s.arrive m f.addr).view f / 2 ^ 32 % 2 ^ 32 ∧
      (∀ k, k ≠ f.addr * 16 + m → Tab.get 0 t.bus.shadow k = Tab.get 0 s.bus.shadow k) ∧ keepsRegs [] s t ∧ keepsMem s t) ∧
  (∀ (s : State) (m v n : Nat), s.direct m BEL_MASK.MASK.addr n →
    ∃ t, exec (.registerWrite m BEL_MASK.MASK.addr v 4 n) s = .next t ∧ t.fld BEL_MASK.MASK = s.fld BEL_MASK.MASK ∧
      Tab.get none t.bus.staged (BEL_MASK.MASK.addr * 16 + m) = some (v % 2 ^ 32) ∧ keepsRegs [] s t ∧ keepsMem s t) ∧
  (∀ (s : State) (m v : Nat), s.direct m (BEL_MASK.MASK.addr + 4) 0 →
    ∃ t, exec (.highHalfWrite m (BEL_MASK.MASK.addr + 4) v) s = .next t ∧
      t.fld BEL_MASK.MASK = v % 2 ^ 32 * 2 ^ 32 +
        (Tab.get none s.bus.staged (BEL_MASK.MASK.addr * 16 + m)).getD (s.fld BEL_MASK.MASK) % 2 ^ 32 ∧
      Tab.get none t.bus.staged (BEL_MASK.MASK.addr * 16 + m) = none ∧ t.on BEL_STAT.MASK_PEND = true ∧
      keepsRegs [BEL_MASK.MASK, BEL_STAT.MASK_PEND, AON_RET.WORD 0, AON_RET.WORD 1, AON_RET.WORD 2] s t ∧ keepsMem s t)

/-- R29, R30, R31, R32, R38, R47 and R466: an access of any size outside the map, into the secure world, or to a bank not assigned to its master ends
with the access fault of its cause and has no other effect; so does one of register space that is not of 32 bits naturally aligned; a master that
does not exist or is held in reset has none at all (R37). -/
def Obligations.AccessFaultsHaveNoOtherEffect : Prop :=
  (∀ (s : State) (m a v z n c : Nat), m ≤ 7 → s.mayAccess m a = true → inRegs a = false → s.memFault m a = some c →
    (∃ t, exec (.registerWrite m a v z n) s = .next t ∧ s.faulted t m a c) ∧ ∃ t, exec (.rcRead m a z n) s = .next t ∧ s.faulted t m a c) ∧
  (∀ (s : State) (m a : Nat), s.secure m = false → 0x80000000 ≤ a → s.memFault m a = some causeSecure) ∧
  (∀ (s : State) (m a : Nat), 0x43000000 ≤ a → a < 0x80000000 → s.memFault m a = some causeUnmapped) ∧
  (∀ (s : State) (m a : Nat), s.secure m = true → (0x80130000 ≤ a ∧ a < 0x81000000) ∨ 0x81010000 ≤ a → s.memFault m a = some causeUnmapped) ∧
  (∀ (s : State) (m k b : Nat), k < 48 → b < 0x200000 → s.bankOpen (s.fld (MEM_BANKASN.OWNER k)) m = false →
    s.memFault m (0x20000000 + k * 0x200000 + b) = some causeBank) ∧
  (∀ (s : State) (m a v z n : Nat), m ≤ 7 → s.mayAccess m a = true → s.up = true → inRegs a = true → a % 4 ≠ 0 ∨ z ≠ 4 →
    (∃ t, exec (.registerWrite m a v z n) s = .next t ∧ s.faulted t m a causeSize) ∧
      ∃ t, exec (.rlRead m a z n) s = .next t ∧ s.faulted t m a causeSize) ∧
  (∀ (s : State) (m a v z n : Nat), 7 < m → exec (.registerWrite m a v z n) s = .next s ∧ exec (.rcRead m a z n) s = .next s)

/-- R50, R52, R62 and R63: what a pulse on SHBELL or the close of a slot's window does to the lock loop. Widths are taken 50 ns off the bounds of
Table 2.1 (log entry 12); a pulse of a wrong width counts as misplaced whatever the source. -/
def Obligations.BellMarksDriveTheLockLoop : Prop :=
  (∀ (s : State) (w : Nat) (d : Int), s.bellRuns = true → w + 50 < 500 →
    ∃ t, exec (.shbellPulse w d) s = .next t ∧ t = s.tookFree) ∧
  (∀ (s : State) (w : Nat) (d : Int), s.bellRuns = true →
    (550 < w ∧ w + 50 < 1500) ∨ (3050 < w ∧ w + 50 < 5000) ∨ 8050 < w →
    ∃ t, exec (.shbellPulse w d) s = .next t ∧ t.fld BEL_ERRCNT.MISPLACED = min (s.fld BEL_ERRCNT.MISPLACED + 1) 0xFFFF ∧
      t.on (EVT_SRC.PEND 420) = true ∧ t.bell = s.bell ∧ t.lock = s.lock ∧ keepsRegs [BEL_ERRCNT.MISPLACED] s t ∧ keepsMem s t) ∧
  (∀ (s : State) (w : Nat) (d : Int), s.bellRuns = true → s.bellSrc = 0 → 1550 < w → w + 50 < 3000 →
    ∃ t, exec (.shbellPulse w d) s = .next t ∧
      (s.lock = lockFree → t = s.tookFree) ∧
      (s.lock = lockAcquire ∨ ((s.lock = lockConfirm ∨ s.lock = lockLocked) ∧ onTime d = false) →
        t.fld BEL_ERRCNT.MISPLACED = min (s.fld BEL_ERRCNT.MISPLACED + 1) 0xFFFF ∧ t.lock = s.lock ∧ t.bell = s.bell) ∧
      (s.lock = lockConfirm → onTime d = true → s.bell.cand ≠ 0 →
        t.lock = lockConfirm ∧ t.bell.cand = (s.bell.cand + 1) % 64 ∧ t.fld BEL_STAT.MISSED = 0) ∧
      (s.lock = lockConfirm → onTime d = true → s.bell.cand = 0 → t.lock = lockAcquire ∧ t.fld BEL_STAT.MISSED = 0) ∧
      (s.lock = lockLocked → onTime d = true → t.lock = lockLocked ∧ t.fld BEL_STAT.MISSED = 0 ∧
        t.fld BEL_ERRCNT.MISPLACED = s.fld BEL_ERRCNT.MISPLACED)) ∧
  (∀ (s : State) (w : Nat) (d : Int), s.bellRuns = true → s.bellSrc = 0 → 5050 < w → w + 50 < 8000 → s.lock = lockAcquire →
    ∃ t, exec (.shbellPulse w d) s = .next t ∧ t.lock = lockConfirm ∧ t.bell.cand = 1 ∧ t.bell.frame = s.bell.frame ∧
      t.fld BEL_STAT.EPOCH = s.fld BEL_STAT.EPOCH) ∧
  (∀ s : State, s.bellRuns = true → s.lock = lockLocked →
    (s.fld BEL_STAT.MISSED < 2 →
      ∃ t, exec .slotWindowClose s = .next t ∧ t.lock = lockLocked ∧ t.fld BEL_STAT.MISSED = s.fld BEL_STAT.MISSED + 1 ∧
        t.fld BEL_STAT.EPOCH = s.fld BEL_STAT.EPOCH) ∧
    (s.fld BEL_STAT.MISSED = 2 →
      ∃ t, exec .slotWindowClose s = .next t ∧ t.lock = lockAcquire ∧ t.fld BEL_STAT.EPOCH = (s.fld BEL_STAT.EPOCH + 1) % 256 ∧
        t.on BEL_STAT.FALLBACK = true ∧ t.on BEL_STAT.DEGRADED = true ∧ t.on (EVT_SRC.PEND 419) = true)) ∧
  (∀ s : State, s.bellRuns = true → s.lock = lockFree ∨ s.lock = lockAcquire → exec .slotWindowClose s = .next s)

/-- R55 and R58: a beacon acts as a slot mark of the PLCA-derived source, and a slot boundary moves Bell time to the next slot, or from slot 63 to the
next frame or to the frame a preset gives (R61). -/
def Obligations.BellTimeAdvances : Prop :=
  (∀ (s : State) (d : Int), s.up = true → s.coldNum 0x1104 0 ≠ 0 → s.on MGT_STAT.COORD = false → s.on MGT_STAT.NETUP = true →
    s.bellRuns = true → s.bellSrc = 1 → s.bell.frameNotice = false → onTime d = true →
    (s.lock = lockConfirm → s.bell.cand ≠ 0 →
      ∃ t, exec (.plcaBeacon d) s = .next t ∧ t.bell.cand = (s.bell.cand + 1) % 64 ∧ t.lock = lockConfirm ∧
        keepsRegs [BEL_STAT.MISSED, BEL_STAT.LOCK, BEL_ERRCNT.MISPLACED] s t ∧ keepsMem s t) ∧
    (s.lock = lockLocked →
      ∃ t, exec (.plcaBeacon d) s = .next t ∧ t.lock = lockLocked ∧ t.fld BEL_STAT.MISSED = 0 ∧
        keepsRegs [BEL_STAT.MISSED, BEL_STAT.LOCK, BEL_ERRCNT.MISPLACED] s t ∧ keepsMem s t)) ∧
  (∀ (s : State) (temps : List Int), s.bellRuns = true → s.bell.slot < 63 →
    ∃ t, exec (.slotBoundary temps) s = .next t ∧ t.bell.slot = s.bell.slot + 1 ∧ t.bell.phase = 0 ∧ t.bell.cycles = 0 ∧
      t.bell.frame = s.bell.frame ∧ t.on (EVT_SRC.PEND 416) = true ∧ keepsMem s t) ∧
  (∀ (s : State) (temps : List Int), s.bellRuns = true → s.bell.slot = 63 →
    ∃ t, exec (.slotBoundary temps) s = .next t ∧ t.bell.slot = 0 ∧ t.bell.phase = 0 ∧
      (s.bell.presetPend = none → t.bell.frame = (s.bell.frame + 1) % 2 ^ 40) ∧
      (∀ p, s.bell.presetPend = some p → s.lock = lockLocked ∨ s.lock = lockFree → t.bell.frame = p % 2 ^ 40) ∧
      t.on (EVT_SRC.PEND 417) = true ∧ keepsMem s t) ∧
  (∀ s : State, s.bellRuns = true → s.bell.slot = 63 →
    ∃ t, exec .frameStart s = .next t ∧ t.bell.slot = 0 ∧ (s.bell.presetPend = none → t.bell.frame = (s.bell.frame + 1) % 2 ^ 40) ∧
      t.on (EVT_SRC.PEND 417) = true ∧ keepsMem s t) ∧
  (∀ s : State, s.bell.puActive = true →
    ∃ t, exec .powerupLockWaitExpire s = .next t ∧ t.bell = { s.bell with puOpen := true } ∧ onlyRegs [] s t)

/-- R53, R54 and R62 for BEL_CTRL, R71 for BEL_BUDGET, R78 and R83 for BEL_MODE_CMD, R80 for a unit's report of the mode epoch. -/
def Obligations.BellRegisterWrites : Prop :=
  (∀ (s : State) (m v : Nat), s.reaches m BEL_CTRL.SRC.addr →
    ∃ t, exec (.belCtrlWrite m v) s = .next t ∧ t.fld BEL_CTRL.SRC = BEL_CTRL.SRC.of v ∧
      t.fld BEL_CTRL.PERIOD =
        (if 250 ≤ BEL_CTRL.PERIOD.of v ∧ BEL_CTRL.PERIOD.of v ≤ 2000 then BEL_CTRL.PERIOD.of v else s.fld BEL_CTRL.PERIOD) ∧
      (s.effSrc (BEL_CTRL.SRC.of v) = s.bellSrc → t.lock = s.lock ∧ t.fld BEL_STAT.EPOCH = s.fld BEL_STAT.EPOCH) ∧
      (s.effSrc (BEL_CTRL.SRC.of v) ≠ s.bellSrc →
        t.lock = (if s.effSrc (BEL_CTRL.SRC.of v) = 2 then lockFree else lockAcquire) ∧
        t.fld BEL_STAT.EPOCH = (if s.locked then (s.fld BEL_STAT.EPOCH + 1) % 256 else s.fld BEL_STAT.EPOCH)) ∧
      keepsRegs ([BEL_CTRL.SRC, BEL_CTRL.PERIOD, BEL_STAT.LOCK, BEL_STAT.FALLBACK, BEL_STAT.DEGRADED, BEL_STAT.EPOCH, BEL_ERRCNT.LOSSES] ++
        loopFields) s t ∧ keepsMem s t) ∧
  (∀ (s : State) (m v : Nat), s.reaches m BEL_BUDGET.BUDGET.addr →
    (budgetOk (BEL_BUDGET.BUDGET.of v) (BEL_BUDGET.RESERVE.of v) s.maxNominal = true →
      ∃ t, exec (.belBudgetWrite m v) s = .next t ∧ t.fld BEL_BUDGET.BUDGET = BEL_BUDGET.BUDGET.of v ∧
        t.fld BEL_BUDGET.RESERVE = BEL_BUDGET.RESERVE.of v ∧ t.on BEL_STAT.MASK_PEND = true ∧ t.bell = s.bell ∧
        keepsRegs [BEL_BUDGET.BUDGET, BEL_BUDGET.RESERVE, BEL_STAT.MASK_PEND] s t ∧ keepsMem s t) ∧
    (budgetOk (BEL_BUDGET.BUDGET.of v) (BEL_BUDGET.RESERVE.of v) s.maxNominal = false →
      ∃ t, exec (.belBudgetWrite m v) s = .next t ∧ t.on (EVT_SRC.PEND 425) = true ∧ keepsRegs [] s t ∧ keepsMem s t)) ∧
  (∀ (s : State) (m v : Nat), s.reaches m BEL_MODE_CMD.GO.addr → BEL_MODE_CMD.GO.of v = 1 → s.hld.committed = false →
    ∃ t, exec (.modeCommitRequest m v) s = .next t ∧
      (s.fld BEL_MODE_STAT.STATE = modeStable → s.on BEL_MODE_STAT.PENDING = false →
        t.on BEL_MODE_STAT.PENDING = true ∧ t.bell.modePend = some (s.fld BEL_MODE_STAGE.WORD) ∧ t.bell.modeAt = BEL_MODE_CMD.AT_SLOT.of v) ∧
      (s.fld BEL_MODE_STAT.STATE ≠ modeStable ∨ s.on BEL_MODE_STAT.PENDING = true →
        t.on BEL_MODE_STAT.REJECTED = true ∧ t.bell = s.bell) ∧
      t.fld BEL_MODE_STAT.EPOCH = s.fld BEL_MODE_STAT.EPOCH ∧ t.fld BEL_MODE_STAGE.WORD = s.fld BEL_MODE_STAGE.WORD ∧
      keepsRegs [BEL_MODE_CMD.ROLLBACK, BEL_MODE_CMD.ANY, BEL_MODE_CMD.AT_SLOT, BEL_MODE_STAT.PENDING, BEL_MODE_STAT.REJECTED] s t ∧
      keepsMem s t) ∧
  (∀ (s : State) (u : Nat), u < 128 → s.fld BEL_MODE_STAT.STATE = modeMixed → s.bell.rbPend = false → s.modeLate = [u] →
    ∃ t, exec (.unitEpochReport u) s = .next t ∧ t.fld BEL_MODE_STAT.STATE = modeStable ∧ t.on (EVT_SRC.PEND 422) = true ∧
      t.fld (DRF_STAT.EPOCH u) = s.fld BEL_MODE_STAT.EPOCH % 65536 ∧ keepsRegs [BEL_MODE_STAT.STATE, DRF_STAT.EPOCH u] s t ∧ keepsMem s t)

/-- R87, R107, R108 and R114 (PERST_DEASSERT), R110 (PERST_ASSERT, HOT_RESET, LINK_DISABLE) and R112 (LINK_LOSS): straps, training, and what
the reset of a port leaves alone. -/
def Obligations.PortResetsLeaveTheRestRunning : Prop :=
  (∀ (s : State) (bifur sris : Bool), s.up = true → s.pci.strapped = false → s.pci.port0.perst = true →
    ∃ t, exec (.perstDeassert 0 bifur sris) s = .next t ∧ t.on PCI_STRAP.BIF = bifur ∧ t.on PCI_STRAP.SRIS = sris ∧ t.pci.strapped = true ∧
      t.pci.port0.perst = false ∧ t.pci.port0.wakeOut = false ∧ t.pci.port0.training = true ∧ t.fld (PCI_LSTAT.LTSSM 0) = 0 ∧
      (bifur = false ∨ s.pci.port1.perst = true → t.pci.port1 = s.pci.port1) ∧
      (bifur = true → s.pci.port1.perst = false → t.pci.port1.training = true ∧ t.fld (PCI_LSTAT.LTSSM 1) = 0) ∧ keepsMem s t) ∧
  (∀ (s : State) (p : Nat) (bifur sris : Bool), s.pcieSupplied = false → exec (.perstDeassert p bifur sris) s = .next s.endPcieLoops ∧
    exec (.perstAssert p) s = .next s.endPcieLoops) ∧
  (∀ (s : State) (p : Nat) (bifur sris : Bool), s.up = true → s.pci.strapped = true → s.portExists p = true → (s.port p).perst = true →
    ∃ t, exec (.perstDeassert p bifur sris) s = .next t ∧ t.on PCI_STRAP.BIF = s.on PCI_STRAP.BIF ∧ t.on PCI_STRAP.SRIS = s.on PCI_STRAP.SRIS ∧
      (t.port p).perst = false ∧ (t.port p).training = true ∧ t.fld (PCI_LSTAT.LTSSM p) = 0 ∧ t.port (1 - p) = s.port (1 - p) ∧
      keepsRegs ([PCI_LSTAT.LTSSM p, PCI_LSTAT.LINKUP p, PCI_LSTAT.FLIT p, PCI_LSTAT.RATE p, PCI_LSTAT.WIDTH p, PCI_LSTAT.ACTWIDTH p,
        PCI_LSTAT.L1SUB p] ++ loopFields) s t ∧ keepsMem s t) ∧
  (∀ (s : State) (p : Nat), s.pcieSupplied = true → s.portExists p = true → (s.port p).perst = false →
    ∃ t, exec (.perstAssert p) s = .next t ∧ t.on (cfgReady p) = false ∧ t.on (PCI_LSTAT.LINKUP p) = false ∧ t.fld (PCI_LSTAT.LTSSM p) = 0 ∧
      (t.port p).perst = true ∧ (t.port p).vfNum = 0 ∧ t.port (1 - p) = s.port (1 - p) ∧ t.on (cfgReady (1 - p)) = s.on (cfgReady (1 - p)) ∧
      t.on (PCI_LSTAT.LINKUP (1 - p)) = s.on (PCI_LSTAT.LINKUP (1 - p)) ∧
      t.hld = s.hld ∧ t.drf.media = s.drf.media ∧ t.fch = s.fch ∧ t.mgt.dict = s.mgt.dict ∧ keepsMem s t) ∧
  (∀ (s : State) (p : Nat), s.portExists p = true → s.on (PCI_LSTAT.LINKUP p) = true →
    ∃ t, exec (.hotReset p) s = .next t ∧ t.on (cfgReady p) = false ∧ t.on (PCI_LSTAT.LINKUP p) = false ∧ t.fld (PCI_LSTAT.LTSSM p) = 9 ∧
      (t.port p).training = true ∧ (t.port p).vfNum = 0 ∧ t.port (1 - p) = s.port (1 - p) ∧
      t.hld = s.hld ∧ t.drf.media = s.drf.media ∧ t.fch = s.fch ∧ keepsMem s t) ∧
  (∀ (s : State) (p : Nat), s.portExists p = true → s.on (PCI_LSTAT.LINKUP p) = true →
    ∃ t, exec (.linkDisable p) s = .next t ∧ t.on (cfgReady p) = false ∧ t.on (PCI_LSTAT.LINKUP p) = false ∧ t.fld (PCI_LSTAT.LTSSM p) = 7 ∧
      (t.port p).training = false ∧ t.port (1 - p) = s.port (1 - p) ∧
      t.hld = s.hld ∧ t.drf.media = s.drf.media ∧ t.fch = s.fch ∧ keepsMem s t) ∧
  (∀ (s : State) (p : Nat), s.portExists p = true → s.on (PCI_LSTAT.LINKUP p) = true →
    ∃ t, exec (.linkLoss p) s = .next t ∧ t.on (cfgReady p) = false ∧ t.on (PCI_LSTAT.LINKUP p) = false ∧ t.fld (PCI_LSTAT.LTSSM p) = 0 ∧
      (t.port p).training = true ∧ t.fld (PCI_ERRCNT.DOWN p) = min (s.fld (PCI_ERRCNT.DOWN p) + 1) 0xFF ∧
      (s.hfe.ctx = [] → t.on (EVT_SRC.PEND (192 + p)) = true) ∧ t.port (1 - p) = s.port (1 - p) ∧
      t.hld = s.hld ∧ t.drf.media = s.drf.media ∧ t.fch = s.fch ∧ keepsMem s t)

/-- R92 and R107 (LINK_UP), R156 (RECOVERY_ENTRY), R93 (FLIT_CRC_FAIL), R94 (L0P_REQUEST), R95 (LINK_L1_ENTRY, LINK_L1_EXIT), R529
(LINK_L2_ENTRY), R106 (ATS_INVALIDATION). -/
def Obligations.LinkStatesFollowTheirEvents : Prop :=
  (∀ (s : State) (p r w : Nat) (flit : Bool), s.portExists p = true → (s.port p).training = true → (s.port p).perst = false →
    1 ≤ r → r ≤ (s.port p).trainRate → r < 8 → (flit = true → (s.port p).trainFlit = true) → (flit = false → r ≤ 5) → w ∈ [1, 2, 4] ∨ (w = 8 ∧ s.on PCI_STRAP.BIF = false) →
    ∃ t, exec (.linkUp p r w flit) s = .next t ∧ t.fld (PCI_LSTAT.LTSSM p) = 3 ∧ t.on (PCI_LSTAT.LINKUP p) = true ∧
      t.on (PCI_LSTAT.FLIT p) = flit ∧ t.fld (PCI_LSTAT.RATE p) = r ∧ t.fld (PCI_LSTAT.WIDTH p) = w ∧ t.fld (PCI_LSTAT.ACTWIDTH p) = w ∧
      (t.port p).training = false ∧ keepsRegs [PCI_LSTAT.LTSSM p, PCI_LSTAT.LINKUP p, PCI_LSTAT.FLIT p, PCI_LSTAT.RATE p, PCI_LSTAT.WIDTH p,
        PCI_LSTAT.ACTWIDTH p, PCI_LSTAT.L1SUB p] s t ∧ keepsMem s t) ∧
  (∀ (s : State) (p : Nat), s.portExists p = true → s.fld (PCI_LSTAT.LTSSM p) = 3 →
    ∃ t, exec (.recoveryEntry p) s = .next t ∧ t.fld (PCI_LSTAT.LTSSM p) = 4 ∧ (t.port p).training = true ∧
      t.fld (PCI_ERRCNT.RECOV p) = min (s.fld (PCI_ERRCNT.RECOV p) + 1) 0xFF ∧ t.on (EVT_SRC.PEND (194 + p)) = true ∧
      keepsRegs ([PCI_LSTAT.LTSSM p, PCI_ERRCNT.RECOV p] ++ loopFields) s t ∧ keepsMem s t) ∧
  (∀ (s : State) (p : Nat) (c : Bool), s.portExists p = true → s.on (PCI_LSTAT.LINKUP p) = true →
    ∃ t, exec (.flitCrcFail p c) s = .next t ∧
      t.fld (PCI_ERRCNT.CORR p) =
        (if s.on (PCI_LSTAT.FLIT p) && !c then s.fld (PCI_ERRCNT.CORR p) else min (s.fld (PCI_ERRCNT.CORR p) + 1) 0xFFFF) ∧
      (c = false → t.pci = s.pci) ∧ onlyRegs [PCI_ERRCNT.CORR p] s t) ∧
  (∀ (s : State) (p w : Nat), s.portExists p = true → s.l0pOk p = true → w ∈ [1, 2, 4, 8] → w ≤ s.fld (PCI_LSTAT.WIDTH p) →
    ∃ t, exec (.l0pRequest p w) s = .next t ∧ t.fld (PCI_LSTAT.ACTWIDTH p) = w ∧
      (t.port p).l0pReq = (if (s.port p).l0pReq = w then 0 else (s.port p).l0pReq) ∧ onlyRegs [PCI_LSTAT.ACTWIDTH p] s t) ∧
  (∀ (s : State) (p sub : Nat), s.portExists p = true → s.fld (PCI_LSTAT.LTSSM p) = 3 → bit (s.port p).aspm 0 = true → 1 ≤ sub → sub ≤ 3 →
    (sub = 1 ∨ bit (s.port p).aspm (sub - 1) = true) →
    ∃ t, exec (.linkL1Entry p sub) s = .next t ∧ (t.port p).clkOff = decide (2 ≤ sub) ∧ t.fld (PCI_LSTAT.LTSSM p) = 5 ∧ t.fld (PCI_LSTAT.L1SUB p) = sub ∧
      onlyRegs ([PCI_LSTAT.LTSSM p, PCI_LSTAT.L1SUB p] ++ loopFields) s t) ∧
  (∀ (s : State) (p : Nat), s.portExists p = true → s.fld (PCI_LSTAT.LTSSM p) = 5 →
    ∃ t, exec (.linkL1Exit p) s = .next t ∧ t.fld (PCI_LSTAT.LTSSM p) = 3 ∧ t.fld (PCI_LSTAT.L1SUB p) = 0 ∧
      (t.port p).clkOff = false ∧ onlyRegs [PCI_LSTAT.LTSSM p, PCI_LSTAT.L1SUB p] s t) ∧
  (∀ (s : State) (p : Nat), s.portExists p = true → s.fld (PCI_LSTAT.LTSSM p) = 3 ∨ s.fld (PCI_LSTAT.LTSSM p) = 5 →
    ∃ t, exec (.linkL2Entry p) s = .next t ∧ t.fld (PCI_LSTAT.LTSSM p) = 6 ∧ t.on (PCI_LSTAT.LINKUP p) = false ∧
      onlyRegs ([PCI_LSTAT.LTSSM p, PCI_LSTAT.LINKUP p, PCI_LSTAT.FLIT p, PCI_LSTAT.RATE p, PCI_LSTAT.WIDTH p, PCI_LSTAT.ACTWIDTH p,
        PCI_LSTAT.L1SUB p] ++ loopFields) s t) ∧
  (∀ (s : State) (p a : Nat), ∃ t, exec (.atsInvalidation p a) s = .next t ∧ a ∉ (t.port p).ats ∧
    (∀ b, b ≠ a → (b ∈ (t.port p).ats ↔ b ∈ (s.port p).ats)) ∧ onlyRegs [] s t)

/-- R108, R94 and Table 3.7: CFG_READY_SET, L0P_WIDTH_WRITE, CFG_READY_TIMEOUT, and configuration requests before and after. -/
def Obligations.ConfigurationWaitsForReady : Prop :=
  (∀ (s : State) (m v : Nat), s.reaches m PCI_CTRL.MAXRATE.addr →
    (∃ t, exec (.cfgReadySet m v) s = .next t ∧ exec (.l0pWidthWrite m v) s = .next t ∧
      t.on PCI_CTRL.CFG_READY0 = (s.on PCI_CTRL.CFG_READY0 || PCI_CTRL.CFG_READY0.of v == 1) ∧
      t.on PCI_CTRL.CFG_READY1 = (s.on PCI_CTRL.CFG_READY1 || PCI_CTRL.CFG_READY1.of v == 1) ∧
      t.fld PCI_CTRL.L0P_WIDTH = PCI_CTRL.L0P_WIDTH.of v ∧ t.fld PCI_CTRL.MAXRATE = PCI_CTRL.MAXRATE.of v ∧
      t.fld PCI_CTRL.FLIT_DIS = PCI_CTRL.FLIT_DIS.of v ∧
      (∀ p, p < 2 → (t.port p).l0pReq = if s.l0pOk p = false then 0
        else if l0pWidth (PCI_CTRL.L0P_WIDTH.of v) = 0 then
          (if s.fld (PCI_LSTAT.ACTWIDTH p) < s.fld (PCI_LSTAT.WIDTH p) then s.fld (PCI_LSTAT.WIDTH p) else 0)
        else if l0pWidth (PCI_CTRL.L0P_WIDTH.of v) < s.fld (PCI_LSTAT.WIDTH p) then l0pWidth (PCI_CTRL.L0P_WIDTH.of v) else 0) ∧
      keepsRegs [PCI_CTRL.CFG_READY0, PCI_CTRL.CFG_READY1, PCI_CTRL.L0P_WIDTH, PCI_CTRL.MAXRATE, PCI_CTRL.FLIT_DIS] s t ∧ keepsMem s t)) ∧
  (∀ (s : State) (p : Nat), s.portExists p = true → (s.port p).perst = false → s.on (cfgReady p) = false →
    ∃ t, exec (.cfgReadyTimeout p) s = .next t ∧ t.on (cfgReady p) = true ∧
      (∀ f ∈ s.portFns p, s.fnExists f = true → (t.fn f).cfs = true) ∧ (t.port p).cfsAll = true ∧ (∀ f, f ∉ s.portFns p → t.fn f = s.fn f) ∧
      t.on (EVT_SRC.PEND 197) = true ∧ t.on (EVT_SRC.PEND 206) = true ∧ keepsRegs [cfgReady p] s t ∧ keepsMem s t) ∧
  (∀ (s : State) (p f : Nat) (r : CfgReq), s.up = true → s.portExists p = true → (s.port p).perst = false → s.on (cfgReady p) = false →
    isBarRequest r = false →
    ∃ t, exec (.configurationRequest p f r) s = .next t ∧ (t.port p).cfgResp = .crs ∧ t.hfe = s.hfe ∧ onlyRegs [] s t) ∧
  (∀ (s : State) (p f : Nat) (r : CfgReq), s.up = true → s.portExists p = true → (s.port p).perst = false → s.on (cfgReady p) = true →
    s.fnExists f = false ∨ s.portOf f ≠ p →
    ∃ t, exec (.configurationRequest p f r) s = .next t ∧ (t.port p).cfgResp = .unsupported ∧ bit (t.fn p).aerUnc 20 = true ∧
      t.on (EVT_SRC.PEND 196) = true ∧ (∀ g, g ≠ p → t.fn g = s.fn g) ∧ keepsRegs [] s t ∧ keepsMem s t) ∧
  (∀ (s : State) (p f : Nat), s.up = true → s.portExists p = true → s.fnExists f = true → s.portOf f = p → (s.port p).perst = false →
    (s.fn f).d3 = false →
    ∃ t, exec (.configurationRequest p f (.barRead 0 0 4)) s = .next t ∧ (t.port p).cfgResp = .data (capWord % 2 ^ 32) ∧ t.hfe = s.hfe ∧
      onlyRegs [] s t) ∧ capWord % 2 ^ 16 = 0xFFFF ∧ bit capWord 16 = true ∧ slice capWord 17 2 = 1 ∧ slice capWord 24 8 = 120 ∧
  (∀ (s : State) (p f : Nat), s.up = true → s.portExists p = true → (s.port p).perst = false → s.on (cfgReady p) = true → s.fnExists f = true → s.portOf f = p →
    (∃ t, exec (.configurationRequest p f .readClass) s = .next t ∧ (t.port p).cfgResp = .data 0x010802 ∧ t.hfe = s.hfe) ∧
    (∃ t, exec (.configurationRequest p f .readIds) s = .next t ∧
      (t.port p).cfgResp = .data (0x8128 * 65536 + Config.vendorId.toNat) ∧ t.hfe = s.hfe) ∧
    (∃ t, exec (.configurationRequest p f .readInterruptPin) s = .next t ∧ (t.port p).cfgResp = .data 0) ∧
    (∃ t, exec (.configurationRequest p f (.readBarSize 0)) s = .next t ∧ (t.port p).cfgResp = .data 131072) ∧
    (∃ t, exec (.configurationRequest p f (.setPowerState true)) s = .next t ∧ (t.port p).cfgResp = .done ∧ (t.fn f).d3 = true ∧
      (∀ g, g ≠ f → t.fn g = s.fn g)))

/-- R113, R148, R180 and Table 5.8: a Function Level Reset, the clearing of VF Enable and a controller reset, of functions with no command in
flight; R116 and R518: the enabling of a controller. -/
def Obligations.ControllerLifeFollowsEnableAndResets : Prop :=
  (∀ (s : State) (f ams : Nat), s.fnExists f = true → (s.fn f).en = false → (s.fn f).d3 = false → ams ≤ 1 →
    s.fld (PCI_LSTAT.LTSSM (s.portOf f)) ≠ 8 →
    ∃ t, exec (.controllerEnable f ams) s = .next t ∧ (t.fn f).en = true ∧ (t.fn f).rdy = s.on HFE_CTRL.ADMIT_EN ∧ (t.fn f).ams = ams ∧
      (t.fn f).nsq = s.fld (HFE_QALLOC.NSQ f) ∧ (t.fn f).ncq = s.fld (HFE_QALLOC.NCQ f) ∧ (t.sq f 0).size ≠ 0 ∧ (t.cq f 0).size ≠ 0 ∧
      (∀ g, g ≠ f → t.fn g = s.fn g) ∧ t.on (EVT_SRC.PEND 200) = true ∧ keepsRegs loopFields s t ∧ keepsMem s t) ∧
  (∀ (s : State) (f : Nat), s.hfe.ctx = [] → s.hfe.held = [] → (s.fn f).en = true →
    ∃ t, exec (.controllerReset f) s = .next t ∧ (t.fn f).en = false ∧ (t.fn f).rdy = false ∧ (∀ q, q < 65536 → (t.sq f q).size = 0 ∧ (t.cq f q).size = 0) ∧
      (∀ x ∈ t.hfe.tickets, x.fn ≠ f) ∧ (s.mediaIdle → t.hfe.posted = s.hfe.posted) ∧ (t.fn f).busMaster = (s.fn f).busMaster ∧
      (t.fn f).inBusy = (s.fn f).inBusy ∧ t.on (EVT_SRC.PEND 200) = true ∧ keepsMem s t) ∧
  (∀ (s : State) (f : Nat), s.hfe.ctx = [] → s.hfe.held = [] → s.fnExists f = true →
    ∃ t, exec (.functionLevelReset f) s = .next t ∧ (t.fn f).en = false ∧ (t.fn f).msixEn = false ∧ (t.fn f).busMaster = false ∧
      (t.fn f).inBusy = false ∧ (t.fn f).outFull = false ∧ (∀ q, q < 65536 → (t.sq f q).size = 0 ∧ (t.cq f q).size = 0) ∧
      (∀ x ∈ t.hfe.tickets, x.fn ≠ f) ∧ (s.mediaIdle → t.hfe.posted = s.hfe.posted) ∧
      t.on (EVT_SRC.PEND 198) = true ∧ t.on (EVT_SRC.PEND 199) = true ∧ t.on (EVT_SRC.PEND 215) = true ∧ keepsMem s t) ∧
  (∀ (s : State) (p : Nat), s.hfe.ctx = [] →
    ∃ t, exec (.vfEnableClear p) s = .next t ∧ (t.port p).vfNum = 0 ∧
      (∀ f ∈ s.portVfs p, (t.fn f).en = false ∧ (t.fn f).msixEn = false ∧ (t.fn f).inBusy = false) ∧
      (s.mediaIdle → (∀ f, f ∉ s.portVfs p → t.fn f = s.fn f) ∧ t.hfe.posted = s.hfe.posted) ∧ keepsMem s t)

/-- R121 to R124 and R143: SQ_TAIL_DOORBELL, CQ_HEAD_DOORBELL and DEFERRED_DOORBELL_OBSERVE. Observed doorbells take consecutive tickets, one an
entry; a value outside its queue is counted and ignored; without ADMIT_EN doorbells are held and nothing else happens. -/
def Obligations.DoorbellsTakeTicketsInOrder : Prop :=
  (∀ (s : State) (f q tail k : Nat), s.bar f = true → s.fld PWR_STAT.STATE = 0 → s.hfe.held = [] → s.on HFE_CTRL.ADMIT_EN = true →
    s.hfe.stopped = false → (s.sq f q).tail < (s.sq f q).size → (s.sq f q).head < (s.sq f q).size → tail < (s.sq f q).size →
    ((s.sq f q).tail + (s.sq f q).size - (s.sq f q).head) % (s.sq f q).size ≤ (tail + (s.sq f q).size - (s.sq f q).head) % (s.sq f q).size →
    k = (tail + (s.sq f q).size - (s.sq f q).tail) % (s.sq f q).size → s.ctxHeld f < s.cmdLimit f → s.fld HFE_TICKET.TICKET + k < 2 ^ 64 →
    ∃ t, exec (.sqTailDoorbell f q tail) s = .next t ∧ t.fld HFE_TICKET.TICKET = s.fld HFE_TICKET.TICKET + k ∧
      t.hfe.tickets = s.hfe.tickets ++ (List.range k).map (fun i => { ticket := s.fld HFE_TICKET.TICKET + i, fn := f, sqid := q }) ∧
      (t.sq f q).tail = tail ∧ t.hfe.held = [] ∧ t.hfe.ctx = s.hfe.ctx ∧ keepsRegs [HFE_TICKET.TICKET] s t ∧ keepsMem s t) ∧
  (∀ (s : State) (f q tail : Nat), s.bar f = true → s.fld PWR_STAT.STATE = 0 → s.hfe.held = [] → s.on HFE_CTRL.ADMIT_EN = true →
    s.hfe.stopped = false → (s.sq f q).size ≤ tail →
    ∃ t, exec (.sqTailDoorbell f q tail) s = .next t ∧ t.fld HFE_ERRCNT.DBERR = min (s.fld HFE_ERRCNT.DBERR + 1) 0xFFFF ∧
      t.hfe.tickets = s.hfe.tickets ∧ t.fld HFE_TICKET.TICKET = s.fld HFE_TICKET.TICKET ∧ t.on (EVT_SRC.PEND 202) = true ∧
      keepsRegs [HFE_ERRCNT.DBERR] s t ∧ keepsMem s t) ∧
  (∀ (s : State) (f q tail : Nat), s.bar f = true → s.fld PWR_STAT.STATE = 0 → s.on HFE_CTRL.ADMIT_EN = false →
    ∃ t, exec (.sqTailDoorbell f q tail) s = .next t ∧ exec .deferredDoorbellObserve s = .next s ∧
      t.hfe = { s.hfe with held := s.hfe.held ++ [{ fn := f, qid := q, tail := tail }] } ∧ onlyRegs [] s t) ∧
  (∀ (s : State) (f q tail : Nat), s.hfe.held = [{ fn := f, qid := q, tail := tail }] → s.on HFE_CTRL.ADMIT_EN = true →
    s.hfe.stopped = false → (s.sq f q).tail < (s.sq f q).size → (s.sq f q).head < (s.sq f q).size → tail < (s.sq f q).size →
    ((s.sq f q).tail + (s.sq f q).size - (s.sq f q).head) % (s.sq f q).size ≤ (tail + (s.sq f q).size - (s.sq f q).head) % (s.sq f q).size →
    s.cmdLimit f ≤ s.ctxHeld f → exec .deferredDoorbellObserve s = .next s) ∧
  (∀ (s : State) (f q tail k : Nat), s.hfe.held = [{ fn := f, qid := q, tail := tail }] → s.on HFE_CTRL.ADMIT_EN = true →
    s.hfe.stopped = false → (s.sq f q).tail < (s.sq f q).size → (s.sq f q).head < (s.sq f q).size → tail < (s.sq f q).size →
    ((s.sq f q).tail + (s.sq f q).size - (s.sq f q).head) % (s.sq f q).size ≤ (tail + (s.sq f q).size - (s.sq f q).head) % (s.sq f q).size →
    k = (tail + (s.sq f q).size - (s.sq f q).tail) % (s.sq f q).size → s.ctxHeld f < s.cmdLimit f →
    s.fld HFE_TICKET.TICKET + k < 2 ^ 64 →
    ∃ t, exec .deferredDoorbellObserve s = .next t ∧ t.hfe.held = [] ∧ t.fld HFE_TICKET.TICKET = s.fld HFE_TICKET.TICKET + k ∧
      t.hfe.tickets = s.hfe.tickets ++ (List.range k).map (fun i => { ticket := s.fld HFE_TICKET.TICKET + i, fn := f, sqid := q }) ∧
      (t.sq f q).tail = tail ∧ t.hfe.ctx = s.hfe.ctx ∧ keepsRegs [HFE_TICKET.TICKET] s t ∧ keepsMem s t) ∧
  (∀ (s : State) (f q head : Nat), s.bar f = true → s.fld PWR_STAT.STATE = 0 → s.hfe.held = [] → s.hfe.ctx = [] → (s.fn f).events = [] → s.mediaIdle →
    s.on HFE_CTRL.ADMIT_EN = true → s.hfe.stopped = false → head < (s.cq f q).size →
    (head + (s.cq f q).size - (s.cq f q).head) % (s.cq f q).size ≤ (s.cq f q).used →
    ∃ t, exec (.cqHeadDoorbell f q head) s = .next t ∧ (t.cq f q).head = head ∧
      (t.cq f q).used = (s.cq f q).used - (head + (s.cq f q).size - (s.cq f q).head) % (s.cq f q).size ∧ t.hfe.posted = s.hfe.posted ∧
      onlyRegs [] s t)

/-- R123 and R154: ADMISSION runs the row its fetched entry spells, on the entry whose ticket is next; a fused entry and an opcode that is not
listed fail. What host memory holds beside the entry are free values, whose counter alone differs (log entry 11). -/
def Obligations.AdmissionRunsTheFetchedCommand : Prop :=
  (∀ (s : State) (tk : Tick) (l : List Tick) (sqe : Sqe) (i : Instr), s.hfe.tickets = tk :: l → tk.sqid ≠ 0 → badEntry false sqe = false →
    badPointer false sqe = none → s.ioEntry sqe = some i →
    ∃ t, exec i s = .next t ∧ exec (.admission sqe) s = .next { t with free := t.free + 2 ^ 33 }) ∧
  (∀ (s : State) (tk : Tick) (l : List Tick) (sqe : Sqe) (i : Instr), s.hfe.tickets = tk :: l → tk.sqid = 0 → badEntry true sqe = false →
    badPointer true sqe = none → s.adminEntry sqe = some i →
    ∃ t, exec i s = .next t ∧ exec (.admission sqe) s = .next { t with free := t.free + 2 ^ 33 }) ∧
  (∀ (s : State) (tk : Tick) (sqe : Sqe), s.onlyIo tk → badEntry false sqe = true →
    ∃ t, exec (.admission sqe) s = .next t ∧ s.completes t tk (slice (sqeDw sqe 0) 16 16) stField 0 [] ∧ keepsRegs [] s t ∧ keepsMem s t) ∧
  (∀ (s : State) (tk : Tick) (sqe : Sqe), s.onlyIo tk → badEntry false sqe = false → bufferOpcodes.contains (slice (sqeDw sqe 0) 0 8) = true →
    1 ≤ slice (sqeDw sqe 0) 14 2 → slice (sqeDw sqe 0) 14 2 ≤ 2 → slice (sqeDw sqe 9) 28 4 ∉ [0, 2, 3] →
    ∃ t, exec (.admission sqe) s = .next t ∧ s.completes t tk (slice (sqeDw sqe 0) 16 16) stSglType 0 [] ∧ keepsRegs [] s t ∧ keepsMem s t) ∧
  (∀ (s : State) (tk : Tick) (sqe : Sqe), s.onlyIo tk → badEntry false sqe = false → slice (sqeDw sqe 0) 14 2 = 0 →
    slice (sqeDw sqe 0) 0 8 ∉ ioOpcodes → s.ioEntry sqe = none →
    ∃ t, exec (.admission sqe) s = .next t ∧ s.completes t tk (slice (sqeDw sqe 0) 16 16) stOpcode 0 [] ∧ keepsRegs [] s t ∧ keepsMem s t)

/-- R129 and R138 for COMMAND_DISPATCH of the only waiting command, a write; R141 and R362 for the data of a piece; R203 for the dispatch of a
piece whose zone holds a row; R127 and R141 for the commit of a command's only piece in its zone. -/
def Obligations.WritesGoThroughTheirPieces : Prop :=
  (∀ (s : State) (c : Cmd), s.hfe.ctx = [c] → s.mayDispatch c = true → c.op = .write → c.fn < 512 → 0 < (s.fn c.fn).deficit →
    (s.sq c.fn c.sqid).prio < 4 → s.on FNS_CTRL.TOKEN_EN = false → s.mediaIdle →
    ∃ t, exec .commandDispatch s = .next t ∧ t.hfe.ctx = [{ c with dispatched := true }] ∧
      (t.fn c.fn).deficit = (s.fn c.fn).deficit - (s.cost c : Int) ∧ t.hfe.posted = s.hfe.posted ∧ onlyRegs [] s t) ∧
  (∀ (s : State) (c : Cmd) (p : Piece) (k : Nat) (data tags : List Nat), s.hfe.ctx = [c] → s.openPiece c.ticket k = some (c, p) →
    c.op = .write → p.fetched = false → p.head ≠ 0 → s.on TUB_CTRL.EN = true → (s.ns (c.nsid - 1)).pi = 0 → data.length = p.n →
    (∀ d ∈ data, d < 2 ^ (8 * 2 ^ (s.ns (c.nsid - 1)).bshift)) → s.mediaIdle →
    ∃ t, exec (.hostDataFetch c.ticket k data tags .none) s = .next t ∧
      (t.openPiece c.ticket k).map (fun x => (x.2.fetched, x.2.data, x.2.placed)) = some (true, data, p.placed) ∧
      t.hfe.posted = s.hfe.posted ∧ onlyRegs [] s t) ∧
  (∀ (s : State) (c : Cmd) (p : Piece) (k : Nat), s.hfe.ctx = [c] → s.openPiece c.ticket k = some (c, p) → c.op = .write → p.placed = false →
    (s.ns (c.nsid - 1)).kind = 2 → (s.zone (s.zoneOf c.nsid c.lba)).hasrow = true → s.med.folds.length < 8192 →
    ∃ t, exec (.pieceDispatch c.ticket k) s = .next t ∧
      (t.openPiece c.ticket k).map (fun x => (x.2.placed, x.2.fetched, x.2.data)) = some (true, p.fetched, p.data) ∧
      (t.fold (s.zoneOf c.nsid c.lba)).live = true ∧ onlyRegs [] s t) ∧
  (∀ (s : State) (c : Cmd) (p : Piece), s.hfe.ctx = [c] → c.pieces = [p] → s.mayCommit c 0 = true → c.op = .write →
    (s.ns (c.nsid - 1)).kind = 2 → (s.zone (s.zoneOf c.nsid c.lba)).state ≠ .full → (s.zone (s.zoneOf c.nsid c.lba)).voidRuns = [] →
    s.cqRoom c.fn (s.sq c.fn c.sqid).cqid = true → s.mediaIdle → (∀ f, (s.fn f).aers = []) →
    ∃ t, exec (.pieceCommit c.ticket 0) s = .next t ∧ (∀ j, j < p.n → t.blockData c.nsid (p.lba + j) = p.data.getD j 0) ∧
      (t.zone (s.zoneOf c.nsid c.lba)).wpCommit = p.lba - s.zoneStart (s.zoneOf c.nsid c.lba) + p.n ∧ t.hfe.ctx = [] ∧
      t.hfe.posted.map (fun x => (x.ticket, x.cid, x.status)) =
        s.hfe.posted.map (fun x => (x.ticket, x.cid, x.status)) ++ [(c.ticket, c.cid, stOk)])

/-- R117 and R119 for HFE_QALLOC_WRITE and HFE_CMDLIM_WRITE; R151 and R518 for ADMIT_EN_SET with no doorbell held. -/
def Obligations.FrontEndRegistersTakeAllowedValues : Prop :=
  (∀ (s : State) (m f v : Nat), f < 512 → s.reaches m (HFE_QALLOC.NSQ f).addr → s.fnValueOk f 0x10 ((HFE_QALLOC.NSQ f).of v) = true →
    s.fnValueOk f 0x11 ((HFE_QALLOC.NCQ f).of v) = true →
    ∃ t, exec (.hfeQallocWrite m f v) s = .next t ∧ t.fld (HFE_QALLOC.NSQ f) = (HFE_QALLOC.NSQ f).of v ∧
      t.fld (HFE_QALLOC.NCQ f) = (HFE_QALLOC.NCQ f).of v ∧ t.hfe = s.hfe ∧ keepsRegs [HFE_QALLOC.NSQ f, HFE_QALLOC.NCQ f] s t ∧ keepsMem s t) ∧
  (∀ (s : State) (m f v : Nat), f < 512 → s.reaches m (HFE_QALLOC.NSQ f).addr →
    15871 < (HFE_QALLOC.NSQ f).of v ∨ 15871 < (HFE_QALLOC.NCQ f).of v ∨ 15872 < s.fnTotal HFE_QALLOC.NSQ f ((HFE_QALLOC.NSQ f).of v) ∨
      15872 < s.fnTotal HFE_QALLOC.NCQ f ((HFE_QALLOC.NCQ f).of v) →
    ∃ t, exec (.hfeQallocWrite m f v) s = .next t ∧ t.on HFE_STAT.ALLOCERR = true ∧ t.on (EVT_SRC.PEND 203) = true ∧ t.hfe = s.hfe ∧
      keepsRegs [HFE_STAT.ALLOCERR] s t ∧ keepsMem s t) ∧
  (∀ (s : State) (m f v : Nat), f < 512 → s.reaches m (HFE_CMDLIM.LIMIT f).addr → s.fnValueOk f 0x12 ((HFE_CMDLIM.LIMIT f).of v) = true →
    ∃ t, exec (.hfeCmdlimWrite m f v) s = .next t ∧ t.fld (HFE_CMDLIM.LIMIT f) = (HFE_CMDLIM.LIMIT f).of v ∧ t.hfe = s.hfe ∧
      keepsRegs [HFE_CMDLIM.LIMIT f] s t ∧ keepsMem s t) ∧
  (∀ (s : State) (m f v : Nat), f < 512 → s.reaches m (HFE_CMDLIM.LIMIT f).addr →
    65536 < (HFE_CMDLIM.LIMIT f).of v ∨ 65536 < s.fnTotal HFE_CMDLIM.LIMIT f ((HFE_CMDLIM.LIMIT f).of v) →
    ∃ t, exec (.hfeCmdlimWrite m f v) s = .next t ∧ t.on HFE_STAT.ALLOCERR = true ∧ t.on (EVT_SRC.PEND 203) = true ∧ t.hfe = s.hfe ∧
      keepsRegs [HFE_STAT.ALLOCERR] s t ∧ keepsMem s t) ∧
  (∀ (s : State) (m v : Nat), s.reaches m HFE_CTRL.DA.addr → s.hfe.held = [] →
    ∃ t, exec (.admitEnSet m v) s = .next t ∧ t.fld HFE_CTRL.ADMIT_EN = HFE_CTRL.ADMIT_EN.of v ∧ t.fld HFE_CTRL.DA = HFE_CTRL.DA.of v ∧
      (∀ f, (t.fn f).rdy = ((s.fn f).en && HFE_CTRL.ADMIT_EN.of v == 1) ∧ (t.fn f).en = (s.fn f).en) ∧
      t.hfe.ctx = s.hfe.ctx ∧ t.hfe.tickets = s.hfe.tickets ∧ keepsRegs [HFE_CTRL.ADMIT_EN, HFE_CTRL.DA] s t ∧ keepsMem s t) ∧
  (∀ (s : State) (m v f q tail k : Nat), s.reaches m HFE_CTRL.DA.addr → HFE_CTRL.ADMIT_EN.of v = 1 → s.hfe.stopped = false →
    s.hfe.held = [{ fn := f, qid := q, tail := tail }] → (s.sq f q).tail < (s.sq f q).size → (s.sq f q).head < (s.sq f q).size →
    tail < (s.sq f q).size →
    ((s.sq f q).tail + (s.sq f q).size - (s.sq f q).head) % (s.sq f q).size ≤ (tail + (s.sq f q).size - (s.sq f q).head) % (s.sq f q).size →
    k = (tail + (s.sq f q).size - (s.sq f q).tail) % (s.sq f q).size → s.ctxHeld f < s.cmdLimit f → s.fld HFE_TICKET.TICKET + k < 2 ^ 64 →
    ∃ t, exec (.admitEnSet m v) s = .next t ∧ t.on HFE_CTRL.ADMIT_EN = true ∧ (∀ g, (t.fn g).rdy = (s.fn g).en) ∧ t.hfe.held = [] ∧
      t.hfe.tickets = s.hfe.tickets ++ (List.range k).map (fun i => { ticket := s.fld HFE_TICKET.TICKET + i, fn := f, sqid := q }) ∧
      t.fld HFE_TICKET.TICKET = s.fld HFE_TICKET.TICKET + k ∧ keepsRegs [HFE_CTRL.ADMIT_EN, HFE_CTRL.DA, HFE_TICKET.TICKET] s t ∧
      keepsMem s t)

/-- R176 to R179: the mailbox of a function, its inbound and outbound messages and its ring. -/
def Obligations.MailboxesPassMessages : Prop :=
  (∀ (s : State) (f : Nat) (msg : List Nat), s.bar f = true → (s.fn f).inBusy = false →
    ∃ t, exec (.mailboxInPost f msg) s = .next t ∧ (t.fn f).inBusy = true ∧
      (∀ i, i < 16 → Tab.get 0 (t.fn f).mbxIn i = msg.getD i 0 % 2 ^ 32) ∧ t.on (EVT_SRC.PEND 208) = true ∧
      (∀ g, g ≠ f → t.fn g = s.fn g) ∧ keepsRegs [] s t ∧ keepsMem s t) ∧
  (∀ (s : State) (f : Nat) (msg : List Nat), s.bar f = true → (s.fn f).inBusy = true →
    ∃ t, exec (.mailboxInPost f msg) s = .next t ∧ (t.fn f).inOver = true ∧ (t.fn f).mbxIn = (s.fn f).mbxIn ∧
      t.on (EVT_SRC.PEND 210) = true ∧ keepsRegs [] s t ∧ keepsMem s t) ∧
  (∀ (s : State) (f v : Nat), s.bar f = true →
    ∃ t, exec (.mailboxOutAck f v) s = .next t ∧ (t.fn f).outFull = false ∧ (t.fn f).vector = v % 2 ^ 11 ∧ (t.fn f).vecEn = v.testBit 15 ∧
      t.on (EVT_SRC.PEND 209) = true ∧ (∀ g, g ≠ f → t.fn g = s.fn g) ∧ keepsRegs [] s t ∧ keepsMem s t) ∧
  (∀ (s : State) (f lo hi size : Nat), s.bar f = true → (s.fn f).busMaster = true → 12 ≤ size → size ≤ 20 → lo < 2 ^ 32 → hi < 2 ^ 32 →
    (lo % 2 ^ size = 0 →
      ∃ t, exec (.mailboxRingCommit f lo hi size) s = .next t ∧ (t.fn f).ringBase = hi * 2 ^ 32 + lo ∧ (t.fn f).ringExp = size ∧
        t.on (EVT_SRC.PEND 211) = true ∧ (∀ g, g ≠ f → t.fn g = s.fn g) ∧ keepsRegs [] s t ∧ keepsMem s t) ∧
    ((lo / 4096 * 4096) % 2 ^ size ≠ 0 →
      ∃ t, exec (.mailboxRingCommit f lo hi size) s = .next t ∧ (t.fn f).ringErr = true ∧ (t.fn f).ringBase = (s.fn f).ringBase ∧
        (t.fn f).ringExp = (s.fn f).ringExp ∧ (∀ g, g ≠ f → t.fn g = s.fn g) ∧ keepsRegs [] s t ∧ keepsMem s t)) ∧
  (∀ (s : State) (m f : Nat), f < 512 → s.reaches m FNS_MBXACK.FUNC.addr →
    ((s.fn f).outFull = false →
      ∃ t, exec (.outPost m (0x20000 + f)) s = .next t ∧ (t.fn f).outFull = true ∧ (t.fn f).outMsg = (s.fn f).mbxOut ∧
        t.hfe.msix = (if (s.fn f).vecEn && (s.fn f).msixEn && !(s.fn f).msixMask && (s.fn f).msixOpen.contains (s.fn f).vector
          then s.hfe.msix ++ [(f, (s.fn f).vector)] else s.hfe.msix) ∧
        (∀ g, g ≠ f → t.fn g = s.fn g) ∧ keepsRegs [] s t ∧ keepsMem s t) ∧
    ((s.fn f).outFull = true →
      ∃ t, exec (.outPost m (0x20000 + f)) s = .next t ∧ t.on FNS_MBXACK.REJ = true ∧ t.hfe = s.hfe ∧
        (∀ g, t.fn g = s.fn g) ∧ keepsRegs [FNS_MBXACK.REJ] s t ∧ keepsMem s t)) ∧
  (∀ (s : State) (m f : Nat), f < 512 → s.reaches m FNS_MBXACK.FUNC.addr →
    ∃ t, exec (.inDone m (0x10000 + f)) s = .next t ∧ (t.fn f).inBusy = false ∧ (t.fn f).inTaken = true ∧
      (∀ g, g ≠ f → t.fn g = s.fn g) ∧ keepsRegs [] s t ∧ keepsMem s t)

/-- R126, R192, R196, R227 and R233 for READ and VERIFY: blocks that no media location holds are returned at once, a block behind no committed
write fails as unwritten, a range outside the namespace fails. -/
def Obligations.ReadsReturnTheBlocksOfTheirRange : Prop :=
  (∀ (s : State) (tk : Tick) (cid nsid slba nlb : Nat) (pr : Pr), s.onlyIo tk → s.nsFor tk.fn nsid = true → (s.ns (nsid - 1)).kind = 1 →
    (s.ns (nsid - 1)).pi = 0 → s.tooLong nsid (nlb + 1) = false → slba + (nlb + 1) ≤ (s.ns (nsid - 1)).nsze →
    (∀ j, j ≤ nlb → s.placeOf nsid ((slba + j) / 2 ^ s.unitShift nsid) = none) →
    (∀ j, j ≤ nlb → s.med.cached (mapPage (nsid - 1) ((slba + j) / 2 ^ s.unitShift nsid)) = true) ∨
      (∀ j, j ≤ nlb → Tab.get 0 s.med.mapAddr (mapPage (nsid - 1) ((slba + j) / 2 ^ s.unitShift nsid)) = 0) →
    (∀ x ∈ s.med.mapReads, x.1 ≠ tk.ticket) →
    (∃ t, exec (.read cid nsid slba nlb pr) s = .next t ∧
      s.completes t tk cid stOk 0 ((List.range (nlb + 1)).map fun j => s.blockData nsid (slba + j)) ∧
      keepsRegs [MED_MAPMISS.COUNT] s t ∧ keepsMem s t) ∧
    (∃ t, exec (.verify cid nsid slba nlb pr) s = .next t ∧ s.completes t tk cid stOk 0 [] ∧ keepsRegs [MED_MAPMISS.COUNT] s t ∧ keepsMem s t)) ∧
  (∀ (s : State) (tk : Tick) (cid nsid slba nlb : Nat) (pr : Pr), s.onlyIo tk → s.nsFor tk.fn nsid = true → (s.ns (nsid - 1)).kind = 2 →
    (s.ns (nsid - 1)).pi = 0 → s.tooLong nsid (nlb + 1) = false → slba + (nlb + 1) ≤ (s.ns (nsid - 1)).nsze →
    (∀ j, j ≤ nlb → (s.zone (s.zoneOf nsid (slba + j))).state ≠ .offline ∧
      slba + j - s.zoneStart (s.zoneOf nsid (slba + j)) <
        min (s.zone (s.zoneOf nsid (slba + j))).wpAdmit (s.zone (s.zoneOf nsid (slba + j))).wpCommit ∧
      (s.zone (s.zoneOf nsid (slba + j))).inVoid (slba + j - s.zoneStart (s.zoneOf nsid (slba + j))) = false ∧
      ∃ i b, s.placeOf nsid ((slba + j) / 2 ^ s.unitShift nsid) = some (i, b) ∧ s.locOf i b = .none) →
    (∀ x ∈ s.med.mapReads, x.1 ≠ tk.ticket) →
    ∃ t, exec (.read cid nsid slba nlb pr) s = .next t ∧
      s.completes t tk cid stOk 0 ((List.range (nlb + 1)).map fun j => s.blockData nsid (slba + j)) ∧ keepsRegs [] s t ∧ keepsMem s t) ∧
  (∀ (s : State) (tk : Tick) (cid nsid slba : Nat) (pr : Pr), s.onlyIo tk → s.nsFor tk.fn nsid = true → (s.ns (nsid - 1)).kind = 2 →
    s.tooLong nsid 1 = false → slba + 1 ≤ (s.ns (nsid - 1)).nsze → (s.zone (s.zoneOf nsid slba)).state ≠ .offline →
    min (s.zone (s.zoneOf nsid slba)).wpAdmit (s.zone (s.zoneOf nsid slba)).wpCommit ≤ slba - s.zoneStart (s.zoneOf nsid slba) →
    (∃ t, exec (.read cid nsid slba 0 pr) s = .next t ∧ s.completes t tk cid stUnwritten 0 [] ∧ keepsRegs [] s t ∧ keepsMem s t) ∧
    ∃ t, exec (.verify cid nsid slba 0 pr) s = .next t ∧ s.completes t tk cid stUnwritten 0 [] ∧ keepsRegs [] s t ∧ keepsMem s t) ∧
  (∀ (s : State) (tk : Tick) (cid nsid slba nlb : Nat) (pr : Pr), s.onlyIo tk → s.nsFor tk.fn nsid = true → s.tooLong nsid (nlb + 1) = false →
    (s.ns (nsid - 1)).nsze < slba + (nlb + 1) →
    ∃ t, exec (.read cid nsid slba nlb pr) s = .next t ∧ s.completes t tk cid stLba 0 [] ∧ t.zpm = s.zpm ∧ t.med = s.med ∧ onlyRegs [] s t)

/-- R125, R139, R142, R192, R199 for WRITE, ZONE_APPEND and WRITE_ZEROES on a zone: the check of the zone decides at admission; WP_ADMIT advances, the
zone opens or becomes Full, the command waits dispatched with its pieces; an append takes its blocks from WP_ADMIT and reports where. -/
def Obligations.WritesAreAdmittedAtTheWritePointer : Prop :=
  (∀ (s : State) (tk : Tick) (cid nsid slba nlb dspec i : Nat) (pr : Pr), s.onlyIo tk → s.nsFor tk.fn nsid = true →
    (s.ns (nsid - 1)).kind = 2 → s.on MSH_STAT.TBLFULL = false → s.tooLong nsid (nlb + 1) = false → slba + (nlb + 1) ≤ (s.ns (nsid - 1)).nsze →
    i = s.zoneOf nsid slba → (s.zone i).nsidx = nsid - 1 → s.writeCheck i false slba (nlb + 1) = none →
    ∃ t, exec (.write cid nsid slba nlb pr dspec) s = .next t ∧
      t.hfe.ctx.map (fun c => (c.ticket, c.cid, c.dispatched, c.status, c.lba, c.pieces)) =
        [(tk.ticket, cid, true, none, slba, piecesOf (s.ns (nsid - 1)).bshift slba (nlb + 1))] ∧
      (t.zone i).wpAdmit = (s.zone i).wpAdmit + (nlb + 1) ∧ (t.zone i).wpCommit = (s.zone i).wpCommit ∧
      (t.zone i).state = (if (s.zone i).wpAdmit + (nlb + 1) = (s.ns (nsid - 1)).zcap then .full
        else if (s.zone i).state = .empty ∨ (s.zone i).state = .closed then .implicit else (s.zone i).state) ∧
      t.hfe.posted = s.hfe.posted ∧ keepsRegs [] s t ∧ keepsMem s t) ∧
  (∀ (s : State) (tk : Tick) (cid nsid slba nlb i : Nat) (pr : Pr), s.onlyIo tk → s.nsFor tk.fn nsid = true → (s.ns (nsid - 1)).kind = 2 →
    s.on MSH_STAT.TBLFULL = false → slba + (nlb + 1) ≤ (s.ns (nsid - 1)).nsze → i = s.zoneOf nsid slba → (s.zone i).nsidx = nsid - 1 →
    s.writeCheck i false slba (nlb + 1) = none →
    ∃ t, exec (.writeZeroes cid nsid slba nlb pr) s = .next t ∧
      t.hfe.ctx.map (fun c => (c.ticket, c.cid, c.dispatched, c.status, c.lba, c.pieces)) =
        [(tk.ticket, cid, true, none, slba, piecesOf (s.ns (nsid - 1)).bshift slba (nlb + 1))] ∧
      (t.zone i).wpAdmit = (s.zone i).wpAdmit + (nlb + 1) ∧ t.hfe.posted = s.hfe.posted ∧ keepsRegs [] s t ∧ keepsMem s t) ∧
  (∀ (s : State) (tk : Tick) (cid nsid zslba nlb i : Nat) (pr : Pr), s.onlyIo tk → s.nsFor tk.fn nsid = true → (s.ns (nsid - 1)).kind = 2 →
    s.on MSH_STAT.TBLFULL = false → s.tooLong nsid (nlb + 1) = false → zslba + (nlb + 1) ≤ (s.ns (nsid - 1)).nsze →
    i = s.zoneOf nsid zslba → (s.zone i).nsidx = nsid - 1 → s.writeCheck i true zslba (nlb + 1) = none →
    ∃ t, exec (.zoneAppend cid nsid zslba nlb pr) s = .next t ∧
      t.hfe.ctx.map (fun c => (c.ticket, c.cid, c.dispatched, c.status, c.lba, c.dw0, c.pieces)) =
        [(tk.ticket, cid, true, none, zslba + (s.zone i).wpAdmit, zslba + (s.zone i).wpAdmit,
          piecesOf (s.ns (nsid - 1)).bshift (zslba + (s.zone i).wpAdmit) (nlb + 1))] ∧
      (t.zone i).wpAdmit = (s.zone i).wpAdmit + (nlb + 1) ∧ t.hfe.posted = s.hfe.posted ∧ keepsRegs [] s t ∧ keepsMem s t) ∧
  (∀ (s : State) (tk : Tick) (cid nsid slba nlb dspec st : Nat) (pr : Pr), s.onlyIo tk → s.nsFor tk.fn nsid = true →
    (s.ns (nsid - 1)).kind = 2 → s.on MSH_STAT.TBLFULL = false → s.tooLong nsid (nlb + 1) = false → slba + (nlb + 1) ≤ (s.ns (nsid - 1)).nsze →
    s.writeCheck (s.zoneOf nsid slba) false slba (nlb + 1) = some st →
    ∃ t, exec (.write cid nsid slba nlb pr dspec) s = .next t ∧ s.completes t tk cid st 0 [] ∧ t.zpm = s.zpm ∧ keepsRegs [] s t ∧ keepsMem s t)

/-- R128 for FLUSH, R137 for ORDER_FENCE, R233 for DATASET_MANAGEMENT, R210 and R211 for the I/O Management commands. -/
def Obligations.OtherIoCommandsCompleteAtOnce : Prop :=
  (∀ (s : State) (tk : Tick) (cid nsid : Nat), s.onlyIo tk →
    ∃ t, exec (.flush cid nsid) s = .next t ∧
      s.completes t tk cid (if nsid = 0xFFFFFFFF ∨ s.nsFor tk.fn nsid = true then stOk else stNamespace) 0 [] ∧
      t.zpm = s.zpm ∧ t.med = s.med ∧ onlyRegs [] s t) ∧
  (∀ (s : State) (tk : Tick) (cid : Nat) (l : List Nat), s.onlyIo tk →
    ∃ t, exec (.orderFence cid l) s = .next t ∧ s.completes t tk cid (if l.any (· != 0) then stField else stOk) 0 [] ∧
      t.zpm = s.zpm ∧ t.med = s.med ∧ onlyRegs [] s t) ∧
  (∀ (s : State) (tk : Tick) (cid nsid a n : Nat), s.onlyIo tk → s.nsFor tk.fn nsid = true → (s.ns (nsid - 1)).kind = 1 →
    a + n ≤ (s.ns (nsid - 1)).nsze →
    (∃ t, exec (.datasetManagement cid nsid false [(a, n)]) s = .next t ∧ s.completes t tk cid stOk 0 [] ∧ t.zpm = s.zpm ∧ t.med = s.med ∧
      onlyRegs [] s t) ∧
    ∃ t, exec (.datasetManagement cid nsid true [(a, n)]) s = .next t ∧ s.completes t tk cid stOk 0 [] ∧
      (∀ j, j < n → t.blockData nsid (a + j) = 0) ∧
      (∀ u, a ≤ u * 2 ^ s.unitShift nsid → (u + 1) * 2 ^ s.unitShift nsid ≤ a + n → Tab.get none t.med.map ((nsid - 1) * 2 ^ 40 + u) = none) ∧
      keepsMem s t) ∧
  (∀ (s : State) (tk : Tick) (cid nsid pid i : Nat), s.onlyIo tk → s.nsFor tk.fn nsid = true → (s.ns (nsid - 1)).kind = 1 → s.zpm.fdpOn = true →
    pid / 256 < s.dnum 0x3101 0 → pid % 256 < (s.ns (nsid - 1)).handles.length →
    s.attached (pid / 256) ((s.ns (nsid - 1)).handles.getD (pid % 256) 0) = some i →
    ∃ t, exec (.ioManagementSend cid nsid 1 [pid]) s = .next t ∧ s.completes t tk cid stOk 0 [] ∧ (t.zone i).state = .full ∧
      t.attached (pid / 256) ((s.ns (nsid - 1)).handles.getD (pid % 256) 0) = none ∧ keepsMem s t) ∧
  (∀ (s : State) (tk : Tick) (cid nsid : Nat), s.onlyIo tk → s.nsFor tk.fn nsid = true → (s.ns (nsid - 1)).kind = 1 → s.zpm.fdpOn = true →
    ∃ t, exec (.ioManagementReceive cid nsid 1) s = .next t ∧
      s.completes t tk cid stOk 0 ((List.range (s.dnum 0x3101 0)).flatMap fun rg => (List.range (s.ns (nsid - 1)).handles.length).flatMap fun ph =>
        [rg * 256 + ph, (s.ns (nsid - 1)).handles.getD ph 0,
         match s.attached rg ((s.ns (nsid - 1)).handles.getD ph 0) with
         | some i => s.rowUnits (s.zone i).sset - (s.zone i).wpCommit
         | none => s.rowUnits (s.rgSet rg)]) ∧ t.zpm = s.zpm ∧ onlyRegs [] s t)

/-- R191, R193, R194, R201, R204 and Table 6.3 for the Zone Management Send actions on one zone, and R194 for Close of all zones; R195 for Zone
Management Receive. An action that the table does not allow fails with its status and changes no zone. -/
def Obligations.ZoneActionsFollowTheirTable : Prop :=
  (∀ (s : State) (tk : Tick) (cid nsid slba i : Nat), s.actsOn tk nsid slba i → s.actCheck .openZ i = none →
    ∃ t, exec (.zoneOpen cid nsid slba false) s = .next t ∧ s.completes t tk cid stOk 0 [] ∧ (t.zone i).state = .explicit ∧
      (t.zone i).wpAdmit = (s.zone i).wpAdmit ∧ keepsRegs [ZPM_STAT.CKPT_BUSY] s t ∧ keepsMem s t) ∧
  (∀ (s : State) (tk : Tick) (cid nsid slba i : Nat), s.actsOn tk nsid slba i → s.actCheck .close i = none →
    ∃ t, exec (.zoneClose cid nsid slba false) s = .next t ∧ s.completes t tk cid stOk 0 [] ∧
      (t.zone i).state = (if (s.zone i).state ≠ .closed ∧ (s.zone i).wpAdmit = 0 then .empty else .closed) ∧
      (t.zone i).wpAdmit = (s.zone i).wpAdmit ∧ ((s.zone i).wpAdmit = 0 → (s.zone i).state ≠ .closed → (t.zone i).hasrow = false) ∧
      ((s.zone i).wpAdmit ≠ 0 → keepsRegs [ZPM_STAT.CKPT_BUSY] s t) ∧ keepsMem s t) ∧
  (∀ (s : State) (tk : Tick) (cid nsid slba i : Nat), s.actsOn tk nsid slba i → s.actCheck .finish i = none →
    ∃ t, exec (.zoneFinish cid nsid slba false) s = .next t ∧ s.completes t tk cid stOk 0 [] ∧ (t.zone i).state = .full ∧
      (t.zone i).wpAdmit = (s.zone i).wpAdmit ∧ keepsMem s t) ∧
  (∀ (s : State) (tk : Tick) (cid nsid slba i : Nat), s.actsOn tk nsid slba i → s.actCheck .reset i = none →
    (s.zone i).state ≠ .empty → slba + (s.ns (nsid - 1)).zoneBlocks ≤ 2 ^ 40 → s.med.migr = [] →
    ∃ t, exec (.zoneReset cid nsid slba false) s = .next t ∧ s.completes t tk cid stOk 0 [] ∧ (t.zone i).state = .empty ∧
      (t.zone i).wpAdmit = 0 ∧ (t.zone i).wpCommit = 0 ∧ (t.zone i).hasrow = false ∧
      (∀ b, b < (s.ns (nsid - 1)).zoneBlocks → t.blockData nsid (slba + b) = 0) ∧ keepsMem s t) ∧
  (∀ (s : State) (tk : Tick) (cid nsid slba i : Nat), s.actsOn tk nsid slba i → (s.zone i).state = .readOnly → s.med.migr = [] →
    (∀ f, ∀ a ∈ (s.fn f).aers, a.2 ≠ tk.ticket) →
    ∃ t, exec (.zoneOffline cid nsid slba false) s = .next t ∧ s.ends t tk cid stOk 0 [] ∧ (t.zone i).state = .offline ∧
      (t.zone i).hasrow = false ∧ t.on (EVT_SRC.PEND 225) = true ∧ keepsMem s t) ∧
  (∀ (s : State) (tk : Tick) (cid nsid slba i st : Nat), s.actsOn tk nsid slba i →
    (s.actCheck .openZ i = some st → ∃ t, exec (.zoneOpen cid nsid slba false) s = .next t ∧ s.completes t tk cid st 0 [] ∧ t.zpm = s.zpm) ∧
    (s.actCheck .close i = some st → ∃ t, exec (.zoneClose cid nsid slba false) s = .next t ∧ s.completes t tk cid st 0 [] ∧ t.zpm = s.zpm) ∧
    (s.actCheck .finish i = some st → ∃ t, exec (.zoneFinish cid nsid slba false) s = .next t ∧ s.completes t tk cid st 0 [] ∧ t.zpm = s.zpm) ∧
    (s.actCheck .reset i = some st → ∃ t, exec (.zoneReset cid nsid slba false) s = .next t ∧ s.completes t tk cid st 0 [] ∧ t.zpm = s.zpm) ∧
    (s.actCheck .offline i = some st → ∃ t, exec (.zoneOffline cid nsid slba false) s = .next t ∧ s.completes t tk cid st 0 [] ∧ t.zpm = s.zpm)) ∧
  (∀ (s : State) (tk : Tick) (cid nsid slba : Nat), s.onlyIo tk → s.nsFor tk.fn nsid = true → (s.ns (nsid - 1)).kind = 2 →
    ∃ t, exec (.zoneClose cid nsid slba true) s = .next t ∧ s.completes t tk cid stOk 0 [] ∧
      (∀ i ∈ s.nsZones (nsid - 1), (s.zone i).state.isOpen = true → (t.zone i).state = if (s.zone i).wpAdmit = 0 then .empty else .closed) ∧
      (∀ i ∈ s.nsZones (nsid - 1), (s.zone i).state.isOpen = false → (t.zone i).state = (s.zone i).state) ∧ keepsMem s t) ∧
  (∀ (s : State) (tk : Tick) (cid nsid slba zra zrasf numd : Nat) (part : Bool) (l : List Nat), s.onlyIo tk → s.nsFor tk.fn nsid = true →
    (s.ns (nsid - 1)).kind = 2 → zra ≤ 1 → zrasf ≤ 7 → slba < (s.ns (nsid - 1)).nsze → (numd + 1) * 4 ≤ 2 ^ 21 →
    l = (s.nsZones (nsid - 1)).filter (fun i => decide (s.zoneOf nsid slba ≤ i) && reportFilter zrasf (s.zone i).state) →
    ∃ t, exec (.zoneManagementReceive cid nsid slba zra zrasf numd part) s = .next t ∧
      s.completes t tk cid stOk 0 ((if part then (l.take (((numd + 1) * 4 - 64) / 64)).length else l.length) ::
        (l.take (((numd + 1) * 4 - 64) / 64)).flatMap fun i => s.reportZone i) ∧ t.zpm = s.zpm ∧ onlyRegs [] s t)

/-- R154, R188, R396, R507, R589 and R603 for Identify and the log pages: the data structure of the function and page asked for, or the status where
there is none; nothing else changes but what reading the page lifts. -/
def Obligations.LogPagesReturnTheirData : Prop :=
  (∀ (s : State) (tk : Tick) (cid nsid cns cntid csi : Nat), s.onlyAdmin tk →
    ∃ t, exec (.identify cid nsid cns cntid csi) s = .next t ∧
      s.completes t tk cid (s.identifyData tk.fn nsid cns cntid csi).1 0
        (if (s.identifyData tk.fn nsid cns cntid csi).1 = stOk then (s.identifyData tk.fn nsid cns cntid csi).2 else []) ∧
      t.zpm = s.zpm ∧ onlyRegs [] s t) ∧
  (∀ (s : State) (tk : Tick) (cid nsid lid numd lpo : Nat) (rae : Bool), s.onlyAdmin tk → (s.fn tk.fn).aers = [] → (numd + 1) * 4 ≤ 2 ^ 21 →
    ∃ t, exec (.getLogPage cid nsid lid numd lpo rae) s = .next t ∧
      s.completes t tk cid (s.logData tk.fn nsid lid).1 0 (if (s.logData tk.fn nsid lid).1 = stOk then (s.logData tk.fn nsid lid).2 else []) ∧
      (rae = true → t.zpm = s.zpm ∧ (t.fn tk.fn).masked = (s.fn tk.fn).masked) ∧
      (rae = false → (s.logData tk.fn nsid lid).1 = stOk → ∀ e ∈ (t.fn tk.fn).masked, e / 65536 ≠ lid) ∧ onlyRegs [] s t) ∧
  (∀ (s : State) (tk : Tick) (cid numd lpo : Nat), s.onlyAdmin tk → (s.fn tk.fn).aers = [] → (numd + 1) * 4 ≤ 2 ^ 21 →
    (∃ t, exec (.lostStripesLog cid numd lpo) s = .next t ∧
      s.completes t tk cid stOk 0 ((List.range ((numd + 1) * 4)).map fun i => s.lostByte (lpo + i)) ∧ t.msh = s.msh ∧ onlyRegs [] s t) ∧
    (s.isPf tk.fn = true →
      ∃ t, exec (.eventRecorderWindowLog cid numd lpo) s = .next t ∧
        s.completes t tk cid stOk 0 ((List.range ((numd + 1) * 4)).map fun i => s.recByte (lpo + i)) ∧ t.evr = s.evr ∧ onlyRegs [] s t) ∧
    (s.isPf tk.fn = false →
      ∃ t, exec (.eventRecorderWindowLog cid numd lpo) s = .next t ∧ s.completes t tk cid stField 0 [] ∧ t.evr = s.evr ∧ onlyRegs [] s t)) ∧
  (∀ (s : State) (tk : Tick) (cid lsp lsi numd lpo : Nat), s.onlyAdmin tk → (s.fn tk.fn).aers = [] → (numd + 1) * 4 ≤ 2 ^ 21 →
    ∃ t, exec (.tallySnapshotLog cid lsp lsi numd lpo) s = .next t ∧
      (∀ x, s.snapFor lsp lsi = some x →
        s.completes t tk cid stOk 0 ((List.range ((numd + 1) * 4)).map fun i => s.snapByte tk.fn x (lpo + i))) ∧
      (s.snapFor lsp lsi = none → s.completes t tk cid stField 0 []) ∧ t.tly.snaps = s.tly.snaps ∧ onlyRegs [] s t) ∧
  (∀ (s : State) (tk : Tick) (cid nsid lid numd lpo : Nat) (rae : Bool), s.onlyAdmin tk → 2 ^ 21 < (numd + 1) * 4 →
    ∃ t, exec (.getLogPage cid nsid lid numd lpo rae) s = .next t ∧ s.completes t tk cid stField 0 [] ∧ onlyRegs [] s t)

/-- R116, R118 and R136 for the queue commands: a queue comes into being with the size, class, vector and completion queue asked, unordered, or the
command fails and no queue changes; a submission queue is deleted; a completion queue is deleted unless a submission queue uses it. -/
def Obligations.QueuesAreCreatedAndDeleted : Prop :=
  (∀ (s : State) (tk : Tick) (cid qid qsize vec : Nat) (ien : Bool), s.onlyAdmin tk → 0 < qid → qid < 65536 → qid ≤ (s.fn tk.fn).ncq →
    s.cqsOf tk.fn < (s.fn tk.fn).ncq → (s.cq tk.fn qid).size = 0 → 0 < qsize → qsize < 65536 → (ien = true → vec < s.vectors tk.fn) →
    ∃ t, exec (.createIoCompletionQueue cid qid qsize vec ien) s = .next t ∧ s.completes t tk cid stOk 0 [] ∧
      t.cq tk.fn qid = { size := qsize + 1, vec := vec, ien := ien } ∧ onlyRegs [] s t) ∧
  (∀ (s : State) (tk : Tick) (cid qid qsize cqid prio : Nat), s.onlyAdmin tk → 0 < qid → qid < 65536 → qid ≤ (s.fn tk.fn).nsq →
    s.sqsOf tk.fn < (s.fn tk.fn).nsq → (s.sq tk.fn qid).size = 0 → 0 < cqid → (s.cq tk.fn cqid).size ≠ 0 → 0 < qsize → qsize < 65536 →
    ∃ t, exec (.createIoSubmissionQueue cid qid qsize cqid prio) s = .next t ∧ s.completes t tk cid stOk 0 [] ∧
      t.sq tk.fn qid = { size := qsize + 1, cqid := cqid, prio := prio % 4 } ∧ onlyRegs [] s t) ∧
  (∀ (s : State) (tk : Tick) (cid qid qsize x prio : Nat) (ien : Bool), s.onlyAdmin tk →
    (qid = 0 ∨ (s.fn tk.fn).ncq < qid →
      ∃ t, exec (.createIoCompletionQueue cid qid qsize x ien) s = .next t ∧ s.completes t tk cid stQueueId 0 [] ∧ onlyRegs [] s t) ∧
    (qid = 0 ∨ (s.fn tk.fn).nsq < qid →
      ∃ t, exec (.createIoSubmissionQueue cid qid qsize x prio) s = .next t ∧ s.completes t tk cid stQueueId 0 [] ∧ onlyRegs [] s t)) ∧
  (∀ (s : State) (tk : Tick) (cid qid : Nat), s.onlyAdmin tk → 0 < qid → qid < 65536 → (s.sq tk.fn qid).size ≠ 0 →
    ∃ t, exec (.deleteIoSubmissionQueue cid qid) s = .next t ∧ s.completes t tk cid stOk 0 [] ∧ (t.sq tk.fn qid).size = 0 ∧
      (∀ d ∈ t.hfe.held, d.cq = true ∨ d.fn ≠ tk.fn ∨ d.qid ≠ qid) ∧ onlyRegs [] s t) ∧
  (∀ (s : State) (tk : Tick) (cid qid : Nat), s.onlyAdmin tk → 0 < qid → qid < 65536 → (s.cq tk.fn qid).size ≠ 0 →
    ((∀ e ∈ s.hfe.sqs, e.1 / 65536 = tk.fn → e.2.size ≠ 0 → e.2.cqid ≠ qid) →
      ∃ t, exec (.deleteIoCompletionQueue cid qid) s = .next t ∧ s.completes t tk cid stOk 0 [] ∧ (t.cq tk.fn qid).size = 0 ∧ onlyRegs [] s t) ∧
    (∀ q, 0 < q → q < 65536 → (s.sq tk.fn q).size ≠ 0 → (s.sq tk.fn q).cqid = qid →
      ∃ t, exec (.deleteIoCompletionQueue cid qid) s = .next t ∧ s.completes t tk cid stQueueDelete 0 [] ∧ t.cq tk.fn qid = s.cq tk.fn qid ∧
        onlyRegs [] s t))

/-- R116, R133, R134, R154, R523 and R524 for Set and Get Features: a standard feature holds what was set; the number of queues is what the function
has; an operational power state comes into force and event 321 pends, a non-operational one asks for the deeper state; the order of a queue changes
for later tickets, with event 205. -/
def Obligations.FeaturesHoldTheirValues : Prop :=
  (∀ (s : State) (tk : Tick) (cid fid v nsid w : Nat) (sv : Bool) (data : List Nat), s.onlyAdmin tk → plainFeature fid = true →
    ∃ t, exec (.setFeatures cid fid v sv nsid w data) s = .next t ∧
      (sv = false → s.completes t tk cid stOk 0 [] ∧ Tab.get 0 (t.fn tk.fn).feats (featureKey fid v) = v) ∧
      (sv = true → s.completes t tk cid stNotSaveable 0 [] ∧ (t.fn tk.fn).feats = (s.fn tk.fn).feats) ∧ onlyRegs [] s t) ∧
  (∀ (s : State) (tk : Tick) (cid fid v nsid w : Nat) (sv : Bool) (data : List Nat), s.onlyAdmin tk → plainFeature fid = false →
    fid ∉ [0x02, 0x07, 0x1D, 0x1E, 0xC0, 0xC1, 0xC2] →
    ∃ t, exec (.setFeatures cid fid v sv nsid w data) s = .next t ∧ s.completes t tk cid stField 0 [] ∧ onlyRegs [] s t) ∧
  (∀ (s : State) (tk : Tick) (cid fid sel w nsid : Nat), s.onlyAdmin tk →
    (plainFeature fid = true → fid ≠ 0x0E → fid ≠ 0x16 → sel ≠ 3 → ∃ t, exec (.getFeatures cid fid sel w nsid) s = .next t ∧
      s.completes t tk cid stOk (if sel = 1 then featureDefault fid else s.featureValue tk.fn fid w) [] ∧ onlyRegs [] s t) ∧
    (sel ≠ 3 → (∃ t, exec (.getFeatures cid 0x0E sel w nsid) s = .next t ∧
        s.completes t tk cid stOk 0 (toBytes (if sel = 1 then 0 else s.featureValue tk.fn 0x0E w) 8) ∧ onlyRegs [] s t) ∧
      ∃ t, exec (.getFeatures cid 0x16 sel w nsid) s = .next t ∧
        s.completes t tk cid stOk 0 (toBytes (if sel = 1 then 0 else s.featureValue tk.fn 0x16 w) 512) ∧ onlyRegs [] s t) ∧
    (fid ∈ featureIds → fid < 0xC0 → ∃ t, exec (.getFeatures cid fid 3 w nsid) s = .next t ∧ s.completes t tk cid stOk 4 [] ∧
      onlyRegs [] s t) ∧
    (fid ∉ featureIds → ∃ t, exec (.getFeatures cid fid sel w nsid) s = .next t ∧ s.completes t tk cid stField 0 [] ∧ onlyRegs [] s t)) ∧
  (∀ (s : State) (tk : Tick) (cid n k : Nat), s.onlyAdmin tk → (s.fn tk.fn).nsq ≠ 0 → (s.fn tk.fn).ncq ≠ 0 →
    ∃ t, exec (.setNumberOfQueues cid n k) s = .next t ∧
      s.completes t tk cid stOk (((s.fn tk.fn).ncq - 1) * 65536 + ((s.fn tk.fn).nsq - 1)) [] ∧ (t.fn tk.fn).nsq = (s.fn tk.fn).nsq ∧
      (t.fn tk.fn).ncq = (s.fn tk.fn).ncq ∧ onlyRegs [] s t) ∧
  (∀ (s : State) (tk : Tick) (cid ps : Nat), s.onlyAdmin tk →
    (ps < 3 → s.inEntry = false → s.pwrState ≠ pwrNap →
      ∃ t, exec (.setPowerManagement cid ps) s = .next t ∧ s.completes t tk cid stOk 0 [] ∧ t.fld PWR_STAT.PS = ps ∧
        t.fld PWR_STAT.TARGET = 0 ∧ t.pow.lastPs = ps ∧ t.on (EVT_SRC.PEND 321) = true ∧ keepsRegs [PWR_STAT.PS, PWR_STAT.TARGET] s t ∧
        keepsMem s t) ∧
    (s.pwrCtrl ≠ 0 →
      ∃ t, exec (.setPowerManagement cid 4) s = .next t ∧ s.completes t tk cid stOk 0 [] ∧ t.fld PWR_STAT.PS = 4 ∧ t.fld PWR_STAT.TARGET = 3 ∧
        onlyRegs [PWR_STAT.PS, PWR_STAT.TARGET] s t) ∧
    (4 < ps → ∃ t, exec (.setPowerManagement cid ps) s = .next t ∧ s.completes t tk cid stField 0 [] ∧ onlyRegs [] s t)) ∧
  (∀ (s : State) (tk : Tick) (cid w : Nat), s.onlyAdmin tk → s.orderField tk.fn w = true →
    (∃ t, exec (.setQueueOrdering cid w false) s = .next t ∧ s.completes t tk cid stOk 0 [] ∧
      (t.sq tk.fn (slice w 0 16)).ordered = bit w 16 ∧ (t.sq tk.fn (slice w 0 16)).ordFrom = tk.ticket ∧
      (t.sq tk.fn (slice w 0 16)).ordPrev = (s.sq tk.fn (slice w 0 16)).orderedFor tk.ticket ∧
      ((s.sq tk.fn (slice w 0 16)).orderedFor tk.ticket ≠ bit w 16 → t.on (EVT_SRC.PEND 205) = true) ∧ keepsRegs [] s t ∧ keepsMem s t) ∧
    (∃ t, exec (.setQueueOrdering cid w true) s = .next t ∧ s.completes t tk cid stNotSaveable 0 [] ∧ onlyRegs [] s t) ∧
    ∃ t, exec (.getQueueOrdering cid w) s = .next t ∧
      s.completes t tk cid stOk ((s.sq tk.fn (slice w 0 16)).ordered.toNat * 2 ^ 16) [] ∧ onlyRegs [] s t) ∧
  (∀ (s : State) (tk : Tick) (cid w : Nat), s.onlyAdmin tk → s.orderField tk.fn w = false →
    (∃ t, exec (.setQueueOrdering cid w false) s = .next t ∧ s.completes t tk cid stField 0 [] ∧ onlyRegs [] s t))

/-- R163 to R166, R205, R207 and R208 for the weights, the tail class and Flexible Data Placement: what is set is in force and the command waits for
the configuration record, event 213 pending; what is asked is returned; a field outside the rights or ranges fails. -/
def Obligations.WeightsAndTailClassAreSet : Prop :=
  (∀ (s : State) (tk : Tick) (cid w v : Nat), s.onlyAdmin tk → s.weightField true tk.fn w v = true → slice w 16 8 ≠ 0 → slice v 0 11 ≠ 0 →
    slice v 0 11 ≤ 1024 →
    ∃ t, exec (.setFunctionWeights cid w v) s = .next t ∧ s.waitsRecord t tk ∧ t.fnSetting (slice w 0 9) 5 = slice w 16 8 ∧
      t.fnSetting (slice w 0 9) 6 = slice v 0 11 ∧ t.on (EVT_SRC.PEND 213) = true ∧ keepsRegs [] s t ∧ keepsMem s t) ∧
  (∀ (s : State) (tk : Tick) (cid w v : Nat), s.onlyAdmin tk →
    s.weightField true tk.fn w v = false ∨ slice w 16 8 = 0 ∨ slice v 0 11 = 0 ∨ 1024 < slice v 0 11 →
    ∃ t, exec (.setFunctionWeights cid w v) s = .next t ∧ s.completes t tk cid stField 0 [] ∧ t.mgt = s.mgt ∧ onlyRegs [] s t) ∧
  (∀ (s : State) (tk : Tick) (cid w v : Nat), s.onlyAdmin tk →
    (s.weightField false tk.fn w v = true →
      ∃ t, exec (.getFunctionWeights cid w v) s = .next t ∧
        s.completes t tk cid stOk (s.fnSetting (slice w 0 9) 5 * 2 ^ 16 + s.fnSetting (slice w 0 9) 6) [] ∧ t.mgt = s.mgt ∧ onlyRegs [] s t) ∧
    (s.weightField false tk.fn w v = false →
      ∃ t, exec (.getFunctionWeights cid w v) s = .next t ∧ s.completes t tk cid stField 0 [] ∧ t.mgt = s.mgt ∧ onlyRegs [] s t)) ∧
  (∀ (s : State) (tk : Tick) (cid w : Nat), s.onlyAdmin tk → s.tailField true tk.fn w = true →
    s.fnValueOk (slice w 0 9) 7 (bit w 16).toNat = true → (bit w 16 = false → s.tailBound (slice w 0 9) = false) →
    ∃ t, exec (.setTailClass cid w) s = .next t ∧ s.waitsRecord t tk ∧ t.isTail (slice w 0 9) = bit w 16 ∧
      (∀ n, tk.ticket < n → t.tailFor (slice w 0 9) n = bit w 16) ∧ t.tailFor (slice w 0 9) tk.ticket = s.tailFor (slice w 0 9) tk.ticket ∧
      t.on (EVT_SRC.PEND 213) = true ∧ keepsRegs [ZPM_STAT.TAILOVL] s t ∧ keepsMem s t) ∧
  (∀ (s : State) (tk : Tick) (cid w : Nat), s.onlyAdmin tk →
    (s.tailField false tk.fn w = true →
      ∃ t, exec (.getTailClass cid w) s = .next t ∧ s.completes t tk cid stOk ((s.isTail (slice w 0 9)).toNat * 2 ^ 16) [] ∧ t.mgt = s.mgt ∧
        onlyRegs [] s t) ∧
    (s.tailField false tk.fn w = false →
      ∃ t, exec (.getTailClass cid w) s = .next t ∧ s.completes t tk cid stField 0 [] ∧ t.mgt = s.mgt ∧ onlyRegs [] s t)) ∧
  (∀ (s : State) (tk : Tick) (cid : Nat) (enable : Bool), s.onlyAdmin tk → (∀ n ∈ s.zpm.ns, n.2.kind = 0) →
    (∀ k, k < s.dnum 0x3101 0 → s.on (ZPM_SSET.VALID (s.rgSet k)) = true ∧
      s.fld (ZPM_PGRP.ROW (s.fld (ZPM_SSET.PGRP (s.rgSet k)))) = s.fld (ZPM_PGRP.ROW (s.fld (ZPM_SSET.PGRP (s.rgSet 0))))) →
    ∃ t, exec (.setFdp cid 1 enable) s = .next t ∧ s.completes t tk cid stOk 0 [] ∧ t.zpm = { s.zpm with fdpOn := enable } ∧ onlyRegs [] s t) ∧
  (∀ (s : State) (tk : Tick) (cid endgid : Nat) (enable : Bool), s.onlyAdmin tk → endgid ≠ 1 ∨ (∃ n ∈ s.zpm.ns, n.2.kind ≠ 0) →
    ∃ t, exec (.setFdp cid endgid enable) s = .next t ∧ s.completes t tk cid stField 0 [] ∧ t.zpm = s.zpm ∧ onlyRegs [] s t)

/-- R185 to R187, R204, R205, R209, R211, R234, R367 and R473 for the namespace commands: the new namespace has what was asked, the deleted one is gone,
attachment changes the list of functions, a format discards the contents and puts the new format in force, a sanitize discards everything. -/
def Obligations.NamespaceCommandsManageNamespaces : Prop :=
  (∀ (s : State) (tk : Tick) (cid : Nat) (p : NsSpec), s.onlyAdmin tk →
    ((s.createNs p).1 = stOk → ∃ t, exec (.namespaceCreate cid p) s = .next t ∧ s.completes t tk cid stOk (s.createNs p).2.1 [] ∧
      t.zpm = (s.createNs p).2.2.zpm ∧ (t.ns ((s.createNs p).2.1 - 1)).kind = (if p.csi = 2 then 2 else 1) ∧
      (t.ns ((s.createNs p).2.1 - 1)).nsze = p.nsze ∧ (t.ns ((s.createNs p).2.1 - 1)).lbaf = p.lbaf ∧
      (t.ns ((s.createNs p).2.1 - 1)).attached = [] ∧ keepsRegs [] s t ∧ keepsMem s t) ∧
    ((s.createNs p).1 ≠ stOk → ∃ t, exec (.namespaceCreate cid p) s = .next t ∧ s.completes t tk cid (s.createNs p).1 0 [] ∧
      t.zpm = s.zpm ∧ onlyRegs [] s t)) ∧
  (∀ (s : State) (tk : Tick) (cid nsid : Nat), s.onlyAdmin tk → (∀ f, (s.fn f).aers = []) → nsid ≠ 0xFFFFFFFF →
    (s.nsExists nsid = true → ∃ t, exec (.namespaceDelete cid nsid) s = .next t ∧ s.completes t tk cid stOk 0 [] ∧
      (t.ns (nsid - 1)).kind = 0 ∧ (t.ns (nsid - 1)).attached = [] ∧ keepsMem s t) ∧
    (s.nsExists nsid = false → ∃ t, exec (.namespaceDelete cid nsid) s = .next t ∧ s.completes t tk cid stNamespace 0 [] ∧ t.zpm = s.zpm ∧
      onlyRegs [] s t)) ∧
  (∀ (s : State) (tk : Tick) (cid nsid : Nat) (l : List Nat), s.onlyAdmin tk → s.nsExists nsid = true → l ≠ [] →
    (∀ f ∈ l, s.fnExists f = true) →
    ((∀ f ∈ l, f ∉ (s.ns (nsid - 1)).attached) → s.on ZPM_CTRL.TAIL_ENF = false →
      ∃ t, exec (.namespaceAttachment cid nsid true l) s = .next t ∧ s.completes t tk cid stOk 0 [] ∧
        (t.ns (nsid - 1)).attached = (s.ns (nsid - 1)).attached ++ l.eraseDups ∧ keepsRegs [ZPM_STAT.TAILOVL] s t ∧ keepsMem s t) ∧
    ((∃ f ∈ l, f ∈ (s.ns (nsid - 1)).attached) →
      ∃ t, exec (.namespaceAttachment cid nsid true l) s = .next t ∧ s.completes t tk cid stNsAttached 0 [] ∧ t.zpm = s.zpm ∧ onlyRegs [] s t) ∧
    ((∀ f ∈ l, f ∈ (s.ns (nsid - 1)).attached) →
      ∃ t, exec (.namespaceAttachment cid nsid false l) s = .next t ∧ s.completes t tk cid stOk 0 [] ∧
        (∀ f, f ∈ (t.ns (nsid - 1)).attached ↔ f ∈ (s.ns (nsid - 1)).attached ∧ f ∉ l) ∧ onlyRegs [] s t)) ∧
  (∀ (s : State) (tk : Tick) (cid nsid lbaf ses pi pil : Nat), s.onlyAdmin tk → (∀ f, (s.fn f).aers = []) → nsid ≠ 0xFFFFFFFF →
    s.nsExists nsid = true →
    ((s.ns (nsid - 1)).kind = 1 → lbaf ≤ 4 → ses ≤ 1 → pi ≤ 3 → pil ≤ 1 → (pi ≠ 0 → lbaf ≠ 0 ∧ lbaf ≠ 4) →
      ∃ t, exec (.formatNvm cid nsid lbaf ses pi pil) s = .next t ∧ s.completes t tk cid stOk 0 [] ∧ (t.ns (nsid - 1)).lbaf = lbaf ∧
        (t.ns (nsid - 1)).pi = pi ∧ (t.ns (nsid - 1)).bshift = (if lbaf = 4 then 9 else 12) ∧
        (t.ns (nsid - 1)).nsze = (s.ns (nsid - 1)).nsze * 2 ^ (s.ns (nsid - 1)).bshift / 2 ^ (if lbaf = 4 then 9 else 12) ∧
        (∀ b, b < 2 ^ 40 → t.blockData nsid b = 0) ∧ keepsMem s t) ∧
    (4 < lbaf → ∃ t, exec (.formatNvm cid nsid lbaf ses pi pil) s = .next t ∧ s.completes t tk cid stFormat 0 [] ∧ t.zpm = s.zpm ∧ onlyRegs [] s t) ∧
    (lbaf ≤ 4 → 2 < ses ∨ 3 < pi ∨ 1 < pil → ∃ t, exec (.formatNvm cid nsid lbaf ses pi pil) s = .next t ∧ s.completes t tk cid stField 0 [] ∧
      t.zpm = s.zpm ∧ onlyRegs [] s t)) ∧
  (∀ (s : State) (tk : Tick) (cid : Nat), s.onlyAdmin tk → (∀ f, (s.fn f).aers = []) →
    (∃ t, exec (.sanitizeBlockErase cid) s = .next t ∧ s.completes t tk cid stOk 0 [] ∧ t.nv.sanStat = 1 ∧
      (∀ n b, n < 64 → b < 2 ^ 40 → (s.ns n).kind = 1 → t.blockData (n + 1) b = 0) ∧ keepsMem s t) ∧
    (s.ident.bn = false → s.cip.rng0ok = true →
      ∃ t, exec (.sanitizeCryptoErase cid) s = .next t ∧ s.completes t tk cid stOk 0 [] ∧ t.nv.sanStat = 1 ∧ t.on (EVT_SRC.PEND 303) = true ∧
        (∀ n b, n < 64 → b < 2 ^ 40 → (s.ns n).kind = 1 → t.blockData (n + 1) b = 0) ∧ keepsMem s t) ∧
    (s.ident.bn = true →
      ∃ t, exec (.sanitizeCryptoErase cid) s = .next t ∧ s.completes t tk cid stField 0 [] ∧ t.zpm = s.zpm ∧ onlyRegs [] s t))

/-- R150, R154, R507, R579 and R581 for the other admin commands: an abort that finds no command says so; an asynchronous event request is held until
an event is there; the firmware image and slots, the self-test, the NVMe-MI tunnel and the object dictionary. -/
def Obligations.OtherAdminCommandsAct : Prop :=
  (∀ (s : State) (tk : Tick) (cid sqid target : Nat), s.onlyAdmin tk →
    ∃ t, exec (.abort cid sqid target) s = .next t ∧ s.completes t tk cid stOk 1 [] ∧ onlyRegs [] s t) ∧
  (∀ (s : State) (tk : Tick) (cid : Nat) (d : Cmd), (s.modHfe fun h => { h with ctx := [] }).onlyAdmin tk → s.hfe.ctx = [d] →
    d.fn = tk.fn → d.sqid = 0 → d.ticket ≠ tk.ticket → d.op = .admin 0xC0 → 64 ≤ s.mgt.waits.length → d.dispatched = false → d.status = none →
    d.ordered = false → d.pieces = [] → 3 ≤ s.cmdLimit tk.fn → (s.cq tk.fn 0).used + 2 < (s.cq tk.fn 0).size →
    ∃ t, exec (.abort cid 0 d.cid) s = .next t ∧ t.hfe.ctx = [] ∧ t.hfe.tickets = [] ∧
      t.hfe.posted = s.hfe.posted ++
        [s.cplOf { ticket := d.ticket, fn := d.fn, sqid := 0 } d.cid stAborted d.dw0 [], s.cplOf tk cid stOk 0 []] ∧
      onlyRegs [] s t) ∧
  (∀ (s : State) (tk : Tick) (cid : Nat), s.onlyAdmin tk →
    ((s.fn tk.fn).aers.length < 8 → (s.fn tk.fn).events = [] →
      ∃ t, exec (.asynchronousEventRequest cid) s = .next t ∧ (t.fn tk.fn).aers = (s.fn tk.fn).aers ++ [(cid, tk.ticket)] ∧
        t.hfe.posted = s.hfe.posted ∧ t.hfe.ctx.map (fun c => (c.ticket, c.status)) = [(tk.ticket, none)] ∧ onlyRegs [] s t) ∧
    ((s.fn tk.fn).aers = [] → ∀ e, (s.fn tk.fn).events = [e] → (s.fn tk.fn).masked = [] →
      ∃ t, exec (.asynchronousEventRequest cid) s = .next t ∧ s.completes t tk cid stOk e [] ∧ (t.fn tk.fn).aers = [] ∧
        (t.fn tk.fn).events = [] ∧ (t.fn tk.fn).masked = [e] ∧ onlyRegs [] s t) ∧
    (8 ≤ (s.fn tk.fn).aers.length →
      ∃ t, exec (.asynchronousEventRequest cid) s = .next t ∧ s.completes t tk cid stAerLimit 0 [] ∧
        (t.fn tk.fn).aers = (s.fn tk.fn).aers ∧ onlyRegs [] s t)) ∧
  (∀ (s : State) (tk : Tick) (cid numd ofst : Nat) (data : List Nat), s.onlyAdmin tk → (numd + 1) * 4 ≤ 2 ^ 21 →
    ∃ t, exec (.firmwareImageDownload cid numd ofst data) s = .next t ∧ s.completes t tk cid stOk 0 [] ∧
      (∀ i, i < (numd + 1) * 4 → Tab.get 0 t.hfe.fwBuf (ofst * 4 + i) = data.getD i 0 % 256 + 1) ∧
      (∀ a, a < ofst * 4 ∨ ofst * 4 + (numd + 1) * 4 ≤ a → Tab.get 0 t.hfe.fwBuf a = Tab.get 0 s.hfe.fwBuf a) ∧ t.nv = s.nv ∧ onlyRegs [] s t) ∧
  (∀ (s : State) (tk : Tick) (cid slot action : Nat), s.onlyAdmin tk →
    (slot ≤ 2 → action ≤ 1 → s.fwImage ≠ [] →
      ∃ t, exec (.firmwareCommit cid slot action) s = .next t ∧ s.completes t tk cid stOk 0 [] ∧
        Tab.get [] t.nv.fwSlots (if slot = 0 then 2 else slot) = s.fwImage ∧
        t.nv.fwNext = (if action = 1 then if slot = 0 then 2 else slot else s.nv.fwNext) ∧ onlyRegs [] s t) ∧
    (slot ≤ 2 → Tab.get [] s.nv.fwSlots (if slot = 0 then 2 else slot) ≠ [] →
      ∃ t, exec (.firmwareCommit cid slot 2) s = .next t ∧ s.completes t tk cid stOk 0 [] ∧
        t.nv = { s.nv with fwNext := if slot = 0 then 2 else slot } ∧ onlyRegs [] s t) ∧
    (2 < slot → ∃ t, exec (.firmwareCommit cid slot action) s = .next t ∧ s.completes t tk cid stFwSlot 0 [] ∧ t.nv = s.nv ∧ onlyRegs [] s t)) ∧
  (∀ (s : State) (tk : Tick) (cid nsid stc : Nat), s.onlyAdmin tk →
    (stc = 1 ∨ stc = 2 → s.hfe.selfTest = 0 →
      ∃ t, exec (.deviceSelfTest cid nsid stc) s = .next t ∧ s.completes t tk cid stOk 0 [] ∧ t.hfe.selfTest = stc ∧ onlyRegs [] s t) ∧
    (stc = 1 ∨ stc = 2 → s.hfe.selfTest ≠ 0 →
      ∃ t, exec (.deviceSelfTest cid nsid stc) s = .next t ∧ s.completes t tk cid stSelfTest 0 [] ∧ t.hfe.selfTest = s.hfe.selfTest) ∧
    ∃ t, exec (.deviceSelfTest cid nsid 15) s = .next t ∧ s.completes t tk cid stOk 0 [] ∧ t.hfe.selfTest = 0 ∧ onlyRegs [] s t) ∧
  (∀ (s : State) (tk : Tick) (cid : Nat) (q : List Nat), s.onlyAdmin tk → q.headD 0 ≠ 6 →
    (∃ t, exec (.nvmeMiSend cid q) s = .next t ∧ s.completes t tk cid stOk (s.miReply tk.fn q).1 [] ∧
      (t.fn tk.fn).miResp = (s.miReply tk.fn q).1 :: (s.miReply tk.fn q).2 ∧ onlyRegs [] s t) ∧
    ∃ t, exec (.nvmeMiReceive cid) s = .next t ∧ s.completes t tk cid stOk ((s.fn tk.fn).miResp.headD 0) (s.fn tk.fn).miResp.tail ∧
      onlyRegs [] s t) ∧
  (∀ (s : State) (tk : Tick) (cid index sub len : Nat), s.onlyAdmin tk → s.mgt.waits.length < 64 → 1 ≤ len → len ≤ 4096 →
    ∃ t, exec (.dictionaryRead cid index sub len) s = .next t ∧
      (s.dictReadCheck (s.nvmePath tk.fn) index sub = abOk → s.completes t tk cid stOk
        (dictCode index sub * 2 ^ 16 + (s.dictWire index sub).length * 2 ^ 32) ((s.dictWire index sub).take len)) ∧
      (s.dictReadCheck (s.nvmePath tk.fn) index sub ≠ abOk → s.completes t tk cid stOk
        (dictCode index sub * 2 ^ 16 + s.dictReadCheck (s.nvmePath tk.fn) index sub) []) ∧ t.mgt = s.mgt ∧ onlyRegs [] s t) ∧
  (∀ (s : State) (tk : Tick) (cid index sub len : Nat), s.onlyAdmin tk → s.mgt.waits.length < 64 → len = 0 ∨ 4096 < len →
    ∃ t, exec (.dictionaryRead cid index sub len) s = .next t ∧ s.completes t tk cid stField 0 [] ∧ t.mgt = s.mgt ∧ onlyRegs [] s t) ∧
  (∀ (s : State) (tk : Tick) (cid index sub type : Nat) (v : DVal), s.onlyAdmin tk → s.mgt.waits.length < 64 →
    s.dictWriteAbort (s.nvmePath tk.fn) index sub (type == dictCode index sub) v ≠ abOk →
    ∃ t, exec (.dictionaryWrite cid index sub type v) s = .next t ∧ s.completes t tk cid stOk
      (dictCode index sub * 2 ^ 16 + s.dictWriteAbort (s.nvmePath tk.fn) index sub (type == dictCode index sub) v) [] ∧ t.mgt = s.mgt ∧
      onlyRegs [] s t) ∧
  (∀ (s : State) (tk : Tick) (cid k sub v : Nat), s.onlyAdmin tk → s.mgt.waits.length < 64 → k < 16 →
    s.dictWriteAbort (s.nvmePath tk.fn) (0x6010 + k) sub true (.num v) = abOk → s.persists (0x6010 + k) sub = true →
    ∃ t, exec (.dictionaryWrite cid (0x6010 + k) sub (dictCode (0x6010 + k) sub) (.num v)) s = .next t ∧ s.waitsRecord t tk ∧
      t.dnum (0x6010 + k) sub = v ∧ keepsRegs [] s t ∧ keepsMem s t)

/-- R524, R525, R527, R530 to R533 for the power states: a request that can begin asks the domains, the answers are gathered, refused or late ones give
the entry up, a committed entry is completed, idleness is entered without work. -/
def Obligations.PowerEntriesAreAskedAnsweredAndCompleted : Prop :=
  (∀ (s : State) (m v : Nat), s.reaches m PWR_REQ.GO.addr → PWR_REQ.GO.of v ≠ 0 → PWR_REQ.TARGET.of v = pwrNap → s.pwrCtrl = 0 →
    s.pwrState < pwrNap →
    ∃ t, exec (.powerRequest m v) s = .next t ∧ t.pwrCtrl = ctrlAsking ∧ t.pow.entry = pwrNap ∧ t.pow.asked = s.askedFor pwrNap ∧
      t.pow.acked = [] ∧ t.fld PWR_STAT.TARGET = pwrNap ∧ t.on (EVT_SRC.PEND 322) = true ∧
      keepsRegs [PWR_STAT.TARGET, PWR_STAT.CTRL] s t ∧ keepsMem s t) ∧
  (∀ (s : State) (m v : Nat), s.reaches m PWR_REQ.GO.addr → PWR_REQ.GO.of v = 0 ∨ 5 ≤ PWR_REQ.TARGET.of v ∨ PWR_REQ.TARGET.of v = 1 →
    ∃ t, exec (.powerRequest m v) s = .next t ∧ t.pow = s.pow ∧ onlyRegs [] s t) ∧
  (∀ (s : State) (d : Nat) (a : Answer), s.pwrCtrl = ctrlAsking → d ∈ s.pow.asked →
    ((if d < 10 then a else s.hwAnswer d s.pow.entry) = .ack → ¬(d = 4 ∧ pwrShelf ≤ s.pow.entry) →
      ∃ t, exec (.domainAnswer d a) s = .next t ∧ t.pow.asked = dropFrom d s.pow.asked ∧ t.pow.acked = addTo d s.pow.acked ∧
        t.pwrCtrl = (if dropFrom d s.pow.asked = [] then ctrlEntering else ctrlAsking) ∧
        (dropFrom d s.pow.asked = [] → t.on (EVT_SRC.PEND 323) = true) ∧ keepsRegs [PWR_STAT.CTRL] s t ∧ keepsMem s t) ∧
    ((if d < 10 then a else s.hwAnswer d s.pow.entry) = .delay →
      ∃ t, exec (.domainAnswer d a) s = .next t ∧ t.pow = s.pow ∧ onlyRegs [PWR_DCNT.DELAYS d] s t) ∧
    (∀ c, d < 10 → a = .refuse c →
      ∃ t, exec (.domainAnswer d a) s = .next t ∧ t.pwrCtrl = 0 ∧ t.pow.asked = [] ∧ t.pow.refused = true ∧ t.fld PWR_LAST.DOMAIN = d ∧
        t.fld PWR_LAST.CODE = (if d < 4 then 1 else 2) ∧ t.fld PWR_LAST.MASTER = (if d < 4 then d else 4) ∧
        t.on (EVT_SRC.PEND 324) = true ∧
        keepsRegs [PWR_DCNT.REFUSALS d, PWR_STAT.ABORTS, PWR_LAST.DOMAIN, PWR_LAST.CODE, PWR_LAST.MASTER, PWR_STAT.CTRL, PWR_STAT.WAKEPEND]
          s t ∧ keepsMem s t) ∧
    ∃ t, exec (.domainDelayTimeout d) s = .next t ∧ t.pwrCtrl = 0 ∧ t.pow.asked = [] ∧ t.pow.refused = true ∧ t.fld PWR_LAST.CODE = 3 ∧
      t.fld PWR_LAST.MASTER = 0xF ∧ t.on (EVT_SRC.PEND 324) = true ∧ keepsMem s t) ∧
  (∀ (s : State) (d : Nat) (a : Answer), s.pwrCtrl ≠ ctrlAsking ∨ d ∉ s.pow.asked →
    exec (.domainAnswer d a) s = .next s ∧ exec (.domainDelayTimeout d) s = .next s) ∧
  (∀ (s : State), s.pwrCtrl = ctrlEntering → s.on PWR_STAT.WAKEPEND = false →
    (s.pow.entry = pwrNap → s.on EVR_CTRL.EN = false →
      ∃ t, exec .entryComplete s = .next t ∧ t.pwrState = pwrNap ∧ t.pwrCtrl = 0 ∧ t.on (EVT_SRC.PEND 320) = true ∧
        (∀ d, d ∈ s.pow.acked → s.domainOff (some d) = false → t.fld (PWR_DOM.STATE d) = domGated) ∧
        (s.fld PWR_STAT.TARGET = pwrNap → t.fld PWR_STAT.TARGET = 0)) ∧
    (s.pow.entry = pwrShelf →
      ∃ t, exec .entryComplete s = .next t ∧ t.pwrState = pwrShelf ∧ t.pwrCtrl = 0 ∧ t.ctl.pwrseq = 1 ∧ t.hfe.ctx = [] ∧ t.hfe.fns = [] ∧
        t.drf.media = s.drf.media ∧ (∀ k, k < 8 → k ≠ 3 → t.fld (AON_RET.WORD k) = s.fld (AON_RET.WORD k))) ∧
    (s.pow.entry = pwrDeep →
      ∃ t, exec .entryComplete s = .next t ∧ t.pwrState = pwrDeep ∧ t.pwrCtrl = 0 ∧ t.ctl.pwrseq = 0 ∧ t.pow.lampSram = [] ∧
        t.drf.media = s.drf.media)) ∧
  (∀ s : State, s.pwrCtrl ≠ ctrlEntering → exec .entryComplete s = .next s) ∧
  (∀ s : State, s.up = true → s.on PWR_CTRL.IDLE_EN = true → s.pwrState = 0 → s.pwrCtrl = 0 → s.noWork = true →
    ∃ t, exec .idleEntry s = .next t ∧ t.pwrState = 1 ∧ t.on (EVT_SRC.PEND 327) = true ∧ t.on (EVT_SRC.PEND 320) = true ∧ keepsRegs [] s t ∧
      keepsMem s t) ∧
  (∀ s : State, s.noWork = false → exec .idleEntry s = .next s)

/-- R537 and R539 for the wake sources, R535 for single domains, R541 for SUSPCLR, R546 and R547 for the thermal shutdown: an enabled source wakes NAP or
starts from SHELF_SLEEP, a disabled one does nothing; a domain is gated, switched off unless it holds state or is leased, and clocked again. -/
def Obligations.WakesDomainsAndThermalRestart : Prop :=
  (∀ s : State, s.pwrState = pwrNap → s.pwrCtrl = 0 →
    (s.pow.mainFell = true → bit (s.fld AON_WAKE.EN) 0 = true →
      ∃ t, exec .mainWake s = .next t ∧ t.pwrState = 0 ∧ t.pwrCtrl = 0 ∧ t.fld AON_WAKE.CAUSE = 0 ∧ t.pow.mainFell = false ∧
        t.on (EVT_SRC.PEND 320) = true ∧ keepsRegs [PWR_STAT.CTRL, PWR_STAT.PS, AON_WAKE.CAUSE, AON_RET.WORD 3] s t ∧ keepsMem s t) ∧
    (s.ctl.vaon = true → s.fld AON_RTC.COUNT ≤ s.fld AON_ALARM.COUNT → bit (s.fld AON_WAKE.EN) 1 = true →
      ∃ t, exec .rtcAlarm s = .next t ∧ t.pwrState = 0 ∧ t.fld AON_WAKE.CAUSE = 1 ∧ (s.up = true → t.on (EVT_SRC.PEND 333) = true) ∧
        t.on (EVT_SRC.PEND 320) = true ∧ keepsRegs [PWR_STAT.CTRL, PWR_STAT.PS, AON_WAKE.CAUSE, AON_RTC.COUNT, AON_RET.WORD 3] s t ∧
        keepsMem s t) ∧
    (∀ pin, 12 ≤ pin → pin ≤ 15 → bit (s.fld AON_WAKE.EN) (pin - 8) = true →
      ∃ t, exec (.gpioWake pin) s = .next t ∧ t.pwrState = 0 ∧ t.fld AON_WAKE.CAUSE = pin - 8 ∧ bit t.mgt.gpioIn pin = true ∧
        t.on (EVT_SRC.PEND 320) = true ∧ keepsMem s t)) ∧
  (∀ s : State, s.pwrState = pwrShelf → s.pwrCtrl = 0 → bit (s.fld AON_WAKE.EN) 2 = true →
    ∃ t, exec .esnexWakeFrame s = .next t ∧ t.fld AON_WAKE.CAUSE = 2 ∧ t.pwrCtrl = ctrlWaking ∧ t.ctl.cause = 2 ∧ bit t.ctl.pwrseq 1 = true ∧
      keepsMem s t) ∧
  (∀ s : State,
    (bit (s.fld AON_WAKE.EN) 0 = false → ∃ t, exec .mainWake s = .next t ∧ t.ctl = s.ctl ∧ onlyRegs [] s t) ∧
    (s.pow.mainFell = false → exec .mainWake s = .next s) ∧
    (bit (s.fld AON_WAKE.EN) 2 = false → exec .esnexWakeFrame s = .next s)) ∧
  (∀ (s : State) (m d : Nat), s.reaches m PWR_DOMREQ.OP.addr → d < 48 → s.pwrState = 0 → s.pwrCtrl = 0 →
    (∃ t, exec (.domainPowerOn m d) s = .next t ∧ t.fld (PWR_DOM.STATE d) = 0 ∧ onlyRegs [PWR_DOM.STATE d] s t) ∧
    (s.leased d = false → s.domainOff (some d) = false →
      ∃ t, exec (.domainGate m d) s = .next t ∧ t.fld (PWR_DOM.STATE d) = domGated ∧ onlyRegs [PWR_DOM.STATE d] s t) ∧
    (s.leased d = false → s.domainHolds d = false → 4 ≤ d →
      ∃ t, exec (.domainPowerDown m d) s = .next t ∧ t.fld (PWR_DOM.STATE d) = domOff ∧ onlyRegs [PWR_DOM.STATE d] s t) ∧
    (s.leased d = false → s.domainHolds d = false → d < 4 →
      ∃ t, exec (.domainPowerDown m d) s = .next t ∧ t.fld (PWR_DOM.STATE d) = domOff ∧ bit (t.fld SYS_CORECTL.RUN) d = false ∧ keepsMem s t) ∧
    (s.leased d = false → s.domainHolds d = true →
      ∃ t, exec (.domainPowerDown m d) s = .next t ∧ t.fld PWR_LAST.CODE = 7 ∧ t.fld PWR_LAST.DOMAIN = d ∧ t.on (EVT_SRC.PEND 326) = true ∧
        keepsRegs [PWR_DCNT.REFUSALS d, PWR_LAST.DOMAIN, PWR_LAST.CODE, PWR_LAST.MASTER] s t ∧ keepsMem s t) ∧
    (s.leased d = true →
      ∃ t, exec (.domainGate m d) s = .next t ∧ t.fld PWR_LAST.CODE = 2 ∧ t.fld PWR_LAST.MASTER = 4 ∧ t.on (EVT_SRC.PEND 298) = true ∧
        keepsRegs [PWR_DCNT.REFUSALS d, PWR_LAST.DOMAIN, PWR_LAST.CODE, PWR_LAST.MASTER, CIP_LEASESTAT.REFUSALS] s t ∧ keepsMem s t)) ∧
  (∀ (s : State) (m : Nat), s.reaches m THM_CTRL.SUSPCLR.addr →
    ∃ t, exec (.suspclr m) s = .next t ∧ t.fld THM_STAT.SUSPECT = 0 ∧ (∀ i, i < 16 → t.fld (THM_SENS.DEV i) = 0) ∧
      keepsRegs (THM_STAT.SUSPECT :: (List.range 16).map THM_SENS.DEV) s t ∧ keepsMem s t) ∧
  (∀ s : State,
    (bit s.ctl.pwrseq 0 = false → exec .thermalShutdown s = .next s) ∧
    (bit s.ctl.pwrseq 0 = true → s.up = false →
      ∃ t, exec .thermalShutdown s = .next t ∧ t.ctl.cause = 5 ∧ t.pow.offRails = true ∧ t.pow.shutPend = true ∧
        t.nv.shutdowns = (s.nv.shutdowns + 1) % 2 ^ 32 ∧ t.fld (AON_RET.WORD 4) = (s.fld (AON_RET.WORD 4) + 1) % 2 ^ 32) ∧
    (bit s.ctl.pwrseq 0 = true → s.up = true → s.hldState = hldDumping →
      ∃ t, exec .thermalShutdown s = .next t ∧ t.ctl.cause = 5 ∧ t.pow.shutPend = true ∧ t.pow.thermtrip = true ∧
        t.nv.shutdowns = (s.nv.shutdowns + 1) % 2 ^ 32 ∧ t.on (EVT_SRC.PEND 448) = true) ∧
    (s.pow.shutPend = true → s.pow.offRails = true →
      ∃ t, exec .thermalRestart s = .next t ∧ t.pow.shutPend = false ∧ t.pow.offRails = false ∧ t.pow.thermtrip = false ∧
        t.ctl.waitMain = true ∧ t.ctl.cause = 5 ∧ t.hldState = hldInit ∧ t.fld AON_WAKE.CAUSE = 0xFF ∧
        keepsRegs [AON_RET.WORD 3, AON_WAKE.CAUSE, HLD_STAT.STATE] s t ∧ keepsMem s t) ∧
    (s.pow.shutPend = false → exec .thermalRestart s = .next s))

/-- R555, R558, R559, R567 to R570 and R665 for the register path and the Esnex requests without authentication: the checks decide in their order, the
answer carries the abort code and the value, a persistent write waits for its record. -/
def Obligations.DictionaryRequestsAreAnswered : Prop :=
  (∀ (s u : State) (m v : Nat), s.reaches m MGT_FREQ.GO.addr → u = s.arrive m MGT_FREQ.GO.addr → bit v 31 = true → s.on MGT_FREQ.DONE = true →
    m ≠ 4 → slice v 28 2 = 1 →
    (u.dictReadCheck .firmware (slice v 8 16) (slice v 0 8) ≠ abOk →
      ∃ t, exec (.mgtRead m v) s = .next t ∧ t.fld MGT_FRES.ABORT = u.dictReadCheck .firmware (slice v 8 16) (slice v 0 8) ∧
        t.on MGT_FREQ.DONE = true ∧ keepsRegs [MGT_FREQ.OP, MGT_FREQ.INDEX, MGT_FREQ.SUB, MGT_FREQ.DONE, MGT_FRES.ABORT] s t ∧ keepsMem s t) ∧
    (u.dictReadCheck .firmware (slice v 8 16) (slice v 0 8) = abOk →
      ∃ t, exec (.mgtRead m v) s = .next t ∧ t.fld MGT_FRES.ABORT = 0 ∧ t.on MGT_FREQ.DONE = true ∧ t.mgt.dict = s.mgt.dict ∧
        keepsRegs [MGT_FREQ.OP, MGT_FREQ.INDEX, MGT_FREQ.SUB, MGT_FREQ.DONE, MGT_FRES.ABORT, MGT_FLEN.TYPE, MGT_FLEN.SIZE] s t ∧
        keepsMem s t)) ∧
  (∀ (s : State) (m v : Nat), s.reaches m MGT_FREQ.GO.addr → bit v 31 = false ∨ s.on MGT_FREQ.DONE = false →
    (∃ t, exec (.mgtRead m v) s = .next t ∧ t.mgt = s.mgt ∧ onlyRegs (MGT_FREQ.OP :: MGT_FREQ.INDEX :: MGT_FREQ.SUB ::
      (List.range 48).map PWR_DOM.STATE) s t) ∧
    ∃ t, exec (.mgtWrite m v) s = .next t ∧ t.mgt = s.mgt ∧ onlyRegs (MGT_FREQ.OP :: MGT_FREQ.INDEX :: MGT_FREQ.SUB ::
      (List.range 48).map PWR_DOM.STATE) s t) ∧
  (∀ (s : State) (m v k : Nat), s.reaches m MGT_FREQ.GO.addr → bit v 31 = true → s.on MGT_FREQ.DONE = true → m ≠ 4 → slice v 28 2 = 2 →
    k < 16 → slice v 8 16 = 0x6010 + k → slice v 0 8 = 3 → s.fld MGT_FLEN.TYPE = (dictType (0x6010 + k) 3).code → s.fld MGT_FLEN.SIZE = 1 →
    s.up = true → s.hld.committed = false → s.mgt.loading = false → Tab.get 0 s.mgt.fdata 0 ≤ 7 →
    ∃ t, exec (.mgtWrite m v) s = .next t ∧ t.dnum (0x6010 + k) 3 = Tab.get 0 s.mgt.fdata 0 ∧ t.on MGT_FREQ.DONE = false ∧
      t.mgt.recNow.isSome = true ∧ t.mgt.waits.length = s.mgt.waits.length + 1 ∧
      keepsRegs [MGT_FREQ.OP, MGT_FREQ.INDEX, MGT_FREQ.SUB, MGT_FREQ.DONE] s t ∧ keepsMem s t) ∧
  (∀ (s : State) (h : Esnex) (i k : Nat), s.hears h →
    (∃ t, exec (.esnexRead h i k) s = .next t ∧ s.answers t h 1 (s.runRead i k .esnex).1.abort (s.runRead i k .esnex).1.data ∧
      t.mgt.dict = s.mgt.dict ∧ onlyRegs [] s t) ∧
    (∀ o n, ∃ t, exec (.readBlock h i k o n) s = .next t ∧
      s.answers t h 3 (s.runReadBlock i k o n .esnex).1.abort (s.runReadBlock i k o n .esnex).1.data ∧ t.mgt.dict = s.mgt.dict ∧
      onlyRegs [] s t) ∧
    (∀ ty v, s.dictWriteAbort .esnex i k (ty == (dictType i k).code && dictType i k != .blob) v ≠ abOk →
      ∃ t, exec (.esnexWrite h i k ty v) s = .next t ∧
        s.answers t h 2 (s.dictWriteAbort .esnex i k (ty == (dictType i k).code && dictType i k != .blob) v) [] ∧ t.mgt.dict = s.mgt.dict ∧
        onlyRegs [] s t) ∧
    (∀ j v, j < 16 → s.dictWriteAbort .esnex (0x6010 + j) k (dictType (0x6010 + j) k != .blob) (.num v) = abOk →
      s.persists (0x6010 + j) k = true →
      ∃ t, exec (.esnexWrite h (0x6010 + j) k (dictType (0x6010 + j) k).code (.num v)) s = .next t ∧ t.dnum (0x6010 + j) k = v ∧
        t.mgt.sent = s.mgt.sent ∧ t.mgt.recNow.isSome = true ∧ t.mgt.waits.map (·.reply) = [esnexReply h 2 abOk []] ∧ onlyRegs [] s t) ∧
    (∀ r total data, s.dictWriteCheck .esnex i k = abOk → dictRow i k = some r → r.ty.varies = true → total ≤ r.hi → data.length < total →
      ∃ t, exec (.writeBlock h i k 0 total data) s = .next t ∧ s.answers t h 4 abOk [] ∧
        Tab.get none t.mgt.stages h.src = some { index := i, sub := k, total := total, bytes := data } ∧ t.mgt.dict = s.mgt.dict ∧
        onlyRegs [] s t) ∧
    (∀ r o total data, s.dictWriteCheck .esnex i k = abOk → dictRow i k = some r → r.ty.varies = true → total ≤ r.hi → o ≠ 0 →
      Tab.get none s.mgt.stages h.src = none →
      ∃ t, exec (.writeBlock h i k o total data) s = .next t ∧ s.answers t h 4 abBlock [] ∧ t.mgt.dict = s.mgt.dict ∧ onlyRegs [] s t) ∧
    (∀ o total data, s.dictWriteCheck .esnex i k ≠ abOk →
      ∃ t, exec (.writeBlock h i k o total data) s = .next t ∧ s.answers t h 4 (s.dictWriteCheck .esnex i k) [] ∧ t.mgt.stages = s.mgt.stages ∧
        onlyRegs [] s t) ∧
    (s.dictDown true 0 0 = false →
      ∃ t, exec (.snapshot h) s = .next t ∧ s.answers t h 6 abOk (toBytes s.nextFrameBt 8) ∧ t.tly = { s.tly with req := true } ∧
        onlyRegs [] s t))

/-- R566, R571, R573 to R576 for sessions and frames: a session is opened with its own key and event 388, refused with event 391, closed by an
authenticated request with event 389; a frame for another node, with a bad FCS or of no known kind is not executed. -/
def Obligations.SessionsAndFrames : Prop :=
  (∀ (s : State) (h : Esnex) (cred np : Nat), s.hears h → s.dictDown true 0 0 = false →
    (s.ident.bn = true →
      ∃ t, exec (.sessionOpen h cred np) s = .next t ∧ s.answers t h 7 abAbsent [] ∧ t.on (EVT_SRC.PEND 391) = true ∧ t.mgt.sess = s.mgt.sess ∧
        keepsRegs [MGT_SESCNT.REFUSED] s t ∧ keepsMem s t) ∧
    (s.ident.bn = false → Tab.get [] s.mgt.creds cred = [] →
      ∃ t, exec (.sessionOpen h cred np) s = .next t ∧ s.answers t h 7 abRange [] ∧ t.on (EVT_SRC.PEND 391) = true ∧ t.mgt.sess = s.mgt.sess ∧
        keepsRegs [MGT_SESCNT.REFUSED] s t ∧ keepsMem s t) ∧
    (∀ c w, s.ident.bn = false → Tab.get [] s.mgt.creds cred ≠ [] → s.freeSession = some c → s.cip.rng0ok = true → 1 ≤ s.dnum 0x8001 0 →
      s.cip.window = some w → (s.gctx c).held < w →
      ∃ t, exec (.sessionOpen h cred np) s = .next t ∧
        (∃ x, Tab.get none t.mgt.sess c = some x ∧ x.node = h.src ∧ x.cred = cred ∧ x.lastIv = 0 ∧
          x.key = (Config.sessionKey (Tab.get [] s.mgt.creds cred) np ((Config.draw 0 s.cip.drawn0).toNat % 2 ^ 128) c).toNat) ∧
        t.cip.drawn0 = s.cip.drawn0 + 1 ∧ t.mgt.sent.length = s.mgt.sent.length + 1 ∧ t.on (EVT_SRC.PEND 388) = true ∧ keepsRegs [] s t ∧
        keepsMem s t)) ∧
  (∀ (s : State) (h : Esnex), s.hears h → s.dictDown true 0 0 = false →
    ∃ t, exec (.sessionClose h) s = .next t ∧ s.answers t h 8 abSession [] ∧ t.mgt.sess = s.mgt.sess ∧ onlyRegs [] s t) ∧
  (∀ (s : State) (h : Esnex) (x : Sess), s.hears { h with auth := false } → h.auth = true → 32 ≤ h.session →
    s.repeated h (256 + h.session) = none → s.dictDown true 0 0 = false → Tab.get none s.mgt.sess h.session = some x → x.node = h.src →
    x.lastIv ≤ h.iv → h.ivTop = false → h.tagOk = true →
    ∃ t, exec (.sessionClose h) s = .next t ∧ Tab.get none t.mgt.sess h.session = none ∧ t.mgt.sent.length = s.mgt.sent.length + 1 ∧
      t.on (EVT_SRC.PEND 389) = true ∧ keepsRegs [] s t ∧ keepsMem s t) ∧
  (∀ (s : State) (h : Esnex) (code : Nat), s.up = true → s.on MGT_CTRL.NET_EN = true →
    (h.src = 0 → code = 1 → h.complete = true → h.version = 1 → h.dst = 0xFF ∨ h.dst = s.fld MGT_STAT.NODE →
      ∃ t, exec (.notify h code) s = .next t ∧ t.bell.frameNotice = true ∧ t.on (EVT_SRC.PEND 392) = true ∧ keepsRegs [] s t ∧ keepsMem s t) ∧
    (h.src ≠ 0 ∨ code ≠ 1 →
      ∃ t, exec (.notify h code) s = .next t ∧ t.fld MGT_NETCNT.DROPPED = min (s.fld MGT_NETCNT.DROPPED + 1) (2 ^ MGT_NETCNT.DROPPED.w - 1) ∧
        t.bell = s.bell ∧ onlyRegs [MGT_NETCNT.DROPPED] s t)) ∧
  (∀ (s : State) (a b c : Bool), s.up = true → s.on MGT_CTRL.NET_EN = true →
    (∃ t, exec (.frameReject a b c false) s = .next t ∧
      t.fld MGT_NETCNT.RXERR = min (s.fld MGT_NETCNT.RXERR + 1) (2 ^ MGT_NETCNT.RXERR.w - 1) ∧ onlyRegs [MGT_NETCNT.RXERR] s t) ∧
    exec (.frameReject a b c true) s = .next s) ∧
  (∀ (s : State) (k : Nat), ∃ t, exec (.stagingExpire k) s = .next t ∧ Tab.get none t.mgt.stages k = none ∧
    (∀ j, j ≠ k → Tab.get none t.mgt.stages j = Tab.get none s.mgt.stages j) ∧ onlyRegs [] s t) ∧
  (∀ (s : State) (c : Nat),
    ((Tab.get none s.mgt.sess c).isSome = true →
      ∃ t, exec (.sessionIdleExpire c) s = .next t ∧ Tab.get none t.mgt.sess c = none ∧ Tab.get none t.cip.sess c = none ∧
        t.on (EVT_SRC.PEND 389) = true ∧ keepsRegs [] s t ∧ keepsMem s t) ∧
    (Tab.get none s.mgt.sess c = none → exec (.sessionIdleExpire c) s = .next s)) ∧
  (∀ s : State, s.up = true → s.coldNum 0x1104 0 = 1 → s.on MGT_STAT.COORD = false → s.on MGT_STAT.NETUP = true →
    ∃ t, exec .networkDownTimeout s = .next t ∧ t.on MGT_STAT.NETUP = false ∧ t.on (EVT_SRC.PEND 393) = true ∧
      keepsRegs (MGT_STAT.NETUP :: loopFields) s t ∧ keepsMem s t)

/-- R556 for the configuration record, R580 and R581 for MCTP and NVMe-MI: a record in both copies ends the wait of the command it answers; the NVMe-MI
commands are answered with the values in force; a message that fails its check raises event 397. -/
def Obligations.RecordsAndManagementMessages : Prop :=
  (∀ (s : State) (r : Tab (Option DVal)), s.mgt.recNow = some r → s.mgt.waits = [] → s.mgt.recNext = false →
    (∃ t, exec .configRecordWriteDone s = .next t ∧ t.mgt.copyA = some (s.mgt.recGen, r) ∧ t.mgt.copyB = some (s.mgt.recGen, r) ∧
      t.mgt.recNow = none ∧ t.on (EVT_SRC.PEND 384) = true ∧ keepsRegs [] s t ∧ keepsMem s t) ∧
    ∀ b, ∃ t, exec (.configCopyTimeout b) s = .next t ∧ t.mgt.copyA = (if b then some (s.mgt.recGen, r) else s.mgt.copyA) ∧
      t.mgt.copyB = s.mgt.copyB ∧ t.mgt.recNow = none ∧ t.on (EVT_SRC.PEND 385) = true ∧ keepsRegs [] s t ∧ keepsMem s t) ∧
  (∀ (s : State) (r : Tab (Option DVal)) (c : Cmd) (op : Nat), s.mgt.recNow = some r →
    s.mgt.waits = [{ reply := { path := 2, dest := c.ticket, op := op }, cmd := true }] → s.mgt.recNext = false → s.hfe.ctx = [c] →
    s.hfe.stopped = false → c.status = none → c.ordered = false → opMovesData c.op = false → s.cqRoom c.fn (s.sq c.fn c.sqid).cqid = true →
    ∃ t, exec .configRecordWriteDone s = .next t ∧ t.hfe.ctx = [] ∧ t.mgt.waits = [] ∧
      t.hfe.posted = s.hfe.posted ++ [s.cplOf { ticket := c.ticket, fn := c.fn, sqid := c.sqid } c.cid stOk (op * 65536) (c.got.map (·.2))] ∧
      keepsRegs [] s t ∧ keepsMem s t) ∧
  (∀ s : State, s.mgt.recNow = none → exec .configRecordWriteDone s = .next s) ∧
  (∀ (s : State) (d : MctpMedium) (b : MctpBody), s.up = true → s.on MGT_CTRL.MCTP_EN = true → s.mediumOn d = true →
    (∃ t, exec (.mctpMessage d false b) s = .next t ∧ t.on (EVT_SRC.PEND 397) = true ∧ keepsRegs [] s t ∧ keepsMem s t) ∧
    (∃ t, exec (.mctpMessage d true .pause) s = .next t ∧ t.mgt = { s.mgt with mctpPaused := true } ∧ onlyRegs [] s t) ∧
    (∃ t, exec (.mctpMessage d true .resume) s = .next t ∧ t.mgt = { s.mgt with mctpPaused := false } ∧ onlyRegs [] s t) ∧
    exec (.mctpMessage d true .command) s = .next s) ∧
  (∀ s : State, s.miOn = true →
    (∀ d, ∃ t, exec (.readNvmeMiDataStructure d) s = .next t ∧ (∃ v, t.mgt.sent = s.mgt.sent ++ [{ path := 3, op := 0, data := [d, v] }]) ∧
      onlyRegs [] s t) ∧
    (∃ t, exec .nvmSubsystemHealthStatusPoll s = .next t ∧
      t.mgt = { s.mgt with sent := s.mgt.sent ++ [{ path := 3, op := 1, data := s.healthFields }] } ∧ onlyRegs [] s t) ∧
    (∀ f, s.fnExists f = true → ∃ t, exec (.controllerHealthStatusPoll f) s = .next t ∧
      t.mgt = { s.mgt with sent := s.mgt.sent ++ [{ path := 3, op := 2, data := [f, (s.fn f).rdy.toNat, (s.fn f).cfs.toNat] ++ s.healthFields }] } ∧
      onlyRegs [] s t) ∧
    (∃ t, exec (.configurationGet 1) s = .next t ∧
      t.mgt = { s.mgt with sent := s.mgt.sent ++ [{ path := 3, op := 4, data := [s.mgt.smbFreq] }] } ∧ onlyRegs [] s t) ∧
    (∃ t, exec (.configurationGet 3) s = .next t ∧
      t.mgt = { s.mgt with sent := s.mgt.sent ++ [{ path := 3, op := 4, data := [s.mgt.mctpUnit] }] } ∧ onlyRegs [] s t) ∧
    (∀ v, 1 ≤ v → v ≤ 3 → ∃ t, exec (.configurationSet 1 v) s = .next t ∧
      t.mgt = { s.mgt with smbFreq := v, sent := s.mgt.sent ++ [{ path := 3, op := 3 }] } ∧ onlyRegs [] s t) ∧
    (∀ v, 64 ≤ v → v ≤ 250 → ∃ t, exec (.configurationSet 3 v) s = .next t ∧
      t.mgt = { s.mgt with mctpUnit := v, sent := s.mgt.sent ++ [{ path := 3, op := 3 }] } ∧ onlyRegs [] s t) ∧
    (∀ v, v = 0 ∨ 4 ≤ v → ∃ t, exec (.configurationSet 1 v) s = .next t ∧
      t.mgt = { s.mgt with sent := s.mgt.sent ++ [{ path := 3, op := 3, abort := miParam }] } ∧ onlyRegs [] s t) ∧
    (∀ o n, s.dictReadCheck .mctp 0x1010 0 = abOk → o + n ≤ (s.dictBytes 0x1010 0).length →
      ∃ t, exec (.vpdRead o n) s = .next t ∧
        t.mgt = { s.mgt with sent := s.mgt.sent ++ [{ path := 3, op := 5, data := ((s.dictBytes 0x1010 0).drop o).take n }] } ∧ onlyRegs [] s t) ∧
    (∀ o n, s.dictReadCheck .mctp 0x1010 0 = abOk → (s.dictBytes 0x1010 0).length < o + n →
      ∃ t, exec (.vpdRead o n) s = .next t ∧ t.mgt = { s.mgt with sent := s.mgt.sent ++ [{ path := 3, op := 5, abort := miParam }] } ∧
        onlyRegs [] s t) ∧
    (∀ o data, 256 < o + data.length → ∃ t, exec (.vpdWrite o data) s = .next t ∧
      t.mgt = { s.mgt with sent := s.mgt.sent ++ [{ path := 3, op := 6, abort := miParam }] } ∧ onlyRegs [] s t) ∧
    (∀ o data, o + data.length ≤ 256 → o ≤ (s.dictBytes 0x1010 0).length → (s.dictBytes 0x1010 0).length ≤ 256 →
      s.hld.committed = false → s.mgt.loading = false → s.mgt.waits = [] →
      ∃ t, exec (.vpdWrite o data) s = .next t ∧ t.dictBytes 0x1010 0 =
        (s.dictBytes 0x1010 0).take o ++ data ++ (s.dictBytes 0x1010 0).drop (o + data.length) ∧ t.mgt.sent = s.mgt.sent ∧
        t.mgt.waits.map (·.reply) = [{ path := 3, op := 6 }] ∧ t.mgt.recNow.isSome = true ∧ onlyRegs [] s t) ∧
    (∀ q data, badEntry true q = false → slice (sqeDw q 0) 0 8 = 6 →
      ∃ t, exec (.nvmeAdminCommand q data) s = .next t ∧ onlyRegs [] s t ∧
        ∀ r, r = s.identifyData 0 (sqeDw q 1) (slice (sqeDw q 10) 0 8) (slice (sqeDw q 10) 16 16) (slice (sqeDw q 11) 24 8) →
          t.mgt = { s.mgt with sent := s.mgt.sent ++ [{ path := 3, op := 0x106, data := [r.1, 0] ++ r.2 }] }) ∧
    (∀ q data, badEntry true q = false → slice (sqeDw q 0) 0 8 ∉ [0x02, 0x06, 0x0A, 0xC0, 0xC1] →
      ∃ t, exec (.nvmeAdminCommand q data) s = .next t ∧
        t.mgt = { s.mgt with sent := s.mgt.sent ++ [{ path := 3, op := 256 + slice (sqeDw q 0) 0 8, abort := miOpcode }] } ∧ onlyRegs [] s t)) ∧
  (∀ (s : State), s.miOn = false → exec .nvmSubsystemHealthStatusPoll s = .next s ∧ (∀ i v, exec (.configurationSet i v) s = .next s) ∧
    (∀ q data, exec (.nvmeAdminCommand q data) s = .next s) ∧ ∀ o data, exec (.vpdWrite o data) s = .next s)

/-- R182, R183, R202 and R214 for firmware's commands to the zone manager: stripe sets and placement groups take what is written unless they are in use,
the descriptor operations read and change the descriptor named or report the error (that those of a reclaim unit do is the model's choice, log
entry 51), a checkpoint starts and ends. -/
def Obligations.FirmwareManagesZonesAndGroups : Prop :=
  (∀ (s : State) (m k v : Nat), k < 4096 → s.reaches m (ZPM_SSET.VALID k).addr →
    ((s.arrive m (ZPM_SSET.VALID k).addr).ssetRefused k v = false →
      ∃ t, exec (.zpmSsetWrite m k v) s = .next t ∧ t.fld (ZPM_SSET.VALID k) = (ZPM_SSET.VALID k).of v ∧
        t.fld (ZPM_SSET.PGRP k) = (ZPM_SSET.PGRP k).of v ∧ t.fld (ZPM_SSET.ROWS k) = (ZPM_SSET.ROWS k).of v ∧
        keepsRegs [ZPM_SSET.VALID k, ZPM_SSET.PGRP k, ZPM_SSET.ROWS k] s t ∧ keepsMem s t) ∧
    ((s.arrive m (ZPM_SSET.VALID k).addr).ssetRefused k v = true →
      ∃ t, exec (.zpmSsetWrite m k v) s = .next t ∧ t.on ZPM_DCMD.ERR = true ∧ keepsRegs [ZPM_DCMD.ERR] s t ∧ keepsMem s t)) ∧
  (∀ (s : State) (m g v : Nat), g < 64 → s.reaches m (ZPM_PGRP.ROW g).addr →
    ∃ t, exec (.zpmPgrpWrite m g v) s = .next t ∧ t.fld (ZPM_PGRP.TAIL_ONLY g) = (ZPM_PGRP.TAIL_ONLY g).of v ∧
      ((s.arrive m (ZPM_PGRP.ROW g).addr).groupReserved g = false → t.fld (ZPM_PGRP.ROW g) = (ZPM_PGRP.ROW g).of v ∧
        keepsRegs [ZPM_PGRP.TAIL_ONLY g, ZPM_PGRP.ROW g] s t) ∧
      ((s.arrive m (ZPM_PGRP.ROW g).addr).groupReserved g = true → t.on ZPM_DCMD.ERR = true ∧
        keepsRegs [ZPM_PGRP.TAIL_ONLY g, ZPM_DCMD.ERR] s t) ∧ keepsMem s t) ∧
  (∀ (s : State) (m i : Nat), i < 2 ^ 20 → s.reaches m ZPM_DCMD.OP.addr →
    (s.descriptorHeld i = true →
      ∃ t, exec (.dcmdRead m i) s = .next t ∧ t.fld ZPM_DCMD.INDEX = i ∧
        (∀ k, k < 8 → t.fld (ZPM_DWORD.DATA k) = (s.zone i).words.getD k 0 % 2 ^ 32) ∧ t.zpm = s.zpm ∧
        keepsRegs (ZPM_DCMD.INDEX :: (List.range 8).map ZPM_DWORD.DATA) s t ∧ keepsMem s t) ∧
    (s.descriptorHeld i = false →
      ∃ t, exec (.dcmdRead m i) s = .next t ∧ t.on ZPM_DCMD.ERR = true ∧ (∀ k, k < 8 → t.fld (ZPM_DWORD.DATA k) = 0) ∧ t.zpm = s.zpm ∧
        keepsRegs (ZPM_DCMD.ERR :: ZPM_DCMD.INDEX :: (List.range 8).map ZPM_DWORD.DATA) s t ∧ keepsMem s t) ∧
    (s.zoneOpOk i = true →
      ∃ t, exec (.setAttr m i) s = .next t ∧ (t.zone i).fzr = bit (s.fld (ZPM_DWORD.DATA 3)) 16 ∧
        (t.zone i).rzr = bit (s.fld (ZPM_DWORD.DATA 3)) 15 ∧ (t.zone i).state = (s.zone i).state ∧ (t.zone i).wpAdmit = (s.zone i).wpAdmit ∧
        keepsRegs [ZPM_DCMD.INDEX, ZPM_STAT.CKPT_BUSY] s t ∧ keepsMem s t) ∧
    (s.zoneOpOk i = true → (s.zone i).state ≠ .readOnly → (s.zone i).state ≠ .free → s.med.migr = [] →
      ∃ t, exec (.readOnly m i) s = .next t ∧ (t.zone i).state = .readOnly ∧ (t.zone i).wpCommit = (s.zone i).wpCommit ∧
        t.on (EVT_SRC.PEND 224) = true ∧ keepsRegs [ZPM_DCMD.INDEX, ZPM_STAT.CKPT_BUSY] s t ∧ keepsMem s t) ∧
    (s.zoneOpOk i = true → s.med.migr = [] →
      ∃ t, exec (.offline m i) s = .next t ∧ (t.zone i).state = .offline ∧ (t.zone i).hasrow = false ∧ t.on (EVT_SRC.PEND 225) = true ∧
        keepsMem s t) ∧
    (s.descriptorHeld i = true → (s.zone i).kind ≠ 0 → (s.zone i).state ≠ .offline →
      ∃ t, exec (.setFwtag m i) s = .next t ∧ (t.zone i).fwtag = s.fld (ZPM_DWORD.DATA 7) ∧ (t.zone i).state = (s.zone i).state ∧
        keepsRegs [ZPM_DCMD.INDEX, ZPM_STAT.CKPT_BUSY] s t ∧ keepsMem s t) ∧
    (s.zoneOpOk i = false →
      (∃ t, exec (.setAttr m i) s = .next t ∧ t.on ZPM_DCMD.ERR = true ∧ t.zpm = s.zpm ∧ keepsRegs [ZPM_DCMD.INDEX, ZPM_DCMD.ERR] s t) ∧
      (∃ t, exec (.readOnly m i) s = .next t ∧ t.on ZPM_DCMD.ERR = true ∧ t.zpm = s.zpm ∧ keepsRegs [ZPM_DCMD.INDEX, ZPM_DCMD.ERR] s t) ∧
      ∃ t, exec (.offline m i) s = .next t ∧ t.on ZPM_DCMD.ERR = true ∧ t.zpm = s.zpm ∧ keepsRegs [ZPM_DCMD.INDEX, ZPM_DCMD.ERR] s t)) ∧
  (∀ (s : State) (m v : Nat), s.reaches m ZPM_CTRL.CKPT_NOW.addr → s.hfe.ctx = [] → s.mediaIdle → ZPM_CTRL.CKPT_NOW.of v = 1 →
    s.on ZPM_STAT.CKPT_BUSY = false →
    ∃ t, exec (.ckptNow m v) s = .next t ∧ t.on ZPM_STAT.CKPT_BUSY = true ∧ t.zpm = { s.zpm with ckptMark := s.zpm.journal.length } ∧
      t.fld ZPM_CTRL.EN = ZPM_CTRL.EN.of v ∧ t.fld ZPM_CTRL.TAIL_ENF = ZPM_CTRL.TAIL_ENF.of v ∧
      keepsRegs [ZPM_CTRL.EN, ZPM_CTRL.TAIL_ENF, ZPM_STAT.CKPT_BUSY] s t ∧ keepsMem s t) ∧
  (∀ (s : State) (l : List Nat),
    (s.on ZPM_STAT.CKPT_BUSY = true → s.hld.committed = false → s.hfe.ctx = [] → s.mediaIdle → s.zpm.journalLate = [] →
      s.zpm.journal.length ≤ 131072 →
      ∃ t, exec (.zoneCheckpointEnd l) s = .next t ∧ t.on ZPM_STAT.CKPT_BUSY = false ∧ t.nv.checkpoint.zones = s.zpm.zones ∧
        t.nv.checkpoint.gen = max s.nv.ckptA.gen s.nv.ckptB.gen + 1 ∧ t.nv.checkpoint.ok = true ∧ t.nv.checkpoint.bad = l ∧
        (s.olderA = true → t.nv.ckptB = s.nv.ckptB) ∧ (s.olderA = false → t.nv.ckptA = s.nv.ckptA) ∧
        t.zpm.journal = s.zpm.journal.drop s.zpm.ckptMark ∧
        t.zpm.zones = s.zpm.zones ∧ t.on (EVT_SRC.PEND 230) = true ∧ keepsRegs [ZPM_STAT.CKPT_BUSY] s t ∧ keepsMem s t) ∧
    (s.on ZPM_STAT.CKPT_BUSY = false ∨ s.hld.committed = true → exec (.zoneCheckpointEnd l) s = .next s))

/-- R221, R222, R232, R250, R256, R258 and R261 for media management: the layout closes when its conditions hold, unit records are read and set while
it is open, the Kiln is switched, a map flush starts and ends, recipes are stored, migrations asked for, health values kept. -/
def Obligations.FirmwareManagesMedia : Prop :=
  (∀ (s u : State) (m v : Nat), s.reaches m MED_CTRL.LAYOUT.addr → u = s.arrive m MED_CTRL.LAYOUT.addr → s.on MED_CTRL.LAYOUT = false →
    MED_CTRL.MAPFLUSH.of v = 0 → MED_CTRL.LAYOUT.of v = 1 →
    (u.layoutOk = true →
      ∃ t, exec (.layout m v) s = .next t ∧ t.on MED_CTRL.LAYOUT = true ∧ t.med.slcCap = s.dnum 0x3200 0 ∧
        t.med.nonRow = (s.med.units.filter fun x => x.2.state != .row).map (·.1) ∧ t.med.units = s.med.units ∧
        keepsRegs [MED_CTRL.LAYOUT] s t ∧ keepsMem s t) ∧
    (u.layoutOk = false →
      ∃ t, exec (.layout m v) s = .next t ∧ t.on MED_CTRL.LAYOUT = false ∧ t.on MED_STAT.LAYERR = true ∧ t.med = s.med ∧
        keepsRegs [MED_STAT.LAYERR] s t ∧ keepsMem s t)) ∧
  (∀ (s u : State) (m v : Nat), s.reaches m MED_CTRL.KILN_EN.addr → u = s.arrive m MED_CTRL.KILN_EN.addr → s.on MED_CTRL.LAYOUT = true →
    MED_CTRL.MAPFLUSH.of v = 0 → MED_CTRL.GC_EN.of v = 0 →
    (MED_CTRL.KILN_EN.of v = 0 →
      ∃ t, exec (.kilnEn m v) s = .next t ∧ t.on MED_CTRL.KILN_EN = false ∧ t.on MED_CTRL.GC_EN = false ∧
        t.fld MED_CTRL.WL_EN = MED_CTRL.WL_EN.of v ∧ t.on MED_CTRL.LAYOUT = true ∧ t.med = s.med ∧
        keepsRegs [MED_CTRL.KILN_EN, MED_CTRL.WL_EN, MED_CTRL.GC_EN] s t ∧ keepsMem s t) ∧
    (MED_CTRL.KILN_EN.of v = 1 → u.recipesOk = false →
      ∃ t, exec (.kilnEn m v) s = .next t ∧ t.fld MED_CTRL.KILN_EN = s.fld MED_CTRL.KILN_EN ∧ t.on MED_STAT.RCPERR = true ∧
        t.on (EVT_SRC.PEND 249) = true ∧ t.med = s.med ∧ keepsRegs [MED_STAT.RCPERR, MED_CTRL.WL_EN, MED_CTRL.GC_EN] s t ∧ keepsMem s t) ∧
    (MED_CTRL.KILN_EN.of v = 1 → u.recipesOk = true → s.med.folds = [] →
      ∃ t, exec (.kilnEn m v) s = .next t ∧ t.on MED_CTRL.KILN_EN = true ∧ t.med = s.med ∧
        keepsRegs [MED_CTRL.KILN_EN, MED_CTRL.WL_EN, MED_CTRL.GC_EN] s t ∧ keepsMem s t)) ∧
  (∀ (s : State) (m v : Nat), s.reaches m MED_CTRL.MAPFLUSH.addr → s.on MED_CTRL.LAYOUT = false → MED_CTRL.LAYOUT.of v = 0 →
    MED_CTRL.MAPFLUSH.of v = 1 → s.med.flushMark = none →
    ((∀ x ∈ s.med.mapCache, x.dirty = false) →
      ∃ t, exec (.mapflush m v) s = .next t ∧ t.med.flushMark = some s.med.mapJrnl.length ∧ t.med.flushLeft = [] ∧ t.med.map = s.med.map ∧
        t.med.mapJrnl = s.med.mapJrnl ∧ keepsRegs [] s t ∧ keepsMem s t) ∧
    ∀ l, l = (s.med.mapCache.filter fun x => x.dirty && decide (x.page < 2 ^ 56)).map (·.page) → s.med.flushOn = [] →
      ∃ t, exec (.mapflush m v) s = .next t ∧ t.med.flushMark = some s.med.mapJrnl.length ∧ t.med.map = s.med.map ∧
        t.med.mapJrnl = s.med.mapJrnl ∧ t.med.flushOn ++ t.med.flushLeft = l ++ (l.map dirPage).eraseDups ∧ keepsMem s t) ∧
  (∀ s : State, (s.med.flushMark = none → exec .mapFlushEnd s = .next s) ∧
    (s.med.flushLeft ≠ [] ∨ s.med.flushOn ≠ [] ∨ s.hld.committed = true → exec .mapFlushEnd s = .next s) ∧
    ∀ n, s.med.flushMark = some n → s.med.flushLeft = [] → s.med.flushOn = [] → s.hld.committed = false → s.med.mapLate = [] →
      s.med.mapJrnl.drop n = [] → s.med.mapJrnlLate = [] → s.hfe.ctx = [] → s.mediaIdle →
      ∃ t, exec .mapFlushEnd s = .next t ∧ t.med.mapJrnl = [] ∧ t.med.map = s.med.map ∧ t.nv.keep.map = s.med.map ∧
        t.nv.keep.mapAddr = s.med.mapAddr ∧ (∀ x ∈ t.med.mapCache, x.dirty = false) ∧ t.on (EVT_SRC.PEND 247) = true ∧ keepsRegs [] s t ∧
        keepsMem s t) ∧
  (∀ (s : State) (m v : Nat), s.reaches m MED_UCMD.OP.addr →
    (∃ t, exec (.ucmdRead m v) s = .next t ∧ t.fld MED_UDATA.RECORD = s.unitWord (MED_UCMD.DIE.of v) (MED_UCMD.UNIT.of v) % 2 ^ 32 ∧
      t.med.units = s.med.units ∧ t.med.map = s.med.map ∧ keepsRegs [MED_UDATA.RECORD] s t ∧ keepsMem s t) ∧
    (∀ x, s.on MED_CTRL.LAYOUT = false → UState.ofCode (s.fld MED_UDATA.RECORD / 2 ^ 29) = some x →
      ∃ t, exec (.ucmdSet m v) s = .next t ∧ (t.unitRec (MED_UCMD.DIE.of v) (MED_UCMD.UNIT.of v)) =
        { s.unitRec (MED_UCMD.DIE.of v) (MED_UCMD.UNIT.of v) with state := x } ∧ keepsRegs [] s t ∧ keepsMem s t) ∧
    (s.on MED_CTRL.LAYOUT = true ∨ UState.ofCode (s.fld MED_UDATA.RECORD / 2 ^ 29) = none →
      ∃ t, exec (.ucmdSet m v) s = .next t ∧ t.on MED_STAT.UERR = true ∧ t.med = s.med ∧ keepsRegs [MED_STAT.UERR] s t ∧ keepsMem s t)) ∧
  (∀ (s : State) (m v : Nat), s.reaches m MED_RCPDATA.STEPWORD.addr →
    (s.on MED_CTRL.KILN_EN = false →
      ∃ t, exec (.recipeStepWrite m v) s = .next t ∧
        Tab.get 0 t.med.recipes (s.fld MED_RCPSEL.RECIPE * 16 + s.fld MED_RCPSEL.STEP) = v % 2 ^ 32 ∧ keepsRegs [] s t ∧ keepsMem s t) ∧
    (s.on MED_CTRL.KILN_EN = true →
      ∃ t, exec (.recipeStepWrite m v) s = .next t ∧ t.on MED_STAT.RCPERR = true ∧ t.med = s.med ∧ keepsRegs [MED_STAT.RCPERR] s t ∧
        keepsMem s t)) ∧
  (∀ (s : State) (m v : Nat), s.reaches m MED_MIGR.OP.addr →
    (MED_MIGR.OP.of v = 1 → (s.zone (MED_MIGR.INDEX.of v)).migratable = false →
      ∃ t, exec (.migrate m v) s = .next t ∧ t.on MED_STAT.MERR = true ∧ t.med = s.med ∧ keepsRegs [MED_STAT.MERR] s t ∧ keepsMem s t) ∧
    (∀ i, i = MED_MIGR.INDEX.of v → MED_MIGR.OP.of v = 1 → (s.zone i).migratable = true → (s.zone i).hasrow = true → s.med.migrWait = [] →
      (s.med.migr.any fun x => x.index == i) = false →
      (s.migrRoom i = false ∨ s.chooseRun (s.groupSets (s.fld (ZPM_SSET.PGRP (s.zone i).sset))) ((s.zone i).rspan + 1) = none →
        ∃ t, exec (.migrate m v) s = .next t ∧ t.med = { s.med with migrWait := [i] } ∧ t.zpm = s.zpm ∧ keepsRegs [] s t ∧ keepsMem s t) ∧
      ∀ x r, s.migrRoom i = true → s.chooseRun (s.groupSets (s.fld (ZPM_SSET.PGRP (s.zone i).sset))) ((s.zone i).rspan + 1) = some (x, r) →
        ∃ t, exec (.migrate m v) s = .next t ∧ t.on (EVT_SRC.PEND 237) = true ∧ t.med.migrWait = [] ∧
          (∀ k, k ≤ (s.zone i).rspan → (Tab.get {} t.zpm.rows (x * 16384 + r + k)).held = true) ∧ keepsMem s t) ∧
    (MED_MIGR.OP.of v ≠ 1 → ∃ t, exec (.migrate m v) s = .next t ∧ t.med = s.med ∧ keepsRegs [] s t ∧ keepsMem s t)) ∧
  (∀ s : State,
    (15 ≤ s.fld SYS_BOOTPHASE.STEP → s.hld.committed = false →
      ∃ t, exec .healthWrite s = .next t ∧ t.nv.keep.health = s.med.health ∧ t.nv.keep.tMax = s.med.tMax ∧ t.nv.keep.tMin = s.med.tMin ∧
        t.nv.sysBad = [] ∧ t.med = s.med ∧ t.zpm = s.zpm ∧ onlyRegs [] s t) ∧
    (s.fld SYS_BOOTPHASE.STEP < 15 ∨ s.hld.committed = true → exec .healthWrite s = .next s))

/-- R274 to R280 (Table 8.3) for the channel groups: the requests of FCH_GCTRL, the end of the ramp wait, a Reset that is not answered and an undervoltage
move a group between OFF, POWERING, UNTRAINED, READY and FAULT, and only so. -/
def Obligations.ChannelGroupsFollowTheirStates : Prop :=
  (∀ (s : State) (m g : Nat), g < 16 → s.reaches m (fchPage g + 4) →
    (s.grp g = grpOff → s.bell.puActive = false →
      ∃ t, exec (.pwrOn m g) s = .next t ∧ t.bell.puActive = true ∧ t.bell.puMask = 2 ^ g ∧ t.fch = s.fch ∧ keepsRegs [] s t ∧ keepsMem s t) ∧
    (s.grp g = grpOff → s.bell.puActive = true →
      ∃ t, exec (.pwrOn m g) s = .next t ∧ bit t.fch.joinNext g = true ∧ t.bell = s.bell ∧ keepsRegs [] s t ∧ keepsMem s t) ∧
    (s.grp g ≠ grpOff →
      ∃ t, exec (.pwrOn m g) s = .next t ∧ t.on (FCH_GSTAT.ERR g) = true ∧ t.bell = s.bell ∧ t.fch = s.fch ∧
        keepsRegs [FCH_GSTAT.ERR g] s t ∧ keepsMem s t) ∧
    ((s.grp g = grpPowering ∨ (s.grp g = grpUntrained ∨ s.grp g = grpReady) ∧ s.groupIdle g = true) →
      ∃ t, exec (.pwrOff m g) s = .next t ∧ t.grp g = grpOff ∧ t.on (FCH_GSTAT.WP g) = false ∧ t.on (FCH_GCTRL.WP_REL g) = false ∧
        bit t.fch.npwr g = false ∧ Tab.get 0 t.fch.resetWait g = 0 ∧
        (∀ d, d / 128 = g → t.resetting d = false) ∧
        keepsRegs (FCH_GCTRL.WP_REL g :: groupFields g ++ acctFields ++ holdFields ++ loopFields) s t ∧ keepsMem s t) ∧
    (s.grp g = grpFault →
      ∃ t, exec (.pwrOff m g) s = .next t ∧ t.grp g = grpOff ∧ t.on (FCH_GSTAT.BANDERR g) = false ∧ t.on (FCH_GSTAT.RSTERR g) = false ∧
        t.on (FCH_GSTAT.UV g) = false ∧ bit t.fch.npwr g = false ∧
        keepsRegs ([FCH_GCTRL.WP_REL g, FCH_GSTAT.BANDERR g, FCH_GSTAT.RSTERR g, FCH_GSTAT.UV g] ++ groupFields g ++ acctFields ++ holdFields ++
          loopFields) s t ∧ keepsMem s t) ∧
    ((s.grp g = grpOff ∨ (s.grp g = grpUntrained ∨ s.grp g = grpReady) ∧ s.groupIdle g = false) →
      ∃ t, exec (.pwrOff m g) s = .next t ∧ t.on (FCH_GSTAT.ERR g) = true ∧ t.grp g = s.grp g ∧ t.fch = s.fch ∧
        keepsRegs (FCH_GSTAT.ERR g :: holdFields) s t ∧ keepsMem s t) ∧
    (s.grp g = grpUntrained → (s.arrive m (fchPage g + 4)).allCalibrated g = true →
      ∃ t, exec (.groupReady m g) s = .next t ∧ t.grp g = grpReady ∧ keepsRegs (groupFields g ++ holdFields ++ loopFields) s t ∧
        keepsMem s t) ∧
    (s.grp g ≠ grpUntrained ∨ (s.arrive m (fchPage g + 4)).allCalibrated g = false →
      ∃ t, exec (.groupReady m g) s = .next t ∧ t.on (FCH_GSTAT.ERR g) = true ∧ t.grp g = s.grp g ∧ t.fch = s.fch ∧
        keepsRegs (FCH_GSTAT.ERR g :: holdFields) s t ∧ keepsMem s t)) ∧
  (∀ (s : State) (g band : Nat) (onfi jedec : Bool), g < 16 → band < 4 →
    (s.grp g ≠ grpPowering ∨ Tab.get 0 s.fch.resetWait g ≠ 0 → exec (.rampWaitEnd g band onfi jedec) s = .next s) ∧
    (s.grp g = grpPowering → Tab.get 0 s.fch.resetWait g = 0 → s.ctl.recLoaded = true → band ≠ s.grpBand g →
      ∃ t, exec (.rampWaitEnd g band onfi jedec) s = .next t ∧ t.grp g = grpFault ∧ t.on (FCH_GSTAT.BANDERR g) = true ∧
        t.fld (FCH_GSTAT.BANDSEEN g) = band ∧ bit t.fch.npwr g = false ∧
        keepsRegs ([FCH_GSTAT.BANDERR g, FCH_GSTAT.BANDSEEN g] ++ groupFields g ++ acctFields ++ loopFields) s t ∧ keepsMem s t) ∧
    (s.grp g = grpPowering → Tab.get 0 s.fch.resetWait g = 0 → s.ctl.recLoaded = true → band = s.grpBand g →
      ∃ t, exec (.rampWaitEnd g band onfi jedec) s = .next t ∧ t.fld (FCH_GSTAT.BANDSEEN g) = band ∧ bit t.fch.vccqOk g = true ∧
        Tab.get 0 t.fch.resetWait g = s.resetSet g (s.popMask g) ∧
        t.grp g = (if s.resetSet g (s.popMask g) = 0 then grpUntrained else grpPowering) ∧
        (∀ i, bit (s.resetSet g (s.popMask g)) i = true → t.resetting (128 * g + i) = true) ∧
        keepsRegs (FCH_GSTAT.BANDSEEN g :: groupFields g ++ acctFields ++ loopFields) s t ∧ keepsMem s t) ∧
    (s.grp g = grpPowering → Tab.get 0 s.fch.resetWait g = 0 → s.ctl.recLoaded = false → band < 3 → onfi || jedec →
      ∃ t, exec (.rampWaitEnd g band onfi jedec) s = .next t ∧ t.fld (FCH_GSTAT.BANDSEEN g) = band ∧
        (∀ k, k < 2 → t.fld (FCH_TSETW0.INTF g k) = (bootProfile (!onfi) band).1 ∧ t.fld (FCH_TSETW0.RATE g k) = (bootProfile (!onfi) band).2 ∧
          t.fld (FCH_TSETW0.SDRMODE g k) = 0) ∧
        Tab.get 0 t.fch.resetWait g = s.resetSet g 1 ∧ t.grp g = (if s.resetSet g 1 = 0 then grpUntrained else grpPowering) ∧
        keepsRegs ([FCH_GSTAT.BANDSEEN g, FCH_TSETW0.INTF g 0, FCH_TSETW0.RATE g 0, FCH_TSETW0.SDRMODE g 0, FCH_TSETW0.INTF g 1,
          FCH_TSETW0.RATE g 1, FCH_TSETW0.SDRMODE g 1] ++ groupFields g ++ acctFields ++ loopFields) s t ∧ keepsMem s t) ∧
    (s.grp g = grpPowering → Tab.get 0 s.fch.resetWait g = 0 → s.ctl.recLoaded = false → band = 3 →
      ∃ t, exec (.rampWaitEnd g band onfi jedec) s = .next t ∧ t.grp g = grpFault ∧ t.on (FCH_GSTAT.BANDERR g) = true) ∧
    (s.grp g = grpPowering → Tab.get 0 s.fch.resetWait g = 0 → s.ctl.recLoaded = false → band < 3 →
      ∃ t, exec (.rampWaitEnd g band false false) s = .next t ∧ t.grp g = grpFault ∧ t.on (FCH_GSTAT.RSTERR g) = true)) ∧
  (∀ (s : State) (g : Nat), g < 16 →
    (s.resetIssued g = false → exec (.groupDieResetTimeout g) s = .next s) ∧
    (s.resetIssued g = true →
      ∃ t, exec (.groupDieResetTimeout g) s = .next t ∧ t.grp g = grpFault ∧ t.on (FCH_GSTAT.RSTERR g) = true ∧ bit t.fch.npwr g = false ∧
        Tab.get 0 t.fch.resetWait g = 0 ∧ (∀ d, d / 128 = g → t.resetting d = false) ∧
        (s.groupIdle g = true → ∀ h, h < 16 → h ≠ g → t.grp h = s.grp h)) ∧
    (s.grp g = grpUntrained ∨ s.grp g = grpReady →
      ∃ t, exec (.vccqUndervoltage g) s = .next t ∧ t.grp g = grpFault ∧ t.on (FCH_GSTAT.UV g) = true ∧ bit t.fch.npwr g = false ∧
        bit t.fch.vccqOk g = false ∧ (s.groupIdle g = true → ∀ h, h < 16 → h ≠ g → t.grp h = s.grp h)) ∧
    (s.grp g ≠ grpUntrained → s.grp g ≠ grpReady →
      ∃ t, exec (.vccqUndervoltage g) s = .next t ∧ t.fch = s.fch ∧ keepsRegs holdFields s t ∧ keepsMem s t))

/-- R275, R276 (TIMING_SET_WRITE), R285 (FENCE_SET), R290 (CALIBRATION_ENTRY_WRITE): timing sets within Table 8.1, fences that only set, calibration
entries while the group is UNTRAINED; a write turned away sets ERR. -/
def Obligations.GroupRegistersTakeTheirWrites : Prop :=
  (∀ (s : State) (m g k v : Nat), g < 16 → k < 2 → (∀ j w, j < 2 → w < 2 → s.reaches m (fchPage g + 0x10 + 8 * j + 4 * w)) →
    (timingOk (slice v 28 4) (s.bandNow g) (slice v 0 12) (slice v 24 4) = true → s.grp g = grpOff ∨ s.grp g = grpUntrained →
      ∃ t, exec (.timingSetWrite m g 0 0 v) s = .next t ∧
        (∀ j, j < 2 → t.fld (FCH_TSETW0.INTF g j) = slice v 28 4 ∧ t.fld (FCH_TSETW0.SDRMODE g j) = slice v 24 4 ∧
          t.fld (FCH_TSETW0.RATE g j) = slice v 0 12) ∧
        keepsRegs [FCH_TSETW0.INTF g 0, FCH_TSETW0.SDRMODE g 0, FCH_TSETW0.RATE g 0, FCH_TSETW0.INTF g 1, FCH_TSETW0.SDRMODE g 1,
          FCH_TSETW0.RATE g 1] s t ∧ keepsMem s t) ∧
    (timingOk (slice v 28 4) (s.bandNow g) (slice v 0 12) (slice v 24 4) = false ∨ s.grp g ≠ grpOff ∧ s.grp g ≠ grpUntrained →
      ∃ t, exec (.timingSetWrite m g 0 0 v) s = .next t ∧ t.on (FCH_GSTAT.ERR g) = true ∧ keepsRegs [FCH_GSTAT.ERR g] s t ∧ keepsMem s t) ∧
    (timingOk (slice v 28 4) (s.bandNow g) (slice v 0 12) (slice v 24 4) = true → slice v 28 4 = s.fld (FCH_TSETW0.INTF g 0) →
      slice v 0 12 ≤ s.fld (FCH_TSETW0.RATE g 0) →
      ∃ t, exec (.timingSetWrite m g 1 0 v) s = .next t ∧ t.fld (FCH_TSETW0.INTF g 1) = slice v 28 4 ∧
        t.fld (FCH_TSETW0.SDRMODE g 1) = slice v 24 4 ∧ t.fld (FCH_TSETW0.RATE g 1) = slice v 0 12 ∧
        keepsRegs [FCH_TSETW0.INTF g 1, FCH_TSETW0.SDRMODE g 1, FCH_TSETW0.RATE g 1] s t ∧ keepsMem s t) ∧
    (timingOk (slice v 28 4) (s.bandNow g) (slice v 0 12) (slice v 24 4) = false ∨ slice v 28 4 ≠ s.fld (FCH_TSETW0.INTF g 0) ∨
      s.fld (FCH_TSETW0.RATE g 0) < slice v 0 12 →
      ∃ t, exec (.timingSetWrite m g 1 0 v) s = .next t ∧ t.on (FCH_GSTAT.ERR g) = true ∧ keepsRegs [FCH_GSTAT.ERR g] s t ∧ keepsMem s t) ∧
    (s.grp g = grpOff ∨ s.grp g = grpUntrained ∨ k = 1 ∧ s.on (FCH_GSTAT.SET g) = false →
      ∃ t, exec (.timingSetWrite m g k 1 v) s = .next t ∧ t.fld (FCH_TSETW1.VREFQ g k) = slice v 8 4 ∧
        t.fld (FCH_TSETW1.ODT g k) = slice v 4 4 ∧ t.fld (FCH_TSETW1.DRV g k) = slice v 0 4 ∧
        keepsRegs [FCH_TSETW1.VREFQ g k, FCH_TSETW1.ODT g k, FCH_TSETW1.DRV g k] s t ∧ keepsMem s t) ∧
    (s.grp g ≠ grpOff → s.grp g ≠ grpUntrained → k = 0 ∨ s.on (FCH_GSTAT.SET g) = true →
      ∃ t, exec (.timingSetWrite m g k 1 v) s = .next t ∧ t.on (FCH_GSTAT.ERR g) = true ∧ keepsRegs [FCH_GSTAT.ERR g] s t ∧ keepsMem s t)) ∧
  (∀ (s : State) (m g i v : Nat), g < 16 → i < 4 → s.reaches m (fchPage g + 0x40 + 4 * i) →
    ∃ t, exec (.fenceSet m g i v) s = .next t ∧
      (∀ e d, e < 128 → d < 16 → t.fenced e d = (s.fenced e d || e / 2 == 4 * g + i && bit v (e % 2 * 16 + d))) ∧
      t.fch = s.fch ∧ ∀ f : Fld, partOfKey f.key = 7 → f.key ≠ (FCH_FENCE.DIES g i).key → t.fld f = s.fld f) ∧
  (∀ (s : State) (m g k d w v : Nat), g < 16 → k < 8 → d < 16 → w < 4 → s.reaches m (fchPage g + 0x1000 + 0x100 * k + 0x10 * d + 4 * w) →
    (s.grp g = grpUntrained →
      ∃ t, exec (.calibrationEntryWrite m g k d w v) s = .next t ∧
        t.fld (calFld g k d w) = (if w = 0 then putSlice (v % 2 ^ 32) 24 7 0 else v % 2 ^ 32) ∧
        ((8 * g + k) * 16 + d) ∉ t.fch.recalled ∧ keepsRegs [calFld g k d w] s t ∧ keepsMem s t) ∧
    (s.grp g ≠ grpUntrained →
      ∃ t, exec (.calibrationEntryWrite m g k d w v) s = .next t ∧ t.on (FCH_GSTAT.ERR g) = true ∧ t.fch = s.fch ∧
        keepsRegs [FCH_GSTAT.ERR g] s t ∧ keepsMem s t))

/-- R297, R298 (DESCRIPTOR_SUBMIT, HW_DESCRIPTOR_SUBMIT), R319 (DESCRIPTOR_WITHDRAW), R313 (DESCRIPTOR_MAXWAIT_EXPIRE), R300 (CQ_HEAD_ADVANCE):
how descriptors enter a class queue, and how they leave it without having started. -/
def Obligations.DescriptorsEnterAndLeaveTheirQueues : Prop :=
  (∀ (s : State) (m e v c : Nat) (d : Desc), e < 128 → s.reaches m (drfPage e + 0x20) → c = slice v 30 2 →
    d = descOf ((List.range 16).map fun i => s.word (dpSram + slice v 6 16 * 64 + 4 * i)) →
    (s.qFull e c = true →
      ∃ t, exec (.descriptorSubmit m e v) s = .next t ∧ t.on (DRF_QSTAT.OVF e c) = true ∧ t.drf = s.drf ∧
        keepsRegs [DRF_QSTAT.OVF e c] s t ∧ keepsMem s t) ∧
    (s.qFull e c = false →
      ∃ t, exec (.descriptorSubmit m e v) s = .next t ∧ t.queue e c = s.queue e c ++ [d] ∧
        (∀ x, x ≠ c → t.queue e x = s.queue e x) ∧ (∀ j, t.ctxOf e j = s.ctxOf e j) ∧
        t.bytes (s.ringSlot e c (Tab.get 0 (s.engine e).rtail c)) 64 = d.words.flatMap (fun w => toBytes w 4) ∧
        Tab.get 0 (t.engine e).rtail c = (Tab.get 0 (s.engine e).rtail c + 1) % s.qDepth e c ∧
        (∀ a, a < s.ringSlot e c (Tab.get 0 (s.engine e).rtail c) ∨ s.ringSlot e c (Tab.get 0 (s.engine e).rtail c) + 64 ≤ a →
          t.byte a = s.byte a) ∧
        keepsRegs [] s t)) ∧
  (∀ (s : State) (e : Nat),
    (takeRoom (fun c => s.qFull e c) (s.engine e).hwq = none → exec (.hwDescriptorSubmit e) s = .next s) ∧
    ∀ (c : Nat) (d : Desc) (l : List (Nat × Desc)), takeRoom (fun c => s.qFull e c) (s.engine e).hwq = some ((c, d), l) →
      ∃ t, exec (.hwDescriptorSubmit e) s = .next t ∧ (t.engine e).hwq = l ∧ t.queue e c = s.queue e c ++ [d] ∧
        (∀ x, x ≠ c → t.queue e x = s.queue e x) ∧
        (∀ a, a < s.ringSlot e c (Tab.get 0 (s.engine e).rtail c) ∨ s.ringSlot e c (Tab.get 0 (s.engine e).rtail c) + 64 ≤ a →
          t.byte a = s.byte a) ∧ (∀ f, t.fld f = s.fld f)) ∧
  (∀ (s : State) (e c i : Nat),
    ((s.queue e c)[i]? = none → exec (.descriptorWithdraw e c i) s = .next s) ∧
    ∀ d, (s.queue e c)[i]? = some d → d.owner = 0 → d.work = .none → s.ringReady e → (s.ctxOf e (d.die * 2)).tailHeld = none →
      ∃ t, exec (.descriptorWithdraw e c i) s = .next t ∧ t.queue e c = (s.queue e c).eraseIdx i ∧
        s.records t e c d { status := csAborted, detail := 0xFFFC } ∧ keepsRegs (recordFields e) s t) ∧
  (∀ (s : State) (e c : Nat) (d : Desc), s.queue e c = [d] →
    (d.maxwait = 0 ∨ d.heldFrames ≤ d.maxwait ∨ s.check e c d ≠ .held → exec (.descriptorMaxwaitExpire e c d.die) s = .next s) ∧
    (d.maxwait ≠ 0 → d.maxwait < d.heldFrames → s.check e c d = .held → d.owner = 0 → d.work = .none → s.ringReady e →
      ∃ t, exec (.descriptorMaxwaitExpire e c d.die) s = .next t ∧ t.queue e c = [] ∧
        s.records t e c d { status := csDeferred, detail := d.heldFrames } ∧ keepsRegs (recordFields e) s t)) ∧
  (∀ (s : State) (m e v : Nat), e < 128 → s.reaches m (drfPage e + 0x14) →
    ((s.engine e).heldRecs = [] →
      ∃ t, exec (.cqHeadAdvance m e v) s = .next t ∧ t.fld (DRF_CQPTR.HEAD e) = v % 1024 ∧ t.drf = s.drf ∧
        keepsRegs [DRF_CQPTR.HEAD e] s t ∧ keepsMem s t) ∧
    (∀ h, (s.engine e).heldRecs = [h] → (s.fld (DRF_CQPTR.WIDX e) + 1) % 2 ^ s.fld (DRF_CQBASE.LOG2 e) ≠ v % 1024 % 2 ^ s.fld (DRF_CQBASE.LOG2 e) →
      ∃ t, exec (.cqHeadAdvance m e v) s = .next t ∧ t.fld (DRF_CQPTR.HEAD e) = v % 1024 ∧ (t.engine e).heldRecs = [] ∧
        t.bytes (s.cqSlot e) 16 = [h.w0 + (s.engine e).pass1.toNat * 2 ^ 21, h.w1, h.w2, h.detail * 2 ^ 16 + (s.engine e).seq].flatMap
          (fun w => toBytes w 4) ∧
        (∀ a, a < s.cqSlot e ∨ s.cqSlot e + 16 ≤ a → t.byte a = s.byte a) ∧
        keepsRegs (DRF_CQPTR.HEAD e :: recordFields e) s t))

/-- R302, R306 to R309, R312, R314, R316, R324 and R287: what each operation does when its turn comes. -/
def Obligations.DescriptorsStartInTheirTurn : Prop :=
  (∀ (s : State) (e c : Nat) (d : Desc), s.turnOf e c d → s.act e d.die = .free →
    (d.op = 1 →
      ∃ t, exec (.mediaRead e c) s = .next t ∧ t.queue e c = [] ∧ (t.ctxOf e (d.die * 2)).live = true ∧ (t.ctxOf e (d.die * 2)).desc = d ∧
        (t.ctxOf e (d.die * 2)).cls = c ∧ (t.ctxOf e (d.die * 2)).polls = 1 ∧ (t.ctxOf e (d.die * 2)).ma = s.readMa e ∧
        (t.ctxOf e (d.die * 2)).startAt = s.now ∧ t.act e d.die = .reading ∧ (∀ j, j ≠ d.die * 2 → t.ctxOf e j = s.ctxOf e j) ∧
        keepsRegs [BEL_ACCT.ACCOUNT, BEL_ACCT.PEAK] s t ∧ keepsMem s t) ∧
    (d.op = 2 →
      ∃ t, exec (.prog e c) s = .next t ∧ t.queue e c = [] ∧ (t.ctxOf e (d.die * 2)).live = true ∧ (t.ctxOf e (d.die * 2)).desc = d ∧
        (t.ctxOf e (d.die * 2)).cls = c ∧ (t.ctxOf e (d.die * 2)).data = s.takeData d ∧ t.act e d.die = .loaded ∧
        (∀ j, j ≠ d.die * 2 → t.ctxOf e j = s.ctxOf e j) ∧ keepsRegs [] s t ∧ keepsMem s t) ∧
    (d.op = 3 →
      ∃ t, exec (.progPass e c) s = .next t ∧ t.queue e c = [] ∧ (t.ctxOf e (d.die * 2)).live = true ∧ (t.ctxOf e (d.die * 2)).desc = d ∧
        (t.ctxOf e (d.die * 2)).cls = c ∧ (t.ctxOf e (d.die * 2)).data = s.takeData d ∧ t.act e d.die = .loaded ∧
        (∀ j, j ≠ d.die * 2 → t.ctxOf e j = s.ctxOf e j) ∧ keepsRegs [] s t ∧ keepsMem s t) ∧
    (d.op = 4 →
      ∃ t, exec (.erase e c) s = .next t ∧ t.queue e c = [] ∧ (t.ctxOf e (d.die * 2)).live = true ∧ (t.ctxOf e (d.die * 2)).desc = d ∧
        (t.ctxOf e (d.die * 2)).ma = s.eraseMa e ∧ t.bell.lastHcStart = some s.now ∧ t.act e d.die = .active ∧
        (∀ j, j ≠ d.die * 2 → t.ctxOf e j = s.ctxOf e j) ∧ keepsRegs [BEL_ACCT.ACCOUNT, BEL_ACCT.PEAK] s t ∧ keepsMem s t) ∧
    (d.op = 10 → libRoutines.contains (d.arg0 % 256) = true → (18 ≤ d.arg0 % 256 ∧ d.arg0 % 256 ≤ 21 → c = clsMaint) →
      ∃ t, exec (.lib e c) s = .next t ∧ t.queue e c = [] ∧ (t.ctxOf e (d.die * 2)).live = true ∧ (t.ctxOf e (d.die * 2)).desc = d ∧
        0x1000 ≤ (t.ctxOf e (d.die * 2)).pc ∧ (t.ctxOf e (d.die * 2)).pc < 0x2000 ∧
        (t.ctxOf e (d.die * 2)).w = ((List.range 8).map fun i => d.init.getD i 0) ∧ keepsRegs [] s t ∧ keepsMem s t) ∧
    (d.op = 11 → d.arg0 % 4 = 0 →
      ∃ t, exec (.run e c) s = .next t ∧ t.queue e c = [] ∧ (t.ctxOf e (d.die * 2)).live = true ∧ (t.ctxOf e (d.die * 2)).desc = d ∧
        (t.ctxOf e (d.die * 2)).pc = slice d.arg0 2 10 ∧ (t.ctxOf e (d.die * 2)).w = ((List.range 8).map fun i => d.init.getD i 0) ∧
        keepsRegs [] s t ∧ keepsMem s t) ∧
    (d.op = 11 → d.arg0 % 4 ≠ 0 → d.die < 16 → s.on (DRF_FAULT.VALID e) = false → d.owner = 0 → d.work = .none →
      ∃ t, exec (.run e c) s = .next t ∧ t.engState e = engHalted ∧ t.on (DRF_FAULT.VALID e) = true ∧ t.fld (DRF_FAULT.CODE e) = 2 ∧
        t.fld (DRF_FAULT.CTX e) = d.die * 2 ∧ (t.ctxOf e (d.die * 2)).live = false)) ∧
  (∀ (s : State) (e v eye : Nat) (d : Desc) (bytes codes : List Nat) (ready : Bool), s.turnOf e clsMaint d →
    (d.op = 5 → ∃ t, exec (.dieReset e) s = .next t ∧ (t.ctxOf e (d.die * 2)).live = true ∧ (t.ctxOf e (d.die * 2)).desc = d ∧
      t.act e d.die = .reading ∧ keepsRegs [BEL_ACCT.ACCOUNT, BEL_ACCT.PEAK] s t ∧ keepsMem s t) ∧
    (d.op = 6 → ∃ t, exec (.setfeat e) s = .next t ∧ (t.ctxOf e (d.die * 2)).live = true ∧ (t.ctxOf e (d.die * 2)).desc = d ∧
      t.act e d.die = .reading ∧ keepsRegs [BEL_ACCT.ACCOUNT, BEL_ACCT.PEAK] s t ∧ keepsMem s t) ∧
    (d.op = 7 → ∃ t, exec (.getfeat e v) s = .next t ∧ (t.ctxOf e (d.die * 2)).desc = d ∧ (t.ctxOf e (d.die * 2)).live = true ∧
      (t.ctxOf e (d.die * 2)).data = toBytes v 4 ∧ t.act e d.die = .reading ∧ keepsRegs [BEL_ACCT.ACCOUNT, BEL_ACCT.PEAK] s t ∧ keepsMem s t) ∧
    (d.op = 8 → ∃ t, exec (.readid e bytes) s = .next t ∧ (t.ctxOf e (d.die * 2)).desc = d ∧ (t.ctxOf e (d.die * 2)).live = true ∧
      (t.ctxOf e (d.die * 2)).data = bytes ∧ t.act e d.die = .reading ∧ keepsRegs [BEL_ACCT.ACCOUNT, BEL_ACCT.PEAK] s t ∧ keepsMem s t) ∧
    (d.op = 9 → s.trainFails e d ready = 0 →
      ∃ t, exec (.train e eye codes ready) s = .next t ∧ (t.ctxOf e (d.die * 2)).desc = d ∧ (t.ctxOf e (d.die * 2)).live = true ∧
        (t.ctxOf e (d.die * 2)).data = eye :: codes ∧ t.fld (FCH_CALRES.KIND (e / 8)) = d.arg0 % 16 ∧ t.act e d.die = .reading ∧
        keepsRegs [BEL_ACCT.ACCOUNT, BEL_ACCT.PEAK, FCH_CALRES.KIND (e / 8), FCH_CALRES.DIE (e / 8)] s t ∧ keepsMem s t) ∧
    (d.op = 9 → s.trainFails e d ready ≠ 0 → d.owner = 0 → d.work = .none → s.ringReady e →
      ∃ t, exec (.train e eye codes ready) s = .next t ∧ t.queue e clsMaint = [] ∧
        t.fld (FCH_CALRES.PRECOND (e / 8)) = (s.fld (FCH_CALRES.PRECOND (e / 8)) ||| s.trainFails e d ready) % 8 ∧
        t.on (FCH_CHEVT.CALFAIL (e / 8) (e % 8)) = true ∧
        s.records t e clsMaint d { status := csPrecond, detail := s.trainFails e d ready } ∧
        keepsRegs ([FCH_CALRES.KIND (e / 8), FCH_CALRES.DIE (e / 8), FCH_CALRES.PRECOND (e / 8), FCH_CHEVT.CALFAIL (e / 8) (e % 8)] ++
          recordFields e) s t)) ∧
  (∀ (s : State) (e c : Nat) (d : Desc), s.checks e c d .waits → d.op = 2 → exec (.prog e c) s = .next s) ∧
  (∀ (s : State) (e c : Nat) (d : Desc) (k : Chk) (r : Nat × Nat), s.checks e c d k → d.owner = 0 → d.work = .none → s.ringReady e →
    (s.ctxOf e (d.die * 2)).tailHeld = none →
    (k = .invalid ∧ r = (csAborted, 0xFFFF) ∨ k = .fenced ∧ r = (csFenced, 0) ∨ k = .dead ∧ r = (csTimeout, 0) ∨
      k = .busy ∧ r = (csBusy, s.busyUs e d.die)) → d.op = 1 ∨ k = .invalid ∧ (d.op = 0 ∨ 11 < d.op) →
    ∃ t, exec (.mediaRead e c) s = .next t ∧ t.queue e c = [] ∧ s.records t e c d { status := r.1, detail := r.2 } ∧
      keepsRegs (recordFields e) s t)

/-- R312, R314, R315, R305, R317, R318 and R320: what descriptors in progress do next, and the control of an engine. -/
def Obligations.DescriptorsRunToTheirEnd : Prop :=
  (∀ (s : State) (e d : Nat), s.engState e ≠ engHalted → s.act e d = .loaded → (s.ctxOf e (d * 2)).live = true →
    ((s.ctxOf e (d * 2)).heldCmd = none → s.hcMayStart (s.progMa e) = true → s.paused e (s.ctxOf e (d * 2)).desc = false →
      ∃ t, exec (.loadedConfirm e d) s = .next t ∧ t.act e d = .active ∧ (t.ctxOf e (d * 2)).ma = (s.ctxOf e (d * 2)).ma + s.progMa e ∧
        t.bell.lastHcStart = some s.now ∧ onlyRegs [BEL_ACCT.ACCOUNT, BEL_ACCT.PEAK] s t) ∧
    ((s.ctxOf e (d * 2)).heldCmd = none → s.hcMayStart (s.progMa e) = false ∨ s.paused e (s.ctxOf e (d * 2)).desc = true →
      exec (.loadedConfirm e d) s = .next s)) ∧
  (∀ (s : State) (e k st planes : Nat) (sus : Bool) (x : Desc), s.runsAlone e k x →
    (bit st 6 = true → x.op = 4 → s.act e x.die = .active →
      ∃ t, exec (.statusPoll e x.die st planes sus) s = .next t ∧ (t.ctxOf e k).live = false ∧ t.act e x.die = .free ∧
        t.unitRec (e * 16 + x.die) x.unit = { s.unitRec (e * 16 + x.die) x.unit with
          clean := failedPlanes st planes == 0, undef := failedPlanes st planes != 0,
          written := if failedPlanes st planes = 0 then some [] else none } ∧
        s.records t e (s.ctxOf e k).cls x
          (s.compOf e k (if failedPlanes st planes = 0 then csOk else csEraseFail) (failedPlanes st planes) (st % 256)) ∧
        keepsRegs (BEL_ACCT.ACCOUNT :: recordFields e) s t) ∧
    (bit st 6 = true → x.op = 2 → x.planes = 1 → bit st 0 = false → s.act e x.die = .active →
      ∃ t, exec (.statusPoll e x.die st planes sus) s = .next t ∧ (t.ctxOf e k).live = false ∧ t.act e x.die = .free ∧
        (∀ w, w < 4 → w < (s.ctxOf e k).data.length →
          Tab.get 0 t.drf.media (mediaKey (e * 16 + x.die) x.unit x.page w) = (s.ctxOf e k).data.getD w 0 + 1) ∧
        s.records t e (s.ctxOf e k).cls x (s.compOf e k csOk 1 (st % 256)) ∧ keepsRegs (BEL_ACCT.ACCOUNT :: recordFields e) s t) ∧
    (bit st 6 = true → x.op = 1 → x.raw = false → (s.ctxOf e k).polls = 1 → (s.ctxOf e k).ready = true → (s.ctxOf e k).phase = 0 →
      s.act e x.die = .reading →
      ∃ t, exec (.statusPoll e x.die st planes sus) s = .next t ∧ (t.ctxOf e k).wait = x.pageCws ∧ (t.ctxOf e k).polls = 0 ∧
        (t.ctxOf e k).live = true ∧ t.ecc.busy = s.ecc.busy + x.pageCws.length ∧ onlyRegs [] s t) ∧
    (bit st 6 = true → x.op = 6 → s.act e x.die = .reading →
      ∃ t, exec (.statusPoll e x.die st planes sus) s = .next t ∧ (t.ctxOf e k).live = false ∧ t.act e x.die = .free ∧
        Tab.get 0 (t.nand (e * 16 + x.die)).feats (x.arg0 % 256) = x.arg1 ∧
        s.records t e (s.ctxOf e k).cls x (s.compOf e k csOk 0 (st % 256)) ∧ keepsRegs (BEL_ACCT.ACCOUNT :: recordFields e) s t) ∧
    (bit st 6 = false → x.op = 4 → s.act e x.die = .active →
      ∃ t, exec (.statusPoll e x.die st planes sus) s = .next t ∧ t.ctxOf e k = { s.ctxOf e k with nstat := st % 256 } ∧
        t.act e x.die = .active ∧ onlyRegs [] s t) ∧
    (x.op = 4 → s.act e x.die = .active →
      ∃ t, exec (.dieWaitTimeout e x.die true) s = .next t ∧ (t.ctxOf e k).live = false ∧ t.act e x.die = .free ∧
        s.records t e (s.ctxOf e k).cls x (s.compOf e k csTimeout (s.ctxOf e k).pages (s.ctxOf e k).nstat))) ∧
  (∀ (s : State) (e d : Nat), 
    (s.engState e ≠ engHalted → s.maySuspend e d = true →
      ∃ t, exec (.tailSuspend e d) s = .next t ∧ t.act e d = .suspending ∧ (t.ctxOf e (d * 2)).susp = (s.ctxOf e (d * 2)).susp + 1 ∧
        (t.ctxOf e (d * 2)).suspAt = s.now ∧ t.fld (DRF_SUSPCNT.SUSPENDS e) = min (s.fld (DRF_SUSPCNT.SUSPENDS e) + 1) 0xFFFF ∧
        onlyRegs [DRF_SUSPCNT.SUSPENDS e] s t) ∧
    (s.maySuspend e d = false → exec (.tailSuspend e d) s = .next s) ∧
    (s.act e d = .suspending →
      ∃ t, exec (.suspendTimeout e d) s = .next t ∧ t.act e d = .active ∧ (t.ctxOf e (d * 2)).noSusp = true ∧ onlyRegs [] s t) ∧
    (s.act e d ≠ .suspending → exec (.suspendTimeout e d) s = .next s)) ∧
  (∀ (s : State) (m e : Nat), e < 128 → s.reaches m (drfPage e) →
    (s.engState e = engStopped →
      ∃ t, exec (.engineRun m e) s = .next t ∧ t.engState e = engRunning ∧ t.on (DRF_CTRL.RUN e) = true ∧
        keepsRegs ([DRF_CTRL.RUN e, DRF_STAT.STATE e] ++ loopFields ++ holdFields) s t ∧ keepsMem s t) ∧
    (s.engState e = engFenced ∨ s.engState e = engHalted →
      ∃ t, exec (.engineRun m e) s = .next t ∧ t.engState e = s.engState e ∧ t.on (DRF_STAT.ERR e) = true ∧
        keepsRegs ([DRF_CTRL.RUN e, DRF_STAT.ERR e] ++ loopFields ++ holdFields) s t ∧ keepsMem s t) ∧
    (s.engState e = engRunning → s.fld BEL_MODE_STAT.STATE = modeStable →
      ∃ t, exec (.engineStop m e) s = .next t ∧ t.engState e = engStopped ∧ t.on (DRF_CTRL.RUN e) = false ∧ t.drf.media = s.drf.media ∧
        keepsRegs ([DRF_CTRL.RUN e, DRF_STAT.STATE e] ++ holdFields) s t ∧ keepsMem s t) ∧
    (s.engState e ≠ engRunning →
      ∃ t, exec (.engineStop m e) s = .next t ∧ t.engState e = s.engState e ∧ t.on (DRF_CTRL.RUN e) = false ∧
        keepsRegs (DRF_CTRL.RUN e :: holdFields) s t ∧ keepsMem s t) ∧
    (∃ t, exec (.engineReset m e) s = .next t ∧ t.on (DRF_CTRL.RUN e) = false ∧ t.on (DRF_FAULT.VALID e) = false ∧
      (e ∉ s.saf.unitHold → s.engineIdle e = true → t.engState e = engStopped ∧ keepsMem s t) ∧
      (e ∈ s.saf.unitHold → s.engineIdle e = true → t.engState e = engFenced ∧ keepsMem s t))) ∧
  (∀ (s : State) (m e v : Nat), e < 128 → (∀ off ∈ [0x08, 0x0C, 0x10, 0x114], s.reaches m (drfPage e + off)) →
    (s.engState e = engStopped → s.queuesEmpty e = true →
      (∃ t, exec (.engineConfigWrite m e 0x08 v) s = .next t ∧ t.fld (DRF_QBASE.BASE e) = slice v 14 8 ∧ keepsRegs [DRF_QBASE.BASE e] s t ∧
        keepsMem s t) ∧
      (∃ t, exec (.engineConfigWrite m e 0x114 v) s = .next t ∧ t.fld (DRF_GEOM.PLANEBITS e) = slice v 4 2 ∧
        t.fld (DRF_GEOM.PAGEBITS e) = v % 16 ∧ keepsRegs [DRF_GEOM.PLANEBITS e, DRF_GEOM.PAGEBITS e] s t ∧ keepsMem s t) ∧
      ((∀ c, c < 4 → 2 ≤ slice v (4 * c) 4 ∧ slice v (4 * c) 4 ≤ 8) →
        ∃ t, exec (.engineConfigWrite m e 0x0C v) s = .next t ∧ (∀ c, c < 4 → t.qDepth e c = 2 ^ slice v (4 * c) 4) ∧
          keepsRegs [DRF_QCFG.TAIL e, DRF_QCFG.HOST e, DRF_QCFG.BACKGROUND e, DRF_QCFG.MAINT e] s t ∧ keepsMem s t) ∧
      (4 ≤ v % 16 → v % 16 ≤ 10 →
        ∃ t, exec (.engineConfigWrite m e 0x10 v) s = .next t ∧ t.fld (DRF_CQBASE.BASE e) = slice v 12 10 ∧
          t.fld (DRF_CQBASE.LOG2 e) = v % 16 ∧ t.fld (DRF_CQPTR.WIDX e) = 0 ∧ t.fld (DRF_CQPTR.HEAD e) = 0 ∧ (t.engine e).pass1 = true ∧
          keepsRegs [DRF_CQBASE.BASE e, DRF_CQBASE.LOG2 e, DRF_CQPTR.WIDX e, DRF_CQPTR.HEAD e] s t ∧ keepsMem s t)) ∧
    (s.engState e ≠ engStopped ∨ s.queuesEmpty e = false → ∀ off ∈ [0x08, 0x0C, 0x10, 0x114],
      ∃ t, exec (.engineConfigWrite m e off v) s = .next t ∧ t.on (DRF_STAT.ERR e) = true ∧ t.drf = s.drf ∧ keepsRegs [DRF_STAT.ERR e] s t ∧
        keepsMem s t))

/-- R329, R331, R332 and Tables 10.6 and 10.7 for the instructions that compute, access local memory or change the flow of a context. -/
def Obligations.MicroInstructionsCompute : Prop :=
  (∀ (s : State) (e k rd ra b v off : Nat) (h imm : Bool) (pc x y : Nat), rd < 8 → pc = ((s.ctxOf e k).pc + 1) % 2 ^ 13 →
    x = (s.ctxOf e k).reg ra → y = (if imm then b % 2 ^ 16 else (s.ctxOf e k).reg b) →
    (s.fetches e k (.ldi rd h v) → ∃ t, exec (.ldi e k rd h v) s = .next t ∧ s.goesOn t e k pc ∧
      s.setsReg t e k rd (if h then v % 2 ^ 16 * 2 ^ 16 + (s.ctxOf e k).reg rd % 2 ^ 16 else v % 2 ^ 16)) ∧
    (s.fetches e k (.alu 0 rd ra imm b) → ∃ t, exec (.add e k rd ra imm b) s = .next t ∧ s.goesOn t e k pc ∧
      s.setsReg t e k rd ((x + if imm then sext16 b else y) % 2 ^ 32)) ∧
    (s.fetches e k (.alu 1 rd ra imm b) → ∃ t, exec (.and e k rd ra imm b) s = .next t ∧ s.goesOn t e k pc ∧ s.setsReg t e k rd ((x &&& y) % 2 ^ 32)) ∧
    (s.fetches e k (.alu 2 rd ra imm b) → ∃ t, exec (.or e k rd ra imm b) s = .next t ∧ s.goesOn t e k pc ∧ s.setsReg t e k rd ((x ||| y) % 2 ^ 32)) ∧
    (s.fetches e k (.alu 3 rd ra imm b) → ∃ t, exec (.xor e k rd ra imm b) s = .next t ∧ s.goesOn t e k pc ∧ s.setsReg t e k rd ((x ^^^ y) % 2 ^ 32)) ∧
    (s.fetches e k (.alu 4 rd ra imm b) → ∃ t, exec (.shl e k rd ra imm b) s = .next t ∧ s.goesOn t e k pc ∧
      s.setsReg t e k rd (x * 2 ^ (y % 32) % 2 ^ 32)) ∧
    (s.fetches e k (.alu 5 rd ra imm b) → ∃ t, exec (.shr e k rd ra imm b) s = .next t ∧ s.goesOn t e k pc ∧
      s.setsReg t e k rd (x / 2 ^ (y % 32) % 2 ^ 32)) ∧
    (s.fetches e k (.ldd rd ra off) → badLocal ((s.ctxOf e k).localAddr ra off) = false →
      ∃ t, exec (.ldd e k rd ra off) s = .next t ∧ s.goesOn t e k pc ∧
        s.setsReg t e k rd (s.localWord e k ((s.ctxOf e k).localAddr ra off) % 2 ^ 32)) ∧
    (s.fetches e k (.std rd ra off) → badLocal ((s.ctxOf e k).localAddr ra off) = false → 0x100 ≤ (s.ctxOf e k).localAddr ra off →
      ∃ t, exec (.std e k rd ra off) s = .next t ∧ s.goesOn t e k pc ∧ (t.ctxOf e k).w = (s.ctxOf e k).w ∧
        Tab.get 0 (t.engine e).lmem ((s.ctxOf e k).localAddr ra off / 4) = (s.ctxOf e k).reg rd % 2 ^ 32 ∧
        ∀ j, j ≠ (s.ctxOf e k).localAddr ra off / 4 → Tab.get 0 (t.engine e).lmem j = Tab.get 0 (s.engine e).lmem j) ∧
    ((s.ctxOf e k).desc.work = .none → badLocal ((s.ctxOf e k).localAddr ra off) = true →
      (s.fetches e k (.ldd rd ra off) → ∃ t, exec (.ldd e k rd ra off) s = .next t ∧ s.faultsMicro t e k 4) ∧
      (s.fetches e k (.std rd ra off) → ∃ t, exec (.std e k rd ra off) s = .next t ∧ s.faultsMicro t e k 4)) ∧
    ((s.ctxOf e k).desc.work = .none → badLocal ((s.ctxOf e k).localAddr ra off) = false → (s.ctxOf e k).localAddr ra off < 0x100 →
      s.fetches e k (.std rd ra off) → ∃ t, exec (.std e k rd ra off) s = .next t ∧ s.faultsMicro t e k 5)) ∧
  (∀ (s : State) (e k cond ra target : Nat) (b : Bool), s.fetches e k (.br cond ra target) →
    (s.branchHolds e (s.ctxOf e k) cond ra = some b → (5 ≤ cond → cond ≤ 7 → (s.ctxOf e k).wait = []) →
      ∃ t, exec (.br e k cond ra target) s = .next t ∧
        s.goesOn t e k ((if b then target else (s.ctxOf e k).pc + 1) % 2 ^ 13) ∧ (t.ctxOf e k).w = (s.ctxOf e k).w ∧
        (5 ≤ cond → cond ≤ 7 → (t.ctxOf e k).uncorr = false ∧ (t.ctxOf e k).corr = false)) ∧
    (5 ≤ cond → cond ≤ 7 → (s.ctxOf e k).wait ≠ [] → exec (.br e k cond ra target) s = .next s) ∧
    (s.branchHolds e (s.ctxOf e k) cond ra = none → (s.ctxOf e k).desc.work = .none →
      ∃ t, exec (.br e k cond ra target) s = .next t ∧ s.faultsMicro t e k 1)) ∧
  (∀ (s : State) (e k target : Nat),
    (s.fetches e k (.call target) → (s.ctxOf e k).stack.length < 4 →
      ∃ t, exec (.call e k target) s = .next t ∧ s.goesOn t e k (target % 2 ^ 13) ∧ (t.ctxOf e k).w = (s.ctxOf e k).w ∧
        (t.ctxOf e k).stack = ((s.ctxOf e k).pc + 1) % 2 ^ 13 :: (s.ctxOf e k).stack) ∧
    (s.fetches e k (.call target) → 4 ≤ (s.ctxOf e k).stack.length → (s.ctxOf e k).desc.work = .none →
      ∃ t, exec (.call e k target) s = .next t ∧ s.faultsMicro t e k 3) ∧
    (∀ r l, s.fetches e k .ret → (s.ctxOf e k).stack = r :: l →
      ∃ t, exec (.ret e k) s = .next t ∧ s.goesOn t e k (r % 2 ^ 13) ∧ (t.ctxOf e k).w = (s.ctxOf e k).w ∧ (t.ctxOf e k).stack = l) ∧
    (s.fetches e k .ret → (s.ctxOf e k).stack = [] → (s.ctxOf e k).desc.work = .none →
      ∃ t, exec (.ret e k) s = .next t ∧ s.faultsMicro t e k 3))

/-- R326, R327, R333 to R339 and R343, R345: the bus instructions and the control of a context, and firmware's access to program store and local memory. -/
def Obligations.MicroInstructionsDriveTheBus : Prop :=
  (∀ (s : State) (e k n rb ra rd byte mask value st : Nat) (imm : Bool) (bytes : List Nat) (pc : Nat), s.ownDie e k → rd < 8 →
    pc = ((s.ctxOf e k).pc + 1) % 2 ^ 13 →
    (s.fetches e k (.cmd 0 imm rb byte) →
      ∃ t, exec (.cmd e k 0 imm rb byte) s = .next t ∧ s.goesOn t e k pc ∧ (t.ctxOf e k).w = (s.ctxOf e k).w) ∧
    (s.fetches e k (.cmd 1 imm rb byte) → s.readMayStart (s.readMa e) = true →
      ∃ t, exec (.cmd e k 1 imm rb byte) s = .next t ∧ (t.ctxOf e k).live = true ∧ (t.ctxOf e k).pc = pc ∧
        t.act e (s.ctxOf e k).desc.die = .reading ∧ (t.ctxOf e k).ma = (s.ctxOf e k).ma + s.readMa e ∧
        onlyRegs [BEL_ACCT.ACCOUNT, BEL_ACCT.PEAK] s t) ∧
    (s.fetches e k (.cmd 1 imm rb byte) → s.readMayStart (s.readMa e) = false →
      ∃ t, exec (.cmd e k 1 imm rb byte) s = .next t ∧ s.goesOn t e k (s.ctxOf e k).pc ∧ ∀ d, t.act e d = s.act e d) ∧
    (∀ q ma, q = 2 ∧ ma = s.progMa e ∨ q = 3 ∧ ma = s.eraseMa e → s.fetches e k (.cmd q imm rb byte) →
      s.hcMayStart ma = true → Tab.get 0 s.pow.pauses (e * 16 + (s.ctxOf e k).desc.die) = 0 →
      ∃ t, exec (.cmd e k q imm rb byte) s = .next t ∧ (t.ctxOf e k).live = true ∧ (t.ctxOf e k).pc = pc ∧
        t.act e (s.ctxOf e k).desc.die = .active ∧ (t.ctxOf e k).ma = (s.ctxOf e k).ma + ma ∧ (t.ctxOf e k).sched = q ∧
        onlyRegs [BEL_ACCT.ACCOUNT, BEL_ACCT.PEAK] s t) ∧
    (∀ q ma, q = 2 ∧ ma = s.progMa e ∨ q = 3 ∧ ma = s.eraseMa e → s.fetches e k (.cmd q imm rb byte) →
      s.hcMayStart ma = false →
      ∃ t, exec (.cmd e k q imm rb byte) s = .next t ∧ s.goesOn t e k (s.ctxOf e k).pc ∧ t.act e (s.ctxOf e k).desc.die = .loaded ∧
        (t.ctxOf e k).heldCmd.isSome = true) ∧
    (s.fetches e k (.addr rb ra n) → 1 ≤ n → n ≤ 5 →
      ∃ t, exec (.addr e k rb ra n) s = .next t ∧ s.goesOn t e k pc ∧ (t.ctxOf e k).w = (s.ctxOf e k).w) ∧
    (s.fetches e k (.addr rb ra n) → n = 0 ∨ 5 < n → (s.ctxOf e k).desc.work = .none →
      ∃ t, exec (.addr e k rb ra n) s = .next t ∧ s.faultsMicro t e k 0xB) ∧
    (s.fetches e k (.dout rb ra 0 n) → 1 ≤ n → n ≤ 4 →
      ∃ t, exec (.dout e k rb ra 0 n) s = .next t ∧ s.goesOn t e k pc ∧ (t.ctxOf e k).data = toBytes ((s.ctxOf e k).reg ra) n) ∧
    (s.fetches e k (.dout rb ra 2 n) → inBuffer ((s.ctxOf e k).reg rb) ((s.ctxOf e k).reg ra) = true →
      ∃ t, exec (.dout e k rb ra 2 n) s = .next t ∧ s.goesOn t e k pc ∧
        (t.ctxOf e k).data = (List.range ((s.ctxOf e k).reg ra)).map fun i => s.bufByte e ((s.ctxOf e k).reg rb + i)) ∧
    (s.fetches e k (.din rd ra 0 n) → 1 ≤ n → n ≤ 4 →
      ∃ t, exec (.din e k rd ra 0 n bytes) s = .next t ∧ s.goesOn t e k pc ∧ s.setsReg t e k rd (ofBytes (bytes.take n) % 2 ^ 32)) ∧
    (s.fetches e k (.waitst rd ra mask value) → s.act e (s.ctxOf e k).target = .free →
      ∃ t, exec (.waitst e k rd ra mask value st) s = .next t ∧
        s.goesOn t e k (if st % 256 &&& mask = value then pc else (s.ctxOf e k).pc) ∧ s.setsReg t e k rd (st % 256) ∧
        (t.ctxOf e k).nstat = st % 256) ∧
    (s.fetches e k (.waitst rd ra mask value) → s.act e (s.ctxOf e k).target = .active → bit st 6 = true →
      ∃ t, exec (.waitst e k rd ra mask value st) s = .next t ∧ (t.ctxOf e k).live = true ∧ s.setsReg t e k rd (st % 256) ∧
        (t.ctxOf e k).pc = (if st % 256 &&& mask = value then pc else (s.ctxOf e k).pc) ∧ (t.ctxOf e k).ma = 0 ∧
        t.act e (s.ctxOf e k).target ≠ .active)) ∧
  (∀ (s : State) (e k rb die count : Nat) (imm nv m : Bool) (pc d : Nat), pc = ((s.ctxOf e k).pc + 1) % 2 ^ 13 →
    d = (if imm then die % 16 else (s.ctxOf e k).reg rb % 16) →
    (s.fetches e k (.wait false count) → ∃ t, exec (.wait e k false count) s = .next t ∧ s.goesOn t e k pc ∧ (t.ctxOf e k).till = (s.ctxOf e k).till) ∧
    (s.fetches e k (.wait true count) →
      ∃ t, exec (.wait e k true count) s = .next t ∧ s.goesOn t e k pc ∧ (t.ctxOf e k).till = s.now + count * 25) ∧
    (s.fetches e k (.sett imm rb nv die) → (s.ctxOf e k).claimed = false → d = (s.ctxOf e k).desc.die ∨ (s.ctxOf e k).cls = clsMaint →
      ∃ t, exec (.sett e k imm rb nv die) s = .next t ∧ s.goesOn t e k pc ∧ (t.ctxOf e k).target = d ∧ (t.ctxOf e k).nv = nv) ∧
    (s.fetches e k (.sett imm rb nv die) → d ≠ (s.ctxOf e k).desc.die → (s.ctxOf e k).cls ≠ clsMaint → (s.ctxOf e k).desc.work = .none →
      ∃ t, exec (.sett e k imm rb nv die) s = .next t ∧ s.faultsMicro t e k 7) ∧
    (s.fetches e k (.fchk m) → s.fenced e (s.ctxOf e k).target = false → s.staleEpoch e (s.ctxOf e k).desc = false →
      ∃ t, exec (.fchk e k m) s = .next t ∧ s.goesOn t e k pc ∧ (t.ctxOf e k).fenceF = (s.ctxOf e k).fenceF) ∧
    (s.fetches e k (.fchk true) → s.fenced e (s.ctxOf e k).target = true →
      ∃ t, exec (.fchk e k true) s = .next t ∧ s.goesOn t e k pc ∧ (t.ctxOf e k).fenceF = true) ∧
    (s.fetches e k .yield → ∃ t, exec (.yield e k) s = .next t ∧ s.goesOn t e k pc ∧ (t.ctxOf e k).ran = 0 ∧ (t.ctxOf e k).bus = false ∧
      (t.ctxOf e k).after = s.othersReady e k)) ∧
  (∀ (s : State) (e k rd st code detail : Nat) (x : Desc), s.runsAlone e k x → code = (if st = 0 ∧ (s.ctxOf e k).anyCorr = true then csCorrected else st) →
    detail = (if st = 8 then 0xFFFE else (s.ctxOf e k).reg rd % 2 ^ 16) →
    (s.fetches e k (.fchk false) → s.fenced e (s.ctxOf e k).target = true →
      ∃ t, exec (.fchk e k false) s = .next t ∧ (t.ctxOf e k).live = false ∧
        s.records t e (s.ctxOf e k).cls x (s.compOf e k csFenced (s.ctxOf e k).pages (s.ctxOf e k).nstat)) ∧
    (s.fetches e k (.done rd st) → doneStatuses.contains st = true → s.act e x.die = .free →
      ∃ t, exec (.done e k rd st) s = .next t ∧ (t.ctxOf e k).live = false ∧
        s.records t e (s.ctxOf e k).cls x (s.compOf e k code detail (s.ctxOf e k).nstat)) ∧
    (s.fetches e k (.done rd st) → doneStatuses.contains st = true → s.act e x.die = .active →
      ∃ t, exec (.done e k rd st) s = .next t ∧ (t.ctxOf e k).live = true ∧ (t.ctxOf e k).fin = some (code, detail)) ∧
    (s.fetches e k (.done rd st) → doneStatuses.contains st = false →
      ∃ t, exec (.done e k rd st) s = .next t ∧ s.faultsMicro t e k 0xA) ∧
    (10 ≤ x.op →
      ∃ t, exec (.runTimeLimitExpire e k true) s = .next t ∧ (t.ctxOf e k).live = false ∧
        s.records t e (s.ctxOf e k).cls x (s.compOf e k csTimeout (s.ctxOf e k).pages (s.ctxOf e k).nstat))) ∧
  (∀ (s : State) (m e v i : Nat), e < 128 → s.reaches m (drfPage e + 0x104) → s.reaches m (drfPage e + 0x10C) →
    (i = s.fld (DRF_PSADDR.INDEX e) → s.engState e = engStopped ∨ s.engState e = engHalted →
      ∃ t, exec (.programStoreWrite m e v) s = .next t ∧ Tab.get 0 (t.engine e).pstore i = v % 2 ^ 32 ∧
        (∀ j, j ≠ i → Tab.get 0 (t.engine e).pstore j = Tab.get 0 (s.engine e).pstore j) ∧
        t.fld (DRF_PSADDR.INDEX e) = (i + 1) % 2 ^ 10 ∧ keepsRegs [DRF_PSADDR.INDEX e] s t ∧ keepsMem s t) ∧
    (s.engState e ≠ engStopped → s.engState e ≠ engHalted →
      ∃ t, exec (.programStoreWrite m e v) s = .next t ∧ t.on (DRF_STAT.ERR e) = true ∧ t.drf = s.drf ∧ keepsRegs [DRF_STAT.ERR e] s t ∧
        keepsMem s t) ∧
    (i = s.fld (DRF_PSADDR.INDEX e) →
      ∃ t, exec (.programStoreRead m e) s = .next t ∧ Tab.get 0 t.bus.rdata m = Tab.get 0 (s.engine e).pstore i ∧ t.drf = s.drf ∧
        t.fld (DRF_PSADDR.INDEX e) = (i + 1) % 2 ^ 10 ∧ keepsRegs [DRF_PSADDR.INDEX e] s t ∧ keepsMem s t) ∧
    (i = s.fld (DRF_LMADDR.ADDR e) →
      (∃ t, exec (.localMemoryWindowAccess m e (some v)) s = .next t ∧ t.fld (DRF_LMADDR.ADDR e) = (i + 1) % 2 ^ 13 ∧
        (0x40 ≤ i → Tab.get 0 (t.engine e).lmem i = v % 2 ^ 32) ∧ (i < 0x40 → t.drf = s.drf) ∧ keepsRegs [DRF_LMADDR.ADDR e] s t ∧
        keepsMem s t) ∧
      (∃ t, exec (.localMemoryWindowAccess m e none) s = .next t ∧ t.fld (DRF_LMADDR.ADDR e) = (i + 1) % 2 ^ 13 ∧
        (0x40 ≤ i → Tab.get 0 t.bus.rdata m = Tab.get 0 (s.engine e).lmem i) ∧ t.drf = s.drf ∧ keepsRegs [DRF_LMADDR.ADDR e] s t ∧
        keepsMem s t)))

/-- R332, R352 to R356 (CODEWORD_DECODE_END), R608 (a decode whose output check fails), R360 (CAND_POP), R361 (DCLR), R350 (ECC_PROFILE_WRITE). -/
def Obligations.DecodesEndAndCandidatesLeave : Prop :=
  (∀ (s : State) (e k cw : Nat) (o : Decode), s.decoderOf e k cw = none →
    exec (.codewordDecodeEnd e k cw o) s = .next s) ∧
  (∀ (s : State) (e k cw bits d : Nat) (j : DecJob) (g : Bool) (x : Desc), s.runsAlone e k x → x.op = 1 → x.raw = false →
    s.decoderOf e k cw = some (d, j) → s.readsErased e k cw = false → (s.ctxOf e k).phase = 0 → (s.ctxOf e k).fails = [] → (s.ctxOf e k).cwfail = 0 →
    ((s.ctxOf e k).wait = [cw] → x.npages = (s.ctxOf e k).pages → s.act e x.die = .reading →
      ∃ t, exec (.codewordDecodeEnd e k cw (.corrected bits g)) s = .next t ∧ (t.ctxOf e k).live = false ∧ t.act e x.die = .free ∧
        t.ecc.busy = s.ecc.busy - 1 ∧
        s.records t e (s.ctxOf e k).cls x
          { s.compOf e k (if (s.ctxOf e k).anyCorr || decide (s.reportThr < bits) then csCorrected else csOk) ((s.ctxOf e k).pages + 1)
              (s.ctxOf e k).nstat with maxbits := max (s.ctxOf e k).maxbits (min bits 255) } ∧
        (s.fld ECC_THR.RELOC ≤ bits → s.ecc.cands.length < 1024 → t.ecc.cands.length = s.ecc.cands.length + 1 ∧ t.on (EVT_SRC.PEND 128) = true) ∧
        (bits < s.fld ECC_THR.RELOC → t.ecc.cands = s.ecc.cands) ∧
        keepsRegs ([BEL_ACCT.ACCOUNT, ECC_STAT.CANDLOST] ++ recordFields e) s t) ∧
    (∀ y l, (s.ctxOf e k).wait = cw :: y :: l → cw ∉ y :: l →
      ∃ t, exec (.codewordDecodeEnd e k cw (.corrected bits g)) s = .next t ∧ (t.ctxOf e k).live = true ∧ (t.ctxOf e k).wait = y :: l ∧
        t.ecc.busy = s.ecc.busy - 1 ∧ keepsRegs [] s t ∧ keepsMem s t) ∧
    ((s.ctxOf e k).wait = [cw] → bit (s.features e) 4 = false → s.act e x.die = .reading →
      ∃ t, exec (.codewordDecodeEnd e k cw .uncorrectable) s = .next t ∧ (t.ctxOf e k).live = false ∧ t.on (EVT_SRC.PEND 131) = true ∧
        s.records t e (s.ctxOf e k).cls x { s.compOf e k csUncorr (s.ctxOf e k).pages (s.ctxOf e k).nstat with cwfail := 2 ^ (cw % 4) }) ∧
    ((s.ctxOf e k).wait = [cw] → bit (s.features e) 4 = true → 0 < x.retrymax →
      ∃ t, exec (.codewordDecodeEnd e k cw .uncorrectable) s = .next t ∧ (t.ctxOf e k).live = true ∧ (t.ctxOf e k).phase = 1 ∧
        (t.ctxOf e k).retry = (s.ctxOf e k).retry + 1 ∧ (t.ctxOf e k).polls = 1 ∧ (t.ctxOf e k).fails = [cw] ∧ keepsRegs [] s t ∧
        keepsMem s t)) ∧
  (∀ (s : State) (e k cw d : Nat) (j : DecJob), s.decoderOf e k cw = some (d, j) → j.again = false → s.ecc.modePend = false →
    ∃ t, exec (.codewordDecodeEnd e k cw .checkFailed) s = .next t ∧ s.noted t 0x0B d 1 ∧ (∀ i, t.ctxOf e i = s.ctxOf e i) ∧
      ({ j with again := true, avoid := d + 1 } ∈ t.ecc.queue ∨
        ∃ d', d' ≠ d ∧ Tab.get none t.ecc.jobs d' = some { j with again := true, avoid := d + 1 }) ∧ keepsRegs noteFields s t ∧ keepsMem s t) ∧
  (∀ (s : State) (e k cw bits d : Nat) (j : DecJob) (g : Bool), (s.ctxOf e k).live = true → 10 ≤ (s.ctxOf e k).desc.op →
    s.decoderOf e k cw = some (d, j) → s.ecc.modePend = false →
    (∃ t, exec (.codewordDecodeEnd e k cw (.corrected bits g)) s = .next t ∧ (t.ctxOf e k).live = true ∧
      (t.ctxOf e k).wait = dropFrom cw (s.ctxOf e k).wait ∧ (t.ctxOf e k).corr = ((s.ctxOf e k).corr || decide (s.reportThr < bits)) ∧
      (t.ctxOf e k).maxbits = max (s.ctxOf e k).maxbits (min bits 255) ∧ onlyRegs [] s t) ∧
    (∃ t, exec (.codewordDecodeEnd e k cw .uncorrectable) s = .next t ∧ (t.ctxOf e k).live = true ∧
      (t.ctxOf e k).wait = dropFrom cw (s.ctxOf e k).wait ∧ (t.ctxOf e k).uncorr = true ∧ onlyRegs [] s t)) ∧
  (∀ (s : State) (m : Nat), s.reaches m ECC_CAND.ENTRY.addr → s.reaches m ECC_CTRL.DCLR.addr →
    (∃ t, exec (.candPop m) s = .next t ∧ Tab.get 0 t.bus.rdata m = s.ecc.cands.headD 0 % 2 ^ 32 ∧
      Tab.get 0 t.bus.shadow (ECC_CAND.ENTRY.addr * 16 + m) = s.ecc.cands.headD 0 / 2 ^ 32 % 2 ^ 32 ∧ t.ecc.cands = s.ecc.cands.tail ∧
      keepsRegs [] s t ∧ keepsMem s t) ∧
    (∃ t, exec (.dclr m) s = .next t ∧ (∀ die, Tab.get {} t.ecc.cnt die = {}) ∧ t.ecc.cands = s.ecc.cands ∧ keepsRegs [] s t ∧ keepsMem s t)) ∧
  (∀ (s : State) (m n v : Nat), n < 16 → s.reaches m (ECC_PROF.SOFT n).addr →
    (n < 15 → profileOk v = true → (∀ e, e < 128 → s.engState e = engStopped) →
      ∃ t, exec (.eccProfileWrite m n v) s = .next t ∧ t.fld (ECC_PROF.SOFT n) = slice v 31 1 ∧ t.fld (ECC_PROF.CODE n) = slice v 29 2 ∧
        t.fld (ECC_PROF.SOFTB n) = slice v 20 4 ∧ t.fld (ECC_PROF.SOFTA n) = slice v 16 4 ∧ t.fld (ECC_PROF.LRATE n) = slice v 13 3 ∧
        t.fld (ECC_PROF.BCHT n) = v % 256 ∧
        keepsRegs [ECC_PROF.SOFT n, ECC_PROF.CODE n, ECC_PROF.SOFTB n, ECC_PROF.SOFTA n, ECC_PROF.LRATE n, ECC_PROF.BCHT n] s t ∧ keepsMem s t) ∧
    (n < 15 → profileOk v = false ∨ (∃ e, e < 128 ∧ s.engState e ≠ engStopped) →
      ∃ t, exec (.eccProfileWrite m n v) s = .next t ∧ t.on ECC_STAT.ERR = true ∧ t.on (EVT_SRC.PEND 135) = true ∧
        keepsRegs [ECC_STAT.ERR] s t ∧ keepsMem s t) ∧
    (n = 15 → ∃ t, exec (.eccProfileWrite m n v) s = .next t ∧ keepsRegs [] s t ∧ keepsMem s t))

/-- R383, R386 to R389 and Table 12.2: which membership state a die leaves and enters, with the epoch, the fence and the event of each change; a command
that Table 12.2 does not give sets ERR. -/
def Obligations.DieMembershipFollowsItsTable : Prop :=
  (∀ (s : State) (m d : Nat), d < 2048 → s.reaches m MSH_DCMD.OP.addr →
    ((s.mem d).state = .member ∨ (s.mem d).state = .rebuilding → s.on MSH_CTRL.AUTOSPARE = false → s.dieQuiet d →
      ∃ t, exec (.fail m d) s = .next t ∧ t.mem d = { state := .failed, minEpoch := some ((s.fld MSH_STAT.EPOCH + 1) % 2 ^ 16) } ∧
        (t.position (s.mem d).sset (s.mem d).pos).vacant = true ∧ s.epochMoves t ∧ t.fenced (d / 16) (d % 16) = true ∧
        t.on (DRF_DEPOCH.EN (d / 16) (d % 16)) = true ∧ t.fld (DRF_DEPOCH.MINEPOCH (d / 16) (d % 16)) = (s.fld MSH_STAT.EPOCH + 1) % 2 ^ 16 ∧
        t.on (EVT_SRC.PEND 160) = true ∧
        keepsRegs ([MSH_STAT.EPOCH, DRF_DEPOCH.EN (d / 16) (d % 16), DRF_DEPOCH.MINEPOCH (d / 16) (d % 16), fenceFld (d / 16)] ++ holdFields)
          s t ∧ keepsMem s t) ∧
    ((s.mem d).state = .spare → s.dieQuiet d →
      (∃ t, exec (.fail m d) s = .next t ∧ t.mem d = { s.mem d with state := .retired } ∧ s.epochMoves t ∧ t.fenced (d / 16) (d % 16) = true ∧
        keepsRegs ([MSH_STAT.EPOCH, fenceFld (d / 16)] ++ holdFields) s t ∧ keepsMem s t) ∧
      (∃ t, exec (.retire m d) s = .next t ∧ t.mem d = { s.mem d with state := .retired } ∧ s.epochMoves t ∧ t.fenced (d / 16) (d % 16) = true ∧
        keepsRegs ([MSH_STAT.EPOCH, fenceFld (d / 16)] ++ holdFields) s t ∧ keepsMem s t)) ∧
    ((s.mem d).state = .failed ∨ (s.mem d).state = .returning →
      ∃ t, exec (.retire m d) s = .next t ∧ t.mem d = { s.mem d with state := .retired } ∧ s.epochMoves t ∧
        keepsRegs (MSH_STAT.EPOCH :: holdFields) s t ∧ keepsMem s t) ∧
    ((s.mem d).state = .returning →
      ∃ t, exec (.readmit m d) s = .next t ∧ (t.mem d).state = .testing ∧ s.epochMoves t ∧ t.fenced (d / 16) (d % 16) = false ∧
        t.on (DRF_DEPOCH.EN (d / 16) (d % 16)) = true ∧ t.fld (DRF_DEPOCH.MINEPOCH (d / 16) (d % 16)) = (s.fld MSH_STAT.EPOCH + 1) % 2 ^ 16 ∧
        keepsRegs ([MSH_STAT.EPOCH, DRF_DEPOCH.EN (d / 16) (d % 16), DRF_DEPOCH.MINEPOCH (d / 16) (d % 16), fenceFld (d / 16)] ++ holdFields)
          s t ∧ keepsMem s t) ∧
    ((s.mem d).state ∈ [.unused, .failed, .returning, .testing, .retired] →
      ∃ t, exec (.fail m d) s = .next t ∧ s.mashIgnores t ∧ keepsRegs (MSH_STAT.ERR :: holdFields) s t ∧ keepsMem s t) ∧
    ((s.mem d).state ∈ [.unused, .member, .rebuilding, .testing, .retired] →
      ∃ t, exec (.retire m d) s = .next t ∧ s.mashIgnores t ∧ keepsRegs (MSH_STAT.ERR :: holdFields) s t ∧ keepsMem s t) ∧
    ((s.mem d).state ≠ .returning →
      ∃ t, exec (.readmit m d) s = .next t ∧ s.mashIgnores t ∧ keepsRegs (MSH_STAT.ERR :: holdFields) s t ∧ keepsMem s t) ∧
    (∀ k p, k = s.fld MSH_DARG.SSET → p = s.fld MSH_DARG.POS →
      (s.on (MSH_SSET.VALID k) = true → p < s.setPositions k → (s.position k p).present = true → (s.position k p).vacant = true →
        (s.mem d).state = .spare → s.channelUsed k p (chanOf d) = false →
        ∃ t, exec (.assign m d) s = .next t ∧ (t.mem d).sset = k ∧ (t.mem d).pos = p ∧
          (t.mem d).state = (if s.dataRows k = [] then .member else .rebuilding) ∧ (s.dataRows k = [] → t.on (EVT_SRC.PEND 163) = true) ∧
          (t.position k p).die = d ∧ (t.position k p).vacant = false ∧ t.on (EVT_SRC.PEND 161) = true ∧
          t.on (DRF_DEPOCH.EN (d / 16) (d % 16)) = true ∧ keepsMem s t) ∧
      (s.on (MSH_SSET.VALID k) = false ∨ s.setPositions k ≤ p ∨ (s.position k p).vacant = false ∨ (s.mem d).state ≠ .spare ∨
        s.channelUsed k p (chanOf d) = true →
        ∃ t, exec (.assign m d) s = .next t ∧ s.mashIgnores t ∧ keepsRegs (MSH_STAT.ERR :: holdFields) s t ∧ keepsMem s t)) ∧
    (∃ t, exec (.dieStateRead m d) s = .next t ∧ t.fld MSH_DSTATE.STATE = (s.mem d).state.code ∧ t.msh = s.msh ∧
      ((s.mem d).state = .member ∨ (s.mem d).state = .rebuilding →
        t.fld MSH_DSTATE.SSET = (s.mem d).sset % 2 ^ 12 ∧ t.fld MSH_DSTATE.POS = (s.mem d).pos % 2 ^ 7) ∧
      keepsRegs ([MSH_DSTATE.STATE, MSH_DSTATE.SSET, MSH_DSTATE.POS] ++ holdFields) s t ∧ keepsMem s t)) ∧
  (∀ (s : State) (l : List Nat),
    (s.on MSH_CTRL.EN = false ∨ s.hld.committed = true → exec (.dieProbe l) s = .next s) ∧
    (s.on MSH_CTRL.EN = true → s.hld.committed = false →
      ∃ t, exec (.dieProbe l) s = .next t ∧
        (∀ d, (s.mem d).state = .failed → d ∈ l → (t.mem d).state = .returning ∧ t.on (EVT_SRC.PEND 166) = true) ∧
        (∀ d, (s.mem d).state = .failed → d ∉ l → (t.mem d).state = .failed) ∧ t.msh.pos = s.msh.pos ∧ keepsMem s t)) ∧
  (∀ (s : State) (d n : Nat), d < 2048 →
    ((s.mem d).state ≠ .testing ∨ s.hld.committed = true → exec (.dieSelfTestEnd d true n []) s = .next s) ∧
    ((s.mem d).state = .testing → s.hld.committed = false → s.on MSH_CTRL.AUTOSPARE = false →
      ∃ t, exec (.dieSelfTestEnd d true n []) s = .next t ∧ (t.mem d).state = .spare ∧ s.epochMoves t ∧ t.on (EVT_SRC.PEND 167) = true ∧
        keepsRegs [MSH_STAT.EPOCH] s t ∧ keepsMem s t) ∧
    ((s.mem d).state = .testing → s.hld.committed = false → s.dieQuiet d →
      ∃ t, exec (.dieSelfTestEnd d false n []) s = .next t ∧ (t.mem d).state = .retired ∧ s.epochMoves t ∧ t.fenced (d / 16) (d % 16) = true ∧
        t.on (EVT_SRC.PEND 168) = true ∧ keepsRegs [MSH_STAT.EPOCH, fenceFld (d / 16)] s t ∧ keepsMem s t))

/-- R373, R376, R391 to R393, R397 to R402: stripe sets, positions and recipes as firmware declares them, a row of a rebuild, a reshape, the patrol. -/
def Obligations.StripeSetsAreDeclaredRebuiltAndRead : Prop :=
  (∀ (s : State) (m k v : Nat), k < 4096 → s.reaches m (MSH_SSET.VALID k).addr →
    (s.on (MSH_SSET.VALID k) = false → bit v 31 = false →
      ∃ t, exec (.mshSsetWrite m k v) s = .next t ∧ t.fld (MSH_SSET.RECIPE k) = slice v 24 4 ∧ t.msh = s.msh ∧
        keepsRegs [MSH_SSET.RECIPE k] s t ∧ keepsMem s t) ∧
    (s.on (MSH_SSET.VALID k) = false → bit v 31 = true → s.mayValidate k (slice v 24 4) = true →
      ∃ t, exec (.mshSsetWrite m k v) s = .next t ∧ t.on (MSH_SSET.VALID k) = true ∧ t.fld (MSH_SSET.RECIPE k) = slice v 24 4 ∧ s.epochMoves t ∧
        (∀ p d, (s.posDies k (slice v 24 4))[p]? = some d → (t.mem d).state = .member ∧ (t.mem d).sset = k ∧ (t.mem d).pos = p) ∧
        keepsRegs [MSH_SSET.VALID k, MSH_SSET.RECIPE k, MSH_STAT.EPOCH] s t ∧ keepsMem s t) ∧
    (s.on (MSH_SSET.VALID k) = false → bit v 31 = true → s.mayValidate k (slice v 24 4) = false →
      ∃ t, exec (.mshSsetWrite m k v) s = .next t ∧ s.mashIgnores t ∧ keepsRegs [MSH_STAT.ERR] s t ∧ keepsMem s t) ∧
    (s.on (MSH_SSET.VALID k) = true → bit v 31 = false → s.on (ZPM_SSET.VALID k) = true →
      ∃ t, exec (.mshSsetWrite m k v) s = .next t ∧ s.mashIgnores t ∧ keepsRegs [MSH_STAT.ERR] s t ∧ keepsMem s t) ∧
    (s.on (MSH_SSET.VALID k) = true → bit v 31 = false → s.on (ZPM_SSET.VALID k) = false →
      ∃ t, exec (.mshSsetWrite m k v) s = .next t ∧ t.on (MSH_SSET.VALID k) = false ∧ s.epochMoves t ∧
        (∀ d, (s.mem d).state = .member ∨ (s.mem d).state = .rebuilding → (s.mem d).sset = k → (t.mem d).state = .unused) ∧
        keepsRegs [MSH_SSET.VALID k, MSH_STAT.EPOCH] s t ∧ keepsMem s t) ∧
    (s.on (MSH_SSET.VALID k) = true → bit v 31 = true →
      ∃ t, exec (.mshSsetWrite m k v) s = .next t ∧ t.msh = s.msh ∧ keepsRegs [] s t ∧ keepsMem s t)) ∧
  (∀ (s : State) (m v k p : Nat), s.reaches m MSH_PDATA.DIE.addr → k = s.fld MSH_PSEL.SSET → p = s.fld MSH_PSEL.POS →
    (s.on (MSH_SSET.VALID k) = false → p < 66 →
      ∃ t, exec (.positionWrite m v) s = .next t ∧ t.position k p = { present := bit v 31, die := v % 2048 } ∧ t.msh.dies = s.msh.dies ∧
        keepsRegs [] s t ∧ keepsMem s t) ∧
    (s.on (MSH_SSET.VALID k) = true ∨ 66 ≤ p →
      ∃ t, exec (.positionWrite m v) s = .next t ∧ s.mashIgnores t ∧ keepsRegs [MSH_STAT.ERR] s t ∧ keepsMem s t)) ∧
  (∀ (s : State) (m v r w : Nat), s.reaches m MSH_RCPDATA.WORD.addr → r = s.fld MSH_RCPSEL.RECIPE → w = s.fld MSH_RCPSEL.WORD →
    (w ≤ 64 → (∀ k, k < 4096 → s.on (MSH_SSET.VALID k) = true → s.fld (MSH_SSET.RECIPE k) ≠ r) →
      ∃ t, exec (.mashRecipeWrite m v) s = .next t ∧
        t.mshWord r w = (if w = 0 then slice v 16 7 * 2 ^ 16 + slice v 8 2 * 2 ^ 8 else v % 256) ∧ keepsRegs [] s t ∧ keepsMem s t) ∧
    (64 < w ∨ (∃ k, k < 4096 ∧ s.on (MSH_SSET.VALID k) = true ∧ s.fld (MSH_SSET.RECIPE k) = r) →
      ∃ t, exec (.mashRecipeWrite m v) s = .next t ∧ s.mashIgnores t ∧ keepsRegs [MSH_STAT.ERR] s t ∧ keepsMem s t)) ∧
  (∀ (s : State) (k p row i d : Nat), d = (s.position k p).die →
    (s.mayRebuild = false → exec (.rebuildRowTake k p row []) s = .next s) ∧
    (s.mayRebuild = true → (s.mem d).state = .rebuilding → (s.position k p).second = false → (s.position k p).joined = 0 →
      (s.position k p).rbrow ≤ row → s.dataRows k = [row] → s.rowOwner k row = some i →
      ∃ t, exec (.rebuildRowTake k p row []) s = .next t ∧ (t.mem d).state = .member ∧ s.epochMoves t ∧ t.on (EVT_SRC.PEND 163) = true ∧
        t.msh.floorLeft = s.msh.floorLeft - s.unitChunks k * 16384 ∧ keepsRegs [MSH_STAT.EPOCH] s t ∧ keepsMem s t) ∧
    (∀ r2, s.mayRebuild = true → (s.mem d).state = .rebuilding → (s.position k p).second = false → (s.position k p).joined = 0 →
      (s.position k p).rbrow ≤ row → row < r2 → s.dataRows k = [row, r2] → s.rowOwner k row = some i →
      ∃ t, exec (.rebuildRowTake k p row []) s = .next t ∧ (t.mem d).state = .rebuilding ∧ (t.position k p).rbrow = row + 1 ∧
        t.msh.floorLeft = s.msh.floorLeft - s.unitChunks k * 16384 ∧ keepsRegs [] s t ∧ keepsMem s t)) ∧
  (∀ (s : State) (m v : Nat), s.reaches m MSH_RSHP.GO.addr →
    (bit v 31 = false →
      ∃ t, exec (.reshapeStart m v) s = .next t ∧ t.fld MSH_RSHP.SRC = slice v 0 6 ∧ t.fld MSH_RSHP.DST = slice v 8 6 ∧ t.msh = s.msh ∧
        keepsRegs [MSH_RSHP.SRC, MSH_RSHP.DST] s t ∧ keepsMem s t) ∧
    (bit v 31 = true → s.reshapeOk (slice v 0 6) (slice v 8 6) = false →
      ∃ t, exec (.reshapeStart m v) s = .next t ∧ t.on MSH_RSHP.ERR = true ∧ t.msh = s.msh ∧
        keepsRegs [MSH_RSHP.SRC, MSH_RSHP.DST, MSH_RSHP.ERR] s t ∧ keepsMem s t) ∧
    (bit v 31 = true → s.reshapeOk (slice v 0 6) (slice v 8 6) = true →
      ∃ t, exec (.reshapeStart m v) s = .next t ∧ t.on (EVT_SRC.PEND 173) = true ∧
        (∀ n ∈ s.nsOfGroup (slice v 0 6), (t.ns n).pgrp = slice v 8 6) ∧ keepsRegs ([MSH_RSHP.SRC, MSH_RSHP.DST] ++ mediaFields) s t ∧ keepsMem s t)) ∧
  (∀ (s : State) (i : Nat), ((∀ m ∈ s.med.migr, m.index = i → m.reshape = false) → exec (.reshapeCopySwitch i) s = .next s) ∧
    ∀ x, s.med.migr = [x] → x.index = i → x.reshape = true →
      (x.ready = false ∨ s.hld.committed = true → exec (.reshapeCopySwitch i) s = .next s) ∧
      (x.ready = true → s.hld.committed = false → s.med.migrWait = [] → s.msh.reshape = none →
        ∃ t, exec (.reshapeCopySwitch i) s = .next t ∧ (t.zone i).sset = x.sset ∧ (t.zone i).rownum = x.row ∧ t.on (EVT_SRC.PEND 174) = true ∧
          t.med.migr = [] ∧ keepsRegs mediaFields s t ∧ keepsMem s t)) ∧
  (∀ (s : State) (k row st p : Nat) (l : Bool) (o : Option (Nat × Option Nat)),
    (s.mayPatrol k = false ∨ s.rowOwner k row = none ∨ k * 16384 + row < s.msh.patSet * 16384 + s.msh.patRow →
      exec (.patrolRead k row o l) s = .next s) ∧
    (s.mayPatrol k = true → (s.rowOwner k row).isSome = true → s.msh.patSet * 16384 + s.msh.patRow ≤ k * 16384 + row →
      (∃ t, exec (.patrolRead k row none false) s = .next t ∧ t.msh = { s.msh with patSet := k, patRow := row } ∧ onlyRegs [] s t) ∧
      (∃ t, exec (.patrolRead k row none true) s = .next t ∧ t.msh = { s.msh with patSet := 0, patRow := 0 } ∧
        t.fld MSH_PATCNT.PASSES = min (s.fld MSH_PATCNT.PASSES + 1) 0xFF ∧ t.on (EVT_SRC.PEND 170) = true ∧
        keepsRegs [MSH_PATCNT.PASSES] s t ∧ keepsMem s t) ∧
      (∃ t, exec (.patrolRead k row (some (st, none)) false) s = .next t ∧
        t.fld MSH_PATCNT.UNLOC = min (s.fld MSH_PATCNT.UNLOC + 1) 0xFFF ∧ t.on (EVT_SRC.PEND 172) = true ∧
        t.msh.suspects = s.msh.suspects ∧ keepsRegs [MSH_PATCNT.UNLOC] s t ∧ keepsMem s t) ∧
      (∃ t, exec (.patrolRead k row (some (st, some p)) false) s = .next t ∧
        t.fld MSH_PATCNT.LOC = min (s.fld MSH_PATCNT.LOC + 1) 0xFFF ∧ t.on (EVT_SRC.PEND 171) = true ∧
        (s.msh.suspects.length < 1024 → (k * 16384 + row, st * 128 + p) ∈ t.msh.suspects) ∧
        (1024 ≤ s.msh.suspects.length → t.msh.suspects = s.msh.suspects ∧ t.on (EVT_SRC.PEND 177) = true) ∧
        keepsRegs [MSH_PATCNT.LOC] s t ∧ keepsMem s t)))

/-- R411 to R417, R422, R424 and Table 13.2 for the hold-up manager: its states, their causes and events, the store check, the dump and its end. -/
def Obligations.HoldUpManagerFollowsItsTable : Prop :=
  (∀ (s : State) (mv : Nat), s.up = true →
    (s.dnum 0x2301 0 ≤ mv →
      ∃ t, exec (.mainSenseLow mv) s = .next t ∧ t.fld HLD_SENSE.MAIN = mv % 2 ^ 12 ∧ t.hld = s.hld ∧ onlyRegs [HLD_SENSE.MAIN] s t) ∧
    (mv < s.dnum 0x2301 0 → s.hld.timer = false → s.hldState = hldArmed ∨ s.hldState = hldDraining →
      ∃ t, exec (.mainSenseLow mv) s = .next t ∧ t.hldState = hldSuspect ∧ t.hld.before = s.hldState ∧ t.hld.timer = true ∧
        t.hld.checking = false ∧ t.on HLD_STAT.MAINGOOD = false ∧ t.pow.mainFell = true ∧ t.on (EVT_SRC.PEND 352) = true ∧
        keepsRegs [HLD_SENSE.MAIN, HLD_STAT.MAINGOOD, HLD_STAT.STATE] s t ∧ keepsMem s t) ∧
    (mv < s.dnum 0x2301 0 → s.hld.timer = false → s.hldState = hldCharging ∨ s.hldState = hldInit →
      ∃ t, exec (.mainSenseLow mv) s = .next t ∧ t.hldState = s.hldState ∧ t.hld.timer = true ∧
        onlyRegs [HLD_SENSE.MAIN, HLD_STAT.MAINGOOD] s t) ∧
    (s.hld.timer = true → s.hldState = hldCharging →
      ∃ t, exec .lossDebounceExpire s = .next t ∧ t.hldState = hldInit ∧ t.hld.chgEn = false ∧ onlyRegs [HLD_STAT.STATE] s t) ∧
    (s.hld.timer = true → s.hldState = hldSuspect → s.drf.eng = [] →
      ∃ t, exec .lossDebounceExpire s = .next t ∧ t.hldState = hldDumping ∧ t.hld.committed = true ∧ t.hld.pfailLow = true ∧
        t.hld.disEn = true ∧ t.hld.chgEn = false ∧ t.hfe.stopped = true ∧ t.ctl.cause = 4 ∧ t.nv.gen = s.nv.gen + 1 ∧ t.nv.image.isSome = true ∧
        t.hld.dumpSlot = (if s.nv.slotA.erased then 0 else 1) ∧ t.on (EVT_SRC.PEND 207) = true ∧ t.on (EVT_SRC.PEND 354) = true ∧ keepsMem s t) ∧
    (s.hld.timer = false ∨ s.hldState ≠ hldCharging ∧ s.hldState ≠ hldSuspect → exec .lossDebounceExpire s = .next s) ∧
    (mv ≤ s.dnum 0x2302 0 →
      ∃ t, exec (.lossTimerClear mv) s = .next t ∧ t.fld HLD_SENSE.MAIN = mv % 2 ^ 12 ∧ t.hld = s.hld ∧ onlyRegs [HLD_SENSE.MAIN] s t) ∧
    (s.dnum 0x2302 0 < mv → s.hld.timer = true → s.hldState = hldSuspect → s.hld.before = hldArmed →
      ∃ t, exec (.lossTimerClear mv) s = .next t ∧ t.hld.timer = false ∧ (t.hldState = hldArmed ∨ t.hldState = hldDraining) ∧
        t.fld HLD_CNT.RIDES = min (s.fld HLD_CNT.RIDES + 1) 0xFFFF ∧ t.on HLD_STAT.MAINGOOD = true ∧ t.on (EVT_SRC.PEND 353) = true ∧
        keepsRegs ([HLD_SENSE.MAIN, HLD_STAT.MAINGOOD, HLD_CNT.RIDES] ++ holdFields) s t ∧ keepsMem s t) ∧
    (s.dnum 0x2302 0 < mv → s.hld.timer = true → s.hldState = hldDumping →
      ∃ t, exec (.lossTimerClear mv) s = .next t ∧ t.hld.timer = false ∧ t.hldState = hldDumping ∧ t.on (EVT_SRC.PEND 357) = true ∧
        keepsRegs [HLD_SENSE.MAIN, HLD_STAT.MAINGOOD] s t ∧ keepsMem s t) ∧
    (s.ctl.waitMain = false → s.hldState = hldInit → s.hld.timer = false →
      ∃ t, exec .goodDebounceExpire s = .next t ∧ t.hldState = hldCharging ∧ t.on HLD_STAT.MAINGOOD = true ∧
        keepsRegs (HLD_STAT.MAINGOOD :: holdFields) s t ∧ keepsMem s t) ∧
    (s.ctl.waitMain = false → s.hldState ≠ hldInit ∨ s.hld.timer = true → exec .goodDebounceExpire s = .next s) ∧
    (s.hldState = hldDone → exec (.huSenseCrossing mv) s = .next s) ∧
    (s.hldState ≠ hldDone →
      ∃ t, exec (.huSenseCrossing mv) s = .next t ∧ t.fld HLD_SENSE.HU = mv % 2 ^ 12 ∧
        t.hld.charged = (decide (s.dnum 0x2306 0 ≤ mv) || (s.hld.charged && decide (s.dnum 0x2307 0 ≤ mv))) ∧
        (s.hldState ≠ hldDumping → s.dnum 0x2308 0 < mv → s.hld.ovOff = false → t.on HLD_STAT.OV = true ∧ t.on (EVT_SRC.PEND 363) = true) ∧
        keepsRegs ([HLD_SENSE.HU, HLD_STAT.OV] ++ holdFields) s t ∧ keepsMem s t)) ∧
  (∀ (s : State) (m v : Nat), s.reaches m HLD_CTRL.EN.addr →
    (∃ t, exec (.holdupEnableWrite m v) s = .next t ∧ t.fld HLD_CTRL.EN = v % 2 ∧ keepsRegs (HLD_CTRL.EN :: holdFields) s t ∧ keepsMem s t) ∧
    (s.hldState = hldDumping ∨ s.hldState = hldDone →
      ∃ t, exec (.drain m v) s = .next t ∧ t.fld HLD_CTRL.EN = v % 2 ∧ t.hld = s.hld ∧ keepsRegs [HLD_CTRL.EN] s t ∧ keepsMem s t) ∧
    (s.hldState = hldArmed → bit v 1 = true → bit v 2 = false →
      ∃ t, exec (.drain m v) s = .next t ∧ t.hldState = hldDraining ∧ t.hld.drainReq = true ∧ t.on (EVT_SRC.PEND 359) = true ∧
        keepsRegs (HLD_CTRL.EN :: holdFields) s t ∧ keepsMem s t) ∧
    (s.hldState ≠ hldDumping → s.hldState ≠ hldDone → bit v 2 = true → s.hld.timer = false → s.hld.checking = false →
      ∃ t, exec (.checkNow m v) s = .next t ∧ t.hld.checking = true ∧ t.fld HLD_CNT.CHECKS = min (s.fld HLD_CNT.CHECKS + 1) 0xFFFF ∧
        keepsRegs (HLD_CTRL.EN :: holdFields) s t ∧ keepsMem s t)) ∧
  (∀ (s : State) (q drop : Nat),
    (s.hld.checking = false → exec (.storeCheckEnd q drop) s = .next s) ∧
    (s.hld.checking = true → drop ≠ 0 →
      ∃ t, exec (.storeCheckEnd q drop) s = .next t ∧ t.hld.checking = false ∧
        t.hld.checkOk = decide (s.dnum 0x230B 0 ≤ storeEnergy q drop (s.dnum 0x2309 0) (s.dnum 0x2307 0) (s.dnum 0x230A 0)) ∧
        t.on HLD_STAT.STOREBAD = !t.hld.checkOk ∧ t.on (EVT_SRC.PEND (if t.hld.checkOk then 361 else 362)) = true ∧
        keepsRegs (HLD_STAT.STOREBAD :: holdFields) s t ∧ keepsMem s t)) ∧
  (∀ s : State,
    (s.hldState = hldArmed → s.hld.checking = false →
      ∃ t, exec .storeCheckInterval s = .next t ∧ t.hld = { s.hld with checking := true, chgEn := false, testEn := true } ∧
        t.fld HLD_CNT.CHECKS = min (s.fld HLD_CNT.CHECKS + 1) 0xFFFF ∧ onlyRegs [HLD_CNT.CHECKS] s t) ∧
    (s.hldState ≠ hldArmed → exec .storeCheckInterval s = .next s) ∧
    (s.armOk = true → s.hldState = hldCharging → s.hld.loaded = false → s.hfe.ctx = [] →
      ∃ t, exec .holdupArm s = .next t ∧ t.hldState = hldArmed ∧ t.hld.replaySlot = none ∧ t.on (EVT_SRC.PEND 358) = true ∧
        keepsRegs (HLD_STAT.STATE :: mediaFields) s t ∧ keepsMem s t) ∧
    (s.armOk = false → exec .holdupArm s = .next s) ∧
    (s.hldState = hldDraining → s.hfe.blkTub = [] → s.msh.parity = [] → s.hld.drainCkpt = true → s.hld.drainFlush = true →
      ∃ t, exec .drainComplete s = .next t ∧ t.hldState = hldCharging ∧ t.on (EVT_SRC.PEND 360) = true ∧ keepsRegs holdFields s t ∧ keepsMem s t) ∧
    (s.hldState ≠ hldDraining ∨ s.hfe.blkTub ≠ [] ∨ s.msh.parity ≠ [] ∨ s.hld.drainCkpt = false ∨ s.hld.drainFlush = false →
      exec .drainComplete s = .next s) ∧
    (s.hldState = hldDumping → s.hld.dumpLeft = 0 →
      ∃ t, exec .dumpEnd s = .next t ∧ t.hldState = hldDone ∧ t.up = false ∧ t.hld.pfailLow = s.hld.pfailLow ∧
        (s.hld.dumpSlot = 0 → t.nv.slotA.trailers = 64 - s.hld.dumpBad ∧ t.nv.slotB = s.nv.slotB) ∧
        (s.hld.dumpSlot ≠ 0 → t.nv.slotB.trailers = 64 - s.hld.dumpBad ∧ t.nv.slotA = s.nv.slotA) ∧
        t.nv.image = s.nv.image ∧ t.drf.media = s.drf.media) ∧
    (s.hldState ≠ hldDumping ∨ s.hld.dumpLeft ≠ 0 → exec .dumpEnd s = .next s) ∧
    (s.hldState = hldDone → s.pow.shutPend = false →
      ∃ t, exec .doneRestart s = .next t ∧ t.hldState = hldInit ∧ t.ctl.waitMain = true ∧ t.hld.pfailLow = false ∧
        onlyRegs [HLD_STAT.STATE, AON_WAKE.CAUSE] s t) ∧
    (s.hldState ≠ hldDone ∨ s.pow.shutPend = true → exec .doneRestart s = .next s))

/-- R436, R437, R439 to R442 and R449: atomic accesses to SRAM, the assignment of banks and its lock, the conflict counters, a row's retirement. -/
def Obligations.SramAccessesAreAtomicAndBanksAssigned : Prop :=
  (∀ (s : State) (m a v : Nat) (wide : Bool) (op : AmoOp), s.atomicOk m wide a →
    (op ≠ .other →
      ∃ t, exec (.amo m op wide a v) s = .next t ∧ Tab.get 0 t.bus.rdata m = s.load wide a ∧
        t.bytes a (widthOf wide) = toBytes (amoResult op wide (s.load wide a) v) (widthOf wide) ∧
        (∀ x, x < a ∨ a + widthOf wide ≤ x → t.byte x = s.byte x) ∧
        (∀ j, j ≠ m → Tab.get none t.bus.resv j ≠ some (a / 64)) ∧ keepsRegs [] s t) ∧
    (∃ t, exec (.lr m wide a) s = .next t ∧ Tab.get 0 t.bus.rdata m = s.load wide a ∧ Tab.get none t.bus.resv m = some (a / 64) ∧
      keepsRegs [] s t ∧ keepsMem s t) ∧
    (Tab.get none s.bus.resv m = some (a / 64) →
      ∃ t, exec (.sc m wide a v) s = .next t ∧ Tab.get 0 t.bus.rdata m = 0 ∧ t.bytes a (widthOf wide) = toBytes v (widthOf wide) ∧
        (∀ x, x < a ∨ a + widthOf wide ≤ x → t.byte x = s.byte x) ∧ Tab.get none t.bus.resv m = none ∧ keepsRegs [] s t) ∧
    (Tab.get none s.bus.resv m ≠ some (a / 64) →
      ∃ t, exec (.sc m wide a v) s = .next t ∧ Tab.get 0 t.bus.rdata m = 1 ∧ Tab.get none t.bus.resv m = none ∧ keepsRegs [] s t ∧
        keepsMem s t) ∧
    (∃ t, exec (.amo m .other wide a v) s = .next t ∧ s.faulted t m a causeSize)) ∧
  (∀ (s : State) (m a v c : Nat) (wide : Bool) (op : AmoOp),
    (s.masterRuns m a = true → s.atomicFault m wide a = some c →
      (∃ t, exec (.amo m op wide a v) s = .next t ∧ s.faulted t m a c) ∧ (∃ t, exec (.lr m wide a) s = .next t ∧ s.faulted t m a c) ∧
        ∃ t, exec (.sc m wide a v) s = .next t ∧ s.faulted t m a c) ∧
    (s.masterRuns m a = false → exec (.amo m op wide a v) s = .next s ∧ exec (.lr m wide a) s = .next s ∧ exec (.sc m wide a v) s = .next s)) ∧
  (∀ (s : State) (m n v : Nat), n < 56 → s.reaches m (MEM_BANKASN.OWNER n).addr →
    (n < 48 → s.on MEM_CTRL.LOCK = false →
      ∃ t, exec (.bankAssignWrite m n v) s = .next t ∧ t.fld (MEM_BANKASN.OWNER n) = v / 2 ^ 28 % 16 ∧ keepsRegs [MEM_BANKASN.OWNER n] s t ∧
        keepsMem s t) ∧
    (48 ≤ n ∨ s.on MEM_CTRL.LOCK = true → ∃ t, exec (.bankAssignWrite m n v) s = .next t ∧ keepsRegs [] s t ∧ keepsMem s t)) ∧
  (∀ (s : State) (m v : Nat), s.reaches m MEM_CTRL.LOCK.addr →
    (bit v 0 = true → s.on MEM_CTRL.LOCK = false → s.lockOk = true →
      ∃ t, exec (.lock m v) s = .next t ∧ t.on MEM_CTRL.LOCK = true ∧ t.on MEM_CTRL.LEGACY = bit v 1 ∧ t.on (EVT_SRC.PEND 261) = true ∧
        keepsRegs [MEM_CTRL.LEGACY, MEM_CTRL.LOCK] s t ∧ keepsMem s t) ∧
    (bit v 0 = true → s.on MEM_CTRL.LOCK = false → s.lockOk = false →
      ∃ t, exec (.lock m v) s = .next t ∧ t.on MEM_CTRL.LOCK = false ∧ t.on MEM_STAT.LOCKERR = true ∧ t.on (EVT_SRC.PEND 262) = true ∧
        keepsRegs [MEM_CTRL.LEGACY, MEM_STAT.LOCKERR] s t ∧ keepsMem s t) ∧
    (bit v 0 = false ∨ s.on MEM_CTRL.LOCK = true →
      ∃ t, exec (.lock m v) s = .next t ∧ t.on MEM_CTRL.LEGACY = bit v 1 ∧ keepsRegs [MEM_CTRL.LEGACY] s t ∧ keepsMem s t) ∧
    (∃ t, exec (.cclr m) s = .next t ∧ t.memc = { s.memc with conflict := [] } ∧ keepsRegs [] s t ∧ keepsMem s t)) ∧
  (∀ (s : State) (m v b r : Nat), s.reaches m MEM_RETIRE.GO.addr → b = slice v 16 6 → r = slice v 0 11 →
    (bit v 31 = true → b < 56 → s.fld (MEM_BANKASN.SPARE b) ≠ 0 →
      ∃ t, exec (.rowRetire m v) s = .next t ∧ t.fld (MEM_BANKASN.SPARE b) = (s.fld (MEM_BANKASN.SPARE b) - 1) % 16 ∧
        Tab.get false t.memc.retired (b * 2048 + r) = true ∧ t.on (EVT_SRC.PEND 259) = true ∧
        keepsRegs [MEM_RETIRE.BANK, MEM_RETIRE.ROW, MEM_BANKASN.SPARE b] s t ∧ keepsMem s t) ∧
    (bit v 31 = true → 56 ≤ b ∨ s.fld (MEM_BANKASN.SPARE b) = 0 →
      ∃ t, exec (.rowRetire m v) s = .next t ∧ t.on MEM_STAT.RETERR = true ∧ t.on (EVT_SRC.PEND 260) = true ∧ t.memc = s.memc ∧
        keepsRegs [MEM_RETIRE.BANK, MEM_RETIRE.ROW, MEM_STAT.RETERR] s t ∧ keepsMem s t) ∧
    (bit v 31 = false → ∃ t, exec (.rowRetire m v) s = .next t ∧ t.fld MEM_RETIRE.BANK = b ∧ t.fld MEM_RETIRE.ROW = r ∧ t.memc = s.memc ∧
      keepsRegs [MEM_RETIRE.BANK, MEM_RETIRE.ROW] s t ∧ keepsMem s t))

/-- R452, R455 to R462 for the tub pool: its enable (which tubs the journals take is the model's choice, log entry 46), requests granted, queued and refused, the service of the queue, FREE and TRIM, the window. -/
def Obligations.TubsAreGrantedAndReleased : Prop :=
  (∀ (s : State) (m v : Nat), s.reaches m TUB_CTRL.EN.addr →
    (bit v 0 = true → s.on TUB_CTRL.EN = false → s.tubEnableOk = true → s.tubs.queueP = [] → s.tubs.queueU = [] →
      ∃ t, exec (.tubEnable m v) s = .next t ∧ t.on TUB_CTRL.EN = true ∧ (∀ x, journalTubs ≤ x → t.tub x = {}) ∧
        (∀ x, x < journalTubs → (t.tub x).owner = (if x < zoneJournalTubs then tagZone else tagMedia)) ∧ t.tubs.freshP = journalTubs ∧
        t.tubs.freshU = s.fld TUB_SPLIT.P ∧ keepsRegs [TUB_CTRL.EN] s t ∧ keepsMem s t) ∧
    (bit v 0 = true → s.on TUB_CTRL.EN = false → s.tubEnableOk = false →
      ∃ t, exec (.tubEnable m v) s = .next t ∧ t.on TUB_CTRL.EN = false ∧ t.on TUB_STAT.ENERR = true ∧ t.on (EVT_SRC.PEND 266) = true ∧
        t.tubs = s.tubs ∧ keepsRegs [TUB_STAT.ENERR] s t ∧ keepsMem s t) ∧
    (bit v 0 = false ∨ s.on TUB_CTRL.EN = true → ∃ t, exec (.tubEnable m v) s = .next t ∧ t.tubs = s.tubs ∧ keepsRegs [] s t ∧ keepsMem s t)) ∧
  (∀ (s : State) (q : TubReq) (l : List Nat), s.asks q → l = s.pickTubs q.prot q.n → l.length = q.n → l.Nodup →
    (∀ x ∈ l, s.isJournalTub x = false) →
    (s.grantsNow q = true → q.after = none →
      ∃ t, exec (.alloc q.tag q.prot q.n) s = .next t ∧ s.grantedTo t q l ∧ (t.tub (l.headD 0)).head = true) ∧
    (∀ x, s.grantsNow q = true → q.after = some x → (s.tub x).owner = q.tag → (s.tub x).last = true → x ∉ l →
      s.isJournalTub x = false →
      ∃ t, exec (.append q.tag q.prot q.n x) s = .next t ∧ s.grantedTo t q l ∧ (t.tub x).last = false ∧ (t.tub x).next = l.headD 0)) ∧
  (∀ (s : State) (q : TubReq) (l : List Nat) (w : List TubReq), tagOk q.tag = true → 1 ≤ q.n → l = s.pickTubs q.prot q.n → l.length = q.n → l.Nodup →
    (∀ x ∈ l, s.isJournalTub x = false) → s.tubQueue q.prot = q :: w → q.after = none → s.tubNeed q ≤ s.freeShared q.prot → q.n ≤ s.tubsFree q.prot →
    ∃ t, exec (.tubGrant q.prot) s = .next t ∧ s.grantedTo t q l ∧ t.tubQueue q.prot = w) ∧
  (∀ (s : State) (q : TubReq), s.asks q → s.grantsNow q = false → q.after = none →
    ∃ t, exec (.alloc q.tag q.prot q.n) s = .next t ∧ t.tubQueue q.prot = s.tubQueue q.prot ++ [q] ∧ t.tubs.tub = s.tubs.tub ∧
      (8 ≤ q.tag → t.fld (TUB_RES.STATE (q.tag - 8)) = 1) ∧
      (q.tag ∉ s.tubs.waited → t.fld TUB_WAITCNT.COUNT = min (s.fld TUB_WAITCNT.COUNT + 1) 0xFFFFFFFF ∧ t.on (EVT_SRC.PEND 263) = true) ∧
      keepsRegs [TUB_RES.STATE (q.tag - 8), TUB_WAITCNT.COUNT] s t ∧ keepsMem s t) ∧
  (∀ (s : State) (tag n x : Nat) (prot : Bool),
    (tagOk tag = false → exec (.alloc tag prot n) s = .next s ∧ exec (.append tag prot n x) s = .next s) ∧
    (tagOk tag = true → tag < 8 → n = 0 ∨ 1024 < n → exec (.alloc tag prot n) s = .next s ∧ exec (.append tag prot n x) s = .next s) ∧
    (tagOk tag = true → 8 ≤ tag → s.fld (TUB_RES.STATE (tag - 8)) ≠ 1 → (s.tub x).owner ≠ tag ∨ (s.tub x).last = false →
      ∃ t, exec (.append tag prot n x) s = .next t ∧ t.fld (TUB_RES.STATE (tag - 8)) = 3 ∧ t.tubs = s.tubs ∧
        onlyRegs [TUB_RES.STATE (tag - 8)] s t) ∧
    (s.tubQueue prot = [] → exec (.tubGrant prot) s = .next s)) ∧
  (∀ (s : State) (r x : Nat) (l : List Nat), 
    (s.on TUB_CTRL.EN = true → (s.tub x).owner = r → (s.tub x).head = true → l = s.chain 65536 x → s.tubs.queueP = [] → s.tubs.queueU = [] →
      (∀ y ∈ l, s.isJournalTub y = false) →
      ∃ t, exec (.free r x) s = .next t ∧ (∀ y ∈ l, (t.tub y).owner = 0xFF) ∧ (∀ y, y ∉ l → t.tub y = s.tub y) ∧
        t.tubs.freed = s.tubs.freed ++ l ∧ onlyRegs [] s t) ∧
    (s.on TUB_CTRL.EN = true → (s.tub x).owner = r → (s.tub x).last = false → l = s.chain 65536 (s.tub x).next → x ∉ l → s.tubs.queueP = [] →
      s.tubs.queueU = [] → (∀ y ∈ x :: l, s.isJournalTub y = false) →
      ∃ t, exec (.trim r x) s = .next t ∧ (∀ y ∈ l, (t.tub y).owner = 0xFF) ∧ (t.tub x).last = true ∧ (t.tub x).owner = r ∧
        (∀ y, y ∉ l → y ≠ x → t.tub y = s.tub y) ∧ t.tubs.freed = s.tubs.freed ++ l ∧ onlyRegs [] s t) ∧
    (s.on TUB_CTRL.EN = false ∨ (s.tub x).owner ≠ r →
      (∃ t, exec (.free r x) s = .next t ∧ t.on TUB_STAT.RELERR = true ∧ t.on (EVT_SRC.PEND 264) = true ∧ t.tubs = s.tubs ∧
        keepsRegs [TUB_STAT.RELERR] s t ∧ keepsMem s t) ∧
      ∃ t, exec (.trim r x) s = .next t ∧ t.on TUB_STAT.RELERR = true ∧ t.on (EVT_SRC.PEND 264) = true ∧ t.tubs = s.tubs ∧
        keepsRegs [TUB_STAT.RELERR] s t ∧ keepsMem s t)) ∧
  (∀ (s : State) (m off v : Nat), s.reaches m (0x41800000 + off) →
    (off = 0x23C → s.ownsTub m = true →
      ∃ t, exec (.tubWindowWrite m off v) s = .next t ∧
        t.tub (s.fld TUB_WSEL.SEL) = { s.tub (s.fld TUB_WSEL.SEL) with mtub := slice v 16 16, ctx := slice v 0 16 } ∧
        t.tubs.pay = s.tubs.pay ∧ keepsRegs [] s t ∧ keepsMem s t) ∧
    (0x1000 ≤ off → off < 0x1200 → off % 4 = 0 → s.ownsTub m = true →
      ∃ t, exec (.tubWindowWrite m off v) s = .next t ∧
        slice (t.payload (s.fld TUB_WSEL.SEL)) ((off - 0x1000) / 4 * 32) 32 = v % 2 ^ 32 ∧ t.tubs.tub = s.tubs.tub ∧
        (∀ x, x ≠ s.fld TUB_WSEL.SEL → t.payload x = s.payload x) ∧ keepsRegs [] s t ∧ keepsMem s t) ∧
    (off = 0x23C ∨ 0x1000 ≤ off ∧ off < 0x1200 ∧ off % 4 = 0 → s.ownsTub m = false →
      ∃ t, exec (.tubWindowWrite m off v) s = .next t ∧ t.on TUB_STAT.OWNERR = true ∧ t.tubs = s.tubs ∧ keepsRegs [TUB_STAT.OWNERR] s t ∧
        keepsMem s t))

/-- R476 to R483 (the GCM job ring), R481 (REKEY), R485 (RNG_READ, DRBG_HEALTH_FAIL), R467 and R494 (FORCE): which jobs run and what they leave, no
initialisation vector used twice under a key, refusals that write nothing. -/
def Obligations.CipherJobsRunAndKeysChange : Prop :=
  (∀ (s : State) (m v h : Nat), s.reaches m CIP_GTAIL.TAIL.addr → h = s.fld CIP_GHEAD.HEAD →
    (v % 1024 % 2 ^ s.fld CIP_GRING.LOG2 = h →
      ∃ t, exec (.gcmTailWrite m v) s = .next t ∧ t.fld CIP_GTAIL.TAIL = h ∧ t.cip = s.cip ∧ keepsRegs [CIP_GTAIL.TAIL] s t ∧ keepsMem s t) ∧
    (v % 1024 % 2 ^ s.fld CIP_GRING.LOG2 ≠ h → v % 1024 % 2 ^ s.fld CIP_GRING.LOG2 = (h + 1) % 2 ^ s.fld CIP_GRING.LOG2 →
      s.cip.jobs.length < 4 →
      (s.jobRefused h = none →
        ∃ t, exec (.gcmTailWrite m v) s = .next t ∧ t.fld CIP_GHEAD.HEAD = t.fld CIP_GTAIL.TAIL ∧
          t.cip.jobs = s.cip.jobs ++ [{ slot := h, gen := Tab.get 0 s.cip.gen (s.jobCtx h) }] ∧
          keepsRegs [CIP_GTAIL.TAIL, CIP_GHEAD.HEAD] s t ∧ keepsMem s t) ∧
      (∀ st, s.jobRefused h = some st →
        ∃ t, exec (.gcmTailWrite m v) s = .next t ∧ t.cip.jobs = s.cip.jobs ∧
          t.jobWord h 0 = putSlice (setBit (s.jobWord h 0) 31 true) 16 8 st ∧
          (bit (s.jobWord h 0) 30 = true → t.on (EVT_SRC.PEND 296) = true) ∧
          (∀ a, a < s.jobAddr h ∨ s.jobAddr h + 4 ≤ a → t.byte a = s.byte a) ∧ keepsRegs [CIP_GTAIL.TAIL, CIP_GHEAD.HEAD] s t))) ∧
  (∀ (s : State) (check : GcmCheck),
    (s.nextJob 1 = none → exec (.encrypt check) s = .next s) ∧ (s.nextJob 2 = none → exec (.decrypt check) s = .next s)) ∧
  (∀ (s : State) (j : GJob) (c iv : Nat) (check : GcmCheck) (ct : List Nat), s.cip.jobs = [j] → s.nextJob 1 = some j →
    s.fld CIP_GHEAD.HEAD = s.fld CIP_GTAIL.TAIL → c = s.jobCtx j.slot →
    (s.jobDst j.slot + s.jobLen j.slot ≤ s.jobAddr j.slot ∨ s.jobAddr j.slot + 64 ≤ s.jobDst j.slot) →
    ct = gcmXor (fwKey c j.gen) iv (s.bytes (s.jobSrc j.slot + s.jobAad j.slot) (s.jobLen j.slot)) →
    (check ≠ .mismatchTwice →
      (j.iv = some iv ∨ j.iv = none ∧ (s.gctx c).needs = false ∧
        iv = (2 ^ 31 + c) * 2 ^ 64 + (s.gctx c).window.getD 0 * 2 ^ 24 + (s.gctx c).k) →
      ∃ t, exec (.encrypt check) s = .next t ∧ t.cip.jobs = [] ∧ t.bytes (s.jobDst j.slot) (s.jobLen j.slot) = ct ∧
        t.jobWord j.slot 7 = iv / 2 ^ 64 % 2 ^ 32 ∧ t.jobWord j.slot 8 = iv / 2 ^ 32 % 2 ^ 32 ∧ t.jobWord j.slot 9 = iv % 2 ^ 32 ∧
        t.jobTag j.slot = (Config.gcmTag (fwKey c j.gen) iv (s.bytes (s.jobSrc j.slot) (s.jobAad j.slot)) ct).toNat % 2 ^ 128 ∧
        t.jobWord j.slot 0 = putSlice (setBit (s.jobWord j.slot 0) 31 true) 16 8 gcmOk ∧
        (j.iv = none → (t.gctx c).k = (s.gctx c).k + 1 ∧ (t.gctx c).window = (s.gctx c).window) ∧
        (∀ a, (a < s.jobDst j.slot ∨ s.jobDst j.slot + s.jobLen j.slot ≤ a) → (a < s.jobAddr j.slot ∨ s.jobAddr j.slot + 64 ≤ a) →
          t.byte a = s.byte a) ∧ keepsRegs [] s t) ∧
    (j.iv = none → (s.gctx c).needs = true → s.dnum 0x8001 0 < Tab.get 0 s.cip.wcount c + 1 →
      ∃ t, exec (.encrypt check) s = .next t ∧ t.cip.jobs = [] ∧
        t.jobWord j.slot 0 = putSlice (setBit (s.jobWord j.slot 0) 31 true) 16 8 gcmExhausted ∧ t.on (EVT_SRC.PEND 291) = true ∧
        (∀ a, a < s.jobAddr j.slot ∨ s.jobAddr j.slot + 4 ≤ a → t.byte a = s.byte a)) ∧
    (j.iv = some iv →
      ∃ t, exec (.encrypt .mismatchTwice) s = .next t ∧ t.cip.jobs = [] ∧
        t.jobWord j.slot 0 = putSlice (setBit (s.jobWord j.slot 0) 31 true) 16 8 gcmMismatch ∧
        t.fld CIP_ERRCNT.GCMMIS = min (s.fld CIP_ERRCNT.GCMMIS + 1) 0xFF ∧ t.on (EVT_SRC.PEND 289) = true ∧
        (∀ a, a < s.jobAddr j.slot ∨ s.jobAddr j.slot + 4 ≤ a → t.byte a = s.byte a))) ∧
  (∀ (s : State) (j : GJob) (key iv : Nat) (check : GcmCheck) (ct : List Nat), s.cip.jobs = [j] → s.nextJob 2 = some j →
    s.fld CIP_GHEAD.HEAD = s.fld CIP_GTAIL.TAIL → key = fwKey (s.jobCtx j.slot) j.gen →
    iv = s.jobWord j.slot 7 * 2 ^ 64 + s.jobWord j.slot 8 * 2 ^ 32 + s.jobWord j.slot 9 →
    ct = s.bytes (s.jobSrc j.slot + s.jobAad j.slot) (s.jobLen j.slot) →
    ((Config.gcmTag key iv (s.bytes (s.jobSrc j.slot) (s.jobAad j.slot)) ct).toNat ≠ s.jobTag j.slot →
      ∃ t, exec (.decrypt check) s = .next t ∧ t.cip.jobs = [] ∧
        t.jobWord j.slot 0 = putSlice (setBit (s.jobWord j.slot 0) 31 true) 16 8 gcmTagFail ∧
        t.fld CIP_ERRCNT.TAGFAIL = min (s.fld CIP_ERRCNT.TAGFAIL + 1) 0xFFFF ∧ t.on (EVT_SRC.PEND 290) = true ∧
        (∀ a, a < s.jobAddr j.slot ∨ s.jobAddr j.slot + 4 ≤ a → t.byte a = s.byte a) ∧ keepsRegs [CIP_ERRCNT.TAGFAIL] s t) ∧
    ((Config.gcmTag key iv (s.bytes (s.jobSrc j.slot) (s.jobAad j.slot)) ct).toNat = s.jobTag j.slot → check ≠ .mismatchTwice →
      (s.jobDst j.slot + s.jobLen j.slot ≤ s.jobAddr j.slot ∨ s.jobAddr j.slot + 64 ≤ s.jobDst j.slot) →
      ∃ t, exec (.decrypt check) s = .next t ∧ t.cip.jobs = [] ∧ t.bytes (s.jobDst j.slot) (s.jobLen j.slot) = gcmXor key iv ct ∧
        t.jobWord j.slot 0 = putSlice (setBit (s.jobWord j.slot 0) 31 true) 16 8 gcmOk ∧
        (∀ a, (a < s.jobDst j.slot ∨ s.jobDst j.slot + s.jobLen j.slot ≤ a) → (a < s.jobAddr j.slot ∨ s.jobAddr j.slot + 4 ≤ a) →
          t.byte a = s.byte a) ∧ keepsRegs [] s t)) ∧
  (∀ (s : State) (m v c : Nat), s.reaches m CIP_REKEY.GO.addr → c = slice v 0 8 →
    (bit v 31 = false → ∃ t, exec (.rekey m v) s = .next t ∧ t.cip = s.cip ∧ keepsRegs [] s t ∧ keepsMem s t) ∧
    (bit v 31 = true → c < 64 →
      ∃ t, exec (.rekey m v) s = .next t ∧ t.on CIP_REKEY.ERR = true ∧ t.cip = s.cip ∧ keepsRegs [CIP_REKEY.ERR] s t ∧ keepsMem s t) ∧
    (bit v 31 = true → 64 ≤ c → s.cip.jobs = [] → s.fld CIP_GHEAD.HEAD = s.fld CIP_GTAIL.TAIL →
      ∃ t, exec (.rekey m v) s = .next t ∧ Tab.get 0 t.cip.gen c = (Tab.get 0 s.cip.gen c + 1) % 2 ^ 32 ∧ Tab.get 0 t.cip.wcount c = 0 ∧
        (t.gctx c).window = none ∧ (∀ x, x ≠ c → Tab.get 0 t.cip.gen x = Tab.get 0 s.cip.gen x ∧ t.gctx x = s.gctx x) ∧
        t.on (EVT_SRC.PEND 304) = true ∧ keepsRegs [] s t ∧ keepsMem s t)) ∧
  (∀ (s : State) (m : Nat), s.reaches m CIP_RNG.WORD.addr →
    (s.on CIP_STAT.RNGOK = true →
      ∃ t, exec (.rngRead m) s = .next t ∧ Tab.get 0 t.bus.rdata m = (Config.draw 1 s.cip.drawn1).toNat % 2 ^ 32 ∧
        t.cip = { s.cip with drawn1 := s.cip.drawn1 + 1 } ∧ keepsRegs [] s t ∧ keepsMem s t) ∧
    (s.on CIP_STAT.RNGOK = false →
      ∃ t, exec (.rngRead m) s = .next t ∧ Tab.get 0 t.bus.rdata m = 0 ∧ t.cip = s.cip ∧ keepsRegs [] s t ∧ keepsMem s t)) ∧
  (∀ s : State,
    (∃ t, exec (.drbgHealthFail 0) s = .next t ∧ t.cip = { s.cip with rng0ok := false } ∧ t.on (EVT_SRC.PEND 295) = true ∧ keepsRegs [] s t ∧
      keepsMem s t) ∧
    (∃ t, exec (.drbgHealthFail 1) s = .next t ∧ t.on CIP_STAT.RNGOK = false ∧ t.cip = s.cip ∧ t.on (EVT_SRC.PEND 295) = true ∧
      keepsRegs [CIP_STAT.RNGOK] s t ∧ keepsMem s t)) ∧
  (∀ (s : State) (m v : Nat), s.reaches m CIP_LEASE.HOLD.addr →
    (s.secure m = false →
      ∃ t, exec (.force m v) s = .next t ∧ t.fld CIP_RSWCNT.COUNT = min (s.fld CIP_RSWCNT.COUNT + 1) 0xFFFFFFFF ∧
        t.on CIP_RSWCAP.VALID = true ∧ t.on (EVT_SRC.PEND 297) = true ∧ t.cip = s.cip ∧
        (s.on CIP_RSWCAP.VALID = false → t.fld CIP_RSWCAP.MASTER = m ∧ t.fld CIP_RSWCAP.OFFSET = 0x80000) ∧
        keepsRegs [CIP_RSWCNT.COUNT, CIP_RSWCAP.VALID, CIP_RSWCAP.MASTER, CIP_RSWCAP.BLOCK, CIP_RSWCAP.OFFSET] s t ∧ keepsMem s t) ∧
    (s.secure m = true →
      ∃ t, exec (.force m v) s = .next t ∧ t.fld CIP_LEASE.HOLD = slice v 0 5 ∧ t.fld CIP_LEASE.FORCE = slice v 8 5 ∧
        t.fld CIP_LEASESTAT.HELD = slice v 0 5 ∧
        (slice v 8 5 ≠ 0 → t.on (EVT_SRC.PEND 299) = true ∧ t.cip.gated = s.cip.gated ||| slice v 8 5 ∧
          ∀ k, k < 5 → bit v (8 + k) = true → t.fld (PWR_DOM.STATE (5 + k)) = domGated) ∧
        keepsRegs [CIP_LEASE.HOLD, CIP_LEASE.FORCE, CIP_LEASESTAT.HELD] s t ∧ keepsMem s t))

/-- R514 to R516, R520 and the steps of Table 16.6: the rails rise in order and are retried, VAON and the crystal, the clearing of SRAM, the search
for an image, the records, the metadata, the dump, the zone table and the application; each command outside its step does nothing. -/
def Obligations.StartUpFollowsItsSteps : Prop :=
  (∀ s : State,
    (s.ctl.vaon = false →
      ∃ t, exec .vaonPowerOn s = .next t ∧ t.ctl = { s.ctl with vaon := true, waitMain := true, cause := 1 } ∧ t.fld AON_WAKE.CAUSE = 0xFF ∧
        onlyRegs [AON_WAKE.CAUSE] s t) ∧
    (s.ctl.vaon = true → exec .vaonPowerOn s = .next s) ∧
    (s.ctl.vaon = true →
      ∃ t, exec .vaonLoss s = .next t ∧ t.ctl.vaon = false ∧ t.ctl.pwrseq = 0 ∧ t.ctl.pgood = 0 ∧ t.pow.lampSram = [] ∧
        (∀ f : Fld, t.fld f = f.reset) ∧ t.drf.media = s.drf.media) ∧
    (s.ctl.vaon = false → exec .vaonLoss s = .next s) ∧
    (s.ctl.vaon = true →
      ∃ t, exec .lampCrystalStable s = .next t ∧ t.on SYS_CLKSTAT.LAMPXTAL = true ∧ onlyRegs [SYS_CLKSTAT.LAMPXTAL] s t) ∧
    (s.ctl.vaon = false → exec .lampCrystalStable s = .next s)) ∧
  (∀ (s : State) (i : Nat), i < 8 →
    (bit s.ctl.pwrseq i = true → bit s.ctl.pgood i = false → i < 7 →
      ∃ t, exec (.pgoodRise i) s = .next t ∧ bit t.ctl.pgood i = true ∧ bit t.ctl.pwrseq (i + 1) = true ∧
        (∀ j, j ≠ i → bit t.ctl.pgood j = bit s.ctl.pgood j) ∧ (∀ j, j ≠ i + 1 → bit t.ctl.pwrseq j = bit s.ctl.pwrseq j) ∧ onlyRegs [] s t) ∧
    (bit s.ctl.pwrseq i = true → bit s.ctl.pgood i = false →
      ∃ t, exec (.pgoodTimeout i) s = .next t ∧ t.ctl.pwrseq = 0 ∧ t.ctl.pgood = 0 ∧ t.ctl.attempts = s.ctl.attempts + 1 ∧ t.ret3 0 4 = i + 1 ∧
        (s.ctl.attempts < 2 → t.ctl.retry = true) ∧
        (2 ≤ s.ctl.attempts → t.ctl.stoppedSup = true ∧ t.ctl.waitMain = true ∧ t.pow.mainFell = false) ∧ onlyRegs [AON_RET.WORD 3] s t) ∧
    (bit s.ctl.pwrseq i = false ∨ bit s.ctl.pgood i = true → exec (.pgoodRise i) s = .next s ∧ exec (.pgoodTimeout i) s = .next s)) ∧
  (∀ s : State, s.ctl.pwrseq = 0xFF → s.ctl.pgood = 0x7F →
    ∃ t, exec (.pgoodRise 7) s = .next t ∧ t.up = true ∧ t.memc.clearing = true ∧ t.ctl.attempts = 0 ∧ t.bell.puMask = s.puGroups ∧
      t.fld SYS_RSTCAUSE.CAUSE = s.ctl.cause % 16 ∧ t.fld SYS_RSTCAUSE.PGFAIL = s.ret3 0 4 ∧
      (∀ f ∈ [SYS_CLKSTAT.XTAL, SYS_CLKSTAT.PLLCORE, SYS_CLKSTAT.PLLDATA, SYS_CLKSTAT.PLLPHY], t.on f = true) ∧
      (s.ctl.cause = 5 → t.on (EVT_SRC.PEND 332) = true) ∧ keepsMem s t) ∧
  (∀ s : State,
    (s.ctl.retry = true → s.saf.startHold = false →
      ∃ t, exec .supplyRetry s = .next t ∧ t.ctl.retry = false ∧ t.ctl.cause = 7 ∧ bit t.ctl.pwrseq 0 = true ∧ onlyRegs [] s t) ∧
    (s.ctl.retry = false → s.saf.startHold = false → exec .supplyRetry s = .next s) ∧
    (s.saf.startHold = true → s.up = true →
      ∃ t, exec .supplyRetry s = .next t ∧ t.ctl.attempts = s.ctl.attempts + 1 ∧ (0x0C, 0) ∈ t.saf.nextStart ∧ t.saf.startHold = false ∧
        (s.ctl.attempts < 2 → t.ctl.pwrseq = 1 ∧ t.ctl.cause = 7) ∧
        (2 ≤ s.ctl.attempts → t.ctl.pwrseq = 0 ∧ t.ctl.stoppedSup = true ∧ t.ctl.waitMain = true))) ∧
  (∀ s : State,
    (s.up = true → s.memc.clearing = true →
      ∃ t, exec .sramClearEnd s = .next t ∧ (∀ a, t.byte a = 0) ∧ t.memc.clearing = false ∧ t.bootStep = 6 ∧ t.on (EVT_SRC.PEND 267) = true ∧
        t.fld (SAF_WDOG.TIMEOUT 4) = s.dnum 0x7103 0 % 32 ∧ keepsRegs [SAF_WDOG.TIMEOUT 4, SYS_BOOTPHASE.STEP] s t) ∧
    (s.up = false ∨ s.memc.clearing = false → exec .sramClearEnd s = .next s)) ∧
  (∀ (s : State) (x0 x1 a b : Source) (i : Image),
    (s.mayBoot → x0 = .image i → s.accepts x0 = true → ∃ t, exec (.bootImageLoad x0 x1 a b) s = .next t ∧ s.bootedBy t i 1 8) ∧
    (s.mayBoot → s.accepts x0 = false → x1 = .image i → s.accepts x1 = true →
      ∃ t, exec (.bootImageLoad x0 x1 a b) s = .next t ∧ s.bootedBy t i 2 9) ∧
    (s.mayBoot → grpUntrained ≤ s.grp 0 → s.accepts x0 = false → s.accepts x1 = false → a = .image i → s.accepts a = true →
      ∃ t, exec (.bootImageLoad x0 x1 a b) s = .next t ∧ s.bootedBy t i 3 10) ∧
    (s.mayBoot → grpUntrained ≤ s.grp 0 → s.accepts x0 = false → s.accepts x1 = false → s.accepts a = false → b = .image i → s.accepts b = true →
      ∃ t, exec (.bootImageLoad x0 x1 a b) s = .next t ∧ s.bootedBy t i 3 10) ∧
    (s.mayBoot → grpUntrained ≤ s.grp 0 → s.accepts x0 = false → s.accepts x1 = false → s.accepts a = false → s.accepts b = false →
      ∃ t, exec (.bootImageLoad x0 x1 a b) s = .next t ∧ t.ctl.noImage = true ∧ t.bootStep = 6 ∧ t.on (EVT_SRC.PEND 301) = true ∧
        t.fld CIP_BOOTSTAT.RESULT = s.verify b ∧ keepsMem s t) ∧
    (s.bootStep ≠ 6 ∨ s.up = false ∨ s.memc.clearing = true →
      exec (.bootImageLoad x0 x1 a b) s = .next s)) ∧
  (∀ s : State,
    (s.up = true → 8 ≤ s.bootStep → s.bootStep ≤ 10 → s.grp 1 = grpUntrained → s.grp 2 = grpUntrained →
      ∃ t, exec .configRecordLoad s = .next t ∧ t.bootStep = 12 ∧ t.ctl.recLoaded = true ∧ bit (t.fld SYS_CORECTL.RUN) 0 = true ∧
        Tab.get 0 t.ctl.pc 0 = t.ctl.entry % 2 ^ 40) ∧
    (s.bootStep < 8 ∨ 10 < s.bootStep ∨ s.grp 1 ≠ grpUntrained ∨ s.grp 2 ≠ grpUntrained → exec .configRecordLoad s = .next s)) ∧
  (∀ s : State,
    (s.up = true → s.on MEM_CTRL.LOCK = true → s.grp 1 = grpReady → s.grp 2 = grpReady → 12 ≤ s.bootStep → s.bootStep < 15 →
      ∃ t, exec .metadataLoad s = .next t ∧ t.bootStep = 15 ∧
        (0 ∈ s.nv.sysBad → 1 ∈ s.nv.sysBad → t.med = s.med ∧ t.on MED_CTRL.LAYOUT = s.on MED_CTRL.LAYOUT) ∧
        (s.nv.member = [] → s.nv.pos = [] → 0 ∉ s.nv.sysBad ∨ 1 ∉ s.nv.sysBad →
          t.med.units = s.nv.keep.units ∧ t.med.chunks = s.nv.keep.chunks ∧ t.on MED_CTRL.LAYOUT = s.nv.keep.layout ∧
          (∀ d, d < 2048 → bit (s.dnum 0x3302 0) (d % 16) = true → (t.mem d).state = .spare) ∧ keepsRegs [SYS_BOOTPHASE.STEP, MED_CTRL.LAYOUT] s t ∧
          keepsMem s t)) ∧
    (s.on MEM_CTRL.LOCK = false ∨ s.bootStep < 12 ∨ 15 ≤ s.bootStep → exec .metadataLoad s = .next s)) ∧
  (∀ (s : State) (crc : Bool), s.up = true → s.bootStep = 15 → s.on TUB_CTRL.EN = true → s.dumpReady = true →
    (∀ k, s.replayable = some k → crc = true → s.on HLD_DUMP.INCOMPLETE = false →
      ∃ t, exec (.dumpLoad crc) s = .next t ∧ t.bootStep = 16 ∧ t.on HLD_DUMP.VALID = true ∧ t.fld HLD_GEN.GEN = (s.slotRec k).gen % 2 ^ 32 ∧
        t.hld.loaded = true ∧ t.hld.replaySlot = some k ∧ t.tubs.freshP = s.fld TUB_SPLIT.P ∧ t.on (EVT_SRC.PEND 365) = true ∧ keepsMem s t) ∧
    (s.dumpSlots ≠ [] → s.replayable = none ∨ crc = false → s.on HLD_DUMP.INCOMPLETE = false →
      ∃ t, exec (.dumpLoad crc) s = .next t ∧ t.bootStep = 15 ∧ t.on HLD_DUMP.INCOMPLETE = true ∧
        t.nv.incomplete = (s.nv.incomplete + 1) % 2 ^ 32 ∧ bit t.med.critWarn 4 = true ∧ t.on (EVT_SRC.PEND 356) = true ∧
        keepsRegs [HLD_DUMP.INCOMPLETE] s t ∧ keepsMem s t) ∧
    (s.dumpSlots = [] → exec (.dumpLoad crc) s = .next s)) ∧
  (∀ s : State, s.up = true →
    (s.bootStep = 15 → s.dumpSlots = [] → s.hld.loaded = false →
      ∃ t, exec .zoneTableReload s = .next t ∧ t.bootStep = 17 ∧ t.evr.scanned = true ∧ t.on (EVT_SRC.PEND 233) = true ∧
        (s.nv.checkpoint.bad = [] → t.fld ZPM_STAT.RELOAD = 2) ∧
        (s.nv.checkpoint.bad ≠ [] → t.fld ZPM_STAT.RELOAD = 3 ∧ t.on (EVT_SRC.PEND 234) = true) ∧
        (s.nv.lostPower = true → bit t.med.critWarn 2 = true ∧ t.nv.lostPower = false)) ∧
    (s.bootStep = 16 → s.hld.loaded = true →
      ∃ t, exec .zoneTableReload s = .next t ∧ t.bootStep = 17 ∧ t.evr.scanned = true ∧ t.on (EVT_SRC.PEND 233) = true ∧
        (s.nv.checkpoint.bad = [] → t.fld ZPM_STAT.RELOAD = 2) ∧
        (s.nv.checkpoint.bad ≠ [] → t.fld ZPM_STAT.RELOAD = 3 ∧ t.on (EVT_SRC.PEND 234) = true)) ∧
    (s.bootStep < 15 ∨ 16 < s.bootStep → exec .zoneTableReload s = .next s) ∧
    (s.bootStep = 17 → s.hld.loaded = true →
      ∃ t, exec .dumpApplication s = .next t ∧ t.bootStep = 18 ∧ t.nv.replayed = s.fld HLD_GEN.GEN ∧ t.on (EVT_SRC.PEND 366) = true ∧
        t.on (EVT_SRC.PEND 367) = true) ∧
    (s.bootStep = 17 → s.hld.loaded = false →
      ∃ t, exec .dumpApplication s = .next t ∧ t.bootStep = 18 ∧ t.nv.replayed = s.nv.replayed ∧
        (s.mediaIdle → s.med.folds = [] → s.med.remap = [] → t.nv = s.nv) ∧ keepsRegs (SYS_BOOTPHASE.STEP :: mediaFields) s t ∧ keepsMem s t) ∧
    (s.bootStep ≠ 17 → exec .dumpApplication s = .next s))

/-- R499, R500, R502, R503, R506 to R508 and R520: cores start and are reset, the device restarts only in INIT or CHARGING, a claim takes the lowest
pending source of its own target, a software trigger asserts its source, an asynchronous event is queued, merged, dropped or posted. -/
def Obligations.CoresEventsAndRestartsFollowTheirWrites : Prop :=
  (∀ (s : State) (m v n : Nat), s.reaches m SYS_CORECTL.RUN.addr → n < 4 → slice v 8 4 = 0 → slice v 0 4 = 2 ^ n →
    (12 ≤ s.bootStep → bit (s.fld SYS_CORECTL.RUN) n = false → n ∉ s.saf.lastingCores →
      ∃ t, exec (.coreRun m v) s = .next t ∧ bit (t.fld SYS_CORECTL.RUN) n = true ∧
        (∀ k, k < 4 → k ≠ n → bit (t.fld SYS_CORECTL.RUN) k = bit (s.fld SYS_CORECTL.RUN) k) ∧
        Tab.get 0 t.ctl.pc n = s.fld SYS_BOOTADDR.ADDR % 2 ^ 40 ∧ Tab.get 0 t.ctl.starts n = Tab.get 0 s.ctl.starts n + 1 ∧
        onlyRegs [SYS_CORECTL.RUN, SAF_WDOG.TIMEOUT n] s t) ∧
    (s.bootStep < 12 ∨ bit (s.fld SYS_CORECTL.RUN) n = true ∨ n ∈ s.saf.lastingCores →
      ∃ t, exec (.coreRun m v) s = .next t ∧ t.ctl = s.ctl ∧ onlyRegs [] s t)) ∧
  (∀ (s : State) (m v n : Nat), s.reaches m SYS_CORECTL.RUN.addr → n < 4 → slice v 0 4 = 0 → slice v 8 4 = 2 ^ n → s.tubs.queueP = [] →
    s.tubs.queueU = [] →
    (n ≠ 0 ∨ (∃ k, k < 4 ∧ 0 < k ∧ bit (s.fld SYS_CORECTL.RUN) k = true) →
      ∃ t, exec (.coreReset m v) s = .next t ∧ bit (t.fld SYS_CORECTL.RUN) n = false ∧
        (∀ k, k < 4 → k ≠ n → bit (t.fld SYS_CORECTL.RUN) k = bit (s.fld SYS_CORECTL.RUN) k) ∧ Tab.get none t.bus.resv n = none ∧
        (∀ x, s.fld TUB_SPLIT.P ≤ x → (s.tub x).owner = 8 + n → (t.tub x).owner = 0xFF) ∧ keepsRegs [SYS_CORECTL.RUN] s t ∧ keepsMem s t) ∧
    (n = 0 → s.fld SYS_CORECTL.RUN = 1 → 12 ≤ s.bootStep → 0 ∉ s.saf.lastingCores →
      ∃ t, exec (.coreReset m v) s = .next t ∧ t.fld SYS_CORECTL.RUN = 1 ∧ Tab.get 0 t.ctl.pc 0 = s.fld SYS_BOOTADDR.ADDR % 2 ^ 40 ∧
        Tab.get 0 t.ctl.starts 0 = Tab.get 0 s.ctl.starts 0 + 1 ∧ keepsRegs [SYS_CORECTL.RUN, SAF_WDOG.TIMEOUT 0] s t ∧ keepsMem s t)) ∧
  (∀ (s : State) (m v : Nat), s.reaches m SYS_RSTCTL.RESTART.addr →
    (bit v 31 = true → m ≤ 4 → s.hldState = hldInit ∨ s.hldState = hldCharging →
      ∃ t, exec (.restart m v) s = .next t ∧ t.ctl.cause = 6 ∧ t.ctl.pwrseq = 1 ∧ t.ctl.pgood = 0 ∧ t.fld AON_WAKE.CAUSE = 0xFF ∧
        t.drf.media = s.drf.media ∧ t.hfe.ctx = [] ∧ (∀ a, t.byte a = 0) ∧ (∀ k, k < 8 → t.fld (AON_RET.WORD k) = s.fld (AON_RET.WORD k))) ∧
    (bit v 31 = true → m ≤ 4 → s.hldState ≠ hldInit → s.hldState ≠ hldCharging →
      ∃ t, exec (.restart m v) s = .next t ∧ t.on SYS_RSTCTL.ERR = true ∧ t.ctl = s.ctl ∧ onlyRegs [SYS_RSTCTL.ERR] s t) ∧
    (bit v 31 = false ∨ 4 < m → ∃ t, exec (.restart m v) s = .next t ∧ t.ctl = s.ctl ∧ onlyRegs [] s t)) ∧
  (∀ (s : State) (m x : Nat), x < 6 → s.reaches m (EVT_CLAIM.VALID x).addr →
    (∀ n, n < 512 → m = x → s.on (EVT_SRC.PEND n) = true → s.on (EVT_SRC.EN n) = true → s.fld (EVT_SRC.TARGET n) = x →
      (∀ j, j < n → s.on (EVT_SRC.PEND j) = false ∨ s.on (EVT_SRC.EN j) = false ∨ s.fld (EVT_SRC.TARGET j) ≠ x) →
      ∃ t, exec (.eventClaim m x) s = .next t ∧ Tab.get 0 t.bus.rdata m = 2 ^ 31 + n ∧ t.on (EVT_SRC.PEND n) = false ∧
        onlyRegs [EVT_SRC.PEND n] s t) ∧
    (m ≠ x ∨ (∀ j, j < 512 → s.on (EVT_SRC.PEND j) = false ∨ s.on (EVT_SRC.EN j) = false ∨ s.fld (EVT_SRC.TARGET j) ≠ x) →
      ∃ t, exec (.eventClaim m x) s = .next t ∧ Tab.get 0 t.bus.rdata m = 0 ∧ onlyRegs [] s t)) ∧
  (∀ (s : State) (m x : Nat), 6 ≤ x → exec (.eventClaim m x) s = .next s) ∧
  (∀ (s : State) (m v n : Nat), s.reaches m EVT_SWTRIG.SOURCE.addr → n = slice v 0 9 →
    (480 ≤ n → ∃ t, exec (.softwareTrigger m v) s = .next t ∧ t.on (EVT_SRC.PEND n) = true ∧
      (s.on (EVT_SRC.PEND n) = true → t.on (EVT_SRC.OVF n) = true) ∧ keepsRegs [] s t ∧ keepsMem s t) ∧
    (n < 480 → ∃ t, exec (.softwareTrigger m v) s = .next t ∧ onlyRegs [] s t)) ∧
  (∀ (s : State) (m v f type info log e : Nat), s.reaches m EVT_AEN.TYPE.addr → f = slice v 0 9 → type = slice v 29 3 → info = slice v 21 8 →
    log = slice v 13 8 → e = log * 65536 + info * 256 + type →
    (bit v 12 = false → s.fnExists f = true → (s.fn f).en = true → aenEnabled (Tab.get 0 (s.fn f).feats 0x0B) type info = true →
      ((s.fn f).aers = [] → e ∉ (s.fn f).events → (s.fn f).events.length < 16 →
        ∃ t, exec (.asyncEventRaise m v) s = .next t ∧ t.fn f = { s.fn f with events := (s.fn f).events ++ [e] } ∧ t.hfe.posted = s.hfe.posted ∧
          (∀ g, g ≠ f → t.fn g = s.fn g) ∧ onlyRegs [] s t) ∧
      ((s.fn f).aers = [] → e ∈ (s.fn f).events ∨ 16 ≤ (s.fn f).events.length →
        ∃ t, exec (.asyncEventRaise m v) s = .next t ∧ t.hfe = s.hfe ∧ onlyRegs [] s t) ∧
      (∀ c tk rest, (s.fn f).aers = (c, tk) :: rest → (s.fn f).events = [] → (s.fn f).masked = [] → s.cqRoom f 0 = true →
        ∃ t, exec (.asyncEventRaise m v) s = .next t ∧
          t.hfe.posted = s.hfe.posted ++ [{ fn := f, cqid := 0, sqid := 0, cid := c, ticket := tk, status := 0, dw0 := e }] ∧
          (t.fn f).aers = rest ∧ (t.fn f).events = [] ∧ (t.fn f).masked = [e] ∧ (∀ g, g ≠ f → t.fn g = s.fn g) ∧ onlyRegs [] s t)) ∧
    (bit v 12 = false → s.fnExists f = false ∨ (s.fn f).en = false ∨ aenEnabled (Tab.get 0 (s.fn f).feats 0x0B) type info = false →
      ∃ t, exec (.asyncEventRaise m v) s = .next t ∧ t.hfe = s.hfe ∧ onlyRegs [] s t) ∧
    (bit v 12 = true →
      ∃ t, exec (.asyncEventRaise m v) s = .next t ∧ onlyRegs [] s t ∧
        ∀ g, g < 512 → s.fnExists g = true → (s.fn g).en = true → aenEnabled (Tab.get 0 (s.fn g).feats 0x0B) type info = true →
          (s.fn g).aers = [] → (s.fn g).events.length < 16 → e ∈ (t.fn g).events))

/-- R585, R590, R591 and R595 to R602 for Tally and the event recorder: a snapshot requested, a counter read with its halves, a soft trigger that records,
is suppressed or finds the ring full, flushes, the last area cleared, the cursor set, stepped and fetched. -/
def Obligations.RecordsAreTakenFlushedAndFetched : Prop :=
  (∀ (s : State) (m v : Nat), s.reaches m TLY_CTRL.SNAP.addr →
    ∃ t, exec (.snap m v) s = .next t ∧ t.tly = (if bit v 0 then { s.tly with req := true } else s.tly) ∧ keepsRegs [] s t ∧ keepsMem s t) ∧
  (∀ (s : State) (m : Nat), s.reaches m TLY_VAL.VALUE.addr →
    (∀ p, s.snap (s.fld TLY_SEL.AGE) = some p →
      ∃ t, exec (.tallyValueRead m) s = .next t ∧ Tab.get 0 t.bus.rdata m = p.counter (s.fld TLY_SEL.COUNTER) % 2 ^ 32 ∧
        Tab.get 0 t.bus.shadow (TLY_VAL.VALUE.addr * 16 + m) = p.counter (s.fld TLY_SEL.COUNTER) / 2 ^ 32 % 2 ^ 32 ∧
        Tab.get 0 t.bus.shadow (TLY_VEPOCH.EPOCH.addr * 16 + m) = p.epoch ∧ t.tly = s.tly ∧ keepsRegs [] s t ∧ keepsMem s t) ∧
    (s.snap (s.fld TLY_SEL.AGE) = none →
      ∃ t, exec (.tallyValueRead m) s = .next t ∧ Tab.get 0 t.bus.rdata m = 0 ∧ Tab.get 0 t.bus.shadow (TLY_VAL.VALUE.addr * 16 + m) = 0 ∧
        Tab.get 0 t.bus.shadow (TLY_VEPOCH.EPOCH.addr * 16 + m) = 0 ∧ t.tly = s.tly ∧ keepsRegs [] s t ∧ keepsMem s t)) ∧
  (∀ (s : State) (m v n k : Nat), s.reaches m EVR_TRIG.GO.addr → n = slice v 0 16 →
    (bit v 31 = false ∨ s.triggers 3 (fun a => a == n) = [] →
      ∃ t, exec (.softTrigger m v) s = .next t ∧ t.evr = s.evr ∧ keepsRegs [] s t ∧ keepsMem s t) ∧
    (bit v 31 = true → s.triggers 3 (fun a => a == n) = [k] → k ∈ s.evr.fired →
      ∃ t, exec (.softTrigger m v) s = .next t ∧ t.evr = s.evr ∧ t.fld EVR_STAT.SUPP = min (s.fld EVR_STAT.SUPP + 1) 0xFFFF ∧ keepsRegs [] s t ∧
        keepsMem s t) ∧
    (bit v 31 = true → s.triggers 3 (fun a => a == n) = [k] → k ∉ s.evr.fired → s.dnum (0x6010 + k) 4 ≠ 1 → s.evr.scanned = true →
      (s.evr.ring.length + s.evr.early.length < 1024 → s.evr.ring.length + 1 < s.dnum 0x6008 0 →
        ∃ t, exec (.softTrigger m v) s = .next t ∧
          (∃ r, t.evr.ring = s.evr.ring ++ [r] ∧ r.cls = 3 ∧ r.source = k ∧ r.detail = n ∧ r.seq = s.evr.nextSeq ∧ r.bt = s.bellTime ∧
            r.lost = s.evr.lostNext ∧ r.list = s.dnum (0x6010 + k) 3 ∧ r.mepoch = s.fld MSH_STAT.EPOCH ∧ r.mode = s.fld BEL_MODE_STAT.EPOCH) ∧
          t.evr.nextSeq = s.evr.nextSeq + 1 ∧ t.evr.lostNext = 0 ∧ keepsRegs [] s t ∧ keepsMem s t) ∧
      (1024 ≤ s.evr.ring.length + s.evr.early.length →
        ∃ t, exec (.softTrigger m v) s = .next t ∧ t.evr.ring = s.evr.ring ∧ t.evr.dropped = s.evr.dropped + 1 ∧
          t.evr.lostNext = min (s.evr.lostNext + 1) 2047 ∧ t.evr.nextSeq = s.evr.nextSeq ∧ keepsRegs [] s t ∧ keepsMem s t))) ∧
  (∀ (s : State) (m v : Nat), s.reaches m EVR_CTRL.EN.addr → bit v 1 = true → bit v 2 = false → bit v 3 = false →
    (s.on EVR_STAT.BUSY = true →
      ∃ t, exec (.recorderFlush m v) s = .next t ∧ t.evr = { s.evr with flushAgain := true } ∧ t.on EVR_CTRL.EN = bit v 0 ∧
        keepsRegs [EVR_CTRL.EN] s t ∧ keepsMem s t) ∧
    (s.on EVR_STAT.BUSY = false → s.areasOk = false →
      ∃ t, exec (.recorderFlush m v) s = .next t ∧ t.evr = s.evr ∧ t.on EVR_STAT.NOAREA = true ∧ keepsRegs [EVR_CTRL.EN] s t ∧ keepsMem s t) ∧
    (s.on EVR_STAT.BUSY = false → s.areasOk = true → s.evr.ring = [] →
      ∃ t, exec (.recorderFlush m v) s = .next t ∧ t.evr = s.evr ∧ t.on EVR_STAT.NOAREA = false ∧ keepsRegs [EVR_CTRL.EN] s t ∧ keepsMem s t) ∧
    (s.on EVR_STAT.BUSY = false → s.areasOk = true → s.evr.ring ≠ [] → s.grp 3 ≠ groupReady →
      ∃ t, exec (.recorderFlush m v) s = .next t ∧ t.evr = { s.evr with flushAgain := true } ∧ keepsRegs [EVR_CTRL.EN] s t ∧ keepsMem s t) ∧
    (s.on EVR_STAT.BUSY = false → s.areasOk = true → s.evr.ring ≠ [] → s.grp 3 = groupReady →
      ∃ t, exec (.recorderFlush m v) s = .next t ∧ t.evr = { s.evr with flushing := s.evr.ring.length, lastFlush := s.bell.frame } ∧
        t.on EVR_STAT.BUSY = true ∧ t.on EVR_STAT.NOAREA = false ∧
        (s.hld.committed = false → ∃ d, d.work = .recFlush ∧ d.die = s.flushTarget.1 / 131072 % 16 ∧ d.page = s.flushTarget.2 ∧
          (clsMaint, d) ∈ (t.engine (s.flushTarget.1 / 131072 / 16)).hwq) ∧ keepsRegs [EVR_CTRL.EN] s t ∧ keepsMem s t)) ∧
  (∀ s : State,
    (s.up = true → s.on EVR_STAT.BUSY = false → s.areasOk = true → s.evr.ring ≠ [] → s.grp 3 = groupReady →
      ∃ t, exec .recorderFlushTimer s = .next t ∧ t.evr = { s.evr with flushing := s.evr.ring.length, lastFlush := s.bell.frame } ∧
        t.on EVR_STAT.BUSY = true ∧ keepsRegs [] s t ∧ keepsMem s t) ∧
    (s.up = true → s.on EVR_STAT.BUSY = false → s.areasOk = false →
      ∃ t, exec .recorderFlushTimer s = .next t ∧ t.evr = s.evr ∧ t.on EVR_STAT.NOAREA = true ∧ keepsRegs [] s t ∧ keepsMem s t) ∧
    (s.up = false → exec .recorderFlushTimer s = .next s)) ∧
  (∀ (s : State) (m v : Nat), s.reaches m EVR_CTRL.EN.addr → bit v 1 = false →
    (bit v 2 = true → bit v 3 = false →
      ∃ t, exec (.clrlast m v) s = .next t ∧ t.evr = { s.evr with last := [], lastUnits := [], lastPages := 0, flushed := [] } ∧
        t.on EVR_CTRL.EN = bit v 0 ∧ keepsRegs [EVR_CTRL.EN] s t ∧ keepsMem s t) ∧
    (∀ r, bit v 2 = false → bit v 3 = true → r ∈ s.heldRecs → s.fld EVR_CUR.SEQ < r.seq →
      (∀ x ∈ s.heldRecs, s.fld EVR_CUR.SEQ < x.seq → r.seq ≤ x.seq) →
      ∃ t, exec (.step m v) s = .next t ∧ t.fld EVR_CUR.SEQ = r.seq % 2 ^ 64 ∧ t.fld EVR_WST.STATE = wstFetching ∧ t.evr = s.evr ∧
        keepsRegs [EVR_CTRL.EN, EVR_CUR.SEQ, EVR_WST.STATE] s t ∧ keepsMem s t) ∧
    (bit v 2 = false → bit v 3 = true → (∀ x ∈ s.heldRecs, x.seq ≤ s.fld EVR_CUR.SEQ) →
      ∃ t, exec (.step m v) s = .next t ∧ t.fld EVR_CUR.SEQ = s.fld EVR_CUR.SEQ ∧ t.fld EVR_WST.STATE = wstNotYet ∧ t.evr = s.evr ∧
        keepsRegs [EVR_CTRL.EN, EVR_WST.STATE] s t ∧ keepsMem s t)) ∧
  (∀ (s : State) (m v lo : Nat), s.reaches m (EVR_CUR.SEQ.addr + 4) →
    (Tab.get none s.bus.staged (EVR_CUR.SEQ.addr * 16 + m) = some lo ∨
        Tab.get none s.bus.staged (EVR_CUR.SEQ.addr * 16 + m) = none ∧ lo = s.fld EVR_CUR.SEQ →
      ∃ t, exec (.recordFetch m v) s = .next t ∧ t.fld EVR_CUR.SEQ = v % 2 ^ 32 * 2 ^ 32 + lo % 2 ^ 32 ∧ t.fld EVR_WST.STATE = wstFetching ∧
        Tab.get none t.bus.staged (EVR_CUR.SEQ.addr * 16 + m) = none ∧ t.evr = s.evr ∧ keepsRegs [EVR_CUR.SEQ, EVR_WST.STATE] s t ∧
        keepsMem s t)) ∧
  (∀ (s : State) (crc : Bool) (q : Nat), s.up = true → s.fld EVR_WST.STATE = wstFetching → q = s.fld EVR_CUR.SEQ →
    (∀ r, s.heldRecs.find? (fun x => x.seq == q) = some r →
      ∃ t, exec (.recordFetchDone crc) s = .next t ∧ t.fld EVR_WST.STATE = wstPresent ∧
        (∀ i, i < 24 → t.fld (EVR_WIN.WORD i) = r.words.getD i 0 % 2 ^ 32) ∧
        t.on EVR_WST.CRCERR = (!((s.evr.ring ++ s.evr.flushed).any fun x => x.seq == q) && !crc) ∧
        onlyRegs (EVR_WST.STATE :: EVR_WST.CRCERR :: (List.range 24).map EVR_WIN.WORD) s t) ∧
    ((∀ r ∈ s.heldRecs, r.seq ≠ q) →
      ∃ t, exec (.recordFetchDone crc) s = .next t ∧ t.fld EVR_WST.STATE = (if q < s.evr.nextSeq then wstGone else wstNotYet) ∧
        t.on EVR_WST.CRCERR = false ∧ onlyRegs [EVR_WST.STATE, EVR_WST.CRCERR] s t)) ∧
  (∀ (s : State) (crc : Bool), s.fld EVR_WST.STATE ≠ wstFetching → exec (.recordFetchDone crc) s = .next s)

/-- R498, R515, R607, R609 to R615 for the safety mechanisms: a kick, a watchdog that expires, a missing heartbeat, a lockstep mismatch, a supply that
trips, the reference clock lost, a periodic self-test, a scrub read and the verdict of a targeted self-test have the outcomes of Table 20.3. -/
def Obligations.FaultsHaveTheirOutcomes : Prop :=
  (∀ (s : State) (m n v : Nat), n < 6 → s.reaches m (SAF_WDOG.KICK n).addr →
    (m = n →
      ∃ t, exec (.kick m n v) s = .next t ∧ t.fld (SAF_WDOG.TIMEOUT n) = slice v 0 5 ∧
        t.saf = (if bit v 31 then { s.saf with wdogAt := Tab.set 0 s.saf.wdogAt n s.now } else s.saf) ∧ keepsRegs [SAF_WDOG.TIMEOUT n] s t ∧
        keepsMem s t) ∧
    (m ≠ n → ∃ t, exec (.kick m n v) s = .next t ∧ t.saf = s.saf ∧ keepsRegs [] s t ∧ keepsMem s t)) ∧
  (∀ (s : State) (m n v : Nat), 6 ≤ n → exec (.kick m n v) s = .next s) ∧
  (∀ (s : State) (n : Nat), n < 4 → s.procRuns n = true → n ≠ 0 ∨ (∃ k, k < 4 ∧ 0 < k ∧ bit (s.fld SYS_CORECTL.RUN) k = true) →
    (s.on SAF_CTRL.WDOG_EN = true → n ∉ s.tst.halted →
      ∃ t, exec (.watchdogExpire n) s = .next t ∧ s.noted t 0x03 n 2 ∧ t.on (EVT_SRC.PEND 452) = true ∧ bit (t.fld SYS_CORECTL.RUN) n = false ∧
        (∀ k, k < 4 → k ≠ n → bit (t.fld SYS_CORECTL.RUN) k = bit (s.fld SYS_CORECTL.RUN) k) ∧ keepsMem s t) ∧
    (∃ t, exec (.lockstepMismatch n) s = .next t ∧ s.noted t 0x01 n 2 ∧ t.on (EVT_SRC.PEND 453) = true ∧ bit (t.fld SYS_CORECTL.RUN) n = false ∧
      (∀ k, k < 4 → k ≠ n → bit (t.fld SYS_CORECTL.RUN) k = bit (s.fld SYS_CORECTL.RUN) k) ∧ keepsMem s t)) ∧
  (∀ s : State, s.up = true →
    (s.memc.clearing = false → s.on SAF_CTRL.WDOG_EN = true → 4 ∉ s.tst.halted → ∃ t, exec (.watchdogExpire 4) s = .next t ∧ s.safelyReset t 0x04 4) ∧
    (s.ctl.vaon = true → s.on SAF_CTRL.WDOG_EN = true → 5 ∉ s.tst.halted →
      ∃ t, exec (.watchdogExpire 5) s = .next t ∧ s.noted t 0x13 5 2 ∧ t.on (EVT_SRC.PEND 452) = true ∧
        (∀ a, Tab.get none t.bus.staged (a * 16 + 5) = none ∧ Tab.get 0 t.bus.shadow (a * 16 + 5) = 0) ∧ keepsRegs noteFields s t ∧ keepsMem s t) ∧
    (s.memc.clearing = false → ∃ t, exec (.lockstepMismatch 4) s = .next t ∧ s.safelyReset t 0x02 4) ∧
    (∀ u, u ∉ s.bell.modeFenced → u ∉ s.saf.unitHold → (∀ d, unitDomain u = some d → s.fld (PWR_DOM.STATE d) = 0) →
      ∃ t, exec (.heartbeatMissing u) s = .next t ∧ s.safelyReset t 0x0D u) ∧
    (∀ u, u ∈ s.bell.modeFenced ∨ u ∈ s.saf.unitHold ∨ (∃ d, unitDomain u = some d ∧ s.fld (PWR_DOM.STATE d) ≠ 0) →
      exec (.heartbeatMissing u) s = .next s) ∧
    (∃ t, exec .referenceClockLost s = .next t ∧ s.safelyReset t 0x0F 0) ∧
    (∀ k, ∃ t, exec (.supplyMonitorTrip k) s = .next t ∧ t.ctl.pwrseq = 0 ∧ t.ctl.pgood = 0 ∧ t.nv.lostPower = true ∧
      t.ret3 0 4 = (if k < 8 then k + 1 else 0) ∧ t.ctl.attempts = s.ctl.attempts + 1 ∧ t.drf.media = s.drf.media ∧
      Tab.get 0 t.saf.det 0x0E = min (Tab.get 0 s.saf.det 0x0E + 1) 0xFFFFFFFF ∧ (s.ctl.attempts < 2 → t.ctl.retry = true) ∧
      (2 ≤ s.ctl.attempts → t.ctl.stoppedSup = true ∧ t.ctl.waitMain = true))) ∧
  (∀ (s : State) (n : Nat),
    (s.on SAF_CTRL.WDOG_EN = false ∨ n ∈ s.tst.halted ∨ s.procRuns n = false ∨ s.up = false → exec (.watchdogExpire n) s = .next s) ∧
    (s.procRuns n = false ∨ 4 < n → exec (.lockstepMismatch n) s = .next s) ∧
    (s.up = false → exec (.heartbeatMissing n) s = .next s ∧ exec (.supplyMonitorTrip n) s = .next s ∧ exec .referenceClockLost s = .next s)) ∧
  (∀ (s : State) (k : Nat) (pass : Bool),
    (s.up = true → s.on SAF_CTRL.PST_EN = true → pass = false → k ≤ 8 →
      ∃ t, exec (.periodicSelfTest k pass) s = .next t ∧ s.noted t 0x11 k 0 ∧ t.on (EVT_SRC.PEND 457) = true ∧ bit t.med.critWarn 2 = true ∧
        keepsRegs noteFields s t ∧ keepsMem s t) ∧
    (s.up = false ∨ s.on SAF_CTRL.PST_EN = false ∨ pass = true ∨ 8 < k → exec (.periodicSelfTest k pass) s = .next s)) ∧
  (∀ (s : State) (a bad : Nat), s.up = true → s.memc.clearing = false → s.on SAF_CTRL.SCRUB_EN = true → a < scrubPass →
    (bad = 0 →
      ∃ t, exec (.scrubRead a bad) s = .next t ∧
        t.saf = { s.saf with scrubAt := if s.saf.scrubAt + 8 = scrubPass then 0 else s.saf.scrubAt + 8 } ∧
        (s.saf.scrubAt + 8 = scrubPass → t.on (EVT_SRC.PEND 458) = true) ∧ keepsRegs [] s t ∧ keepsMem s t) ∧
    (bad ≠ 0 → a < 0x6400000 →
      ∃ t, exec (.scrubRead a bad) s = .next t ∧ s.noted t (s.scrubType a) (a / 0x200000) 0 ∧ t.on (EVT_SRC.PEND 459) = true ∧
        t.on (EVT_SRC.PEND (if a < 0x6000000 then 256 else 257)) = true ∧ t.fld MEM_STAT.PARCNT = min (s.fld MEM_STAT.PARCNT + 1) 0xFFFF ∧
        (s.on MEM_PARERR.VALID = false → t.on MEM_PARERR.VALID = true ∧ t.fld MEM_PARERR.MASTER = 0xFF ∧ t.fld MEM_PARERR.BYTES = bad % 256 ∧
          t.fld MEM_PARADDR.ADDR_LO = scrubAddr a % 2 ^ 32) ∧
        keepsRegs ([MEM_STAT.PARCNT, MEM_PARERR.VALID, MEM_PARERR.MASTER, MEM_PARERR.BYTES, MEM_PARERR.ADDR_HI, MEM_PARADDR.ADDR_LO] ++ noteFields)
          s t ∧ keepsMem s t) ∧
    (bad ≠ 0 → 0x6400000 ≤ a →
      ∃ t, exec (.scrubRead a bad) s = .next t ∧ s.noted t 0x08 (a / 0x200000) 0 ∧ t.on (EVT_SRC.PEND 459) = true ∧
        t.on (EVT_SRC.PEND 258) = true ∧ t.on TUB_STAT.HPARERR = true ∧ (t.tub ((a - 0x6400000) / 8)).bad = true ∧
        keepsRegs (TUB_STAT.HPARERR :: noteFields) s t ∧ keepsMem s t)) ∧
  (∀ (s : State) (a bad : Nat), s.up = false ∨ s.memc.clearing = true ∨ s.on SAF_CTRL.SCRUB_EN = false ∨ scrubPass ≤ a →
    exec (.scrubRead a bad) s = .next s) ∧
  (∀ (s : State) (ty unit : Nat), s.up = true → s.testRuns ty unit = true →
    (∃ t, exec (.selfTestVerdict ty unit true) s = .next t ∧ Tab.get 0 t.saf.trans ty = min (Tab.get 0 s.saf.trans ty + 1) 0xFFFFFFFF ∧
      (ty, unit) ∉ t.saf.tests ∧ (ty, unit) ∉ t.saf.nextStart ∧ t.on (EVT_SRC.PEND 449) = true ∧
      (s.saf.last / 2 ^ 24 = ty → t.fld SAF_STAT.VERDICT = 2) ∧ keepsRegs [SAF_STAT.VERDICT] s t ∧ keepsMem s t) ∧
    (ty ≠ 0x09 →
      ∃ t, exec (.selfTestVerdict ty unit false) s = .next t ∧ Tab.get 0 t.saf.lasting ty = min (Tab.get 0 s.saf.lasting ty + 1) 0xFFFFFFFF ∧
        (ty, unit) ∉ t.saf.tests ∧ (ty, unit) ∉ t.saf.nextStart ∧ t.on (EVT_SRC.PEND 450) = true ∧
        (s.saf.last / 2 ^ 24 = ty → t.fld SAF_STAT.VERDICT = 3) ∧ t.fld SAF_STAT.LASTING = min (s.fld SAF_STAT.LASTING + 1) 0xFFFF ∧
        (ty = 0x01 ∨ ty = 0x03 → unit < 4 → unit ∈ t.saf.lastingCores ∧ bit (t.fld SYS_CORECTL.RUN) unit = false) ∧
        (ty = 0x02 ∨ ty = 0x04 → t.saf.secHold = true) ∧
        (ty = 0x0A → if unit < 128 then t.saf.badLanes = s.saf.badLanes + 1 else t.saf.badGcm = s.saf.badGcm + 1) ∧
        (ty = 0x0B → unit ∈ t.saf.badDec) ∧ (ty = 0x0C ∨ ty = 0x0F → t.saf.startHold = true) ∧
        (ty = 0x0D → unit ∈ t.saf.unitHold ∧ (unit < 128 → t.engState unit = engFenced)) ∧
        (ty = 0x10 → bit t.saf.marked 8 = true ∧ t.saf.compBad = true) ∧ (ty = 0x11 → bit t.saf.marked unit = true) ∧
        (ty = 0x13 → t.saf.lampRomOnly = true) ∧ keepsMem s t) ∧
    (ty = 0x09 → ∃ t, exec (.selfTestVerdict ty unit false) s = .next t ∧ t.ctl.cause = 8)) ∧
  (∀ (s : State) (ty unit : Nat) (pass : Bool), s.up = false ∨ s.testRuns ty unit = false → exec (.selfTestVerdict ty unit pass) s = .next s)

/-- R621 to R625, R628 and R630: a loopback starts on an idle slot whose conditions hold, is refused with its REASON, ends at STOP or at its duration with
the counts gathered; a self-test of memory or microcode runs one at a time and leaves a tested bank zero. -/
def Obligations.LoopbacksAndBistRunAndEnd : Prop :=
  (∀ (s : State) (m k v intf index depth : Nat), k < 4 → s.reaches m (TST_LBCTL.GO k).addr → intf = slice v 24 4 → index = slice v 8 4 →
    depth = slice v 20 4 → bit v 30 = false →
    (bit v 31 = false ∨ (s.loopOf k).isSome = true →
      ∃ t, exec (.loopbackStart m k v) s = .next t ∧ t.tst = s.tst ∧ t.fld (TST_LBCTL.INTF k) = intf ∧ t.fld (TST_LBCTL.DEPTH k) = depth ∧
        t.fld (TST_LBCTL.INDEX k) = index ∧ t.fld (TST_LBCTL.PAT k) = slice v 18 2 ∧ t.fld (TST_LBCTL.DURATION k) = slice v 0 8 ∧
        keepsRegs (lbctlFields k) s t ∧ keepsMem s t) ∧
    (∀ r, bit v 31 = true → s.loopOf k = none →
      r = (if depth = 0 ∨ 3 < depth ∨ 5 < intf then 3
        else if s.hld.committed then 4
        else if (List.range 4).any (fun j => match s.loopOf j with | some l => l.1 == intf && l.2.1 == index | none => false) then 2
        else if !s.loopOk intf index depth then 1 else 0) →
      (r ≠ 0 → ∃ t, exec (.loopbackStart m k v) s = .next t ∧ t.tst = s.tst ∧ t.fld (TST_LBSTAT.STATE k) = 3 ∧ t.fld (TST_LBSTAT.REASON k) = r ∧
        keepsRegs (lbctlFields k ++ lbstatFields k) s t ∧ keepsMem s t) ∧
      (r = 0 → intf ≠ 1 ∨ s.fld BEL_MODE_STAT.STATE = modeStable →
        ∃ t, exec (.loopbackStart m k v) s = .next t ∧ t.loopOf k = some (intf, index, depth) ∧
          (∀ j, j ≠ k → t.loopOf j = s.loopOf j) ∧ t.fld (TST_LBSTAT.STATE k) = 1 ∧ t.fld (TST_LBSTAT.REASON k) = 0 ∧
          t.fld (TST_LBSTAT.ERRORS k) = 0 ∧ t.fld (TST_LBBITS.BITS k) = 0 ∧ t.fld (TST_LBLANE.LANES k) = 0 ∧
          (intf = 1 → t.on (FCH_GSTAT.WP index) = false) ∧ (intf = 0 → depth = 3 → t.fld (PCI_LSTAT.LTSSM index) = 8) ∧
          keepsRegs (FCH_GSTAT.WP index :: PCI_LSTAT.LTSSM index :: lbctlFields k ++ lbstatFields k) s t ∧ keepsMem s t))) ∧
  (∀ (s : State) (m k v bits errors lanes : Nat), k < 4 → s.reaches m (TST_LBCTL.GO k).addr → bit v 31 = false →
    (∀ l, bit v 30 = true → s.loopOf k = some l → 1 < l.1 →
      ∃ t, exec (.loopbackStop m k v bits errors lanes) s = .next t ∧ t.loopOf k = none ∧ t.fld (TST_LBSTAT.STATE k) = 3 ∧
        t.fld (TST_LBSTAT.REASON k) = 6 ∧ t.fld (TST_LBSTAT.ERRORS k) = min errors 0xFFFFFF ∧ t.fld (TST_LBBITS.BITS k) = bits % 2 ^ 64 ∧
        t.fld (TST_LBLANE.LANES k) = lanes % 256 ∧ keepsRegs (lbctlFields k ++ lbstatFields k) s t ∧ keepsMem s t) ∧
    (bit v 30 = false ∨ s.loopOf k = none →
      ∃ t, exec (.loopbackStop m k v bits errors lanes) s = .next t ∧ t.tst = s.tst ∧ keepsRegs (lbctlFields k) s t ∧ keepsMem s t)) ∧
  (∀ (s : State) (m k v b e l : Nat), 4 ≤ k → exec (.loopbackStart m k v) s = .next s ∧ exec (.loopbackStop m k v b e l) s = .next s) ∧
  (∀ (s : State) (k bits errors lanes : Nat), k < 4 →
    (∀ l, s.fld (TST_LBCTL.DURATION k) ≠ 0 → s.loopOf k = some l →
      ∃ t, exec (.loopbackDurationEnd k bits errors lanes) s = .next t ∧ t.loopOf k = none ∧ t.fld (TST_LBSTAT.STATE k) = 2 ∧
        t.fld (TST_LBSTAT.REASON k) = 0 ∧ t.fld (TST_LBSTAT.ERRORS k) = min errors 0xFFFFFF ∧ t.fld (TST_LBBITS.BITS k) = bits % 2 ^ 64 ∧
        t.fld (TST_LBLANE.LANES k) = lanes % 256 ∧ (1 < l.1 → onlyRegs (lbstatFields k) s t)) ∧
    (s.fld (TST_LBCTL.DURATION k) = 0 ∨ s.loopOf k = none → exec (.loopbackDurationEnd k bits errors lanes) s = .next s)) ∧
  (∀ (s : State) (m v ty tgt : Nat), s.reaches m TST_BIST.GO.addr → ty = slice v 8 2 → tgt = slice v 0 8 →
    (bit v 31 = true → s.tst.bistRun = none → s.bistOk ty tgt = true →
      ∃ t, exec (.bistStart m v) s = .next t ∧ t.tst = { s.tst with bistRun := some (ty, tgt) } ∧ t.fld TST_BISTRES.STATE = 1 ∧
        t.on TST_BISTRES.PASS = false ∧ t.fld TST_BISTRES.NFAIL = 0 ∧ t.fld TST_BISTRES.FIRST = 0 ∧
        keepsRegs [TST_BIST.TYPE, TST_BIST.TARGET, TST_BISTRES.STATE, TST_BISTRES.PASS, TST_BISTRES.NFAIL, TST_BISTRES.FIRST] s t ∧
        keepsMem s t) ∧
    (bit v 31 = true → s.tst.bistRun ≠ none ∨ s.bistOk ty tgt = false →
      ∃ t, exec (.bistStart m v) s = .next t ∧ t.tst = s.tst ∧ t.fld TST_BISTRES.STATE = 3 ∧
        keepsRegs [TST_BIST.TYPE, TST_BIST.TARGET, TST_BISTRES.STATE] s t ∧ keepsMem s t) ∧
    (bit v 31 = false →
      ∃ t, exec (.bistStart m v) s = .next t ∧ t.tst = s.tst ∧ t.fld TST_BIST.TYPE = ty ∧ t.fld TST_BIST.TARGET = tgt ∧
        keepsRegs [TST_BIST.TYPE, TST_BIST.TARGET] s t ∧ keepsMem s t)) ∧
  (∀ (s : State) (nfail first ty tgt : Nat),
    (s.tst.bistRun = some (ty, tgt) →
      ∃ t, exec (.bistDone nfail first) s = .next t ∧ t.tst = { s.tst with bistRun := none } ∧ t.fld TST_BISTRES.STATE = 2 ∧
        t.on TST_BISTRES.PASS = (nfail == 0) ∧ t.fld TST_BISTRES.NFAIL = min nfail 0x7FF ∧
        t.fld TST_BISTRES.FIRST = (if nfail = 0 then 0 else first % 2 ^ 11) ∧
        (∀ a, (ty = 0 ∧ tgt < 48 ∧ 0x20000000 + tgt * 0x200000 ≤ a ∧ a < 0x20000000 + (tgt + 1) * 0x200000) ∨
            (ty = 0 ∧ 48 ≤ tgt ∧ 0x10000000 + (tgt - 48) * 0x80000 ≤ a ∧ a < 0x10000000 + (tgt - 47) * 0x80000) → t.byte a = 0) ∧
        (∀ a, ty ≠ 0 ∨ (tgt < 48 ∧ (a < 0x20000000 + tgt * 0x200000 ∨ 0x20000000 + (tgt + 1) * 0x200000 ≤ a)) ∨
            (48 ≤ tgt ∧ (a < 0x10000000 + (tgt - 48) * 0x80000 ∨ 0x10000000 + (tgt - 47) * 0x80000 ≤ a)) → t.byte a = s.byte a) ∧
        keepsRegs [TST_BISTRES.STATE, TST_BISTRES.PASS, TST_BISTRES.NFAIL, TST_BISTRES.FIRST] s t) ∧
    (s.tst.bistRun = none → exec (.bistDone nfail first) s = .next s))

/-- R631 to R635: the TAP instructions select their registers and drive the balls only while the cells may; the debug module halts and reports the harts that are
open; a debug request is verified once at a time, and three failures end the requests. -/
def Obligations.TapAndDebugAccessFollowTheirTables : Prop :=
  (∀ s : State,
    exec .idcode s = .next { s with tst := { s.tst with ir := 0x01, drive := 0, dr := 0x18128A2B } } ∧
    exec .extest s = .next { s with tst := { s.tst with ir := 0x03, drive := 1, dr := 0 } } ∧
    exec .highz s = .next { s with tst := { s.tst with ir := 0x04, drive := 2, dr := 0 } } ∧
    exec .clamp s = .next { s with tst := { s.tst with ir := 0x05, drive := 3, dr := 0 } } ∧
    exec .extestPulse s = .next { s with tst := { s.tst with ir := 0x06, drive := 4, dr := 0 } } ∧
    exec .extestTrain s = .next { s with tst := { s.tst with ir := 0x07, drive := 5, dr := 0 } }) ∧
  (∀ s : State, (s.hldState = hldInit ∨ s.hldState = hldCharging) ∧ s.on HFE_CTRL.ADMIT_EN = false ∧ s.cellDrive = s.tst.drive ∨
    (s.hldState ≠ hldInit ∧ s.hldState ≠ hldCharging ∨ s.on HFE_CTRL.ADMIT_EN = true) ∧ s.cellDrive = 0) ∧
  (∀ (s : State) (cells : List Nat),
    ∃ t, exec (.samplePreload cells) s = .next t ∧ t.tst.ir = 0x02 ∧ t.tst.drive = 0 ∧
      (∀ i v, i < 4412 → cells[i]? = some v → Tab.get 0 t.tst.cells i = v % 2) ∧
      (∀ i, 4412 ≤ i ∨ cells.length ≤ i → Tab.get 0 t.tst.cells i = Tab.get 0 s.tst.cells i) ∧ onlyRegs [] s t) ∧
  (∀ (s : State) (opcode : Nat),
    (opcode % 256 ∉ [0x01, 0x02, 0x03, 0x04, 0x05, 0x06, 0x07, 0x10, 0x11] →
      exec (.bypass opcode) s = .next { s with tst := { s.tst with ir := opcode % 256, drive := 0, dr := 0 } }) ∧
    (opcode % 256 ∈ [0x01, 0x02, 0x03, 0x04, 0x05, 0x06, 0x07, 0x10, 0x11] → exec (.bypass opcode) s = .next s)) ∧
  (∀ s : State,
    exec (.dtmcs false) s = .next { s with tst := { s.tst with ir := 0x10, drive := 0, dr := 0x71 + s.tst.dmistat * 2 ^ 10 } } ∧
    exec (.dtmcs true) s = .next { s with tst := { s.tst with ir := 0x10, drive := 0, dr := 0x71, dmistat := 0 } }) ∧
  (∀ (s : State) (a d h : Nat), s.tst.dmistat = 0 → h = slice d 16 10 + slice d 6 10 * 1024 →
    (bit d 0 = true → bit d 31 = true → s.hartOpen h = true → h ∉ s.tst.halted →
      ∃ t, exec (.dmi 2 0x10 d) s = .next t ∧ t.tst.halted = s.tst.halted ++ [h] ∧ t.tst.ir = 0x11 ∧ onlyRegs [] s t) ∧
    (bit d 0 = true → bit d 31 = false → bit d 30 = true → s.hartOpen h = true →
      ∃ t, exec (.dmi 2 0x10 d) s = .next t ∧ h ∉ t.tst.halted ∧ (∀ x, x ≠ h → (x ∈ t.tst.halted ↔ x ∈ s.tst.halted)) ∧ onlyRegs [] s t) ∧
    (bit d 0 = true → s.hartOpen h = false → ∃ t, exec (.dmi 2 0x10 d) s = .next t ∧ t.tst.halted = s.tst.halted ∧ onlyRegs [] s t) ∧
    (bit d 0 = false → ∃ t, exec (.dmi 2 0x10 d) s = .next t ∧ t.tst.halted = [] ∧ t.tst.dmi = [] ∧ onlyRegs [] s t) ∧
    (a ≠ 0x10 → a ≠ 0x11 → ∃ t, exec (.dmi 2 a d) s = .next t ∧ Tab.get 0 t.tst.dmi a = d ∧ t.tst.halted = s.tst.halted ∧ onlyRegs [] s t) ∧
    (a ≠ 0x11 → ∃ t, exec (.dmi 1 a d) s = .next t ∧ t.tst.dmiData = Tab.get 0 s.tst.dmi a ∧ onlyRegs [] s t) ∧
    (∃ t, exec (.dmi 3 a d) s = .next t ∧ t.tst.dmistat = 2 ∧ onlyRegs [] s t)) ∧
  (∀ (s : State) (a d h : Nat), s.tst.dmistat = 0 → h = dmHart (Tab.get 0 s.tst.dmi 0x10) →
    exec (.dmi 0 a d) s = .next { s with tst := { s.tst with ir := 0x11, drive := 0, dr := 0 } } ∧
    ∃ t, exec (.dmi 1 0x11 d) s = .next t ∧ onlyRegs [] s t ∧
      t.tst.dmiData % 2 ^ 8 = 0x83 ∧ (bit t.tst.dmiData 9 = true ↔ s.hartOpen h = true ∧ h ∈ s.tst.halted) ∧
      (bit t.tst.dmiData 11 = true ↔ s.hartOpen h = true ∧ h ∉ s.tst.halted) ∧ (bit t.tst.dmiData 15 = true ↔ s.hartOpen h = false)) ∧
  (∀ (s : State) (op a d : Nat), s.tst.dmistat ≠ 0 →
    exec (.dmi op a d) s = .next { s with tst := { s.tst with ir := 0x11, drive := 0, dr := 0 } }) ∧
  (∀ (s : State) (h : Nat),
    (s.hartOpen h = true → ∃ t, exec (.debugHalt h) s = .next t ∧ h ∈ t.tst.halted ∧ (∀ x ∈ s.tst.halted, x ∈ t.tst.halted) ∧ onlyRegs [] s t) ∧
    (s.hartOpen h = false → exec (.debugHalt h) s = .next s) ∧
    (s.hartOpen h = true → h ≠ 4 → h < 6 ∧ (s.cip.lifecycle ≠ 3 ∨ s.fld TST_DBG.UNLOCKED ≠ 0))) ∧
  (∀ (s : State) (m v l : Nat), s.reaches m TST_DBG.REQ.addr → l = slice v 28 2 →
    (bit v 31 = true → s.on TST_DBG.BUSY = false → s.fld TST_DBG.FAILS < 3 → l = 1 ∨ l = 2 →
      ∃ t, exec (.debugUnlockRequest m v) s = .next t ∧ t.on TST_DBG.BUSY = true ∧ t.tst = { s.tst with dbgLevel := l } ∧
        keepsRegs [TST_DBG.BUSY] s t ∧ keepsMem s t) ∧
    (bit v 31 = false ∨ s.on TST_DBG.BUSY = true ∨ 3 ≤ s.fld TST_DBG.FAILS ∨ l = 0 ∨ l = 3 →
      ∃ t, exec (.debugUnlockRequest m v) s = .next t ∧ t.tst = s.tst ∧ keepsRegs [] s t ∧ keepsMem s t)) ∧
  (∀ (s : State) (k sg : Bool),
    (s.on TST_DBG.BUSY = false → exec (.debugUnlockVerdict k sg) s = .next s) ∧
    (s.on TST_DBG.BUSY = true → k = true → sg = true →
      ∃ t, exec (.debugUnlockVerdict k sg) s = .next t ∧ t.on TST_DBG.BUSY = false ∧
        t.fld TST_DBG.UNLOCKED = max (s.fld TST_DBG.UNLOCKED) s.tst.dbgLevel % 4 ∧ onlyRegs [TST_DBG.BUSY, TST_DBG.UNLOCKED] s t) ∧
    (s.on TST_DBG.BUSY = true → k = false ∨ sg = false →
      ∃ t, exec (.debugUnlockVerdict k sg) s = .next t ∧ t.on TST_DBG.BUSY = false ∧ t.fld TST_DBG.FAILS = min 3 (s.fld TST_DBG.FAILS + 1) ∧
        (∀ i, i < 8 → t.fld (TST_DBGCHAL.WORD i) = slice (Config.draw 0 s.cip.drawn0).toNat (32 * i) 32) ∧
        t.cip.drawn0 = s.cip.drawn0 + 1 ∧
        onlyRegs (TST_DBG.BUSY :: TST_DBG.FAILS :: (List.range 8).map TST_DBGCHAL.WORD) s t))

/-- Table 12.2 and R386 to R389 once more, for the completion of the membership commands alone: whatever runs on the die and whatever spares there are, a
command of MSH_DCMD, a probe and a self-test's end take a die from each state that allows it to the state the table gives. -/
def Obligations.MembershipCommandsComplete : Prop :=
  (∀ (s : State) (m d : Nat), d < 2048 → s.reaches m MSH_DCMD.OP.addr →
    ((s.mem d).state = .member → ∃ t, exec (.fail m d) s = .next t ∧ (t.mem d).state = .failed ∧ t.fenced (d / 16) (d % 16) = true) ∧
    ((s.mem d).state = .rebuilding → ∃ t, exec (.fail m d) s = .next t ∧ (t.mem d).state = .failed ∧ t.fenced (d / 16) (d % 16) = true) ∧
    ((s.mem d).state = .spare → ∃ t, exec (.fail m d) s = .next t ∧ (t.mem d).state = .retired ∧ t.fenced (d / 16) (d % 16) = true) ∧
    ((s.mem d).state = .spare → ∃ t, exec (.retire m d) s = .next t ∧ (t.mem d).state = .retired ∧ t.fenced (d / 16) (d % 16) = true) ∧
    ((s.mem d).state = .failed → ∃ t, exec (.retire m d) s = .next t ∧ (t.mem d).state = .retired ∧ s.epochMoves t) ∧
    ((s.mem d).state = .returning → ∃ t, exec (.retire m d) s = .next t ∧ (t.mem d).state = .retired ∧ s.epochMoves t) ∧
    ((s.mem d).state = .returning → ∃ t, exec (.readmit m d) s = .next t ∧ (t.mem d).state = .testing ∧ s.epochMoves t) ∧
    (∃ t, exec (.dieStateRead m d) s = .next t ∧ t.fld MSH_DSTATE.STATE = (s.mem d).state.code ∧ t.msh = s.msh)) ∧
  (∀ (s : State) (m d k p : Nat), d < 2048 → s.reaches m MSH_DCMD.OP.addr → k = s.fld MSH_DARG.SSET → p = s.fld MSH_DARG.POS →
    s.on (MSH_SSET.VALID k) = true → p < s.setPositions k → (s.position k p).present = true → (s.position k p).vacant = true →
    (s.mem d).state = .spare → s.channelUsed k p (chanOf d) = false →
    ∃ t, exec (.assign m d) s = .next t ∧ (t.position k p).die = d ∧ (t.position k p).vacant = false ∧
      (t.mem d).state = (if s.dataRows k = [] then .member else .rebuilding)) ∧
  (∀ (s : State) (m d : Nat), 2048 ≤ d → exec (.fail m d) s = .next s ∧ exec (.assign m d) s = .next s ∧ exec (.readmit m d) s = .next s ∧
    exec (.retire m d) s = .next s ∧ exec (.dieStateRead m d) s = .next s) ∧
  (∀ (s : State) (l : List Nat) (d : Nat), s.on MSH_CTRL.EN = true → s.hld.committed = false → (s.mem d).state = .failed → d ∈ l →
    ∃ t, exec (.dieProbe l) s = .next t ∧ (t.mem d).state = .returning ∧ t.on (EVT_SRC.PEND 166) = true) ∧
  (∀ (s : State) (d n : Nat), d < 2048 → s.hld.committed = false → (s.mem d).state = .testing →
    (s.on MSH_CTRL.AUTOSPARE = false → ∃ t, exec (.dieSelfTestEnd d true n []) s = .next t ∧ (t.mem d).state = .spare ∧
      t.on (EVT_SRC.PEND 167) = true) ∧
    ∃ t, exec (.dieSelfTestEnd d false n []) s = .next t ∧ (t.mem d).state = .retired ∧ t.fenced (d / 16) (d % 16) = true ∧
      t.on (EVT_SRC.PEND 168) = true)

/-- R524, R527, R530, R531 and R533 for every target and answer, and R622, R623 and R630 for every interface, for the completion of the power and loopback
commands alone. -/
def Obligations.PowerAndLoopbackCommandsComplete : Prop :=
  (∀ (s : State) (m v : Nat), s.reaches m PWR_REQ.GO.addr → PWR_REQ.GO.of v ≠ 0 →
    (∀ g, g = PWR_REQ.TARGET.of v → 2 ≤ g → g ≤ 4 → s.pwrCtrl = 0 → s.pwrState < g →
      ∃ t, exec (.powerRequest m v) s = .next t ∧ t.pwrCtrl = ctrlAsking ∧ t.pow.entry = g ∧ t.fld PWR_STAT.TARGET = g ∧
        t.on (EVT_SRC.PEND 322) = true) ∧
    (∀ g, g = PWR_REQ.TARGET.of v → 2 ≤ g → g ≤ 4 → s.pwrCtrl ≠ 0 →
      ∃ t, exec (.powerRequest m v) s = .next t ∧ t.fld PWR_STAT.TARGET = g ∧ t.pow = s.pow ∧ onlyRegs [PWR_STAT.TARGET] s t) ∧
    (PWR_REQ.TARGET.of v = 0 →
      ∃ t, exec (.powerRequest m v) s = .next t ∧ t.fld PWR_STAT.TARGET = 0 ∧ t.pow.refused = false ∧
        (s.inEntry = true → t.on PWR_STAT.WAKEPEND = true) ∧ onlyRegs [PWR_STAT.TARGET, PWR_STAT.WAKEPEND] s t)) ∧
  (∀ (s : State) (d : Nat), s.pwrCtrl = ctrlAsking → d ∈ s.pow.asked →
    (∀ a, (if d < 10 then a else s.hwAnswer d s.pow.entry) = .ack →
      ∃ t, exec (.domainAnswer d a) s = .next t ∧ t.pow.asked = dropFrom d s.pow.asked ∧ t.pow.acked = addTo d s.pow.acked) ∧
    (∀ a c, (if d < 10 then a else s.hwAnswer d s.pow.entry) = .refuse c →
      ∃ t, exec (.domainAnswer d a) s = .next t ∧ t.pwrCtrl = 0 ∧ t.pow.asked = [] ∧ t.pow.refused = true ∧ t.fld PWR_LAST.DOMAIN = d % 2 ^ 6 ∧
        t.on (EVT_SRC.PEND 324) = true) ∧
    ∃ t, exec (.domainDelayTimeout d) s = .next t ∧ t.pwrCtrl = 0 ∧ t.pow.asked = [] ∧ t.pow.refused = true ∧ t.fld PWR_LAST.CODE = 3) ∧
  (∀ s : State, s.pwrCtrl = ctrlEntering →
    (s.pow.entry = pwrNap → s.on PWR_STAT.WAKEPEND = false → ∃ t, exec .entryComplete s = .next t ∧ t.pwrState = pwrNap ∧ t.pwrCtrl = 0) ∧
    (s.pow.entry = pwrNap → s.on PWR_STAT.WAKEPEND = true → ∃ t, exec .entryComplete s = .next t ∧ t.pwrState = 0 ∧ t.pwrCtrl = 0) ∧
    (s.pow.entry = pwrShelf ∨ s.pow.entry = pwrDeep →
      ∃ t, exec .entryComplete s = .next t ∧ t.up = false ∧ t.pwrCtrl = (if s.on PWR_STAT.WAKEPEND then ctrlWaking else 0))) ∧
  (∀ s : State, s.up = true → s.on PWR_CTRL.IDLE_EN = true → s.pwrState = 0 → s.pwrCtrl = 0 → s.noWork = true →
    ∃ t, exec .idleEntry s = .next t ∧ t.pwrState = 1) ∧
  (∀ (s : State) (m k v : Nat), k < 4 → s.reaches m (TST_LBCTL.GO k).addr → bit v 31 = true → bit v 30 = false → s.loopOf k = none →
    1 ≤ slice v 20 4 → slice v 20 4 ≤ 3 → slice v 24 4 ≤ 5 → s.hld.committed = false →
    (∀ j, j < 4 → ∀ l ∈ s.loopOf j, l.1 ≠ slice v 24 4 ∨ l.2.1 ≠ slice v 8 4) → s.loopOk (slice v 24 4) (slice v 8 4) (slice v 20 4) = true →
    ∃ t, exec (.loopbackStart m k v) s = .next t ∧ t.loopOf k = some (slice v 24 4, slice v 8 4, slice v 20 4) ∧ t.fld (TST_LBSTAT.STATE k) = 1) ∧
  (∀ (s : State) (k bits errors lanes : Nat) (l : Nat × Nat × Nat), k < 4 → s.loopOf k = some l →
    (∀ m v, s.reaches m (TST_LBCTL.GO k).addr → bit v 31 = false → bit v 30 = true →
      ∃ t, exec (.loopbackStop m k v bits errors lanes) s = .next t ∧ t.loopOf k = none ∧ t.fld (TST_LBSTAT.STATE k) = 3 ∧
        t.fld (TST_LBSTAT.REASON k) = 6 ∧ t.fld (TST_LBSTAT.ERRORS k) = min errors 0xFFFFFF ∧
        (l.1 = 1 → keepsRegs (FCH_GSTAT.WP l.2.1 :: lbctlFields k ++ lbstatFields k) s t) ∧
        (l.1 = 0 → l.2.2 ≠ 3 → keepsRegs (lbctlFields k ++ lbstatFields k) s t) ∧ keepsMem s t) ∧
    (s.fld (TST_LBCTL.DURATION k) ≠ 0 →
      ∃ t, exec (.loopbackDurationEnd k bits errors lanes) s = .next t ∧ t.loopOf k = none ∧ t.fld (TST_LBSTAT.STATE k) = 2 ∧
        t.fld (TST_LBSTAT.ERRORS k) = min errors 0xFFFFFF ∧ (l.1 = 1 → keepsRegs (FCH_GSTAT.WP l.2.1 :: lbstatFields k) s t) ∧
        (l.1 = 0 → l.2.2 ≠ 3 → keepsRegs (lbstatFields k) s t) ∧ keepsMem s t)) ∧
  (∀ (s : State) (m v : Nat), s.reaches m TST_BIST.GO.addr → bit v 31 = true → s.tst.bistRun = none → s.bistOk (slice v 8 2) (slice v 0 8) = true →
    ∃ t, exec (.bistStart m v) s = .next t ∧ t.tst.bistRun = some (slice v 8 2, slice v 0 8) ∧ t.fld TST_BISTRES.STATE = 1) ∧
  (∀ (s : State) (n f : Nat), s.tst.bistRun ≠ none →
    ∃ t, exec (.bistDone n f) s = .next t ∧ t.tst.bistRun = none ∧ t.fld TST_BISTRES.STATE = 2 ∧ t.on TST_BISTRES.PASS = (n == 0))
end

