-- ==== Sys2Proof/Laws/State.lean ====
section
/-! SUPPORT. Laws/State.lean: what each update of State leaves and changes, one lemma per field and update, by rfl. -/

namespace Sys2Proof.Machine

section
variable (f : Tab Nat → Tab Nat) (s : State)
@[simp] theorem State.modRegs_pending : (s.modRegs f).pending = s.pending := rfl
@[simp] theorem State.modRegs_regs : (s.modRegs f).regs = f s.regs := rfl
@[simp] theorem State.modRegs_free : (s.modRegs f).free = s.free := rfl
@[simp] theorem State.modRegs_ident : (s.modRegs f).ident = s.ident := rfl
@[simp] theorem State.modRegs_bus : (s.modRegs f).bus = s.bus := rfl
@[simp] theorem State.modRegs_bell : (s.modRegs f).bell = s.bell := rfl
@[simp] theorem State.modRegs_pci : (s.modRegs f).pci = s.pci := rfl
@[simp] theorem State.modRegs_hfe : (s.modRegs f).hfe = s.hfe := rfl
@[simp] theorem State.modRegs_fns : (s.modRegs f).fns = s.fns := rfl
@[simp] theorem State.modRegs_zpm : (s.modRegs f).zpm = s.zpm := rfl
@[simp] theorem State.modRegs_med : (s.modRegs f).med = s.med := rfl
@[simp] theorem State.modRegs_fch : (s.modRegs f).fch = s.fch := rfl
@[simp] theorem State.modRegs_drf : (s.modRegs f).drf = s.drf := rfl
@[simp] theorem State.modRegs_ecc : (s.modRegs f).ecc = s.ecc := rfl
@[simp] theorem State.modRegs_msh : (s.modRegs f).msh = s.msh := rfl
@[simp] theorem State.modRegs_hld : (s.modRegs f).hld = s.hld := rfl
@[simp] theorem State.modRegs_tubs : (s.modRegs f).tubs = s.tubs := rfl
@[simp] theorem State.modRegs_memc : (s.modRegs f).memc = s.memc := rfl
@[simp] theorem State.modRegs_cip : (s.modRegs f).cip = s.cip := rfl
@[simp] theorem State.modRegs_ctl : (s.modRegs f).ctl = s.ctl := rfl
@[simp] theorem State.modRegs_pow : (s.modRegs f).pow = s.pow := rfl
@[simp] theorem State.modRegs_mgt : (s.modRegs f).mgt = s.mgt := rfl
@[simp] theorem State.modRegs_tly : (s.modRegs f).tly = s.tly := rfl
@[simp] theorem State.modRegs_evr : (s.modRegs f).evr = s.evr := rfl
@[simp] theorem State.modRegs_saf : (s.modRegs f).saf = s.saf := rfl
@[simp] theorem State.modRegs_tst : (s.modRegs f).tst = s.tst := rfl
@[simp] theorem State.modRegs_nv : (s.modRegs f).nv = s.nv := rfl
end

section
variable (f : Nat → Nat) (s : State)
@[simp] theorem State.modFree_pending : (s.modFree f).pending = s.pending := rfl
@[simp] theorem State.modFree_regs : (s.modFree f).regs = s.regs := rfl
@[simp] theorem State.modFree_free : (s.modFree f).free = f s.free := rfl
@[simp] theorem State.modFree_ident : (s.modFree f).ident = s.ident := rfl
@[simp] theorem State.modFree_bus : (s.modFree f).bus = s.bus := rfl
@[simp] theorem State.modFree_bell : (s.modFree f).bell = s.bell := rfl
@[simp] theorem State.modFree_pci : (s.modFree f).pci = s.pci := rfl
@[simp] theorem State.modFree_hfe : (s.modFree f).hfe = s.hfe := rfl
@[simp] theorem State.modFree_fns : (s.modFree f).fns = s.fns := rfl
@[simp] theorem State.modFree_zpm : (s.modFree f).zpm = s.zpm := rfl
@[simp] theorem State.modFree_med : (s.modFree f).med = s.med := rfl
@[simp] theorem State.modFree_fch : (s.modFree f).fch = s.fch := rfl
@[simp] theorem State.modFree_drf : (s.modFree f).drf = s.drf := rfl
@[simp] theorem State.modFree_ecc : (s.modFree f).ecc = s.ecc := rfl
@[simp] theorem State.modFree_msh : (s.modFree f).msh = s.msh := rfl
@[simp] theorem State.modFree_hld : (s.modFree f).hld = s.hld := rfl
@[simp] theorem State.modFree_tubs : (s.modFree f).tubs = s.tubs := rfl
@[simp] theorem State.modFree_memc : (s.modFree f).memc = s.memc := rfl
@[simp] theorem State.modFree_cip : (s.modFree f).cip = s.cip := rfl
@[simp] theorem State.modFree_ctl : (s.modFree f).ctl = s.ctl := rfl
@[simp] theorem State.modFree_pow : (s.modFree f).pow = s.pow := rfl
@[simp] theorem State.modFree_mgt : (s.modFree f).mgt = s.mgt := rfl
@[simp] theorem State.modFree_tly : (s.modFree f).tly = s.tly := rfl
@[simp] theorem State.modFree_evr : (s.modFree f).evr = s.evr := rfl
@[simp] theorem State.modFree_saf : (s.modFree f).saf = s.saf := rfl
@[simp] theorem State.modFree_tst : (s.modFree f).tst = s.tst := rfl
@[simp] theorem State.modFree_nv : (s.modFree f).nv = s.nv := rfl
end

section
variable (f : Ident → Ident) (s : State)
@[simp] theorem State.modIdent_pending : (s.modIdent f).pending = s.pending := rfl
@[simp] theorem State.modIdent_regs : (s.modIdent f).regs = s.regs := rfl
@[simp] theorem State.modIdent_free : (s.modIdent f).free = s.free := rfl
@[simp] theorem State.modIdent_ident : (s.modIdent f).ident = f s.ident := rfl
@[simp] theorem State.modIdent_bus : (s.modIdent f).bus = s.bus := rfl
@[simp] theorem State.modIdent_bell : (s.modIdent f).bell = s.bell := rfl
@[simp] theorem State.modIdent_pci : (s.modIdent f).pci = s.pci := rfl
@[simp] theorem State.modIdent_hfe : (s.modIdent f).hfe = s.hfe := rfl
@[simp] theorem State.modIdent_fns : (s.modIdent f).fns = s.fns := rfl
@[simp] theorem State.modIdent_zpm : (s.modIdent f).zpm = s.zpm := rfl
@[simp] theorem State.modIdent_med : (s.modIdent f).med = s.med := rfl
@[simp] theorem State.modIdent_fch : (s.modIdent f).fch = s.fch := rfl
@[simp] theorem State.modIdent_drf : (s.modIdent f).drf = s.drf := rfl
@[simp] theorem State.modIdent_ecc : (s.modIdent f).ecc = s.ecc := rfl
@[simp] theorem State.modIdent_msh : (s.modIdent f).msh = s.msh := rfl
@[simp] theorem State.modIdent_hld : (s.modIdent f).hld = s.hld := rfl
@[simp] theorem State.modIdent_tubs : (s.modIdent f).tubs = s.tubs := rfl
@[simp] theorem State.modIdent_memc : (s.modIdent f).memc = s.memc := rfl
@[simp] theorem State.modIdent_cip : (s.modIdent f).cip = s.cip := rfl
@[simp] theorem State.modIdent_ctl : (s.modIdent f).ctl = s.ctl := rfl
@[simp] theorem State.modIdent_pow : (s.modIdent f).pow = s.pow := rfl
@[simp] theorem State.modIdent_mgt : (s.modIdent f).mgt = s.mgt := rfl
@[simp] theorem State.modIdent_tly : (s.modIdent f).tly = s.tly := rfl
@[simp] theorem State.modIdent_evr : (s.modIdent f).evr = s.evr := rfl
@[simp] theorem State.modIdent_saf : (s.modIdent f).saf = s.saf := rfl
@[simp] theorem State.modIdent_tst : (s.modIdent f).tst = s.tst := rfl
@[simp] theorem State.modIdent_nv : (s.modIdent f).nv = s.nv := rfl
end

section
variable (f : BusIf → BusIf) (s : State)
@[simp] theorem State.modBus_pending : (s.modBus f).pending = s.pending := rfl
@[simp] theorem State.modBus_regs : (s.modBus f).regs = s.regs := rfl
@[simp] theorem State.modBus_free : (s.modBus f).free = s.free := rfl
@[simp] theorem State.modBus_ident : (s.modBus f).ident = s.ident := rfl
@[simp] theorem State.modBus_bus : (s.modBus f).bus = f s.bus := rfl
@[simp] theorem State.modBus_bell : (s.modBus f).bell = s.bell := rfl
@[simp] theorem State.modBus_pci : (s.modBus f).pci = s.pci := rfl
@[simp] theorem State.modBus_hfe : (s.modBus f).hfe = s.hfe := rfl
@[simp] theorem State.modBus_fns : (s.modBus f).fns = s.fns := rfl
@[simp] theorem State.modBus_zpm : (s.modBus f).zpm = s.zpm := rfl
@[simp] theorem State.modBus_med : (s.modBus f).med = s.med := rfl
@[simp] theorem State.modBus_fch : (s.modBus f).fch = s.fch := rfl
@[simp] theorem State.modBus_drf : (s.modBus f).drf = s.drf := rfl
@[simp] theorem State.modBus_ecc : (s.modBus f).ecc = s.ecc := rfl
@[simp] theorem State.modBus_msh : (s.modBus f).msh = s.msh := rfl
@[simp] theorem State.modBus_hld : (s.modBus f).hld = s.hld := rfl
@[simp] theorem State.modBus_tubs : (s.modBus f).tubs = s.tubs := rfl
@[simp] theorem State.modBus_memc : (s.modBus f).memc = s.memc := rfl
@[simp] theorem State.modBus_cip : (s.modBus f).cip = s.cip := rfl
@[simp] theorem State.modBus_ctl : (s.modBus f).ctl = s.ctl := rfl
@[simp] theorem State.modBus_pow : (s.modBus f).pow = s.pow := rfl
@[simp] theorem State.modBus_mgt : (s.modBus f).mgt = s.mgt := rfl
@[simp] theorem State.modBus_tly : (s.modBus f).tly = s.tly := rfl
@[simp] theorem State.modBus_evr : (s.modBus f).evr = s.evr := rfl
@[simp] theorem State.modBus_saf : (s.modBus f).saf = s.saf := rfl
@[simp] theorem State.modBus_tst : (s.modBus f).tst = s.tst := rfl
@[simp] theorem State.modBus_nv : (s.modBus f).nv = s.nv := rfl
end

section
variable (f : Bell → Bell) (s : State)
@[simp] theorem State.modBell_pending : (s.modBell f).pending = s.pending := rfl
@[simp] theorem State.modBell_regs : (s.modBell f).regs = s.regs := rfl
@[simp] theorem State.modBell_free : (s.modBell f).free = s.free := rfl
@[simp] theorem State.modBell_ident : (s.modBell f).ident = s.ident := rfl
@[simp] theorem State.modBell_bus : (s.modBell f).bus = s.bus := rfl
@[simp] theorem State.modBell_bell : (s.modBell f).bell = f s.bell := rfl
@[simp] theorem State.modBell_pci : (s.modBell f).pci = s.pci := rfl
@[simp] theorem State.modBell_hfe : (s.modBell f).hfe = s.hfe := rfl
@[simp] theorem State.modBell_fns : (s.modBell f).fns = s.fns := rfl
@[simp] theorem State.modBell_zpm : (s.modBell f).zpm = s.zpm := rfl
@[simp] theorem State.modBell_med : (s.modBell f).med = s.med := rfl
@[simp] theorem State.modBell_fch : (s.modBell f).fch = s.fch := rfl
@[simp] theorem State.modBell_drf : (s.modBell f).drf = s.drf := rfl
@[simp] theorem State.modBell_ecc : (s.modBell f).ecc = s.ecc := rfl
@[simp] theorem State.modBell_msh : (s.modBell f).msh = s.msh := rfl
@[simp] theorem State.modBell_hld : (s.modBell f).hld = s.hld := rfl
@[simp] theorem State.modBell_tubs : (s.modBell f).tubs = s.tubs := rfl
@[simp] theorem State.modBell_memc : (s.modBell f).memc = s.memc := rfl
@[simp] theorem State.modBell_cip : (s.modBell f).cip = s.cip := rfl
@[simp] theorem State.modBell_ctl : (s.modBell f).ctl = s.ctl := rfl
@[simp] theorem State.modBell_pow : (s.modBell f).pow = s.pow := rfl
@[simp] theorem State.modBell_mgt : (s.modBell f).mgt = s.mgt := rfl
@[simp] theorem State.modBell_tly : (s.modBell f).tly = s.tly := rfl
@[simp] theorem State.modBell_evr : (s.modBell f).evr = s.evr := rfl
@[simp] theorem State.modBell_saf : (s.modBell f).saf = s.saf := rfl
@[simp] theorem State.modBell_tst : (s.modBell f).tst = s.tst := rfl
@[simp] theorem State.modBell_nv : (s.modBell f).nv = s.nv := rfl
end

section
variable (f : Pci → Pci) (s : State)
@[simp] theorem State.modPci_pending : (s.modPci f).pending = s.pending := rfl
@[simp] theorem State.modPci_regs : (s.modPci f).regs = s.regs := rfl
@[simp] theorem State.modPci_free : (s.modPci f).free = s.free := rfl
@[simp] theorem State.modPci_ident : (s.modPci f).ident = s.ident := rfl
@[simp] theorem State.modPci_bus : (s.modPci f).bus = s.bus := rfl
@[simp] theorem State.modPci_bell : (s.modPci f).bell = s.bell := rfl
@[simp] theorem State.modPci_pci : (s.modPci f).pci = f s.pci := rfl
@[simp] theorem State.modPci_hfe : (s.modPci f).hfe = s.hfe := rfl
@[simp] theorem State.modPci_fns : (s.modPci f).fns = s.fns := rfl
@[simp] theorem State.modPci_zpm : (s.modPci f).zpm = s.zpm := rfl
@[simp] theorem State.modPci_med : (s.modPci f).med = s.med := rfl
@[simp] theorem State.modPci_fch : (s.modPci f).fch = s.fch := rfl
@[simp] theorem State.modPci_drf : (s.modPci f).drf = s.drf := rfl
@[simp] theorem State.modPci_ecc : (s.modPci f).ecc = s.ecc := rfl
@[simp] theorem State.modPci_msh : (s.modPci f).msh = s.msh := rfl
@[simp] theorem State.modPci_hld : (s.modPci f).hld = s.hld := rfl
@[simp] theorem State.modPci_tubs : (s.modPci f).tubs = s.tubs := rfl
@[simp] theorem State.modPci_memc : (s.modPci f).memc = s.memc := rfl
@[simp] theorem State.modPci_cip : (s.modPci f).cip = s.cip := rfl
@[simp] theorem State.modPci_ctl : (s.modPci f).ctl = s.ctl := rfl
@[simp] theorem State.modPci_pow : (s.modPci f).pow = s.pow := rfl
@[simp] theorem State.modPci_mgt : (s.modPci f).mgt = s.mgt := rfl
@[simp] theorem State.modPci_tly : (s.modPci f).tly = s.tly := rfl
@[simp] theorem State.modPci_evr : (s.modPci f).evr = s.evr := rfl
@[simp] theorem State.modPci_saf : (s.modPci f).saf = s.saf := rfl
@[simp] theorem State.modPci_tst : (s.modPci f).tst = s.tst := rfl
@[simp] theorem State.modPci_nv : (s.modPci f).nv = s.nv := rfl
end

section
variable (f : Hfe → Hfe) (s : State)
@[simp] theorem State.modHfe_pending : (s.modHfe f).pending = s.pending := rfl
@[simp] theorem State.modHfe_regs : (s.modHfe f).regs = s.regs := rfl
@[simp] theorem State.modHfe_free : (s.modHfe f).free = s.free := rfl
@[simp] theorem State.modHfe_ident : (s.modHfe f).ident = s.ident := rfl
@[simp] theorem State.modHfe_bus : (s.modHfe f).bus = s.bus := rfl
@[simp] theorem State.modHfe_bell : (s.modHfe f).bell = s.bell := rfl
@[simp] theorem State.modHfe_pci : (s.modHfe f).pci = s.pci := rfl
@[simp] theorem State.modHfe_hfe : (s.modHfe f).hfe = f s.hfe := rfl
@[simp] theorem State.modHfe_fns : (s.modHfe f).fns = s.fns := rfl
@[simp] theorem State.modHfe_zpm : (s.modHfe f).zpm = s.zpm := rfl
@[simp] theorem State.modHfe_med : (s.modHfe f).med = s.med := rfl
@[simp] theorem State.modHfe_fch : (s.modHfe f).fch = s.fch := rfl
@[simp] theorem State.modHfe_drf : (s.modHfe f).drf = s.drf := rfl
@[simp] theorem State.modHfe_ecc : (s.modHfe f).ecc = s.ecc := rfl
@[simp] theorem State.modHfe_msh : (s.modHfe f).msh = s.msh := rfl
@[simp] theorem State.modHfe_hld : (s.modHfe f).hld = s.hld := rfl
@[simp] theorem State.modHfe_tubs : (s.modHfe f).tubs = s.tubs := rfl
@[simp] theorem State.modHfe_memc : (s.modHfe f).memc = s.memc := rfl
@[simp] theorem State.modHfe_cip : (s.modHfe f).cip = s.cip := rfl
@[simp] theorem State.modHfe_ctl : (s.modHfe f).ctl = s.ctl := rfl
@[simp] theorem State.modHfe_pow : (s.modHfe f).pow = s.pow := rfl
@[simp] theorem State.modHfe_mgt : (s.modHfe f).mgt = s.mgt := rfl
@[simp] theorem State.modHfe_tly : (s.modHfe f).tly = s.tly := rfl
@[simp] theorem State.modHfe_evr : (s.modHfe f).evr = s.evr := rfl
@[simp] theorem State.modHfe_saf : (s.modHfe f).saf = s.saf := rfl
@[simp] theorem State.modHfe_tst : (s.modHfe f).tst = s.tst := rfl
@[simp] theorem State.modHfe_nv : (s.modHfe f).nv = s.nv := rfl
end

section
variable (f : Fns → Fns) (s : State)
@[simp] theorem State.modFns_pending : (s.modFns f).pending = s.pending := rfl
@[simp] theorem State.modFns_regs : (s.modFns f).regs = s.regs := rfl
@[simp] theorem State.modFns_free : (s.modFns f).free = s.free := rfl
@[simp] theorem State.modFns_ident : (s.modFns f).ident = s.ident := rfl
@[simp] theorem State.modFns_bus : (s.modFns f).bus = s.bus := rfl
@[simp] theorem State.modFns_bell : (s.modFns f).bell = s.bell := rfl
@[simp] theorem State.modFns_pci : (s.modFns f).pci = s.pci := rfl
@[simp] theorem State.modFns_hfe : (s.modFns f).hfe = s.hfe := rfl
@[simp] theorem State.modFns_fns : (s.modFns f).fns = f s.fns := rfl
@[simp] theorem State.modFns_zpm : (s.modFns f).zpm = s.zpm := rfl
@[simp] theorem State.modFns_med : (s.modFns f).med = s.med := rfl
@[simp] theorem State.modFns_fch : (s.modFns f).fch = s.fch := rfl
@[simp] theorem State.modFns_drf : (s.modFns f).drf = s.drf := rfl
@[simp] theorem State.modFns_ecc : (s.modFns f).ecc = s.ecc := rfl
@[simp] theorem State.modFns_msh : (s.modFns f).msh = s.msh := rfl
@[simp] theorem State.modFns_hld : (s.modFns f).hld = s.hld := rfl
@[simp] theorem State.modFns_tubs : (s.modFns f).tubs = s.tubs := rfl
@[simp] theorem State.modFns_memc : (s.modFns f).memc = s.memc := rfl
@[simp] theorem State.modFns_cip : (s.modFns f).cip = s.cip := rfl
@[simp] theorem State.modFns_ctl : (s.modFns f).ctl = s.ctl := rfl
@[simp] theorem State.modFns_pow : (s.modFns f).pow = s.pow := rfl
@[simp] theorem State.modFns_mgt : (s.modFns f).mgt = s.mgt := rfl
@[simp] theorem State.modFns_tly : (s.modFns f).tly = s.tly := rfl
@[simp] theorem State.modFns_evr : (s.modFns f).evr = s.evr := rfl
@[simp] theorem State.modFns_saf : (s.modFns f).saf = s.saf := rfl
@[simp] theorem State.modFns_tst : (s.modFns f).tst = s.tst := rfl
@[simp] theorem State.modFns_nv : (s.modFns f).nv = s.nv := rfl
end

section
variable (f : Zpm → Zpm) (s : State)
@[simp] theorem State.modZpm_pending : (s.modZpm f).pending = s.pending := rfl
@[simp] theorem State.modZpm_regs : (s.modZpm f).regs = s.regs := rfl
@[simp] theorem State.modZpm_free : (s.modZpm f).free = s.free := rfl
@[simp] theorem State.modZpm_ident : (s.modZpm f).ident = s.ident := rfl
@[simp] theorem State.modZpm_bus : (s.modZpm f).bus = s.bus := rfl
@[simp] theorem State.modZpm_bell : (s.modZpm f).bell = s.bell := rfl
@[simp] theorem State.modZpm_pci : (s.modZpm f).pci = s.pci := rfl
@[simp] theorem State.modZpm_hfe : (s.modZpm f).hfe = s.hfe := rfl
@[simp] theorem State.modZpm_fns : (s.modZpm f).fns = s.fns := rfl
@[simp] theorem State.modZpm_zpm : (s.modZpm f).zpm = f s.zpm := rfl
@[simp] theorem State.modZpm_med : (s.modZpm f).med = s.med := rfl
@[simp] theorem State.modZpm_fch : (s.modZpm f).fch = s.fch := rfl
@[simp] theorem State.modZpm_drf : (s.modZpm f).drf = s.drf := rfl
@[simp] theorem State.modZpm_ecc : (s.modZpm f).ecc = s.ecc := rfl
@[simp] theorem State.modZpm_msh : (s.modZpm f).msh = s.msh := rfl
@[simp] theorem State.modZpm_hld : (s.modZpm f).hld = s.hld := rfl
@[simp] theorem State.modZpm_tubs : (s.modZpm f).tubs = s.tubs := rfl
@[simp] theorem State.modZpm_memc : (s.modZpm f).memc = s.memc := rfl
@[simp] theorem State.modZpm_cip : (s.modZpm f).cip = s.cip := rfl
@[simp] theorem State.modZpm_ctl : (s.modZpm f).ctl = s.ctl := rfl
@[simp] theorem State.modZpm_pow : (s.modZpm f).pow = s.pow := rfl
@[simp] theorem State.modZpm_mgt : (s.modZpm f).mgt = s.mgt := rfl
@[simp] theorem State.modZpm_tly : (s.modZpm f).tly = s.tly := rfl
@[simp] theorem State.modZpm_evr : (s.modZpm f).evr = s.evr := rfl
@[simp] theorem State.modZpm_saf : (s.modZpm f).saf = s.saf := rfl
@[simp] theorem State.modZpm_tst : (s.modZpm f).tst = s.tst := rfl
@[simp] theorem State.modZpm_nv : (s.modZpm f).nv = s.nv := rfl
end

section
variable (f : Med → Med) (s : State)
@[simp] theorem State.modMed_pending : (s.modMed f).pending = s.pending := rfl
@[simp] theorem State.modMed_regs : (s.modMed f).regs = s.regs := rfl
@[simp] theorem State.modMed_free : (s.modMed f).free = s.free := rfl
@[simp] theorem State.modMed_ident : (s.modMed f).ident = s.ident := rfl
@[simp] theorem State.modMed_bus : (s.modMed f).bus = s.bus := rfl
@[simp] theorem State.modMed_bell : (s.modMed f).bell = s.bell := rfl
@[simp] theorem State.modMed_pci : (s.modMed f).pci = s.pci := rfl
@[simp] theorem State.modMed_hfe : (s.modMed f).hfe = s.hfe := rfl
@[simp] theorem State.modMed_fns : (s.modMed f).fns = s.fns := rfl
@[simp] theorem State.modMed_zpm : (s.modMed f).zpm = s.zpm := rfl
@[simp] theorem State.modMed_med : (s.modMed f).med = f s.med := rfl
@[simp] theorem State.modMed_fch : (s.modMed f).fch = s.fch := rfl
@[simp] theorem State.modMed_drf : (s.modMed f).drf = s.drf := rfl
@[simp] theorem State.modMed_ecc : (s.modMed f).ecc = s.ecc := rfl
@[simp] theorem State.modMed_msh : (s.modMed f).msh = s.msh := rfl
@[simp] theorem State.modMed_hld : (s.modMed f).hld = s.hld := rfl
@[simp] theorem State.modMed_tubs : (s.modMed f).tubs = s.tubs := rfl
@[simp] theorem State.modMed_memc : (s.modMed f).memc = s.memc := rfl
@[simp] theorem State.modMed_cip : (s.modMed f).cip = s.cip := rfl
@[simp] theorem State.modMed_ctl : (s.modMed f).ctl = s.ctl := rfl
@[simp] theorem State.modMed_pow : (s.modMed f).pow = s.pow := rfl
@[simp] theorem State.modMed_mgt : (s.modMed f).mgt = s.mgt := rfl
@[simp] theorem State.modMed_tly : (s.modMed f).tly = s.tly := rfl
@[simp] theorem State.modMed_evr : (s.modMed f).evr = s.evr := rfl
@[simp] theorem State.modMed_saf : (s.modMed f).saf = s.saf := rfl
@[simp] theorem State.modMed_tst : (s.modMed f).tst = s.tst := rfl
@[simp] theorem State.modMed_nv : (s.modMed f).nv = s.nv := rfl
end

section
variable (f : Fch → Fch) (s : State)
@[simp] theorem State.modFch_pending : (s.modFch f).pending = s.pending := rfl
@[simp] theorem State.modFch_regs : (s.modFch f).regs = s.regs := rfl
@[simp] theorem State.modFch_free : (s.modFch f).free = s.free := rfl
@[simp] theorem State.modFch_ident : (s.modFch f).ident = s.ident := rfl
@[simp] theorem State.modFch_bus : (s.modFch f).bus = s.bus := rfl
@[simp] theorem State.modFch_bell : (s.modFch f).bell = s.bell := rfl
@[simp] theorem State.modFch_pci : (s.modFch f).pci = s.pci := rfl
@[simp] theorem State.modFch_hfe : (s.modFch f).hfe = s.hfe := rfl
@[simp] theorem State.modFch_fns : (s.modFch f).fns = s.fns := rfl
@[simp] theorem State.modFch_zpm : (s.modFch f).zpm = s.zpm := rfl
@[simp] theorem State.modFch_med : (s.modFch f).med = s.med := rfl
@[simp] theorem State.modFch_fch : (s.modFch f).fch = f s.fch := rfl
@[simp] theorem State.modFch_drf : (s.modFch f).drf = s.drf := rfl
@[simp] theorem State.modFch_ecc : (s.modFch f).ecc = s.ecc := rfl
@[simp] theorem State.modFch_msh : (s.modFch f).msh = s.msh := rfl
@[simp] theorem State.modFch_hld : (s.modFch f).hld = s.hld := rfl
@[simp] theorem State.modFch_tubs : (s.modFch f).tubs = s.tubs := rfl
@[simp] theorem State.modFch_memc : (s.modFch f).memc = s.memc := rfl
@[simp] theorem State.modFch_cip : (s.modFch f).cip = s.cip := rfl
@[simp] theorem State.modFch_ctl : (s.modFch f).ctl = s.ctl := rfl
@[simp] theorem State.modFch_pow : (s.modFch f).pow = s.pow := rfl
@[simp] theorem State.modFch_mgt : (s.modFch f).mgt = s.mgt := rfl
@[simp] theorem State.modFch_tly : (s.modFch f).tly = s.tly := rfl
@[simp] theorem State.modFch_evr : (s.modFch f).evr = s.evr := rfl
@[simp] theorem State.modFch_saf : (s.modFch f).saf = s.saf := rfl
@[simp] theorem State.modFch_tst : (s.modFch f).tst = s.tst := rfl
@[simp] theorem State.modFch_nv : (s.modFch f).nv = s.nv := rfl
end

section
variable (f : Drf → Drf) (s : State)
@[simp] theorem State.modDrf_pending : (s.modDrf f).pending = s.pending := rfl
@[simp] theorem State.modDrf_regs : (s.modDrf f).regs = s.regs := rfl
@[simp] theorem State.modDrf_free : (s.modDrf f).free = s.free := rfl
@[simp] theorem State.modDrf_ident : (s.modDrf f).ident = s.ident := rfl
@[simp] theorem State.modDrf_bus : (s.modDrf f).bus = s.bus := rfl
@[simp] theorem State.modDrf_bell : (s.modDrf f).bell = s.bell := rfl
@[simp] theorem State.modDrf_pci : (s.modDrf f).pci = s.pci := rfl
@[simp] theorem State.modDrf_hfe : (s.modDrf f).hfe = s.hfe := rfl
@[simp] theorem State.modDrf_fns : (s.modDrf f).fns = s.fns := rfl
@[simp] theorem State.modDrf_zpm : (s.modDrf f).zpm = s.zpm := rfl
@[simp] theorem State.modDrf_med : (s.modDrf f).med = s.med := rfl
@[simp] theorem State.modDrf_fch : (s.modDrf f).fch = s.fch := rfl
@[simp] theorem State.modDrf_drf : (s.modDrf f).drf = f s.drf := rfl
@[simp] theorem State.modDrf_ecc : (s.modDrf f).ecc = s.ecc := rfl
@[simp] theorem State.modDrf_msh : (s.modDrf f).msh = s.msh := rfl
@[simp] theorem State.modDrf_hld : (s.modDrf f).hld = s.hld := rfl
@[simp] theorem State.modDrf_tubs : (s.modDrf f).tubs = s.tubs := rfl
@[simp] theorem State.modDrf_memc : (s.modDrf f).memc = s.memc := rfl
@[simp] theorem State.modDrf_cip : (s.modDrf f).cip = s.cip := rfl
@[simp] theorem State.modDrf_ctl : (s.modDrf f).ctl = s.ctl := rfl
@[simp] theorem State.modDrf_pow : (s.modDrf f).pow = s.pow := rfl
@[simp] theorem State.modDrf_mgt : (s.modDrf f).mgt = s.mgt := rfl
@[simp] theorem State.modDrf_tly : (s.modDrf f).tly = s.tly := rfl
@[simp] theorem State.modDrf_evr : (s.modDrf f).evr = s.evr := rfl
@[simp] theorem State.modDrf_saf : (s.modDrf f).saf = s.saf := rfl
@[simp] theorem State.modDrf_tst : (s.modDrf f).tst = s.tst := rfl
@[simp] theorem State.modDrf_nv : (s.modDrf f).nv = s.nv := rfl
end

section
variable (f : Ecc → Ecc) (s : State)
@[simp] theorem State.modEcc_pending : (s.modEcc f).pending = s.pending := rfl
@[simp] theorem State.modEcc_regs : (s.modEcc f).regs = s.regs := rfl
@[simp] theorem State.modEcc_free : (s.modEcc f).free = s.free := rfl
@[simp] theorem State.modEcc_ident : (s.modEcc f).ident = s.ident := rfl
@[simp] theorem State.modEcc_bus : (s.modEcc f).bus = s.bus := rfl
@[simp] theorem State.modEcc_bell : (s.modEcc f).bell = s.bell := rfl
@[simp] theorem State.modEcc_pci : (s.modEcc f).pci = s.pci := rfl
@[simp] theorem State.modEcc_hfe : (s.modEcc f).hfe = s.hfe := rfl
@[simp] theorem State.modEcc_fns : (s.modEcc f).fns = s.fns := rfl
@[simp] theorem State.modEcc_zpm : (s.modEcc f).zpm = s.zpm := rfl
@[simp] theorem State.modEcc_med : (s.modEcc f).med = s.med := rfl
@[simp] theorem State.modEcc_fch : (s.modEcc f).fch = s.fch := rfl
@[simp] theorem State.modEcc_drf : (s.modEcc f).drf = s.drf := rfl
@[simp] theorem State.modEcc_ecc : (s.modEcc f).ecc = f s.ecc := rfl
@[simp] theorem State.modEcc_msh : (s.modEcc f).msh = s.msh := rfl
@[simp] theorem State.modEcc_hld : (s.modEcc f).hld = s.hld := rfl
@[simp] theorem State.modEcc_tubs : (s.modEcc f).tubs = s.tubs := rfl
@[simp] theorem State.modEcc_memc : (s.modEcc f).memc = s.memc := rfl
@[simp] theorem State.modEcc_cip : (s.modEcc f).cip = s.cip := rfl
@[simp] theorem State.modEcc_ctl : (s.modEcc f).ctl = s.ctl := rfl
@[simp] theorem State.modEcc_pow : (s.modEcc f).pow = s.pow := rfl
@[simp] theorem State.modEcc_mgt : (s.modEcc f).mgt = s.mgt := rfl
@[simp] theorem State.modEcc_tly : (s.modEcc f).tly = s.tly := rfl
@[simp] theorem State.modEcc_evr : (s.modEcc f).evr = s.evr := rfl
@[simp] theorem State.modEcc_saf : (s.modEcc f).saf = s.saf := rfl
@[simp] theorem State.modEcc_tst : (s.modEcc f).tst = s.tst := rfl
@[simp] theorem State.modEcc_nv : (s.modEcc f).nv = s.nv := rfl
end

section
variable (f : Msh → Msh) (s : State)
@[simp] theorem State.modMsh_pending : (s.modMsh f).pending = s.pending := rfl
@[simp] theorem State.modMsh_regs : (s.modMsh f).regs = s.regs := rfl
@[simp] theorem State.modMsh_free : (s.modMsh f).free = s.free := rfl
@[simp] theorem State.modMsh_ident : (s.modMsh f).ident = s.ident := rfl
@[simp] theorem State.modMsh_bus : (s.modMsh f).bus = s.bus := rfl
@[simp] theorem State.modMsh_bell : (s.modMsh f).bell = s.bell := rfl
@[simp] theorem State.modMsh_pci : (s.modMsh f).pci = s.pci := rfl
@[simp] theorem State.modMsh_hfe : (s.modMsh f).hfe = s.hfe := rfl
@[simp] theorem State.modMsh_fns : (s.modMsh f).fns = s.fns := rfl
@[simp] theorem State.modMsh_zpm : (s.modMsh f).zpm = s.zpm := rfl
@[simp] theorem State.modMsh_med : (s.modMsh f).med = s.med := rfl
@[simp] theorem State.modMsh_fch : (s.modMsh f).fch = s.fch := rfl
@[simp] theorem State.modMsh_drf : (s.modMsh f).drf = s.drf := rfl
@[simp] theorem State.modMsh_ecc : (s.modMsh f).ecc = s.ecc := rfl
@[simp] theorem State.modMsh_msh : (s.modMsh f).msh = f s.msh := rfl
@[simp] theorem State.modMsh_hld : (s.modMsh f).hld = s.hld := rfl
@[simp] theorem State.modMsh_tubs : (s.modMsh f).tubs = s.tubs := rfl
@[simp] theorem State.modMsh_memc : (s.modMsh f).memc = s.memc := rfl
@[simp] theorem State.modMsh_cip : (s.modMsh f).cip = s.cip := rfl
@[simp] theorem State.modMsh_ctl : (s.modMsh f).ctl = s.ctl := rfl
@[simp] theorem State.modMsh_pow : (s.modMsh f).pow = s.pow := rfl
@[simp] theorem State.modMsh_mgt : (s.modMsh f).mgt = s.mgt := rfl
@[simp] theorem State.modMsh_tly : (s.modMsh f).tly = s.tly := rfl
@[simp] theorem State.modMsh_evr : (s.modMsh f).evr = s.evr := rfl
@[simp] theorem State.modMsh_saf : (s.modMsh f).saf = s.saf := rfl
@[simp] theorem State.modMsh_tst : (s.modMsh f).tst = s.tst := rfl
@[simp] theorem State.modMsh_nv : (s.modMsh f).nv = s.nv := rfl
end

section
variable (f : Hld → Hld) (s : State)
@[simp] theorem State.modHld_pending : (s.modHld f).pending = s.pending := rfl
@[simp] theorem State.modHld_regs : (s.modHld f).regs = s.regs := rfl
@[simp] theorem State.modHld_free : (s.modHld f).free = s.free := rfl
@[simp] theorem State.modHld_ident : (s.modHld f).ident = s.ident := rfl
@[simp] theorem State.modHld_bus : (s.modHld f).bus = s.bus := rfl
@[simp] theorem State.modHld_bell : (s.modHld f).bell = s.bell := rfl
@[simp] theorem State.modHld_pci : (s.modHld f).pci = s.pci := rfl
@[simp] theorem State.modHld_hfe : (s.modHld f).hfe = s.hfe := rfl
@[simp] theorem State.modHld_fns : (s.modHld f).fns = s.fns := rfl
@[simp] theorem State.modHld_zpm : (s.modHld f).zpm = s.zpm := rfl
@[simp] theorem State.modHld_med : (s.modHld f).med = s.med := rfl
@[simp] theorem State.modHld_fch : (s.modHld f).fch = s.fch := rfl
@[simp] theorem State.modHld_drf : (s.modHld f).drf = s.drf := rfl
@[simp] theorem State.modHld_ecc : (s.modHld f).ecc = s.ecc := rfl
@[simp] theorem State.modHld_msh : (s.modHld f).msh = s.msh := rfl
@[simp] theorem State.modHld_hld : (s.modHld f).hld = f s.hld := rfl
@[simp] theorem State.modHld_tubs : (s.modHld f).tubs = s.tubs := rfl
@[simp] theorem State.modHld_memc : (s.modHld f).memc = s.memc := rfl
@[simp] theorem State.modHld_cip : (s.modHld f).cip = s.cip := rfl
@[simp] theorem State.modHld_ctl : (s.modHld f).ctl = s.ctl := rfl
@[simp] theorem State.modHld_pow : (s.modHld f).pow = s.pow := rfl
@[simp] theorem State.modHld_mgt : (s.modHld f).mgt = s.mgt := rfl
@[simp] theorem State.modHld_tly : (s.modHld f).tly = s.tly := rfl
@[simp] theorem State.modHld_evr : (s.modHld f).evr = s.evr := rfl
@[simp] theorem State.modHld_saf : (s.modHld f).saf = s.saf := rfl
@[simp] theorem State.modHld_tst : (s.modHld f).tst = s.tst := rfl
@[simp] theorem State.modHld_nv : (s.modHld f).nv = s.nv := rfl
end

section
variable (f : Tubs → Tubs) (s : State)
@[simp] theorem State.modTubs_pending : (s.modTubs f).pending = s.pending := rfl
@[simp] theorem State.modTubs_regs : (s.modTubs f).regs = s.regs := rfl
@[simp] theorem State.modTubs_free : (s.modTubs f).free = s.free := rfl
@[simp] theorem State.modTubs_ident : (s.modTubs f).ident = s.ident := rfl
@[simp] theorem State.modTubs_bus : (s.modTubs f).bus = s.bus := rfl
@[simp] theorem State.modTubs_bell : (s.modTubs f).bell = s.bell := rfl
@[simp] theorem State.modTubs_pci : (s.modTubs f).pci = s.pci := rfl
@[simp] theorem State.modTubs_hfe : (s.modTubs f).hfe = s.hfe := rfl
@[simp] theorem State.modTubs_fns : (s.modTubs f).fns = s.fns := rfl
@[simp] theorem State.modTubs_zpm : (s.modTubs f).zpm = s.zpm := rfl
@[simp] theorem State.modTubs_med : (s.modTubs f).med = s.med := rfl
@[simp] theorem State.modTubs_fch : (s.modTubs f).fch = s.fch := rfl
@[simp] theorem State.modTubs_drf : (s.modTubs f).drf = s.drf := rfl
@[simp] theorem State.modTubs_ecc : (s.modTubs f).ecc = s.ecc := rfl
@[simp] theorem State.modTubs_msh : (s.modTubs f).msh = s.msh := rfl
@[simp] theorem State.modTubs_hld : (s.modTubs f).hld = s.hld := rfl
@[simp] theorem State.modTubs_tubs : (s.modTubs f).tubs = f s.tubs := rfl
@[simp] theorem State.modTubs_memc : (s.modTubs f).memc = s.memc := rfl
@[simp] theorem State.modTubs_cip : (s.modTubs f).cip = s.cip := rfl
@[simp] theorem State.modTubs_ctl : (s.modTubs f).ctl = s.ctl := rfl
@[simp] theorem State.modTubs_pow : (s.modTubs f).pow = s.pow := rfl
@[simp] theorem State.modTubs_mgt : (s.modTubs f).mgt = s.mgt := rfl
@[simp] theorem State.modTubs_tly : (s.modTubs f).tly = s.tly := rfl
@[simp] theorem State.modTubs_evr : (s.modTubs f).evr = s.evr := rfl
@[simp] theorem State.modTubs_saf : (s.modTubs f).saf = s.saf := rfl
@[simp] theorem State.modTubs_tst : (s.modTubs f).tst = s.tst := rfl
@[simp] theorem State.modTubs_nv : (s.modTubs f).nv = s.nv := rfl
end

section
variable (f : Memc → Memc) (s : State)
@[simp] theorem State.modMemc_pending : (s.modMemc f).pending = s.pending := rfl
@[simp] theorem State.modMemc_regs : (s.modMemc f).regs = s.regs := rfl
@[simp] theorem State.modMemc_free : (s.modMemc f).free = s.free := rfl
@[simp] theorem State.modMemc_ident : (s.modMemc f).ident = s.ident := rfl
@[simp] theorem State.modMemc_bus : (s.modMemc f).bus = s.bus := rfl
@[simp] theorem State.modMemc_bell : (s.modMemc f).bell = s.bell := rfl
@[simp] theorem State.modMemc_pci : (s.modMemc f).pci = s.pci := rfl
@[simp] theorem State.modMemc_hfe : (s.modMemc f).hfe = s.hfe := rfl
@[simp] theorem State.modMemc_fns : (s.modMemc f).fns = s.fns := rfl
@[simp] theorem State.modMemc_zpm : (s.modMemc f).zpm = s.zpm := rfl
@[simp] theorem State.modMemc_med : (s.modMemc f).med = s.med := rfl
@[simp] theorem State.modMemc_fch : (s.modMemc f).fch = s.fch := rfl
@[simp] theorem State.modMemc_drf : (s.modMemc f).drf = s.drf := rfl
@[simp] theorem State.modMemc_ecc : (s.modMemc f).ecc = s.ecc := rfl
@[simp] theorem State.modMemc_msh : (s.modMemc f).msh = s.msh := rfl
@[simp] theorem State.modMemc_hld : (s.modMemc f).hld = s.hld := rfl
@[simp] theorem State.modMemc_tubs : (s.modMemc f).tubs = s.tubs := rfl
@[simp] theorem State.modMemc_memc : (s.modMemc f).memc = f s.memc := rfl
@[simp] theorem State.modMemc_cip : (s.modMemc f).cip = s.cip := rfl
@[simp] theorem State.modMemc_ctl : (s.modMemc f).ctl = s.ctl := rfl
@[simp] theorem State.modMemc_pow : (s.modMemc f).pow = s.pow := rfl
@[simp] theorem State.modMemc_mgt : (s.modMemc f).mgt = s.mgt := rfl
@[simp] theorem State.modMemc_tly : (s.modMemc f).tly = s.tly := rfl
@[simp] theorem State.modMemc_evr : (s.modMemc f).evr = s.evr := rfl
@[simp] theorem State.modMemc_saf : (s.modMemc f).saf = s.saf := rfl
@[simp] theorem State.modMemc_tst : (s.modMemc f).tst = s.tst := rfl
@[simp] theorem State.modMemc_nv : (s.modMemc f).nv = s.nv := rfl
end

section
variable (f : Cip → Cip) (s : State)
@[simp] theorem State.modCip_pending : (s.modCip f).pending = s.pending := rfl
@[simp] theorem State.modCip_regs : (s.modCip f).regs = s.regs := rfl
@[simp] theorem State.modCip_free : (s.modCip f).free = s.free := rfl
@[simp] theorem State.modCip_ident : (s.modCip f).ident = s.ident := rfl
@[simp] theorem State.modCip_bus : (s.modCip f).bus = s.bus := rfl
@[simp] theorem State.modCip_bell : (s.modCip f).bell = s.bell := rfl
@[simp] theorem State.modCip_pci : (s.modCip f).pci = s.pci := rfl
@[simp] theorem State.modCip_hfe : (s.modCip f).hfe = s.hfe := rfl
@[simp] theorem State.modCip_fns : (s.modCip f).fns = s.fns := rfl
@[simp] theorem State.modCip_zpm : (s.modCip f).zpm = s.zpm := rfl
@[simp] theorem State.modCip_med : (s.modCip f).med = s.med := rfl
@[simp] theorem State.modCip_fch : (s.modCip f).fch = s.fch := rfl
@[simp] theorem State.modCip_drf : (s.modCip f).drf = s.drf := rfl
@[simp] theorem State.modCip_ecc : (s.modCip f).ecc = s.ecc := rfl
@[simp] theorem State.modCip_msh : (s.modCip f).msh = s.msh := rfl
@[simp] theorem State.modCip_hld : (s.modCip f).hld = s.hld := rfl
@[simp] theorem State.modCip_tubs : (s.modCip f).tubs = s.tubs := rfl
@[simp] theorem State.modCip_memc : (s.modCip f).memc = s.memc := rfl
@[simp] theorem State.modCip_cip : (s.modCip f).cip = f s.cip := rfl
@[simp] theorem State.modCip_ctl : (s.modCip f).ctl = s.ctl := rfl
@[simp] theorem State.modCip_pow : (s.modCip f).pow = s.pow := rfl
@[simp] theorem State.modCip_mgt : (s.modCip f).mgt = s.mgt := rfl
@[simp] theorem State.modCip_tly : (s.modCip f).tly = s.tly := rfl
@[simp] theorem State.modCip_evr : (s.modCip f).evr = s.evr := rfl
@[simp] theorem State.modCip_saf : (s.modCip f).saf = s.saf := rfl
@[simp] theorem State.modCip_tst : (s.modCip f).tst = s.tst := rfl
@[simp] theorem State.modCip_nv : (s.modCip f).nv = s.nv := rfl
end

section
variable (f : Ctl → Ctl) (s : State)
@[simp] theorem State.modCtl_pending : (s.modCtl f).pending = s.pending := rfl
@[simp] theorem State.modCtl_regs : (s.modCtl f).regs = s.regs := rfl
@[simp] theorem State.modCtl_free : (s.modCtl f).free = s.free := rfl
@[simp] theorem State.modCtl_ident : (s.modCtl f).ident = s.ident := rfl
@[simp] theorem State.modCtl_bus : (s.modCtl f).bus = s.bus := rfl
@[simp] theorem State.modCtl_bell : (s.modCtl f).bell = s.bell := rfl
@[simp] theorem State.modCtl_pci : (s.modCtl f).pci = s.pci := rfl
@[simp] theorem State.modCtl_hfe : (s.modCtl f).hfe = s.hfe := rfl
@[simp] theorem State.modCtl_fns : (s.modCtl f).fns = s.fns := rfl
@[simp] theorem State.modCtl_zpm : (s.modCtl f).zpm = s.zpm := rfl
@[simp] theorem State.modCtl_med : (s.modCtl f).med = s.med := rfl
@[simp] theorem State.modCtl_fch : (s.modCtl f).fch = s.fch := rfl
@[simp] theorem State.modCtl_drf : (s.modCtl f).drf = s.drf := rfl
@[simp] theorem State.modCtl_ecc : (s.modCtl f).ecc = s.ecc := rfl
@[simp] theorem State.modCtl_msh : (s.modCtl f).msh = s.msh := rfl
@[simp] theorem State.modCtl_hld : (s.modCtl f).hld = s.hld := rfl
@[simp] theorem State.modCtl_tubs : (s.modCtl f).tubs = s.tubs := rfl
@[simp] theorem State.modCtl_memc : (s.modCtl f).memc = s.memc := rfl
@[simp] theorem State.modCtl_cip : (s.modCtl f).cip = s.cip := rfl
@[simp] theorem State.modCtl_ctl : (s.modCtl f).ctl = f s.ctl := rfl
@[simp] theorem State.modCtl_pow : (s.modCtl f).pow = s.pow := rfl
@[simp] theorem State.modCtl_mgt : (s.modCtl f).mgt = s.mgt := rfl
@[simp] theorem State.modCtl_tly : (s.modCtl f).tly = s.tly := rfl
@[simp] theorem State.modCtl_evr : (s.modCtl f).evr = s.evr := rfl
@[simp] theorem State.modCtl_saf : (s.modCtl f).saf = s.saf := rfl
@[simp] theorem State.modCtl_tst : (s.modCtl f).tst = s.tst := rfl
@[simp] theorem State.modCtl_nv : (s.modCtl f).nv = s.nv := rfl
end

section
variable (f : Pow → Pow) (s : State)
@[simp] theorem State.modPow_pending : (s.modPow f).pending = s.pending := rfl
@[simp] theorem State.modPow_regs : (s.modPow f).regs = s.regs := rfl
@[simp] theorem State.modPow_free : (s.modPow f).free = s.free := rfl
@[simp] theorem State.modPow_ident : (s.modPow f).ident = s.ident := rfl
@[simp] theorem State.modPow_bus : (s.modPow f).bus = s.bus := rfl
@[simp] theorem State.modPow_bell : (s.modPow f).bell = s.bell := rfl
@[simp] theorem State.modPow_pci : (s.modPow f).pci = s.pci := rfl
@[simp] theorem State.modPow_hfe : (s.modPow f).hfe = s.hfe := rfl
@[simp] theorem State.modPow_fns : (s.modPow f).fns = s.fns := rfl
@[simp] theorem State.modPow_zpm : (s.modPow f).zpm = s.zpm := rfl
@[simp] theorem State.modPow_med : (s.modPow f).med = s.med := rfl
@[simp] theorem State.modPow_fch : (s.modPow f).fch = s.fch := rfl
@[simp] theorem State.modPow_drf : (s.modPow f).drf = s.drf := rfl
@[simp] theorem State.modPow_ecc : (s.modPow f).ecc = s.ecc := rfl
@[simp] theorem State.modPow_msh : (s.modPow f).msh = s.msh := rfl
@[simp] theorem State.modPow_hld : (s.modPow f).hld = s.hld := rfl
@[simp] theorem State.modPow_tubs : (s.modPow f).tubs = s.tubs := rfl
@[simp] theorem State.modPow_memc : (s.modPow f).memc = s.memc := rfl
@[simp] theorem State.modPow_cip : (s.modPow f).cip = s.cip := rfl
@[simp] theorem State.modPow_ctl : (s.modPow f).ctl = s.ctl := rfl
@[simp] theorem State.modPow_pow : (s.modPow f).pow = f s.pow := rfl
@[simp] theorem State.modPow_mgt : (s.modPow f).mgt = s.mgt := rfl
@[simp] theorem State.modPow_tly : (s.modPow f).tly = s.tly := rfl
@[simp] theorem State.modPow_evr : (s.modPow f).evr = s.evr := rfl
@[simp] theorem State.modPow_saf : (s.modPow f).saf = s.saf := rfl
@[simp] theorem State.modPow_tst : (s.modPow f).tst = s.tst := rfl
@[simp] theorem State.modPow_nv : (s.modPow f).nv = s.nv := rfl
end

section
variable (f : Mgt → Mgt) (s : State)
@[simp] theorem State.modMgt_pending : (s.modMgt f).pending = s.pending := rfl
@[simp] theorem State.modMgt_regs : (s.modMgt f).regs = s.regs := rfl
@[simp] theorem State.modMgt_free : (s.modMgt f).free = s.free := rfl
@[simp] theorem State.modMgt_ident : (s.modMgt f).ident = s.ident := rfl
@[simp] theorem State.modMgt_bus : (s.modMgt f).bus = s.bus := rfl
@[simp] theorem State.modMgt_bell : (s.modMgt f).bell = s.bell := rfl
@[simp] theorem State.modMgt_pci : (s.modMgt f).pci = s.pci := rfl
@[simp] theorem State.modMgt_hfe : (s.modMgt f).hfe = s.hfe := rfl
@[simp] theorem State.modMgt_fns : (s.modMgt f).fns = s.fns := rfl
@[simp] theorem State.modMgt_zpm : (s.modMgt f).zpm = s.zpm := rfl
@[simp] theorem State.modMgt_med : (s.modMgt f).med = s.med := rfl
@[simp] theorem State.modMgt_fch : (s.modMgt f).fch = s.fch := rfl
@[simp] theorem State.modMgt_drf : (s.modMgt f).drf = s.drf := rfl
@[simp] theorem State.modMgt_ecc : (s.modMgt f).ecc = s.ecc := rfl
@[simp] theorem State.modMgt_msh : (s.modMgt f).msh = s.msh := rfl
@[simp] theorem State.modMgt_hld : (s.modMgt f).hld = s.hld := rfl
@[simp] theorem State.modMgt_tubs : (s.modMgt f).tubs = s.tubs := rfl
@[simp] theorem State.modMgt_memc : (s.modMgt f).memc = s.memc := rfl
@[simp] theorem State.modMgt_cip : (s.modMgt f).cip = s.cip := rfl
@[simp] theorem State.modMgt_ctl : (s.modMgt f).ctl = s.ctl := rfl
@[simp] theorem State.modMgt_pow : (s.modMgt f).pow = s.pow := rfl
@[simp] theorem State.modMgt_mgt : (s.modMgt f).mgt = f s.mgt := rfl
@[simp] theorem State.modMgt_tly : (s.modMgt f).tly = s.tly := rfl
@[simp] theorem State.modMgt_evr : (s.modMgt f).evr = s.evr := rfl
@[simp] theorem State.modMgt_saf : (s.modMgt f).saf = s.saf := rfl
@[simp] theorem State.modMgt_tst : (s.modMgt f).tst = s.tst := rfl
@[simp] theorem State.modMgt_nv : (s.modMgt f).nv = s.nv := rfl
end

section
variable (f : Tly → Tly) (s : State)
@[simp] theorem State.modTly_pending : (s.modTly f).pending = s.pending := rfl
@[simp] theorem State.modTly_regs : (s.modTly f).regs = s.regs := rfl
@[simp] theorem State.modTly_free : (s.modTly f).free = s.free := rfl
@[simp] theorem State.modTly_ident : (s.modTly f).ident = s.ident := rfl
@[simp] theorem State.modTly_bus : (s.modTly f).bus = s.bus := rfl
@[simp] theorem State.modTly_bell : (s.modTly f).bell = s.bell := rfl
@[simp] theorem State.modTly_pci : (s.modTly f).pci = s.pci := rfl
@[simp] theorem State.modTly_hfe : (s.modTly f).hfe = s.hfe := rfl
@[simp] theorem State.modTly_fns : (s.modTly f).fns = s.fns := rfl
@[simp] theorem State.modTly_zpm : (s.modTly f).zpm = s.zpm := rfl
@[simp] theorem State.modTly_med : (s.modTly f).med = s.med := rfl
@[simp] theorem State.modTly_fch : (s.modTly f).fch = s.fch := rfl
@[simp] theorem State.modTly_drf : (s.modTly f).drf = s.drf := rfl
@[simp] theorem State.modTly_ecc : (s.modTly f).ecc = s.ecc := rfl
@[simp] theorem State.modTly_msh : (s.modTly f).msh = s.msh := rfl
@[simp] theorem State.modTly_hld : (s.modTly f).hld = s.hld := rfl
@[simp] theorem State.modTly_tubs : (s.modTly f).tubs = s.tubs := rfl
@[simp] theorem State.modTly_memc : (s.modTly f).memc = s.memc := rfl
@[simp] theorem State.modTly_cip : (s.modTly f).cip = s.cip := rfl
@[simp] theorem State.modTly_ctl : (s.modTly f).ctl = s.ctl := rfl
@[simp] theorem State.modTly_pow : (s.modTly f).pow = s.pow := rfl
@[simp] theorem State.modTly_mgt : (s.modTly f).mgt = s.mgt := rfl
@[simp] theorem State.modTly_tly : (s.modTly f).tly = f s.tly := rfl
@[simp] theorem State.modTly_evr : (s.modTly f).evr = s.evr := rfl
@[simp] theorem State.modTly_saf : (s.modTly f).saf = s.saf := rfl
@[simp] theorem State.modTly_tst : (s.modTly f).tst = s.tst := rfl
@[simp] theorem State.modTly_nv : (s.modTly f).nv = s.nv := rfl
end

section
variable (f : Evr → Evr) (s : State)
@[simp] theorem State.modEvr_pending : (s.modEvr f).pending = s.pending := rfl
@[simp] theorem State.modEvr_regs : (s.modEvr f).regs = s.regs := rfl
@[simp] theorem State.modEvr_free : (s.modEvr f).free = s.free := rfl
@[simp] theorem State.modEvr_ident : (s.modEvr f).ident = s.ident := rfl
@[simp] theorem State.modEvr_bus : (s.modEvr f).bus = s.bus := rfl
@[simp] theorem State.modEvr_bell : (s.modEvr f).bell = s.bell := rfl
@[simp] theorem State.modEvr_pci : (s.modEvr f).pci = s.pci := rfl
@[simp] theorem State.modEvr_hfe : (s.modEvr f).hfe = s.hfe := rfl
@[simp] theorem State.modEvr_fns : (s.modEvr f).fns = s.fns := rfl
@[simp] theorem State.modEvr_zpm : (s.modEvr f).zpm = s.zpm := rfl
@[simp] theorem State.modEvr_med : (s.modEvr f).med = s.med := rfl
@[simp] theorem State.modEvr_fch : (s.modEvr f).fch = s.fch := rfl
@[simp] theorem State.modEvr_drf : (s.modEvr f).drf = s.drf := rfl
@[simp] theorem State.modEvr_ecc : (s.modEvr f).ecc = s.ecc := rfl
@[simp] theorem State.modEvr_msh : (s.modEvr f).msh = s.msh := rfl
@[simp] theorem State.modEvr_hld : (s.modEvr f).hld = s.hld := rfl
@[simp] theorem State.modEvr_tubs : (s.modEvr f).tubs = s.tubs := rfl
@[simp] theorem State.modEvr_memc : (s.modEvr f).memc = s.memc := rfl
@[simp] theorem State.modEvr_cip : (s.modEvr f).cip = s.cip := rfl
@[simp] theorem State.modEvr_ctl : (s.modEvr f).ctl = s.ctl := rfl
@[simp] theorem State.modEvr_pow : (s.modEvr f).pow = s.pow := rfl
@[simp] theorem State.modEvr_mgt : (s.modEvr f).mgt = s.mgt := rfl
@[simp] theorem State.modEvr_tly : (s.modEvr f).tly = s.tly := rfl
@[simp] theorem State.modEvr_evr : (s.modEvr f).evr = f s.evr := rfl
@[simp] theorem State.modEvr_saf : (s.modEvr f).saf = s.saf := rfl
@[simp] theorem State.modEvr_tst : (s.modEvr f).tst = s.tst := rfl
@[simp] theorem State.modEvr_nv : (s.modEvr f).nv = s.nv := rfl
end

section
variable (f : Saf → Saf) (s : State)
@[simp] theorem State.modSaf_pending : (s.modSaf f).pending = s.pending := rfl
@[simp] theorem State.modSaf_regs : (s.modSaf f).regs = s.regs := rfl
@[simp] theorem State.modSaf_free : (s.modSaf f).free = s.free := rfl
@[simp] theorem State.modSaf_ident : (s.modSaf f).ident = s.ident := rfl
@[simp] theorem State.modSaf_bus : (s.modSaf f).bus = s.bus := rfl
@[simp] theorem State.modSaf_bell : (s.modSaf f).bell = s.bell := rfl
@[simp] theorem State.modSaf_pci : (s.modSaf f).pci = s.pci := rfl
@[simp] theorem State.modSaf_hfe : (s.modSaf f).hfe = s.hfe := rfl
@[simp] theorem State.modSaf_fns : (s.modSaf f).fns = s.fns := rfl
@[simp] theorem State.modSaf_zpm : (s.modSaf f).zpm = s.zpm := rfl
@[simp] theorem State.modSaf_med : (s.modSaf f).med = s.med := rfl
@[simp] theorem State.modSaf_fch : (s.modSaf f).fch = s.fch := rfl
@[simp] theorem State.modSaf_drf : (s.modSaf f).drf = s.drf := rfl
@[simp] theorem State.modSaf_ecc : (s.modSaf f).ecc = s.ecc := rfl
@[simp] theorem State.modSaf_msh : (s.modSaf f).msh = s.msh := rfl
@[simp] theorem State.modSaf_hld : (s.modSaf f).hld = s.hld := rfl
@[simp] theorem State.modSaf_tubs : (s.modSaf f).tubs = s.tubs := rfl
@[simp] theorem State.modSaf_memc : (s.modSaf f).memc = s.memc := rfl
@[simp] theorem State.modSaf_cip : (s.modSaf f).cip = s.cip := rfl
@[simp] theorem State.modSaf_ctl : (s.modSaf f).ctl = s.ctl := rfl
@[simp] theorem State.modSaf_pow : (s.modSaf f).pow = s.pow := rfl
@[simp] theorem State.modSaf_mgt : (s.modSaf f).mgt = s.mgt := rfl
@[simp] theorem State.modSaf_tly : (s.modSaf f).tly = s.tly := rfl
@[simp] theorem State.modSaf_evr : (s.modSaf f).evr = s.evr := rfl
@[simp] theorem State.modSaf_saf : (s.modSaf f).saf = f s.saf := rfl
@[simp] theorem State.modSaf_tst : (s.modSaf f).tst = s.tst := rfl
@[simp] theorem State.modSaf_nv : (s.modSaf f).nv = s.nv := rfl
end

section
variable (f : Tst → Tst) (s : State)
@[simp] theorem State.modTst_pending : (s.modTst f).pending = s.pending := rfl
@[simp] theorem State.modTst_regs : (s.modTst f).regs = s.regs := rfl
@[simp] theorem State.modTst_free : (s.modTst f).free = s.free := rfl
@[simp] theorem State.modTst_ident : (s.modTst f).ident = s.ident := rfl
@[simp] theorem State.modTst_bus : (s.modTst f).bus = s.bus := rfl
@[simp] theorem State.modTst_bell : (s.modTst f).bell = s.bell := rfl
@[simp] theorem State.modTst_pci : (s.modTst f).pci = s.pci := rfl
@[simp] theorem State.modTst_hfe : (s.modTst f).hfe = s.hfe := rfl
@[simp] theorem State.modTst_fns : (s.modTst f).fns = s.fns := rfl
@[simp] theorem State.modTst_zpm : (s.modTst f).zpm = s.zpm := rfl
@[simp] theorem State.modTst_med : (s.modTst f).med = s.med := rfl
@[simp] theorem State.modTst_fch : (s.modTst f).fch = s.fch := rfl
@[simp] theorem State.modTst_drf : (s.modTst f).drf = s.drf := rfl
@[simp] theorem State.modTst_ecc : (s.modTst f).ecc = s.ecc := rfl
@[simp] theorem State.modTst_msh : (s.modTst f).msh = s.msh := rfl
@[simp] theorem State.modTst_hld : (s.modTst f).hld = s.hld := rfl
@[simp] theorem State.modTst_tubs : (s.modTst f).tubs = s.tubs := rfl
@[simp] theorem State.modTst_memc : (s.modTst f).memc = s.memc := rfl
@[simp] theorem State.modTst_cip : (s.modTst f).cip = s.cip := rfl
@[simp] theorem State.modTst_ctl : (s.modTst f).ctl = s.ctl := rfl
@[simp] theorem State.modTst_pow : (s.modTst f).pow = s.pow := rfl
@[simp] theorem State.modTst_mgt : (s.modTst f).mgt = s.mgt := rfl
@[simp] theorem State.modTst_tly : (s.modTst f).tly = s.tly := rfl
@[simp] theorem State.modTst_evr : (s.modTst f).evr = s.evr := rfl
@[simp] theorem State.modTst_saf : (s.modTst f).saf = s.saf := rfl
@[simp] theorem State.modTst_tst : (s.modTst f).tst = f s.tst := rfl
@[simp] theorem State.modTst_nv : (s.modTst f).nv = s.nv := rfl
end

section
variable (f : Nv → Nv) (s : State)
@[simp] theorem State.modNv_pending : (s.modNv f).pending = s.pending := rfl
@[simp] theorem State.modNv_regs : (s.modNv f).regs = s.regs := rfl
@[simp] theorem State.modNv_free : (s.modNv f).free = s.free := rfl
@[simp] theorem State.modNv_ident : (s.modNv f).ident = s.ident := rfl
@[simp] theorem State.modNv_bus : (s.modNv f).bus = s.bus := rfl
@[simp] theorem State.modNv_bell : (s.modNv f).bell = s.bell := rfl
@[simp] theorem State.modNv_pci : (s.modNv f).pci = s.pci := rfl
@[simp] theorem State.modNv_hfe : (s.modNv f).hfe = s.hfe := rfl
@[simp] theorem State.modNv_fns : (s.modNv f).fns = s.fns := rfl
@[simp] theorem State.modNv_zpm : (s.modNv f).zpm = s.zpm := rfl
@[simp] theorem State.modNv_med : (s.modNv f).med = s.med := rfl
@[simp] theorem State.modNv_fch : (s.modNv f).fch = s.fch := rfl
@[simp] theorem State.modNv_drf : (s.modNv f).drf = s.drf := rfl
@[simp] theorem State.modNv_ecc : (s.modNv f).ecc = s.ecc := rfl
@[simp] theorem State.modNv_msh : (s.modNv f).msh = s.msh := rfl
@[simp] theorem State.modNv_hld : (s.modNv f).hld = s.hld := rfl
@[simp] theorem State.modNv_tubs : (s.modNv f).tubs = s.tubs := rfl
@[simp] theorem State.modNv_memc : (s.modNv f).memc = s.memc := rfl
@[simp] theorem State.modNv_cip : (s.modNv f).cip = s.cip := rfl
@[simp] theorem State.modNv_ctl : (s.modNv f).ctl = s.ctl := rfl
@[simp] theorem State.modNv_pow : (s.modNv f).pow = s.pow := rfl
@[simp] theorem State.modNv_mgt : (s.modNv f).mgt = s.mgt := rfl
@[simp] theorem State.modNv_tly : (s.modNv f).tly = s.tly := rfl
@[simp] theorem State.modNv_evr : (s.modNv f).evr = s.evr := rfl
@[simp] theorem State.modNv_saf : (s.modNv f).saf = s.saf := rfl
@[simp] theorem State.modNv_tst : (s.modNv f).tst = s.tst := rfl
@[simp] theorem State.modNv_nv : (s.modNv f).nv = f s.nv := rfl
end

end Sys2Proof.Machine
end

