-- ==== Sys2Proof/Laws/Tab.lean ====
section
/-! SUPPORT. Laws/Tab.lean: reads after writes of a sparse table, and the canonical form every table operation keeps. -/

namespace Sys2Proof.Machine.Tab

section
variable {V : Type} (d : V)

theorem get_erase_self (t : Tab V) (k : Nat) : get d (erase t k) k = d := by
  induction t with
  | nil => rfl
  | cons e t ih =>
    obtain ⟨j, v⟩ := e
    by_cases h : j = k <;> simp [erase, get, h, ih]

theorem get_erase_ne (t : Tab V) {j k : Nat} (h : j ≠ k) : get d (erase t k) j = get d t j := by
  induction t with
  | nil => rfl
  | cons e t ih =>
    obtain ⟨i, v⟩ := e
    by_cases h1 : i = k
    · subst h1; simp [erase, get, ih, Ne.symm h]
    · by_cases h2 : i = j
      · subst h2; simp [erase, get, h1]
      · simp [erase, get, h1, h2, ih]

theorem get_insert_ne (t : Tab V) {j k : Nat} (v : V) (h : j ≠ k) : get d (insert t k v) j = get d t j := by
  induction t with
  | nil => simp [insert, get, Ne.symm h]
  | cons e t ih =>
    obtain ⟨i, u⟩ := e
    by_cases h1 : k < i
    · simp [insert, get, h1, Ne.symm h]
    · by_cases h2 : i = j
      · subst h2; simp [insert, get, h1]
      · simp [insert, get, h1, h2, ih]

theorem get_insert_self (t : Tab V) (k : Nat) (v : V) (h : ∀ e ∈ t, e.1 ≠ k) : get d (insert t k v) k = v := by
  induction t with
  | nil => simp [insert, get]
  | cons e t ih =>
    obtain ⟨i, u⟩ := e
    by_cases h1 : k < i
    · simp [insert, get, h1]
    · have h2 : i ≠ k := h (i, u) (List.mem_cons_self ..)
      simp [insert, get, h1, h2, ih fun e he => h e (List.mem_cons_of_mem _ he)]

theorem key_ne_of_mem_erase (t : Tab V) (k : Nat) : ∀ e ∈ erase t k, e.1 ≠ k := by
  induction t with
  | nil => simp [erase]
  | cons e t ih =>
    obtain ⟨i, u⟩ := e
    by_cases h : i = k
    · simpa [erase, h] using ih
    · intro e he
      simp only [erase, h, if_false, List.mem_cons] at he
      rcases he with rfl | he
      · exact h
      · exact ih e he

end

section
variable {V : Type} [DecidableEq V] (d : V)

@[simp] theorem get_set_self (t : Tab V) (k : Nat) (v : V) : get d (set d t k v) k = v := by
  by_cases h : v = d
  · simp [set, h, get_erase_self]
  · simp [set, h, get_insert_self d _ k v (key_ne_of_mem_erase t k)]

theorem get_set_ne (t : Tab V) {j k : Nat} (v : V) (h : j ≠ k) : get d (set d t k v) j = get d t j := by
  by_cases hv : v = d
  · simp [set, hv, get_erase_ne d t h]
  · simp [set, hv, get_insert_ne d _ v h, get_erase_ne d t h]

/-- A write at one key leaves every other key as it was, whatever default either is read with. -/
theorem get_set_ne' (d' : V) (t : Tab V) {j k : Nat} (v : V) (h : j ≠ k) : get d' (set d t k v) j = get d' t j := by
  by_cases hv : v = d
  · simp [set, hv, get_erase_ne d' t h]
  · simp [set, hv, get_insert_ne d' _ v h, get_erase_ne d' t h]

@[simp] theorem get_upd_self (t : Tab V) (k : Nat) (f : V → V) : get d (upd d t k f) k = f (get d t k) := get_set_self ..

theorem get_upd_ne (t : Tab V) {j k : Nat} (f : V → V) (h : j ≠ k) : get d (upd d t k f) j = get d t j := get_set_ne d t _ h

end

/-! The canonical form. -/

section
variable {V : Type}

theorem rising_cons {j : Nat} {v : V} {t : Tab V} (h : ∀ e ∈ t, j < e.1) (ht : rising t = true) : rising ((j, v) :: t) = true := by
  cases t with
  | nil => rfl
  | cons e t => simp [rising, h e (List.mem_cons_self ..), ht]

theorem lt_of_rising {j : Nat} {v : V} {t : Tab V} (h : rising ((j, v) :: t) = true) : ∀ e ∈ t, j < e.1 := by
  induction t generalizing j v with
  | nil => simp
  | cons e t ih =>
    obtain ⟨k, u⟩ := e
    simp only [rising, Bool.and_eq_true, decide_eq_true_eq] at h
    intro x hx
    rcases List.mem_cons.1 hx with rfl | hx
    · exact h.1
    · exact Nat.lt_trans h.1 (ih h.2 x hx)

theorem rising_tail {j : Nat} {v : V} {t : Tab V} (h : rising ((j, v) :: t) = true) : rising t = true := by
  cases t with
  | nil => rfl
  | cons e t => simp only [rising, Bool.and_eq_true] at h; exact h.2

theorem mem_erase {t : Tab V} {k : Nat} {e : Nat × V} (h : e ∈ erase t k) : e ∈ t := by
  induction t with
  | nil => simp [erase] at h
  | cons x t ih =>
    obtain ⟨i, u⟩ := x
    by_cases hi : i = k
    · exact List.mem_cons_of_mem _ (ih (by simpa [erase, hi] using h))
    · simp only [erase, hi, if_false, List.mem_cons] at h
      exact h.elim (fun h => h ▸ List.mem_cons_self ..) fun h => List.mem_cons_of_mem _ (ih h)

theorem mem_insert {t : Tab V} {k : Nat} {v : V} {e : Nat × V} (h : e ∈ insert t k v) : e = (k, v) ∨ e ∈ t := by
  induction t with
  | nil => exact .inl (by simpa [insert] using h)
  | cons x t ih =>
    obtain ⟨i, u⟩ := x
    by_cases hi : k < i
    · simpa [insert, hi] using h
    · simp only [insert, hi, if_false, List.mem_cons] at h
      rcases h with rfl | h
      · exact .inr (List.mem_cons_self ..)
      · exact (ih h).imp_right (List.mem_cons_of_mem _)

theorem rising_erase {t : Tab V} (k : Nat) (h : rising t = true) : rising (erase t k) = true := by
  induction t with
  | nil => rfl
  | cons e t ih =>
    obtain ⟨i, u⟩ := e
    by_cases hi : i = k
    · simpa [erase, hi] using ih (rising_tail h)
    · simp only [erase, hi, if_false]
      exact rising_cons (fun e he => lt_of_rising h e (mem_erase he)) (ih (rising_tail h))

theorem rising_insert {t : Tab V} (k : Nat) (v : V) (h : rising t = true) (hk : ∀ e ∈ t, e.1 ≠ k) :
    rising (insert t k v) = true := by
  induction t with
  | nil => rfl
  | cons e t ih =>
    obtain ⟨i, u⟩ := e
    by_cases hi : k < i
    · simp only [insert, hi, if_true]
      exact rising_cons (fun e he => (List.mem_cons.1 he).elim (fun h => h ▸ hi) fun he => Nat.lt_trans hi (lt_of_rising h e he)) h
    · have hik : i < k := by
        have := hk (i, u) (List.mem_cons_self ..); simp only at this; omega
      simp only [insert, hi, if_false]
      refine rising_cons (fun e he => ?_) (ih (rising_tail h) fun e he => hk e (List.mem_cons_of_mem _ he))
      rcases mem_insert he with rfl | he
      · exact hik
      · exact lt_of_rising h e he

theorem rising_filter (p : Nat × V → Bool) {t : Tab V} (h : rising t = true) : rising (t.filter p) = true := by
  induction t with
  | nil => rfl
  | cons e t ih =>
    by_cases hp : p e = true
    · rw [List.filter_cons_of_pos hp]
      exact rising_cons (fun x hx => lt_of_rising h x (List.mem_filter.1 hx).1) (ih (rising_tail h))
    · rw [List.filter_cons_of_neg hp]; exact ih (rising_tail h)

end

section
variable {V : Type} [DecidableEq V] (d : V)

theorem wf_erase {t : Tab V} (k : Nat) (h : wf d t = true) : wf d (erase t k) = true := by
  simp only [wf, Bool.and_eq_true, List.all_eq_true] at h ⊢
  exact ⟨rising_erase k h.1, fun e he => h.2 e (mem_erase he)⟩

/-- Every write keeps the canonical form. -/
theorem wf_set {t : Tab V} (k : Nat) (v : V) (h : wf d t = true) : wf d (set d t k v) = true := by
  have he := wf_erase d k h
  by_cases hv : v = d
  · simpa [set, hv] using he
  · simp only [wf, set, hv, if_false, Bool.and_eq_true, List.all_eq_true] at he ⊢
    refine ⟨rising_insert k v he.1 (key_ne_of_mem_erase t k), fun e h' => ?_⟩
    rcases mem_insert h' with rfl | h'
    · simpa using hv
    · exact he.2 e h'

theorem wf_filter (p : Nat × V → Bool) {t : Tab V} (h : wf d t = true) : wf d (t.filter p) = true := by
  simp only [wf, Bool.and_eq_true, List.all_eq_true] at h ⊢
  exact ⟨rising_filter p h.1, fun e he => h.2 e (List.mem_filter.1 he).1⟩

theorem rising_set {t : Tab V} (k : Nat) (v : V) (h : rising t = true) : rising (set d t k v) = true := by
  have he := rising_erase k h
  by_cases hv : v = d
  · simpa [set, hv] using he
  · simp only [set, hv, if_false]; exact rising_insert k v he (key_ne_of_mem_erase t k)

theorem wf_upd {t : Tab V} (k : Nat) (f : V → V) (h : wf d t = true) : wf d (upd d t k f) = true := wf_set d k _ h

end

end Sys2Proof.Machine.Tab
end

