-- ==== Sys2Proof/Laws/Regs.lean ====
section
/-! SUPPORT. Laws/Regs.lean: register fields: what a field reads after a write of it or of another, and that a write of a field
changes nothing else. -/

namespace Sys2Proof.Machine

section
variable (s : State) (f g : Fld) (v n : Nat) (b : Bool)

@[simp] theorem State.fld_setFld : (s.setFld f v).fld f = v % 2 ^ f.w := by
  simp [State.fld, State.setFld]

theorem State.fld_setFld_ne (h : g.key ≠ f.key) : (s.setFld f v).fld g = s.fld g := by
  simp [State.fld, State.setFld, Tab.get_set_ne' _ _ _ _ h]

@[simp] theorem State.fld_put : (s.put f b).fld f = b.toNat % 2 ^ f.w := by simp [State.put]
theorem State.fld_put_ne (h : g.key ≠ f.key) : (s.put f b).fld g = s.fld g := State.fld_setFld_ne s f g _ h
@[simp] theorem State.fld_count : (s.count f n).fld f = min (s.fld f + n) (2 ^ f.w - 1) % 2 ^ f.w := by simp [State.count]
theorem State.fld_count_ne (h : g.key ≠ f.key) : (s.count f n).fld g = s.fld g := State.fld_setFld_ne s f g _ h

/-- A one-bit field written with a Bool is on exactly when the Bool is true. -/
theorem State.on_put (h : 1 ≤ f.w) : (s.put f b).on f = b := by
  have h2 : 1 < 2 ^ f.w := Nat.one_lt_two_pow (by omega)
  cases b <;> simp [State.on, Nat.mod_eq_of_lt h2]
theorem State.on_put_ne (h : g.key ≠ f.key) : (s.put f b).on g = s.on g := by simp [State.on, State.fld_put_ne s f g b h]
theorem State.on_setFld_ne (h : g.key ≠ f.key) : (s.setFld f v).on g = s.on g := by simp [State.on, State.fld_setFld_ne s f g v h]

end

section
variable (s : State) (f : Fld) (v n : Nat) (b : Bool)
@[simp] theorem State.setFld_pending : (s.setFld f v).pending = s.pending := rfl
@[simp] theorem State.setFld_free : (s.setFld f v).free = s.free := rfl
@[simp] theorem State.setFld_ident : (s.setFld f v).ident = s.ident := rfl
@[simp] theorem State.setFld_bus : (s.setFld f v).bus = s.bus := rfl
@[simp] theorem State.setFld_bell : (s.setFld f v).bell = s.bell := rfl
@[simp] theorem State.setFld_pci : (s.setFld f v).pci = s.pci := rfl
@[simp] theorem State.setFld_hfe : (s.setFld f v).hfe = s.hfe := rfl
@[simp] theorem State.setFld_fns : (s.setFld f v).fns = s.fns := rfl
@[simp] theorem State.setFld_zpm : (s.setFld f v).zpm = s.zpm := rfl
@[simp] theorem State.setFld_med : (s.setFld f v).med = s.med := rfl
@[simp] theorem State.setFld_fch : (s.setFld f v).fch = s.fch := rfl
@[simp] theorem State.setFld_drf : (s.setFld f v).drf = s.drf := rfl
@[simp] theorem State.setFld_ecc : (s.setFld f v).ecc = s.ecc := rfl
@[simp] theorem State.setFld_msh : (s.setFld f v).msh = s.msh := rfl
@[simp] theorem State.setFld_hld : (s.setFld f v).hld = s.hld := rfl
@[simp] theorem State.setFld_tubs : (s.setFld f v).tubs = s.tubs := rfl
@[simp] theorem State.setFld_memc : (s.setFld f v).memc = s.memc := rfl
@[simp] theorem State.setFld_cip : (s.setFld f v).cip = s.cip := rfl
@[simp] theorem State.setFld_ctl : (s.setFld f v).ctl = s.ctl := rfl
@[simp] theorem State.setFld_pow : (s.setFld f v).pow = s.pow := rfl
@[simp] theorem State.setFld_mgt : (s.setFld f v).mgt = s.mgt := rfl
@[simp] theorem State.setFld_tly : (s.setFld f v).tly = s.tly := rfl
@[simp] theorem State.setFld_evr : (s.setFld f v).evr = s.evr := rfl
@[simp] theorem State.setFld_saf : (s.setFld f v).saf = s.saf := rfl
@[simp] theorem State.setFld_tst : (s.setFld f v).tst = s.tst := rfl
@[simp] theorem State.setFld_nv : (s.setFld f v).nv = s.nv := rfl
end

section
variable (s : State) (f : Fld) (v n : Nat) (b : Bool)
@[simp] theorem State.put_pending : (s.put f b).pending = s.pending := rfl
@[simp] theorem State.put_free : (s.put f b).free = s.free := rfl
@[simp] theorem State.put_ident : (s.put f b).ident = s.ident := rfl
@[simp] theorem State.put_bus : (s.put f b).bus = s.bus := rfl
@[simp] theorem State.put_bell : (s.put f b).bell = s.bell := rfl
@[simp] theorem State.put_pci : (s.put f b).pci = s.pci := rfl
@[simp] theorem State.put_hfe : (s.put f b).hfe = s.hfe := rfl
@[simp] theorem State.put_fns : (s.put f b).fns = s.fns := rfl
@[simp] theorem State.put_zpm : (s.put f b).zpm = s.zpm := rfl
@[simp] theorem State.put_med : (s.put f b).med = s.med := rfl
@[simp] theorem State.put_fch : (s.put f b).fch = s.fch := rfl
@[simp] theorem State.put_drf : (s.put f b).drf = s.drf := rfl
@[simp] theorem State.put_ecc : (s.put f b).ecc = s.ecc := rfl
@[simp] theorem State.put_msh : (s.put f b).msh = s.msh := rfl
@[simp] theorem State.put_hld : (s.put f b).hld = s.hld := rfl
@[simp] theorem State.put_tubs : (s.put f b).tubs = s.tubs := rfl
@[simp] theorem State.put_memc : (s.put f b).memc = s.memc := rfl
@[simp] theorem State.put_cip : (s.put f b).cip = s.cip := rfl
@[simp] theorem State.put_ctl : (s.put f b).ctl = s.ctl := rfl
@[simp] theorem State.put_pow : (s.put f b).pow = s.pow := rfl
@[simp] theorem State.put_mgt : (s.put f b).mgt = s.mgt := rfl
@[simp] theorem State.put_tly : (s.put f b).tly = s.tly := rfl
@[simp] theorem State.put_evr : (s.put f b).evr = s.evr := rfl
@[simp] theorem State.put_saf : (s.put f b).saf = s.saf := rfl
@[simp] theorem State.put_tst : (s.put f b).tst = s.tst := rfl
@[simp] theorem State.put_nv : (s.put f b).nv = s.nv := rfl
end

section
variable (s : State) (f : Fld) (v n : Nat) (b : Bool)
@[simp] theorem State.count_pending : (s.count f n).pending = s.pending := rfl
@[simp] theorem State.count_free : (s.count f n).free = s.free := rfl
@[simp] theorem State.count_ident : (s.count f n).ident = s.ident := rfl
@[simp] theorem State.count_bus : (s.count f n).bus = s.bus := rfl
@[simp] theorem State.count_bell : (s.count f n).bell = s.bell := rfl
@[simp] theorem State.count_pci : (s.count f n).pci = s.pci := rfl
@[simp] theorem State.count_hfe : (s.count f n).hfe = s.hfe := rfl
@[simp] theorem State.count_fns : (s.count f n).fns = s.fns := rfl
@[simp] theorem State.count_zpm : (s.count f n).zpm = s.zpm := rfl
@[simp] theorem State.count_med : (s.count f n).med = s.med := rfl
@[simp] theorem State.count_fch : (s.count f n).fch = s.fch := rfl
@[simp] theorem State.count_drf : (s.count f n).drf = s.drf := rfl
@[simp] theorem State.count_ecc : (s.count f n).ecc = s.ecc := rfl
@[simp] theorem State.count_msh : (s.count f n).msh = s.msh := rfl
@[simp] theorem State.count_hld : (s.count f n).hld = s.hld := rfl
@[simp] theorem State.count_tubs : (s.count f n).tubs = s.tubs := rfl
@[simp] theorem State.count_memc : (s.count f n).memc = s.memc := rfl
@[simp] theorem State.count_cip : (s.count f n).cip = s.cip := rfl
@[simp] theorem State.count_ctl : (s.count f n).ctl = s.ctl := rfl
@[simp] theorem State.count_pow : (s.count f n).pow = s.pow := rfl
@[simp] theorem State.count_mgt : (s.count f n).mgt = s.mgt := rfl
@[simp] theorem State.count_tly : (s.count f n).tly = s.tly := rfl
@[simp] theorem State.count_evr : (s.count f n).evr = s.evr := rfl
@[simp] theorem State.count_saf : (s.count f n).saf = s.saf := rfl
@[simp] theorem State.count_tst : (s.count f n).tst = s.tst := rfl
@[simp] theorem State.count_nv : (s.count f n).nv = s.nv := rfl
end

/-! A change of a subsystem leaves every register field. -/

section
variable (s : State) (f : Fld)
@[simp] theorem State.fld_modFree (g : Nat → Nat) : (s.modFree g).fld f = s.fld f := rfl
@[simp] theorem State.on_modFree (g : Nat → Nat) : (s.modFree g).on f = s.on f := rfl
@[simp] theorem State.fld_modIdent (g : Ident → Ident) : (s.modIdent g).fld f = s.fld f := rfl
@[simp] theorem State.on_modIdent (g : Ident → Ident) : (s.modIdent g).on f = s.on f := rfl
@[simp] theorem State.fld_modBus (g : BusIf → BusIf) : (s.modBus g).fld f = s.fld f := rfl
@[simp] theorem State.on_modBus (g : BusIf → BusIf) : (s.modBus g).on f = s.on f := rfl
@[simp] theorem State.fld_modBell (g : Bell → Bell) : (s.modBell g).fld f = s.fld f := rfl
@[simp] theorem State.on_modBell (g : Bell → Bell) : (s.modBell g).on f = s.on f := rfl
@[simp] theorem State.fld_modPci (g : Pci → Pci) : (s.modPci g).fld f = s.fld f := rfl
@[simp] theorem State.on_modPci (g : Pci → Pci) : (s.modPci g).on f = s.on f := rfl
@[simp] theorem State.fld_modHfe (g : Hfe → Hfe) : (s.modHfe g).fld f = s.fld f := rfl
@[simp] theorem State.on_modHfe (g : Hfe → Hfe) : (s.modHfe g).on f = s.on f := rfl
@[simp] theorem State.fld_modFns (g : Fns → Fns) : (s.modFns g).fld f = s.fld f := rfl
@[simp] theorem State.on_modFns (g : Fns → Fns) : (s.modFns g).on f = s.on f := rfl
@[simp] theorem State.fld_modZpm (g : Zpm → Zpm) : (s.modZpm g).fld f = s.fld f := rfl
@[simp] theorem State.on_modZpm (g : Zpm → Zpm) : (s.modZpm g).on f = s.on f := rfl
@[simp] theorem State.fld_modMed (g : Med → Med) : (s.modMed g).fld f = s.fld f := rfl
@[simp] theorem State.on_modMed (g : Med → Med) : (s.modMed g).on f = s.on f := rfl
@[simp] theorem State.fld_modFch (g : Fch → Fch) : (s.modFch g).fld f = s.fld f := rfl
@[simp] theorem State.on_modFch (g : Fch → Fch) : (s.modFch g).on f = s.on f := rfl
@[simp] theorem State.fld_modDrf (g : Drf → Drf) : (s.modDrf g).fld f = s.fld f := rfl
@[simp] theorem State.on_modDrf (g : Drf → Drf) : (s.modDrf g).on f = s.on f := rfl
@[simp] theorem State.fld_modEcc (g : Ecc → Ecc) : (s.modEcc g).fld f = s.fld f := rfl
@[simp] theorem State.on_modEcc (g : Ecc → Ecc) : (s.modEcc g).on f = s.on f := rfl
@[simp] theorem State.fld_modMsh (g : Msh → Msh) : (s.modMsh g).fld f = s.fld f := rfl
@[simp] theorem State.on_modMsh (g : Msh → Msh) : (s.modMsh g).on f = s.on f := rfl
@[simp] theorem State.fld_modHld (g : Hld → Hld) : (s.modHld g).fld f = s.fld f := rfl
@[simp] theorem State.on_modHld (g : Hld → Hld) : (s.modHld g).on f = s.on f := rfl
@[simp] theorem State.fld_modTubs (g : Tubs → Tubs) : (s.modTubs g).fld f = s.fld f := rfl
@[simp] theorem State.on_modTubs (g : Tubs → Tubs) : (s.modTubs g).on f = s.on f := rfl
@[simp] theorem State.fld_modMemc (g : Memc → Memc) : (s.modMemc g).fld f = s.fld f := rfl
@[simp] theorem State.on_modMemc (g : Memc → Memc) : (s.modMemc g).on f = s.on f := rfl
@[simp] theorem State.fld_modCip (g : Cip → Cip) : (s.modCip g).fld f = s.fld f := rfl
@[simp] theorem State.on_modCip (g : Cip → Cip) : (s.modCip g).on f = s.on f := rfl
@[simp] theorem State.fld_modCtl (g : Ctl → Ctl) : (s.modCtl g).fld f = s.fld f := rfl
@[simp] theorem State.on_modCtl (g : Ctl → Ctl) : (s.modCtl g).on f = s.on f := rfl
@[simp] theorem State.fld_modPow (g : Pow → Pow) : (s.modPow g).fld f = s.fld f := rfl
@[simp] theorem State.on_modPow (g : Pow → Pow) : (s.modPow g).on f = s.on f := rfl
@[simp] theorem State.fld_modMgt (g : Mgt → Mgt) : (s.modMgt g).fld f = s.fld f := rfl
@[simp] theorem State.on_modMgt (g : Mgt → Mgt) : (s.modMgt g).on f = s.on f := rfl
@[simp] theorem State.fld_modTly (g : Tly → Tly) : (s.modTly g).fld f = s.fld f := rfl
@[simp] theorem State.on_modTly (g : Tly → Tly) : (s.modTly g).on f = s.on f := rfl
@[simp] theorem State.fld_modEvr (g : Evr → Evr) : (s.modEvr g).fld f = s.fld f := rfl
@[simp] theorem State.on_modEvr (g : Evr → Evr) : (s.modEvr g).on f = s.on f := rfl
@[simp] theorem State.fld_modSaf (g : Saf → Saf) : (s.modSaf g).fld f = s.fld f := rfl
@[simp] theorem State.on_modSaf (g : Saf → Saf) : (s.modSaf g).on f = s.on f := rfl
@[simp] theorem State.fld_modTst (g : Tst → Tst) : (s.modTst g).fld f = s.fld f := rfl
@[simp] theorem State.on_modTst (g : Tst → Tst) : (s.modTst g).on f = s.on f := rfl
@[simp] theorem State.fld_modNv (g : Nv → Nv) : (s.modNv g).fld f = s.fld f := rfl
@[simp] theorem State.on_modNv (g : Nv → Nv) : (s.modNv g).on f = s.on f := rfl
end

end Sys2Proof.Machine
end

