-- ==== Sys2Proof/Laws/Events.lean ====
section
/-! SUPPORT. Laws/Events.lean: what the assertion of an event source may change (R502, R572, R591): the pending bits, the recorder,
the notices, what a capture does to the bus and the clock of a gated domain, and an end of IDLE; nothing else. -/

namespace Sys2Proof.Machine

/-! Lists of steps. -/

/-- A property that every step of a list of steps keeps relates the ends. -/
theorem each_rel {α : Type} {R : State → State → Prop} (hr : ∀ s, R s s) (ht : ∀ a b c, R a b → R b c → R a c)
    (l : List α) (f : α → State → State) (h : ∀ a s, R s (f a s)) (s : State) : R s (each l f s) := by
  induction l generalizing s with
  | nil => exact hr s
  | cons a l ih => exact ht _ _ _ (h a s) (ih (f a s))

/-- A value that no step of a list of steps changes. -/
theorem each_const {α β : Type} (g : State → β) (l : List α) (f : α → State → State) (h : ∀ a s, g (f a s) = g s) (s : State) :
    g (each l f s) = g s := by
  induction l generalizing s with
  | nil => rfl
  | cons a l ih => exact (ih (f a s)).trans (h a s)

/-! The frame of an event. -/

/-- Is it the key of a pending bit? -/
def pendKey (k : Nat) : Bool := decide (0x41e00000 * 32 ≤ k ∧ k < 0x41e00800 * 32 ∧ k % 32 = 0)

/-- `t` differs from `s` by the effects of events at most. -/
structure Quiet (s t : State) : Prop where
  rest : t.quiet = s.quiet
  fld : ∀ f : Fld, eventKey f.key = false → t.fld f = s.fld f
  pend : ∀ n < 512, s.on (EVT_SRC.PEND n) = true → t.on (EVT_SRC.PEND n) = true

theorem Quiet.refl (s : State) : Quiet s s := ⟨rfl, fun _ _ => rfl, fun _ _ h => h⟩
theorem Quiet.trans {a b c : State} (h : Quiet a b) (k : Quiet b c) : Quiet a c :=
  ⟨k.rest.trans h.rest, fun f hf => (k.fld f hf).trans (h.fld f hf), fun n hn hp => k.pend n hn (h.pend n hn hp)⟩
/-- A register field that no event changes is on as before. -/
theorem Quiet.on {s t : State} (h : Quiet s t) (f : Fld) (hf : eventKey f.key = false) : t.on f = s.on f := by
  simp only [State.on, h.fld f hf]

section
variable {s t : State} (h : Quiet s t)
include h
theorem Quiet.pending : t.pending = s.pending := (congrArg State.pending h.rest :)
theorem Quiet.free : t.free = s.free := (congrArg State.free h.rest :)
theorem Quiet.ident : t.ident = s.ident := (congrArg State.ident h.rest :)
theorem Quiet.bell : t.bell = s.bell := (congrArg State.bell h.rest :)
theorem Quiet.pci : t.pci = s.pci := (congrArg State.pci h.rest :)
theorem Quiet.hfe : t.hfe = s.hfe := (congrArg State.hfe h.rest :)
theorem Quiet.fns : t.fns = s.fns := (congrArg State.fns h.rest :)
theorem Quiet.zpm : t.zpm = s.zpm := (congrArg State.zpm h.rest :)
theorem Quiet.med : t.med = s.med := (congrArg State.med h.rest :)
theorem Quiet.fch : t.fch = s.fch := (congrArg State.fch h.rest :)
theorem Quiet.ecc : t.ecc = s.ecc := (congrArg State.ecc h.rest :)
theorem Quiet.msh : t.msh = s.msh := (congrArg State.msh h.rest :)
theorem Quiet.hld : t.hld = s.hld := (congrArg State.hld h.rest :)
theorem Quiet.tubs : t.tubs = s.tubs := (congrArg State.tubs h.rest :)
theorem Quiet.memc : t.memc = s.memc := (congrArg State.memc h.rest :)
theorem Quiet.cip : t.cip = s.cip := (congrArg State.cip h.rest :)
theorem Quiet.ctl : t.ctl = s.ctl := (congrArg State.ctl h.rest :)
theorem Quiet.pow : t.pow = s.pow := (congrArg State.pow h.rest :)
theorem Quiet.tly : t.tly = s.tly := (congrArg State.tly h.rest :)
theorem Quiet.saf : t.saf = s.saf := (congrArg State.saf h.rest :)
theorem Quiet.tst : t.tst = s.tst := (congrArg State.tst h.rest :)
theorem Quiet.nv : t.nv = s.nv := (congrArg State.nv h.rest :)
theorem Quiet.memory : t.bus.mem = s.bus.mem := (congrArg (fun x => x.bus.mem) h.rest :)
theorem Quiet.media : t.drf.media = s.drf.media := (congrArg (fun x => x.drf.media) h.rest :)
theorem Quiet.dict : t.mgt.dict = s.mgt.dict := (congrArg (fun x => x.mgt.dict) h.rest :)
end

theorem pendKey_pend (n : Nat) : pendKey (EVT_SRC.PEND n).key = true := by
  refine decide_eq_true ?_; simp only [EVT_SRC.PEND, Fld.key]; omega
theorem loud_pend (n : Nat) : eventKey (EVT_SRC.PEND n).key = true := by
  refine decide_eq_true ?_; simp only [EVT_SRC.PEND, Fld.key]; omega
theorem loud_ovf (n : Nat) : eventKey (EVT_SRC.OVF n).key = true := by
  refine decide_eq_true ?_; simp only [EVT_SRC.OVF, Fld.key]; omega
theorem not_pendKey_ovf (n : Nat) : pendKey (EVT_SRC.OVF n).key = false := by
  refine decide_eq_false ?_; simp only [EVT_SRC.OVF, Fld.key]; omega

/-- A write of a field an event may change, other than a pending bit. -/
theorem Quiet.setFld (s : State) (f : Fld) (v : Nat) (h : eventKey f.key = true) (hp : pendKey f.key = false) :
    Quiet s (s.setFld f v) where
  rest := rfl
  fld g hg := State.fld_setFld_ne s f g v fun e => by simp [e, h] at hg
  pend n hn hs := by
    rw [State.on_setFld_ne s f (EVT_SRC.PEND n) v fun e => by simp [← e, pendKey_pend n] at hp]; exact hs

/-- Setting a pending bit. -/
theorem Quiet.putPend (s : State) {n : Nat} (hn : n < 512) : Quiet s (s.put (EVT_SRC.PEND n) true) where
  rest := rfl
  fld g hg := State.fld_put_ne s _ g true fun e => by simp [e, loud_pend n] at hg
  pend m _ hs := by
    by_cases e : (EVT_SRC.PEND m).key = (EVT_SRC.PEND n).key
    · have : m = n := by simp only [EVT_SRC.PEND, Fld.key] at e; omega
      subst this; exact State.on_put s _ true (by simp [EVT_SRC.PEND])
    · rw [State.on_put_ne s _ _ true e]; exact hs

theorem Quiet.modEvr (s : State) (f : Evr → Evr) : Quiet s (s.modEvr f) := ⟨rfl, fun _ _ => rfl, fun _ _ h => h⟩

theorem State.accessFault_quiet (m a c : Nat) (s : State) : Quiet s (s.accessFault m a c) := by
  have h0 : Quiet s (s.modBus fun b => { b with rfault := Tab.set 0 b.rfault m c, rdata := Tab.set 0 b.rdata m 0 }) :=
    ⟨rfl, fun _ _ => rfl, fun _ _ h => h⟩
  unfold State.accessFault
  dsimp only
  split
  · exact h0.trans (Quiet.setFld _ _ _ (by decide) (by decide))
  · exact ((((h0.trans (Quiet.setFld _ _ _ (by decide) (by decide))).trans (Quiet.setFld _ _ _ (by decide) (by decide))).trans (Quiet.setFld _ _ _ (by decide) (by decide))).trans
      (Quiet.setFld _ _ _ (by decide) (by decide))).trans (Quiet.setFld _ _ _ (by decide) (by decide))

theorem loud_dom (k : Nat) : eventKey (PWR_DOM.STATE k).key = true := by
  refine decide_eq_true ?_; simp only [PWR_DOM.STATE, Fld.key]; omega

theorem not_pendKey_dom (k : Nat) : pendKey (PWR_DOM.STATE k).key = false := by
  refine decide_eq_false ?_; simp only [PWR_DOM.STATE, Fld.key]; omega

theorem State.ungate_some_quiet (k : Nat) (s : State) : Quiet s (s.ungate (some k)) := by
  simp only [State.ungate]
  split
  · exact Quiet.setFld _ _ _ (loud_dom k) (not_pendKey_dom k)
  · exact Quiet.refl s

theorem State.ungate_quiet (a : Nat) (s : State) : Quiet s (s.ungate (domainOfReg a)) := by
  generalize domainOfReg a = d
  cases d with
  | none => exact Quiet.refl s
  | some k => exact s.ungate_some_quiet k

theorem State.peekRead_quiet (m a : Nat) (s : State) : Quiet s (s.peekRead m a).2 := by
  unfold State.peekRead
  split
  · exact s.accessFault_quiet ..
  · split
    · exact s.accessFault_quiet ..
    · exact s.ungate_quiet a

theorem State.capture_quiet (l : List Nat) (i : Nat) (s : State) : Quiet s (s.capture l i).2 := by
  induction l generalizing i s with
  | nil => exact Quiet.refl s
  | cons o l ih => exact (s.peekRead_quiet 7 _).trans (ih (i + 1) _)

theorem State.submitHw_quiet (e c : Nat) (d : Desc) (s : State) : Quiet s (s.submitHw e c d) := by
  unfold State.submitHw
  split
  · exact Quiet.refl s
  · exact ⟨rfl, fun _ _ => rfl, fun _ _ h => h⟩

theorem State.flushPage_quiet (s : State) : Quiet s s.flushPage := by
  unfold State.flushPage
  extract_lets t u
  refine Quiet.trans (b := u) ?_ (State.submitHw_quiet ..)
  dsimp only [u]
  split
  · unfold State.eraseArea
    split
    · exact Quiet.refl s
    · exact State.submitHw_quiet ..
  · exact Quiet.refl s

theorem State.startFlush_quiet (s : State) : Quiet s s.startFlush := by
  have hn (b : Bool) (x : State) : Quiet x (x.put EVR_STAT.NOAREA b) := Quiet.setFld _ _ _ (by decide) (by decide)
  have hb (x : State) : Quiet x (x.put EVR_STAT.BUSY true) := Quiet.setFld _ _ _ (by decide) (by decide)
  unfold State.startFlush
  extract_lets a b
  split
  · exact Quiet.modEvr ..
  split
  · exact hn _ _
  split
  · exact hn _ _
  split
  · exact (hn _ _).trans (Quiet.modEvr ..)
  · exact (((hn _ _).trans (hb _)).trans (Quiet.modEvr ..)).trans (State.flushPage_quiet _)

theorem State.pushRecord_quiet (r : Rec) (s : State) : Quiet s (s.pushRecord r) := by
  unfold State.pushRecord
  split
  · exact Quiet.modEvr ..
  · dsimp only
    split
    · exact (Quiet.modEvr _ _).trans (State.startFlush_quiet _)
    · exact Quiet.modEvr ..

theorem State.record_quiet (c l n d : Nat) (s : State) : Quiet s (s.record c l n d) :=
  (s.capture_quiet _ 0).trans (State.pushRecord_quiet _ _)

theorem State.fire_quiet (t n d : Nat) (s : State) : Quiet s (s.fire t n d) := by
  unfold State.fire
  split
  · exact Quiet.setFld _ _ _ (by decide) (by decide)
  · dsimp only
    split
    · exact ((Quiet.modEvr _ _).trans (State.record_quiet ..)).trans (State.startFlush_quiet _)
    · exact (Quiet.modEvr _ _).trans (State.record_quiet ..)

theorem State.notifyEvent_quiet (n : Nat) (s : State) : Quiet s (s.notifyEvent n) := ⟨rfl, fun _ _ => rfl, fun _ _ h => h⟩

theorem State.pendEvent_quiet {n : Nat} (h : n < 512) (s : State) : Quiet s (s.pendEvent n) := by
  unfold State.pendEvent
  refine Quiet.trans (b := (if s.on (EVT_SRC.PEND n) then s.put (EVT_SRC.OVF n) true else s.put (EVT_SRC.PEND n) true).notifyEvent n)
    (Quiet.trans ?_ (State.notifyEvent_quiet n _)) (each_rel Quiet.refl (fun _ _ _ => Quiet.trans) _ _ (fun t s => s.fire_quiet ..) _)
  split
  · exact Quiet.setFld _ _ _ (loud_ovf n) (not_pendKey_ovf n)
  · exact Quiet.putPend _ h

/-- A source that becomes pending is pending. -/
theorem State.pendEvent_pend {n : Nat} (h : n < 512) (s : State) : (s.pendEvent n).on (EVT_SRC.PEND n) = true := by
  unfold State.pendEvent
  refine (each_rel (R := Quiet) Quiet.refl (fun _ _ _ => Quiet.trans) _ _ (fun t s => s.fire_quiet ..) _).pend n h
    ((State.notifyEvent_quiet n _).pend n h ?_)
  split
  · rename_i hs
    exact (Quiet.setFld s (EVT_SRC.OVF n) _ (loud_ovf n) (not_pendKey_ovf n)).pend n h hs
  · exact State.on_put _ _ _ (by simp [EVT_SRC.PEND])

theorem State.wakeIdle_quiet (s : State) : Quiet s s.wakeIdle := by
  unfold State.wakeIdle
  split
  · exact (Quiet.setFld _ _ _ (by decide) (by decide)).trans (State.pendEvent_quiet (by decide) _)
  · exact Quiet.refl s

/-- The assertion of an event source changes nothing but what `Quiet` leaves out. -/
theorem State.assertEvent_quiet {n : Nat} (h : n < 512) (s : State) : Quiet s (s.assertEvent n) :=
  s.wakeIdle_quiet.trans (State.pendEvent_quiet h _)

/-- An asserted source is pending (R502). -/
theorem State.assertEvent_pend {n : Nat} (h : n < 512) (s : State) : (s.assertEvent n).on (EVT_SRC.PEND n) = true :=
  State.pendEvent_pend h _

theorem State.assertIf_quiet {n : Nat} (h : n < 512) (b : Bool) (s : State) : Quiet s (s.assertIf b n) := by
  cases b
  · exact Quiet.refl s
  · exact s.assertEvent_quiet h

theorem State.assertEvents_quiet {l : List Nat} (h : ∀ n ∈ l, n < 512) (s : State) : Quiet s (s.assertEvents l) := by
  unfold State.assertEvents
  induction l generalizing s with
  | nil => exact Quiet.refl s
  | cons n l ih =>
    exact (s.assertEvent_quiet (h n (List.mem_cons_self ..))).trans (ih (fun m hm => h m (List.mem_cons_of_mem _ hm)) _)

/-! Accesses (R37, R40). -/

theorem Quiet.rfault (s : State) (f : List (Nat × Nat) → List (Nat × Nat)) :
    Quiet s (s.modBus fun b => { b with rfault := f b.rfault }) := ⟨rfl, fun _ _ => rfl, fun _ _ h => h⟩

theorem State.arrive_quiet (m a : Nat) (s : State) : Quiet s (s.arrive m a) :=
  (s.ungate_quiet a).trans (Quiet.rfault _ fun l => Tab.set 0 l m 0)

/-- An access that goes through takes effect in the state in which it arrives. -/
theorem State.access_reaches {m a : Nat} {s : State} (h : s.reaches m a) (f : State → State) : s.access m a f = f (s.arrive m a) := by
  simp [State.access, State.arrive, h.2.1, h.2.2, Nat.not_lt.2 h.1]

/-! What `Quiet` says in the terms of the statements. -/

theorem Quiet.keepsRegs {s t : State} (h : Quiet s t) (l : List Fld) : keepsRegs l s t := fun g hg _ => h.fld g hg
theorem Quiet.keepsMem {s t : State} (h : Quiet s t) : keepsMem s t := fun a => by simp only [State.byte, h.memory]
theorem keepsRegs.trans {l : List Fld} {a b c : State} (h : Machine.keepsRegs l a b) (k : Machine.keepsRegs l b c) :
    Machine.keepsRegs l a c := fun g hg hl => (k g hg hl).trans (h g hg hl)
theorem keepsMem.trans {a b c : State} (h : Machine.keepsMem a b) (k : Machine.keepsMem b c) : Machine.keepsMem a c :=
  fun x => (k x).trans (h x)

/-- A write of a listed field keeps the others. -/
theorem keepsRegs_setFld {l : List Fld} (s : State) (f : Fld) (v : Nat) (h : f ∈ l) : Machine.keepsRegs l s (s.setFld f v) :=
  fun g _ hl => State.fld_setFld_ne s f g v (hl f h)
/-- A change of a subsystem keeps every register. -/
theorem keepsRegs_of_regs {l : List Fld} {s t : State} (h : t.regs = s.regs) : Machine.keepsRegs l s t := fun g _ _ => by
  simp only [State.fld, h]

end Sys2Proof.Machine
end

