-- ==== Sys2Proof/Laws/Within.lean ====
section
/-! SUPPORT. Laws/Within.lean: how the parts that a chain of operations may change add up. -/

namespace Sys2Proof.Machine

theorem sub_bit {m n i : Nat} (h : m &&& n = m) (hi : n.testBit i = false) : m.testBit i = false := by
  have := congrArg (·.testBit i) h
  simp only [Nat.testBit_and, hi, Bool.and_false] at this
  exact this.symm

namespace Within

theorem refl {m : Nat} {s : State} : Within m s s where
  canon c := c
  regs _ _ := rfl
  free _ := rfl
  ident _ := rfl
  mem _ := rfl
  lastAccess _ := And.intro rfl rfl
  bus _ := rfl
  bell _ := rfl
  pci _ := rfl
  hfe _ := rfl
  fns _ := rfl
  zpm _ := rfl
  med _ := rfl
  fch _ := rfl
  media _ := rfl
  engines _ := And.intro rfl rfl
  ecc _ := rfl
  msh _ := rfl
  hld _ := rfl
  tubs _ := rfl
  memc _ := rfl
  cip _ := rfl
  ctl _ := rfl
  pow _ := rfl
  dict _ := rfl
  notices _ := And.intro rfl (And.intro rfl rfl)
  mgt _ := rfl
  tly _ := rfl
  evr _ := rfl
  saf _ := rfl
  tst _ := rfl
  nv _ := rfl
  pending _ := rfl

theorem trans {m : Nat} {a b c : State} (h : Within m a b) (k : Within m b c) : Within m a c where
  canon c := k.canon (h.canon c)
  regs f hf := (k.regs f hf).trans (h.regs f hf)
  free i := (k.free i).trans (h.free i)
  ident i := (k.ident i).trans (h.ident i)
  mem i := (k.mem i).trans (h.mem i)
  lastAccess i := ⟨(k.lastAccess i).1.trans (h.lastAccess i).1, (k.lastAccess i).2.trans (h.lastAccess i).2⟩
  bus i := (k.bus i).trans (h.bus i)
  bell i := (k.bell i).trans (h.bell i)
  pci i := (k.pci i).trans (h.pci i)
  hfe i := (k.hfe i).trans (h.hfe i)
  fns i := (k.fns i).trans (h.fns i)
  zpm i := (k.zpm i).trans (h.zpm i)
  med i := (k.med i).trans (h.med i)
  fch i := (k.fch i).trans (h.fch i)
  media i := (k.media i).trans (h.media i)
  engines i := ⟨(k.engines i).1.trans (h.engines i).1, (k.engines i).2.trans (h.engines i).2⟩
  ecc i := (k.ecc i).trans (h.ecc i)
  msh i := (k.msh i).trans (h.msh i)
  hld i := (k.hld i).trans (h.hld i)
  tubs i := (k.tubs i).trans (h.tubs i)
  memc i := (k.memc i).trans (h.memc i)
  cip i := (k.cip i).trans (h.cip i)
  ctl i := (k.ctl i).trans (h.ctl i)
  pow i := (k.pow i).trans (h.pow i)
  dict i := (k.dict i).trans (h.dict i)
  notices i := ⟨(k.notices i).1.trans (h.notices i).1, (k.notices i).2.1.trans (h.notices i).2.1, (k.notices i).2.2.trans (h.notices i).2.2⟩
  mgt i := (k.mgt i).trans (h.mgt i)
  tly i := (k.tly i).trans (h.tly i)
  evr i := (k.evr i).trans (h.evr i)
  saf i := (k.saf i).trans (h.saf i)
  tst i := (k.tst i).trans (h.tst i)
  nv i := (k.nv i).trans (h.nv i)
  pending i := (k.pending i).trans (h.pending i)

theorem mono {m n : Nat} {s t : State} (h : Within m s t) (hs : m &&& n = m) : Within n s t where
  canon := h.canon
  regs f hf := h.regs f (sub_bit hs hf)
  free i := h.free (sub_bit hs i)
  ident i := h.ident (sub_bit hs i)
  mem i := h.mem (sub_bit hs i)
  lastAccess i := h.lastAccess (sub_bit hs i)
  bus i := h.bus (sub_bit hs i)
  bell i := h.bell (sub_bit hs i)
  pci i := h.pci (sub_bit hs i)
  hfe i := h.hfe (sub_bit hs i)
  fns i := h.fns (sub_bit hs i)
  zpm i := h.zpm (sub_bit hs i)
  med i := h.med (sub_bit hs i)
  fch i := h.fch (sub_bit hs i)
  media i := h.media (sub_bit hs i)
  engines i := h.engines (sub_bit hs i)
  ecc i := h.ecc (sub_bit hs i)
  msh i := h.msh (sub_bit hs i)
  hld i := h.hld (sub_bit hs i)
  tubs i := h.tubs (sub_bit hs i)
  memc i := h.memc (sub_bit hs i)
  cip i := h.cip (sub_bit hs i)
  ctl i := h.ctl (sub_bit hs i)
  pow i := h.pow (sub_bit hs i)
  dict i := h.dict (sub_bit hs i)
  notices i := h.notices (sub_bit hs i)
  mgt i := h.mgt (sub_bit hs i)
  tly i := h.tly (sub_bit hs i)
  evr i := h.evr (sub_bit hs i)
  saf i := h.saf (sub_bit hs i)
  tst i := h.tst (sub_bit hs i)
  nv i := h.nv (sub_bit hs i)
  pending i := h.pending (sub_bit hs i)

/-- One more operation of a chain. -/
theorem step {m n : Nat} {s a b : State} (h : Within n s a) (k : Within m a b) (hs : m &&& n = m) : Within n s b :=
  h.trans (k.mono hs)

theorem ite {m : Nat} {s a b : State} {c : Prop} [Decidable c] (h : Within m s a) (k : Within m s b) :
    Within m s (if c then a else b) := by
  by_cases hc : c <;> simp [hc, h, k]

theorem each {m : Nat} {α : Type} {s a : State} {l : List α} {f : α → State → State} (h : Within m s a)
    (hf : ∀ x b, Within m b (f x b)) : Within m s (Machine.each l f a) := by
  induction l generalizing a with
  | nil => exact h
  | cons x l ih => exact ih (h.trans (hf x a))

theorem foldl {m : Nat} {α : Type} {s a : State} {l : List α} {f : State → α → State} (h : Within m s a)
    (hf : ∀ x b, Within m b (f b x)) : Within m s (l.foldl f a) := by
  induction l generalizing a with
  | nil => exact h
  | cons x l ih => exact ih (h.trans (hf x a))

/-! Register fields. -/

theorem setFld {m : Nat} {s a : State} {f : Fld} {v : Nat} (h : Within m s a) (hp : m.testBit (partOfKey f.key) = true) :
    Within m s (a.setFld f v) :=
  h.trans (by
    have k := @refl m a
    exact { k with canon := fun c => ⟨c.1, Tab.rising_set _ _ _ c.2⟩, regs := fun g hg => State.fld_setFld_ne a f g v fun e => by rw [e, hp] at hg; cases hg })

theorem setFldAt {m k : Nat} {s a : State} {f : Fld} {v : Nat} (h : Within m s a) (hk : partOfKey f.key = k) (hp : m.testBit k = true) :
    Within m s (a.setFld f v) := h.setFld (by rw [hk]; exact hp)
theorem put {m : Nat} {s a : State} {f : Fld} {v : Bool} (h : Within m s a) (hp : m.testBit (partOfKey f.key) = true) :
    Within m s (a.put f v) := h.setFld hp
theorem putAt {m k : Nat} {s a : State} {f : Fld} {v : Bool} (h : Within m s a) (hk : partOfKey f.key = k) (hp : m.testBit k = true) :
    Within m s (a.put f v) := h.setFldAt hk hp
theorem count {m : Nat} {s a : State} {f : Fld} {v : Nat} (h : Within m s a) (hp : m.testBit (partOfKey f.key) = true) :
    Within m s (a.count f v) := h.setFld hp
theorem countAt {m k : Nat} {s a : State} {f : Fld} {v : Nat} (h : Within m s a) (hk : partOfKey f.key = k) (hp : m.testBit k = true) :
    Within m s (a.count f v) := h.setFldAt hk hp

/-! Subsystems. -/

theorem modIdent {m : Nat} {s a : State} {f : Ident → Ident} (h : Within m s a) (hp : m.testBit 27 = true) : Within m s (a.modIdent f) :=
  h.trans (by have k := @refl m a; exact { k with ident := fun i => Bool.noConfusion (hp.symm.trans i) })
theorem modBell {m : Nat} {s a : State} {f : Bell → Bell} (h : Within m s a) (hp : m.testBit 31 = true) : Within m s (a.modBell f) :=
  h.trans (by have k := @refl m a; exact { k with bell := fun i => Bool.noConfusion (hp.symm.trans i) })
theorem modPci {m : Nat} {s a : State} {f : Pci → Pci} (h : Within m s a) (hp : m.testBit 32 = true) : Within m s (a.modPci f) :=
  h.trans (by have k := @refl m a; exact { k with pci := fun i => Bool.noConfusion (hp.symm.trans i) })
theorem modHfe {m : Nat} {s a : State} {f : Hfe → Hfe} (h : Within m s a) (hp : m.testBit 33 = true) : Within m s (a.modHfe f) :=
  h.trans (by have k := @refl m a; exact { k with hfe := fun i => Bool.noConfusion (hp.symm.trans i) })
theorem modFns {m : Nat} {s a : State} {f : Fns → Fns} (h : Within m s a) (hp : m.testBit 34 = true) : Within m s (a.modFns f) :=
  h.trans (by have k := @refl m a; exact { k with fns := fun i => Bool.noConfusion (hp.symm.trans i) })
theorem modZpm {m : Nat} {s a : State} {f : Zpm → Zpm} (h : Within m s a) (hp : m.testBit 35 = true) : Within m s (a.modZpm f) :=
  h.trans (by have k := @refl m a; exact { k with zpm := fun i => Bool.noConfusion (hp.symm.trans i) })
theorem modMed {m : Nat} {s a : State} {f : Med → Med} (h : Within m s a) (hp : m.testBit 36 = true) : Within m s (a.modMed f) :=
  h.trans (by have k := @refl m a; exact { k with med := fun i => Bool.noConfusion (hp.symm.trans i) })
theorem modFch {m : Nat} {s a : State} {f : Fch → Fch} (h : Within m s a) (hp : m.testBit 37 = true) : Within m s (a.modFch f) :=
  h.trans (by have k := @refl m a; exact { k with fch := fun i => Bool.noConfusion (hp.symm.trans i) })
theorem modEcc {m : Nat} {s a : State} {f : Ecc → Ecc} (h : Within m s a) (hp : m.testBit 40 = true) : Within m s (a.modEcc f) :=
  h.trans (by have k := @refl m a; exact { k with ecc := fun i => Bool.noConfusion (hp.symm.trans i) })
theorem modMsh {m : Nat} {s a : State} {f : Msh → Msh} (h : Within m s a) (hp : m.testBit 41 = true) : Within m s (a.modMsh f) :=
  h.trans (by have k := @refl m a; exact { k with msh := fun i => Bool.noConfusion (hp.symm.trans i) })
theorem modHld {m : Nat} {s a : State} {f : Hld → Hld} (h : Within m s a) (hp : m.testBit 42 = true) : Within m s (a.modHld f) :=
  h.trans (by have k := @refl m a; exact { k with hld := fun i => Bool.noConfusion (hp.symm.trans i) })
theorem modTubs {m : Nat} {s a : State} {f : Tubs → Tubs} (h : Within m s a) (hp : m.testBit 43 = true) : Within m s (a.modTubs f) :=
  h.trans (by have k := @refl m a; exact { k with tubs := fun i => Bool.noConfusion (hp.symm.trans i) })
theorem modMemc {m : Nat} {s a : State} {f : Memc → Memc} (h : Within m s a) (hp : m.testBit 44 = true) : Within m s (a.modMemc f) :=
  h.trans (by have k := @refl m a; exact { k with memc := fun i => Bool.noConfusion (hp.symm.trans i) })
theorem modCip {m : Nat} {s a : State} {f : Cip → Cip} (h : Within m s a) (hp : m.testBit 45 = true) : Within m s (a.modCip f) :=
  h.trans (by have k := @refl m a; exact { k with cip := fun i => Bool.noConfusion (hp.symm.trans i) })
theorem modCtl {m : Nat} {s a : State} {f : Ctl → Ctl} (h : Within m s a) (hp : m.testBit 46 = true) : Within m s (a.modCtl f) :=
  h.trans (by have k := @refl m a; exact { k with ctl := fun i => Bool.noConfusion (hp.symm.trans i) })
theorem modPow {m : Nat} {s a : State} {f : Pow → Pow} (h : Within m s a) (hp : m.testBit 47 = true) : Within m s (a.modPow f) :=
  h.trans (by have k := @refl m a; exact { k with pow := fun i => Bool.noConfusion (hp.symm.trans i) })
theorem modTly {m : Nat} {s a : State} {f : Tly → Tly} (h : Within m s a) (hp : m.testBit 51 = true) : Within m s (a.modTly f) :=
  h.trans (by have k := @refl m a; exact { k with tly := fun i => Bool.noConfusion (hp.symm.trans i) })
theorem modEvr {m : Nat} {s a : State} {f : Evr → Evr} (h : Within m s a) (hp : m.testBit 52 = true) : Within m s (a.modEvr f) :=
  h.trans (by have k := @refl m a; exact { k with evr := fun i => Bool.noConfusion (hp.symm.trans i) })
theorem modSaf {m : Nat} {s a : State} {f : Saf → Saf} (h : Within m s a) (hp : m.testBit 53 = true) : Within m s (a.modSaf f) :=
  h.trans (by have k := @refl m a; exact { k with saf := fun i => Bool.noConfusion (hp.symm.trans i) })
theorem modTst {m : Nat} {s a : State} {f : Tst → Tst} (h : Within m s a) (hp : m.testBit 54 = true) : Within m s (a.modTst f) :=
  h.trans (by have k := @refl m a; exact { k with tst := fun i => Bool.noConfusion (hp.symm.trans i) })
theorem modNv {m : Nat} {s a : State} {f : Nv → Nv} (h : Within m s a) (hp : m.testBit 55 = true) : Within m s (a.modNv f) :=
  h.trans (by have k := @refl m a; exact { k with nv := fun i => Bool.noConfusion (hp.symm.trans i) })
theorem modFree {m : Nat} {s a : State} {f : Nat → Nat} (h : Within m s a) (hp : m.testBit 26 = true) : Within m s (a.modFree f) :=
  h.trans (by have k := @refl m a; exact { k with free := fun i => Bool.noConfusion (hp.symm.trans i) })
theorem modBusMem {m : Nat} {s a : State} {f : BusIf → BusIf} (h : Within m s a) (hf : ∀ b, ({ f b with mem := b.mem } : BusIf) = b) (hw : ∀ b, Memory.wf b.mem = true → Memory.wf (f b).mem = true) (hmem : m.testBit 28 = true) : Within m s (a.modBus f) :=
  h.trans (by have k := @refl m a; exact { k with canon := fun c => ⟨hw _ c.1, c.2⟩, mem := fun i => Bool.noConfusion (hmem.symm.trans i), lastAccess := fun _ => ⟨(congrArg (fun b => b.rdata) (hf a.bus) :), (congrArg (fun b => b.rfault) (hf a.bus) :)⟩, bus := fun _ => (congrArg (fun b => ({ b with mem := [], rdata := [], rfault := [] } : BusIf)) (hf a.bus) :) })
theorem modBusLast {m : Nat} {s a : State} {f : BusIf → BusIf} (h : Within m s a) (hf : ∀ b, ({ f b with rdata := b.rdata, rfault := b.rfault } : BusIf) = b) (hlastAccess : m.testBit 29 = true) : Within m s (a.modBus f) :=
  h.trans (by have k := @refl m a; exact { k with canon := fun c => ⟨by rw [show (State.modBus f a).bus.mem = a.bus.mem from (congrArg (fun b => b.mem) (hf a.bus) :)]; exact c.1, c.2⟩, lastAccess := fun i => Bool.noConfusion (hlastAccess.symm.trans i), mem := fun _ => (congrArg (fun b => b.mem) (hf a.bus) :), bus := fun _ => (congrArg (fun b => ({ b with mem := [], rdata := [], rfault := [] } : BusIf)) (hf a.bus) :) })
theorem modBusRest {m : Nat} {s a : State} {f : BusIf → BusIf} (h : Within m s a) (hf : ∀ b, (f b).mem = b.mem ∧ (f b).rdata = b.rdata ∧ (f b).rfault = b.rfault) (hbus : m.testBit 30 = true) : Within m s (a.modBus f) :=
  h.trans (by have k := @refl m a; exact { k with canon := fun c => ⟨by rw [show (State.modBus f a).bus.mem = a.bus.mem from (hf _).1]; exact c.1, c.2⟩, bus := fun i => Bool.noConfusion (hbus.symm.trans i), mem := fun _ => (hf _).1, lastAccess := fun _ => (hf _).2 })
theorem modBusNoMem {m : Nat} {s a : State} {f : BusIf → BusIf} (h : Within m s a) (hf : ∀ b, (f b).mem = b.mem) (hbus : m.testBit 30 = true) (hlastAccess : m.testBit 29 = true) : Within m s (a.modBus f) :=
  h.trans (by have k := @refl m a; exact { k with canon := fun c => ⟨by rw [show (State.modBus f a).bus.mem = a.bus.mem from hf _]; exact c.1, c.2⟩, bus := fun i => Bool.noConfusion (hbus.symm.trans i), lastAccess := fun i => Bool.noConfusion (hlastAccess.symm.trans i), mem := fun _ => hf _ })
theorem modBusAny {m : Nat} {s a : State} {f : BusIf → BusIf} (h : Within m s a) (hw : ∀ b, Memory.wf b.mem = true → Memory.wf (f b).mem = true) (hbus : m.testBit 30 = true) (hlastAccess : m.testBit 29 = true) (hmem : m.testBit 28 = true) : Within m s (a.modBus f) :=
  h.trans (by have k := @refl m a; exact { k with canon := fun c => ⟨hw _ c.1, c.2⟩, bus := fun i => Bool.noConfusion (hbus.symm.trans i), lastAccess := fun i => Bool.noConfusion (hlastAccess.symm.trans i), mem := fun i => Bool.noConfusion (hmem.symm.trans i) })
theorem modDrfMedia {m : Nat} {s a : State} {f : Drf → Drf} (h : Within m s a) (hf : ∀ b, (f b).eng = b.eng ∧ (f b).eraseWait = b.eraseWait) (hmedia : m.testBit 38 = true) : Within m s (a.modDrf f) :=
  h.trans (by have k := @refl m a; exact { k with media := fun i => Bool.noConfusion (hmedia.symm.trans i), engines := fun _ => hf _ })
theorem modDrfEng {m : Nat} {s a : State} {f : Drf → Drf} (h : Within m s a) (hf : ∀ b, (f b).media = b.media) (hengines : m.testBit 39 = true) : Within m s (a.modDrf f) :=
  h.trans (by have k := @refl m a; exact { k with engines := fun i => Bool.noConfusion (hengines.symm.trans i), media := fun _ => hf _ })
theorem modDrfAny {m : Nat} {s a : State} {f : Drf → Drf} (h : Within m s a) (hmedia : m.testBit 38 = true) (hengines : m.testBit 39 = true) : Within m s (a.modDrf f) :=
  h.trans (by have k := @refl m a; exact { k with media := fun i => Bool.noConfusion (hmedia.symm.trans i), engines := fun i => Bool.noConfusion (hengines.symm.trans i) })
theorem modMgtRest {m : Nat} {s a : State} {f : Mgt → Mgt} (h : Within m s a) (hf : ∀ b, (f b).dict = b.dict ∧ (f b).notCount = b.notCount ∧ (f b).notPrev = b.notPrev ∧ (f b).notifies = b.notifies) (hmgt : m.testBit 50 = true) : Within m s (a.modMgt f) :=
  h.trans (by have k := @refl m a; exact { k with mgt := fun i => Bool.noConfusion (hmgt.symm.trans i), dict := fun _ => (hf _).1, notices := fun _ => (hf _).2 })
theorem modMgtNotes {m : Nat} {s a : State} {f : Mgt → Mgt} (h : Within m s a) (hf : ∀ b, ({ f b with notCount := b.notCount, notPrev := b.notPrev, notifies := b.notifies } : Mgt) = b) (hnotices : m.testBit 49 = true) : Within m s (a.modMgt f) :=
  h.trans (by have k := @refl m a; exact { k with notices := fun i => Bool.noConfusion (hnotices.symm.trans i), dict := fun _ => (congrArg (fun b => b.dict) (hf a.mgt) :), mgt := fun _ => (congrArg (fun b => ({ b with dict := [], notCount := [], notPrev := [], notifies := [] } : Mgt)) (hf a.mgt) :) })
theorem modMgtDict {m : Nat} {s a : State} {f : Mgt → Mgt} (h : Within m s a) (hf : ∀ b, ({ f b with dict := b.dict } : Mgt) = b) (hdict : m.testBit 48 = true) : Within m s (a.modMgt f) :=
  h.trans (by have k := @refl m a; exact { k with dict := fun i => Bool.noConfusion (hdict.symm.trans i), notices := fun _ => ⟨(congrArg (fun b => b.notCount) (hf a.mgt) :), (congrArg (fun b => b.notPrev) (hf a.mgt) :), (congrArg (fun b => b.notifies) (hf a.mgt) :)⟩, mgt := fun _ => (congrArg (fun b => ({ b with dict := [], notCount := [], notPrev := [], notifies := [] } : Mgt)) (hf a.mgt) :) })
theorem modMgtNoDict {m : Nat} {s a : State} {f : Mgt → Mgt} (h : Within m s a) (hf : ∀ b, (f b).dict = b.dict) (hmgt : m.testBit 50 = true) (hnotices : m.testBit 49 = true) : Within m s (a.modMgt f) :=
  h.trans (by have k := @refl m a; exact { k with mgt := fun i => Bool.noConfusion (hmgt.symm.trans i), notices := fun i => Bool.noConfusion (hnotices.symm.trans i), dict := fun _ => hf _ })
theorem modMgtAny {m : Nat} {s a : State} {f : Mgt → Mgt} (h : Within m s a) (hmgt : m.testBit 50 = true) (hnotices : m.testBit 49 = true) (hdict : m.testBit 48 = true) : Within m s (a.modMgt f) :=
  h.trans (by have k := @refl m a; exact { k with mgt := fun i => Bool.noConfusion (hmgt.symm.trans i), notices := fun i => Bool.noConfusion (hnotices.symm.trans i), dict := fun i => Bool.noConfusion (hdict.symm.trans i) })

end Within

end Sys2Proof.Machine
end

