-- ==== Sys2Proof/Laws/Parts.lean ====
section
/-! SUPPORT. Laws/Parts.lean: the part of the state each array of register fields belongs to. -/

namespace Sys2Proof.Machine

/-- The keys an event may change. -/
abbrev eventRange (k : Nat) : Prop :=
  (0x40000020 * 32 ≤ k ∧ k < 0x4000002c * 32) ∨ (0x41e00000 * 32 ≤ k ∧ k < 0x41e00800 * 32 ∧ k % 32 ≤ 1) ∨ k = 0x42000008 * 32 + 29 ∨
    (0x42000100 * 32 ≤ k ∧ k < 0x420001c0 * 32 ∧ k % 32 = 30) ∨ (0x42600004 * 32 ≤ k ∧ k < 0x42600008 * 32)
theorem part_event {k : Nat} (h : eventRange k) : partOfKey k = 24 := by
  have e : eventKey k = true := by unfold eventKey; exact decide_eq_true h
  rw [partOfKey, if_pos e]
theorem part_block {k b : Nat} (h : ¬ eventRange k) (hb : (k / 32 - 0x40000000) / 0x200000 % 24 = b) : partOfKey k = b := by
  have e : ¬ eventKey k = true := fun e => h (by simpa only [eventKey, decide_eq_true_eq] using e)
  rw [partOfKey, if_neg e]; exact hb

theorem AON_RET.WORD_part (i : Nat) : partOfKey (AON_RET.WORD i).key = 23 := by
  refine part_block ?_ ?_ <;> simp only [AON_RET.WORD, Fld.key, eventRange] <;> omega
theorem BEL_MODE_LAG.UNITS_part (i : Nat) : partOfKey (BEL_MODE_LAG.UNITS i).key = 1 := by
  refine part_block ?_ ?_ <;> simp only [BEL_MODE_LAG.UNITS, Fld.key, eventRange] <;> omega
theorem DRF_CQBASE.BASE_part (i : Nat) : partOfKey (DRF_CQBASE.BASE i).key = 8 := by
  refine part_block ?_ ?_ <;> simp only [DRF_CQBASE.BASE, Fld.key, eventRange] <;> omega
theorem DRF_CQBASE.LOG2_part (i : Nat) : partOfKey (DRF_CQBASE.LOG2 i).key = 8 := by
  refine part_block ?_ ?_ <;> simp only [DRF_CQBASE.LOG2, Fld.key, eventRange] <;> omega
theorem DRF_CQPTR.HEAD_part (i : Nat) : partOfKey (DRF_CQPTR.HEAD i).key = 8 := by
  refine part_block ?_ ?_ <;> simp only [DRF_CQPTR.HEAD, Fld.key, eventRange] <;> omega
theorem DRF_CQPTR.WIDX_part (i : Nat) : partOfKey (DRF_CQPTR.WIDX i).key = 8 := by
  refine part_block ?_ ?_ <;> simp only [DRF_CQPTR.WIDX, Fld.key, eventRange] <;> omega
theorem DRF_CTRL.RUN_part (i : Nat) : partOfKey (DRF_CTRL.RUN i).key = 8 := by
  refine part_block ?_ ?_ <;> simp only [DRF_CTRL.RUN, Fld.key, eventRange] <;> omega
theorem DRF_DEPOCH.EN_part (i j : Nat) : partOfKey (DRF_DEPOCH.EN i j).key = 8 := by
  refine part_block ?_ ?_ <;> simp only [DRF_DEPOCH.EN, Fld.key, eventRange] <;> omega
theorem DRF_DEPOCH.MINEPOCH_part (i j : Nat) : partOfKey (DRF_DEPOCH.MINEPOCH i j).key = 8 := by
  refine part_block ?_ ?_ <;> simp only [DRF_DEPOCH.MINEPOCH, Fld.key, eventRange] <;> omega
theorem DRF_DIEERR.DIE_part (i : Nat) : partOfKey (DRF_DIEERR.DIE i).key = 8 := by
  refine part_block ?_ ?_ <;> simp only [DRF_DIEERR.DIE, Fld.key, eventRange] <;> omega
theorem DRF_ERRCNT.INVALID_part (i : Nat) : partOfKey (DRF_ERRCNT.INVALID i).key = 8 := by
  refine part_block ?_ ?_ <;> simp only [DRF_ERRCNT.INVALID, Fld.key, eventRange] <;> omega
theorem DRF_ERRCNT.PFAIL_part (i : Nat) : partOfKey (DRF_ERRCNT.PFAIL i).key = 8 := by
  refine part_block ?_ ?_ <;> simp only [DRF_ERRCNT.PFAIL, Fld.key, eventRange] <;> omega
theorem DRF_ERRCNT.TIMEOUT_part (i : Nat) : partOfKey (DRF_ERRCNT.TIMEOUT i).key = 8 := by
  refine part_block ?_ ?_ <;> simp only [DRF_ERRCNT.TIMEOUT, Fld.key, eventRange] <;> omega
theorem DRF_ERRCNT.UNCORR_part (i : Nat) : partOfKey (DRF_ERRCNT.UNCORR i).key = 8 := by
  refine part_block ?_ ?_ <;> simp only [DRF_ERRCNT.UNCORR, Fld.key, eventRange] <;> omega
theorem DRF_EVT.CQ_part (i : Nat) : partOfKey (DRF_EVT.CQ i).key = 8 := by
  refine part_block ?_ ?_ <;> simp only [DRF_EVT.CQ, Fld.key, eventRange] <;> omega
theorem DRF_EVT.CQFULL_part (i : Nat) : partOfKey (DRF_EVT.CQFULL i).key = 8 := by
  refine part_block ?_ ?_ <;> simp only [DRF_EVT.CQFULL, Fld.key, eventRange] <;> omega
theorem DRF_EVT.FAIL_part (i : Nat) : partOfKey (DRF_EVT.FAIL i).key = 8 := by
  refine part_block ?_ ?_ <;> simp only [DRF_EVT.FAIL, Fld.key, eventRange] <;> omega
theorem DRF_EVT.HALT_part (i : Nat) : partOfKey (DRF_EVT.HALT i).key = 8 := by
  refine part_block ?_ ?_ <;> simp only [DRF_EVT.HALT, Fld.key, eventRange] <;> omega
theorem DRF_EVT.TIMEOUT_part (i : Nat) : partOfKey (DRF_EVT.TIMEOUT i).key = 8 := by
  refine part_block ?_ ?_ <;> simp only [DRF_EVT.TIMEOUT, Fld.key, eventRange] <;> omega
theorem DRF_FAULT.CODE_part (i : Nat) : partOfKey (DRF_FAULT.CODE i).key = 8 := by
  refine part_block ?_ ?_ <;> simp only [DRF_FAULT.CODE, Fld.key, eventRange] <;> omega
theorem DRF_FAULT.CTX_part (i : Nat) : partOfKey (DRF_FAULT.CTX i).key = 8 := by
  refine part_block ?_ ?_ <;> simp only [DRF_FAULT.CTX, Fld.key, eventRange] <;> omega
theorem DRF_FAULT.PC_part (i : Nat) : partOfKey (DRF_FAULT.PC i).key = 8 := by
  refine part_block ?_ ?_ <;> simp only [DRF_FAULT.PC, Fld.key, eventRange] <;> omega
theorem DRF_FAULT.VALID_part (i : Nat) : partOfKey (DRF_FAULT.VALID i).key = 8 := by
  refine part_block ?_ ?_ <;> simp only [DRF_FAULT.VALID, Fld.key, eventRange] <;> omega
theorem DRF_GEOM.PAGEBITS_part (i : Nat) : partOfKey (DRF_GEOM.PAGEBITS i).key = 8 := by
  refine part_block ?_ ?_ <;> simp only [DRF_GEOM.PAGEBITS, Fld.key, eventRange] <;> omega
theorem DRF_GEOM.PLANEBITS_part (i : Nat) : partOfKey (DRF_GEOM.PLANEBITS i).key = 8 := by
  refine part_block ?_ ?_ <;> simp only [DRF_GEOM.PLANEBITS, Fld.key, eventRange] <;> omega
theorem DRF_LMADDR.ADDR_part (i : Nat) : partOfKey (DRF_LMADDR.ADDR i).key = 8 := by
  refine part_block ?_ ?_ <;> simp only [DRF_LMADDR.ADDR, Fld.key, eventRange] <;> omega
theorem DRF_PSADDR.INDEX_part (i : Nat) : partOfKey (DRF_PSADDR.INDEX i).key = 8 := by
  refine part_block ?_ ?_ <;> simp only [DRF_PSADDR.INDEX, Fld.key, eventRange] <;> omega
theorem DRF_QBASE.BASE_part (i : Nat) : partOfKey (DRF_QBASE.BASE i).key = 8 := by
  refine part_block ?_ ?_ <;> simp only [DRF_QBASE.BASE, Fld.key, eventRange] <;> omega
theorem DRF_QCFG.BACKGROUND_part (i : Nat) : partOfKey (DRF_QCFG.BACKGROUND i).key = 8 := by
  refine part_block ?_ ?_ <;> simp only [DRF_QCFG.BACKGROUND, Fld.key, eventRange] <;> omega
theorem DRF_QCFG.HOST_part (i : Nat) : partOfKey (DRF_QCFG.HOST i).key = 8 := by
  refine part_block ?_ ?_ <;> simp only [DRF_QCFG.HOST, Fld.key, eventRange] <;> omega
theorem DRF_QCFG.MAINT_part (i : Nat) : partOfKey (DRF_QCFG.MAINT i).key = 8 := by
  refine part_block ?_ ?_ <;> simp only [DRF_QCFG.MAINT, Fld.key, eventRange] <;> omega
theorem DRF_QCFG.TAIL_part (i : Nat) : partOfKey (DRF_QCFG.TAIL i).key = 8 := by
  refine part_block ?_ ?_ <;> simp only [DRF_QCFG.TAIL, Fld.key, eventRange] <;> omega
theorem DRF_QSTAT.OVF_part (i j : Nat) : partOfKey (DRF_QSTAT.OVF i j).key = 8 := by
  refine part_block ?_ ?_ <;> simp only [DRF_QSTAT.OVF, Fld.key, eventRange] <;> omega
theorem DRF_STAT.EPOCH_part (i : Nat) : partOfKey (DRF_STAT.EPOCH i).key = 8 := by
  refine part_block ?_ ?_ <;> simp only [DRF_STAT.EPOCH, Fld.key, eventRange] <;> omega
theorem DRF_STAT.ERR_part (i : Nat) : partOfKey (DRF_STAT.ERR i).key = 8 := by
  refine part_block ?_ ?_ <;> simp only [DRF_STAT.ERR, Fld.key, eventRange] <;> omega
theorem DRF_STAT.STATE_part (i : Nat) : partOfKey (DRF_STAT.STATE i).key = 8 := by
  refine part_block ?_ ?_ <;> simp only [DRF_STAT.STATE, Fld.key, eventRange] <;> omega
theorem DRF_SUSPCNT.DIEBUSY_part (i : Nat) : partOfKey (DRF_SUSPCNT.DIEBUSY i).key = 8 := by
  refine part_block ?_ ?_ <;> simp only [DRF_SUSPCNT.DIEBUSY, Fld.key, eventRange] <;> omega
theorem DRF_SUSPCNT.SUSPENDS_part (i : Nat) : partOfKey (DRF_SUSPCNT.SUSPENDS i).key = 8 := by
  refine part_block ?_ ?_ <;> simp only [DRF_SUSPCNT.SUSPENDS, Fld.key, eventRange] <;> omega
theorem ECC_PROF.BCHT_part (i : Nat) : partOfKey (ECC_PROF.BCHT i).key = 9 := by
  refine part_block ?_ ?_ <;> simp only [ECC_PROF.BCHT, Fld.key, eventRange] <;> omega
theorem ECC_PROF.CODE_part (i : Nat) : partOfKey (ECC_PROF.CODE i).key = 9 := by
  refine part_block ?_ ?_ <;> simp only [ECC_PROF.CODE, Fld.key, eventRange] <;> omega
theorem ECC_PROF.LRATE_part (i : Nat) : partOfKey (ECC_PROF.LRATE i).key = 9 := by
  refine part_block ?_ ?_ <;> simp only [ECC_PROF.LRATE, Fld.key, eventRange] <;> omega
theorem ECC_PROF.SOFT_part (i : Nat) : partOfKey (ECC_PROF.SOFT i).key = 9 := by
  refine part_block ?_ ?_ <;> simp only [ECC_PROF.SOFT, Fld.key, eventRange] <;> omega
theorem ECC_PROF.SOFTA_part (i : Nat) : partOfKey (ECC_PROF.SOFTA i).key = 9 := by
  refine part_block ?_ ?_ <;> simp only [ECC_PROF.SOFTA, Fld.key, eventRange] <;> omega
theorem ECC_PROF.SOFTB_part (i : Nat) : partOfKey (ECC_PROF.SOFTB i).key = 9 := by
  refine part_block ?_ ?_ <;> simp only [ECC_PROF.SOFTB, Fld.key, eventRange] <;> omega
theorem EVR_WIN.WORD_part (i : Nat) : partOfKey (EVR_WIN.WORD i).key = 19 := by
  refine part_block ?_ ?_ <;> simp only [EVR_WIN.WORD, Fld.key, eventRange] <;> omega
theorem EVT_SRC.OVF_part (i : Nat) : partOfKey (EVT_SRC.OVF i).key = 24 := by
  refine part_event ?_; simp only [EVT_SRC.OVF, Fld.key, eventRange]; omega
theorem EVT_SRC.PEND_part (i : Nat) : partOfKey (EVT_SRC.PEND i).key = 24 := by
  refine part_event ?_; simp only [EVT_SRC.PEND, Fld.key, eventRange]; omega
theorem FCH_CALRES.DIE_part (i : Nat) : partOfKey (FCH_CALRES.DIE i).key = 7 := by
  refine part_block ?_ ?_ <;> simp only [FCH_CALRES.DIE, Fld.key, eventRange] <;> omega
theorem FCH_CALRES.EYEFAIL_part (i : Nat) : partOfKey (FCH_CALRES.EYEFAIL i).key = 7 := by
  refine part_block ?_ ?_ <;> simp only [FCH_CALRES.EYEFAIL, Fld.key, eventRange] <;> omega
theorem FCH_CALRES.KIND_part (i : Nat) : partOfKey (FCH_CALRES.KIND i).key = 7 := by
  refine part_block ?_ ?_ <;> simp only [FCH_CALRES.KIND, Fld.key, eventRange] <;> omega
theorem FCH_CALRES.PRECOND_part (i : Nat) : partOfKey (FCH_CALRES.PRECOND i).key = 7 := by
  refine part_block ?_ ?_ <;> simp only [FCH_CALRES.PRECOND, Fld.key, eventRange] <;> omega
theorem FCH_CHEVT.CALFAIL_part (i j : Nat) : partOfKey (FCH_CHEVT.CALFAIL i j).key = 7 := by
  refine part_block ?_ ?_ <;> simp only [FCH_CHEVT.CALFAIL, Fld.key, eventRange] <;> omega
theorem FCH_CHEVT.FAULT_part (i j : Nat) : partOfKey (FCH_CHEVT.FAULT i j).key = 7 := by
  refine part_block ?_ ?_ <;> simp only [FCH_CHEVT.FAULT, Fld.key, eventRange] <;> omega
theorem FCH_CHEVT.RECAL_part (i j : Nat) : partOfKey (FCH_CHEVT.RECAL i j).key = 7 := by
  refine part_block ?_ ?_ <;> simp only [FCH_CHEVT.RECAL, Fld.key, eventRange] <;> omega
theorem FCH_CHEVT.STATE_part (i j : Nat) : partOfKey (FCH_CHEVT.STATE i j).key = 7 := by
  refine part_block ?_ ?_ <;> simp only [FCH_CHEVT.STATE, Fld.key, eventRange] <;> omega
theorem FCH_FENCE.DIES_part (i j : Nat) : partOfKey (FCH_FENCE.DIES i j).key = 7 := by
  refine part_block ?_ ?_ <;> simp only [FCH_FENCE.DIES, Fld.key, eventRange] <;> omega
theorem FCH_GCFG.BAND_part (i : Nat) : partOfKey (FCH_GCFG.BAND i).key = 7 := by
  refine part_block ?_ ?_ <;> simp only [FCH_GCFG.BAND, Fld.key, eventRange] <;> omega
theorem FCH_GCFG.FAMILY_part (i : Nat) : partOfKey (FCH_GCFG.FAMILY i).key = 7 := by
  refine part_block ?_ ?_ <;> simp only [FCH_GCFG.FAMILY, Fld.key, eventRange] <;> omega
theorem FCH_GCFG.POP_part (i : Nat) : partOfKey (FCH_GCFG.POP i).key = 7 := by
  refine part_block ?_ ?_ <;> simp only [FCH_GCFG.POP, Fld.key, eventRange] <;> omega
theorem FCH_GCTRL.WP_REL_part (i : Nat) : partOfKey (FCH_GCTRL.WP_REL i).key = 7 := by
  refine part_block ?_ ?_ <;> simp only [FCH_GCTRL.WP_REL, Fld.key, eventRange] <;> omega
theorem FCH_GSTAT.BANDERR_part (i : Nat) : partOfKey (FCH_GSTAT.BANDERR i).key = 7 := by
  refine part_block ?_ ?_ <;> simp only [FCH_GSTAT.BANDERR, Fld.key, eventRange] <;> omega
theorem FCH_GSTAT.BANDSEEN_part (i : Nat) : partOfKey (FCH_GSTAT.BANDSEEN i).key = 7 := by
  refine part_block ?_ ?_ <;> simp only [FCH_GSTAT.BANDSEEN, Fld.key, eventRange] <;> omega
theorem FCH_GSTAT.EPOCH_part (i : Nat) : partOfKey (FCH_GSTAT.EPOCH i).key = 7 := by
  refine part_block ?_ ?_ <;> simp only [FCH_GSTAT.EPOCH, Fld.key, eventRange] <;> omega
theorem FCH_GSTAT.ERR_part (i : Nat) : partOfKey (FCH_GSTAT.ERR i).key = 7 := by
  refine part_block ?_ ?_ <;> simp only [FCH_GSTAT.ERR, Fld.key, eventRange] <;> omega
theorem FCH_GSTAT.RSTERR_part (i : Nat) : partOfKey (FCH_GSTAT.RSTERR i).key = 7 := by
  refine part_block ?_ ?_ <;> simp only [FCH_GSTAT.RSTERR, Fld.key, eventRange] <;> omega
theorem FCH_GSTAT.SET_part (i : Nat) : partOfKey (FCH_GSTAT.SET i).key = 7 := by
  refine part_block ?_ ?_ <;> simp only [FCH_GSTAT.SET, Fld.key, eventRange] <;> omega
theorem FCH_GSTAT.STATE_part (i : Nat) : partOfKey (FCH_GSTAT.STATE i).key = 7 := by
  refine part_block ?_ ?_ <;> simp only [FCH_GSTAT.STATE, Fld.key, eventRange] <;> omega
theorem FCH_GSTAT.UV_part (i : Nat) : partOfKey (FCH_GSTAT.UV i).key = 7 := by
  refine part_block ?_ ?_ <;> simp only [FCH_GSTAT.UV, Fld.key, eventRange] <;> omega
theorem FCH_GSTAT.WP_part (i : Nat) : partOfKey (FCH_GSTAT.WP i).key = 7 := by
  refine part_block ?_ ?_ <;> simp only [FCH_GSTAT.WP, Fld.key, eventRange] <;> omega
theorem FCH_TSETW0.INTF_part (i j : Nat) : partOfKey (FCH_TSETW0.INTF i j).key = 7 := by
  refine part_block ?_ ?_ <;> simp only [FCH_TSETW0.INTF, Fld.key, eventRange] <;> omega
theorem FCH_TSETW0.RATE_part (i j : Nat) : partOfKey (FCH_TSETW0.RATE i j).key = 7 := by
  refine part_block ?_ ?_ <;> simp only [FCH_TSETW0.RATE, Fld.key, eventRange] <;> omega
theorem FCH_TSETW0.SDRMODE_part (i j : Nat) : partOfKey (FCH_TSETW0.SDRMODE i j).key = 7 := by
  refine part_block ?_ ?_ <;> simp only [FCH_TSETW0.SDRMODE, Fld.key, eventRange] <;> omega
theorem FCH_TSETW1.DRV_part (i j : Nat) : partOfKey (FCH_TSETW1.DRV i j).key = 7 := by
  refine part_block ?_ ?_ <;> simp only [FCH_TSETW1.DRV, Fld.key, eventRange] <;> omega
theorem FCH_TSETW1.ODT_part (i j : Nat) : partOfKey (FCH_TSETW1.ODT i j).key = 7 := by
  refine part_block ?_ ?_ <;> simp only [FCH_TSETW1.ODT, Fld.key, eventRange] <;> omega
theorem FCH_TSETW1.VREFQ_part (i j : Nat) : partOfKey (FCH_TSETW1.VREFQ i j).key = 7 := by
  refine part_block ?_ ?_ <;> simp only [FCH_TSETW1.VREFQ, Fld.key, eventRange] <;> omega
theorem HFE_CMDLIM.LIMIT_part (i : Nat) : partOfKey (HFE_CMDLIM.LIMIT i).key = 3 := by
  refine part_block ?_ ?_ <;> simp only [HFE_CMDLIM.LIMIT, Fld.key, eventRange] <;> omega
theorem HFE_QALLOC.NCQ_part (i : Nat) : partOfKey (HFE_QALLOC.NCQ i).key = 3 := by
  refine part_block ?_ ?_ <;> simp only [HFE_QALLOC.NCQ, Fld.key, eventRange] <;> omega
theorem HFE_QALLOC.NSQ_part (i : Nat) : partOfKey (HFE_QALLOC.NSQ i).key = 3 := by
  refine part_block ?_ ?_ <;> simp only [HFE_QALLOC.NSQ, Fld.key, eventRange] <;> omega
theorem MEM_BANKASN.OWNER_part (i : Nat) : partOfKey (MEM_BANKASN.OWNER i).key = 13 := by
  refine part_block ?_ ?_ <;> simp only [MEM_BANKASN.OWNER, Fld.key, eventRange] <;> omega
theorem MEM_BANKASN.SPARE_part (i : Nat) : partOfKey (MEM_BANKASN.SPARE i).key = 13 := by
  refine part_block ?_ ?_ <;> simp only [MEM_BANKASN.SPARE, Fld.key, eventRange] <;> omega
theorem MSH_SSET.RECIPE_part (i : Nat) : partOfKey (MSH_SSET.RECIPE i).key = 10 := by
  refine part_block ?_ ?_ <;> simp only [MSH_SSET.RECIPE, Fld.key, eventRange] <;> omega
theorem MSH_SSET.VALID_part (i : Nat) : partOfKey (MSH_SSET.VALID i).key = 10 := by
  refine part_block ?_ ?_ <;> simp only [MSH_SSET.VALID, Fld.key, eventRange] <;> omega
theorem PCI_ERRCNT.CORR_part (i : Nat) : partOfKey (PCI_ERRCNT.CORR i).key = 2 := by
  refine part_block ?_ ?_ <;> simp only [PCI_ERRCNT.CORR, Fld.key, eventRange] <;> omega
theorem PCI_ERRCNT.DOWN_part (i : Nat) : partOfKey (PCI_ERRCNT.DOWN i).key = 2 := by
  refine part_block ?_ ?_ <;> simp only [PCI_ERRCNT.DOWN, Fld.key, eventRange] <;> omega
theorem PCI_ERRCNT.RECOV_part (i : Nat) : partOfKey (PCI_ERRCNT.RECOV i).key = 2 := by
  refine part_block ?_ ?_ <;> simp only [PCI_ERRCNT.RECOV, Fld.key, eventRange] <;> omega
theorem PCI_LSTAT.ACTWIDTH_part (i : Nat) : partOfKey (PCI_LSTAT.ACTWIDTH i).key = 2 := by
  refine part_block ?_ ?_ <;> simp only [PCI_LSTAT.ACTWIDTH, Fld.key, eventRange] <;> omega
theorem PCI_LSTAT.FLIT_part (i : Nat) : partOfKey (PCI_LSTAT.FLIT i).key = 2 := by
  refine part_block ?_ ?_ <;> simp only [PCI_LSTAT.FLIT, Fld.key, eventRange] <;> omega
theorem PCI_LSTAT.L1SUB_part (i : Nat) : partOfKey (PCI_LSTAT.L1SUB i).key = 2 := by
  refine part_block ?_ ?_ <;> simp only [PCI_LSTAT.L1SUB, Fld.key, eventRange] <;> omega
theorem PCI_LSTAT.LINKUP_part (i : Nat) : partOfKey (PCI_LSTAT.LINKUP i).key = 2 := by
  refine part_block ?_ ?_ <;> simp only [PCI_LSTAT.LINKUP, Fld.key, eventRange] <;> omega
theorem PCI_LSTAT.LTSSM_part (i : Nat) : partOfKey (PCI_LSTAT.LTSSM i).key = 2 := by
  refine part_block ?_ ?_ <;> simp only [PCI_LSTAT.LTSSM, Fld.key, eventRange] <;> omega
theorem PCI_LSTAT.RATE_part (i : Nat) : partOfKey (PCI_LSTAT.RATE i).key = 2 := by
  refine part_block ?_ ?_ <;> simp only [PCI_LSTAT.RATE, Fld.key, eventRange] <;> omega
theorem PCI_LSTAT.WIDTH_part (i : Nat) : partOfKey (PCI_LSTAT.WIDTH i).key = 2 := by
  refine part_block ?_ ?_ <;> simp only [PCI_LSTAT.WIDTH, Fld.key, eventRange] <;> omega
theorem PWR_DCNT.DELAYS_part (i : Nat) : partOfKey (PWR_DCNT.DELAYS i).key = 16 := by
  refine part_block ?_ ?_ <;> simp only [PWR_DCNT.DELAYS, Fld.key, eventRange] <;> omega
theorem PWR_DCNT.REFUSALS_part (i : Nat) : partOfKey (PWR_DCNT.REFUSALS i).key = 16 := by
  refine part_block ?_ ?_ <;> simp only [PWR_DCNT.REFUSALS, Fld.key, eventRange] <;> omega
theorem PWR_DOM.STATE_part (i : Nat) : partOfKey (PWR_DOM.STATE i).key = 24 := by
  refine part_event ?_; simp only [PWR_DOM.STATE, Fld.key, eventRange]; omega
theorem SAF_WDOG.TIMEOUT_part (i : Nat) : partOfKey (SAF_WDOG.TIMEOUT i).key = 21 := by
  refine part_block ?_ ?_ <;> simp only [SAF_WDOG.TIMEOUT, Fld.key, eventRange] <;> omega
theorem THM_SENS.DEV_part (i : Nat) : partOfKey (THM_SENS.DEV i).key = 17 := by
  refine part_block ?_ ?_ <;> simp only [THM_SENS.DEV, Fld.key, eventRange] <;> omega
theorem THM_SENS.TEMP_part (i : Nat) : partOfKey (THM_SENS.TEMP i).key = 17 := by
  refine part_block ?_ ?_ <;> simp only [THM_SENS.TEMP, Fld.key, eventRange] <;> omega
theorem TST_DBGCHAL.WORD_part (i : Nat) : partOfKey (TST_DBGCHAL.WORD i).key = 22 := by
  refine part_block ?_ ?_ <;> simp only [TST_DBGCHAL.WORD, Fld.key, eventRange] <;> omega
theorem TST_LBBITS.BITS_part (i : Nat) : partOfKey (TST_LBBITS.BITS i).key = 22 := by
  refine part_block ?_ ?_ <;> simp only [TST_LBBITS.BITS, Fld.key, eventRange] <;> omega
theorem TST_LBCTL.DEPTH_part (i : Nat) : partOfKey (TST_LBCTL.DEPTH i).key = 22 := by
  refine part_block ?_ ?_ <;> simp only [TST_LBCTL.DEPTH, Fld.key, eventRange] <;> omega
theorem TST_LBCTL.DURATION_part (i : Nat) : partOfKey (TST_LBCTL.DURATION i).key = 22 := by
  refine part_block ?_ ?_ <;> simp only [TST_LBCTL.DURATION, Fld.key, eventRange] <;> omega
theorem TST_LBCTL.INDEX_part (i : Nat) : partOfKey (TST_LBCTL.INDEX i).key = 22 := by
  refine part_block ?_ ?_ <;> simp only [TST_LBCTL.INDEX, Fld.key, eventRange] <;> omega
theorem TST_LBCTL.INTF_part (i : Nat) : partOfKey (TST_LBCTL.INTF i).key = 22 := by
  refine part_block ?_ ?_ <;> simp only [TST_LBCTL.INTF, Fld.key, eventRange] <;> omega
theorem TST_LBCTL.PAT_part (i : Nat) : partOfKey (TST_LBCTL.PAT i).key = 22 := by
  refine part_block ?_ ?_ <;> simp only [TST_LBCTL.PAT, Fld.key, eventRange] <;> omega
theorem TST_LBLANE.LANES_part (i : Nat) : partOfKey (TST_LBLANE.LANES i).key = 22 := by
  refine part_block ?_ ?_ <;> simp only [TST_LBLANE.LANES, Fld.key, eventRange] <;> omega
theorem TST_LBSTAT.ERRORS_part (i : Nat) : partOfKey (TST_LBSTAT.ERRORS i).key = 22 := by
  refine part_block ?_ ?_ <;> simp only [TST_LBSTAT.ERRORS, Fld.key, eventRange] <;> omega
theorem TST_LBSTAT.REASON_part (i : Nat) : partOfKey (TST_LBSTAT.REASON i).key = 22 := by
  refine part_block ?_ ?_ <;> simp only [TST_LBSTAT.REASON, Fld.key, eventRange] <;> omega
theorem TST_LBSTAT.STATE_part (i : Nat) : partOfKey (TST_LBSTAT.STATE i).key = 22 := by
  refine part_block ?_ ?_ <;> simp only [TST_LBSTAT.STATE, Fld.key, eventRange] <;> omega
theorem TUB_RES.HEAD_part (i : Nat) : partOfKey (TUB_RES.HEAD i).key = 12 := by
  refine part_block ?_ ?_ <;> simp only [TUB_RES.HEAD, Fld.key, eventRange] <;> omega
theorem TUB_RES.STATE_part (i : Nat) : partOfKey (TUB_RES.STATE i).key = 12 := by
  refine part_block ?_ ?_ <;> simp only [TUB_RES.STATE, Fld.key, eventRange] <;> omega
theorem ZPM_DWORD.DATA_part (i : Nat) : partOfKey (ZPM_DWORD.DATA i).key = 5 := by
  refine part_block ?_ ?_ <;> simp only [ZPM_DWORD.DATA, Fld.key, eventRange] <;> omega
theorem ZPM_PGRP.ROW_part (i : Nat) : partOfKey (ZPM_PGRP.ROW i).key = 5 := by
  refine part_block ?_ ?_ <;> simp only [ZPM_PGRP.ROW, Fld.key, eventRange] <;> omega
theorem ZPM_PGRP.TAIL_ONLY_part (i : Nat) : partOfKey (ZPM_PGRP.TAIL_ONLY i).key = 5 := by
  refine part_block ?_ ?_ <;> simp only [ZPM_PGRP.TAIL_ONLY, Fld.key, eventRange] <;> omega
theorem ZPM_SSET.PGRP_part (i : Nat) : partOfKey (ZPM_SSET.PGRP i).key = 5 := by
  refine part_block ?_ ?_ <;> simp only [ZPM_SSET.PGRP, Fld.key, eventRange] <;> omega
theorem ZPM_SSET.ROWS_part (i : Nat) : partOfKey (ZPM_SSET.ROWS i).key = 5 := by
  refine part_block ?_ ?_ <;> simp only [ZPM_SSET.ROWS, Fld.key, eventRange] <;> omega
theorem ZPM_SSET.VALID_part (i : Nat) : partOfKey (ZPM_SSET.VALID i).key = 5 := by
  refine part_block ?_ ?_ <;> simp only [ZPM_SSET.VALID, Fld.key, eventRange] <;> omega
theorem AON_RTC.COUNT_part : partOfKey AON_RTC.COUNT.key = 23 := by decide
theorem AON_WAKE.CAUSE_part : partOfKey AON_WAKE.CAUSE.key = 23 := by decide
theorem AON_WAKE.EN_part : partOfKey AON_WAKE.EN.key = 23 := by decide
theorem BEL_ACCT.ACCOUNT_part : partOfKey BEL_ACCT.ACCOUNT.key = 1 := by decide
theorem BEL_ACCT.PEAK_part : partOfKey BEL_ACCT.PEAK.key = 1 := by decide
theorem BEL_BUDGET.BUDGET_part : partOfKey BEL_BUDGET.BUDGET.key = 1 := by decide
theorem BEL_BUDGET.RESERVE_part : partOfKey BEL_BUDGET.RESERVE.key = 1 := by decide
theorem BEL_CTRL.PERIOD_part : partOfKey BEL_CTRL.PERIOD.key = 1 := by decide
theorem BEL_CTRL.SRC_part : partOfKey BEL_CTRL.SRC.key = 1 := by decide
theorem BEL_ERRCNT.LOSSES_part : partOfKey BEL_ERRCNT.LOSSES.key = 1 := by decide
theorem BEL_ERRCNT.MISPLACED_part : partOfKey BEL_ERRCNT.MISPLACED.key = 1 := by decide
theorem BEL_MASK.MASK_part : partOfKey BEL_MASK.MASK.key = 1 := by decide
theorem BEL_MODE_CMD.ANY_part : partOfKey BEL_MODE_CMD.ANY.key = 1 := by decide
theorem BEL_MODE_CMD.AT_SLOT_part : partOfKey BEL_MODE_CMD.AT_SLOT.key = 1 := by decide
theorem BEL_MODE_CMD.ROLLBACK_part : partOfKey BEL_MODE_CMD.ROLLBACK.key = 1 := by decide
theorem BEL_MODE_STAT.EPOCH_part : partOfKey BEL_MODE_STAT.EPOCH.key = 1 := by decide
theorem BEL_MODE_STAT.LAGGARDS_part : partOfKey BEL_MODE_STAT.LAGGARDS.key = 1 := by decide
theorem BEL_MODE_STAT.PENDING_part : partOfKey BEL_MODE_STAT.PENDING.key = 1 := by decide
theorem BEL_MODE_STAT.REJECTED_part : partOfKey BEL_MODE_STAT.REJECTED.key = 1 := by decide
theorem BEL_MODE_STAT.STATE_part : partOfKey BEL_MODE_STAT.STATE.key = 1 := by decide
theorem BEL_STAT.DEGRADED_part : partOfKey BEL_STAT.DEGRADED.key = 1 := by decide
theorem BEL_STAT.EPOCH_part : partOfKey BEL_STAT.EPOCH.key = 1 := by decide
theorem BEL_STAT.FALLBACK_part : partOfKey BEL_STAT.FALLBACK.key = 1 := by decide
theorem BEL_STAT.LOCK_part : partOfKey BEL_STAT.LOCK.key = 1 := by decide
theorem BEL_STAT.MASK_PEND_part : partOfKey BEL_STAT.MASK_PEND.key = 1 := by decide
theorem BEL_STAT.MISSED_part : partOfKey BEL_STAT.MISSED.key = 1 := by decide
theorem CIP_BOOTSTAT.RESULT_part : partOfKey CIP_BOOTSTAT.RESULT.key = 14 := by decide
theorem CIP_BOOTSTAT.SCHEMES_part : partOfKey CIP_BOOTSTAT.SCHEMES.key = 14 := by decide
theorem CIP_BOOTSTAT.SOURCE_part : partOfKey CIP_BOOTSTAT.SOURCE.key = 14 := by decide
theorem CIP_BOOTSTAT.SVN_part : partOfKey CIP_BOOTSTAT.SVN.key = 14 := by decide
theorem CIP_ERRCNT.GCMMIS_part : partOfKey CIP_ERRCNT.GCMMIS.key = 14 := by decide
theorem CIP_ERRCNT.TAGFAIL_part : partOfKey CIP_ERRCNT.TAGFAIL.key = 14 := by decide
theorem CIP_ERRCNT.XTSMIS_part : partOfKey CIP_ERRCNT.XTSMIS.key = 14 := by decide
theorem CIP_GHEAD.HEAD_part : partOfKey CIP_GHEAD.HEAD.key = 14 := by decide
theorem CIP_GRING.BASE_part : partOfKey CIP_GRING.BASE.key = 14 := by decide
theorem CIP_GRING.LOG2_part : partOfKey CIP_GRING.LOG2.key = 14 := by decide
theorem CIP_GTAIL.TAIL_part : partOfKey CIP_GTAIL.TAIL.key = 14 := by decide
theorem CIP_LEASE.FORCE_part : partOfKey CIP_LEASE.FORCE.key = 14 := by decide
theorem CIP_LEASE.HOLD_part : partOfKey CIP_LEASE.HOLD.key = 14 := by decide
theorem CIP_LEASESTAT.HELD_part : partOfKey CIP_LEASESTAT.HELD.key = 14 := by decide
theorem CIP_LEASESTAT.REFUSALS_part : partOfKey CIP_LEASESTAT.REFUSALS.key = 14 := by decide
theorem CIP_REKEY.ERR_part : partOfKey CIP_REKEY.ERR.key = 14 := by decide
theorem CIP_RSWCAP.BLOCK_part : partOfKey CIP_RSWCAP.BLOCK.key = 14 := by decide
theorem CIP_RSWCAP.MASTER_part : partOfKey CIP_RSWCAP.MASTER.key = 14 := by decide
theorem CIP_RSWCAP.OFFSET_part : partOfKey CIP_RSWCAP.OFFSET.key = 14 := by decide
theorem CIP_RSWCAP.VALID_part : partOfKey CIP_RSWCAP.VALID.key = 14 := by decide
theorem CIP_RSWCNT.COUNT_part : partOfKey CIP_RSWCNT.COUNT.key = 14 := by decide
theorem CIP_STAT.RNGOK_part : partOfKey CIP_STAT.RNGOK.key = 14 := by decide
theorem ECC_GUARDCNT.READFAIL_part : partOfKey ECC_GUARDCNT.READFAIL.key = 9 := by decide
theorem ECC_GUARDCNT.WRITEFAIL_part : partOfKey ECC_GUARDCNT.WRITEFAIL.key = 9 := by decide
theorem ECC_STAT.CANDLOST_part : partOfKey ECC_STAT.CANDLOST.key = 9 := by decide
theorem ECC_STAT.ERR_part : partOfKey ECC_STAT.ERR.key = 9 := by decide
theorem ECC_STAT.MODE_part : partOfKey ECC_STAT.MODE.key = 9 := by decide
theorem EVR_CTRL.EN_part : partOfKey EVR_CTRL.EN.key = 19 := by decide
theorem EVR_CUR.SEQ_part : partOfKey EVR_CUR.SEQ.key = 19 := by decide
theorem EVR_STAT.BUSY_part : partOfKey EVR_STAT.BUSY.key = 24 := by decide
theorem EVR_STAT.FIRSTFULL_part : partOfKey EVR_STAT.FIRSTFULL.key = 24 := by decide
theorem EVR_STAT.NOAREA_part : partOfKey EVR_STAT.NOAREA.key = 24 := by decide
theorem EVR_STAT.SUPP_part : partOfKey EVR_STAT.SUPP.key = 24 := by decide
theorem EVR_WST.CRCERR_part : partOfKey EVR_WST.CRCERR.key = 19 := by decide
theorem EVR_WST.STATE_part : partOfKey EVR_WST.STATE.key = 19 := by decide
theorem FNS_DEFCNT.COUNT_part : partOfKey FNS_DEFCNT.COUNT.key = 4 := by decide
theorem FNS_MBXACK.REJ_part : partOfKey FNS_MBXACK.REJ.key = 4 := by decide
theorem HFE_CTRL.ADMIT_EN_part : partOfKey HFE_CTRL.ADMIT_EN.key = 3 := by decide
theorem HFE_CTRL.DA_part : partOfKey HFE_CTRL.DA.key = 3 := by decide
theorem HFE_ERRCNT.DBERR_part : partOfKey HFE_ERRCNT.DBERR.key = 3 := by decide
theorem HFE_ERRCNT.VOIDS_part : partOfKey HFE_ERRCNT.VOIDS.key = 3 := by decide
theorem HFE_STAT.ALLOCERR_part : partOfKey HFE_STAT.ALLOCERR.key = 3 := by decide
theorem HFE_TICKET.TICKET_part : partOfKey HFE_TICKET.TICKET.key = 3 := by decide
theorem HLD_CNT.CHECKS_part : partOfKey HLD_CNT.CHECKS.key = 11 := by decide
theorem HLD_CNT.RIDES_part : partOfKey HLD_CNT.RIDES.key = 11 := by decide
theorem HLD_CTRL.EN_part : partOfKey HLD_CTRL.EN.key = 11 := by decide
theorem HLD_DUMP.DURATION_part : partOfKey HLD_DUMP.DURATION.key = 11 := by decide
theorem HLD_DUMP.ERASURES_part : partOfKey HLD_DUMP.ERASURES.key = 11 := by decide
theorem HLD_DUMP.INCOMPLETE_part : partOfKey HLD_DUMP.INCOMPLETE.key = 11 := by decide
theorem HLD_DUMP.VALID_part : partOfKey HLD_DUMP.VALID.key = 11 := by decide
theorem HLD_GEN.GEN_part : partOfKey HLD_GEN.GEN.key = 11 := by decide
theorem HLD_SENSE.HU_part : partOfKey HLD_SENSE.HU.key = 11 := by decide
theorem HLD_SENSE.MAIN_part : partOfKey HLD_SENSE.MAIN.key = 11 := by decide
theorem HLD_STAT.MAINGOOD_part : partOfKey HLD_STAT.MAINGOOD.key = 11 := by decide
theorem HLD_STAT.OV_part : partOfKey HLD_STAT.OV.key = 11 := by decide
theorem HLD_STAT.STATE_part : partOfKey HLD_STAT.STATE.key = 11 := by decide
theorem HLD_STAT.STOREBAD_part : partOfKey HLD_STAT.STOREBAD.key = 11 := by decide
theorem MED_CTRL.GC_EN_part : partOfKey MED_CTRL.GC_EN.key = 6 := by decide
theorem MED_CTRL.KILN_EN_part : partOfKey MED_CTRL.KILN_EN.key = 6 := by decide
theorem MED_CTRL.LAYOUT_part : partOfKey MED_CTRL.LAYOUT.key = 6 := by decide
theorem MED_CTRL.WL_EN_part : partOfKey MED_CTRL.WL_EN.key = 6 := by decide
theorem MED_ERRCNT.RBFAIL_part : partOfKey MED_ERRCNT.RBFAIL.key = 6 := by decide
theorem MED_ERRCNT.RETIRED_part : partOfKey MED_ERRCNT.RETIRED.key = 6 := by decide
theorem MED_MAPMISS.COUNT_part : partOfKey MED_MAPMISS.COUNT.key = 6 := by decide
theorem MED_STAT.LAYERR_part : partOfKey MED_STAT.LAYERR.key = 6 := by decide
theorem MED_STAT.MERR_part : partOfKey MED_STAT.MERR.key = 6 := by decide
theorem MED_STAT.RCPERR_part : partOfKey MED_STAT.RCPERR.key = 6 := by decide
theorem MED_STAT.UERR_part : partOfKey MED_STAT.UERR.key = 6 := by decide
theorem MED_UDATA.RECORD_part : partOfKey MED_UDATA.RECORD.key = 6 := by decide
theorem MEM_CTRL.LEGACY_part : partOfKey MEM_CTRL.LEGACY.key = 13 := by decide
theorem MEM_CTRL.LOCK_part : partOfKey MEM_CTRL.LOCK.key = 13 := by decide
theorem MEM_PARADDR.ADDR_LO_part : partOfKey MEM_PARADDR.ADDR_LO.key = 13 := by decide
theorem MEM_PARERR.ADDR_HI_part : partOfKey MEM_PARERR.ADDR_HI.key = 13 := by decide
theorem MEM_PARERR.BYTES_part : partOfKey MEM_PARERR.BYTES.key = 13 := by decide
theorem MEM_PARERR.MASTER_part : partOfKey MEM_PARERR.MASTER.key = 13 := by decide
theorem MEM_PARERR.VALID_part : partOfKey MEM_PARERR.VALID.key = 13 := by decide
theorem MEM_RETIRE.BANK_part : partOfKey MEM_RETIRE.BANK.key = 13 := by decide
theorem MEM_RETIRE.ROW_part : partOfKey MEM_RETIRE.ROW.key = 13 := by decide
theorem MEM_STAT.LOCKERR_part : partOfKey MEM_STAT.LOCKERR.key = 13 := by decide
theorem MEM_STAT.PARCNT_part : partOfKey MEM_STAT.PARCNT.key = 13 := by decide
theorem MEM_STAT.RETERR_part : partOfKey MEM_STAT.RETERR.key = 13 := by decide
theorem MGT_FLEN.SIZE_part : partOfKey MGT_FLEN.SIZE.key = 18 := by decide
theorem MGT_FLEN.TYPE_part : partOfKey MGT_FLEN.TYPE.key = 18 := by decide
theorem MGT_FREQ.DONE_part : partOfKey MGT_FREQ.DONE.key = 18 := by decide
theorem MGT_FREQ.INDEX_part : partOfKey MGT_FREQ.INDEX.key = 18 := by decide
theorem MGT_FREQ.OP_part : partOfKey MGT_FREQ.OP.key = 18 := by decide
theorem MGT_FREQ.SUB_part : partOfKey MGT_FREQ.SUB.key = 18 := by decide
theorem MGT_FRES.ABORT_part : partOfKey MGT_FRES.ABORT.key = 18 := by decide
theorem MGT_NETCNT.DROPPED_part : partOfKey MGT_NETCNT.DROPPED.key = 18 := by decide
theorem MGT_NETCNT.RXERR_part : partOfKey MGT_NETCNT.RXERR.key = 18 := by decide
theorem MGT_SESCNT.REFUSED_part : partOfKey MGT_SESCNT.REFUSED.key = 18 := by decide
theorem MGT_SESCNT.TAGFAIL_part : partOfKey MGT_SESCNT.TAGFAIL.key = 18 := by decide
theorem MGT_STAT.CFG_part : partOfKey MGT_STAT.CFG.key = 18 := by decide
theorem MGT_STAT.COORD_part : partOfKey MGT_STAT.COORD.key = 18 := by decide
theorem MGT_STAT.NETUP_part : partOfKey MGT_STAT.NETUP.key = 18 := by decide
theorem MGT_STAT.NODE_part : partOfKey MGT_STAT.NODE.key = 18 := by decide
theorem MSH_CTRL.PATROL_EN_part : partOfKey MSH_CTRL.PATROL_EN.key = 10 := by decide
theorem MSH_DSTATE.POS_part : partOfKey MSH_DSTATE.POS.key = 10 := by decide
theorem MSH_DSTATE.SSET_part : partOfKey MSH_DSTATE.SSET.key = 10 := by decide
theorem MSH_DSTATE.STATE_part : partOfKey MSH_DSTATE.STATE.key = 10 := by decide
theorem MSH_LOST.NEW_part : partOfKey MSH_LOST.NEW.key = 10 := by decide
theorem MSH_PATCNT.LOC_part : partOfKey MSH_PATCNT.LOC.key = 10 := by decide
theorem MSH_PATCNT.PASSES_part : partOfKey MSH_PATCNT.PASSES.key = 10 := by decide
theorem MSH_PATCNT.UNLOC_part : partOfKey MSH_PATCNT.UNLOC.key = 10 := by decide
theorem MSH_RSHP.DST_part : partOfKey MSH_RSHP.DST.key = 10 := by decide
theorem MSH_RSHP.ERR_part : partOfKey MSH_RSHP.ERR.key = 10 := by decide
theorem MSH_RSHP.SRC_part : partOfKey MSH_RSHP.SRC.key = 10 := by decide
theorem MSH_STAT.EPOCH_part : partOfKey MSH_STAT.EPOCH.key = 10 := by decide
theorem MSH_STAT.ERR_part : partOfKey MSH_STAT.ERR.key = 10 := by decide
theorem MSH_STAT.TBLFULL_part : partOfKey MSH_STAT.TBLFULL.key = 10 := by decide
theorem PCI_CTRL.CFG_READY0_part : partOfKey PCI_CTRL.CFG_READY0.key = 2 := by decide
theorem PCI_CTRL.CFG_READY1_part : partOfKey PCI_CTRL.CFG_READY1.key = 2 := by decide
theorem PCI_CTRL.FLIT_DIS_part : partOfKey PCI_CTRL.FLIT_DIS.key = 2 := by decide
theorem PCI_CTRL.L0P_WIDTH_part : partOfKey PCI_CTRL.L0P_WIDTH.key = 2 := by decide
theorem PCI_CTRL.MAXRATE_part : partOfKey PCI_CTRL.MAXRATE.key = 2 := by decide
theorem PCI_STRAP.BIF_part : partOfKey PCI_STRAP.BIF.key = 2 := by decide
theorem PCI_STRAP.SRIS_part : partOfKey PCI_STRAP.SRIS.key = 2 := by decide
theorem PWR_LAST.CODE_part : partOfKey PWR_LAST.CODE.key = 16 := by decide
theorem PWR_LAST.DOMAIN_part : partOfKey PWR_LAST.DOMAIN.key = 16 := by decide
theorem PWR_LAST.MASTER_part : partOfKey PWR_LAST.MASTER.key = 16 := by decide
theorem PWR_STAT.ABORTS_part : partOfKey PWR_STAT.ABORTS.key = 16 := by decide
theorem PWR_STAT.CTRL_part : partOfKey PWR_STAT.CTRL.key = 16 := by decide
theorem PWR_STAT.PS_part : partOfKey PWR_STAT.PS.key = 16 := by decide
theorem PWR_STAT.STATE_part : partOfKey PWR_STAT.STATE.key = 24 := by decide
theorem PWR_STAT.TARGET_part : partOfKey PWR_STAT.TARGET.key = 16 := by decide
theorem PWR_STAT.WAKEPEND_part : partOfKey PWR_STAT.WAKEPEND.key = 16 := by decide
theorem SAF_D2DCNT.FAILED_part : partOfKey SAF_D2DCNT.FAILED.key = 21 := by decide
theorem SAF_D2DCNT.RETRIED_part : partOfKey SAF_D2DCNT.RETRIED.key = 21 := by decide
theorem SAF_FADDR.ADDR_part : partOfKey SAF_FADDR.ADDR.key = 21 := by decide
theorem SAF_PST.FAILED_part : partOfKey SAF_PST.FAILED.key = 21 := by decide
theorem SAF_STAT.LASTING_part : partOfKey SAF_STAT.LASTING.key = 21 := by decide
theorem SAF_STAT.SEV_part : partOfKey SAF_STAT.SEV.key = 21 := by decide
theorem SAF_STAT.TYPE_part : partOfKey SAF_STAT.TYPE.key = 21 := by decide
theorem SAF_STAT.VERDICT_part : partOfKey SAF_STAT.VERDICT.key = 21 := by decide
theorem SYS_BOOTPHASE.STEP_part : partOfKey SYS_BOOTPHASE.STEP.key = 0 := by decide
theorem SYS_BUSERR.CAUSE_part : partOfKey SYS_BUSERR.CAUSE.key = 24 := by decide
theorem SYS_BUSERR.COUNT_part : partOfKey SYS_BUSERR.COUNT.key = 24 := by decide
theorem SYS_BUSERR.MASTER_part : partOfKey SYS_BUSERR.MASTER.key = 24 := by decide
theorem SYS_BUSERR.VALID_part : partOfKey SYS_BUSERR.VALID.key = 24 := by decide
theorem SYS_BUSERRA.ADDR_part : partOfKey SYS_BUSERRA.ADDR.key = 24 := by decide
theorem SYS_CLKSTAT.LAMPXTAL_part : partOfKey SYS_CLKSTAT.LAMPXTAL.key = 0 := by decide
theorem SYS_CLKSTAT.PLLCORE_part : partOfKey SYS_CLKSTAT.PLLCORE.key = 0 := by decide
theorem SYS_CLKSTAT.PLLDATA_part : partOfKey SYS_CLKSTAT.PLLDATA.key = 0 := by decide
theorem SYS_CLKSTAT.PLLPHY_part : partOfKey SYS_CLKSTAT.PLLPHY.key = 0 := by decide
theorem SYS_CLKSTAT.XTAL_part : partOfKey SYS_CLKSTAT.XTAL.key = 0 := by decide
theorem SYS_CORECTL.RUN_part : partOfKey SYS_CORECTL.RUN.key = 0 := by decide
theorem SYS_REFCNT.COUNT_part : partOfKey SYS_REFCNT.COUNT.key = 0 := by decide
theorem SYS_RSTCAUSE.CAUSE_part : partOfKey SYS_RSTCAUSE.CAUSE.key = 0 := by decide
theorem SYS_RSTCAUSE.PGFAIL_part : partOfKey SYS_RSTCAUSE.PGFAIL.key = 0 := by decide
theorem SYS_RSTCTL.ERR_part : partOfKey SYS_RSTCTL.ERR.key = 0 := by decide
theorem THM_CTRL.NANDEN_part : partOfKey THM_CTRL.NANDEN.key = 17 := by decide
theorem THM_DEVT.TEMP_part : partOfKey THM_DEVT.TEMP.key = 17 := by decide
theorem THM_STAT.EPOCH_part : partOfKey THM_STAT.EPOCH.key = 17 := by decide
theorem THM_STAT.HWLEVEL_part : partOfKey THM_STAT.HWLEVEL.key = 17 := by decide
theorem THM_STAT.LEVEL_part : partOfKey THM_STAT.LEVEL.key = 17 := by decide
theorem THM_STAT.SUSPECT_part : partOfKey THM_STAT.SUSPECT.key = 17 := by decide
theorem TLY_STAT.EPOCH_part : partOfKey TLY_STAT.EPOCH.key = 20 := by decide
theorem TST_BIST.TARGET_part : partOfKey TST_BIST.TARGET.key = 22 := by decide
theorem TST_BIST.TYPE_part : partOfKey TST_BIST.TYPE.key = 22 := by decide
theorem TST_BISTRES.FIRST_part : partOfKey TST_BISTRES.FIRST.key = 22 := by decide
theorem TST_BISTRES.NFAIL_part : partOfKey TST_BISTRES.NFAIL.key = 22 := by decide
theorem TST_BISTRES.PASS_part : partOfKey TST_BISTRES.PASS.key = 22 := by decide
theorem TST_BISTRES.STATE_part : partOfKey TST_BISTRES.STATE.key = 22 := by decide
theorem TST_DBG.BUSY_part : partOfKey TST_DBG.BUSY.key = 22 := by decide
theorem TST_DBG.FAILS_part : partOfKey TST_DBG.FAILS.key = 22 := by decide
theorem TST_DBG.UNLOCKED_part : partOfKey TST_DBG.UNLOCKED.key = 22 := by decide
theorem TUB_CTRL.EN_part : partOfKey TUB_CTRL.EN.key = 12 := by decide
theorem TUB_SPLIT.P_part : partOfKey TUB_SPLIT.P.key = 12 := by decide
theorem TUB_STAT.ENERR_part : partOfKey TUB_STAT.ENERR.key = 12 := by decide
theorem TUB_STAT.HPARERR_part : partOfKey TUB_STAT.HPARERR.key = 12 := by decide
theorem TUB_STAT.OWNERR_part : partOfKey TUB_STAT.OWNERR.key = 12 := by decide
theorem TUB_STAT.RELERR_part : partOfKey TUB_STAT.RELERR.key = 12 := by decide
theorem TUB_WAITCNT.COUNT_part : partOfKey TUB_WAITCNT.COUNT.key = 12 := by decide
theorem ZPM_CTRL.EN_part : partOfKey ZPM_CTRL.EN.key = 5 := by decide
theorem ZPM_CTRL.TAIL_ENF_part : partOfKey ZPM_CTRL.TAIL_ENF.key = 5 := by decide
theorem ZPM_DCMD.ERR_part : partOfKey ZPM_DCMD.ERR.key = 5 := by decide
theorem ZPM_DCMD.INDEX_part : partOfKey ZPM_DCMD.INDEX.key = 5 := by decide
theorem ZPM_STAT.CKPT_BUSY_part : partOfKey ZPM_STAT.CKPT_BUSY.key = 5 := by decide
theorem ZPM_STAT.RELOAD_part : partOfKey ZPM_STAT.RELOAD.key = 5 := by decide
theorem ZPM_STAT.TAILOVL_part : partOfKey ZPM_STAT.TAILOVL.key = 5 := by decide

theorem cfgReady_part (p : Nat) : partOfKey (cfgReady p).key = 2 := by unfold cfgReady; split <;> rfl
theorem qcfg_part (e c : Nat) : partOfKey (qcfg e c).key = 8 := by
  unfold qcfg
  split
  · exact DRF_QCFG.TAIL_part e
  · exact DRF_QCFG.HOST_part e
  · exact DRF_QCFG.BACKGROUND_part e
  · exact DRF_QCFG.MAINT_part e
theorem calFld_part (g k d w : Nat) : partOfKey (calFld g k d w).key = 7 := by
  refine part_block ?_ ?_ <;> simp only [calFld, Fld.key, eventRange] <;> omega
theorem fenceFld_part (e : Nat) : partOfKey (fenceFld e).key = 7 := by
  unfold fenceFld; exact FCH_FENCE.DIES_part ..

theorem part_lt (k : Nat) : partOfKey k < 25 := by unfold partOfKey; split <;> omega

theorem sub_trans {a b c : Nat} (h : a &&& b = a) (k : b &&& c = b) : a &&& c = a := by
  rw [← h, Nat.and_assoc, k]
theorem bit_of_sub {a b i : Nat} (h : a &&& b = a) (k : a.testBit i = true) : b.testBit i = true := by
  cases e : b.testBit i
  · rw [sub_bit h e] at k; cases k
  · rfl

theorem low_bits : ∀ k < 25, (33554431 : Nat).testBit k = true := by decide

namespace Within
theorem setFldAny {m : Nat} {s a : State} {f : Fld} {v : Nat} (h : Within m s a) (hp : 33554431 &&& m = 33554431) :
    Within m s (a.setFld f v) :=
  h.setFld (by
    have hb : (33554431 : Nat).testBit (partOfKey f.key) = true := by
      have := part_lt f.key
      generalize partOfKey f.key = k at this
      exact low_bits k this
    exact bit_of_sub hp hb)
theorem putAny {m : Nat} {s a : State} {f : Fld} {v : Bool} (h : Within m s a) (hp : 33554431 &&& m = 33554431) :
    Within m s (a.put f v) := h.setFldAny hp
/-- Whatever changes all but the queue, the part's identity and the dies. -/
theorem most {s t : State} (hp : t.pending = s.pending) (hi : t.ident = s.ident)
    (hm : t.drf.media = s.drf.media) (hc : s.canon → t.canon) : Within 72057318992248831 s t where
  canon := hc
  regs f hf := by
    have := bit_of_sub (show 33554431 &&& 72057318992248831 = 33554431 from rfl) (low_bits _ (part_lt f.key))
    rw [this] at hf; cases hf
  free i := Bool.noConfusion i
  ident i := hi
  mem i := Bool.noConfusion i
  lastAccess i := Bool.noConfusion i
  bus i := Bool.noConfusion i
  bell i := Bool.noConfusion i
  pci i := Bool.noConfusion i
  hfe i := Bool.noConfusion i
  fns i := Bool.noConfusion i
  zpm i := Bool.noConfusion i
  med i := Bool.noConfusion i
  fch i := Bool.noConfusion i
  media i := hm
  engines i := Bool.noConfusion i
  ecc i := Bool.noConfusion i
  msh i := Bool.noConfusion i
  hld i := Bool.noConfusion i
  tubs i := Bool.noConfusion i
  memc i := Bool.noConfusion i
  cip i := Bool.noConfusion i
  ctl i := Bool.noConfusion i
  pow i := Bool.noConfusion i
  dict i := Bool.noConfusion i
  notices i := Bool.noConfusion i
  mgt i := Bool.noConfusion i
  tly i := Bool.noConfusion i
  evr i := Bool.noConfusion i
  saf i := Bool.noConfusion i
  tst i := Bool.noConfusion i
  nv i := Bool.noConfusion i
  pending i := hp
theorem countAny {m : Nat} {s a : State} {f : Fld} {v : Nat} (h : Within m s a) (hp : 33554431 &&& m = 33554431) :
    Within m s (a.count f v) := h.setFldAny hp
end Within

end Sys2Proof.Machine
end

