-- ==== Sys2Proof/Laws/FramesBase.lean ====
section
/-! SUPPORT. Laws/FramesBase.lean: which parts of the state each operation of Machine/Ops, Operands, Views, Flags may change (see Machine/Frame.lean); a generated list, one lemma an operation. -/

namespace Sys2Proof.Machine

/-! Ops.lean -/

theorem State.tookFree_in {m s a} (h : Within m s a) (hs : 67108864 &&& m = 67108864) :
    Within m s (State.tookFree a) := by
  refine Within.step (m := 67108864) h ?_ hs
  unfold State.tookFree
  with_reducible repeat' first | exact .refl | refine Within.modFree ?_ rfl

theorem State.setByte_in {x0 x1 m s a} (h : Within m s a) (hs : 268435456 &&& m = 268435456) :
    Within m s (State.setByte x0 x1 a) := by
  refine Within.step (m := 268435456) h ?_ hs
  unfold State.setByte
  with_reducible repeat' first | exact .refl | (refine Within.modBusMem ?_ ?_ ?_ ?_; rotate_left; with_unfolding_all (exact (fun _ => rfl); exact (fun _ h => Tab.wf_set _ _ _ h); rfl))

theorem State.setBytes_in {x0 x1 m s a} (h : Within m s a) (hs : 268435456 &&& m = 268435456) :
    Within m s (State.setBytes x0 x1 a) := by
  induction x1 generalizing x0 s a m with
  | nil => exact h
  | cons b l ih =>
    refine Within.step (m := 268435456) h ?_ hs
    unfold State.setBytes
    with_reducible repeat' first | exact .refl | refine State.setByte_in ?_ rfl | refine ih ?_ rfl

theorem State.setWord_in {x0 x1 m s a} (h : Within m s a) (hs : 268435456 &&& m = 268435456) :
    Within m s (State.setWord x0 x1 a) := by
  refine Within.step (m := 268435456) h ?_ hs
  unfold State.setWord
  with_reducible repeat' first | exact .refl | refine State.setBytes_in ?_ rfl

/-! Operands.lean -/

theorem State.setDict_in {x0 x1 x2 m s a} (h : Within m s a) (hs : 281474976710656 &&& m = 281474976710656) :
    Within m s (State.setDict x0 x1 x2 a) := by
  refine Within.step (m := 281474976710656) h ?_ hs
  unfold State.setDict
  with_reducible repeat' first | exact .refl | (refine Within.modMgtDict ?_ ?_ ?_; rotate_left; with_unfolding_all (exact (fun _ => rfl); rfl))

theorem State.modFn_in {x0 x1 m s a} (h : Within m s a) (hs : 8589934592 &&& m = 8589934592) :
    Within m s (State.modFn x0 x1 a) := by
  refine Within.step (m := 8589934592) h ?_ hs
  unfold State.modFn
  with_reducible repeat' first | exact .refl | refine Within.modHfe ?_ rfl

theorem State.modZone_in {x0 x1 m s a} (h : Within m s a) (hs : 34359738368 &&& m = 34359738368) :
    Within m s (State.modZone x0 x1 a) := by
  refine Within.step (m := 34359738368) h ?_ hs
  unfold State.modZone
  with_reducible repeat' first | exact .refl | refine Within.modZpm ?_ rfl

theorem State.modNs_in {x0 x1 m s a} (h : Within m s a) (hs : 34359738368 &&& m = 34359738368) :
    Within m s (State.modNs x0 x1 a) := by
  refine Within.step (m := 34359738368) h ?_ hs
  unfold State.modNs
  with_reducible repeat' first | exact .refl | refine Within.modZpm ?_ rfl

theorem State.modUnit_in {x0 x1 x2 m s a} (h : Within m s a) (hs : 68719476736 &&& m = 68719476736) :
    Within m s (State.modUnit x0 x1 x2 a) := by
  refine Within.step (m := 68719476736) h ?_ hs
  unfold State.modUnit
  with_reducible repeat' first | exact .refl | refine Within.modMed ?_ rfl

theorem State.modNand_in {x0 x1 m s a} (h : Within m s a) (hs : 137438953472 &&& m = 137438953472) :
    Within m s (State.modNand x0 x1 a) := by
  refine Within.step (m := 137438953472) h ?_ hs
  unfold State.modNand
  with_reducible repeat' first | exact .refl | refine Within.modFch ?_ rfl

theorem State.modEng_in {x0 x1 m s a} (h : Within m s a) (hs : 549755813888 &&& m = 549755813888) :
    Within m s (State.modEng x0 x1 a) := by
  refine Within.step (m := 549755813888) h ?_ hs
  unfold State.modEng
  with_reducible repeat' first | exact .refl | (refine Within.modDrfEng ?_ ?_ ?_; rotate_left; with_unfolding_all (exact (fun _ => rfl); rfl))

theorem State.modMem_in {x0 x1 m s a} (h : Within m s a) (hs : 2199023255552 &&& m = 2199023255552) :
    Within m s (State.modMem x0 x1 a) := by
  refine Within.step (m := 2199023255552) h ?_ hs
  unfold State.modMem
  with_reducible repeat' first | exact .refl | refine Within.modMsh ?_ rfl

theorem State.modPos_in {x0 x1 x2 m s a} (h : Within m s a) (hs : 2199023255552 &&& m = 2199023255552) :
    Within m s (State.modPos x0 x1 x2 a) := by
  refine Within.step (m := 2199023255552) h ?_ hs
  unfold State.modPos
  with_reducible repeat' first | exact .refl | refine Within.modMsh ?_ rfl

theorem State.modTub_in {x0 x1 m s a} (h : Within m s a) (hs : 8796093022208 &&& m = 8796093022208) :
    Within m s (State.modTub x0 x1 a) := by
  refine Within.step (m := 8796093022208) h ?_ hs
  unfold State.modTub
  with_reducible repeat' first | exact .refl | refine Within.modTubs ?_ rfl

theorem State.submitHw_in {x0 x1 x2 m s a} (h : Within m s a) (hs : 549755813888 &&& m = 549755813888) :
    Within m s (State.submitHw x0 x1 x2 a) := by
  refine Within.step (m := 549755813888) h ?_ hs
  unfold State.submitHw
  with_reducible repeat' first | exact .refl | refine .ite ?_ ?_ | refine State.modEng_in ?_ rfl

/-! Views.lean -/

theorem State.setQueue_in {x0 x1 x2 m s a} (h : Within m s a) (hs : 549755813888 &&& m = 549755813888) :
    Within m s (State.setQueue x0 x1 x2 a) := by
  refine Within.step (m := 549755813888) h ?_ hs
  unfold State.setQueue
  with_reducible repeat' first | exact .refl | refine State.modEng_in ?_ rfl

/-! Flags.lean -/

theorem State.accessFault_in {x0 x1 x2 m s a} (h : Within m s a) (hs : 553648128 &&& m = 553648128) :
    Within m s (State.accessFault x0 x1 x2 a) := by
  refine Within.step (m := 553648128) h ?_ hs
  unfold State.accessFault; extract_lets
  with_reducible repeat' first | exact .refl | refine .ite ?_ ?_ | refine Within.setFldAt ?_ SYS_BUSERR.CAUSE_part rfl | refine Within.countAt ?_ SYS_BUSERR.COUNT_part rfl | refine Within.setFldAt ?_ SYS_BUSERR.MASTER_part rfl | refine Within.putAt ?_ SYS_BUSERR.VALID_part rfl | refine Within.setFldAt ?_ SYS_BUSERRA.ADDR_part rfl | (refine Within.modBusLast ?_ ?_ ?_; rotate_left; with_unfolding_all (exact (fun _ => rfl); rfl))

theorem State.ungate_in {x0 m s a} (h : Within m s a) (hs : 16777216 &&& m = 16777216) :
    Within m s (State.ungate x0 a) := by
  refine Within.step (m := 16777216) h ?_ hs
  unfold State.ungate
  with_reducible repeat' first | exact .refl | refine .ite ?_ ?_ | refine Within.setFldAt ?_ (PWR_DOM.STATE_part ..) rfl | split

theorem State.faultUnseen_in {x0 x1 m s a} (h : Within m s a) (hs : 536870912 &&& m = 536870912) :
    Within m s (State.faultUnseen x0 x1 a) := by
  refine Within.step (m := 536870912) h ?_ hs
  unfold State.faultUnseen
  with_reducible repeat' first | exact .refl | (refine Within.modBusLast ?_ ?_ ?_; rotate_left; with_unfolding_all (exact (fun _ => rfl); rfl))

theorem State.access_in {x0 x1 : Nat} {f : State → State} {n : Nat} {s a : State} (h : Within n s a)
    (hf : ∀ b, Within n b (f b)) (hs : 553648128 &&& n = 553648128) : Within n s (State.access x0 x1 f a) := by
  unfold State.access
  split
  · exact h
  · split
    · exact Within.ite (State.faultUnseen_in h (sub_trans (by decide) hs)) h
    · split
      · exact State.accessFault_in h hs
      · refine Within.trans ?_ (hf _)
        exact (State.ungate_in h (sub_trans (by decide) hs)).modBusLast (fun _ => rfl) (bit_of_sub hs (by decide))

theorem State.stageLow_in {x0 x1 x2 m s a} (h : Within m s a) (hs : 1073741824 &&& m = 1073741824) :
    Within m s (State.stageLow x0 x1 x2 a) := by
  refine Within.step (m := 1073741824) h ?_ hs
  unfold State.stageLow
  with_reducible repeat' first | exact .refl | (refine Within.modBusRest ?_ ?_ ?_; rotate_left; with_unfolding_all (exact (fun _ => ⟨rfl, rfl, rfl⟩); rfl))

theorem State.unstage_in {x0 x1 m s a} (h : Within m s a) (hs : 1073741824 &&& m = 1073741824) :
    Within m s (State.unstage x0 x1 a) := by
  refine Within.step (m := 1073741824) h ?_ hs
  unfold State.unstage
  with_reducible repeat' first | exact .refl | (refine Within.modBusRest ?_ ?_ ?_; rotate_left; with_unfolding_all (exact (fun _ => ⟨rfl, rfl, rfl⟩); rfl))

theorem State.clearHalves_in {x0 m s a} (h : Within m s a) (hs : 1073741824 &&& m = 1073741824) :
    Within m s (State.clearHalves x0 a) := by
  refine Within.step (m := 1073741824) h ?_ hs
  unfold State.clearHalves
  with_reducible repeat' first | exact .refl | (refine Within.modBusRest ?_ ?_ ?_; rotate_left; with_unfolding_all (exact (fun _ => ⟨rfl, rfl, rfl⟩); rfl))

theorem State.peekRead_in {x0 x1 m s a} (h : Within m s a) (hs : 553648128 &&& m = 553648128) :
    Within m s (State.peekRead x0 x1 a).2 := by
  refine Within.step (m := 553648128) h ?_ hs
  unfold State.peekRead; extract_lets
  with_reducible repeat' first | exact .refl | refine State.ungate_in ?_ rfl | refine State.accessFault_in ?_ rfl | split
theorem State.peekRead_in_eq {x0 x1} {m s a t v} (e : State.peekRead x0 x1 a = (v, t)) (h : Within m s a) (hs : 553648128 &&& m = 553648128) : Within m s t := by
  have k := State.peekRead_in (x0 := x0) (x1 := x1) h hs
  rw [e] at k; exact k

theorem State.eraseArea_in {x0 m s a} (h : Within m s a) (hs : 549755813888 &&& m = 549755813888) :
    Within m s (State.eraseArea x0 a) := by
  refine Within.step (m := 549755813888) h ?_ hs
  unfold State.eraseArea
  with_reducible repeat' first | exact .refl | refine .ite ?_ ?_ | refine State.submitHw_in ?_ rfl | extract_lets | dsimp +zetaDelta only

theorem State.flushPage_in {m s a} (h : Within m s a) (hs : 549755813888 &&& m = 549755813888) :
    Within m s (State.flushPage a) := by
  refine Within.step (m := 549755813888) h ?_ hs
  unfold State.flushPage; extract_lets
  with_reducible repeat' first | exact .refl | refine .ite ?_ ?_ | refine State.eraseArea_in ?_ rfl | refine State.submitHw_in ?_ rfl | extract_lets | dsimp +zetaDelta only

theorem State.startFlush_in {m s a} (h : Within m s a) (hs : 4504149399961600 &&& m = 4504149399961600) :
    Within m s (State.startFlush a) := by
  refine Within.step (m := 4504149399961600) h ?_ hs
  unfold State.startFlush; extract_lets
  with_reducible repeat' first | exact .refl | refine .ite ?_ ?_ | refine State.flushPage_in ?_ rfl | refine Within.putAt ?_ EVR_STAT.BUSY_part rfl | refine Within.putAt ?_ EVR_STAT.NOAREA_part rfl | refine Within.modEvr ?_ rfl

theorem State.flushWaiting_in {m s a} (h : Within m s a) (hs : 4504149399961600 &&& m = 4504149399961600) :
    Within m s (State.flushWaiting a) := by
  refine Within.step (m := 4504149399961600) h ?_ hs
  unfold State.flushWaiting
  with_reducible repeat' first | exact .refl | refine .ite ?_ ?_ | refine State.startFlush_in ?_ rfl | refine Within.modEvr ?_ rfl

theorem State.capture_in {x0 x1 m s a} (h : Within m s a) (hs : 553648128 &&& m = 553648128) :
    Within m s (State.capture x0 x1 a).2 := by
  induction x0 generalizing x1 s a m with
  | nil => exact h
  | cons b l ih =>
    refine Within.step (m := 553648128) h ?_ hs
    unfold State.capture; extract_lets
    with_reducible repeat' first | exact .refl | refine State.peekRead_in ?_ rfl | refine ih ?_ rfl
theorem State.capture_in_eq {x0 x1} {m s a t v} (e : State.capture x0 x1 a = (v, t)) (h : Within m s a) (hs : 553648128 &&& m = 553648128) : Within m s t := by
  have k := State.capture_in (x0 := x0) (x1 := x1) h hs
  rw [e] at k; exact k

theorem State.pushRecord_in {x0 m s a} (h : Within m s a) (hs : 4504149399961600 &&& m = 4504149399961600) :
    Within m s (State.pushRecord x0 a) := by
  refine Within.step (m := 4504149399961600) h ?_ hs
  unfold State.pushRecord; extract_lets
  with_reducible repeat' first | exact .refl | refine .ite ?_ ?_ | refine State.startFlush_in ?_ rfl | refine Within.modEvr ?_ rfl

theorem State.record_in {x0 x1 x2 x3 m s a} (h : Within m s a) (hs : 4504149936832512 &&& m = 4504149936832512) :
    Within m s (State.record x0 x1 x2 x3 a) := by
  refine Within.step (m := 4504149936832512) h ?_ hs
  unfold State.record; extract_lets
  with_reducible repeat' first | exact .refl | refine State.capture_in ?_ rfl | refine State.pushRecord_in ?_ rfl

theorem State.fire_in {x0 x1 x2 m s a} (h : Within m s a) (hs : 4504149936832512 &&& m = 4504149936832512) :
    Within m s (State.fire x0 x1 x2 a) := by
  refine Within.step (m := 4504149936832512) h ?_ hs
  unfold State.fire; extract_lets
  with_reducible repeat' first | exact .refl | refine .ite ?_ ?_ | refine State.record_in ?_ rfl | refine State.startFlush_in ?_ rfl | refine Within.countAt ?_ EVR_STAT.SUPP_part rfl | refine Within.modEvr ?_ rfl

theorem State.notifyEvent_in {x0 m s a} (h : Within m s a) (hs : 562949953421312 &&& m = 562949953421312) :
    Within m s (State.notifyEvent x0 a) := by
  refine Within.step (m := 562949953421312) h ?_ hs
  unfold State.notifyEvent; extract_lets
  with_reducible repeat' first | exact .refl | (refine Within.modMgtNotes ?_ ?_ ?_; rotate_left; with_unfolding_all (exact (fun _ => rfl); rfl))

theorem State.pendEvent_in {x0 m s a} (h : Within m s a) (hs : 5067099890253824 &&& m = 5067099890253824) :
    Within m s (State.pendEvent x0 a) := by
  refine Within.step (m := 5067099890253824) h ?_ hs
  unfold State.pendEvent; extract_lets
  with_reducible repeat' first | exact .refl | refine .ite ?_ ?_ | refine State.fire_in ?_ rfl | refine State.notifyEvent_in ?_ rfl | refine Within.putAt ?_ (EVT_SRC.OVF_part ..) rfl | refine Within.putAt ?_ (EVT_SRC.PEND_part ..) rfl | refine .each ?_ fun _ _ => ?_

theorem State.wakeIdle_in {m s a} (h : Within m s a) (hs : 5067099890253824 &&& m = 5067099890253824) :
    Within m s (State.wakeIdle a) := by
  refine Within.step (m := 5067099890253824) h ?_ hs
  unfold State.wakeIdle
  with_reducible repeat' first | exact .refl | refine .ite ?_ ?_ | refine State.pendEvent_in ?_ rfl | refine Within.setFldAt ?_ PWR_STAT.STATE_part rfl

theorem State.assertEvent_in {x0 m s a} (h : Within m s a) (hs : 5067099890253824 &&& m = 5067099890253824) :
    Within m s (State.assertEvent x0 a) := by
  refine Within.step (m := 5067099890253824) h ?_ hs
  unfold State.assertEvent
  with_reducible repeat' first | exact .refl | refine State.pendEvent_in ?_ rfl | refine State.wakeIdle_in ?_ rfl

theorem State.assertEvents_in {x0 m s a} (h : Within m s a) (hs : 5067099890253824 &&& m = 5067099890253824) :
    Within m s (State.assertEvents x0 a) := by
  refine Within.step (m := 5067099890253824) h ?_ hs
  unfold State.assertEvents
  with_reducible repeat' first | exact .refl | refine State.assertEvent_in ?_ rfl | refine .each ?_ fun _ _ => ?_

theorem State.assertIf_in {x0 x1 m s a} (h : Within m s a) (hs : 5067099890253824 &&& m = 5067099890253824) :
    Within m s (State.assertIf x0 x1 a) := by
  refine Within.step (m := 5067099890253824) h ?_ hs
  unfold State.assertIf
  with_reducible repeat' first | exact .refl | refine .ite ?_ ?_ | refine State.assertEvent_in ?_ rfl

theorem State.setVerdict_in {x0 m s a} (h : Within m s a) (hs : 9007199256838144 &&& m = 9007199256838144) :
    Within m s (State.setVerdict x0 a) := by
  refine Within.step (m := 9007199256838144) h ?_ hs
  unfold State.setVerdict
  with_reducible repeat' first | exact .refl | refine Within.setFldAt ?_ SAF_STAT.VERDICT_part rfl | refine Within.modSaf ?_ rfl

theorem State.noteError_in {x0 x1 x2 x3 m s a} (h : Within m s a) (hs : 14074299147091968 &&& m = 14074299147091968) :
    Within m s (State.noteError x0 x1 x2 x3 a) := by
  refine Within.step (m := 14074299147091968) h ?_ hs
  unfold State.noteError; extract_lets
  with_reducible repeat' first | exact .refl | refine .ite ?_ ?_ | refine State.setVerdict_in ?_ rfl | refine State.assertEvent_in ?_ rfl | refine Within.setFldAt ?_ SAF_FADDR.ADDR_part rfl | refine Within.setFldAt ?_ SAF_STAT.SEV_part rfl | refine Within.setFldAt ?_ SAF_STAT.TYPE_part rfl | refine Within.modSaf ?_ rfl

theorem State.endLoops_in {x0 x1 m s a} (h : Within m s a) (hs : 18014398513676288 &&& m = 18014398513676288) :
    Within m s (State.endLoops x0 x1 a) := by
  refine Within.step (m := 18014398513676288) h ?_ hs
  unfold State.endLoops
  with_reducible repeat' first | exact .refl | refine .ite ?_ ?_ | refine Within.setFldAt ?_ (TST_LBSTAT.REASON_part ..) rfl | refine Within.setFldAt ?_ (TST_LBSTAT.STATE_part ..) rfl | refine Within.modTst ?_ rfl | refine .each ?_ fun _ _ => ?_ | extract_lets | split

theorem State.endNetLoops_in {m s a} (h : Within m s a) (hs : 18014398513676288 &&& m = 18014398513676288) :
    Within m s (State.endNetLoops a) := by
  refine Within.step (m := 18014398513676288) h ?_ hs
  unfold State.endNetLoops
  with_reducible repeat' first | exact .refl | refine State.endLoops_in ?_ rfl

theorem State.sendMsix_in {x0 x1 m s a} (h : Within m s a) (hs : 8589934592 &&& m = 8589934592) :
    Within m s (State.sendMsix x0 x1 a) := by
  refine Within.step (m := 8589934592) h ?_ hs
  unfold State.sendMsix; extract_lets
  with_reducible repeat' first | exact .refl | refine .ite ?_ ?_ | refine State.modFn_in ?_ rfl | refine Within.modHfe ?_ rfl | extract_lets | dsimp +zetaDelta only

theorem State.postRaw_in {x0 m s a} (h : Within m s a) (hs : 2251808403619840 &&& m = 2251808403619840) :
    Within m s (State.postRaw x0 a) := by
  refine Within.step (m := 2251808403619840) h ?_ hs
  unfold State.postRaw; extract_lets
  with_reducible repeat' first | exact .refl | refine .ite ?_ ?_ | refine State.sendMsix_in ?_ rfl | refine Within.modTly ?_ rfl | refine Within.modHfe ?_ rfl | extract_lets | dsimp +zetaDelta only

theorem postAens_in {x0 x1 m s a} (h : Within m s a) (hs : 2251808403619840 &&& m = 2251808403619840) :
    Within m s (postAens x0 x1 a) := by
  induction x0 generalizing x1 s a m with
  | zero => exact h
  | succ n ih =>
    refine Within.step (m := 2251808403619840) h ?_ hs
    unfold postAens; extract_lets
    with_reducible repeat' first | exact .refl | refine .ite ?_ ?_ | refine State.postRaw_in ?_ rfl | refine State.modFn_in ?_ rfl | refine ih ?_ rfl | extract_lets | split

theorem State.raiseAen_in {x0 x1 x2 x3 m s a} (h : Within m s a) (hs : 2251808403619840 &&& m = 2251808403619840) :
    Within m s (State.raiseAen x0 x1 x2 x3 a) := by
  refine Within.step (m := 2251808403619840) h ?_ hs
  unfold State.raiseAen; extract_lets
  with_reducible repeat' first | exact .refl | refine .ite ?_ ?_ | refine State.modFn_in ?_ rfl | refine postAens_in ?_ rfl

theorem State.tally_in {x0 x1 m s a} (h : Within m s a) (hs : 2251799813685248 &&& m = 2251799813685248) :
    Within m s (State.tally x0 x1 a) := by
  refine Within.step (m := 2251799813685248) h ?_ hs
  unfold State.tally
  with_reducible repeat' first | exact .refl | refine Within.modTly ?_ rfl

end Sys2Proof.Machine
end

