-- ==== Sys2Proof/Laws/Frames1.lean ====
section
/-! SUPPORT. Laws/Frames1.lean: which parts of the state each operation of Machine/BellOps, MemOps, NvmeOps, ZoneOps, MediaOps, KilnOps, ReadOps, CmdOps, FnOps, RecOps, WorkOps may change (see Machine/Frame.lean); a generated list, one lemma an operation. -/

namespace Sys2Proof.Machine

/-! BellOps.lean -/

theorem State.nextEpoch_in {m s a} (h : Within m s a) (hs : 5067099890253826 &&& m = 5067099890253826) :
    Within m s (State.nextEpoch a) := by
  refine Within.step (m := 5067099890253826) h ?_ hs
  unfold State.nextEpoch
  with_reducible repeat' first | exact .refl | refine State.assertEvent_in ?_ rfl | refine Within.setFldAt ?_ BEL_STAT.EPOCH_part rfl

theorem State.marked_in {m s a} (h : Within m s a) (hs : 2 &&& m = 2) :
    Within m s (State.marked a) := by
  refine Within.step (m := 2) h ?_ hs
  unfold State.marked
  with_reducible repeat' first | exact .refl | refine Within.setFldAt ?_ BEL_STAT.MISSED_part rfl

theorem State.misplaced_in {m s a} (h : Within m s a) (hs : 5067099890253826 &&& m = 5067099890253826) :
    Within m s (State.misplaced a) := by
  refine Within.step (m := 5067099890253826) h ?_ hs
  unfold State.misplaced
  with_reducible repeat' first | exact .refl | refine State.assertEvent_in ?_ rfl | refine Within.countAt ?_ BEL_ERRCNT.MISPLACED_part rfl

theorem State.toLock_in {x0 m s a} (h : Within m s a) (hs : 2 &&& m = 2) :
    Within m s (State.toLock x0 a) := by
  refine Within.step (m := 2) h ?_ hs
  unfold State.toLock
  with_reducible repeat' first | exact .refl | refine Within.setFldAt ?_ BEL_STAT.LOCK_part rfl

theorem State.leaveLocked_in {x0 m s a} (h : Within m s a) (hs : 5067102037737474 &&& m = 5067102037737474) :
    Within m s (State.leaveLocked x0 a) := by
  refine Within.step (m := 5067102037737474) h ?_ hs
  unfold State.leaveLocked; extract_lets
  with_reducible repeat' first | exact .refl | refine State.nextEpoch_in ?_ rfl | refine Within.countAt ?_ BEL_ERRCNT.LOSSES_part rfl | refine Within.putAt ?_ BEL_STAT.DEGRADED_part rfl | refine Within.putAt ?_ BEL_STAT.FALLBACK_part rfl | refine Within.setFldAt ?_ BEL_STAT.LOCK_part rfl | refine Within.modBell ?_ rfl

theorem State.relockTo_in {x0 m s a} (h : Within m s a) (hs : 5067102037737474 &&& m = 5067102037737474) :
    Within m s (State.relockTo x0 a) := by
  refine Within.step (m := 5067102037737474) h ?_ hs
  unfold State.relockTo
  with_reducible repeat' first | exact .refl | refine .ite ?_ ?_ | refine State.leaveLocked_in ?_ rfl | refine State.toLock_in ?_ rfl

theorem State.applyMask_in {m s a} (h : Within m s a) (hs : 2147483650 &&& m = 2147483650) :
    Within m s (State.applyMask a) := by
  refine Within.step (m := 2147483650) h ?_ hs
  unfold State.applyMask; extract_lets
  with_reducible repeat' first | exact .refl | refine Within.putAt ?_ BEL_STAT.MASK_PEND_part rfl | refine Within.modBell ?_ rfl

theorem State.writeBudget_in {x0 x1 m s a} (h : Within m s a) (hs : 5067099890253826 &&& m = 5067099890253826) :
    Within m s (State.writeBudget x0 x1 a) := by
  refine Within.step (m := 5067099890253826) h ?_ hs
  unfold State.writeBudget
  with_reducible repeat' first | exact .refl | refine .ite ?_ ?_ | refine State.assertEvent_in ?_ rfl | refine Within.setFldAt ?_ BEL_BUDGET.BUDGET_part rfl | refine Within.setFldAt ?_ BEL_BUDGET.RESERVE_part rfl | refine Within.putAt ?_ BEL_STAT.MASK_PEND_part rfl

theorem State.writeSrc_in {x0 m s a} (h : Within m s a) (hs : 23081500551413762 &&& m = 23081500551413762) :
    Within m s (State.writeSrc x0 a) := by
  refine Within.step (m := 23081500551413762) h ?_ hs
  unfold State.writeSrc; extract_lets
  with_reducible repeat' first | exact .refl | refine .ite ?_ ?_ | refine State.endNetLoops_in ?_ rfl | refine State.relockTo_in ?_ rfl | refine Within.setFldAt ?_ BEL_CTRL.SRC_part rfl

theorem State.writePeriod_in {x0 m s a} (h : Within m s a) (hs : 2 &&& m = 2) :
    Within m s (State.writePeriod x0 a) := by
  refine Within.step (m := 2) h ?_ hs
  unfold State.writePeriod
  with_reducible repeat' first | exact .refl | refine .ite ?_ ?_ | refine Within.setFldAt ?_ BEL_CTRL.PERIOD_part rfl

theorem State.correct_in {x0 m s a} (h : Within m s a) (hs : 2147483650 &&& m = 2147483650) :
    Within m s (State.correct x0 a) := by
  refine Within.step (m := 2147483650) h ?_ hs
  unfold State.correct; extract_lets
  with_reducible repeat' first | exact .refl | refine State.marked_in ?_ rfl | refine Within.modBell ?_ rfl | extract_lets | dsimp +zetaDelta only

theorem State.swapPeriod_in {x0 m s a} (h : Within m s a) (hs : 2147483648 &&& m = 2147483648) :
    Within m s (State.swapPeriod x0 a) := by
  refine Within.step (m := 2147483648) h ?_ hs
  unfold State.swapPeriod; extract_lets
  with_reducible repeat' first | exact .refl | refine Within.modBell ?_ rfl | extract_lets | dsimp +zetaDelta only

theorem State.startFrame_in {m s a} (h : Within m s a) (hs : 5067102037737474 &&& m = 5067102037737474) :
    Within m s (State.startFrame a) := by
  refine Within.step (m := 5067102037737474) h ?_ hs
  unfold State.startFrame
  with_reducible repeat' first | exact .refl | refine .ite ?_ ?_ | refine State.nextEpoch_in ?_ rfl | refine Within.modBell ?_ rfl | split

theorem State.frameBell_in {m s a} (h : Within m s a) (hs : 5067102037737474 &&& m = 5067102037737474) :
    Within m s (State.frameBell a) := by
  refine Within.step (m := 5067102037737474) h ?_ hs
  unfold State.frameBell; extract_lets
  with_reducible repeat' first | exact .refl | refine .ite ?_ ?_ | refine State.toLock_in ?_ rfl | refine State.leaveLocked_in ?_ rfl | refine State.applyMask_in ?_ rfl | refine Within.modBell ?_ rfl

theorem State.enterLocked_in {m s a} (h : Within m s a) (hs : 5067102037737474 &&& m = 5067102037737474) :
    Within m s (State.enterLocked a) := by
  refine Within.step (m := 5067102037737474) h ?_ hs
  unfold State.enterLocked; extract_lets
  with_reducible repeat' first | exact .refl | refine State.nextEpoch_in ?_ rfl | refine State.assertEvent_in ?_ rfl | refine State.applyMask_in ?_ rfl | refine State.marked_in ?_ rfl | refine Within.putAt ?_ BEL_STAT.DEGRADED_part rfl | refine Within.putAt ?_ BEL_STAT.FALLBACK_part rfl | refine Within.setFldAt ?_ BEL_STAT.LOCK_part rfl | refine Within.modBell ?_ rfl

theorem State.frameMark_in {x0 m s a} (h : Within m s a) (hs : 5067102037737474 &&& m = 5067102037737474) :
    Within m s (State.frameMark x0 a).state := by
  refine Within.step (m := 5067102037737474) h ?_ hs
  unfold State.frameMark; extract_lets
  with_reducible repeat' first | exact .refl | refine .ite ?_ ?_ | refine State.correct_in ?_ rfl | refine State.toLock_in ?_ rfl | refine State.leaveLocked_in ?_ rfl | refine State.misplaced_in ?_ rfl | refine State.enterLocked_in ?_ rfl | refine State.assertEvent_in ?_ rfl | refine State.marked_in ?_ rfl | refine State.swapPeriod_in ?_ rfl | refine Within.modBell ?_ rfl | split

theorem State.slotMark_in {x0 m s a} (h : Within m s a) (hs : 5067102037737474 &&& m = 5067102037737474) :
    Within m s (State.slotMark x0 a) := by
  refine Within.step (m := 5067102037737474) h ?_ hs
  unfold State.slotMark
  with_reducible repeat' first | exact .refl | refine .ite ?_ ?_ | refine State.correct_in ?_ rfl | refine State.toLock_in ?_ rfl | refine State.misplaced_in ?_ rfl | refine State.marked_in ?_ rfl | refine Within.modBell ?_ rfl

theorem State.missingSlot_in {m s a} (h : Within m s a) (hs : 7318901851422722 &&& m = 7318901851422722) :
    Within m s (State.missingSlot a) := by
  refine Within.step (m := 7318901851422722) h ?_ hs
  unfold State.missingSlot; extract_lets
  with_reducible repeat' first | exact .refl | refine .ite ?_ ?_ | refine State.tally_in ?_ rfl | refine State.toLock_in ?_ rfl | refine State.leaveLocked_in ?_ rfl | refine State.assertEvent_in ?_ rfl | refine Within.countAt ?_ BEL_STAT.MISSED_part rfl | refine Within.modBell ?_ rfl

theorem State.acctAdd_in {x0 m s a} (h : Within m s a) (hs : 2 &&& m = 2) :
    Within m s (State.acctAdd x0 a) := by
  refine Within.step (m := 2) h ?_ hs
  unfold State.acctAdd; extract_lets
  with_reducible repeat' first | exact .refl | refine Within.setFldAt ?_ BEL_ACCT.ACCOUNT_part rfl | refine Within.setFldAt ?_ BEL_ACCT.PEAK_part rfl

theorem State.acctSub_in {x0 m s a} (h : Within m s a) (hs : 2 &&& m = 2) :
    Within m s (State.acctSub x0 a) := by
  refine Within.step (m := 2) h ?_ hs
  unfold State.acctSub
  with_reducible repeat' first | exact .refl | refine Within.setFldAt ?_ BEL_ACCT.ACCOUNT_part rfl

theorem State.modeCommand_in {x0 m s a} (h : Within m s a) (hs : 2147483650 &&& m = 2147483650) :
    Within m s (State.modeCommand x0 a) := by
  refine Within.step (m := 2147483650) h ?_ hs
  unfold State.modeCommand; extract_lets
  with_reducible repeat' first | exact .refl | refine .ite ?_ ?_ | refine Within.setFldAt ?_ BEL_MODE_CMD.ANY_part rfl | refine Within.setFldAt ?_ BEL_MODE_CMD.AT_SLOT_part rfl | refine Within.setFldAt ?_ BEL_MODE_CMD.ROLLBACK_part rfl | refine Within.putAt ?_ BEL_MODE_STAT.PENDING_part rfl | refine Within.putAt ?_ BEL_MODE_STAT.REJECTED_part rfl | refine Within.modBell ?_ rfl

theorem State.modeCommit_in {x0 x1 m s a} (h : Within m s a) (hs : 2147483650 &&& m = 2147483650) :
    Within m s (State.modeCommit x0 x1 a) := by
  refine Within.step (m := 2147483650) h ?_ hs
  unfold State.modeCommit; extract_lets
  with_reducible repeat' first | exact .refl | refine Within.setFldAt ?_ BEL_MODE_STAT.EPOCH_part rfl | refine Within.setFldAt ?_ BEL_MODE_STAT.STATE_part rfl | refine Within.modBell ?_ rfl

theorem State.modeSettle_in {m s a} (h : Within m s a) (hs : 5067099890253826 &&& m = 5067099890253826) :
    Within m s (State.modeSettle a) := by
  refine Within.step (m := 5067099890253826) h ?_ hs
  unfold State.modeSettle
  with_reducible repeat' first | exact .refl | refine .ite ?_ ?_ | refine State.assertEvent_in ?_ rfl | refine Within.setFldAt ?_ BEL_MODE_STAT.STATE_part rfl

theorem State.applyMode_in {x0 m s a} (h : Within m s a) (hs : 140737488487296 &&& m = 140737488487296) :
    Within m s (State.applyMode x0 a) := by
  refine Within.step (m := 140737488487296) h ?_ hs
  unfold State.applyMode; extract_lets
  with_reducible repeat' first | exact .refl | refine .ite ?_ ?_ | refine Within.setFldAt ?_ (DRF_STAT.EPOCH_part ..) rfl | refine Within.putAt ?_ ECC_STAT.MODE_part rfl | refine Within.setFldAt ?_ (FCH_GSTAT.EPOCH_part ..) rfl | refine Within.putAt ?_ (FCH_GSTAT.SET_part ..) rfl | refine Within.setFldAt ?_ THM_STAT.EPOCH_part rfl | refine Within.modPow ?_ rfl

theorem State.reportUnit_in {x0 m s a} (h : Within m s a) (hs : 5207839526224770 &&& m = 5207839526224770) :
    Within m s (State.reportUnit x0 a) := by
  refine Within.step (m := 5207839526224770) h ?_ hs
  unfold State.reportUnit
  with_reducible repeat' first | exact .refl | refine .ite ?_ ?_ | refine State.modeSettle_in ?_ rfl | refine State.applyMode_in ?_ rfl | refine Within.modBell ?_ rfl

theorem State.unfenceUnit_in {x0 m s a} (h : Within m s a) (hs : 5207839526224770 &&& m = 5207839526224770) :
    Within m s (State.unfenceUnit x0 a) := by
  refine Within.step (m := 5207839526224770) h ?_ hs
  unfold State.unfenceUnit
  with_reducible repeat' first | exact .refl | refine State.applyMode_in ?_ rfl | refine State.modeSettle_in ?_ rfl | refine Within.modBell ?_ rfl

theorem State.modeLag_in {x0 m s a} (h : Within m s a) (hs : 2147483650 &&& m = 2147483650) :
    Within m s (State.modeLag x0 a) := by
  refine Within.step (m := 2147483650) h ?_ hs
  unfold State.modeLag; extract_lets
  with_reducible repeat' first | exact .refl | refine Within.setFldAt ?_ (BEL_MODE_LAG.UNITS_part ..) rfl | refine Within.countAt ?_ BEL_MODE_STAT.LAGGARDS_part rfl | refine Within.modBell ?_ rfl

theorem State.modeClearLag_in {m s a} (h : Within m s a) (hs : 2 &&& m = 2) :
    Within m s (State.modeClearLag a) := by
  refine Within.step (m := 2) h ?_ hs
  unfold State.modeClearLag
  with_reducible repeat' first | exact .refl | refine Within.setFldAt ?_ (BEL_MODE_LAG.UNITS_part ..) rfl | refine Within.setFldAt ?_ BEL_MODE_STAT.LAGGARDS_part rfl | refine .each ?_ fun _ _ => ?_

theorem State.mirrorPowerUp_in {m s a} (h : Within m s a) (hs : 8388608 &&& m = 8388608) :
    Within m s (State.mirrorPowerUp a) := by
  refine Within.step (m := 8388608) h ?_ hs
  unfold State.mirrorPowerUp; extract_lets
  with_reducible repeat' first | exact .refl | refine Within.setFldAt ?_ (AON_RET.WORD_part ..) rfl

theorem State.startPowerUp_in {x0 m s a} (h : Within m s a) (hs : 2147483648 &&& m = 2147483648) :
    Within m s (State.startPowerUp x0 a) := by
  refine Within.step (m := 2147483648) h ?_ hs
  unfold State.startPowerUp; extract_lets
  with_reducible repeat' first | exact .refl | refine Within.modBell ?_ rfl | extract_lets | dsimp +zetaDelta only

/-! MemOps.lean -/

theorem State.breakResv_in {x0 x1 m s a} (h : Within m s a) (hs : 1073741824 &&& m = 1073741824) :
    Within m s (State.breakResv x0 x1 a) := by
  refine Within.step (m := 1073741824) h ?_ hs
  unfold State.breakResv
  with_reducible repeat' first | exact .refl | (refine Within.modBusRest ?_ ?_ ?_; rotate_left; with_unfolding_all (exact (fun _ => ⟨rfl, rfl, rfl⟩); rfl))

theorem State.storeBytes_in {x0 x1 x2 x3 m s a} (h : Within m s a) (hs : 1342177280 &&& m = 1342177280) :
    Within m s (State.storeBytes x0 x1 x2 x3 a) := by
  refine Within.step (m := 1342177280) h ?_ hs
  unfold State.storeBytes
  with_reducible repeat' first | exact .refl | refine State.breakResv_in ?_ rfl | refine State.setBytes_in ?_ rfl

theorem State.store_in {x0 x1 x2 x3 m s a} (h : Within m s a) (hs : 1342177280 &&& m = 1342177280) :
    Within m s (State.store x0 x1 x2 x3 a) := by
  refine Within.step (m := 1342177280) h ?_ hs
  unfold State.store
  with_reducible repeat' first | exact .refl | refine State.storeBytes_in ?_ rfl

theorem State.returns_in {x0 x1 m s a} (h : Within m s a) (hs : 536870912 &&& m = 536870912) :
    Within m s (State.returns x0 x1 a) := by
  refine Within.step (m := 536870912) h ?_ hs
  unfold State.returns
  with_reducible repeat' first | exact .refl | (refine Within.modBusLast ?_ ?_ ?_; rotate_left; with_unfolding_all (exact (fun _ => rfl); rfl))

theorem State.returnPair_in {x0 x1 x2 m s a} (h : Within m s a) (hs : 1610612736 &&& m = 1610612736) :
    Within m s (State.returnPair x0 x1 x2 a) := by
  refine Within.step (m := 1610612736) h ?_ hs
  unfold State.returnPair
  with_reducible repeat' first | exact .refl | refine State.returns_in ?_ rfl | (refine Within.modBusRest ?_ ?_ ?_; rotate_left; with_unfolding_all (exact (fun _ => ⟨rfl, rfl, rfl⟩); rfl))

theorem State.granted_in {x0 x1 m s a} (h : Within m s a) (hs : 17592186044416 &&& m = 17592186044416) :
    Within m s (State.granted x0 x1 a) := by
  refine Within.step (m := 17592186044416) h ?_ hs
  unfold State.granted
  with_reducible repeat' first | exact .refl | refine .ite ?_ ?_ | refine Within.modMemc ?_ rfl

theorem State.amo_in {x0 x1 x2 x3 x4 m s a} (h : Within m s a) (hs : 17594081869824 &&& m = 17594081869824) :
    Within m s (State.amo x0 x1 x2 x3 x4 a) := by
  refine Within.step (m := 17594081869824) h ?_ hs
  unfold State.amo; extract_lets
  with_reducible repeat' first | exact .refl | refine .ite ?_ ?_ | refine State.returns_in ?_ rfl | refine State.granted_in ?_ rfl | refine State.accessFault_in ?_ rfl | refine State.store_in ?_ rfl | refine State.ungate_in ?_ rfl | split

theorem State.loadReserve_in {x0 x1 x2 m s a} (h : Within m s a) (hs : 17593813434368 &&& m = 17593813434368) :
    Within m s (State.loadReserve x0 x1 x2 a) := by
  refine Within.step (m := 17593813434368) h ?_ hs
  unfold State.loadReserve; extract_lets
  with_reducible repeat' first | exact .refl | refine State.returns_in ?_ rfl | refine State.ungate_in ?_ rfl | refine State.granted_in ?_ rfl | refine State.accessFault_in ?_ rfl | (refine Within.modBusRest ?_ ?_ ?_; rotate_left; with_unfolding_all (exact (fun _ => ⟨rfl, rfl, rfl⟩); rfl)) | split

theorem State.storeCond_in {x0 x1 x2 x3 m s a} (h : Within m s a) (hs : 17594081869824 &&& m = 17594081869824) :
    Within m s (State.storeCond x0 x1 x2 x3 a) := by
  refine Within.step (m := 17594081869824) h ?_ hs
  unfold State.storeCond; extract_lets
  with_reducible repeat' first | exact .refl | refine .ite ?_ ?_ | refine State.returns_in ?_ rfl | refine State.store_in ?_ rfl | refine State.ungate_in ?_ rfl | refine State.granted_in ?_ rfl | refine State.accessFault_in ?_ rfl | (refine Within.modBusRest ?_ ?_ ?_; rotate_left; with_unfolding_all (exact (fun _ => ⟨rfl, rfl, rfl⟩); rfl)) | split

theorem State.parityError_in {x0 x1 x2 m s a} (h : Within m s a) (hs : 5084692076306432 &&& m = 5084692076306432) :
    Within m s (State.parityError x0 x1 x2 a) := by
  refine Within.step (m := 5084692076306432) h ?_ hs
  unfold State.parityError; extract_lets
  with_reducible repeat' first | exact .refl | refine .ite ?_ ?_ | refine State.assertEvent_in ?_ rfl | refine Within.setFldAt ?_ MEM_PARADDR.ADDR_LO_part rfl | refine Within.setFldAt ?_ MEM_PARERR.ADDR_HI_part rfl | refine Within.setFldAt ?_ MEM_PARERR.BYTES_part rfl | refine Within.setFldAt ?_ MEM_PARERR.MASTER_part rfl | refine Within.putAt ?_ MEM_PARERR.VALID_part rfl | refine Within.countAt ?_ MEM_STAT.PARCNT_part rfl | refine Within.modMemc ?_ rfl

theorem State.writeMemCtrl_in {x0 m s a} (h : Within m s a) (hs : 5084692076306432 &&& m = 5084692076306432) :
    Within m s (State.writeMemCtrl x0 a) := by
  refine Within.step (m := 5084692076306432) h ?_ hs
  unfold State.writeMemCtrl; extract_lets
  with_reducible repeat' first | exact .refl | refine .ite ?_ ?_ | refine State.assertEvent_in ?_ rfl | refine Within.putAt ?_ MEM_CTRL.LEGACY_part rfl | refine Within.putAt ?_ MEM_CTRL.LOCK_part rfl | refine Within.putAt ?_ MEM_STAT.LOCKERR_part rfl | refine Within.modMemc ?_ rfl

theorem State.writeBank_in {x0 x1 m s a} (h : Within m s a) (hs : 8192 &&& m = 8192) :
    Within m s (State.writeBank x0 x1 a) := by
  refine Within.step (m := 8192) h ?_ hs
  unfold State.writeBank
  with_reducible repeat' first | exact .refl | refine .ite ?_ ?_ | refine Within.setFldAt ?_ (MEM_BANKASN.OWNER_part ..) rfl

theorem State.retireRow_in {x0 x1 m s a} (h : Within m s a) (hs : 5084692076306432 &&& m = 5084692076306432) :
    Within m s (State.retireRow x0 x1 a) := by
  refine Within.step (m := 5084692076306432) h ?_ hs
  unfold State.retireRow
  with_reducible repeat' first | exact .refl | refine .ite ?_ ?_ | refine State.assertEvent_in ?_ rfl | refine Within.setFldAt ?_ (MEM_BANKASN.SPARE_part ..) rfl | refine Within.putAt ?_ MEM_STAT.RETERR_part rfl | refine Within.modMemc ?_ rfl

theorem State.writeRetire_in {x0 m s a} (h : Within m s a) (hs : 5084692076306432 &&& m = 5084692076306432) :
    Within m s (State.writeRetire x0 a) := by
  refine Within.step (m := 5084692076306432) h ?_ hs
  unfold State.writeRetire; extract_lets
  with_reducible repeat' first | exact .refl | refine .ite ?_ ?_ | refine State.retireRow_in ?_ rfl | refine Within.setFldAt ?_ MEM_RETIRE.BANK_part rfl | refine Within.setFldAt ?_ MEM_RETIRE.ROW_part rfl

theorem State.setTubQueue_in {x0 x1 m s a} (h : Within m s a) (hs : 8796093022208 &&& m = 8796093022208) :
    Within m s (State.setTubQueue x0 x1 a) := by
  refine Within.step (m := 8796093022208) h ?_ hs
  unfold State.setTubQueue
  with_reducible repeat' first | exact .refl | refine Within.modTubs ?_ rfl

theorem State.linkTubs_in {x0 : Nat} {x1 : Bool} {x2 : List Nat} {m : Nat} {s a : State} (h : Within m s a)
    (hs : 8796093022208 &&& m = 8796093022208) : Within m s (State.linkTubs x0 x1 x2 a) := by
  refine Within.step (m := 8796093022208) h ?_ hs
  clear h
  fun_induction State.linkTubs x0 x1 x2 a with
  | case1 => exact Within.refl
  | case2 => exact State.modTub_in Within.refl rfl
  | case3 _ _ _ _ _ ih => exact (State.modTub_in Within.refl rfl).trans ih

theorem State.grantTubs_in {x0 m s a} (h : Within m s a) (hs : 2260595906711552 &&& m = 2260595906711552) :
    Within m s (State.grantTubs x0 a) := by
  refine Within.step (m := 2260595906711552) h ?_ hs
  unfold State.grantTubs; extract_lets
  with_reducible repeat' first | exact .refl | refine .ite ?_ ?_ | refine State.modTub_in ?_ rfl | refine State.tally_in ?_ rfl | refine State.linkTubs_in ?_ rfl | refine Within.setFldAt ?_ (TUB_RES.HEAD_part ..) rfl | refine Within.setFldAt ?_ (TUB_RES.STATE_part ..) rfl | refine Within.modTubs ?_ rfl | extract_lets | split | dsimp +zetaDelta only

theorem State.tubWaits_in {x0 m s a} (h : Within m s a) (hs : 5075895983280128 &&& m = 5075895983280128) :
    Within m s (State.tubWaits x0 a) := by
  refine Within.step (m := 5075895983280128) h ?_ hs
  unfold State.tubWaits
  with_reducible repeat' first | exact .refl | refine .ite ?_ ?_ | refine State.assertEvent_in ?_ rfl | refine Within.countAt ?_ TUB_WAITCNT.COUNT_part rfl | refine Within.modTubs ?_ rfl

theorem State.rotateTubs_in {x0 x1 m s a} (h : Within m s a) (hs : 8796093022208 &&& m = 8796093022208) :
    Within m s (State.rotateTubs x0 x1 a) := by
  refine Within.step (m := 8796093022208) h ?_ hs
  unfold State.rotateTubs
  with_reducible repeat' first | exact .refl | refine Within.modTubs ?_ rfl

theorem State.requestTubs_in {x0 m s a} (h : Within m s a) (hs : 7327695796965376 &&& m = 7327695796965376) :
    Within m s (State.requestTubs x0 a) := by
  refine Within.step (m := 7327695796965376) h ?_ hs
  unfold State.requestTubs; extract_lets
  with_reducible repeat' first | exact .refl | refine .ite ?_ ?_ | refine State.tubWaits_in ?_ rfl | refine State.rotateTubs_in ?_ rfl | refine State.setTubQueue_in ?_ rfl | refine State.grantTubs_in ?_ rfl | refine Within.setFldAt ?_ (TUB_RES.STATE_part ..) rfl

theorem State.grantCovered_in {x0 x1 m s a} (h : Within m s a) (hs : 2260595906711552 &&& m = 2260595906711552) :
    Within m s (State.grantCovered x0 x1 a) := by
  induction x1 generalizing x0 s a m with
  | zero => exact h
  | succ n ih =>
    refine Within.step (m := 2260595906711552) h ?_ hs
    unfold State.grantCovered
    with_reducible repeat' first | exact .refl | refine State.grantTubs_in ?_ rfl | refine State.setTubQueue_in ?_ rfl | refine ih ?_ rfl | split

theorem State.serveHead_in {x0 m s a} (h : Within m s a) (hs : 2260595906711552 &&& m = 2260595906711552) :
    Within m s (State.serveHead x0 a) := by
  refine Within.step (m := 2260595906711552) h ?_ hs
  unfold State.serveHead
  with_reducible repeat' first | exact .refl | refine .ite ?_ ?_ | refine State.setTubQueue_in ?_ rfl | refine State.grantTubs_in ?_ rfl | split

theorem State.releaseTubs_in {x0 m s a} (h : Within m s a) (hs : 2260595906711552 &&& m = 2260595906711552) :
    Within m s (State.releaseTubs x0 a) := by
  refine Within.step (m := 2260595906711552) h ?_ hs
  unfold State.releaseTubs; extract_lets
  with_reducible repeat' first | exact .refl | refine State.grantCovered_in ?_ rfl | refine Within.modTubs ?_ rfl

theorem State.releaseError_in {m s a} (h : Within m s a) (hs : 5067099890257920 &&& m = 5067099890257920) :
    Within m s (State.releaseError a) := by
  refine Within.step (m := 5067099890257920) h ?_ hs
  unfold State.releaseError
  with_reducible repeat' first | exact .refl | refine State.assertEvent_in ?_ rfl | refine Within.putAt ?_ TUB_STAT.RELERR_part rfl

theorem State.freeChain_in {x0 x1 m s a} (h : Within m s a) (hs : 7327695796965376 &&& m = 7327695796965376) :
    Within m s (State.freeChain x0 x1 a) := by
  refine Within.step (m := 7327695796965376) h ?_ hs
  unfold State.freeChain
  with_reducible repeat' first | exact .refl | refine .ite ?_ ?_ | refine State.releaseError_in ?_ rfl | refine State.releaseTubs_in ?_ rfl

theorem State.trimChain_in {x0 x1 m s a} (h : Within m s a) (hs : 7327695796965376 &&& m = 7327695796965376) :
    Within m s (State.trimChain x0 x1 a) := by
  refine Within.step (m := 7327695796965376) h ?_ hs
  unfold State.trimChain; extract_lets
  with_reducible repeat' first | exact .refl | refine .ite ?_ ?_ | refine State.modTub_in ?_ rfl | refine State.releaseError_in ?_ rfl | refine State.releaseTubs_in ?_ rfl

theorem State.askTubs_in {x0 m s a} (h : Within m s a) (hs : 7327695796965376 &&& m = 7327695796965376) :
    Within m s (State.askTubs x0 a) := by
  refine Within.step (m := 7327695796965376) h ?_ hs
  unfold State.askTubs; extract_lets
  with_reducible repeat' first | exact .refl | refine .ite ?_ ?_ | refine State.requestTubs_in ?_ rfl | refine Within.setFldAt ?_ (TUB_RES.STATE_part ..) rfl

theorem State.writeTubReq_in {x0 x1 x2 m s a} (h : Within m s a) (hs : 7327695796965376 &&& m = 7327695796965376) :
    Within m s (State.writeTubReq x0 x1 x2 a) := by
  refine Within.step (m := 7327695796965376) h ?_ hs
  unfold State.writeTubReq; extract_lets
  with_reducible repeat' first | exact .refl | refine .ite ?_ ?_ | refine State.askTubs_in ?_ rfl | refine Within.setFldAt ?_ (TUB_RES.STATE_part ..) rfl

theorem State.writeTubRel_in {x0 x1 m s a} (h : Within m s a) (hs : 7327695796965376 &&& m = 7327695796965376) :
    Within m s (State.writeTubRel x0 x1 a) := by
  refine Within.step (m := 7327695796965376) h ?_ hs
  unfold State.writeTubRel
  with_reducible repeat' first | exact .refl | refine .ite ?_ ?_ | refine State.freeChain_in ?_ rfl | refine State.trimChain_in ?_ rfl

theorem State.writeTubUse_in {x0 x1 m s a} (h : Within m s a) (hs : 8796093026304 &&& m = 8796093026304) :
    Within m s (State.writeTubUse x0 x1 a) := by
  refine Within.step (m := 8796093026304) h ?_ hs
  unfold State.writeTubUse
  with_reducible repeat' first | exact .refl | refine .ite ?_ ?_ | refine State.modTub_in ?_ rfl | refine Within.putAt ?_ TUB_STAT.OWNERR_part rfl

theorem State.writeTubWin_in {x0 x1 x2 m s a} (h : Within m s a) (hs : 8796093026304 &&& m = 8796093026304) :
    Within m s (State.writeTubWin x0 x1 x2 a) := by
  refine Within.step (m := 8796093026304) h ?_ hs
  unfold State.writeTubWin; extract_lets
  with_reducible repeat' first | exact .refl | refine .ite ?_ ?_ | refine Within.putAt ?_ TUB_STAT.OWNERR_part rfl | refine Within.modTubs ?_ rfl

theorem State.reclaimTubs_in {x0 m s a} (h : Within m s a) (hs : 7327695796965376 &&& m = 7327695796965376) :
    Within m s (State.reclaimTubs x0 a) := by
  refine Within.step (m := 7327695796965376) h ?_ hs
  unfold State.reclaimTubs; extract_lets
  with_reducible repeat' first | exact .refl | refine .ite ?_ ?_ | refine State.assertEvent_in ?_ rfl | refine State.releaseTubs_in ?_ rfl | extract_lets | dsimp +zetaDelta only

theorem State.enableTubs_in {m s a} (h : Within m s a) (hs : 7327695796965376 &&& m = 7327695796965376) :
    Within m s (State.enableTubs a) := by
  refine Within.step (m := 7327695796965376) h ?_ hs
  unfold State.enableTubs
  with_reducible repeat' first | exact .refl | refine .ite ?_ ?_ | refine State.grantCovered_in ?_ rfl | refine State.assertEvent_in ?_ rfl | refine Within.putAt ?_ TUB_CTRL.EN_part rfl | refine Within.putAt ?_ TUB_STAT.ENERR_part rfl | refine Within.modTubs ?_ rfl | extract_lets | dsimp +zetaDelta only

/-! NvmeOps.lean -/

theorem State.modPort_in {x0 x1 m s a} (h : Within m s a) (hs : 4294967296 &&& m = 4294967296) :
    Within m s (State.modPort x0 x1 a) := by
  refine Within.step (m := 4294967296) h ?_ hs
  unfold State.modPort
  with_reducible repeat' first | exact .refl | refine Within.modPci ?_ rfl

theorem State.logAer_in {x0 x1 m s a} (h : Within m s a) (hs : 8589934592 &&& m = 8589934592) :
    Within m s (State.logAer x0 x1 a) := by
  refine Within.step (m := 8589934592) h ?_ hs
  unfold State.logAer
  with_reducible repeat' first | exact .refl | refine State.modFn_in ?_ rfl

theorem State.logUnsupported_in {x0 m s a} (h : Within m s a) (hs : 5067108547297280 &&& m = 5067108547297280) :
    Within m s (State.logUnsupported x0 a) := by
  refine Within.step (m := 5067108547297280) h ?_ hs
  unfold State.logUnsupported; extract_lets
  with_reducible repeat' first | exact .refl | refine .ite ?_ ?_ | refine State.assertEvent_in ?_ rfl | refine State.tookFree_in ?_ rfl | refine State.logAer_in ?_ rfl | refine State.modFn_in ?_ rfl | extract_lets | dsimp +zetaDelta only

theorem State.setDa_in {x0 m s a} (h : Within m s a) (hs : 8589934600 &&& m = 8589934600) :
    Within m s (State.setDa x0 a) := by
  refine Within.step (m := 8589934600) h ?_ hs
  unfold State.setDa; extract_lets
  with_reducible repeat' first | exact .refl | refine .ite ?_ ?_ | refine Within.putAt ?_ HFE_CTRL.DA_part rfl | refine Within.modHfe ?_ rfl | extract_lets | dsimp +zetaDelta only

theorem State.setTail_in {x0 x1 x2 m s a} (h : Within m s a) (hs : 5348583456899072 &&& m = 5348583456899072) :
    Within m s (State.setTail x0 x1 x2 a) := by
  refine Within.step (m := 5348583456899072) h ?_ hs
  unfold State.setTail; extract_lets
  with_reducible repeat' first | exact .refl | refine .ite ?_ ?_ | refine State.assertEvent_in ?_ rfl | refine State.modFn_in ?_ rfl | refine State.setDict_in ?_ rfl | refine Within.modHfe ?_ rfl | extract_lets | dsimp +zetaDelta only

theorem State.modSq_in {x0 x1 x2 m s a} (h : Within m s a) (hs : 8589934592 &&& m = 8589934592) :
    Within m s (State.modSq x0 x1 x2 a) := by
  refine Within.step (m := 8589934592) h ?_ hs
  unfold State.modSq
  with_reducible repeat' first | exact .refl | refine Within.modHfe ?_ rfl

theorem State.modCq_in {x0 x1 x2 m s a} (h : Within m s a) (hs : 8589934592 &&& m = 8589934592) :
    Within m s (State.modCq x0 x1 x2 a) := by
  refine Within.step (m := 8589934592) h ?_ hs
  unfold State.modCq
  with_reducible repeat' first | exact .refl | refine Within.modHfe ?_ rfl

theorem State.setOrdered_in {x0 x1 x2 x3 m s a} (h : Within m s a) (hs : 8589934592 &&& m = 8589934592) :
    Within m s (State.setOrdered x0 x1 x2 x3 a) := by
  refine Within.step (m := 8589934592) h ?_ hs
  unfold State.setOrdered; extract_lets
  with_reducible repeat' first | exact .refl | refine .ite ?_ ?_ | refine State.modSq_in ?_ rfl | refine Within.modHfe ?_ rfl | extract_lets | dsimp +zetaDelta only

theorem State.modCmd_in {x0 x1 m s a} (h : Within m s a) (hs : 8589934592 &&& m = 8589934592) :
    Within m s (State.modCmd x0 x1 a) := by
  refine Within.step (m := 8589934592) h ?_ hs
  unfold State.modCmd
  with_reducible repeat' first | exact .refl | refine Within.modHfe ?_ rfl

theorem State.postCmd_in {x0 x1 m s a} (h : Within m s a) (hs : 2251808403619840 &&& m = 2251808403619840) :
    Within m s (State.postCmd x0 x1 a) := by
  refine Within.step (m := 2251808403619840) h ?_ hs
  unfold State.postCmd; extract_lets
  with_reducible repeat' first | exact .refl | refine .ite ?_ ?_ | refine State.tally_in ?_ rfl | refine State.modFn_in ?_ rfl | refine State.postRaw_in ?_ rfl | refine Within.modHfe ?_ rfl

theorem State.drain_in {x0 m s a} (h : Within m s a) (hs : 2251808403619840 &&& m = 2251808403619840) :
    Within m s (State.drain x0 a) := by
  induction x0 generalizing s a m with
  | zero => exact h
  | succ n ih =>
    refine Within.step (m := 2251808403619840) h ?_ hs
    unfold State.drain
    with_reducible repeat' first | exact .refl | refine State.postCmd_in ?_ rfl | refine ih ?_ rfl | split

theorem State.postAll_in {m s a} (h : Within m s a) (hs : 2251808403619840 &&& m = 2251808403619840) :
    Within m s (State.postAll a) := by
  refine Within.step (m := 2251808403619840) h ?_ hs
  unfold State.postAll
  with_reducible repeat' first | exact .refl | refine State.drain_in ?_ rfl

theorem State.outcome_in {x0 x1 m s a} (h : Within m s a) (hs : 8589934592 &&& m = 8589934592) :
    Within m s (State.outcome x0 x1 a) := by
  refine Within.step (m := 8589934592) h ?_ hs
  unfold State.outcome
  with_reducible repeat' first | exact .refl | refine State.modCmd_in ?_ rfl

theorem State.refill_in {x0 m s a} (h : Within m s a) (hs : 8589934592 &&& m = 8589934592) :
    Within m s (State.refill x0 a) := by
  refine Within.step (m := 8589934592) h ?_ hs
  unfold State.refill; extract_lets
  with_reducible repeat' first | exact .refl | refine State.modFn_in ?_ rfl

theorem State.setCredit_in {x0 x1 m s a} (h : Within m s a) (hs : 8589934592 &&& m = 8589934592) :
    Within m s (State.setCredit x0 x1 a) := by
  refine Within.step (m := 8589934592) h ?_ hs
  unfold State.setCredit; extract_lets
  with_reducible repeat' first | exact .refl | refine .ite ?_ ?_ | refine State.refill_in ?_ rfl | refine State.modFn_in ?_ rfl | extract_lets | dsimp +zetaDelta only

theorem State.clearMailbox_in {x0 m s a} (h : Within m s a) (hs : 8589934592 &&& m = 8589934592) :
    Within m s (State.clearMailbox x0 a) := by
  refine Within.step (m := 8589934592) h ?_ hs
  unfold State.clearMailbox
  with_reducible repeat' first | exact .refl | refine State.modFn_in ?_ rfl

/-! ZoneOps.lean -/

theorem State.checkOverlap_in {x0 m s a} (h : Within m s a) (hs : 5067099890253856 &&& m = 5067099890253856) :
    Within m s (State.checkOverlap x0 a) := by
  refine Within.step (m := 5067099890253856) h ?_ hs
  unfold State.checkOverlap
  with_reducible repeat' first | exact .refl | refine .ite ?_ ?_ | refine State.assertEvent_in ?_ rfl | refine Within.putAt ?_ ZPM_STAT.TAILOVL_part rfl

theorem State.modOlder_in {x0 m s a} (h : Within m s a) (hs : 36028797018963968 &&& m = 36028797018963968) :
    Within m s (State.modOlder x0 a) := by
  refine Within.step (m := 36028797018963968) h ?_ hs
  unfold State.modOlder
  with_reducible repeat' first | exact .refl | refine .ite ?_ ?_ | refine Within.modNv ?_ rfl

theorem State.startCheckpoint_in {m s a} (h : Within m s a) (hs : 36028831378702368 &&& m = 36028831378702368) :
    Within m s (State.startCheckpoint a) := by
  refine Within.step (m := 36028831378702368) h ?_ hs
  unfold State.startCheckpoint
  with_reducible repeat' first | exact .refl | refine .ite ?_ ?_ | refine State.modOlder_in ?_ rfl | refine Within.putAt ?_ ZPM_STAT.CKPT_BUSY_part rfl | refine Within.modZpm ?_ rfl

theorem State.journalZone_in {x0 m s a} (h : Within m s a) (hs : 36028831378702368 &&& m = 36028831378702368) :
    Within m s (State.journalZone x0 a) := by
  refine Within.step (m := 36028831378702368) h ?_ hs
  unfold State.journalZone; extract_lets
  with_reducible repeat' first | exact .refl | refine .ite ?_ ?_ | refine State.startCheckpoint_in ?_ rfl | refine State.modZone_in ?_ rfl | refine Within.modZpm ?_ rfl | extract_lets | dsimp +zetaDelta only

theorem State.journalFullZone_in {x0 m s a} (h : Within m s a) (hs : 36028831378702368 &&& m = 36028831378702368) :
    Within m s (State.journalFullZone x0 a) := by
  refine Within.step (m := 36028831378702368) h ?_ hs
  unfold State.journalFullZone
  with_reducible repeat' first | exact .refl | refine State.journalZone_in ?_ rfl | refine State.modZone_in ?_ rfl

theorem State.listChanged_in {x0 m s a} (h : Within m s a) (hs : 2251842763358208 &&& m = 2251842763358208) :
    Within m s (State.listChanged x0 a) := by
  refine Within.step (m := 2251842763358208) h ?_ hs
  unfold State.listChanged; extract_lets
  with_reducible repeat' first | exact .refl | refine State.raiseAen_in ?_ rfl | refine State.modNs_in ?_ rfl | refine .each ?_ fun _ _ => ?_

theorem State.enterZoneAt_in {x0 x1 x2 m s a} (h : Within m s a) (hs : 34359738368 &&& m = 34359738368) :
    Within m s (State.enterZoneAt x0 x1 x2 a) := by
  refine Within.step (m := 34359738368) h ?_ hs
  unfold State.enterZoneAt
  with_reducible repeat' first | exact .refl | refine State.modZone_in ?_ rfl

theorem State.enterZone_in {x0 x1 m s a} (h : Within m s a) (hs : 34359738368 &&& m = 34359738368) :
    Within m s (State.enterZone x0 x1 a) := by
  refine Within.step (m := 34359738368) h ?_ hs
  unfold State.enterZone
  with_reducible repeat' first | exact .refl | refine State.enterZoneAt_in ?_ rfl

theorem State.closeVictim_in {x0 m s a} (h : Within m s a) (hs : 5067134249992192 &&& m = 5067134249992192) :
    Within m s (State.closeVictim x0 a) := by
  refine Within.step (m := 5067134249992192) h ?_ hs
  unfold State.closeVictim
  with_reducible repeat' first | exact .refl | refine State.assertEvent_in ?_ rfl | refine State.enterZone_in ?_ rfl | split

theorem State.limitEvent_in {x0 m s a} (h : Within m s a) (hs : 5067099890253824 &&& m = 5067099890253824) :
    Within m s (State.limitEvent x0 a) := by
  refine Within.step (m := 5067099890253824) h ?_ hs
  unfold State.limitEvent
  with_reducible repeat' first | exact .refl | refine State.assertIf_in ?_ rfl

theorem State.admitWrite_in {x0 x1 x2 x3 m s a} (h : Within m s a) (hs : 5067134249992192 &&& m = 5067134249992192) :
    Within m s (State.admitWrite x0 x1 x2 x3 a) := by
  refine Within.step (m := 5067134249992192) h ?_ hs
  unfold State.admitWrite; extract_lets
  with_reducible repeat' first | exact .refl | refine .ite ?_ ?_ | refine State.closeVictim_in ?_ rfl | refine State.modZone_in ?_ rfl | refine State.enterZone_in ?_ rfl

theorem State.openZone_in {x0 m s a} (h : Within m s a) (hs : 5067134249992192 &&& m = 5067134249992192) :
    Within m s (State.openZone x0 a) := by
  refine Within.step (m := 5067134249992192) h ?_ hs
  unfold State.openZone; extract_lets
  with_reducible repeat' first | exact .refl | refine .ite ?_ ?_ | refine State.closeVictim_in ?_ rfl | refine State.enterZone_in ?_ rfl | split

theorem State.actAdmit_in {x0 x1 m s a} (h : Within m s a) (hs : 7318942653612032 &&& m = 7318942653612032) :
    Within m s (State.actAdmit x0 x1 a) := by
  refine Within.step (m := 7318942653612032) h ?_ hs
  unfold State.actAdmit
  with_reducible repeat' first | exact .refl | refine .ite ?_ ?_ | refine State.assertEvent_in ?_ rfl | refine State.openZone_in ?_ rfl | refine State.listChanged_in ?_ rfl | refine State.enterZone_in ?_ rfl | refine State.modZone_in ?_ rfl | split

theorem State.passVoids_in {x0 x1 m s a} (h : Within m s a) (hs : 34359738368 &&& m = 34359738368) :
    Within m s (State.passVoids x0 x1 a) := by
  induction x1 generalizing x0 s a m with
  | zero => exact h
  | succ n ih =>
    refine Within.step (m := 34359738368) h ?_ hs
    unfold State.passVoids
    with_reducible repeat' first | exact .refl | refine State.modZone_in ?_ rfl | refine ih ?_ rfl | split

theorem State.advance_in {x0 m s a} (h : Within m s a) (hs : 34359738368 &&& m = 34359738368) :
    Within m s (State.advance x0 a) := by
  refine Within.step (m := 34359738368) h ?_ hs
  unfold State.advance
  with_reducible repeat' first | exact .refl | refine State.passVoids_in ?_ rfl

theorem State.failRange_in {x0 x1 x2 x3 m s a} (h : Within m s a) (hs : 5067134249992200 &&& m = 5067134249992200) :
    Within m s (State.failRange x0 x1 x2 x3 a) := by
  refine Within.step (m := 5067134249992200) h ?_ hs
  unfold State.failRange; extract_lets
  with_reducible repeat' first | exact .refl | refine .ite ?_ ?_ | refine State.assertEvent_in ?_ rfl | refine State.modZone_in ?_ rfl | refine State.advance_in ?_ rfl | refine Within.countAt ?_ HFE_ERRCNT.VOIDS_part rfl | refine .foldl ?_ fun _ _ => ?_ | extract_lets | dsimp +zetaDelta only

theorem State.makeReadOnly_in {x0 m s a} (h : Within m s a) (hs : 43347739672576032 &&& m = 43347739672576032) :
    Within m s (State.makeReadOnly x0 a) := by
  refine Within.step (m := 43347739672576032) h ?_ hs
  unfold State.makeReadOnly
  with_reducible repeat' first | exact .refl | refine State.listChanged_in ?_ rfl | refine State.journalZone_in ?_ rfl | refine State.assertEvent_in ?_ rfl | refine State.enterZone_in ?_ rfl | split

/-! MediaOps.lean -/

theorem State.addParity_in {x0 x1 x2 x3 x4 m s a} (h : Within m s a) (hs : 2199023255552 &&& m = 2199023255552) :
    Within m s (State.addParity x0 x1 x2 x3 x4 a) := by
  refine Within.step (m := 2199023255552) h ?_ hs
  unfold State.addParity; extract_lets
  with_reducible repeat' first | exact .refl | refine .ite ?_ ?_ | refine Within.modMsh ?_ rfl

theorem State.dropParity_in {x0 m s a} (h : Within m s a) (hs : 2199023255552 &&& m = 2199023255552) :
    Within m s (State.dropParity x0 a) := by
  refine Within.step (m := 2199023255552) h ?_ hs
  unfold State.dropParity
  with_reducible repeat' first | exact .refl | refine Within.modMsh ?_ rfl

theorem State.setChunk_in {x0 x1 x2 x3 m s a} (h : Within m s a) (hs : 68719476736 &&& m = 68719476736) :
    Within m s (State.setChunk x0 x1 x2 x3 a) := by
  refine Within.step (m := 68719476736) h ?_ hs
  unfold State.setChunk
  with_reducible repeat' first | exact .refl | refine Within.modMed ?_ rfl

theorem State.submitErase_in {x0 x1 x2 m s a} (h : Within m s a) (hs : 549755813888 &&& m = 549755813888) :
    Within m s (State.submitErase x0 x1 x2 a) := by
  refine Within.step (m := 549755813888) h ?_ hs
  unfold State.submitErase
  with_reducible repeat' first | exact .refl | refine .ite ?_ ?_ | refine State.submitHw_in ?_ rfl | (refine Within.modDrfEng ?_ ?_ ?_; rotate_left; with_unfolding_all (exact (fun _ => rfl); rfl))

theorem State.releaseErases_in {m s a} (h : Within m s a) (hs : 549755813888 &&& m = 549755813888) :
    Within m s (State.releaseErases a) := by
  refine Within.step (m := 549755813888) h ?_ hs
  unfold State.releaseErases
  with_reducible repeat' first | exact .refl | refine State.submitErase_in ?_ rfl | (refine Within.modDrfEng ?_ ?_ ?_; rotate_left; with_unfolding_all (exact (fun _ => rfl); rfl)) | refine .each ?_ fun _ _ => ?_

theorem State.modFold_in {x0 x1 m s a} (h : Within m s a) (hs : 68719476736 &&& m = 68719476736) :
    Within m s (State.modFold x0 x1 a) := by
  refine Within.step (m := 68719476736) h ?_ hs
  unfold State.modFold
  with_reducible repeat' first | exact .refl | refine Within.modMed ?_ rfl

theorem State.nextSerial_in {m s a} (h : Within m s a) (hs : 68719476736 &&& m = 68719476736) :
    Within m s (State.nextSerial a) := by
  refine Within.step (m := 68719476736) h ?_ hs
  unfold State.nextSerial
  with_reducible repeat' first | exact .refl | refine Within.modMed ?_ rfl

theorem State.openFold_in {x0 m s a} (h : Within m s a) (hs : 68719476736 &&& m = 68719476736) :
    Within m s (State.openFold x0 a) := by
  refine Within.step (m := 68719476736) h ?_ hs
  unfold State.openFold
  with_reducible repeat' first | exact .refl | refine .ite ?_ ?_ | refine State.nextSerial_in ?_ rfl | refine State.modFold_in ?_ rfl | extract_lets | dsimp +zetaDelta only

theorem State.modSlcLive_in {x0 x1 x2 m s a} (h : Within m s a) (hs : 68719476736 &&& m = 68719476736) :
    Within m s (State.modSlcLive x0 x1 x2 a) := by
  refine Within.step (m := 68719476736) h ?_ hs
  unfold State.modSlcLive
  with_reducible repeat' first | exact .refl | refine Within.modMed ?_ rfl

theorem State.slcTake_in {x0 x1 m s a} (h : Within m s a) (hs : 68719476736 &&& m = 68719476736) :
    Within m s (State.slcTake x0 x1 a) := by
  refine Within.step (m := 68719476736) h ?_ hs
  unfold State.slcTake; extract_lets
  with_reducible repeat' first | exact .refl | refine Within.modMed ?_ rfl

theorem State.modCompact_in {x0 x1 m s a} (h : Within m s a) (hs : 68719476736 &&& m = 68719476736) :
    Within m s (State.modCompact x0 x1 a) := by
  refine Within.step (m := 68719476736) h ?_ hs
  unfold State.modCompact
  with_reducible repeat' first | exact .refl | refine .ite ?_ ?_ | refine Within.modMed ?_ rfl

theorem State.compactGo_in {x0 m s a} (h : Within m s a) (hs : 618475290624 &&& m = 618475290624) :
    Within m s (State.compactGo x0 a) := by
  refine Within.step (m := 618475290624) h ?_ hs
  unfold State.compactGo
  with_reducible repeat' first | exact .refl | refine .ite ?_ ?_ | refine State.submitErase_in ?_ rfl | refine State.modCompact_in ?_ rfl | refine State.submitHw_in ?_ rfl | split

theorem State.compactAll_in {m s a} (h : Within m s a) (hs : 618475290624 &&& m = 618475290624) :
    Within m s (State.compactAll a) := by
  refine Within.step (m := 618475290624) h ?_ hs
  unfold State.compactAll
  with_reducible repeat' first | exact .refl | refine State.compactGo_in ?_ rfl | refine .each ?_ fun _ _ => ?_

theorem State.maybeCompact_in {x0 m s a} (h : Within m s a) (hs : 618475290624 &&& m = 618475290624) :
    Within m s (State.maybeCompact x0 a) := by
  refine Within.step (m := 618475290624) h ?_ hs
  unfold State.maybeCompact; extract_lets
  with_reducible repeat' first | exact .refl | refine .ite ?_ ?_ | refine State.compactGo_in ?_ rfl | refine Within.modMed ?_ rfl | extract_lets | split | dsimp +zetaDelta only

theorem freeFront_in {x0 m s a} (h : Within m s a) (hs : 7327695796965376 &&& m = 7327695796965376) :
    Within m s (freeFront x0 a) := by
  refine Within.step (m := 7327695796965376) h ?_ hs
  unfold freeFront
  with_reducible repeat' first | exact .refl | refine State.freeChain_in ?_ rfl

theorem freeTubUnit_in {x0 x1 m s a} (h : Within m s a) (hs : 7327704386899968 &&& m = 7327704386899968) :
    Within m s (freeTubUnit x0 x1 a) := by
  refine Within.step (m := 7327704386899968) h ?_ hs
  unfold freeTubUnit; extract_lets
  with_reducible repeat' first | exact .refl | refine .ite ?_ ?_ | refine freeFront_in ?_ rfl | refine Within.modHfe ?_ rfl | extract_lets | split | dsimp +zetaDelta only

theorem State.noteEligible_in {x0 x1 x2 m s a} (h : Within m s a) (hs : 68719476736 &&& m = 68719476736) :
    Within m s (State.noteEligible x0 x1 x2 a) := by
  refine Within.step (m := 68719476736) h ?_ hs
  unfold State.noteEligible
  with_reducible repeat' first | exact .refl | refine .ite ?_ ?_ | refine State.modFold_in ?_ rfl

theorem State.noteBlock_in {x0 x1 m s a} (h : Within m s a) (hs : 68719476736 &&& m = 68719476736) :
    Within m s (State.noteBlock x0 x1 a) := by
  refine Within.step (m := 68719476736) h ?_ hs
  unfold State.noteBlock; extract_lets
  with_reducible repeat' first | exact .refl | refine State.noteEligible_in ?_ rfl | refine .each ?_ fun _ _ => ?_ | extract_lets | dsimp +zetaDelta only

theorem State.enterSlc_in {x0 m s a} (h : Within m s a) (hs : 43356604485079072 &&& m = 43356604485079072) :
    Within m s (State.enterSlc x0 a) := by
  refine Within.step (m := 43356604485079072) h ?_ hs
  unfold State.enterSlc; extract_lets
  with_reducible repeat' first | exact .refl | refine .ite ?_ ?_ | refine State.journalZone_in ?_ rfl | refine freeTubUnit_in ?_ rfl | refine State.noteBlock_in ?_ rfl | refine .each ?_ fun _ _ => ?_ | extract_lets | dsimp +zetaDelta only

theorem State.chunkDone_in {x0 x1 x2 m s a} (h : Within m s a) (hs : 43356604485079072 &&& m = 43356604485079072) :
    Within m s (State.chunkDone x0 x1 x2 a) := by
  refine Within.step (m := 43356604485079072) h ?_ hs
  unfold State.chunkDone; extract_lets
  with_reducible repeat' first | exact .refl | refine State.noteEligible_in ?_ rfl | refine State.enterSlc_in ?_ rfl | refine .each ?_ fun _ _ => ?_ | extract_lets | split | dsimp +zetaDelta only

theorem State.progChunk_in {x0 x1 x2 m s a} (h : Within m s a) (hs : 43356604485079072 &&& m = 43356604485079072) :
    Within m s (State.progChunk x0 x1 x2 a) := by
  refine Within.step (m := 43356604485079072) h ?_ hs
  unfold State.progChunk; extract_lets
  with_reducible repeat' first | exact .refl | refine State.chunkDone_in ?_ rfl | refine State.assertEvent_in ?_ rfl | refine State.setChunk_in ?_ rfl | refine State.slcTake_in ?_ rfl | refine State.maybeCompact_in ?_ rfl | refine State.submitHw_in ?_ rfl | refine Within.modMed ?_ rfl | extract_lets | split | dsimp +zetaDelta only

theorem State.retrySlc_in {m s a} (h : Within m s a) (hs : 43356604485079072 &&& m = 43356604485079072) :
    Within m s (State.retrySlc a) := by
  refine Within.step (m := 43356604485079072) h ?_ hs
  unfold State.retrySlc; extract_lets
  with_reducible repeat' first | exact .refl | refine .ite ?_ ?_ | refine State.progChunk_in ?_ rfl | refine Within.modMed ?_ rfl | refine .each ?_ fun _ _ => ?_ | extract_lets | split

theorem State.noteWriter_in {x0 x1 x2 x3 m s a} (h : Within m s a) (hs : 68719476736 &&& m = 68719476736) :
    Within m s (State.noteWriter x0 x1 x2 x3 a) := by
  refine Within.step (m := 68719476736) h ?_ hs
  unfold State.noteWriter
  with_reducible repeat' first | exact .refl | refine Within.modMed ?_ rfl

theorem State.progRange_in {x0 x1 x2 x3 m s a} (h : Within m s a) (hs : 43356604485079072 &&& m = 43356604485079072) :
    Within m s (State.progRange x0 x1 x2 x3 a) := by
  induction x2 generalizing x0 x1 x3 s a m with
  | zero => exact h
  | succ n ih =>
    refine Within.step (m := 43356604485079072) h ?_ hs
    unfold State.progRange; try extract_lets
    with_reducible repeat' first | exact .refl | refine .ite ?_ ?_ | refine State.progChunk_in ?_ rfl | refine State.noteWriter_in ?_ rfl | refine .each ?_ fun _ _ => ?_ | refine ih ?_ rfl | extract_lets | split | dsimp +zetaDelta only

theorem State.tailChunks_in {x0 m s a} (h : Within m s a) (hs : 43356604485079072 &&& m = 43356604485079072) :
    Within m s (State.tailChunks x0 a) := by
  refine Within.step (m := 43356604485079072) h ?_ hs
  unfold State.tailChunks; extract_lets
  with_reducible repeat' first | exact .refl | refine .ite ?_ ?_ | refine State.progChunk_in ?_ rfl | refine State.noteWriter_in ?_ rfl | refine .each ?_ fun _ _ => ?_ | extract_lets | dsimp +zetaDelta only

theorem State.padTail_in {x0 m s a} (h : Within m s a) (hs : 68719476736 &&& m = 68719476736) :
    Within m s (State.padTail x0 a) := by
  refine Within.step (m := 68719476736) h ?_ hs
  unfold State.padTail; extract_lets
  with_reducible repeat' first | exact .refl | refine State.noteEligible_in ?_ rfl | refine .each ?_ fun _ _ => ?_ | extract_lets | dsimp +zetaDelta only

theorem State.progTail_in {x0 m s a} (h : Within m s a) (hs : 43356604485079072 &&& m = 43356604485079072) :
    Within m s (State.progTail x0 a) := by
  refine Within.step (m := 43356604485079072) h ?_ hs
  unfold State.progTail; extract_lets
  with_reducible repeat' first | exact .refl | refine .ite ?_ ?_ | refine State.tailChunks_in ?_ rfl | refine State.modFold_in ?_ rfl | refine State.padTail_in ?_ rfl | extract_lets | dsimp +zetaDelta only

theorem Row.freeEvent_in {x0 m s a} (h : Within m s a) (hs : 5067099890253824 &&& m = 5067099890253824) :
    Within m s (Row.freeEvent x0 a) := by
  refine Within.step (m := 5067099890253824) h ?_ hs
  unfold Row.freeEvent
  with_reducible repeat' first | exact .refl | refine State.assertIf_in ?_ rfl

theorem State.rowErased_in {x0 x1 m s a} (h : Within m s a) (hs : 5067134249992192 &&& m = 5067134249992192) :
    Within m s (State.rowErased x0 x1 a) := by
  refine Within.step (m := 5067134249992192) h ?_ hs
  unfold State.rowErased; extract_lets
  with_reducible repeat' first | exact .refl | refine .ite ?_ ?_ | refine Row.freeEvent_in ?_ rfl | refine Within.modZpm ?_ rfl | extract_lets | dsimp +zetaDelta only

theorem State.eraseRow_in {x0 x1 x2 x3 m s a} (h : Within m s a) (hs : 5069401992724480 &&& m = 5069401992724480) :
    Within m s (State.eraseRow x0 x1 x2 x3 a) := by
  refine Within.step (m := 5069401992724480) h ?_ hs
  unfold State.eraseRow; extract_lets
  with_reducible repeat' first | exact .refl | refine .ite ?_ ?_ | refine State.modUnit_in ?_ rfl | refine State.submitErase_in ?_ rfl | refine State.rowErased_in ?_ rfl | refine Within.modZpm ?_ rfl | refine Within.modMsh ?_ rfl | refine .each ?_ fun _ _ => ?_ | extract_lets | dsimp +zetaDelta only

theorem State.dropMedia_in {x0 m s a} (h : Within m s a) (hs : 2817498546176 &&& m = 2817498546176) :
    Within m s (State.dropMedia x0 a) := by
  refine Within.step (m := 2817498546176) h ?_ hs
  unfold State.dropMedia; extract_lets
  with_reducible repeat' first | exact .refl | refine State.dropParity_in ?_ rfl | refine State.compactAll_in ?_ rfl | refine State.modSlcLive_in ?_ rfl | refine Within.modMed ?_ rfl | refine .each ?_ fun _ _ => ?_ | extract_lets | split | dsimp +zetaDelta only

theorem State.releaseRows_in {x0 x1 x2 m s a} (h : Within m s a) (hs : 5069401992724480 &&& m = 5069401992724480) :
    Within m s (State.releaseRows x0 x1 x2 a) := by
  refine Within.step (m := 5069401992724480) h ?_ hs
  unfold State.releaseRows; extract_lets
  with_reducible repeat' first | exact .refl | refine State.eraseRow_in ?_ rfl | refine .each ?_ fun _ _ => ?_ | extract_lets | dsimp +zetaDelta only

theorem State.assignRows_in {x0 x1 : Nat} {x2 : List Nat} {m : Nat} {s a t : State} (e : a.assignRows x0 x1 x2 = some t)
    (h : Within m s a) (hs : 36028831378702368 &&& m = 36028831378702368) : Within m s t := by
  refine Within.step (m := 36028831378702368) h ?_ hs
  unfold State.assignRows at e
  split at e
  · cases e
  · cases e
    exact State.journalZone_in ((State.modZone_in Within.refl rfl).modZpm rfl) rfl

theorem State.mapUse_in {x0 m s a} (h : Within m s a) (hs : 68719476736 &&& m = 68719476736) :
    Within m s (State.mapUse x0 a) := by
  refine Within.step (m := 68719476736) h ?_ hs
  unfold State.mapUse; extract_lets
  with_reducible repeat' first | exact .refl | refine .ite ?_ ?_ | refine Within.modMed ?_ rfl | extract_lets | dsimp +zetaDelta only

theorem State.countErase_in {x0 x1 m s a} (h : Within m s a) (hs : 68719476736 &&& m = 68719476736) :
    Within m s (State.countErase x0 x1 a) := by
  refine Within.step (m := 68719476736) h ?_ hs
  unfold State.countErase
  with_reducible repeat' first | exact .refl | refine State.modUnit_in ?_ rfl | refine State.mapUse_in ?_ rfl

theorem State.sysTouch_in {x0 x1 m s a} (h : Within m s a) (hs : 36028797018963968 &&& m = 36028797018963968) :
    Within m s (State.sysTouch x0 x1 a) := by
  refine Within.step (m := 36028797018963968) h ?_ hs
  unfold State.sysTouch
  with_reducible repeat' first | exact .refl | refine .ite ?_ ?_ | refine Within.modNv ?_ rfl

theorem State.mapReadAt_in {x0 x1 x2 m s a} (h : Within m s a) (hs : 618475290624 &&& m = 618475290624) :
    Within m s (State.mapReadAt x0 x1 x2 a) := by
  refine Within.step (m := 618475290624) h ?_ hs
  unfold State.mapReadAt
  with_reducible repeat' first | exact .refl | refine State.submitHw_in ?_ rfl | refine Within.modMed ?_ rfl | extract_lets | split | dsimp +zetaDelta only

theorem State.mapFetch_in {x0 x1 m s a} (h : Within m s a) (hs : 618475290688 &&& m = 618475290688) :
    Within m s (State.mapFetch x0 x1 a) := by
  refine Within.step (m := 618475290688) h ?_ hs
  unfold State.mapFetch
  with_reducible repeat' first | exact .refl | refine .ite ?_ ?_ | refine State.mapReadAt_in ?_ rfl | refine State.mapUse_in ?_ rfl | refine Within.countAt ?_ MED_MAPMISS.COUNT_part rfl | extract_lets | dsimp +zetaDelta only

theorem State.mapLookup_in {x0 x1 x2 x3 m s a} (h : Within m s a) (hs : 618475290688 &&& m = 618475290688) :
    Within m s (State.mapLookup x0 x1 x2 x3 a) := by
  refine Within.step (m := 618475290688) h ?_ hs
  unfold State.mapLookup
  with_reducible repeat' first | exact .refl | refine .ite ?_ ?_ | refine State.mapFetch_in ?_ rfl | refine .each ?_ fun _ _ => ?_

theorem State.mapTouch_in {x0 m s a} (h : Within m s a) (hs : 68719476736 &&& m = 68719476736) :
    Within m s (State.mapTouch x0 a) := by
  refine Within.step (m := 68719476736) h ?_ hs
  unfold State.mapTouch; extract_lets
  with_reducible repeat' first | exact .refl | refine .ite ?_ ?_ | refine State.mapUse_in ?_ rfl | refine Within.modMed ?_ rfl | extract_lets | dsimp +zetaDelta only

theorem State.flushGo_in {m s a} (h : Within m s a) (hs : 618475290624 &&& m = 618475290624) :
    Within m s (State.flushGo a) := by
  refine Within.step (m := 618475290624) h ?_ hs
  unfold State.flushGo
  with_reducible repeat' first | exact .refl | refine .ite ?_ ?_ | refine State.submitErase_in ?_ rfl | refine State.submitHw_in ?_ rfl | refine Within.modMed ?_ rfl | extract_lets | split | dsimp +zetaDelta only

theorem State.startMapFlush_in {m s a} (h : Within m s a) (hs : 618475290624 &&& m = 618475290624) :
    Within m s (State.startMapFlush a) := by
  refine Within.step (m := 618475290624) h ?_ hs
  unfold State.startMapFlush
  with_reducible repeat' first | exact .refl | refine .ite ?_ ?_ | refine State.flushGo_in ?_ rfl | refine Within.modMed ?_ rfl | extract_lets | dsimp +zetaDelta only

theorem State.journalMap_in {x0 x1 m s a} (h : Within m s a) (hs : 68719476736 &&& m = 68719476736) :
    Within m s (State.journalMap x0 x1 a) := by
  refine Within.step (m := 68719476736) h ?_ hs
  unfold State.journalMap
  with_reducible repeat' first | exact .refl | refine .ite ?_ ?_ | refine Within.modMed ?_ rfl

theorem State.flushIfDue_in {m s a} (h : Within m s a) (hs : 618475290624 &&& m = 618475290624) :
    Within m s (State.flushIfDue a) := by
  refine Within.step (m := 618475290624) h ?_ hs
  unfold State.flushIfDue
  with_reducible repeat' first | exact .refl | refine .ite ?_ ?_ | refine State.startMapFlush_in ?_ rfl

theorem State.setMap_in {x0 x1 x2 m s a} (h : Within m s a) (hs : 618475290624 &&& m = 618475290624) :
    Within m s (State.setMap x0 x1 x2 a) := by
  refine Within.step (m := 618475290624) h ?_ hs
  unfold State.setMap; extract_lets
  with_reducible repeat' first | exact .refl | refine State.journalMap_in ?_ rfl | refine State.flushIfDue_in ?_ rfl | refine State.mapTouch_in ?_ rfl | refine Within.modMed ?_ rfl | extract_lets | dsimp +zetaDelta only

theorem State.newRu_in {x0 x1 x2 x4 i : Nat} {x3 : ZState} {m : Nat} {s a t : State} (e : a.newRu x0 x1 x2 x3 x4 = some (i, t))
    (h : Within m s a) (hs : 36028900098179104 &&& m = 36028900098179104) : Within m s t := by
  refine Within.step (m := 36028900098179104) h ?_ hs
  unfold State.newRu at e
  try dsimp only at e
  split at e
  · cases e
  · obtain ⟨u, hu, he⟩ := Option.map_eq_some_iff.1 e
    cases he
    have k := State.assignRows_in hu (State.modZone_in Within.refl rfl) (m := 36028900098179104) rfl
    exact Within.ite k (State.openFold_in k rfl)

theorem State.fdpCount_in {x0 x1 m s a} (h : Within m s a) (hs : 34359738368 &&& m = 34359738368) :
    Within m s (State.fdpCount x0 x1 a) := by
  refine Within.step (m := 34359738368) h ?_ hs
  unfold State.fdpCount
  with_reducible repeat' first | exact .refl | refine Within.modZpm ?_ rfl

theorem State.detachRu_in {x0 x1 m s a} (h : Within m s a) (hs : 43356604485079072 &&& m = 43356604485079072) :
    Within m s (State.detachRu x0 x1 a) := by
  refine Within.step (m := 43356604485079072) h ?_ hs
  unfold State.detachRu; extract_lets
  with_reducible repeat' first | exact .refl | refine .ite ?_ ?_ | refine State.journalZone_in ?_ rfl | refine State.progTail_in ?_ rfl | refine State.enterZoneAt_in ?_ rfl | refine Within.modZpm ?_ rfl | extract_lets | dsimp +zetaDelta only

theorem State.healthCount_in {x0 m s a} (h : Within m s a) (hs : 68719476736 &&& m = 68719476736) :
    Within m s (State.healthCount x0 a) := by
  refine Within.step (m := 68719476736) h ?_ hs
  unfold State.healthCount
  with_reducible repeat' first | exact .refl | refine Within.modMed ?_ rfl

theorem State.loadHealth_in {x0 m s a} (h : Within m s a) (hs : 68719476736 &&& m = 68719476736) :
    Within m s (State.loadHealth x0 a) := by
  refine Within.step (m := 68719476736) h ?_ hs
  unfold State.loadHealth
  with_reducible repeat' first | exact .refl | refine Within.modMed ?_ rfl

theorem State.integrityError_in {m s a} (h : Within m s a) (hs : 68719476736 &&& m = 68719476736) :
    Within m s (State.integrityError a) := by
  refine Within.step (m := 68719476736) h ?_ hs
  unfold State.integrityError
  with_reducible repeat' first | exact .refl | refine Within.modMed ?_ rfl

theorem State.criticalWarning_in {x0 m s a} (h : Within m s a) (hs : 2251877123096576 &&& m = 2251877123096576) :
    Within m s (State.criticalWarning x0 a) := by
  refine Within.step (m := 2251877123096576) h ?_ hs
  unfold State.criticalWarning; extract_lets
  with_reducible repeat' first | exact .refl | refine .ite ?_ ?_ | refine State.raiseAen_in ?_ rfl | refine Within.modMed ?_ rfl | refine .each ?_ fun _ _ => ?_

theorem State.retireUnit_in {x0 x1 m s a} (h : Within m s a) (hs : 7318977013350464 &&& m = 7318977013350464) :
    Within m s (State.retireUnit x0 x1 a) := by
  refine Within.step (m := 7318977013350464) h ?_ hs
  unfold State.retireUnit; extract_lets
  with_reducible repeat' first | exact .refl | refine .ite ?_ ?_ | refine State.assertEvent_in ?_ rfl | refine State.criticalWarning_in ?_ rfl | refine State.healthCount_in ?_ rfl | refine State.modUnit_in ?_ rfl | refine Within.countAt ?_ MED_ERRCNT.RETIRED_part rfl

/-! KilnOps.lean -/

theorem State.dropCopies_in {x0 m s a} (h : Within m s a) (hs : 68719476736 &&& m = 68719476736) :
    Within m s (State.dropCopies x0 a) := by
  refine Within.step (m := 68719476736) h ?_ hs
  unfold State.dropCopies
  with_reducible repeat' first | exact .refl | refine Within.modMed ?_ rfl

theorem State.quitMigr_in {x0 m s a} (h : Within m s a) (hs : 5069401992724480 &&& m = 5069401992724480) :
    Within m s (State.quitMigr x0 a) := by
  refine Within.step (m := 5069401992724480) h ?_ hs
  unfold State.quitMigr
  with_reducible repeat' first | exact .refl | refine .ite ?_ ?_ | refine State.eraseRow_in ?_ rfl | refine State.dropCopies_in ?_ rfl | refine Within.modMed ?_ rfl | refine Within.modMsh ?_ rfl | refine .each ?_ fun _ _ => ?_ | extract_lets | split | dsimp +zetaDelta only

theorem State.dropMigr_in {x0 m s a} (h : Within m s a) (hs : 5069401992724480 &&& m = 5069401992724480) :
    Within m s (State.dropMigr x0 a) := by
  refine Within.step (m := 5069401992724480) h ?_ hs
  unfold State.dropMigr
  with_reducible repeat' first | exact .refl | refine State.assertIf_in ?_ rfl | refine State.quitMigr_in ?_ rfl | split

theorem State.readOnlyZone_in {x0 m s a} (h : Within m s a) (hs : 43350007415308320 &&& m = 43350007415308320) :
    Within m s (State.readOnlyZone x0 a) := by
  refine Within.step (m := 43350007415308320) h ?_ hs
  unfold State.readOnlyZone
  with_reducible repeat' first | exact .refl | refine .ite ?_ ?_ | refine State.makeReadOnly_in ?_ rfl | refine State.dropMigr_in ?_ rfl

theorem State.loseStripe_in {x0 x1 x2 x3 x4 m s a} (h : Within m s a) (hs : 43358803508335648 &&& m = 43358803508335648) :
    Within m s (State.loseStripe x0 x1 x2 x3 x4 a) := by
  refine Within.step (m := 43358803508335648) h ?_ hs
  unfold State.loseStripe; extract_lets
  with_reducible repeat' first | exact .refl | refine .ite ?_ ?_ | refine State.assertEvent_in ?_ rfl | refine State.criticalWarning_in ?_ rfl | refine State.readOnlyZone_in ?_ rfl | refine State.detachRu_in ?_ rfl | refine Within.putAt ?_ MSH_STAT.TBLFULL_part rfl | refine Within.countAt ?_ MSH_LOST.NEW_part rfl | refine Within.modMsh ?_ rfl | extract_lets | dsimp +zetaDelta only

theorem State.submitPage_in {x0 x1 x2 x3 x4 x5 x6 x7 m s a} (h : Within m s a) (hs : 549755813888 &&& m = 549755813888) :
    Within m s (State.submitPage x0 x1 x2 x3 x4 x5 x6 x7 a) := by
  refine Within.step (m := 549755813888) h ?_ hs
  unfold State.submitPage
  with_reducible repeat' first | exact .refl | refine State.submitHw_in ?_ rfl | extract_lets | split | dsimp +zetaDelta only

theorem State.losePage_in {x0 x1 x2 x3 m s a} (h : Within m s a) (hs : 43358803508335648 &&& m = 43358803508335648) :
    Within m s (State.losePage x0 x1 x2 x3 a) := by
  refine Within.step (m := 43358803508335648) h ?_ hs
  unfold State.losePage
  with_reducible repeat' first | exact .refl | refine State.loseStripe_in ?_ rfl | refine .each ?_ fun _ _ => ?_ | split

theorem State.pageAsk_in {x0 x1 x2 x3 x4 x5 x6 m s a} (h : Within m s a) (hs : 43358803508335648 &&& m = 43358803508335648) :
    Within m s (State.pageAsk x0 x1 x2 x3 x4 x5 x6 a).1 := by
  refine Within.step (m := 43358803508335648) h ?_ hs
  unfold State.pageAsk; extract_lets
  with_reducible repeat' first | exact .refl | refine .ite ?_ ?_ | refine State.nextSerial_in ?_ rfl | refine State.losePage_in ?_ rfl | refine State.submitPage_in ?_ rfl | refine Within.modMsh ?_ rfl | refine .each ?_ fun _ _ => ?_ | extract_lets | split | dsimp +zetaDelta only
theorem State.pageAsk_in_eq {x0 x1 x2 x3 x4 x5 x6} {m s a t v} (e : State.pageAsk x0 x1 x2 x3 x4 x5 x6 a = (t, v)) (h : Within m s a) (hs : 43358803508335648 &&& m = 43358803508335648) : Within m s t := by
  have k := State.pageAsk_in (x0 := x0) (x1 := x1) (x2 := x2) (x3 := x3) (x4 := x4) (x5 := x5) (x6 := x6) h hs
  rw [e] at k; exact k

theorem State.pageRead_in {x0 x1 x2 x3 m s a} (h : Within m s a) (hs : 43358803508335648 &&& m = 43358803508335648) :
    Within m s (State.pageRead x0 x1 x2 x3 a).1 := by
  refine Within.step (m := 43358803508335648) h ?_ hs
  unfold State.pageRead
  with_reducible repeat' first | exact .refl | refine .ite ?_ ?_ | refine State.tally_in ?_ rfl | refine State.losePage_in ?_ rfl | refine State.submitPage_in ?_ rfl | refine Within.modMsh ?_ rfl | extract_lets | split | dsimp +zetaDelta only
theorem State.pageRead_in_eq {x0 x1 x2 x3} {m s a t v} (e : State.pageRead x0 x1 x2 x3 a = (t, v)) (h : Within m s a) (hs : 43358803508335648 &&& m = 43358803508335648) : Within m s t := by
  have k := State.pageRead_in (x0 := x0) (x1 := x1) (x2 := x2) (x3 := x3) h hs
  rw [e] at k; exact k

theorem State.modCopy_in {x0 x1 m s a} (h : Within m s a) (hs : 68719476736 &&& m = 68719476736) :
    Within m s (State.modCopy x0 x1 a) := by
  refine Within.step (m := 68719476736) h ?_ hs
  unfold State.modCopy
  with_reducible repeat' first | exact .refl | refine Within.modMed ?_ rfl

theorem State.copyProg_in {x0 x1 x2 x3 m s a} (h : Within m s a) (hs : 549755813888 &&& m = 549755813888) :
    Within m s (State.copyProg x0 x1 x2 x3 a) := by
  refine Within.step (m := 549755813888) h ?_ hs
  unfold State.copyProg; extract_lets
  with_reducible repeat' first | exact .refl | refine State.submitHw_in ?_ rfl | extract_lets | dsimp +zetaDelta only

theorem State.copyBack_in {x0 x1 x2 m s a} (h : Within m s a) (hs : 549755813888 &&& m = 549755813888) :
    Within m s (State.copyBack x0 x1 x2 a) := by
  refine Within.step (m := 549755813888) h ?_ hs
  unfold State.copyBack; extract_lets
  with_reducible repeat' first | exact .refl | refine State.submitHw_in ?_ rfl | extract_lets | dsimp +zetaDelta only

theorem State.copyProgram_in {x0 m s a} (h : Within m s a) (hs : 618475290624 &&& m = 618475290624) :
    Within m s (State.copyProgram x0 a) := by
  refine Within.step (m := 618475290624) h ?_ hs
  unfold State.copyProgram
  with_reducible repeat' first | exact .refl | refine State.copyProg_in ?_ rfl | refine State.modCopy_in ?_ rfl | refine .each ?_ fun _ _ => ?_ | extract_lets | split | dsimp +zetaDelta only

theorem State.copyRead1_in {x0 m s a} (h : Within m s a) (hs : 618475290624 &&& m = 618475290624) :
    Within m s (State.copyRead1 x0 a) := by
  refine Within.step (m := 618475290624) h ?_ hs
  unfold State.copyRead1
  with_reducible repeat' first | exact .refl | refine .ite ?_ ?_ | refine State.copyProgram_in ?_ rfl | refine State.modCopy_in ?_ rfl | split

theorem State.copyFetch_in {x0 x1 m s a} (h : Within m s a) (hs : 43358803508335648 &&& m = 43358803508335648) :
    Within m s (State.copyFetch x0 x1 a) := by
  refine Within.step (m := 43358803508335648) h ?_ hs
  unfold State.copyFetch; extract_lets
  with_reducible repeat' first | exact .refl | refine .ite ?_ ?_ | refine State.pageAsk_in ?_ rfl | refine State.pageAsk_in_eq ‹_› ?_ rfl | refine State.copyRead1_in ?_ rfl | refine State.submitPage_in ?_ rfl | extract_lets | split | dsimp +zetaDelta only

theorem State.copyNext_in {x0 x1 m s a} (h : Within m s a) (hs : 43358803508335648 &&& m = 43358803508335648) :
    Within m s (State.copyNext x0 x1 a) := by
  induction x1 generalizing x0 s a m with
  | zero => exact h
  | succ n ih =>
    refine Within.step (m := 43358803508335648) h ?_ hs
    unfold State.copyNext; try extract_lets
    with_reducible repeat' first | exact .refl | refine .ite ?_ ?_ | refine State.copyProgram_in ?_ rfl | refine State.modCopy_in ?_ rfl | refine State.copyFetch_in ?_ rfl | refine .each ?_ fun _ _ => ?_ | refine ih ?_ rfl | extract_lets | split | dsimp +zetaDelta only

theorem State.copyDrop_in {x0 x1 m s a} (h : Within m s a) (hs : 68719476736 &&& m = 68719476736) :
    Within m s (State.copyDrop x0 x1 a) := by
  refine Within.step (m := 68719476736) h ?_ hs
  unfold State.copyDrop
  with_reducible repeat' first | exact .refl | refine .ite ?_ ?_ | refine State.modCopy_in ?_ rfl | extract_lets | split | dsimp +zetaDelta only

theorem State.wlToQlc_in {x0 x1 x2 x3 x4 x5 x6 m s a} (h : Within m s a) (hs : 68719476736 &&& m = 68719476736) :
    Within m s (State.wlToQlc x0 x1 x2 x3 x4 x5 x6 a) := by
  refine Within.step (m := 68719476736) h ?_ hs
  unfold State.wlToQlc
  with_reducible repeat' first | exact .refl | refine .ite ?_ ?_ | refine State.setChunk_in ?_ rfl | refine State.modSlcLive_in ?_ rfl | refine .each ?_ fun _ _ => ?_ | extract_lets | split | dsimp +zetaDelta only

theorem State.modGc_in {x0 x1 m s a} (h : Within m s a) (hs : 68719476736 &&& m = 68719476736) :
    Within m s (State.modGc x0 x1 a) := by
  refine Within.step (m := 68719476736) h ?_ hs
  unfold State.modGc
  with_reducible repeat' first | exact .refl | refine .ite ?_ ?_ | refine Within.modMed ?_ rfl

theorem State.freeRu_in {x0 m s a} (h : Within m s a) (hs : 36031648877248544 &&& m = 36031648877248544) :
    Within m s (State.freeRu x0 a) := by
  refine Within.step (m := 36031648877248544) h ?_ hs
  unfold State.freeRu
  with_reducible repeat' first | exact .refl | refine State.dropMedia_in ?_ rfl | refine State.journalZone_in ?_ rfl | refine State.dropCopies_in ?_ rfl | refine Within.modZpm ?_ rfl

theorem State.gcMap_in {x0 x1 m s a} (h : Within m s a) (hs : 652835028992 &&& m = 652835028992) :
    Within m s (State.gcMap x0 x1 a) := by
  refine Within.step (m := 652835028992) h ?_ hs
  unfold State.gcMap
  with_reducible repeat' first | exact .refl | refine .ite ?_ ?_ | refine State.wlToQlc_in ?_ rfl | refine State.fdpCount_in ?_ rfl | refine State.setMap_in ?_ rfl | refine State.modGc_in ?_ rfl | refine State.modZone_in ?_ rfl | refine .each ?_ fun _ _ => ?_ | extract_lets | split | dsimp +zetaDelta only

theorem State.switchMigr_in {x0 x1 m s a} (h : Within m s a) (hs : 41098199011688480 &&& m = 41098199011688480) :
    Within m s (State.switchMigr x0 x1 a) := by
  refine Within.step (m := 41098199011688480) h ?_ hs
  unfold State.switchMigr; extract_lets
  with_reducible repeat' first | exact .refl | refine .ite ?_ ?_ | refine State.journalZone_in ?_ rfl | refine State.eraseRow_in ?_ rfl | refine State.dropCopies_in ?_ rfl | refine State.assertIf_in ?_ rfl | refine State.modZone_in ?_ rfl | refine State.modFold_in ?_ rfl | refine Within.modMed ?_ rfl | refine Within.modMsh ?_ rfl | refine .each ?_ fun _ _ => ?_ | refine .foldl ?_ fun _ _ => ?_ | extract_lets | dsimp +zetaDelta only

theorem State.switchUnit_in {x0 x1 x2 m s a} (h : Within m s a) (hs : 68719476736 &&& m = 68719476736) :
    Within m s (State.switchUnit x0 x1 x2 a) := by
  refine Within.step (m := 68719476736) h ?_ hs
  unfold State.switchUnit; extract_lets
  with_reducible repeat' first | exact .refl | refine .ite ?_ ?_ | refine Within.modMed ?_ rfl | extract_lets | split | dsimp +zetaDelta only

theorem State.copyEnd_in {x0 m s a} (h : Within m s a) (hs : 41098199011688480 &&& m = 41098199011688480) :
    Within m s (State.copyEnd x0 a) := by
  refine Within.step (m := 41098199011688480) h ?_ hs
  unfold State.copyEnd
  with_reducible repeat' first | exact .refl | refine .ite ?_ ?_ | refine State.switchUnit_in ?_ rfl | refine State.switchMigr_in ?_ rfl | refine State.dropCopies_in ?_ rfl | refine State.gcMap_in ?_ rfl | refine Within.modMed ?_ rfl | extract_lets | split | dsimp +zetaDelta only

theorem State.copyGo_in {x0 m s a} (h : Within m s a) (hs : 43358803508335648 &&& m = 43358803508335648) :
    Within m s (State.copyGo x0 a) := by
  refine Within.step (m := 43358803508335648) h ?_ hs
  unfold State.copyGo
  with_reducible repeat' first | exact .refl | refine .ite ?_ ?_ | refine State.copyNext_in ?_ rfl | refine State.copyEnd_in ?_ rfl | refine State.modCopy_in ?_ rfl | extract_lets | split | dsimp +zetaDelta only

theorem State.startCopy_in {x0 m s a} (h : Within m s a) (hs : 43358803508335648 &&& m = 43358803508335648) :
    Within m s (State.startCopy x0 a) := by
  refine Within.step (m := 43358803508335648) h ?_ hs
  unfold State.startCopy; extract_lets
  with_reducible repeat' first | exact .refl | refine State.nextSerial_in ?_ rfl | refine State.copyGo_in ?_ rfl | refine Within.modMed ?_ rfl | extract_lets | dsimp +zetaDelta only

theorem State.copyAll_in {m s a} (h : Within m s a) (hs : 43358803508335648 &&& m = 43358803508335648) :
    Within m s (State.copyAll a) := by
  refine Within.step (m := 43358803508335648) h ?_ hs
  unfold State.copyAll
  with_reducible repeat' first | exact .refl | refine State.copyGo_in ?_ rfl | refine .each ?_ fun _ _ => ?_

theorem gcDest_in {c : Prop} [Decidable c] {o : Option Nat} {x0 x1 x2 x4 i : Nat} {x3 : ZState} {m : Nat} {s a t : State}
    (e : (if c then o.map (fun d => (d, a)) else a.newRu x0 x1 x2 x3 x4) = some (i, t)) (h : Within m s a) (hs : 36028900098179104 &&& m = 36028900098179104) :
    Within m s t := by
  split at e
  · obtain ⟨d, _, hd⟩ := Option.map_eq_some_iff.1 e
    cases hd; exact h
  · exact State.newRu_in e h hs

theorem State.gcNext_in {x0 x1 m s a} (h : Within m s a) (hs : 43358803508335648 &&& m = 43358803508335648) :
    Within m s (State.gcNext x0 x1 a) := by
  induction x1 generalizing x0 s a m with
  | zero => exact h
  | succ n ih =>
    refine Within.step (m := 43358803508335648) h ?_ hs
    unfold State.gcNext; try extract_lets
    with_reducible repeat' first | exact .refl | refine .ite ?_ ?_ | refine State.releaseRows_in ?_ rfl | refine State.startCopy_in ?_ rfl | refine State.freeRu_in ?_ rfl | refine State.modGc_in ?_ rfl | refine State.newRu_in ‹_› ?_ rfl | refine Within.modMed ?_ rfl | refine gcDest_in ‹_› ?_ rfl | refine ih ?_ rfl | extract_lets | split | dsimp +zetaDelta only

theorem State.gcRetry_in {m s a} (h : Within m s a) (hs : 43358803508335648 &&& m = 43358803508335648) :
    Within m s (State.gcRetry a) := by
  refine Within.step (m := 43358803508335648) h ?_ hs
  unfold State.gcRetry
  with_reducible repeat' first | exact .refl | refine State.gcNext_in ?_ rfl | refine .each ?_ fun _ _ => ?_

theorem State.gcCheck_in {x0 x1 m s a} (h : Within m s a) (hs : 43358803508335648 &&& m = 43358803508335648) :
    Within m s (State.gcCheck x0 x1 a) := by
  refine Within.step (m := 43358803508335648) h ?_ hs
  unfold State.gcCheck
  with_reducible repeat' first | exact .refl | refine .ite ?_ ?_ | refine State.assertEvent_in ?_ rfl | refine State.gcNext_in ?_ rfl | refine Within.modMed ?_ rfl

theorem State.gcRow_in {x0 x1 m s a} (h : Within m s a) (hs : 43358803508335648 &&& m = 43358803508335648) :
    Within m s (State.gcRow x0 x1 a) := by
  refine Within.step (m := 43358803508335648) h ?_ hs
  unfold State.gcRow
  with_reducible repeat' first | exact .refl | refine .ite ?_ ?_ | refine State.gcCheck_in ?_ rfl | refine .each ?_ fun _ _ => ?_

theorem State.startMigr_in {x0 x1 x2 x3 x4 m s a} (h : Within m s a) (hs : 43358803508335648 &&& m = 43358803508335648) :
    Within m s (State.startMigr x0 x1 x2 x3 x4 a) := by
  refine Within.step (m := 43358803508335648) h ?_ hs
  unfold State.startMigr; extract_lets
  with_reducible repeat' first | exact .refl | refine .ite ?_ ?_ | refine State.assertIf_in ?_ rfl | refine State.startCopy_in ?_ rfl | refine State.gcRow_in ?_ rfl | refine Within.modMed ?_ rfl | refine Within.modZpm ?_ rfl | refine .foldl ?_ fun _ _ => ?_ | extract_lets | dsimp +zetaDelta only

theorem State.tryMigr_in {x0 m s a} (h : Within m s a) (hs : 43358803508335648 &&& m = 43358803508335648) :
    Within m s (State.tryMigr x0 a) := by
  refine Within.step (m := 43358803508335648) h ?_ hs
  unfold State.tryMigr; extract_lets
  with_reducible repeat' first | exact .refl | refine .ite ?_ ?_ | refine State.startMigr_in ?_ rfl | refine Within.modMed ?_ rfl | extract_lets | split | dsimp +zetaDelta only

theorem State.retryMigr_in {m s a} (h : Within m s a) (hs : 43358803508335648 &&& m = 43358803508335648) :
    Within m s (State.retryMigr a) := by
  refine Within.step (m := 43358803508335648) h ?_ hs
  unfold State.retryMigr
  with_reducible repeat' first | exact .refl | refine State.tryMigr_in ?_ rfl | refine .each ?_ fun _ _ => ?_

theorem State.wlCheck_in {x0 m s a} (h : Within m s a) (hs : 43358803508335648 &&& m = 43358803508335648) :
    Within m s (State.wlCheck x0 a) := by
  refine Within.step (m := 43358803508335648) h ?_ hs
  unfold State.wlCheck; extract_lets
  with_reducible repeat' first | exact .refl | refine .ite ?_ ?_ | refine State.startMigr_in ?_ rfl | extract_lets | split

theorem State.rowOut_in {x0 x1 m s a} (h : Within m s a) (hs : 43358803508335648 &&& m = 43358803508335648) :
    Within m s (State.rowOut x0 x1 a) := by
  refine Within.step (m := 43358803508335648) h ?_ hs
  unfold State.rowOut; extract_lets
  with_reducible repeat' first | exact .refl | refine .ite ?_ ?_ | refine State.assertEvent_in ?_ rfl | refine State.dropCopies_in ?_ rfl | refine State.quitMigr_in ?_ rfl | refine State.criticalWarning_in ?_ rfl | refine State.readOnlyZone_in ?_ rfl | refine State.tryMigr_in ?_ rfl | refine State.detachRu_in ?_ rfl | refine Within.modMed ?_ rfl | refine Within.modZpm ?_ rfl | extract_lets | split | dsimp +zetaDelta only

theorem State.eraseSpare_in {x0 x1 x2 m s a} (h : Within m s a) (hs : 549755813888 &&& m = 549755813888) :
    Within m s (State.eraseSpare x0 x1 x2 a) := by
  refine Within.step (m := 549755813888) h ?_ hs
  unfold State.eraseSpare
  with_reducible repeat' first | exact .refl | refine State.submitErase_in ?_ rfl

theorem State.replaceRowUnit_in {x0 x1 x2 x3 m s a} (h : Within m s a) (hs : 43358803508335712 &&& m = 43358803508335712) :
    Within m s (State.replaceRowUnit x0 x1 x2 x3 a) := by
  refine Within.step (m := 43358803508335712) h ?_ hs
  unfold State.replaceRowUnit; extract_lets
  with_reducible repeat' first | exact .refl | refine .ite ?_ ?_ | refine State.eraseSpare_in ?_ rfl | refine State.rowOut_in ?_ rfl | refine State.modUnit_in ?_ rfl | refine State.nextSerial_in ?_ rfl | refine State.startCopy_in ?_ rfl | refine State.retireUnit_in ?_ rfl | refine Within.modMed ?_ rfl | refine Within.modZpm ?_ rfl | extract_lets | split | dsimp +zetaDelta only

theorem State.copyFail_in {x0 x1 m s a} (h : Within m s a) (hs : 43358803508335712 &&& m = 43358803508335712) :
    Within m s (State.copyFail x0 x1 a) := by
  refine Within.step (m := 43358803508335712) h ?_ hs
  unfold State.copyFail
  with_reducible repeat' first | exact .refl | refine State.modCopy_in ?_ rfl | refine State.copyDrop_in ?_ rfl | refine State.replaceRowUnit_in ?_ rfl | extract_lets | split | dsimp +zetaDelta only

theorem State.unitReady_in {x0 x1 m s a} (h : Within m s a) (hs : 68719476736 &&& m = 68719476736) :
    Within m s (State.unitReady x0 x1 a) := by
  refine Within.step (m := 68719476736) h ?_ hs
  unfold State.unitReady; extract_lets
  with_reducible repeat' first | exact .refl | refine .ite ?_ ?_ | refine Within.modMed ?_ rfl | extract_lets | split | dsimp +zetaDelta only

theorem State.replaceSlcUnit_in {x0 x1 m s a} (h : Within m s a) (hs : 7318977013350464 &&& m = 7318977013350464) :
    Within m s (State.replaceSlcUnit x0 x1 a) := by
  refine Within.step (m := 7318977013350464) h ?_ hs
  unfold State.replaceSlcUnit; extract_lets
  with_reducible repeat' first | exact .refl | refine State.eraseSpare_in ?_ rfl | refine State.modUnit_in ?_ rfl | refine State.retireUnit_in ?_ rfl | extract_lets | split | dsimp +zetaDelta only

theorem State.kilnTidy_in {x0 m s a} (h : Within m s a) (hs : 68719476736 &&& m = 68719476736) :
    Within m s (State.kilnTidy x0 a) := by
  refine Within.step (m := 68719476736) h ?_ hs
  unfold State.kilnTidy; extract_lets
  with_reducible repeat' first | exact .refl | refine .ite ?_ ?_ | refine Within.modMed ?_ rfl | extract_lets | dsimp +zetaDelta only

theorem State.kilnRelease_in {x0 x1 x2 m s a} (h : Within m s a) (hs : 38281249667678240 &&& m = 38281249667678240) :
    Within m s (State.kilnRelease x0 x1 x2 a) := by
  refine Within.step (m := 38281249667678240) h ?_ hs
  unfold State.kilnRelease; extract_lets
  with_reducible repeat' first | exact .refl | refine .ite ?_ ?_ | refine State.journalZone_in ?_ rfl | refine State.journalMap_in ?_ rfl | refine State.flushIfDue_in ?_ rfl | refine State.wlToQlc_in ?_ rfl | refine State.fdpCount_in ?_ rfl | refine State.tally_in ?_ rfl | refine State.compactAll_in ?_ rfl | refine State.kilnTidy_in ?_ rfl | refine State.modFold_in ?_ rfl | refine .each ?_ fun _ _ => ?_ | extract_lets | split | dsimp +zetaDelta only

theorem State.kilnRun_in {x0 x1 x2 x3 x4 x5 m s a} (h : Within m s a) (hs : 43358803508335648 &&& m = 43358803508335648) :
    Within m s (State.kilnRun x0 x1 x2 x3 x4 x5 a) := by
  induction x2 generalizing x0 x1 x3 x4 x5 s a m with
  | zero => exact h
  | succ n ih =>
    refine Within.step (m := 43358803508335648) h ?_ hs
    unfold State.kilnRun; try extract_lets
    with_reducible repeat' first | exact .refl | refine .ite ?_ ?_ | refine State.kilnRelease_in ?_ rfl | refine State.pageAsk_in ?_ rfl | refine State.pageAsk_in_eq ‹_› ?_ rfl | refine State.modFold_in ?_ rfl | refine State.submitHw_in ?_ rfl | refine ih ?_ rfl | extract_lets | split | dsimp +zetaDelta only

theorem State.kilnKick_in {x0 x1 m s a} (h : Within m s a) (hs : 43358803508335648 &&& m = 43358803508335648) :
    Within m s (State.kilnKick x0 x1 a) := by
  refine Within.step (m := 43358803508335648) h ?_ hs
  unfold State.kilnKick; extract_lets
  with_reducible repeat' first | exact .refl | refine .ite ?_ ?_ | refine State.kilnRun_in ?_ rfl | refine State.modFold_in ?_ rfl | extract_lets | split | dsimp +zetaDelta only

theorem State.kilnStart_in {m s a} (h : Within m s a) (hs : 43358803508335648 &&& m = 43358803508335648) :
    Within m s (State.kilnStart a) := by
  refine Within.step (m := 43358803508335648) h ?_ hs
  unfold State.kilnStart
  with_reducible repeat' first | exact .refl | refine State.kilnKick_in ?_ rfl | refine .each ?_ fun _ _ => ?_

theorem State.kilnNext_in {x0 x1 m s a} (h : Within m s a) (hs : 43358803508335648 &&& m = 43358803508335648) :
    Within m s (State.kilnNext x0 x1 a) := by
  refine Within.step (m := 43358803508335648) h ?_ hs
  unfold State.kilnNext
  with_reducible repeat' first | exact .refl | refine State.kilnRun_in ?_ rfl | split

theorem State.kilnAgain_in {x0 x1 x2 m s a} (h : Within m s a) (hs : 68719476736 &&& m = 68719476736) :
    Within m s (State.kilnAgain x0 x1 x2 a) := by
  refine Within.step (m := 68719476736) h ?_ hs
  unfold State.kilnAgain
  with_reducible repeat' first | exact .refl | refine State.modFold_in ?_ rfl | refine .foldl ?_ fun _ _ => ?_ | extract_lets | dsimp +zetaDelta only

theorem State.kilnRefold_in {x0 x1 x2 m s a} (h : Within m s a) (hs : 43358803508335712 &&& m = 43358803508335712) :
    Within m s (State.kilnRefold x0 x1 x2 a) := by
  refine Within.step (m := 43358803508335712) h ?_ hs
  unfold State.kilnRefold; extract_lets
  with_reducible repeat' first | exact .refl | refine State.kilnAgain_in ?_ rfl | refine State.replaceRowUnit_in ?_ rfl | extract_lets | dsimp +zetaDelta only

theorem State.backFailed_in {m s a} (h : Within m s a) (hs : 5067168609730624 &&& m = 5067168609730624) :
    Within m s (State.backFailed a) := by
  refine Within.step (m := 5067168609730624) h ?_ hs
  unfold State.backFailed
  with_reducible repeat' first | exact .refl | refine State.healthCount_in ?_ rfl | refine State.assertEvent_in ?_ rfl | refine Within.countAt ?_ MED_ERRCNT.RBFAIL_part rfl

theorem State.slcDone_in {x0 x1 x2 x3 x4 x5 m s a} (h : Within m s a) (hs : 43358803508334624 &&& m = 43358803508334624) :
    Within m s (State.slcDone x0 x1 x2 x3 x4 x5 a) := by
  refine Within.step (m := 43358803508334624) h ?_ hs
  unfold State.slcDone; extract_lets
  with_reducible repeat' first | exact .refl | refine .ite ?_ ?_ | refine State.chunkDone_in ?_ rfl | refine State.assertIf_in ?_ rfl | refine State.setChunk_in ?_ rfl | refine State.fdpCount_in ?_ rfl | refine State.modSlcLive_in ?_ rfl | refine Within.modMsh ?_ rfl | refine .each ?_ fun _ _ => ?_ | extract_lets | dsimp +zetaDelta only

theorem State.mediaTurn_in {m s a} (h : Within m s a) (hs : 43358803508335648 &&& m = 43358803508335648) :
    Within m s (State.mediaTurn a) := by
  refine Within.step (m := 43358803508335648) h ?_ hs
  unfold State.mediaTurn
  with_reducible repeat' first | exact .refl | refine State.retryMigr_in ?_ rfl | refine State.copyAll_in ?_ rfl | refine State.gcRetry_in ?_ rfl | refine State.releaseErases_in ?_ rfl | refine State.kilnStart_in ?_ rfl

/-! ReadOps.lean -/

theorem State.setBlock_in {x0 x1 x2 x3 m s a} (h : Within m s a) (hs : 34359738368 &&& m = 34359738368) :
    Within m s (State.setBlock x0 x1 x2 x3 a) := by
  refine Within.step (m := 34359738368) h ?_ hs
  unfold State.setBlock
  with_reducible repeat' first | exact .refl | refine Within.modZpm ?_ rfl

theorem State.dropBlock_in {x0 x1 m s a} (h : Within m s a) (hs : 34359738368 &&& m = 34359738368) :
    Within m s (State.dropBlock x0 x1 a) := by
  refine Within.step (m := 34359738368) h ?_ hs
  unfold State.dropBlock
  with_reducible repeat' first | exact .refl | refine Within.modZpm ?_ rfl

theorem State.readServed_in {x0 m s a} (h : Within m s a) (hs : 5067177199665152 &&& m = 5067177199665152) :
    Within m s (State.readServed x0 a) := by
  refine Within.step (m := 5067177199665152) h ?_ hs
  unfold State.readServed
  with_reducible repeat' first | exact .refl | refine .ite ?_ ?_ | refine State.assertEvent_in ?_ rfl | refine State.integrityError_in ?_ rfl | refine State.outcome_in ?_ rfl | split

theorem State.readDone_in {x0 m s a} (h : Within m s a) (hs : 5067177199665152 &&& m = 5067177199665152) :
    Within m s (State.readDone x0 a) := by
  refine Within.step (m := 5067177199665152) h ?_ hs
  unfold State.readDone
  with_reducible repeat' first | exact .refl | refine State.modCmd_in ?_ rfl | refine State.readServed_in ?_ rfl

theorem State.readFailed_in {x0 x1 m s a} (h : Within m s a) (hs : 77309411328 &&& m = 77309411328) :
    Within m s (State.readFailed x0 x1 a) := by
  refine Within.step (m := 77309411328) h ?_ hs
  unfold State.readFailed; extract_lets
  with_reducible repeat' first | exact .refl | refine .ite ?_ ?_ | refine State.integrityError_in ?_ rfl | refine State.modCmd_in ?_ rfl | split

theorem State.submitRead_in {x0 x1 x2 x3 x4 x5 m s a} (h : Within m s a) (hs : 549755813888 &&& m = 549755813888) :
    Within m s (State.submitRead x0 x1 x2 x3 x4 x5 a) := by
  refine Within.step (m := 549755813888) h ?_ hs
  unfold State.submitRead
  with_reducible repeat' first | exact .refl | refine State.submitPage_in ?_ rfl

theorem State.addCandidate_in {x0 x1 x2 x3 x4 x5 x6 x7 m s a} (h : Within m s a) (hs : 5068199401882112 &&& m = 5068199401882112) :
    Within m s (State.addCandidate x0 x1 x2 x3 x4 x5 x6 x7 a) := by
  refine Within.step (m := 5068199401882112) h ?_ hs
  unfold State.addCandidate; extract_lets
  with_reducible repeat' first | exact .refl | refine .ite ?_ ?_ | refine State.assertEvent_in ?_ rfl | refine Within.countAt ?_ ECC_STAT.CANDLOST_part rfl | refine Within.modEcc ?_ rfl

theorem State.guardCandidate_in {x0 x1 m s a} (h : Within m s a) (hs : 5068199401882112 &&& m = 5068199401882112) :
    Within m s (State.guardCandidate x0 x1 a) := by
  refine Within.step (m := 5068199401882112) h ?_ hs
  unfold State.guardCandidate
  with_reducible repeat' first | exact .refl | refine State.addCandidate_in ?_ rfl | split

theorem State.guardFailed_in {x0 m s a} (h : Within m s a) (hs : 5067177199665664 &&& m = 5067177199665664) :
    Within m s (State.guardFailed x0 a) := by
  refine Within.step (m := 5067177199665664) h ?_ hs
  unfold State.guardFailed
  with_reducible repeat' first | exact .refl | refine State.assertEvent_in ?_ rfl | refine State.modCmd_in ?_ rfl | refine State.readFailed_in ?_ rfl | refine Within.countAt ?_ ECC_GUARDCNT.READFAIL_part rfl

theorem State.reconLost_in {x0 x1 x2 x3 x4 m s a} (h : Within m s a) (hs : 43358803508336160 &&& m = 43358803508336160) :
    Within m s (State.reconLost x0 x1 x2 x3 x4 a) := by
  refine Within.step (m := 43358803508336160) h ?_ hs
  unfold State.reconLost; extract_lets
  with_reducible repeat' first | exact .refl | refine .ite ?_ ?_ | refine State.guardFailed_in ?_ rfl | refine State.readFailed_in ?_ rfl | refine State.loseStripe_in ?_ rfl | extract_lets | dsimp +zetaDelta only

theorem State.reconServed_in {m s a} (h : Within m s a) (hs : 5069298913509376 &&& m = 5069298913509376) :
    Within m s (State.reconServed a) := by
  refine Within.step (m := 5069298913509376) h ?_ hs
  unfold State.reconServed
  with_reducible repeat' first | exact .refl | refine .ite ?_ ?_ | refine State.assertEvent_in ?_ rfl | refine Within.modMsh ?_ rfl

theorem State.startRecon_in {x0 x1 x2 x3 x4 m s a} (h : Within m s a) (hs : 43358803508336160 &&& m = 43358803508336160) :
    Within m s (State.startRecon x0 x1 x2 x3 x4 a) := by
  refine Within.step (m := 43358803508336160) h ?_ hs
  unfold State.startRecon; extract_lets
  with_reducible repeat' first | exact .refl | refine .ite ?_ ?_ | refine State.submitRead_in ?_ rfl | refine State.reconServed_in ?_ rfl | refine State.reconLost_in ?_ rfl | refine State.readDone_in ?_ rfl | refine Within.modMsh ?_ rfl | refine .each ?_ fun _ _ => ?_ | extract_lets | dsimp +zetaDelta only

theorem State.reconRead_in {x0 x1 x2 x3 x4 m s a} (h : Within m s a) (hs : 43359903019963936 &&& m = 43359903019963936) :
    Within m s (State.reconRead x0 x1 x2 x3 x4 a) := by
  refine Within.step (m := 43359903019963936) h ?_ hs
  unfold State.reconRead
  with_reducible repeat' first | exact .refl | refine .ite ?_ ?_ | refine State.submitRead_in ?_ rfl | refine State.reconServed_in ?_ rfl | refine State.reconLost_in ?_ rfl | refine State.tally_in ?_ rfl | refine State.readDone_in ?_ rfl | refine State.guardCandidate_in ?_ rfl | refine Within.modMsh ?_ rfl | extract_lets | split | dsimp +zetaDelta only

theorem State.readUnit_in {x0 x1 x2 x3 x4 m s a} (h : Within m s a) (hs : 43358803508336160 &&& m = 43358803508336160) :
    Within m s (State.readUnit x0 x1 x2 x3 x4 a) := by
  refine Within.step (m := 43358803508336160) h ?_ hs
  unfold State.readUnit
  with_reducible repeat' first | exact .refl | refine .ite ?_ ?_ | refine State.submitRead_in ?_ rfl | refine State.startRecon_in ?_ rfl | refine State.readFailed_in ?_ rfl | refine State.modCmd_in ?_ rfl | extract_lets | split | dsimp +zetaDelta only

theorem State.readMedia_in {x0 m s a} (h : Within m s a) (hs : 43358803508336160 &&& m = 43358803508336160) :
    Within m s (State.readMedia x0 a) := by
  refine Within.step (m := 43358803508336160) h ?_ hs
  unfold State.readMedia
  with_reducible repeat' first | exact .refl | refine .ite ?_ ?_ | refine State.readUnit_in ?_ rfl | refine State.readServed_in ?_ rfl | refine .each ?_ fun _ _ => ?_ | extract_lets | dsimp +zetaDelta only

theorem State.startRead_in {x0 m s a} (h : Within m s a) (hs : 43358803508336224 &&& m = 43358803508336224) :
    Within m s (State.startRead x0 a) := by
  refine Within.step (m := 43358803508336224) h ?_ hs
  unfold State.startRead; extract_lets
  with_reducible repeat' first | exact .refl | refine .ite ?_ ?_ | refine State.readMedia_in ?_ rfl | refine State.modCmd_in ?_ rfl | refine State.outcome_in ?_ rfl | refine State.mapLookup_in ?_ rfl | extract_lets | split | dsimp +zetaDelta only

/-! CmdOps.lean -/

theorem State.modPiece_in {x0 x1 x2 m s a} (h : Within m s a) (hs : 8589934592 &&& m = 8589934592) :
    Within m s (State.modPiece x0 x1 x2 a) := by
  refine Within.step (m := 8589934592) h ?_ hs
  unfold State.modPiece
  with_reducible repeat' first | exact .refl | refine State.modCmd_in ?_ rfl

theorem State.stripeUnit_in {x0 x1 x2 x3 m s a} (h : Within m s a) (hs : 2199023255552 &&& m = 2199023255552) :
    Within m s (State.stripeUnit x0 x1 x2 x3 a) := by
  refine Within.step (m := 2199023255552) h ?_ hs
  unfold State.stripeUnit; extract_lets
  with_reducible repeat' first | exact .refl | refine State.addParity_in ?_ rfl

theorem State.reshapeZone_in {x0 m s a} (h : Within m s a) (hs : 43358803508335648 &&& m = 43358803508335648) :
    Within m s (State.reshapeZone x0 a) := by
  refine Within.step (m := 43358803508335648) h ?_ hs
  unfold State.reshapeZone
  with_reducible repeat' first | exact .refl | refine .ite ?_ ?_ | refine State.startMigr_in ?_ rfl | refine Within.modMsh ?_ rfl | extract_lets | split | dsimp +zetaDelta only

theorem State.endZone_in {x0 m s a} (h : Within m s a) (hs : 43358803508335648 &&& m = 43358803508335648) :
    Within m s (State.endZone x0 a) := by
  refine Within.step (m := 43358803508335648) h ?_ hs
  unfold State.endZone; extract_lets
  with_reducible repeat' first | exact .refl | refine .ite ?_ ?_ | refine State.stripeUnit_in ?_ rfl | refine State.reshapeZone_in ?_ rfl | refine State.progTail_in ?_ rfl | extract_lets | dsimp +zetaDelta only

theorem State.endDone_in {x0 m s a} (h : Within m s a) (hs : 43358803508335648 &&& m = 43358803508335648) :
    Within m s (State.endDone x0 a) := by
  refine Within.step (m := 43358803508335648) h ?_ hs
  unfold State.endDone; extract_lets
  with_reducible repeat' first | exact .refl | refine .ite ?_ ?_ | refine State.journalFullZone_in ?_ rfl | refine State.endZone_in ?_ rfl | extract_lets | dsimp +zetaDelta only

theorem State.dropAsk_in {m s a} (h : Within m s a) (hs : 7327695796965376 &&& m = 7327695796965376) :
    Within m s (State.dropAsk a) := by
  refine Within.step (m := 7327695796965376) h ?_ hs
  unfold State.dropAsk
  with_reducible repeat' first | exact .refl | refine freeFront_in ?_ rfl | refine Within.modTubs ?_ rfl | split

theorem State.dropPieces_in {x0 m s a} (h : Within m s a) (hs : 43358803508335656 &&& m = 43358803508335656) :
    Within m s (State.dropPieces x0 a) := by
  refine Within.step (m := 43358803508335656) h ?_ hs
  unfold State.dropPieces; extract_lets
  with_reducible repeat' first | exact .refl | refine .ite ?_ ?_ | refine freeFront_in ?_ rfl | refine State.endDone_in ?_ rfl | refine State.failRange_in ?_ rfl | refine State.dropAsk_in ?_ rfl | refine State.modZone_in ?_ rfl | refine Within.modMed ?_ rfl | refine .each ?_ fun _ _ => ?_ | extract_lets | split | dsimp +zetaDelta only

theorem State.failCmd_in {x0 x1 m s a} (h : Within m s a) (hs : 43358803508335656 &&& m = 43358803508335656) :
    Within m s (State.failCmd x0 x1 a) := by
  refine Within.step (m := 43358803508335656) h ?_ hs
  unfold State.failCmd
  with_reducible repeat' first | exact .refl | refine .ite ?_ ?_ | refine State.outcome_in ?_ rfl | refine State.dropPieces_in ?_ rfl | split

theorem State.abortCmd_in {x0 m s a} (h : Within m s a) (hs : 43358803508335656 &&& m = 43358803508335656) :
    Within m s (State.abortCmd x0 a) := by
  refine Within.step (m := 43358803508335656) h ?_ hs
  unfold State.abortCmd; extract_lets
  with_reducible repeat' first | exact .refl | refine .ite ?_ ?_ | refine State.dropPieces_in ?_ rfl | refine Within.modMed ?_ rfl | refine Within.modMsh ?_ rfl | refine Within.modHfe ?_ rfl | extract_lets | dsimp +zetaDelta only

theorem State.withdrawGone_in {m s a} (h : Within m s a) (hs : 618475290624 &&& m = 618475290624) :
    Within m s (State.withdrawGone a) := by
  refine Within.step (m := 618475290624) h ?_ hs
  unfold State.withdrawGone
  with_reducible repeat' first | exact .refl | refine State.setQueue_in ?_ rfl | refine State.modEng_in ?_ rfl | refine Within.modMed ?_ rfl | refine .each ?_ fun _ _ => ?_ | extract_lets | dsimp +zetaDelta only

theorem State.abortFn_in {x0 m s a} (h : Within m s a) (hs : 43358803508335656 &&& m = 43358803508335656) :
    Within m s (State.abortFn x0 a) := by
  refine Within.step (m := 43358803508335656) h ?_ hs
  unfold State.abortFn; extract_lets
  with_reducible repeat' first | exact .refl | refine State.modFn_in ?_ rfl | refine State.abortCmd_in ?_ rfl | refine State.withdrawGone_in ?_ rfl | refine Within.modHfe ?_ rfl | refine .each ?_ fun _ _ => ?_

theorem State.linkTub_in {x0 x1 x2 x3 m s a} (h : Within m s a) (hs : 7327704386899968 &&& m = 7327704386899968) :
    Within m s (State.linkTub x0 x1 x2 x3 a) := by
  refine Within.step (m := 7327704386899968) h ?_ hs
  unfold State.linkTub
  with_reducible repeat' first | exact .refl | refine freeTubUnit_in ?_ rfl | refine Within.modHfe ?_ rfl | refine .each ?_ fun _ _ => ?_ | refine .foldl ?_ fun _ _ => ?_ | extract_lets | split | dsimp +zetaDelta only

theorem State.putBlocks_in {x0 x1 m s a} (h : Within m s a) (hs : 34359738368 &&& m = 34359738368) :
    Within m s (State.putBlocks x0 x1 a) := by
  refine Within.step (m := 34359738368) h ?_ hs
  unfold State.putBlocks
  with_reducible repeat' first | exact .refl | refine State.setBlock_in ?_ rfl | refine .each ?_ fun _ _ => ?_

theorem State.commitZoned_in {x0 x1 m s a} (h : Within m s a) (hs : 43358803508335648 &&& m = 43358803508335648) :
    Within m s (State.commitZoned x0 x1 a) := by
  refine Within.step (m := 43358803508335648) h ?_ hs
  unfold State.commitZoned; extract_lets
  with_reducible repeat' first | exact .refl | refine .ite ?_ ?_ | refine State.endDone_in ?_ rfl | refine State.stripeUnit_in ?_ rfl | refine State.linkTub_in ?_ rfl | refine State.noteWriter_in ?_ rfl | refine State.putBlocks_in ?_ rfl | refine State.modZone_in ?_ rfl | refine State.advance_in ?_ rfl | refine State.progRange_in ?_ rfl | refine .each ?_ fun _ _ => ?_ | extract_lets | dsimp +zetaDelta only

theorem State.ruFor_in {x0 x1 x2 x3 x4 i : Nat} {m : Nat} {s a t : State} (e : a.ruFor x0 x1 x2 x3 x4 = some (i, t))
    (h : Within m s a) (hs : 43358803508335648 &&& m = 43358803508335648) : Within m s t := by
  refine Within.step (m := 43358803508335648) h ?_ hs
  unfold State.ruFor at e
  split at e
  · cases e; exact Within.refl
  · obtain ⟨⟨j, u⟩, hu, he⟩ := Option.map_eq_some_iff.1 e
    cases he
    exact State.gcCheck_in (State.journalZone_in ((State.newRu_in hu Within.refl rfl).modZpm rfl) rfl) rfl

theorem State.placeUnits_in {x0 x1 x2 m s a} (h : Within m s a) (hs : 43358803508335648 &&& m = 43358803508335648) :
    Within m s (State.placeUnits x0 x1 x2 a) := by
  induction x1 generalizing x0 x2 s a m with
  | zero => exact h
  | succ n ih =>
    refine Within.step (m := 43358803508335648) h ?_ hs
    unfold State.placeUnits; try extract_lets
    with_reducible repeat' first | exact .refl | refine .ite ?_ ?_ | refine State.stripeUnit_in ?_ rfl | refine State.setMap_in ?_ rfl | refine State.ruFor_in ‹_› ?_ rfl | refine State.modZone_in ?_ rfl | refine State.detachRu_in ?_ rfl | refine State.progRange_in ?_ rfl | refine ih ?_ rfl | extract_lets | split | dsimp +zetaDelta only

theorem State.commitConv_in {x0 x1 m s a} (h : Within m s a) (hs : 43358803508335648 &&& m = 43358803508335648) :
    Within m s (State.commitConv x0 x1 a) := by
  refine Within.step (m := 43358803508335648) h ?_ hs
  unfold State.commitConv; extract_lets
  with_reducible repeat' first | exact .refl | refine State.linkTub_in ?_ rfl | refine State.fdpCount_in ?_ rfl | refine State.placeUnits_in ?_ rfl | refine State.putBlocks_in ?_ rfl | extract_lets | dsimp +zetaDelta only

theorem State.commitPiece_in {x0 x1 m s a} (h : Within m s a) (hs : 43358803508335648 &&& m = 43358803508335648) :
    Within m s (State.commitPiece x0 x1 a) := by
  refine Within.step (m := 43358803508335648) h ?_ hs
  unfold State.commitPiece
  with_reducible repeat' first | exact .refl | refine .ite ?_ ?_ | refine State.commitZoned_in ?_ rfl | refine State.modPiece_in ?_ rfl | refine State.commitConv_in ?_ rfl | refine State.outcome_in ?_ rfl | split

theorem State.dropZoneData_in {x0 m s a} (h : Within m s a) (hs : 7327738746638336 &&& m = 7327738746638336) :
    Within m s (State.dropZoneData x0 a) := by
  refine Within.step (m := 7327738746638336) h ?_ hs
  unfold State.dropZoneData; extract_lets
  with_reducible repeat' first | exact .refl | refine freeTubUnit_in ?_ rfl | refine Within.modZpm ?_ rfl | refine .each ?_ fun _ _ => ?_ | extract_lets | dsimp +zetaDelta only

theorem State.dropRow_in {x0 x1 x2 m s a} (h : Within m s a) (hs : 5069401992724480 &&& m = 5069401992724480) :
    Within m s (State.dropRow x0 x1 x2 a) := by
  refine Within.step (m := 5069401992724480) h ?_ hs
  unfold State.dropRow; extract_lets
  with_reducible repeat' first | exact .refl | refine State.dropMedia_in ?_ rfl | refine State.releaseRows_in ?_ rfl | refine State.dropMigr_in ?_ rfl | refine State.dropCopies_in ?_ rfl | refine State.modZone_in ?_ rfl | extract_lets | dsimp +zetaDelta only

theorem State.emptyZone_in {x0 x1 x2 m s a} (h : Within m s a) (hs : 7330006489370624 &&& m = 7330006489370624) :
    Within m s (State.emptyZone x0 x1 x2 a) := by
  refine Within.step (m := 7330006489370624) h ?_ hs
  unfold State.emptyZone; extract_lets
  with_reducible repeat' first | exact .refl | refine .ite ?_ ?_ | refine State.dropRow_in ?_ rfl | refine State.dropZoneData_in ?_ rfl | refine State.modZone_in ?_ rfl | extract_lets | dsimp +zetaDelta only

theorem State.commitReset_in {x0 x1 m s a} (h : Within m s a) (hs : 43358803508334624 &&& m = 43358803508334624) :
    Within m s (State.commitReset x0 x1 a) := by
  refine Within.step (m := 43358803508334624) h ?_ hs
  unfold State.commitReset
  with_reducible repeat' first | exact .refl | refine State.journalZone_in ?_ rfl | refine State.emptyZone_in ?_ rfl | refine State.tally_in ?_ rfl

theorem State.handRows_in {x0 m s a} (h : Within m s a) (hs : 43358803508334624 &&& m = 43358803508334624) :
    Within m s (State.handRows x0 a) := by
  refine Within.step (m := 43358803508334624) h ?_ hs
  unfold State.handRows; extract_lets
  with_reducible repeat' first | exact .refl | refine State.dropMedia_in ?_ rfl | refine State.journalZone_in ?_ rfl | refine State.dropMigr_in ?_ rfl | refine State.dropCopies_in ?_ rfl | refine State.modUnit_in ?_ rfl | refine State.dropZoneData_in ?_ rfl | refine State.submitErase_in ?_ rfl | refine State.modZone_in ?_ rfl | refine Within.modZpm ?_ rfl | refine .each ?_ fun _ _ => ?_ | extract_lets | dsimp +zetaDelta only

theorem State.commitAct_in {x0 m s a} (h : Within m s a) (hs : 43358803508335648 &&& m = 43358803508335648) :
    Within m s (State.commitAct x0 a) := by
  refine Within.step (m := 43358803508335648) h ?_ hs
  unfold State.commitAct
  with_reducible repeat' first | exact .refl | refine .ite ?_ ?_ | refine State.journalZone_in ?_ rfl | refine State.dropRow_in ?_ rfl | refine State.journalFullZone_in ?_ rfl | refine State.endZone_in ?_ rfl | refine State.handRows_in ?_ rfl | refine State.commitReset_in ?_ rfl | refine .each ?_ fun _ _ => ?_ | extract_lets | split | dsimp +zetaDelta only

theorem State.commitDealloc_in {x0 m s a} (h : Within m s a) (hs : 7327807466115072 &&& m = 7327807466115072) :
    Within m s (State.commitDealloc x0 a) := by
  refine Within.step (m := 7327807466115072) h ?_ hs
  unfold State.commitDealloc
  with_reducible repeat' first | exact .refl | refine freeTubUnit_in ?_ rfl | refine State.setMap_in ?_ rfl | refine State.dropBlock_in ?_ rfl | refine .each ?_ fun _ _ => ?_ | extract_lets | dsimp +zetaDelta only

theorem State.commitRuhUpdate_in {x0 m s a} (h : Within m s a) (hs : 43356604485079072 &&& m = 43356604485079072) :
    Within m s (State.commitRuhUpdate x0 a) := by
  refine Within.step (m := 43356604485079072) h ?_ hs
  unfold State.commitRuhUpdate
  with_reducible repeat' first | exact .refl | refine State.detachRu_in ?_ rfl | refine .each ?_ fun _ _ => ?_ | split

theorem State.finish_in {x0 m s a} (h : Within m s a) (hs : 43358803508335648 &&& m = 43358803508335648) :
    Within m s (State.finish x0 a) := by
  refine Within.step (m := 43358803508335648) h ?_ hs
  unfold State.finish; extract_lets
  with_reducible repeat' first | exact .refl | refine .ite ?_ ?_ | refine State.commitDealloc_in ?_ rfl | refine State.outcome_in ?_ rfl | refine State.commitAct_in ?_ rfl | refine State.commitRuhUpdate_in ?_ rfl | extract_lets | split | dsimp +zetaDelta only

theorem State.settleN_in {x0 m s a} (h : Within m s a) (hs : 43358803508335648 &&& m = 43358803508335648) :
    Within m s (State.settleN x0 a) := by
  induction x0 generalizing s a m with
  | zero => exact h
  | succ n ih =>
    refine Within.step (m := 43358803508335648) h ?_ hs
    unfold State.settleN; extract_lets
    with_reducible repeat' first | exact .refl | refine State.finish_in ?_ rfl | refine State.postAll_in ?_ rfl | refine ih ?_ rfl | split

theorem State.settle_in {m s a} (h : Within m s a) (hs : 43358803508335648 &&& m = 43358803508335648) :
    Within m s (State.settle a) := by
  refine Within.step (m := 43358803508335648) h ?_ hs
  unfold State.settle
  with_reducible repeat' first | exact .refl | refine State.settleN_in ?_ rfl | refine State.postAll_in ?_ rfl | refine State.mediaTurn_in ?_ rfl

theorem State.dispatchIo_in {x0 m s a} (h : Within m s a) (hs : 43358803508336224 &&& m = 43358803508336224) :
    Within m s (State.dispatchIo x0 a) := by
  refine Within.step (m := 43358803508336224) h ?_ hs
  unfold State.dispatchIo
  with_reducible repeat' first | exact .refl | refine State.startRead_in ?_ rfl | split

theorem State.rowWait_in {x0 x1 m s a} (h : Within m s a) (hs : 5067142839926784 &&& m = 5067142839926784) :
    Within m s (State.rowWait x0 x1 a) := by
  refine Within.step (m := 5067142839926784) h ?_ hs
  unfold State.rowWait; extract_lets
  with_reducible repeat' first | exact .refl | refine .ite ?_ ?_ | refine State.assertEvent_in ?_ rfl | refine State.modPiece_in ?_ rfl | refine State.modNs_in ?_ rfl | extract_lets | dsimp +zetaDelta only

theorem State.placeAt_in {x0 x1 x2 m s a} (h : Within m s a) (hs : 5067177199665152 &&& m = 5067177199665152) :
    Within m s (State.placeAt x0 x1 x2 a) := by
  refine Within.step (m := 5067177199665152) h ?_ hs
  unfold State.placeAt
  with_reducible repeat' first | exact .refl | refine .ite ?_ ?_ | refine State.assertEvent_in ?_ rfl | refine State.modPiece_in ?_ rfl | refine State.openFold_in ?_ rfl

theorem State.placePiece_in {x0 x1 m s a} (h : Within m s a) (hs : 43358803508335712 &&& m = 43358803508335712) :
    Within m s (State.placePiece x0 x1 a) := by
  refine Within.step (m := 43358803508335712) h ?_ hs
  unfold State.placePiece; extract_lets
  with_reducible repeat' first | exact .refl | refine .ite ?_ ?_ | refine State.placeAt_in ?_ rfl | refine State.assertEvent_in ?_ rfl | refine State.rowWait_in ?_ rfl | refine State.ruFor_in ‹_› ?_ rfl | refine State.assignRows_in ‹_› ?_ rfl | refine State.mapLookup_in ?_ rfl | extract_lets | split | dsimp +zetaDelta only

theorem State.admitRead_in {x0 m s a} (h : Within m s a) (hs : 8589934592 &&& m = 8589934592) :
    Within m s (State.admitRead x0 a) := by
  refine Within.step (m := 8589934592) h ?_ hs
  unfold State.admitRead
  with_reducible repeat' first | exact .refl | refine .ite ?_ ?_ | refine State.outcome_in ?_ rfl | refine State.modCmd_in ?_ rfl

theorem State.admitPieces_in {x0 x1 m s a} (h : Within m s a) (hs : 7318942653612032 &&& m = 7318942653612032) :
    Within m s (State.admitPieces x0 x1 a) := by
  refine Within.step (m := 7318942653612032) h ?_ hs
  unfold State.admitPieces; extract_lets
  with_reducible repeat' first | exact .refl | refine .ite ?_ ?_ | refine State.limitEvent_in ?_ rfl | refine State.admitWrite_in ?_ rfl | refine State.tally_in ?_ rfl | refine State.outcome_in ?_ rfl | refine State.modCmd_in ?_ rfl | extract_lets | split

theorem State.admitAct_in {x0 x1 m s a} (h : Within m s a) (hs : 7318942653612032 &&& m = 7318942653612032) :
    Within m s (State.admitAct x0 x1 a) := by
  refine Within.step (m := 7318942653612032) h ?_ hs
  unfold State.admitAct; extract_lets
  with_reducible repeat' first | exact .refl | refine .ite ?_ ?_ | refine State.limitEvent_in ?_ rfl | refine State.actAdmit_in ?_ rfl | refine State.modCmd_in ?_ rfl | refine State.outcome_in ?_ rfl | refine .each ?_ fun _ _ => ?_ | extract_lets | split | dsimp +zetaDelta only

theorem State.admitReport_in {x0 x1 x2 x3 x4 m s a} (h : Within m s a) (hs : 8589934592 &&& m = 8589934592) :
    Within m s (State.admitReport x0 x1 x2 x3 x4 a) := by
  refine Within.step (m := 8589934592) h ?_ hs
  unfold State.admitReport; extract_lets
  with_reducible repeat' first | exact .refl | refine .ite ?_ ?_ | refine State.outcome_in ?_ rfl | refine State.modCmd_in ?_ rfl

theorem State.admitDealloc_in {x0 m s a} (h : Within m s a) (hs : 8589934592 &&& m = 8589934592) :
    Within m s (State.admitDealloc x0 a) := by
  refine Within.step (m := 8589934592) h ?_ hs
  unfold State.admitDealloc; extract_lets
  with_reducible repeat' first | exact .refl | refine .ite ?_ ?_ | refine State.outcome_in ?_ rfl

theorem State.admitRuh_in {x0 x1 m s a} (h : Within m s a) (hs : 8589934592 &&& m = 8589934592) :
    Within m s (State.admitRuh x0 x1 a) := by
  refine Within.step (m := 8589934592) h ?_ hs
  unfold State.admitRuh; extract_lets
  with_reducible repeat' first | exact .refl | refine .ite ?_ ?_ | refine State.outcome_in ?_ rfl | refine State.modCmd_in ?_ rfl

/-! FnOps.lean -/

theorem State.dropQueues_in {x0 m s a} (h : Within m s a) (hs : 8589934592 &&& m = 8589934592) :
    Within m s (State.dropQueues x0 a) := by
  refine Within.step (m := 8589934592) h ?_ hs
  unfold State.dropQueues
  with_reducible repeat' first | exact .refl | refine Within.modHfe ?_ rfl

theorem State.disableFn_in {x0 m s a} (h : Within m s a) (hs : 43358803508335656 &&& m = 43358803508335656) :
    Within m s (State.disableFn x0 a) := by
  refine Within.step (m := 43358803508335656) h ?_ hs
  unfold State.disableFn; extract_lets
  with_reducible repeat' first | exact .refl | refine State.abortFn_in ?_ rfl | refine State.assertIf_in ?_ rfl | refine State.modFn_in ?_ rfl | refine State.setCredit_in ?_ rfl | refine State.dropQueues_in ?_ rfl | extract_lets | dsimp +zetaDelta only

theorem State.clearFn_in {x0 m s a} (h : Within m s a) (hs : 43358803508335656 &&& m = 43358803508335656) :
    Within m s (State.clearFn x0 a) := by
  refine Within.step (m := 43358803508335656) h ?_ hs
  unfold State.clearFn; extract_lets
  with_reducible repeat' first | exact .refl | refine State.modFn_in ?_ rfl | refine State.disableFn_in ?_ rfl | refine State.clearMailbox_in ?_ rfl | extract_lets | dsimp +zetaDelta only

theorem State.flrFn_in {x0 m s a} (h : Within m s a) (hs : 43358803508335656 &&& m = 43358803508335656) :
    Within m s (State.flrFn x0 a) := by
  refine Within.step (m := 43358803508335656) h ?_ hs
  unfold State.flrFn
  with_reducible repeat' first | exact .refl | refine State.assertEvent_in ?_ rfl | refine State.clearFn_in ?_ rfl

theorem State.clearCfg_in {x0 m s a} (h : Within m s a) (hs : 8589934592 &&& m = 8589934592) :
    Within m s (State.clearCfg x0 a) := by
  refine Within.step (m := 8589934592) h ?_ hs
  unfold State.clearCfg
  with_reducible repeat' first | exact .refl | refine State.modFn_in ?_ rfl

theorem State.clearVfs_in {x0 m s a} (h : Within m s a) (hs : 43358807803302952 &&& m = 43358807803302952) :
    Within m s (State.clearVfs x0 a) := by
  refine Within.step (m := 43358807803302952) h ?_ hs
  unfold State.clearVfs
  with_reducible repeat' first | exact .refl | refine State.modPort_in ?_ rfl | refine State.clearCfg_in ?_ rfl | refine State.flrFn_in ?_ rfl | refine .each ?_ fun _ _ => ?_

theorem State.linkDown_in {x0 x1 m s a} (h : Within m s a) (hs : 4 &&& m = 4) :
    Within m s (State.linkDown x0 x1 a) := by
  refine Within.step (m := 4) h ?_ hs
  unfold State.linkDown
  with_reducible repeat' first | exact .refl | refine Within.setFldAt ?_ (PCI_LSTAT.ACTWIDTH_part ..) rfl | refine Within.putAt ?_ (PCI_LSTAT.FLIT_part ..) rfl | refine Within.setFldAt ?_ (PCI_LSTAT.L1SUB_part ..) rfl | refine Within.putAt ?_ (PCI_LSTAT.LINKUP_part ..) rfl | refine Within.setFldAt ?_ (PCI_LSTAT.LTSSM_part ..) rfl | refine Within.setFldAt ?_ (PCI_LSTAT.RATE_part ..) rfl | refine Within.setFldAt ?_ (PCI_LSTAT.WIDTH_part ..) rfl

theorem State.resetPort_in {x0 m s a} (h : Within m s a) (hs : 43358807803302956 &&& m = 43358807803302956) :
    Within m s (State.resetPort x0 a) := by
  refine Within.step (m := 43358807803302956) h ?_ hs
  unfold State.resetPort; extract_lets
  with_reducible repeat' first | exact .refl | refine State.modPort_in ?_ rfl | refine State.clearCfg_in ?_ rfl | refine State.clearFn_in ?_ rfl | refine State.modFn_in ?_ rfl | refine Within.putAt ?_ (cfgReady_part ..) rfl | refine .each ?_ fun _ _ => ?_ | extract_lets | dsimp +zetaDelta only

theorem State.startTraining_in {x0 m s a} (h : Within m s a) (hs : 4294967300 &&& m = 4294967300) :
    Within m s (State.startTraining x0 a) := by
  refine Within.step (m := 4294967300) h ?_ hs
  unfold State.startTraining; extract_lets
  with_reducible repeat' first | exact .refl | refine State.modPort_in ?_ rfl | refine State.linkDown_in ?_ rfl | extract_lets | dsimp +zetaDelta only

theorem State.loseLink_in {x0 m s a} (h : Within m s a) (hs : 43358807803302956 &&& m = 43358807803302956) :
    Within m s (State.loseLink x0 a) := by
  refine Within.step (m := 43358807803302956) h ?_ hs
  unfold State.loseLink
  with_reducible repeat' first | exact .refl | refine .ite ?_ ?_ | refine State.settle_in ?_ rfl | refine State.resetPort_in ?_ rfl | refine State.assertEvent_in ?_ rfl | refine State.startTraining_in ?_ rfl | refine Within.countAt ?_ (PCI_ERRCNT.DOWN_part ..) rfl

theorem State.endPcieLoops_in {m s a} (h : Within m s a) (hs : 18014398513676288 &&& m = 18014398513676288) :
    Within m s (State.endPcieLoops a) := by
  refine Within.step (m := 18014398513676288) h ?_ hs
  unfold State.endPcieLoops
  with_reducible repeat' first | exact .refl | refine State.endLoops_in ?_ rfl

theorem State.doorbellError_in {x0 x1 m s a} (h : Within m s a) (hs : 7318908293873672 &&& m = 7318908293873672) :
    Within m s (State.doorbellError x0 x1 a) := by
  refine Within.step (m := 7318908293873672) h ?_ hs
  unfold State.doorbellError
  with_reducible repeat' first | exact .refl | refine State.assertEvent_in ?_ rfl | refine State.raiseAen_in ?_ rfl | refine Within.countAt ?_ HFE_ERRCNT.DBERR_part rfl

theorem State.takeTickets_in {x0 x1 x2 m s a} (h : Within m s a) (hs : 8589934600 &&& m = 8589934600) :
    Within m s (State.takeTickets x0 x1 x2 a) := by
  induction x2 generalizing x0 x1 s a m with
  | zero => exact h
  | succ n ih =>
    refine Within.step (m := 8589934600) h ?_ hs
    unfold State.takeTickets; extract_lets
    with_reducible repeat' first | exact .refl | refine State.modSq_in ?_ rfl | refine Within.setFldAt ?_ HFE_TICKET.TICKET_part rfl | refine Within.modHfe ?_ rfl | refine ih ?_ rfl

theorem State.observe_in {x0 m s a} (h : Within m s a) (hs : 7318908293873672 &&& m = 7318908293873672) :
    Within m s (State.observe x0 a).2 := by
  refine Within.step (m := 7318908293873672) h ?_ hs
  unfold State.observe; extract_lets
  with_reducible repeat' first | exact .refl | refine .ite ?_ ?_ | refine State.takeTickets_in ?_ rfl | refine State.doorbellError_in ?_ rfl | extract_lets | split | dsimp +zetaDelta only
theorem State.observe_in_eq {x0} {m s a t v} (e : State.observe x0 a = (v, t)) (h : Within m s a) (hs : 7318908293873672 &&& m = 7318908293873672) : Within m s t := by
  have k := State.observe_in (x0 := x0) h hs
  rw [e] at k; exact k

theorem State.observeCq_in {x0 x1 x2 m s a} (h : Within m s a) (hs : 43358803508335656 &&& m = 43358803508335656) :
    Within m s (State.observeCq x0 x1 x2 a) := by
  refine Within.step (m := 43358803508335656) h ?_ hs
  unfold State.observeCq; extract_lets
  with_reducible repeat' first | exact .refl | refine .ite ?_ ?_ | refine State.settle_in ?_ rfl | refine State.modCq_in ?_ rfl | refine postAens_in ?_ rfl | refine State.doorbellError_in ?_ rfl

theorem State.observeHeld_in {x0 x1 m s a} (h : Within m s a) (hs : 43358803508335656 &&& m = 43358803508335656) :
    Within m s (State.observeHeld x0 x1 a) := by
  induction x0 generalizing x1 s a m with
  | nil => exact h
  | cons b l ih =>
    refine Within.step (m := 43358803508335656) h ?_ hs
    unfold State.observeHeld
    with_reducible repeat' first | exact .refl | refine .ite ?_ ?_ | refine State.observe_in_eq ‹_› ?_ rfl | refine State.observeCq_in ?_ rfl | refine Within.modHfe ?_ rfl | refine ih ?_ rfl | split

theorem State.observeAll_in {m s a} (h : Within m s a) (hs : 43358803508335656 &&& m = 43358803508335656) :
    Within m s (State.observeAll a) := by
  refine Within.step (m := 43358803508335656) h ?_ hs
  unfold State.observeAll
  with_reducible repeat' first | exact .refl | refine .ite ?_ ?_ | refine State.observeHeld_in ?_ rfl | refine Within.modHfe ?_ rfl

theorem State.setReady_in {m s a} (h : Within m s a) (hs : 8589934592 &&& m = 8589934592) :
    Within m s (State.setReady a) := by
  refine Within.step (m := 8589934592) h ?_ hs
  unfold State.setReady; extract_lets
  with_reducible repeat' first | exact .refl | refine Within.modHfe ?_ rfl

/-! RecOps.lean -/

theorem State.rotateLast_in {m s a} (h : Within m s a) (hs : 4503599627370496 &&& m = 4503599627370496) :
    Within m s (State.rotateLast a) := by
  refine Within.step (m := 4503599627370496) h ?_ hs
  unfold State.rotateLast; extract_lets
  with_reducible repeat' first | exact .refl | refine Within.modEvr ?_ rfl

theorem State.flushedPage_in {m s a} (h : Within m s a) (hs : 4504149399961600 &&& m = 4504149399961600) :
    Within m s (State.flushedPage a) := by
  refine Within.step (m := 4504149399961600) h ?_ hs
  unfold State.flushedPage; extract_lets
  with_reducible repeat' first | exact .refl | refine .ite ?_ ?_ | refine State.flushWaiting_in ?_ rfl | refine State.rotateLast_in ?_ rfl | refine State.flushPage_in ?_ rfl | refine Within.putAt ?_ EVR_STAT.BUSY_part rfl | refine Within.putAt ?_ EVR_STAT.FIRSTFULL_part rfl | refine Within.modEvr ?_ rfl

theorem State.clearLast_in {m s a} (h : Within m s a) (hs : 4504149383184384 &&& m = 4504149383184384) :
    Within m s (State.clearLast a) := by
  refine Within.step (m := 4504149383184384) h ?_ hs
  unfold State.clearLast
  with_reducible repeat' first | exact .refl | refine State.eraseArea_in ?_ rfl | refine Within.modEvr ?_ rfl | refine .each ?_ fun _ _ => ?_

theorem State.clearFirst_in {m s a} (h : Within m s a) (hs : 4504149399961600 &&& m = 4504149399961600) :
    Within m s (State.clearFirst a) := by
  refine Within.step (m := 4504149399961600) h ?_ hs
  unfold State.clearFirst; extract_lets
  with_reducible repeat' first | exact .refl | refine State.eraseArea_in ?_ rfl | refine Within.putAt ?_ EVR_STAT.FIRSTFULL_part rfl | refine Within.modEvr ?_ rfl | extract_lets | split | dsimp +zetaDelta only

theorem State.startFetch_in {m s a} (h : Within m s a) (hs : 524288 &&& m = 524288) :
    Within m s (State.startFetch a) := by
  refine Within.step (m := 524288) h ?_ hs
  unfold State.startFetch
  with_reducible repeat' first | exact .refl | refine Within.setFldAt ?_ EVR_WST.STATE_part rfl

theorem State.endFetch_in {x0 m s a} (h : Within m s a) (hs : 524288 &&& m = 524288) :
    Within m s (State.endFetch x0 a) := by
  refine Within.step (m := 524288) h ?_ hs
  unfold State.endFetch; extract_lets
  with_reducible repeat' first | exact .refl | refine Within.setFldAt ?_ (EVR_WIN.WORD_part ..) rfl | refine Within.putAt ?_ EVR_WST.CRCERR_part rfl | refine Within.setFldAt ?_ EVR_WST.STATE_part rfl | refine .each ?_ fun _ _ => ?_ | split

theorem State.stepCursor_in {m s a} (h : Within m s a) (hs : 524288 &&& m = 524288) :
    Within m s (State.stepCursor a) := by
  refine Within.step (m := 524288) h ?_ hs
  unfold State.stepCursor
  with_reducible repeat' first | exact .refl | refine State.startFetch_in ?_ rfl | refine Within.setFldAt ?_ EVR_CUR.SEQ_part rfl | refine Within.setFldAt ?_ EVR_WST.STATE_part rfl | split

theorem State.requestSnap_in {m s a} (h : Within m s a) (hs : 2251799813685248 &&& m = 2251799813685248) :
    Within m s (State.requestSnap a) := by
  refine Within.step (m := 2251799813685248) h ?_ hs
  unfold State.requestSnap
  with_reducible repeat' first | exact .refl | refine Within.modTly ?_ rfl

theorem State.takeSnap_in {m s a} (h : Within m s a) (hs : 6755949751566336 &&& m = 6755949751566336) :
    Within m s (State.takeSnap a) := by
  refine Within.step (m := 6755949751566336) h ?_ hs
  unfold State.takeSnap; extract_lets
  with_reducible repeat' first | exact .refl | refine .ite ?_ ?_ | refine State.fire_in ?_ rfl | refine Within.setFldAt ?_ TLY_STAT.EPOCH_part rfl | refine Within.modTly ?_ rfl | refine .each ?_ fun _ _ => ?_

theorem State.frameSnap_in {m s a} (h : Within m s a) (hs : 6755949751566336 &&& m = 6755949751566336) :
    Within m s (State.frameSnap a) := by
  refine Within.step (m := 6755949751566336) h ?_ hs
  unfold State.frameSnap
  with_reducible repeat' first | exact .refl | refine .ite ?_ ?_ | refine State.takeSnap_in ?_ rfl

/-! WorkOps.lean -/

theorem State.testDone_in {x0 m s a} (h : Within m s a) (hs : 34359738368 &&& m = 34359738368) :
    Within m s (State.testDone x0 a) := by
  refine Within.step (m := 34359738368) h ?_ hs
  unfold State.testDone; extract_lets
  with_reducible repeat' first | exact .refl | refine .ite ?_ ?_ | refine Within.modZpm ?_ rfl | extract_lets | dsimp +zetaDelta only

theorem State.hostReadDone_in {x0 x1 x2 x3 x4 x5 x6 m s a} (h : Within m s a) (hs : 52367102276802080 &&& m = 52367102276802080) :
    Within m s (State.hostReadDone x0 x1 x2 x3 x4 x5 x6 a) := by
  refine Within.step (m := 52367102276802080) h ?_ hs
  unfold State.hostReadDone; extract_lets
  with_reducible repeat' first | exact .refl | refine .ite ?_ ?_ | refine State.readDone_in ?_ rfl | refine State.submitHw_in ?_ rfl | refine State.guardCandidate_in ?_ rfl | refine State.startRecon_in ?_ rfl | refine State.readFailed_in ?_ rfl | refine State.noteError_in ?_ rfl | extract_lets | split | dsimp +zetaDelta only

theorem State.slcProgDone_in {x0 x1 x2 x3 x4 x5 x6 x7 m s a} (h : Within m s a) (hs : 43358803508334688 &&& m = 43358803508334688) :
    Within m s (State.slcProgDone x0 x1 x2 x3 x4 x5 x6 x7 a) := by
  refine Within.step (m := 43358803508334688) h ?_ hs
  unfold State.slcProgDone
  with_reducible repeat' first | exact .refl | refine .ite ?_ ?_ | refine State.healthCount_in ?_ rfl | refine State.progChunk_in ?_ rfl | refine State.slcDone_in ?_ rfl | refine State.replaceSlcUnit_in ?_ rfl

theorem State.pageThere_in {x0 m s a} (h : Within m s a) (hs : 43358803508335648 &&& m = 43358803508335648) :
    Within m s (State.pageThere x0 a) := by
  refine Within.step (m := 43358803508335648) h ?_ hs
  unfold State.pageThere
  with_reducible repeat' first | exact .refl | refine State.kilnNext_in ?_ rfl | refine State.slcTake_in ?_ rfl | refine State.copyRead1_in ?_ rfl | refine State.modCompact_in ?_ rfl | refine State.submitHw_in ?_ rfl | split

theorem State.ownerPage_in {x0 x1 x2 x3 m s a} (h : Within m s a) (hs : 43358803508335648 &&& m = 43358803508335648) :
    Within m s (State.ownerPage x0 x1 x2 x3 a) := by
  refine Within.step (m := 43358803508335648) h ?_ hs
  unfold State.ownerPage
  with_reducible repeat' first | exact .refl | refine .ite ?_ ?_ | refine State.pageAsk_in ?_ rfl | refine State.pageAsk_in_eq ‹_› ?_ rfl | refine State.pageThere_in ?_ rfl | refine State.submitHw_in ?_ rfl | split

theorem State.pageReconDone_in {x0 x1 x2 x3 x4 x5 m s a} (h : Within m s a) (hs : 43358803508335648 &&& m = 43358803508335648) :
    Within m s (State.pageReconDone x0 x1 x2 x3 x4 x5 a) := by
  refine Within.step (m := 43358803508335648) h ?_ hs
  unfold State.pageReconDone
  with_reducible repeat' first | exact .refl | refine .ite ?_ ?_ | refine State.pageThere_in ?_ rfl | refine State.pageRead_in ?_ rfl | refine State.pageRead_in_eq ‹_› ?_ rfl | refine State.submitHw_in ?_ rfl | split

theorem State.startBackFail_in {x0 x1 x2 m s a} (h : Within m s a) (hs : 43358803508335712 &&& m = 43358803508335712) :
    Within m s (State.startBackFail x0 x1 x2 a) := by
  refine Within.step (m := 43358803508335712) h ?_ hs
  unfold State.startBackFail
  with_reducible repeat' first | exact .refl | refine State.backFailed_in ?_ rfl | refine State.kilnRefold_in ?_ rfl

theorem State.kilnDone_in {x0 x1 x2 x3 m s a} (h : Within m s a) (hs : 43358803508335712 &&& m = 43358803508335712) :
    Within m s (State.kilnDone x0 x1 x2 x3 a) := by
  refine Within.step (m := 43358803508335712) h ?_ hs
  unfold State.kilnDone; extract_lets
  with_reducible repeat' first | exact .refl | refine .ite ?_ ?_ | refine State.healthCount_in ?_ rfl | refine State.kilnNext_in ?_ rfl | refine State.backFailed_in ?_ rfl | refine State.startBackFail_in ?_ rfl | refine State.kilnRelease_in ?_ rfl | refine State.kilnAgain_in ?_ rfl | refine State.submitHw_in ?_ rfl | refine State.kilnRefold_in ?_ rfl | extract_lets | split | dsimp +zetaDelta only

theorem State.eraseRowDone_in {x0 x1 x2 x3 x4 x5 x6 m s a} (h : Within m s a) (hs : 43358803508335712 &&& m = 43358803508335712) :
    Within m s (State.eraseRowDone x0 x1 x2 x3 x4 x5 x6 a) := by
  refine Within.step (m := 43358803508335712) h ?_ hs
  unfold State.eraseRowDone
  with_reducible repeat' first | exact .refl | refine .ite ?_ ?_ | refine State.healthCount_in ?_ rfl | refine State.fdpCount_in ?_ rfl | refine State.replaceRowUnit_in ?_ rfl | refine State.rowErased_in ?_ rfl | refine State.submitHw_in ?_ rfl

theorem State.eraseUnitDone_in {x0 x1 x2 x3 x4 x5 x6 m s a} (h : Within m s a) (hs : 43358803508335712 &&& m = 43358803508335712) :
    Within m s (State.eraseUnitDone x0 x1 x2 x3 x4 x5 x6 a) := by
  refine Within.step (m := 43358803508335712) h ?_ hs
  unfold State.eraseUnitDone
  with_reducible repeat' first | exact .refl | refine .ite ?_ ?_ | refine State.healthCount_in ?_ rfl | refine State.retrySlc_in ?_ rfl | refine State.replaceSlcUnit_in ?_ rfl | refine State.unitReady_in ?_ rfl | refine State.testDone_in ?_ rfl | refine State.replaceRowUnit_in ?_ rfl | refine State.rowErased_in ?_ rfl | refine State.submitHw_in ?_ rfl | extract_lets | split | dsimp +zetaDelta only

theorem State.slcMoveDone_in {x0 x1 x2 x3 x4 x5 x6 m s a} (h : Within m s a) (hs : 43358803508335712 &&& m = 43358803508335712) :
    Within m s (State.slcMoveDone x0 x1 x2 x3 x4 x5 x6 a) := by
  refine Within.step (m := 43358803508335712) h ?_ hs
  unfold State.slcMoveDone
  with_reducible repeat' first | exact .refl | refine .ite ?_ ?_ | refine State.healthCount_in ?_ rfl | refine State.compactGo_in ?_ rfl | refine State.replaceSlcUnit_in ?_ rfl | refine State.pageThere_in ?_ rfl | refine State.modCompact_in ?_ rfl | refine State.modSlcLive_in ?_ rfl | refine State.submitHw_in ?_ rfl | refine Within.modMed ?_ rfl | extract_lets | split | dsimp +zetaDelta only

theorem State.slcErased_in {x0 x1 x2 x3 x4 x5 m s a} (h : Within m s a) (hs : 43356604485079136 &&& m = 43356604485079136) :
    Within m s (State.slcErased x0 x1 x2 x3 x4 x5 a) := by
  refine Within.step (m := 43356604485079136) h ?_ hs
  unfold State.slcErased; extract_lets
  with_reducible repeat' first | exact .refl | refine .ite ?_ ?_ | refine State.healthCount_in ?_ rfl | refine State.assertEvent_in ?_ rfl | refine State.retrySlc_in ?_ rfl | refine State.replaceSlcUnit_in ?_ rfl | refine State.maybeCompact_in ?_ rfl | refine State.submitHw_in ?_ rfl | refine Within.modMed ?_ rfl | extract_lets | dsimp +zetaDelta only

theorem State.testDoneStep_in {x0 x1 x2 x3 x4 x5 x6 x7 m s a} (h : Within m s a) (hs : 43358803508335712 &&& m = 43358803508335712) :
    Within m s (State.testDoneStep x0 x1 x2 x3 x4 x5 x6 x7 a) := by
  refine Within.step (m := 43358803508335712) h ?_ hs
  unfold State.testDoneStep
  with_reducible repeat' first | exact .refl | refine .ite ?_ ?_ | refine State.healthCount_in ?_ rfl | refine State.modUnit_in ?_ rfl | refine State.testDone_in ?_ rfl | refine State.replaceRowUnit_in ?_ rfl | refine State.submitHw_in ?_ rfl

theorem State.copyVerified_in {x0 x1 m s a} (h : Within m s a) (hs : 43358803508335648 &&& m = 43358803508335648) :
    Within m s (State.copyVerified x0 x1 a) := by
  refine Within.step (m := 43358803508335648) h ?_ hs
  unfold State.copyVerified
  with_reducible repeat' first | exact .refl | refine State.copyDrop_in ?_ rfl | refine State.copyGo_in ?_ rfl

theorem State.copyDone_in {x0 x1 x2 x3 m s a} (h : Within m s a) (hs : 43358803508335712 &&& m = 43358803508335712) :
    Within m s (State.copyDone x0 x1 x2 x3 a) := by
  refine Within.step (m := 43358803508335712) h ?_ hs
  unfold State.copyDone
  with_reducible repeat' first | exact .refl | refine .ite ?_ ?_ | refine State.healthCount_in ?_ rfl | refine State.copyVerified_in ?_ rfl | refine State.copyProg_in ?_ rfl | refine State.copyFail_in ?_ rfl | refine State.backFailed_in ?_ rfl | refine State.copyBack_in ?_ rfl | refine State.submitHw_in ?_ rfl | extract_lets | split | dsimp +zetaDelta only

theorem State.mapReadDone_in {x0 x1 x2 x3 x4 x5 x6 m s a} (h : Within m s a) (hs : 43358803508336160 &&& m = 43358803508336160) :
    Within m s (State.mapReadDone x0 x1 x2 x3 x4 x5 x6 a) := by
  refine Within.step (m := 43358803508336160) h ?_ hs
  unfold State.mapReadDone
  with_reducible repeat' first | exact .refl | refine .ite ?_ ?_ | refine State.readMedia_in ?_ rfl | refine State.readFailed_in ?_ rfl | refine State.mapReadAt_in ?_ rfl | refine State.mapUse_in ?_ rfl | refine State.submitHw_in ?_ rfl | refine Within.modMed ?_ rfl | extract_lets | split | dsimp +zetaDelta only

theorem State.mapProgDone_in {x0 x1 x2 x3 x4 m s a} (h : Within m s a) (hs : 7318977013350464 &&& m = 7318977013350464) :
    Within m s (State.mapProgDone x0 x1 x2 x3 x4 a) := by
  refine Within.step (m := 7318977013350464) h ?_ hs
  unfold State.mapProgDone
  with_reducible repeat' first | exact .refl | refine .ite ?_ ?_ | refine State.healthCount_in ?_ rfl | refine State.retireUnit_in ?_ rfl | refine State.submitHw_in ?_ rfl | refine State.flushGo_in ?_ rfl | refine Within.modMed ?_ rfl | refine .foldl ?_ fun _ _ => ?_ | extract_lets | dsimp +zetaDelta only

theorem State.mapErased_in {x0 x1 x2 x3 x4 m s a} (h : Within m s a) (hs : 7318977013350464 &&& m = 7318977013350464) :
    Within m s (State.mapErased x0 x1 x2 x3 x4 a) := by
  refine Within.step (m := 7318977013350464) h ?_ hs
  unfold State.mapErased
  with_reducible repeat' first | exact .refl | refine .ite ?_ ?_ | refine State.healthCount_in ?_ rfl | refine State.retireUnit_in ?_ rfl | refine State.submitHw_in ?_ rfl | refine State.flushGo_in ?_ rfl | refine Within.modMed ?_ rfl

theorem State.recFlushDone_in {x0 x1 x2 x3 m s a} (h : Within m s a) (hs : 4504149399961600 &&& m = 4504149399961600) :
    Within m s (State.recFlushDone x0 x1 x2 x3 a) := by
  refine Within.step (m := 4504149399961600) h ?_ hs
  unfold State.recFlushDone
  with_reducible repeat' first | exact .refl | refine .ite ?_ ?_ | refine State.submitHw_in ?_ rfl | refine State.flushedPage_in ?_ rfl | refine Within.putAt ?_ EVR_STAT.BUSY_part rfl | refine Within.modEvr ?_ rfl

theorem State.dumpProgDone_in {x0 x1 x2 x3 m s a} (h : Within m s a) (hs : 4947802324992 &&& m = 4947802324992) :
    Within m s (State.dumpProgDone x0 x1 x2 x3 a) := by
  refine Within.step (m := 4947802324992) h ?_ hs
  unfold State.dumpProgDone
  with_reducible repeat' first | exact .refl | refine .ite ?_ ?_ | refine State.submitHw_in ?_ rfl | refine Within.modHld ?_ rfl

theorem State.dumpEraseDone_in {x0 x1 x2 x3 x4 m s a} (h : Within m s a) (hs : 41100294955728896 &&& m = 41100294955728896) :
    Within m s (State.dumpEraseDone x0 x1 x2 x3 x4 a) := by
  refine Within.step (m := 41100294955728896) h ?_ hs
  unfold State.dumpEraseDone; extract_lets
  with_reducible repeat' first | exact .refl | refine .ite ?_ ?_ | refine State.submitHw_in ?_ rfl | refine State.assertEvent_in ?_ rfl | refine Within.modHld ?_ rfl | refine Within.modNv ?_ rfl

theorem State.ownerDone_in {x0 x1 x2 x3 m s a} (h : Within m s a) (hs : 52371500323313248 &&& m = 52371500323313248) :
    Within m s (State.ownerDone x0 x1 x2 x3 a) := by
  refine Within.step (m := 52371500323313248) h ?_ hs
  unfold State.ownerDone; extract_lets
  with_reducible repeat' first | exact .refl | refine .ite ?_ ?_ | refine State.dumpProgDone_in ?_ rfl | refine State.pageReconDone_in ?_ rfl | refine State.recFlushDone_in ?_ rfl | refine State.testDoneStep_in ?_ rfl | refine State.ownerPage_in ?_ rfl | refine State.mapProgDone_in ?_ rfl | refine State.slcProgDone_in ?_ rfl | refine State.slcMoveDone_in ?_ rfl | refine State.kilnDone_in ?_ rfl | refine State.slcErased_in ?_ rfl | refine State.mapErased_in ?_ rfl | refine State.dumpEraseDone_in ?_ rfl | refine State.eraseUnitDone_in ?_ rfl | refine State.eraseRowDone_in ?_ rfl | refine State.mapReadDone_in ?_ rfl | refine State.reconRead_in ?_ rfl | refine State.copyDone_in ?_ rfl | refine State.hostReadDone_in ?_ rfl | extract_lets | split | dsimp +zetaDelta only

theorem State.workDone_in {x0 x1 x2 x3 m s a} (h : Within m s a) (hs : 52371500323313248 &&& m = 52371500323313248) :
    Within m s (State.workDone x0 x1 x2 x3 a) := by
  refine Within.step (m := 52371500323313248) h ?_ hs
  unfold State.workDone
  with_reducible repeat' first | exact .refl | refine State.ownerDone_in ?_ rfl | refine State.mediaTurn_in ?_ rfl

end Sys2Proof.Machine
end

