-- ==== Sys2Proof/Laws/Frames2.lean ====
section
/-! SUPPORT. Laws/Frames2.lean: which parts of the state each operation of Machine/DriftOps, HoldState, FchOps, Flash, MicroOps, Micro, Ecc, MashOps, Mash may change (see Machine/Frame.lean); a generated list, one lemma an operation. -/

namespace Sys2Proof.Machine

/-! DriftOps.lean -/

theorem State.setAct_in {x0 x1 x2 m s a} (h : Within m s a) (hs : 549755813888 &&& m = 549755813888) :
    Within m s (State.setAct x0 x1 x2 a) := by
  refine Within.step (m := 549755813888) h ?_ hs
  unfold State.setAct
  with_reducible repeat' first | exact .refl | refine State.modEng_in ?_ rfl

theorem State.modCtx_in {x0 x1 x2 m s a} (h : Within m s a) (hs : 549755813888 &&& m = 549755813888) :
    Within m s (State.modCtx x0 x1 x2 a) := by
  refine Within.step (m := 549755813888) h ?_ hs
  unfold State.modCtx
  with_reducible repeat' first | exact .refl | refine State.modEng_in ?_ rfl

theorem State.engineStore_in {x0 x1 m s a} (h : Within m s a) (hs : 1342177280 &&& m = 1342177280) :
    Within m s (State.engineStore x0 x1 a) := by
  refine Within.step (m := 1342177280) h ?_ hs
  unfold State.engineStore
  with_reducible repeat' first | exact .refl | refine State.setBytes_in ?_ rfl | refine State.breakResv_in ?_ rfl

theorem State.enterQueue_in {x0 x1 x2 m s a} (h : Within m s a) (hs : 551097991168 &&& m = 551097991168) :
    Within m s (State.enterQueue x0 x1 x2 a) := by
  refine Within.step (m := 551097991168) h ?_ hs
  unfold State.enterQueue; extract_lets
  with_reducible repeat' first | exact .refl | refine State.modEng_in ?_ rfl | refine State.engineStore_in ?_ rfl

theorem State.drfEvt_in {x0 x1 m s a} (h : Within m s a) (hs : 5067099890254080 &&& m = 5067099890254080) (hp : partOfKey x1.key = 8) :
    Within m s (State.drfEvt x0 x1 a) := by
  refine Within.step (m := 5067099890254080) h ?_ hs
  unfold State.drfEvt
  with_reducible repeat' first | exact .refl | refine State.assertEvent_in ?_ rfl | refine Within.putAt ?_ (hp ..) rfl

theorem State.putRecord_in {x0 x1 m s a} (h : Within m s a) (hs : 5067101232431360 &&& m = 5067101232431360) :
    Within m s (State.putRecord x0 x1 a) := by
  refine Within.step (m := 5067101232431360) h ?_ hs
  unfold State.putRecord; extract_lets
  with_reducible repeat' first | exact .refl | refine .ite ?_ ?_ | refine State.drfEvt_in ?_ rfl ?_ | refine State.modEng_in ?_ rfl | refine State.engineStore_in ?_ rfl | refine Within.setFldAt ?_ (DRF_CQPTR.WIDX_part ..) rfl | exact DRF_EVT.CQ_part .. | exact DRF_EVT.FAIL_part ..

theorem State.writeRecord_in {x0 x1 m s a} (h : Within m s a) (hs : 5067101232431360 &&& m = 5067101232431360) :
    Within m s (State.writeRecord x0 x1 a) := by
  refine Within.step (m := 5067101232431360) h ?_ hs
  unfold State.writeRecord; extract_lets
  with_reducible repeat' first | exact .refl | refine .ite ?_ ?_ | refine State.drfEvt_in ?_ rfl ?_ | refine State.modEng_in ?_ rfl | refine State.putRecord_in ?_ rfl | exact DRF_EVT.CQFULL_part ..

theorem State.flushRecords_in {x0 x1 m s a} (h : Within m s a) (hs : 5067101232431360 &&& m = 5067101232431360) :
    Within m s (State.flushRecords x0 x1 a) := by
  induction x1 generalizing x0 s a m with
  | zero => exact h
  | succ n ih =>
    refine Within.step (m := 5067101232431360) h ?_ hs
    unfold State.flushRecords
    with_reducible repeat' first | exact .refl | refine .ite ?_ ?_ | refine State.putRecord_in ?_ rfl | refine State.modEng_in ?_ rfl | refine ih ?_ rfl | split

theorem State.addCharge_in {x0 x1 x2 m s a} (h : Within m s a) (hs : 2251816993554432 &&& m = 2251816993554432) :
    Within m s (State.addCharge x0 x1 x2 a) := by
  refine Within.step (m := 2251816993554432) h ?_ hs
  unfold State.addCharge; extract_lets
  with_reducible repeat' first | exact .refl | refine .ite ?_ ?_ | refine State.tally_in ?_ rfl | refine Within.modFns ?_ rfl

theorem State.countStatus_in {x0 x1 m s a} (h : Within m s a) (hs : 7318899703939328 &&& m = 7318899703939328) :
    Within m s (State.countStatus x0 x1 a) := by
  refine Within.step (m := 7318899703939328) h ?_ hs
  unfold State.countStatus
  with_reducible repeat' first | exact .refl | refine .ite ?_ ?_ | refine State.drfEvt_in ?_ rfl ?_ | refine State.tally_in ?_ rfl | refine Within.countAt ?_ (DRF_ERRCNT.PFAIL_part ..) rfl | refine Within.countAt ?_ (DRF_ERRCNT.TIMEOUT_part ..) rfl | refine Within.countAt ?_ (DRF_ERRCNT.UNCORR_part ..) rfl | refine Within.countAt ?_ (DRF_SUSPCNT.DIEBUSY_part ..) rfl | exact DRF_EVT.TIMEOUT_part ..

theorem State.deliver_in {x0 x1 x2 x3 x4 m s a} (h : Within m s a) (hs : 52371518845359968 &&& m = 52371518845359968) :
    Within m s (State.deliver x0 x1 x2 x3 x4 a) := by
  refine Within.step (m := 52371518845359968) h ?_ hs
  unfold State.deliver; extract_lets
  with_reducible repeat' first | exact .refl | refine .ite ?_ ?_ | refine State.workDone_in ?_ rfl | refine State.tally_in ?_ rfl | refine State.modEng_in ?_ rfl | refine State.countStatus_in ?_ rfl | refine State.addCharge_in ?_ rfl | refine State.writeRecord_in ?_ rfl

theorem State.issueReset_in {x0 m s a} (h : Within m s a) (hs : 137438953474 &&& m = 137438953474) :
    Within m s (State.issueReset x0 a) := by
  refine Within.step (m := 137438953474) h ?_ hs
  unfold State.issueReset; extract_lets
  with_reducible repeat' first | exact .refl | refine .ite ?_ ?_ | refine State.acctAdd_in ?_ rfl | refine State.modNand_in ?_ rfl | refine Within.modFch ?_ rfl | extract_lets | dsimp +zetaDelta only

theorem State.issueResets_in {m s a} (h : Within m s a) (hs : 137438953474 &&& m = 137438953474) :
    Within m s (State.issueResets a) := by
  refine Within.step (m := 137438953474) h ?_ hs
  unfold State.issueResets
  with_reducible repeat' first | exact .refl | refine State.issueReset_in ?_ rfl | refine .each ?_ fun _ _ => ?_

theorem State.askReset_in {x0 m s a} (h : Within m s a) (hs : 137438953474 &&& m = 137438953474) :
    Within m s (State.askReset x0 a) := by
  refine Within.step (m := 137438953474) h ?_ hs
  unfold State.askReset
  with_reducible repeat' first | exact .refl | refine .ite ?_ ?_ | refine State.issueResets_in ?_ rfl | refine Within.modFch ?_ rfl

theorem State.endReset_in {x0 m s a} (h : Within m s a) (hs : 137438953474 &&& m = 137438953474) :
    Within m s (State.endReset x0 a) := by
  refine Within.step (m := 137438953474) h ?_ hs
  unfold State.endReset
  with_reducible repeat' first | exact .refl | refine State.acctSub_in ?_ rfl | refine State.issueResets_in ?_ rfl | refine Within.modFch ?_ rfl | split

theorem State.acctFree_in {x0 m s a} (h : Within m s a) (hs : 137438953474 &&& m = 137438953474) :
    Within m s (State.acctFree x0 a) := by
  refine Within.step (m := 137438953474) h ?_ hs
  unfold State.acctFree
  with_reducible repeat' first | exact .refl | refine State.acctSub_in ?_ rfl | refine State.issueResets_in ?_ rfl

theorem State.markIn_in {x0 x1 x2 x3 m s a} (h : Within m s a) (hs : 7318916883808272 &&& m = 7318916883808272) :
    Within m s (State.markIn x0 x1 x2 x3 a) := by
  refine Within.step (m := 7318916883808272) h ?_ hs
  unfold State.markIn; extract_lets
  with_reducible repeat' first | exact .refl | refine .ite ?_ ?_ | refine State.tally_in ?_ rfl | refine State.assertEvent_in ?_ rfl | refine State.setQueue_in ?_ rfl | refine Within.countAt ?_ FNS_DEFCNT.COUNT_part rfl | refine Within.modFns ?_ rfl | split

theorem State.markQueue_in {x0 x1 m s a} (h : Within m s a) (hs : 7318916883808272 &&& m = 7318916883808272) :
    Within m s (State.markQueue x0 x1 a) := by
  refine Within.step (m := 7318916883808272) h ?_ hs
  unfold State.markQueue
  with_reducible repeat' first | exact .refl | refine .ite ?_ ?_ | refine State.markIn_in ?_ rfl | refine .each ?_ fun _ _ => ?_

theorem State.heldFrame_in {x0 m s a} (h : Within m s a) (hs : 549755813888 &&& m = 549755813888) :
    Within m s (State.heldFrame x0 a) := by
  refine Within.step (m := 549755813888) h ?_ hs
  unfold State.heldFrame
  with_reducible repeat' first | exact .refl | refine .ite ?_ ?_ | refine State.setQueue_in ?_ rfl | refine .each ?_ fun _ _ => ?_ | extract_lets | dsimp +zetaDelta only

theorem State.setPayload_in {x0 x1 m s a} (h : Within m s a) (hs : 8796093022208 &&& m = 8796093022208) :
    Within m s (State.setPayload x0 x1 a) := by
  refine Within.step (m := 8796093022208) h ?_ hs
  unfold State.setPayload
  with_reducible repeat' first | exact .refl | refine Within.modTubs ?_ rfl

theorem State.scatter_in {x0 x1 m s a} (h : Within m s a) (hs : 8796093022208 &&& m = 8796093022208) :
    Within m s (State.scatter x0 x1 a) := by
  induction x0 generalizing x1 s a m with
  | nil => exact h
  | cons b l ih =>
    refine Within.step (m := 8796093022208) h ?_ hs
    unfold State.scatter
    with_reducible repeat' first | exact .refl | refine State.setPayload_in ?_ rfl | refine ih ?_ rfl

theorem State.mediaRead_in {x1 x2 x3 x4 m s a} (h : Within m s a) (hs : 67108864 &&& m = 67108864) :
    Within m s (State.mediaRead a x1 x2 x3 x4).2 := by
  refine Within.step (m := 67108864) h ?_ hs
  unfold State.mediaRead
  with_reducible repeat' first | exact .refl | refine State.tookFree_in ?_ rfl | split
theorem State.mediaRead_in_eq {x1 x2 x3 x4} {m s a t v} (e : State.mediaRead a x1 x2 x3 x4 = (v, t)) (h : Within m s a) (hs : 67108864 &&& m = 67108864) : Within m s t := by
  have k := State.mediaRead_in (x1 := x1) (x2 := x2) (x3 := x3) (x4 := x4) h hs
  rw [e] at k; exact k

theorem State.mediaWrite_in {x0 x1 x2 x3 x4 m s a} (h : Within m s a) (hs : 274877906944 &&& m = 274877906944) :
    Within m s (State.mediaWrite x0 x1 x2 x3 x4 a) := by
  refine Within.step (m := 274877906944) h ?_ hs
  unfold State.mediaWrite
  with_reducible repeat' first | exact .refl | (refine Within.modDrfMedia ?_ ?_ ?_; rotate_left; with_unfolding_all (exact (fun _ => ⟨rfl, rfl⟩); rfl))

theorem State.mediaForget_in {x0 x1 x2 x3 x4 m s a} (h : Within m s a) (hs : 274877906944 &&& m = 274877906944) :
    Within m s (State.mediaForget x0 x1 x2 x3 x4 a) := by
  refine Within.step (m := 274877906944) h ?_ hs
  unfold State.mediaForget
  with_reducible repeat' first | exact .refl | (refine Within.modDrfMedia ?_ ?_ ?_; rotate_left; with_unfolding_all (exact (fun _ => ⟨rfl, rfl⟩); rfl))

theorem State.putProgram_in {x0 x1 x2 x3 m s a} (h : Within m s a) (hs : 343597383680 &&& m = 343597383680) :
    Within m s (State.putProgram x0 x1 x2 x3 a) := by
  refine Within.step (m := 343597383680) h ?_ hs
  unfold State.putProgram; extract_lets
  with_reducible repeat' first | exact .refl | refine .ite ?_ ?_ | refine State.mediaForget_in ?_ rfl | refine State.modUnit_in ?_ rfl | refine State.mediaWrite_in ?_ rfl | refine .each ?_ fun _ _ => ?_ | extract_lets | dsimp +zetaDelta only

theorem State.confirmed_in {x0 x1 x2 m s a} (h : Within m s a) (hs : 36028865738440704 &&& m = 36028865738440704) :
    Within m s (State.confirmed x0 x1 x2 a) := by
  refine Within.step (m := 36028865738440704) h ?_ hs
  unfold State.confirmed; extract_lets
  with_reducible repeat' first | exact .refl | refine .ite ?_ ?_ | refine State.sysTouch_in ?_ rfl | refine State.countErase_in ?_ rfl | extract_lets | dsimp +zetaDelta only

theorem State.putErase_in {x0 x1 x2 m s a} (h : Within m s a) (hs : 343597383680 &&& m = 343597383680) :
    Within m s (State.putErase x0 x1 x2 a) := by
  refine Within.step (m := 343597383680) h ?_ hs
  unfold State.putErase; extract_lets
  with_reducible repeat' first | exact .refl | refine .ite ?_ ?_ | refine State.mediaForget_in ?_ rfl | refine State.modUnit_in ?_ rfl | extract_lets | dsimp +zetaDelta only

theorem State.leaveUndefined_in {x0 x1 m s a} (h : Within m s a) (hs : 343597383680 &&& m = 343597383680) :
    Within m s (State.leaveUndefined x0 x1 a) := by
  refine Within.step (m := 343597383680) h ?_ hs
  unfold State.leaveUndefined; extract_lets
  with_reducible repeat' first | exact .refl | refine .ite ?_ ?_ | refine State.mediaForget_in ?_ rfl | refine State.modUnit_in ?_ rfl | extract_lets | dsimp +zetaDelta only

theorem State.assignDecoders_in {x0 m s a} (h : Within m s a) (hs : 1099511627776 &&& m = 1099511627776) :
    Within m s (State.assignDecoders x0 a) := by
  induction x0 generalizing s a m with
  | zero => exact h
  | succ n ih =>
    refine Within.step (m := 1099511627776) h ?_ hs
    unfold State.assignDecoders
    with_reducible repeat' first | exact .refl | refine Within.modEcc ?_ rfl | refine ih ?_ rfl | split

theorem State.feedDecoders_in {m s a} (h : Within m s a) (hs : 1099511627776 &&& m = 1099511627776) :
    Within m s (State.feedDecoders a) := by
  refine Within.step (m := 1099511627776) h ?_ hs
  unfold State.feedDecoders
  with_reducible repeat' first | exact .refl | refine State.assignDecoders_in ?_ rfl

theorem State.toDecoders_in {x0 x1 x2 x3 x4 m s a} (h : Within m s a) (hs : 2252899325313024 &&& m = 2252899325313024) :
    Within m s (State.toDecoders x0 x1 x2 x3 x4 a) := by
  refine Within.step (m := 2252899325313024) h ?_ hs
  unfold State.toDecoders; extract_lets
  with_reducible repeat' first | exact .refl | refine State.tally_in ?_ rfl | refine State.feedDecoders_in ?_ rfl | refine Within.modEcc ?_ rfl | extract_lets | dsimp +zetaDelta only

theorem State.dropDecodes_in {x0 x1 m s a} (h : Within m s a) (hs : 1099511627776 &&& m = 1099511627776) :
    Within m s (State.dropDecodes x0 x1 a) := by
  refine Within.step (m := 1099511627776) h ?_ hs
  unfold State.dropDecodes; extract_lets
  with_reducible repeat' first | exact .refl | refine State.feedDecoders_in ?_ rfl | refine Within.modEcc ?_ rfl | extract_lets | split | dsimp +zetaDelta only

theorem State.startCtx_in {x0 x1 x2 x3 m s a} (h : Within m s a) (hs : 549755813888 &&& m = 549755813888) :
    Within m s (State.startCtx x0 x1 x2 x3 a) := by
  refine Within.step (m := 549755813888) h ?_ hs
  unfold State.startCtx; extract_lets
  with_reducible repeat' first | exact .refl | refine State.modCtx_in ?_ rfl

theorem State.dequeue_in {x0 x1 x2 m s a} (h : Within m s a) (hs : 549755813888 &&& m = 549755813888) :
    Within m s (State.dequeue x0 x1 x2 a) := by
  refine Within.step (m := 549755813888) h ?_ hs
  unfold State.dequeue
  with_reducible repeat' first | exact .refl | refine State.setQueue_in ?_ rfl

theorem State.countStart_in {x0 x1 x2 x3 m s a} (h : Within m s a) (hs : 2252351716982786 &&& m = 2252351716982786) :
    Within m s (State.countStart x0 x1 x2 x3 a) := by
  refine Within.step (m := 2252351716982786) h ?_ hs
  unfold State.countStart; extract_lets
  with_reducible repeat' first | exact .refl | refine .ite ?_ ?_ | refine State.tally_in ?_ rfl | refine State.modCtx_in ?_ rfl | refine State.acctAdd_in ?_ rfl | refine Within.modBell ?_ rfl

theorem State.pauseDie_in {x0 x1 m s a} (h : Within m s a) (hs : 140737488355328 &&& m = 140737488355328) :
    Within m s (State.pauseDie x0 x1 a) := by
  refine Within.step (m := 140737488355328) h ?_ hs
  unfold State.pauseDie; extract_lets
  with_reducible repeat' first | exact .refl | refine .ite ?_ ?_ | refine Within.modPow ?_ rfl

theorem State.unparkReads_in {x0 x1 m s a} (h : Within m s a) (hs : 549755813888 &&& m = 549755813888) :
    Within m s (State.unparkReads x0 x1 a) := by
  refine Within.step (m := 549755813888) h ?_ hs
  unfold State.unparkReads; extract_lets
  with_reducible repeat' first | exact .refl | refine State.modEng_in ?_ rfl

theorem State.resume_in {x0 x1 m s a} (h : Within m s a) (hs : 7318918225985792 &&& m = 7318918225985792) :
    Within m s (State.resume x0 x1 a) := by
  refine Within.step (m := 7318918225985792) h ?_ hs
  unfold State.resume; extract_lets
  with_reducible repeat' first | exact .refl | refine .ite ?_ ?_ | refine State.modCtx_in ?_ rfl | refine State.addCharge_in ?_ rfl | refine State.writeRecord_in ?_ rfl | refine State.setAct_in ?_ rfl | split

theorem State.goOn_in {x0 x1 m s a} (h : Within m s a) (hs : 7318918225985792 &&& m = 7318918225985792) :
    Within m s (State.goOn x0 x1 a) := by
  refine Within.step (m := 7318918225985792) h ?_ hs
  unfold State.goOn
  with_reducible repeat' first | exact .refl | refine .ite ?_ ?_ | refine State.modCtx_in ?_ rfl | refine State.resume_in ?_ rfl

theorem State.giveCandidate_in {x0 x1 m s a} (h : Within m s a) (hs : 5068199401882112 &&& m = 5068199401882112) :
    Within m s (State.giveCandidate x0 x1 a) := by
  refine Within.step (m := 5068199401882112) h ?_ hs
  unfold State.giveCandidate
  with_reducible repeat' first | exact .refl | refine State.addCandidate_in ?_ rfl | split

theorem State.endCtx_in {x0 x1 x2 x3 m s a} (h : Within m s a) (hs : 52512393772668770 &&& m = 52512393772668770) :
    Within m s (State.endCtx x0 x1 x2 x3 a) := by
  refine Within.step (m := 52512393772668770) h ?_ hs
  unfold State.endCtx; extract_lets
  with_reducible repeat' first | exact .refl | refine .ite ?_ ?_ | refine State.writeRecord_in ?_ rfl | refine State.modEng_in ?_ rfl | refine State.dropDecodes_in ?_ rfl | refine State.goOn_in ?_ rfl | refine State.tally_in ?_ rfl | refine State.unparkReads_in ?_ rfl | refine State.workDone_in ?_ rfl | refine State.addCharge_in ?_ rfl | refine State.countStatus_in ?_ rfl | refine State.pauseDie_in ?_ rfl | refine State.modCtx_in ?_ rfl | refine State.deliver_in ?_ rfl | refine State.acctFree_in ?_ rfl | refine State.setAct_in ?_ rfl | refine State.giveCandidate_in ?_ rfl | extract_lets | split | dsimp +zetaDelta only

theorem State.endQueued_in {x0 x1 x2 x3 x4 m s a} (h : Within m s a) (hs : 52371518845359968 &&& m = 52371518845359968) :
    Within m s (State.endQueued x0 x1 x2 x3 x4 a) := by
  refine Within.step (m := 52371518845359968) h ?_ hs
  unfold State.endQueued
  with_reducible repeat' first | exact .refl | refine State.deliver_in ?_ rfl | refine State.dequeue_in ?_ rfl | split

theorem State.moveCw_in {x0 x1 x2 m s a} (h : Within m s a) (hs : 2260595973816320 &&& m = 2260595973816320) :
    Within m s (State.moveCw x0 x1 x2 a) := by
  refine Within.step (m := 2260595973816320) h ?_ hs
  unfold State.moveCw; extract_lets
  with_reducible repeat' first | exact .refl | refine .ite ?_ ?_ | refine State.tookFree_in ?_ rfl | refine State.setPayload_in ?_ rfl | refine State.tally_in ?_ rfl | refine State.mediaRead_in ?_ rfl | refine State.scatter_in ?_ rfl | refine .each ?_ fun _ _ => ?_ | extract_lets | dsimp +zetaDelta only

theorem State.nextRead_in {x0 x1 x2 m s a} (h : Within m s a) (hs : 549755813888 &&& m = 549755813888) :
    Within m s (State.nextRead x0 x1 x2 a) := by
  refine Within.step (m := 549755813888) h ?_ hs
  unfold State.nextRead; extract_lets
  with_reducible repeat' first | exact .refl | refine State.modCtx_in ?_ rfl

theorem State.pageDone_in {x0 x1 m s a} (h : Within m s a) (hs : 52512393772668770 &&& m = 52512393772668770) :
    Within m s (State.pageDone x0 x1 a) := by
  refine Within.step (m := 52512393772668770) h ?_ hs
  unfold State.pageDone; extract_lets
  with_reducible repeat' first | exact .refl | refine .ite ?_ ?_ | refine State.endCtx_in ?_ rfl | refine State.modCtx_in ?_ rfl | refine State.nextRead_in ?_ rfl | refine State.toDecoders_in ?_ rfl | extract_lets | dsimp +zetaDelta only

theorem State.rawPages_in {x0 x1 x2 m s a} (h : Within m s a) (hs : 52512393839777634 &&& m = 52512393839777634) :
    Within m s (State.rawPages x0 x1 x2 a) := by
  induction x2 generalizing x0 x1 s a m with
  | zero => exact h
  | succ n ih =>
    refine Within.step (m := 52512393839777634) h ?_ hs
    unfold State.rawPages; extract_lets
    with_reducible repeat' first | exact .refl | refine .ite ?_ ?_ | refine State.pageDone_in ?_ rfl | refine State.moveCw_in ?_ rfl | refine .each ?_ fun _ _ => ?_ | refine ih ?_ rfl

theorem State.pageReady_in {x0 x1 m s a} (h : Within m s a) (hs : 52512393839777634 &&& m = 52512393839777634) :
    Within m s (State.pageReady x0 x1 a) := by
  refine Within.step (m := 52512393839777634) h ?_ hs
  unfold State.pageReady; extract_lets
  with_reducible repeat' first | exact .refl | refine .ite ?_ ?_ | refine State.rawPages_in ?_ rfl | refine State.modCtx_in ?_ rfl | refine State.toDecoders_in ?_ rfl | extract_lets | dsimp +zetaDelta only

theorem State.modCnt_in {x0 x1 m s a} (h : Within m s a) (hs : 1099511627776 &&& m = 1099511627776) :
    Within m s (State.modCnt x0 x1 a) := by
  refine Within.step (m := 1099511627776) h ?_ hs
  unfold State.modCnt
  with_reducible repeat' first | exact .refl | refine Within.modEcc ?_ rfl

theorem State.decodedWell_in {x0 x1 x2 x3 x4 m s a} (h : Within m s a) (hs : 2262245241257984 &&& m = 2262245241257984) :
    Within m s (State.decodedWell x0 x1 x2 x3 x4 a) := by
  refine Within.step (m := 2262245241257984) h ?_ hs
  unfold State.decodedWell; extract_lets
  with_reducible repeat' first | exact .refl | refine .ite ?_ ?_ | refine State.moveCw_in ?_ rfl | refine State.modCtx_in ?_ rfl | refine State.tally_in ?_ rfl | refine State.modCnt_in ?_ rfl

theorem State.escalate_in {x0 x1 m s a} (h : Within m s a) (hs : 52512393772668770 &&& m = 52512393772668770) :
    Within m s (State.escalate x0 x1 a) := by
  refine Within.step (m := 52512393772668770) h ?_ hs
  unfold State.escalate; extract_lets
  with_reducible repeat' first | exact .refl | refine .ite ?_ ?_ | refine State.modCtx_in ?_ rfl | refine State.nextRead_in ?_ rfl | refine State.assertEvent_in ?_ rfl | refine State.endCtx_in ?_ rfl | refine State.tally_in ?_ rfl | refine State.modCnt_in ?_ rfl | refine .each ?_ fun _ _ => ?_

theorem State.readDecoded_in {x0 x1 x2 x3 m s a} (h : Within m s a) (hs : 52512393839777634 &&& m = 52512393839777634) :
    Within m s (State.readDecoded x0 x1 x2 x3 a) := by
  refine Within.step (m := 52512393839777634) h ?_ hs
  unfold State.readDecoded; extract_lets
  with_reducible repeat' first | exact .refl | refine .ite ?_ ?_ | refine State.pageDone_in ?_ rfl | refine State.escalate_in ?_ rfl | refine State.decodedWell_in ?_ rfl | refine State.tally_in ?_ rfl | refine State.modCtx_in ?_ rfl | refine Within.modEcc ?_ rfl | extract_lets | split | dsimp +zetaDelta only

theorem State.answerBytes_in {x0 x1 m s a} (h : Within m s a) (hs : 8796093022208 &&& m = 8796093022208) :
    Within m s (State.answerBytes x0 x1 a) := by
  refine Within.step (m := 8796093022208) h ?_ hs
  unfold State.answerBytes; extract_lets
  with_reducible repeat' first | exact .refl | refine .ite ?_ ?_ | refine State.setPayload_in ?_ rfl | refine .each ?_ fun _ _ => ?_

theorem State.chEvt_in {x0 x1 m s a} (h : Within m s a) (hs : 5067099890253952 &&& m = 5067099890253952) (hp : ∀ i j, partOfKey (x1 i j).key = 7) :
    Within m s (State.chEvt x0 x1 a) := by
  refine Within.step (m := 5067099890253952) h ?_ hs
  unfold State.chEvt
  with_reducible repeat' first | exact .refl | refine State.assertEvent_in ?_ rfl | refine Within.putAt ?_ (hp ..) rfl

theorem State.writeTraining_in {x0 x1 x2 x3 x4 m s a} (h : Within m s a) (hs : 137438953600 &&& m = 137438953600) :
    Within m s (State.writeTraining x0 x1 x2 x3 x4 a) := by
  refine Within.step (m := 137438953600) h ?_ hs
  unfold State.writeTraining; extract_lets
  with_reducible repeat' first | exact .refl | refine Within.setFldAt ?_ (calFld_part ..) rfl | refine Within.modFch ?_ rfl | extract_lets | split | dsimp +zetaDelta only

theorem State.endMaint_in {x0 x1 m s a} (h : Within m s a) (hs : 52512393772668898 &&& m = 52512393772668898) :
    Within m s (State.endMaint x0 x1 a) := by
  refine Within.step (m := 52512393772668898) h ?_ hs
  unfold State.endMaint; extract_lets
  with_reducible repeat' first | exact .refl | refine .ite ?_ ?_ | refine State.chEvt_in ?_ rfl ?_ | refine State.modNand_in ?_ rfl | refine State.writeTraining_in ?_ rfl | refine State.answerBytes_in ?_ rfl | refine State.endCtx_in ?_ rfl | refine Within.putAt ?_ (FCH_CALRES.EYEFAIL_part ..) rfl | exact fun _ _ => FCH_CHEVT.CALFAIL_part .. | split

theorem State.endWrite_in {x0 x1 x2 m s a} (h : Within m s a) (hs : 52512668650575714 &&& m = 52512668650575714) :
    Within m s (State.endWrite x0 x1 x2 a) := by
  refine Within.step (m := 52512668650575714) h ?_ hs
  unfold State.endWrite; extract_lets
  with_reducible repeat' first | exact .refl | refine .ite ?_ ?_ | refine State.endCtx_in ?_ rfl | refine State.putProgram_in ?_ rfl | refine State.putErase_in ?_ rfl

theorem State.microFree_in {x0 x1 m s a} (h : Within m s a) (hs : 141424683122690 &&& m = 141424683122690) :
    Within m s (State.microFree x0 x1 a) := by
  refine Within.step (m := 141424683122690) h ?_ hs
  unfold State.microFree; extract_lets
  with_reducible repeat' first | exact .refl | refine .ite ?_ ?_ | refine State.unparkReads_in ?_ rfl | refine State.pauseDie_in ?_ rfl | refine State.modCtx_in ?_ rfl | refine State.acctFree_in ?_ rfl | refine State.setAct_in ?_ rfl | extract_lets | dsimp +zetaDelta only

theorem State.dieReady_in {x0 x1 x2 x3 m s a} (h : Within m s a) (hs : 52512668717684706 &&& m = 52512668717684706) :
    Within m s (State.dieReady x0 x1 x2 x3 a) := by
  refine Within.step (m := 52512668717684706) h ?_ hs
  unfold State.dieReady; extract_lets
  with_reducible repeat' first | exact .refl | refine .ite ?_ ?_ | refine State.endMaint_in ?_ rfl | refine State.pageReady_in ?_ rfl | refine State.microFree_in ?_ rfl | refine State.endWrite_in ?_ rfl | refine State.modCtx_in ?_ rfl | refine State.endCtx_in ?_ rfl | split

theorem State.endDie_in {x0 x1 x2 x3 m s a} (h : Within m s a) (hs : 52512668650575714 &&& m = 52512668650575714) :
    Within m s (State.endDie x0 x1 x2 x3 a) := by
  refine Within.step (m := 52512668650575714) h ?_ hs
  unfold State.endDie
  with_reducible repeat' first | exact .refl | refine .ite ?_ ?_ | refine State.leaveUndefined_in ?_ rfl | refine State.endCtx_in ?_ rfl | refine .each ?_ fun _ _ => ?_

theorem State.fenceDie_in {x0 x1 m s a} (h : Within m s a) (hs : 52512668650575714 &&& m = 52512668650575714) :
    Within m s (State.fenceDie x0 x1 a) := by
  refine Within.step (m := 52512668650575714) h ?_ hs
  unfold State.fenceDie; extract_lets
  with_reducible repeat' first | exact .refl | refine .ite ?_ ?_ | refine State.endDie_in ?_ rfl | refine State.modEng_in ?_ rfl | refine State.modCtx_in ?_ rfl | refine State.leaveUndefined_in ?_ rfl

theorem State.abortQueued_in {x0 x1 x2 m s a} (h : Within m s a) (hs : 52371518845359968 &&& m = 52371518845359968) :
    Within m s (State.abortQueued x0 x1 x2 a) := by
  refine Within.step (m := 52371518845359968) h ?_ hs
  unfold State.abortQueued
  with_reducible repeat' first | exact .refl | refine State.deliver_in ?_ rfl | refine State.setQueue_in ?_ rfl | refine .each ?_ fun _ _ => ?_

theorem State.abortEngine_in {x0 m s a} (h : Within m s a) (hs : 52512668650575714 &&& m = 52512668650575714) :
    Within m s (State.abortEngine x0 a) := by
  refine Within.step (m := 52512668650575714) h ?_ hs
  unfold State.abortEngine; extract_lets
  with_reducible repeat' first | exact .refl | refine State.abortQueued_in ?_ rfl | refine State.endDie_in ?_ rfl | refine .each ?_ fun _ _ => ?_

theorem State.askResets_in {x0 x1 m s a} (h : Within m s a) (hs : 137438953474 &&& m = 137438953474) :
    Within m s (State.askResets x0 x1 a) := by
  refine Within.step (m := 137438953474) h ?_ hs
  unfold State.askResets
  with_reducible repeat' first | exact .refl | refine State.askReset_in ?_ rfl | refine .each ?_ fun _ _ => ?_

theorem State.resetEngine_in {x0 m s a} (h : Within m s a) (hs : 52512670798190562 &&& m = 52512670798190562) :
    Within m s (State.resetEngine x0 a) := by
  refine Within.step (m := 52512670798190562) h ?_ hs
  unfold State.resetEngine; extract_lets
  with_reducible repeat' first | exact .refl | refine .ite ?_ ?_ | refine State.askResets_in ?_ rfl | refine State.abortEngine_in ?_ rfl | refine State.unfenceUnit_in ?_ rfl | refine Within.setFldAt ?_ (DRF_STAT.STATE_part ..) rfl | refine Within.putAt ?_ (DRF_CTRL.RUN_part ..) rfl | refine Within.setFldAt ?_ (DRF_FAULT.PC_part ..) rfl | refine Within.setFldAt ?_ (DRF_FAULT.CTX_part ..) rfl | refine Within.setFldAt ?_ (DRF_FAULT.CODE_part ..) rfl | refine Within.putAt ?_ (DRF_FAULT.VALID_part ..) rfl | extract_lets | dsimp +zetaDelta only

theorem State.runEngine_in {x0 m s a} (h : Within m s a) (hs : 18014398513676544 &&& m = 18014398513676544) :
    Within m s (State.runEngine x0 a) := by
  refine Within.step (m := 18014398513676544) h ?_ hs
  unfold State.runEngine; extract_lets
  with_reducible repeat' first | exact .refl | refine .ite ?_ ?_ | refine State.endLoops_in ?_ rfl | refine Within.putAt ?_ (DRF_CTRL.RUN_part ..) rfl | refine Within.putAt ?_ (DRF_STAT.ERR_part ..) rfl | refine Within.setFldAt ?_ (DRF_STAT.STATE_part ..) rfl

theorem State.stopEngine_in {x0 m s a} (h : Within m s a) (hs : 5207839526224770 &&& m = 5207839526224770) :
    Within m s (State.stopEngine x0 a) := by
  refine Within.step (m := 5207839526224770) h ?_ hs
  unfold State.stopEngine; extract_lets
  with_reducible repeat' first | exact .refl | refine .ite ?_ ?_ | refine State.reportUnit_in ?_ rfl | refine Within.putAt ?_ (DRF_CTRL.RUN_part ..) rfl | refine Within.setFldAt ?_ (DRF_STAT.STATE_part ..) rfl

theorem State.modeEngines_in {m s a} (h : Within m s a) (hs : 5207839526224770 &&& m = 5207839526224770) :
    Within m s (State.modeEngines a) := by
  refine Within.step (m := 5207839526224770) h ?_ hs
  unfold State.modeEngines
  with_reducible repeat' first | exact .refl | refine .ite ?_ ?_ | refine State.reportUnit_in ?_ rfl | refine .each ?_ fun _ _ => ?_

theorem State.modeFence_in {x0 m s a} (h : Within m s a) (hs : 14074301294575874 &&& m = 14074301294575874) :
    Within m s (State.modeFence x0 a) := by
  refine Within.step (m := 14074301294575874) h ?_ hs
  unfold State.modeFence; extract_lets
  with_reducible repeat' first | exact .refl | refine .ite ?_ ?_ | refine State.modeLag_in ?_ rfl | refine State.noteError_in ?_ rfl | refine Within.setFldAt ?_ (DRF_STAT.STATE_part ..) rfl

theorem State.resetFails_in {x0 m s a} (h : Within m s a) (hs : 137438953730 &&& m = 137438953730) :
    Within m s (State.resetFails x0 a) := by
  refine Within.step (m := 137438953730) h ?_ hs
  unfold State.resetFails; extract_lets
  with_reducible repeat' first | exact .refl | refine State.endReset_in ?_ rfl | refine Within.setFldAt ?_ (DRF_DIEERR.DIE_part ..) rfl | extract_lets | dsimp +zetaDelta only

theorem State.limitReset_in {x0 x1 m s a} (h : Within m s a) (hs : 137438953730 &&& m = 137438953730) :
    Within m s (State.limitReset x0 x1 a) := by
  refine Within.step (m := 137438953730) h ?_ hs
  unfold State.limitReset; extract_lets
  with_reducible repeat' first | exact .refl | refine .ite ?_ ?_ | refine State.resetFails_in ?_ rfl | refine State.askReset_in ?_ rfl | extract_lets | dsimp +zetaDelta only

theorem State.timeoutDie_in {x0 x1 x2 m s a} (h : Within m s a) (hs : 52512668650575714 &&& m = 52512668650575714) :
    Within m s (State.timeoutDie x0 x1 x2 a) := by
  refine Within.step (m := 52512668650575714) h ?_ hs
  unfold State.timeoutDie; extract_lets
  with_reducible repeat' first | exact .refl | refine .ite ?_ ?_ | refine State.modEng_in ?_ rfl | refine State.endCtx_in ?_ rfl | refine State.limitReset_in ?_ rfl | refine State.acctFree_in ?_ rfl | refine State.resetFails_in ?_ rfl | refine State.endDie_in ?_ rfl | extract_lets | split | dsimp +zetaDelta only

/-! HoldState.lean -/

theorem State.toHld_in {x0 m s a} (h : Within m s a) (hs : 2048 &&& m = 2048) :
    Within m s (State.toHld x0 a) := by
  refine Within.step (m := 2048) h ?_ hs
  unfold State.toHld
  with_reducible repeat' first | exact .refl | refine Within.setFldAt ?_ HLD_STAT.STATE_part rfl

theorem State.startCheck_in {m s a} (h : Within m s a) (hs : 4398046513152 &&& m = 4398046513152) :
    Within m s (State.startCheck a) := by
  refine Within.step (m := 4398046513152) h ?_ hs
  unfold State.startCheck
  with_reducible repeat' first | exact .refl | refine .ite ?_ ?_ | refine Within.countAt ?_ HLD_CNT.CHECKS_part rfl | refine Within.modHld ?_ rfl

theorem State.stopCheck_in {m s a} (h : Within m s a) (hs : 4398046511104 &&& m = 4398046511104) :
    Within m s (State.stopCheck a) := by
  refine Within.step (m := 4398046511104) h ?_ hs
  unfold State.stopCheck; extract_lets
  with_reducible repeat' first | exact .refl | refine .ite ?_ ?_ | refine Within.modHld ?_ rfl

theorem State.drainWork_in {m s a} (h : Within m s a) (hs : 36033847900504096 &&& m = 36033847900504096) :
    Within m s (State.drainWork a) := by
  refine Within.step (m := 36033847900504096) h ?_ hs
  unfold State.drainWork
  with_reducible repeat' first | exact .refl | refine .ite ?_ ?_ | refine State.startMapFlush_in ?_ rfl | refine State.startCheckpoint_in ?_ rfl | refine Within.modHld ?_ rfl

theorem State.enterDraining_in {m s a} (h : Within m s a) (hs : 41100398034946080 &&& m = 41100398034946080) :
    Within m s (State.enterDraining a) := by
  refine Within.step (m := 41100398034946080) h ?_ hs
  unfold State.enterDraining
  with_reducible repeat' first | exact .refl | refine State.drainWork_in ?_ rfl | refine State.assertEvent_in ?_ rfl | refine State.toHld_in ?_ rfl | refine Within.modHld ?_ rfl

theorem State.holdCheck_in {m s a} (h : Within m s a) (hs : 41100398034946080 &&& m = 41100398034946080) :
    Within m s (State.holdCheck a) := by
  refine Within.step (m := 41100398034946080) h ?_ hs
  unfold State.holdCheck; extract_lets
  with_reducible repeat' first | exact .refl | refine .ite ?_ ?_ | refine State.drainWork_in ?_ rfl | refine State.enterDraining_in ?_ rfl | refine State.startCheck_in ?_ rfl | refine State.assertIf_in ?_ rfl | refine Within.modHld ?_ rfl

theorem State.writeHldCtrl_in {x0 m s a} (h : Within m s a) (hs : 41100398034946080 &&& m = 41100398034946080) :
    Within m s (State.writeHldCtrl x0 a) := by
  refine Within.step (m := 41100398034946080) h ?_ hs
  unfold State.writeHldCtrl; extract_lets
  with_reducible repeat' first | exact .refl | refine .ite ?_ ?_ | refine State.enterDraining_in ?_ rfl | refine State.holdCheck_in ?_ rfl | refine State.startCheck_in ?_ rfl | refine Within.putAt ?_ HLD_CTRL.EN_part rfl | refine Within.modHld ?_ rfl

/-! FchOps.lean -/

theorem State.grpErr_in {x0 m s a} (h : Within m s a) (hs : 128 &&& m = 128) :
    Within m s (State.grpErr x0 a) := by
  refine Within.step (m := 128) h ?_ hs
  unfold State.grpErr
  with_reducible repeat' first | exact .refl | refine Within.putAt ?_ (FCH_GSTAT.ERR_part ..) rfl

theorem State.updateWp_in {x0 m s a} (h : Within m s a) (hs : 137438953600 &&& m = 137438953600) :
    Within m s (State.updateWp x0 a) := by
  refine Within.step (m := 137438953600) h ?_ hs
  unfold State.updateWp; extract_lets
  with_reducible repeat' first | exact .refl | refine Within.putAt ?_ (FCH_GSTAT.WP_part ..) rfl | refine Within.modFch ?_ rfl

theorem State.toGrp_in {x0 x1 m s a} (h : Within m s a) (hs : 23081635842883712 &&& m = 23081635842883712) :
    Within m s (State.toGrp x0 x1 a) := by
  refine Within.step (m := 23081635842883712) h ?_ hs
  unfold State.toGrp; extract_lets
  with_reducible repeat' first | exact .refl | refine .ite ?_ ?_ | refine State.endLoops_in ?_ rfl | refine State.chEvt_in ?_ rfl ?_ | refine State.updateWp_in ?_ rfl | refine Within.putAt ?_ (FCH_CHEVT.FAULT_part ..) rfl | refine Within.setFldAt ?_ (FCH_GSTAT.STATE_part ..) rfl | refine .each ?_ fun _ _ => ?_ | exact fun _ _ => FCH_CHEVT.STATE_part ..

theorem State.setNpwr_in {x0 x1 m s a} (h : Within m s a) (hs : 137438953472 &&& m = 137438953472) :
    Within m s (State.setNpwr x0 x1 a) := by
  refine Within.step (m := 137438953472) h ?_ hs
  unfold State.setNpwr
  with_reducible repeat' first | exact .refl | refine Within.modFch ?_ rfl

theorem State.reconciled_in {x0 m s a} (h : Within m s a) (hs : 137438953472 &&& m = 137438953472) :
    Within m s (State.reconciled x0 a) := by
  refine Within.step (m := 137438953472) h ?_ hs
  unfold State.reconciled
  with_reducible repeat' first | exact .refl | refine Within.modFch ?_ rfl

theorem State.dropResets_in {x0 m s a} (h : Within m s a) (hs : 137438953474 &&& m = 137438953474) :
    Within m s (State.dropResets x0 a) := by
  refine Within.step (m := 137438953474) h ?_ hs
  unfold State.dropResets
  with_reducible repeat' first | exact .refl | refine State.endReset_in ?_ rfl | refine .each ?_ fun _ _ => ?_

theorem State.grpToOff_in {x0 m s a} (h : Within m s a) (hs : 23081635842883714 &&& m = 23081635842883714) :
    Within m s (State.grpToOff x0 a) := by
  refine Within.step (m := 23081635842883714) h ?_ hs
  unfold State.grpToOff; extract_lets
  with_reducible repeat' first | exact .refl | refine State.toGrp_in ?_ rfl | refine State.dropResets_in ?_ rfl | refine State.setNpwr_in ?_ rfl | refine Within.putAt ?_ (FCH_GCTRL.WP_REL_part ..) rfl | refine Within.modFch ?_ rfl | extract_lets | dsimp +zetaDelta only

theorem State.grpToFault_in {x0 x1 m s a} (h : Within m s a) (hs : 23081635842883714 &&& m = 23081635842883714) (hp : ∀ g, partOfKey (x1 g).key = 7) :
    Within m s (State.grpToFault x0 x1 a) := by
  refine Within.step (m := 23081635842883714) h ?_ hs
  unfold State.grpToFault; extract_lets
  with_reducible repeat' first | exact .refl | refine State.setNpwr_in ?_ rfl | refine State.toGrp_in ?_ rfl | refine State.reconciled_in ?_ rfl | refine State.dropResets_in ?_ rfl | refine Within.putAt ?_ (hp ..) rfl | refine Within.modFch ?_ rfl

theorem State.abortGroup_in {x0 m s a} (h : Within m s a) (hs : 52512668650575714 &&& m = 52512668650575714) :
    Within m s (State.abortGroup x0 a) := by
  refine Within.step (m := 52512668650575714) h ?_ hs
  unfold State.abortGroup
  with_reducible repeat' first | exact .refl | refine State.abortEngine_in ?_ rfl | refine .each ?_ fun _ _ => ?_

theorem State.grpForceOff_in {x0 m s a} (h : Within m s a) (hs : 70527067164252130 &&& m = 70527067164252130) :
    Within m s (State.grpForceOff x0 a) := by
  refine Within.step (m := 70527067164252130) h ?_ hs
  unfold State.grpForceOff
  with_reducible repeat' first | exact .refl | refine .ite ?_ ?_ | refine State.abortGroup_in ?_ rfl | refine State.grpToOff_in ?_ rfl | refine State.setNpwr_in ?_ rfl

theorem State.undervoltage_in {x0 m s a} (h : Within m s a) (hs : 70527067164252130 &&& m = 70527067164252130) :
    Within m s (State.undervoltage x0 a) := by
  refine Within.step (m := 70527067164252130) h ?_ hs
  unfold State.undervoltage
  with_reducible repeat' first | exact .refl | refine .ite ?_ ?_ | refine State.grpToFault_in ?_ rfl ?_ | refine State.abortGroup_in ?_ rfl | refine Within.modFch ?_ rfl | exact fun _ => FCH_GSTAT.UV_part ..

theorem State.loadProfile_in {x0 x1 x2 m s a} (h : Within m s a) (hs : 128 &&& m = 128) :
    Within m s (State.loadProfile x0 x1 x2 a) := by
  refine Within.step (m := 128) h ?_ hs
  unfold State.loadProfile; extract_lets
  with_reducible repeat' first | exact .refl | refine Within.setFldAt ?_ (FCH_TSETW0.INTF_part ..) rfl | refine Within.setFldAt ?_ (FCH_TSETW0.RATE_part ..) rfl | refine Within.setFldAt ?_ (FCH_TSETW0.SDRMODE_part ..) rfl | refine .each ?_ fun _ _ => ?_

theorem State.enterPowering_in {x0 m s a} (h : Within m s a) (hs : 23081635842883712 &&& m = 23081635842883712) :
    Within m s (State.enterPowering x0 a) := by
  refine Within.step (m := 23081635842883712) h ?_ hs
  unfold State.enterPowering; extract_lets
  with_reducible repeat' first | exact .refl | refine .ite ?_ ?_ | refine State.loadProfile_in ?_ rfl | refine State.setNpwr_in ?_ rfl | refine State.toGrp_in ?_ rfl | refine Within.setFldAt ?_ (calFld_part ..) rfl | refine .each ?_ fun _ _ => ?_

theorem State.resetsDone_in {x0 m s a} (h : Within m s a) (hs : 23081635842883712 &&& m = 23081635842883712) :
    Within m s (State.resetsDone x0 a) := by
  refine Within.step (m := 23081635842883712) h ?_ hs
  unfold State.resetsDone
  with_reducible repeat' first | exact .refl | refine .ite ?_ ?_ | refine State.toGrp_in ?_ rfl | refine State.reconciled_in ?_ rfl

theorem State.resetDies_in {x0 x1 m s a} (h : Within m s a) (hs : 23081635842883714 &&& m = 23081635842883714) :
    Within m s (State.resetDies x0 x1 a) := by
  refine Within.step (m := 23081635842883714) h ?_ hs
  unfold State.resetDies; extract_lets
  with_reducible repeat' first | exact .refl | refine State.resetsDone_in ?_ rfl | refine State.askReset_in ?_ rfl | refine Within.modFch ?_ rfl | refine .each ?_ fun _ _ => ?_ | extract_lets | dsimp +zetaDelta only

theorem State.resetReady_in {x0 x1 m s a} (h : Within m s a) (hs : 23081635842883714 &&& m = 23081635842883714) :
    Within m s (State.resetReady x0 x1 a) := by
  refine Within.step (m := 23081635842883714) h ?_ hs
  unfold State.resetReady; extract_lets
  with_reducible repeat' first | exact .refl | refine .ite ?_ ?_ | refine State.resetsDone_in ?_ rfl | refine State.endReset_in ?_ rfl | refine Within.modFch ?_ rfl | extract_lets | dsimp +zetaDelta only

theorem State.fenceReset_in {x0 m s a} (h : Within m s a) (hs : 23081635842883714 &&& m = 23081635842883714) :
    Within m s (State.fenceReset x0 a) := by
  refine Within.step (m := 23081635842883714) h ?_ hs
  unfold State.fenceReset
  with_reducible repeat' first | exact .refl | refine .ite ?_ ?_ | refine State.resetReady_in ?_ rfl

theorem State.rampEnd_in {x0 x1 x2 x3 m s a} (h : Within m s a) (hs : 23081635842883714 &&& m = 23081635842883714) :
    Within m s (State.rampEnd x0 x1 x2 x3 a) := by
  refine Within.step (m := 23081635842883714) h ?_ hs
  unfold State.rampEnd; extract_lets
  with_reducible repeat' first | exact .refl | refine .ite ?_ ?_ | refine State.loadProfile_in ?_ rfl | refine State.grpToFault_in ?_ rfl ?_ | refine State.resetDies_in ?_ rfl | refine Within.setFldAt ?_ (FCH_GSTAT.BANDSEEN_part ..) rfl | refine Within.modFch ?_ rfl | exact fun _ => FCH_GSTAT.BANDERR_part .. | exact fun _ => FCH_GSTAT.RSTERR_part ..

theorem State.grpOn_in {x0 m s a} (h : Within m s a) (hs : 139586437248 &&& m = 139586437248) :
    Within m s (State.grpOn x0 a) := by
  refine Within.step (m := 139586437248) h ?_ hs
  unfold State.grpOn
  with_reducible repeat' first | exact .refl | refine .ite ?_ ?_ | refine State.grpErr_in ?_ rfl | refine State.startPowerUp_in ?_ rfl | refine Within.modFch ?_ rfl

theorem State.grpOffReq_in {x0 m s a} (h : Within m s a) (hs : 23081635842883714 &&& m = 23081635842883714) :
    Within m s (State.grpOffReq x0 a) := by
  refine Within.step (m := 23081635842883714) h ?_ hs
  unfold State.grpOffReq; extract_lets
  with_reducible repeat' first | exact .refl | refine .ite ?_ ?_ | refine State.grpErr_in ?_ rfl | refine State.grpToOff_in ?_ rfl | refine Within.putAt ?_ (FCH_GSTAT.BANDERR_part ..) rfl | refine Within.putAt ?_ (FCH_GSTAT.RSTERR_part ..) rfl | refine Within.putAt ?_ (FCH_GSTAT.UV_part ..) rfl

theorem State.grpReadyReq_in {x0 m s a} (h : Within m s a) (hs : 23081635842883712 &&& m = 23081635842883712) :
    Within m s (State.grpReadyReq x0 a) := by
  refine Within.step (m := 23081635842883712) h ?_ hs
  unfold State.grpReadyReq; extract_lets
  with_reducible repeat' first | exact .refl | refine .ite ?_ ?_ | refine State.toGrp_in ?_ rfl | refine State.grpErr_in ?_ rfl | refine State.flushWaiting_in ?_ rfl

theorem State.setWpRel_in {x0 x1 m s a} (h : Within m s a) (hs : 137438953600 &&& m = 137438953600) :
    Within m s (State.setWpRel x0 x1 a) := by
  refine Within.step (m := 137438953600) h ?_ hs
  unfold State.setWpRel
  with_reducible repeat' first | exact .refl | refine State.updateWp_in ?_ rfl | refine Within.putAt ?_ (FCH_GCTRL.WP_REL_part ..) rfl

theorem State.putTset0_in {x0 x1 x2 m s a} (h : Within m s a) (hs : 128 &&& m = 128) :
    Within m s (State.putTset0 x0 x1 x2 a) := by
  refine Within.step (m := 128) h ?_ hs
  unfold State.putTset0
  with_reducible repeat' first | exact .refl | refine Within.setFldAt ?_ (FCH_TSETW0.INTF_part ..) rfl | refine Within.setFldAt ?_ (FCH_TSETW0.RATE_part ..) rfl | refine Within.setFldAt ?_ (FCH_TSETW0.SDRMODE_part ..) rfl

theorem State.writeTset_in {x0 x1 x2 x3 m s a} (h : Within m s a) (hs : 128 &&& m = 128) :
    Within m s (State.writeTset x0 x1 x2 x3 a) := by
  refine Within.step (m := 128) h ?_ hs
  unfold State.writeTset; extract_lets
  with_reducible repeat' first | exact .refl | refine .ite ?_ ?_ | refine State.grpErr_in ?_ rfl | refine State.putTset0_in ?_ rfl | refine Within.setFldAt ?_ (FCH_TSETW1.DRV_part ..) rfl | refine Within.setFldAt ?_ (FCH_TSETW1.ODT_part ..) rfl | refine Within.setFldAt ?_ (FCH_TSETW1.VREFQ_part ..) rfl

theorem State.setFence_in {x0 m s a} (h : Within m s a) (hs : 70527067164252130 &&& m = 70527067164252130) :
    Within m s (State.setFence x0 a) := by
  refine Within.step (m := 70527067164252130) h ?_ hs
  unfold State.setFence; extract_lets
  with_reducible repeat' first | exact .refl | refine .ite ?_ ?_ | refine State.fenceReset_in ?_ rfl | refine State.fenceDie_in ?_ rfl | refine Within.setFldAt ?_ (fenceFld_part ..) rfl | extract_lets | dsimp +zetaDelta only

theorem State.clearFence_in {x0 m s a} (h : Within m s a) (hs : 128 &&& m = 128) :
    Within m s (State.clearFence x0 a) := by
  refine Within.step (m := 128) h ?_ hs
  unfold State.clearFence; extract_lets
  with_reducible repeat' first | exact .refl | refine Within.setFldAt ?_ (fenceFld_part ..) rfl

theorem State.writeFence_in {x0 x1 x2 m s a} (h : Within m s a) (hs : 70527067164252130 &&& m = 70527067164252130) :
    Within m s (State.writeFence x0 x1 x2 a) := by
  refine Within.step (m := 70527067164252130) h ?_ hs
  unfold State.writeFence
  with_reducible repeat' first | exact .refl | refine State.setFence_in ?_ rfl | refine .each ?_ fun _ _ => ?_

theorem State.writeCal_in {x0 x1 x2 x3 x4 m s a} (h : Within m s a) (hs : 137438953600 &&& m = 137438953600) :
    Within m s (State.writeCal x0 x1 x2 x3 x4 a) := by
  refine Within.step (m := 137438953600) h ?_ hs
  unfold State.writeCal
  with_reducible repeat' first | exact .refl | refine .ite ?_ ?_ | refine State.grpErr_in ?_ rfl | refine Within.setFldAt ?_ (calFld_part ..) rfl | refine Within.modFch ?_ rfl

theorem State.recalCheck_in {m s a} (h : Within m s a) (hs : 5067237329207424 &&& m = 5067237329207424) :
    Within m s (State.recalCheck a) := by
  refine Within.step (m := 5067237329207424) h ?_ hs
  unfold State.recalCheck
  with_reducible repeat' first | exact .refl | refine .ite ?_ ?_ | refine State.chEvt_in ?_ rfl ?_ | refine Within.modFch ?_ rfl | refine .each ?_ fun _ _ => ?_ | exact fun _ _ => FCH_CHEVT.RECAL_part ..

theorem State.writeGcfg_in {x0 x1 m s a} (h : Within m s a) (hs : 128 &&& m = 128) :
    Within m s (State.writeGcfg x0 x1 a) := by
  refine Within.step (m := 128) h ?_ hs
  unfold State.writeGcfg
  with_reducible repeat' first | exact .refl | refine .ite ?_ ?_ | refine State.grpErr_in ?_ rfl | refine Within.setFldAt ?_ (FCH_GCFG.BAND_part ..) rfl | refine Within.setFldAt ?_ (FCH_GCFG.FAMILY_part ..) rfl | refine Within.setFldAt ?_ (FCH_GCFG.POP_part ..) rfl

theorem State.loadGcfg_in {x0 m s a} (h : Within m s a) (hs : 128 &&& m = 128) :
    Within m s (State.loadGcfg x0 a) := by
  refine Within.step (m := 128) h ?_ hs
  unfold State.loadGcfg; extract_lets
  with_reducible repeat' first | exact .refl | refine Within.setFldAt ?_ (FCH_GCFG.BAND_part ..) rfl | refine Within.setFldAt ?_ (FCH_GCFG.FAMILY_part ..) rfl | refine Within.setFldAt ?_ (FCH_GCFG.POP_part ..) rfl

theorem State.reconcileGroup_in {x0 m s a} (h : Within m s a) (hs : 23081637990367362 &&& m = 23081637990367362) :
    Within m s (State.reconcileGroup x0 a) := by
  refine Within.step (m := 23081637990367362) h ?_ hs
  unfold State.reconcileGroup; extract_lets
  with_reducible repeat' first | exact .refl | refine .ite ?_ ?_ | refine State.grpOn_in ?_ rfl | refine State.loadGcfg_in ?_ rfl | refine State.resetDies_in ?_ rfl | refine State.grpToOff_in ?_ rfl | refine Within.modFch ?_ rfl

theorem State.modeAtOnce_in {m s a} (h : Within m s a) (hs : 5208939037852546 &&& m = 5208939037852546) :
    Within m s (State.modeAtOnce a) := by
  refine Within.step (m := 5208939037852546) h ?_ hs
  unfold State.modeAtOnce; extract_lets
  with_reducible repeat' first | exact .refl | refine .ite ?_ ?_ | refine State.modeEngines_in ?_ rfl | refine State.reportUnit_in ?_ rfl | refine Within.putAt ?_ ECC_STAT.MODE_part rfl | refine Within.modEcc ?_ rfl | refine .each ?_ fun _ _ => ?_ | extract_lets | dsimp +zetaDelta only

theorem State.eccMode_in {m s a} (h : Within m s a) (hs : 5208939037852546 &&& m = 5208939037852546) :
    Within m s (State.eccMode a) := by
  refine Within.step (m := 5208939037852546) h ?_ hs
  unfold State.eccMode
  with_reducible repeat' first | exact .refl | refine .ite ?_ ?_ | refine State.reportUnit_in ?_ rfl | refine Within.modEcc ?_ rfl

/-! Flash.lean -/

theorem pwrOn_in {x0 x1 m s a} (h : Within m s a) (hs : 140140085376 &&& m = 140140085376) :
    Within m s (pwrOn x0 x1 a) := by
  refine Within.step (m := 140140085376) h ?_ hs
  unfold pwrOn
  with_reducible repeat' first | exact .refl | refine .ite ?_ ?_ | refine State.access_in ?_ (fun _ => ?_) rfl | refine State.grpOn_in ?_ rfl

theorem pwrOff_in {x0 x1 m s a} (h : Within m s a) (hs : 59114933987575970 &&& m = 59114933987575970) :
    Within m s (pwrOff x0 x1 a) := by
  refine Within.step (m := 59114933987575970) h ?_ hs
  unfold pwrOff
  with_reducible repeat' first | exact .refl | refine .ite ?_ ?_ | refine State.grpOffReq_in ?_ rfl | refine State.access_in ?_ (fun _ => ?_) rfl | refine State.holdCheck_in ?_ rfl

theorem groupReadyReq_in {x0 x1 m s a} (h : Within m s a) (hs : 59114933987575968 &&& m = 59114933987575968) :
    Within m s (groupReadyReq x0 x1 a) := by
  refine Within.step (m := 59114933987575968) h ?_ hs
  unfold groupReadyReq
  with_reducible repeat' first | exact .refl | refine .ite ?_ ?_ | refine State.grpReadyReq_in ?_ rfl | refine State.access_in ?_ (fun _ => ?_) rfl | refine State.holdCheck_in ?_ rfl

theorem State.writeGctrl_in {x0 x1 m s a} (h : Within m s a) (hs : 59114936135059618 &&& m = 59114936135059618) :
    Within m s (State.writeGctrl x0 x1 a) := by
  refine Within.step (m := 59114936135059618) h ?_ hs
  unfold State.writeGctrl; extract_lets
  with_reducible repeat' first | exact .refl | refine .ite ?_ ?_ | refine State.grpOffReq_in ?_ rfl | refine State.grpReadyReq_in ?_ rfl | refine State.setWpRel_in ?_ rfl | refine State.grpOn_in ?_ rfl | refine State.holdCheck_in ?_ rfl

theorem rampWaitEnd_in {x0 x1 x2 x3 m s a} (h : Within m s a) (hs : 23081635842883714 &&& m = 23081635842883714) :
    Within m s (rampWaitEnd x0 x1 x2 x3 a) := by
  refine Within.step (m := 23081635842883714) h ?_ hs
  unfold rampWaitEnd
  with_reducible repeat' first | exact .refl | refine .ite ?_ ?_ | refine State.rampEnd_in ?_ rfl

theorem groupDieResetTimeout_in {x0 m s a} (h : Within m s a) (hs : 70527067164254178 &&& m = 70527067164254178) :
    Within m s (groupDieResetTimeout x0 a) := by
  refine Within.step (m := 70527067164254178) h ?_ hs
  unfold groupDieResetTimeout
  with_reducible repeat' first | exact .refl | refine .ite ?_ ?_ | refine State.abortGroup_in ?_ rfl | refine State.grpToFault_in ?_ rfl ?_ | refine State.holdCheck_in ?_ rfl | exact fun _ => FCH_GSTAT.RSTERR_part ..

theorem vccqUndervoltage_in {x0 m s a} (h : Within m s a) (hs : 70527067164254178 &&& m = 70527067164254178) :
    Within m s (vccqUndervoltage x0 a) := by
  refine Within.step (m := 70527067164254178) h ?_ hs
  unfold vccqUndervoltage
  with_reducible repeat' first | exact .refl | refine .ite ?_ ?_ | refine State.undervoltage_in ?_ rfl | refine State.holdCheck_in ?_ rfl

theorem timingSetWrite_in {x0 x1 x2 x3 x4 m s a} (h : Within m s a) (hs : 553648256 &&& m = 553648256) :
    Within m s (timingSetWrite x0 x1 x2 x3 x4 a) := by
  refine Within.step (m := 553648256) h ?_ hs
  unfold timingSetWrite
  with_reducible repeat' first | exact .refl | refine .ite ?_ ?_ | refine State.access_in ?_ (fun _ => ?_) rfl | refine State.writeTset_in ?_ rfl

theorem fenceSet_in {x0 x1 x2 x3 m s a} (h : Within m s a) (hs : 70527067164254178 &&& m = 70527067164254178) :
    Within m s (fenceSet x0 x1 x2 x3 a) := by
  refine Within.step (m := 70527067164254178) h ?_ hs
  unfold fenceSet
  with_reducible repeat' first | exact .refl | refine .ite ?_ ?_ | refine State.access_in ?_ (fun _ => ?_) rfl | refine State.writeFence_in ?_ rfl | refine State.holdCheck_in ?_ rfl

theorem calibrationEntryWrite_in {x0 x1 x2 x3 x4 x5 m s a} (h : Within m s a) (hs : 137992601728 &&& m = 137992601728) :
    Within m s (calibrationEntryWrite x0 x1 x2 x3 x4 x5 a) := by
  refine Within.step (m := 137992601728) h ?_ hs
  unfold calibrationEntryWrite
  with_reducible repeat' first | exact .refl | refine .ite ?_ ?_ | refine State.writeCal_in ?_ rfl | refine State.access_in ?_ (fun _ => ?_) rfl

theorem State.submit_in {x0 x1 m s a} (h : Within m s a) (hs : 551097991424 &&& m = 551097991424) :
    Within m s (State.submit x0 x1 a) := by
  refine Within.step (m := 551097991424) h ?_ hs
  unfold State.submit; extract_lets
  with_reducible repeat' first | exact .refl | refine .ite ?_ ?_ | refine State.enterQueue_in ?_ rfl | refine Within.putAt ?_ (DRF_QSTAT.OVF_part ..) rfl

theorem descriptorSubmit_in {x0 x1 x2 m s a} (h : Within m s a) (hs : 551651639552 &&& m = 551651639552) :
    Within m s (descriptorSubmit x0 x1 x2 a) := by
  refine Within.step (m := 551651639552) h ?_ hs
  unfold descriptorSubmit
  with_reducible repeat' first | exact .refl | refine .ite ?_ ?_ | refine State.submit_in ?_ rfl | refine State.access_in ?_ (fun _ => ?_) rfl

theorem hwDescriptorSubmit_in {x0 m s a} (h : Within m s a) (hs : 551097991168 &&& m = 551097991168) :
    Within m s (hwDescriptorSubmit x0 a) := by
  refine Within.step (m := 551097991168) h ?_ hs
  unfold hwDescriptorSubmit
  with_reducible repeat' first | exact .refl | refine State.enterQueue_in ?_ rfl | refine State.modEng_in ?_ rfl | split

theorem State.tookTurn_in {x0 x1 m s a} (h : Within m s a) (hs : 549755813888 &&& m = 549755813888) :
    Within m s (State.tookTurn x0 x1 a) := by
  refine Within.step (m := 549755813888) h ?_ hs
  unfold State.tookTurn; extract_lets
  with_reducible repeat' first | exact .refl | refine State.modEng_in ?_ rfl

theorem State.endChecked_in {x0 x1 x2 x3 x4 m s a} (h : Within m s a) (hs : 52371518845359968 &&& m = 52371518845359968) :
    Within m s (State.endChecked x0 x1 x2 x3 x4 a) := by
  refine Within.step (m := 52371518845359968) h ?_ hs
  unfold State.endChecked
  with_reducible repeat' first | exact .refl | refine State.endQueued_in ?_ rfl | refine State.goOn_in ?_ rfl | refine Within.countAt ?_ (DRF_ERRCNT.INVALID_part ..) rfl | split

theorem State.endUnknown_in {x0 x1 x2 m s a} (h : Within m s a) (hs : 52371518845359968 &&& m = 52371518845359968) :
    Within m s (State.endUnknown x0 x1 x2 a) := by
  induction x2 generalizing x0 x1 s a m with
  | zero => exact h
  | succ n ih =>
    refine Within.step (m := 52371518845359968) h ?_ hs
    unfold State.endUnknown
    with_reducible repeat' first | exact .refl | refine .ite ?_ ?_ | refine State.endChecked_in ?_ rfl | refine ih ?_ rfl | split

theorem State.take_in {x0 x1 x2 : Nat} {f : Nat → Desc → State → State} {m : Nat} {s a : State} (h : Within m s a)
    (hf : ∀ x y b, Within m b (f x y b)) (hs : 52371518845359984 &&& m = 52371518845359984) : Within m s (State.take x0 x1 x2 f a) := by
  unfold State.take
  split
  · exact h
  · dsimp only
    have h1 : Within m s ((a.markQueue x0 x1).endUnknown x0 x1 ((a.markQueue x0 x1).queue x0 x1).length) :=
      h.step (m := 52371518845359984) (State.endUnknown_in (State.markQueue_in Within.refl rfl) rfl) hs
    generalize (a.markQueue x0 x1).endUnknown x0 x1 ((a.markQueue x0 x1).queue x0 x1).length = b at h1
    split
    · split
      · split
        · exact h1
        · split
          · split
            · refine Within.trans ?_ (hf _ _ _)
              exact Within.ite h1 (h1.step (m := 52371518845359984) (State.tookTurn_in Within.refl rfl) hs)
            · exact h1
          · exact h1.step (m := 52371518845359984) (State.endChecked_in Within.refl rfl) hs
      · exact h1
    · exact h1

theorem State.beginRead_in {x0 x1 x2 x3 m s a} (h : Within m s a) (hs : 2252351716982786 &&& m = 2252351716982786) :
    Within m s (State.beginRead x0 x1 x2 x3 a) := by
  refine Within.step (m := 2252351716982786) h ?_ hs
  unfold State.beginRead; extract_lets
  with_reducible repeat' first | exact .refl | refine .ite ?_ ?_ | refine State.modCtx_in ?_ rfl | refine State.startCtx_in ?_ rfl | refine State.dequeue_in ?_ rfl | refine State.setAct_in ?_ rfl | refine State.countStart_in ?_ rfl

theorem mediaReadRow_in {x0 x1 m s a} (h : Within m s a) (hs : 52371520992843634 &&& m = 52371520992843634) :
    Within m s (mediaReadRow x0 x1 a) := by
  refine Within.step (m := 52371520992843634) h ?_ hs
  unfold mediaReadRow
  with_reducible repeat' first | exact .refl | refine State.take_in ?_ (fun _ _ _ => ?_) rfl | refine State.beginRead_in ?_ rfl

theorem State.startProg_in {x0 x1 x2 x3 m s a} (h : Within m s a) (hs : 38281146588463104 &&& m = 38281146588463104) :
    Within m s (State.startProg x0 x1 x2 x3 a) := by
  refine Within.step (m := 38281146588463104) h ?_ hs
  unfold State.startProg; extract_lets
  with_reducible repeat' first | exact .refl | refine State.startCtx_in ?_ rfl | refine State.sysTouch_in ?_ rfl | refine State.dequeue_in ?_ rfl | refine State.tally_in ?_ rfl | refine State.modCtx_in ?_ rfl | refine State.setAct_in ?_ rfl | extract_lets | dsimp +zetaDelta only

theorem prog_in {x0 x1 m s a} (h : Within m s a) (hs : 52371518845359984 &&& m = 52371518845359984) :
    Within m s (prog x0 x1 a) := by
  refine Within.step (m := 52371518845359984) h ?_ hs
  unfold prog
  with_reducible repeat' first | exact .refl | refine State.take_in ?_ (fun _ _ _ => ?_) rfl | refine State.startProg_in ?_ rfl

theorem progPass_in {x0 x1 m s a} (h : Within m s a) (hs : 52371518845359984 &&& m = 52371518845359984) :
    Within m s (progPass x0 x1 a) := by
  refine Within.step (m := 52371518845359984) h ?_ hs
  unfold progPass
  with_reducible repeat' first | exact .refl | refine State.take_in ?_ (fun _ _ _ => ?_) rfl | refine State.startProg_in ?_ rfl

theorem State.startErase_in {x0 x1 x2 x3 m s a} (h : Within m s a) (hs : 38281217455423490 &&& m = 38281217455423490) :
    Within m s (State.startErase x0 x1 x2 x3 a) := by
  refine Within.step (m := 38281217455423490) h ?_ hs
  unfold State.startErase; extract_lets
  with_reducible repeat' first | exact .refl | refine State.startCtx_in ?_ rfl | refine State.sysTouch_in ?_ rfl | refine State.countErase_in ?_ rfl | refine State.dequeue_in ?_ rfl | refine State.countStart_in ?_ rfl | refine State.setAct_in ?_ rfl | extract_lets | dsimp +zetaDelta only

theorem erase_in {x0 x1 m s a} (h : Within m s a) (hs : 52371520992843634 &&& m = 52371520992843634) :
    Within m s (erase x0 x1 a) := by
  refine Within.step (m := 52371520992843634) h ?_ hs
  unfold erase
  with_reducible repeat' first | exact .refl | refine State.take_in ?_ (fun _ _ _ => ?_) rfl | refine State.startErase_in ?_ rfl

theorem State.startMaint_in {x0 x1 x2 x3 m s a} (h : Within m s a) (hs : 2252351716982786 &&& m = 2252351716982786) :
    Within m s (State.startMaint x0 x1 x2 x3 a) := by
  refine Within.step (m := 2252351716982786) h ?_ hs
  unfold State.startMaint; extract_lets
  with_reducible repeat' first | exact .refl | refine State.modCtx_in ?_ rfl | refine State.startCtx_in ?_ rfl | refine State.dequeue_in ?_ rfl | refine State.setAct_in ?_ rfl | refine State.countStart_in ?_ rfl

theorem dieReset_in {x0 m s a} (h : Within m s a) (hs : 52371520992843634 &&& m = 52371520992843634) :
    Within m s (dieReset x0 a) := by
  refine Within.step (m := 52371520992843634) h ?_ hs
  unfold dieReset
  with_reducible repeat' first | exact .refl | refine State.take_in ?_ (fun _ _ _ => ?_) rfl | refine State.startMaint_in ?_ rfl

theorem setfeat_in {x0 m s a} (h : Within m s a) (hs : 52371520992843634 &&& m = 52371520992843634) :
    Within m s (setfeat x0 a) := by
  refine Within.step (m := 52371520992843634) h ?_ hs
  unfold setfeat
  with_reducible repeat' first | exact .refl | refine State.take_in ?_ (fun _ _ _ => ?_) rfl | refine State.startMaint_in ?_ rfl

theorem getfeat_in {x0 x1 m s a} (h : Within m s a) (hs : 52371520992843634 &&& m = 52371520992843634) :
    Within m s (getfeat x0 x1 a) := by
  refine Within.step (m := 52371520992843634) h ?_ hs
  unfold getfeat
  with_reducible repeat' first | exact .refl | refine State.take_in ?_ (fun _ _ _ => ?_) rfl | refine State.startMaint_in ?_ rfl

theorem readid_in {x0 x1 m s a} (h : Within m s a) (hs : 52371520992843634 &&& m = 52371520992843634) :
    Within m s (readid x0 x1 a) := by
  refine Within.step (m := 52371520992843634) h ?_ hs
  unfold readid
  with_reducible repeat' first | exact .refl | refine State.take_in ?_ (fun _ _ _ => ?_) rfl | refine State.startMaint_in ?_ rfl

theorem State.startTrain_in {x0 x1 x2 x3 x4 x5 m s a} (h : Within m s a) (hs : 52371520992843746 &&& m = 52371520992843746) :
    Within m s (State.startTrain x0 x1 x2 x3 x4 x5 a) := by
  refine Within.step (m := 52371520992843746) h ?_ hs
  unfold State.startTrain; extract_lets
  with_reducible repeat' first | exact .refl | refine .ite ?_ ?_ | refine State.startMaint_in ?_ rfl | refine State.chEvt_in ?_ rfl ?_ | refine State.endQueued_in ?_ rfl | refine Within.setFldAt ?_ (FCH_CALRES.DIE_part ..) rfl | refine Within.setFldAt ?_ (FCH_CALRES.KIND_part ..) rfl | refine Within.setFldAt ?_ (FCH_CALRES.PRECOND_part ..) rfl | exact fun _ _ => FCH_CHEVT.CALFAIL_part ..

theorem train_in {x0 x1 x2 x3 m s a} (h : Within m s a) (hs : 52371520992843762 &&& m = 52371520992843762) :
    Within m s (train x0 x1 x2 x3 a) := by
  refine Within.step (m := 52371520992843762) h ?_ hs
  unfold train
  with_reducible repeat' first | exact .refl | refine State.take_in ?_ (fun _ _ _ => ?_) rfl | refine State.startTrain_in ?_ rfl

theorem State.microFault_in {x0 x1 x2 x3 m s a} (h : Within m s a) (hs : 52512395920285666 &&& m = 52512395920285666) :
    Within m s (State.microFault x0 x1 x2 x3 a) := by
  refine Within.step (m := 52512395920285666) h ?_ hs
  unfold State.microFault; extract_lets
  with_reducible repeat' first | exact .refl | refine .ite ?_ ?_ | refine State.drfEvt_in ?_ rfl ?_ | refine State.reportUnit_in ?_ rfl | refine State.holdCheck_in ?_ rfl | refine State.endCtx_in ?_ rfl | refine Within.setFldAt ?_ (DRF_FAULT.CODE_part ..) rfl | refine Within.setFldAt ?_ (DRF_FAULT.CTX_part ..) rfl | refine Within.setFldAt ?_ (DRF_FAULT.PC_part ..) rfl | refine Within.putAt ?_ (DRF_FAULT.VALID_part ..) rfl | refine Within.setFldAt ?_ (DRF_STAT.STATE_part ..) rfl | exact DRF_EVT.HALT_part ..

theorem State.startLib_in {x0 x1 x2 x3 m s a} (h : Within m s a) (hs : 52371518912468832 &&& m = 52371518912468832) :
    Within m s (State.startLib x0 x1 x2 x3 a) := by
  refine Within.step (m := 52371518912468832) h ?_ hs
  unfold State.startLib; extract_lets
  with_reducible repeat' first | exact .refl | refine .ite ?_ ?_ | refine State.endQueued_in ?_ rfl | refine State.modCtx_in ?_ rfl | refine State.startCtx_in ?_ rfl | refine State.dequeue_in ?_ rfl | refine State.tookFree_in ?_ rfl

theorem lib_in {x0 x1 m s a} (h : Within m s a) (hs : 52371518912468848 &&& m = 52371518912468848) :
    Within m s (lib x0 x1 a) := by
  refine Within.step (m := 52371518912468848) h ?_ hs
  unfold lib
  with_reducible repeat' first | exact .refl | refine State.take_in ?_ (fun _ _ _ => ?_) rfl | refine State.startLib_in ?_ rfl

theorem State.startRun_in {x0 x1 x2 x3 m s a} (h : Within m s a) (hs : 52512395920285666 &&& m = 52512395920285666) :
    Within m s (State.startRun x0 x1 x2 x3 a) := by
  refine Within.step (m := 52512395920285666) h ?_ hs
  unfold State.startRun; extract_lets
  with_reducible repeat' first | exact .refl | refine .ite ?_ ?_ | refine State.microFault_in ?_ rfl | refine State.modCtx_in ?_ rfl | refine State.startCtx_in ?_ rfl | refine State.dequeue_in ?_ rfl

theorem run_in {x0 x1 m s a} (h : Within m s a) (hs : 52512395920285682 &&& m = 52512395920285682) :
    Within m s (run x0 x1 a) := by
  refine Within.step (m := 52512395920285682) h ?_ hs
  unfold run
  with_reducible repeat' first | exact .refl | refine State.take_in ?_ (fun _ _ _ => ?_) rfl | refine State.startRun_in ?_ rfl

theorem State.confirmHeld_in {x0 x1 x2 m s a} (h : Within m s a) (hs : 38281217455423490 &&& m = 38281217455423490) :
    Within m s (State.confirmHeld x0 x1 x2 a) := by
  refine Within.step (m := 38281217455423490) h ?_ hs
  unfold State.confirmHeld; extract_lets
  with_reducible repeat' first | exact .refl | refine .ite ?_ ?_ | refine State.confirmed_in ?_ rfl | refine State.countStart_in ?_ rfl | refine State.modCtx_in ?_ rfl | refine State.setAct_in ?_ rfl | extract_lets | dsimp +zetaDelta only

theorem loadedConfirm_in {x0 x1 m s a} (h : Within m s a) (hs : 38281217455423490 &&& m = 38281217455423490) :
    Within m s (loadedConfirm x0 x1 a) := by
  refine Within.step (m := 38281217455423490) h ?_ hs
  unfold loadedConfirm; extract_lets
  with_reducible repeat' first | exact .refl | refine .ite ?_ ?_ | refine State.confirmHeld_in ?_ rfl | refine State.setAct_in ?_ rfl | refine State.countStart_in ?_ rfl | extract_lets | split

theorem State.pollSuspending_in {x0 x1 x2 x3 x4 m s a} (h : Within m s a) (hs : 52512668717684706 &&& m = 52512668717684706) :
    Within m s (State.pollSuspending x0 x1 x2 x3 x4 a) := by
  refine Within.step (m := 52512668717684706) h ?_ hs
  unfold State.pollSuspending; extract_lets
  with_reducible repeat' first | exact .refl | refine .ite ?_ ?_ | refine State.modCtx_in ?_ rfl | refine State.goOn_in ?_ rfl | refine State.dieReady_in ?_ rfl | refine State.setAct_in ?_ rfl

theorem State.pollDie_in {x0 x1 x2 x3 m s a} (h : Within m s a) (hs : 52512668717684706 &&& m = 52512668717684706) :
    Within m s (State.pollDie x0 x1 x2 x3 a) := by
  refine Within.step (m := 52512668717684706) h ?_ hs
  unfold State.pollDie; extract_lets
  with_reducible repeat' first | exact .refl | refine .ite ?_ ?_ | refine State.modCtx_in ?_ rfl | refine State.dieReady_in ?_ rfl

theorem statusPoll_in {x0 x1 x2 x3 x4 m s a} (h : Within m s a) (hs : 70527069378975714 &&& m = 70527069378975714) :
    Within m s (statusPoll x0 x1 x2 x3 x4 a) := by
  refine Within.step (m := 70527069378975714) h ?_ hs
  unfold statusPoll
  with_reducible repeat' first | exact .refl | refine .ite ?_ ?_ | refine State.pollSuspending_in ?_ rfl | refine State.eccMode_in ?_ rfl | refine State.goOn_in ?_ rfl | refine State.pollDie_in ?_ rfl | refine State.issueResets_in ?_ rfl | refine State.resetReady_in ?_ rfl | extract_lets | split | dsimp +zetaDelta only

theorem tailSuspend_in {x0 x1 m s a} (h : Within m s a) (hs : 2252349569499392 &&& m = 2252349569499392) :
    Within m s (tailSuspend x0 x1 a) := by
  refine Within.step (m := 2252349569499392) h ?_ hs
  unfold tailSuspend; extract_lets
  with_reducible repeat' first | exact .refl | refine .ite ?_ ?_ | refine State.tally_in ?_ rfl | refine State.modCtx_in ?_ rfl | refine State.setAct_in ?_ rfl | refine Within.countAt ?_ (DRF_SUSPCNT.SUSPENDS_part ..) rfl

theorem suspendTimeout_in {x0 x1 m s a} (h : Within m s a) (hs : 549755813888 &&& m = 549755813888) :
    Within m s (suspendTimeout x0 x1 a) := by
  refine Within.step (m := 549755813888) h ?_ hs
  unfold suspendTimeout
  with_reducible repeat' first | exact .refl | refine .ite ?_ ?_ | refine State.modCtx_in ?_ rfl | refine State.setAct_in ?_ rfl

theorem descriptorMaxwaitExpire_in {x0 x1 x2 m s a} (h : Within m s a) (hs : 52371518845359968 &&& m = 52371518845359968) :
    Within m s (descriptorMaxwaitExpire x0 x1 x2 a) := by
  refine Within.step (m := 52371518845359968) h ?_ hs
  unfold descriptorMaxwaitExpire
  with_reducible repeat' first | exact .refl | refine .ite ?_ ?_ | refine State.endQueued_in ?_ rfl | split

theorem State.writeHead_in {x0 x1 m s a} (h : Within m s a) (hs : 5067101232431360 &&& m = 5067101232431360) :
    Within m s (State.writeHead x0 x1 a) := by
  refine Within.step (m := 5067101232431360) h ?_ hs
  unfold State.writeHead
  with_reducible repeat' first | exact .refl | refine State.flushRecords_in ?_ rfl | refine Within.setFldAt ?_ (DRF_CQPTR.HEAD_part ..) rfl

theorem cqHeadAdvance_in {x0 x1 x2 m s a} (h : Within m s a) (hs : 5067101232431360 &&& m = 5067101232431360) :
    Within m s (cqHeadAdvance x0 x1 x2 a) := by
  refine Within.step (m := 5067101232431360) h ?_ hs
  unfold cqHeadAdvance
  with_reducible repeat' first | exact .refl | refine .ite ?_ ?_ | refine State.writeHead_in ?_ rfl | refine State.access_in ?_ (fun _ => ?_) rfl

theorem engineRun_in {x0 x1 m s a} (h : Within m s a) (hs : 59114796548622624 &&& m = 59114796548622624) :
    Within m s (engineRun x0 x1 a) := by
  refine Within.step (m := 59114796548622624) h ?_ hs
  unfold engineRun
  with_reducible repeat' first | exact .refl | refine .ite ?_ ?_ | refine State.holdCheck_in ?_ rfl | refine State.runEngine_in ?_ rfl | refine State.access_in ?_ (fun _ => ?_) rfl

theorem engineStop_in {x0 x1 m s a} (h : Within m s a) (hs : 41241137670917026 &&& m = 41241137670917026) :
    Within m s (engineStop x0 x1 a) := by
  refine Within.step (m := 41241137670917026) h ?_ hs
  unfold engineStop
  with_reducible repeat' first | exact .refl | refine .ite ?_ ?_ | refine State.stopEngine_in ?_ rfl | refine State.holdCheck_in ?_ rfl | refine State.access_in ?_ (fun _ => ?_) rfl

theorem engineReset_in {x0 x1 m s a} (h : Within m s a) (hs : 52512670798192610 &&& m = 52512670798192610) :
    Within m s (engineReset x0 x1 a) := by
  refine Within.step (m := 52512670798192610) h ?_ hs
  unfold engineReset
  with_reducible repeat' first | exact .refl | refine .ite ?_ ?_ | refine State.resetEngine_in ?_ rfl | refine State.holdCheck_in ?_ rfl | refine State.access_in ?_ (fun _ => ?_) rfl

theorem State.writeDrfCtrl_in {x0 x1 m s a} (h : Within m s a) (hs : 70527069311868898 &&& m = 70527069311868898) :
    Within m s (State.writeDrfCtrl x0 x1 a) := by
  refine Within.step (m := 70527069311868898) h ?_ hs
  unfold State.writeDrfCtrl
  with_reducible repeat' first | exact .refl | refine .ite ?_ ?_ | refine State.resetEngine_in ?_ rfl | refine State.stopEngine_in ?_ rfl | refine State.holdCheck_in ?_ rfl | refine State.runEngine_in ?_ rfl

theorem descriptorWithdraw_in {x0 x1 x2 m s a} (h : Within m s a) (hs : 52371518845359968 &&& m = 52371518845359968) :
    Within m s (descriptorWithdraw x0 x1 x2 a) := by
  refine Within.step (m := 52371518845359968) h ?_ hs
  unfold descriptorWithdraw
  with_reducible repeat' first | exact .refl | refine State.endQueued_in ?_ rfl | refine State.goOn_in ?_ rfl | split

theorem State.writeEngCfg_in {x0 x1 x2 m s a} (h : Within m s a) (hs : 549755814144 &&& m = 549755814144) :
    Within m s (State.writeEngCfg x0 x1 x2 a) := by
  refine Within.step (m := 549755814144) h ?_ hs
  unfold State.writeEngCfg
  with_reducible repeat' first | exact .refl | refine .ite ?_ ?_ | refine State.modEng_in ?_ rfl | refine Within.setFldAt ?_ (DRF_CQBASE.BASE_part ..) rfl | refine Within.setFldAt ?_ (DRF_CQBASE.LOG2_part ..) rfl | refine Within.setFldAt ?_ (DRF_CQPTR.HEAD_part ..) rfl | refine Within.setFldAt ?_ (DRF_CQPTR.WIDX_part ..) rfl | refine Within.setFldAt ?_ (DRF_GEOM.PAGEBITS_part ..) rfl | refine Within.setFldAt ?_ (DRF_GEOM.PLANEBITS_part ..) rfl | refine Within.setFldAt ?_ (DRF_QBASE.BASE_part ..) rfl | refine Within.setFldAt ?_ (qcfg_part ..) rfl | refine .each ?_ fun _ _ => ?_

theorem State.engCfg_in {x0 x1 x2 m s a} (h : Within m s a) (hs : 549755814144 &&& m = 549755814144) :
    Within m s (State.engCfg x0 x1 x2 a) := by
  refine Within.step (m := 549755814144) h ?_ hs
  unfold State.engCfg
  with_reducible repeat' first | exact .refl | refine .ite ?_ ?_ | refine State.writeEngCfg_in ?_ rfl | refine Within.putAt ?_ (DRF_STAT.ERR_part ..) rfl

theorem engineConfigWrite_in {x0 x1 x2 x3 m s a} (h : Within m s a) (hs : 550309462272 &&& m = 550309462272) :
    Within m s (engineConfigWrite x0 x1 x2 x3 a) := by
  refine Within.step (m := 550309462272) h ?_ hs
  unfold engineConfigWrite
  with_reducible repeat' first | exact .refl | refine .ite ?_ ?_ | refine State.access_in ?_ (fun _ => ?_) rfl | refine State.engCfg_in ?_ rfl

/-! MicroOps.lean -/

theorem State.setLocal_in {x0 x1 x2 m s a} (h : Within m s a) (hs : 549755813888 &&& m = 549755813888) :
    Within m s (State.setLocal x0 x1 x2 a) := by
  refine Within.step (m := 549755813888) h ?_ hs
  unfold State.setLocal
  with_reducible repeat' first | exact .refl | refine State.modEng_in ?_ rfl

theorem State.setBuf_in {x0 x1 x2 m s a} (h : Within m s a) (hs : 549755813888 &&& m = 549755813888) :
    Within m s (State.setBuf x0 x1 x2 a) := by
  induction x2 generalizing x0 x1 s a m with
  | nil => exact h
  | cons b l ih =>
    refine Within.step (m := 549755813888) h ?_ hs
    unfold State.setBuf
    with_reducible repeat' first | exact .refl | refine State.setLocal_in ?_ rfl | refine ih ?_ rfl

theorem State.next_in {x0 x1 x2 m s a} (h : Within m s a) (hs : 549755813888 &&& m = 549755813888) :
    Within m s (State.next x0 x1 x2 a) := by
  refine Within.step (m := 549755813888) h ?_ hs
  unfold State.next
  with_reducible repeat' first | exact .refl | refine State.modCtx_in ?_ rfl

theorem State.pcNext_in {x0 x1 m s a} (h : Within m s a) (hs : 549755813888 &&& m = 549755813888) :
    Within m s (State.pcNext x0 x1 a) := by
  refine Within.step (m := 549755813888) h ?_ hs
  unfold State.pcNext
  with_reducible repeat' first | exact .refl | refine State.next_in ?_ rfl

theorem State.giveUp_in {x0 x1 m s a} (h : Within m s a) (hs : 549755813888 &&& m = 549755813888) :
    Within m s (State.giveUp x0 x1 a) := by
  refine Within.step (m := 549755813888) h ?_ hs
  unfold State.giveUp
  with_reducible repeat' first | exact .refl | refine State.modCtx_in ?_ rfl | refine .each ?_ fun _ _ => ?_

theorem State.ticked_in {x0 x1 x2 x3 m s a} (h : Within m s a) (hs : 52512395920285666 &&& m = 52512395920285666) :
    Within m s (State.ticked x0 x1 x2 x3 a) := by
  refine Within.step (m := 52512395920285666) h ?_ hs
  unfold State.ticked; extract_lets
  with_reducible repeat' first | exact .refl | refine .ite ?_ ?_ | refine State.microFault_in ?_ rfl | refine State.giveUp_in ?_ rfl | refine State.modCtx_in ?_ rfl

theorem State.micro_in {x0 x1 : Nat} {x2 : MicroInstr} {f : State → State} {m : Nat} {s a : State} (h : Within m s a)
    (hf : ∀ b, Within m b (f b)) (hs : 52512395920285666 &&& m = 52512395920285666) : Within m s (State.micro x0 x1 x2 f a) := by
  unfold State.micro
  try dsimp only
  split
  · exact h
  · split
    · exact h.trans (hf _)
    · split
      · exact h.step (m := 52512395920285666) (State.microFault_in Within.refl rfl) hs
      · split
        · exact h.step (m := 52512395920285666) (State.microFault_in Within.refl rfl) hs
        · split
          · exact h.trans (hf _)
          · exact h

theorem State.plain_in {x0 x1 x2 m s a} (h : Within m s a) (hs : 52512395920285666 &&& m = 52512395920285666) :
    Within m s (State.plain x0 x1 x2 a) := by
  refine Within.step (m := 52512395920285666) h ?_ hs
  unfold State.plain; extract_lets
  with_reducible repeat' first | exact .refl | refine State.pcNext_in ?_ rfl | refine State.modCtx_in ?_ rfl | refine State.ticked_in ?_ rfl

theorem State.busInstr_in {x0 x1 : Nat} {f : State → State} {m : Nat} {s a : State} (h : Within m s a)
    (hf : ∀ b, Within m b (f b)) (hs : 52512393772668770 &&& m = 52512393772668770) : Within m s (State.busInstr x0 x1 f a) := by
  unfold State.busInstr
  try dsimp only
  split
  · exact h.step (m := 52512393772668770) (State.endCtx_in Within.refl rfl) hs
  · split
    · refine Within.trans ?_ (hf _)
      exact Within.ite h (h.step (m := 52512393772668770) (State.modEng_in Within.refl rfl) hs)
    · split
      · refine Within.trans ?_ (hf _)
        have h1 := h.step (m := 52512393772668770) (State.modCtx_in (x0 := x0) (x1 := x1) (x2 := fun c => { c with claimed := true })
          (State.setAct_in (x0 := x0) (x1 := (a.ctxOf x0 x1).target) (x2 := Act.reading) Within.refl rfl) rfl) hs
        exact Within.ite h1 (h1.step (m := 52512393772668770) (State.modEng_in Within.refl rfl) hs)
      · exact h.step (m := 52512393772668770) (State.giveUp_in Within.refl rfl) hs

theorem State.busDone_in {x0 x1 m s a} (h : Within m s a) (hs : 52512395920285666 &&& m = 52512395920285666) :
    Within m s (State.busDone x0 x1 a) := by
  refine Within.step (m := 52512395920285666) h ?_ hs
  unfold State.busDone; extract_lets
  with_reducible repeat' first | exact .refl | refine State.pcNext_in ?_ rfl | refine State.ticked_in ?_ rfl

theorem State.unclaim_in {x0 x1 m s a} (h : Within m s a) (hs : 549755813888 &&& m = 549755813888) :
    Within m s (State.unclaim x0 x1 a) := by
  refine Within.step (m := 549755813888) h ?_ hs
  unfold State.unclaim; extract_lets
  with_reducible repeat' first | exact .refl | refine .ite ?_ ?_ | refine State.modCtx_in ?_ rfl | refine State.unparkReads_in ?_ rfl | refine State.setAct_in ?_ rfl

theorem State.fillTubs_in {x0 x1 m s a} (h : Within m s a) (hs : 8796093022208 &&& m = 8796093022208) :
    Within m s (State.fillTubs x0 x1 a) := by
  refine Within.step (m := 8796093022208) h ?_ hs
  unfold State.fillTubs
  with_reducible repeat' first | exact .refl | refine State.scatter_in ?_ rfl

theorem State.mediaUnknown_in {x0 m s a} (h : Within m s a) (hs : 274877906944 &&& m = 274877906944) :
    Within m s (State.mediaUnknown x0 a) := by
  refine Within.step (m := 274877906944) h ?_ hs
  unfold State.mediaUnknown
  with_reducible repeat' first | exact .refl | (refine Within.modDrfMedia ?_ ?_ ?_; rotate_left; with_unfolding_all (exact (fun _ => ⟨rfl, rfl⟩); rfl))

/-! Micro.lean -/

theorem State.cmdCycle_in {x0 x1 x2 x3 m s a} (h : Within m s a) (hs : 52512670798192610 &&& m = 52512670798192610) :
    Within m s (State.cmdCycle x0 x1 x2 x3 a) := by
  refine Within.step (m := 52512670798192610) h ?_ hs
  unfold State.cmdCycle; extract_lets
  with_reducible repeat' first | exact .refl | refine .ite ?_ ?_ | refine State.microFault_in ?_ rfl | refine State.mediaUnknown_in ?_ rfl | refine State.giveUp_in ?_ rfl | refine State.confirmed_in ?_ rfl | refine State.countStart_in ?_ rfl | refine State.modCtx_in ?_ rfl | refine State.busDone_in ?_ rfl | refine State.setAct_in ?_ rfl | extract_lets | dsimp +zetaDelta only

theorem cmd_in {x0 x1 x2 x3 x4 x5 m s a} (h : Within m s a) (hs : 52512670798192610 &&& m = 52512670798192610) :
    Within m s (cmd x0 x1 x2 x3 x4 x5 a) := by
  refine Within.step (m := 52512670798192610) h ?_ hs
  unfold cmd
  with_reducible repeat' first | exact .refl | refine State.busInstr_in ?_ (fun _ => ?_) rfl | refine State.cmdCycle_in ?_ rfl | refine State.micro_in ?_ (fun _ => ?_) rfl

theorem addr_in {x0 x1 x2 x3 x4 m s a} (h : Within m s a) (hs : 52512395920285666 &&& m = 52512395920285666) :
    Within m s (addr x0 x1 x2 x3 x4 a) := by
  refine Within.step (m := 52512395920285666) h ?_ hs
  unfold addr
  with_reducible repeat' first | exact .refl | refine .ite ?_ ?_ | refine State.busInstr_in ?_ (fun _ => ?_) rfl | refine State.busDone_in ?_ rfl | refine State.microFault_in ?_ rfl | refine State.micro_in ?_ (fun _ => ?_) rfl

theorem State.useChain_in {x0 x1 x2 : Nat} {f : List Nat → State → State} {m : Nat} {s a : State} (h : Within m s a)
    (hf : ∀ l b, Within m b (f l b)) (hs : 52512395920285666 &&& m = 52512395920285666) : Within m s (State.useChain x0 x1 x2 f a) := by
  unfold State.useChain
  try dsimp only
  split
  · refine Within.trans ?_ (hf _ _)
    exact h.step (m := 52512395920285666) (State.modCtx_in Within.refl rfl) hs
  · exact h.step (m := 52512395920285666) (State.microFault_in Within.refl rfl) hs

theorem dout_in {x0 x1 x2 x3 x4 x5 m s a} (h : Within m s a) (hs : 52512395920285666 &&& m = 52512395920285666) :
    Within m s (dout x0 x1 x2 x3 x4 x5 a) := by
  refine Within.step (m := 52512395920285666) h ?_ hs
  unfold dout
  with_reducible repeat' first | exact .refl | refine .ite ?_ ?_ | refine State.microFault_in ?_ rfl | refine State.tally_in ?_ rfl | refine State.modCtx_in ?_ rfl | refine State.busDone_in ?_ rfl | refine State.useChain_in ?_ (fun _ _ => ?_) rfl | refine State.micro_in ?_ (fun _ => ?_) rfl | refine State.busInstr_in ?_ (fun _ => ?_) rfl | extract_lets | dsimp +zetaDelta only

theorem din_in {x0 x1 x2 x3 x4 x5 x6 m s a} (h : Within m s a) (hs : 52512395920285666 &&& m = 52512395920285666) :
    Within m s (din x0 x1 x2 x3 x4 x5 x6 a) := by
  refine Within.step (m := 52512395920285666) h ?_ hs
  unfold din
  with_reducible repeat' first | exact .refl | refine .ite ?_ ?_ | refine State.microFault_in ?_ rfl | refine State.setBuf_in ?_ rfl | refine State.fillTubs_in ?_ rfl | refine State.modCtx_in ?_ rfl | refine State.busDone_in ?_ rfl | refine State.useChain_in ?_ (fun _ _ => ?_) rfl | refine State.micro_in ?_ (fun _ => ?_) rfl | refine State.busInstr_in ?_ (fun _ => ?_) rfl | refine State.toDecoders_in ?_ rfl | extract_lets | dsimp +zetaDelta only

theorem waitst_in {x0 x1 x2 x3 x4 x5 x6 m s a} (h : Within m s a) (hs : 52512395920285666 &&& m = 52512395920285666) :
    Within m s (waitst x0 x1 x2 x3 x4 x5 x6 a) := by
  refine Within.step (m := 52512395920285666) h ?_ hs
  unfold waitst
  with_reducible repeat' first | exact .refl | refine .ite ?_ ?_ | refine State.giveUp_in ?_ rfl | refine State.modCtx_in ?_ rfl | refine State.busDone_in ?_ rfl | refine State.microFree_in ?_ rfl | refine State.micro_in ?_ (fun _ => ?_) rfl | refine State.busInstr_in ?_ (fun _ => ?_) rfl | extract_lets | dsimp +zetaDelta only

theorem wait_in {x0 x1 x2 x3 m s a} (h : Within m s a) (hs : 52512395920285666 &&& m = 52512395920285666) :
    Within m s (wait x0 x1 x2 x3 a) := by
  refine Within.step (m := 52512395920285666) h ?_ hs
  unfold wait
  with_reducible repeat' first | exact .refl | refine .ite ?_ ?_ | refine State.plain_in ?_ rfl | refine State.giveUp_in ?_ rfl | refine State.modCtx_in ?_ rfl | refine State.micro_in ?_ (fun _ => ?_) rfl | refine State.pcNext_in ?_ rfl

theorem sett_in {x0 x1 x2 x3 x4 x5 m s a} (h : Within m s a) (hs : 52512395920285666 &&& m = 52512395920285666) :
    Within m s (sett x0 x1 x2 x3 x4 x5 a) := by
  refine Within.step (m := 52512395920285666) h ?_ hs
  unfold sett
  with_reducible repeat' first | exact .refl | refine .ite ?_ ?_ | refine State.microFault_in ?_ rfl | refine State.plain_in ?_ rfl | refine State.unclaim_in ?_ rfl | refine State.micro_in ?_ (fun _ => ?_) rfl

theorem fchk_in {x0 x1 x2 m s a} (h : Within m s a) (hs : 52512395920285666 &&& m = 52512395920285666) :
    Within m s (fchk x0 x1 x2 a) := by
  refine Within.step (m := 52512395920285666) h ?_ hs
  unfold fchk
  with_reducible repeat' first | exact .refl | refine .ite ?_ ?_ | refine State.plain_in ?_ rfl | refine State.micro_in ?_ (fun _ => ?_) rfl | refine State.endCtx_in ?_ rfl

theorem yield_in {x0 x1 m s a} (h : Within m s a) (hs : 52512395920285666 &&& m = 52512395920285666) :
    Within m s (yield x0 x1 a) := by
  refine Within.step (m := 52512395920285666) h ?_ hs
  unfold yield
  with_reducible repeat' first | exact .refl | refine State.pcNext_in ?_ rfl | refine State.giveUp_in ?_ rfl | refine State.modCtx_in ?_ rfl | refine State.micro_in ?_ (fun _ => ?_) rfl | extract_lets | dsimp +zetaDelta only

theorem State.patternLoaded_in {x0 x1 m s a} (h : Within m s a) (hs : 137438953472 &&& m = 137438953472) :
    Within m s (State.patternLoaded x0 x1 a) := by
  refine Within.step (m := 137438953472) h ?_ hs
  unfold State.patternLoaded
  with_reducible repeat' first | exact .refl | refine .ite ?_ ?_ | refine State.modNand_in ?_ rfl | refine Within.modFch ?_ rfl

theorem doneInstr_in {x0 x1 x2 x3 m s a} (h : Within m s a) (hs : 52512395920285666 &&& m = 52512395920285666) :
    Within m s (doneInstr x0 x1 x2 x3 a) := by
  refine Within.step (m := 52512395920285666) h ?_ hs
  unfold doneInstr
  with_reducible repeat' first | exact .refl | refine .ite ?_ ?_ | refine State.microFault_in ?_ rfl | refine State.giveUp_in ?_ rfl | refine State.patternLoaded_in ?_ rfl | refine State.unclaim_in ?_ rfl | refine State.modCtx_in ?_ rfl | refine State.micro_in ?_ (fun _ => ?_) rfl | refine State.endCtx_in ?_ rfl

theorem ldi_in {x0 x1 x2 x3 x4 m s a} (h : Within m s a) (hs : 52512395920285666 &&& m = 52512395920285666) :
    Within m s (ldi x0 x1 x2 x3 x4 a) := by
  refine Within.step (m := 52512395920285666) h ?_ hs
  unfold ldi
  with_reducible repeat' first | exact .refl | refine State.plain_in ?_ rfl | refine State.micro_in ?_ (fun _ => ?_) rfl

theorem ldd_in {x0 x1 x2 x3 x4 m s a} (h : Within m s a) (hs : 52512395920285666 &&& m = 52512395920285666) :
    Within m s (ldd x0 x1 x2 x3 x4 a) := by
  refine Within.step (m := 52512395920285666) h ?_ hs
  unfold ldd
  with_reducible repeat' first | exact .refl | refine .ite ?_ ?_ | refine State.microFault_in ?_ rfl | refine State.plain_in ?_ rfl | refine State.micro_in ?_ (fun _ => ?_) rfl

theorem std_in {x0 x1 x2 x3 x4 m s a} (h : Within m s a) (hs : 52512395920285666 &&& m = 52512395920285666) :
    Within m s (std x0 x1 x2 x3 x4 a) := by
  refine Within.step (m := 52512395920285666) h ?_ hs
  unfold std
  with_reducible repeat' first | exact .refl | refine .ite ?_ ?_ | refine State.microFault_in ?_ rfl | refine State.plain_in ?_ rfl | refine State.setLocal_in ?_ rfl | refine State.micro_in ?_ (fun _ => ?_) rfl

theorem State.alu_in {x0 x1 x2 x3 x4 x5 x6 x7 m s a} (h : Within m s a) (hs : 52512395920285666 &&& m = 52512395920285666) :
    Within m s (State.alu x0 x1 x2 x3 x4 x5 x6 x7 a) := by
  refine Within.step (m := 52512395920285666) h ?_ hs
  unfold State.alu
  with_reducible repeat' first | exact .refl | refine State.plain_in ?_ rfl | refine State.micro_in ?_ (fun _ => ?_) rfl

theorem add_in {x0 x1 x2 x3 x4 x5 m s a} (h : Within m s a) (hs : 52512395920285666 &&& m = 52512395920285666) :
    Within m s (add x0 x1 x2 x3 x4 x5 a) := by
  refine Within.step (m := 52512395920285666) h ?_ hs
  unfold add
  with_reducible repeat' first | exact .refl | refine State.alu_in ?_ rfl

theorem andInstr_in {x0 x1 x2 x3 x4 x5 m s a} (h : Within m s a) (hs : 52512395920285666 &&& m = 52512395920285666) :
    Within m s (andInstr x0 x1 x2 x3 x4 x5 a) := by
  refine Within.step (m := 52512395920285666) h ?_ hs
  unfold andInstr
  with_reducible repeat' first | exact .refl | refine State.alu_in ?_ rfl

theorem orInstr_in {x0 x1 x2 x3 x4 x5 m s a} (h : Within m s a) (hs : 52512395920285666 &&& m = 52512395920285666) :
    Within m s (orInstr x0 x1 x2 x3 x4 x5 a) := by
  refine Within.step (m := 52512395920285666) h ?_ hs
  unfold orInstr
  with_reducible repeat' first | exact .refl | refine State.alu_in ?_ rfl

theorem xorInstr_in {x0 x1 x2 x3 x4 x5 m s a} (h : Within m s a) (hs : 52512395920285666 &&& m = 52512395920285666) :
    Within m s (xorInstr x0 x1 x2 x3 x4 x5 a) := by
  refine Within.step (m := 52512395920285666) h ?_ hs
  unfold xorInstr
  with_reducible repeat' first | exact .refl | refine State.alu_in ?_ rfl

theorem shl_in {x0 x1 x2 x3 x4 x5 m s a} (h : Within m s a) (hs : 52512395920285666 &&& m = 52512395920285666) :
    Within m s (shl x0 x1 x2 x3 x4 x5 a) := by
  refine Within.step (m := 52512395920285666) h ?_ hs
  unfold shl
  with_reducible repeat' first | exact .refl | refine State.alu_in ?_ rfl

theorem shr_in {x0 x1 x2 x3 x4 x5 m s a} (h : Within m s a) (hs : 52512395920285666 &&& m = 52512395920285666) :
    Within m s (shr x0 x1 x2 x3 x4 x5 a) := by
  refine Within.step (m := 52512395920285666) h ?_ hs
  unfold shr
  with_reducible repeat' first | exact .refl | refine State.alu_in ?_ rfl

theorem br_in {x0 x1 x2 x3 x4 m s a} (h : Within m s a) (hs : 52512395920285666 &&& m = 52512395920285666) :
    Within m s (br x0 x1 x2 x3 x4 a) := by
  refine Within.step (m := 52512395920285666) h ?_ hs
  unfold br; extract_lets
  with_reducible repeat' first | exact .refl | refine .ite ?_ ?_ | refine State.microFault_in ?_ rfl | refine State.next_in ?_ rfl | refine State.plain_in ?_ rfl | refine State.micro_in ?_ (fun _ => ?_) rfl | extract_lets | split

theorem call_in {x0 x1 x2 m s a} (h : Within m s a) (hs : 52512395920285666 &&& m = 52512395920285666) :
    Within m s (call x0 x1 x2 a) := by
  refine Within.step (m := 52512395920285666) h ?_ hs
  unfold call
  with_reducible repeat' first | exact .refl | refine .ite ?_ ?_ | refine State.microFault_in ?_ rfl | refine State.next_in ?_ rfl | refine State.plain_in ?_ rfl | refine State.micro_in ?_ (fun _ => ?_) rfl

theorem ret_in {x0 x1 m s a} (h : Within m s a) (hs : 52512395920285666 &&& m = 52512395920285666) :
    Within m s (ret x0 x1 a) := by
  refine Within.step (m := 52512395920285666) h ?_ hs
  unfold ret
  with_reducible repeat' first | exact .refl | refine .ite ?_ ?_ | refine State.microFault_in ?_ rfl | refine State.next_in ?_ rfl | refine State.plain_in ?_ rfl | refine State.micro_in ?_ (fun _ => ?_) rfl | extract_lets | split

theorem State.writeStore_in {x0 x1 m s a} (h : Within m s a) (hs : 549755814144 &&& m = 549755814144) :
    Within m s (State.writeStore x0 x1 a) := by
  refine Within.step (m := 549755814144) h ?_ hs
  unfold State.writeStore; extract_lets
  with_reducible repeat' first | exact .refl | refine .ite ?_ ?_ | refine State.modEng_in ?_ rfl | refine Within.setFldAt ?_ (DRF_PSADDR.INDEX_part ..) rfl | refine Within.putAt ?_ (DRF_STAT.ERR_part ..) rfl

theorem programStoreWrite_in {x0 x1 x2 m s a} (h : Within m s a) (hs : 550309462272 &&& m = 550309462272) :
    Within m s (programStoreWrite x0 x1 x2 a) := by
  refine Within.step (m := 550309462272) h ?_ hs
  unfold programStoreWrite
  with_reducible repeat' first | exact .refl | refine .ite ?_ ?_ | refine State.writeStore_in ?_ rfl | refine State.access_in ?_ (fun _ => ?_) rfl

theorem State.readStore_in {x0 x1 m s a} (h : Within m s a) (hs : 536871168 &&& m = 536871168) :
    Within m s (State.readStore x0 x1 a) := by
  refine Within.step (m := 536871168) h ?_ hs
  unfold State.readStore; extract_lets
  with_reducible repeat' first | exact .refl | refine State.returns_in ?_ rfl | refine Within.setFldAt ?_ (DRF_PSADDR.INDEX_part ..) rfl

theorem programStoreRead_in {x0 x1 m s a} (h : Within m s a) (hs : 553648384 &&& m = 553648384) :
    Within m s (programStoreRead x0 x1 a) := by
  refine Within.step (m := 553648384) h ?_ hs
  unfold programStoreRead
  with_reducible repeat' first | exact .refl | refine .ite ?_ ?_ | refine State.access_in ?_ (fun _ => ?_) rfl | refine State.readStore_in ?_ rfl

theorem State.windowLocal_in {x0 x1 x2 m s a} (h : Within m s a) (hs : 550359793920 &&& m = 550359793920) :
    Within m s (State.windowLocal x0 x1 x2 a) := by
  refine Within.step (m := 550359793920) h ?_ hs
  unfold State.windowLocal; extract_lets
  with_reducible repeat' first | exact .refl | refine .ite ?_ ?_ | refine State.returns_in ?_ rfl | refine State.setLocal_in ?_ rfl | refine State.tookFree_in ?_ rfl | refine Within.setFldAt ?_ (DRF_LMADDR.ADDR_part ..) rfl | extract_lets | split | dsimp +zetaDelta only

theorem localMemoryWindowAccess_in {x0 x1 x2 m s a} (h : Within m s a) (hs : 550376571136 &&& m = 550376571136) :
    Within m s (localMemoryWindowAccess x0 x1 x2 a) := by
  refine Within.step (m := 550376571136) h ?_ hs
  unfold localMemoryWindowAccess
  with_reducible repeat' first | exact .refl | refine .ite ?_ ?_ | refine State.access_in ?_ (fun _ => ?_) rfl | refine State.windowLocal_in ?_ rfl

/-! Ecc.lean -/

theorem State.microDecoded_in {x0 x1 x2 x3 m s a} (h : Within m s a) (hs : 2253449081126912 &&& m = 2253449081126912) :
    Within m s (State.microDecoded x0 x1 x2 x3 a) := by
  refine Within.step (m := 2253449081126912) h ?_ hs
  unfold State.microDecoded; extract_lets
  with_reducible repeat' first | exact .refl | refine .ite ?_ ?_ | refine State.tally_in ?_ rfl | refine State.modCnt_in ?_ rfl | refine State.modCtx_in ?_ rfl | refine Within.modEcc ?_ rfl | extract_lets | split | dsimp +zetaDelta only

theorem State.useDecode_in {x0 x1 x2 x3 m s a} (h : Within m s a) (hs : 52512393839777634 &&& m = 52512393839777634) :
    Within m s (State.useDecode x0 x1 x2 x3 a) := by
  refine Within.step (m := 52512393839777634) h ?_ hs
  unfold State.useDecode
  with_reducible repeat' first | exact .refl | refine .ite ?_ ?_ | refine State.readDecoded_in ?_ rfl | refine State.microDecoded_in ?_ rfl

theorem State.outputFails_in {x0 x1 m s a} (h : Within m s a) (hs : 16327198472404992 &&& m = 16327198472404992) :
    Within m s (State.outputFails x0 x1 a) := by
  refine Within.step (m := 16327198472404992) h ?_ hs
  unfold State.outputFails; extract_lets
  with_reducible repeat' first | exact .refl | refine .ite ?_ ?_ | refine State.tally_in ?_ rfl | refine State.noteError_in ?_ rfl | refine Within.modEcc ?_ rfl | extract_lets | dsimp +zetaDelta only

theorem codewordDecodeEnd_in {x0 x1 x2 x3 m s a} (h : Within m s a) (hs : 52512395987392482 &&& m = 52512395987392482) :
    Within m s (codewordDecodeEnd x0 x1 x2 x3 a) := by
  refine Within.step (m := 52512395987392482) h ?_ hs
  unfold codewordDecodeEnd
  with_reducible repeat' first | exact .refl | refine .ite ?_ ?_ | refine State.eccMode_in ?_ rfl | refine State.outputFails_in ?_ rfl | refine State.feedDecoders_in ?_ rfl | refine State.useDecode_in ?_ rfl | refine State.noteError_in ?_ rfl | refine Within.modEcc ?_ rfl | extract_lets | split | dsimp +zetaDelta only

theorem State.popCand_in {x0 m s a} (h : Within m s a) (hs : 1101122240512 &&& m = 1101122240512) :
    Within m s (State.popCand x0 a) := by
  refine Within.step (m := 1101122240512) h ?_ hs
  unfold State.popCand; extract_lets
  with_reducible repeat' first | exact .refl | refine State.returnPair_in ?_ rfl | refine Within.modEcc ?_ rfl

theorem candPop_in {x0 m s a} (h : Within m s a) (hs : 1101139017728 &&& m = 1101139017728) :
    Within m s (candPop x0 a) := by
  refine Within.step (m := 1101139017728) h ?_ hs
  unfold candPop
  with_reducible repeat' first | exact .refl | refine State.popCand_in ?_ rfl | refine State.access_in ?_ (fun _ => ?_) rfl

theorem State.clearEccCounts_in {m s a} (h : Within m s a) (hs : 1099511627776 &&& m = 1099511627776) :
    Within m s (State.clearEccCounts a) := by
  refine Within.step (m := 1099511627776) h ?_ hs
  unfold State.clearEccCounts
  with_reducible repeat' first | exact .refl | refine Within.modEcc ?_ rfl

theorem dclr_in {x0 m s a} (h : Within m s a) (hs : 1100065275904 &&& m = 1100065275904) :
    Within m s (dclr x0 a) := by
  refine Within.step (m := 1100065275904) h ?_ hs
  unfold dclr
  with_reducible repeat' first | exact .refl | refine State.clearEccCounts_in ?_ rfl | refine State.access_in ?_ (fun _ => ?_) rfl

theorem State.writeProfile_in {x0 x1 m s a} (h : Within m s a) (hs : 5067099890254336 &&& m = 5067099890254336) :
    Within m s (State.writeProfile x0 x1 a) := by
  refine Within.step (m := 5067099890254336) h ?_ hs
  unfold State.writeProfile
  with_reducible repeat' first | exact .refl | refine .ite ?_ ?_ | refine State.assertEvent_in ?_ rfl | refine Within.setFldAt ?_ (ECC_PROF.BCHT_part ..) rfl | refine Within.setFldAt ?_ (ECC_PROF.CODE_part ..) rfl | refine Within.setFldAt ?_ (ECC_PROF.LRATE_part ..) rfl | refine Within.setFldAt ?_ (ECC_PROF.SOFT_part ..) rfl | refine Within.setFldAt ?_ (ECC_PROF.SOFTA_part ..) rfl | refine Within.setFldAt ?_ (ECC_PROF.SOFTB_part ..) rfl | refine Within.putAt ?_ ECC_STAT.ERR_part rfl

theorem eccProfileWrite_in {x0 x1 x2 m s a} (h : Within m s a) (hs : 5067099890254336 &&& m = 5067099890254336) :
    Within m s (eccProfileWrite x0 x1 x2 a) := by
  refine Within.step (m := 5067099890254336) h ?_ hs
  unfold eccProfileWrite
  with_reducible repeat' first | exact .refl | refine .ite ?_ ?_ | refine State.writeProfile_in ?_ rfl | refine State.access_in ?_ (fun _ => ?_) rfl

/-! MashOps.lean -/

theorem State.mshErr_in {m s a} (h : Within m s a) (hs : 5067099890254848 &&& m = 5067099890254848) :
    Within m s (State.mshErr a) := by
  refine Within.step (m := 5067099890254848) h ?_ hs
  unfold State.mshErr
  with_reducible repeat' first | exact .refl | refine State.assertEvent_in ?_ rfl | refine Within.putAt ?_ MSH_STAT.ERR_part rfl

theorem State.newEpoch_in {m s a} (h : Within m s a) (hs : 2199023256576 &&& m = 2199023256576) :
    Within m s (State.newEpoch a) := by
  refine Within.step (m := 2199023256576) h ?_ hs
  unfold State.newEpoch
  with_reducible repeat' first | exact .refl | refine Within.setFldAt ?_ MSH_STAT.EPOCH_part rfl | refine Within.modMsh ?_ rfl

theorem State.setMinEpoch_in {x0 m s a} (h : Within m s a) (hs : 2199023255808 &&& m = 2199023255808) :
    Within m s (State.setMinEpoch x0 a) := by
  refine Within.step (m := 2199023255808) h ?_ hs
  unfold State.setMinEpoch; extract_lets
  with_reducible repeat' first | exact .refl | refine State.modMem_in ?_ rfl | refine Within.putAt ?_ (DRF_DEPOCH.EN_part ..) rfl | refine Within.setFldAt ?_ (DRF_DEPOCH.MINEPOCH_part ..) rfl

theorem State.settleRebuild_in {x0 x1 m s a} (h : Within m s a) (hs : 5069298913510400 &&& m = 5069298913510400) :
    Within m s (State.settleRebuild x0 x1 a) := by
  refine Within.step (m := 5069298913510400) h ?_ hs
  unfold State.settleRebuild; extract_lets
  with_reducible repeat' first | exact .refl | refine .ite ?_ ?_ | refine State.assertEvent_in ?_ rfl | refine State.modPos_in ?_ rfl | refine State.newEpoch_in ?_ rfl | refine State.modMem_in ?_ rfl

theorem State.assignSpare_in {x0 x1 x2 m s a} (h : Within m s a) (hs : 5069298913510656 &&& m = 5069298913510656) :
    Within m s (State.assignSpare x0 x1 x2 a) := by
  refine Within.step (m := 5069298913510656) h ?_ hs
  unfold State.assignSpare; extract_lets
  with_reducible repeat' first | exact .refl | refine .ite ?_ ?_ | refine State.setMinEpoch_in ?_ rfl | refine State.assertEvent_in ?_ rfl | refine State.modPos_in ?_ rfl | refine State.modMem_in ?_ rfl | refine State.settleRebuild_in ?_ rfl | refine State.newEpoch_in ?_ rfl | refine Within.modMsh ?_ rfl | extract_lets | dsimp +zetaDelta only

theorem State.seekSpare_in {x0 x1 m s a} (h : Within m s a) (hs : 5069298913510656 &&& m = 5069298913510656) :
    Within m s (State.seekSpare x0 x1 a) := by
  refine Within.step (m := 5069298913510656) h ?_ hs
  unfold State.seekSpare
  with_reducible repeat' first | exact .refl | refine .ite ?_ ?_ | refine State.assignSpare_in ?_ rfl | refine State.assertEvent_in ?_ rfl | extract_lets | split

theorem State.failDie_in {x0 m s a} (h : Within m s a) (hs : 70527067164252130 &&& m = 70527067164252130) :
    Within m s (State.failDie x0 a) := by
  refine Within.step (m := 70527067164252130) h ?_ hs
  unfold State.failDie; extract_lets
  with_reducible repeat' first | exact .refl | refine State.setMinEpoch_in ?_ rfl | refine State.setFence_in ?_ rfl | refine State.assertEvent_in ?_ rfl | refine State.modPos_in ?_ rfl | refine State.newEpoch_in ?_ rfl | refine State.seekSpare_in ?_ rfl | refine State.modMem_in ?_ rfl

theorem State.becomeSpare_in {x0 m s a} (h : Within m s a) (hs : 5069298913510656 &&& m = 5069298913510656) :
    Within m s (State.becomeSpare x0 a) := by
  refine Within.step (m := 5069298913510656) h ?_ hs
  unfold State.becomeSpare; extract_lets
  with_reducible repeat' first | exact .refl | refine .ite ?_ ?_ | refine State.assignSpare_in ?_ rfl | refine State.newEpoch_in ?_ rfl | refine State.modMem_in ?_ rfl | extract_lets | split

theorem State.retireDie_in {x0 x1 m s a} (h : Within m s a) (hs : 70527067164252130 &&& m = 70527067164252130) :
    Within m s (State.retireDie x0 x1 a) := by
  refine Within.step (m := 70527067164252130) h ?_ hs
  unfold State.retireDie; extract_lets
  with_reducible repeat' first | exact .refl | refine .ite ?_ ?_ | refine State.setFence_in ?_ rfl | refine State.newEpoch_in ?_ rfl | refine State.modMem_in ?_ rfl

theorem State.autoFail_in {x0 m s a} (h : Within m s a) (hs : 70527067164252130 &&& m = 70527067164252130) :
    Within m s (State.autoFail x0 a) := by
  refine Within.step (m := 70527067164252130) h ?_ hs
  unfold State.autoFail
  with_reducible repeat' first | exact .refl | refine .ite ?_ ?_ | refine State.failDie_in ?_ rfl | refine State.retireDie_in ?_ rfl | refine State.assertEvent_in ?_ rfl | split

theorem State.dcmdFail_in {x0 m s a} (h : Within m s a) (hs : 70527067164252130 &&& m = 70527067164252130) :
    Within m s (State.dcmdFail x0 a) := by
  refine Within.step (m := 70527067164252130) h ?_ hs
  unfold State.dcmdFail
  with_reducible repeat' first | exact .refl | refine State.mshErr_in ?_ rfl | refine State.failDie_in ?_ rfl | refine State.retireDie_in ?_ rfl | split

theorem State.dcmdAssign_in {x0 m s a} (h : Within m s a) (hs : 5069298913510656 &&& m = 5069298913510656) :
    Within m s (State.dcmdAssign x0 a) := by
  refine Within.step (m := 5069298913510656) h ?_ hs
  unfold State.dcmdAssign; extract_lets
  with_reducible repeat' first | exact .refl | refine .ite ?_ ?_ | refine State.mshErr_in ?_ rfl | refine State.assignSpare_in ?_ rfl

theorem State.dcmdReadmit_in {x0 m s a} (h : Within m s a) (hs : 5069298913510784 &&& m = 5069298913510784) :
    Within m s (State.dcmdReadmit x0 a) := by
  refine Within.step (m := 5069298913510784) h ?_ hs
  unfold State.dcmdReadmit
  with_reducible repeat' first | exact .refl | refine .ite ?_ ?_ | refine State.mshErr_in ?_ rfl | refine State.setMinEpoch_in ?_ rfl | refine State.clearFence_in ?_ rfl | refine State.newEpoch_in ?_ rfl | refine State.modMem_in ?_ rfl

theorem State.dcmdRetire_in {x0 m s a} (h : Within m s a) (hs : 70527067164252130 &&& m = 70527067164252130) :
    Within m s (State.dcmdRetire x0 a) := by
  refine Within.step (m := 70527067164252130) h ?_ hs
  unfold State.dcmdRetire
  with_reducible repeat' first | exact .refl | refine State.mshErr_in ?_ rfl | refine State.retireDie_in ?_ rfl | split

theorem State.dcmdRead_in {x0 m s a} (h : Within m s a) (hs : 1024 &&& m = 1024) :
    Within m s (State.dcmdRead x0 a) := by
  refine Within.step (m := 1024) h ?_ hs
  unfold State.dcmdRead; extract_lets
  with_reducible repeat' first | exact .refl | refine Within.setFldAt ?_ MSH_DSTATE.POS_part rfl | refine Within.setFldAt ?_ MSH_DSTATE.SSET_part rfl | refine Within.setFldAt ?_ MSH_DSTATE.STATE_part rfl

theorem State.writeDcmd_in {x0 m s a} (h : Within m s a) (hs : 70527067164252130 &&& m = 70527067164252130) :
    Within m s (State.writeDcmd x0 a) := by
  refine Within.step (m := 70527067164252130) h ?_ hs
  unfold State.writeDcmd; extract_lets
  with_reducible repeat' first | exact .refl | refine State.mshErr_in ?_ rfl | refine State.dcmdRetire_in ?_ rfl | refine State.dcmdReadmit_in ?_ rfl | refine State.dcmdRead_in ?_ rfl | refine State.dcmdAssign_in ?_ rfl | refine State.dcmdFail_in ?_ rfl | split

theorem State.validateSet_in {x0 x1 m s a} (h : Within m s a) (hs : 2199023256576 &&& m = 2199023256576) :
    Within m s (State.validateSet x0 x1 a) := by
  refine Within.step (m := 2199023256576) h ?_ hs
  unfold State.validateSet; extract_lets
  with_reducible repeat' first | exact .refl | refine State.newEpoch_in ?_ rfl | refine State.modMem_in ?_ rfl | refine Within.setFldAt ?_ (MSH_SSET.RECIPE_part ..) rfl | refine Within.putAt ?_ (MSH_SSET.VALID_part ..) rfl | refine .each ?_ fun _ _ => ?_

theorem State.invalidateSet_in {x0 m s a} (h : Within m s a) (hs : 2199023256576 &&& m = 2199023256576) :
    Within m s (State.invalidateSet x0 a) := by
  refine Within.step (m := 2199023256576) h ?_ hs
  unfold State.invalidateSet; extract_lets
  with_reducible repeat' first | exact .refl | refine State.modPos_in ?_ rfl | refine State.newEpoch_in ?_ rfl | refine State.modMem_in ?_ rfl | refine Within.putAt ?_ (MSH_SSET.VALID_part ..) rfl | refine .each ?_ fun _ _ => ?_

theorem State.writeMshSset_in {x0 x1 m s a} (h : Within m s a) (hs : 5069298913510400 &&& m = 5069298913510400) :
    Within m s (State.writeMshSset x0 x1 a) := by
  refine Within.step (m := 5069298913510400) h ?_ hs
  unfold State.writeMshSset; extract_lets
  with_reducible repeat' first | exact .refl | refine .ite ?_ ?_ | refine State.mshErr_in ?_ rfl | refine State.invalidateSet_in ?_ rfl | refine State.validateSet_in ?_ rfl | refine Within.setFldAt ?_ (MSH_SSET.RECIPE_part ..) rfl

theorem State.writePdata_in {x0 m s a} (h : Within m s a) (hs : 5069298913510400 &&& m = 5069298913510400) :
    Within m s (State.writePdata x0 a) := by
  refine Within.step (m := 5069298913510400) h ?_ hs
  unfold State.writePdata; extract_lets
  with_reducible repeat' first | exact .refl | refine .ite ?_ ?_ | refine State.mshErr_in ?_ rfl | refine State.modPos_in ?_ rfl

theorem State.writeRcpdata_in {x0 m s a} (h : Within m s a) (hs : 5069298913510400 &&& m = 5069298913510400) :
    Within m s (State.writeRcpdata x0 a) := by
  refine Within.step (m := 5069298913510400) h ?_ hs
  unfold State.writeRcpdata; extract_lets
  with_reducible repeat' first | exact .refl | refine .ite ?_ ?_ | refine State.mshErr_in ?_ rfl | refine Within.modMsh ?_ rfl

theorem State.probeDies_in {x0 m s a} (h : Within m s a) (hs : 5069298913510656 &&& m = 5069298913510656) :
    Within m s (State.probeDies x0 a) := by
  refine Within.step (m := 5069298913510656) h ?_ hs
  unfold State.probeDies; extract_lets
  with_reducible repeat' first | exact .refl | refine .ite ?_ ?_ | refine State.assertEvent_in ?_ rfl | refine State.setMinEpoch_in ?_ rfl | refine State.newEpoch_in ?_ rfl | refine State.modMem_in ?_ rfl | refine .each ?_ fun _ _ => ?_

theorem State.endSelfTest_in {x0 x1 x2 x3 m s a} (h : Within m s a) (hs : 70527067164252130 &&& m = 70527067164252130) :
    Within m s (State.endSelfTest x0 x1 x2 x3 a) := by
  refine Within.step (m := 70527067164252130) h ?_ hs
  unfold State.endSelfTest
  with_reducible repeat' first | exact .refl | refine .ite ?_ ?_ | refine State.retireDie_in ?_ rfl | refine State.assertEvent_in ?_ rfl | refine State.modUnit_in ?_ rfl | refine State.retireUnit_in ?_ rfl | refine State.becomeSpare_in ?_ rfl | refine .each ?_ fun _ _ => ?_ | extract_lets | dsimp +zetaDelta only

theorem State.moveToSpare_in {x0 x1 x2 x3 m s a} (h : Within m s a) (hs : 68719476736 &&& m = 68719476736) :
    Within m s (State.moveToSpare x0 x1 x2 x3 a) := by
  refine Within.step (m := 68719476736) h ?_ hs
  unfold State.moveToSpare; extract_lets
  with_reducible repeat' first | exact .refl | refine .ite ?_ ?_ | refine State.modUnit_in ?_ rfl | refine Within.modMed ?_ rfl | extract_lets | split | dsimp +zetaDelta only

theorem State.eraseResumed_in {x0 x1 x2 m s a} (h : Within m s a) (hs : 68719476736 &&& m = 68719476736) :
    Within m s (State.eraseResumed x0 x1 x2 a) := by
  refine Within.step (m := 68719476736) h ?_ hs
  unfold State.eraseResumed; extract_lets
  with_reducible repeat' first | exact .refl | refine .ite ?_ ?_ | refine State.countErase_in ?_ rfl | extract_lets | dsimp +zetaDelta only

theorem State.takeRow_in {x0 x1 x2 x3 m s a} (h : Within m s a) (hs : 43358803508335648 &&& m = 43358803508335648) :
    Within m s (State.takeRow x0 x1 x2 x3 a) := by
  refine Within.step (m := 43358803508335648) h ?_ hs
  unfold State.takeRow; extract_lets
  with_reducible repeat' first | exact .refl | refine State.eraseResumed_in ?_ rfl | refine State.loseStripe_in ?_ rfl | refine State.moveToSpare_in ?_ rfl | refine State.modPos_in ?_ rfl | refine State.settleRebuild_in ?_ rfl | refine Within.modMsh ?_ rfl | refine .each ?_ fun _ _ => ?_ | extract_lets | split | dsimp +zetaDelta only

theorem State.saveMembership_in {m s a} (h : Within m s a) (hs : 36030996042219520 &&& m = 36030996042219520) :
    Within m s (State.saveMembership a) := by
  refine Within.step (m := 36030996042219520) h ?_ hs
  unfold State.saveMembership; extract_lets
  with_reducible repeat' first | exact .refl | refine Within.modMsh ?_ rfl | refine Within.modNv ?_ rfl | extract_lets | dsimp +zetaDelta only

theorem State.frameMash_in {m s a} (h : Within m s a) (hs : 36030996042219520 &&& m = 36030996042219520) :
    Within m s (State.frameMash a) := by
  refine Within.step (m := 36030996042219520) h ?_ hs
  unfold State.frameMash; extract_lets
  with_reducible repeat' first | exact .refl | refine .ite ?_ ?_ | refine State.saveMembership_in ?_ rfl | refine Within.modMsh ?_ rfl | extract_lets | dsimp +zetaDelta only

theorem State.startReshape_in {x0 x1 m s a} (h : Within m s a) (hs : 43358803508335648 &&& m = 43358803508335648) :
    Within m s (State.startReshape x0 x1 a) := by
  refine Within.step (m := 43358803508335648) h ?_ hs
  unfold State.startReshape; extract_lets
  with_reducible repeat' first | exact .refl | refine State.reshapeZone_in ?_ rfl | refine State.modNs_in ?_ rfl | refine State.assertEvent_in ?_ rfl | refine Within.modMsh ?_ rfl | refine .each ?_ fun _ _ => ?_

theorem State.settleReshape_in {m s a} (h : Within m s a) (hs : 5069298913509376 &&& m = 5069298913509376) :
    Within m s (State.settleReshape a) := by
  refine Within.step (m := 5069298913509376) h ?_ hs
  unfold State.settleReshape
  with_reducible repeat' first | exact .refl | refine .ite ?_ ?_ | refine State.assertEvent_in ?_ rfl | refine Within.modMsh ?_ rfl | split

theorem State.writeRshp_in {x0 m s a} (h : Within m s a) (hs : 43358803508335648 &&& m = 43358803508335648) :
    Within m s (State.writeRshp x0 a) := by
  refine Within.step (m := 43358803508335648) h ?_ hs
  unfold State.writeRshp; extract_lets
  with_reducible repeat' first | exact .refl | refine .ite ?_ ?_ | refine State.startReshape_in ?_ rfl | refine State.settleReshape_in ?_ rfl | refine Within.setFldAt ?_ MSH_RSHP.DST_part rfl | refine Within.putAt ?_ MSH_RSHP.ERR_part rfl | refine Within.setFldAt ?_ MSH_RSHP.SRC_part rfl

theorem State.relistLost_in {x0 x1 x2 x3 m s a} (h : Within m s a) (hs : 2199023255552 &&& m = 2199023255552) :
    Within m s (State.relistLost x0 x1 x2 x3 a) := by
  refine Within.step (m := 2199023255552) h ?_ hs
  unfold State.relistLost; extract_lets
  with_reducible repeat' first | exact .refl | refine .ite ?_ ?_ | refine Within.modMsh ?_ rfl | extract_lets | dsimp +zetaDelta only

theorem State.reshapeSwitch_in {x0 m s a} (h : Within m s a) (hs : 43358803508335648 &&& m = 43358803508335648) :
    Within m s (State.reshapeSwitch x0 a) := by
  refine Within.step (m := 43358803508335648) h ?_ hs
  unfold State.reshapeSwitch
  with_reducible repeat' first | exact .refl | refine .ite ?_ ?_ | refine State.dropMedia_in ?_ rfl | refine State.switchMigr_in ?_ rfl | refine State.assertEvent_in ?_ rfl | refine State.setChunk_in ?_ rfl | refine State.reshapeZone_in ?_ rfl | refine State.relistLost_in ?_ rfl | refine State.settleReshape_in ?_ rfl | refine State.mediaTurn_in ?_ rfl | refine Within.modMsh ?_ rfl | refine .each ?_ fun _ _ => ?_ | extract_lets | split | dsimp +zetaDelta only

theorem State.addSuspect_in {x0 x1 x2 x3 m s a} (h : Within m s a) (hs : 5069298913510400 &&& m = 5069298913510400) :
    Within m s (State.addSuspect x0 x1 x2 x3 a) := by
  refine Within.step (m := 5069298913510400) h ?_ hs
  unfold State.addSuspect
  with_reducible repeat' first | exact .refl | refine .ite ?_ ?_ | refine State.assertEvent_in ?_ rfl | refine State.assertEvents_in ?_ rfl | refine Within.countAt ?_ MSH_PATCNT.LOC_part rfl | refine Within.modMsh ?_ rfl

theorem State.microTimeout_in {x0 x1 x2 m s a} (h : Within m s a) (hs : 52512668650575714 &&& m = 52512668650575714) :
    Within m s (State.microTimeout x0 x1 x2 a) := by
  refine Within.step (m := 52512668650575714) h ?_ hs
  unfold State.microTimeout; extract_lets
  with_reducible repeat' first | exact .refl | refine .ite ?_ ?_ | refine State.limitReset_in ?_ rfl | refine State.endDie_in ?_ rfl | extract_lets | dsimp +zetaDelta only

theorem State.dieErrCheck_in {x0 x1 x2 m s a} (h : Within m s a) (hs : 70527067164252130 &&& m = 70527067164252130) :
    Within m s (State.dieErrCheck x0 x1 x2 a) := by
  refine Within.step (m := 70527067164252130) h ?_ hs
  unfold State.dieErrCheck
  with_reducible repeat' first | exact .refl | refine .ite ?_ ?_ | refine State.autoFail_in ?_ rfl

/-! Mash.lean -/

theorem mshSsetWrite_in {x0 x1 x2 m s a} (h : Within m s a) (hs : 5069298913510400 &&& m = 5069298913510400) :
    Within m s (mshSsetWrite x0 x1 x2 a) := by
  refine Within.step (m := 5069298913510400) h ?_ hs
  unfold mshSsetWrite
  with_reducible repeat' first | exact .refl | refine .ite ?_ ?_ | refine State.access_in ?_ (fun _ => ?_) rfl | refine State.writeMshSset_in ?_ rfl

theorem positionWrite_in {x0 x1 m s a} (h : Within m s a) (hs : 5069298913510400 &&& m = 5069298913510400) :
    Within m s (positionWrite x0 x1 a) := by
  refine Within.step (m := 5069298913510400) h ?_ hs
  unfold positionWrite
  with_reducible repeat' first | exact .refl | refine State.writePdata_in ?_ rfl | refine State.access_in ?_ (fun _ => ?_) rfl

theorem mashRecipeWrite_in {x0 x1 m s a} (h : Within m s a) (hs : 5069298913510400 &&& m = 5069298913510400) :
    Within m s (mashRecipeWrite x0 x1 a) := by
  refine Within.step (m := 5069298913510400) h ?_ hs
  unfold mashRecipeWrite
  with_reducible repeat' first | exact .refl | refine State.writeRcpdata_in ?_ rfl | refine State.access_in ?_ (fun _ => ?_) rfl

theorem dieCommand_in {x0 x1 : Nat} {f : Nat → State → State} {m : Nat} {s a : State} (h : Within m s a)
    (hf : ∀ d b, Within m b (f d b)) (hs : 41100398034946080 &&& m = 41100398034946080) : Within m s (dieCommand x0 x1 f a) := by
  unfold dieCommand
  split
  · exact h
  · exact State.access_in h (fun b => State.holdCheck_in (hf _ _) (sub_trans (by decide) hs)) (sub_trans (by decide) hs)

theorem fail_in {x0 x1 m s a} (h : Within m s a) (hs : 70527067164254178 &&& m = 70527067164254178) :
    Within m s (fail x0 x1 a) := by
  refine Within.step (m := 70527067164254178) h ?_ hs
  unfold fail
  with_reducible repeat' first | exact .refl | refine dieCommand_in ?_ (fun _ _ => ?_) rfl | refine State.dcmdFail_in ?_ rfl

theorem assign_in {x0 x1 m s a} (h : Within m s a) (hs : 41102597058202912 &&& m = 41102597058202912) :
    Within m s (assign x0 x1 a) := by
  refine Within.step (m := 41102597058202912) h ?_ hs
  unfold assign
  with_reducible repeat' first | exact .refl | refine State.dcmdAssign_in ?_ rfl | refine dieCommand_in ?_ (fun _ _ => ?_) rfl

theorem readmit_in {x0 x1 m s a} (h : Within m s a) (hs : 41102597058203040 &&& m = 41102597058203040) :
    Within m s (readmit x0 x1 a) := by
  refine Within.step (m := 41102597058203040) h ?_ hs
  unfold readmit
  with_reducible repeat' first | exact .refl | refine dieCommand_in ?_ (fun _ _ => ?_) rfl | refine State.dcmdReadmit_in ?_ rfl

theorem retire_in {x0 x1 m s a} (h : Within m s a) (hs : 70527067164254178 &&& m = 70527067164254178) :
    Within m s (retire x0 x1 a) := by
  refine Within.step (m := 70527067164254178) h ?_ hs
  unfold retire
  with_reducible repeat' first | exact .refl | refine dieCommand_in ?_ (fun _ _ => ?_) rfl | refine State.dcmdRetire_in ?_ rfl

theorem dieStateRead_in {x0 x1 m s a} (h : Within m s a) (hs : 41100398034947104 &&& m = 41100398034947104) :
    Within m s (dieStateRead x0 x1 a) := by
  refine Within.step (m := 41100398034947104) h ?_ hs
  unfold dieStateRead
  with_reducible repeat' first | exact .refl | refine dieCommand_in ?_ (fun _ _ => ?_) rfl | refine State.dcmdRead_in ?_ rfl

theorem dieProbe_in {x0 m s a} (h : Within m s a) (hs : 5069298913510656 &&& m = 5069298913510656) :
    Within m s (dieProbe x0 a) := by
  refine Within.step (m := 5069298913510656) h ?_ hs
  unfold dieProbe
  with_reducible repeat' first | exact .refl | refine .ite ?_ ?_ | refine State.probeDies_in ?_ rfl

theorem dieSelfTestEnd_in {x0 x1 x2 x3 m s a} (h : Within m s a) (hs : 70527067164252130 &&& m = 70527067164252130) :
    Within m s (dieSelfTestEnd x0 x1 x2 x3 a) := by
  refine Within.step (m := 70527067164252130) h ?_ hs
  unfold dieSelfTestEnd
  with_reducible repeat' first | exact .refl | refine .ite ?_ ?_ | refine State.endSelfTest_in ?_ rfl

theorem rebuildRowTake_in {x0 x1 x2 x3 m s a} (h : Within m s a) (hs : 43358803508335648 &&& m = 43358803508335648) :
    Within m s (rebuildRowTake x0 x1 x2 x3 a) := by
  refine Within.step (m := 43358803508335648) h ?_ hs
  unfold rebuildRowTake; extract_lets
  with_reducible repeat' first | exact .refl | refine .ite ?_ ?_ | refine State.takeRow_in ?_ rfl | refine State.settleRebuild_in ?_ rfl

theorem reshapeStart_in {x0 x1 m s a} (h : Within m s a) (hs : 43358803508335648 &&& m = 43358803508335648) :
    Within m s (reshapeStart x0 x1 a) := by
  refine Within.step (m := 43358803508335648) h ?_ hs
  unfold reshapeStart
  with_reducible repeat' first | exact .refl | refine State.writeRshp_in ?_ rfl | refine State.access_in ?_ (fun _ => ?_) rfl

theorem reshapeCopySwitch_in {x0 m s a} (h : Within m s a) (hs : 43358803508335648 &&& m = 43358803508335648) :
    Within m s (reshapeCopySwitch x0 a) := by
  refine Within.step (m := 43358803508335648) h ?_ hs
  unfold reshapeCopySwitch
  with_reducible repeat' first | exact .refl | refine State.reshapeSwitch_in ?_ rfl

theorem patrolRead_in {x0 x1 x2 x3 m s a} (h : Within m s a) (hs : 5069298913510400 &&& m = 5069298913510400) :
    Within m s (patrolRead x0 x1 x2 x3 a) := by
  refine Within.step (m := 5069298913510400) h ?_ hs
  unfold patrolRead; extract_lets
  with_reducible repeat' first | exact .refl | refine .ite ?_ ?_ | refine State.assertEvent_in ?_ rfl | refine State.addSuspect_in ?_ rfl | refine Within.countAt ?_ MSH_PATCNT.PASSES_part rfl | refine Within.countAt ?_ MSH_PATCNT.UNLOC_part rfl | refine Within.modMsh ?_ rfl | extract_lets | split | dsimp +zetaDelta only

theorem dieWaitTimeout_in {x0 x1 x2 m s a} (h : Within m s a) (hs : 70527067164254178 &&& m = 70527067164254178) :
    Within m s (dieWaitTimeout x0 x1 x2 a) := by
  refine Within.step (m := 70527067164254178) h ?_ hs
  unfold dieWaitTimeout; extract_lets
  with_reducible repeat' first | exact .refl | refine .ite ?_ ?_ | refine State.timeoutDie_in ?_ rfl | refine State.holdCheck_in ?_ rfl | refine State.dieErrCheck_in ?_ rfl

theorem runTimeLimitExpire_in {x0 x1 x2 m s a} (h : Within m s a) (hs : 70527067164254178 &&& m = 70527067164254178) :
    Within m s (runTimeLimitExpire x0 x1 x2 a) := by
  refine Within.step (m := 70527067164254178) h ?_ hs
  unfold runTimeLimitExpire; extract_lets
  with_reducible repeat' first | exact .refl | refine .ite ?_ ?_ | refine State.holdCheck_in ?_ rfl | refine State.microTimeout_in ?_ rfl | refine State.dieErrCheck_in ?_ rfl

end Sys2Proof.Machine
end

