-- ==== Sys2Proof/Laws/Frames3.lean ====
section
/-! SUPPORT. Laws/Frames3.lean: which parts of the state each operation of Machine/CtlOps, HoldOps, Hold, Memory, CipOps, Cipher, PowerOps, Power, DictOps, EsnexOps, Recorder may change (see Machine/Frame.lean); a generated list, one lemma an operation. -/

namespace Sys2Proof.Machine

/-! CtlOps.lean -/

theorem State.setRet3_in {x0 x1 x2 m s a} (h : Within m s a) (hs : 8388608 &&& m = 8388608) :
    Within m s (State.setRet3 x0 x1 x2 a) := by
  refine Within.step (m := 8388608) h ?_ hs
  unfold State.setRet3
  with_reducible repeat' first | exact .refl | refine Within.setFldAt ?_ (AON_RET.WORD_part ..) rfl

theorem State.abandonEntry_in {x0 x1 x2 m s a} (h : Within m s a) (hs : 5207837378674688 &&& m = 5207837378674688) :
    Within m s (State.abandonEntry x0 x1 x2 a) := by
  refine Within.step (m := 5207837378674688) h ?_ hs
  unfold State.abandonEntry; extract_lets
  with_reducible repeat' first | exact .refl | refine State.assertEvent_in ?_ rfl | refine Within.countAt ?_ (PWR_DCNT.REFUSALS_part ..) rfl | refine Within.setFldAt ?_ PWR_LAST.CODE_part rfl | refine Within.setFldAt ?_ PWR_LAST.DOMAIN_part rfl | refine Within.setFldAt ?_ PWR_LAST.MASTER_part rfl | refine Within.countAt ?_ PWR_STAT.ABORTS_part rfl | refine Within.setFldAt ?_ PWR_STAT.CTRL_part rfl | refine Within.setFldAt ?_ PWR_STAT.STATE_part rfl | refine Within.putAt ?_ PWR_STAT.WAKEPEND_part rfl | refine Within.modPow ?_ rfl

theorem State.loseRails_in {m : Nat} {s a : State} (h : Within m s a) (hs : 72057318992248831 &&& m = 72057318992248831) : Within m s (State.loseRails a) :=
  h.step (m := 72057318992248831) (Within.most rfl rfl rfl fun c => ⟨rfl, Tab.rising_filter _ c.2⟩) hs

theorem State.raiseRail_in {x0 m s a} (h : Within m s a) (hs : 70368744177664 &&& m = 70368744177664) :
    Within m s (State.raiseRail x0 a) := by
  refine Within.step (m := 70368744177664) h ?_ hs
  unfold State.raiseRail
  with_reducible repeat' first | exact .refl | refine Within.modCtl ?_ rfl

theorem State.startStep2_in {x0 m s a} (h : Within m s a) (hs : 70368744177664 &&& m = 70368744177664) :
    Within m s (State.startStep2 x0 a) := by
  refine Within.step (m := 70368744177664) h ?_ hs
  unfold State.startStep2
  with_reducible repeat' first | exact .refl | refine Within.modCtl ?_ rfl

theorem State.setCoord_in {m s a} (h : Within m s a) (hs : 262144 &&& m = 262144) :
    Within m s (State.setCoord a) := by
  refine Within.step (m := 262144) h ?_ hs
  unfold State.setCoord
  with_reducible repeat' first | exact .refl | refine Within.putAt ?_ MGT_STAT.COORD_part rfl

theorem State.fixNode_in {m s a} (h : Within m s a) (hs : 8650752 &&& m = 8650752) :
    Within m s (State.fixNode a) := by
  refine Within.step (m := 8650752) h ?_ hs
  unfold State.fixNode; extract_lets
  with_reducible repeat' first | exact .refl | refine State.setCoord_in ?_ rfl | refine Within.setFldAt ?_ (AON_RET.WORD_part ..) rfl | refine Within.setFldAt ?_ MGT_STAT.NODE_part rfl

theorem State.leaveReset_in {m s a} (h : Within m s a) (hs : 5155062978772993 &&& m = 5155062978772993) :
    Within m s (State.leaveReset a) := by
  refine Within.step (m := 5155062978772993) h ?_ hs
  unfold State.leaveReset; extract_lets
  with_reducible repeat' first | exact .refl | refine State.fixNode_in ?_ rfl | refine State.setRet3_in ?_ rfl | refine State.startPowerUp_in ?_ rfl | refine State.assertIf_in ?_ rfl | refine Within.setFldAt ?_ PWR_STAT.CTRL_part rfl | refine Within.setFldAt ?_ PWR_STAT.STATE_part rfl | refine Within.setFldAt ?_ SAF_PST.FAILED_part rfl | refine Within.putAt ?_ SYS_CLKSTAT.PLLCORE_part rfl | refine Within.putAt ?_ SYS_CLKSTAT.PLLDATA_part rfl | refine Within.putAt ?_ SYS_CLKSTAT.PLLPHY_part rfl | refine Within.putAt ?_ SYS_CLKSTAT.XTAL_part rfl | refine Within.setFldAt ?_ SYS_RSTCAUSE.CAUSE_part rfl | refine Within.setFldAt ?_ SYS_RSTCAUSE.PGFAIL_part rfl | refine Within.modCtl ?_ rfl | refine Within.modMemc ?_ rfl

theorem State.railGood_in {x0 m s a} (h : Within m s a) (hs : 5155062978772993 &&& m = 5155062978772993) :
    Within m s (State.railGood x0 a) := by
  refine Within.step (m := 5155062978772993) h ?_ hs
  unfold State.railGood; extract_lets
  with_reducible repeat' first | exact .refl | refine .ite ?_ ?_ | refine State.leaveReset_in ?_ rfl | refine State.raiseRail_in ?_ rfl | refine Within.modCtl ?_ rfl

theorem State.railLate_in {x0 m s a} (h : Within m s a) (hs : 211106240921600 &&& m = 211106240921600) :
    Within m s (State.railLate x0 a) := by
  refine Within.step (m := 211106240921600) h ?_ hs
  unfold State.railLate; extract_lets
  with_reducible repeat' first | exact .refl | refine .ite ?_ ?_ | refine State.setRet3_in ?_ rfl | refine Within.modCtl ?_ rfl | refine Within.modPow ?_ rfl

theorem State.railRetry_in {m s a} (h : Within m s a) (hs : 70368744177664 &&& m = 70368744177664) :
    Within m s (State.railRetry a) := by
  refine Within.step (m := 70368744177664) h ?_ hs
  unfold State.railRetry
  with_reducible repeat' first | exact .refl | refine .ite ?_ ?_ | refine State.raiseRail_in ?_ rfl | refine Within.modCtl ?_ rfl

theorem State.mainGoodStart_in {m s a} (h : Within m s a) (hs : 70368744177664 &&& m = 70368744177664) :
    Within m s (State.mainGoodStart a) := by
  refine Within.step (m := 70368744177664) h ?_ hs
  unfold State.mainGoodStart; extract_lets
  with_reducible repeat' first | exact .refl | refine .ite ?_ ?_ | refine State.raiseRail_in ?_ rfl | refine Within.modCtl ?_ rfl

theorem State.notWoken_in {m s a} (h : Within m s a) (hs : 8388608 &&& m = 8388608) :
    Within m s (State.notWoken a) := by
  refine Within.step (m := 8388608) h ?_ hs
  unfold State.notWoken
  with_reducible repeat' first | exact .refl | refine Within.setFldAt ?_ AON_WAKE.CAUSE_part rfl

theorem State.restartNow_in {x0 m s a} (h : Within m s a) (hs : 72057318992248831 &&& m = 72057318992248831) :
    Within m s (State.restartNow x0 a) := by
  refine Within.step (m := 72057318992248831) h ?_ hs
  unfold State.restartNow
  with_reducible repeat' first | exact .refl | refine State.notWoken_in ?_ rfl | refine State.raiseRail_in ?_ rfl | refine State.loseRails_in ?_ rfl | refine Within.modCtl ?_ rfl

/-! HoldOps.lean -/

theorem State.mainLow_in {m s a} (h : Within m s a) (hs : 5212235425122304 &&& m = 5212235425122304) :
    Within m s (State.mainLow a) := by
  refine Within.step (m := 5212235425122304) h ?_ hs
  unfold State.mainLow; extract_lets
  with_reducible repeat' first | exact .refl | refine .ite ?_ ?_ | refine State.toHld_in ?_ rfl | refine State.assertEvent_in ?_ rfl | refine State.stopCheck_in ?_ rfl | refine Within.putAt ?_ HLD_STAT.MAINGOOD_part rfl | refine Within.modHld ?_ rfl | refine Within.modPow ?_ rfl

theorem State.endCheck_in {x0 x1 m s a} (h : Within m s a) (hs : 43633681482385440 &&& m = 43633681482385440) :
    Within m s (State.endCheck x0 x1 a) := by
  refine Within.step (m := 43633681482385440) h ?_ hs
  unfold State.endCheck; extract_lets
  with_reducible repeat' first | exact .refl | refine .ite ?_ ?_ | refine State.criticalWarning_in ?_ rfl | refine State.assertEvent_in ?_ rfl | refine State.stopCheck_in ?_ rfl | refine State.tookFree_in ?_ rfl | refine State.setDict_in ?_ rfl | refine State.holdCheck_in ?_ rfl | refine Within.putAt ?_ HLD_STAT.STOREBAD_part rfl | refine Within.modHld ?_ rfl | refine Within.modMed ?_ rfl

theorem State.startDump_in {x0 m s a} (h : Within m s a) (hs : 4947869433856 &&& m = 4947869433856) :
    Within m s (State.startDump x0 a) := by
  refine Within.step (m := 4947869433856) h ?_ hs
  unfold State.startDump; extract_lets
  with_reducible repeat' first | exact .refl | refine State.submitHw_in ?_ rfl | refine State.tookFree_in ?_ rfl | refine Within.modHld ?_ rfl | refine .each ?_ fun _ _ => ?_

theorem State.dumpAborts_in {x0 m s a} (h : Within m s a) (hs : 52512668650575714 &&& m = 52512668650575714) :
    Within m s (State.dumpAborts x0 a) := by
  refine Within.step (m := 52512668650575714) h ?_ hs
  unfold State.dumpAborts; extract_lets
  with_reducible repeat' first | exact .refl | refine State.askResets_in ?_ rfl | refine State.modEng_in ?_ rfl | refine State.endDie_in ?_ rfl | refine State.abortQueued_in ?_ rfl | refine .each ?_ fun _ _ => ?_ | extract_lets | dsimp +zetaDelta only

theorem State.dumpPower_in {m s a} (h : Within m s a) (hs : 5207837378674688 &&& m = 5207837378674688) :
    Within m s (State.dumpPower a) := by
  refine Within.step (m := 5207837378674688) h ?_ hs
  unfold State.dumpPower; extract_lets
  with_reducible repeat' first | exact .refl | refine .ite ?_ ?_ | refine State.abandonEntry_in ?_ rfl | refine Within.setFldAt ?_ (PWR_DOM.STATE_part ..) rfl | refine Within.setFldAt ?_ PWR_STAT.CTRL_part rfl | refine Within.setFldAt ?_ PWR_STAT.STATE_part rfl | refine .each ?_ fun _ _ => ?_

theorem State.commitDump_in {m s a} (h : Within m s a) (hs : 70597438123220962 &&& m = 70597438123220962) :
    Within m s (State.commitDump a) := by
  refine Within.step (m := 70597438123220962) h ?_ hs
  unfold State.commitDump; extract_lets
  with_reducible repeat' first | exact .refl | refine .ite ?_ ?_ | refine State.grpForceOff_in ?_ rfl | refine State.runEngine_in ?_ rfl | refine State.dumpPower_in ?_ rfl | refine State.startDump_in ?_ rfl | refine State.endLoops_in ?_ rfl | refine State.toHld_in ?_ rfl | refine State.updateWp_in ?_ rfl | refine State.record_in ?_ rfl | refine State.dumpAborts_in ?_ rfl | refine State.assertEvents_in ?_ rfl | refine State.resetEngine_in ?_ rfl | refine Within.modCtl ?_ rfl | refine Within.modHfe ?_ rfl | refine Within.modHld ?_ rfl | refine Within.modNv ?_ rfl | refine .each ?_ fun _ _ => ?_

theorem State.enterDone_in {m s a} (h : Within m s a) (hs : 72057318992248831 &&& m = 72057318992248831) :
    Within m s (State.enterDone a) := by
  refine Within.step (m := 72057318992248831) h ?_ hs
  unfold State.enterDone; extract_lets
  with_reducible repeat' first | exact .refl | refine State.toHld_in ?_ rfl | refine State.loseRails_in ?_ rfl | refine Within.modHld ?_ rfl

theorem State.endDump_in {m s a} (h : Within m s a) (hs : 72057318992248831 &&& m = 72057318992248831) :
    Within m s (State.endDump a) := by
  refine Within.step (m := 72057318992248831) h ?_ hs
  unfold State.endDump; extract_lets
  with_reducible repeat' first | exact .refl | refine .ite ?_ ?_ | refine State.saveMembership_in ?_ rfl | refine State.assertEvent_in ?_ rfl | refine State.enterDone_in ?_ rfl | refine Within.modNv ?_ rfl | refine Within.modPow ?_ rfl

theorem State.resumeZone_in {x0 m s a} (h : Within m s a) (hs : 43358803508335648 &&& m = 43358803508335648) :
    Within m s (State.resumeZone x0 a) := by
  refine Within.step (m := 43358803508335648) h ?_ hs
  unfold State.resumeZone; extract_lets
  with_reducible repeat' first | exact .refl | refine .ite ?_ ?_ | refine State.progChunk_in ?_ rfl | refine State.endZone_in ?_ rfl | refine State.tailChunks_in ?_ rfl | refine State.progTail_in ?_ rfl | refine State.padTail_in ?_ rfl | refine .each ?_ fun _ _ => ?_ | extract_lets | dsimp +zetaDelta only

theorem State.resumeSlc_in {m s a} (h : Within m s a) (hs : 43358803508335648 &&& m = 43358803508335648) :
    Within m s (State.resumeSlc a) := by
  refine Within.step (m := 43358803508335648) h ?_ hs
  unfold State.resumeSlc
  with_reducible repeat' first | exact .refl | refine State.resumeZone_in ?_ rfl | refine .each ?_ fun _ _ => ?_

theorem State.lossDebounced_in {m s a} (h : Within m s a) (hs : 70597438123220962 &&& m = 70597438123220962) :
    Within m s (State.lossDebounced a) := by
  refine Within.step (m := 70597438123220962) h ?_ hs
  unfold State.lossDebounced
  with_reducible repeat' first | exact .refl | refine .ite ?_ ?_ | refine State.commitDump_in ?_ rfl | refine State.toHld_in ?_ rfl | refine Within.modHld ?_ rfl

theorem State.lossCleared_in {m s a} (h : Within m s a) (hs : 43352197848631328 &&& m = 43352197848631328) :
    Within m s (State.lossCleared a) := by
  refine Within.step (m := 43352197848631328) h ?_ hs
  unfold State.lossCleared; extract_lets
  with_reducible repeat' first | exact .refl | refine .ite ?_ ?_ | refine State.tally_in ?_ rfl | refine State.toHld_in ?_ rfl | refine State.assertEvent_in ?_ rfl | refine State.holdCheck_in ?_ rfl | refine Within.countAt ?_ HLD_CNT.RIDES_part rfl | refine Within.putAt ?_ HLD_STAT.MAINGOOD_part rfl | refine Within.modHld ?_ rfl

theorem State.fallOrDump_in {x0 m s a} (h : Within m s a) (hs : 72057593870155775 &&& m = 72057593870155775) :
    Within m s (State.fallOrDump x0 a) := by
  refine Within.step (m := 72057593870155775) h ?_ hs
  unfold State.fallOrDump; extract_lets
  with_reducible repeat' first | exact .refl | refine .ite ?_ ?_ | refine State.commitDump_in ?_ rfl | refine State.enterDone_in ?_ rfl | refine Within.modCtl ?_ rfl | refine Within.modPow ?_ rfl

/-! Hold.lean -/

theorem mainSenseLow_in {x0 m s a} (h : Within m s a) (hs : 5212235425122304 &&& m = 5212235425122304) :
    Within m s (mainSenseLow x0 a) := by
  refine Within.step (m := 5212235425122304) h ?_ hs
  unfold mainSenseLow; extract_lets
  with_reducible repeat' first | exact .refl | refine .ite ?_ ?_ | refine State.mainLow_in ?_ rfl | refine Within.setFldAt ?_ HLD_SENSE.MAIN_part rfl

theorem lossDebounceExpire_in {m s a} (h : Within m s a) (hs : 70597438123220962 &&& m = 70597438123220962) :
    Within m s (lossDebounceExpire a) := by
  refine Within.step (m := 70597438123220962) h ?_ hs
  unfold lossDebounceExpire
  with_reducible repeat' first | exact .refl | refine State.lossDebounced_in ?_ rfl

theorem lossTimerClear_in {x0 m s a} (h : Within m s a) (hs : 43352197848631328 &&& m = 43352197848631328) :
    Within m s (lossTimerClear x0 a) := by
  refine Within.step (m := 43352197848631328) h ?_ hs
  unfold lossTimerClear; extract_lets
  with_reducible repeat' first | exact .refl | refine .ite ?_ ?_ | refine State.lossCleared_in ?_ rfl | refine Within.setFldAt ?_ HLD_SENSE.MAIN_part rfl

theorem goodDebounceExpire_in {m s a} (h : Within m s a) (hs : 41170766779123744 &&& m = 41170766779123744) :
    Within m s (goodDebounceExpire a) := by
  refine Within.step (m := 41170766779123744) h ?_ hs
  unfold goodDebounceExpire
  with_reducible repeat' first | exact .refl | refine .ite ?_ ?_ | refine State.toHld_in ?_ rfl | refine State.mainGoodStart_in ?_ rfl | refine State.holdCheck_in ?_ rfl | refine Within.putAt ?_ HLD_STAT.MAINGOOD_part rfl | refine Within.modHld ?_ rfl

theorem huSenseCrossing_in {x0 m s a} (h : Within m s a) (hs : 41100398034946080 &&& m = 41100398034946080) :
    Within m s (huSenseCrossing x0 a) := by
  refine Within.step (m := 41100398034946080) h ?_ hs
  unfold huSenseCrossing; extract_lets
  with_reducible repeat' first | exact .refl | refine .ite ?_ ?_ | refine State.assertEvent_in ?_ rfl | refine State.holdCheck_in ?_ rfl | refine Within.setFldAt ?_ HLD_SENSE.HU_part rfl | refine Within.putAt ?_ HLD_STAT.OV_part rfl | refine Within.modHld ?_ rfl

theorem checkNow_in {x0 x1 m s a} (h : Within m s a) (hs : 41100398034946080 &&& m = 41100398034946080) :
    Within m s (checkNow x0 x1 a) := by
  refine Within.step (m := 41100398034946080) h ?_ hs
  unfold checkNow
  with_reducible repeat' first | exact .refl | refine State.writeHldCtrl_in ?_ rfl | refine State.access_in ?_ (fun _ => ?_) rfl

theorem storeCheckEnd_in {x0 x1 m s a} (h : Within m s a) (hs : 43633681482385440 &&& m = 43633681482385440) :
    Within m s (storeCheckEnd x0 x1 a) := by
  refine Within.step (m := 43633681482385440) h ?_ hs
  unfold storeCheckEnd
  with_reducible repeat' first | exact .refl | refine State.endCheck_in ?_ rfl

theorem storeCheckInterval_in {m s a} (h : Within m s a) (hs : 4398046513152 &&& m = 4398046513152) :
    Within m s (storeCheckInterval a) := by
  refine Within.step (m := 4398046513152) h ?_ hs
  unfold storeCheckInterval
  with_reducible repeat' first | exact .refl | refine .ite ?_ ?_ | refine State.startCheck_in ?_ rfl

theorem drainWrite_in {x0 x1 m s a} (h : Within m s a) (hs : 41100398034946080 &&& m = 41100398034946080) :
    Within m s (drainWrite x0 x1 a) := by
  refine Within.step (m := 41100398034946080) h ?_ hs
  unfold drainWrite
  with_reducible repeat' first | exact .refl | refine State.writeHldCtrl_in ?_ rfl | refine State.access_in ?_ (fun _ => ?_) rfl

theorem holdupEnableWrite_in {x0 x1 m s a} (h : Within m s a) (hs : 41100398034946080 &&& m = 41100398034946080) :
    Within m s (holdupEnableWrite x0 x1 a) := by
  refine Within.step (m := 41100398034946080) h ?_ hs
  unfold holdupEnableWrite
  with_reducible repeat' first | exact .refl | refine State.writeHldCtrl_in ?_ rfl | refine State.access_in ?_ (fun _ => ?_) rfl

theorem State.eraseSlot_in {x0 m s a} (h : Within m s a) (hs : 4947802324992 &&& m = 4947802324992) :
    Within m s (State.eraseSlot x0 a) := by
  refine Within.step (m := 4947802324992) h ?_ hs
  unfold State.eraseSlot; extract_lets
  with_reducible repeat' first | exact .refl | refine State.submitHw_in ?_ rfl | refine Within.modHld ?_ rfl | refine .each ?_ fun _ _ => ?_

theorem holdupArm_in {m s a} (h : Within m s a) (hs : 43363201554848800 &&& m = 43363201554848800) :
    Within m s (holdupArm a) := by
  refine Within.step (m := 43363201554848800) h ?_ hs
  unfold holdupArm; extract_lets
  with_reducible repeat' first | exact .refl | refine .ite ?_ ?_ | refine State.resumeSlc_in ?_ rfl | refine State.toHld_in ?_ rfl | refine State.settle_in ?_ rfl | refine State.assertEvent_in ?_ rfl | refine State.eraseSlot_in ?_ rfl | refine Within.modHld ?_ rfl | extract_lets | split | dsimp +zetaDelta only

theorem drainComplete_in {m s a} (h : Within m s a) (hs : 41100398034946080 &&& m = 41100398034946080) :
    Within m s (drainComplete a) := by
  refine Within.step (m := 41100398034946080) h ?_ hs
  unfold drainComplete
  with_reducible repeat' first | exact .refl | refine .ite ?_ ?_ | refine State.assertEvent_in ?_ rfl | refine State.holdCheck_in ?_ rfl | refine State.toHld_in ?_ rfl

theorem dumpEnd_in {m s a} (h : Within m s a) (hs : 72057318992248831 &&& m = 72057318992248831) :
    Within m s (dumpEnd a) := by
  refine Within.step (m := 72057318992248831) h ?_ hs
  unfold dumpEnd
  with_reducible repeat' first | exact .refl | refine State.endDump_in ?_ rfl

theorem doneRestart_in {m s a} (h : Within m s a) (hs : 74766799079424 &&& m = 74766799079424) :
    Within m s (doneRestart a) := by
  refine Within.step (m := 74766799079424) h ?_ hs
  unfold doneRestart
  with_reducible repeat' first | exact .refl | refine .ite ?_ ?_ | refine State.toHld_in ?_ rfl | refine State.notWoken_in ?_ rfl | refine State.startStep2_in ?_ rfl | refine Within.modHld ?_ rfl

/-! Memory.lean -/

theorem amo_in {x0 x1 x2 x3 x4 m s a} (h : Within m s a) (hs : 17594081869824 &&& m = 17594081869824) :
    Within m s (amo x0 x1 x2 x3 x4 a) := by
  refine Within.step (m := 17594081869824) h ?_ hs
  unfold amo
  with_reducible repeat' first | exact .refl | refine .ite ?_ ?_ | refine State.amo_in ?_ rfl

theorem lr_in {x0 x1 x2 m s a} (h : Within m s a) (hs : 17593813434368 &&& m = 17593813434368) :
    Within m s (lr x0 x1 x2 a) := by
  refine Within.step (m := 17593813434368) h ?_ hs
  unfold lr
  with_reducible repeat' first | exact .refl | refine .ite ?_ ?_ | refine State.loadReserve_in ?_ rfl

theorem sc_in {x0 x1 x2 x3 m s a} (h : Within m s a) (hs : 17594081869824 &&& m = 17594081869824) :
    Within m s (sc x0 x1 x2 x3 a) := by
  refine Within.step (m := 17594081869824) h ?_ hs
  unfold sc
  with_reducible repeat' first | exact .refl | refine .ite ?_ ?_ | refine State.storeCond_in ?_ rfl

theorem bankAssignWrite_in {x0 x1 x2 m s a} (h : Within m s a) (hs : 553656320 &&& m = 553656320) :
    Within m s (bankAssignWrite x0 x1 x2 a) := by
  refine Within.step (m := 553656320) h ?_ hs
  unfold bankAssignWrite
  with_reducible repeat' first | exact .refl | refine .ite ?_ ?_ | refine State.writeBank_in ?_ rfl | refine State.access_in ?_ (fun _ => ?_) rfl

theorem lockBanks_in {x0 x1 m s a} (h : Within m s a) (hs : 5084692076306432 &&& m = 5084692076306432) :
    Within m s (lockBanks x0 x1 a) := by
  refine Within.step (m := 5084692076306432) h ?_ hs
  unfold lockBanks
  with_reducible repeat' first | exact .refl | refine State.writeMemCtrl_in ?_ rfl | refine State.access_in ?_ (fun _ => ?_) rfl

theorem cclr_in {x0 m s a} (h : Within m s a) (hs : 17592739692544 &&& m = 17592739692544) :
    Within m s (cclr x0 a) := by
  refine Within.step (m := 17592739692544) h ?_ hs
  unfold cclr
  with_reducible repeat' first | exact .refl | refine State.access_in ?_ (fun _ => ?_) rfl | refine Within.modMemc ?_ rfl

theorem rowRetire_in {x0 x1 m s a} (h : Within m s a) (hs : 5084692076306432 &&& m = 5084692076306432) :
    Within m s (rowRetire x0 x1 a) := by
  refine Within.step (m := 5084692076306432) h ?_ hs
  unfold rowRetire
  with_reducible repeat' first | exact .refl | refine State.writeRetire_in ?_ rfl | refine State.access_in ?_ (fun _ => ?_) rfl

theorem State.writeTubCtrl_in {x0 m s a} (h : Within m s a) (hs : 7327695796965376 &&& m = 7327695796965376) :
    Within m s (State.writeTubCtrl x0 a) := by
  refine Within.step (m := 7327695796965376) h ?_ hs
  unfold State.writeTubCtrl
  with_reducible repeat' first | exact .refl | refine .ite ?_ ?_ | refine State.enableTubs_in ?_ rfl

theorem tubEnable_in {x0 x1 m s a} (h : Within m s a) (hs : 7327695796965376 &&& m = 7327695796965376) :
    Within m s (tubEnable x0 x1 a) := by
  refine Within.step (m := 7327695796965376) h ?_ hs
  unfold tubEnable
  with_reducible repeat' first | exact .refl | refine State.writeTubCtrl_in ?_ rfl | refine State.access_in ?_ (fun _ => ?_) rfl

theorem alloc_in {x0 x1 x2 m s a} (h : Within m s a) (hs : 7327695796965376 &&& m = 7327695796965376) :
    Within m s (alloc x0 x1 x2 a) := by
  refine Within.step (m := 7327695796965376) h ?_ hs
  unfold alloc
  with_reducible repeat' first | exact .refl | refine State.askTubs_in ?_ rfl

theorem append_in {x0 x1 x2 x3 m s a} (h : Within m s a) (hs : 7327695796965376 &&& m = 7327695796965376) :
    Within m s (append x0 x1 x2 x3 a) := by
  refine Within.step (m := 7327695796965376) h ?_ hs
  unfold append
  with_reducible repeat' first | exact .refl | refine State.askTubs_in ?_ rfl

theorem tubGrant_in {x0 m s a} (h : Within m s a) (hs : 2260595906711552 &&& m = 2260595906711552) :
    Within m s (tubGrant x0 a) := by
  refine Within.step (m := 2260595906711552) h ?_ hs
  unfold tubGrant
  with_reducible repeat' first | exact .refl | refine State.serveHead_in ?_ rfl

theorem free_in {x0 x1 m s a} (h : Within m s a) (hs : 7327695796965376 &&& m = 7327695796965376) :
    Within m s (free x0 x1 a) := by
  refine Within.step (m := 7327695796965376) h ?_ hs
  unfold free
  with_reducible repeat' first | exact .refl | refine State.freeChain_in ?_ rfl

theorem trim_in {x0 x1 m s a} (h : Within m s a) (hs : 7327695796965376 &&& m = 7327695796965376) :
    Within m s (trim x0 x1 a) := by
  refine Within.step (m := 7327695796965376) h ?_ hs
  unfold trim
  with_reducible repeat' first | exact .refl | refine State.trimChain_in ?_ rfl

theorem tubWindowWrite_in {x0 x1 x2 m s a} (h : Within m s a) (hs : 8796646674432 &&& m = 8796646674432) :
    Within m s (tubWindowWrite x0 x1 x2 a) := by
  refine Within.step (m := 8796646674432) h ?_ hs
  unfold tubWindowWrite
  with_reducible repeat' first | exact .refl | refine .ite ?_ ?_ | refine State.writeTubUse_in ?_ rfl | refine State.access_in ?_ (fun _ => ?_) rfl | refine State.writeTubWin_in ?_ rfl

/-! CipOps.lean -/

theorem State.rsWrite_in {x0 x1 m s a} (h : Within m s a) (hs : 5067099890270208 &&& m = 5067099890270208) :
    Within m s (State.rsWrite x0 x1 a) := by
  refine Within.step (m := 5067099890270208) h ?_ hs
  unfold State.rsWrite; extract_lets
  with_reducible repeat' first | exact .refl | refine .ite ?_ ?_ | refine State.assertEvent_in ?_ rfl | refine Within.setFldAt ?_ CIP_RSWCAP.BLOCK_part rfl | refine Within.setFldAt ?_ CIP_RSWCAP.MASTER_part rfl | refine Within.setFldAt ?_ CIP_RSWCAP.OFFSET_part rfl | refine Within.putAt ?_ CIP_RSWCAP.VALID_part rfl | refine Within.countAt ?_ CIP_RSWCNT.COUNT_part rfl

theorem State.freshKey_in {x0 m s a} (h : Within m s a) (hs : 35184372088832 &&& m = 35184372088832) :
    Within m s (State.freshKey x0 a) := by
  refine Within.step (m := 35184372088832) h ?_ hs
  unfold State.freshKey; extract_lets
  with_reducible repeat' first | exact .refl | refine Within.modCip ?_ rfl

theorem State.makeKeys_in {x0 m s a} (h : Within m s a) (hs : 5102284262342656 &&& m = 5102284262342656) :
    Within m s (State.makeKeys x0 a) := by
  refine Within.step (m := 5102284262342656) h ?_ hs
  unfold State.makeKeys
  with_reducible repeat' first | exact .refl | refine State.assertEvent_in ?_ rfl | refine State.freshKey_in ?_ rfl | refine .each ?_ fun _ _ => ?_

theorem State.replaceKeys_in {x0 m s a} (h : Within m s a) (hs : 5102284262342656 &&& m = 5102284262342656) :
    Within m s (State.replaceKeys x0 a) := by
  refine Within.step (m := 5102284262342656) h ?_ hs
  unfold State.replaceKeys
  with_reducible repeat' first | exact .refl | refine State.assertEvent_in ?_ rfl | refine State.freshKey_in ?_ rfl | refine .each ?_ fun _ _ => ?_

theorem State.dropKeys_in {x0 m s a} (h : Within m s a) (hs : 35184372088832 &&& m = 35184372088832) :
    Within m s (State.dropKeys x0 a) := by
  refine Within.step (m := 35184372088832) h ?_ hs
  unfold State.dropKeys; extract_lets
  with_reducible repeat' first | exact .refl | refine Within.modCip ?_ rfl

theorem State.loadKeys_in {m s a} (h : Within m s a) (hs : 35184372088832 &&& m = 35184372088832) :
    Within m s (State.loadKeys a) := by
  refine Within.step (m := 35184372088832) h ?_ hs
  unfold State.loadKeys
  with_reducible repeat' first | exact .refl | refine Within.modCip ?_ rfl

theorem State.hwWrite_in {x0 x1 m s a} (h : Within m s a) (hs : 1342177280 &&& m = 1342177280) :
    Within m s (State.hwWrite x0 x1 a) := by
  refine Within.step (m := 1342177280) h ?_ hs
  unfold State.hwWrite; extract_lets
  with_reducible repeat' first | exact .refl | refine .ite ?_ ?_ | refine State.setBytes_in ?_ rfl | refine State.breakResv_in ?_ rfl | refine .each ?_ fun _ _ => ?_

theorem State.setJob_in {x0 x1 x2 m s a} (h : Within m s a) (hs : 1342177280 &&& m = 1342177280) :
    Within m s (State.setJob x0 x1 x2 a) := by
  refine Within.step (m := 1342177280) h ?_ hs
  unfold State.setJob
  with_reducible repeat' first | exact .refl | refine State.hwWrite_in ?_ rfl

theorem State.endJob_in {x0 x1 m s a} (h : Within m s a) (hs : 5067101232431104 &&& m = 5067101232431104) :
    Within m s (State.endJob x0 x1 a) := by
  refine Within.step (m := 5067101232431104) h ?_ hs
  unfold State.endJob; extract_lets
  with_reducible repeat' first | exact .refl | refine State.setJob_in ?_ rfl | refine State.assertIf_in ?_ rfl

theorem State.modGctx_in {x0 x1 m s a} (h : Within m s a) (hs : 35184372088832 &&& m = 35184372088832) :
    Within m s (State.modGctx x0 x1 a) := by
  refine Within.step (m := 35184372088832) h ?_ hs
  unfold State.modGctx
  with_reducible repeat' first | exact .refl | refine Within.modCip ?_ rfl

theorem State.takeWindow_in {m s a} (h : Within m s a) (hs : 5102284262342656 &&& m = 5102284262342656) :
    Within m s (State.takeWindow a) := by
  refine Within.step (m := 5102284262342656) h ?_ hs
  unfold State.takeWindow; extract_lets
  with_reducible repeat' first | exact .refl | refine State.assertEvent_in ?_ rfl | refine State.assertIf_in ?_ rfl | refine Within.modCip ?_ rfl

theorem State.windowFor_in {x0 x1 x2 m s a} (h : Within m s a) (hs : 5102284262342656 &&& m = 5102284262342656) :
    Within m s (State.windowFor x0 x1 x2 a).2 := by
  refine Within.step (m := 5102284262342656) h ?_ hs
  unfold State.windowFor
  with_reducible repeat' first | exact .refl | refine State.takeWindow_in ?_ rfl | split
theorem State.windowFor_in_eq {x0 x1 x2} {m s a t v} (e : State.windowFor x0 x1 x2 a = (v, t)) (h : Within m s a) (hs : 5102284262342656 &&& m = 5102284262342656) : Within m s t := by
  have k := State.windowFor_in (x0 := x0) (x1 := x1) (x2 := x2) h hs
  rw [e] at k; exact k

theorem State.nextIv_in {x0 m s a} (h : Within m s a) (hs : 5102284262342656 &&& m = 5102284262342656) :
    Within m s (State.nextIv x0 a).2 := by
  refine Within.step (m := 5102284262342656) h ?_ hs
  unfold State.nextIv; extract_lets
  with_reducible repeat' first | exact .refl | refine State.modGctx_in ?_ rfl | refine State.windowFor_in ?_ rfl | refine Within.modCip ?_ rfl | split
theorem State.nextIv_in_eq {x0} {m s a t v} (e : State.nextIv x0 a = (v, t)) (h : Within m s a) (hs : 5102284262342656 &&& m = 5102284262342656) : Within m s t := by
  have k := State.nextIv_in (x0 := x0) h hs
  rw [e] at k; exact k

theorem State.takeJobs_in {x0 m s a} (h : Within m s a) (hs : 5102285604536320 &&& m = 5102285604536320) :
    Within m s (State.takeJobs x0 a) := by
  induction x0 generalizing s a m with
  | zero => exact h
  | succ n ih =>
    refine Within.step (m := 5102285604536320) h ?_ hs
    unfold State.takeJobs; extract_lets
    with_reducible repeat' first | exact .refl | refine .ite ?_ ?_ | refine State.endJob_in ?_ rfl | refine Within.setFldAt ?_ CIP_GHEAD.HEAD_part rfl | refine Within.modCip ?_ rfl | refine ih ?_ rfl | extract_lets | split | dsimp +zetaDelta only

theorem State.writeGtail_in {x0 m s a} (h : Within m s a) (hs : 5102285604536320 &&& m = 5102285604536320) :
    Within m s (State.writeGtail x0 a) := by
  refine Within.step (m := 5102285604536320) h ?_ hs
  unfold State.writeGtail
  with_reducible repeat' first | exact .refl | refine State.takeJobs_in ?_ rfl | refine Within.setFldAt ?_ CIP_GTAIL.TAIL_part rfl

theorem State.writeGring_in {x0 m s a} (h : Within m s a) (hs : 16384 &&& m = 16384) :
    Within m s (State.writeGring x0 a) := by
  refine Within.step (m := 16384) h ?_ hs
  unfold State.writeGring; extract_lets
  with_reducible repeat' first | exact .refl | refine .ite ?_ ?_ | refine Within.setFldAt ?_ CIP_GRING.BASE_part rfl | refine Within.setFldAt ?_ CIP_GRING.LOG2_part rfl

theorem State.dropJob_in {x0 m s a} (h : Within m s a) (hs : 5102285604536320 &&& m = 5102285604536320) :
    Within m s (State.dropJob x0 a) := by
  refine Within.step (m := 5102285604536320) h ?_ hs
  unfold State.dropJob
  with_reducible repeat' first | exact .refl | refine State.takeJobs_in ?_ rfl | refine Within.modCip ?_ rfl

theorem State.gcmBad_in {x0 m s a} (h : Within m s a) (hs : 14074300489285632 &&& m = 14074300489285632) :
    Within m s (State.gcmBad x0 a) := by
  refine Within.step (m := 14074300489285632) h ?_ hs
  unfold State.gcmBad
  with_reducible repeat' first | exact .refl | refine State.assertEvent_in ?_ rfl | refine State.endJob_in ?_ rfl | refine State.noteError_in ?_ rfl | refine Within.countAt ?_ CIP_ERRCNT.GCMMIS_part rfl

theorem State.encryptWith_in {x0 x1 x2 m s a} (h : Within m s a) (hs : 14074300489285632 &&& m = 14074300489285632) :
    Within m s (State.encryptWith x0 x1 x2 a) := by
  refine Within.step (m := 14074300489285632) h ?_ hs
  unfold State.encryptWith; extract_lets
  with_reducible repeat' first | exact .refl | refine .ite ?_ ?_ | refine State.setJob_in ?_ rfl | refine State.gcmBad_in ?_ rfl | refine State.hwWrite_in ?_ rfl | refine State.endJob_in ?_ rfl

theorem State.encryptJob_in {x0 m s a} (h : Within m s a) (hs : 14109484861374464 &&& m = 14109484861374464) :
    Within m s (State.encryptJob x0 a) := by
  refine Within.step (m := 14109484861374464) h ?_ hs
  unfold State.encryptJob
  with_reducible repeat' first | exact .refl | refine State.dropJob_in ?_ rfl | refine State.encryptWith_in ?_ rfl | refine State.nextIv_in ?_ rfl | refine State.endJob_in ?_ rfl | extract_lets | split | dsimp +zetaDelta only

theorem State.decryptJob_in {x0 m s a} (h : Within m s a) (hs : 14109484861374464 &&& m = 14109484861374464) :
    Within m s (State.decryptJob x0 a) := by
  refine Within.step (m := 14109484861374464) h ?_ hs
  unfold State.decryptJob
  with_reducible repeat' first | exact .refl | refine .ite ?_ ?_ | refine State.assertEvent_in ?_ rfl | refine State.gcmBad_in ?_ rfl | refine State.dropJob_in ?_ rfl | refine State.hwWrite_in ?_ rfl | refine State.endJob_in ?_ rfl | refine Within.countAt ?_ CIP_ERRCNT.TAGFAIL_part rfl | split

theorem State.settleIvs_in {x0 m s a} (h : Within m s a) (hs : 5102285604519936 &&& m = 5102285604519936) :
    Within m s (State.settleIvs x0 a) := by
  refine Within.step (m := 5102285604519936) h ?_ hs
  unfold State.settleIvs
  with_reducible repeat' first | exact .refl | refine State.nextIv_in ?_ rfl | refine State.endJob_in ?_ rfl | refine Within.modCip ?_ rfl | refine .each ?_ fun _ _ => ?_ | extract_lets | split

theorem State.writeRekey_in {x0 m s a} (h : Within m s a) (hs : 5102285604536320 &&& m = 5102285604536320) :
    Within m s (State.writeRekey x0 a) := by
  refine Within.step (m := 5102285604536320) h ?_ hs
  unfold State.writeRekey; extract_lets
  with_reducible repeat' first | exact .refl | refine .ite ?_ ?_ | refine State.modGctx_in ?_ rfl | refine State.settleIvs_in ?_ rfl | refine State.assertEvent_in ?_ rfl | refine State.takeJobs_in ?_ rfl | refine Within.putAt ?_ CIP_REKEY.ERR_part rfl | refine Within.modCip ?_ rfl

theorem State.readRng_in {x0 m s a} (h : Within m s a) (hs : 35184908959744 &&& m = 35184908959744) :
    Within m s (State.readRng x0 a) := by
  refine Within.step (m := 35184908959744) h ?_ hs
  unfold State.readRng
  with_reducible repeat' first | exact .refl | refine .ite ?_ ?_ | refine State.returns_in ?_ rfl | refine Within.modCip ?_ rfl

theorem State.rngFail_in {x0 m s a} (h : Within m s a) (hs : 5102284262359040 &&& m = 5102284262359040) :
    Within m s (State.rngFail x0 a) := by
  refine Within.step (m := 5102284262359040) h ?_ hs
  unfold State.rngFail
  with_reducible repeat' first | exact .refl | refine .ite ?_ ?_ | refine State.assertEvent_in ?_ rfl | refine Within.putAt ?_ CIP_STAT.RNGOK_part rfl | refine Within.modCip ?_ rfl

theorem State.leaseRefusal_in {m s a} (h : Within m s a) (hs : 5067099890270208 &&& m = 5067099890270208) :
    Within m s (State.leaseRefusal a) := by
  refine Within.step (m := 5067099890270208) h ?_ hs
  unfold State.leaseRefusal
  with_reducible repeat' first | exact .refl | refine State.assertEvent_in ?_ rfl | refine Within.countAt ?_ CIP_LEASESTAT.REFUSALS_part rfl

theorem State.writeLease_in {x0 x1 m s a} (h : Within m s a) (hs : 5102284262359040 &&& m = 5102284262359040) :
    Within m s (State.writeLease x0 x1 a) := by
  refine Within.step (m := 5102284262359040) h ?_ hs
  unfold State.writeLease; extract_lets
  with_reducible repeat' first | exact .refl | refine .ite ?_ ?_ | refine State.rsWrite_in ?_ rfl | refine State.assertEvent_in ?_ rfl | refine Within.setFldAt ?_ CIP_LEASE.FORCE_part rfl | refine Within.setFldAt ?_ CIP_LEASE.HOLD_part rfl | refine Within.setFldAt ?_ CIP_LEASESTAT.HELD_part rfl | refine Within.setFldAt ?_ (PWR_DOM.STATE_part ..) rfl | refine Within.modCip ?_ rfl | refine .each ?_ fun _ _ => ?_

theorem State.releaseLeases_in {m s a} (h : Within m s a) (hs : 35184372105216 &&& m = 35184372105216) :
    Within m s (State.releaseLeases a) := by
  refine Within.step (m := 35184372105216) h ?_ hs
  unfold State.releaseLeases; extract_lets
  with_reducible repeat' first | exact .refl | refine Within.setFldAt ?_ CIP_LEASE.HOLD_part rfl | refine Within.setFldAt ?_ CIP_LEASESTAT.HELD_part rfl | refine Within.modCip ?_ rfl

theorem State.trySource_in {x0 x1 m s a} (h : Within m s a) (hs : 5172653274972160 &&& m = 5172653274972160) :
    Within m s (State.trySource x0 x1 a).2 := by
  refine Within.step (m := 5172653274972160) h ?_ hs
  unfold State.trySource; extract_lets
  with_reducible repeat' first | exact .refl | refine State.setBytes_in ?_ rfl | refine State.assertEvent_in ?_ rfl | refine Within.setFldAt ?_ CIP_BOOTSTAT.RESULT_part rfl | refine Within.setFldAt ?_ CIP_BOOTSTAT.SCHEMES_part rfl | refine Within.setFldAt ?_ CIP_BOOTSTAT.SOURCE_part rfl | refine Within.setFldAt ?_ CIP_BOOTSTAT.SVN_part rfl | refine Within.modCip ?_ rfl | refine Within.modCtl ?_ rfl | extract_lets | split
theorem State.trySource_in_eq {x0 x1} {m s a t v} (e : State.trySource x0 x1 a = (v, t)) (h : Within m s a) (hs : 5172653274972160 &&& m = 5172653274972160) : Within m s t := by
  have k := State.trySource_in (x0 := x0) (x1 := x1) h hs
  rw [e] at k; exact k

theorem State.bootFrom_in {x0 x1 x2 x3 m s a} (h : Within m s a) (hs : 5172653274972161 &&& m = 5172653274972161) :
    Within m s (State.bootFrom x0 x1 x2 x3 a) := by
  refine Within.step (m := 5172653274972161) h ?_ hs
  unfold State.bootFrom; extract_lets
  with_reducible repeat' first | exact .refl | refine .ite ?_ ?_ | refine State.trySource_in ?_ rfl | refine Within.setFldAt ?_ SYS_BOOTPHASE.STEP_part rfl | refine Within.modCtl ?_ rfl

/-! Cipher.lean -/

theorem gcmTailWrite_in {x0 x1 m s a} (h : Within m s a) (hs : 5102285604536320 &&& m = 5102285604536320) :
    Within m s (gcmTailWrite x0 x1 a) := by
  refine Within.step (m := 5102285604536320) h ?_ hs
  unfold gcmTailWrite
  with_reducible repeat' first | exact .refl | refine State.writeGtail_in ?_ rfl | refine State.access_in ?_ (fun _ => ?_) rfl

theorem encrypt_in {x0 m s a} (h : Within m s a) (hs : 14109484861374464 &&& m = 14109484861374464) :
    Within m s (encrypt x0 a) := by
  refine Within.step (m := 14109484861374464) h ?_ hs
  unfold encrypt
  with_reducible repeat' first | exact .refl | refine State.encryptJob_in ?_ rfl

theorem decrypt_in {x0 m s a} (h : Within m s a) (hs : 14109484861374464 &&& m = 14109484861374464) :
    Within m s (decrypt x0 a) := by
  refine Within.step (m := 14109484861374464) h ?_ hs
  unfold decrypt
  with_reducible repeat' first | exact .refl | refine State.decryptJob_in ?_ rfl

theorem rekey_in {x0 x1 m s a} (h : Within m s a) (hs : 5102285604536320 &&& m = 5102285604536320) :
    Within m s (rekey x0 x1 a) := by
  refine Within.step (m := 5102285604536320) h ?_ hs
  unfold rekey
  with_reducible repeat' first | exact .refl | refine State.writeRekey_in ?_ rfl | refine State.access_in ?_ (fun _ => ?_) rfl

theorem rngRead_in {x0 m s a} (h : Within m s a) (hs : 35184925736960 &&& m = 35184925736960) :
    Within m s (rngRead x0 a) := by
  refine Within.step (m := 35184925736960) h ?_ hs
  unfold rngRead
  with_reducible repeat' first | exact .refl | refine State.readRng_in ?_ rfl | refine State.access_in ?_ (fun _ => ?_) rfl

theorem drbgHealthFail_in {x0 m s a} (h : Within m s a) (hs : 5102284262359040 &&& m = 5102284262359040) :
    Within m s (drbgHealthFail x0 a) := by
  refine Within.step (m := 5102284262359040) h ?_ hs
  unfold drbgHealthFail
  with_reducible repeat' first | exact .refl | refine State.rngFail_in ?_ rfl

theorem force_in {x0 x1 m s a} (h : Within m s a) (hs : 5102284262359040 &&& m = 5102284262359040) :
    Within m s (force x0 x1 a) := by
  refine Within.step (m := 5102284262359040) h ?_ hs
  unfold force
  with_reducible repeat' first | exact .refl | refine State.writeLease_in ?_ rfl | refine State.access_in ?_ (fun _ => ?_) rfl

/-! PowerOps.lean -/

theorem State.startAsking_in {m s a} (h : Within m s a) (hs : 41241135523366944 &&& m = 41241135523366944) :
    Within m s (State.startAsking a) := by
  refine Within.step (m := 41241135523366944) h ?_ hs
  unfold State.startAsking; extract_lets
  with_reducible repeat' first | exact .refl | refine .ite ?_ ?_ | refine State.assertEvent_in ?_ rfl | refine State.writeHldCtrl_in ?_ rfl | refine Within.setFldAt ?_ PWR_STAT.CTRL_part rfl | refine Within.modPow ?_ rfl | extract_lets | dsimp +zetaDelta only

theorem State.requestPower_in {x0 m s a} (h : Within m s a) (hs : 41241135523366944 &&& m = 41241135523366944) :
    Within m s (State.requestPower x0 a) := by
  refine Within.step (m := 41241135523366944) h ?_ hs
  unfold State.requestPower
  with_reducible repeat' first | exact .refl | refine .ite ?_ ?_ | refine State.startAsking_in ?_ rfl | refine Within.setFldAt ?_ PWR_STAT.TARGET_part rfl | extract_lets | dsimp +zetaDelta only

theorem State.napWake_in {m s a} (h : Within m s a) (hs : 5137468634497024 &&& m = 5137468634497024) :
    Within m s (State.napWake a) := by
  refine Within.step (m := 5137468634497024) h ?_ hs
  unfold State.napWake; extract_lets
  with_reducible repeat' first | exact .refl | refine State.assertEvent_in ?_ rfl | refine State.ungate_in ?_ rfl | refine Within.setFldAt ?_ PWR_STAT.CTRL_part rfl | refine Within.setFldAt ?_ PWR_STAT.PS_part rfl | refine Within.setFldAt ?_ PWR_STAT.STATE_part rfl | refine Within.modCtl ?_ rfl | refine .each ?_ fun _ _ => ?_

theorem State.wakePending_in {x0 m s a} (h : Within m s a) (hs : 5067099890319360 &&& m = 5067099890319360) :
    Within m s (State.wakePending x0 a) := by
  refine Within.step (m := 5067099890319360) h ?_ hs
  unfold State.wakePending
  with_reducible repeat' first | exact .refl | refine State.assertIf_in ?_ rfl | refine Within.putAt ?_ PWR_STAT.WAKEPEND_part rfl

theorem State.withdrawPower_in {m s a} (h : Within m s a) (hs : 5207837378674688 &&& m = 5207837378674688) :
    Within m s (State.withdrawPower a) := by
  refine Within.step (m := 5207837378674688) h ?_ hs
  unfold State.withdrawPower; extract_lets
  with_reducible repeat' first | exact .refl | refine .ite ?_ ?_ | refine State.wakePending_in ?_ rfl | refine Within.setFldAt ?_ PWR_STAT.TARGET_part rfl | refine Within.modPow ?_ rfl

theorem State.writeRequested_in {x0 m s a} (h : Within m s a) (hs : 41311504267544608 &&& m = 41311504267544608) :
    Within m s (State.writeRequested x0 a) := by
  refine Within.step (m := 41311504267544608) h ?_ hs
  unfold State.writeRequested; extract_lets
  with_reducible repeat' first | exact .refl | refine .ite ?_ ?_ | refine State.withdrawPower_in ?_ rfl | refine State.napWake_in ?_ rfl | refine State.requestPower_in ?_ rfl

theorem State.writePwrReq_in {x0 m s a} (h : Within m s a) (hs : 41241135523366944 &&& m = 41241135523366944) :
    Within m s (State.writePwrReq x0 a) := by
  refine Within.step (m := 41241135523366944) h ?_ hs
  unfold State.writePwrReq
  with_reducible repeat' first | exact .refl | refine .ite ?_ ?_ | refine State.requestPower_in ?_ rfl | refine State.withdrawPower_in ?_ rfl

theorem State.setPs_in {x0 m s a} (h : Within m s a) (hs : 41311504267544608 &&& m = 41311504267544608) :
    Within m s (State.setPs x0 a) := by
  refine Within.step (m := 41311504267544608) h ?_ hs
  unfold State.setPs; extract_lets
  with_reducible repeat' first | exact .refl | refine .ite ?_ ?_ | refine State.wakePending_in ?_ rfl | refine State.napWake_in ?_ rfl | refine State.assertEvent_in ?_ rfl | refine State.requestPower_in ?_ rfl | refine Within.setFldAt ?_ PWR_STAT.PS_part rfl | refine Within.setFldAt ?_ PWR_STAT.TARGET_part rfl | refine Within.modPow ?_ rfl

theorem State.doorbellWake_in {m s a} (h : Within m s a) (hs : 5137468634497024 &&& m = 5137468634497024) :
    Within m s (State.doorbellWake a) := by
  refine Within.step (m := 5137468634497024) h ?_ hs
  unfold State.doorbellWake; extract_lets
  with_reducible repeat' first | exact .refl | refine .ite ?_ ?_ | refine State.napWake_in ?_ rfl | refine State.wakeIdle_in ?_ rfl

theorem State.reask_in {m s a} (h : Within m s a) (hs : 41241135523366944 &&& m = 41241135523366944) :
    Within m s (State.reask a) := by
  refine Within.step (m := 41241135523366944) h ?_ hs
  unfold State.reask
  with_reducible repeat' first | exact .refl | refine .ite ?_ ?_ | refine State.startAsking_in ?_ rfl

theorem State.acknowledge_in {x0 m s a} (h : Within m s a) (hs : 5313390494957568 &&& m = 5313390494957568) :
    Within m s (State.acknowledge x0 a) := by
  refine Within.step (m := 5313390494957568) h ?_ hs
  unfold State.acknowledge; extract_lets
  with_reducible repeat' first | exact .refl | refine .ite ?_ ?_ | refine State.releaseLeases_in ?_ rfl | refine State.assertEvent_in ?_ rfl | refine Within.setFldAt ?_ PWR_STAT.CTRL_part rfl | refine Within.modCtl ?_ rfl | refine Within.modPow ?_ rfl

theorem State.refuseEntry_in {x0 x1 x2 m s a} (h : Within m s a) (hs : 5278206122852352 &&& m = 5278206122852352) :
    Within m s (State.refuseEntry x0 x1 x2 a) := by
  refine Within.step (m := 5278206122852352) h ?_ hs
  unfold State.refuseEntry
  with_reducible repeat' first | exact .refl | refine State.abandonEntry_in ?_ rfl | refine Within.modCtl ?_ rfl

theorem State.answerDomain_in {x0 x1 m s a} (h : Within m s a) (hs : 5313390494957568 &&& m = 5313390494957568) :
    Within m s (State.answerDomain x0 x1 a) := by
  refine Within.step (m := 5313390494957568) h ?_ hs
  unfold State.answerDomain; extract_lets
  with_reducible repeat' first | exact .refl | refine .ite ?_ ?_ | refine State.acknowledge_in ?_ rfl | refine State.refuseEntry_in ?_ rfl | refine Within.countAt ?_ (PWR_DCNT.DELAYS_part ..) rfl | extract_lets | split | dsimp +zetaDelta only

theorem State.writeAns_in {x0 x1 x2 m s a} (h : Within m s a) (hs : 5313390494957568 &&& m = 5313390494957568) :
    Within m s (State.writeAns x0 x1 x2 a) := by
  refine Within.step (m := 5313390494957568) h ?_ hs
  unfold State.writeAns
  with_reducible repeat' first | exact .refl | refine .ite ?_ ?_ | refine State.answerDomain_in ?_ rfl | extract_lets | split

theorem State.answerLate_in {x0 m s a} (h : Within m s a) (hs : 5278206122852352 &&& m = 5278206122852352) :
    Within m s (State.answerLate x0 a) := by
  refine Within.step (m := 5278206122852352) h ?_ hs
  unfold State.answerLate
  with_reducible repeat' first | exact .refl | refine .ite ?_ ?_ | refine State.refuseEntry_in ?_ rfl

theorem State.coldWake_in {x0 m s a} (h : Within m s a) (hs : 70373047599104 &&& m = 70373047599104) :
    Within m s (State.coldWake x0 a) := by
  refine Within.step (m := 70373047599104) h ?_ hs
  unfold State.coldWake; extract_lets
  with_reducible repeat' first | exact .refl | refine .ite ?_ ?_ | refine State.modPort_in ?_ rfl | refine State.raiseRail_in ?_ rfl | refine State.setRet3_in ?_ rfl | refine State.startStep2_in ?_ rfl | refine Within.setFldAt ?_ AON_WAKE.CAUSE_part rfl | refine Within.setFldAt ?_ PWR_STAT.CTRL_part rfl | refine Within.modCtl ?_ rfl | extract_lets | dsimp +zetaDelta only

theorem State.fallAsleep_in {x0 m s a} (h : Within m s a) (hs : 72057318992248831 &&& m = 72057318992248831) :
    Within m s (State.fallAsleep x0 a) := by
  refine Within.step (m := 72057318992248831) h ?_ hs
  unfold State.fallAsleep; extract_lets
  with_reducible repeat' first | exact .refl | refine .ite ?_ ?_ | refine State.setRet3_in ?_ rfl | refine State.loseRails_in ?_ rfl | refine State.coldWake_in ?_ rfl | refine Within.setFldAt ?_ PWR_STAT.CTRL_part rfl | refine Within.setFldAt ?_ PWR_STAT.STATE_part rfl | refine Within.modCtl ?_ rfl | refine Within.modPow ?_ rfl | extract_lets | dsimp +zetaDelta only

theorem State.recordWake_in {x0 m s a} (h : Within m s a) (hs : 8388608 &&& m = 8388608) :
    Within m s (State.recordWake x0 a) := by
  refine Within.step (m := 8388608) h ?_ hs
  unfold State.recordWake
  with_reducible repeat' first | exact .refl | refine State.setRet3_in ?_ rfl | refine Within.setFldAt ?_ AON_WAKE.CAUSE_part rfl

theorem State.completeEntry_in {m s a} (h : Within m s a) (hs : 72057318992248831 &&& m = 72057318992248831) :
    Within m s (State.completeEntry a) := by
  refine Within.step (m := 72057318992248831) h ?_ hs
  unfold State.completeEntry
  with_reducible repeat' first | exact .refl | refine .ite ?_ ?_ | refine State.assertEvent_in ?_ rfl | refine State.setRet3_in ?_ rfl | refine State.fallAsleep_in ?_ rfl | refine State.recordWake_in ?_ rfl | refine State.napWake_in ?_ rfl | refine Within.setFldAt ?_ (PWR_DOM.STATE_part ..) rfl | refine Within.putAt ?_ PWR_STAT.WAKEPEND_part rfl | refine Within.setFldAt ?_ PWR_STAT.CTRL_part rfl | refine Within.setFldAt ?_ PWR_STAT.STATE_part rfl | refine Within.setFldAt ?_ PWR_STAT.TARGET_part rfl | refine Within.modPow ?_ rfl | refine .each ?_ fun _ _ => ?_ | extract_lets | split | dsimp +zetaDelta only

theorem State.raisePme_in {m s a} (h : Within m s a) (hs : 12884901888 &&& m = 12884901888) :
    Within m s (State.raisePme a) := by
  refine Within.step (m := 12884901888) h ?_ hs
  unfold State.raisePme
  with_reducible repeat' first | exact .refl | refine .ite ?_ ?_ | refine State.modFn_in ?_ rfl | refine Within.modPci ?_ rfl | refine .each ?_ fun _ _ => ?_ | extract_lets | dsimp +zetaDelta only

theorem State.wakeSource_in {x0 m s a} (h : Within m s a) (hs : 5278219016142848 &&& m = 5278219016142848) :
    Within m s (State.wakeSource x0 a) := by
  refine Within.step (m := 5278219016142848) h ?_ hs
  unfold State.wakeSource; extract_lets
  with_reducible repeat' first | exact .refl | refine .ite ?_ ?_ | refine State.wakePending_in ?_ rfl | refine State.coldWake_in ?_ rfl | refine State.raisePme_in ?_ rfl | refine State.recordWake_in ?_ rfl | refine State.napWake_in ?_ rfl | refine Within.modPow ?_ rfl | extract_lets | dsimp +zetaDelta only

theorem State.refuseDomain_in {x0 x1 x2 m s a} (h : Within m s a) (hs : 5067099890319360 &&& m = 5067099890319360) :
    Within m s (State.refuseDomain x0 x1 x2 a) := by
  refine Within.step (m := 5067099890319360) h ?_ hs
  unfold State.refuseDomain
  with_reducible repeat' first | exact .refl | refine State.assertEvent_in ?_ rfl | refine Within.countAt ?_ (PWR_DCNT.REFUSALS_part ..) rfl | refine Within.setFldAt ?_ PWR_LAST.CODE_part rfl | refine Within.setFldAt ?_ PWR_LAST.DOMAIN_part rfl | refine Within.setFldAt ?_ PWR_LAST.MASTER_part rfl

theorem State.domainRequest_in {x0 x1 m s a} (h : Within m s a) (hs : 7327696870789121 &&& m = 7327696870789121) :
    Within m s (State.domainRequest x0 x1 a) := by
  refine Within.step (m := 7327696870789121) h ?_ hs
  unfold State.domainRequest
  with_reducible repeat' first | exact .refl | refine .ite ?_ ?_ | refine State.refuseDomain_in ?_ rfl | refine State.reclaimTubs_in ?_ rfl | refine State.leaseRefusal_in ?_ rfl | refine State.clearHalves_in ?_ rfl | refine Within.setFldAt ?_ (PWR_DOM.STATE_part ..) rfl | refine Within.setFldAt ?_ SYS_CORECTL.RUN_part rfl | extract_lets | dsimp +zetaDelta only

theorem State.enterIdle_in {m s a} (h : Within m s a) (hs : 5067099890253824 &&& m = 5067099890253824) :
    Within m s (State.enterIdle a) := by
  refine Within.step (m := 5067099890253824) h ?_ hs
  unfold State.enterIdle
  with_reducible repeat' first | exact .refl | refine .ite ?_ ?_ | refine State.pendEvent_in ?_ rfl | refine Within.setFldAt ?_ PWR_STAT.STATE_part rfl

theorem State.checkSensor_in {x0 x1 x2 m s a} (h : Within m s a) (hs : 5067099890384896 &&& m = 5067099890384896) :
    Within m s (State.checkSensor x0 x1 x2 a) := by
  refine Within.step (m := 5067099890384896) h ?_ hs
  unfold State.checkSensor; extract_lets
  with_reducible repeat' first | exact .refl | refine .ite ?_ ?_ | refine State.assertEvent_in ?_ rfl | refine Within.setFldAt ?_ (THM_SENS.DEV_part ..) rfl | refine Within.setFldAt ?_ THM_STAT.SUSPECT_part rfl

theorem State.hwThrottle_in {x0 m s a} (h : Within m s a) (hs : 140737488486400 &&& m = 140737488486400) :
    Within m s (State.hwThrottle x0 a) := by
  refine Within.step (m := 140737488486400) h ?_ hs
  unfold State.hwThrottle; extract_lets
  with_reducible repeat' first | exact .refl | refine .ite ?_ ?_ | refine Within.setFldAt ?_ THM_STAT.HWLEVEL_part rfl | refine Within.modPow ?_ rfl

theorem State.effLevel_in {m s a} (h : Within m s a) (hs : 5067099890384896 &&& m = 5067099890384896) :
    Within m s (State.effLevel a) := by
  refine Within.step (m := 5067099890384896) h ?_ hs
  unfold State.effLevel; extract_lets
  with_reducible repeat' first | exact .refl | refine .ite ?_ ?_ | refine State.assertEvent_in ?_ rfl | refine Within.setFldAt ?_ THM_STAT.LEVEL_part rfl

theorem State.readSensors_in {x0 m s a} (h : Within m s a) (hs : 7459645782360064 &&& m = 7459645782360064) :
    Within m s (State.readSensors x0 a) := by
  refine Within.step (m := 7459645782360064) h ?_ hs
  unfold State.readSensors; extract_lets
  with_reducible repeat' first | exact .refl | refine .ite ?_ ?_ | refine State.checkSensor_in ?_ rfl | refine State.effLevel_in ?_ rfl | refine State.raiseAen_in ?_ rfl | refine State.assertEvent_in ?_ rfl | refine State.assertIf_in ?_ rfl | refine State.hwThrottle_in ?_ rfl | refine Within.setFldAt ?_ THM_DEVT.TEMP_part rfl | refine Within.setFldAt ?_ (THM_SENS.TEMP_part ..) rfl | refine Within.modPow ?_ rfl | refine .each ?_ fun _ _ => ?_ | extract_lets | split | dsimp +zetaDelta only

theorem State.clearSuspects_in {m s a} (h : Within m s a) (hs : 131072 &&& m = 131072) :
    Within m s (State.clearSuspects a) := by
  refine Within.step (m := 131072) h ?_ hs
  unfold State.clearSuspects
  with_reducible repeat' first | exact .refl | refine Within.setFldAt ?_ (THM_SENS.DEV_part ..) rfl | refine Within.setFldAt ?_ THM_STAT.SUSPECT_part rfl | refine .each ?_ fun _ _ => ?_

theorem State.writeThmCtrl_in {x0 m s a} (h : Within m s a) (hs : 131072 &&& m = 131072) :
    Within m s (State.writeThmCtrl x0 a) := by
  refine Within.step (m := 131072) h ?_ hs
  unfold State.writeThmCtrl; extract_lets
  with_reducible repeat' first | exact .refl | refine .ite ?_ ?_ | refine State.clearSuspects_in ?_ rfl | refine Within.putAt ?_ THM_CTRL.NANDEN_part rfl

/-! Power.lean -/

theorem powerRequest_in {x0 x1 m s a} (h : Within m s a) (hs : 41241135523366944 &&& m = 41241135523366944) :
    Within m s (powerRequest x0 x1 a) := by
  refine Within.step (m := 41241135523366944) h ?_ hs
  unfold powerRequest
  with_reducible repeat' first | exact .refl | refine State.writePwrReq_in ?_ rfl | refine State.access_in ?_ (fun _ => ?_) rfl

theorem domainGate_in {x0 x1 m s a} (h : Within m s a) (hs : 7327696870789121 &&& m = 7327696870789121) :
    Within m s (domainGate x0 x1 a) := by
  refine Within.step (m := 7327696870789121) h ?_ hs
  unfold domainGate
  with_reducible repeat' first | exact .refl | refine State.domainRequest_in ?_ rfl | refine State.access_in ?_ (fun _ => ?_) rfl

theorem domainPowerDown_in {x0 x1 m s a} (h : Within m s a) (hs : 7327696870789121 &&& m = 7327696870789121) :
    Within m s (domainPowerDown x0 x1 a) := by
  refine Within.step (m := 7327696870789121) h ?_ hs
  unfold domainPowerDown
  with_reducible repeat' first | exact .refl | refine State.domainRequest_in ?_ rfl | refine State.access_in ?_ (fun _ => ?_) rfl

theorem domainPowerOn_in {x0 x1 m s a} (h : Within m s a) (hs : 7327696870789121 &&& m = 7327696870789121) :
    Within m s (domainPowerOn x0 x1 a) := by
  refine Within.step (m := 7327696870789121) h ?_ hs
  unfold domainPowerOn
  with_reducible repeat' first | exact .refl | refine State.domainRequest_in ?_ rfl | refine State.access_in ?_ (fun _ => ?_) rfl

theorem domainAnswer_in {x0 x1 m s a} (h : Within m s a) (hs : 5313390494957568 &&& m = 5313390494957568) :
    Within m s (domainAnswer x0 x1 a) := by
  refine Within.step (m := 5313390494957568) h ?_ hs
  unfold domainAnswer
  with_reducible repeat' first | exact .refl | refine State.answerDomain_in ?_ rfl

theorem domainDelayTimeout_in {x0 m s a} (h : Within m s a) (hs : 5278206122852352 &&& m = 5278206122852352) :
    Within m s (domainDelayTimeout x0 a) := by
  refine Within.step (m := 5278206122852352) h ?_ hs
  unfold domainDelayTimeout
  with_reducible repeat' first | exact .refl | refine State.answerLate_in ?_ rfl

theorem entryComplete_in {m s a} (h : Within m s a) (hs : 72057318992248831 &&& m = 72057318992248831) :
    Within m s (entryComplete a) := by
  refine Within.step (m := 72057318992248831) h ?_ hs
  unfold entryComplete
  with_reducible repeat' first | exact .refl | refine State.completeEntry_in ?_ rfl

theorem idleEntry_in {m s a} (h : Within m s a) (hs : 5067099890253824 &&& m = 5067099890253824) :
    Within m s (idleEntry a) := by
  refine Within.step (m := 5067099890253824) h ?_ hs
  unfold idleEntry
  with_reducible repeat' first | exact .refl | refine State.enterIdle_in ?_ rfl

theorem mainWake_in {m s a} (h : Within m s a) (hs : 5278219016142848 &&& m = 5278219016142848) :
    Within m s (mainWake a) := by
  refine Within.step (m := 5278219016142848) h ?_ hs
  unfold mainWake
  with_reducible repeat' first | exact .refl | refine .ite ?_ ?_ | refine State.wakeSource_in ?_ rfl | refine Within.modPow ?_ rfl

theorem rtcAlarm_in {m s a} (h : Within m s a) (hs : 5278219016142848 &&& m = 5278219016142848) :
    Within m s (rtcAlarm a) := by
  refine Within.step (m := 5278219016142848) h ?_ hs
  unfold rtcAlarm; extract_lets
  with_reducible repeat' first | exact .refl | refine .ite ?_ ?_ | refine State.wakeSource_in ?_ rfl | refine State.assertIf_in ?_ rfl | refine Within.setFldAt ?_ AON_RTC.COUNT_part rfl

theorem gpioWake_in {x0 m s a} (h : Within m s a) (hs : 6404118922985472 &&& m = 6404118922985472) :
    Within m s (gpioWake x0 a) := by
  refine Within.step (m := 6404118922985472) h ?_ hs
  unfold gpioWake
  with_reducible repeat' first | exact .refl | refine .ite ?_ ?_ | refine State.wakeSource_in ?_ rfl | (refine Within.modMgtRest ?_ ?_ ?_; rotate_left; with_unfolding_all (exact (fun _ => ⟨rfl, rfl, rfl, rfl⟩); rfl))

theorem esnexWakeFrame_in {m s a} (h : Within m s a) (hs : 5278219016142848 &&& m = 5278219016142848) :
    Within m s (esnexWakeFrame a) := by
  refine Within.step (m := 5278219016142848) h ?_ hs
  unfold esnexWakeFrame
  with_reducible repeat' first | exact .refl | refine .ite ?_ ?_ | refine State.wakeSource_in ?_ rfl

theorem thermalShutdown_in {m s a} (h : Within m s a) (hs : 72057593870155775 &&& m = 72057593870155775) :
    Within m s (thermalShutdown a) := by
  refine Within.step (m := 72057593870155775) h ?_ hs
  unfold thermalShutdown; extract_lets
  with_reducible repeat' first | exact .refl | refine .ite ?_ ?_ | refine State.fallOrDump_in ?_ rfl | refine State.noteError_in ?_ rfl | refine State.setRet3_in ?_ rfl | refine State.loseRails_in ?_ rfl | refine Within.setFldAt ?_ (AON_RET.WORD_part ..) rfl | refine Within.modCtl ?_ rfl | refine Within.modNv ?_ rfl | refine Within.modPow ?_ rfl

theorem thermalRestart_in {m s a} (h : Within m s a) (hs : 211106240923648 &&& m = 211106240923648) :
    Within m s (thermalRestart a) := by
  refine Within.step (m := 211106240923648) h ?_ hs
  unfold thermalRestart
  with_reducible repeat' first | exact .refl | refine .ite ?_ ?_ | refine State.toHld_in ?_ rfl | refine State.setRet3_in ?_ rfl | refine State.notWoken_in ?_ rfl | refine State.startStep2_in ?_ rfl | refine Within.modPow ?_ rfl

theorem suspclr_in {x0 m s a} (h : Within m s a) (hs : 553779200 &&& m = 553779200) :
    Within m s (suspclr x0 a) := by
  refine Within.step (m := 553779200) h ?_ hs
  unfold suspclr
  with_reducible repeat' first | exact .refl | refine State.clearSuspects_in ?_ rfl | refine State.access_in ?_ (fun _ => ?_) rfl

/-! DictOps.lean -/

theorem State.applyLow_in {x0 x1 x2 m s a} (h : Within m s a) (hs : 59607379913934882 &&& m = 59607379913934882) :
    Within m s (State.applyLow x0 x1 x2 a) := by
  refine Within.step (m := 59607379913934882) h ?_ hs
  unfold State.applyLow; extract_lets
  with_reducible repeat' first | exact .refl | refine State.setDict_in ?_ rfl | refine State.writeRequested_in ?_ rfl | refine State.writePeriod_in ?_ rfl | refine State.holdCheck_in ?_ rfl | refine State.writeSrc_in ?_ rfl | refine State.mirrorPowerUp_in ?_ rfl | refine Within.setFldAt ?_ (AON_RET.WORD_part ..) rfl | refine Within.setFldAt ?_ AON_WAKE.EN_part rfl | refine Within.setFldAt ?_ BEL_BUDGET.BUDGET_part rfl | refine Within.setFldAt ?_ BEL_BUDGET.RESERVE_part rfl | refine Within.setFldAt ?_ BEL_MASK.MASK_part rfl | refine Within.putAt ?_ BEL_STAT.MASK_PEND_part rfl | refine Within.putAt ?_ THM_CTRL.NANDEN_part rfl | refine Within.modBell ?_ rfl | split

theorem State.applyFn_in {x0 x1 x2 m s a} (h : Within m s a) (hs : 5348583456899104 &&& m = 5348583456899104) :
    Within m s (State.applyFn x0 x1 x2 a) := by
  refine Within.step (m := 5348583456899104) h ?_ hs
  unfold State.applyFn
  with_reducible repeat' first | exact .refl | refine .ite ?_ ?_ | refine State.setTail_in ?_ rfl | refine State.assertEvent_in ?_ rfl | refine State.checkOverlap_in ?_ rfl | refine State.refill_in ?_ rfl | refine State.modFn_in ?_ rfl | refine State.setCredit_in ?_ rfl | refine State.setDict_in ?_ rfl | extract_lets | dsimp +zetaDelta only

theorem State.applyMid_in {x0 x1 x2 m s a} (h : Within m s a) (hs : 281483566646408 &&& m = 281483566646408) :
    Within m s (State.applyMid x0 x1 x2 a) := by
  refine Within.step (m := 281483566646408) h ?_ hs
  unfold State.applyMid; extract_lets
  with_reducible repeat' first | exact .refl | refine .ite ?_ ?_ | refine State.loadGcfg_in ?_ rfl | refine State.setDict_in ?_ rfl | refine State.setDa_in ?_ rfl | refine Within.putAt ?_ MSH_CTRL.PATROL_EN_part rfl | extract_lets | split

theorem State.advanceSvn_in {m s a} (h : Within m s a) (hs : 35184372088832 &&& m = 35184372088832) :
    Within m s (State.advanceSvn a) := by
  refine Within.step (m := 35184372088832) h ?_ hs
  unfold State.advanceSvn
  with_reducible repeat' first | exact .refl | refine Within.modCip ?_ rfl

theorem State.applyHigh_in {x0 x1 x2 m s a} (h : Within m s a) (hs : 7635559052738560 &&& m = 7635559052738560) :
    Within m s (State.applyHigh x0 x1 x2 a) := by
  refine Within.step (m := 7635559052738560) h ?_ hs
  unfold State.applyHigh; extract_lets
  with_reducible repeat' first | exact .refl | refine .ite ?_ ?_ | refine State.advanceSvn_in ?_ rfl | refine State.setDict_in ?_ rfl | refine State.clearFirst_in ?_ rfl | refine State.clearLast_in ?_ rfl | refine State.requestSnap_in ?_ rfl | refine State.replaceKeys_in ?_ rfl | refine Within.modCip ?_ rfl | extract_lets | split

theorem State.closeSession_in {x0 m s a} (h : Within m s a) (hs : 6228184169185280 &&& m = 6228184169185280) :
    Within m s (State.closeSession x0 a) := by
  refine Within.step (m := 6228184169185280) h ?_ hs
  unfold State.closeSession
  with_reducible repeat' first | exact .refl | refine State.assertEvent_in ?_ rfl | refine Within.modCip ?_ rfl | (refine Within.modMgtRest ?_ ?_ ?_; rotate_left; with_unfolding_all (exact (fun _ => ⟨rfl, rfl, rfl, rfl⟩); rfl)) | split

theorem State.setCred_in {x0 x1 m s a} (h : Within m s a) (hs : 6228184169185280 &&& m = 6228184169185280) :
    Within m s (State.setCred x0 x1 a) := by
  refine Within.step (m := 6228184169185280) h ?_ hs
  unfold State.setCred; extract_lets
  with_reducible repeat' first | exact .refl | refine .ite ?_ ?_ | refine State.closeSession_in ?_ rfl | refine Within.modCip ?_ rfl | (refine Within.modMgtRest ?_ ?_ ?_; rotate_left; with_unfolding_all (exact (fun _ => ⟨rfl, rfl, rfl, rfl⟩); rfl)) | refine .each ?_ fun _ _ => ?_

theorem State.applyEntry_in {x0 x1 x2 m s a} (h : Within m s a) (hs : 63020272600481791 &&& m = 63020272600481791) :
    Within m s (State.applyEntry x0 x1 x2 a) := by
  refine Within.step (m := 63020272600481791) h ?_ hs
  unfold State.applyEntry
  with_reducible repeat' first | exact .refl | refine .ite ?_ ?_ | refine State.applyLow_in ?_ rfl | refine State.writeBank_in ?_ rfl | refine State.applyFn_in ?_ rfl | refine State.setDict_in ?_ rfl | refine State.applyMid_in ?_ rfl | refine State.setCred_in ?_ rfl | refine State.applyHigh_in ?_ rfl | refine State.setDa_in ?_ rfl | refine Within.setFldAny ?_ rfl | split

theorem State.startRecord_in {m s a} (h : Within m s a) (hs : 1125899906842624 &&& m = 1125899906842624) :
    Within m s (State.startRecord a) := by
  refine Within.step (m := 1125899906842624) h ?_ hs
  unfold State.startRecord; extract_lets
  with_reducible repeat' first | exact .refl | refine .ite ?_ ?_ | (refine Within.modMgtRest ?_ ?_ ?_; rotate_left; with_unfolding_all (exact (fun _ => ⟨rfl, rfl, rfl, rfl⟩); rfl))

theorem State.holdAnswer_in {x0 x1 m s a} (h : Within m s a) (hs : 1125899906842624 &&& m = 1125899906842624) :
    Within m s (State.holdAnswer x0 x1 a) := by
  refine Within.step (m := 1125899906842624) h ?_ hs
  unfold State.holdAnswer; extract_lets
  with_reducible repeat' first | exact .refl | refine State.startRecord_in ?_ rfl | (refine Within.modMgtRest ?_ ?_ ?_; rotate_left; with_unfolding_all (exact (fun _ => ⟨rfl, rfl, rfl, rfl⟩); rfl))

theorem State.dictApply_in {x0 x1 x2 m s a} (h : Within m s a) (hs : 63020272600481791 &&& m = 63020272600481791) :
    Within m s (State.dictApply x0 x1 x2 a) := by
  refine Within.step (m := 63020272600481791) h ?_ hs
  unfold State.dictApply
  with_reducible repeat' first | exact .refl | refine State.applyEntry_in ?_ rfl | refine State.assertIf_in ?_ rfl

theorem State.allocError_in {m s a} (h : Within m s a) (hs : 5067099890253832 &&& m = 5067099890253832) :
    Within m s (State.allocError a) := by
  refine Within.step (m := 5067099890253832) h ?_ hs
  unfold State.allocError
  with_reducible repeat' first | exact .refl | refine State.assertEvent_in ?_ rfl | refine Within.putAt ?_ HFE_STAT.ALLOCERR_part rfl

theorem State.valueRefused_in {x0 x1 x2 m s a} (h : Within m s a) (hs : 5067099890253832 &&& m = 5067099890253832) :
    Within m s (State.valueRefused x0 x1 x2 a) := by
  refine Within.step (m := 5067099890253832) h ?_ hs
  unfold State.valueRefused; extract_lets
  with_reducible repeat' first | exact .refl | refine .ite ?_ ?_ | refine State.assertEvent_in ?_ rfl | refine State.allocError_in ?_ rfl | extract_lets | split | dsimp +zetaDelta only

theorem State.loadRecord_in {x0 m s a} (h : Within m s a) (hs : 63020276895449087 &&& m = 63020276895449087) :
    Within m s (State.loadRecord x0 a) := by
  refine Within.step (m := 63020276895449087) h ?_ hs
  unfold State.loadRecord; extract_lets
  with_reducible repeat' first | exact .refl | refine .ite ?_ ?_ | refine State.modPort_in ?_ rfl | refine State.mirrorPowerUp_in ?_ rfl | refine State.modFn_in ?_ rfl | refine State.setCoord_in ?_ rfl | refine State.setDict_in ?_ rfl | refine State.applyEntry_in ?_ rfl | refine Within.putAt ?_ BEL_STAT.MASK_PEND_part rfl | refine Within.putAt ?_ MSH_CTRL.PATROL_EN_part rfl | refine Within.setFldAt ?_ (AON_RET.WORD_part ..) rfl | (refine Within.modMgtRest ?_ ?_ ?_; rotate_left; with_unfolding_all (exact (fun _ => ⟨rfl, rfl, rfl, rfl⟩); rfl)) | refine .each ?_ fun _ _ => ?_ | refine .foldl ?_ fun _ _ => ?_ | extract_lets | dsimp +zetaDelta only

theorem State.loadConfig_in {m s a} (h : Within m s a) (hs : 63020276895449087 &&& m = 63020276895449087) :
    Within m s (State.loadConfig a) := by
  refine Within.step (m := 63020276895449087) h ?_ hs
  unfold State.loadConfig; extract_lets
  with_reducible repeat' first | exact .refl | refine .ite ?_ ?_ | refine State.loadRecord_in ?_ rfl | refine State.startRecord_in ?_ rfl | refine State.assertEvent_in ?_ rfl | refine Within.setFldAt ?_ MGT_STAT.CFG_part rfl | (refine Within.modMgtRest ?_ ?_ ?_; rotate_left; with_unfolding_all (exact (fun _ => ⟨rfl, rfl, rfl, rfl⟩); rfl))

/-! EsnexOps.lean -/

theorem State.dictPut_in {x0 x1 x2 x3 x4 m s a} (h : Within m s a) (hs : 63020272600481791 &&& m = 63020272600481791) :
    Within m s (State.dictPut x0 x1 x2 x3 x4 a).2 := by
  refine Within.step (m := 63020272600481791) h ?_ hs
  unfold State.dictPut; extract_lets
  with_reducible repeat' first | exact .refl | refine .ite ?_ ?_ | refine State.dictApply_in ?_ rfl | refine State.valueRefused_in ?_ rfl | extract_lets | split | dsimp +zetaDelta only
theorem State.dictPut_in_eq {x0 x1 x2 x3 x4} {m s a t v} (e : State.dictPut x0 x1 x2 x3 x4 a = (v, t)) (h : Within m s a) (hs : 63020272600481791 &&& m = 63020272600481791) : Within m s t := by
  have k := State.dictPut_in (x0 := x0) (x1 := x1) (x2 := x2) (x3 := x3) (x4 := x4) h hs
  rw [e] at k; exact k

theorem State.answerFreq_in {x0 m s a} (h : Within m s a) (hs : 262144 &&& m = 262144) :
    Within m s (State.answerFreq x0 a) := by
  refine Within.step (m := 262144) h ?_ hs
  unfold State.answerFreq
  with_reducible repeat' first | exact .refl | refine Within.putAt ?_ MGT_FREQ.DONE_part rfl | refine Within.setFldAt ?_ MGT_FRES.ABORT_part rfl

theorem State.setFdata_in {x0 m s a} (h : Within m s a) (hs : 1125899906842624 &&& m = 1125899906842624) :
    Within m s (State.setFdata x0 a) := by
  refine Within.step (m := 1125899906842624) h ?_ hs
  unfold State.setFdata
  with_reducible repeat' first | exact .refl | (refine Within.modMgtRest ?_ ?_ ?_; rotate_left; with_unfolding_all (exact (fun _ => ⟨rfl, rfl, rfl, rfl⟩); rfl))

theorem State.freqRead_in {x0 x1 x2 m s a} (h : Within m s a) (hs : 1125899907104768 &&& m = 1125899907104768) :
    Within m s (State.freqRead x0 x1 x2 a) := by
  refine Within.step (m := 1125899907104768) h ?_ hs
  unfold State.freqRead; extract_lets
  with_reducible repeat' first | exact .refl | refine .ite ?_ ?_ | refine State.answerFreq_in ?_ rfl | refine State.setFdata_in ?_ rfl | refine Within.setFldAt ?_ MGT_FLEN.SIZE_part rfl | refine Within.setFldAt ?_ MGT_FLEN.TYPE_part rfl

theorem State.freqWrite_in {x0 x1 x2 m s a} (h : Within m s a) (hs : 63020272600481791 &&& m = 63020272600481791) :
    Within m s (State.freqWrite x0 x1 x2 a) := by
  refine Within.step (m := 63020272600481791) h ?_ hs
  unfold State.freqWrite; extract_lets
  with_reducible repeat' first | exact .refl | refine .ite ?_ ?_ | refine State.holdAnswer_in ?_ rfl | refine State.dictPut_in ?_ rfl | refine State.answerFreq_in ?_ rfl | refine Within.putAt ?_ MGT_FREQ.DONE_part rfl

theorem State.writeFreq_in {x0 x1 m s a} (h : Within m s a) (hs : 63020272600481791 &&& m = 63020272600481791) :
    Within m s (State.writeFreq x0 x1 a) := by
  refine Within.step (m := 63020272600481791) h ?_ hs
  unfold State.writeFreq; extract_lets
  with_reducible repeat' first | exact .refl | refine .ite ?_ ?_ | refine State.freqRead_in ?_ rfl | refine State.freqWrite_in ?_ rfl | refine State.answerFreq_in ?_ rfl | refine Within.setFldAt ?_ MGT_FREQ.INDEX_part rfl | refine Within.setFldAt ?_ MGT_FREQ.OP_part rfl | refine Within.setFldAt ?_ MGT_FREQ.SUB_part rfl

theorem State.sendEsnex_in {x0 x1 m s a} (h : Within m s a) (hs : 6228184169185280 &&& m = 6228184169185280) :
    Within m s (State.sendEsnex x0 x1 a) := by
  refine Within.step (m := 6228184169185280) h ?_ hs
  unfold State.sendEsnex; extract_lets
  with_reducible repeat' first | exact .refl | refine .ite ?_ ?_ | refine State.closeSession_in ?_ rfl | refine State.nextIv_in ?_ rfl | refine State.nextIv_in_eq ‹_› ?_ rfl | (refine Within.modMgtRest ?_ ?_ ?_; rotate_left; with_unfolding_all (exact (fun _ => ⟨rfl, rfl, rfl, rfl⟩); rfl)) | extract_lets | split | dsimp +zetaDelta only

theorem State.dropFrame_in {m s a} (h : Within m s a) (hs : 262144 &&& m = 262144) :
    Within m s (State.dropFrame a) := by
  refine Within.step (m := 262144) h ?_ hs
  unfold State.dropFrame
  with_reducible repeat' first | exact .refl | refine Within.countAt ?_ MGT_NETCNT.DROPPED_part rfl

theorem State.refuseFrame_in {x0 x1 x2 m s a} (h : Within m s a) (hs : 6228184169185280 &&& m = 6228184169185280) :
    Within m s (State.refuseFrame x0 x1 x2 a) := by
  refine Within.step (m := 6228184169185280) h ?_ hs
  unfold State.refuseFrame; extract_lets
  with_reducible repeat' first | exact .refl | refine State.sendEsnex_in ?_ rfl

theorem State.authFrame_in {x0 m s a} (h : Within m s a) (hs : 6509659146158080 &&& m = 6509659146158080) :
    Within m s (State.authFrame x0 a).2 := by
  refine Within.step (m := 6509659146158080) h ?_ hs
  unfold State.authFrame; extract_lets
  with_reducible repeat' first | exact .refl | refine .ite ?_ ?_ | refine State.setDict_in ?_ rfl | refine State.closeSession_in ?_ rfl | refine State.assertEvent_in ?_ rfl | refine Within.countAt ?_ MGT_SESCNT.TAGFAIL_part rfl | (refine Within.modMgtRest ?_ ?_ ?_; rotate_left; with_unfolding_all (exact (fun _ => ⟨rfl, rfl, rfl, rfl⟩); rfl)) | extract_lets | split
theorem State.authFrame_in_eq {x0} {m s a t v} (e : State.authFrame x0 a = (v, t)) (h : Within m s a) (hs : 6509659146158080 &&& m = 6509659146158080) : Within m s t := by
  have k := State.authFrame_in (x0 := x0) h hs
  rw [e] at k; exact k

theorem State.fullFrame_in {m s a} (h : Within m s a) (hs : 6192999797358592 &&& m = 6192999797358592) :
    Within m s (State.fullFrame a) := by
  refine Within.step (m := 6192999797358592) h ?_ hs
  unfold State.fullFrame
  with_reducible repeat' first | exact .refl | refine State.dropFrame_in ?_ rfl | refine State.assertIf_in ?_ rfl | (refine Within.modMgtRest ?_ ?_ ?_; rotate_left; with_unfolding_all (exact (fun _ => ⟨rfl, rfl, rfl, rfl⟩); rfl))

theorem State.finishFrame_in {x0 : Esnex} {x1 : Nat} {r : DAnswer × State} {m : Nat} {s : State} (h : Within m s r.2)
    (hs : 6228184169447424 &&& m = 6228184169447424) : Within m s (State.finishFrame x0 x1 r) := by
  unfold State.finishFrame
  try dsimp only
  refine Within.ite ?_ (Within.ite ?_ ?_)
  · exact State.holdAnswer_in h (sub_trans (by decide) hs)
  · exact State.sendEsnex_in (State.fullFrame_in h (sub_trans (by decide) hs)) (sub_trans (by decide) hs)
  · exact State.sendEsnex_in h (sub_trans (by decide) hs)

theorem State.frameNew_in {x0 : Esnex} {x1 : Nat} {f : DPath → State → DAnswer × State} {m : Nat} {s a : State} (h : Within m s a)
    (hf : ∀ p b, Within m b (f p b).2) (hs : 6509659146158080 &&& m = 6509659146158080) : Within m s (State.frameNew x0 x1 f a) := by
  have fin : ∀ (r : DAnswer × State), Within m s r.2 → Within m s (State.finishFrame x0 x1 r) := fun r hr =>
    State.finishFrame_in hr (sub_trans (by decide) hs)
  unfold State.frameNew
  try dsimp only
  split
  · exact State.refuseFrame_in h (sub_trans (by decide) hs)
  · split
    · exact State.refuseFrame_in h (sub_trans (by decide) hs)
    · split
      · have h1 := State.authFrame_in (x0 := x0) h (sub_trans (by decide) hs)
        split
        · exact State.refuseFrame_in h1 (sub_trans (by decide) hs)
        · exact fin _ (h1.trans (hf _ _))
      · exact fin _ (h.trans (hf _ _))

theorem State.frame_in {x0 : Esnex} {x1 : Nat} {f : DPath → State → DAnswer × State} {m : Nat} {s a : State} (h : Within m s a)
    (hf : ∀ p b, Within m b (f p b).2) (hs : 6509659146158080 &&& m = 6509659146158080) : Within m s (State.frame x0 x1 f a) := by
  have drop : Within m s a.dropFrame := State.dropFrame_in h (sub_trans (by decide) hs)
  have auth : Within m s (a.authFrame x0).2 := State.authFrame_in h (sub_trans (by decide) hs)
  unfold State.frame
  extract_lets op key
  refine Within.ite h (Within.ite (Within.ite (Within.ite (Within.ite (auth.trans (hf _ _)) auth) (h.trans (hf _ _))) drop) (Within.ite drop (Within.ite drop ?_)))
  split
  · exact h.step (m := 6509659146158080) (Within.modMgtRest Within.refl (fun _ => ⟨rfl, rfl, rfl, rfl⟩) rfl) hs
  · exact State.frameNew_in h hf (sub_trans (by decide) hs)

theorem State.runRead_in {x0 x1 x2 m s a} (h : Within m s a) (hs : 0 &&& m = 0) :
    Within m s (State.runRead x0 x1 x2 a).2 := by
  refine Within.step (m := 0) h ?_ hs
  unfold State.runRead; extract_lets
  with_reducible repeat' first | exact .refl | split
theorem State.runRead_in_eq {x0 x1 x2} {m s a t v} (e : State.runRead x0 x1 x2 a = (v, t)) (h : Within m s a) (hs : 0 &&& m = 0) : Within m s t := by
  have k := State.runRead_in (x0 := x0) (x1 := x1) (x2 := x2) h hs
  rw [e] at k; exact k

theorem State.runWrite_in {x0 x1 x2 x3 x4 m s a} (h : Within m s a) (hs : 63020272600481791 &&& m = 63020272600481791) :
    Within m s (State.runWrite x0 x1 x2 x3 x4 a).2 := by
  refine Within.step (m := 63020272600481791) h ?_ hs
  unfold State.runWrite; extract_lets
  with_reducible repeat' first | exact .refl | refine State.dictPut_in ?_ rfl
theorem State.runWrite_in_eq {x0 x1 x2 x3 x4} {m s a t v} (e : State.runWrite x0 x1 x2 x3 x4 a = (v, t)) (h : Within m s a) (hs : 63020272600481791 &&& m = 63020272600481791) : Within m s t := by
  have k := State.runWrite_in (x0 := x0) (x1 := x1) (x2 := x2) (x3 := x3) (x4 := x4) h hs
  rw [e] at k; exact k

theorem State.runReadBlock_in {x0 x1 x2 x3 x4 m s a} (h : Within m s a) (hs : 0 &&& m = 0) :
    Within m s (State.runReadBlock x0 x1 x2 x3 x4 a).2 := by
  refine Within.step (m := 0) h ?_ hs
  unfold State.runReadBlock; extract_lets
  with_reducible repeat' first | exact .refl | split
theorem State.runReadBlock_in_eq {x0 x1 x2 x3 x4} {m s a t v} (e : State.runReadBlock x0 x1 x2 x3 x4 a = (v, t)) (h : Within m s a) (hs : 0 &&& m = 0) : Within m s t := by
  have k := State.runReadBlock_in (x0 := x0) (x1 := x1) (x2 := x2) (x3 := x3) (x4 := x4) h hs
  rw [e] at k; exact k

theorem State.dropStage_in {x0 m s a} (h : Within m s a) (hs : 1125899906842624 &&& m = 1125899906842624) :
    Within m s (State.dropStage x0 a) := by
  refine Within.step (m := 1125899906842624) h ?_ hs
  unfold State.dropStage
  with_reducible repeat' first | exact .refl | (refine Within.modMgtRest ?_ ?_ ?_; rotate_left; with_unfolding_all (exact (fun _ => ⟨rfl, rfl, rfl, rfl⟩); rfl))

theorem State.runWriteBlock_in {x0 x1 x2 x3 x4 x5 x6 m s a} (h : Within m s a) (hs : 63020272600481791 &&& m = 63020272600481791) :
    Within m s (State.runWriteBlock x0 x1 x2 x3 x4 x5 x6 a).2 := by
  refine Within.step (m := 63020272600481791) h ?_ hs
  unfold State.runWriteBlock; extract_lets
  with_reducible repeat' first | exact .refl | refine State.dictPut_in ?_ rfl | refine State.dropStage_in ?_ rfl | (refine Within.modMgtRest ?_ ?_ ?_; rotate_left; with_unfolding_all (exact (fun _ => ⟨rfl, rfl, rfl, rfl⟩); rfl)) | split
theorem State.runWriteBlock_in_eq {x0 x1 x2 x3 x4 x5 x6} {m s a t v} (e : State.runWriteBlock x0 x1 x2 x3 x4 x5 x6 a = (v, t)) (h : Within m s a) (hs : 63020272600481791 &&& m = 63020272600481791) : Within m s t := by
  have k := State.runWriteBlock_in (x0 := x0) (x1 := x1) (x2 := x2) (x3 := x3) (x4 := x4) (x5 := x5) (x6 := x6) h hs
  rw [e] at k; exact k

theorem State.runSnapshot_in {x0 m s a} (h : Within m s a) (hs : 2251799813685248 &&& m = 2251799813685248) :
    Within m s (State.runSnapshot x0 a).2 := by
  refine Within.step (m := 2251799813685248) h ?_ hs
  unfold State.runSnapshot; extract_lets
  with_reducible repeat' first | exact .refl | refine State.requestSnap_in ?_ rfl | split
theorem State.runSnapshot_in_eq {x0} {m s a t v} (e : State.runSnapshot x0 a = (v, t)) (h : Within m s a) (hs : 2251799813685248 &&& m = 2251799813685248) : Within m s t := by
  have k := State.runSnapshot_in (x0 := x0) h hs
  rw [e] at k; exact k

theorem State.refuseSession_in {x0 m s a} (h : Within m s a) (hs : 5067099890515968 &&& m = 5067099890515968) :
    Within m s (State.refuseSession x0 a).2 := by
  refine Within.step (m := 5067099890515968) h ?_ hs
  unfold State.refuseSession
  with_reducible repeat' first | exact .refl | refine State.assertEvent_in ?_ rfl | refine Within.countAt ?_ MGT_SESCNT.REFUSED_part rfl
theorem State.refuseSession_in_eq {x0} {m s a t v} (e : State.refuseSession x0 a = (v, t)) (h : Within m s a) (hs : 5067099890515968 &&& m = 5067099890515968) : Within m s t := by
  have k := State.refuseSession_in (x0 := x0) h hs
  rw [e] at k; exact k

theorem State.runOpen_in {x0 x1 x2 x3 m s a} (h : Within m s a) (hs : 6228184169447424 &&& m = 6228184169447424) :
    Within m s (State.runOpen x0 x1 x2 x3 a).2 := by
  refine Within.step (m := 6228184169447424) h ?_ hs
  unfold State.runOpen; extract_lets
  with_reducible repeat' first | exact .refl | refine State.assertEvent_in ?_ rfl | refine State.refuseSession_in ?_ rfl | refine State.nextIv_in ?_ rfl | refine State.closeSession_in ?_ rfl | refine Within.modCip ?_ rfl | (refine Within.modMgtRest ?_ ?_ ?_; rotate_left; with_unfolding_all (exact (fun _ => ⟨rfl, rfl, rfl, rfl⟩); rfl)) | extract_lets | split
theorem State.runOpen_in_eq {x0 x1 x2 x3} {m s a t v} (e : State.runOpen x0 x1 x2 x3 a = (v, t)) (h : Within m s a) (hs : 6228184169447424 &&& m = 6228184169447424) : Within m s t := by
  have k := State.runOpen_in (x0 := x0) (x1 := x1) (x2 := x2) (x3 := x3) h hs
  rw [e] at k; exact k

theorem State.runClose_in {x0 m s a} (h : Within m s a) (hs : 0 &&& m = 0) :
    Within m s (State.runClose x0 a).2 := by
  refine Within.step (m := 0) h ?_ hs
  unfold State.runClose
  with_reducible repeat' first | exact .refl | split
theorem State.runClose_in_eq {x0} {m s a t v} (e : State.runClose x0 a = (v, t)) (h : Within m s a) (hs : 0 &&& m = 0) : Within m s t := by
  have k := State.runClose_in (x0 := x0) h hs
  rw [e] at k; exact k

theorem State.deliverHeld_in {x0 x1 m s a} (h : Within m s a) (hs : 44519887787529248 &&& m = 44519887787529248) :
    Within m s (State.deliverHeld x0 x1 a) := by
  refine Within.step (m := 44519887787529248) h ?_ hs
  unfold State.deliverHeld; extract_lets
  with_reducible repeat' first | exact .refl | refine .ite ?_ ?_ | refine State.settle_in ?_ rfl | refine State.answerFreq_in ?_ rfl | refine State.modCmd_in ?_ rfl | refine State.sendEsnex_in ?_ rfl | (refine Within.modMgtRest ?_ ?_ ?_; rotate_left; with_unfolding_all (exact (fun _ => ⟨rfl, rfl, rfl, rfl⟩); rfl))

theorem State.recordEnded_in {x0 x1 m s a} (h : Within m s a) (hs : 44519887787529248 &&& m = 44519887787529248) :
    Within m s (State.recordEnded x0 x1 a) := by
  refine Within.step (m := 44519887787529248) h ?_ hs
  unfold State.recordEnded; extract_lets
  with_reducible repeat' first | exact .refl | refine .ite ?_ ?_ | refine State.startRecord_in ?_ rfl | refine State.assertEvent_in ?_ rfl | refine State.deliverHeld_in ?_ rfl | (refine Within.modMgtRest ?_ ?_ ?_; rotate_left; with_unfolding_all (exact (fun _ => ⟨rfl, rfl, rfl, rfl⟩); rfl)) | refine .each ?_ fun _ _ => ?_

theorem State.recordDone_in {m s a} (h : Within m s a) (hs : 44519887787529248 &&& m = 44519887787529248) :
    Within m s (State.recordDone a) := by
  refine Within.step (m := 44519887787529248) h ?_ hs
  unfold State.recordDone
  with_reducible repeat' first | exact .refl | refine .ite ?_ ?_ | refine State.recordEnded_in ?_ rfl | (refine Within.modMgtRest ?_ ?_ ?_; rotate_left; with_unfolding_all (exact (fun _ => ⟨rfl, rfl, rfl, rfl⟩); rfl)) | extract_lets | split | dsimp +zetaDelta only

theorem State.recordFailed_in {x0 m s a} (h : Within m s a) (hs : 44519887787529248 &&& m = 44519887787529248) :
    Within m s (State.recordFailed x0 a) := by
  refine Within.step (m := 44519887787529248) h ?_ hs
  unfold State.recordFailed
  with_reducible repeat' first | exact .refl | refine .ite ?_ ?_ | refine State.recordEnded_in ?_ rfl | (refine Within.modMgtRest ?_ ?_ ?_; rotate_left; with_unfolding_all (exact (fun _ => ⟨rfl, rfl, rfl, rfl⟩); rfl)) | extract_lets | split | dsimp +zetaDelta only

theorem State.sendMi_in {x0 x1 x2 m s a} (h : Within m s a) (hs : 1125899906842624 &&& m = 1125899906842624) :
    Within m s (State.sendMi x0 x1 x2 a) := by
  refine Within.step (m := 1125899906842624) h ?_ hs
  unfold State.sendMi
  with_reducible repeat' first | exact .refl | refine .ite ?_ ?_ | (refine Within.modMgtRest ?_ ?_ ?_; rotate_left; with_unfolding_all (exact (fun _ => ⟨rfl, rfl, rfl, rfl⟩); rfl))

/-! Recorder.lean -/

theorem snapWrite_in {x0 x1 m s a} (h : Within m s a) (hs : 2251800367333376 &&& m = 2251800367333376) :
    Within m s (snapWrite x0 x1 a) := by
  refine Within.step (m := 2251800367333376) h ?_ hs
  unfold snapWrite
  with_reducible repeat' first | exact .refl | refine .ite ?_ ?_ | refine State.access_in ?_ (fun _ => ?_) rfl | refine State.requestSnap_in ?_ rfl

theorem State.readTally_in {x0 m s a} (h : Within m s a) (hs : 1610612736 &&& m = 1610612736) :
    Within m s (State.readTally x0 a) := by
  refine Within.step (m := 1610612736) h ?_ hs
  unfold State.readTally; extract_lets
  with_reducible repeat' first | exact .refl | refine State.returnPair_in ?_ rfl | (refine Within.modBusRest ?_ ?_ ?_; rotate_left; with_unfolding_all (exact (fun _ => ⟨rfl, rfl, rfl⟩); rfl))

theorem tallyValueRead_in {x0 m s a} (h : Within m s a) (hs : 1627389952 &&& m = 1627389952) :
    Within m s (tallyValueRead x0 a) := by
  refine Within.step (m := 1627389952) h ?_ hs
  unfold tallyValueRead
  with_reducible repeat' first | exact .refl | refine State.readTally_in ?_ rfl | refine State.access_in ?_ (fun _ => ?_) rfl

theorem State.writeTrig_in {x0 m s a} (h : Within m s a) (hs : 4504149936832512 &&& m = 4504149936832512) :
    Within m s (State.writeTrig x0 a) := by
  refine Within.step (m := 4504149936832512) h ?_ hs
  unfold State.writeTrig; extract_lets
  with_reducible repeat' first | exact .refl | refine .ite ?_ ?_ | refine State.fire_in ?_ rfl | refine .each ?_ fun _ _ => ?_

theorem softTrigger_in {x0 x1 m s a} (h : Within m s a) (hs : 4504149936832512 &&& m = 4504149936832512) :
    Within m s (softTrigger x0 x1 a) := by
  refine Within.step (m := 4504149936832512) h ?_ hs
  unfold softTrigger
  with_reducible repeat' first | exact .refl | refine State.writeTrig_in ?_ rfl | refine State.access_in ?_ (fun _ => ?_) rfl

theorem State.writeEvrCtrl_in {x0 m s a} (h : Within m s a) (hs : 4504149400485888 &&& m = 4504149400485888) :
    Within m s (State.writeEvrCtrl x0 a) := by
  refine Within.step (m := 4504149400485888) h ?_ hs
  unfold State.writeEvrCtrl; extract_lets
  with_reducible repeat' first | exact .refl | refine .ite ?_ ?_ | refine State.stepCursor_in ?_ rfl | refine State.startFlush_in ?_ rfl | refine State.clearLast_in ?_ rfl | refine Within.putAt ?_ EVR_CTRL.EN_part rfl

theorem recorderFlush_in {x0 x1 m s a} (h : Within m s a) (hs : 4504149937356800 &&& m = 4504149937356800) :
    Within m s (recorderFlush x0 x1 a) := by
  refine Within.step (m := 4504149937356800) h ?_ hs
  unfold recorderFlush
  with_reducible repeat' first | exact .refl | refine State.writeEvrCtrl_in ?_ rfl | refine State.access_in ?_ (fun _ => ?_) rfl

theorem recorderFlushTimer_in {m s a} (h : Within m s a) (hs : 4504149399961600 &&& m = 4504149399961600) :
    Within m s (recorderFlushTimer a) := by
  refine Within.step (m := 4504149399961600) h ?_ hs
  unfold recorderFlushTimer
  with_reducible repeat' first | exact .refl | refine .ite ?_ ?_ | refine State.startFlush_in ?_ rfl

theorem State.writeCursor_in {x0 x1 m s a} (h : Within m s a) (hs : 1074266112 &&& m = 1074266112) :
    Within m s (State.writeCursor x0 x1 a) := by
  refine Within.step (m := 1074266112) h ?_ hs
  unfold State.writeCursor; extract_lets
  with_reducible repeat' first | exact .refl | refine State.unstage_in ?_ rfl | refine State.startFetch_in ?_ rfl | refine Within.setFldAt ?_ EVR_CUR.SEQ_part rfl

theorem recordFetch_in {x0 x1 m s a} (h : Within m s a) (hs : 1627914240 &&& m = 1627914240) :
    Within m s (recordFetch x0 x1 a) := by
  refine Within.step (m := 1627914240) h ?_ hs
  unfold recordFetch
  with_reducible repeat' first | exact .refl | refine State.writeCursor_in ?_ rfl | refine State.access_in ?_ (fun _ => ?_) rfl

theorem recordFetchDone_in {x0 m s a} (h : Within m s a) (hs : 524288 &&& m = 524288) :
    Within m s (recordFetchDone x0 a) := by
  refine Within.step (m := 524288) h ?_ hs
  unfold recordFetchDone
  with_reducible repeat' first | exact .refl | refine .ite ?_ ?_ | refine State.endFetch_in ?_ rfl

theorem stepWrite_in {x0 x1 m s a} (h : Within m s a) (hs : 4504149937356800 &&& m = 4504149937356800) :
    Within m s (stepWrite x0 x1 a) := by
  refine Within.step (m := 4504149937356800) h ?_ hs
  unfold stepWrite
  with_reducible repeat' first | exact .refl | refine State.writeEvrCtrl_in ?_ rfl | refine State.access_in ?_ (fun _ => ?_) rfl

theorem clrlast_in {x0 x1 m s a} (h : Within m s a) (hs : 4504149937356800 &&& m = 4504149937356800) :
    Within m s (clrlast x0 x1 a) := by
  refine Within.step (m := 4504149937356800) h ?_ hs
  unfold clrlast
  with_reducible repeat' first | exact .refl | refine State.writeEvrCtrl_in ?_ rfl | refine State.access_in ?_ (fun _ => ?_) rfl

end Sys2Proof.Machine
end

