-- ==== Sys2Proof/Laws/Frames4.lean ====
section
/-! SUPPORT. Laws/Frames4.lean: which parts of the state each operation of Machine/CtlLoad, Control, NsOps, LogOps, AdmOps, ArbOps, FrontEnd, Link, Mechanisms, TestRows, NvmeIo, NvmeAdmin, Pipeline, Mi, Network, Zones, Media, Bell, BusWrite, Bus, Tick may change (see Machine/Frame.lean); a generated list, one lemma an operation. -/

namespace Sys2Proof.Machine

/-! CtlLoad.lean -/

theorem State.toStep_in {x0 m s a} (h : Within m s a) (hs : 1 &&& m = 1) :
    Within m s (State.toStep x0 a) := by
  refine Within.step (m := 1) h ?_ hs
  unfold State.toStep
  with_reducible repeat' first | exact .refl | refine Within.setFldAt ?_ SYS_BOOTPHASE.STEP_part rfl

theorem State.incompleteDump_in {m s a} (h : Within m s a) (hs : 43347774032316416 &&& m = 43347774032316416) :
    Within m s (State.incompleteDump a) := by
  refine Within.step (m := 43347774032316416) h ?_ hs
  unfold State.incompleteDump; extract_lets
  with_reducible repeat' first | exact .refl | refine .ite ?_ ?_ | refine State.criticalWarning_in ?_ rfl | refine State.assertEvent_in ?_ rfl | refine Within.putAt ?_ HLD_DUMP.INCOMPLETE_part rfl | refine Within.modNv ?_ rfl

theorem State.loadSplit_in {m s a} (h : Within m s a) (hs : 36028797018968064 &&& m = 36028797018968064) :
    Within m s (State.loadSplit a) := by
  refine Within.step (m := 36028797018968064) h ?_ hs
  unfold State.loadSplit; extract_lets
  with_reducible repeat' first | exact .refl | refine .ite ?_ ?_ | refine Within.setFldAt ?_ TUB_SPLIT.P_part rfl | refine Within.modNv ?_ rfl

theorem State.startWatchdog_in {x0 m s a} (h : Within m s a) (hs : 9007199256838144 &&& m = 9007199256838144) :
    Within m s (State.startWatchdog x0 a) := by
  refine Within.step (m := 9007199256838144) h ?_ hs
  unfold State.startWatchdog; extract_lets
  with_reducible repeat' first | exact .refl | refine Within.setFldAt ?_ (SAF_WDOG.TIMEOUT_part ..) rfl | refine Within.modSaf ?_ rfl

theorem State.startCore_in {x0 x1 m s a} (h : Within m s a) (hs : 9077568001015809 &&& m = 9077568001015809) :
    Within m s (State.startCore x0 x1 a) := by
  refine Within.step (m := 9077568001015809) h ?_ hs
  unfold State.startCore
  with_reducible repeat' first | exact .refl | refine State.startWatchdog_in ?_ rfl | refine Within.setFldAt ?_ SYS_CORECTL.RUN_part rfl | refine Within.modCtl ?_ rfl

theorem State.placeChallenge_in {m s a} (h : Within m s a) (hs : 35184376283136 &&& m = 35184376283136) :
    Within m s (State.placeChallenge a) := by
  refine Within.step (m := 35184376283136) h ?_ hs
  unfold State.placeChallenge; extract_lets
  with_reducible repeat' first | exact .refl | refine Within.setFldAt ?_ (TST_DBGCHAL.WORD_part ..) rfl | refine Within.modCip ?_ rfl | refine .each ?_ fun _ _ => ?_

theorem State.loadRecords_in {m s a} (h : Within m s a) (hs : 72027613589143551 &&& m = 72027613589143551) :
    Within m s (State.loadRecords a) := by
  refine Within.step (m := 72027613589143551) h ?_ hs
  unfold State.loadRecords; extract_lets
  with_reducible repeat' first | exact .refl | refine .ite ?_ ?_ | refine State.loadConfig_in ?_ rfl | refine State.reconcileGroup_in ?_ rfl | refine State.toStep_in ?_ rfl | refine State.loadKeys_in ?_ rfl | refine State.startCore_in ?_ rfl | refine State.record_in ?_ rfl | refine State.loadSplit_in ?_ rfl | refine Within.modCtl ?_ rfl | refine Within.modHld ?_ rfl | refine .each ?_ fun _ _ => ?_

theorem State.loadUnits_in {m s a} (h : Within m s a) (hs : 68719476800 &&& m = 68719476800) :
    Within m s (State.loadUnits a) := by
  refine Within.step (m := 68719476800) h ?_ hs
  unfold State.loadUnits; extract_lets
  with_reducible repeat' first | exact .refl | refine .ite ?_ ?_ | refine State.loadHealth_in ?_ rfl | refine Within.putAt ?_ MED_CTRL.LAYOUT_part rfl | refine Within.modMed ?_ rfl | refine .foldl ?_ fun _ _ => ?_ | extract_lets | dsimp +zetaDelta only

theorem State.loadMembership_in {m s a} (h : Within m s a) (hs : 70527067164252130 &&& m = 70527067164252130) :
    Within m s (State.loadMembership a) := by
  refine Within.step (m := 70527067164252130) h ?_ hs
  unfold State.loadMembership; extract_lets
  with_reducible repeat' first | exact .refl | refine .ite ?_ ?_ | refine State.setFence_in ?_ rfl | refine State.modMem_in ?_ rfl | refine Within.setFldAt ?_ MSH_STAT.EPOCH_part rfl | refine Within.putAt ?_ MSH_STAT.TBLFULL_part rfl | refine Within.setFldAt ?_ (DRF_DEPOCH.MINEPOCH_part ..) rfl | refine Within.putAt ?_ (DRF_DEPOCH.EN_part ..) rfl | refine Within.modMsh ?_ rfl | refine .each ?_ fun _ _ => ?_ | refine .foldl ?_ fun _ _ => ?_ | extract_lets | split | dsimp +zetaDelta only

theorem State.loadDump_in {x0 m s a} (h : Within m s a) (hs : 5082561772521473 &&& m = 5082561772521473) :
    Within m s (State.loadDump x0 a) := by
  refine Within.step (m := 5082561772521473) h ?_ hs
  unfold State.loadDump; extract_lets
  with_reducible repeat' first | exact .refl | refine State.toStep_in ?_ rfl | refine State.assertEvent_in ?_ rfl | refine State.eraseSlot_in ?_ rfl | refine State.startFlush_in ?_ rfl | refine State.loadHealth_in ?_ rfl | refine Within.setFldAt ?_ HLD_DUMP.DURATION_part rfl | refine Within.setFldAt ?_ HLD_DUMP.ERASURES_part rfl | refine Within.putAt ?_ HLD_DUMP.VALID_part rfl | refine Within.setFldAt ?_ HLD_GEN.GEN_part rfl | refine Within.modMsh ?_ rfl | refine Within.modHld ?_ rfl | refine Within.modTubs ?_ rfl | refine Within.modEvr ?_ rfl | refine .foldl ?_ fun _ _ => ?_ | extract_lets | dsimp +zetaDelta only

theorem State.testRow_in {x0 x1 m s a} (h : Within m s a) (hs : 584115552256 &&& m = 584115552256) :
    Within m s (State.testRow x0 x1 a) := by
  refine Within.step (m := 584115552256) h ?_ hs
  unfold State.testRow; extract_lets
  with_reducible repeat' first | exact .refl | refine State.submitErase_in ?_ rfl | refine Within.modZpm ?_ rfl | refine .each ?_ fun _ _ => ?_ | extract_lets | dsimp +zetaDelta only

theorem State.scanRows_in {x0 m s a} (h : Within m s a) (hs : 5069401992724480 &&& m = 5069401992724480) :
    Within m s (State.scanRows x0 a) := by
  refine Within.step (m := 5069401992724480) h ?_ hs
  unfold State.scanRows; extract_lets
  with_reducible repeat' first | exact .refl | refine .ite ?_ ?_ | refine State.testRow_in ?_ rfl | refine State.eraseRow_in ?_ rfl | refine Within.modZpm ?_ rfl | refine .each ?_ fun _ _ => ?_ | refine .foldl ?_ fun _ _ => ?_ | extract_lets | dsimp +zetaDelta only

theorem State.scanRus_in {m s a} (h : Within m s a) (hs : 34359738368 &&& m = 34359738368) :
    Within m s (State.scanRus a) := by
  refine Within.step (m := 34359738368) h ?_ hs
  unfold State.scanRus
  with_reducible repeat' first | exact .refl | refine Within.modZpm ?_ rfl

theorem State.badPage_in {x0 m s a} (h : Within m s a) (hs : 43358803508334624 &&& m = 43358803508334624) :
    Within m s (State.badPage x0 a) := by
  refine Within.step (m := 43358803508334624) h ?_ hs
  unfold State.badPage
  with_reducible repeat' first | exact .refl | refine State.assertEvent_in ?_ rfl | refine State.listChanged_in ?_ rfl | refine State.enterZone_in ?_ rfl | refine State.handRows_in ?_ rfl | refine .each ?_ fun _ _ => ?_

theorem State.finishExcess_in {x0 x1 m s a} (h : Within m s a) (hs : 38280639782322208 &&& m = 38280639782322208) :
    Within m s (State.finishExcess x0 x1 a) := by
  induction x1 generalizing x0 s a m with
  | zero => exact h
  | succ n ih =>
    refine Within.step (m := 38280639782322208) h ?_ hs
    unfold State.finishExcess
    with_reducible repeat' first | exact .refl | refine .ite ?_ ?_ | refine State.listChanged_in ?_ rfl | refine State.enterZone_in ?_ rfl | refine State.journalFullZone_in ?_ rfl | refine State.modZone_in ?_ rfl | refine ih ?_ rfl | split

theorem State.settleZone_in {x0 m s a} (h : Within m s a) (hs : 41098199011688480 &&& m = 41098199011688480) :
    Within m s (State.settleZone x0 a) := by
  refine Within.step (m := 41098199011688480) h ?_ hs
  unfold State.settleZone; extract_lets
  with_reducible repeat' first | exact .refl | refine .ite ?_ ?_ | refine State.journalZone_in ?_ rfl | refine State.dropRow_in ?_ rfl | refine State.enterZone_in ?_ rfl | extract_lets | dsimp +zetaDelta only

theorem State.settleZones_in {m s a} (h : Within m s a) (hs : 43350007415308320 &&& m = 43350007415308320) :
    Within m s (State.settleZones a) := by
  refine Within.step (m := 43350007415308320) h ?_ hs
  unfold State.settleZones; extract_lets
  with_reducible repeat' first | exact .refl | refine .ite ?_ ?_ | refine State.settleZone_in ?_ rfl | refine State.finishExcess_in ?_ rfl | refine State.modFold_in ?_ rfl | refine State.padTail_in ?_ rfl | refine .each ?_ fun _ _ => ?_ | extract_lets | dsimp +zetaDelta only

theorem State.scanRecords_in {m s a} (h : Within m s a) (hs : 4503599627370496 &&& m = 4503599627370496) :
    Within m s (State.scanRecords a) := by
  refine Within.step (m := 4503599627370496) h ?_ hs
  unfold State.scanRecords; extract_lets
  with_reducible repeat' first | exact .refl | refine Within.modEvr ?_ rfl

theorem State.reloadZones_in {m s a} (h : Within m s a) (hs : 43358803508334625 &&& m = 43358803508334625) :
    Within m s (State.reloadZones a) := by
  refine Within.step (m := 43358803508334625) h ?_ hs
  unfold State.reloadZones; extract_lets
  with_reducible repeat' first | exact .refl | refine .ite ?_ ?_ | refine State.scanRus_in ?_ rfl | refine State.toStep_in ?_ rfl | refine State.badPage_in ?_ rfl | refine State.assertEvent_in ?_ rfl | refine State.scanRows_in ?_ rfl | refine State.criticalWarning_in ?_ rfl | refine State.scanRecords_in ?_ rfl | refine State.mapTouch_in ?_ rfl | refine State.settleZones_in ?_ rfl | refine Within.setFldAt ?_ ZPM_STAT.RELOAD_part rfl | refine Within.modMed ?_ rfl | refine Within.modZpm ?_ rfl | refine Within.modNv ?_ rfl | refine .each ?_ fun _ _ => ?_ | refine .foldl ?_ fun _ _ => ?_ | extract_lets | dsimp +zetaDelta only

theorem State.freeUncommitted_in {m s a} (h : Within m s a) (hs : 2260595906711552 &&& m = 2260595906711552) :
    Within m s (State.freeUncommitted a) := by
  refine Within.step (m := 2260595906711552) h ?_ hs
  unfold State.freeUncommitted; extract_lets
  with_reducible repeat' first | exact .refl | refine State.releaseTubs_in ?_ rfl

theorem State.startReadbacks_in {m s a} (h : Within m s a) (hs : 618475290624 &&& m = 618475290624) :
    Within m s (State.startReadbacks a) := by
  refine Within.step (m := 618475290624) h ?_ hs
  unfold State.startReadbacks
  with_reducible repeat' first | exact .refl | refine State.modFold_in ?_ rfl | refine State.submitHw_in ?_ rfl | refine .each ?_ fun _ _ => ?_ | refine .foldl ?_ fun _ _ => ?_ | extract_lets | dsimp +zetaDelta only

theorem State.restartSpares_in {m s a} (h : Within m s a) (hs : 43358803508335648 &&& m = 43358803508335648) :
    Within m s (State.restartSpares a) := by
  refine Within.step (m := 43358803508335648) h ?_ hs
  unfold State.restartSpares
  with_reducible repeat' first | exact .refl | refine .ite ?_ ?_ | refine State.eraseSpare_in ?_ rfl | refine State.startCopy_in ?_ rfl | refine .each ?_ fun _ _ => ?_ | extract_lets | dsimp +zetaDelta only

theorem State.replayPieces_in {x0 m s a} (h : Within m s a) (hs : 34359738368 &&& m = 34359738368) :
    Within m s (State.replayPieces x0 a) := by
  refine Within.step (m := 34359738368) h ?_ hs
  unfold State.replayPieces
  with_reducible repeat' first | exact .refl | refine State.modZone_in ?_ rfl | refine .each ?_ fun _ _ => ?_

theorem State.applyDump_in {m s a} (h : Within m s a) (hs : 43358803508335649 &&& m = 43358803508335649) :
    Within m s (State.applyDump a) := by
  refine Within.step (m := 43358803508335649) h ?_ hs
  unfold State.applyDump; extract_lets
  with_reducible repeat' first | exact .refl | refine .ite ?_ ?_ | refine State.toStep_in ?_ rfl | refine State.assertEvent_in ?_ rfl | refine State.freeUncommitted_in ?_ rfl | refine State.replayPieces_in ?_ rfl | refine State.mediaTurn_in ?_ rfl | refine State.startReadbacks_in ?_ rfl | refine State.restartSpares_in ?_ rfl | refine State.settleZones_in ?_ rfl | refine Within.modNv ?_ rfl | refine Within.modHfe ?_ rfl | extract_lets | dsimp +zetaDelta only

/-! Control.lean -/

theorem vaonPowerOn_in {m s a} (h : Within m s a) (hs : 70368752566272 &&& m = 70368752566272) :
    Within m s (vaonPowerOn a) := by
  refine Within.step (m := 70368752566272) h ?_ hs
  unfold vaonPowerOn
  with_reducible repeat' first | exact .refl | refine .ite ?_ ?_ | refine State.notWoken_in ?_ rfl | refine State.startStep2_in ?_ rfl | refine Within.modCtl ?_ rfl

theorem vaonLoss_in {m : Nat} {s a : State} (h : Within m s a) (hs : 72057318992248831 &&& m = 72057318992248831) : Within m s (vaonLoss a) :=
  h.step (m := 72057318992248831) (Within.ite Within.refl (Within.most rfl rfl rfl fun _ => ⟨rfl, rfl⟩)) hs

theorem lampCrystalStable_in {m s a} (h : Within m s a) (hs : 1 &&& m = 1) :
    Within m s (lampCrystalStable a) := by
  refine Within.step (m := 1) h ?_ hs
  unfold lampCrystalStable
  with_reducible repeat' first | exact .refl | refine .ite ?_ ?_ | refine Within.putAt ?_ SYS_CLKSTAT.LAMPXTAL_part rfl

theorem pgoodRise_in {x0 m s a} (h : Within m s a) (hs : 5155062978772993 &&& m = 5155062978772993) :
    Within m s (pgoodRise x0 a) := by
  refine Within.step (m := 5155062978772993) h ?_ hs
  unfold pgoodRise
  with_reducible repeat' first | exact .refl | refine .ite ?_ ?_ | refine State.railGood_in ?_ rfl

theorem pgoodTimeout_in {x0 m s a} (h : Within m s a) (hs : 211106240921600 &&& m = 211106240921600) :
    Within m s (pgoodTimeout x0 a) := by
  refine Within.step (m := 211106240921600) h ?_ hs
  unfold pgoodTimeout
  with_reducible repeat' first | exact .refl | refine .ite ?_ ?_ | refine State.railLate_in ?_ rfl

theorem State.retryHeld_in {m s a} (h : Within m s a) (hs : 72057318992248831 &&& m = 72057318992248831) :
    Within m s (State.retryHeld a) := by
  refine Within.step (m := 72057318992248831) h ?_ hs
  unfold State.retryHeld; extract_lets
  with_reducible repeat' first | exact .refl | refine .ite ?_ ?_ | refine State.setRet3_in ?_ rfl | refine State.raiseRail_in ?_ rfl | refine State.loseRails_in ?_ rfl | refine Within.modCtl ?_ rfl | refine Within.modPow ?_ rfl | refine Within.modSaf ?_ rfl

theorem supplyRetry_in {m s a} (h : Within m s a) (hs : 72057318992248831 &&& m = 72057318992248831) :
    Within m s (supplyRetry a) := by
  refine Within.step (m := 72057318992248831) h ?_ hs
  unfold supplyRetry
  with_reducible repeat' first | exact .refl | refine .ite ?_ ?_ | refine State.railRetry_in ?_ rfl | refine State.retryHeld_in ?_ rfl

theorem sramClearEnd_in {m s a} (h : Within m s a) (hs : 14091891601571841 &&& m = 14091891601571841) :
    Within m s (sramClearEnd a) := by
  refine Within.step (m := 14091891601571841) h ?_ hs
  unfold sramClearEnd; extract_lets
  with_reducible repeat' first | exact .refl | refine .ite ?_ ?_ | refine State.assertEvent_in ?_ rfl | refine State.toStep_in ?_ rfl | refine State.startWatchdog_in ?_ rfl | (refine Within.modBusMem ?_ ?_ ?_ ?_; rotate_left; with_unfolding_all (exact (fun _ => rfl); exact (fun _ _ => rfl); rfl)) | refine Within.modMemc ?_ rfl

theorem bootImageLoad_in {x0 x1 x2 x3 m s a} (h : Within m s a) (hs : 5172653279166465 &&& m = 5172653279166465) :
    Within m s (bootImageLoad x0 x1 x2 x3 a) := by
  refine Within.step (m := 5172653279166465) h ?_ hs
  unfold bootImageLoad; extract_lets
  with_reducible repeat' first | exact .refl | refine .ite ?_ ?_ | refine State.bootFrom_in ?_ rfl | refine State.placeChallenge_in ?_ rfl | refine Within.putAt ?_ CIP_STAT.RNGOK_part rfl | refine Within.modCip ?_ rfl | refine Within.modCtl ?_ rfl

theorem configRecordLoad_in {m s a} (h : Within m s a) (hs : 72027613589143551 &&& m = 72027613589143551) :
    Within m s (configRecordLoad a) := by
  refine Within.step (m := 72027613589143551) h ?_ hs
  unfold configRecordLoad
  with_reducible repeat' first | exact .refl | refine .ite ?_ ?_ | refine State.loadRecords_in ?_ rfl

theorem metadataLoad_in {m s a} (h : Within m s a) (hs : 70527067164252131 &&& m = 70527067164252131) :
    Within m s (metadataLoad a) := by
  refine Within.step (m := 70527067164252131) h ?_ hs
  unfold metadataLoad
  with_reducible repeat' first | exact .refl | refine .ite ?_ ?_ | refine State.loadMembership_in ?_ rfl | refine State.loadUnits_in ?_ rfl | refine State.toStep_in ?_ rfl

theorem dumpLoad_in {x0 m s a} (h : Within m s a) (hs : 43363167195105281 &&& m = 43363167195105281) :
    Within m s (dumpLoad x0 a) := by
  refine Within.step (m := 43363167195105281) h ?_ hs
  unfold dumpLoad
  with_reducible repeat' first | exact .refl | refine .ite ?_ ?_ | refine State.incompleteDump_in ?_ rfl | refine State.loadDump_in ?_ rfl | extract_lets | split

theorem zoneTableReload_in {m s a} (h : Within m s a) (hs : 43358803508334625 &&& m = 43358803508334625) :
    Within m s (zoneTableReload a) := by
  refine Within.step (m := 43358803508334625) h ?_ hs
  unfold zoneTableReload
  with_reducible repeat' first | exact .refl | refine .ite ?_ ?_ | refine State.reloadZones_in ?_ rfl

theorem dumpApplication_in {m s a} (h : Within m s a) (hs : 43358803508335649 &&& m = 43358803508335649) :
    Within m s (dumpApplication a) := by
  refine Within.step (m := 43358803508335649) h ?_ hs
  unfold dumpApplication
  with_reducible repeat' first | exact .refl | refine .ite ?_ ?_ | refine State.applyDump_in ?_ rfl

theorem State.runCore_in {x0 m s a} (h : Within m s a) (hs : 9077568001015809 &&& m = 9077568001015809) :
    Within m s (State.runCore x0 a) := by
  refine Within.step (m := 9077568001015809) h ?_ hs
  unfold State.runCore
  with_reducible repeat' first | exact .refl | refine .ite ?_ ?_ | refine State.startCore_in ?_ rfl

theorem State.resetCore_in {x0 m s a} (h : Within m s a) (hs : 16405264871723009 &&& m = 16405264871723009) :
    Within m s (State.resetCore x0 a) := by
  refine Within.step (m := 16405264871723009) h ?_ hs
  unfold State.resetCore; extract_lets
  with_reducible repeat' first | exact .refl | refine .ite ?_ ?_ | refine State.startCore_in ?_ rfl | refine State.reclaimTubs_in ?_ rfl | refine State.clearHalves_in ?_ rfl | refine Within.setFldAt ?_ SYS_CORECTL.RUN_part rfl | refine Within.modCtl ?_ rfl | extract_lets | dsimp +zetaDelta only

theorem State.writeCorectl_in {x0 m s a} (h : Within m s a) (hs : 16405264871723009 &&& m = 16405264871723009) :
    Within m s (State.writeCorectl x0 a) := by
  refine Within.step (m := 16405264871723009) h ?_ hs
  unfold State.writeCorectl
  with_reducible repeat' first | exact .refl | refine State.runCore_in ?_ rfl | refine State.resetCore_in ?_ rfl | refine .each ?_ fun _ _ => ?_

theorem coreRun_in {x0 x1 m s a} (h : Within m s a) (hs : 16405264871723009 &&& m = 16405264871723009) :
    Within m s (coreRun x0 x1 a) := by
  refine Within.step (m := 16405264871723009) h ?_ hs
  unfold coreRun
  with_reducible repeat' first | exact .refl | refine State.writeCorectl_in ?_ rfl | refine State.access_in ?_ (fun _ => ?_) rfl

theorem coreReset_in {x0 x1 m s a} (h : Within m s a) (hs : 16405264871723009 &&& m = 16405264871723009) :
    Within m s (coreReset x0 x1 a) := by
  refine Within.step (m := 16405264871723009) h ?_ hs
  unfold coreReset
  with_reducible repeat' first | exact .refl | refine State.writeCorectl_in ?_ rfl | refine State.access_in ?_ (fun _ => ?_) rfl

theorem State.writeRstctl_in {x0 x1 m s a} (h : Within m s a) (hs : 72057318992248831 &&& m = 72057318992248831) :
    Within m s (State.writeRstctl x0 x1 a) := by
  refine Within.step (m := 72057318992248831) h ?_ hs
  unfold State.writeRstctl
  with_reducible repeat' first | exact .refl | refine .ite ?_ ?_ | refine State.restartNow_in ?_ rfl | refine Within.putAt ?_ SYS_RSTCTL.ERR_part rfl

theorem restart_in {x0 x1 m s a} (h : Within m s a) (hs : 72057318992248831 &&& m = 72057318992248831) :
    Within m s (restart x0 x1 a) := by
  refine Within.step (m := 72057318992248831) h ?_ hs
  unfold restart
  with_reducible repeat' first | exact .refl | refine State.writeRstctl_in ?_ rfl | refine State.access_in ?_ (fun _ => ?_) rfl

theorem State.claim_in {x0 x1 m s a} (h : Within m s a) (hs : 553648128 &&& m = 553648128) :
    Within m s (State.claim x0 x1 a) := by
  refine Within.step (m := 553648128) h ?_ hs
  unfold State.claim
  with_reducible repeat' first | exact .refl | refine .ite ?_ ?_ | refine State.returns_in ?_ rfl | refine Within.putAt ?_ (EVT_SRC.PEND_part ..) rfl | extract_lets | split

theorem eventClaim_in {x0 x1 m s a} (h : Within m s a) (hs : 553648128 &&& m = 553648128) :
    Within m s (eventClaim x0 x1 a) := by
  refine Within.step (m := 553648128) h ?_ hs
  unfold eventClaim
  with_reducible repeat' first | exact .refl | refine .ite ?_ ?_ | refine State.claim_in ?_ rfl | refine State.access_in ?_ (fun _ => ?_) rfl

theorem State.writeSwtrig_in {x0 m s a} (h : Within m s a) (hs : 5067099890253824 &&& m = 5067099890253824) :
    Within m s (State.writeSwtrig x0 a) := by
  refine Within.step (m := 5067099890253824) h ?_ hs
  unfold State.writeSwtrig
  with_reducible repeat' first | exact .refl | refine State.assertIf_in ?_ rfl

theorem softwareTrigger_in {x0 x1 m s a} (h : Within m s a) (hs : 5067099890253824 &&& m = 5067099890253824) :
    Within m s (softwareTrigger x0 x1 a) := by
  refine Within.step (m := 5067099890253824) h ?_ hs
  unfold softwareTrigger
  with_reducible repeat' first | exact .refl | refine State.writeSwtrig_in ?_ rfl | refine State.access_in ?_ (fun _ => ?_) rfl

theorem State.writeAen_in {x0 m s a} (h : Within m s a) (hs : 2251808403619840 &&& m = 2251808403619840) :
    Within m s (State.writeAen x0 a) := by
  refine Within.step (m := 2251808403619840) h ?_ hs
  unfold State.writeAen; extract_lets
  with_reducible repeat' first | exact .refl | refine .ite ?_ ?_ | refine State.raiseAen_in ?_ rfl | refine .each ?_ fun _ _ => ?_

theorem asyncEventRaise_in {x0 x1 m s a} (h : Within m s a) (hs : 2251808957267968 &&& m = 2251808957267968) :
    Within m s (asyncEventRaise x0 x1 a) := by
  refine Within.step (m := 2251808957267968) h ?_ hs
  unfold asyncEventRaise
  with_reducible repeat' first | exact .refl | refine State.writeAen_in ?_ rfl | refine State.access_in ?_ (fun _ => ?_) rfl

/-! NsOps.lean -/

theorem State.giveKeys_in {x0 x1 m s a} (h : Within m s a) (hs : 5102284262342656 &&& m = 5102284262342656) :
    Within m s (State.giveKeys x0 x1 a) := by
  refine Within.step (m := 5102284262342656) h ?_ hs
  unfold State.giveKeys
  with_reducible repeat' first | exact .refl | refine .ite ?_ ?_ | refine State.makeKeys_in ?_ rfl

theorem State.storeZones_in {x0 x1 x2 m s a} (h : Within m s a) (hs : 36028797018963968 &&& m = 36028797018963968) :
    Within m s (State.storeZones x0 x1 x2 a) := by
  refine Within.step (m := 36028797018963968) h ?_ hs
  unfold State.storeZones; extract_lets
  with_reducible repeat' first | exact .refl | refine Within.modNv ?_ rfl | refine .foldl ?_ fun _ _ => ?_ | extract_lets | dsimp +zetaDelta only

theorem State.createZoned_in {x0 x1 m s a} (h : Within m s a) (hs : 41131115641044992 &&& m = 41131115641044992) :
    Within m s (State.createZoned x0 x1 a).2 := by
  refine Within.step (m := 41131115641044992) h ?_ hs
  unfold State.createZoned; extract_lets
  with_reducible repeat' first | exact .refl | refine .ite ?_ ?_ | refine State.giveKeys_in ?_ rfl | refine State.modZone_in ?_ rfl | refine State.storeZones_in ?_ rfl | refine State.modNs_in ?_ rfl | refine .each ?_ fun _ _ => ?_ | extract_lets | split | dsimp +zetaDelta only
theorem State.createZoned_in_eq {x0 x1} {m s a t v} (e : State.createZoned x0 x1 a = (v, t)) (h : Within m s a) (hs : 41131115641044992 &&& m = 41131115641044992) : Within m s t := by
  have k := State.createZoned_in (x0 := x0) (x1 := x1) h hs
  rw [e] at k; exact k

theorem State.createConv_in {x0 x1 m s a} (h : Within m s a) (hs : 5102318622081024 &&& m = 5102318622081024) :
    Within m s (State.createConv x0 x1 a).2 := by
  refine Within.step (m := 5102318622081024) h ?_ hs
  unfold State.createConv; extract_lets
  with_reducible repeat' first | exact .refl | refine .ite ?_ ?_ | refine State.modNs_in ?_ rfl | refine State.giveKeys_in ?_ rfl | refine Within.modZpm ?_ rfl | extract_lets | split
theorem State.createConv_in_eq {x0 x1} {m s a t v} (e : State.createConv x0 x1 a = (v, t)) (h : Within m s a) (hs : 5102318622081024 &&& m = 5102318622081024) : Within m s t := by
  have k := State.createConv_in (x0 := x0) (x1 := x1) h hs
  rw [e] at k; exact k

theorem State.createNs_in {x0 m s a} (h : Within m s a) (hs : 41131115641044992 &&& m = 41131115641044992) :
    Within m s (State.createNs x0 a).2.2 := by
  refine Within.step (m := 41131115641044992) h ?_ hs
  unfold State.createNs
  with_reducible repeat' first | exact .refl | refine State.createConv_in ?_ rfl | refine State.createZoned_in ?_ rfl | extract_lets | split | dsimp +zetaDelta only

theorem State.clearMap_in {x0 m s a} (h : Within m s a) (hs : 7327807466115072 &&& m = 7327807466115072) :
    Within m s (State.clearMap x0 a) := by
  refine Within.step (m := 7327807466115072) h ?_ hs
  unfold State.clearMap; extract_lets
  with_reducible repeat' first | exact .refl | refine freeTubUnit_in ?_ rfl | refine State.setMap_in ?_ rfl | refine Within.modZpm ?_ rfl | refine .each ?_ fun _ _ => ?_ | extract_lets | dsimp +zetaDelta only

theorem State.failNs_in {x0 x1 x2 m s a} (h : Within m s a) (hs : 43358803508335656 &&& m = 43358803508335656) :
    Within m s (State.failNs x0 x1 x2 a) := by
  refine Within.step (m := 43358803508335656) h ?_ hs
  unfold State.failNs
  with_reducible repeat' first | exact .refl | refine State.failCmd_in ?_ rfl | refine .each ?_ fun _ _ => ?_

theorem State.eraseNs_in {x0 x1 m s a} (h : Within m s a) (hs : 43358803508334624 &&& m = 43358803508334624) :
    Within m s (State.eraseNs x0 x1 a) := by
  refine Within.step (m := 43358803508334624) h ?_ hs
  unfold State.eraseNs
  with_reducible repeat' first | exact .refl | refine .ite ?_ ?_ | refine State.journalZone_in ?_ rfl | refine State.emptyZone_in ?_ rfl | refine State.enterZone_in ?_ rfl | refine State.modZone_in ?_ rfl | refine State.clearMap_in ?_ rfl | refine .each ?_ fun _ _ => ?_ | split

theorem State.freeAllRus_in {x0 m s a} (h : Within m s a) (hs : 41098199011688480 &&& m = 41098199011688480) :
    Within m s (State.freeAllRus x0 a) := by
  refine Within.step (m := 41098199011688480) h ?_ hs
  unfold State.freeAllRus; extract_lets
  with_reducible repeat' first | exact .refl | refine State.releaseRows_in ?_ rfl | refine State.dropMigr_in ?_ rfl | refine State.freeRu_in ?_ rfl | refine Within.modMed ?_ rfl | refine Within.modZpm ?_ rfl | refine .each ?_ fun _ _ => ?_ | extract_lets | dsimp +zetaDelta only

theorem State.gcAll_in {x0 m s a} (h : Within m s a) (hs : 43358803508335648 &&& m = 43358803508335648) :
    Within m s (State.gcAll x0 a) := by
  refine Within.step (m := 43358803508335648) h ?_ hs
  unfold State.gcAll
  with_reducible repeat' first | exact .refl | refine State.gcCheck_in ?_ rfl | refine .each ?_ fun _ _ => ?_

theorem State.deleteNs_in {x0 x1 m s a} (h : Within m s a) (hs : 43393987880424488 &&& m = 43393987880424488) :
    Within m s (State.deleteNs x0 x1 a) := by
  refine Within.step (m := 43393987880424488) h ?_ hs
  unfold State.deleteNs; extract_lets
  with_reducible repeat' first | exact .refl | refine .ite ?_ ?_ | refine State.gcAll_in ?_ rfl | refine State.dropKeys_in ?_ rfl | refine State.failNs_in ?_ rfl | refine State.emptyZone_in ?_ rfl | refine State.freeAllRus_in ?_ rfl | refine State.clearMap_in ?_ rfl | refine State.storeZones_in ?_ rfl | refine State.modNs_in ?_ rfl | refine Within.modZpm ?_ rfl | refine .each ?_ fun _ _ => ?_ | refine .foldl ?_ fun _ _ => ?_ | extract_lets | dsimp +zetaDelta only

theorem State.attachNs_in {x0 x1 x2 m s a} (h : Within m s a) (hs : 5067134249992224 &&& m = 5067134249992224) :
    Within m s (State.attachNs x0 x1 x2 a).2 := by
  refine Within.step (m := 5067134249992224) h ?_ hs
  unfold State.attachNs; extract_lets
  with_reducible repeat' first | exact .refl | refine State.modNs_in ?_ rfl | refine State.checkOverlap_in ?_ rfl | split
theorem State.attachNs_in_eq {x0 x1 x2} {m s a t v} (e : State.attachNs x0 x1 x2 a = (v, t)) (h : Within m s a) (hs : 5067134249992224 &&& m = 5067134249992224) : Within m s t := by
  have k := State.attachNs_in (x0 := x0) (x1 := x1) (x2 := x2) h hs
  rw [e] at k; exact k

theorem State.formatNs_in {x0 x1 x2 x3 x4 x5 m s a} (h : Within m s a) (hs : 43393987880424488 &&& m = 43393987880424488) :
    Within m s (State.formatNs x0 x1 x2 x3 x4 x5 a) := by
  refine Within.step (m := 43393987880424488) h ?_ hs
  unfold State.formatNs; extract_lets
  with_reducible repeat' first | exact .refl | refine .ite ?_ ?_ | refine State.gcAll_in ?_ rfl | refine State.modNs_in ?_ rfl | refine State.failNs_in ?_ rfl | refine State.eraseNs_in ?_ rfl | refine State.replaceKeys_in ?_ rfl

theorem State.format_in {x0 x1 x2 x3 x4 x5 x6 m s a} (h : Within m s a) (hs : 43393987880424488 &&& m = 43393987880424488) :
    Within m s (State.format x0 x1 x2 x3 x4 x5 x6 a).2 := by
  refine Within.step (m := 43393987880424488) h ?_ hs
  unfold State.format; extract_lets
  with_reducible repeat' first | exact .refl | refine State.formatNs_in ?_ rfl | refine .each ?_ fun _ _ => ?_ | split
theorem State.format_in_eq {x0 x1 x2 x3 x4 x5 x6} {m s a t v} (e : State.format x0 x1 x2 x3 x4 x5 x6 a = (v, t)) (h : Within m s a) (hs : 43393987880424488 &&& m = 43393987880424488) : Within m s t := by
  have k := State.format_in (x0 := x0) (x1 := x1) (x2 := x2) (x3 := x3) (x4 := x4) (x5 := x5) (x6 := x6) h hs
  rw [e] at k; exact k

theorem State.sanitize_in {x0 x1 x2 m s a} (h : Within m s a) (hs : 43393987880424488 &&& m = 43393987880424488) :
    Within m s (State.sanitize x0 x1 x2 a).2 := by
  refine Within.step (m := 43393987880424488) h ?_ hs
  unfold State.sanitize; extract_lets
  with_reducible repeat' first | exact .refl | refine .ite ?_ ?_ | refine State.freeAllRus_in ?_ rfl | refine State.failNs_in ?_ rfl | refine State.eraseNs_in ?_ rfl | refine State.replaceKeys_in ?_ rfl | refine Within.modNv ?_ rfl | refine .each ?_ fun _ _ => ?_ | split
theorem State.sanitize_in_eq {x0 x1 x2} {m s a t v} (e : State.sanitize x0 x1 x2 a = (v, t)) (h : Within m s a) (hs : 43393987880424488 &&& m = 43393987880424488) : Within m s t := by
  have k := State.sanitize_in (x0 := x0) (x1 := x1) (x2 := x2) h hs
  rw [e] at k; exact k

/-! LogOps.lean -/

theorem State.liftMask_in {x0 x1 m s a} (h : Within m s a) (hs : 2251808403619840 &&& m = 2251808403619840) :
    Within m s (State.liftMask x0 x1 a) := by
  refine Within.step (m := 2251808403619840) h ?_ hs
  unfold State.liftMask
  with_reducible repeat' first | exact .refl | refine State.modFn_in ?_ rfl | refine postAens_in ?_ rfl

theorem State.readLog_in {x0 x1 x2 m s a} (h : Within m s a) (hs : 2251842763358208 &&& m = 2251842763358208) :
    Within m s (State.readLog x0 x1 x2 a) := by
  refine Within.step (m := 2251842763358208) h ?_ hs
  unfold State.readLog; extract_lets
  with_reducible repeat' first | exact .refl | refine .ite ?_ ?_ | refine State.liftMask_in ?_ rfl | refine State.modNs_in ?_ rfl

theorem State.setFeature_in {x0 x1 x2 m s a} (h : Within m s a) (hs : 8589934592 &&& m = 8589934592) :
    Within m s (State.setFeature x0 x1 x2 a) := by
  refine Within.step (m := 8589934592) h ?_ hs
  unfold State.setFeature; extract_lets
  with_reducible repeat' first | exact .refl | refine .ite ?_ ?_ | refine State.modFn_in ?_ rfl

/-! AdmOps.lean -/

theorem State.answer_in {x0 x1 x2 m s a} (h : Within m s a) (hs : 8589934592 &&& m = 8589934592) :
    Within m s (State.answer x0 x1 x2 a) := by
  refine Within.step (m := 8589934592) h ?_ hs
  unfold State.answer
  with_reducible repeat' first | exact .refl | refine State.modCmd_in ?_ rfl | refine State.outcome_in ?_ rfl

theorem State.answerWith_in {x0 x1 m s a} (h : Within m s a) (hs : 8589934592 &&& m = 8589934592) :
    Within m s (State.answerWith x0 x1 a) := by
  refine Within.step (m := 8589934592) h ?_ hs
  unfold State.answerWith
  with_reducible repeat' first | exact .refl | refine .ite ?_ ?_ | refine State.answer_in ?_ rfl | refine State.outcome_in ?_ rfl

theorem State.ended_in {x0 : Nat} {r : Nat × State} {m : Nat} {s : State} (h : Within m s r.2)
    (hs : 8589934592 &&& m = 8589934592) : Within m s (State.ended x0 r) := State.outcome_in h hs

theorem State.getLog_in {x0 x1 x2 m s a} (h : Within m s a) (hs : 2251842763358208 &&& m = 2251842763358208) :
    Within m s (State.getLog x0 x1 x2 a) := by
  refine Within.step (m := 2251842763358208) h ?_ hs
  unfold State.getLog; extract_lets
  with_reducible repeat' first | exact .refl | refine .ite ?_ ?_ | refine State.answerWith_in ?_ rfl | refine State.readLog_in ?_ rfl | extract_lets | dsimp +zetaDelta only

theorem State.getLost_in {x0 x1 x2 m s a} (h : Within m s a) (hs : 2251808403619840 &&& m = 2251808403619840) :
    Within m s (State.getLost x0 x1 x2 a) := by
  refine Within.step (m := 2251808403619840) h ?_ hs
  unfold State.getLost
  with_reducible repeat' first | exact .refl | refine State.liftMask_in ?_ rfl | refine State.answer_in ?_ rfl

theorem State.getSnap_in {x0 x1 x2 x3 x4 m s a} (h : Within m s a) (hs : 2251808403619840 &&& m = 2251808403619840) :
    Within m s (State.getSnap x0 x1 x2 x3 x4 a) := by
  refine Within.step (m := 2251808403619840) h ?_ hs
  unfold State.getSnap
  with_reducible repeat' first | exact .refl | refine State.answer_in ?_ rfl | refine State.outcome_in ?_ rfl | refine State.liftMask_in ?_ rfl | split

theorem State.getRecs_in {x0 x1 x2 m s a} (h : Within m s a) (hs : 2251808403619840 &&& m = 2251808403619840) :
    Within m s (State.getRecs x0 x1 x2 a) := by
  refine Within.step (m := 2251808403619840) h ?_ hs
  unfold State.getRecs
  with_reducible repeat' first | exact .refl | refine .ite ?_ ?_ | refine State.answer_in ?_ rfl | refine State.outcome_in ?_ rfl | refine State.liftMask_in ?_ rfl

theorem State.createCq_in {x0 x1 x2 x3 x4 m s a} (h : Within m s a) (hs : 8589934592 &&& m = 8589934592) :
    Within m s (State.createCq x0 x1 x2 x3 x4 a) := by
  refine Within.step (m := 8589934592) h ?_ hs
  unfold State.createCq; extract_lets
  with_reducible repeat' first | exact .refl | refine .ite ?_ ?_ | refine State.modCq_in ?_ rfl | refine State.answer_in ?_ rfl | refine State.outcome_in ?_ rfl

theorem State.createSq_in {x0 x1 x2 x3 x4 m s a} (h : Within m s a) (hs : 8589934592 &&& m = 8589934592) :
    Within m s (State.createSq x0 x1 x2 x3 x4 a) := by
  refine Within.step (m := 8589934592) h ?_ hs
  unfold State.createSq; extract_lets
  with_reducible repeat' first | exact .refl | refine .ite ?_ ?_ | refine State.answer_in ?_ rfl | refine State.modSq_in ?_ rfl | refine State.outcome_in ?_ rfl

theorem State.deleteSq_in {x0 x1 m s a} (h : Within m s a) (hs : 43358803508335656 &&& m = 43358803508335656) :
    Within m s (State.deleteSq x0 x1 a) := by
  refine Within.step (m := 43358803508335656) h ?_ hs
  unfold State.deleteSq; extract_lets
  with_reducible repeat' first | exact .refl | refine .ite ?_ ?_ | refine State.answer_in ?_ rfl | refine State.failCmd_in ?_ rfl | refine State.outcome_in ?_ rfl | refine State.postAll_in ?_ rfl | refine Within.modHfe ?_ rfl | refine .each ?_ fun _ _ => ?_

theorem State.deleteCq_in {x0 x1 m s a} (h : Within m s a) (hs : 8589934592 &&& m = 8589934592) :
    Within m s (State.deleteCq x0 x1 a) := by
  refine Within.step (m := 8589934592) h ?_ hs
  unfold State.deleteCq
  with_reducible repeat' first | exact .refl | refine .ite ?_ ?_ | refine State.modCq_in ?_ rfl | refine State.answer_in ?_ rfl | refine State.outcome_in ?_ rfl

theorem State.numberOfQueues_in {x0 m s a} (h : Within m s a) (hs : 8657043456 &&& m = 8657043456) :
    Within m s (State.numberOfQueues x0 a) := by
  refine Within.step (m := 8657043456) h ?_ hs
  unfold State.numberOfQueues
  with_reducible repeat' first | exact .refl | refine State.answer_in ?_ rfl | refine State.tookFree_in ?_ rfl

theorem State.powerFeature_in {x0 x1 m s a} (h : Within m s a) (hs : 41311512857479200 &&& m = 41311512857479200) :
    Within m s (State.powerFeature x0 x1 a) := by
  refine Within.step (m := 41311512857479200) h ?_ hs
  unfold State.powerFeature
  with_reducible repeat' first | exact .refl | refine .ite ?_ ?_ | refine State.answer_in ?_ rfl | refine State.outcome_in ?_ rfl | refine State.setPs_in ?_ rfl

theorem State.setOrdering_in {x0 x1 x2 m s a} (h : Within m s a) (hs : 5067108480188416 &&& m = 5067108480188416) :
    Within m s (State.setOrdering x0 x1 x2 a) := by
  refine Within.step (m := 5067108480188416) h ?_ hs
  unfold State.setOrdering; extract_lets
  with_reducible repeat' first | exact .refl | refine .ite ?_ ?_ | refine State.answer_in ?_ rfl | refine State.assertIf_in ?_ rfl | refine State.outcome_in ?_ rfl | refine State.setOrdered_in ?_ rfl | extract_lets | dsimp +zetaDelta only

theorem State.getOrdering_in {x0 x1 m s a} (h : Within m s a) (hs : 8589934592 &&& m = 8589934592) :
    Within m s (State.getOrdering x0 x1 a) := by
  refine Within.step (m := 8589934592) h ?_ hs
  unfold State.getOrdering
  with_reducible repeat' first | exact .refl | refine .ite ?_ ?_ | refine State.answer_in ?_ rfl | refine State.outcome_in ?_ rfl

theorem State.holdSet_in {x0 m s a} (h : Within m s a) (hs : 1125899906842624 &&& m = 1125899906842624) :
    Within m s (State.holdSet x0 a) := by
  refine Within.step (m := 1125899906842624) h ?_ hs
  unfold State.holdSet
  with_reducible repeat' first | exact .refl | refine State.holdAnswer_in ?_ rfl

theorem State.setWeights_in {x0 x1 x2 m s a} (h : Within m s a) (hs : 6474483363741696 &&& m = 6474483363741696) :
    Within m s (State.setWeights x0 x1 x2 a) := by
  refine Within.step (m := 6474483363741696) h ?_ hs
  unfold State.setWeights; extract_lets
  with_reducible repeat' first | exact .refl | refine .ite ?_ ?_ | refine State.holdSet_in ?_ rfl | refine State.assertEvent_in ?_ rfl | refine State.setDict_in ?_ rfl | refine State.outcome_in ?_ rfl

theorem State.getWeights_in {x0 x1 x2 m s a} (h : Within m s a) (hs : 8589934592 &&& m = 8589934592) :
    Within m s (State.getWeights x0 x1 x2 a) := by
  refine Within.step (m := 8589934592) h ?_ hs
  unfold State.getWeights
  with_reducible repeat' first | exact .refl | refine .ite ?_ ?_ | refine State.answer_in ?_ rfl | refine State.outcome_in ?_ rfl

theorem State.setTailClass_in {x0 x1 m s a} (h : Within m s a) (hs : 6474483363741728 &&& m = 6474483363741728) :
    Within m s (State.setTailClass x0 x1 a) := by
  refine Within.step (m := 6474483363741728) h ?_ hs
  unfold State.setTailClass; extract_lets
  with_reducible repeat' first | exact .refl | refine .ite ?_ ?_ | refine State.holdSet_in ?_ rfl | refine State.checkOverlap_in ?_ rfl | refine State.outcome_in ?_ rfl | refine State.setTail_in ?_ rfl

theorem State.getTailClass_in {x0 x1 m s a} (h : Within m s a) (hs : 8589934592 &&& m = 8589934592) :
    Within m s (State.getTailClass x0 x1 a) := by
  refine Within.step (m := 8589934592) h ?_ hs
  unfold State.getTailClass
  with_reducible repeat' first | exact .refl | refine .ite ?_ ?_ | refine State.answer_in ?_ rfl | refine State.outcome_in ?_ rfl

theorem State.setFdp_in {x0 x1 x2 m s a} (h : Within m s a) (hs : 42949672960 &&& m = 42949672960) :
    Within m s (State.setFdp x0 x1 x2 a) := by
  refine Within.step (m := 42949672960) h ?_ hs
  unfold State.setFdp; extract_lets
  with_reducible repeat' first | exact .refl | refine .ite ?_ ?_ | refine State.answer_in ?_ rfl | refine State.outcome_in ?_ rfl | refine Within.modZpm ?_ rfl

theorem State.setFdpEvents_in {x0 x1 x2 x3 m s a} (h : Within m s a) (hs : 42949672960 &&& m = 42949672960) :
    Within m s (State.setFdpEvents x0 x1 x2 x3 a) := by
  refine Within.step (m := 42949672960) h ?_ hs
  unfold State.setFdpEvents; extract_lets
  with_reducible repeat' first | exact .refl | refine .ite ?_ ?_ | refine State.answer_in ?_ rfl | refine State.outcome_in ?_ rfl | refine Within.modZpm ?_ rfl | refine .foldl ?_ fun _ _ => ?_ | extract_lets | split | dsimp +zetaDelta only

theorem State.getFdpEvents_in {x0 x1 m s a} (h : Within m s a) (hs : 8589934592 &&& m = 8589934592) :
    Within m s (State.getFdpEvents x0 x1 a) := by
  refine Within.step (m := 8589934592) h ?_ hs
  unfold State.getFdpEvents
  with_reducible repeat' first | exact .refl | refine State.answer_in ?_ rfl | refine State.outcome_in ?_ rfl | split

theorem State.setFeatures_in {x0 x1 x2 x3 x4 x5 m s a} (h : Within m s a) (hs : 42718887808141344 &&& m = 42718887808141344) :
    Within m s (State.setFeatures x0 x1 x2 x3 x4 x5 a) := by
  refine Within.step (m := 42718887808141344) h ?_ hs
  unfold State.setFeatures
  with_reducible repeat' first | exact .refl | refine .ite ?_ ?_ | refine State.answer_in ?_ rfl | refine State.setTailClass_in ?_ rfl | refine State.numberOfQueues_in ?_ rfl | refine State.setWeights_in ?_ rfl | refine State.setOrdering_in ?_ rfl | refine State.setFdpEvents_in ?_ rfl | refine State.outcome_in ?_ rfl | refine State.powerFeature_in ?_ rfl | refine State.setFeature_in ?_ rfl | refine State.setFdp_in ?_ rfl | split

theorem State.getFeatures_in {x0 x1 x2 x3 m s a} (h : Within m s a) (hs : 8657043456 &&& m = 8657043456) :
    Within m s (State.getFeatures x0 x1 x2 x3 a) := by
  refine Within.step (m := 8657043456) h ?_ hs
  unfold State.getFeatures
  with_reducible repeat' first | exact .refl | refine .ite ?_ ?_ | refine State.answer_in ?_ rfl | refine State.getTailClass_in ?_ rfl | refine State.numberOfQueues_in ?_ rfl | refine State.outcome_in ?_ rfl | refine State.getOrdering_in ?_ rfl | refine State.getFdpEvents_in ?_ rfl | refine State.getWeights_in ?_ rfl | split

theorem State.abortNamed_in {x0 x1 x2 m s a} (h : Within m s a) (hs : 43358803508335656 &&& m = 43358803508335656) :
    Within m s (State.abortNamed x0 x1 x2 a) := by
  refine Within.step (m := 43358803508335656) h ?_ hs
  unfold State.abortNamed
  with_reducible repeat' first | exact .refl | refine State.answer_in ?_ rfl | refine State.failCmd_in ?_ rfl | split

theorem State.holdAer_in {x0 m s a} (h : Within m s a) (hs : 2251808403619840 &&& m = 2251808403619840) :
    Within m s (State.holdAer x0 a) := by
  refine Within.step (m := 2251808403619840) h ?_ hs
  unfold State.holdAer
  with_reducible repeat' first | exact .refl | refine .ite ?_ ?_ | refine State.modFn_in ?_ rfl | refine State.outcome_in ?_ rfl | refine postAens_in ?_ rfl

theorem State.download_in {x0 x1 x2 x3 m s a} (h : Within m s a) (hs : 8589934592 &&& m = 8589934592) :
    Within m s (State.download x0 x1 x2 x3 a) := by
  refine Within.step (m := 8589934592) h ?_ hs
  unfold State.download; extract_lets
  with_reducible repeat' first | exact .refl | refine State.answer_in ?_ rfl | refine Within.modHfe ?_ rfl

theorem State.fwCommit_in {x0 x1 x2 m s a} (h : Within m s a) (hs : 36028805608898560 &&& m = 36028805608898560) :
    Within m s (State.fwCommit x0 x1 x2 a) := by
  refine Within.step (m := 36028805608898560) h ?_ hs
  unfold State.fwCommit; extract_lets
  with_reducible repeat' first | exact .refl | refine .ite ?_ ?_ | refine State.answer_in ?_ rfl | refine State.outcome_in ?_ rfl | refine Within.modHfe ?_ rfl | refine Within.modNv ?_ rfl

theorem State.selfTest_in {x0 x1 m s a} (h : Within m s a) (hs : 36028805608898560 &&& m = 36028805608898560) :
    Within m s (State.selfTest x0 x1 a) := by
  refine Within.step (m := 36028805608898560) h ?_ hs
  unfold State.selfTest; extract_lets
  with_reducible repeat' first | exact .refl | refine .ite ?_ ?_ | refine State.answer_in ?_ rfl | refine State.outcome_in ?_ rfl | refine Within.modHfe ?_ rfl | refine Within.modNv ?_ rfl

theorem State.miRun_in {x0 m s a} (h : Within m s a) (hs : 63020272667590655 &&& m = 63020272667590655) :
    Within m s (State.miRun x0 a).2 := by
  refine Within.step (m := 63020272667590655) h ?_ hs
  unfold State.miRun; extract_lets
  with_reducible repeat' first | exact .refl | refine State.dictPut_in ?_ rfl | refine State.tookFree_in ?_ rfl | (refine Within.modMgtAny ?_ ?_ ?_ ?_; rotate_left; with_unfolding_all (rfl; rfl; rfl)) | split
theorem State.miRun_in_eq {x0} {m s a t v} (e : State.miRun x0 a = (v, t)) (h : Within m s a) (hs : 63020272667590655 &&& m = 63020272667590655) : Within m s t := by
  have k := State.miRun_in (x0 := x0) h hs
  rw [e] at k; exact k

theorem State.miSend_in {x0 x1 m s a} (h : Within m s a) (hs : 63020272667590655 &&& m = 63020272667590655) :
    Within m s (State.miSend x0 x1 a) := by
  refine Within.step (m := 63020272667590655) h ?_ hs
  unfold State.miSend; extract_lets
  with_reducible repeat' first | exact .refl | refine .ite ?_ ?_ | refine State.holdSet_in ?_ rfl | refine State.modFn_in ?_ rfl | refine State.answer_in ?_ rfl | refine State.miRun_in ?_ rfl

theorem State.dictReadCmd_in {x0 x1 x2 x3 m s a} (h : Within m s a) (hs : 8589934592 &&& m = 8589934592) :
    Within m s (State.dictReadCmd x0 x1 x2 x3 a) := by
  refine Within.step (m := 8589934592) h ?_ hs
  unfold State.dictReadCmd
  with_reducible repeat' first | exact .refl | refine .ite ?_ ?_ | refine State.answer_in ?_ rfl | refine State.outcome_in ?_ rfl | extract_lets | dsimp +zetaDelta only

theorem State.dictWriteCmd_in {x0 x1 x2 x3 x4 m s a} (h : Within m s a) (hs : 63020272600481791 &&& m = 63020272600481791) :
    Within m s (State.dictWriteCmd x0 x1 x2 x3 x4 a) := by
  refine Within.step (m := 63020272600481791) h ?_ hs
  unfold State.dictWriteCmd; extract_lets
  with_reducible repeat' first | exact .refl | refine .ite ?_ ?_ | refine State.holdAnswer_in ?_ rfl | refine State.dictPut_in ?_ rfl | refine State.answer_in ?_ rfl

theorem State.runAdmin_in {x0 m s a} (h : Within m s a) (hs : 63031267783868415 &&& m = 63031267783868415) :
    Within m s (State.runAdmin x0 a) := by
  refine Within.step (m := 63031267783868415) h ?_ hs
  unfold State.runAdmin
  with_reducible repeat' first | exact .refl | refine .ite ?_ ?_ | refine State.answerWith_in ?_ rfl | refine State.selfTest_in ?_ rfl | refine State.attachNs_in ?_ rfl | refine State.attachNs_in_eq ‹_› ?_ rfl | refine State.answer_in ?_ rfl | refine State.getTailClass_in ?_ rfl | refine State.sanitize_in ?_ rfl | refine State.sanitize_in_eq ‹_› ?_ rfl | refine State.deleteCq_in ?_ rfl | refine State.setTailClass_in ?_ rfl | refine State.dictReadCmd_in ?_ rfl | refine State.fwCommit_in ?_ rfl | refine State.numberOfQueues_in ?_ rfl | refine State.deleteSq_in ?_ rfl | refine State.setFeatures_in ?_ rfl | refine State.setWeights_in ?_ rfl | refine State.miSend_in ?_ rfl | refine State.setOrdering_in ?_ rfl | refine State.createCq_in ?_ rfl | refine State.createSq_in ?_ rfl | refine State.outcome_in ?_ rfl | refine State.download_in ?_ rfl | refine State.getOrdering_in ?_ rfl | refine State.getFeatures_in ?_ rfl | refine State.createNs_in ?_ rfl | refine State.createNs_in_eq ‹_› ?_ rfl | refine State.abortNamed_in ?_ rfl | refine State.powerFeature_in ?_ rfl | refine State.ended_in ?_ rfl | refine State.getWeights_in ?_ rfl | refine State.format_in ?_ rfl | refine State.format_in_eq ‹_› ?_ rfl | refine State.getSnap_in ?_ rfl | refine State.deleteNs_in ?_ rfl | refine State.getLost_in ?_ rfl | refine State.dictWriteCmd_in ?_ rfl | refine State.getRecs_in ?_ rfl | refine State.setFdp_in ?_ rfl | refine State.getLog_in ?_ rfl | refine State.holdAer_in ?_ rfl | refine .each ?_ fun _ _ => ?_ | extract_lets | split | dsimp +zetaDelta only

/-! ArbOps.lean -/

theorem State.arbRound_in {x0 m s a} (h : Within m s a) (hs : 8589934592 &&& m = 8589934592) :
    Within m s (State.arbRound x0 a) := by
  refine Within.step (m := 8589934592) h ?_ hs
  unfold State.arbRound
  with_reducible repeat' first | exact .refl | refine State.modFn_in ?_ rfl | refine .each ?_ fun _ _ => ?_

theorem State.pickFn_in {x0 x1 m s a} (h : Within m s a) (hs : 8589934592 &&& m = 8589934592) :
    Within m s (State.pickFn x0 x1 a).2 := by
  induction x0 generalizing x1 s a m with
  | zero => exact h
  | succ n ih =>
    refine Within.step (m := 8589934592) h ?_ hs
    unfold State.pickFn
    with_reducible repeat' first | exact .refl | refine State.arbRound_in ?_ rfl | refine ih ?_ rfl | split
theorem State.pickFn_in_eq {x0 x1} {m s a t v} (e : State.pickFn x0 x1 a = (v, t)) (h : Within m s a) (hs : 8589934592 &&& m = 8589934592) : Within m s t := by
  have k := State.pickFn_in (x0 := x0) (x1 := x1) h hs
  rw [e] at k; exact k

theorem State.pickQueue_in {x0 x1 m s a} (h : Within m s a) (hs : 8589934592 &&& m = 8589934592) :
    Within m s (State.pickQueue x0 x1 a).2 := by
  refine Within.step (m := 8589934592) h ?_ hs
  unfold State.pickQueue; extract_lets
  with_reducible repeat' first | exact .refl | refine State.modFn_in ?_ rfl | split
theorem State.pickQueue_in_eq {x0 x1} {m s a t v} (e : State.pickQueue x0 x1 a = (v, t)) (h : Within m s a) (hs : 8589934592 &&& m = 8589934592) : Within m s t := by
  have k := State.pickQueue_in (x0 := x0) (x1 := x1) h hs
  rw [e] at k; exact k

theorem State.pickClass_in {x0 x1 m s a} (h : Within m s a) (hs : 8589934592 &&& m = 8589934592) :
    Within m s (State.pickClass x0 x1 a).2 := by
  refine Within.step (m := 8589934592) h ?_ hs
  unfold State.pickClass; extract_lets
  with_reducible repeat' first | exact .refl | refine State.modFn_in ?_ rfl | split
theorem State.pickClass_in_eq {x0 x1} {m s a t v} (e : State.pickClass x0 x1 a = (v, t)) (h : Within m s a) (hs : 8589934592 &&& m = 8589934592) : Within m s t := by
  have k := State.pickClass_in (x0 := x0) (x1 := x1) h hs
  rw [e] at k; exact k

theorem State.pickCmd_in {x0 x1 m s a} (h : Within m s a) (hs : 8589934592 &&& m = 8589934592) :
    Within m s (State.pickCmd x0 x1 a).2 := by
  refine Within.step (m := 8589934592) h ?_ hs
  unfold State.pickCmd; extract_lets
  with_reducible repeat' first | exact .refl | refine State.pickQueue_in ?_ rfl | refine State.pickClass_in ?_ rfl | split
theorem State.pickCmd_in_eq {x0 x1} {m s a t v} (e : State.pickCmd x0 x1 a = (v, t)) (h : Within m s a) (hs : 8589934592 &&& m = 8589934592) : Within m s t := by
  have k := State.pickCmd_in (x0 := x0) (x1 := x1) h hs
  rw [e] at k; exact k

theorem State.refillAll_in {m s a} (h : Within m s a) (hs : 5067108480188416 &&& m = 5067108480188416) :
    Within m s (State.refillAll a) := by
  refine Within.step (m := 5067108480188416) h ?_ hs
  unfold State.refillAll; extract_lets
  with_reducible repeat' first | exact .refl | refine State.modFn_in ?_ rfl | refine State.refill_in ?_ rfl | refine State.assertEvent_in ?_ rfl | refine .each ?_ fun _ _ => ?_

theorem State.dispatch_in {x0 m s a} (h : Within m s a) (hs : 63031267783868415 &&& m = 63031267783868415) :
    Within m s (State.dispatch x0 a) := by
  refine Within.step (m := 63031267783868415) h ?_ hs
  unfold State.dispatch; extract_lets
  with_reducible repeat' first | exact .refl | refine State.runAdmin_in ?_ rfl | refine State.modFn_in ?_ rfl | refine State.dispatchIo_in ?_ rfl | refine State.modCmd_in ?_ rfl | split

theorem State.dispatchNext_in {m s a} (h : Within m s a) (hs : 63031267783868415 &&& m = 63031267783868415) :
    Within m s (State.dispatchNext a) := by
  refine Within.step (m := 63031267783868415) h ?_ hs
  unfold State.dispatchNext; extract_lets
  with_reducible repeat' first | exact .refl | refine State.settle_in ?_ rfl | refine State.pickFn_in ?_ rfl | refine State.refillAll_in ?_ rfl | refine State.pickCmd_in ?_ rfl | refine State.dispatch_in ?_ rfl | extract_lets | split

theorem State.afterAdmit_in {x0 m s a} (h : Within m s a) (hs : 63031267783868415 &&& m = 63031267783868415) :
    Within m s (State.afterAdmit x0 a) := by
  refine Within.step (m := 63031267783868415) h ?_ hs
  unfold State.afterAdmit; extract_lets
  with_reducible repeat' first | exact .refl | refine .ite ?_ ?_ | refine State.dispatchNext_in ?_ rfl | refine State.settle_in ?_ rfl | refine State.refillAll_in ?_ rfl | split

theorem State.takeEntry_in {x0 x1 m s a} (h : Within m s a) (hs : 5067108480188416 &&& m = 5067108480188416) :
    Within m s (State.takeEntry x0 x1 a) := by
  refine Within.step (m := 5067108480188416) h ?_ hs
  unfold State.takeEntry; extract_lets
  with_reducible repeat' first | exact .refl | refine State.assertIf_in ?_ rfl | refine State.refill_in ?_ rfl | refine State.modFn_in ?_ rfl | refine State.modSq_in ?_ rfl | refine Within.modHfe ?_ rfl | extract_lets | dsimp +zetaDelta only

theorem State.waitEvents_in {x0 m s a} (h : Within m s a) (hs : 5067099890253824 &&& m = 5067099890253824) :
    Within m s (State.waitEvents x0 a) := by
  refine Within.step (m := 5067099890253824) h ?_ hs
  unfold State.waitEvents
  with_reducible repeat' first | exact .refl | refine .ite ?_ ?_ | refine State.assertIf_in ?_ rfl

theorem State.admitIo_in {x0 : Cmd} {f : Cmd → State → State} {m : Nat} {s a : State} (h : Within m s a)
    (hf : ∀ c b, Within m b (f c b)) (hs : 63031267783868415 &&& m = 63031267783868415) : Within m s (State.admitIo x0 f a) := by
  unfold State.admitIo
  try dsimp only
  split
  · exact h
  · split
    · exact h.step (m := 63031267783868415) (State.waitEvents_in Within.refl rfl) hs
    · have h1 := fun t => h.step (m := 63031267783868415) (State.takeEntry_in (x0 := t) (x1 := x0) Within.refl rfl) hs
      split
      · exact ((h1 _).trans (hf _ _)).step (m := 63031267783868415) (State.afterAdmit_in Within.refl rfl) hs
      · exact h1 _

theorem State.admitAdmin_in {x0 x1 x2 x3 x4 m s a} (h : Within m s a) (hs : 63031267783868415 &&& m = 63031267783868415) :
    Within m s (State.admitAdmin x0 x1 x2 x3 x4 a) := by
  refine Within.step (m := 63031267783868415) h ?_ hs
  unfold State.admitAdmin
  with_reducible repeat' first | exact .refl | refine .ite ?_ ?_ | refine State.afterAdmit_in ?_ rfl | refine State.outcome_in ?_ rfl | refine State.takeEntry_in ?_ rfl | split

theorem State.admitUnknown_in {x0 x1 x2 m s a} (h : Within m s a) (hs : 63031267783868415 &&& m = 63031267783868415) :
    Within m s (State.admitUnknown x0 x1 x2 a) := by
  refine Within.step (m := 63031267783868415) h ?_ hs
  unfold State.admitUnknown
  with_reducible repeat' first | exact .refl | refine State.afterAdmit_in ?_ rfl | refine State.outcome_in ?_ rfl | refine State.takeEntry_in ?_ rfl | split

theorem State.admitReadCmd_in {x0 x1 x2 x3 x4 x5 m s a} (h : Within m s a) (hs : 63031267783868415 &&& m = 63031267783868415) :
    Within m s (State.admitReadCmd x0 x1 x2 x3 x4 x5 a) := by
  refine Within.step (m := 63031267783868415) h ?_ hs
  unfold State.admitReadCmd
  with_reducible repeat' first | exact .refl | refine State.admitRead_in ?_ rfl | refine State.admitIo_in ?_ (fun _ _ => ?_) rfl

theorem State.admitPieceCmd_in {x0 x1 x2 x3 x4 x5 x6 m s a} (h : Within m s a) (hs : 63031267783868415 &&& m = 63031267783868415) :
    Within m s (State.admitPieceCmd x0 x1 x2 x3 x4 x5 x6 a) := by
  refine Within.step (m := 63031267783868415) h ?_ hs
  unfold State.admitPieceCmd
  with_reducible repeat' first | exact .refl | refine State.admitPieces_in ?_ rfl | refine State.admitIo_in ?_ (fun _ _ => ?_) rfl

theorem State.admitFlush_in {x0 x1 x2 m s a} (h : Within m s a) (hs : 63031267783868415 &&& m = 63031267783868415) :
    Within m s (State.admitFlush x0 x1 x2 a) := by
  refine Within.step (m := 63031267783868415) h ?_ hs
  unfold State.admitFlush
  with_reducible repeat' first | exact .refl | refine .ite ?_ ?_ | refine State.admitIo_in ?_ (fun _ _ => ?_) rfl | refine State.outcome_in ?_ rfl

theorem State.admitFence_in {x0 x1 x2 m s a} (h : Within m s a) (hs : 63031267783868415 &&& m = 63031267783868415) :
    Within m s (State.admitFence x0 x1 x2 a) := by
  refine Within.step (m := 63031267783868415) h ?_ hs
  unfold State.admitFence
  with_reducible repeat' first | exact .refl | refine .ite ?_ ?_ | refine State.admitIo_in ?_ (fun _ _ => ?_) rfl | refine State.outcome_in ?_ rfl

theorem State.admitDsm_in {x0 x1 x2 x3 x4 m s a} (h : Within m s a) (hs : 63031267783868415 &&& m = 63031267783868415) :
    Within m s (State.admitDsm x0 x1 x2 x3 x4 a) := by
  refine Within.step (m := 63031267783868415) h ?_ hs
  unfold State.admitDsm
  with_reducible repeat' first | exact .refl | refine State.admitDealloc_in ?_ rfl | refine State.admitIo_in ?_ (fun _ _ => ?_) rfl

theorem State.admitIoSend_in {x0 x1 x2 x3 x4 m s a} (h : Within m s a) (hs : 63031267783868415 &&& m = 63031267783868415) :
    Within m s (State.admitIoSend x0 x1 x2 x3 x4 a) := by
  refine Within.step (m := 63031267783868415) h ?_ hs
  unfold State.admitIoSend
  with_reducible repeat' first | exact .refl | refine State.admitRuh_in ?_ rfl | refine State.admitIo_in ?_ (fun _ _ => ?_) rfl

theorem State.admitIoReceive_in {x0 x1 x2 x3 m s a} (h : Within m s a) (hs : 63031267783868415 &&& m = 63031267783868415) :
    Within m s (State.admitIoReceive x0 x1 x2 x3 a) := by
  refine Within.step (m := 63031267783868415) h ?_ hs
  unfold State.admitIoReceive; extract_lets
  with_reducible repeat' first | exact .refl | refine State.admitIo_in ?_ (fun _ _ => ?_) rfl | refine State.admitRuh_in ?_ rfl

theorem State.admitZone_in {x0 x1 x2 x3 x4 x5 m s a} (h : Within m s a) (hs : 63031267783868415 &&& m = 63031267783868415) :
    Within m s (State.admitZone x0 x1 x2 x3 x4 x5 a) := by
  refine Within.step (m := 63031267783868415) h ?_ hs
  unfold State.admitZone
  with_reducible repeat' first | exact .refl | refine State.admitAct_in ?_ rfl | refine State.admitIo_in ?_ (fun _ _ => ?_) rfl

theorem State.admitReceive_in {x0 x1 x2 x3 x4 x5 x6 x7 m s a} (h : Within m s a) (hs : 63031267783868415 &&& m = 63031267783868415) :
    Within m s (State.admitReceive x0 x1 x2 x3 x4 x5 x6 x7 a) := by
  refine Within.step (m := 63031267783868415) h ?_ hs
  unfold State.admitReceive
  with_reducible repeat' first | exact .refl | refine .ite ?_ ?_ | refine State.admitReport_in ?_ rfl | refine State.admitIo_in ?_ (fun _ _ => ?_) rfl | refine State.outcome_in ?_ rfl

theorem State.pieceChain_in {x0 : Cmd} {x1 : Nat} {x2 : Piece} {m : Nat} {s a t : State} (e : a.pieceChain x0 x1 x2 = some t)
    (h : Within m s a) (hs : 8804682956800 &&& m = 8804682956800) : Within m s t := by
  refine Within.step (m := 8804682956800) h ?_ hs
  unfold State.pieceChain at e
  try dsimp only at e
  split at e
  · cases e; exact Within.refl
  · split at e
    · split at e
      · cases e
      · cases e; exact (State.modPiece_in Within.refl rfl).modTubs rfl
    · cases e
theorem State.pieceBind_in {α : Type} {o : Option α} {g : α → Cmd} {q : α → Piece} {k : Nat} {m : Nat} {s a t : State}
    (e : (o.bind fun x => State.pieceChain (g x) k (q x) a) = some t) (h : Within m s a) (hs : 8804682956800 &&& m = 8804682956800) : Within m s t := by
  obtain ⟨x, _, hx⟩ := Option.bind_eq_some_iff.1 e
  exact State.pieceChain_in hx h hs

theorem State.askChain_in {x0 x1 x2 m s a} (h : Within m s a) (hs : 7327704386899968 &&& m = 7327704386899968) :
    Within m s (State.askChain x0 x1 x2 a) := by
  refine Within.step (m := 7327704386899968) h ?_ hs
  unfold State.askChain; extract_lets
  with_reducible repeat' first | exact .refl | refine .ite ?_ ?_ | refine State.requestTubs_in ?_ rfl | refine State.modPiece_in ?_ rfl | refine Within.modTubs ?_ rfl

theorem State.zeroPiece_in {x0 x1 x2 m s a} (h : Within m s a) (hs : 7327704386899968 &&& m = 7327704386899968) :
    Within m s (State.zeroPiece x0 x1 x2 a) := by
  refine Within.step (m := 7327704386899968) h ?_ hs
  unfold State.zeroPiece
  with_reducible repeat' first | exact .refl | refine .ite ?_ ?_ | refine State.modPiece_in ?_ rfl | refine State.askChain_in ?_ rfl | refine State.pieceChain_in ‹_› ?_ rfl | refine State.pieceBind_in ‹_› ?_ rfl | extract_lets | split | dsimp +zetaDelta only

theorem State.writeGuardFail_in {x0 m s a} (h : Within m s a) (hs : 43358803508336168 &&& m = 43358803508336168) :
    Within m s (State.writeGuardFail x0 a) := by
  refine Within.step (m := 43358803508336168) h ?_ hs
  unfold State.writeGuardFail; extract_lets
  with_reducible repeat' first | exact .refl | refine State.assertEvent_in ?_ rfl | refine State.integrityError_in ?_ rfl | refine State.failCmd_in ?_ rfl | refine State.modCmd_in ?_ rfl | refine Within.countAt ?_ ECC_GUARDCNT.WRITEFAIL_part rfl

theorem State.piFail_in {x0 x1 m s a} (h : Within m s a) (hs : 43358803508335656 &&& m = 43358803508335656) :
    Within m s (State.piFail x0 x1 a) := by
  refine Within.step (m := 43358803508335656) h ?_ hs
  unfold State.piFail; extract_lets
  with_reducible repeat' first | exact .refl | refine .ite ?_ ?_ | refine State.failCmd_in ?_ rfl | refine State.assertEvent_in ?_ rfl | refine State.integrityError_in ?_ rfl

theorem State.pieceData_in {x0 x1 x2 x3 x4 m s a} (h : Within m s a) (hs : 43358803508335656 &&& m = 43358803508335656) :
    Within m s (State.pieceData x0 x1 x2 x3 x4 a) := by
  refine Within.step (m := 43358803508335656) h ?_ hs
  unfold State.pieceData; extract_lets
  with_reducible repeat' first | exact .refl | refine State.piFail_in ?_ rfl | refine State.modPiece_in ?_ rfl | split

theorem State.fetchPiece_in {x0 x1 x2 x3 x4 x5 m s a} (h : Within m s a) (hs : 52366002765190696 &&& m = 52366002765190696) :
    Within m s (State.fetchPiece x0 x1 x2 x3 x4 x5 a) := by
  refine Within.step (m := 52366002765190696) h ?_ hs
  unfold State.fetchPiece
  with_reducible repeat' first | exact .refl | refine .ite ?_ ?_ | refine State.assertEvent_in ?_ rfl | refine State.writeGuardFail_in ?_ rfl | refine State.failCmd_in ?_ rfl | refine State.pieceData_in ?_ rfl | refine State.noteError_in ?_ rfl | refine Within.countAt ?_ CIP_ERRCNT.XTSMIS_part rfl | split

/-! FrontEnd.lean -/

theorem sqTailDoorbell_in {x0 x1 x2 m s a} (h : Within m s a) (hs : 43429172252578856 &&& m = 43429172252578856) :
    Within m s (sqTailDoorbell x0 x1 x2 a) := by
  refine Within.step (m := 43429172252578856) h ?_ hs
  unfold sqTailDoorbell
  with_reducible repeat' first | exact .refl | refine .ite ?_ ?_ | refine State.observeAll_in ?_ rfl | refine State.doorbellWake_in ?_ rfl | refine Within.modHfe ?_ rfl

theorem cqHeadDoorbell_in {x0 x1 x2 m s a} (h : Within m s a) (hs : 43358803508335656 &&& m = 43358803508335656) :
    Within m s (cqHeadDoorbell x0 x1 x2 a) := by
  refine Within.step (m := 43358803508335656) h ?_ hs
  unfold cqHeadDoorbell
  with_reducible repeat' first | exact .refl | refine .ite ?_ ?_ | refine State.observeAll_in ?_ rfl | refine State.wakeIdle_in ?_ rfl | refine Within.modHfe ?_ rfl

theorem deferredDoorbellObserve_in {m s a} (h : Within m s a) (hs : 43358803508335656 &&& m = 43358803508335656) :
    Within m s (deferredDoorbellObserve a) := by
  refine Within.step (m := 43358803508335656) h ?_ hs
  unfold deferredDoorbellObserve
  with_reducible repeat' first | exact .refl | refine State.observeAll_in ?_ rfl

theorem State.writeQalloc_in {x0 x1 m s a} (h : Within m s a) (hs : 5067099890253832 &&& m = 5067099890253832) :
    Within m s (State.writeQalloc x0 x1 a) := by
  refine Within.step (m := 5067099890253832) h ?_ hs
  unfold State.writeQalloc; extract_lets
  with_reducible repeat' first | exact .refl | refine .ite ?_ ?_ | refine State.allocError_in ?_ rfl | refine Within.setFldAt ?_ (HFE_QALLOC.NCQ_part ..) rfl | refine Within.setFldAt ?_ (HFE_QALLOC.NSQ_part ..) rfl

theorem State.writeCmdlim_in {x0 x1 m s a} (h : Within m s a) (hs : 5067099890253832 &&& m = 5067099890253832) :
    Within m s (State.writeCmdlim x0 x1 a) := by
  refine Within.step (m := 5067099890253832) h ?_ hs
  unfold State.writeCmdlim; extract_lets
  with_reducible repeat' first | exact .refl | refine .ite ?_ ?_ | refine State.allocError_in ?_ rfl | refine Within.setFldAt ?_ (HFE_CMDLIM.LIMIT_part ..) rfl

theorem State.writeHfeCtrl_in {x0 m s a} (h : Within m s a) (hs : 43358803508335656 &&& m = 43358803508335656) :
    Within m s (State.writeHfeCtrl x0 a) := by
  refine Within.step (m := 43358803508335656) h ?_ hs
  unfold State.writeHfeCtrl
  with_reducible repeat' first | exact .refl | refine State.observeAll_in ?_ rfl | refine State.setReady_in ?_ rfl | refine State.setDa_in ?_ rfl | refine Within.setFldAt ?_ HFE_CTRL.ADMIT_EN_part rfl

theorem hfeQallocWrite_in {x0 x1 x2 m s a} (h : Within m s a) (hs : 5067099890253832 &&& m = 5067099890253832) :
    Within m s (hfeQallocWrite x0 x1 x2 a) := by
  refine Within.step (m := 5067099890253832) h ?_ hs
  unfold hfeQallocWrite
  with_reducible repeat' first | exact .refl | refine .ite ?_ ?_ | refine State.writeQalloc_in ?_ rfl | refine State.access_in ?_ (fun _ => ?_) rfl

theorem hfeCmdlimWrite_in {x0 x1 x2 m s a} (h : Within m s a) (hs : 5067099890253832 &&& m = 5067099890253832) :
    Within m s (hfeCmdlimWrite x0 x1 x2 a) := by
  refine Within.step (m := 5067099890253832) h ?_ hs
  unfold hfeCmdlimWrite
  with_reducible repeat' first | exact .refl | refine .ite ?_ ?_ | refine State.writeCmdlim_in ?_ rfl | refine State.access_in ?_ (fun _ => ?_) rfl

theorem admitEnSet_in {x0 x1 m s a} (h : Within m s a) (hs : 43358803508335656 &&& m = 43358803508335656) :
    Within m s (admitEnSet x0 x1 a) := by
  refine Within.step (m := 43358803508335656) h ?_ hs
  unfold admitEnSet
  with_reducible repeat' first | exact .refl | refine State.writeHfeCtrl_in ?_ rfl | refine State.access_in ?_ (fun _ => ?_) rfl

theorem State.inPost_in {x0 m s a} (h : Within m s a) (hs : 5067108480188416 &&& m = 5067108480188416) :
    Within m s (State.inPost x0 a) := by
  refine Within.step (m := 5067108480188416) h ?_ hs
  unfold State.inPost
  with_reducible repeat' first | exact .refl | refine .ite ?_ ?_ | refine State.assertEvent_in ?_ rfl | refine State.modFn_in ?_ rfl

theorem State.outAck_in {x0 m s a} (h : Within m s a) (hs : 5067108480188416 &&& m = 5067108480188416) :
    Within m s (State.outAck x0 a) := by
  refine Within.step (m := 5067108480188416) h ?_ hs
  unfold State.outAck
  with_reducible repeat' first | exact .refl | refine State.assertEvent_in ?_ rfl | refine State.modFn_in ?_ rfl

theorem State.commitRing_in {x0 x1 m s a} (h : Within m s a) (hs : 5067108480188416 &&& m = 5067108480188416) :
    Within m s (State.commitRing x0 x1 a) := by
  refine Within.step (m := 5067108480188416) h ?_ hs
  unfold State.commitRing; extract_lets
  with_reducible repeat' first | exact .refl | refine .ite ?_ ?_ | refine State.assertEvent_in ?_ rfl | refine State.modFn_in ?_ rfl | extract_lets | dsimp +zetaDelta only

theorem State.mbxPageWrite_in {x0 x1 x2 m s a} (h : Within m s a) (hs : 5067108480188416 &&& m = 5067108480188416) :
    Within m s (State.mbxPageWrite x0 x1 x2 a) := by
  refine Within.step (m := 5067108480188416) h ?_ hs
  unfold State.mbxPageWrite
  with_reducible repeat' first | exact .refl | refine .ite ?_ ?_ | refine State.inPost_in ?_ rfl | refine State.modFn_in ?_ rfl | refine State.commitRing_in ?_ rfl | refine State.outAck_in ?_ rfl | extract_lets | split | dsimp +zetaDelta only

theorem State.mbxPageRead_in {x0 x1 m s a} (h : Within m s a) (hs : 8589934592 &&& m = 8589934592) :
    Within m s (State.mbxPageRead x0 x1 a) := by
  refine Within.step (m := 8589934592) h ?_ hs
  unfold State.mbxPageRead
  with_reducible repeat' first | exact .refl | refine .ite ?_ ?_ | refine State.modFn_in ?_ rfl

theorem mailboxInPost_in {x0 x1 m s a} (h : Within m s a) (hs : 5067108480188416 &&& m = 5067108480188416) :
    Within m s (mailboxInPost x0 x1 a) := by
  refine Within.step (m := 5067108480188416) h ?_ hs
  unfold mailboxInPost
  with_reducible repeat' first | exact .refl | refine .ite ?_ ?_ | refine State.inPost_in ?_ rfl | refine State.modFn_in ?_ rfl | refine .foldl ?_ fun _ _ => ?_

theorem mailboxOutAck_in {x0 x1 m s a} (h : Within m s a) (hs : 5067108480188416 &&& m = 5067108480188416) :
    Within m s (mailboxOutAck x0 x1 a) := by
  refine Within.step (m := 5067108480188416) h ?_ hs
  unfold mailboxOutAck
  with_reducible repeat' first | exact .refl | refine .ite ?_ ?_ | refine State.mbxPageWrite_in ?_ rfl | refine State.outAck_in ?_ rfl

theorem mailboxRingCommit_in {x0 x1 x2 x3 m s a} (h : Within m s a) (hs : 5067108480188416 &&& m = 5067108480188416) :
    Within m s (mailboxRingCommit x0 x1 x2 x3 a) := by
  refine Within.step (m := 5067108480188416) h ?_ hs
  unfold mailboxRingCommit
  with_reducible repeat' first | exact .refl | refine .ite ?_ ?_ | refine State.mbxPageWrite_in ?_ rfl | refine State.commitRing_in ?_ rfl

theorem State.outPost_in {x0 m s a} (h : Within m s a) (hs : 8589934608 &&& m = 8589934608) :
    Within m s (State.outPost x0 a) := by
  refine Within.step (m := 8589934608) h ?_ hs
  unfold State.outPost; extract_lets
  with_reducible repeat' first | exact .refl | refine .ite ?_ ?_ | refine State.modFn_in ?_ rfl | refine State.sendMsix_in ?_ rfl | refine Within.putAt ?_ FNS_MBXACK.REJ_part rfl | extract_lets | dsimp +zetaDelta only

theorem State.inDone_in {x0 m s a} (h : Within m s a) (hs : 8589934592 &&& m = 8589934592) :
    Within m s (State.inDone x0 a) := by
  refine Within.step (m := 8589934592) h ?_ hs
  unfold State.inDone
  with_reducible repeat' first | exact .refl | refine State.modFn_in ?_ rfl

theorem State.writeMbxAck_in {x0 m s a} (h : Within m s a) (hs : 8589934608 &&& m = 8589934608) :
    Within m s (State.writeMbxAck x0 a) := by
  refine Within.step (m := 8589934608) h ?_ hs
  unfold State.writeMbxAck; extract_lets
  with_reducible repeat' first | exact .refl | refine .ite ?_ ?_ | refine State.outPost_in ?_ rfl | refine State.inDone_in ?_ rfl

theorem outPost_in {x0 x1 m s a} (h : Within m s a) (hs : 9143582736 &&& m = 9143582736) :
    Within m s (outPost x0 x1 a) := by
  refine Within.step (m := 9143582736) h ?_ hs
  unfold outPost
  with_reducible repeat' first | exact .refl | refine State.writeMbxAck_in ?_ rfl | refine State.access_in ?_ (fun _ => ?_) rfl

theorem inDone_in {x0 x1 m s a} (h : Within m s a) (hs : 9143582736 &&& m = 9143582736) :
    Within m s (inDone x0 x1 a) := by
  refine Within.step (m := 9143582736) h ?_ hs
  unfold inDone
  with_reducible repeat' first | exact .refl | refine State.writeMbxAck_in ?_ rfl | refine State.access_in ?_ (fun _ => ?_) rfl

/-! Link.lean -/

theorem State.sampleStraps_in {x0 x1 m s a} (h : Within m s a) (hs : 4294967308 &&& m = 4294967308) :
    Within m s (State.sampleStraps x0 x1 a) := by
  refine Within.step (m := 4294967308) h ?_ hs
  unfold State.sampleStraps; extract_lets
  with_reducible repeat' first | exact .refl | refine .ite ?_ ?_ | refine Within.putAt ?_ PCI_STRAP.SRIS_part rfl | refine Within.putAt ?_ PCI_STRAP.BIF_part rfl | refine Within.setFldAt ?_ (HFE_CMDLIM.LIMIT_part ..) rfl | refine Within.setFldAt ?_ (HFE_QALLOC.NCQ_part ..) rfl | refine Within.setFldAt ?_ (HFE_QALLOC.NSQ_part ..) rfl | refine Within.modPci ?_ rfl | extract_lets | dsimp +zetaDelta only

theorem perstDeassert_in {x0 x1 x2 m s a} (h : Within m s a) (hs : 4294967308 &&& m = 4294967308) :
    Within m s (perstDeassert x0 x1 x2 a) := by
  refine Within.step (m := 4294967308) h ?_ hs
  unfold perstDeassert
  with_reducible repeat' first | exact .refl | refine .ite ?_ ?_ | refine State.modPort_in ?_ rfl | refine State.startTraining_in ?_ rfl | refine State.sampleStraps_in ?_ rfl | extract_lets | dsimp +zetaDelta only

theorem perstAssert_in {x0 m s a} (h : Within m s a) (hs : 43358807803302956 &&& m = 43358807803302956) :
    Within m s (perstAssert x0 a) := by
  refine Within.step (m := 43358807803302956) h ?_ hs
  unfold perstAssert
  with_reducible repeat' first | exact .refl | refine .ite ?_ ?_ | refine State.modPort_in ?_ rfl | refine State.linkDown_in ?_ rfl | refine State.resetPort_in ?_ rfl | refine State.settle_in ?_ rfl

theorem hotReset_in {x0 m s a} (h : Within m s a) (hs : 43358807803302956 &&& m = 43358807803302956) :
    Within m s (hotReset x0 a) := by
  refine Within.step (m := 43358807803302956) h ?_ hs
  unfold hotReset
  with_reducible repeat' first | exact .refl | refine .ite ?_ ?_ | refine State.settle_in ?_ rfl | refine State.resetPort_in ?_ rfl | refine State.startTraining_in ?_ rfl | refine Within.setFldAt ?_ (PCI_LSTAT.LTSSM_part ..) rfl

theorem linkDisable_in {x0 m s a} (h : Within m s a) (hs : 43358807803302956 &&& m = 43358807803302956) :
    Within m s (linkDisable x0 a) := by
  refine Within.step (m := 43358807803302956) h ?_ hs
  unfold linkDisable
  with_reducible repeat' first | exact .refl | refine .ite ?_ ?_ | refine State.settle_in ?_ rfl | refine State.modPort_in ?_ rfl | refine State.linkDown_in ?_ rfl | refine State.resetPort_in ?_ rfl

theorem linkLoss_in {x0 m s a} (h : Within m s a) (hs : 43358807803302956 &&& m = 43358807803302956) :
    Within m s (linkLoss x0 a) := by
  refine Within.step (m := 43358807803302956) h ?_ hs
  unfold linkLoss
  with_reducible repeat' first | exact .refl | refine State.loseLink_in ?_ rfl

theorem linkUp_in {x0 x1 x2 x3 m s a} (h : Within m s a) (hs : 4294967300 &&& m = 4294967300) :
    Within m s (linkUp x0 x1 x2 x3 a) := by
  refine Within.step (m := 4294967300) h ?_ hs
  unfold linkUp; extract_lets
  with_reducible repeat' first | exact .refl | refine .ite ?_ ?_ | refine State.modPort_in ?_ rfl | refine Within.putAt ?_ (PCI_LSTAT.FLIT_part ..) rfl | refine Within.putAt ?_ (PCI_LSTAT.LINKUP_part ..) rfl | refine Within.setFldAt ?_ (PCI_LSTAT.LTSSM_part ..) rfl | refine Within.setFldAt ?_ (PCI_LSTAT.L1SUB_part ..) rfl | refine Within.setFldAt ?_ (PCI_LSTAT.ACTWIDTH_part ..) rfl | refine Within.setFldAt ?_ (PCI_LSTAT.WIDTH_part ..) rfl | refine Within.setFldAt ?_ (PCI_LSTAT.RATE_part ..) rfl | extract_lets | dsimp +zetaDelta only

theorem recoveryEntry_in {x0 m s a} (h : Within m s a) (hs : 5067104185221124 &&& m = 5067104185221124) :
    Within m s (recoveryEntry x0 a) := by
  refine Within.step (m := 5067104185221124) h ?_ hs
  unfold recoveryEntry
  with_reducible repeat' first | exact .refl | refine .ite ?_ ?_ | refine State.assertEvent_in ?_ rfl | refine State.modPort_in ?_ rfl | refine Within.countAt ?_ (PCI_ERRCNT.RECOV_part ..) rfl | refine Within.setFldAt ?_ (PCI_LSTAT.LTSSM_part ..) rfl

theorem flitCrcFail_in {x0 x1 m s a} (h : Within m s a) (hs : 4294967300 &&& m = 4294967300) :
    Within m s (flitCrcFail x0 x1 a) := by
  refine Within.step (m := 4294967300) h ?_ hs
  unfold flitCrcFail
  with_reducible repeat' first | exact .refl | refine .ite ?_ ?_ | refine Within.countAt ?_ (PCI_ERRCNT.CORR_part ..) rfl | refine Within.modPci ?_ rfl

theorem l0pRequest_in {x0 x1 m s a} (h : Within m s a) (hs : 4294967300 &&& m = 4294967300) :
    Within m s (l0pRequest x0 x1 a) := by
  refine Within.step (m := 4294967300) h ?_ hs
  unfold l0pRequest
  with_reducible repeat' first | exact .refl | refine .ite ?_ ?_ | refine State.modPort_in ?_ rfl | refine Within.setFldAt ?_ (PCI_LSTAT.ACTWIDTH_part ..) rfl

theorem writePciCtrl_in {x0 m s a} (h : Within m s a) (hs : 4294967300 &&& m = 4294967300) :
    Within m s (writePciCtrl x0 a) := by
  refine Within.step (m := 4294967300) h ?_ hs
  unfold writePciCtrl; extract_lets
  with_reducible repeat' first | exact .refl | refine .ite ?_ ?_ | refine State.modPort_in ?_ rfl | refine Within.putAt ?_ PCI_CTRL.CFG_READY0_part rfl | refine Within.putAt ?_ PCI_CTRL.CFG_READY1_part rfl | refine Within.setFldAt ?_ PCI_CTRL.MAXRATE_part rfl | refine Within.setFldAt ?_ PCI_CTRL.FLIT_DIS_part rfl | refine Within.setFldAt ?_ PCI_CTRL.L0P_WIDTH_part rfl | refine .each ?_ fun _ _ => ?_ | extract_lets | dsimp +zetaDelta only

theorem l0pWidthWrite_in {x0 x1 m s a} (h : Within m s a) (hs : 4848615428 &&& m = 4848615428) :
    Within m s (l0pWidthWrite x0 x1 a) := by
  refine Within.step (m := 4848615428) h ?_ hs
  unfold l0pWidthWrite
  with_reducible repeat' first | exact .refl | refine writePciCtrl_in ?_ rfl | refine State.access_in ?_ (fun _ => ?_) rfl

theorem cfgReadySet_in {x0 x1 m s a} (h : Within m s a) (hs : 4848615428 &&& m = 4848615428) :
    Within m s (cfgReadySet x0 x1 a) := by
  refine Within.step (m := 4848615428) h ?_ hs
  unfold cfgReadySet
  with_reducible repeat' first | exact .refl | refine writePciCtrl_in ?_ rfl | refine State.access_in ?_ (fun _ => ?_) rfl

theorem cfgReadyTimeout_in {x0 m s a} (h : Within m s a) (hs : 5067112775155716 &&& m = 5067112775155716) :
    Within m s (cfgReadyTimeout x0 a) := by
  refine Within.step (m := 5067112775155716) h ?_ hs
  unfold cfgReadyTimeout
  with_reducible repeat' first | exact .refl | refine .ite ?_ ?_ | refine State.modPort_in ?_ rfl | refine State.modFn_in ?_ rfl | refine State.assertEvents_in ?_ rfl | refine Within.putAt ?_ (cfgReady_part ..) rfl | refine .each ?_ fun _ _ => ?_ | extract_lets | dsimp +zetaDelta only

theorem State.releaseMsix_in {x0 m s a} (h : Within m s a) (hs : 8589934592 &&& m = 8589934592) :
    Within m s (State.releaseMsix x0 a) := by
  refine Within.step (m := 8589934592) h ?_ hs
  unfold State.releaseMsix; extract_lets
  with_reducible repeat' first | exact .refl | refine .ite ?_ ?_ | refine State.modFn_in ?_ rfl | refine Within.modHfe ?_ rfl | extract_lets | dsimp +zetaDelta only

theorem State.msixWrite_in {x0 x1 x2 m s a} (h : Within m s a) (hs : 8589934592 &&& m = 8589934592) :
    Within m s (State.msixWrite x0 x1 x2 a) := by
  refine Within.step (m := 8589934592) h ?_ hs
  unfold State.msixWrite; extract_lets
  with_reducible repeat' first | exact .refl | refine .ite ?_ ?_ | refine State.modFn_in ?_ rfl | refine State.releaseMsix_in ?_ rfl | extract_lets | dsimp +zetaDelta only

theorem controllerEnable_in {x0 x1 m s a} (h : Within m s a) (hs : 5067108480188416 &&& m = 5067108480188416) :
    Within m s (controllerEnable x0 x1 a) := by
  refine Within.step (m := 5067108480188416) h ?_ hs
  unfold controllerEnable; extract_lets
  with_reducible repeat' first | exact .refl | refine .ite ?_ ?_ | refine State.modFn_in ?_ rfl | refine State.modCq_in ?_ rfl | refine State.assertEvent_in ?_ rfl | refine State.modSq_in ?_ rfl

theorem controllerReset_in {x0 m s a} (h : Within m s a) (hs : 43358803508335656 &&& m = 43358803508335656) :
    Within m s (controllerReset x0 a) := by
  refine Within.step (m := 43358803508335656) h ?_ hs
  unfold controllerReset
  with_reducible repeat' first | exact .refl | refine .ite ?_ ?_ | refine State.disableFn_in ?_ rfl | refine State.observeAll_in ?_ rfl | refine State.settle_in ?_ rfl

theorem State.bar0Write_in {x0 x1 x2 m s a} (h : Within m s a) (hs : 43429172252578856 &&& m = 43429172252578856) :
    Within m s (State.bar0Write x0 x1 x2 a) := by
  refine Within.step (m := 43429172252578856) h ?_ hs
  unfold State.bar0Write
  with_reducible repeat' first | exact .refl | refine .ite ?_ ?_ | refine cqHeadDoorbell_in ?_ rfl | refine sqTailDoorbell_in ?_ rfl | refine controllerReset_in ?_ rfl | refine controllerEnable_in ?_ rfl

theorem State.barWrite_in {x0 x1 x2 x3 m s a} (h : Within m s a) (hs : 43429172252578856 &&& m = 43429172252578856) :
    Within m s (State.barWrite x0 x1 x2 x3 a) := by
  refine Within.step (m := 43429172252578856) h ?_ hs
  unfold State.barWrite
  with_reducible repeat' first | exact .refl | refine .ite ?_ ?_ | refine State.bar0Write_in ?_ rfl | refine State.mbxPageWrite_in ?_ rfl | refine State.msixWrite_in ?_ rfl

theorem State.enableVfs_in {x0 x1 m s a} (h : Within m s a) (hs : 43358807803302952 &&& m = 43358807803302952) :
    Within m s (State.enableVfs x0 x1 a) := by
  refine Within.step (m := 43358807803302952) h ?_ hs
  unfold State.enableVfs
  with_reducible repeat' first | exact .refl | refine .ite ?_ ?_ | refine State.modPort_in ?_ rfl | refine State.clearVfs_in ?_ rfl | refine State.assertIf_in ?_ rfl | refine State.settle_in ?_ rfl | refine State.modFn_in ?_ rfl | refine .each ?_ fun _ _ => ?_ | extract_lets | dsimp +zetaDelta only

theorem State.configWrite_in {x0 x1 x2 m s a t} (e : State.configWrite x0 x1 x2 a = some t) (h : Within m s a) (hs : 43358807803302952 &&& m = 43358807803302952) :
    Within m s t := by
  refine Within.step (m := 43358807803302952) h ?_ hs
  unfold State.configWrite at e
  split at e <;> (try split at e) <;> first | cases e | skip
  all_goals with_reducible repeat' first | exact .refl | refine .ite ?_ ?_ | refine State.modFn_in ?_ rfl | refine State.releaseMsix_in ?_ rfl | refine State.enableVfs_in ?_ rfl | refine State.modPort_in ?_ rfl

theorem State.barRequest_in {x0 x1 v m s a t} (e : State.barRequest x0 x1 a = some (v, t)) (h : Within m s a) (hs : 43429172319687720 &&& m = 43429172319687720) :
    Within m s t := by
  refine Within.step (m := 43429172319687720) h ?_ hs
  unfold State.barRequest at e
  split at e <;> (try split at e) <;> (try split at e) <;> (try split at e) <;> first | cases e | skip
  all_goals with_reducible repeat' first | exact .refl | refine .ite ?_ ?_ | refine State.mbxPageRead_in ?_ rfl | refine State.tookFree_in ?_ rfl | refine State.barWrite_in ?_ rfl

theorem configRequest_in {x0 x1 x2 m s a} (h : Within m s a) (hs : 43429176614655016 &&& m = 43429176614655016) :
    Within m s (configRequest x0 x1 x2 a).2 := by
  refine Within.step (m := 43429176614655016) h ?_ hs
  unfold configRequest
  with_reducible repeat' first | exact .refl | refine .ite ?_ ?_ | refine State.logUnsupported_in ?_ rfl | refine State.barRequest_in ‹_› ?_ rfl | refine State.configWrite_in ‹_› ?_ rfl | split
theorem configRequest_in_eq {x0 x1 x2} {m s a t v} (e : configRequest x0 x1 x2 a = (v, t)) (h : Within m s a) (hs : 43429176614655016 &&& m = 43429176614655016) : Within m s t := by
  have k := configRequest_in (x0 := x0) (x1 := x1) (x2 := x2) h hs
  rw [e] at k; exact k

theorem configurationRequest_in {x0 x1 x2 m s a} (h : Within m s a) (hs : 43429176614655016 &&& m = 43429176614655016) :
    Within m s (configurationRequest x0 x1 x2 a) := by
  refine Within.step (m := 43429176614655016) h ?_ hs
  unfold configurationRequest
  with_reducible repeat' first | exact .refl | refine .ite ?_ ?_ | refine State.modPort_in ?_ rfl | refine configRequest_in ?_ rfl | refine State.logUnsupported_in ?_ rfl | extract_lets | dsimp +zetaDelta only

theorem linkL1Entry_in {x0 x1 m s a} (h : Within m s a) (hs : 4294967300 &&& m = 4294967300) :
    Within m s (linkL1Entry x0 x1 a) := by
  refine Within.step (m := 4294967300) h ?_ hs
  unfold linkL1Entry
  with_reducible repeat' first | exact .refl | refine .ite ?_ ?_ | refine State.modPort_in ?_ rfl | refine Within.setFldAt ?_ (PCI_LSTAT.L1SUB_part ..) rfl | refine Within.setFldAt ?_ (PCI_LSTAT.LTSSM_part ..) rfl

theorem linkL1Exit_in {x0 m s a} (h : Within m s a) (hs : 4294967300 &&& m = 4294967300) :
    Within m s (linkL1Exit x0 a) := by
  refine Within.step (m := 4294967300) h ?_ hs
  unfold linkL1Exit
  with_reducible repeat' first | exact .refl | refine .ite ?_ ?_ | refine State.modPort_in ?_ rfl | refine Within.setFldAt ?_ (PCI_LSTAT.L1SUB_part ..) rfl | refine Within.setFldAt ?_ (PCI_LSTAT.LTSSM_part ..) rfl

theorem linkL2Entry_in {x0 m s a} (h : Within m s a) (hs : 4 &&& m = 4) :
    Within m s (linkL2Entry x0 a) := by
  refine Within.step (m := 4) h ?_ hs
  unfold linkL2Entry
  with_reducible repeat' first | exact .refl | refine .ite ?_ ?_ | refine State.linkDown_in ?_ rfl

theorem functionLevelReset_in {x0 m s a} (h : Within m s a) (hs : 43358803508335656 &&& m = 43358803508335656) :
    Within m s (functionLevelReset x0 a) := by
  refine Within.step (m := 43358803508335656) h ?_ hs
  unfold functionLevelReset
  with_reducible repeat' first | exact .refl | refine .ite ?_ ?_ | refine State.observeAll_in ?_ rfl | refine State.flrFn_in ?_ rfl | refine State.settle_in ?_ rfl | refine State.assertEvent_in ?_ rfl

/-! Mechanisms.lean -/

theorem State.internalError_in {m s a} (h : Within m s a) (hs : 5067108480188416 &&& m = 5067108480188416) :
    Within m s (State.internalError a) := by
  refine Within.step (m := 5067108480188416) h ?_ hs
  unfold State.internalError
  with_reducible repeat' first | exact .refl | refine State.assertEvent_in ?_ rfl | refine State.logAer_in ?_ rfl | refine .each ?_ fun _ _ => ?_

theorem State.safeReset_in {m s a} (h : Within m s a) (hs : 72057593870155775 &&& m = 72057593870155775) :
    Within m s (State.safeReset a) := by
  refine Within.step (m := 72057593870155775) h ?_ hs
  unfold State.safeReset; extract_lets
  with_reducible repeat' first | exact .refl | refine .ite ?_ ?_ | refine State.internalError_in ?_ rfl | refine State.commitDump_in ?_ rfl | refine State.modFn_in ?_ rfl | refine State.assertEvents_in ?_ rfl | refine State.restartNow_in ?_ rfl | refine Within.modCtl ?_ rfl | refine .each ?_ fun _ _ => ?_ | extract_lets | dsimp +zetaDelta only

theorem State.powerOff_in {x0 m s a} (h : Within m s a) (hs : 72057318992248831 &&& m = 72057318992248831) :
    Within m s (State.powerOff x0 a) := by
  refine Within.step (m := 72057318992248831) h ?_ hs
  unfold State.powerOff; extract_lets
  with_reducible repeat' first | exact .refl | refine .ite ?_ ?_ | refine State.setRet3_in ?_ rfl | refine State.loseRails_in ?_ rfl | refine Within.modCtl ?_ rfl | refine Within.modNv ?_ rfl | refine Within.modPow ?_ rfl

theorem State.writeWdog_in {x0 x1 x2 m s a} (h : Within m s a) (hs : 9007199256838144 &&& m = 9007199256838144) :
    Within m s (State.writeWdog x0 x1 x2 a) := by
  refine Within.step (m := 9007199256838144) h ?_ hs
  unfold State.writeWdog; extract_lets
  with_reducible repeat' first | exact .refl | refine .ite ?_ ?_ | refine Within.setFldAt ?_ (SAF_WDOG.TIMEOUT_part ..) rfl | refine Within.modSaf ?_ rfl

theorem kick_in {x0 x1 x2 m s a} (h : Within m s a) (hs : 9007199810486272 &&& m = 9007199810486272) :
    Within m s (kick x0 x1 x2 a) := by
  refine Within.step (m := 9007199810486272) h ?_ hs
  unfold kick
  with_reducible repeat' first | exact .refl | refine .ite ?_ ?_ | refine State.writeWdog_in ?_ rfl | refine State.access_in ?_ (fun _ => ?_) rfl

theorem watchdogExpire_in {x0 m s a} (h : Within m s a) (hs : 72057593870155775 &&& m = 72057593870155775) :
    Within m s (watchdogExpire x0 a) := by
  refine Within.step (m := 72057593870155775) h ?_ hs
  unfold watchdogExpire
  with_reducible repeat' first | exact .refl | refine .ite ?_ ?_ | refine State.assertEvent_in ?_ rfl | refine State.resetCore_in ?_ rfl | refine State.safeReset_in ?_ rfl | refine State.noteError_in ?_ rfl | refine State.clearHalves_in ?_ rfl | extract_lets | dsimp +zetaDelta only

theorem heartbeatMissing_in {x0 m s a} (h : Within m s a) (hs : 72057593870155775 &&& m = 72057593870155775) :
    Within m s (heartbeatMissing x0 a) := by
  refine Within.step (m := 72057593870155775) h ?_ hs
  unfold heartbeatMissing
  with_reducible repeat' first | exact .refl | refine .ite ?_ ?_ | refine State.assertEvent_in ?_ rfl | refine State.safeReset_in ?_ rfl | refine State.noteError_in ?_ rfl

theorem lockstepMismatch_in {x0 m s a} (h : Within m s a) (hs : 72057593870155775 &&& m = 72057593870155775) :
    Within m s (lockstepMismatch x0 a) := by
  refine Within.step (m := 72057593870155775) h ?_ hs
  unfold lockstepMismatch; extract_lets
  with_reducible repeat' first | exact .refl | refine .ite ?_ ?_ | refine State.assertEvent_in ?_ rfl | refine State.safeReset_in ?_ rfl | refine State.noteError_in ?_ rfl | refine State.resetCore_in ?_ rfl

theorem supplyMonitorTrip_in {x0 m s a} (h : Within m s a) (hs : 72057318992248831 &&& m = 72057318992248831) :
    Within m s (supplyMonitorTrip x0 a) := by
  refine Within.step (m := 72057318992248831) h ?_ hs
  unfold supplyMonitorTrip
  with_reducible repeat' first | exact .refl | refine .ite ?_ ?_ | refine State.powerOff_in ?_ rfl | refine State.assertEvent_in ?_ rfl | refine State.noteError_in ?_ rfl

theorem referenceClockLost_in {m s a} (h : Within m s a) (hs : 72057593870155775 &&& m = 72057593870155775) :
    Within m s (referenceClockLost a) := by
  refine Within.step (m := 72057593870155775) h ?_ hs
  unfold referenceClockLost
  with_reducible repeat' first | exact .refl | refine .ite ?_ ?_ | refine State.assertEvent_in ?_ rfl | refine State.safeReset_in ?_ rfl | refine State.noteError_in ?_ rfl

theorem scrubRead_in {x0 x1 m s a} (h : Within m s a) (hs : 14100687426170880 &&& m = 14100687426170880) :
    Within m s (scrubRead x0 x1 a) := by
  refine Within.step (m := 14100687426170880) h ?_ hs
  unfold scrubRead; extract_lets
  with_reducible repeat' first | exact .refl | refine .ite ?_ ?_ | refine State.modTub_in ?_ rfl | refine State.parityError_in ?_ rfl | refine State.assertEvent_in ?_ rfl | refine State.assertIf_in ?_ rfl | refine State.noteError_in ?_ rfl | refine Within.putAt ?_ TUB_STAT.HPARERR_part rfl | refine Within.modSaf ?_ rfl

theorem periodicSelfTest_in {x0 x1 m s a} (h : Within m s a) (hs : 16326176270188544 &&& m = 16326176270188544) :
    Within m s (periodicSelfTest x0 x1 a) := by
  refine Within.step (m := 16326176270188544) h ?_ hs
  unfold periodicSelfTest
  with_reducible repeat' first | exact .refl | refine .ite ?_ ?_ | refine State.assertEvent_in ?_ rfl | refine State.criticalWarning_in ?_ rfl | refine State.noteError_in ?_ rfl

theorem State.markFailed_in {x0 m s a} (h : Within m s a) (hs : 11259076379934720 &&& m = 11259076379934720) :
    Within m s (State.markFailed x0 a) := by
  refine Within.step (m := 11259076379934720) h ?_ hs
  unfold State.markFailed; extract_lets
  with_reducible repeat' first | exact .refl | refine .ite ?_ ?_ | refine State.criticalWarning_in ?_ rfl | refine Within.setFldAt ?_ SAF_PST.FAILED_part rfl | refine Within.modSaf ?_ rfl

theorem State.lastingOutcome_in {x0 x1 m s a} (h : Within m s a) (hs : 72057593870155775 &&& m = 72057593870155775) :
    Within m s (State.lastingOutcome x0 x1 a) := by
  refine Within.step (m := 72057593870155775) h ?_ hs
  unfold State.lastingOutcome
  with_reducible repeat' first | exact .refl | refine .ite ?_ ?_ | refine State.safeReset_in ?_ rfl | refine State.markFailed_in ?_ rfl | refine Within.setFldAt ?_ SYS_CORECTL.RUN_part rfl | refine Within.setFldAt ?_ (DRF_STAT.STATE_part ..) rfl | refine Within.modSaf ?_ rfl | extract_lets | dsimp +zetaDelta only

theorem selfTestVerdict_in {x0 x1 x2 m s a} (h : Within m s a) (hs : 72057593870155775 &&& m = 72057593870155775) :
    Within m s (selfTestVerdict x0 x1 x2 a) := by
  refine Within.step (m := 72057593870155775) h ?_ hs
  unfold selfTestVerdict; extract_lets
  with_reducible repeat' first | exact .refl | refine .ite ?_ ?_ | refine State.setVerdict_in ?_ rfl | refine State.assertEvent_in ?_ rfl | refine State.lastingOutcome_in ?_ rfl | refine Within.countAt ?_ SAF_STAT.LASTING_part rfl | refine Within.modSaf ?_ rfl

/-! TestRows.lean -/

theorem State.loopRefuse_in {x0 x1 m s a} (h : Within m s a) (hs : 4194304 &&& m = 4194304) :
    Within m s (State.loopRefuse x0 x1 a) := by
  refine Within.step (m := 4194304) h ?_ hs
  unfold State.loopRefuse
  with_reducible repeat' first | exact .refl | refine Within.setFldAt ?_ (TST_LBSTAT.REASON_part ..) rfl | refine Within.setFldAt ?_ (TST_LBSTAT.STATE_part ..) rfl

theorem State.loopStart_in {x0 m s a} (h : Within m s a) (hs : 23222375478854534 &&& m = 23222375478854534) :
    Within m s (State.loopStart x0 a) := by
  refine Within.step (m := 23222375478854534) h ?_ hs
  unfold State.loopStart; extract_lets
  with_reducible repeat' first | exact .refl | refine .ite ?_ ?_ | refine State.reportUnit_in ?_ rfl | refine State.loopRefuse_in ?_ rfl | refine State.updateWp_in ?_ rfl | refine Within.setFldAt ?_ (PCI_LSTAT.LTSSM_part ..) rfl | refine Within.setFldAt ?_ (TST_LBBITS.BITS_part ..) rfl | refine Within.setFldAt ?_ (TST_LBLANE.LANES_part ..) rfl | refine Within.setFldAt ?_ (TST_LBSTAT.ERRORS_part ..) rfl | refine Within.setFldAt ?_ (TST_LBSTAT.REASON_part ..) rfl | refine Within.setFldAt ?_ (TST_LBSTAT.STATE_part ..) rfl | refine Within.modTst ?_ rfl

theorem State.loopEnd_in {x0 x1 x2 x3 x4 x5 m s a} (h : Within m s a) (hs : 61373343755932844 &&& m = 61373343755932844) :
    Within m s (State.loopEnd x0 x1 x2 x3 x4 x5 a) := by
  refine Within.step (m := 61373343755932844) h ?_ hs
  unfold State.loopEnd; extract_lets
  with_reducible repeat' first | exact .refl | refine .ite ?_ ?_ | refine State.updateWp_in ?_ rfl | refine State.loseLink_in ?_ rfl | refine Within.setFldAt ?_ (TST_LBBITS.BITS_part ..) rfl | refine Within.setFldAt ?_ (TST_LBLANE.LANES_part ..) rfl | refine Within.setFldAt ?_ (TST_LBSTAT.ERRORS_part ..) rfl | refine Within.setFldAt ?_ (TST_LBSTAT.REASON_part ..) rfl | refine Within.setFldAt ?_ (TST_LBSTAT.STATE_part ..) rfl | refine Within.modTst ?_ rfl | split

theorem State.storeLbctl_in {x0 x1 m s a} (h : Within m s a) (hs : 4194304 &&& m = 4194304) :
    Within m s (State.storeLbctl x0 x1 a) := by
  refine Within.step (m := 4194304) h ?_ hs
  unfold State.storeLbctl
  with_reducible repeat' first | exact .refl | refine Within.setFldAt ?_ (TST_LBCTL.DEPTH_part ..) rfl | refine Within.setFldAt ?_ (TST_LBCTL.DURATION_part ..) rfl | refine Within.setFldAt ?_ (TST_LBCTL.INDEX_part ..) rfl | refine Within.setFldAt ?_ (TST_LBCTL.INTF_part ..) rfl | refine Within.setFldAt ?_ (TST_LBCTL.PAT_part ..) rfl

theorem State.writeLbctl_in {x0 x1 x2 x3 x4 m s a} (h : Within m s a) (hs : 61514083391903662 &&& m = 61514083391903662) :
    Within m s (State.writeLbctl x0 x1 x2 x3 x4 a) := by
  refine Within.step (m := 61514083391903662) h ?_ hs
  unfold State.writeLbctl; extract_lets
  with_reducible repeat' first | exact .refl | refine .ite ?_ ?_ | refine State.loopStart_in ?_ rfl | refine State.loopEnd_in ?_ rfl | refine State.storeLbctl_in ?_ rfl

theorem loopbackStart_in {x0 x1 x2 m s a} (h : Within m s a) (hs : 61514083391903662 &&& m = 61514083391903662) :
    Within m s (loopbackStart x0 x1 x2 a) := by
  refine Within.step (m := 61514083391903662) h ?_ hs
  unfold loopbackStart
  with_reducible repeat' first | exact .refl | refine .ite ?_ ?_ | refine State.writeLbctl_in ?_ rfl | refine State.access_in ?_ (fun _ => ?_) rfl

theorem loopbackStop_in {x0 x1 x2 x3 x4 x5 m s a} (h : Within m s a) (hs : 61514083391903662 &&& m = 61514083391903662) :
    Within m s (loopbackStop x0 x1 x2 x3 x4 x5 a) := by
  refine Within.step (m := 61514083391903662) h ?_ hs
  unfold loopbackStop
  with_reducible repeat' first | exact .refl | refine .ite ?_ ?_ | refine State.writeLbctl_in ?_ rfl | refine State.access_in ?_ (fun _ => ?_) rfl

theorem loopbackDurationEnd_in {x0 x1 x2 x3 m s a} (h : Within m s a) (hs : 61373343755932844 &&& m = 61373343755932844) :
    Within m s (loopbackDurationEnd x0 x1 x2 x3 a) := by
  refine Within.step (m := 61373343755932844) h ?_ hs
  unfold loopbackDurationEnd
  with_reducible repeat' first | exact .refl | refine .ite ?_ ?_ | refine State.loopEnd_in ?_ rfl

theorem State.writeBist_in {x0 m s a} (h : Within m s a) (hs : 18014398513676288 &&& m = 18014398513676288) :
    Within m s (State.writeBist x0 a) := by
  refine Within.step (m := 18014398513676288) h ?_ hs
  unfold State.writeBist; extract_lets
  with_reducible repeat' first | exact .refl | refine .ite ?_ ?_ | refine Within.setFldAt ?_ TST_BIST.TARGET_part rfl | refine Within.setFldAt ?_ TST_BIST.TYPE_part rfl | refine Within.setFldAt ?_ TST_BISTRES.FIRST_part rfl | refine Within.setFldAt ?_ TST_BISTRES.NFAIL_part rfl | refine Within.putAt ?_ TST_BISTRES.PASS_part rfl | refine Within.setFldAt ?_ TST_BISTRES.STATE_part rfl | refine Within.modTst ?_ rfl

theorem bistStart_in {x0 x1 m s a} (h : Within m s a) (hs : 18014399067324416 &&& m = 18014399067324416) :
    Within m s (bistStart x0 x1 a) := by
  refine Within.step (m := 18014399067324416) h ?_ hs
  unfold bistStart
  with_reducible repeat' first | exact .refl | refine State.writeBist_in ?_ rfl | refine State.access_in ?_ (fun _ => ?_) rfl

theorem State.zeroRange_in {x0 x1 m s a} (h : Within m s a) (hs : 268435456 &&& m = 268435456) :
    Within m s (State.zeroRange x0 x1 a) := by
  refine Within.step (m := 268435456) h ?_ hs
  unfold State.zeroRange
  with_reducible repeat' first | exact .refl | (refine Within.modBusMem ?_ ?_ ?_ ?_; rotate_left; with_unfolding_all (exact (fun _ => rfl); exact (fun _ h => Tab.wf_filter _ _ h); rfl))

theorem bistDone_in {x0 x1 m s a} (h : Within m s a) (hs : 18014398782111744 &&& m = 18014398782111744) :
    Within m s (bistDone x0 x1 a) := by
  refine Within.step (m := 18014398782111744) h ?_ hs
  unfold bistDone; extract_lets
  with_reducible repeat' first | exact .refl | refine .ite ?_ ?_ | refine State.zeroRange_in ?_ rfl | refine Within.setFldAt ?_ TST_BISTRES.FIRST_part rfl | refine Within.setFldAt ?_ TST_BISTRES.NFAIL_part rfl | refine Within.putAt ?_ TST_BISTRES.PASS_part rfl | refine Within.setFldAt ?_ TST_BISTRES.STATE_part rfl | refine Within.modTst ?_ rfl | split

theorem State.writeDbg_in {x0 m s a} (h : Within m s a) (hs : 18014398513676288 &&& m = 18014398513676288) :
    Within m s (State.writeDbg x0 a) := by
  refine Within.step (m := 18014398513676288) h ?_ hs
  unfold State.writeDbg; extract_lets
  with_reducible repeat' first | exact .refl | refine .ite ?_ ?_ | refine Within.putAt ?_ TST_DBG.BUSY_part rfl | refine Within.modTst ?_ rfl

theorem debugUnlockRequest_in {x0 x1 m s a} (h : Within m s a) (hs : 18014399067324416 &&& m = 18014399067324416) :
    Within m s (debugUnlockRequest x0 x1 a) := by
  refine Within.step (m := 18014399067324416) h ?_ hs
  unfold debugUnlockRequest
  with_reducible repeat' first | exact .refl | refine State.writeDbg_in ?_ rfl | refine State.access_in ?_ (fun _ => ?_) rfl

theorem debugUnlockVerdict_in {x0 x1 m s a} (h : Within m s a) (hs : 35184376283136 &&& m = 35184376283136) :
    Within m s (debugUnlockVerdict x0 x1 a) := by
  refine Within.step (m := 35184376283136) h ?_ hs
  unfold debugUnlockVerdict; extract_lets
  with_reducible repeat' first | exact .refl | refine .ite ?_ ?_ | refine State.placeChallenge_in ?_ rfl | refine Within.putAt ?_ TST_DBG.BUSY_part rfl | refine Within.setFldAt ?_ TST_DBG.FAILS_part rfl | refine Within.setFldAt ?_ TST_DBG.UNLOCKED_part rfl

theorem State.haltHart_in {x0 m s a} (h : Within m s a) (hs : 18014398509481984 &&& m = 18014398509481984) :
    Within m s (State.haltHart x0 a) := by
  refine Within.step (m := 18014398509481984) h ?_ hs
  unfold State.haltHart
  with_reducible repeat' first | exact .refl | refine .ite ?_ ?_ | refine Within.modTst ?_ rfl

theorem debugHalt_in {x0 m s a} (h : Within m s a) (hs : 18014398509481984 &&& m = 18014398509481984) :
    Within m s (debugHalt x0 a) := by
  refine Within.step (m := 18014398509481984) h ?_ hs
  unfold debugHalt
  with_reducible repeat' first | exact .refl | refine State.haltHart_in ?_ rfl

theorem State.tap_in {x0 x1 x2 m s a} (h : Within m s a) (hs : 18014398509481984 &&& m = 18014398509481984) :
    Within m s (State.tap x0 x1 x2 a) := by
  refine Within.step (m := 18014398509481984) h ?_ hs
  unfold State.tap
  with_reducible repeat' first | exact .refl | refine Within.modTst ?_ rfl

theorem tapIdcode_in {m s a} (h : Within m s a) (hs : 18014398509481984 &&& m = 18014398509481984) :
    Within m s (tapIdcode a) := by
  refine Within.step (m := 18014398509481984) h ?_ hs
  unfold tapIdcode
  with_reducible repeat' first | exact .refl | refine State.tap_in ?_ rfl

theorem samplePreload_in {x0 m s a} (h : Within m s a) (hs : 18014398509481984 &&& m = 18014398509481984) :
    Within m s (samplePreload x0 a) := by
  refine Within.step (m := 18014398509481984) h ?_ hs
  unfold samplePreload
  with_reducible repeat' first | exact .refl | refine State.tap_in ?_ rfl | refine Within.modTst ?_ rfl

theorem State.tapDrive_in {x0 x1 m s a} (h : Within m s a) (hs : 18014398509481984 &&& m = 18014398509481984) :
    Within m s (State.tapDrive x0 x1 a) := by
  refine Within.step (m := 18014398509481984) h ?_ hs
  unfold State.tapDrive
  with_reducible repeat' first | exact .refl | refine State.tap_in ?_ rfl

theorem extest_in {m s a} (h : Within m s a) (hs : 18014398509481984 &&& m = 18014398509481984) :
    Within m s (extest a) := by
  refine Within.step (m := 18014398509481984) h ?_ hs
  unfold extest
  with_reducible repeat' first | exact .refl | refine State.tapDrive_in ?_ rfl

theorem highz_in {m s a} (h : Within m s a) (hs : 18014398509481984 &&& m = 18014398509481984) :
    Within m s (highz a) := by
  refine Within.step (m := 18014398509481984) h ?_ hs
  unfold highz
  with_reducible repeat' first | exact .refl | refine State.tapDrive_in ?_ rfl

theorem clamp_in {m s a} (h : Within m s a) (hs : 18014398509481984 &&& m = 18014398509481984) :
    Within m s (clamp a) := by
  refine Within.step (m := 18014398509481984) h ?_ hs
  unfold clamp
  with_reducible repeat' first | exact .refl | refine State.tapDrive_in ?_ rfl

theorem extestPulse_in {m s a} (h : Within m s a) (hs : 18014398509481984 &&& m = 18014398509481984) :
    Within m s (extestPulse a) := by
  refine Within.step (m := 18014398509481984) h ?_ hs
  unfold extestPulse
  with_reducible repeat' first | exact .refl | refine State.tapDrive_in ?_ rfl

theorem extestTrain_in {m s a} (h : Within m s a) (hs : 18014398509481984 &&& m = 18014398509481984) :
    Within m s (extestTrain a) := by
  refine Within.step (m := 18014398509481984) h ?_ hs
  unfold extestTrain
  with_reducible repeat' first | exact .refl | refine State.tapDrive_in ?_ rfl

theorem tapBypass_in {x0 m s a} (h : Within m s a) (hs : 18014398509481984 &&& m = 18014398509481984) :
    Within m s (tapBypass x0 a) := by
  refine Within.step (m := 18014398509481984) h ?_ hs
  unfold tapBypass
  with_reducible repeat' first | exact .refl | refine .ite ?_ ?_ | refine State.tap_in ?_ rfl

theorem dtmcs_in {x0 m s a} (h : Within m s a) (hs : 18014398509481984 &&& m = 18014398509481984) :
    Within m s (dtmcs x0 a) := by
  refine Within.step (m := 18014398509481984) h ?_ hs
  unfold dtmcs; extract_lets
  with_reducible repeat' first | exact .refl | refine .ite ?_ ?_ | refine State.tap_in ?_ rfl | refine Within.modTst ?_ rfl

theorem State.dmControl_in {x0 m s a} (h : Within m s a) (hs : 18014398509481984 &&& m = 18014398509481984) :
    Within m s (State.dmControl x0 a) := by
  refine Within.step (m := 18014398509481984) h ?_ hs
  unfold State.dmControl; extract_lets
  with_reducible repeat' first | exact .refl | refine .ite ?_ ?_ | refine State.haltHart_in ?_ rfl | refine Within.modTst ?_ rfl

theorem dmiAccess_in {x0 x1 x2 m s a} (h : Within m s a) (hs : 18014398509481984 &&& m = 18014398509481984) :
    Within m s (dmiAccess x0 x1 x2 a) := by
  refine Within.step (m := 18014398509481984) h ?_ hs
  unfold dmiAccess; extract_lets
  with_reducible repeat' first | exact .refl | refine .ite ?_ ?_ | refine State.tap_in ?_ rfl | refine State.dmControl_in ?_ rfl | refine Within.modTst ?_ rfl

/-! NvmeIo.lean -/

theorem read_in {x0 x1 x2 x3 x4 m s a} (h : Within m s a) (hs : 63031267783868415 &&& m = 63031267783868415) :
    Within m s (read x0 x1 x2 x3 x4 a) := by
  refine Within.step (m := 63031267783868415) h ?_ hs
  unfold read
  with_reducible repeat' first | exact .refl | refine State.admitReadCmd_in ?_ rfl

theorem write_in {x0 x1 x2 x3 x4 x5 m s a} (h : Within m s a) (hs : 63031267783868415 &&& m = 63031267783868415) :
    Within m s (write x0 x1 x2 x3 x4 x5 a) := by
  refine Within.step (m := 63031267783868415) h ?_ hs
  unfold write
  with_reducible repeat' first | exact .refl | refine State.admitPieceCmd_in ?_ rfl

theorem writeZeroes_in {x0 x1 x2 x3 x4 m s a} (h : Within m s a) (hs : 63031267783868415 &&& m = 63031267783868415) :
    Within m s (writeZeroes x0 x1 x2 x3 x4 a) := by
  refine Within.step (m := 63031267783868415) h ?_ hs
  unfold writeZeroes
  with_reducible repeat' first | exact .refl | refine State.admitPieceCmd_in ?_ rfl

theorem flush_in {x0 x1 m s a} (h : Within m s a) (hs : 63031267783868415 &&& m = 63031267783868415) :
    Within m s (flush x0 x1 a) := by
  refine Within.step (m := 63031267783868415) h ?_ hs
  unfold flush
  with_reducible repeat' first | exact .refl | refine State.admitFlush_in ?_ rfl

theorem verify_in {x0 x1 x2 x3 x4 m s a} (h : Within m s a) (hs : 63031267783868415 &&& m = 63031267783868415) :
    Within m s (verify x0 x1 x2 x3 x4 a) := by
  refine Within.step (m := 63031267783868415) h ?_ hs
  unfold verify
  with_reducible repeat' first | exact .refl | refine State.admitReadCmd_in ?_ rfl

theorem orderFence_in {x0 x1 m s a} (h : Within m s a) (hs : 63031267783868415 &&& m = 63031267783868415) :
    Within m s (orderFence x0 x1 a) := by
  refine Within.step (m := 63031267783868415) h ?_ hs
  unfold orderFence
  with_reducible repeat' first | exact .refl | refine State.admitFence_in ?_ rfl

theorem zoneAppend_in {x0 x1 x2 x3 x4 m s a} (h : Within m s a) (hs : 63031267783868415 &&& m = 63031267783868415) :
    Within m s (zoneAppend x0 x1 x2 x3 x4 a) := by
  refine Within.step (m := 63031267783868415) h ?_ hs
  unfold zoneAppend
  with_reducible repeat' first | exact .refl | refine State.admitPieceCmd_in ?_ rfl

theorem datasetManagement_in {x0 x1 x2 x3 m s a} (h : Within m s a) (hs : 63031267783868415 &&& m = 63031267783868415) :
    Within m s (datasetManagement x0 x1 x2 x3 a) := by
  refine Within.step (m := 63031267783868415) h ?_ hs
  unfold datasetManagement
  with_reducible repeat' first | exact .refl | refine State.admitDsm_in ?_ rfl

theorem ioManagementSend_in {x0 x1 x2 x3 m s a} (h : Within m s a) (hs : 63031267783868415 &&& m = 63031267783868415) :
    Within m s (ioManagementSend x0 x1 x2 x3 a) := by
  refine Within.step (m := 63031267783868415) h ?_ hs
  unfold ioManagementSend
  with_reducible repeat' first | exact .refl | refine State.admitIoSend_in ?_ rfl

theorem ioManagementReceive_in {x0 x1 x2 m s a} (h : Within m s a) (hs : 63031267783868415 &&& m = 63031267783868415) :
    Within m s (ioManagementReceive x0 x1 x2 a) := by
  refine Within.step (m := 63031267783868415) h ?_ hs
  unfold ioManagementReceive
  with_reducible repeat' first | exact .refl | refine State.admitIoReceive_in ?_ rfl

theorem zoneOpen_in {x0 x1 x2 x3 m s a} (h : Within m s a) (hs : 63031267783868415 &&& m = 63031267783868415) :
    Within m s (zoneOpen x0 x1 x2 x3 a) := by
  refine Within.step (m := 63031267783868415) h ?_ hs
  unfold zoneOpen
  with_reducible repeat' first | exact .refl | refine State.admitZone_in ?_ rfl

theorem zoneClose_in {x0 x1 x2 x3 m s a} (h : Within m s a) (hs : 63031267783868415 &&& m = 63031267783868415) :
    Within m s (zoneClose x0 x1 x2 x3 a) := by
  refine Within.step (m := 63031267783868415) h ?_ hs
  unfold zoneClose
  with_reducible repeat' first | exact .refl | refine State.admitZone_in ?_ rfl

theorem zoneFinish_in {x0 x1 x2 x3 m s a} (h : Within m s a) (hs : 63031267783868415 &&& m = 63031267783868415) :
    Within m s (zoneFinish x0 x1 x2 x3 a) := by
  refine Within.step (m := 63031267783868415) h ?_ hs
  unfold zoneFinish
  with_reducible repeat' first | exact .refl | refine State.admitZone_in ?_ rfl

theorem zoneReset_in {x0 x1 x2 x3 m s a} (h : Within m s a) (hs : 63031267783868415 &&& m = 63031267783868415) :
    Within m s (zoneReset x0 x1 x2 x3 a) := by
  refine Within.step (m := 63031267783868415) h ?_ hs
  unfold zoneReset
  with_reducible repeat' first | exact .refl | refine State.admitZone_in ?_ rfl

theorem zoneOffline_in {x0 x1 x2 x3 m s a} (h : Within m s a) (hs : 63031267783868415 &&& m = 63031267783868415) :
    Within m s (zoneOffline x0 x1 x2 x3 a) := by
  refine Within.step (m := 63031267783868415) h ?_ hs
  unfold zoneOffline
  with_reducible repeat' first | exact .refl | refine State.admitZone_in ?_ rfl

theorem zoneManagementReceive_in {x0 x1 x2 x3 x4 x5 x6 m s a} (h : Within m s a) (hs : 63031267783868415 &&& m = 63031267783868415) :
    Within m s (zoneManagementReceive x0 x1 x2 x3 x4 x5 x6 a) := by
  refine Within.step (m := 63031267783868415) h ?_ hs
  unfold zoneManagementReceive
  with_reducible repeat' first | exact .refl | refine State.admitReceive_in ?_ rfl

/-! NvmeAdmin.lean -/

theorem identify_in {x0 x1 x2 x3 x4 m s a} (h : Within m s a) (hs : 63031267783868415 &&& m = 63031267783868415) :
    Within m s (identify x0 x1 x2 x3 x4 a) := by
  refine Within.step (m := 63031267783868415) h ?_ hs
  unfold identify
  with_reducible repeat' first | exact .refl | refine State.admitAdmin_in ?_ rfl

theorem getLogPage_in {x0 x1 x2 x3 x4 x5 m s a} (h : Within m s a) (hs : 63031267783868415 &&& m = 63031267783868415) :
    Within m s (getLogPage x0 x1 x2 x3 x4 x5 a) := by
  refine Within.step (m := 63031267783868415) h ?_ hs
  unfold getLogPage
  with_reducible repeat' first | exact .refl | refine State.admitAdmin_in ?_ rfl

theorem lostStripesLog_in {x0 x1 x2 m s a} (h : Within m s a) (hs : 63031267783868415 &&& m = 63031267783868415) :
    Within m s (lostStripesLog x0 x1 x2 a) := by
  refine Within.step (m := 63031267783868415) h ?_ hs
  unfold lostStripesLog
  with_reducible repeat' first | exact .refl | refine State.admitAdmin_in ?_ rfl

theorem tallySnapshotLog_in {x0 x1 x2 x3 x4 m s a} (h : Within m s a) (hs : 63031267783868415 &&& m = 63031267783868415) :
    Within m s (tallySnapshotLog x0 x1 x2 x3 x4 a) := by
  refine Within.step (m := 63031267783868415) h ?_ hs
  unfold tallySnapshotLog
  with_reducible repeat' first | exact .refl | refine State.admitAdmin_in ?_ rfl

theorem eventRecorderWindowLog_in {x0 x1 x2 m s a} (h : Within m s a) (hs : 63031267783868415 &&& m = 63031267783868415) :
    Within m s (eventRecorderWindowLog x0 x1 x2 a) := by
  refine Within.step (m := 63031267783868415) h ?_ hs
  unfold eventRecorderWindowLog
  with_reducible repeat' first | exact .refl | refine State.admitAdmin_in ?_ rfl

theorem createIoSubmissionQueue_in {x0 x1 x2 x3 x4 m s a} (h : Within m s a) (hs : 63031267783868415 &&& m = 63031267783868415) :
    Within m s (createIoSubmissionQueue x0 x1 x2 x3 x4 a) := by
  refine Within.step (m := 63031267783868415) h ?_ hs
  unfold createIoSubmissionQueue
  with_reducible repeat' first | exact .refl | refine State.admitAdmin_in ?_ rfl

theorem createIoCompletionQueue_in {x0 x1 x2 x3 x4 m s a} (h : Within m s a) (hs : 63031267783868415 &&& m = 63031267783868415) :
    Within m s (createIoCompletionQueue x0 x1 x2 x3 x4 a) := by
  refine Within.step (m := 63031267783868415) h ?_ hs
  unfold createIoCompletionQueue
  with_reducible repeat' first | exact .refl | refine State.admitAdmin_in ?_ rfl

theorem deleteIoSubmissionQueue_in {x0 x1 m s a} (h : Within m s a) (hs : 63031267783868415 &&& m = 63031267783868415) :
    Within m s (deleteIoSubmissionQueue x0 x1 a) := by
  refine Within.step (m := 63031267783868415) h ?_ hs
  unfold deleteIoSubmissionQueue
  with_reducible repeat' first | exact .refl | refine State.admitAdmin_in ?_ rfl

theorem deleteIoCompletionQueue_in {x0 x1 m s a} (h : Within m s a) (hs : 63031267783868415 &&& m = 63031267783868415) :
    Within m s (deleteIoCompletionQueue x0 x1 a) := by
  refine Within.step (m := 63031267783868415) h ?_ hs
  unfold deleteIoCompletionQueue
  with_reducible repeat' first | exact .refl | refine State.admitAdmin_in ?_ rfl

theorem setFeatures_in {x0 x1 x2 x3 x4 x5 x6 m s a} (h : Within m s a) (hs : 63031267783868415 &&& m = 63031267783868415) :
    Within m s (setFeatures x0 x1 x2 x3 x4 x5 x6 a) := by
  refine Within.step (m := 63031267783868415) h ?_ hs
  unfold setFeatures
  with_reducible repeat' first | exact .refl | refine State.admitAdmin_in ?_ rfl

theorem getFeatures_in {x0 x1 x2 x3 x4 m s a} (h : Within m s a) (hs : 63031267783868415 &&& m = 63031267783868415) :
    Within m s (getFeatures x0 x1 x2 x3 x4 a) := by
  refine Within.step (m := 63031267783868415) h ?_ hs
  unfold getFeatures
  with_reducible repeat' first | exact .refl | refine State.admitAdmin_in ?_ rfl

theorem setNumberOfQueues_in {x0 x1 x2 m s a} (h : Within m s a) (hs : 63031267783868415 &&& m = 63031267783868415) :
    Within m s (setNumberOfQueues x0 x1 x2 a) := by
  refine Within.step (m := 63031267783868415) h ?_ hs
  unfold setNumberOfQueues
  with_reducible repeat' first | exact .refl | refine State.admitAdmin_in ?_ rfl

theorem setPowerManagement_in {x0 x1 m s a} (h : Within m s a) (hs : 63031267783868415 &&& m = 63031267783868415) :
    Within m s (setPowerManagement x0 x1 a) := by
  refine Within.step (m := 63031267783868415) h ?_ hs
  unfold setPowerManagement
  with_reducible repeat' first | exact .refl | refine State.admitAdmin_in ?_ rfl

theorem setQueueOrdering_in {x0 x1 x2 m s a} (h : Within m s a) (hs : 63031267783868415 &&& m = 63031267783868415) :
    Within m s (setQueueOrdering x0 x1 x2 a) := by
  refine Within.step (m := 63031267783868415) h ?_ hs
  unfold setQueueOrdering
  with_reducible repeat' first | exact .refl | refine State.admitAdmin_in ?_ rfl

theorem getQueueOrdering_in {x0 x1 m s a} (h : Within m s a) (hs : 63031267783868415 &&& m = 63031267783868415) :
    Within m s (getQueueOrdering x0 x1 a) := by
  refine Within.step (m := 63031267783868415) h ?_ hs
  unfold getQueueOrdering
  with_reducible repeat' first | exact .refl | refine State.admitAdmin_in ?_ rfl

theorem setFunctionWeights_in {x0 x1 x2 m s a} (h : Within m s a) (hs : 63031267783868415 &&& m = 63031267783868415) :
    Within m s (setFunctionWeights x0 x1 x2 a) := by
  refine Within.step (m := 63031267783868415) h ?_ hs
  unfold setFunctionWeights
  with_reducible repeat' first | exact .refl | refine State.admitAdmin_in ?_ rfl

theorem getFunctionWeights_in {x0 x1 x2 m s a} (h : Within m s a) (hs : 63031267783868415 &&& m = 63031267783868415) :
    Within m s (getFunctionWeights x0 x1 x2 a) := by
  refine Within.step (m := 63031267783868415) h ?_ hs
  unfold getFunctionWeights
  with_reducible repeat' first | exact .refl | refine State.admitAdmin_in ?_ rfl

theorem setTailClass_in {x0 x1 m s a} (h : Within m s a) (hs : 63031267783868415 &&& m = 63031267783868415) :
    Within m s (setTailClass x0 x1 a) := by
  refine Within.step (m := 63031267783868415) h ?_ hs
  unfold setTailClass
  with_reducible repeat' first | exact .refl | refine State.admitAdmin_in ?_ rfl

theorem getTailClass_in {x0 x1 m s a} (h : Within m s a) (hs : 63031267783868415 &&& m = 63031267783868415) :
    Within m s (getTailClass x0 x1 a) := by
  refine Within.step (m := 63031267783868415) h ?_ hs
  unfold getTailClass
  with_reducible repeat' first | exact .refl | refine State.admitAdmin_in ?_ rfl

theorem setFdp_in {x0 x1 x2 m s a} (h : Within m s a) (hs : 63031267783868415 &&& m = 63031267783868415) :
    Within m s (setFdp x0 x1 x2 a) := by
  refine Within.step (m := 63031267783868415) h ?_ hs
  unfold setFdp
  with_reducible repeat' first | exact .refl | refine State.admitAdmin_in ?_ rfl

theorem abort_in {x0 x1 x2 m s a} (h : Within m s a) (hs : 63031267783868415 &&& m = 63031267783868415) :
    Within m s (abort x0 x1 x2 a) := by
  refine Within.step (m := 63031267783868415) h ?_ hs
  unfold abort
  with_reducible repeat' first | exact .refl | refine State.admitAdmin_in ?_ rfl

theorem asynchronousEventRequest_in {x0 m s a} (h : Within m s a) (hs : 63031267783868415 &&& m = 63031267783868415) :
    Within m s (asynchronousEventRequest x0 a) := by
  refine Within.step (m := 63031267783868415) h ?_ hs
  unfold asynchronousEventRequest
  with_reducible repeat' first | exact .refl | refine State.admitAdmin_in ?_ rfl

theorem namespaceCreate_in {x0 x1 m s a} (h : Within m s a) (hs : 63031267783868415 &&& m = 63031267783868415) :
    Within m s (namespaceCreate x0 x1 a) := by
  refine Within.step (m := 63031267783868415) h ?_ hs
  unfold namespaceCreate
  with_reducible repeat' first | exact .refl | refine State.admitAdmin_in ?_ rfl

theorem namespaceDelete_in {x0 x1 m s a} (h : Within m s a) (hs : 63031267783868415 &&& m = 63031267783868415) :
    Within m s (namespaceDelete x0 x1 a) := by
  refine Within.step (m := 63031267783868415) h ?_ hs
  unfold namespaceDelete
  with_reducible repeat' first | exact .refl | refine State.admitAdmin_in ?_ rfl

theorem namespaceAttachment_in {x0 x1 x2 x3 m s a} (h : Within m s a) (hs : 63031267783868415 &&& m = 63031267783868415) :
    Within m s (namespaceAttachment x0 x1 x2 x3 a) := by
  refine Within.step (m := 63031267783868415) h ?_ hs
  unfold namespaceAttachment
  with_reducible repeat' first | exact .refl | refine State.admitAdmin_in ?_ rfl

theorem formatNvm_in {x0 x1 x2 x3 x4 x5 m s a} (h : Within m s a) (hs : 63031267783868415 &&& m = 63031267783868415) :
    Within m s (formatNvm x0 x1 x2 x3 x4 x5 a) := by
  refine Within.step (m := 63031267783868415) h ?_ hs
  unfold formatNvm
  with_reducible repeat' first | exact .refl | refine State.admitAdmin_in ?_ rfl

theorem firmwareImageDownload_in {x0 x1 x2 x3 m s a} (h : Within m s a) (hs : 63031267783868415 &&& m = 63031267783868415) :
    Within m s (firmwareImageDownload x0 x1 x2 x3 a) := by
  refine Within.step (m := 63031267783868415) h ?_ hs
  unfold firmwareImageDownload
  with_reducible repeat' first | exact .refl | refine State.admitAdmin_in ?_ rfl

theorem firmwareCommit_in {x0 x1 x2 m s a} (h : Within m s a) (hs : 63031267783868415 &&& m = 63031267783868415) :
    Within m s (firmwareCommit x0 x1 x2 a) := by
  refine Within.step (m := 63031267783868415) h ?_ hs
  unfold firmwareCommit
  with_reducible repeat' first | exact .refl | refine State.admitAdmin_in ?_ rfl

theorem deviceSelfTest_in {x0 x1 x2 m s a} (h : Within m s a) (hs : 63031267783868415 &&& m = 63031267783868415) :
    Within m s (deviceSelfTest x0 x1 x2 a) := by
  refine Within.step (m := 63031267783868415) h ?_ hs
  unfold deviceSelfTest
  with_reducible repeat' first | exact .refl | refine State.admitAdmin_in ?_ rfl

theorem sanitizeBlockErase_in {x0 m s a} (h : Within m s a) (hs : 63031267783868415 &&& m = 63031267783868415) :
    Within m s (sanitizeBlockErase x0 a) := by
  refine Within.step (m := 63031267783868415) h ?_ hs
  unfold sanitizeBlockErase
  with_reducible repeat' first | exact .refl | refine State.admitAdmin_in ?_ rfl

theorem sanitizeCryptoErase_in {x0 m s a} (h : Within m s a) (hs : 63031267783868415 &&& m = 63031267783868415) :
    Within m s (sanitizeCryptoErase x0 a) := by
  refine Within.step (m := 63031267783868415) h ?_ hs
  unfold sanitizeCryptoErase
  with_reducible repeat' first | exact .refl | refine State.admitAdmin_in ?_ rfl

theorem nvmeMiSend_in {x0 x1 m s a} (h : Within m s a) (hs : 63031267783868415 &&& m = 63031267783868415) :
    Within m s (nvmeMiSend x0 x1 a) := by
  refine Within.step (m := 63031267783868415) h ?_ hs
  unfold nvmeMiSend
  with_reducible repeat' first | exact .refl | refine State.admitAdmin_in ?_ rfl

theorem nvmeMiReceive_in {x0 m s a} (h : Within m s a) (hs : 63031267783868415 &&& m = 63031267783868415) :
    Within m s (nvmeMiReceive x0 a) := by
  refine Within.step (m := 63031267783868415) h ?_ hs
  unfold nvmeMiReceive
  with_reducible repeat' first | exact .refl | refine State.admitAdmin_in ?_ rfl

theorem dictionaryRead_in {x0 x1 x2 x3 m s a} (h : Within m s a) (hs : 63031267783868415 &&& m = 63031267783868415) :
    Within m s (dictionaryRead x0 x1 x2 x3 a) := by
  refine Within.step (m := 63031267783868415) h ?_ hs
  unfold dictionaryRead
  with_reducible repeat' first | exact .refl | refine State.admitAdmin_in ?_ rfl

theorem dictionaryWrite_in {x0 x1 x2 x3 x4 m s a} (h : Within m s a) (hs : 63031267783868415 &&& m = 63031267783868415) :
    Within m s (dictionaryWrite x0 x1 x2 x3 x4 a) := by
  refine Within.step (m := 63031267783868415) h ?_ hs
  unfold dictionaryWrite
  with_reducible repeat' first | exact .refl | refine State.admitAdmin_in ?_ rfl

/-! Pipeline.lean -/

theorem admitInstr_in {x0 m s a} (h : Within m s a) (hs : 63031267783868415 &&& m = 63031267783868415) :
    Within m s (admitInstr x0 a) := by
  refine Within.step (m := 63031267783868415) h ?_ hs
  unfold admitInstr
  with_reducible repeat' first | exact .refl | refine zoneReset_in ?_ rfl | refine abort_in ?_ rfl | refine nvmeMiReceive_in ?_ rfl | refine namespaceDelete_in ?_ rfl | refine firmwareCommit_in ?_ rfl | refine namespaceAttachment_in ?_ rfl | refine nvmeMiSend_in ?_ rfl | refine getFeatures_in ?_ rfl | refine getFunctionWeights_in ?_ rfl | refine zoneOffline_in ?_ rfl | refine getQueueOrdering_in ?_ rfl | refine orderFence_in ?_ rfl | refine verify_in ?_ rfl | refine setFeatures_in ?_ rfl | refine setPowerManagement_in ?_ rfl | refine asynchronousEventRequest_in ?_ rfl | refine eventRecorderWindowLog_in ?_ rfl | refine zoneFinish_in ?_ rfl | refine zoneAppend_in ?_ rfl | refine getLogPage_in ?_ rfl | refine setTailClass_in ?_ rfl | refine deleteIoCompletionQueue_in ?_ rfl | refine setFunctionWeights_in ?_ rfl | refine ioManagementSend_in ?_ rfl | refine identify_in ?_ rfl | refine zoneClose_in ?_ rfl | refine createIoCompletionQueue_in ?_ rfl | refine deleteIoSubmissionQueue_in ?_ rfl | refine setNumberOfQueues_in ?_ rfl | refine read_in ?_ rfl | refine zoneManagementReceive_in ?_ rfl | refine setQueueOrdering_in ?_ rfl | refine createIoSubmissionQueue_in ?_ rfl | refine setFdp_in ?_ rfl | refine getTailClass_in ?_ rfl | refine namespaceCreate_in ?_ rfl | refine formatNvm_in ?_ rfl | refine datasetManagement_in ?_ rfl | refine ioManagementReceive_in ?_ rfl | refine lostStripesLog_in ?_ rfl | refine deviceSelfTest_in ?_ rfl | refine sanitizeBlockErase_in ?_ rfl | refine write_in ?_ rfl | refine flush_in ?_ rfl | refine dictionaryWrite_in ?_ rfl | refine tallySnapshotLog_in ?_ rfl | refine dictionaryRead_in ?_ rfl | refine sanitizeCryptoErase_in ?_ rfl | refine zoneOpen_in ?_ rfl | refine firmwareImageDownload_in ?_ rfl | refine writeZeroes_in ?_ rfl | split

theorem State.admitFail_in {x0 x1 x2 x3 m s a} (h : Within m s a) (hs : 63031267783868415 &&& m = 63031267783868415) :
    Within m s (State.admitFail x0 x1 x2 x3 a) := by
  refine Within.step (m := 63031267783868415) h ?_ hs
  unfold State.admitFail
  with_reducible repeat' first | exact .refl | refine State.afterAdmit_in ?_ rfl | refine State.outcome_in ?_ rfl | refine State.takeEntry_in ?_ rfl | split

theorem admission_in {x0 m s a} (h : Within m s a) (hs : 63031267783868415 &&& m = 63031267783868415) :
    Within m s (admission x0 a) := by
  refine Within.step (m := 63031267783868415) h ?_ hs
  unfold admission
  with_reducible repeat' first | exact .refl | refine .ite ?_ ?_ | refine admitInstr_in ?_ rfl | refine State.admitFail_in ?_ rfl | refine Within.modFree ?_ rfl | extract_lets | split | dsimp +zetaDelta only

theorem commandDispatch_in {m s a} (h : Within m s a) (hs : 63031267783868415 &&& m = 63031267783868415) :
    Within m s (commandDispatch a) := by
  refine Within.step (m := 63031267783868415) h ?_ hs
  unfold commandDispatch
  with_reducible repeat' first | exact .refl | refine State.dispatchNext_in ?_ rfl | refine State.settle_in ?_ rfl

theorem State.noteRequests_in {x0 x1 m s a} (h : Within m s a) (hs : 4294967296 &&& m = 4294967296) :
    Within m s (State.noteRequests x0 x1 a) := by
  refine Within.step (m := 4294967296) h ?_ hs
  unfold State.noteRequests
  with_reducible repeat' first | exact .refl | refine State.modPort_in ?_ rfl

theorem hostDataFetch_in {x0 x1 x2 x3 x4 m s a} (h : Within m s a) (hs : 52366007060157992 &&& m = 52366007060157992) :
    Within m s (hostDataFetch x0 x1 x2 x3 x4 a) := by
  refine Within.step (m := 52366007060157992) h ?_ hs
  unfold hostDataFetch
  with_reducible repeat' first | exact .refl | refine .ite ?_ ?_ | refine State.fetchPiece_in ?_ rfl | refine State.settle_in ?_ rfl | refine State.askChain_in ?_ rfl | refine State.zeroPiece_in ?_ rfl | refine State.pieceChain_in ‹_› ?_ rfl | refine State.noteRequests_in ?_ rfl | refine State.pieceBind_in ‹_› ?_ rfl | extract_lets | split | dsimp +zetaDelta only

theorem pieceDispatch_in {x0 x1 m s a} (h : Within m s a) (hs : 43358803508335712 &&& m = 43358803508335712) :
    Within m s (pieceDispatch x0 x1 a) := by
  refine Within.step (m := 43358803508335712) h ?_ hs
  unfold pieceDispatch
  with_reducible repeat' first | exact .refl | refine .ite ?_ ?_ | refine State.placePiece_in ?_ rfl | refine State.zeroPiece_in ?_ rfl | split

theorem pieceCommit_in {x0 x1 m s a} (h : Within m s a) (hs : 43358803508335648 &&& m = 43358803508335648) :
    Within m s (pieceCommit x0 x1 a) := by
  refine Within.step (m := 43358803508335648) h ?_ hs
  unfold pieceCommit
  with_reducible repeat' first | exact .refl | refine .ite ?_ ?_ | refine State.settle_in ?_ rfl | refine State.commitPiece_in ?_ rfl | split

/-! Mi.lean -/

theorem State.sendAdmin_in {x0 x1 x2 x3 m s a} (h : Within m s a) (hs : 1125899906842624 &&& m = 1125899906842624) :
    Within m s (State.sendAdmin x0 x1 x2 x3 a) := by
  refine Within.step (m := 1125899906842624) h ?_ hs
  unfold State.sendAdmin
  with_reducible repeat' first | exact .refl | refine State.sendMi_in ?_ rfl

theorem State.miDictWrite_in {x0 x1 x2 x3 m s a} (h : Within m s a) (hs : 63020272600481791 &&& m = 63020272600481791) :
    Within m s (State.miDictWrite x0 x1 x2 x3 a) := by
  refine Within.step (m := 63020272600481791) h ?_ hs
  unfold State.miDictWrite; extract_lets
  with_reducible repeat' first | exact .refl | refine .ite ?_ ?_ | refine State.holdAnswer_in ?_ rfl | refine State.dictPut_in ?_ rfl | refine State.sendAdmin_in ?_ rfl

theorem nvmeAdminCommand_in {x0 x1 m s a} (h : Within m s a) (hs : 63020272667590655 &&& m = 63020272667590655) :
    Within m s (nvmeAdminCommand x0 x1 a) := by
  refine Within.step (m := 63020272667590655) h ?_ hs
  unfold nvmeAdminCommand; extract_lets
  with_reducible repeat' first | exact .refl | refine .ite ?_ ?_ | refine State.tookFree_in ?_ rfl | refine State.sendMi_in ?_ rfl | refine State.readLog_in ?_ rfl | refine State.sendAdmin_in ?_ rfl | refine State.miDictWrite_in ?_ rfl | extract_lets | split | dsimp +zetaDelta only

/-! Network.lean -/

theorem mgtRead_in {x0 x1 m s a} (h : Within m s a) (hs : 63020272600481791 &&& m = 63020272600481791) :
    Within m s (mgtRead x0 x1 a) := by
  refine Within.step (m := 63020272600481791) h ?_ hs
  unfold mgtRead
  with_reducible repeat' first | exact .refl | refine State.writeFreq_in ?_ rfl | refine State.access_in ?_ (fun _ => ?_) rfl

theorem mgtWrite_in {x0 x1 m s a} (h : Within m s a) (hs : 63020272600481791 &&& m = 63020272600481791) :
    Within m s (mgtWrite x0 x1 a) := by
  refine Within.step (m := 63020272600481791) h ?_ hs
  unfold mgtWrite
  with_reducible repeat' first | exact .refl | refine State.writeFreq_in ?_ rfl | refine State.access_in ?_ (fun _ => ?_) rfl

theorem frameReject_in {x0 x1 x2 x3 m s a} (h : Within m s a) (hs : 262144 &&& m = 262144) :
    Within m s (frameReject x0 x1 x2 x3 a) := by
  refine Within.step (m := 262144) h ?_ hs
  unfold frameReject
  with_reducible repeat' first | exact .refl | refine .ite ?_ ?_ | refine Within.countAt ?_ MGT_NETCNT.RXERR_part rfl

theorem esnexRead_in {x0 x1 x2 m s a} (h : Within m s a) (hs : 6509659146158080 &&& m = 6509659146158080) :
    Within m s (esnexRead x0 x1 x2 a) := by
  refine Within.step (m := 6509659146158080) h ?_ hs
  unfold esnexRead
  with_reducible repeat' first | exact .refl | refine State.runRead_in ?_ rfl | refine State.frame_in ?_ (fun _ _ => ?_) rfl

theorem esnexWrite_in {x0 x1 x2 x3 x4 m s a} (h : Within m s a) (hs : 63020272600481791 &&& m = 63020272600481791) :
    Within m s (esnexWrite x0 x1 x2 x3 x4 a) := by
  refine Within.step (m := 63020272600481791) h ?_ hs
  unfold esnexWrite
  with_reducible repeat' first | exact .refl | refine State.runWrite_in ?_ rfl | refine State.frame_in ?_ (fun _ _ => ?_) rfl

theorem readBlock_in {x0 x1 x2 x3 x4 m s a} (h : Within m s a) (hs : 6509659146158080 &&& m = 6509659146158080) :
    Within m s (readBlock x0 x1 x2 x3 x4 a) := by
  refine Within.step (m := 6509659146158080) h ?_ hs
  unfold readBlock
  with_reducible repeat' first | exact .refl | refine State.runReadBlock_in ?_ rfl | refine State.frame_in ?_ (fun _ _ => ?_) rfl

theorem writeBlock_in {x0 x1 x2 x3 x4 x5 m s a} (h : Within m s a) (hs : 63020272600481791 &&& m = 63020272600481791) :
    Within m s (writeBlock x0 x1 x2 x3 x4 x5 a) := by
  refine Within.step (m := 63020272600481791) h ?_ hs
  unfold writeBlock
  with_reducible repeat' first | exact .refl | refine State.runWriteBlock_in ?_ rfl | refine State.frame_in ?_ (fun _ _ => ?_) rfl

theorem notify_in {x0 x1 m s a} (h : Within m s a) (hs : 5067102037999616 &&& m = 5067102037999616) :
    Within m s (notify x0 x1 a) := by
  refine Within.step (m := 5067102037999616) h ?_ hs
  unfold notify
  with_reducible repeat' first | exact .refl | refine .ite ?_ ?_ | refine State.dropFrame_in ?_ rfl | refine State.assertEvent_in ?_ rfl | refine Within.modBell ?_ rfl

theorem snapshot_in {x0 m s a} (h : Within m s a) (hs : 8761458959843328 &&& m = 8761458959843328) :
    Within m s (snapshot x0 a) := by
  refine Within.step (m := 8761458959843328) h ?_ hs
  unfold snapshot
  with_reducible repeat' first | exact .refl | refine State.runSnapshot_in ?_ rfl | refine State.frame_in ?_ (fun _ _ => ?_) rfl

theorem sessionOpen_in {x0 x1 x2 m s a} (h : Within m s a) (hs : 6509659146158080 &&& m = 6509659146158080) :
    Within m s (sessionOpen x0 x1 x2 a) := by
  refine Within.step (m := 6509659146158080) h ?_ hs
  unfold sessionOpen
  with_reducible repeat' first | exact .refl | refine State.runOpen_in ?_ rfl | refine State.frame_in ?_ (fun _ _ => ?_) rfl

theorem sessionClose_in {x0 m s a} (h : Within m s a) (hs : 6509659146158080 &&& m = 6509659146158080) :
    Within m s (sessionClose x0 a) := by
  refine Within.step (m := 6509659146158080) h ?_ hs
  unfold sessionClose; extract_lets
  with_reducible repeat' first | exact .refl | refine .ite ?_ ?_ | refine State.closeSession_in ?_ rfl | refine State.frame_in ?_ (fun _ _ => ?_) rfl | refine State.runClose_in ?_ rfl

theorem configRecordWriteDone_in {m s a} (h : Within m s a) (hs : 44519887787529248 &&& m = 44519887787529248) :
    Within m s (configRecordWriteDone a) := by
  refine Within.step (m := 44519887787529248) h ?_ hs
  unfold configRecordWriteDone
  with_reducible repeat' first | exact .refl | refine State.recordDone_in ?_ rfl

theorem configCopyTimeout_in {x0 m s a} (h : Within m s a) (hs : 44519887787529248 &&& m = 44519887787529248) :
    Within m s (configCopyTimeout x0 a) := by
  refine Within.step (m := 44519887787529248) h ?_ hs
  unfold configCopyTimeout
  with_reducible repeat' first | exact .refl | refine State.recordFailed_in ?_ rfl

theorem stagingExpire_in {x0 m s a} (h : Within m s a) (hs : 1125899906842624 &&& m = 1125899906842624) :
    Within m s (stagingExpire x0 a) := by
  refine Within.step (m := 1125899906842624) h ?_ hs
  unfold stagingExpire
  with_reducible repeat' first | exact .refl | refine State.dropStage_in ?_ rfl

theorem sessionIdleExpire_in {x0 m s a} (h : Within m s a) (hs : 6228184169185280 &&& m = 6228184169185280) :
    Within m s (sessionIdleExpire x0 a) := by
  refine Within.step (m := 6228184169185280) h ?_ hs
  unfold sessionIdleExpire
  with_reducible repeat' first | exact .refl | refine State.closeSession_in ?_ rfl

theorem networkDownTimeout_in {m s a} (h : Within m s a) (hs : 23081498404192256 &&& m = 23081498404192256) :
    Within m s (networkDownTimeout a) := by
  refine Within.step (m := 23081498404192256) h ?_ hs
  unfold networkDownTimeout
  with_reducible repeat' first | exact .refl | refine .ite ?_ ?_ | refine State.assertEvent_in ?_ rfl | refine State.endNetLoops_in ?_ rfl | refine Within.putAt ?_ MGT_STAT.NETUP_part rfl

theorem mctpMessage_in {x0 x1 x2 m s a} (h : Within m s a) (hs : 6192999797096448 &&& m = 6192999797096448) :
    Within m s (mctpMessage x0 x1 x2 a) := by
  refine Within.step (m := 6192999797096448) h ?_ hs
  unfold mctpMessage
  with_reducible repeat' first | exact .refl | refine .ite ?_ ?_ | refine State.sendMi_in ?_ rfl | refine State.assertEvent_in ?_ rfl | (refine Within.modMgtRest ?_ ?_ ?_; rotate_left; with_unfolding_all (exact (fun _ => ⟨rfl, rfl, rfl, rfl⟩); rfl)) | extract_lets | split

theorem readNvmeMiDataStructure_in {x0 m s a} (h : Within m s a) (hs : 1125899973951488 &&& m = 1125899973951488) :
    Within m s (readNvmeMiDataStructure x0 a) := by
  refine Within.step (m := 1125899973951488) h ?_ hs
  unfold readNvmeMiDataStructure
  with_reducible repeat' first | exact .refl | refine .ite ?_ ?_ | refine State.sendMi_in ?_ rfl | refine State.tookFree_in ?_ rfl

theorem nvmSubsystemHealthStatusPoll_in {m s a} (h : Within m s a) (hs : 1125899906842624 &&& m = 1125899906842624) :
    Within m s (nvmSubsystemHealthStatusPoll a) := by
  refine Within.step (m := 1125899906842624) h ?_ hs
  unfold nvmSubsystemHealthStatusPoll
  with_reducible repeat' first | exact .refl | refine State.sendMi_in ?_ rfl

theorem controllerHealthStatusPoll_in {x0 m s a} (h : Within m s a) (hs : 1125899906842624 &&& m = 1125899906842624) :
    Within m s (controllerHealthStatusPoll x0 a) := by
  refine Within.step (m := 1125899906842624) h ?_ hs
  unfold controllerHealthStatusPoll
  with_reducible repeat' first | exact .refl | refine .ite ?_ ?_ | refine State.sendMi_in ?_ rfl

theorem configurationGet_in {x0 m s a} (h : Within m s a) (hs : 1125899906842624 &&& m = 1125899906842624) :
    Within m s (configurationGet x0 a) := by
  refine Within.step (m := 1125899906842624) h ?_ hs
  unfold configurationGet
  with_reducible repeat' first | exact .refl | refine .ite ?_ ?_ | refine State.sendMi_in ?_ rfl

theorem configurationSet_in {x0 x1 m s a} (h : Within m s a) (hs : 1125899906842624 &&& m = 1125899906842624) :
    Within m s (configurationSet x0 x1 a) := by
  refine Within.step (m := 1125899906842624) h ?_ hs
  unfold configurationSet
  with_reducible repeat' first | exact .refl | refine .ite ?_ ?_ | refine State.sendMi_in ?_ rfl | (refine Within.modMgtRest ?_ ?_ ?_; rotate_left; with_unfolding_all (exact (fun _ => ⟨rfl, rfl, rfl, rfl⟩); rfl))

theorem vpdRead_in {x0 x1 m s a} (h : Within m s a) (hs : 1125899906842624 &&& m = 1125899906842624) :
    Within m s (vpdRead x0 x1 a) := by
  refine Within.step (m := 1125899906842624) h ?_ hs
  unfold vpdRead
  with_reducible repeat' first | exact .refl | refine .ite ?_ ?_ | refine State.sendMi_in ?_ rfl

theorem vpdWrite_in {x0 x1 m s a} (h : Within m s a) (hs : 63020272600481791 &&& m = 63020272600481791) :
    Within m s (vpdWrite x0 x1 a) := by
  refine Within.step (m := 63020272600481791) h ?_ hs
  unfold vpdWrite; extract_lets
  with_reducible repeat' first | exact .refl | refine .ite ?_ ?_ | refine State.holdAnswer_in ?_ rfl | refine State.dictPut_in ?_ rfl | refine State.sendMi_in ?_ rfl

/-! Zones.lean -/

theorem State.zcmdFail_in {m s a} (h : Within m s a) (hs : 32 &&& m = 32) :
    Within m s (State.zcmdFail a) := by
  refine Within.step (m := 32) h ?_ hs
  unfold State.zcmdFail
  with_reducible repeat' first | exact .refl | refine Within.putAt ?_ ZPM_DCMD.ERR_part rfl

theorem State.writeSset_in {x0 x1 m s a} (h : Within m s a) (hs : 32 &&& m = 32) :
    Within m s (State.writeSset x0 x1 a) := by
  refine Within.step (m := 32) h ?_ hs
  unfold State.writeSset
  with_reducible repeat' first | exact .refl | refine .ite ?_ ?_ | refine State.zcmdFail_in ?_ rfl | refine Within.setFldAt ?_ (ZPM_SSET.PGRP_part ..) rfl | refine Within.setFldAt ?_ (ZPM_SSET.ROWS_part ..) rfl | refine Within.setFldAt ?_ (ZPM_SSET.VALID_part ..) rfl

theorem State.writePgrp_in {x0 x1 m s a} (h : Within m s a) (hs : 32 &&& m = 32) :
    Within m s (State.writePgrp x0 x1 a) := by
  refine Within.step (m := 32) h ?_ hs
  unfold State.writePgrp; extract_lets
  with_reducible repeat' first | exact .refl | refine .ite ?_ ?_ | refine State.zcmdFail_in ?_ rfl | refine Within.setFldAt ?_ (ZPM_PGRP.ROW_part ..) rfl | refine Within.setFldAt ?_ (ZPM_PGRP.TAIL_ONLY_part ..) rfl

theorem zpmSsetWrite_in {x0 x1 x2 m s a} (h : Within m s a) (hs : 553648160 &&& m = 553648160) :
    Within m s (zpmSsetWrite x0 x1 x2 a) := by
  refine Within.step (m := 553648160) h ?_ hs
  unfold zpmSsetWrite
  with_reducible repeat' first | exact .refl | refine .ite ?_ ?_ | refine State.writeSset_in ?_ rfl | refine State.access_in ?_ (fun _ => ?_) rfl

theorem zpmPgrpWrite_in {x0 x1 x2 m s a} (h : Within m s a) (hs : 553648160 &&& m = 553648160) :
    Within m s (zpmPgrpWrite x0 x1 x2 a) := by
  refine Within.step (m := 553648160) h ?_ hs
  unfold zpmPgrpWrite
  with_reducible repeat' first | exact .refl | refine .ite ?_ ?_ | refine State.writePgrp_in ?_ rfl | refine State.access_in ?_ (fun _ => ?_) rfl

theorem State.zcmdRead_in {x0 m s a} (h : Within m s a) (hs : 32 &&& m = 32) :
    Within m s (State.zcmdRead x0 a) := by
  refine Within.step (m := 32) h ?_ hs
  unfold State.zcmdRead; extract_lets
  with_reducible repeat' first | exact .refl | refine .ite ?_ ?_ | refine State.zcmdFail_in ?_ rfl | refine Within.setFldAt ?_ (ZPM_DWORD.DATA_part ..) rfl | refine .each ?_ fun _ _ => ?_

theorem State.zcmdAttr_in {x0 m s a} (h : Within m s a) (hs : 38280639782322208 &&& m = 38280639782322208) :
    Within m s (State.zcmdAttr x0 a) := by
  refine Within.step (m := 38280639782322208) h ?_ hs
  unfold State.zcmdAttr; extract_lets
  with_reducible repeat' first | exact .refl | refine .ite ?_ ?_ | refine State.modZone_in ?_ rfl | refine State.journalZone_in ?_ rfl | refine State.listChanged_in ?_ rfl | refine State.zcmdFail_in ?_ rfl

theorem State.zcmdReadOnly_in {x0 m s a} (h : Within m s a) (hs : 43350007415308320 &&& m = 43350007415308320) :
    Within m s (State.zcmdReadOnly x0 a) := by
  refine Within.step (m := 43350007415308320) h ?_ hs
  unfold State.zcmdReadOnly
  with_reducible repeat' first | exact .refl | refine .ite ?_ ?_ | refine State.zcmdFail_in ?_ rfl | refine State.readOnlyZone_in ?_ rfl

theorem State.zcmdOffline_in {x0 m s a} (h : Within m s a) (hs : 43358803508334624 &&& m = 43358803508334624) :
    Within m s (State.zcmdOffline x0 a) := by
  refine Within.step (m := 43358803508334624) h ?_ hs
  unfold State.zcmdOffline
  with_reducible repeat' first | exact .refl | refine .ite ?_ ?_ | refine State.listChanged_in ?_ rfl | refine State.zcmdFail_in ?_ rfl | refine State.assertEvent_in ?_ rfl | refine State.handRows_in ?_ rfl | refine State.enterZone_in ?_ rfl

theorem State.zcmdTag_in {x0 m s a} (h : Within m s a) (hs : 36028831378702368 &&& m = 36028831378702368) :
    Within m s (State.zcmdTag x0 a) := by
  refine Within.step (m := 36028831378702368) h ?_ hs
  unfold State.zcmdTag; extract_lets
  with_reducible repeat' first | exact .refl | refine .ite ?_ ?_ | refine State.modZone_in ?_ rfl | refine State.journalZone_in ?_ rfl | refine State.zcmdFail_in ?_ rfl

theorem State.writeZcmd_in {x0 m s a} (h : Within m s a) (hs : 43358803508334624 &&& m = 43358803508334624) :
    Within m s (State.writeZcmd x0 a) := by
  refine Within.step (m := 43358803508334624) h ?_ hs
  unfold State.writeZcmd; extract_lets
  with_reducible repeat' first | exact .refl | refine State.zcmdOffline_in ?_ rfl | refine State.zcmdAttr_in ?_ rfl | refine State.zcmdFail_in ?_ rfl | refine State.zcmdReadOnly_in ?_ rfl | refine State.zcmdRead_in ?_ rfl | refine State.zcmdTag_in ?_ rfl | refine Within.setFldAt ?_ ZPM_DCMD.INDEX_part rfl | split

theorem dcmdRead_in {x0 x1 m s a} (h : Within m s a) (hs : 43358803508334624 &&& m = 43358803508334624) :
    Within m s (dcmdRead x0 x1 a) := by
  refine Within.step (m := 43358803508334624) h ?_ hs
  unfold dcmdRead
  with_reducible repeat' first | exact .refl | refine State.writeZcmd_in ?_ rfl | refine State.access_in ?_ (fun _ => ?_) rfl

theorem setAttr_in {x0 x1 m s a} (h : Within m s a) (hs : 43358803508334624 &&& m = 43358803508334624) :
    Within m s (setAttr x0 x1 a) := by
  refine Within.step (m := 43358803508334624) h ?_ hs
  unfold setAttr
  with_reducible repeat' first | exact .refl | refine State.writeZcmd_in ?_ rfl | refine State.access_in ?_ (fun _ => ?_) rfl

theorem readOnly_in {x0 x1 m s a} (h : Within m s a) (hs : 43358803508334624 &&& m = 43358803508334624) :
    Within m s (readOnly x0 x1 a) := by
  refine Within.step (m := 43358803508334624) h ?_ hs
  unfold readOnly
  with_reducible repeat' first | exact .refl | refine State.writeZcmd_in ?_ rfl | refine State.access_in ?_ (fun _ => ?_) rfl

theorem offline_in {x0 x1 m s a} (h : Within m s a) (hs : 43358803508334624 &&& m = 43358803508334624) :
    Within m s (offline x0 x1 a) := by
  refine Within.step (m := 43358803508334624) h ?_ hs
  unfold offline
  with_reducible repeat' first | exact .refl | refine State.writeZcmd_in ?_ rfl | refine State.access_in ?_ (fun _ => ?_) rfl

theorem setFwtag_in {x0 x1 m s a} (h : Within m s a) (hs : 43358803508334624 &&& m = 43358803508334624) :
    Within m s (setFwtag x0 x1 a) := by
  refine Within.step (m := 43358803508334624) h ?_ hs
  unfold setFwtag
  with_reducible repeat' first | exact .refl | refine State.writeZcmd_in ?_ rfl | refine State.access_in ?_ (fun _ => ?_) rfl

theorem State.writeZpmCtrl_in {x0 m s a} (h : Within m s a) (hs : 43358803508335648 &&& m = 43358803508335648) :
    Within m s (State.writeZpmCtrl x0 a) := by
  refine Within.step (m := 43358803508335648) h ?_ hs
  unfold State.writeZpmCtrl; extract_lets
  with_reducible repeat' first | exact .refl | refine .ite ?_ ?_ | refine State.settle_in ?_ rfl | refine State.startCheckpoint_in ?_ rfl | refine Within.setFldAt ?_ ZPM_CTRL.EN_part rfl | refine Within.setFldAt ?_ ZPM_CTRL.TAIL_ENF_part rfl

theorem ckptNow_in {x0 x1 m s a} (h : Within m s a) (hs : 43358803508335648 &&& m = 43358803508335648) :
    Within m s (ckptNow x0 x1 a) := by
  refine Within.step (m := 43358803508335648) h ?_ hs
  unfold ckptNow
  with_reducible repeat' first | exact .refl | refine State.writeZpmCtrl_in ?_ rfl | refine State.access_in ?_ (fun _ => ?_) rfl

theorem State.checkpointEnd_in {x0 m s a} (h : Within m s a) (hs : 36028831378702368 &&& m = 36028831378702368) :
    Within m s (State.checkpointEnd x0 a) := by
  refine Within.step (m := 36028831378702368) h ?_ hs
  unfold State.checkpointEnd; extract_lets
  with_reducible repeat' first | exact .refl | refine State.modOlder_in ?_ rfl | refine Within.putAt ?_ ZPM_STAT.CKPT_BUSY_part rfl | refine Within.modZpm ?_ rfl | extract_lets | dsimp +zetaDelta only

theorem zoneCheckpointEnd_in {x0 m s a} (h : Within m s a) (hs : 43363201554846752 &&& m = 43363201554846752) :
    Within m s (zoneCheckpointEnd x0 a) := by
  refine Within.step (m := 43363201554846752) h ?_ hs
  unfold zoneCheckpointEnd
  with_reducible repeat' first | exact .refl | refine .ite ?_ ?_ | refine State.assertEvent_in ?_ rfl | refine State.checkpointEnd_in ?_ rfl | refine State.settle_in ?_ rfl | refine Within.modHld ?_ rfl

/-! Media.lean -/

theorem State.closeLayout_in {m s a} (h : Within m s a) (hs : 68719476800 &&& m = 68719476800) :
    Within m s (State.closeLayout a) := by
  refine Within.step (m := 68719476800) h ?_ hs
  unfold State.closeLayout; extract_lets
  with_reducible repeat' first | exact .refl | refine Within.putAt ?_ MED_CTRL.LAYOUT_part rfl | refine Within.modMed ?_ rfl

theorem State.medEnables_in {x0 m s a} (h : Within m s a) (hs : 43358803508335712 &&& m = 43358803508335712) :
    Within m s (State.medEnables x0 a) := by
  refine Within.step (m := 43358803508335712) h ?_ hs
  unfold State.medEnables; extract_lets
  with_reducible repeat' first | exact .refl | refine .ite ?_ ?_ | refine State.gcAll_in ?_ rfl | refine State.assertEvent_in ?_ rfl | refine State.gcRetry_in ?_ rfl | refine State.kilnStart_in ?_ rfl | refine Within.putAt ?_ MED_CTRL.KILN_EN_part rfl | refine Within.putAt ?_ MED_STAT.RCPERR_part rfl | refine Within.setFldAt ?_ MED_CTRL.GC_EN_part rfl | refine Within.setFldAt ?_ MED_CTRL.WL_EN_part rfl | extract_lets | dsimp +zetaDelta only

theorem State.writeMedCtrl_in {x0 m s a} (h : Within m s a) (hs : 43358803508335712 &&& m = 43358803508335712) :
    Within m s (State.writeMedCtrl x0 a) := by
  refine Within.step (m := 43358803508335712) h ?_ hs
  unfold State.writeMedCtrl; extract_lets
  with_reducible repeat' first | exact .refl | refine .ite ?_ ?_ | refine State.startMapFlush_in ?_ rfl | refine State.closeLayout_in ?_ rfl | refine State.medEnables_in ?_ rfl | refine Within.putAt ?_ MED_STAT.LAYERR_part rfl

theorem layout_in {x0 x1 m s a} (h : Within m s a) (hs : 43358803508335712 &&& m = 43358803508335712) :
    Within m s (layout x0 x1 a) := by
  refine Within.step (m := 43358803508335712) h ?_ hs
  unfold layout
  with_reducible repeat' first | exact .refl | refine State.writeMedCtrl_in ?_ rfl | refine State.access_in ?_ (fun _ => ?_) rfl

theorem kilnEn_in {x0 x1 m s a} (h : Within m s a) (hs : 43358803508335712 &&& m = 43358803508335712) :
    Within m s (kilnEn x0 x1 a) := by
  refine Within.step (m := 43358803508335712) h ?_ hs
  unfold kilnEn
  with_reducible repeat' first | exact .refl | refine State.writeMedCtrl_in ?_ rfl | refine State.access_in ?_ (fun _ => ?_) rfl

theorem mapflush_in {x0 x1 m s a} (h : Within m s a) (hs : 43358803508335712 &&& m = 43358803508335712) :
    Within m s (mapflush x0 x1 a) := by
  refine Within.step (m := 43358803508335712) h ?_ hs
  unfold mapflush
  with_reducible repeat' first | exact .refl | refine State.writeMedCtrl_in ?_ rfl | refine State.access_in ?_ (fun _ => ?_) rfl

theorem State.ucmdGet_in {x0 x1 m s a} (h : Within m s a) (hs : 68719476800 &&& m = 68719476800) :
    Within m s (State.ucmdGet x0 x1 a) := by
  refine Within.step (m := 68719476800) h ?_ hs
  unfold State.ucmdGet; extract_lets
  with_reducible repeat' first | exact .refl | refine State.mapUse_in ?_ rfl | refine Within.setFldAt ?_ MED_UDATA.RECORD_part rfl | extract_lets | dsimp +zetaDelta only

theorem State.ucmdPut_in {x0 x1 m s a} (h : Within m s a) (hs : 68719476800 &&& m = 68719476800) :
    Within m s (State.ucmdPut x0 x1 a) := by
  refine Within.step (m := 68719476800) h ?_ hs
  unfold State.ucmdPut
  with_reducible repeat' first | exact .refl | refine State.modUnit_in ?_ rfl | refine State.mapUse_in ?_ rfl | refine Within.putAt ?_ MED_STAT.UERR_part rfl | split

theorem State.writeUcmd_in {x0 m s a} (h : Within m s a) (hs : 68719476800 &&& m = 68719476800) :
    Within m s (State.writeUcmd x0 a) := by
  refine Within.step (m := 68719476800) h ?_ hs
  unfold State.writeUcmd
  with_reducible repeat' first | exact .refl | refine State.ucmdPut_in ?_ rfl | refine State.ucmdGet_in ?_ rfl | refine Within.putAt ?_ MED_STAT.UERR_part rfl | split

theorem ucmdRead_in {x0 x1 m s a} (h : Within m s a) (hs : 69273124928 &&& m = 69273124928) :
    Within m s (ucmdRead x0 x1 a) := by
  refine Within.step (m := 69273124928) h ?_ hs
  unfold ucmdRead
  with_reducible repeat' first | exact .refl | refine State.writeUcmd_in ?_ rfl | refine State.access_in ?_ (fun _ => ?_) rfl

theorem ucmdSet_in {x0 x1 m s a} (h : Within m s a) (hs : 69273124928 &&& m = 69273124928) :
    Within m s (ucmdSet x0 x1 a) := by
  refine Within.step (m := 69273124928) h ?_ hs
  unfold ucmdSet
  with_reducible repeat' first | exact .refl | refine State.writeUcmd_in ?_ rfl | refine State.access_in ?_ (fun _ => ?_) rfl

theorem State.flushEnd_in {x0 m s a} (h : Within m s a) (hs : 36028865738440704 &&& m = 36028865738440704) :
    Within m s (State.flushEnd x0 a) := by
  refine Within.step (m := 36028865738440704) h ?_ hs
  unfold State.flushEnd; extract_lets
  with_reducible repeat' first | exact .refl | refine State.mapTouch_in ?_ rfl | refine Within.modMed ?_ rfl | refine Within.modNv ?_ rfl | refine .each ?_ fun _ _ => ?_ | refine .foldl ?_ fun _ _ => ?_ | extract_lets | dsimp +zetaDelta only

theorem mapFlushEnd_in {m s a} (h : Within m s a) (hs : 43363201554846752 &&& m = 43363201554846752) :
    Within m s (mapFlushEnd a) := by
  refine Within.step (m := 43363201554846752) h ?_ hs
  unfold mapFlushEnd
  with_reducible repeat' first | exact .refl | refine .ite ?_ ?_ | refine State.assertEvent_in ?_ rfl | refine State.flushIfDue_in ?_ rfl | refine State.settle_in ?_ rfl | refine State.flushEnd_in ?_ rfl | refine Within.modHld ?_ rfl | extract_lets | split | dsimp +zetaDelta only

theorem State.writeRecipe_in {x0 m s a} (h : Within m s a) (hs : 68719476800 &&& m = 68719476800) :
    Within m s (State.writeRecipe x0 a) := by
  refine Within.step (m := 68719476800) h ?_ hs
  unfold State.writeRecipe; extract_lets
  with_reducible repeat' first | exact .refl | refine .ite ?_ ?_ | refine Within.putAt ?_ MED_STAT.RCPERR_part rfl | refine Within.modMed ?_ rfl

theorem recipeStepWrite_in {x0 x1 m s a} (h : Within m s a) (hs : 69273124928 &&& m = 69273124928) :
    Within m s (recipeStepWrite x0 x1 a) := by
  refine Within.step (m := 69273124928) h ?_ hs
  unfold recipeStepWrite
  with_reducible repeat' first | exact .refl | refine State.writeRecipe_in ?_ rfl | refine State.access_in ?_ (fun _ => ?_) rfl

theorem State.writeMigr_in {x0 m s a} (h : Within m s a) (hs : 43358803508335712 &&& m = 43358803508335712) :
    Within m s (State.writeMigr x0 a) := by
  refine Within.step (m := 43358803508335712) h ?_ hs
  unfold State.writeMigr; extract_lets
  with_reducible repeat' first | exact .refl | refine .ite ?_ ?_ | refine State.tryMigr_in ?_ rfl | refine Within.putAt ?_ MED_STAT.MERR_part rfl | refine Within.modMed ?_ rfl

theorem migrate_in {x0 x1 m s a} (h : Within m s a) (hs : 43358803508335712 &&& m = 43358803508335712) :
    Within m s (migrate x0 x1 a) := by
  refine Within.step (m := 43358803508335712) h ?_ hs
  unfold migrate
  with_reducible repeat' first | exact .refl | refine State.writeMigr_in ?_ rfl | refine State.access_in ?_ (fun _ => ?_) rfl

theorem State.storeHealth_in {m s a} (h : Within m s a) (hs : 36028797018963968 &&& m = 36028797018963968) :
    Within m s (State.storeHealth a) := by
  refine Within.step (m := 36028797018963968) h ?_ hs
  unfold State.storeHealth; extract_lets
  with_reducible repeat' first | exact .refl | refine Within.modNv ?_ rfl | extract_lets | dsimp +zetaDelta only

theorem healthWrite_in {m s a} (h : Within m s a) (hs : 36028797018963968 &&& m = 36028797018963968) :
    Within m s (healthWrite a) := by
  refine Within.step (m := 36028797018963968) h ?_ hs
  unfold healthWrite
  with_reducible repeat' first | exact .refl | refine .ite ?_ ?_ | refine State.storeHealth_in ?_ rfl

/-! Bell.lean -/

theorem State.modeAging_in {m s a} (h : Within m s a) (hs : 14074301294575874 &&& m = 14074301294575874) :
    Within m s (State.modeAging a) := by
  refine Within.step (m := 14074301294575874) h ?_ hs
  unfold State.modeAging; extract_lets
  with_reducible repeat' first | exact .refl | refine .ite ?_ ?_ | refine State.modeFence_in ?_ rfl | refine State.modeSettle_in ?_ rfl | refine State.assertEvent_in ?_ rfl | refine Within.modBell ?_ rfl | refine .each ?_ fun _ _ => ?_

theorem State.modeBoundary_in {m s a} (h : Within m s a) (hs : 14216138294690690 &&& m = 14216138294690690) :
    Within m s (State.modeBoundary a) := by
  refine Within.step (m := 14216138294690690) h ?_ hs
  unfold State.modeBoundary; extract_lets
  with_reducible repeat' first | exact .refl | refine .ite ?_ ?_ | refine State.modeClearLag_in ?_ rfl | refine State.modeCommit_in ?_ rfl | refine State.modeAging_in ?_ rfl | refine State.modeAtOnce_in ?_ rfl | refine Within.putAt ?_ BEL_MODE_STAT.PENDING_part rfl | refine Within.modBell ?_ rfl | extract_lets | split

theorem State.puEnd_in {m s a} (h : Within m s a) (hs : 139586437120 &&& m = 139586437120) :
    Within m s (State.puEnd a) := by
  refine Within.step (m := 139586437120) h ?_ hs
  unfold State.puEnd
  with_reducible repeat' first | exact .refl | refine State.startPowerUp_in ?_ rfl | refine Within.modBell ?_ rfl | refine Within.modFch ?_ rfl | split

theorem State.puTurn_in {m s a} (h : Within m s a) (hs : 23081637990367360 &&& m = 23081637990367360) :
    Within m s (State.puTurn a) := by
  refine Within.step (m := 23081637990367360) h ?_ hs
  unfold State.puTurn
  with_reducible repeat' first | exact .refl | refine .ite ?_ ?_ | refine State.enterPowering_in ?_ rfl | refine State.assertEvent_in ?_ rfl | refine State.assertIf_in ?_ rfl | refine State.puEnd_in ?_ rfl | refine Within.modBell ?_ rfl | refine .foldl ?_ fun _ _ => ?_ | extract_lets | split | dsimp +zetaDelta only

theorem State.slotHooks_in {x0 m s a} (h : Within m s a) (hs : 70515780795632546 &&& m = 70515780795632546) :
    Within m s (State.slotHooks x0 a) := by
  refine Within.step (m := 70515780795632546) h ?_ hs
  unfold State.slotHooks; extract_lets
  with_reducible repeat' first | exact .refl | refine .ite ?_ ?_ | refine State.assertEvent_in ?_ rfl | refine State.issueResets_in ?_ rfl | refine State.holdCheck_in ?_ rfl | refine State.modeBoundary_in ?_ rfl | refine State.puTurn_in ?_ rfl | refine State.readSensors_in ?_ rfl | refine Within.modPow ?_ rfl | refine Within.modEvr ?_ rfl | extract_lets | dsimp +zetaDelta only

theorem State.frameOnce_in {m s a} (h : Within m s a) (hs : 10704888157700096 &&& m = 10704888157700096) :
    Within m s (State.frameOnce a) := by
  refine Within.step (m := 10704888157700096) h ?_ hs
  unfold State.frameOnce; extract_lets
  with_reducible repeat' first | exact .refl | refine Within.modHfe ?_ rfl | (refine Within.modMgtNoDict ?_ ?_ ?_ ?_; rotate_left; with_unfolding_all (exact (fun _ => rfl); rfl; rfl)) | refine Within.modSaf ?_ rfl | refine Within.modTubs ?_ rfl | refine Within.modZpm ?_ rfl

theorem State.frameShares_in {m s a} (h : Within m s a) (hs : 575525617664 &&& m = 575525617664) :
    Within m s (State.frameShares a) := by
  refine Within.step (m := 575525617664) h ?_ hs
  unfold State.frameShares; extract_lets
  with_reducible repeat' first | exact .refl | refine .ite ?_ ?_ | refine State.modEng_in ?_ rfl | refine State.modFn_in ?_ rfl | refine Within.modFns ?_ rfl | refine .each ?_ fun _ _ => ?_

theorem State.frameHooks_in {m s a} (h : Within m s a) (hs : 53637055385771040 &&& m = 53637055385771040) :
    Within m s (State.frameHooks a) := by
  refine Within.step (m := 53637055385771040) h ?_ hs
  unfold State.frameHooks; extract_lets
  with_reducible repeat' first | exact .refl | refine .ite ?_ ?_ | refine State.assertEvent_in ?_ rfl | refine State.reask_in ?_ rfl | refine State.wlCheck_in ?_ rfl | refine State.frameOnce_in ?_ rfl | refine State.storeHealth_in ?_ rfl | refine State.frameShares_in ?_ rfl | refine State.heldFrame_in ?_ rfl | refine State.frameSnap_in ?_ rfl | refine State.retryMigr_in ?_ rfl | refine State.frameMash_in ?_ rfl | refine .each ?_ fun _ _ => ?_

theorem State.relockHooks_in {m s a} (h : Within m s a) (hs : 71652692999741346 &&& m = 71652692999741346) :
    Within m s (State.relockHooks a) := by
  refine Within.step (m := 71652692999741346) h ?_ hs
  unfold State.relockHooks
  with_reducible repeat' first | exact .refl | refine State.frameHooks_in ?_ rfl | refine State.slotHooks_in ?_ rfl

theorem State.frameBoundary_in {x0 m s a} (h : Within m s a) (hs : 71652692999741346 &&& m = 71652692999741346) :
    Within m s (State.frameBoundary x0 a) := by
  refine Within.step (m := 71652692999741346) h ?_ hs
  unfold State.frameBoundary
  with_reducible repeat' first | exact .refl | refine State.startFrame_in ?_ rfl | refine State.frameBell_in ?_ rfl | refine State.frameHooks_in ?_ rfl | refine State.slotHooks_in ?_ rfl

theorem slotBoundary_in {x0 m s a} (h : Within m s a) (hs : 71652692999741346 &&& m = 71652692999741346) :
    Within m s (slotBoundary x0 a) := by
  refine Within.step (m := 71652692999741346) h ?_ hs
  unfold slotBoundary
  with_reducible repeat' first | exact .refl | refine .ite ?_ ?_ | refine State.slotHooks_in ?_ rfl | refine State.frameBoundary_in ?_ rfl | refine Within.modBell ?_ rfl

theorem frameStart_in {m s a} (h : Within m s a) (hs : 71652692999741346 &&& m = 71652692999741346) :
    Within m s (frameStart a) := by
  refine Within.step (m := 71652692999741346) h ?_ hs
  unfold frameStart
  with_reducible repeat' first | exact .refl | refine .ite ?_ ?_ | refine State.frameBoundary_in ?_ rfl

theorem State.frameTemp_in {m s a} (h : Within m s a) (hs : 5067168609730560 &&& m = 5067168609730560) :
    Within m s (State.frameTemp a) := by
  refine Within.step (m := 5067168609730560) h ?_ hs
  unfold State.frameTemp; extract_lets
  with_reducible repeat' first | exact .refl | refine State.assertIf_in ?_ rfl | refine Within.modMed ?_ rfl | split

theorem State.takeFrameMark_in {x0 m s a} (h : Within m s a) (hs : 71652692999741346 &&& m = 71652692999741346) :
    Within m s (State.takeFrameMark x0 a) := by
  refine Within.step (m := 71652692999741346) h ?_ hs
  unfold State.takeFrameMark; extract_lets
  with_reducible repeat' first | exact .refl | refine .ite ?_ ?_ | refine State.frameTemp_in ?_ rfl | refine State.frameMark_in ?_ rfl | refine State.recalCheck_in ?_ rfl | refine State.relockHooks_in ?_ rfl

theorem shbellPulse_in {x0 x1 m s a} (h : Within m s a) (hs : 71652693066850210 &&& m = 71652693066850210) :
    Within m s (shbellPulse x0 x1 a) := by
  refine Within.step (m := 71652693066850210) h ?_ hs
  unfold shbellPulse
  with_reducible repeat' first | exact .refl | refine .ite ?_ ?_ | refine State.tookFree_in ?_ rfl | refine State.takeFrameMark_in ?_ rfl | refine State.slotMark_in ?_ rfl | refine State.misplaced_in ?_ rfl | split

theorem State.beaconSeen_in {m s a} (h : Within m s a) (hs : 23081498404192256 &&& m = 23081498404192256) :
    Within m s (State.beaconSeen a) := by
  refine Within.step (m := 23081498404192256) h ?_ hs
  unfold State.beaconSeen
  with_reducible repeat' first | exact .refl | refine .ite ?_ ?_ | refine State.endNetLoops_in ?_ rfl | refine State.assertEvent_in ?_ rfl | refine Within.putAt ?_ MGT_STAT.NETUP_part rfl

theorem plcaBeacon_in {x0 m s a} (h : Within m s a) (hs : 71652693000003490 &&& m = 71652693000003490) :
    Within m s (plcaBeacon x0 a) := by
  refine Within.step (m := 71652693000003490) h ?_ hs
  unfold plcaBeacon; extract_lets
  with_reducible repeat' first | exact .refl | refine .ite ?_ ?_ | refine State.slotMark_in ?_ rfl | refine State.beaconSeen_in ?_ rfl | refine State.takeFrameMark_in ?_ rfl | refine Within.modBell ?_ rfl

theorem slotWindowClose_in {m s a} (h : Within m s a) (hs : 7318901851422722 &&& m = 7318901851422722) :
    Within m s (slotWindowClose a) := by
  refine Within.step (m := 7318901851422722) h ?_ hs
  unfold slotWindowClose
  with_reducible repeat' first | exact .refl | refine .ite ?_ ?_ | refine State.missingSlot_in ?_ rfl

theorem State.writeBelCtrl_in {x0 m s a} (h : Within m s a) (hs : 23081500551413762 &&& m = 23081500551413762) :
    Within m s (State.writeBelCtrl x0 a) := by
  refine Within.step (m := 23081500551413762) h ?_ hs
  unfold State.writeBelCtrl
  with_reducible repeat' first | exact .refl | refine State.writePeriod_in ?_ rfl | refine State.writeSrc_in ?_ rfl

theorem belCtrlWrite_in {x0 x1 m s a} (h : Within m s a) (hs : 23081500551413762 &&& m = 23081500551413762) :
    Within m s (belCtrlWrite x0 x1 a) := by
  refine Within.step (m := 23081500551413762) h ?_ hs
  unfold belCtrlWrite
  with_reducible repeat' first | exact .refl | refine State.writeBelCtrl_in ?_ rfl | refine State.access_in ?_ (fun _ => ?_) rfl

theorem State.writeBelBudget_in {x0 m s a} (h : Within m s a) (hs : 5067099890253826 &&& m = 5067099890253826) :
    Within m s (State.writeBelBudget x0 a) := by
  refine Within.step (m := 5067099890253826) h ?_ hs
  unfold State.writeBelBudget
  with_reducible repeat' first | exact .refl | refine State.writeBudget_in ?_ rfl

theorem belBudgetWrite_in {x0 x1 m s a} (h : Within m s a) (hs : 5067099890253826 &&& m = 5067099890253826) :
    Within m s (belBudgetWrite x0 x1 a) := by
  refine Within.step (m := 5067099890253826) h ?_ hs
  unfold belBudgetWrite
  with_reducible repeat' first | exact .refl | refine State.writeBelBudget_in ?_ rfl | refine State.access_in ?_ (fun _ => ?_) rfl

theorem modeCommitRequest_in {x0 x1 m s a} (h : Within m s a) (hs : 2701131778 &&& m = 2701131778) :
    Within m s (modeCommitRequest x0 x1 a) := by
  refine Within.step (m := 2701131778) h ?_ hs
  unfold modeCommitRequest
  with_reducible repeat' first | exact .refl | refine State.modeCommand_in ?_ rfl | refine State.access_in ?_ (fun _ => ?_) rfl

theorem unitEpochReport_in {x0 m s a} (h : Within m s a) (hs : 5207839526224770 &&& m = 5207839526224770) :
    Within m s (unitEpochReport x0 a) := by
  refine Within.step (m := 5207839526224770) h ?_ hs
  unfold unitEpochReport
  with_reducible repeat' first | exact .refl | refine .ite ?_ ?_ | refine State.reportUnit_in ?_ rfl

theorem powerupLockWaitExpire_in {m s a} (h : Within m s a) (hs : 2147483648 &&& m = 2147483648) :
    Within m s (powerupLockWaitExpire a) := by
  refine Within.step (m := 2147483648) h ?_ hs
  unfold powerupLockWaitExpire
  with_reducible repeat' first | exact .refl | refine .ite ?_ ?_ | refine Within.modBell ?_ rfl

/-! BusWrite.lean -/

theorem State.writeField_in {x0 x1 x2 x3 m s a} (h : Within m s a) (hs : 1107296255 &&& m = 1107296255) :
    Within m s (State.writeField x0 x1 x2 x3 a) := by
  refine Within.step (m := 1107296255) h ?_ hs
  unfold State.writeField
  with_reducible repeat' first | exact .refl | refine .ite ?_ ?_ | refine State.unstage_in ?_ rfl | refine State.stageLow_in ?_ rfl | refine Within.setFldAny ?_ rfl | split

theorem State.plainWrite_in {x0 x1 x2 m s a} (h : Within m s a) (hs : 1107296255 &&& m = 1107296255) :
    Within m s (State.plainWrite x0 x1 x2 a) := by
  refine Within.step (m := 1107296255) h ?_ hs
  unfold State.plainWrite
  with_reducible repeat' first | exact .refl | refine State.writeField_in ?_ rfl | refine .each ?_ fun _ _ => ?_

theorem writeSys_in {x0 x1 x2 m s a} (h : Within m s a) (hs : 72057318992248831 &&& m = 72057318992248831) :
    Within m s (writeSys x0 x1 x2 a) := by
  refine Within.step (m := 72057318992248831) h ?_ hs
  unfold writeSys
  with_reducible repeat' first | exact .refl | refine .ite ?_ ?_ | refine State.writeCorectl_in ?_ rfl | refine State.plainWrite_in ?_ rfl | refine State.writeRstctl_in ?_ rfl

theorem writeBel_in {x0 x1 x2 m s a} (h : Within m s a) (hs : 23081501637738495 &&& m = 23081501637738495) :
    Within m s (writeBel x0 x1 x2 a) := by
  refine Within.step (m := 23081501637738495) h ?_ hs
  unfold writeBel
  with_reducible repeat' first | exact .refl | refine .ite ?_ ?_ | refine State.modeCommand_in ?_ rfl | refine State.writeBelCtrl_in ?_ rfl | refine State.writeBelBudget_in ?_ rfl | refine State.plainWrite_in ?_ rfl | refine State.mirrorPowerUp_in ?_ rfl | refine Within.putAt ?_ BEL_STAT.MASK_PEND_part rfl

theorem writePci_in {x0 x1 x2 m s a} (h : Within m s a) (hs : 5402263551 &&& m = 5402263551) :
    Within m s (writePci x0 x1 x2 a) := by
  refine Within.step (m := 5402263551) h ?_ hs
  unfold writePci
  with_reducible repeat' first | exact .refl | refine .ite ?_ ?_ | refine State.plainWrite_in ?_ rfl | refine writePciCtrl_in ?_ rfl

theorem writeHfe_in {x0 x1 x2 m s a} (h : Within m s a) (hs : 43358804598849535 &&& m = 43358804598849535) :
    Within m s (writeHfe x0 x1 x2 a) := by
  refine Within.step (m := 43358804598849535) h ?_ hs
  unfold writeHfe; extract_lets
  with_reducible repeat' first | exact .refl | refine .ite ?_ ?_ | refine State.writeHfeCtrl_in ?_ rfl | refine State.writeQalloc_in ?_ rfl | refine State.writeCmdlim_in ?_ rfl | refine State.plainWrite_in ?_ rfl

theorem writeFns_in {x0 x1 x2 m s a} (h : Within m s a) (hs : 9697230847 &&& m = 9697230847) :
    Within m s (writeFns x0 x1 x2 a) := by
  refine Within.step (m := 9697230847) h ?_ hs
  unfold writeFns; extract_lets
  with_reducible repeat' first | exact .refl | refine .ite ?_ ?_ | refine State.modFn_in ?_ rfl | refine State.writeMbxAck_in ?_ rfl | refine State.plainWrite_in ?_ rfl

theorem writeZpm_in {x0 x1 x2 m s a} (h : Within m s a) (hs : 43358804598849535 &&& m = 43358804598849535) :
    Within m s (writeZpm x0 x1 x2 a) := by
  refine Within.step (m := 43358804598849535) h ?_ hs
  unfold writeZpm; extract_lets
  with_reducible repeat' first | exact .refl | refine .ite ?_ ?_ | refine State.writePgrp_in ?_ rfl | refine State.writeZpmCtrl_in ?_ rfl | refine State.writeSset_in ?_ rfl | refine State.writeZcmd_in ?_ rfl | refine State.plainWrite_in ?_ rfl

theorem writeMed_in {x0 x1 x2 m s a} (h : Within m s a) (hs : 43358804598849535 &&& m = 43358804598849535) :
    Within m s (writeMed x0 x1 x2 a) := by
  refine Within.step (m := 43358804598849535) h ?_ hs
  unfold writeMed
  with_reducible repeat' first | exact .refl | refine .ite ?_ ?_ | refine State.writeRecipe_in ?_ rfl | refine State.writeMigr_in ?_ rfl | refine State.writeMedCtrl_in ?_ rfl | refine State.plainWrite_in ?_ rfl | refine State.writeUcmd_in ?_ rfl

theorem writeFch_in {x0 x1 m s a} (h : Within m s a) (hs : 70527069311737826 &&& m = 70527069311737826) :
    Within m s (writeFch x0 x1 a) := by
  refine Within.step (m := 70527069311737826) h ?_ hs
  unfold writeFch; extract_lets
  with_reducible repeat' first | exact .refl | refine .ite ?_ ?_ | refine State.writeCal_in ?_ rfl | refine State.holdCheck_in ?_ rfl | refine State.writeGctrl_in ?_ rfl | refine State.writeGcfg_in ?_ rfl | refine State.writeFence_in ?_ rfl | refine State.writeTset_in ?_ rfl

theorem writeDrf_in {x0 x1 x2 m s a} (h : Within m s a) (hs : 70527069389324287 &&& m = 70527069389324287) :
    Within m s (writeDrf x0 x1 x2 a) := by
  refine Within.step (m := 70527069389324287) h ?_ hs
  unfold writeDrf; extract_lets
  with_reducible repeat' first | exact .refl | refine State.writeStore_in ?_ rfl | refine State.submit_in ?_ rfl | refine State.writeHead_in ?_ rfl | refine State.writeDrfCtrl_in ?_ rfl | refine State.engCfg_in ?_ rfl | refine State.windowLocal_in ?_ rfl | refine State.plainWrite_in ?_ rfl | split

theorem writeEcc_in {x0 x1 x2 m s a} (h : Within m s a) (hs : 5068200492400639 &&& m = 5068200492400639) :
    Within m s (writeEcc x0 x1 x2 a) := by
  refine Within.step (m := 5068200492400639) h ?_ hs
  unfold writeEcc; extract_lets
  with_reducible repeat' first | exact .refl | refine .ite ?_ ?_ | refine State.writeProfile_in ?_ rfl | refine State.clearEccCounts_in ?_ rfl | refine State.plainWrite_in ?_ rfl

theorem writeMsh_in {x0 x1 x2 m s a} (h : Within m s a) (hs : 70527067174731775 &&& m = 70527067174731775) :
    Within m s (writeMsh x0 x1 x2 a) := by
  refine Within.step (m := 70527067174731775) h ?_ hs
  unfold writeMsh; extract_lets
  with_reducible repeat' first | exact .refl | refine .ite ?_ ?_ | refine State.writeRcpdata_in ?_ rfl | refine State.holdCheck_in ?_ rfl | refine State.writePdata_in ?_ rfl | refine State.writeMshSset_in ?_ rfl | refine State.plainWrite_in ?_ rfl | refine State.writeDcmd_in ?_ rfl | refine State.writeRshp_in ?_ rfl

theorem writeHld_in {x0 x1 x2 m s a} (h : Within m s a) (hs : 41100399125463039 &&& m = 41100399125463039) :
    Within m s (writeHld x0 x1 x2 a) := by
  refine Within.step (m := 41100399125463039) h ?_ hs
  unfold writeHld
  with_reducible repeat' first | exact .refl | refine .ite ?_ ?_ | refine State.writeHldCtrl_in ?_ rfl | refine State.plainWrite_in ?_ rfl

theorem writeTub_in {x0 x1 x2 m s a} (h : Within m s a) (hs : 7327696887480319 &&& m = 7327696887480319) :
    Within m s (writeTub x0 x1 x2 a) := by
  refine Within.step (m := 7327696887480319) h ?_ hs
  unfold writeTub; extract_lets
  with_reducible repeat' first | exact .refl | refine .ite ?_ ?_ | refine State.writeTubUse_in ?_ rfl | refine State.writeTubReq_in ?_ rfl | refine State.writeTubWin_in ?_ rfl | refine State.writeTubCtrl_in ?_ rfl | refine State.plainWrite_in ?_ rfl | refine State.writeTubRel_in ?_ rfl

theorem writeMem_in {x0 x1 x2 m s a} (h : Within m s a) (hs : 5084693166817279 &&& m = 5084693166817279) :
    Within m s (writeMem x0 x1 x2 a) := by
  refine Within.step (m := 5084693166817279) h ?_ hs
  unfold writeMem; extract_lets
  with_reducible repeat' first | exact .refl | refine .ite ?_ ?_ | refine State.writeBank_in ?_ rfl | refine State.writeRetire_in ?_ rfl | refine State.writeMemCtrl_in ?_ rfl | refine State.plainWrite_in ?_ rfl

theorem writeCip_in {x0 x1 x2 m s a} (h : Within m s a) (hs : 5102285621297151 &&& m = 5102285621297151) :
    Within m s (writeCip x0 x1 x2 a) := by
  refine Within.step (m := 5102285621297151) h ?_ hs
  unfold writeCip
  with_reducible repeat' first | exact .refl | refine .ite ?_ ?_ | refine State.writeLease_in ?_ rfl | refine State.writeRekey_in ?_ rfl | refine State.writeGring_in ?_ rfl | refine State.plainWrite_in ?_ rfl | refine State.writeGtail_in ?_ rfl

theorem writeEvt_in {x0 x1 x2 m s a} (h : Within m s a) (hs : 7318909384392703 &&& m = 7318909384392703) :
    Within m s (writeEvt x0 x1 x2 a) := by
  refine Within.step (m := 7318909384392703) h ?_ hs
  unfold writeEvt
  with_reducible repeat' first | exact .refl | refine .ite ?_ ?_ | refine State.plainWrite_in ?_ rfl | refine State.writeSwtrig_in ?_ rfl | refine State.writeAen_in ?_ rfl

theorem writePwr_in {x0 x1 x2 m s a} (h : Within m s a) (hs : 43607285636792319 &&& m = 43607285636792319) :
    Within m s (writePwr x0 x1 x2 a) := by
  refine Within.step (m := 43607285636792319) h ?_ hs
  unfold writePwr; extract_lets
  with_reducible repeat' first | exact .refl | refine .ite ?_ ?_ | refine State.domainRequest_in ?_ rfl | refine State.writePwrReq_in ?_ rfl | refine State.writeAns_in ?_ rfl | refine State.plainWrite_in ?_ rfl

theorem writeThm_in {x0 x1 x2 m s a} (h : Within m s a) (hs : 1107296255 &&& m = 1107296255) :
    Within m s (writeThm x0 x1 x2 a) := by
  refine Within.step (m := 1107296255) h ?_ hs
  unfold writeThm
  with_reducible repeat' first | exact .refl | refine .ite ?_ ?_ | refine State.writeThmCtrl_in ?_ rfl | refine State.plainWrite_in ?_ rfl

theorem writeMgt_in {x0 x1 x2 m s a} (h : Within m s a) (hs : 63020273674223615 &&& m = 63020273674223615) :
    Within m s (writeMgt x0 x1 x2 a) := by
  refine Within.step (m := 63020273674223615) h ?_ hs
  unfold writeMgt
  with_reducible repeat' first | exact .refl | refine .ite ?_ ?_ | refine State.endNetLoops_in ?_ rfl | refine State.writeFreq_in ?_ rfl | refine State.plainWrite_in ?_ rfl | (refine Within.modMgtRest ?_ ?_ ?_; rotate_left; with_unfolding_all (exact (fun _ => ⟨rfl, rfl, rfl, rfl⟩); rfl)) | refine .each ?_ fun _ _ => ?_

theorem writeEvr_in {x0 x1 x2 m s a} (h : Within m s a) (hs : 4504151027351551 &&& m = 4504151027351551) :
    Within m s (writeEvr x0 x1 x2 a) := by
  refine Within.step (m := 4504151027351551) h ?_ hs
  unfold writeEvr
  with_reducible repeat' first | exact .refl | refine .ite ?_ ?_ | refine State.writeCursor_in ?_ rfl | refine State.writeEvrCtrl_in ?_ rfl | refine State.writeTrig_in ?_ rfl | refine State.plainWrite_in ?_ rfl

theorem writeTly_in {x0 x1 x2 m s a} (h : Within m s a) (hs : 2251800920981503 &&& m = 2251800920981503) :
    Within m s (writeTly x0 x1 x2 a) := by
  refine Within.step (m := 2251800920981503) h ?_ hs
  unfold writeTly
  with_reducible repeat' first | exact .refl | refine .ite ?_ ?_ | refine State.requestSnap_in ?_ rfl | refine State.plainWrite_in ?_ rfl

theorem writeSaf_in {x0 x1 x2 m s a} (h : Within m s a) (hs : 9007200362037247 &&& m = 9007200362037247) :
    Within m s (writeSaf x0 x1 x2 a) := by
  refine Within.step (m := 9007200362037247) h ?_ hs
  unfold writeSaf; extract_lets
  with_reducible repeat' first | exact .refl | refine .ite ?_ ?_ | refine State.writeWdog_in ?_ rfl | refine State.plainWrite_in ?_ rfl

theorem writeTst_in {x0 x1 x2 m s a} (h : Within m s a) (hs : 61514084545200127 &&& m = 61514084545200127) :
    Within m s (writeTst x0 x1 x2 a) := by
  refine Within.step (m := 61514084545200127) h ?_ hs
  unfold writeTst; extract_lets
  with_reducible repeat' first | exact .refl | refine .ite ?_ ?_ | refine State.writeBist_in ?_ rfl | refine State.writeDbg_in ?_ rfl | refine State.writeLbctl_in ?_ rfl | refine State.plainWrite_in ?_ rfl | refine State.tookFree_in ?_ rfl

theorem State.writeWord_in {x0 x1 x2 m s a} (h : Within m s a) (hs : 72057593870155775 &&& m = 72057593870155775) :
    Within m s (State.writeWord x0 x1 x2 a) := by
  refine Within.step (m := 72057593870155775) h ?_ hs
  unfold State.writeWord
  with_reducible repeat' first | exact .refl | refine .ite ?_ ?_ | refine writeSaf_in ?_ rfl | refine writeFns_in ?_ rfl | refine writeBel_in ?_ rfl | refine writeMgt_in ?_ rfl | refine writeDrf_in ?_ rfl | refine State.rsWrite_in ?_ rfl | refine writeHfe_in ?_ rfl | refine writeMed_in ?_ rfl | refine writeFch_in ?_ rfl | refine writeZpm_in ?_ rfl | refine writePci_in ?_ rfl | refine writeSys_in ?_ rfl | refine writePwr_in ?_ rfl | refine writeEvr_in ?_ rfl | refine writeTub_in ?_ rfl | refine writeMem_in ?_ rfl | refine writeEvt_in ?_ rfl | refine writeEcc_in ?_ rfl | refine writeThm_in ?_ rfl | refine writeCip_in ?_ rfl | refine writeTst_in ?_ rfl | refine State.plainWrite_in ?_ rfl | refine writeTly_in ?_ rfl | refine writeHld_in ?_ rfl | refine writeMsh_in ?_ rfl | extract_lets | split

/-! Bus.lean -/

theorem State.linkRetried_in {m s a} (h : Within m s a) (hs : 14074299147091968 &&& m = 14074299147091968) :
    Within m s (State.linkRetried a) := by
  refine Within.step (m := 14074299147091968) h ?_ hs
  unfold State.linkRetried; extract_lets
  with_reducible repeat' first | exact .refl | refine .ite ?_ ?_ | refine State.assertEvent_in ?_ rfl | refine Within.countAt ?_ SAF_D2DCNT.RETRIED_part rfl | refine Within.modSaf ?_ rfl

theorem State.linkFailed_in {x0 x1 m s a} (h : Within m s a) (hs : 72057593870155775 &&& m = 72057593870155775) :
    Within m s (State.linkFailed x0 x1 a) := by
  refine Within.step (m := 72057593870155775) h ?_ hs
  unfold State.linkFailed
  with_reducible repeat' first | exact .refl | refine State.assertEvent_in ?_ rfl | refine State.accessFault_in ?_ rfl | refine State.safeReset_in ?_ rfl | refine State.noteError_in ?_ rfl | refine Within.countAt ?_ SAF_D2DCNT.FAILED_part rfl

theorem State.overLink_in {x0 x1 x2 : Nat} {f : State → State} {m : Nat} {s a : State} (h : Within m s a)
    (hf : ∀ b, Within m b (f b)) (hs : 72057593870155775 &&& m = 72057593870155775) : Within m s (State.overLink x0 x1 x2 f a) := by
  unfold State.overLink
  split
  · exact h.trans (hf _)
  · split
    · exact (h.step (m := 72057593870155775) (State.linkRetried_in Within.refl rfl) hs).trans (hf _)
    · exact h.step (m := 72057593870155775) (State.linkFailed_in Within.refl rfl) hs

theorem State.memWrite_in {x0 x1 x2 x3 m s a} (h : Within m s a) (hs : 17594081869824 &&& m = 17594081869824) :
    Within m s (State.memWrite x0 x1 x2 x3 a) := by
  refine Within.step (m := 17594081869824) h ?_ hs
  unfold State.memWrite
  with_reducible repeat' first | exact .refl | refine .ite ?_ ?_ | refine State.accessFault_in ?_ rfl | refine State.ungate_in ?_ rfl | refine State.granted_in ?_ rfl | refine State.storeBytes_in ?_ rfl | split

theorem State.memRead_in {x0 x1 x2 m s a} (h : Within m s a) (hs : 17592806801408 &&& m = 17592806801408) :
    Within m s (State.memRead x0 x1 x2 a) := by
  refine Within.step (m := 17592806801408) h ?_ hs
  unfold State.memRead
  with_reducible repeat' first | exact .refl | refine .ite ?_ ?_ | refine State.accessFault_in ?_ rfl | refine State.tookFree_in ?_ rfl | refine State.ungate_in ?_ rfl | refine State.granted_in ?_ rfl | refine State.returns_in ?_ rfl | extract_lets | split | dsimp +zetaDelta only

theorem State.unreached_in {x0 x1 x2 m s a} (h : Within m s a) (hs : 536870912 &&& m = 536870912) :
    Within m s (State.unreached x0 x1 x2 a) := by
  refine Within.step (m := 536870912) h ?_ hs
  unfold State.unreached
  with_reducible repeat' first | exact .refl | refine .ite ?_ ?_ | refine State.faultUnseen_in ?_ rfl

theorem State.sizeFault_in {x0 x1 m s a} (h : Within m s a) (hs : 553648128 &&& m = 553648128) :
    Within m s (State.sizeFault x0 x1 a) := by
  refine Within.step (m := 553648128) h ?_ hs
  unfold State.sizeFault
  with_reducible repeat' first | exact .refl | refine .ite ?_ ?_ | refine State.accessFault_in ?_ rfl | refine State.faultUnseen_in ?_ rfl

theorem State.busWrite_in {x0 x1 x2 x3 x4 m s a} (h : Within m s a) (hs : 72057593870155775 &&& m = 72057593870155775) :
    Within m s (State.busWrite x0 x1 x2 x3 x4 a) := by
  refine Within.step (m := 72057593870155775) h ?_ hs
  unfold State.busWrite
  with_reducible repeat' first | exact .refl | refine .ite ?_ ?_ | refine State.writeWord_in ?_ rfl | refine State.overLink_in ?_ (fun _ => ?_) rfl | refine State.unreached_in ?_ rfl | refine State.sizeFault_in ?_ rfl | refine State.memWrite_in ?_ rfl | refine State.access_in ?_ (fun _ => ?_) rfl

theorem State.clearRc_in {x0 m s a} (h : Within m s a) (hs : 33554431 &&& m = 33554431) :
    Within m s (State.clearRc x0 a) := by
  refine Within.step (m := 33554431) h ?_ hs
  unfold State.clearRc
  with_reducible repeat' first | exact .refl | refine .ite ?_ ?_ | refine Within.setFldAt ?_ BEL_ACCT.PEAK_part rfl | refine Within.setFldAny ?_ rfl | refine .each ?_ fun _ _ => ?_

theorem State.clearLegacy_in {x0 m s a} (h : Within m s a) (hs : 17592186044416 &&& m = 17592186044416) :
    Within m s (State.clearLegacy x0 a) := by
  refine Within.step (m := 17592186044416) h ?_ hs
  unfold State.clearLegacy
  with_reducible repeat' first | exact .refl | refine .ite ?_ ?_ | refine Within.modMemc ?_ rfl

theorem State.afterRl_in {x0 m s a} (h : Within m s a) (hs : 9007199254740992 &&& m = 9007199254740992) :
    Within m s (State.afterRl x0 a) := by
  refine Within.step (m := 9007199254740992) h ?_ hs
  unfold State.afterRl
  with_reducible repeat' first | exact .refl | refine .ite ?_ ?_ | refine Within.modSaf ?_ rfl

theorem State.fieldRead_in {x0 x1 x2 m s a} (h : Within m s a) (hs : 9007200898908159 &&& m = 9007200898908159) :
    Within m s (State.fieldRead x0 x1 x2 a) := by
  refine Within.step (m := 9007200898908159) h ?_ hs
  unfold State.fieldRead
  with_reducible repeat' first | exact .refl | refine State.clearRc_in ?_ rfl | refine State.returns_in ?_ rfl | refine State.returnPair_in ?_ rfl | refine State.afterRl_in ?_ rfl | split

theorem State.plainRead_in {x0 x1 m s a} (h : Within m s a) (hs : 9007200898908159 &&& m = 9007200898908159) :
    Within m s (State.plainRead x0 x1 a) := by
  refine Within.step (m := 9007200898908159) h ?_ hs
  unfold State.plainRead
  with_reducible repeat' first | exact .refl | refine State.fieldRead_in ?_ rfl

theorem State.readWord_in {x0 x1 m s a} (h : Within m s a) (hs : 9061626791591935 &&& m = 9061626791591935) :
    Within m s (State.readWord x0 x1 a) := by
  refine Within.step (m := 9061626791591935) h ?_ hs
  unfold State.readWord; extract_lets
  with_reducible repeat' first | exact .refl | refine .ite ?_ ?_ | refine State.returns_in ?_ rfl | refine State.claim_in ?_ rfl | refine State.readRng_in ?_ rfl | refine State.popCand_in ?_ rfl | refine State.plainRead_in ?_ rfl | refine State.readTally_in ?_ rfl | refine State.returnPair_in ?_ rfl | refine State.windowLocal_in ?_ rfl | refine State.readStore_in ?_ rfl | refine State.clearLegacy_in ?_ rfl

theorem State.peekBus_in {x0 x1 x2 m s a} (h : Within m s a) (hs : 553648128 &&& m = 553648128) :
    Within m s (State.peekBus x0 x1 x2 a) := by
  refine Within.step (m := 553648128) h ?_ hs
  unfold State.peekBus
  with_reducible repeat' first | exact .refl | refine .ite ?_ ?_ | refine State.returns_in ?_ rfl | refine State.access_in ?_ (fun _ => ?_) rfl | refine State.accessFault_in ?_ rfl

theorem State.busRead_in {x0 x1 x2 x3 m s a} (h : Within m s a) (hs : 72057593870155775 &&& m = 72057593870155775) :
    Within m s (State.busRead x0 x1 x2 x3 a) := by
  refine Within.step (m := 72057593870155775) h ?_ hs
  unfold State.busRead; extract_lets
  with_reducible repeat' first | exact .refl | refine .ite ?_ ?_ | refine State.memRead_in ?_ rfl | refine State.overLink_in ?_ (fun _ => ?_) rfl | refine State.unreached_in ?_ rfl | refine State.sizeFault_in ?_ rfl | refine State.peekBus_in ?_ rfl | refine State.access_in ?_ (fun _ => ?_) rfl | refine State.readWord_in ?_ rfl | extract_lets | dsimp +zetaDelta only

theorem registerWrite_in {x0 x1 x2 x3 x4 m s a} (h : Within m s a) (hs : 72057593870155775 &&& m = 72057593870155775) :
    Within m s (registerWrite x0 x1 x2 x3 x4 a) := by
  refine Within.step (m := 72057593870155775) h ?_ hs
  unfold registerWrite
  with_reducible repeat' first | exact .refl | refine State.busWrite_in ?_ rfl

theorem highHalfWrite_in {x0 x1 x2 m s a} (h : Within m s a) (hs : 72057593870155775 &&& m = 72057593870155775) :
    Within m s (highHalfWrite x0 x1 x2 a) := by
  refine Within.step (m := 72057593870155775) h ?_ hs
  unfold highHalfWrite
  with_reducible repeat' first | exact .refl | refine State.busWrite_in ?_ rfl

theorem rcRead_in {x0 x1 x2 x3 m s a} (h : Within m s a) (hs : 72057593870155775 &&& m = 72057593870155775) :
    Within m s (rcRead x0 x1 x2 x3 a) := by
  refine Within.step (m := 72057593870155775) h ?_ hs
  unfold rcRead
  with_reducible repeat' first | exact .refl | refine State.busRead_in ?_ rfl

theorem rlRead_in {x0 x1 x2 x3 m s a} (h : Within m s a) (hs : 72057593870155775 &&& m = 72057593870155775) :
    Within m s (rlRead x0 x1 x2 x3 a) := by
  refine Within.step (m := 72057593870155775) h ?_ hs
  unfold rlRead
  with_reducible repeat' first | exact .refl | refine State.busRead_in ?_ rfl

/-! Tick.lean -/

theorem State.tickRtc_in {m s a} (h : Within m s a) (hs : 140737496743936 &&& m = 140737496743936) :
    Within m s (State.tickRtc a) := by
  refine Within.step (m := 140737496743936) h ?_ hs
  unfold State.tickRtc; extract_lets
  with_reducible repeat' first | exact .refl | refine .ite ?_ ?_ | refine Within.setFldAt ?_ AON_RTC.COUNT_part rfl | refine Within.modPow ?_ rfl

theorem State.tick_in {m s a} (h : Within m s a) (hs : 140739644227585 &&& m = 140739644227585) :
    Within m s (State.tick a) := by
  refine Within.step (m := 140739644227585) h ?_ hs
  unfold State.tick; extract_lets
  with_reducible repeat' first | exact .refl | refine .ite ?_ ?_ | refine State.tickRtc_in ?_ rfl | refine Within.setFldAt ?_ SYS_REFCNT.COUNT_part rfl | refine Within.modBell ?_ rfl

end Sys2Proof.Machine
end

