-- ==== Sys2Proof/Laws/Bus.lean ====
section
/-! SUPPORT. Laws/Bus.lean: what a master's access of a register word does when it goes through (R14, R37, R40). -/

namespace Sys2Proof.Machine

theorem State.overLink_direct {m a n : Nat} {f : State → State} {s : State} (h : crosses m a = false ∨ n = 0) :
    s.overLink m a n f = f s := by
  unfold State.overLink
  rcases h with h | h <;> simp [h]

theorem State.busWrite_direct {m a v n : Nat} {s : State} (h : s.direct m a n) : s.busWrite m a v 4 n = (s.arrive m a).writeWord m a v := by
  obtain ⟨hr, h1, h2, h3, h4⟩ := h
  simp [State.busWrite, regAligned, h1, h2, h3, hr.2.1, Nat.not_lt.2 hr.1, State.overLink_direct h4, State.access_reaches hr]

theorem State.busRead_direct {m a n : Nat} {s : State} (h : s.direct m a n) : s.busRead m a 4 n = (s.arrive m a).readWord m a := by
  obtain ⟨hr, h1, h2, h3, h4⟩ := h
  simp [State.busRead, regAligned, h1, h2, h3, hr.2.1, Nat.not_lt.2 hr.1, State.overLink_direct h4, State.access_reaches hr]

theorem State.writeField_ne {m a v : Nat} {s : State} {e : Fld × Acc} {g : Fld} (h : g.key ≠ e.1.key) :
    (State.writeField m a v e s).fld g = s.fld g := by
  obtain ⟨f, t⟩ := e
  cases t with
  | rw => exact State.fld_setFld_ne _ _ _ _ h
  | rs => exact State.fld_setFld_ne _ _ _ _ h
  | evt => exact State.fld_setFld_ne _ _ _ _ h
  | ret => exact (apply_ite (fun u : State => u.fld g) _ _ _).trans (by rw [State.fld_setFld_ne _ _ _ _ h, ite_self])
  | pair => exact (apply_ite (fun u : State => u.fld g) _ _ _).trans (by
      rw [show (s.stageLow m a v).fld g = s.fld g from rfl, show ∀ u : State, (u.unstage m f.addr).fld g = u.fld g from fun _ => rfl, State.fld_setFld_ne _ _ _ _ h, ite_self])
  | _ => rfl

theorem fields_ne (m a v : Nat) {g : Fld} (l : List (Fld × Acc)) (s : State) (h : ∀ e ∈ l, g.key ≠ e.1.key) :
    (each l (State.writeField m a v) s).fld g = s.fld g := by
  induction l generalizing s with
  | nil => rfl
  | cons e l ih => exact (ih _ fun x hx => h x (List.mem_cons_of_mem _ hx)).trans (State.writeField_ne (h e (List.mem_cons_self ..)))

/-- A write of a word leaves every register field but the word's own. -/
theorem State.plainWrite_ne {m a v : Nat} {s : State} {g : Fld} (h : ∀ e ∈ fieldsAt a, g.key ≠ e.1.key) : (s.plainWrite m a v).fld g = s.fld g :=
  fields_ne m a v (fieldsAt a) s h

theorem fields_rw (m a v : Nat) {f : Fld} (l : List (Fld × Acc)) (s : State) (hf : (f, Acc.rw) ∈ l)
    (hp : l.Pairwise fun x y => x.1.key ≠ y.1.key) : (each l (State.writeField m a v) s).fld f = f.of v := by
  induction l generalizing s with
  | nil => cases hf
  | cons e l ih =>
    rcases List.mem_cons.1 hf with rfl | hf
    · refine (fields_ne m a v l _ fun x hx => (List.pairwise_cons.1 hp).1 x hx).trans ?_
      refine (State.fld_setFld s f (f.of v)).trans (Nat.mod_eq_of_lt (Nat.mod_lt _ (Nat.two_pow_pos _)))
    · exact ih _ hf (List.pairwise_cons.1 hp).2

/-- A write of a word sets its RW fields to the word's bits (R14). -/
theorem State.plainWrite_rw {m a v : Nat} {s : State} {f : Fld} (hf : (f, Acc.rw) ∈ fieldsAt a)
    (hp : (fieldsAt a).Pairwise fun x y => x.1.key ≠ y.1.key) : (s.plainWrite m a v).fld f = f.of v :=
  fields_rw m a v (fieldsAt a) s hf hp
end Sys2Proof.Machine
end

