-- ==== Sys2Proof/Laws/Lone.lean ====
section
/-! SUPPORT. Laws/Lone.lean: what admission and arbitration make of an entry that stands alone: it takes its context, is dispatched,
and completes, and nothing else moves but its function's token and arbitration fields. -/

namespace Sys2Proof.Machine

theorem State.fn_modFn_self (f : Nat) (g : Fn → Fn) (s : State) : (s.modFn f g).fn f = g (s.fn f) := by
  simp [State.fn, State.modFn]
theorem State.fn_modFn_ne {f h : Nat} (g : Fn → Fn) (s : State) (e : h ≠ f) : (s.modFn f g).fn h = s.fn h := by
  simp [State.fn, State.modFn, Tab.get_upd_ne _ _ _ e]

/-- A function's record without what its token buckets move. -/
def Fn.noTok (r : Fn) : Fn := { r with tAt := 0, cC := 0, cB := 0, dC := 0, dB := 0 }
/-- A function's record without what token buckets and arbitration move. -/
def Fn.noArb (r : Fn) : Fn := { r with tAt := 0, cC := 0, cB := 0, dC := 0, dB := 0, deficit := 0, rrQ := 0, rrLeft := 0, wrr := [] }

/-- `t` is `s` but for what `m` masks of the records of functions. -/
structure State.Same (m : Fn → Fn) (s t : State) : Prop where
  rest : t = s.modHfe fun h => { h with fns := t.hfe.fns }
  fn : ∀ f, m (t.fn f) = m (s.fn f)

section
variable {m : Fn → Fn} {a b c : State}

theorem State.Same.refl (s : State) : State.Same m s s := ⟨rfl, fun _ => rfl⟩
theorem State.Same.trans (h : State.Same m a b) (k : State.Same m b c) : State.Same m a c :=
  ⟨by rw [k.rest, h.rest]; rfl, fun f => (k.fn f).trans (h.fn f)⟩

theorem State.Same.modFn (f : Nat) (g : Fn → Fn) (s : State) (h : ∀ r, m (g r) = m r) : State.Same m s (s.modFn f g) := by
  refine ⟨rfl, fun k => ?_⟩
  by_cases e : k = f
  · subst e; rw [State.fn_modFn_self]; exact h _
  · rw [State.fn_modFn_ne _ _ e]

theorem State.Same.each {α : Type} (l : List α) (g : α → State → State) (h : ∀ a s, State.Same m s (g a s)) (s : State) :
    State.Same m s (each l g s) := by
  induction l generalizing s with
  | nil => exact .refl s
  | cons a l ih => exact (h a s).trans (ih _)

theorem State.Same.on (h : State.Same m a b) (f : Fld) : b.on f = a.on f := by rw [h.rest, State.on_modHfe]
theorem State.Same.hfe (h : State.Same m a b) : b.hfe = { a.hfe with fns := b.hfe.fns } := by
  have := h.rest
  rw [this]; rfl

theorem State.Same.arb (h : State.Same Fn.noTok a b) : State.Same Fn.noArb a b :=
  ⟨h.rest, fun f => (congrArg Fn.noArb (h.fn f) :)⟩
theorem State.Same.deficit (h : State.Same Fn.noTok a b) (f : Nat) : (b.fn f).deficit = (a.fn f).deficit :=
  (congrArg Fn.deficit (h.fn f) :)
end

theorem State.Same.refill (f : Nat) (s : State) : State.Same Fn.noTok s (s.refill f) := State.Same.modFn _ _ _ fun _ => rfl

/-- Media management that is idle does not move a state whose media records are those of an idle one. -/
theorem State.mediaTurn_idle {s : State} (h : s.mediaIdle) : s.mediaTurn = s := by
  have e : s.releaseErases = s := by
    unfold State.releaseErases
    rw [h.erases]
    show s.modDrf (fun d => { d with eraseWait := [] }) = s
    have := h.erases
    cases s; simp only [State.modDrf] at this ⊢; rw [← this]
  have c : s.copyAll = s := by unfold State.copyAll; rw [h.copies]; rfl
  have r : s.retryMigr = s := by unfold State.retryMigr; rw [h.migrations]; rfl
  have g : s.gcRetry = s := by unfold State.gcRetry; rw [h.collections]; rfl
  have k : s.kilnStart = s := by
    unfold State.kilnStart
    generalize hl : s.med.folds.map _ = l
    have hn : ∀ x ∈ l, x.2 = [] := by
      intro x hx
      rw [← hl] at hx
      obtain ⟨f, hf, rfl⟩ := List.mem_map.1 hx
      show (f.2.groups.map (·.1)).eraseDups = []
      rw [h.folds f hf]; rfl
    clear hl
    induction l with
    | nil => rfl
    | cons x l ih =>
      have hx : x.2 = [] := hn x (.head _)
      show Machine.each l _ (Machine.each x.2 _ s) = s
      rw [hx]
      exact ih fun y hy => hn y (.tail _ hy)
  unfold State.mediaTurn
  rw [e, c, c, r, g, k]

theorem State.mediaIdle.of {s t : State} (h : s.mediaIdle) (hd : t.drf = s.drf) (hm : t.med = s.med) : t.mediaIdle :=
  ⟨by rw [hd]; exact h.erases, by rw [hm]; exact h.copies, by rw [hm]; exact h.migrations, by rw [hm]; exact h.collections,
   by rw [hm]; exact h.folds⟩

/-- The front end with the entry of ticket `tk` in context `c`, and nothing else. -/
def State.taken (s : State) (tk : Tick) (c : Cmd) : State :=
  s.modHfe fun h => { h with tickets := [], ctx := [c], sqs := Tab.upd {} h.sqs (qkey tk.fn tk.sqid) fun x => { x with head := (x.head + 1) % max 1 x.size } }

theorem State.onlyEntry.take {s : State} {tk : Tick} (h : s.onlyEntry tk) (c : Cmd) : ∃ pos bpos,
    State.Same Fn.noTok (s.taken tk
      { c with ticket := tk.ticket, fn := tk.fn, sqid := tk.sqid, ordered := tk.sqid != 0 && (s.sq tk.fn tk.sqid).orderedFor tk.ticket,
               tail := s.tailFor tk.fn tk.ticket, da := s.daFor tk.ticket, pos := pos, bpos := bpos, bt := s.bellTime }) (s.takeEntry tk c) := by
  let q := s.charges { c with ticket := tk.ticket, fn := tk.fn, sqid := tk.sqid, ordered := tk.sqid != 0 && (s.sq tk.fn tk.sqid).orderedFor tk.ticket,
                              tail := s.tailFor tk.fn tk.ticket, da := s.daFor tk.ticket }
  let a := (s.modHfe fun h => { h with tickets := h.tickets.tail }).modSq tk.fn tk.sqid fun x => { x with head := (x.head + 1) % max 1 x.size }
  let b := (a.refill tk.fn).modFn tk.fn fun r => { r with dC := r.dC + q.1, dB := r.dB + q.2 }
  have hab : State.Same Fn.noTok a b := (State.Same.refill _ _).trans (State.Same.modFn _ _ _ fun _ => rfl)
  have ht : a.hfe.tickets = [] := by simp [a, State.modSq, State.modHfe, h.tickets]
  have hc : a.hfe.ctx = [] := by simp [a, State.modSq, State.modHfe, h.contexts]
  have hb : b = a.modHfe fun x => { x with fns := b.hfe.fns } := hab.rest
  let d := { c with ticket := tk.ticket, fn := tk.fn, sqid := tk.sqid, ordered := tk.sqid != 0 && (s.sq tk.fn tk.sqid).orderedFor tk.ticket, tail := s.tailFor tk.fn tk.ticket, da := s.daFor tk.ticket, pos := (b.fn tk.fn).dC, bpos := (b.fn tk.fn).dB, bt := b.bellTime }
  let t := b.modHfe fun x => { x with ctx := x.ctx ++ [d] }
  have hbt : b.bellTime = s.bellTime := by rw [hb]; rfl
  have e : s.takeEntry tk c = t.assertIf (decide (t.cmdLimit tk.fn ≤ t.ctxHeld tk.fn)) 201 := rfl
  have hk : t.hfe.ctx = [d] := by
    show b.hfe.ctx ++ [d] = [d]
    rw [hb]; show a.hfe.ctx ++ [d] = [d]; rw [hc]; rfl
  have hl : t.cmdLimit tk.fn = s.cmdLimit tk.fn := by
    show b.cmdLimit tk.fn = _
    rw [hb]; rfl
  have hh : t.ctxHeld tk.fn = 1 := by unfold State.ctxHeld; rw [hk]; simp [d]
  have hd : decide (t.cmdLimit tk.fn ≤ t.ctxHeld tk.fn) = false := by
    rw [hl, hh]; have := h.limit; simp; omega
  have e2 : s.takeEntry tk c = t := by rw [e, hd]; rfl
  refine ⟨(b.fn tk.fn).dC, (b.fn tk.fn).dB, ?_, fun f => by rw [e2]; exact hab.fn f⟩
  rw [e2, ← hbt]
  show t = (s.taken tk d).modHfe fun x => { x with fns := b.hfe.fns }
  show (b.modHfe fun x => { x with ctx := x.ctx ++ [d] }) = _
  rw [hb]
  simp [State.modHfe, State.taken, a, State.modSq, h.tickets, h.contexts]

section
variable {u : State} {c : Cmd}

theorem State.postAll_wait (hc : u.hfe.ctx = [c]) (h : c.status = none) : u.postAll = u := by
  simp [State.postAll, hc, State.drain, State.mayPost, h]

theorem State.settle_wait (hc : u.hfe.ctx = [c]) (h : c.status = none) (hd : u.due c = false) (hm : u.mediaIdle) : u.settle = u := by
  have e := State.postAll_wait hc h
  simp [State.settle, hc, State.settleN, e, hd, State.mediaTurn_idle hm]

theorem State.postCmd_ctx (hc : u.hfe.ctx = [c]) (st : Nat) : (u.postCmd c st).hfe.ctx = [] := by
  have h : ∀ x : Cpl, x.ticket = c.ticket → (u.postRaw x).hfe.ctx = [] := by
    intro x hx
    have hm : ∀ (f v : Nat) (w : State), (w.sendMsix f v).hfe.ctx = w.hfe.ctx := by
      intro f v w; unfold State.sendMsix; extract_lets; (repeat' split) <;> simp [State.modFn, State.modHfe]
    have hq : (u.hfe.ctx.filter fun y => y.ticket != x.ticket) = [] := by simp [hc, hx]
    unfold State.postRaw; extract_lets q a b
    have ha : a.hfe.ctx = [] := hq
    show b.hfe.ctx = []
    show (if q.ien then a.sendMsix x.fn q.vec else a).hfe.ctx = []
    split
    · rw [hm]; exact ha
    · exact ha
  unfold State.postCmd; extract_lets _ _ a b d
  have hb : b.hfe.ctx = [] := h _ rfl
  split
  · exact hb
  · exact hb

theorem State.settle_empty (hc : u.hfe.ctx = []) : u.settle = u.mediaTurn := by
  simp [State.settle, State.settleN, State.postAll, hc, State.drain]

theorem State.settle_done {st : Nat} (hc : u.hfe.ctx = [c]) (h : c.status = some st) (hs : u.hfe.stopped = false)
    (hr : u.cqRoom c.fn (u.sq c.fn c.sqid).cqid = true) : u.settle = (u.postCmd c st).mediaTurn := by
  have hx := State.postCmd_ctx hc st
  have hp : u.postAll = u.postCmd c st := by
    simp [State.postAll, hc, State.drain, State.mayPost, h, hs, hr]
  have hq : (u.postCmd c st).postAll = u.postCmd c st := by simp [State.postAll, hx, State.drain]
  simp [State.settle, State.settleN, hp, hx, hq]

theorem State.same_refillAll (ht : u.on FNS_CTRL.TOKEN_EN = false) : State.Same Fn.noTok u u.refillAll := by
  unfold State.refillAll
  extract_lets l s
  have h1 : State.Same Fn.noTok u s := State.Same.each _ _ (fun _ _ => .refill _ _) _
  have h2 : s.on FNS_CTRL.TOKEN_EN = false := (h1.on _).trans ht
  have h4 : ∀ c, s.tokenHeld c = false := by intro c; unfold State.tokenHeld; extract_lets; rw [h2]; rfl
  have h3 : ∀ (l : List Nat), l.filter (fun f => !(s.fn f).tokEv && s.hfe.ctx.any fun c => c.fn == f && !c.dispatched && c.status.isNone && s.tokenHeld c) = [] := by
    intro l; refine List.filter_eq_nil_iff.2 fun f _ => ?_
    simp [h4]
  clear_value s
  rw [h3]; exact h1

theorem readyFns_one (h : c.fn < 512) : readyFns [c] = [c.fn] := by
  have : (List.range 512).filter (fun f => c.fn == f) = [c.fn] := by
    have : ∀ n, n > c.fn → (List.range n).filter (fun f => c.fn == f) = [c.fn] := by
      intro n hn
      induction n with
      | zero => omega
      | succ n ih =>
        rw [List.range_succ, List.filter_append]
        by_cases e : n = c.fn
        · subst e
          have : (List.range c.fn).filter (fun f => c.fn == f) = [] := by
            apply List.filter_eq_nil_iff.2; intro a ha; simp at ha ⊢; omega
          simp [this]
        · rw [ih (by omega)]; simp; omega
    exact this 512 h
  simpa [readyFns] using this
end

/-- A lone admin entry is dispatched: what runs, and on what. -/
theorem State.onlyEntry.admin {s : State} {tk : Tick} (h : s.onlyEntry tk) (hq : tk.sqid = 0) (i : Instr) {o cid nsid xfer : Nat}
    (hx : xfer ≤ 2 ^ 21) (ho : (o = 0xC0 ∨ o = 0xC1) → s.mgt.waits.length < 64) : ∃ c u,
    c = { ticket := tk.ticket, fn := tk.fn, cid := cid, nsid := nsid, op := .admin o, req := some i, xfer := xfer, tail := c.tail, da := c.da,
          pos := c.pos, bpos := c.bpos, bt := c.bt } ∧
    State.Same Fn.noArb (s.taken tk { c with dispatched := true }) u ∧ s.admitAdmin i o cid nsid xfer = (u.runAdmin c).settle := by
  obtain ⟨pos, bpos, ha⟩ := h.take { cid := cid, nsid := nsid, op := .admin o, req := some i, xfer := xfer }
  simp only [hq] at ha
  generalize hc : ({ ticket := tk.ticket, fn := tk.fn, cid := cid, nsid := nsid, op := .admin o, req := some i, xfer := xfer, tail := s.tailFor tk.fn tk.ticket, da := s.daFor tk.ticket, pos := pos, bpos := bpos, bt := s.bellTime } : Cmd) = c
  simp only [bne_self_eq_false, Bool.false_and] at ha
  rw [hc] at ha
  have hct : c.ticket = tk.ticket := by rw [← hc]
  have hcf : c.fn = tk.fn := by rw [← hc]
  have hcq : c.sqid = 0 := by rw [← hc]
  have hco : c.op = .admin o := by rw [← hc]
  have hcs : c.status = none := by rw [← hc]
  have hcd : c.dispatched = false := by rw [← hc]
  have hor : c.ordered = false := by rw [← hc]
  generalize hb : s.takeEntry tk _ = b at ha
  have h1 : b.hfe.ctx = [c] := by rw [ha.hfe]; rfl
  have hst : ∀ {x : State}, State.Same Fn.noTok b x → x.hfe.ctx = [c] ∧ x.hfe.stopped = false ∧ x.on FNS_CTRL.TOKEN_EN = false := by
    intro x hx
    refine ⟨by rw [hx.hfe]; exact h1, by rw [hx.hfe]; show b.hfe.stopped = false; rw [ha.hfe]; exact h.running, ?_⟩
    rw [hx.on, ha.on]; exact (State.on_modHfe ..).trans h.tokens
  have hb1 : b.settle = b := State.settle_wait h1 hcs (by simp [State.due, hcs, hco]) (h.media.of (by rw [ha.rest]; rfl) (by rw [ha.rest]; rfl))
  have hr : State.Same Fn.noTok b b.refillAll := State.same_refillAll (hst (.refl _)).2.2
  have hr2 : State.Same Fn.noTok b b.refillAll.refillAll := hr.trans (State.same_refillAll (hst hr).2.2)
  have may : ∀ {x : State}, State.Same Fn.noTok b x → x.hfe.ctx.filter x.mayDispatch = [c] := by
    intro x hx
    obtain ⟨k1, k2, k3⟩ := hst hx
    have hw : x.mgt.waits.length = s.mgt.waits.length := by rw [hx.rest]; show b.mgt.waits.length = _; rw [ha.rest]; rfl
    have : x.mayDispatch c = true := by
      unfold State.mayDispatch State.tokenHeld
      simp only [hcd, hcs, hco, k2, k3, k1, hor, State.orderOk]
      simp only [hw]
      by_cases e : o = 0xC0 ∨ o = 0xC1
      · have := ho e; simp; omega
      · simp; omega
    simp [k1, this]
  refine ⟨c, (b.refillAll.refillAll.modFn c.fn fun r => { r with deficit := r.deficit - ((b.refillAll.refillAll.cost c : Nat) : Int) }).modCmd c.ticket fun x => { x with dispatched := true }, ?_, ?_, ?_⟩
  · rw [← hc]
  · have h2 := (ha.trans hr2).arb.trans (State.Same.modFn c.fn (fun r => { r with deficit := r.deficit - ((b.refillAll.refillAll.cost c : Nat) : Int) }) _ fun _ => rfl)
    generalize b.refillAll.refillAll.modFn c.fn _ = x at h2
    refine ⟨?_, fun f => h2.fn f⟩
    have e1 : x.hfe.ctx = [c] := by rw [h2.hfe]; rfl
    rw [h2.rest]
    simp [State.modCmd, State.modHfe, State.taken, updFirst]
  · have hdef : 0 < (b.refillAll.refillAll.fn c.fn).deficit := by
      rw [hr2.deficit, ha.deficit, hcf]; exact h.deficit
    have hn : s.nextTicket true = some tk := by 
      have : ¬ s.cmdLimit tk.fn ≤ s.ctxHeld tk.fn := by
        have := h.limit; simp [State.ctxHeld, h.contexts]; omega
      simp [State.nextTicket, h.tickets, h.running, hq, this]
    have hl : ¬ 2 ^ 21 < xfer := by omega
    have m1 := may hr
    have m2 := may hr2
    have hrf := readyFns_one (c := c) (by rw [hcf]; exact h.fn)
    have p1 : State.pickFn 64 [c.fn] b.refillAll.refillAll = (some c.fn, b.refillAll.refillAll) := by
      simp only [State.pickFn, List.find?_cons, hdef, decide_true]
    have p2 : b.refillAll.refillAll.pickCmd c.fn [c] = (some c, b.refillAll.refillAll) := by
      simp [State.pickCmd, hcq]
    unfold State.admitAdmin
    simp only [hn, hb, hl, if_false]
    unfold State.afterAdmit
    simp only [hb1, m1, hct, if_true]
    unfold State.dispatchNext
    simp only [m2, hrf, p1]
    have : List.filter (fun d : Cmd => d.fn == c.fn) [c] = [c] := by simp
    simp only [this, p2]
    unfold State.dispatch
    simp only [hco, hct]
end Sys2Proof.Machine
end

