-- ==== Sys2Proof/Tests/Slice0.lean ====
section
/-! SUPPORT. Tests/Slice0.lean: for every statement a state and operands that meet the hypotheses of each of its clauses, the operand
ranges that WellFormed refuses to leave, and small tests against the spec's own examples. -/

namespace Sys2Proof.Tests

open Sys2Proof.Machine

-- One theorem after the other: each evaluates a whole state, and many at a time need more memory than the check gives.
set_option Elab.async false

/-! States the witnesses start from. -/

def base : State := State.reset
def fields (l : List (Fld × Nat)) (s : State) : State := l.foldl (fun s e => s.setFld e.1 e.2) s

def tk0 : Tick := { ticket := 1, fn := 0, sqid := 0 }
def tk1 : Tick := { ticket := 1, fn := 0, sqid := 1 }
def host : State := (((fields [(FNS_CTRL.TOKEN_EN, 0)] base).modFn 0 fun x => { x with en := true, deficit := 1, nsq := 8, ncq := 8, busMaster := true }).modHfe fun h => { h with
  sqs := [(0, { size := 64 }), (1, { size := 64, cqid := 1 })], cqs := [(0, { size := 64 }), (1, { size := 64 })] })
def entry (t : Tick) : State := fields [(ZPM_CTRL.EN, 1), (FNS_CTRL.TOKEN_EN, 0)] (host.modHfe fun h => { h with tickets := [t] })
def spaced (n : Ns) (t : Tick) : State := (entry t).modZpm fun z => { z with ns := [(0, n)] }
def flat : Ns := { kind := 1, nsze := 1024, attached := [0], handles := [0] }
def zoned : Ns := { kind := 2, nsze := 65536, attached := [0], zlog := 24, zones := 16, zcapMib := 16, openLim := 4, actLim := 4 }
def plain : Ns := flat

def znode (st : ZState) (wp : Nat) (t : Tick) : State := (spaced zoned t).modZpm fun z => { z with zones := [(15, { kind := 1, state := st, nsidx := 0, wpAdmit := wp, wpCommit := wp, hasrow := true })] }
def one (o : Op) (p : Piece) (z : ZState) : State := (znode z 0 tk1).modHfe fun h => { h with tickets := [], ctx := [{ ticket := 1, fn := 0, sqid := 1, op := o, nsid := 1, lba := 61440, n := 8, dispatched := true, pieces := [p] }] }
def pc : Piece := { lba := 61440, n := 8 }

def roomy (t : Tick) : State := fields (((List.range 16).map fun k => (ZPM_SSET.VALID k, 1)) ++ ((List.range 16).map fun k => (ZPM_SSET.ROWS k, 64)) ++ [(ZPM_PGRP.ROW 0, 1024)]) (entry t)

def dictUp (s : State) : State := s.modMgt fun m => { m with loading := false }
def asking (t : Nat) (l : List Nat) : State := fields [(PWR_STAT.CTRL, 1)] (base.modPow fun p => { p with asked := l, entry := t })
def entering (t : Nat) : State := fields [(PWR_STAT.CTRL, 2), (EVR_CTRL.EN, 0)] (base.modPow fun p => { p with entry := t })
def slept (n : Nat) : State := fields [(PWR_STAT.STATE, n), (AON_WAKE.EN, 0xFF)] (base.modPow fun p => { p with mainFell := true })
def net (s : State) : State := fields [(MGT_CTRL.NET_EN, 1), (MGT_CTRL.MCTP_EN, 1)] (dictUp s)
def frame : Esnex := { seq := 255, src := 7, dst := 0 }
def cmx : Cmd := { ticket := 1, fn := 0, sqid := 0, op := .admin 0xC1 }

def grpAt (g n : Nat) (s : State) : State := fields [(FCH_GSTAT.STATE g, n)] s
def zrow (z : Zone) (s : State) : State := s.modZpm fun x => { x with zones := [(65535, z)] }
def quOf (e c : Nat) (d : Desc) (s : State) : State := s.modEng e fun g => { g with q := Tab.set [] g.q c [d] }
def flashUp (s : State) : State := fields [(DRF_STAT.STATE 127, 1), (FCH_GSTAT.STATE 15, 3)] s
def sysUnitsAll : State := base.modMed fun m => { m with units := (List.range 16).flatMap fun k => (List.range 8).map fun u => ((8 + k) * 16 * 131072 + u, { state := .system }) }
def laid (s : State) : State := (fields [(MED_CTRL.LAYOUT, 1)] s)

def ready (s : State) : State := (flashUp s).modCtl fun c => { c with recLoaded := true }
def dsc (op : Nat) : Desc := { op := op, die := 15, planes := 1, cwmask := 1, cell := if op = 3 then 3 else 0, owner := if op ≤ 3 ∨ op = 7 then 4 else 0, arg0 := if op = 10 then 18 else 0 }
def queued (c : Nat) (d : Desc) : State := quOf 127 c d (ready base)
def runs (d : Desc) (a : Act) : State := (ready base).modEng 127 fun g => { g with ctx := [(30, { live := true, desc := d, polls := 1 })], act := [(15, a)] }

def ctx0 : Ctx := { live := true, desc := { dsc 11 with op := 11 }, cls := 3, pc := 0x1000, w := List.replicate 8 0 }
def mcr (c : Ctx) : State := (ready base).modEng 127 fun g => { g with ctx := [(30, c)] }
def mca (c : Ctx) (a : Act) : State := (ready base).modEng 127 fun g => { g with ctx := [(30, c)], act := [(15, a)] }
def fencedDie : State := fields [(fenceFld 127, 2 ^ (fenceBit 127 15))] (mcr { ctx0 with target := 15 })

def posAll (k : Nat) (s : State) : State := s.modMsh fun m => { m with pos := (List.range 66).map fun p => (k * 128 + p, { present := true, die := p * 16 }) }
def rowsHeld (l : List Nat) (s : State) : State := s.modZpm fun z => { z with rows := l.map fun base => (4095 * 16384 + base, { held := true }), zones := [(65535, { kind := 1, state := .full, hasrow := true, sset := 4095, rownum := 15, rspan := 1 })] }
def rebuilding (l : List Nat) : State := fields [(MSH_CTRL.EN, 1)] (rowsHeld l (base.modMsh fun m => { m with dies := [(2047, { state := .rebuilding, sset := 4095 })], pos := [(4095 * 128 + 65, { present := true, die := 2047 })] }))
def migrating (m : Migr) : State := base.modMed fun x => { x with migr := [m] }

def tubsUp (l : List (Nat × Tub)) : State := fields [(TUB_CTRL.EN, 1), (TUB_WSEL.SEL, 65535)] (base.modTubs fun t => { t with tub := l, freshU := 49152 })

def usable (s : State) : State := fields ([(HLD_CTRL.EN, 1), (HLD_SENSE.HU, 4095), (HLD_STAT.STATE, 1)] ++ ((List.range 8).map fun g => (FCH_GSTAT.STATE g, 3)) ++ ((List.range 64).map fun e => (DRF_STAT.STATE e, 1)))
  ((s.modMed fun m => { m with units := (List.range 64).flatMap fun e => (List.range 2).map fun u => ((e * 16 + 1) * 131072 + u, { state := .system }) }).modHld fun h => { h with checkOk := true, charged := true })
def job (op ctx : Nat) (s : State) : State := (fields [(CIP_GHEAD.HEAD, 15), (CIP_GTAIL.TAIL, 15)] s)
  |> State.setWord (0x10000000 + 15 * 64) (ctx + 2 ^ 12 * op)
def jobs (op ctx : Nat) (j : GJob) : State := (job op ctx base).modCip fun c => { c with jobs := [j] }
def img : Image := { headerOk := true, digestOk := true, ecOk := true, mlOk := true, revoked := false, svn := 0, encrypted := false, payloadOk := true, len := 8372224, entry := 8372220, digest := 0, payload := [] }
def boot (n : Nat) (s : State) : State := fields [(SYS_BOOTPHASE.STEP, n)] s
def slots (a : Slot) (s : State) : State := fields [(TUB_CTRL.EN, 1)] (boot 15 (s.modNv fun v => { v with slotB := a }))
def lead (g : Nat) (s : State) : State := fields ((List.range 16).map fun g' => (FCH_GSTAT.STATE g', if g' = 16 then 0 else g)) s

def twoSets (z : Zone) : State := fields [(ZPM_SSET.VALID 0, 1), (ZPM_SSET.ROWS 0, 64), (ZPM_SSET.VALID 4095, 1), (ZPM_SSET.ROWS 4095, 64), (MSH_SSET.VALID 0, 1)] (zrow z base)

/-! Predicates of the statements from their parts, for the witnesses below. -/

theorem reaches_of {s : State} {m a : Nat} (h : m ≤ 7 ∧ s.mayAccess m a = true ∧ s.domainOff (domainOfReg a) = false) : s.reaches m a := h

theorem reachAll_of {s : State} {m b : Nat} {l : List Nat}
    (h : l.all (fun o => decide (m ≤ 7) && s.mayAccess m (b + o) && !s.domainOff (domainOfReg (b + o))) = true) :
    ∀ o ∈ l, s.reaches m (b + o) := by
  intro o ho
  have := List.all_eq_true.mp h o ho
  simpa [State.reaches, and_assoc] using this

theorem reachGrid_of {s : State} {m b : Nat}
    (h : (List.range 2).all (fun j => (List.range 2).all fun w => decide (m ≤ 7) && s.mayAccess m (b + 8 * j + 4 * w) &&
      !s.domainOff (domainOfReg (b + 8 * j + 4 * w))) = true) :
    ∀ j w, j < 2 → w < 2 → s.reaches m (b + 8 * j + 4 * w) := by
  intro j w hj hw
  have := List.all_eq_true.mp (List.all_eq_true.mp h j (List.mem_range.mpr hj)) w (List.mem_range.mpr hw)
  simpa [State.reaches, and_assoc] using this

theorem fn_of_all {p : Fn → Bool} (h0 : p fnDefault = true) {s : State} (h : s.hfe.fns.all (fun e => p e.2) = true) (f : Nat) :
    p (s.fn f) = true := by
  unfold State.fn
  generalize s.hfe.fns = t at h
  induction t with
  | nil => exact h0
  | cons e t ih =>
    obtain ⟨j, v⟩ := e
    simp only [List.all_cons, Bool.and_eq_true] at h
    by_cases hj : j = f
    · simpa [Tab.get, hj] using h.1
    · simpa [Tab.get, hj] using ih h.2

theorem noAers_of {s : State} (h : s.hfe.fns.all (fun e => e.2.aers.isEmpty) = true) (f : Nat) : (s.fn f).aers = [] :=
  List.isEmpty_iff.mp (fn_of_all (p := fun x => x.aers.isEmpty) rfl h f)

theorem noAerOf_of {s : State} {t : Nat} (h : s.hfe.fns.all (fun e => e.2.aers.isEmpty) = true) (f : Nat) :
    ∀ a ∈ (s.fn f).aers, a.2 ≠ t := by
  rw [noAers_of h f]; simp

theorem placed_of {o : Option (Nat × Nat)} {p : Nat → Nat → Prop} (f : Nat → Nat → Bool) (hf : ∀ i b, f i b = true → p i b)
    (h : o.elim false (fun x => f x.1 x.2) = true) : ∃ i b, o = some (i, b) ∧ p i b := by
  cases o with
  | none => simp at h
  | some x => exact ⟨x.1, x.2, rfl, hf _ _ h⟩

theorem hears_of {s : State} {h : Esnex} (p : s.up = true ∧ s.on MGT_CTRL.NET_EN = true ∧ h.opcode = 0 ∧ h.auth = false ∧ h.complete = true ∧
    h.version = 1 ∧ h.dst ≠ 0xFF ∧ h.dst = s.fld MGT_STAT.NODE ∧ s.mgt.waits = [] ∧ s.repeated h h.src = none) : s.hears h := p

theorem ringReady_of {s : State} {e : Nat} (h : s.cqFull e = false ∧ (s.engine e).heldRecs = []) : s.ringReady e := h

theorem dieQuiet_of {s : State} {d : Nat} (h : (s.ctxOf (d / 16) (d % 16 * 2)).live = false ∧ (s.ctxOf (d / 16) (d % 16 * 2 + 1)).live = false ∧
    s.resetting d = false ∧ bit (Tab.get 0 s.fch.resetWait (d / 128)) (d % 128) = false) : s.dieQuiet d := h

theorem ownDie_of {s : State} {e k : Nat} (h : (s.ctxOf e k).target = (s.ctxOf e k).desc.die ∧ s.fenced e (s.ctxOf e k).target = false) :
    s.ownDie e k := h

theorem checks_of {s : State} {e c : Nat} {d : Desc} {k : Chk} (h : e < 128 ∧ c < 4 ∧ s.mayStart e = true ∧ s.queue e c = [d] ∧ s.check e c d = k) :
    s.checks e c d k :=
  ⟨h.1, h.2.1, h.2.2.1, h.2.2.2.1, h.2.2.2.2⟩

theorem turnOf_of {s : State} {e c : Nat} {d : Desc} (h : (e < 128 ∧ c < 4 ∧ s.mayStart e = true ∧ s.queue e c = [d] ∧ s.check e c d = .start) ∧ s.mayTurn e c = true) :
    s.turnOf e c d :=
  ⟨checks_of h.1, h.2⟩

theorem busyWith_of {s : State} {e k : Nat} {d : Desc} (h : (s.ctxOf e k).live = true ∧ (s.ctxOf e k).desc = d ∧ d.owner = 0 ∧ d.work = .none) :
    s.busyWith e k d :=
  ⟨h.1, h.2.1, h.2.2.1, h.2.2.2⟩

theorem runsAlone_of {s : State} {e k : Nat} {d : Desc} (h : ((s.ctxOf e k).live = true ∧ (s.ctxOf e k).desc = d ∧ d.owner = 0 ∧ d.work = .none) ∧ k = d.die * 2 ∧ e < 128 ∧ d.die < 16 ∧ s.engState e ≠ engHalted ∧ (s.ctxOf e (k + 1)).live = false ∧ s.queue e clsTail = [] ∧ (s.ctxOf e k).cand = none ∧ (s.ctxOf e k).tailHeld = none ∧ (s.ctxOf e k).claimed = false ∧ (s.fch.resetQ = [] ∧ Tab.get 0 s.fch.resetOn (e * 16 + d.die) = 0) ∧ (s.cqFull e = false ∧ (s.engine e).heldRecs = []) ∧ s.ecc.modePend = false) :
    s.runsAlone e k d :=
  ⟨busyWith_of h.1, h.2.1, h.2.2.1, h.2.2.2.1, h.2.2.2.2.1, h.2.2.2.2.2.1, h.2.2.2.2.2.2.1, h.2.2.2.2.2.2.2.1, h.2.2.2.2.2.2.2.2.1, h.2.2.2.2.2.2.2.2.2.1, h.2.2.2.2.2.2.2.2.2.2.1, ringReady_of h.2.2.2.2.2.2.2.2.2.2.2.1, h.2.2.2.2.2.2.2.2.2.2.2.2⟩

theorem fetches_of {s : State} {e k : Nat} {i : MicroInstr} (h : s.microMay e k = true ∧ ((0x1000 ≤ (s.ctxOf e k).pc ∧ (s.ctxOf e k).pc < 0x2000) ∨ ((s.ctxOf e k).pc < 0x400 ∧ decodeMicro (Tab.get 0 (s.engine e).pstore (s.ctxOf e k).pc) = some i)) ∧ (s.ctxOf e k).w.length = 8 ∧ ((s.ctxOf e k).bus = false ∨ (s.ctxOf e k).quiet + 1 < 1024)) :
    s.fetches e k i :=
  ⟨h.1, h.2.1, h.2.2.1, h.2.2.2⟩

theorem atomicOk_of {s : State} {m : Nat} {w : Bool} {a : Nat} (h : s.masterRuns m a = true ∧ s.atomicFault m w a = none) :
    s.atomicOk m w a :=
  ⟨h.1, h.2⟩

theorem asks_of {s : State} {q : TubReq} (h : tagOk q.tag = true ∧ (q.tag < 8 ∨ s.fld (TUB_RES.STATE (q.tag - 8)) ≠ 1) ∧ (1 ≤ q.n ∧ q.n ≤ 1024)) :
    s.asks q :=
  ⟨h.1, h.2.1, h.2.2⟩

/-- What `mediaIdle` says, decidably. -/
abbrev idleMedia (s : State) : Prop :=
  s.drf.eraseWait = [] ∧ s.med.copies = [] ∧ s.med.migrWait = [] ∧ s.med.gc = [] ∧ ∀ e ∈ s.med.folds, e.2.groups = []

theorem mediaIdle_of {s : State} (h : idleMedia s) : s.mediaIdle := ⟨h.1, h.2.1, h.2.2.1, h.2.2.2.1, h.2.2.2.2⟩

/-- What `onlyEntry` says, decidably. -/
abbrev loneEntry (s : State) (t : Tick) : Prop :=
  s.hfe.tickets = [t] ∧ s.hfe.ctx = [] ∧ s.hfe.stopped = false ∧ t.fn < 512 ∧ 0 < (s.fn t.fn).deficit ∧ (s.sq t.fn t.sqid).prio < 4 ∧
    s.on FNS_CTRL.TOKEN_EN = false ∧ s.cqRoom t.fn (s.sq t.fn t.sqid).cqid = true ∧ 2 ≤ s.cmdLimit t.fn ∧ idleMedia s

theorem onlyEntry_of {s : State} {t : Tick} : loneEntry s t → s.onlyEntry t
  | ⟨a, b, c, d, e, f, g, h, i, j⟩ => ⟨a, b, c, d, e, f, g, h, i, mediaIdle_of j⟩

/-- What `onlyIo` says, decidably. -/
abbrev loneIo (s : State) (t : Tick) : Prop :=
  loneEntry s t ∧ t.sqid ≠ 0 ∧ s.on ZPM_CTRL.EN = true ∧ s.journalFull = false ∧ s.mapJournalFull = false

theorem onlyIo_of {s : State} {t : Tick} (h : loneIo s t) : s.onlyIo t := ⟨onlyEntry_of h.1, h.2.1, h.2.2.1, h.2.2.2.1, h.2.2.2.2⟩

theorem onlyAdmin_of {s : State} {t : Tick} (h : loneEntry s t ∧ t.sqid = 0 ∧ (s.sq t.fn 0).cqid = 0) : s.onlyAdmin t :=
  ⟨onlyEntry_of h.1, h.2.1, h.2.2⟩

theorem actsOn_of {s : State} {t : Tick} {n x i : Nat} (h : loneIo s t ∧ s.nsFor t.fn n = true ∧ (s.ns (n - 1)).kind = 2 ∧
    x < (s.ns (n - 1)).nsze ∧ x % (s.ns (n - 1)).zoneBlocks = 0 ∧ i = s.zoneOf n x ∧ (s.zone i).nsidx = n - 1 ∧
    (0 < (s.sq t.fn t.sqid).cqid ∧ (s.sq t.fn t.sqid).cqid < 65536)) : s.actsOn t n x i :=
  ⟨onlyIo_of h.1, h.2.1, h.2.2.1, h.2.2.2.1, h.2.2.2.2.1, h.2.2.2.2.2.1, h.2.2.2.2.2.2.1, h.2.2.2.2.2.2.2⟩

theorem mayBoot_of {s : State} (h : s.up = true ∧ s.memc.clearing = false ∧ s.bootStep = 6 ∧ (s.saf.secHold = false ∧ s.saf.startHold = false ∧ s.saf.nextStart = [])) :
    s.mayBoot :=
  ⟨h.1, h.2.1, h.2.2.1, h.2.2.2⟩

theorem direct_of {s : State} {m a n : Nat} (h : (m ≤ 7 ∧ s.mayAccess m a = true ∧ s.domainOff (domainOfReg a) = false) ∧ inRegs a = true ∧
    inPeek a = false ∧ a % 4 = 0 ∧ (crosses m a = false ∨ n = 0)) : s.direct m a n := h

theorem below_of {s : State} {r : Nat} (h : (List.range 64).all (fun a => (List.range 64).all fun b =>
    !s.on (MSH_SSET.VALID (64 * a + b)) || s.fld (MSH_SSET.RECIPE (64 * a + b)) != r) = true) :
    ∀ k, k < 4096 → s.on (MSH_SSET.VALID k) = true → s.fld (MSH_SSET.RECIPE k) ≠ r := by
  intro k hk hv
  have := List.all_eq_true.mp (List.all_eq_true.mp h (k / 64) (List.mem_range.mpr (by omega))) (k % 64) (List.mem_range.mpr (Nat.mod_lt _ (by omega)))
  rw [Nat.div_add_mod] at this
  simpa [hv] using this

theorem readsHere_of {s : State} {nsid slba n : Nat}
    (h : (List.range (n + 1)).all (fun j =>
      decide ((s.zone (s.zoneOf nsid (slba + j))).state ≠ .offline) &&
      decide (slba + j - s.zoneStart (s.zoneOf nsid (slba + j)) < min (s.zone (s.zoneOf nsid (slba + j))).wpAdmit (s.zone (s.zoneOf nsid (slba + j))).wpCommit) &&
      decide ((s.zone (s.zoneOf nsid (slba + j))).inVoid (slba + j - s.zoneStart (s.zoneOf nsid (slba + j))) = false) &&
      (s.placeOf nsid ((slba + j) / 2 ^ s.unitShift nsid)).elim false (fun x => decide (s.locOf x.1 x.2 = .none))) = true) :
    ∀ j, j ≤ n → (s.zone (s.zoneOf nsid (slba + j))).state ≠ .offline ∧
      slba + j - s.zoneStart (s.zoneOf nsid (slba + j)) < min (s.zone (s.zoneOf nsid (slba + j))).wpAdmit (s.zone (s.zoneOf nsid (slba + j))).wpCommit ∧
      (s.zone (s.zoneOf nsid (slba + j))).inVoid (slba + j - s.zoneStart (s.zoneOf nsid (slba + j))) = false ∧
      ∃ i b, s.placeOf nsid ((slba + j) / 2 ^ s.unitShift nsid) = some (i, b) ∧ s.locOf i b = .none := by
  intro j hj
  have := List.all_eq_true.mp h j (List.mem_range.mpr (by omega))
  simp only [Bool.and_eq_true] at this
  obtain ⟨⟨⟨a, b⟩, c⟩, d⟩ := this
  exact ⟨of_decide_eq_true a, of_decide_eq_true b, of_decide_eq_true c,
    placed_of (fun i b => decide (s.locOf i b = .none)) (fun _ _ => of_decide_eq_true) d⟩

/-! A GCM job of slot 15 whose tag stands in memory. -/

theorem ofBytes_mod (l : List Nat) : ofBytes (l.map (· % 256)) = ofBytes l := by
  induction l with
  | nil => rfl
  | cons b l ih => simp [ofBytes, ih]

theorem ofBytes_toBytes (v n : Nat) : ofBytes (toBytes v n) = v % 256 ^ n := by
  induction n generalizing v with
  | zero => simp [ofBytes, toBytes, Nat.mod_one]
  | succ n ih => simp only [ofBytes, toBytes, ih, Nat.mod_mod]; rw [Nat.pow_succ', Nat.mod_mul]

def tagged (t : Nat) : State :=
  (jobs 2 255 { slot := 15, iv := some 7 }).modBus fun b => { b with
    mem := [(0x100003C0, 0xFF), (0x100003C1, 0x20)] ++ (List.range 16).map fun i => (0x100003C0 + 40 + i, BitVec.ofNat 8 ((toBytes t 16).getD i 0)) }

theorem get_map (A : Nat) (f : Nat → BitVec 8) (i : Nat) (l : List Nat) (h : i ∈ l) :
    Tab.get memDefault (l.map fun j => (A + j, f j)) (A + i) = f i := by
  induction l with
  | nil => simp at h
  | cons j l ih =>
    by_cases hj : j = i
    · simp [Tab.get, hj]
    · have : i ∈ l := by simpa [Ne.symm hj] using h
      simp [Tab.get, hj, ih this]

theorem tagged_byte (t i : Nat) (hi : i < 16) : (tagged t).byte (0x100003C0 + 40 + i) = (toBytes t 16).getD i 0 % 256 := by
  have h : Tab.get memDefault (tagged t).bus.mem (0x100003C0 + 40 + i) = BitVec.ofNat 8 ((toBytes t 16).getD i 0) := by
    show Tab.get memDefault ((0x100003C0, 0xFF) :: (0x100003C1, 0x20) :: (List.range 16).map fun i => (0x100003C0 + 40 + i, BitVec.ofNat 8 ((toBytes t 16).getD i 0))) _ = _
    rw [Tab.get, if_neg (by omega), Tab.get, if_neg (by omega)]
    exact get_map _ (fun i => BitVec.ofNat 8 ((toBytes t 16).getD i 0)) i _ (List.mem_range.mpr hi)
  rw [State.byte, h, BitVec.toNat_ofNat]

theorem tagged_bytes (t : Nat) : (tagged t).bytes (0x100003C0 + 40) 16 = (toBytes t 16).map (· % 256) := by
  simp only [State.bytes, List.map_congr_left fun i hi => tagged_byte t i (List.mem_range.mp hi)]
  rfl

theorem tagged_addr (t : Nat) : (tagged t).jobAddr 15 = 0x100003C0 := by
  show (jobs 2 255 { slot := 15, iv := some 7 }).jobAddr 15 = _
  decide +kernel

theorem jobTag_tagged (t : Nat) : (tagged t).jobTag 15 = t % 256 ^ 16 := by
  rw [← ofBytes_toBytes, ← ofBytes_mod, ← tagged_bytes, State.jobTag, tagged_addr]

/-- The tag of that job's empty message under its key. -/
def emptyTag : Nat := (Config.gcmTag (fwKey 255 0) 0 [] []).toNat

theorem tagJob_differs : ∃ (s : State) (j : GJob) (key : Nat) (iv : Nat) (_ : GcmCheck) (ct : List Nat), s.cip.jobs = [j] ∧ s.nextJob 2 = some j ∧
    s.fld CIP_GHEAD.HEAD = s.fld CIP_GTAIL.TAIL ∧ key = fwKey (s.jobCtx j.slot) j.gen ∧
    iv = s.jobWord j.slot 7 * 2 ^ 64 + s.jobWord j.slot 8 * 2 ^ 32 + s.jobWord j.slot 9 ∧ ct = s.bytes (s.jobSrc j.slot + s.jobAad j.slot) (s.jobLen j.slot) ∧
    (Config.gcmTag key iv (s.bytes (s.jobSrc j.slot) (s.jobAad j.slot)) ct).toNat ≠ s.jobTag j.slot := by
  by_cases h : emptyTag = 0
  · refine ⟨tagged 1, { slot := 15, iv := some 7 }, fwKey 255 0, 0, .ok, [], by decide +kernel, by decide +kernel, by decide +kernel, by decide +kernel,
      by decide +kernel, by decide +kernel, ?_⟩
    have e : (tagged 1).bytes ((tagged 1).jobSrc 15) ((tagged 1).jobAad 15) = [] := by decide +kernel
    rw [e, jobTag_tagged]
    show emptyTag ≠ _
    omega
  · refine ⟨tagged 0, { slot := 15, iv := some 7 }, fwKey 255 0, 0, .ok, [], by decide +kernel, by decide +kernel, by decide +kernel, by decide +kernel,
      by decide +kernel, by decide +kernel, ?_⟩
    have e : (tagged 0).bytes ((tagged 0).jobSrc 15) ((tagged 0).jobAad 15) = [] := by decide +kernel
    rw [e, jobTag_tagged]
    show emptyTag ≠ _
    omega

theorem tagJob_agrees : ∃ (s : State) (j : GJob) (key : Nat) (iv : Nat) (check : GcmCheck) (ct : List Nat), s.cip.jobs = [j] ∧ s.nextJob 2 = some j ∧
    s.fld CIP_GHEAD.HEAD = s.fld CIP_GTAIL.TAIL ∧ key = fwKey (s.jobCtx j.slot) j.gen ∧
    iv = s.jobWord j.slot 7 * 2 ^ 64 + s.jobWord j.slot 8 * 2 ^ 32 + s.jobWord j.slot 9 ∧ ct = s.bytes (s.jobSrc j.slot + s.jobAad j.slot) (s.jobLen j.slot) ∧
    (Config.gcmTag key iv (s.bytes (s.jobSrc j.slot) (s.jobAad j.slot)) ct).toNat = s.jobTag j.slot ∧ check ≠ .mismatchTwice ∧
    (s.jobDst j.slot + s.jobLen j.slot ≤ s.jobAddr j.slot ∨ s.jobAddr j.slot + 64 ≤ s.jobDst j.slot) := by
  refine ⟨tagged emptyTag, { slot := 15, iv := some 7 }, fwKey 255 0, 0, .ok, [], by decide +kernel, by decide +kernel, by decide +kernel, by decide +kernel,
    by decide +kernel, by decide +kernel, ?_, by decide, by decide +kernel⟩
  have e : (tagged emptyTag).bytes ((tagged emptyTag).jobSrc 15) ((tagged emptyTag).jobAad 15) = [] := by decide +kernel
  rw [e, jobTag_tagged]
  show emptyTag = _
  exact (Nat.mod_eq_of_lt (Config.gcmTag (fwKey 255 0) 0 [] []).isLt).symm

/-! For each statement the hypotheses of every clause are met. -/

/-- EveryStepKeepsCanonicalStores: a state and operands that meet the hypotheses of each clause. -/
theorem witness_EveryStepKeepsCanonicalStores :
    (∃ s t : State, s.canon ∧ step s = .next t) :=
  ⟨base, base.tick, ⟨by decide +kernel, by decide +kernel⟩, rfl⟩

/-- ResetLeavesRegisterDefaults: a state and operands that meet the hypotheses of each clause. -/
theorem witness_ResetLeavesRegisterDefaults :
    (∃ (p : _), p < 2) ∧
    (∃ (g : _), g < 4) ∧
    (∃ (n : _), n < 512) :=
  ⟨⟨1, by decide +kernel⟩,
   ⟨0, by decide +kernel⟩,
   ⟨47, by decide +kernel⟩⟩

/-- StepRunsFrontCommand: a state and operands that meet the hypotheses of each clause. -/
theorem witness_StepRunsFrontCommand :
    (∃ (c : Instr) (q : List Instr) (s : State), s.pending = c :: q) ∧
    (∃ (s : State), s.pending = [] ∧ s.up = true) :=
  ⟨⟨.slotWindowClose, [.frameStart], { base with pending := [.slotWindowClose, .frameStart] }, rfl⟩,
   ⟨base, by decide +kernel⟩⟩

/-- RegisterAccessFollowsFieldTypes: a state and operands that meet the hypotheses of each clause. -/
theorem witness_RegisterAccessFollowsFieldTypes :
    (∃ (s : State) (m : Nat) (n : Nat) (f : Fld), f ∈ plainRw ∧ s.direct m f.addr n) ∧
    (∃ (s : State) (m : Nat) (n : Nat) (f : Fld), f ∈ plainRc ∧ s.direct m f.addr n) :=
  ⟨⟨base, 0, 0, THM_NAND.TEMP, by decide +kernel, direct_of (by decide +kernel)⟩,
   ⟨base, 0, 0, SAF_D2DCNT.FAILED, by decide +kernel, direct_of (by decide +kernel)⟩⟩

/-- PeekAliasHasNoSideEffect: a state and operands that meet the hypotheses of each clause. -/
theorem witness_PeekAliasHasNoSideEffect :
    (∃ (s : State) (m : Nat) (a : Nat), inRegs a = true ∧ inPeek a = true ∧ a % 4 = 0 ∧ (m ≠ 5 ∨ s.mayAccess m a = true)) ∧
    (∃ (s : State) (m : Nat) (a : Nat) (n : Nat), m ≠ 6 ∧ s.reaches m a ∧ inRegs (a + 0x100000) = true ∧ inPeek (a + 0x100000) = true ∧ a % 4 = 0 ∧ ((crosses m (a + 0x100000) = false ∨ n = 0))) ∧
    (∃ (s : State) (m : Nat) (n : Nat) (f : Fld), f ∈ plainRl ∧ m ≠ 6 ∧ s.reaches m (f.addr + 4) ∧ ((crosses m f.addr = false ∨ n = 0))) :=
  ⟨⟨base, 0, 0x4210000c, by decide +kernel⟩,
   ⟨base, 0, 0x42000000, 0, by decide +kernel, reaches_of (by decide +kernel), by decide +kernel⟩,
   ⟨base, 0, 0, AON_RTC.COUNT, by decide +kernel, by decide +kernel, reaches_of (by decide +kernel), by decide +kernel⟩⟩

/-- WidePairsLatchAndCommit: a state and operands that meet the hypotheses of each clause. -/
theorem witness_WidePairsLatchAndCommit :
    (∃ (s : State) (m : Nat) (n : Nat) (f : Fld), f ∈ plainRl ∧ s.direct m f.addr n) ∧
    (∃ (s : State) (m : Nat) (n : Nat), s.direct m BEL_MASK.MASK.addr n) ∧
    (∃ (s : State) (m : Nat), s.direct m (BEL_MASK.MASK.addr + 4) 0) :=
  ⟨⟨base, 0, 0, AON_RTC.COUNT, by decide +kernel, direct_of (by decide +kernel)⟩,
   ⟨base, 0, 47, direct_of (by decide +kernel)⟩,
   ⟨base, 0, direct_of (by decide +kernel)⟩⟩

/-- AccessFaultsHaveNoOtherEffect: a state and operands that meet the hypotheses of each clause. -/
theorem witness_AccessFaultsHaveNoOtherEffect :
    (∃ (s : State) (m : Nat) (a : Nat) (c : Nat), m ≤ 7 ∧ s.mayAccess m a = true ∧ inRegs a = false ∧ s.memFault m a = some c) ∧
    (∃ (s : State) (m : Nat) (a : Nat), s.secure m = false ∧ 0x80000000 ≤ a) ∧
    (∃ (a : Nat), 0x43000000 ≤ a ∧ a < 0x80000000) ∧
    (∃ (s : State) (m : Nat) (a : Nat), s.secure m = true ∧ ((0x80130000 ≤ a ∧ a < 0x81000000) ∨ 0x81010000 ≤ a)) ∧
    (∃ (s : State) (m : Nat) (k : Nat) (b : Nat), k < 48 ∧ b < 0x200000 ∧ s.bankOpen (s.fld (MEM_BANKASN.OWNER k)) m = false) ∧
    (∃ (s : State) (m : Nat) (a : Nat) (z : Nat), m ≤ 7 ∧ s.mayAccess m a = true ∧ s.up = true ∧ inRegs a = true ∧ (a % 4 ≠ 0 ∨ z ≠ 4)) ∧
    (∃ (m : Nat), 7 < m) :=
  ⟨⟨base, 7, 0x43000000, 2, by decide +kernel⟩,
   ⟨base, 7, 0x80000000, by decide +kernel⟩,
   ⟨0x7fffffff, by decide +kernel⟩,
   ⟨base, 4, 0x8FFFFFFF, by decide +kernel⟩,
   ⟨base, 7, 47, 0x1fffff, by decide +kernel⟩,
   ⟨base, 5, 0x42000001, 4, by decide +kernel⟩,
   ⟨8, by decide +kernel⟩⟩

/-- BellMarksDriveTheLockLoop: a state and operands that meet the hypotheses of each clause. -/
theorem witness_BellMarksDriveTheLockLoop :
    (∃ (s : State) (w : Nat), s.bellRuns = true ∧ w + 50 < 500) ∧
    (∃ (s : State) (w : Nat), s.bellRuns = true ∧ ((550 < w ∧ w + 50 < 1500) ∨ (3050 < w ∧ w + 50 < 5000) ∨ 8050 < w)) ∧
    (∃ (s : State) (w : Nat), s.bellRuns = true ∧ s.bellSrc = 0 ∧ 1550 < w ∧ w + 50 < 3000) ∧
    (∃ (s : State) (w : Nat), s.bellRuns = true ∧ s.bellSrc = 0 ∧ 5050 < w ∧ w + 50 < 8000 ∧ s.lock = lockAcquire) ∧
    (∃ (s : State), s.bellRuns = true ∧ s.lock = lockLocked ∧ s.fld BEL_STAT.MISSED < 2) ∧
    (∃ (s : State), s.bellRuns = true ∧ s.lock = lockLocked ∧ s.fld BEL_STAT.MISSED = 2) ∧
    (∃ (s : State), s.bellRuns = true ∧ (s.lock = lockFree ∨ s.lock = lockAcquire)) :=
  ⟨⟨base, 449, by decide +kernel⟩,
   ⟨base, 551, by decide +kernel⟩,
   ⟨base, 1551, by decide +kernel⟩,
   ⟨base, 5051, by decide +kernel⟩,
   ⟨fields [(BEL_STAT.LOCK, 3)] base, by decide +kernel⟩,
   ⟨fields [(BEL_STAT.LOCK, 3), (BEL_STAT.MISSED, 2)] base, by decide +kernel⟩,
   ⟨base, by decide +kernel⟩⟩

/-- BellTimeAdvances: a state and operands that meet the hypotheses of each clause. -/
theorem witness_BellTimeAdvances :
    (∃ (s : State) (d : Int), s.up = true ∧ s.coldNum 0x1104 0 ≠ 0 ∧ s.on MGT_STAT.COORD = false ∧ s.on MGT_STAT.NETUP = true ∧ s.bellRuns = true ∧ s.bellSrc = 1 ∧ s.bell.frameNotice = false ∧ onTime d = true ∧ s.lock = lockConfirm ∧ s.bell.cand ≠ 0) ∧
    (∃ (s : State) (d : Int), s.up = true ∧ s.coldNum 0x1104 0 ≠ 0 ∧ s.on MGT_STAT.COORD = false ∧ s.on MGT_STAT.NETUP = true ∧ s.bellRuns = true ∧ s.bellSrc = 1 ∧ s.bell.frameNotice = false ∧ onTime d = true ∧ s.lock = lockLocked) ∧
    (∃ (s : State), s.bellRuns = true ∧ s.bell.slot < 63) ∧
    (∃ (s : State), s.bellRuns = true ∧ s.bell.slot = 63) ∧
    (∃ (s : State), s.bellRuns = true ∧ s.bell.slot = 63) ∧
    (∃ (s : State), s.bell.puActive = true) :=
  ⟨⟨fields [(BEL_STAT.LOCK, 2), (MGT_STAT.NETUP, 1), (BEL_CTRL.SRC, 1), (MGT_STAT.NODE, 1)] (base.modBell fun b => { b with cand := 63 }), 5000, by decide +kernel⟩,
   ⟨fields [(BEL_STAT.LOCK, 3), (MGT_STAT.NETUP, 1), (BEL_CTRL.SRC, 1), (MGT_STAT.NODE, 1)] (base.modBell fun b => { b with cand := 63 }), 5000, by decide +kernel⟩,
   ⟨base, by decide +kernel⟩,
   ⟨base.modBell fun b => { b with slot := 63, puActive := true }, by decide +kernel⟩,
   ⟨base.modBell fun b => { b with slot := 63, puActive := true }, by decide +kernel⟩,
   ⟨base, by decide +kernel⟩⟩

/-- BellRegisterWrites: a state and operands that meet the hypotheses of each clause. -/
theorem witness_BellRegisterWrites :
    (∃ (s : State) (m : Nat), s.reaches m BEL_CTRL.SRC.addr) ∧
    (∃ (s : State) (m : Nat) (v : Nat), s.reaches m BEL_BUDGET.BUDGET.addr ∧ budgetOk (BEL_BUDGET.BUDGET.of v) (BEL_BUDGET.RESERVE.of v) s.maxNominal = true) ∧
    (∃ (s : State) (m : Nat) (v : Nat), s.reaches m BEL_BUDGET.BUDGET.addr ∧ budgetOk (BEL_BUDGET.BUDGET.of v) (BEL_BUDGET.RESERVE.of v) s.maxNominal = false) ∧
    (∃ (s : State) (m : Nat) (v : Nat), s.reaches m BEL_MODE_CMD.GO.addr ∧ BEL_MODE_CMD.GO.of v = 1 ∧ s.hld.committed = false) ∧
    (∃ (s : State) (u : Nat), u < 128 ∧ s.fld BEL_MODE_STAT.STATE = modeMixed ∧ s.bell.rbPend = false ∧ s.modeLate = [u]) :=
  ⟨⟨base, 0, reaches_of (by decide +kernel)⟩,
   ⟨base, 0, 16000, reaches_of (by decide +kernel), by decide +kernel⟩,
   ⟨base, 0, 0x80000000, reaches_of (by decide +kernel), by decide +kernel⟩,
   ⟨base, 0, 0x80000000, reaches_of (by decide +kernel), by decide +kernel⟩,
   ⟨fields [(BEL_MODE_STAT.STATE, modeMixed)] (base.modBell fun b => { b with modeDone := (List.range modeUnits).filter (fun u => u != 127) }), 127, by decide +kernel⟩⟩

/-- PortResetsLeaveTheRestRunning: a state and operands that meet the hypotheses of each clause. -/
theorem witness_PortResetsLeaveTheRestRunning :
    (∃ (s : State), s.up = true ∧ s.pci.strapped = false ∧ s.pci.port0.perst = true) ∧
    (∃ (s : State), s.pcieSupplied = false) ∧
    (∃ (s : State) (p : Nat), s.up = true ∧ s.pci.strapped = true ∧ s.portExists p = true ∧ (s.port p).perst = true) ∧
    (∃ (s : State) (p : Nat), s.pcieSupplied = true ∧ s.portExists p = true ∧ (s.port p).perst = false) ∧
    (∃ (s : State) (p : Nat), s.portExists p = true ∧ s.on (PCI_LSTAT.LINKUP p) = true) :=
  ⟨⟨base, by decide +kernel⟩,
   ⟨base.modCtl fun c => { c with pgood := 0xF7 }, by decide +kernel⟩,
   ⟨base.modPci fun p => { p with strapped := true }, 0, by decide +kernel⟩,
   ⟨fields [(PCI_STRAP.BIF, 1), (PCI_LSTAT.LINKUP 1, 1)] (base.modPci fun p => { p with strapped := true, port1 := { perst := false } }), 1, by decide +kernel⟩,
   ⟨fields [(PCI_STRAP.BIF, 1), (PCI_LSTAT.LINKUP 1, 1)] (base.modPci fun p => { p with strapped := true, port1 := { perst := false } }), 1, by decide +kernel⟩⟩

/-- LinkStatesFollowTheirEvents: a state and operands that meet the hypotheses of each clause. -/
theorem witness_LinkStatesFollowTheirEvents :
    (∃ (s : State) (p : Nat) (r : Nat) (w : Nat) (flit : Bool), s.portExists p = true ∧ (s.port p).training = true ∧ (s.port p).perst = false ∧ 1 ≤ r ∧ r ≤ (s.port p).trainRate ∧ r < 8 ∧ ((flit = true → (s.port p).trainFlit = true)) ∧ ((flit = false → r ≤ 5)) ∧ (w ∈ [1, 2, 4] ∨ (w = 8 ∧ s.on PCI_STRAP.BIF = false))) ∧
    (∃ (s : State) (p : Nat), s.portExists p = true ∧ s.fld (PCI_LSTAT.LTSSM p) = 3) ∧
    (∃ (s : State) (p : Nat), s.portExists p = true ∧ s.on (PCI_LSTAT.LINKUP p) = true) ∧
    (∃ (s : State) (p : Nat) (w : Nat), s.portExists p = true ∧ s.l0pOk p = true ∧ w ∈ [1, 2, 4, 8] ∧ w ≤ s.fld (PCI_LSTAT.WIDTH p)) ∧
    (∃ (s : State) (p : Nat) (sub : Nat), s.portExists p = true ∧ s.fld (PCI_LSTAT.LTSSM p) = 3 ∧ bit (s.port p).aspm 0 = true ∧ 1 ≤ sub ∧ sub ≤ 3 ∧ ((sub = 1 ∨ bit (s.port p).aspm (sub - 1) = true))) ∧
    (∃ (s : State) (p : Nat), s.portExists p = true ∧ s.fld (PCI_LSTAT.LTSSM p) = 5) ∧
    (∃ (s : State) (p : Nat), s.portExists p = true ∧ (s.fld (PCI_LSTAT.LTSSM p) = 3 ∨ s.fld (PCI_LSTAT.LTSSM p) = 5)) :=
  ⟨⟨fields [(PCI_STRAP.BIF, 1), (PCI_LSTAT.LINKUP 1, 1), (PCI_LSTAT.LTSSM 1, 3), (PCI_LSTAT.FLIT 1, 1), (PCI_LSTAT.RATE 1, 6), (PCI_LSTAT.WIDTH 1, 8)] (base.modPci fun p => { p with strapped := true, port1 := { perst := false, training := true } }), 1, 6, 4, true, by decide +kernel⟩,
   ⟨fields [(PCI_STRAP.BIF, 1), (PCI_LSTAT.LINKUP 1, 1), (PCI_LSTAT.LTSSM 1, 3), (PCI_LSTAT.FLIT 1, 1), (PCI_LSTAT.RATE 1, 6), (PCI_LSTAT.WIDTH 1, 8)] (base.modPci fun p => { p with strapped := true, port1 := { perst := false, training := true } }), 1, by decide +kernel⟩,
   ⟨fields [(PCI_STRAP.BIF, 1), (PCI_LSTAT.LINKUP 1, 1), (PCI_LSTAT.LTSSM 1, 3), (PCI_LSTAT.FLIT 1, 1), (PCI_LSTAT.RATE 1, 6), (PCI_LSTAT.WIDTH 1, 8)] (base.modPci fun p => { p with strapped := true, port1 := { perst := false, training := true } }), 1, by decide +kernel⟩,
   ⟨fields [(PCI_STRAP.BIF, 1), (PCI_LSTAT.LINKUP 1, 1), (PCI_LSTAT.LTSSM 1, 3), (PCI_LSTAT.FLIT 1, 1), (PCI_LSTAT.RATE 1, 6), (PCI_LSTAT.WIDTH 1, 8)] (base.modPci fun p => { p with strapped := true, port1 := { perst := false, training := true } }), 1, 8, by decide +kernel⟩,
   ⟨fields [(PCI_STRAP.BIF, 1), (PCI_LSTAT.LINKUP 1, 1), (PCI_LSTAT.LTSSM 1, 3), (PCI_LSTAT.FLIT 1, 1), (PCI_LSTAT.RATE 1, 6), (PCI_LSTAT.WIDTH 1, 8)] (base.modPci fun p => { p with strapped := true, port1 := { perst := false, aspm := 15, training := true } }), 1, 3, by decide +kernel⟩,
   ⟨fields [(PCI_STRAP.BIF, 1), (PCI_LSTAT.LINKUP 1, 1), (PCI_LSTAT.LTSSM 1, 5), (PCI_LSTAT.FLIT 1, 1), (PCI_LSTAT.RATE 1, 6), (PCI_LSTAT.WIDTH 1, 8)] (base.modPci fun p => { p with strapped := true, port1 := { perst := false, training := true } }), 1, by decide +kernel⟩,
   ⟨fields [(PCI_STRAP.BIF, 1), (PCI_LSTAT.LINKUP 1, 1), (PCI_LSTAT.LTSSM 1, 3), (PCI_LSTAT.FLIT 1, 1), (PCI_LSTAT.RATE 1, 6), (PCI_LSTAT.WIDTH 1, 8)] (base.modPci fun p => { p with strapped := true, port1 := { perst := false, training := true } }), 1, by decide +kernel⟩⟩

/-- ConfigurationWaitsForReady: a state and operands that meet the hypotheses of each clause. -/
theorem witness_ConfigurationWaitsForReady :
    (∃ (s : State) (m : Nat), s.reaches m PCI_CTRL.MAXRATE.addr) ∧
    (∃ (s : State) (p : Nat), s.portExists p = true ∧ (s.port p).perst = false ∧ s.on (cfgReady p) = false) ∧
    (∃ (s : State) (p : Nat) (r : CfgReq), s.up = true ∧ s.portExists p = true ∧ (s.port p).perst = false ∧ s.on (cfgReady p) = false ∧ isBarRequest r = false) ∧
    (∃ (s : State) (p : Nat) (f : Nat), s.up = true ∧ s.portExists p = true ∧ (s.port p).perst = false ∧ s.on (cfgReady p) = true ∧ (s.fnExists f = false ∨ s.portOf f ≠ p)) ∧
    (∃ (s : State) (p : Nat) (f : Nat), s.up = true ∧ s.portExists p = true ∧ s.fnExists f = true ∧ s.portOf f = p ∧ (s.port p).perst = false ∧ (s.fn f).d3 = false) ∧
    (∃ (s : State) (p : Nat) (f : Nat), s.up = true ∧ s.portExists p = true ∧ (s.port p).perst = false ∧ s.on (cfgReady p) = true ∧ s.fnExists f = true ∧ s.portOf f = p) :=
  ⟨⟨base, 0, reaches_of (by decide +kernel)⟩,
   ⟨base.modPci fun p => { p with port0 := { perst := false } }, 0, by decide +kernel⟩,
   ⟨base.modPci fun p => { p with port0 := { perst := false } }, 0, .readIds, by decide +kernel⟩,
   ⟨fields [(PCI_CTRL.CFG_READY0, 1)] (base.modPci fun p => { p with port0 := { perst := false } }), 0, 511, by decide +kernel⟩,
   ⟨base.modPci fun p => { p with port0 := { perst := false } }, 0, 0, by decide +kernel⟩,
   ⟨fields [(PCI_CTRL.CFG_READY0, 1)] (base.modPci fun p => { p with port0 := { perst := false, vfNum := 2 } }), 0, 3, by decide +kernel⟩⟩

/-- ControllerLifeFollowsEnableAndResets: a state and operands that meet the hypotheses of each clause. -/
theorem witness_ControllerLifeFollowsEnableAndResets :
    (∃ (s : State) (f : Nat) (ams : Nat), s.fnExists f = true ∧ (s.fn f).en = false ∧ (s.fn f).d3 = false ∧ ams ≤ 1 ∧ s.fld (PCI_LSTAT.LTSSM (s.portOf f)) ≠ 8) ∧
    (∃ (s : State) (f : Nat), s.hfe.ctx = [] ∧ s.hfe.held = [] ∧ (s.fn f).en = true) ∧
    (∃ (s : State) (f : Nat), s.hfe.ctx = [] ∧ s.hfe.held = [] ∧ s.fnExists f = true) ∧
    (∃ (s : State), s.hfe.ctx = []) :=
  ⟨⟨base, 0, 1, by decide +kernel⟩,
   ⟨host, 0, by decide +kernel⟩,
   ⟨base, 0, by decide +kernel⟩,
   ⟨base, by decide +kernel⟩⟩

/-- DoorbellsTakeTicketsInOrder: a state and operands that meet the hypotheses of each clause. -/
theorem witness_DoorbellsTakeTicketsInOrder :
    (∃ (s : State) (f : Nat) (q : Nat) (tail : Nat) (k : Nat), (s.bar f = true ∧ s.fld PWR_STAT.STATE = 0 ∧ s.hfe.held = [] ∧ s.on HFE_CTRL.ADMIT_EN = true ∧ s.hfe.stopped = false ∧ (s.sq f q).tail < (s.sq f q).size ∧ (s.sq f q).head < (s.sq f q).size ∧ tail < (s.sq f q).size ∧ ((s.sq f q).tail + (s.sq f q).size - (s.sq f q).head) % (s.sq f q).size ≤ (tail + (s.sq f q).size - (s.sq f q).head) % (s.sq f q).size) ∧ k = (tail + (s.sq f q).size - (s.sq f q).tail) % (s.sq f q).size ∧ s.ctxHeld f < s.cmdLimit f ∧ s.fld HFE_TICKET.TICKET + k < 2 ^ 64) ∧
    (∃ (s : State) (f : Nat) (q : Nat) (tail : Nat), s.bar f = true ∧ s.fld PWR_STAT.STATE = 0 ∧ s.hfe.held = [] ∧ s.on HFE_CTRL.ADMIT_EN = true ∧ s.hfe.stopped = false ∧ (s.sq f q).size ≤ tail) ∧
    (∃ (s : State) (f : Nat), s.bar f = true ∧ s.fld PWR_STAT.STATE = 0 ∧ s.on HFE_CTRL.ADMIT_EN = false) ∧
    (∃ (s : State) (f : Nat) (q : Nat) (tail : Nat), s.hfe.held = [{ fn := f, qid := q, tail := tail }] ∧ s.on HFE_CTRL.ADMIT_EN = true ∧ s.hfe.stopped = false ∧ (s.sq f q).tail < (s.sq f q).size ∧ (s.sq f q).head < (s.sq f q).size ∧ tail < (s.sq f q).size ∧ ((s.sq f q).tail + (s.sq f q).size - (s.sq f q).head) % (s.sq f q).size ≤ (tail + (s.sq f q).size - (s.sq f q).head) % (s.sq f q).size ∧ s.cmdLimit f ≤ s.ctxHeld f) ∧
    (∃ (s : State) (f : Nat) (q : Nat) (tail : Nat) (k : Nat), (s.hfe.held = [{ fn := f, qid := q, tail := tail }] ∧ s.on HFE_CTRL.ADMIT_EN = true ∧ s.hfe.stopped = false ∧ (s.sq f q).tail < (s.sq f q).size ∧ (s.sq f q).head < (s.sq f q).size ∧ tail < (s.sq f q).size ∧ ((s.sq f q).tail + (s.sq f q).size - (s.sq f q).head) % (s.sq f q).size ≤ (tail + (s.sq f q).size - (s.sq f q).head) % (s.sq f q).size) ∧ k = (tail + (s.sq f q).size - (s.sq f q).tail) % (s.sq f q).size ∧ s.ctxHeld f < s.cmdLimit f ∧ s.fld HFE_TICKET.TICKET + k < 2 ^ 64) ∧
    (∃ (s : State) (f : Nat) (q : Nat) (head : Nat), (s.bar f = true ∧ s.fld PWR_STAT.STATE = 0 ∧ s.hfe.held = [] ∧ s.hfe.ctx = [] ∧ (s.fn f).events = []) ∧ s.mediaIdle ∧ s.on HFE_CTRL.ADMIT_EN = true ∧ s.hfe.stopped = false ∧ head < (s.cq f q).size ∧ (head + (s.cq f q).size - (s.cq f q).head) % (s.cq f q).size ≤ (s.cq f q).used) :=
  ⟨⟨fields [(HFE_CTRL.ADMIT_EN, 1)] host, 0, 1, 63, ((63) + ((fields [(HFE_CTRL.ADMIT_EN, 1)] host).sq (0) (1)).size - ((fields [(HFE_CTRL.ADMIT_EN, 1)] host).sq (0) (1)).tail) % ((fields [(HFE_CTRL.ADMIT_EN, 1)] host).sq (0) (1)).size, by decide +kernel, rfl, by decide +kernel⟩,
   ⟨fields [(HFE_CTRL.ADMIT_EN, 1)] host, 0, 1, 64, by decide +kernel⟩,
   ⟨host, 0, by decide +kernel⟩,
   ⟨(fields [(HFE_CTRL.ADMIT_EN, 1), (HFE_CMDLIM.LIMIT 0, 1)] host).modHfe fun h => { h with held := [{ fn := 0, qid := 1, tail := 63 }], ctx := [{ ticket := 0, fn := 0, sqid := 0, op := .admin 6 }] }, 0, 1, 63, by decide +kernel⟩,
   ⟨(fields [(HFE_CTRL.ADMIT_EN, 1), (HFE_CMDLIM.LIMIT 0, 1)] host).modHfe fun h => { h with held := [{ fn := 0, qid := 1, tail := 63 }] }, 0, 1, 63, ((63) + (((fields [(HFE_CTRL.ADMIT_EN, 1), (HFE_CMDLIM.LIMIT 0, 1)] host).modHfe fun h => { h with held := [{ fn := 0, qid := 1, tail := 63 }] }).sq (0) (1)).size - (((fields [(HFE_CTRL.ADMIT_EN, 1), (HFE_CMDLIM.LIMIT 0, 1)] host).modHfe fun h => { h with held := [{ fn := 0, qid := 1, tail := 63 }] }).sq (0) (1)).tail) % (((fields [(HFE_CTRL.ADMIT_EN, 1), (HFE_CMDLIM.LIMIT 0, 1)] host).modHfe fun h => { h with held := [{ fn := 0, qid := 1, tail := 63 }] }).sq (0) (1)).size, by decide +kernel, rfl, by decide +kernel⟩,
   ⟨fields [(HFE_CTRL.ADMIT_EN, 1)] host, 0, 1, 0, by decide +kernel, mediaIdle_of (by decide +kernel), by decide +kernel⟩⟩

/-- AdmissionRunsTheFetchedCommand: a state and operands that meet the hypotheses of each clause. -/
theorem witness_AdmissionRunsTheFetchedCommand :
    (∃ (s : State) (tk : Tick) (l : List Tick) (sqe : Sqe) (i : Instr), s.hfe.tickets = tk :: l ∧ tk.sqid ≠ 0 ∧ badEntry false sqe = false ∧ badPointer false sqe = none ∧ s.ioEntry sqe = some i) ∧
    (∃ (s : State) (tk : Tick) (l : List Tick) (sqe : Sqe) (i : Instr), s.hfe.tickets = tk :: l ∧ tk.sqid = 0 ∧ badEntry true sqe = false ∧ badPointer true sqe = none ∧ s.adminEntry sqe = some i) ∧
    (∃ (s : State) (tk : Tick) (sqe : Sqe), s.onlyIo tk ∧ badEntry false sqe = true) ∧
    (∃ (s : State) (tk : Tick) (sqe : Sqe), s.onlyIo tk ∧ badEntry false sqe = false ∧ bufferOpcodes.contains (slice (sqeDw sqe 0) 0 8) = true ∧ 1 ≤ slice (sqeDw sqe 0) 14 2 ∧ slice (sqeDw sqe 0) 14 2 ≤ 2 ∧ slice (sqeDw sqe 9) 28 4 ∉ [0, 2, 3]) ∧
    (∃ (s : State) (tk : Tick) (sqe : Sqe), s.onlyIo tk ∧ badEntry false sqe = false ∧ slice (sqeDw sqe 0) 14 2 = 0 ∧ slice (sqeDw sqe 0) 0 8 ∉ ioOpcodes ∧ s.ioEntry sqe = none) :=
  ⟨⟨entry tk1, tk1, [], ({ dw := [] } : Sqe), .flush 0 0, by decide +kernel⟩,
   ⟨entry tk0, tk0, [], ({ dw := [0x06] } : Sqe), .identify 0 0 0 0 0, by decide +kernel⟩,
   ⟨entry tk1, tk1, ({ dw := [0x100] } : Sqe), onlyIo_of (by decide +kernel), by decide +kernel⟩,
   ⟨entry tk1, tk1, ({ dw := [0x4002, 1, 0, 0, 0, 0, 0, 0, 0, 0x10000000] } : Sqe), onlyIo_of (by decide +kernel), by decide +kernel⟩,
   ⟨entry tk1, tk1, ({ dw := [0xFF] } : Sqe), onlyIo_of (by decide +kernel), by decide +kernel⟩⟩

/-- WritesGoThroughTheirPieces: a state and operands that meet the hypotheses of each clause. -/
theorem witness_WritesGoThroughTheirPieces :
    (∃ (s : State) (c : Cmd), (s.hfe.ctx = [c] ∧ s.mayDispatch c = true ∧ c.op = .write ∧ c.fn < 512 ∧ 0 < (s.fn c.fn).deficit ∧ (s.sq c.fn c.sqid).prio < 4 ∧ s.on FNS_CTRL.TOKEN_EN = false) ∧ s.mediaIdle) ∧
    (∃ (s : State) (c : Cmd) (p : Piece) (k : Nat) (data : List Nat), (s.hfe.ctx = [c] ∧ s.openPiece c.ticket k = some (c, p) ∧ c.op = .write ∧ p.fetched = false ∧ p.head ≠ 0 ∧ s.on TUB_CTRL.EN = true ∧ (s.ns (c.nsid - 1)).pi = 0 ∧ data.length = p.n ∧ (∀ d ∈ data, d < 2 ^ (8 * 2 ^ (s.ns (c.nsid - 1)).bshift))) ∧ s.mediaIdle) ∧
    (∃ (s : State) (c : Cmd) (p : Piece) (k : Nat), s.hfe.ctx = [c] ∧ s.openPiece c.ticket k = some (c, p) ∧ c.op = .write ∧ p.placed = false ∧ (s.ns (c.nsid - 1)).kind = 2 ∧ (s.zone (s.zoneOf c.nsid c.lba)).hasrow = true ∧ s.med.folds.length < 8192) ∧
    (∃ (s : State) (c : Cmd) (p : Piece), (s.hfe.ctx = [c] ∧ c.pieces = [p] ∧ s.mayCommit c 0 = true ∧ c.op = .write ∧ (s.ns (c.nsid - 1)).kind = 2 ∧ (s.zone (s.zoneOf c.nsid c.lba)).state ≠ .full ∧ (s.zone (s.zoneOf c.nsid c.lba)).voidRuns = [] ∧ s.cqRoom c.fn (s.sq c.fn c.sqid).cqid = true) ∧ s.mediaIdle ∧ (∀ f, (s.fn f).aers = [])) :=
  ⟨⟨(one .write pc .empty).modHfe fun h => { h with ctx := h.ctx.map fun c => { c with dispatched := false, pieces := [] } }, (((one .write pc .empty).modHfe fun h => { h with ctx := h.ctx.map fun c => { c with dispatched := false, pieces := [] } }).hfe.ctx.headD {}), by decide +kernel, mediaIdle_of (by decide +kernel)⟩,
   ⟨fields [(TUB_CTRL.EN, 1)] (one .write { pc with head := 1 } .empty), ((fields [(TUB_CTRL.EN, 1)] (one .write { pc with head := 1 } .empty)).hfe.ctx.headD {}), ((((fields [(TUB_CTRL.EN, 1)] (one .write { pc with head := 1 } .empty)).hfe.ctx.headD {})).pieces.headD {}), 0, List.replicate 8 (2 ^ 32768 - 1), by decide +kernel, mediaIdle_of (by decide +kernel)⟩,
   ⟨one .write pc .empty, ((one .write pc .empty).hfe.ctx.headD {}), ((((one .write pc .empty).hfe.ctx.headD {})).pieces.headD {}), 0, by decide +kernel⟩,
   ⟨fields [(HLD_STAT.STATE, 2)] (one .write { pc with placed := true, fetched := true } .implicit), ((fields [(HLD_STAT.STATE, 2)] (one .write { pc with placed := true, fetched := true } .implicit)).hfe.ctx.headD {}), ((((fields [(HLD_STAT.STATE, 2)] (one .write { pc with placed := true, fetched := true } .implicit)).hfe.ctx.headD {})).pieces.headD {}), by decide +kernel, mediaIdle_of (by decide +kernel), noAers_of (by decide +kernel)⟩⟩

/-- FrontEndRegistersTakeAllowedValues: a state and operands that meet the hypotheses of each clause. -/
theorem witness_FrontEndRegistersTakeAllowedValues :
    (∃ (s : State) (m : Nat) (f : Nat) (v : Nat), f < 512 ∧ s.reaches m (HFE_QALLOC.NSQ f).addr ∧ s.fnValueOk f 0x10 ((HFE_QALLOC.NSQ f).of v) = true ∧ s.fnValueOk f 0x11 ((HFE_QALLOC.NCQ f).of v) = true) ∧
    (∃ (s : State) (m : Nat) (f : Nat) (v : Nat), f < 512 ∧ s.reaches m (HFE_QALLOC.NSQ f).addr ∧ (15871 < (HFE_QALLOC.NSQ f).of v ∨ 15871 < (HFE_QALLOC.NCQ f).of v ∨ 15872 < s.fnTotal HFE_QALLOC.NSQ f ((HFE_QALLOC.NSQ f).of v) ∨ 15872 < s.fnTotal HFE_QALLOC.NCQ f ((HFE_QALLOC.NCQ f).of v))) ∧
    (∃ (s : State) (m : Nat) (f : Nat) (v : Nat), f < 512 ∧ s.reaches m (HFE_CMDLIM.LIMIT f).addr ∧ s.fnValueOk f 0x12 ((HFE_CMDLIM.LIMIT f).of v) = true) ∧
    (∃ (s : State) (m : Nat) (f : Nat) (v : Nat), f < 512 ∧ s.reaches m (HFE_CMDLIM.LIMIT f).addr ∧ (65536 < (HFE_CMDLIM.LIMIT f).of v ∨ 65536 < s.fnTotal HFE_CMDLIM.LIMIT f ((HFE_CMDLIM.LIMIT f).of v))) ∧
    (∃ (s : State) (m : Nat), s.reaches m HFE_CTRL.DA.addr ∧ s.hfe.held = []) ∧
    (∃ (s : State) (m : Nat) (v : Nat) (f : Nat) (q : Nat) (tail : Nat) (k : Nat), s.reaches m HFE_CTRL.DA.addr ∧ (HFE_CTRL.ADMIT_EN.of v = 1 ∧ s.hfe.stopped = false ∧ s.hfe.held = [{ fn := f, qid := q, tail := tail }] ∧ (s.sq f q).tail < (s.sq f q).size ∧ (s.sq f q).head < (s.sq f q).size ∧ tail < (s.sq f q).size ∧ ((s.sq f q).tail + (s.sq f q).size - (s.sq f q).head) % (s.sq f q).size ≤ (tail + (s.sq f q).size - (s.sq f q).head) % (s.sq f q).size) ∧ k = (tail + (s.sq f q).size - (s.sq f q).tail) % (s.sq f q).size ∧ s.ctxHeld f < s.cmdLimit f ∧ s.fld HFE_TICKET.TICKET + k < 2 ^ 64) :=
  ⟨⟨base, 0, 511, 0, by decide +kernel, reaches_of (by decide +kernel), by decide +kernel⟩,
   ⟨base, 4, 511, 0xFFFFFFFF, by decide +kernel, reaches_of (by decide +kernel), by decide +kernel⟩,
   ⟨base, 0, 511, 0, by decide +kernel, reaches_of (by decide +kernel), by decide +kernel⟩,
   ⟨base, 4, 511, 0x1FFFF, by decide +kernel, reaches_of (by decide +kernel), by decide +kernel⟩,
   ⟨base, 0, reaches_of (by decide +kernel), by decide +kernel⟩,
   ⟨host.modHfe fun h => { h with held := [{ fn := 0, qid := 1, tail := 63 }] }, 4, 2, 0, 1, 63, ((63) + ((host.modHfe fun h => { h with held := [{ fn := 0, qid := 1, tail := 63 }] }).sq (0) (1)).size - ((host.modHfe fun h => { h with held := [{ fn := 0, qid := 1, tail := 63 }] }).sq (0) (1)).tail) % ((host.modHfe fun h => { h with held := [{ fn := 0, qid := 1, tail := 63 }] }).sq (0) (1)).size, reaches_of (by decide +kernel), by decide +kernel, rfl, by decide +kernel⟩⟩

/-- MailboxesPassMessages: a state and operands that meet the hypotheses of each clause. -/
theorem witness_MailboxesPassMessages :
    (∃ (s : State) (f : Nat), s.bar f = true ∧ (s.fn f).inBusy = false) ∧
    (∃ (s : State) (f : Nat), s.bar f = true ∧ (s.fn f).inBusy = true) ∧
    (∃ (s : State) (f : Nat), s.bar f = true) ∧
    (∃ (s : State) (f : Nat) (lo : Nat) (hi : Nat) (size : Nat), s.bar f = true ∧ (s.fn f).busMaster = true ∧ 12 ≤ size ∧ size ≤ 20 ∧ lo < 2 ^ 32 ∧ hi < 2 ^ 32 ∧ lo % 2 ^ size = 0) ∧
    (∃ (s : State) (f : Nat) (lo : Nat) (hi : Nat) (size : Nat), s.bar f = true ∧ (s.fn f).busMaster = true ∧ 12 ≤ size ∧ size ≤ 20 ∧ lo < 2 ^ 32 ∧ hi < 2 ^ 32 ∧ (lo / 4096 * 4096) % 2 ^ size ≠ 0) ∧
    (∃ (s : State) (m : Nat) (f : Nat), f < 512 ∧ s.reaches m FNS_MBXACK.FUNC.addr ∧ (s.fn f).outFull = false) ∧
    (∃ (s : State) (m : Nat) (f : Nat), f < 512 ∧ s.reaches m FNS_MBXACK.FUNC.addr ∧ (s.fn f).outFull = true) ∧
    (∃ (s : State) (m : Nat) (f : Nat), f < 512 ∧ s.reaches m FNS_MBXACK.FUNC.addr) :=
  ⟨⟨base, 0, by decide +kernel⟩,
   ⟨base.modFn 0 fun x => { x with inBusy := true }, 0, by decide +kernel⟩,
   ⟨base, 0, by decide +kernel⟩,
   ⟨host, 0, 2 ^ 32 - 2 ^ 20, 2 ^ 32 - 1, 20, by decide +kernel⟩,
   ⟨host, 0, 2 ^ 32 - 1, 2 ^ 32 - 1, 20, by decide +kernel⟩,
   ⟨base, 0, 0, by decide +kernel, reaches_of (by decide +kernel), by decide +kernel⟩,
   ⟨base.modFn 511 fun x => { x with outFull := true }, 4, 511, by decide +kernel, reaches_of (by decide +kernel), by decide +kernel⟩,
   ⟨base, 0, 0, by decide +kernel, reaches_of (by decide +kernel)⟩⟩

/-- ReadsReturnTheBlocksOfTheirRange: a state and operands that meet the hypotheses of each clause. -/
theorem witness_ReadsReturnTheBlocksOfTheirRange :
    (∃ (s : State) (tk : Tick) (nsid : Nat) (slba : Nat) (nlb : Nat), s.onlyIo tk ∧ s.nsFor tk.fn nsid = true ∧ (s.ns (nsid - 1)).kind = 1 ∧ (s.ns (nsid - 1)).pi = 0 ∧ s.tooLong nsid (nlb + 1) = false ∧ slba + (nlb + 1) ≤ (s.ns (nsid - 1)).nsze ∧ ((∀ j, j ≤ nlb → s.placeOf nsid ((slba + j) / 2 ^ s.unitShift nsid) = none)) ∧ ((∀ j, j ≤ nlb → s.med.cached (mapPage (nsid - 1) ((slba + j) / 2 ^ s.unitShift nsid)) = true) ∨ (∀ j, j ≤ nlb → Tab.get 0 s.med.mapAddr (mapPage (nsid - 1) ((slba + j) / 2 ^ s.unitShift nsid)) = 0)) ∧ (∀ x ∈ s.med.mapReads, x.1 ≠ tk.ticket)) ∧
    (∃ (s : State) (tk : Tick) (nsid : Nat) (slba : Nat) (nlb : Nat), s.onlyIo tk ∧ (s.nsFor tk.fn nsid = true ∧ (s.ns (nsid - 1)).kind = 2 ∧ (s.ns (nsid - 1)).pi = 0 ∧ s.tooLong nsid (nlb + 1) = false ∧ slba + (nlb + 1) ≤ (s.ns (nsid - 1)).nsze) ∧ ((∀ j, j ≤ nlb → (s.zone (s.zoneOf nsid (slba + j))).state ≠ .offline ∧ slba + j - s.zoneStart (s.zoneOf nsid (slba + j)) < min (s.zone (s.zoneOf nsid (slba + j))).wpAdmit (s.zone (s.zoneOf nsid (slba + j))).wpCommit ∧ (s.zone (s.zoneOf nsid (slba + j))).inVoid (slba + j - s.zoneStart (s.zoneOf nsid (slba + j))) = false ∧ ∃ i b, s.placeOf nsid ((slba + j) / 2 ^ s.unitShift nsid) = some (i, b) ∧ s.locOf i b = .none)) ∧ (∀ x ∈ s.med.mapReads, x.1 ≠ tk.ticket)) ∧
    (∃ (s : State) (tk : Tick) (nsid : Nat) (slba : Nat), s.onlyIo tk ∧ s.nsFor tk.fn nsid = true ∧ (s.ns (nsid - 1)).kind = 2 ∧ s.tooLong nsid 1 = false ∧ slba + 1 ≤ (s.ns (nsid - 1)).nsze ∧ (s.zone (s.zoneOf nsid slba)).state ≠ .offline ∧ min (s.zone (s.zoneOf nsid slba)).wpAdmit (s.zone (s.zoneOf nsid slba)).wpCommit ≤ slba - s.zoneStart (s.zoneOf nsid slba)) ∧
    (∃ (s : State) (tk : Tick) (nsid : Nat) (slba : Nat) (nlb : Nat), s.onlyIo tk ∧ s.nsFor tk.fn nsid = true ∧ s.tooLong nsid (nlb + 1) = false ∧ (s.ns (nsid - 1)).nsze < slba + (nlb + 1)) :=
  ⟨⟨spaced flat tk1, tk1, 1, 512, 511, onlyIo_of (by decide +kernel), by decide +kernel⟩,
   ⟨znode .full 4096 tk1, tk1, 1, 61440, 3, onlyIo_of (by decide +kernel), by decide +kernel, readsHere_of (by decide +kernel), by decide +kernel⟩,
   ⟨znode .empty 0 tk1, tk1, 1, 512, onlyIo_of (by decide +kernel), by decide +kernel⟩,
   ⟨spaced flat tk1, tk1, 1, 1024, 511, onlyIo_of (by decide +kernel), by decide +kernel⟩⟩

/-- WritesAreAdmittedAtTheWritePointer: a state and operands that meet the hypotheses of each clause. -/
theorem witness_WritesAreAdmittedAtTheWritePointer :
    (∃ (s : State) (tk : Tick) (nsid : Nat) (slba : Nat) (nlb : Nat) (i : Nat), s.onlyIo tk ∧ (s.nsFor tk.fn nsid = true ∧ (s.ns (nsid - 1)).kind = 2 ∧ s.on MSH_STAT.TBLFULL = false ∧ s.tooLong nsid (nlb + 1) = false ∧ slba + (nlb + 1) ≤ (s.ns (nsid - 1)).nsze) ∧ i = s.zoneOf nsid slba ∧ (s.zone i).nsidx = nsid - 1 ∧ s.writeCheck i false slba (nlb + 1) = none) ∧
    (∃ (s : State) (tk : Tick) (nsid : Nat) (slba : Nat) (nlb : Nat) (i : Nat), s.onlyIo tk ∧ (s.nsFor tk.fn nsid = true ∧ (s.ns (nsid - 1)).kind = 2 ∧ s.on MSH_STAT.TBLFULL = false ∧ slba + (nlb + 1) ≤ (s.ns (nsid - 1)).nsze) ∧ i = s.zoneOf nsid slba ∧ (s.zone i).nsidx = nsid - 1 ∧ s.writeCheck i false slba (nlb + 1) = none) ∧
    (∃ (s : State) (tk : Tick) (nsid : Nat) (zslba : Nat) (nlb : Nat) (i : Nat), s.onlyIo tk ∧ (s.nsFor tk.fn nsid = true ∧ (s.ns (nsid - 1)).kind = 2 ∧ s.on MSH_STAT.TBLFULL = false ∧ s.tooLong nsid (nlb + 1) = false ∧ zslba + (nlb + 1) ≤ (s.ns (nsid - 1)).nsze) ∧ i = s.zoneOf nsid zslba ∧ (s.zone i).nsidx = nsid - 1 ∧ s.writeCheck i true zslba (nlb + 1) = none) ∧
    (∃ (s : State) (tk : Tick) (nsid : Nat) (slba : Nat) (nlb : Nat) (st : Nat), s.onlyIo tk ∧ s.nsFor tk.fn nsid = true ∧ (s.ns (nsid - 1)).kind = 2 ∧ s.on MSH_STAT.TBLFULL = false ∧ s.tooLong nsid (nlb + 1) = false ∧ slba + (nlb + 1) ≤ (s.ns (nsid - 1)).nsze ∧ s.writeCheck (s.zoneOf nsid slba) false slba (nlb + 1) = some st) :=
  ⟨⟨znode .empty 0 tk1, tk1, 1, 61440, 511, (znode .empty 0 tk1).zoneOf (1) (61440), onlyIo_of (by decide +kernel), by decide +kernel, rfl, by decide +kernel⟩,
   ⟨znode .empty 0 tk1, tk1, 1, 61440, 511, (znode .empty 0 tk1).zoneOf (1) (61440), onlyIo_of (by decide +kernel), by decide +kernel, rfl, by decide +kernel⟩,
   ⟨znode .empty 0 tk1, tk1, 1, 61440, 511, (znode .empty 0 tk1).zoneOf (1) (61440), onlyIo_of (by decide +kernel), by decide +kernel, rfl, by decide +kernel⟩,
   ⟨znode .full 4096 tk1, tk1, 1, 61440, 511, stZoneFull, onlyIo_of (by decide +kernel), by decide +kernel⟩⟩

/-- OtherIoCommandsCompleteAtOnce: a state and operands that meet the hypotheses of each clause. -/
theorem witness_OtherIoCommandsCompleteAtOnce :
    (∃ (s : State) (tk : Tick), s.onlyIo tk) ∧
    (∃ (s : State) (tk : Tick), s.onlyIo tk) ∧
    (∃ (s : State) (tk : Tick) (nsid : Nat) (a : Nat) (n : Nat), s.onlyIo tk ∧ s.nsFor tk.fn nsid = true ∧ (s.ns (nsid - 1)).kind = 1 ∧ a + n ≤ (s.ns (nsid - 1)).nsze) ∧
    (∃ (s : State) (tk : Tick) (nsid : Nat) (pid : Nat) (i : Nat), s.onlyIo tk ∧ s.nsFor tk.fn nsid = true ∧ (s.ns (nsid - 1)).kind = 1 ∧ s.zpm.fdpOn = true ∧ pid / 256 < s.dnum 0x3101 0 ∧ pid % 256 < (s.ns (nsid - 1)).handles.length ∧ s.attached (pid / 256) ((s.ns (nsid - 1)).handles.getD (pid % 256) 0) = some i) ∧
    (∃ (s : State) (tk : Tick) (nsid : Nat), s.onlyIo tk ∧ s.nsFor tk.fn nsid = true ∧ (s.ns (nsid - 1)).kind = 1 ∧ s.zpm.fdpOn = true) :=
  ⟨⟨spaced flat tk1, tk1, onlyIo_of (by decide +kernel)⟩,
   ⟨spaced flat tk1, tk1, onlyIo_of (by decide +kernel)⟩,
   ⟨spaced flat tk1, tk1, 1, 0, 1024, onlyIo_of (by decide +kernel), by decide +kernel⟩,
   ⟨(spaced flat tk1).modZpm fun z => { z with fdpOn := true, attachRu := [(ruKey 0 0, some 3)] }, tk1, 1, 0, 3, onlyIo_of (by decide +kernel), by decide +kernel⟩,
   ⟨(spaced flat tk1).modZpm fun z => { z with fdpOn := true, attachRu := [(ruKey 0 0, some 3)] }, tk1, 1, onlyIo_of (by decide +kernel), by decide +kernel⟩⟩

/-- ZoneActionsFollowTheirTable: a state and operands that meet the hypotheses of each clause. -/
theorem witness_ZoneActionsFollowTheirTable :
    (∃ (s : State) (tk : Tick) (nsid : Nat) (slba : Nat) (i : Nat), s.actsOn tk nsid slba i ∧ s.actCheck .openZ i = none) ∧
    (∃ (s : State) (tk : Tick) (nsid : Nat) (slba : Nat) (i : Nat), s.actsOn tk nsid slba i ∧ s.actCheck .close i = none) ∧
    (∃ (s : State) (tk : Tick) (nsid : Nat) (slba : Nat) (i : Nat), s.actsOn tk nsid slba i ∧ s.actCheck .finish i = none) ∧
    (∃ (s : State) (tk : Tick) (nsid : Nat) (slba : Nat) (i : Nat), s.actsOn tk nsid slba i ∧ s.actCheck .reset i = none ∧ (s.zone i).state ≠ .empty ∧ slba + (s.ns (nsid - 1)).zoneBlocks ≤ 2 ^ 40 ∧ s.med.migr = []) ∧
    (∃ (s : State) (tk : Tick) (nsid : Nat) (slba : Nat) (i : Nat), s.actsOn tk nsid slba i ∧ (s.zone i).state = .readOnly ∧ s.med.migr = [] ∧ (∀ f, ∀ a ∈ (s.fn f).aers, a.2 ≠ tk.ticket)) ∧
    (∃ (s : State) (tk : Tick) (nsid : Nat) (slba : Nat) (i : Nat) (st : Nat), s.actsOn tk nsid slba i ∧ s.actCheck .openZ i = some st) ∧
    (∃ (s : State) (tk : Tick) (nsid : Nat) (slba : Nat) (i : Nat) (st : Nat), s.actsOn tk nsid slba i ∧ s.actCheck .close i = some st) ∧
    (∃ (s : State) (tk : Tick) (nsid : Nat) (slba : Nat) (i : Nat) (st : Nat), s.actsOn tk nsid slba i ∧ s.actCheck .finish i = some st) ∧
    (∃ (s : State) (tk : Tick) (nsid : Nat) (slba : Nat) (i : Nat) (st : Nat), s.actsOn tk nsid slba i ∧ s.actCheck .reset i = some st) ∧
    (∃ (s : State) (tk : Tick) (nsid : Nat) (slba : Nat) (i : Nat) (st : Nat), s.actsOn tk nsid slba i ∧ s.actCheck .offline i = some st) ∧
    (∃ (s : State) (tk : Tick) (nsid : Nat), s.onlyIo tk ∧ s.nsFor tk.fn nsid = true ∧ (s.ns (nsid - 1)).kind = 2) ∧
    (∃ (s : State) (tk : Tick) (nsid : Nat) (slba : Nat) (zra : Nat) (zrasf : Nat) (numd : Nat) (l : List Nat), s.onlyIo tk ∧ (s.nsFor tk.fn nsid = true ∧ (s.ns (nsid - 1)).kind = 2 ∧ zra ≤ 1 ∧ zrasf ≤ 7 ∧ slba < (s.ns (nsid - 1)).nsze ∧ (numd + 1) * 4 ≤ 2 ^ 21) ∧ l = (s.nsZones (nsid - 1)).filter (fun i => decide (s.zoneOf nsid slba ≤ i) && reportFilter zrasf (s.zone i).state)) :=
  ⟨⟨znode .empty 0 tk1, tk1, 1, 61440, 15, actsOn_of (by decide +kernel), by decide +kernel⟩,
   ⟨znode .implicit 8 tk1, tk1, 1, 61440, 15, actsOn_of (by decide +kernel), by decide +kernel⟩,
   ⟨znode .empty 0 tk1, tk1, 1, 61440, 15, actsOn_of (by decide +kernel), by decide +kernel⟩,
   ⟨znode .implicit 8 tk1, tk1, 1, 61440, 15, actsOn_of (by decide +kernel), by decide +kernel⟩,
   ⟨znode .readOnly 8 tk1, tk1, 1, 61440, 15, actsOn_of (by decide +kernel), by decide +kernel, by decide +kernel, noAerOf_of (by decide +kernel)⟩,
   ⟨znode .readOnly 8 tk1, tk1, 1, 61440, 15, stZoneTransition, actsOn_of (by decide +kernel), by decide +kernel⟩,
   ⟨znode .empty 0 tk1, tk1, 1, 61440, 15, stZoneTransition, actsOn_of (by decide +kernel), by decide +kernel⟩,
   ⟨znode .readOnly 8 tk1, tk1, 1, 61440, 15, stZoneTransition, actsOn_of (by decide +kernel), by decide +kernel⟩,
   ⟨znode .readOnly 8 tk1, tk1, 1, 61440, 15, stZoneTransition, actsOn_of (by decide +kernel), by decide +kernel⟩,
   ⟨znode .empty 0 tk1, tk1, 1, 61440, 15, stZoneTransition, actsOn_of (by decide +kernel), by decide +kernel⟩,
   ⟨znode .empty 0 tk1, tk1, 1, onlyIo_of (by decide +kernel), by decide +kernel⟩,
   ⟨znode .empty 0 tk1, tk1, 1, 61440, 1, 7, 524287, ((znode .empty 0 tk1).nsZones ((1) - 1)).filter (fun i => decide ((znode .empty 0 tk1).zoneOf (1) (61440) ≤ i) && reportFilter (7) ((znode .empty 0 tk1).zone i).state), onlyIo_of (by decide +kernel), by decide +kernel, rfl⟩⟩

/-- LogPagesReturnTheirData: a state and operands that meet the hypotheses of each clause. -/
theorem witness_LogPagesReturnTheirData :
    (∃ (s : State) (tk : Tick), s.onlyAdmin tk) ∧
    (∃ (s : State) (tk : Tick) (numd : Nat), s.onlyAdmin tk ∧ (s.fn tk.fn).aers = [] ∧ (numd + 1) * 4 ≤ 2 ^ 21) ∧
    (∃ (s : State) (tk : Tick) (numd : Nat), s.onlyAdmin tk ∧ (s.fn tk.fn).aers = [] ∧ (numd + 1) * 4 ≤ 2 ^ 21) ∧
    (∃ (s : State) (tk : Tick) (numd : Nat), s.onlyAdmin tk ∧ (s.fn tk.fn).aers = [] ∧ (numd + 1) * 4 ≤ 2 ^ 21 ∧ s.isPf tk.fn = true) ∧
    (∃ (s : State) (tk : Tick) (numd : Nat), s.onlyAdmin tk ∧ (s.fn tk.fn).aers = [] ∧ (numd + 1) * 4 ≤ 2 ^ 21 ∧ s.isPf tk.fn = false) ∧
    (∃ (s : State) (tk : Tick) (numd : Nat), s.onlyAdmin tk ∧ (s.fn tk.fn).aers = [] ∧ (numd + 1) * 4 ≤ 2 ^ 21) ∧
    (∃ (s : State) (tk : Tick) (numd : Nat), s.onlyAdmin tk ∧ 2 ^ 21 < (numd + 1) * 4) :=
  ⟨⟨entry tk0, tk0, onlyAdmin_of (by decide +kernel)⟩,
   ⟨entry tk0, tk0, 524287, onlyAdmin_of (by decide +kernel), by decide +kernel⟩,
   ⟨entry tk0, tk0, 524287, onlyAdmin_of (by decide +kernel), by decide +kernel⟩,
   ⟨entry tk0, tk0, 524287, onlyAdmin_of (by decide +kernel), by decide +kernel⟩,
   ⟨(entry { tk0 with fn := 511 }).modHfe fun h => { h with fns := [(511, { en := true, deficit := 1, nsq := 8, ncq := 8 })], cqs := [(511 * 65536, { size := 64 })], sqs := [(511 * 65536, { size := 64 })] }, ({ tk0 with fn := 511 } : Tick), 524287, onlyAdmin_of (by decide +kernel), by decide +kernel⟩,
   ⟨entry tk0, tk0, 524287, onlyAdmin_of (by decide +kernel), by decide +kernel⟩,
   ⟨entry tk0, tk0, 524288, onlyAdmin_of (by decide +kernel), by decide +kernel⟩⟩

/-- QueuesAreCreatedAndDeleted: a state and operands that meet the hypotheses of each clause. -/
theorem witness_QueuesAreCreatedAndDeleted :
    (∃ (s : State) (tk : Tick) (qid : Nat) (qsize : Nat) (vec : Nat) (ien : Bool), s.onlyAdmin tk ∧ 0 < qid ∧ qid < 65536 ∧ qid ≤ (s.fn tk.fn).ncq ∧ s.cqsOf tk.fn < (s.fn tk.fn).ncq ∧ (s.cq tk.fn qid).size = 0 ∧ 0 < qsize ∧ qsize < 65536 ∧ ((ien = true → vec < s.vectors tk.fn))) ∧
    (∃ (s : State) (tk : Tick) (qid : Nat) (qsize : Nat) (cqid : Nat), s.onlyAdmin tk ∧ 0 < qid ∧ qid < 65536 ∧ qid ≤ (s.fn tk.fn).nsq ∧ s.sqsOf tk.fn < (s.fn tk.fn).nsq ∧ (s.sq tk.fn qid).size = 0 ∧ 0 < cqid ∧ (s.cq tk.fn cqid).size ≠ 0 ∧ 0 < qsize ∧ qsize < 65536) ∧
    (∃ (s : State) (tk : Tick) (qid : Nat), s.onlyAdmin tk ∧ (qid = 0 ∨ (s.fn tk.fn).ncq < qid)) ∧
    (∃ (s : State) (tk : Tick) (qid : Nat), s.onlyAdmin tk ∧ (qid = 0 ∨ (s.fn tk.fn).nsq < qid)) ∧
    (∃ (s : State) (tk : Tick) (qid : Nat), s.onlyAdmin tk ∧ 0 < qid ∧ qid < 65536 ∧ (s.sq tk.fn qid).size ≠ 0) ∧
    (∃ (s : State) (tk : Tick) (qid : Nat), s.onlyAdmin tk ∧ 0 < qid ∧ qid < 65536 ∧ (s.cq tk.fn qid).size ≠ 0 ∧ ((∀ e ∈ s.hfe.sqs, e.1 / 65536 = tk.fn → e.2.size ≠ 0 → e.2.cqid ≠ qid))) ∧
    (∃ (s : State) (tk : Tick) (qid : Nat) (q : _), s.onlyAdmin tk ∧ 0 < qid ∧ qid < 65536 ∧ (s.cq tk.fn qid).size ≠ 0 ∧ 0 < q ∧ q < 65536 ∧ (s.sq tk.fn q).size ≠ 0 ∧ (s.sq tk.fn q).cqid = qid) :=
  ⟨⟨entry tk0, tk0, 8, 65535, 0, true, onlyAdmin_of (by decide +kernel), by decide +kernel⟩,
   ⟨entry tk0, tk0, 8, 65535, 1, onlyAdmin_of (by decide +kernel), by decide +kernel⟩,
   ⟨entry tk0, tk0, 0, onlyAdmin_of (by decide +kernel), by decide +kernel⟩,
   ⟨entry tk0, tk0, 0, onlyAdmin_of (by decide +kernel), by decide +kernel⟩,
   ⟨entry tk0, tk0, 1, onlyAdmin_of (by decide +kernel), by decide +kernel⟩,
   ⟨(entry tk0).modHfe fun h => { h with sqs := [(0, { size := 64 })] }, tk0, 1, onlyAdmin_of (by decide +kernel), by decide +kernel⟩,
   ⟨entry tk0, tk0, 1, 1, onlyAdmin_of (by decide +kernel), by decide +kernel⟩⟩

/-- FeaturesHoldTheirValues: a state and operands that meet the hypotheses of each clause. -/
theorem witness_FeaturesHoldTheirValues :
    (∃ (s : State) (tk : Tick) (fid : Nat), s.onlyAdmin tk ∧ plainFeature fid = true) ∧
    (∃ (s : State) (tk : Tick) (fid : Nat), s.onlyAdmin tk ∧ plainFeature fid = false ∧ fid ∉ [0x02, 0x07, 0x1D, 0x1E, 0xC0, 0xC1, 0xC2]) ∧
    (∃ (s : State) (tk : Tick) (fid : Nat) (sel : Nat), s.onlyAdmin tk ∧ plainFeature fid = true ∧ fid ≠ 0x0E ∧ fid ≠ 0x16 ∧ sel ≠ 3) ∧
    (∃ (s : State) (tk : Tick) (sel : Nat), s.onlyAdmin tk ∧ sel ≠ 3) ∧
    (∃ (s : State) (tk : Tick) (fid : Nat), s.onlyAdmin tk ∧ fid ∈ featureIds ∧ fid < 0xC0) ∧
    (∃ (s : State) (tk : Tick) (fid : Nat), s.onlyAdmin tk ∧ fid ∉ featureIds) ∧
    (∃ (s : State) (tk : Tick), s.onlyAdmin tk ∧ (s.fn tk.fn).nsq ≠ 0 ∧ (s.fn tk.fn).ncq ≠ 0) ∧
    (∃ (s : State) (tk : Tick) (ps : Nat), s.onlyAdmin tk ∧ ps < 3 ∧ s.inEntry = false ∧ s.pwrState ≠ pwrNap) ∧
    (∃ (s : State) (tk : Tick), s.onlyAdmin tk ∧ s.pwrCtrl ≠ 0) ∧
    (∃ (s : State) (tk : Tick) (ps : Nat), s.onlyAdmin tk ∧ 4 < ps) ∧
    (∃ (s : State) (tk : Tick) (w : Nat), s.onlyAdmin tk ∧ s.orderField tk.fn w = true) ∧
    (∃ (s : State) (tk : Tick) (w : Nat), s.onlyAdmin tk ∧ s.orderField tk.fn w = false) :=
  ⟨⟨entry tk0, tk0, 0x0B, onlyAdmin_of (by decide +kernel), by decide +kernel⟩,
   ⟨entry tk0, tk0, 0xFF, onlyAdmin_of (by decide +kernel), by decide +kernel⟩,
   ⟨entry tk0, tk0, 0x0B, 2, onlyAdmin_of (by decide +kernel), by decide +kernel⟩,
   ⟨entry tk0, tk0, 2, onlyAdmin_of (by decide +kernel), by decide +kernel⟩,
   ⟨entry tk0, tk0, 0x0B, onlyAdmin_of (by decide +kernel), by decide +kernel⟩,
   ⟨entry tk0, tk0, 0xFF, onlyAdmin_of (by decide +kernel), by decide +kernel⟩,
   ⟨entry tk0, tk0, onlyAdmin_of (by decide +kernel), by decide +kernel⟩,
   ⟨entry tk0, tk0, 2, onlyAdmin_of (by decide +kernel), by decide +kernel⟩,
   ⟨fields [(PWR_STAT.CTRL, 1)] (entry tk0), tk0, onlyAdmin_of (by decide +kernel), by decide +kernel⟩,
   ⟨entry tk0, tk0, 5, onlyAdmin_of (by decide +kernel), by decide +kernel⟩,
   ⟨entry tk0, tk0, 1, onlyAdmin_of (by decide +kernel), by decide +kernel⟩,
   ⟨entry tk0, tk0, 0, onlyAdmin_of (by decide +kernel), by decide +kernel⟩⟩

/-- WeightsAndTailClassAreSet: a state and operands that meet the hypotheses of each clause. -/
theorem witness_WeightsAndTailClassAreSet :
    (∃ (s : State) (tk : Tick) (w : Nat) (v : Nat), s.onlyAdmin tk ∧ s.weightField true tk.fn w v = true ∧ slice w 16 8 ≠ 0 ∧ slice v 0 11 ≠ 0 ∧ slice v 0 11 ≤ 1024) ∧
    (∃ (s : State) (tk : Tick) (w : Nat) (v : Nat), s.onlyAdmin tk ∧ (s.weightField true tk.fn w v = false ∨ slice w 16 8 = 0 ∨ slice v 0 11 = 0 ∨ 1024 < slice v 0 11)) ∧
    (∃ (s : State) (tk : Tick) (w : Nat) (v : Nat), s.onlyAdmin tk ∧ s.weightField false tk.fn w v = true) ∧
    (∃ (s : State) (tk : Tick) (w : Nat) (v : Nat), s.onlyAdmin tk ∧ s.weightField false tk.fn w v = false) ∧
    (∃ (s : State) (tk : Tick) (w : Nat), s.onlyAdmin tk ∧ s.tailField true tk.fn w = true ∧ s.fnValueOk (slice w 0 9) 7 (bit w 16).toNat = true ∧ ((bit w 16 = false → s.tailBound (slice w 0 9) = false))) ∧
    (∃ (s : State) (tk : Tick) (w : Nat), s.onlyAdmin tk ∧ s.tailField false tk.fn w = true) ∧
    (∃ (s : State) (tk : Tick) (w : Nat), s.onlyAdmin tk ∧ s.tailField false tk.fn w = false) ∧
    (∃ (s : State) (tk : Tick), s.onlyAdmin tk ∧ (∀ n ∈ s.zpm.ns, n.2.kind = 0) ∧ ((∀ k, k < s.dnum 0x3101 0 → s.on (ZPM_SSET.VALID (s.rgSet k)) = true ∧ s.fld (ZPM_PGRP.ROW (s.fld (ZPM_SSET.PGRP (s.rgSet k)))) = s.fld (ZPM_PGRP.ROW (s.fld (ZPM_SSET.PGRP (s.rgSet 0))))))) ∧
    (∃ (s : State) (tk : Tick) (endgid : Nat), s.onlyAdmin tk ∧ (endgid ≠ 1 ∨ (∃ n ∈ s.zpm.ns, n.2.kind ≠ 0))) :=
  ⟨⟨entry tk0, tk0, 0xFF0000, 1024, onlyAdmin_of (by decide +kernel), by decide +kernel⟩,
   ⟨entry tk0, tk0, 0xFF0000, 0, onlyAdmin_of (by decide +kernel), by decide +kernel⟩,
   ⟨entry tk0, tk0, 0xFF0000, 1024, onlyAdmin_of (by decide +kernel), by decide +kernel⟩,
   ⟨entry tk0, tk0, 2 ^ 24, 0, onlyAdmin_of (by decide +kernel), by decide +kernel⟩,
   ⟨entry tk0, tk0, 0, onlyAdmin_of (by decide +kernel), by decide +kernel⟩,
   ⟨entry tk0, tk0, 0, onlyAdmin_of (by decide +kernel), by decide +kernel⟩,
   ⟨entry tk0, tk0, 0xFF0000, onlyAdmin_of (by decide +kernel), by decide +kernel⟩,
   ⟨fields ((List.range 16).map fun k => (ZPM_SSET.VALID k, 1)) (entry tk0), tk0, onlyAdmin_of (by decide +kernel), by decide +kernel⟩,
   ⟨entry tk0, tk0, 2, onlyAdmin_of (by decide +kernel), by decide +kernel⟩⟩

/-- NamespaceCommandsManageNamespaces: a state and operands that meet the hypotheses of each clause. -/
theorem witness_NamespaceCommandsManageNamespaces :
    (∃ (s : State) (tk : Tick) (p : NsSpec), s.onlyAdmin tk ∧ (s.createNs p).1 = stOk) ∧
    (∃ (s : State) (tk : Tick) (p : NsSpec), s.onlyAdmin tk ∧ (s.createNs p).1 ≠ stOk) ∧
    (∃ (s : State) (tk : Tick) (nsid : Nat), s.onlyAdmin tk ∧ (∀ f, (s.fn f).aers = []) ∧ nsid ≠ 0xFFFFFFFF ∧ s.nsExists nsid = true) ∧
    (∃ (s : State) (tk : Tick) (nsid : Nat), s.onlyAdmin tk ∧ (∀ f, (s.fn f).aers = []) ∧ nsid ≠ 0xFFFFFFFF ∧ s.nsExists nsid = false) ∧
    (∃ (s : State) (tk : Tick) (nsid : Nat) (l : List Nat), s.onlyAdmin tk ∧ s.nsExists nsid = true ∧ l ≠ [] ∧ (∀ f ∈ l, s.fnExists f = true) ∧ (∀ f ∈ l, f ∉ (s.ns (nsid - 1)).attached) ∧ s.on ZPM_CTRL.TAIL_ENF = false) ∧
    (∃ (s : State) (tk : Tick) (nsid : Nat) (l : List Nat), s.onlyAdmin tk ∧ s.nsExists nsid = true ∧ l ≠ [] ∧ (∀ f ∈ l, s.fnExists f = true) ∧ (∃ f ∈ l, f ∈ (s.ns (nsid - 1)).attached)) ∧
    (∃ (s : State) (tk : Tick) (nsid : Nat) (l : List Nat), s.onlyAdmin tk ∧ s.nsExists nsid = true ∧ l ≠ [] ∧ (∀ f ∈ l, s.fnExists f = true) ∧ (∀ f ∈ l, f ∈ (s.ns (nsid - 1)).attached)) ∧
    (∃ (s : State) (tk : Tick) (nsid : Nat) (lbaf : Nat) (ses : Nat) (pi : Nat) (pil : Nat), s.onlyAdmin tk ∧ (∀ f, (s.fn f).aers = []) ∧ nsid ≠ 0xFFFFFFFF ∧ s.nsExists nsid = true ∧ (s.ns (nsid - 1)).kind = 1 ∧ lbaf ≤ 4 ∧ ses ≤ 1 ∧ pi ≤ 3 ∧ pil ≤ 1 ∧ ((pi ≠ 0 → lbaf ≠ 0 ∧ lbaf ≠ 4))) ∧
    (∃ (s : State) (tk : Tick) (nsid : Nat) (lbaf : Nat), s.onlyAdmin tk ∧ (∀ f, (s.fn f).aers = []) ∧ nsid ≠ 0xFFFFFFFF ∧ s.nsExists nsid = true ∧ 4 < lbaf) ∧
    (∃ (s : State) (tk : Tick) (nsid : Nat) (lbaf : Nat) (ses : Nat) (pi : Nat) (pil : Nat), s.onlyAdmin tk ∧ (∀ f, (s.fn f).aers = []) ∧ nsid ≠ 0xFFFFFFFF ∧ s.nsExists nsid = true ∧ lbaf ≤ 4 ∧ (2 < ses ∨ 3 < pi ∨ 1 < pil)) ∧
    (∃ (s : State) (tk : Tick), s.onlyAdmin tk ∧ (∀ f, (s.fn f).aers = [])) ∧
    (∃ (s : State) (tk : Tick), s.onlyAdmin tk ∧ (∀ f, (s.fn f).aers = []) ∧ s.ident.bn = false ∧ s.cip.rng0ok = true) ∧
    (∃ (s : State) (tk : Tick), s.onlyAdmin tk ∧ (∀ f, (s.fn f).aers = []) ∧ s.ident.bn = true) :=
  ⟨⟨roomy tk0, tk0, ({ csi := 0, nsze := 1, ncap := 1, lbaf := 0 } : NsSpec), onlyAdmin_of (by decide +kernel), by decide +kernel⟩,
   ⟨spaced flat tk0, tk0, ({ csi := 0, nsze := 1, ncap := 1, lbaf := 0 } : NsSpec), onlyAdmin_of (by decide +kernel), by decide +kernel⟩,
   ⟨spaced flat tk0, tk0, 1, onlyAdmin_of (by decide +kernel), noAers_of (by decide +kernel), by decide +kernel⟩,
   ⟨spaced flat tk0, tk0, 64, onlyAdmin_of (by decide +kernel), noAers_of (by decide +kernel), by decide +kernel⟩,
   ⟨fields [(ZPM_CTRL.TAIL_ENF,0)] ((spaced { flat with attached := [] } tk0).modPci fun p => { p with strapped := true }), tk0, 1, [0], onlyAdmin_of (by decide +kernel), by decide +kernel⟩,
   ⟨spaced flat tk0, tk0, 1, [0], onlyAdmin_of (by decide +kernel), by decide +kernel⟩,
   ⟨spaced flat tk0, tk0, 1, [0], onlyAdmin_of (by decide +kernel), by decide +kernel⟩,
   ⟨spaced flat tk0, tk0, 1, 4, 1, 0, 1, onlyAdmin_of (by decide +kernel), noAers_of (by decide +kernel), by decide +kernel⟩,
   ⟨spaced flat tk0, tk0, 1, 5, onlyAdmin_of (by decide +kernel), noAers_of (by decide +kernel), by decide +kernel⟩,
   ⟨spaced flat tk0, tk0, 1, 4, 3, 0, 1, onlyAdmin_of (by decide +kernel), noAers_of (by decide +kernel), by decide +kernel⟩,
   ⟨spaced flat tk0, tk0, onlyAdmin_of (by decide +kernel), noAers_of (by decide +kernel)⟩,
   ⟨spaced flat tk0, tk0, onlyAdmin_of (by decide +kernel), noAers_of (by decide +kernel), by decide +kernel⟩,
   ⟨(spaced flat tk0).modIdent fun i => { i with bn := true }, tk0, onlyAdmin_of (by decide +kernel), noAers_of (by decide +kernel), by decide +kernel⟩⟩

/-- OtherAdminCommandsAct: a state and operands that meet the hypotheses of each clause. -/
theorem witness_OtherAdminCommandsAct :
    (∃ (s : State) (tk : Tick), s.onlyAdmin tk) ∧
    (∃ (s : State) (tk : Tick) (d : Cmd), (s.modHfe fun h => { h with ctx := [] }).onlyAdmin tk ∧ s.hfe.ctx = [d] ∧ d.fn = tk.fn ∧ d.sqid = 0 ∧ d.ticket ≠ tk.ticket ∧ d.op = .admin 0xC0 ∧ 64 ≤ s.mgt.waits.length ∧ d.dispatched = false ∧ d.status = none ∧ d.ordered = false ∧ d.pieces = [] ∧ 3 ≤ s.cmdLimit tk.fn ∧ (s.cq tk.fn 0).used + 2 < (s.cq tk.fn 0).size) ∧
    (∃ (s : State) (tk : Tick), s.onlyAdmin tk ∧ (s.fn tk.fn).aers.length < 8 ∧ (s.fn tk.fn).events = []) ∧
    (∃ (s : State) (tk : Tick) (e : _), s.onlyAdmin tk ∧ (s.fn tk.fn).aers = [] ∧ (s.fn tk.fn).events = [e] ∧ (s.fn tk.fn).masked = []) ∧
    (∃ (s : State) (tk : Tick), s.onlyAdmin tk ∧ 8 ≤ (s.fn tk.fn).aers.length) ∧
    (∃ (s : State) (tk : Tick) (numd : Nat), s.onlyAdmin tk ∧ (numd + 1) * 4 ≤ 2 ^ 21) ∧
    (∃ (s : State) (tk : Tick) (slot : Nat) (action : Nat), s.onlyAdmin tk ∧ slot ≤ 2 ∧ action ≤ 1 ∧ s.fwImage ≠ []) ∧
    (∃ (s : State) (tk : Tick) (slot : Nat), s.onlyAdmin tk ∧ slot ≤ 2 ∧ Tab.get [] s.nv.fwSlots (if slot = 0 then 2 else slot) ≠ []) ∧
    (∃ (s : State) (tk : Tick) (slot : Nat), s.onlyAdmin tk ∧ 2 < slot) ∧
    (∃ (s : State) (tk : Tick) (stc : Nat), s.onlyAdmin tk ∧ (stc = 1 ∨ stc = 2) ∧ s.hfe.selfTest = 0) ∧
    (∃ (s : State) (tk : Tick) (stc : Nat), s.onlyAdmin tk ∧ (stc = 1 ∨ stc = 2) ∧ s.hfe.selfTest ≠ 0) ∧
    (∃ (s : State) (tk : Tick), s.onlyAdmin tk) ∧
    (∃ (s : State) (tk : Tick) (q : List Nat), s.onlyAdmin tk ∧ q.headD 0 ≠ 6) ∧
    (∃ (s : State) (tk : Tick) (len : Nat), s.onlyAdmin tk ∧ s.mgt.waits.length < 64 ∧ 1 ≤ len ∧ len ≤ 4096) ∧
    (∃ (s : State) (tk : Tick) (len : Nat), s.onlyAdmin tk ∧ s.mgt.waits.length < 64 ∧ (len = 0 ∨ 4096 < len)) ∧
    (∃ (s : State) (tk : Tick) (index : Nat) (sub : Nat) (type : Nat) (v : DVal), s.onlyAdmin tk ∧ s.mgt.waits.length < 64 ∧ s.dictWriteAbort (s.nvmePath tk.fn) index sub (type == dictCode index sub) v ≠ abOk) ∧
    (∃ (s : State) (tk : Tick) (k : Nat) (sub : Nat) (v : Nat), s.onlyAdmin tk ∧ s.mgt.waits.length < 64 ∧ k < 16 ∧ s.dictWriteAbort (s.nvmePath tk.fn) (0x6010 + k) sub true (.num v) = abOk ∧ s.persists (0x6010 + k) sub = true) :=
  ⟨⟨entry tk0, tk0, onlyAdmin_of (by decide +kernel)⟩,
   ⟨(fields [(HFE_CMDLIM.LIMIT 0, 8)] ((entry tk0).modHfe fun h => { h with ctx := [{ ticket := 0, cid := 7, op := .admin 0xC0, dw0 := 3 }] })).modMgt fun m => { m with waits := List.replicate 64 { reply := {} } }, tk0, (((fields [(HFE_CMDLIM.LIMIT 0, 8)] ((entry tk0).modHfe fun h => { h with ctx := [{ ticket := 0, cid := 7, op := .admin 0xC0, dw0 := 3 }] })).modMgt fun m => { m with waits := List.replicate 64 { reply := {} } }).hfe.ctx.headD {}), onlyAdmin_of (by decide +kernel), by decide +kernel⟩,
   ⟨entry tk0, tk0, onlyAdmin_of (by decide +kernel), by decide +kernel⟩,
   ⟨(entry tk0).modHfe fun h => { h with fns := h.fns.map fun e => (e.1, { e.2 with events := [1] }) }, tk0, 1, onlyAdmin_of (by decide +kernel), by decide +kernel⟩,
   ⟨(entry tk0).modHfe fun h => { h with fns := h.fns.map fun e => (e.1, { e.2 with aers := List.replicate 8 (0, 0) }) }, tk0, onlyAdmin_of (by decide +kernel), by decide +kernel⟩,
   ⟨entry tk0, tk0, 15, onlyAdmin_of (by decide +kernel), by decide +kernel⟩,
   ⟨(entry tk0).modHfe fun h => { h with selfTest := 1, fwBuf := [(0, 1)] }, tk0, 2, 1, onlyAdmin_of (by decide +kernel), by decide +kernel⟩,
   ⟨(entry tk0).modNv fun n => { n with fwSlots := [(2, [1])] }, tk0, 2, onlyAdmin_of (by decide +kernel), by decide +kernel⟩,
   ⟨entry tk0, tk0, 3, onlyAdmin_of (by decide +kernel), by decide +kernel⟩,
   ⟨entry tk0, tk0, 2, onlyAdmin_of (by decide +kernel), by decide +kernel⟩,
   ⟨(entry tk0).modHfe fun h => { h with selfTest := 1, fwBuf := [(0, 1)] }, tk0, 2, onlyAdmin_of (by decide +kernel), by decide +kernel⟩,
   ⟨entry tk0, tk0, onlyAdmin_of (by decide +kernel)⟩,
   ⟨entry tk0, tk0, [], onlyAdmin_of (by decide +kernel), by decide +kernel⟩,
   ⟨entry tk0, tk0, 1, onlyAdmin_of (by decide +kernel), by decide +kernel⟩,
   ⟨entry tk0, tk0, 0, onlyAdmin_of (by decide +kernel), by decide +kernel⟩,
   ⟨entry tk0, tk0, 0x1000, 3, 0, .num 0, onlyAdmin_of (by decide +kernel), by decide +kernel⟩,
   ⟨dictUp (entry tk0), tk0, 15, 3, 7, onlyAdmin_of (by decide +kernel), by decide +kernel⟩⟩

/-- PowerEntriesAreAskedAnsweredAndCompleted: a state and operands that meet the hypotheses of each clause. -/
theorem witness_PowerEntriesAreAskedAnsweredAndCompleted :
    (∃ (s : State) (m : Nat) (v : Nat), s.reaches m PWR_REQ.GO.addr ∧ PWR_REQ.GO.of v ≠ 0 ∧ PWR_REQ.TARGET.of v = pwrNap ∧ s.pwrCtrl = 0 ∧ s.pwrState < pwrNap) ∧
    (∃ (s : State) (m : Nat) (v : Nat), s.reaches m PWR_REQ.GO.addr ∧ (PWR_REQ.GO.of v = 0 ∨ 5 ≤ PWR_REQ.TARGET.of v ∨ PWR_REQ.TARGET.of v = 1)) ∧
    (∃ (s : State) (d : Nat) (a : Answer), s.pwrCtrl = ctrlAsking ∧ d ∈ s.pow.asked ∧ (if d < 10 then a else s.hwAnswer d s.pow.entry) = .ack ∧ ¬(d = 4 ∧ pwrShelf ≤ s.pow.entry)) ∧
    (∃ (s : State) (d : Nat) (a : Answer), s.pwrCtrl = ctrlAsking ∧ d ∈ s.pow.asked ∧ (if d < 10 then a else s.hwAnswer d s.pow.entry) = .delay) ∧
    (∃ (s : State) (d : Nat) (a : Answer) (c : _), s.pwrCtrl = ctrlAsking ∧ d ∈ s.pow.asked ∧ d < 10 ∧ a = .refuse c) ∧
    (∃ (s : State) (d : Nat), s.pwrCtrl = ctrlAsking ∧ d ∈ s.pow.asked) ∧
    (∃ (s : State) (d : Nat), (s.pwrCtrl ≠ ctrlAsking ∨ d ∉ s.pow.asked)) ∧
    (∃ (s : State), s.pwrCtrl = ctrlEntering ∧ s.on PWR_STAT.WAKEPEND = false ∧ s.pow.entry = pwrNap ∧ s.on EVR_CTRL.EN = false) ∧
    (∃ (s : State), s.pwrCtrl = ctrlEntering ∧ s.on PWR_STAT.WAKEPEND = false ∧ s.pow.entry = pwrShelf) ∧
    (∃ (s : State), s.pwrCtrl = ctrlEntering ∧ s.on PWR_STAT.WAKEPEND = false ∧ s.pow.entry = pwrDeep) ∧
    (∃ (s : State), s.pwrCtrl ≠ ctrlEntering) ∧
    (∃ (s : State), s.up = true ∧ s.on PWR_CTRL.IDLE_EN = true ∧ s.pwrState = 0 ∧ s.pwrCtrl = 0 ∧ s.noWork = true) ∧
    (∃ (s : State), s.noWork = false) :=
  ⟨⟨base, 4, 0x80000002, reaches_of (by decide +kernel), by decide +kernel⟩,
   ⟨base, 0, 0, reaches_of (by decide +kernel), by decide +kernel⟩,
   ⟨asking 2 [9], 9, .ack, by decide +kernel⟩,
   ⟨asking 2 [9], 9, .delay, by decide +kernel⟩,
   ⟨asking 2 [9], 9, .refuse 15, 15, by decide +kernel⟩,
   ⟨asking 2 [9], 9, by decide +kernel⟩,
   ⟨base, 47, by decide +kernel⟩,
   ⟨entering 2, by decide +kernel⟩,
   ⟨entering 3, by decide +kernel⟩,
   ⟨entering 4, by decide +kernel⟩,
   ⟨base, by decide +kernel⟩,
   ⟨base, by decide +kernel⟩,
   ⟨base.modHfe fun h => { h with tickets := [tk1] }, by decide +kernel⟩⟩

/-- WakesDomainsAndThermalRestart: a state and operands that meet the hypotheses of each clause. -/
theorem witness_WakesDomainsAndThermalRestart :
    (∃ (s : State), s.pwrState = pwrNap ∧ s.pwrCtrl = 0 ∧ s.pow.mainFell = true ∧ bit (s.fld AON_WAKE.EN) 0 = true) ∧
    (∃ (s : State), s.pwrState = pwrNap ∧ s.pwrCtrl = 0 ∧ s.ctl.vaon = true ∧ s.fld AON_RTC.COUNT ≤ s.fld AON_ALARM.COUNT ∧ bit (s.fld AON_WAKE.EN) 1 = true) ∧
    (∃ (s : State) (pin : _), s.pwrState = pwrNap ∧ s.pwrCtrl = 0 ∧ 12 ≤ pin ∧ pin ≤ 15 ∧ bit (s.fld AON_WAKE.EN) (pin - 8) = true) ∧
    (∃ (s : State), s.pwrState = pwrShelf ∧ s.pwrCtrl = 0 ∧ bit (s.fld AON_WAKE.EN) 2 = true) ∧
    (∃ (s : State), bit (s.fld AON_WAKE.EN) 0 = false) ∧
    (∃ (s : State), s.pow.mainFell = false) ∧
    (∃ (s : State), bit (s.fld AON_WAKE.EN) 2 = false) ∧
    (∃ (s : State) (m : Nat) (d : Nat), s.reaches m PWR_DOMREQ.OP.addr ∧ d < 48 ∧ s.pwrState = 0 ∧ s.pwrCtrl = 0) ∧
    (∃ (s : State) (m : Nat) (d : Nat), s.reaches m PWR_DOMREQ.OP.addr ∧ d < 48 ∧ s.pwrState = 0 ∧ s.pwrCtrl = 0 ∧ s.leased d = false ∧ s.domainOff (some d) = false) ∧
    (∃ (s : State) (m : Nat) (d : Nat), s.reaches m PWR_DOMREQ.OP.addr ∧ d < 48 ∧ s.pwrState = 0 ∧ s.pwrCtrl = 0 ∧ s.leased d = false ∧ s.domainHolds d = false ∧ 4 ≤ d) ∧
    (∃ (s : State) (m : Nat) (d : Nat), s.reaches m PWR_DOMREQ.OP.addr ∧ d < 48 ∧ s.pwrState = 0 ∧ s.pwrCtrl = 0 ∧ s.leased d = false ∧ s.domainHolds d = false ∧ d < 4) ∧
    (∃ (s : State) (m : Nat) (d : Nat), s.reaches m PWR_DOMREQ.OP.addr ∧ d < 48 ∧ s.pwrState = 0 ∧ s.pwrCtrl = 0 ∧ s.leased d = false ∧ s.domainHolds d = true) ∧
    (∃ (s : State) (m : Nat) (d : Nat), s.reaches m PWR_DOMREQ.OP.addr ∧ d < 48 ∧ s.pwrState = 0 ∧ s.pwrCtrl = 0 ∧ s.leased d = true) ∧
    (∃ (s : State) (m : Nat), s.reaches m THM_CTRL.SUSPCLR.addr) ∧
    (∃ (s : State), bit s.ctl.pwrseq 0 = false) ∧
    (∃ (s : State), bit s.ctl.pwrseq 0 = true ∧ s.up = false) ∧
    (∃ (s : State), bit s.ctl.pwrseq 0 = true ∧ s.up = true ∧ s.hldState = hldDumping) ∧
    (∃ (s : State), s.pow.shutPend = true ∧ s.pow.offRails = true) ∧
    (∃ (s : State), s.pow.shutPend = false) :=
  ⟨⟨slept 2, by decide +kernel⟩,
   ⟨slept 2, by decide +kernel⟩,
   ⟨slept 2, 15, by decide +kernel⟩,
   ⟨slept 3, by decide +kernel⟩,
   ⟨fields [(AON_WAKE.EN, 0)] base, by decide +kernel⟩,
   ⟨base, by decide +kernel⟩,
   ⟨base, by decide +kernel⟩,
   ⟨base, 0, 47, reaches_of (by decide +kernel), by decide +kernel⟩,
   ⟨base, 0, 47, reaches_of (by decide +kernel), by decide +kernel⟩,
   ⟨base, 0, 47, reaches_of (by decide +kernel), by decide +kernel⟩,
   ⟨base, 0, 3, reaches_of (by decide +kernel), by decide +kernel⟩,
   ⟨base, 0, 20, reaches_of (by decide +kernel), by decide +kernel⟩,
   ⟨base, 0, 5, reaches_of (by decide +kernel), by decide +kernel⟩,
   ⟨base, 0, reaches_of (by decide +kernel)⟩,
   ⟨base.modCtl fun c => { c with pwrseq := 0 }, by decide +kernel⟩,
   ⟨base.modCtl fun c => { c with pwrseq := 1 }, by decide +kernel⟩,
   ⟨fields [(HLD_STAT.STATE, 5)] base, by decide +kernel⟩,
   ⟨base.modPow fun p => { p with shutPend := true, offRails := true }, by decide +kernel⟩,
   ⟨base, by decide +kernel⟩⟩

/-- DictionaryRequestsAreAnswered: a state and operands that meet the hypotheses of each clause. -/
theorem witness_DictionaryRequestsAreAnswered :
    (∃ (s : State) (u : State) (m : Nat) (v : Nat), s.reaches m MGT_FREQ.GO.addr ∧ u = s.arrive m MGT_FREQ.GO.addr ∧ bit v 31 = true ∧ s.on MGT_FREQ.DONE = true ∧ m ≠ 4 ∧ slice v 28 2 = 1 ∧ u.dictReadCheck .firmware (slice v 8 16) (slice v 0 8) ≠ abOk) ∧
    (∃ (s : State) (u : State) (m : Nat) (v : Nat), s.reaches m MGT_FREQ.GO.addr ∧ u = s.arrive m MGT_FREQ.GO.addr ∧ bit v 31 = true ∧ s.on MGT_FREQ.DONE = true ∧ m ≠ 4 ∧ slice v 28 2 = 1 ∧ u.dictReadCheck .firmware (slice v 8 16) (slice v 0 8) = abOk) ∧
    (∃ (s : State) (m : Nat) (v : Nat), s.reaches m MGT_FREQ.GO.addr ∧ (bit v 31 = false ∨ s.on MGT_FREQ.DONE = false)) ∧
    (∃ (s : State) (m : Nat) (v : Nat) (k : Nat), s.reaches m MGT_FREQ.GO.addr ∧ bit v 31 = true ∧ s.on MGT_FREQ.DONE = true ∧ m ≠ 4 ∧ slice v 28 2 = 2 ∧ k < 16 ∧ slice v 8 16 = 0x6010 + k ∧ slice v 0 8 = 3 ∧ s.fld MGT_FLEN.TYPE = (dictType (0x6010 + k) 3).code ∧ s.fld MGT_FLEN.SIZE = 1 ∧ s.up = true ∧ s.hld.committed = false ∧ s.mgt.loading = false ∧ Tab.get 0 s.mgt.fdata 0 ≤ 7) ∧
    (∃ (s : State) (h : Esnex), s.hears h) ∧
    (∃ (s : State) (h : Esnex), s.hears h) ∧
    (∃ (s : State) (h : Esnex) (i : Nat) (k : Nat) (ty : _) (v : DVal), s.hears h ∧ s.dictWriteAbort .esnex i k (ty == (dictType i k).code && dictType i k != .blob) v ≠ abOk) ∧
    (∃ (s : State) (h : Esnex) (k : Nat) (j : _) (v : _), s.hears h ∧ j < 16 ∧ s.dictWriteAbort .esnex (0x6010 + j) k (dictType (0x6010 + j) k != .blob) (.num v) = abOk ∧ s.persists (0x6010 + j) k = true) ∧
    (∃ (s : State) (h : Esnex) (i : Nat) (k : Nat) (r : DictRow) (total : Nat) (data : List Nat), s.hears h ∧ s.dictWriteCheck .esnex i k = abOk ∧ dictRow i k = some r ∧ r.ty.varies = true ∧ total ≤ r.hi ∧ data.length < total) ∧
    (∃ (s : State) (h : Esnex) (i : Nat) (k : Nat) (r : DictRow) (o : Nat) (total : Nat), s.hears h ∧ s.dictWriteCheck .esnex i k = abOk ∧ dictRow i k = some r ∧ r.ty.varies = true ∧ total ≤ r.hi ∧ o ≠ 0 ∧ Tab.get none s.mgt.stages h.src = none) ∧
    (∃ (s : State) (h : Esnex) (i : Nat) (k : Nat), s.hears h ∧ s.dictWriteCheck .esnex i k ≠ abOk) ∧
    (∃ (s : State) (h : Esnex), s.hears h ∧ s.dictDown true 0 0 = false) :=
  ⟨⟨net base, (net base).arrive (3) MGT_FREQ.GO.addr, 3, (2 ^ 31 + 1 * 2 ^ 28 + 0x601F * 256 + 9), reaches_of (by decide +kernel), rfl, by decide +kernel⟩,
   ⟨net base, (net base).arrive (3) MGT_FREQ.GO.addr, 3, (2 ^ 31 + 1 * 2 ^ 28 + 0x601F * 256 + 3), reaches_of (by decide +kernel), rfl, by decide +kernel⟩,
   ⟨base, 0, 0, reaches_of (by decide +kernel), by decide +kernel⟩,
   ⟨fields [(MGT_FLEN.TYPE, (dictType 0x601F 3).code), (MGT_FLEN.SIZE, 1)] ((net base).modMgt fun m => { m with fdata := [(0, 7)] }), 3, (2 ^ 31 + 2 * 2 ^ 28 + 0x601F * 256 + 3), 15, reaches_of (by decide +kernel), by decide +kernel⟩,
   ⟨net base, frame, hears_of (by decide +kernel)⟩,
   ⟨net base, frame, hears_of (by decide +kernel)⟩,
   ⟨net base, frame, 0x601F, 3, 0, .num 7, hears_of (by decide +kernel), by decide +kernel⟩,
   ⟨net base, frame, 3, 15, 7, hears_of (by decide +kernel), by decide +kernel⟩,
   ⟨net base, frame, 0x1010, 0, ((dictRow 0x1010 0).getD ⟨0x1010, 0x1010, 0, 0, .u8, .const, 5, 0, 255⟩), 256, [], hears_of (by decide +kernel), by decide +kernel⟩,
   ⟨net base, frame, 0x1010, 0, ((dictRow 0x1010 0).getD ⟨0x1010, 0x1010, 0, 0, .u8, .const, 5, 0, 255⟩), 1, 256, hears_of (by decide +kernel), by decide +kernel⟩,
   ⟨net base, frame, 0x601F, 15, hears_of (by decide +kernel), by decide +kernel⟩,
   ⟨net base, frame, hears_of (by decide +kernel), by decide +kernel⟩⟩

/-- SessionsAndFrames: a state and operands that meet the hypotheses of each clause. -/
theorem witness_SessionsAndFrames :
    (∃ (s : State) (h : Esnex), s.hears h ∧ s.dictDown true 0 0 = false ∧ s.ident.bn = true) ∧
    (∃ (s : State) (h : Esnex) (cred : Nat), s.hears h ∧ s.dictDown true 0 0 = false ∧ s.ident.bn = false ∧ Tab.get [] s.mgt.creds cred = []) ∧
    (∃ (s : State) (h : Esnex) (cred : Nat) (c : _) (w : _), s.hears h ∧ s.dictDown true 0 0 = false ∧ s.ident.bn = false ∧ Tab.get [] s.mgt.creds cred ≠ [] ∧ s.freeSession = some c ∧ s.cip.rng0ok = true ∧ 1 ≤ s.dnum 0x8001 0 ∧ s.cip.window = some w ∧ (s.gctx c).held < w) ∧
    (∃ (s : State) (h : Esnex), s.hears h ∧ s.dictDown true 0 0 = false) ∧
    (∃ (s : State) (h : Esnex) (x : Sess), s.hears { h with auth := false } ∧ h.auth = true ∧ 32 ≤ h.session ∧ s.repeated h (256 + h.session) = none ∧ s.dictDown true 0 0 = false ∧ Tab.get none s.mgt.sess h.session = some x ∧ x.node = h.src ∧ x.lastIv ≤ h.iv ∧ h.ivTop = false ∧ h.tagOk = true) ∧
    (∃ (s : State) (h : Esnex) (code : Nat), s.up = true ∧ s.on MGT_CTRL.NET_EN = true ∧ h.src = 0 ∧ code = 1 ∧ h.complete = true ∧ h.version = 1 ∧ (h.dst = 0xFF ∨ h.dst = s.fld MGT_STAT.NODE)) ∧
    (∃ (s : State) (h : Esnex) (code : Nat), s.up = true ∧ s.on MGT_CTRL.NET_EN = true ∧ (h.src ≠ 0 ∨ code ≠ 1)) ∧
    (∃ (s : State), s.up = true ∧ s.on MGT_CTRL.NET_EN = true) ∧
    (∃ (s : State) (c : Nat), (Tab.get none s.mgt.sess c).isSome = true) ∧
    (∃ (s : State) (c : Nat), Tab.get none s.mgt.sess c = none) ∧
    (∃ (s : State), s.up = true ∧ s.coldNum 0x1104 0 = 1 ∧ s.on MGT_STAT.COORD = false ∧ s.on MGT_STAT.NETUP = true) :=
  ⟨⟨(net base).modIdent fun i => { i with bn := true }, frame, hears_of (by decide +kernel), by decide +kernel⟩,
   ⟨net base, frame, 4, hears_of (by decide +kernel), by decide +kernel⟩,
   ⟨(((net base).modCip fun c => { c with window := some 1 }).modMgt fun m => { m with creds := [(4, [1])], dict := Tab.set none m.dict (dictKey 0x8001 0) (some (.num 1)) }), frame, 4, 32, 1, hears_of (by decide +kernel), by decide +kernel⟩,
   ⟨net base, frame, hears_of (by decide +kernel), by decide +kernel⟩,
   ⟨(net base).modMgt fun m => { m with sess := [(63, some { node := 7 })] }, ({ frame with auth := true, session := 63 } : Esnex), ({ node := 7 } : Sess), hears_of (by decide +kernel), by decide +kernel⟩,
   ⟨net base, ({ frame with src := 0 } : Esnex), 1, by decide +kernel⟩,
   ⟨net base, frame, 1, by decide +kernel⟩,
   ⟨base, by decide +kernel⟩,
   ⟨(net base).modMgt fun m => { m with sess := [(63, some { node := 7 })] }, 63, by decide +kernel⟩,
   ⟨base, 0, by decide +kernel⟩,
   ⟨fields [(MGT_STAT.NETUP, 1), (MGT_STAT.COORD, 0)] (base.modMgt fun m => { m with nextCold := [(dictKey 0x1104 0, some (.num 1))] }), by decide +kernel⟩⟩

/-- RecordsAndManagementMessages: a state and operands that meet the hypotheses of each clause. -/
theorem witness_RecordsAndManagementMessages :
    (∃ (s : State) (r : Tab (Option DVal)), s.mgt.recNow = some r ∧ s.mgt.waits = [] ∧ s.mgt.recNext = false) ∧
    (∃ (s : State) (r : Tab (Option DVal)), s.mgt.recNow = some r ∧ s.mgt.waits = [] ∧ s.mgt.recNext = false) ∧
    (∃ (s : State) (r : Tab (Option DVal)) (c : Cmd) (op : Nat), s.mgt.recNow = some r ∧ s.mgt.waits = [{ reply := { path := 2, dest := c.ticket, op := op }, cmd := true }] ∧ s.mgt.recNext = false ∧ s.hfe.ctx = [c] ∧ s.hfe.stopped = false ∧ c.status = none ∧ c.ordered = false ∧ opMovesData c.op = false ∧ s.cqRoom c.fn (s.sq c.fn c.sqid).cqid = true) ∧
    (∃ (s : State), s.mgt.recNow = none) ∧
    (∃ (s : State) (d : MctpMedium), s.up = true ∧ s.on MGT_CTRL.MCTP_EN = true ∧ s.mediumOn d = true) ∧
    (∃ (s : State), s.miOn = true) ∧
    (∃ (s : State), s.miOn = true) ∧
    (∃ (s : State) (f : _), s.miOn = true ∧ s.fnExists f = true) ∧
    (∃ (s : State) (v : Nat), s.miOn = true ∧ 1 ≤ v ∧ v ≤ 3) ∧
    (∃ (s : State) (v : Nat), s.miOn = true ∧ 64 ≤ v ∧ v ≤ 250) ∧
    (∃ (s : State) (v : Nat), s.miOn = true ∧ (v = 0 ∨ 4 ≤ v)) ∧
    (∃ (s : State) (o : Nat) (n : Nat), s.miOn = true ∧ s.dictReadCheck .mctp 0x1010 0 = abOk ∧ o + n ≤ (s.dictBytes 0x1010 0).length) ∧
    (∃ (s : State) (o : Nat) (n : Nat), s.miOn = true ∧ s.dictReadCheck .mctp 0x1010 0 = abOk ∧ (s.dictBytes 0x1010 0).length < o + n) ∧
    (∃ (s : State) (o : Nat) (data : List Nat), s.miOn = true ∧ 256 < o + data.length) ∧
    (∃ (s : State) (o : Nat) (data : List Nat), s.miOn = true ∧ o + data.length ≤ 256 ∧ o ≤ (s.dictBytes 0x1010 0).length ∧ (s.dictBytes 0x1010 0).length ≤ 256 ∧ s.hld.committed = false ∧ s.mgt.loading = false ∧ s.mgt.waits = []) ∧
    (∃ (s : State) (q : Sqe), s.miOn = true ∧ badEntry true q = false ∧ slice (sqeDw q 0) 0 8 = 6) ∧
    (∃ (s : State) (q : Sqe), s.miOn = true ∧ badEntry true q = false ∧ slice (sqeDw q 0) 0 8 ∉ [0x02, 0x06, 0x0A, 0xC0, 0xC1]) ∧
    (∃ (s : State), s.miOn = false) ∧
    (∃ (s : State), s.miOn = false) ∧
    (∃ (s : State), s.miOn = false) ∧
    (∃ (s : State), s.miOn = false) :=
  ⟨⟨base.modMgt fun m => { m with recNow := some [] }, [], by decide +kernel⟩,
   ⟨base.modMgt fun m => { m with recNow := some [] }, [], by decide +kernel⟩,
   ⟨(host.modHfe fun h => { h with ctx := [cmx] }).modMgt fun m => { m with recNow := some [], waits := [{ reply := { path := 2, dest := 1, op := 0xC1 }, cmd := true }] }, [], cmx, 0xC1, by decide +kernel⟩,
   ⟨base, by decide +kernel⟩,
   ⟨base.modMgt fun m => { m with recNow := some [] }, .smbus, by decide +kernel⟩,
   ⟨base, by decide +kernel⟩,
   ⟨base, by decide +kernel⟩,
   ⟨base, 0, by decide +kernel⟩,
   ⟨base, 1, by decide +kernel⟩,
   ⟨base.modMgt fun m => { m with recNow := some [] }, 250, by decide +kernel⟩,
   ⟨base, 0, by decide +kernel⟩,
   ⟨net base, 0, 0, by decide +kernel⟩,
   ⟨net base, 256, 0, by decide +kernel⟩,
   ⟨base.modMgt fun m => { m with recNow := some [] }, 256, [1], by decide +kernel⟩,
   ⟨net base, 0, [], by decide +kernel⟩,
   ⟨base.modMgt fun m => { m with recNow := some [] }, { dw := [6] }, by decide +kernel⟩,
   ⟨base.modMgt fun m => { m with recNow := some [] }, { dw := [0x10] }, by decide +kernel⟩,
   ⟨fields [(MGT_CTRL.MCTP_EN, 0)] base, by decide +kernel⟩,
   ⟨fields [(MGT_CTRL.MCTP_EN, 0)] base, by decide +kernel⟩,
   ⟨fields [(MGT_CTRL.MCTP_EN, 0)] base, by decide +kernel⟩,
   ⟨fields [(MGT_CTRL.MCTP_EN, 0)] base, by decide +kernel⟩⟩

/-- FirmwareManagesZonesAndGroups: a state and operands that meet the hypotheses of each clause. -/
theorem witness_FirmwareManagesZonesAndGroups :
    (∃ (s : State) (m : Nat) (k : Nat) (v : Nat), k < 4096 ∧ s.reaches m (ZPM_SSET.VALID k).addr ∧ (s.arrive m (ZPM_SSET.VALID k).addr).ssetRefused k v = false) ∧
    (∃ (s : State) (m : Nat) (k : Nat) (v : Nat), k < 4096 ∧ s.reaches m (ZPM_SSET.VALID k).addr ∧ (s.arrive m (ZPM_SSET.VALID k).addr).ssetRefused k v = true) ∧
    (∃ (s : State) (m : Nat) (g : Nat), g < 64 ∧ s.reaches m (ZPM_PGRP.ROW g).addr) ∧
    (∃ (s : State) (m : Nat) (i : Nat), i < 2 ^ 20 ∧ s.reaches m ZPM_DCMD.OP.addr ∧ s.descriptorHeld i = true) ∧
    (∃ (s : State) (m : Nat) (i : Nat), i < 2 ^ 20 ∧ s.reaches m ZPM_DCMD.OP.addr ∧ s.descriptorHeld i = false) ∧
    (∃ (s : State) (m : Nat) (i : Nat), i < 2 ^ 20 ∧ s.reaches m ZPM_DCMD.OP.addr ∧ s.zoneOpOk i = true) ∧
    (∃ (s : State) (m : Nat) (i : Nat), i < 2 ^ 20 ∧ s.reaches m ZPM_DCMD.OP.addr ∧ s.zoneOpOk i = true ∧ (s.zone i).state ≠ .readOnly ∧ (s.zone i).state ≠ .free ∧ s.med.migr = []) ∧
    (∃ (s : State) (m : Nat) (i : Nat), i < 2 ^ 20 ∧ s.reaches m ZPM_DCMD.OP.addr ∧ s.zoneOpOk i = true ∧ s.med.migr = []) ∧
    (∃ (s : State) (m : Nat) (i : Nat), i < 2 ^ 20 ∧ s.reaches m ZPM_DCMD.OP.addr ∧ s.descriptorHeld i = true ∧ (s.zone i).kind ≠ 0 ∧ (s.zone i).state ≠ .offline) ∧
    (∃ (s : State) (m : Nat) (i : Nat), i < 2 ^ 20 ∧ s.reaches m ZPM_DCMD.OP.addr ∧ s.zoneOpOk i = false) ∧
    (∃ (s : State) (m : Nat) (v : Nat), s.reaches m ZPM_CTRL.CKPT_NOW.addr ∧ s.hfe.ctx = [] ∧ s.mediaIdle ∧ ZPM_CTRL.CKPT_NOW.of v = 1 ∧ s.on ZPM_STAT.CKPT_BUSY = false) ∧
    (∃ (s : State), (s.on ZPM_STAT.CKPT_BUSY = true ∧ s.hld.committed = false ∧ s.hfe.ctx = []) ∧ s.mediaIdle ∧ s.zpm.journalLate = [] ∧ s.zpm.journal.length ≤ 131072) ∧
    (∃ (s : State), (s.on ZPM_STAT.CKPT_BUSY = false ∨ s.hld.committed = true)) :=
  ⟨⟨base, 0, 15, 0, by decide +kernel, reaches_of (by decide +kernel), by decide +kernel⟩,
   ⟨fields [(ZPM_SSET.VALID 4095, 1)] (base.modZpm fun z => { z with ns := [(63, zoned)] }), 4, 4095, 0, by decide +kernel, reaches_of (by decide +kernel), by decide +kernel⟩,
   ⟨base, 0, 15, by decide +kernel, reaches_of (by decide +kernel)⟩,
   ⟨base, 0, 7, by decide +kernel, reaches_of (by decide +kernel), by decide +kernel⟩,
   ⟨fields ((List.range 48).map fun b => (MEM_BANKASN.OWNER b, 0)) base, 4, 2 ^ 20 - 1, by decide +kernel, reaches_of (by decide +kernel), by decide +kernel⟩,
   ⟨zrow { kind := 1, state := .empty } base, 4, 65535, by decide +kernel, reaches_of (by decide +kernel), by decide +kernel⟩,
   ⟨zrow { kind := 1, state := .empty } base, 4, 65535, by decide +kernel, reaches_of (by decide +kernel), by decide +kernel⟩,
   ⟨zrow { kind := 1, state := .empty } base, 4, 65535, by decide +kernel, reaches_of (by decide +kernel), by decide +kernel⟩,
   ⟨zrow { kind := 1, state := .empty } base, 4, 65535, by decide +kernel, reaches_of (by decide +kernel), by decide +kernel⟩,
   ⟨base, 0, 7, by decide +kernel, reaches_of (by decide +kernel), by decide +kernel⟩,
   ⟨base, 4, 2, reaches_of (by decide +kernel), by decide +kernel, mediaIdle_of (by decide +kernel), by decide +kernel⟩,
   ⟨fields [(ZPM_STAT.CKPT_BUSY, 1)] base, by decide +kernel, mediaIdle_of (by decide +kernel), by decide +kernel⟩,
   ⟨base, by decide +kernel⟩⟩

/-- FirmwareManagesMedia: a state and operands that meet the hypotheses of each clause. -/
theorem witness_FirmwareManagesMedia :
    (∃ (s : State) (u : State) (m : Nat) (v : Nat), s.reaches m MED_CTRL.LAYOUT.addr ∧ u = s.arrive m MED_CTRL.LAYOUT.addr ∧ s.on MED_CTRL.LAYOUT = false ∧ MED_CTRL.MAPFLUSH.of v = 0 ∧ MED_CTRL.LAYOUT.of v = 1 ∧ u.layoutOk = true) ∧
    (∃ (s : State) (u : State) (m : Nat) (v : Nat), s.reaches m MED_CTRL.LAYOUT.addr ∧ u = s.arrive m MED_CTRL.LAYOUT.addr ∧ s.on MED_CTRL.LAYOUT = false ∧ MED_CTRL.MAPFLUSH.of v = 0 ∧ MED_CTRL.LAYOUT.of v = 1 ∧ u.layoutOk = false) ∧
    (∃ (s : State) (u : State) (m : Nat) (v : Nat), s.reaches m MED_CTRL.KILN_EN.addr ∧ u = s.arrive m MED_CTRL.KILN_EN.addr ∧ s.on MED_CTRL.LAYOUT = true ∧ MED_CTRL.MAPFLUSH.of v = 0 ∧ MED_CTRL.GC_EN.of v = 0 ∧ MED_CTRL.KILN_EN.of v = 0) ∧
    (∃ (s : State) (u : State) (m : Nat) (v : Nat), s.reaches m MED_CTRL.KILN_EN.addr ∧ u = s.arrive m MED_CTRL.KILN_EN.addr ∧ s.on MED_CTRL.LAYOUT = true ∧ MED_CTRL.MAPFLUSH.of v = 0 ∧ MED_CTRL.GC_EN.of v = 0 ∧ MED_CTRL.KILN_EN.of v = 1 ∧ u.recipesOk = false) ∧
    (∃ (s : State) (u : State) (m : Nat) (v : Nat), s.reaches m MED_CTRL.KILN_EN.addr ∧ u = s.arrive m MED_CTRL.KILN_EN.addr ∧ s.on MED_CTRL.LAYOUT = true ∧ MED_CTRL.MAPFLUSH.of v = 0 ∧ MED_CTRL.GC_EN.of v = 0 ∧ MED_CTRL.KILN_EN.of v = 1 ∧ u.recipesOk = true ∧ s.med.folds = []) ∧
    (∃ (s : State) (m : Nat) (v : Nat), s.reaches m MED_CTRL.MAPFLUSH.addr ∧ s.on MED_CTRL.LAYOUT = false ∧ MED_CTRL.LAYOUT.of v = 0 ∧ MED_CTRL.MAPFLUSH.of v = 1 ∧ s.med.flushMark = none ∧ (∀ x ∈ s.med.mapCache, x.dirty = false)) ∧
    (∃ (s : State) (m : Nat) (v : Nat) (l : _), s.reaches m MED_CTRL.MAPFLUSH.addr ∧ (s.on MED_CTRL.LAYOUT = false ∧ MED_CTRL.LAYOUT.of v = 0 ∧ MED_CTRL.MAPFLUSH.of v = 1 ∧ s.med.flushMark = none) ∧ l = (s.med.mapCache.filter fun x => x.dirty && decide (x.page < 2 ^ 56)).map (·.page) ∧ s.med.flushOn = []) ∧
    (∃ (s : State), s.med.flushMark = none) ∧
    (∃ (s : State), (s.med.flushLeft ≠ [] ∨ s.med.flushOn ≠ [] ∨ s.hld.committed = true)) ∧
    (∃ (s : State) (n : _), (s.med.flushMark = some n ∧ s.med.flushLeft = [] ∧ s.med.flushOn = [] ∧ s.hld.committed = false ∧ s.med.mapLate = [] ∧ s.med.mapJrnl.drop n = [] ∧ s.med.mapJrnlLate = [] ∧ s.hfe.ctx = []) ∧ s.mediaIdle) ∧
    (∃ (s : State) (m : Nat), s.reaches m MED_UCMD.OP.addr) ∧
    (∃ (s : State) (m : Nat) (x : UState), s.reaches m MED_UCMD.OP.addr ∧ s.on MED_CTRL.LAYOUT = false ∧ UState.ofCode (s.fld MED_UDATA.RECORD / 2 ^ 29) = some x) ∧
    (∃ (s : State) (m : Nat), s.reaches m MED_UCMD.OP.addr ∧ (s.on MED_CTRL.LAYOUT = true ∨ UState.ofCode (s.fld MED_UDATA.RECORD / 2 ^ 29) = none)) ∧
    (∃ (s : State) (m : Nat), s.reaches m MED_RCPDATA.STEPWORD.addr ∧ s.on MED_CTRL.KILN_EN = false) ∧
    (∃ (s : State) (m : Nat), s.reaches m MED_RCPDATA.STEPWORD.addr ∧ s.on MED_CTRL.KILN_EN = true) ∧
    (∃ (s : State) (m : Nat) (v : Nat), s.reaches m MED_MIGR.OP.addr ∧ MED_MIGR.OP.of v = 1 ∧ (s.zone (MED_MIGR.INDEX.of v)).migratable = false) ∧
    (∃ (s : State) (m : Nat) (v : Nat) (i : _), s.reaches m MED_MIGR.OP.addr ∧ i = MED_MIGR.INDEX.of v ∧ MED_MIGR.OP.of v = 1 ∧ (s.zone i).migratable = true ∧ (s.zone i).hasrow = true ∧ s.med.migrWait = [] ∧ (s.med.migr.any fun x => x.index == i) = false ∧ (s.migrRoom i = false ∨ s.chooseRun (s.groupSets (s.fld (ZPM_SSET.PGRP (s.zone i).sset))) ((s.zone i).rspan + 1) = none)) ∧
    (∃ (s : State) (m : Nat) (v : Nat) (i : _) (x : Nat) (r : Nat), s.reaches m MED_MIGR.OP.addr ∧ i = MED_MIGR.INDEX.of v ∧ MED_MIGR.OP.of v = 1 ∧ (s.zone i).migratable = true ∧ (s.zone i).hasrow = true ∧ s.med.migrWait = [] ∧ (s.med.migr.any fun x => x.index == i) = false ∧ s.migrRoom i = true ∧ s.chooseRun (s.groupSets (s.fld (ZPM_SSET.PGRP (s.zone i).sset))) ((s.zone i).rspan + 1) = some (x, r)) ∧
    (∃ (s : State) (m : Nat) (v : Nat), s.reaches m MED_MIGR.OP.addr ∧ MED_MIGR.OP.of v ≠ 1) ∧
    (∃ (s : State), 15 ≤ s.fld SYS_BOOTPHASE.STEP ∧ s.hld.committed = false) ∧
    (∃ (s : State), (s.fld SYS_BOOTPHASE.STEP < 15 ∨ s.hld.committed = true)) :=
  ⟨⟨sysUnitsAll.modMgt fun m => { m with dict := [(dictKey 0x3200 0, some (.num 0))] }, (sysUnitsAll.modMgt fun m => { m with dict := [(dictKey 0x3200 0, some (.num 0))] }).arrive (4) MED_CTRL.LAYOUT.addr, 4, (2 ^ MED_CTRL.LAYOUT.lo), reaches_of (by decide +kernel), rfl, by decide +kernel⟩,
   ⟨base, (base).arrive (4) MED_CTRL.LAYOUT.addr, 4, (2 ^ MED_CTRL.LAYOUT.lo), reaches_of (by decide +kernel), rfl, by decide +kernel⟩,
   ⟨laid base, (laid base).arrive (4) MED_CTRL.KILN_EN.addr, 4, 0, reaches_of (by decide +kernel), rfl, by decide +kernel⟩,
   ⟨(laid base).modMed fun m => { m with recipes := [] }, ((laid base).modMed fun m => { m with recipes := [] }).arrive (4) MED_CTRL.KILN_EN.addr, 4, (2 ^ MED_CTRL.KILN_EN.lo), reaches_of (by decide +kernel), rfl, by decide +kernel⟩,
   ⟨laid base, (laid base).arrive (4) MED_CTRL.KILN_EN.addr, 4, (2 ^ MED_CTRL.KILN_EN.lo), reaches_of (by decide +kernel), rfl, by decide +kernel⟩,
   ⟨base, 4, (2 ^ MED_CTRL.MAPFLUSH.lo), reaches_of (by decide +kernel), by decide +kernel⟩,
   ⟨base, 4, (2 ^ MED_CTRL.MAPFLUSH.lo), ((base).med.mapCache.filter fun x => x.dirty && decide (x.page < 2 ^ 56)).map (·.page), reaches_of (by decide +kernel), by decide +kernel, rfl, by decide +kernel⟩,
   ⟨base, by decide +kernel⟩,
   ⟨base.modHld fun h => { h with committed := true }, by decide +kernel⟩,
   ⟨base.modMed fun m => { m with flushMark := some 0 }, 0, by decide +kernel, mediaIdle_of (by decide +kernel)⟩,
   ⟨base, 4, reaches_of (by decide +kernel)⟩,
   ⟨fields [(MED_UDATA.RECORD, 6 * 2 ^ 29)] base, 4, .test, reaches_of (by decide +kernel), by decide +kernel⟩,
   ⟨laid base, 4, reaches_of (by decide +kernel), by decide +kernel⟩,
   ⟨base, 4, reaches_of (by decide +kernel), by decide +kernel⟩,
   ⟨fields [(MED_CTRL.KILN_EN, 1)] base, 4, reaches_of (by decide +kernel), by decide +kernel⟩,
   ⟨base, 4, (2 ^ MED_MIGR.OP.lo + 65535 * 2 ^ MED_MIGR.INDEX.lo), reaches_of (by decide +kernel), by decide +kernel⟩,
   ⟨zrow { kind := 1, state := .full, hasrow := true } base, 4, (2 ^ MED_MIGR.OP.lo + 65535 * 2 ^ MED_MIGR.INDEX.lo), MED_MIGR.INDEX.of ((2 ^ MED_MIGR.OP.lo + 65535 * 2 ^ MED_MIGR.INDEX.lo)), reaches_of (by decide +kernel), rfl, by decide +kernel⟩,
   ⟨twoSets { kind := 1, state := .full, hasrow := true, sset := 4095 }, 4, (2 ^ MED_MIGR.OP.lo + 65535 * 2 ^ MED_MIGR.INDEX.lo), MED_MIGR.INDEX.of ((2 ^ MED_MIGR.OP.lo + 65535 * 2 ^ MED_MIGR.INDEX.lo)), 0, 0, reaches_of (by decide +kernel), rfl, by decide +kernel⟩,
   ⟨base, 4, 0, reaches_of (by decide +kernel), by decide +kernel⟩,
   ⟨boot 15 base, by decide +kernel⟩,
   ⟨base, by decide +kernel⟩⟩

/-- ChannelGroupsFollowTheirStates: a state and operands that meet the hypotheses of each clause. -/
theorem witness_ChannelGroupsFollowTheirStates :
    (∃ (s : State) (m : Nat) (g : Nat), g < 16 ∧ s.reaches m (fchPage g + 4) ∧ s.grp g = grpOff ∧ s.bell.puActive = false) ∧
    (∃ (s : State) (m : Nat) (g : Nat), g < 16 ∧ s.reaches m (fchPage g + 4) ∧ s.grp g = grpOff ∧ s.bell.puActive = true) ∧
    (∃ (s : State) (m : Nat) (g : Nat), g < 16 ∧ s.reaches m (fchPage g + 4) ∧ s.grp g ≠ grpOff) ∧
    (∃ (s : State) (m : Nat) (g : Nat), g < 16 ∧ s.reaches m (fchPage g + 4) ∧ ((s.grp g = grpPowering ∨ (s.grp g = grpUntrained ∨ s.grp g = grpReady) ∧ s.groupIdle g = true))) ∧
    (∃ (s : State) (m : Nat) (g : Nat), g < 16 ∧ s.reaches m (fchPage g + 4) ∧ s.grp g = grpFault) ∧
    (∃ (s : State) (m : Nat) (g : Nat), g < 16 ∧ s.reaches m (fchPage g + 4) ∧ ((s.grp g = grpOff ∨ (s.grp g = grpUntrained ∨ s.grp g = grpReady) ∧ s.groupIdle g = false))) ∧
    (∃ (s : State) (m : Nat) (g : Nat), g < 16 ∧ s.reaches m (fchPage g + 4) ∧ s.grp g = grpUntrained ∧ (s.arrive m (fchPage g + 4)).allCalibrated g = true) ∧
    (∃ (s : State) (m : Nat) (g : Nat), g < 16 ∧ s.reaches m (fchPage g + 4) ∧ (s.grp g ≠ grpUntrained ∨ (s.arrive m (fchPage g + 4)).allCalibrated g = false)) ∧
    (∃ (s : State) (g : Nat) (band : Nat), g < 16 ∧ band < 4 ∧ (s.grp g ≠ grpPowering ∨ Tab.get 0 s.fch.resetWait g ≠ 0)) ∧
    (∃ (s : State) (g : Nat) (band : Nat), g < 16 ∧ band < 4 ∧ s.grp g = grpPowering ∧ Tab.get 0 s.fch.resetWait g = 0 ∧ s.ctl.recLoaded = true ∧ band ≠ s.grpBand g) ∧
    (∃ (s : State) (g : Nat) (band : Nat), g < 16 ∧ band < 4 ∧ s.grp g = grpPowering ∧ Tab.get 0 s.fch.resetWait g = 0 ∧ s.ctl.recLoaded = true ∧ band = s.grpBand g) ∧
    (∃ (s : State) (g : Nat) (band : Nat) (onfi : Bool) (jedec : Bool), g < 16 ∧ band < 4 ∧ s.grp g = grpPowering ∧ Tab.get 0 s.fch.resetWait g = 0 ∧ s.ctl.recLoaded = false ∧ band < 3 ∧ (onfi || jedec)) ∧
    (∃ (s : State) (g : Nat) (band : Nat), g < 16 ∧ band < 4 ∧ s.grp g = grpPowering ∧ Tab.get 0 s.fch.resetWait g = 0 ∧ s.ctl.recLoaded = false ∧ band = 3) ∧
    (∃ (s : State) (g : Nat) (band : Nat), g < 16 ∧ band < 4 ∧ s.grp g = grpPowering ∧ Tab.get 0 s.fch.resetWait g = 0 ∧ s.ctl.recLoaded = false ∧ band < 3) ∧
    (∃ (s : State) (g : Nat), g < 16 ∧ s.resetIssued g = false) ∧
    (∃ (s : State) (g : Nat), g < 16 ∧ s.resetIssued g = true) ∧
    (∃ (s : State) (g : Nat), g < 16 ∧ (s.grp g = grpUntrained ∨ s.grp g = grpReady)) ∧
    (∃ (s : State) (g : Nat), g < 16 ∧ s.grp g ≠ grpUntrained ∧ s.grp g ≠ grpReady) :=
  ⟨⟨base.modBell fun b => { b with puActive := false }, 4, 15, by decide +kernel, reaches_of (by decide +kernel), by decide +kernel⟩,
   ⟨base, 4, 15, by decide +kernel, reaches_of (by decide +kernel), by decide +kernel⟩,
   ⟨grpAt 15 1 base, 4, 15, by decide +kernel, reaches_of (by decide +kernel), by decide +kernel⟩,
   ⟨grpAt 15 1 base, 4, 15, by decide +kernel, reaches_of (by decide +kernel), by decide +kernel⟩,
   ⟨grpAt 15 4 base, 4, 15, by decide +kernel, reaches_of (by decide +kernel), by decide +kernel⟩,
   ⟨base, 4, 15, by decide +kernel, reaches_of (by decide +kernel), by decide +kernel⟩,
   ⟨fields [(FCH_GCFG.POP 15, 0)] ((grpAt 15 2 base).modCtl fun c => { c with recLoaded := true }), 4, 15, by decide +kernel, reaches_of (by decide +kernel), by decide +kernel⟩,
   ⟨base, 4, 15, by decide +kernel, reaches_of (by decide +kernel), by decide +kernel⟩,
   ⟨base, 15, 3, by decide +kernel⟩,
   ⟨(grpAt 15 1 base).modCtl fun c => { c with recLoaded := true }, 15, 3, by decide +kernel⟩,
   ⟨(grpAt 15 1 base).modCtl fun c => { c with recLoaded := true }, 15, 0, by decide +kernel⟩,
   ⟨grpAt 15 1 base, 15, 2, true, false, by decide +kernel⟩,
   ⟨grpAt 15 1 base, 15, 3, by decide +kernel⟩,
   ⟨grpAt 15 1 base, 15, 2, by decide +kernel⟩,
   ⟨base, 15, by decide +kernel⟩,
   ⟨(grpAt 15 1 base).modFch fun f => { f with resetWait := [(15, 1)], resetOn := [(15 * 128, 11)] }, 15, by decide +kernel⟩,
   ⟨grpAt 15 2 base, 15, by decide +kernel⟩,
   ⟨base, 15, by decide +kernel⟩⟩

/-- GroupRegistersTakeTheirWrites: a state and operands that meet the hypotheses of each clause. -/
theorem witness_GroupRegistersTakeTheirWrites :
    (∃ (s : State) (m : Nat) (g : Nat) (k : Nat) (v : Nat), g < 16 ∧ k < 2 ∧ ((∀ j w, j < 2 → w < 2 → s.reaches m (fchPage g + 0x10 + 8 * j + 4 * w))) ∧ timingOk (slice v 28 4) (s.bandNow g) (slice v 0 12) (slice v 24 4) = true ∧ (s.grp g = grpOff ∨ s.grp g = grpUntrained)) ∧
    (∃ (s : State) (m : Nat) (g : Nat) (k : Nat) (v : Nat), g < 16 ∧ k < 2 ∧ ((∀ j w, j < 2 → w < 2 → s.reaches m (fchPage g + 0x10 + 8 * j + 4 * w))) ∧ (timingOk (slice v 28 4) (s.bandNow g) (slice v 0 12) (slice v 24 4) = false ∨ s.grp g ≠ grpOff ∧ s.grp g ≠ grpUntrained)) ∧
    (∃ (s : State) (m : Nat) (g : Nat) (k : Nat) (v : Nat), g < 16 ∧ k < 2 ∧ ((∀ j w, j < 2 → w < 2 → s.reaches m (fchPage g + 0x10 + 8 * j + 4 * w))) ∧ timingOk (slice v 28 4) (s.bandNow g) (slice v 0 12) (slice v 24 4) = true ∧ slice v 28 4 = s.fld (FCH_TSETW0.INTF g 0) ∧ slice v 0 12 ≤ s.fld (FCH_TSETW0.RATE g 0)) ∧
    (∃ (s : State) (m : Nat) (g : Nat) (k : Nat) (v : Nat), g < 16 ∧ k < 2 ∧ ((∀ j w, j < 2 → w < 2 → s.reaches m (fchPage g + 0x10 + 8 * j + 4 * w))) ∧ (timingOk (slice v 28 4) (s.bandNow g) (slice v 0 12) (slice v 24 4) = false ∨ slice v 28 4 ≠ s.fld (FCH_TSETW0.INTF g 0) ∨ s.fld (FCH_TSETW0.RATE g 0) < slice v 0 12)) ∧
    (∃ (s : State) (m : Nat) (g : Nat) (k : Nat), g < 16 ∧ k < 2 ∧ ((∀ j w, j < 2 → w < 2 → s.reaches m (fchPage g + 0x10 + 8 * j + 4 * w))) ∧ (s.grp g = grpOff ∨ s.grp g = grpUntrained ∨ k = 1 ∧ s.on (FCH_GSTAT.SET g) = false)) ∧
    (∃ (s : State) (m : Nat) (g : Nat) (k : Nat), g < 16 ∧ k < 2 ∧ ((∀ j w, j < 2 → w < 2 → s.reaches m (fchPage g + 0x10 + 8 * j + 4 * w))) ∧ s.grp g ≠ grpOff ∧ s.grp g ≠ grpUntrained ∧ (k = 0 ∨ s.on (FCH_GSTAT.SET g) = true)) ∧
    (∃ (s : State) (m : Nat) (g : Nat) (i : Nat), g < 16 ∧ i < 4 ∧ s.reaches m (fchPage g + 0x40 + 4 * i)) ∧
    (∃ (s : State) (m : Nat) (g : Nat) (k : Nat) (d : Nat) (w : Nat), (g < 16 ∧ k < 8 ∧ d < 16 ∧ w < 4) ∧ s.reaches m (fchPage g + 0x1000 + 0x100 * k + 0x10 * d + 4 * w) ∧ s.grp g = grpUntrained) ∧
    (∃ (s : State) (m : Nat) (g : Nat) (k : Nat) (d : Nat) (w : Nat), (g < 16 ∧ k < 8 ∧ d < 16 ∧ w < 4) ∧ s.reaches m (fchPage g + 0x1000 + 0x100 * k + 0x10 * d + 4 * w) ∧ s.grp g ≠ grpUntrained) :=
  ⟨⟨fields [(FCH_GSTAT.BANDSEEN 15, 0)] base, 4, 15, 1, (3 * 2 ^ 28 + 3600), by decide +kernel, by decide +kernel, reachGrid_of (by decide +kernel), by decide +kernel⟩,
   ⟨fields [(FCH_GSTAT.BANDSEEN 15, 0)] base, 4, 15, 1, (3 * 2 ^ 28 + 3601), by decide +kernel, by decide +kernel, reachGrid_of (by decide +kernel), by decide +kernel⟩,
   ⟨fields [(FCH_GSTAT.BANDSEEN 15, 0)] (fields [(FCH_TSETW0.INTF 15 0, 3), (FCH_TSETW0.RATE 15 0, 3600)] base), 4, 15, 1, (3 * 2 ^ 28 + 3600), by decide +kernel, by decide +kernel, reachGrid_of (by decide +kernel), by decide +kernel⟩,
   ⟨fields [(FCH_GSTAT.BANDSEEN 15, 0)] base, 4, 15, 1, (3 * 2 ^ 28 + 3600), by decide +kernel, by decide +kernel, reachGrid_of (by decide +kernel), by decide +kernel⟩,
   ⟨fields [(FCH_GSTAT.BANDSEEN 15, 0)] base, 4, 15, 1, by decide +kernel, by decide +kernel, reachGrid_of (by decide +kernel), by decide +kernel⟩,
   ⟨fields [(FCH_GSTAT.BANDSEEN 15, 0)] (grpAt 15 3 base), 4, 15, 0, by decide +kernel, by decide +kernel, reachGrid_of (by decide +kernel), by decide +kernel⟩,
   ⟨base, 0, 15, 3, by decide +kernel, by decide +kernel, reaches_of (by decide +kernel)⟩,
   ⟨fields [(FCH_GSTAT.BANDSEEN 15, 0)] (grpAt 15 2 base), 4, 15, 7, 15, 3, by decide +kernel, reaches_of (by decide +kernel), by decide +kernel⟩,
   ⟨base, 0, 15, 7, 15, 0, by decide +kernel, reaches_of (by decide +kernel), by decide +kernel⟩⟩

/-- DescriptorsEnterAndLeaveTheirQueues: a state and operands that meet the hypotheses of each clause. -/
theorem witness_DescriptorsEnterAndLeaveTheirQueues :
    (∃ (s : State) (m : Nat) (e : Nat) (v : Nat) (c : Nat) (d : Desc), e < 128 ∧ s.reaches m (drfPage e + 0x20) ∧ c = slice v 30 2 ∧ d = descOf ((List.range 16).map fun i => s.word (dpSram + slice v 6 16 * 64 + 4 * i)) ∧ s.qFull e c = true) ∧
    (∃ (s : State) (m : Nat) (e : Nat) (v : Nat) (c : Nat) (d : Desc), e < 128 ∧ s.reaches m (drfPage e + 0x20) ∧ c = slice v 30 2 ∧ d = descOf ((List.range 16).map fun i => s.word (dpSram + slice v 6 16 * 64 + 4 * i)) ∧ s.qFull e c = false) ∧
    (∃ (s : State) (e : Nat), takeRoom (fun c => s.qFull e c) (s.engine e).hwq = none) ∧
    (∃ (s : State) (e : Nat) (c : Nat) (d : Desc) (l : List (Nat × Desc)), takeRoom (fun c => s.qFull e c) (s.engine e).hwq = some ((c, d), l)) ∧
    (∃ (s : State) (e : Nat) (c : Nat) (i : Nat), (s.queue e c)[i]? = none) ∧
    (∃ (s : State) (e : Nat) (c : Nat) (i : Nat) (d : Desc), ((s.queue e c)[i]? = some d ∧ d.owner = 0 ∧ d.work = .none) ∧ s.ringReady e ∧ (s.ctxOf e (d.die * 2)).tailHeld = none) ∧
    (∃ (s : State) (e : Nat) (c : Nat) (d : Desc), s.queue e c = [d] ∧ (d.maxwait = 0 ∨ d.heldFrames ≤ d.maxwait ∨ s.check e c d ≠ .held)) ∧
    (∃ (s : State) (e : Nat) (c : Nat) (d : Desc), (s.queue e c = [d] ∧ d.maxwait ≠ 0 ∧ d.maxwait < d.heldFrames ∧ s.check e c d = .held ∧ d.owner = 0 ∧ d.work = .none) ∧ s.ringReady e) ∧
    (∃ (s : State) (m : Nat) (e : Nat), e < 128 ∧ s.reaches m (drfPage e + 0x14) ∧ (s.engine e).heldRecs = []) ∧
    (∃ (s : State) (m : Nat) (e : Nat) (v : Nat) (h : Held), e < 128 ∧ s.reaches m (drfPage e + 0x14) ∧ (s.engine e).heldRecs = [h] ∧ (s.fld (DRF_CQPTR.WIDX e) + 1) % 2 ^ s.fld (DRF_CQBASE.LOG2 e) ≠ v % 1024 % 2 ^ s.fld (DRF_CQBASE.LOG2 e)) :=
  ⟨⟨fields [(DRF_QCFG.MAINT 127, 0)] (quOf 127 3 {} (flashUp base)), 4, 127, 2 ^ 32 - 1, 3, descOf ((List.range 16).map fun i => (fields [(DRF_QCFG.MAINT 127, 0)] (quOf 127 3 {} (flashUp base))).word (dpSram + slice (2 ^ 32 - 1) 6 16 * 64 + 4 * i)), by decide +kernel, reaches_of (by decide +kernel), by decide +kernel, rfl, by decide +kernel⟩,
   ⟨flashUp base, 4, 127, 2 ^ 32 - 1, 3, descOf ((List.range 16).map fun i => (flashUp base).word (dpSram + slice (2 ^ 32 - 1) 6 16 * 64 + 4 * i)), by decide +kernel, reaches_of (by decide +kernel), by decide +kernel, rfl, by decide +kernel⟩,
   ⟨base, 127, by decide +kernel⟩,
   ⟨(flashUp base).modEng 127 fun g => { g with hwq := [(3, {})] }, 127, 3, ((flashUp base).modEng 127 fun g => { g with hwq := [(3, {})] }).queue 127 3 |>.headD {}, [], by decide +kernel⟩,
   ⟨base, 127, 0, 7, by decide +kernel⟩,
   ⟨queued 3 (dsc 4), 127, 3, 0, dsc 4, by decide +kernel, ringReady_of (by decide +kernel), by decide +kernel⟩,
   ⟨fields [(DRF_QCFG.MAINT 127, 0)] (quOf 127 3 {} (flashUp base)), 127, 3, (fields [(DRF_QCFG.MAINT 127, 0)] (quOf 127 3 {} (flashUp base))).queue 127 3 |>.headD {}, by decide +kernel⟩,
   ⟨fields [(BEL_ACCT.ACCOUNT, 65535)] (queued 3 { dsc 4 with maxwait := 255, heldFrames := 256 }), 127, 3, ({ dsc 4 with maxwait := 255, heldFrames := 256 } : Desc), by decide +kernel, ringReady_of (by decide +kernel)⟩,
   ⟨base, 0, 127, by decide +kernel, reaches_of (by decide +kernel), by decide +kernel⟩,
   ⟨(flashUp base).modEng 127 fun g => { g with heldRecs := [{}] }, 4, 127, 0, {}, by decide +kernel, reaches_of (by decide +kernel), by decide +kernel⟩⟩

/-- DescriptorsStartInTheirTurn: a state and operands that meet the hypotheses of each clause. -/
theorem witness_DescriptorsStartInTheirTurn :
    (∃ (s : State) (e : Nat) (c : Nat) (d : Desc), s.turnOf e c d ∧ s.act e d.die = .free ∧ d.op = 1) ∧
    (∃ (s : State) (e : Nat) (c : Nat) (d : Desc), s.turnOf e c d ∧ s.act e d.die = .free ∧ d.op = 2) ∧
    (∃ (s : State) (e : Nat) (c : Nat) (d : Desc), s.turnOf e c d ∧ s.act e d.die = .free ∧ d.op = 3) ∧
    (∃ (s : State) (e : Nat) (c : Nat) (d : Desc), s.turnOf e c d ∧ s.act e d.die = .free ∧ d.op = 4) ∧
    (∃ (s : State) (e : Nat) (c : Nat) (d : Desc), s.turnOf e c d ∧ s.act e d.die = .free ∧ d.op = 10 ∧ libRoutines.contains (d.arg0 % 256) = true ∧ ((18 ≤ d.arg0 % 256 ∧ d.arg0 % 256 ≤ 21 → c = clsMaint))) ∧
    (∃ (s : State) (e : Nat) (c : Nat) (d : Desc), s.turnOf e c d ∧ s.act e d.die = .free ∧ d.op = 11 ∧ d.arg0 % 4 = 0) ∧
    (∃ (s : State) (e : Nat) (c : Nat) (d : Desc), s.turnOf e c d ∧ s.act e d.die = .free ∧ d.op = 11 ∧ d.arg0 % 4 ≠ 0 ∧ d.die < 16 ∧ s.on (DRF_FAULT.VALID e) = false ∧ d.owner = 0 ∧ d.work = .none) ∧
    (∃ (s : State) (e : Nat) (d : Desc), s.turnOf e clsMaint d ∧ d.op = 5) ∧
    (∃ (s : State) (e : Nat) (d : Desc), s.turnOf e clsMaint d ∧ d.op = 6) ∧
    (∃ (s : State) (e : Nat) (d : Desc), s.turnOf e clsMaint d ∧ d.op = 7) ∧
    (∃ (s : State) (e : Nat) (d : Desc), s.turnOf e clsMaint d ∧ d.op = 8) ∧
    (∃ (s : State) (e : Nat) (d : Desc) (ready : Bool), s.turnOf e clsMaint d ∧ d.op = 9 ∧ s.trainFails e d ready = 0) ∧
    (∃ (s : State) (e : Nat) (d : Desc) (ready : Bool), s.turnOf e clsMaint d ∧ (d.op = 9 ∧ s.trainFails e d ready ≠ 0 ∧ d.owner = 0 ∧ d.work = .none) ∧ s.ringReady e) ∧
    (∃ (s : State) (e : Nat) (c : Nat) (d : Desc), s.checks e c d .waits ∧ d.op = 2) ∧
    (∃ (s : State) (e : Nat) (c : Nat) (d : Desc) (k : Chk) (r : Nat × Nat), s.checks e c d k ∧ d.owner = 0 ∧ d.work = .none ∧ s.ringReady e ∧ (s.ctxOf e (d.die * 2)).tailHeld = none ∧ ((k = .invalid ∧ r = (csAborted, 0xFFFF) ∨ k = .fenced ∧ r = (csFenced, 0) ∨ k = .dead ∧ r = (csTimeout, 0) ∨ k = .busy ∧ r = (csBusy, s.busyUs e d.die))) ∧ (d.op = 1 ∨ k = .invalid ∧ (d.op = 0 ∨ 11 < d.op))) :=
  ⟨⟨queued 3 (dsc 1), 127, 3, dsc 1, turnOf_of (by decide +kernel), by decide +kernel⟩,
   ⟨queued 3 (dsc 2), 127, 3, dsc 2, turnOf_of (by decide +kernel), by decide +kernel⟩,
   ⟨queued 3 (dsc 3), 127, 3, dsc 3, turnOf_of (by decide +kernel), by decide +kernel⟩,
   ⟨queued 3 (dsc 4), 127, 3, dsc 4, turnOf_of (by decide +kernel), by decide +kernel⟩,
   ⟨queued 3 (dsc 10), 127, 3, dsc 10, turnOf_of (by decide +kernel), by decide +kernel⟩,
   ⟨queued 3 (dsc 11), 127, 3, dsc 11, turnOf_of (by decide +kernel), by decide +kernel⟩,
   ⟨queued 3 { dsc 11 with arg0 := 3 }, 127, 3, ({ dsc 11 with arg0 := 3 } : Desc), turnOf_of (by decide +kernel), by decide +kernel⟩,
   ⟨queued 3 (dsc 5), 127, dsc 5, turnOf_of (by decide +kernel), by decide +kernel⟩,
   ⟨queued 3 (dsc 6), 127, dsc 6, turnOf_of (by decide +kernel), by decide +kernel⟩,
   ⟨queued 3 (dsc 7), 127, dsc 7, turnOf_of (by decide +kernel), by decide +kernel⟩,
   ⟨queued 3 (dsc 8), 127, dsc 8, turnOf_of (by decide +kernel), by decide +kernel⟩,
   ⟨queued 3 (dsc 9), 127, dsc 9, true, turnOf_of (by decide +kernel), by decide +kernel⟩,
   ⟨queued 3 (dsc 9), 127, dsc 9, false, turnOf_of (by decide +kernel), by decide +kernel, ringReady_of (by decide +kernel)⟩,
   ⟨(grpAt 15 1 (queued 3 (dsc 2))), 127, 3, dsc 2, checks_of (by decide +kernel), by decide +kernel⟩,
   ⟨queued 3 { dsc 0 with owner := 0 }, 127, 3, ({ dsc 0 with owner := 0 } : Desc), .invalid, (csAborted, 0xFFFF), checks_of (by decide +kernel), by decide +kernel, by decide +kernel, ringReady_of (by decide +kernel), by decide +kernel⟩⟩

/-- DescriptorsRunToTheirEnd: a state and operands that meet the hypotheses of each clause. -/
theorem witness_DescriptorsRunToTheirEnd :
    (∃ (s : State) (e : Nat) (d : Nat), s.engState e ≠ engHalted ∧ s.act e d = .loaded ∧ (s.ctxOf e (d * 2)).live = true ∧ (s.ctxOf e (d * 2)).heldCmd = none ∧ s.hcMayStart (s.progMa e) = true ∧ s.paused e (s.ctxOf e (d * 2)).desc = false) ∧
    (∃ (s : State) (e : Nat) (d : Nat), s.engState e ≠ engHalted ∧ s.act e d = .loaded ∧ (s.ctxOf e (d * 2)).live = true ∧ (s.ctxOf e (d * 2)).heldCmd = none ∧ (s.hcMayStart (s.progMa e) = false ∨ s.paused e (s.ctxOf e (d * 2)).desc = true)) ∧
    (∃ (s : State) (e : Nat) (k : Nat) (st : Nat) (x : Desc), s.runsAlone e k x ∧ bit st 6 = true ∧ x.op = 4 ∧ s.act e x.die = .active) ∧
    (∃ (s : State) (e : Nat) (k : Nat) (st : Nat) (x : Desc), s.runsAlone e k x ∧ bit st 6 = true ∧ x.op = 2 ∧ x.planes = 1 ∧ bit st 0 = false ∧ s.act e x.die = .active) ∧
    (∃ (s : State) (e : Nat) (k : Nat) (st : Nat) (x : Desc), s.runsAlone e k x ∧ bit st 6 = true ∧ x.op = 1 ∧ x.raw = false ∧ (s.ctxOf e k).polls = 1 ∧ (s.ctxOf e k).ready = true ∧ (s.ctxOf e k).phase = 0 ∧ s.act e x.die = .reading) ∧
    (∃ (s : State) (e : Nat) (k : Nat) (st : Nat) (x : Desc), s.runsAlone e k x ∧ bit st 6 = true ∧ x.op = 6 ∧ s.act e x.die = .reading) ∧
    (∃ (s : State) (e : Nat) (k : Nat) (st : Nat) (x : Desc), s.runsAlone e k x ∧ bit st 6 = false ∧ x.op = 4 ∧ s.act e x.die = .active) ∧
    (∃ (s : State) (e : Nat) (k : Nat) (x : Desc), s.runsAlone e k x ∧ x.op = 4 ∧ s.act e x.die = .active) ∧
    (∃ (s : State) (e : Nat) (d : Nat), s.engState e ≠ engHalted ∧ s.maySuspend e d = true) ∧
    (∃ (s : State) (e : Nat) (d : Nat), s.maySuspend e d = false) ∧
    (∃ (s : State) (e : Nat) (d : Nat), s.act e d = .suspending) ∧
    (∃ (s : State) (e : Nat) (d : Nat), s.act e d ≠ .suspending) ∧
    (∃ (s : State) (m : Nat) (e : Nat), e < 128 ∧ s.reaches m (drfPage e) ∧ s.engState e = engStopped) ∧
    (∃ (s : State) (m : Nat) (e : Nat), e < 128 ∧ s.reaches m (drfPage e) ∧ (s.engState e = engFenced ∨ s.engState e = engHalted)) ∧
    (∃ (s : State) (m : Nat) (e : Nat), e < 128 ∧ s.reaches m (drfPage e) ∧ s.engState e = engRunning ∧ s.fld BEL_MODE_STAT.STATE = modeStable) ∧
    (∃ (s : State) (m : Nat) (e : Nat), e < 128 ∧ s.reaches m (drfPage e) ∧ s.engState e ≠ engRunning) ∧
    (∃ (s : State) (m : Nat) (e : Nat), e < 128 ∧ s.reaches m (drfPage e)) ∧
    (∃ (s : State) (m : Nat) (e : Nat), e < 128 ∧ (∀ off ∈ [0x08, 0x0C, 0x10, 0x114], s.reaches m (drfPage e + off)) ∧ s.engState e = engStopped ∧ s.queuesEmpty e = true) ∧
    (∃ (s : State) (m : Nat) (e : Nat) (v : Nat), e < 128 ∧ (∀ off ∈ [0x08, 0x0C, 0x10, 0x114], s.reaches m (drfPage e + off)) ∧ s.engState e = engStopped ∧ s.queuesEmpty e = true ∧ ((∀ c, c < 4 → 2 ≤ slice v (4 * c) 4 ∧ slice v (4 * c) 4 ≤ 8))) ∧
    (∃ (s : State) (m : Nat) (e : Nat) (v : Nat), e < 128 ∧ (∀ off ∈ [0x08, 0x0C, 0x10, 0x114], s.reaches m (drfPage e + off)) ∧ s.engState e = engStopped ∧ s.queuesEmpty e = true ∧ 4 ≤ v % 16 ∧ v % 16 ≤ 10) ∧
    (∃ (s : State) (m : Nat) (e : Nat) (off : _), off ∈ [0x08, 0x0C, 0x10, 0x114] ∧ e < 128 ∧ (∀ off ∈ [0x08, 0x0C, 0x10, 0x114], s.reaches m (drfPage e + off)) ∧ (s.engState e ≠ engStopped ∨ s.queuesEmpty e = false)) :=
  ⟨⟨runs (dsc 2) .loaded, 127, 15, by decide +kernel⟩,
   ⟨fields [(BEL_ACCT.ACCOUNT, 65535)] (runs (dsc 2) .loaded), 127, 15, by decide +kernel⟩,
   ⟨runs (dsc 4) .active, 127, 30, 64, dsc 4, runsAlone_of (by decide +kernel), by decide +kernel⟩,
   ⟨runs { dsc 2 with owner := 0 } .active, 127, 30, 64, ({ dsc 2 with owner := 0 } : Desc), runsAlone_of (by decide +kernel), by decide +kernel⟩,
   ⟨runs { dsc 1 with owner := 0 } .reading, 127, 30, 64, ({ dsc 1 with owner := 0 } : Desc), runsAlone_of (by decide +kernel), by decide +kernel⟩,
   ⟨runs (dsc 6) .reading, 127, 30, 64, dsc 6, runsAlone_of (by decide +kernel), by decide +kernel⟩,
   ⟨runs (dsc 4) .active, 127, 30, 0, dsc 4, runsAlone_of (by decide +kernel), by decide +kernel⟩,
   ⟨runs (dsc 4) .active, 127, 30, dsc 4, runsAlone_of (by decide +kernel), by decide +kernel⟩,
   ⟨(quOf 127 0 { dsc 1 with owner := 4 } (runs (dsc 4) .active)).modMgt fun m => { m with dict := [(dictKey 0x322F 6, some (.num 1))] }, 127, 15, by decide +kernel⟩,
   ⟨flashUp base, 127, 15, by decide +kernel⟩,
   ⟨runs (dsc 4) .suspending, 127, 15, by decide +kernel⟩,
   ⟨flashUp base, 127, 15, by decide +kernel⟩,
   ⟨base, 4, 127, by decide +kernel, reaches_of (by decide +kernel), by decide +kernel⟩,
   ⟨fields [(DRF_STAT.STATE 127, 2)] base, 4, 127, by decide +kernel, reaches_of (by decide +kernel), by decide +kernel⟩,
   ⟨flashUp base, 4, 127, by decide +kernel, reaches_of (by decide +kernel), by decide +kernel⟩,
   ⟨base, 4, 127, by decide +kernel, reaches_of (by decide +kernel), by decide +kernel⟩,
   ⟨flashUp base, 4, 127, by decide +kernel, reaches_of (by decide +kernel)⟩,
   ⟨base, 4, 127, by decide +kernel, reachAll_of (by decide +kernel), by decide +kernel⟩,
   ⟨base, 4, 127, 0x8888, by decide +kernel, reachAll_of (by decide +kernel), by decide +kernel⟩,
   ⟨base, 4, 127, 0x8888, by decide +kernel, reachAll_of (by decide +kernel), by decide +kernel⟩,
   ⟨flashUp base, 4, 127, 0x114, by decide +kernel, by decide +kernel, reachAll_of (by decide +kernel), by decide +kernel⟩⟩

/-- MicroInstructionsCompute: a state and operands that meet the hypotheses of each clause. -/
theorem witness_MicroInstructionsCompute :
    (∃ (s : State) (e : Nat) (k : Nat) (rd : Nat) (ra : Nat) (b : Nat) (v : Nat) (h : Bool) (imm : Bool) (pc : Nat) (x : Nat) (y : Nat), rd < 8 ∧ pc = ((s.ctxOf e k).pc + 1) % 2 ^ 13 ∧ x = (s.ctxOf e k).reg ra ∧ y = (if imm then b % 2 ^ 16 else (s.ctxOf e k).reg b) ∧ s.fetches e k (.ldi rd h v)) ∧
    (∃ (s : State) (e : Nat) (k : Nat) (rd : Nat) (ra : Nat) (b : Nat) (imm : Bool) (pc : Nat) (x : Nat) (y : Nat), rd < 8 ∧ pc = ((s.ctxOf e k).pc + 1) % 2 ^ 13 ∧ x = (s.ctxOf e k).reg ra ∧ y = (if imm then b % 2 ^ 16 else (s.ctxOf e k).reg b) ∧ s.fetches e k (.alu 0 rd ra imm b)) ∧
    (∃ (s : State) (e : Nat) (k : Nat) (rd : Nat) (ra : Nat) (b : Nat) (imm : Bool) (pc : Nat) (x : Nat) (y : Nat), rd < 8 ∧ pc = ((s.ctxOf e k).pc + 1) % 2 ^ 13 ∧ x = (s.ctxOf e k).reg ra ∧ y = (if imm then b % 2 ^ 16 else (s.ctxOf e k).reg b) ∧ s.fetches e k (.alu 1 rd ra imm b)) ∧
    (∃ (s : State) (e : Nat) (k : Nat) (rd : Nat) (ra : Nat) (b : Nat) (imm : Bool) (pc : Nat) (x : Nat) (y : Nat), rd < 8 ∧ pc = ((s.ctxOf e k).pc + 1) % 2 ^ 13 ∧ x = (s.ctxOf e k).reg ra ∧ y = (if imm then b % 2 ^ 16 else (s.ctxOf e k).reg b) ∧ s.fetches e k (.alu 2 rd ra imm b)) ∧
    (∃ (s : State) (e : Nat) (k : Nat) (rd : Nat) (ra : Nat) (b : Nat) (imm : Bool) (pc : Nat) (x : Nat) (y : Nat), rd < 8 ∧ pc = ((s.ctxOf e k).pc + 1) % 2 ^ 13 ∧ x = (s.ctxOf e k).reg ra ∧ y = (if imm then b % 2 ^ 16 else (s.ctxOf e k).reg b) ∧ s.fetches e k (.alu 3 rd ra imm b)) ∧
    (∃ (s : State) (e : Nat) (k : Nat) (rd : Nat) (ra : Nat) (b : Nat) (imm : Bool) (pc : Nat) (x : Nat) (y : Nat), rd < 8 ∧ pc = ((s.ctxOf e k).pc + 1) % 2 ^ 13 ∧ x = (s.ctxOf e k).reg ra ∧ y = (if imm then b % 2 ^ 16 else (s.ctxOf e k).reg b) ∧ s.fetches e k (.alu 4 rd ra imm b)) ∧
    (∃ (s : State) (e : Nat) (k : Nat) (rd : Nat) (ra : Nat) (b : Nat) (imm : Bool) (pc : Nat) (x : Nat) (y : Nat), rd < 8 ∧ pc = ((s.ctxOf e k).pc + 1) % 2 ^ 13 ∧ x = (s.ctxOf e k).reg ra ∧ y = (if imm then b % 2 ^ 16 else (s.ctxOf e k).reg b) ∧ s.fetches e k (.alu 5 rd ra imm b)) ∧
    (∃ (s : State) (e : Nat) (k : Nat) (rd : Nat) (ra : Nat) (b : Nat) (off : Nat) (imm : Bool) (pc : Nat) (x : Nat) (y : Nat), rd < 8 ∧ pc = ((s.ctxOf e k).pc + 1) % 2 ^ 13 ∧ x = (s.ctxOf e k).reg ra ∧ y = (if imm then b % 2 ^ 16 else (s.ctxOf e k).reg b) ∧ s.fetches e k (.ldd rd ra off) ∧ badLocal ((s.ctxOf e k).localAddr ra off) = false) ∧
    (∃ (s : State) (e : Nat) (k : Nat) (rd : Nat) (ra : Nat) (b : Nat) (off : Nat) (imm : Bool) (pc : Nat) (x : Nat) (y : Nat), rd < 8 ∧ pc = ((s.ctxOf e k).pc + 1) % 2 ^ 13 ∧ x = (s.ctxOf e k).reg ra ∧ y = (if imm then b % 2 ^ 16 else (s.ctxOf e k).reg b) ∧ s.fetches e k (.std rd ra off) ∧ badLocal ((s.ctxOf e k).localAddr ra off) = false ∧ 0x100 ≤ (s.ctxOf e k).localAddr ra off) ∧
    (∃ (s : State) (e : Nat) (k : Nat) (rd : Nat) (ra : Nat) (b : Nat) (off : Nat) (imm : Bool) (pc : Nat) (x : Nat) (y : Nat), rd < 8 ∧ pc = ((s.ctxOf e k).pc + 1) % 2 ^ 13 ∧ x = (s.ctxOf e k).reg ra ∧ y = (if imm then b % 2 ^ 16 else (s.ctxOf e k).reg b) ∧ (s.ctxOf e k).desc.work = .none ∧ badLocal ((s.ctxOf e k).localAddr ra off) = true ∧ s.fetches e k (.ldd rd ra off)) ∧
    (∃ (s : State) (e : Nat) (k : Nat) (rd : Nat) (ra : Nat) (b : Nat) (off : Nat) (imm : Bool) (pc : Nat) (x : Nat) (y : Nat), rd < 8 ∧ pc = ((s.ctxOf e k).pc + 1) % 2 ^ 13 ∧ x = (s.ctxOf e k).reg ra ∧ y = (if imm then b % 2 ^ 16 else (s.ctxOf e k).reg b) ∧ (s.ctxOf e k).desc.work = .none ∧ badLocal ((s.ctxOf e k).localAddr ra off) = true ∧ s.fetches e k (.std rd ra off)) ∧
    (∃ (s : State) (e : Nat) (k : Nat) (rd : Nat) (ra : Nat) (b : Nat) (off : Nat) (imm : Bool) (pc : Nat) (x : Nat) (y : Nat), rd < 8 ∧ pc = ((s.ctxOf e k).pc + 1) % 2 ^ 13 ∧ x = (s.ctxOf e k).reg ra ∧ y = (if imm then b % 2 ^ 16 else (s.ctxOf e k).reg b) ∧ ((s.ctxOf e k).desc.work = .none ∧ badLocal ((s.ctxOf e k).localAddr ra off) = false ∧ (s.ctxOf e k).localAddr ra off < 0x100) ∧ s.fetches e k (.std rd ra off)) ∧
    (∃ (s : State) (e : Nat) (k : Nat) (cond : Nat) (ra : Nat) (target : Nat) (b : Bool), s.fetches e k (.br cond ra target) ∧ s.branchHolds e (s.ctxOf e k) cond ra = some b ∧ ((5 ≤ cond → cond ≤ 7 → (s.ctxOf e k).wait = []))) ∧
    (∃ (s : State) (e : Nat) (k : Nat) (cond : Nat) (ra : Nat) (target : Nat), s.fetches e k (.br cond ra target) ∧ 5 ≤ cond ∧ cond ≤ 7 ∧ (s.ctxOf e k).wait ≠ []) ∧
    (∃ (s : State) (e : Nat) (k : Nat) (cond : Nat) (ra : Nat) (target : Nat), s.fetches e k (.br cond ra target) ∧ s.branchHolds e (s.ctxOf e k) cond ra = none ∧ (s.ctxOf e k).desc.work = .none) ∧
    (∃ (s : State) (e : Nat) (k : Nat) (target : Nat), s.fetches e k (.call target) ∧ (s.ctxOf e k).stack.length < 4) ∧
    (∃ (s : State) (e : Nat) (k : Nat) (target : Nat), s.fetches e k (.call target) ∧ 4 ≤ (s.ctxOf e k).stack.length ∧ (s.ctxOf e k).desc.work = .none) ∧
    (∃ (s : State) (e : Nat) (k : Nat) (r : _) (l : List Nat), s.fetches e k .ret ∧ (s.ctxOf e k).stack = r :: l) ∧
    (∃ (s : State) (e : Nat) (k : Nat), s.fetches e k .ret ∧ (s.ctxOf e k).stack = [] ∧ (s.ctxOf e k).desc.work = .none) :=
  ⟨⟨mcr ctx0, 127, 30, 7, 7, 7, 65535, true, true, (((mcr ctx0).ctxOf (127) (30)).pc + 1) % 2 ^ 13, ((mcr ctx0).ctxOf (127) (30)).reg (7), (if (true) then (7) % 2 ^ 16 else ((mcr ctx0).ctxOf (127) (30)).reg (7)), by decide +kernel, rfl, rfl, rfl, fetches_of (by decide +kernel)⟩,
   ⟨mcr ctx0, 127, 30, 7, 7, 7, true, (((mcr ctx0).ctxOf (127) (30)).pc + 1) % 2 ^ 13, ((mcr ctx0).ctxOf (127) (30)).reg (7), (if (true) then (7) % 2 ^ 16 else ((mcr ctx0).ctxOf (127) (30)).reg (7)), by decide +kernel, rfl, rfl, rfl, fetches_of (by decide +kernel)⟩,
   ⟨mcr ctx0, 127, 30, 7, 7, 7, true, (((mcr ctx0).ctxOf (127) (30)).pc + 1) % 2 ^ 13, ((mcr ctx0).ctxOf (127) (30)).reg (7), (if (true) then (7) % 2 ^ 16 else ((mcr ctx0).ctxOf (127) (30)).reg (7)), by decide +kernel, rfl, rfl, rfl, fetches_of (by decide +kernel)⟩,
   ⟨mcr ctx0, 127, 30, 7, 7, 7, true, (((mcr ctx0).ctxOf (127) (30)).pc + 1) % 2 ^ 13, ((mcr ctx0).ctxOf (127) (30)).reg (7), (if (true) then (7) % 2 ^ 16 else ((mcr ctx0).ctxOf (127) (30)).reg (7)), by decide +kernel, rfl, rfl, rfl, fetches_of (by decide +kernel)⟩,
   ⟨mcr ctx0, 127, 30, 7, 7, 7, true, (((mcr ctx0).ctxOf (127) (30)).pc + 1) % 2 ^ 13, ((mcr ctx0).ctxOf (127) (30)).reg (7), (if (true) then (7) % 2 ^ 16 else ((mcr ctx0).ctxOf (127) (30)).reg (7)), by decide +kernel, rfl, rfl, rfl, fetches_of (by decide +kernel)⟩,
   ⟨mcr ctx0, 127, 30, 7, 7, 7, true, (((mcr ctx0).ctxOf (127) (30)).pc + 1) % 2 ^ 13, ((mcr ctx0).ctxOf (127) (30)).reg (7), (if (true) then (7) % 2 ^ 16 else ((mcr ctx0).ctxOf (127) (30)).reg (7)), by decide +kernel, rfl, rfl, rfl, fetches_of (by decide +kernel)⟩,
   ⟨mcr ctx0, 127, 30, 7, 7, 7, true, (((mcr ctx0).ctxOf (127) (30)).pc + 1) % 2 ^ 13, ((mcr ctx0).ctxOf (127) (30)).reg (7), (if (true) then (7) % 2 ^ 16 else ((mcr ctx0).ctxOf (127) (30)).reg (7)), by decide +kernel, rfl, rfl, rfl, fetches_of (by decide +kernel)⟩,
   ⟨mcr ctx0, 127, 30, 7, 7, 7, 0x100, true, (((mcr ctx0).ctxOf (127) (30)).pc + 1) % 2 ^ 13, ((mcr ctx0).ctxOf (127) (30)).reg (7), (if (true) then (7) % 2 ^ 16 else ((mcr ctx0).ctxOf (127) (30)).reg (7)), by decide +kernel, rfl, rfl, rfl, fetches_of (by decide +kernel), by decide +kernel⟩,
   ⟨mcr ctx0, 127, 30, 7, 7, 7, 0x100, true, (((mcr ctx0).ctxOf (127) (30)).pc + 1) % 2 ^ 13, ((mcr ctx0).ctxOf (127) (30)).reg (7), (if (true) then (7) % 2 ^ 16 else ((mcr ctx0).ctxOf (127) (30)).reg (7)), by decide +kernel, rfl, rfl, rfl, fetches_of (by decide +kernel), by decide +kernel⟩,
   ⟨mcr ctx0, 127, 30, 7, 7, 7, 0x7F, true, (((mcr ctx0).ctxOf (127) (30)).pc + 1) % 2 ^ 13, ((mcr ctx0).ctxOf (127) (30)).reg (7), (if (true) then (7) % 2 ^ 16 else ((mcr ctx0).ctxOf (127) (30)).reg (7)), by decide +kernel, rfl, rfl, rfl, by decide +kernel, by decide +kernel, fetches_of (by decide +kernel)⟩,
   ⟨mcr ctx0, 127, 30, 7, 7, 7, 0x7F, true, (((mcr ctx0).ctxOf (127) (30)).pc + 1) % 2 ^ 13, ((mcr ctx0).ctxOf (127) (30)).reg (7), (if (true) then (7) % 2 ^ 16 else ((mcr ctx0).ctxOf (127) (30)).reg (7)), by decide +kernel, rfl, rfl, rfl, by decide +kernel, by decide +kernel, fetches_of (by decide +kernel)⟩,
   ⟨mcr ctx0, 127, 30, 7, 7, 7, 0, true, (((mcr ctx0).ctxOf (127) (30)).pc + 1) % 2 ^ 13, ((mcr ctx0).ctxOf (127) (30)).reg (7), (if (true) then (7) % 2 ^ 16 else ((mcr ctx0).ctxOf (127) (30)).reg (7)), by decide +kernel, rfl, rfl, rfl, by decide +kernel, fetches_of (by decide +kernel)⟩,
   ⟨mcr ctx0, 127, 30, 7, 7, 0x3FF, false, fetches_of (by decide +kernel), by decide +kernel⟩,
   ⟨mcr { ctx0 with wait := [0] }, 127, 30, 7, 7, 0x3FF, fetches_of (by decide +kernel), by decide +kernel⟩,
   ⟨mcr ctx0, 127, 30, 15, 7, 0x3FF, fetches_of (by decide +kernel), by decide +kernel⟩,
   ⟨mcr ctx0, 127, 30, 0x3FF, fetches_of (by decide +kernel), by decide +kernel⟩,
   ⟨mcr { ctx0 with stack := [1, 2, 3, 4] }, 127, 30, 0x3FF, fetches_of (by decide +kernel), by decide +kernel⟩,
   ⟨mcr { ctx0 with stack := [1, 2, 3, 4] }, 127, 30, 1, [2, 3, 4], fetches_of (by decide +kernel), by decide +kernel⟩,
   ⟨mcr ctx0, 127, 30, fetches_of (by decide +kernel), by decide +kernel⟩⟩

/-- MicroInstructionsDriveTheBus: a state and operands that meet the hypotheses of each clause. -/
theorem witness_MicroInstructionsDriveTheBus :
    (∃ (s : State) (e : Nat) (k : Nat) (rb : Nat) (rd : Nat) (byte : Nat) (imm : Bool) (pc : Nat), s.ownDie e k ∧ rd < 8 ∧ pc = ((s.ctxOf e k).pc + 1) % 2 ^ 13 ∧ s.fetches e k (.cmd 0 imm rb byte)) ∧
    (∃ (s : State) (e : Nat) (k : Nat) (rb : Nat) (rd : Nat) (byte : Nat) (imm : Bool) (pc : Nat), s.ownDie e k ∧ rd < 8 ∧ pc = ((s.ctxOf e k).pc + 1) % 2 ^ 13 ∧ s.fetches e k (.cmd 1 imm rb byte) ∧ s.readMayStart (s.readMa e) = true) ∧
    (∃ (s : State) (e : Nat) (k : Nat) (rb : Nat) (rd : Nat) (byte : Nat) (imm : Bool) (pc : Nat), s.ownDie e k ∧ rd < 8 ∧ pc = ((s.ctxOf e k).pc + 1) % 2 ^ 13 ∧ s.fetches e k (.cmd 1 imm rb byte) ∧ s.readMayStart (s.readMa e) = false) ∧
    (∃ (s : State) (e : Nat) (k : Nat) (rb : Nat) (rd : Nat) (byte : Nat) (imm : Bool) (pc : Nat) (q : _) (ma : _), s.ownDie e k ∧ rd < 8 ∧ pc = ((s.ctxOf e k).pc + 1) % 2 ^ 13 ∧ (q = 2 ∧ ma = s.progMa e ∨ q = 3 ∧ ma = s.eraseMa e) ∧ s.fetches e k (.cmd q imm rb byte) ∧ s.hcMayStart ma = true ∧ Tab.get 0 s.pow.pauses (e * 16 + (s.ctxOf e k).desc.die) = 0) ∧
    (∃ (s : State) (e : Nat) (k : Nat) (rb : Nat) (rd : Nat) (byte : Nat) (imm : Bool) (pc : Nat) (q : _) (ma : _), s.ownDie e k ∧ rd < 8 ∧ pc = ((s.ctxOf e k).pc + 1) % 2 ^ 13 ∧ (q = 2 ∧ ma = s.progMa e ∨ q = 3 ∧ ma = s.eraseMa e) ∧ s.fetches e k (.cmd q imm rb byte) ∧ s.hcMayStart ma = false) ∧
    (∃ (s : State) (e : Nat) (k : Nat) (n : Nat) (rb : Nat) (ra : Nat) (rd : Nat) (pc : Nat), s.ownDie e k ∧ rd < 8 ∧ pc = ((s.ctxOf e k).pc + 1) % 2 ^ 13 ∧ s.fetches e k (.addr rb ra n) ∧ 1 ≤ n ∧ n ≤ 5) ∧
    (∃ (s : State) (e : Nat) (k : Nat) (n : Nat) (rb : Nat) (ra : Nat) (rd : Nat) (pc : Nat), s.ownDie e k ∧ rd < 8 ∧ pc = ((s.ctxOf e k).pc + 1) % 2 ^ 13 ∧ s.fetches e k (.addr rb ra n) ∧ (n = 0 ∨ 5 < n) ∧ (s.ctxOf e k).desc.work = .none) ∧
    (∃ (s : State) (e : Nat) (k : Nat) (n : Nat) (rb : Nat) (ra : Nat) (rd : Nat) (pc : Nat), s.ownDie e k ∧ rd < 8 ∧ pc = ((s.ctxOf e k).pc + 1) % 2 ^ 13 ∧ s.fetches e k (.dout rb ra 0 n) ∧ 1 ≤ n ∧ n ≤ 4) ∧
    (∃ (s : State) (e : Nat) (k : Nat) (n : Nat) (rb : Nat) (ra : Nat) (rd : Nat) (pc : Nat), s.ownDie e k ∧ rd < 8 ∧ pc = ((s.ctxOf e k).pc + 1) % 2 ^ 13 ∧ s.fetches e k (.dout rb ra 2 n) ∧ inBuffer ((s.ctxOf e k).reg rb) ((s.ctxOf e k).reg ra) = true) ∧
    (∃ (s : State) (e : Nat) (k : Nat) (n : Nat) (ra : Nat) (rd : Nat) (pc : Nat), s.ownDie e k ∧ rd < 8 ∧ pc = ((s.ctxOf e k).pc + 1) % 2 ^ 13 ∧ s.fetches e k (.din rd ra 0 n) ∧ 1 ≤ n ∧ n ≤ 4) ∧
    (∃ (s : State) (e : Nat) (k : Nat) (ra : Nat) (rd : Nat) (mask : Nat) (value : Nat) (pc : Nat), s.ownDie e k ∧ rd < 8 ∧ pc = ((s.ctxOf e k).pc + 1) % 2 ^ 13 ∧ s.fetches e k (.waitst rd ra mask value) ∧ s.act e (s.ctxOf e k).target = .free) ∧
    (∃ (s : State) (e : Nat) (k : Nat) (ra : Nat) (rd : Nat) (mask : Nat) (value : Nat) (st : Nat) (pc : Nat), s.ownDie e k ∧ rd < 8 ∧ pc = ((s.ctxOf e k).pc + 1) % 2 ^ 13 ∧ s.fetches e k (.waitst rd ra mask value) ∧ s.act e (s.ctxOf e k).target = .active ∧ bit st 6 = true) ∧
    (∃ (s : State) (e : Nat) (k : Nat) (rb : Nat) (die : Nat) (count : Nat) (imm : Bool) (pc : Nat) (d : Nat), pc = ((s.ctxOf e k).pc + 1) % 2 ^ 13 ∧ d = (if imm then die % 16 else (s.ctxOf e k).reg rb % 16) ∧ s.fetches e k (.wait false count)) ∧
    (∃ (s : State) (e : Nat) (k : Nat) (rb : Nat) (die : Nat) (count : Nat) (imm : Bool) (pc : Nat) (d : Nat), pc = ((s.ctxOf e k).pc + 1) % 2 ^ 13 ∧ d = (if imm then die % 16 else (s.ctxOf e k).reg rb % 16) ∧ s.fetches e k (.wait true count)) ∧
    (∃ (s : State) (e : Nat) (k : Nat) (rb : Nat) (die : Nat) (imm : Bool) (nv : Bool) (pc : Nat) (d : Nat), pc = ((s.ctxOf e k).pc + 1) % 2 ^ 13 ∧ d = (if imm then die % 16 else (s.ctxOf e k).reg rb % 16) ∧ s.fetches e k (.sett imm rb nv die) ∧ (s.ctxOf e k).claimed = false ∧ (d = (s.ctxOf e k).desc.die ∨ (s.ctxOf e k).cls = clsMaint)) ∧
    (∃ (s : State) (e : Nat) (k : Nat) (rb : Nat) (die : Nat) (imm : Bool) (nv : Bool) (pc : Nat) (d : Nat), pc = ((s.ctxOf e k).pc + 1) % 2 ^ 13 ∧ d = (if imm then die % 16 else (s.ctxOf e k).reg rb % 16) ∧ s.fetches e k (.sett imm rb nv die) ∧ d ≠ (s.ctxOf e k).desc.die ∧ (s.ctxOf e k).cls ≠ clsMaint ∧ (s.ctxOf e k).desc.work = .none) ∧
    (∃ (s : State) (e : Nat) (k : Nat) (rb : Nat) (die : Nat) (imm : Bool) (m : Bool) (pc : Nat) (d : Nat), pc = ((s.ctxOf e k).pc + 1) % 2 ^ 13 ∧ d = (if imm then die % 16 else (s.ctxOf e k).reg rb % 16) ∧ s.fetches e k (.fchk m) ∧ s.fenced e (s.ctxOf e k).target = false ∧ s.staleEpoch e (s.ctxOf e k).desc = false) ∧
    (∃ (s : State) (e : Nat) (k : Nat) (rb : Nat) (die : Nat) (imm : Bool) (pc : Nat) (d : Nat), pc = ((s.ctxOf e k).pc + 1) % 2 ^ 13 ∧ d = (if imm then die % 16 else (s.ctxOf e k).reg rb % 16) ∧ s.fetches e k (.fchk true) ∧ s.fenced e (s.ctxOf e k).target = true) ∧
    (∃ (s : State) (e : Nat) (k : Nat) (rb : Nat) (die : Nat) (imm : Bool) (pc : Nat) (d : Nat), pc = ((s.ctxOf e k).pc + 1) % 2 ^ 13 ∧ d = (if imm then die % 16 else (s.ctxOf e k).reg rb % 16) ∧ s.fetches e k .yield) ∧
    (∃ (s : State) (e : Nat) (k : Nat) (rd : Nat) (st : Nat) (code : Nat) (detail : Nat) (x : Desc), s.runsAlone e k x ∧ code = (if st = 0 ∧ (s.ctxOf e k).anyCorr = true then csCorrected else st) ∧ detail = (if st = 8 then 0xFFFE else (s.ctxOf e k).reg rd % 2 ^ 16) ∧ s.fetches e k (.fchk false) ∧ s.fenced e (s.ctxOf e k).target = true) ∧
    (∃ (s : State) (e : Nat) (k : Nat) (rd : Nat) (st : Nat) (code : Nat) (detail : Nat) (x : Desc), s.runsAlone e k x ∧ code = (if st = 0 ∧ (s.ctxOf e k).anyCorr = true then csCorrected else st) ∧ detail = (if st = 8 then 0xFFFE else (s.ctxOf e k).reg rd % 2 ^ 16) ∧ s.fetches e k (.done rd st) ∧ doneStatuses.contains st = true ∧ s.act e x.die = .free) ∧
    (∃ (s : State) (e : Nat) (k : Nat) (rd : Nat) (st : Nat) (code : Nat) (detail : Nat) (x : Desc), s.runsAlone e k x ∧ code = (if st = 0 ∧ (s.ctxOf e k).anyCorr = true then csCorrected else st) ∧ detail = (if st = 8 then 0xFFFE else (s.ctxOf e k).reg rd % 2 ^ 16) ∧ s.fetches e k (.done rd st) ∧ doneStatuses.contains st = true ∧ s.act e x.die = .active) ∧
    (∃ (s : State) (e : Nat) (k : Nat) (rd : Nat) (st : Nat) (code : Nat) (detail : Nat) (x : Desc), s.runsAlone e k x ∧ code = (if st = 0 ∧ (s.ctxOf e k).anyCorr = true then csCorrected else st) ∧ detail = (if st = 8 then 0xFFFE else (s.ctxOf e k).reg rd % 2 ^ 16) ∧ s.fetches e k (.done rd st) ∧ doneStatuses.contains st = false) ∧
    (∃ (s : State) (e : Nat) (k : Nat) (rd : Nat) (st : Nat) (code : Nat) (detail : Nat) (x : Desc), s.runsAlone e k x ∧ code = (if st = 0 ∧ (s.ctxOf e k).anyCorr = true then csCorrected else st) ∧ detail = (if st = 8 then 0xFFFE else (s.ctxOf e k).reg rd % 2 ^ 16) ∧ 10 ≤ x.op) ∧
    (∃ (s : State) (m : Nat) (e : Nat) (i : Nat), e < 128 ∧ s.reaches m (drfPage e + 0x104) ∧ s.reaches m (drfPage e + 0x10C) ∧ i = s.fld (DRF_PSADDR.INDEX e) ∧ (s.engState e = engStopped ∨ s.engState e = engHalted)) ∧
    (∃ (s : State) (m : Nat) (e : Nat), e < 128 ∧ s.reaches m (drfPage e + 0x104) ∧ s.reaches m (drfPage e + 0x10C) ∧ s.engState e ≠ engStopped ∧ s.engState e ≠ engHalted) ∧
    (∃ (s : State) (m : Nat) (e : Nat) (i : Nat), e < 128 ∧ s.reaches m (drfPage e + 0x104) ∧ s.reaches m (drfPage e + 0x10C) ∧ i = s.fld (DRF_PSADDR.INDEX e)) ∧
    (∃ (s : State) (m : Nat) (e : Nat) (i : Nat), e < 128 ∧ s.reaches m (drfPage e + 0x104) ∧ s.reaches m (drfPage e + 0x10C) ∧ i = s.fld (DRF_LMADDR.ADDR e)) :=
  ⟨⟨mcr { ctx0 with target := 15 }, 127, 30, 7, 7, 255, true, (((mcr { ctx0 with target := 15 }).ctxOf (127) (30)).pc + 1) % 2 ^ 13, ownDie_of (by decide +kernel), by decide +kernel, rfl, fetches_of (by decide +kernel)⟩,
   ⟨mcr { ctx0 with target := 15 }, 127, 30, 7, 7, 255, true, (((mcr { ctx0 with target := 15 }).ctxOf (127) (30)).pc + 1) % 2 ^ 13, ownDie_of (by decide +kernel), by decide +kernel, rfl, fetches_of (by decide +kernel), by decide +kernel⟩,
   ⟨fields [(BEL_ACCT.ACCOUNT, 65535)] (mcr { ctx0 with target := 15 }), 127, 30, 7, 7, 255, true, (((fields [(BEL_ACCT.ACCOUNT, 65535)] (mcr { ctx0 with target := 15 })).ctxOf (127) (30)).pc + 1) % 2 ^ 13, ownDie_of (by decide +kernel), by decide +kernel, rfl, fetches_of (by decide +kernel), by decide +kernel⟩,
   ⟨mcr { ctx0 with target := 15 }, 127, 30, 7, 7, 255, true, (((mcr { ctx0 with target := 15 }).ctxOf (127) (30)).pc + 1) % 2 ^ 13, 3, (mcr { ctx0 with target := 15 }).eraseMa 127, ownDie_of (by decide +kernel), by decide +kernel, rfl, by decide +kernel, fetches_of (by decide +kernel), by decide +kernel⟩,
   ⟨fields [(BEL_ACCT.ACCOUNT, 65535)] (mcr { ctx0 with target := 15 }), 127, 30, 7, 7, 255, true, (((fields [(BEL_ACCT.ACCOUNT, 65535)] (mcr { ctx0 with target := 15 })).ctxOf (127) (30)).pc + 1) % 2 ^ 13, 3, (fields [(BEL_ACCT.ACCOUNT, 65535)] (mcr { ctx0 with target := 15 })).eraseMa 127, ownDie_of (by decide +kernel), by decide +kernel, rfl, by decide +kernel, fetches_of (by decide +kernel), by decide +kernel⟩,
   ⟨mcr { ctx0 with target := 15 }, 127, 30, 5, 7, 7, 7, (((mcr { ctx0 with target := 15 }).ctxOf (127) (30)).pc + 1) % 2 ^ 13, ownDie_of (by decide +kernel), by decide +kernel, rfl, fetches_of (by decide +kernel), by decide +kernel⟩,
   ⟨mcr { ctx0 with target := 15 }, 127, 30, 0, 7, 7, 7, (((mcr { ctx0 with target := 15 }).ctxOf (127) (30)).pc + 1) % 2 ^ 13, ownDie_of (by decide +kernel), by decide +kernel, rfl, fetches_of (by decide +kernel), by decide +kernel⟩,
   ⟨mcr { ctx0 with target := 15 }, 127, 30, 4, 7, 7, 7, (((mcr { ctx0 with target := 15 }).ctxOf (127) (30)).pc + 1) % 2 ^ 13, ownDie_of (by decide +kernel), by decide +kernel, rfl, fetches_of (by decide +kernel), by decide +kernel⟩,
   ⟨mcr { ctx0 with target := 15, w := List.replicate 8 0x1000 }, 127, 30, 5, 7, 7, 7, (((mcr { ctx0 with target := 15, w := List.replicate 8 0x1000 }).ctxOf (127) (30)).pc + 1) % 2 ^ 13, ownDie_of (by decide +kernel), by decide +kernel, rfl, fetches_of (by decide +kernel), by decide +kernel⟩,
   ⟨mcr { ctx0 with target := 15 }, 127, 30, 4, 7, 7, (((mcr { ctx0 with target := 15 }).ctxOf (127) (30)).pc + 1) % 2 ^ 13, ownDie_of (by decide +kernel), by decide +kernel, rfl, fetches_of (by decide +kernel), by decide +kernel⟩,
   ⟨mcr { ctx0 with target := 15 }, 127, 30, 7, 7, 255, 0, (((mcr { ctx0 with target := 15 }).ctxOf (127) (30)).pc + 1) % 2 ^ 13, ownDie_of (by decide +kernel), by decide +kernel, rfl, fetches_of (by decide +kernel), by decide +kernel⟩,
   ⟨mca { ctx0 with target := 15 } .active, 127, 30, 7, 7, 255, 0, 64, (((mca { ctx0 with target := 15 } .active).ctxOf (127) (30)).pc + 1) % 2 ^ 13, ownDie_of (by decide +kernel), by decide +kernel, rfl, fetches_of (by decide +kernel), by decide +kernel⟩,
   ⟨mcr ctx0, 127, 30, 7, 14, 65535, true, (((mcr ctx0).ctxOf (127) (30)).pc + 1) % 2 ^ 13, (if (true) then (14) % 16 else ((mcr ctx0).ctxOf (127) (30)).reg (7) % 16), rfl, rfl, fetches_of (by decide +kernel)⟩,
   ⟨mcr ctx0, 127, 30, 7, 14, 65535, true, (((mcr ctx0).ctxOf (127) (30)).pc + 1) % 2 ^ 13, (if (true) then (14) % 16 else ((mcr ctx0).ctxOf (127) (30)).reg (7) % 16), rfl, rfl, fetches_of (by decide +kernel)⟩,
   ⟨mcr ctx0, 127, 30, 7, 14, true, true, (((mcr ctx0).ctxOf (127) (30)).pc + 1) % 2 ^ 13, (if (true) then (14) % 16 else ((mcr ctx0).ctxOf (127) (30)).reg (7) % 16), rfl, rfl, fetches_of (by decide +kernel), by decide +kernel⟩,
   ⟨mcr { ctx0 with cls := 1 }, 127, 30, 7, 14, true, true, (((mcr { ctx0 with cls := 1 }).ctxOf (127) (30)).pc + 1) % 2 ^ 13, (if (true) then (14) % 16 else ((mcr { ctx0 with cls := 1 }).ctxOf (127) (30)).reg (7) % 16), rfl, rfl, fetches_of (by decide +kernel), by decide +kernel⟩,
   ⟨mcr ctx0, 127, 30, 7, 14, true, true, (((mcr ctx0).ctxOf (127) (30)).pc + 1) % 2 ^ 13, (if (true) then (14) % 16 else ((mcr ctx0).ctxOf (127) (30)).reg (7) % 16), rfl, rfl, fetches_of (by decide +kernel), by decide +kernel⟩,
   ⟨fencedDie, 127, 30, 7, 14, true, (((fencedDie).ctxOf (127) (30)).pc + 1) % 2 ^ 13, (if (true) then (14) % 16 else ((fencedDie).ctxOf (127) (30)).reg (7) % 16), rfl, rfl, fetches_of (by decide +kernel), by decide +kernel⟩,
   ⟨mcr ctx0, 127, 30, 7, 14, true, (((mcr ctx0).ctxOf (127) (30)).pc + 1) % 2 ^ 13, (if (true) then (14) % 16 else ((mcr ctx0).ctxOf (127) (30)).reg (7) % 16), rfl, rfl, fetches_of (by decide +kernel)⟩,
   ⟨fencedDie, 127, 30, 7, 0, 0, (if (0) = 8 then 0xFFFE else ((fencedDie).ctxOf (127) (30)).reg (7) % 2 ^ 16), ({ dsc 11 with op := 11 } : Desc), runsAlone_of (by decide +kernel), by decide +kernel, rfl, fetches_of (by decide +kernel), by decide +kernel⟩,
   ⟨mcr ctx0, 127, 30, 7, 0, 0, (if (0) = 8 then 0xFFFE else ((mcr ctx0).ctxOf (127) (30)).reg (7) % 2 ^ 16), ({ dsc 11 with op := 11 } : Desc), runsAlone_of (by decide +kernel), by decide +kernel, rfl, fetches_of (by decide +kernel), by decide +kernel⟩,
   ⟨mca ctx0 .active, 127, 30, 7, 0, 0, (if (0) = 8 then 0xFFFE else ((mca ctx0 .active).ctxOf (127) (30)).reg (7) % 2 ^ 16), ({ dsc 11 with op := 11 } : Desc), runsAlone_of (by decide +kernel), by decide +kernel, rfl, fetches_of (by decide +kernel), by decide +kernel⟩,
   ⟨mcr ctx0, 127, 30, 7, 2, 2, (if (2) = 8 then 0xFFFE else ((mcr ctx0).ctxOf (127) (30)).reg (7) % 2 ^ 16), ({ dsc 11 with op := 11 } : Desc), runsAlone_of (by decide +kernel), by decide +kernel, rfl, fetches_of (by decide +kernel), by decide +kernel⟩,
   ⟨mcr ctx0, 127, 30, 7, 0, 0, (if (0) = 8 then 0xFFFE else ((mcr ctx0).ctxOf (127) (30)).reg (7) % 2 ^ 16), ({ dsc 11 with op := 11 } : Desc), runsAlone_of (by decide +kernel), by decide +kernel, rfl, by decide +kernel⟩,
   ⟨base, 4, 127, (base).fld (DRF_PSADDR.INDEX (127)), by decide +kernel, reaches_of (by decide +kernel), reaches_of (by decide +kernel), rfl, by decide +kernel⟩,
   ⟨mcr ctx0, 4, 127, by decide +kernel, reaches_of (by decide +kernel), reaches_of (by decide +kernel), by decide +kernel⟩,
   ⟨mcr ctx0, 4, 127, (mcr ctx0).fld (DRF_PSADDR.INDEX (127)), by decide +kernel, reaches_of (by decide +kernel), reaches_of (by decide +kernel), rfl⟩,
   ⟨mcr ctx0, 4, 127, (mcr ctx0).fld (DRF_LMADDR.ADDR (127)), by decide +kernel, reaches_of (by decide +kernel), reaches_of (by decide +kernel), rfl⟩⟩

/-- DecodesEndAndCandidatesLeave: a state and operands that meet the hypotheses of each clause. -/
theorem witness_DecodesEndAndCandidatesLeave :
    (∃ (s : State) (e : Nat) (k : Nat) (cw : Nat), s.decoderOf e k cw = none) ∧
    (∃ (s : State) (e : Nat) (k : Nat) (cw : Nat) (d : Nat) (j : DecJob) (x : Desc), s.runsAlone e k x ∧ x.op = 1 ∧ x.raw = false ∧ s.decoderOf e k cw = some (d, j) ∧ s.readsErased e k cw = false ∧ (s.ctxOf e k).phase = 0 ∧ (s.ctxOf e k).fails = [] ∧ (s.ctxOf e k).cwfail = 0 ∧ (s.ctxOf e k).wait = [cw] ∧ x.npages = (s.ctxOf e k).pages ∧ s.act e x.die = .reading) ∧
    (∃ (s : State) (e : Nat) (k : Nat) (cw : Nat) (d : Nat) (j : DecJob) (x : Desc) (y : _) (l : List Nat), s.runsAlone e k x ∧ x.op = 1 ∧ x.raw = false ∧ s.decoderOf e k cw = some (d, j) ∧ s.readsErased e k cw = false ∧ (s.ctxOf e k).phase = 0 ∧ (s.ctxOf e k).fails = [] ∧ (s.ctxOf e k).cwfail = 0 ∧ (s.ctxOf e k).wait = cw :: y :: l ∧ cw ∉ y :: l) ∧
    (∃ (s : State) (e : Nat) (k : Nat) (cw : Nat) (d : Nat) (j : DecJob) (x : Desc), s.runsAlone e k x ∧ x.op = 1 ∧ x.raw = false ∧ s.decoderOf e k cw = some (d, j) ∧ s.readsErased e k cw = false ∧ (s.ctxOf e k).phase = 0 ∧ (s.ctxOf e k).fails = [] ∧ (s.ctxOf e k).cwfail = 0 ∧ (s.ctxOf e k).wait = [cw] ∧ bit (s.features e) 4 = false ∧ s.act e x.die = .reading) ∧
    (∃ (s : State) (e : Nat) (k : Nat) (cw : Nat) (d : Nat) (j : DecJob) (x : Desc), s.runsAlone e k x ∧ x.op = 1 ∧ x.raw = false ∧ s.decoderOf e k cw = some (d, j) ∧ s.readsErased e k cw = false ∧ (s.ctxOf e k).phase = 0 ∧ (s.ctxOf e k).fails = [] ∧ (s.ctxOf e k).cwfail = 0 ∧ (s.ctxOf e k).wait = [cw] ∧ bit (s.features e) 4 = true ∧ 0 < x.retrymax) ∧
    (∃ (s : State) (e : Nat) (k : Nat) (cw : Nat) (d : Nat) (j : DecJob), s.decoderOf e k cw = some (d, j) ∧ j.again = false ∧ s.ecc.modePend = false) ∧
    (∃ (s : State) (e : Nat) (k : Nat) (cw : Nat) (d : Nat) (j : DecJob), (s.ctxOf e k).live = true ∧ 10 ≤ (s.ctxOf e k).desc.op ∧ s.decoderOf e k cw = some (d, j) ∧ s.ecc.modePend = false) ∧
    (∃ (s : State) (m : Nat), s.reaches m ECC_CAND.ENTRY.addr ∧ s.reaches m ECC_CTRL.DCLR.addr) ∧
    (∃ (s : State) (m : Nat) (n : Nat) (v : Nat), n < 16 ∧ s.reaches m (ECC_PROF.SOFT n).addr ∧ n < 15 ∧ profileOk v = true ∧ ((∀ e, e < 128 → s.engState e = engStopped))) ∧
    (∃ (s : State) (m : Nat) (n : Nat) (v : Nat), n < 16 ∧ s.reaches m (ECC_PROF.SOFT n).addr ∧ n < 15 ∧ (profileOk v = false ∨ (∃ e, e < 128 ∧ s.engState e ≠ engStopped))) ∧
    (∃ (s : State) (m : Nat) (n : Nat), n < 16 ∧ s.reaches m (ECC_PROF.SOFT n).addr ∧ n = 15) :=
  ⟨⟨base, 127, 30, 63, by decide +kernel⟩,
   ⟨((ready base).modEng 127 fun g => { g with ctx := [(30, { live := true, desc := { dsc 1 with owner := 0, retrymax := 3 }, cls := 1, wait := [63] })], act := [(15, .reading)] }).modEcc fun m => { m with jobs := [(47, some { eng := 127, ctx := 30, cw := 63 })] }, 127, 30, 63, 47, ({ eng := 127, ctx := 30, cw := 63 } : DecJob), ({ dsc 1 with owner := 0, retrymax := 3 } : Desc), runsAlone_of (by decide +kernel), by decide +kernel⟩,
   ⟨((ready base).modEng 127 fun g => { g with ctx := [(30, { live := true, desc := { dsc 1 with owner := 0, retrymax := 3 }, cls := 1, wait := [63, 62] })], act := [(15, .reading)] }).modEcc fun m => { m with jobs := [(47, some { eng := 127, ctx := 30, cw := 63 })] }, 127, 30, 63, 47, ({ eng := 127, ctx := 30, cw := 63 } : DecJob), ({ dsc 1 with owner := 0, retrymax := 3 } : Desc), 62, [], runsAlone_of (by decide +kernel), by decide +kernel⟩,
   ⟨(((ready base).modEng 127 fun g => { g with ctx := [(30, { live := true, desc := { dsc 1 with owner := 0, retrymax := 3 }, cls := 1, wait := [63] })], act := [(15, .reading)] }).modMgt fun m => { m with dict := [(dictKey 0x322F 6, some (.num 0))] }).modEcc fun m => { m with jobs := [(47, some { eng := 127, ctx := 30, cw := 63 })] }, 127, 30, 63, 47, ({ eng := 127, ctx := 30, cw := 63 } : DecJob), ({ dsc 1 with owner := 0, retrymax := 3 } : Desc), runsAlone_of (by decide +kernel), by decide +kernel⟩,
   ⟨(((ready base).modEng 127 fun g => { g with ctx := [(30, { live := true, desc := { dsc 1 with owner := 0, retrymax := 3 }, cls := 1, wait := [63] })], act := [(15, .reading)] }).modMgt fun m => { m with dict := [(dictKey 0x322F 6, some (.num 16))] }).modEcc fun m => { m with jobs := [(47, some { eng := 127, ctx := 30, cw := 63 })] }, 127, 30, 63, 47, ({ eng := 127, ctx := 30, cw := 63 } : DecJob), ({ dsc 1 with owner := 0, retrymax := 3 } : Desc), runsAlone_of (by decide +kernel), by decide +kernel⟩,
   ⟨(base).modEcc fun m => { m with jobs := [(47, some { eng := 127, ctx := 30, cw := 63 })] }, 127, 30, 63, 47, ({ eng := 127, ctx := 30, cw := 63 } : DecJob), by decide +kernel⟩,
   ⟨(mcr { ctx0 with wait := [63] }).modEcc fun m => { m with jobs := [(47, some { eng := 127, ctx := 30, cw := 63 })] }, 127, 30, 63, 47, ({ eng := 127, ctx := 30, cw := 63 } : DecJob), by decide +kernel⟩,
   ⟨base, 4, reaches_of (by decide +kernel), reaches_of (by decide +kernel)⟩,
   ⟨base, 4, 14, 0, by decide +kernel, reaches_of (by decide +kernel), by decide +kernel⟩,
   ⟨runs (dsc 1) .reading, 4, 14, 0, by decide +kernel, reaches_of (by decide +kernel), by decide +kernel⟩,
   ⟨base, 4, 15, by decide +kernel, reaches_of (by decide +kernel), by decide +kernel⟩⟩

/-- DieMembershipFollowsItsTable: a state and operands that meet the hypotheses of each clause. -/
theorem witness_DieMembershipFollowsItsTable :
    (∃ (s : State) (m : Nat) (d : Nat), d < 2048 ∧ s.reaches m MSH_DCMD.OP.addr ∧ ((s.mem d).state = .member ∨ (s.mem d).state = .rebuilding) ∧ s.on MSH_CTRL.AUTOSPARE = false ∧ s.dieQuiet d) ∧
    (∃ (s : State) (m : Nat) (d : Nat), d < 2048 ∧ s.reaches m MSH_DCMD.OP.addr ∧ (s.mem d).state = .spare ∧ s.dieQuiet d) ∧
    (∃ (s : State) (m : Nat) (d : Nat), d < 2048 ∧ s.reaches m MSH_DCMD.OP.addr ∧ ((s.mem d).state = .failed ∨ (s.mem d).state = .returning)) ∧
    (∃ (s : State) (m : Nat) (d : Nat), d < 2048 ∧ s.reaches m MSH_DCMD.OP.addr ∧ (s.mem d).state = .returning) ∧
    (∃ (s : State) (m : Nat) (d : Nat), d < 2048 ∧ s.reaches m MSH_DCMD.OP.addr ∧ (s.mem d).state ∈ [.unused, .failed, .returning, .testing, .retired]) ∧
    (∃ (s : State) (m : Nat) (d : Nat), d < 2048 ∧ s.reaches m MSH_DCMD.OP.addr ∧ (s.mem d).state ∈ [.unused, .member, .rebuilding, .testing, .retired]) ∧
    (∃ (s : State) (m : Nat) (d : Nat), d < 2048 ∧ s.reaches m MSH_DCMD.OP.addr ∧ (s.mem d).state ≠ .returning) ∧
    (∃ (s : State) (m : Nat) (d : Nat) (k : _) (p : _), d < 2048 ∧ s.reaches m MSH_DCMD.OP.addr ∧ k = s.fld MSH_DARG.SSET ∧ p = s.fld MSH_DARG.POS ∧ s.on (MSH_SSET.VALID k) = true ∧ p < s.setPositions k ∧ (s.position k p).present = true ∧ (s.position k p).vacant = true ∧ (s.mem d).state = .spare ∧ s.channelUsed k p (chanOf d) = false) ∧
    (∃ (s : State) (m : Nat) (d : Nat) (k : _) (p : _), d < 2048 ∧ s.reaches m MSH_DCMD.OP.addr ∧ k = s.fld MSH_DARG.SSET ∧ p = s.fld MSH_DARG.POS ∧ (s.on (MSH_SSET.VALID k) = false ∨ s.setPositions k ≤ p ∨ (s.position k p).vacant = false ∨ (s.mem d).state ≠ .spare ∨ s.channelUsed k p (chanOf d) = true)) ∧
    (∃ (s : State) (m : Nat) (d : Nat), d < 2048 ∧ s.reaches m MSH_DCMD.OP.addr) ∧
    (∃ (s : State), (s.on MSH_CTRL.EN = false ∨ s.hld.committed = true)) ∧
    (∃ (s : State), s.on MSH_CTRL.EN = true ∧ s.hld.committed = false) ∧
    (∃ (s : State) (d : Nat), d < 2048 ∧ ((s.mem d).state ≠ .testing ∨ s.hld.committed = true)) ∧
    (∃ (s : State) (d : Nat), d < 2048 ∧ (s.mem d).state = .testing ∧ s.hld.committed = false ∧ s.on MSH_CTRL.AUTOSPARE = false) ∧
    (∃ (s : State) (d : Nat), (d < 2048 ∧ (s.mem d).state = .testing ∧ s.hld.committed = false) ∧ s.dieQuiet d) :=
  ⟨⟨fields [(MSH_CTRL.AUTOSPARE, 0)] (base.modMsh fun m => { m with dies := [(2047, { state := .member })] }), 4, 2047, by decide +kernel, reaches_of (by decide +kernel), by decide +kernel, by decide +kernel, dieQuiet_of (by decide +kernel)⟩,
   ⟨base.modMsh fun m => { m with dies := [(2047, { state := .spare })] }, 4, 2047, by decide +kernel, reaches_of (by decide +kernel), by decide +kernel, dieQuiet_of (by decide +kernel)⟩,
   ⟨base.modMsh fun m => { m with dies := [(2047, { state := .failed })] }, 4, 2047, by decide +kernel, reaches_of (by decide +kernel), by decide +kernel⟩,
   ⟨base.modMsh fun m => { m with dies := [(2047, { state := .returning })] }, 4, 2047, by decide +kernel, reaches_of (by decide +kernel), by decide +kernel⟩,
   ⟨base, 4, 2047, by decide +kernel, reaches_of (by decide +kernel), by decide +kernel⟩,
   ⟨base, 4, 2047, by decide +kernel, reaches_of (by decide +kernel), by decide +kernel⟩,
   ⟨base, 4, 2047, by decide +kernel, reaches_of (by decide +kernel), by decide +kernel⟩,
   ⟨fields [(MSH_SSET.VALID 0, 1)] (base.modMsh fun m => { m with dies := [(2047, { state := .spare })], pos := [(0, { present := true, vacant := true })] }), 4, 2047, 0, 0, by decide +kernel, reaches_of (by decide +kernel), by decide +kernel⟩,
   ⟨base, 4, 2047, 0, 0, by decide +kernel, reaches_of (by decide +kernel), by decide +kernel⟩,
   ⟨base, 4, 2047, by decide +kernel, reaches_of (by decide +kernel)⟩,
   ⟨base, by decide +kernel⟩,
   ⟨fields [(MSH_CTRL.EN, 1)] base, by decide +kernel⟩,
   ⟨base, 2047, by decide +kernel⟩,
   ⟨fields [(MSH_CTRL.AUTOSPARE, 0)] (base.modMsh fun m => { m with dies := [(2047, { state := .testing })] }), 2047, by decide +kernel⟩,
   ⟨base.modMsh fun m => { m with dies := [(2047, { state := .testing })] }, 2047, by decide +kernel, dieQuiet_of (by decide +kernel)⟩⟩

/-- StripeSetsAreDeclaredRebuiltAndRead: a state and operands that meet the hypotheses of each clause. -/
theorem witness_StripeSetsAreDeclaredRebuiltAndRead :
    (∃ (s : State) (m : Nat) (k : Nat) (v : Nat), k < 4096 ∧ s.reaches m (MSH_SSET.VALID k).addr ∧ s.on (MSH_SSET.VALID k) = false ∧ bit v 31 = false) ∧
    (∃ (s : State) (m : Nat) (k : Nat) (v : Nat), k < 4096 ∧ s.reaches m (MSH_SSET.VALID k).addr ∧ s.on (MSH_SSET.VALID k) = false ∧ bit v 31 = true ∧ s.mayValidate k (slice v 24 4) = true) ∧
    (∃ (s : State) (m : Nat) (k : Nat) (v : Nat), k < 4096 ∧ s.reaches m (MSH_SSET.VALID k).addr ∧ s.on (MSH_SSET.VALID k) = false ∧ bit v 31 = true ∧ s.mayValidate k (slice v 24 4) = false) ∧
    (∃ (s : State) (m : Nat) (k : Nat) (v : Nat), k < 4096 ∧ s.reaches m (MSH_SSET.VALID k).addr ∧ s.on (MSH_SSET.VALID k) = true ∧ bit v 31 = false ∧ s.on (ZPM_SSET.VALID k) = true) ∧
    (∃ (s : State) (m : Nat) (k : Nat) (v : Nat), k < 4096 ∧ s.reaches m (MSH_SSET.VALID k).addr ∧ s.on (MSH_SSET.VALID k) = true ∧ bit v 31 = false ∧ s.on (ZPM_SSET.VALID k) = false) ∧
    (∃ (s : State) (m : Nat) (k : Nat) (v : Nat), k < 4096 ∧ s.reaches m (MSH_SSET.VALID k).addr ∧ s.on (MSH_SSET.VALID k) = true ∧ bit v 31 = true) ∧
    (∃ (s : State) (m : Nat) (k : Nat) (p : Nat), s.reaches m MSH_PDATA.DIE.addr ∧ k = s.fld MSH_PSEL.SSET ∧ p = s.fld MSH_PSEL.POS ∧ s.on (MSH_SSET.VALID k) = false ∧ p < 66) ∧
    (∃ (s : State) (m : Nat) (k : Nat) (p : Nat), s.reaches m MSH_PDATA.DIE.addr ∧ k = s.fld MSH_PSEL.SSET ∧ p = s.fld MSH_PSEL.POS ∧ (s.on (MSH_SSET.VALID k) = true ∨ 66 ≤ p)) ∧
    (∃ (s : State) (m : Nat) (r : Nat) (w : Nat), s.reaches m MSH_RCPDATA.WORD.addr ∧ r = s.fld MSH_RCPSEL.RECIPE ∧ w = s.fld MSH_RCPSEL.WORD ∧ w ≤ 64 ∧ ((∀ k, k < 4096 → s.on (MSH_SSET.VALID k) = true → s.fld (MSH_SSET.RECIPE k) ≠ r))) ∧
    (∃ (s : State) (m : Nat) (r : Nat) (w : Nat), s.reaches m MSH_RCPDATA.WORD.addr ∧ r = s.fld MSH_RCPSEL.RECIPE ∧ w = s.fld MSH_RCPSEL.WORD ∧ (64 < w ∨ (∃ k, k < 4096 ∧ s.on (MSH_SSET.VALID k) = true ∧ s.fld (MSH_SSET.RECIPE k) = r))) ∧
    (∃ (s : State) (k : Nat) (p : Nat) (d : Nat), d = (s.position k p).die ∧ s.mayRebuild = false) ∧
    (∃ (s : State) (k : Nat) (p : Nat) (row : Nat) (i : Nat) (d : Nat), d = (s.position k p).die ∧ s.mayRebuild = true ∧ (s.mem d).state = .rebuilding ∧ (s.position k p).second = false ∧ (s.position k p).joined = 0 ∧ (s.position k p).rbrow ≤ row ∧ s.dataRows k = [row] ∧ s.rowOwner k row = some i) ∧
    (∃ (s : State) (k : Nat) (p : Nat) (row : Nat) (i : Nat) (d : Nat) (r2 : _), d = (s.position k p).die ∧ s.mayRebuild = true ∧ (s.mem d).state = .rebuilding ∧ (s.position k p).second = false ∧ (s.position k p).joined = 0 ∧ (s.position k p).rbrow ≤ row ∧ row < r2 ∧ s.dataRows k = [row, r2] ∧ s.rowOwner k row = some i) ∧
    (∃ (s : State) (m : Nat) (v : Nat), s.reaches m MSH_RSHP.GO.addr ∧ bit v 31 = false) ∧
    (∃ (s : State) (m : Nat) (v : Nat), s.reaches m MSH_RSHP.GO.addr ∧ bit v 31 = true ∧ s.reshapeOk (slice v 0 6) (slice v 8 6) = false) ∧
    (∃ (s : State) (m : Nat) (v : Nat), s.reaches m MSH_RSHP.GO.addr ∧ bit v 31 = true ∧ s.reshapeOk (slice v 0 6) (slice v 8 6) = true) ∧
    (∃ (s : State) (i : Nat), ((∀ m ∈ s.med.migr, m.index = i → m.reshape = false))) ∧
    (∃ (s : State) (i : Nat) (x : Migr), s.med.migr = [x] ∧ x.index = i ∧ x.reshape = true ∧ (x.ready = false ∨ s.hld.committed = true)) ∧
    (∃ (s : State) (i : Nat) (x : Migr), s.med.migr = [x] ∧ x.index = i ∧ x.reshape = true ∧ x.ready = true ∧ s.hld.committed = false ∧ s.med.migrWait = [] ∧ s.msh.reshape = none) ∧
    (∃ (s : State) (k : Nat) (row : Nat), (s.mayPatrol k = false ∨ s.rowOwner k row = none ∨ k * 16384 + row < s.msh.patSet * 16384 + s.msh.patRow)) ∧
    (∃ (s : State) (k : Nat) (row : Nat), s.mayPatrol k = true ∧ (s.rowOwner k row).isSome = true ∧ s.msh.patSet * 16384 + s.msh.patRow ≤ k * 16384 + row) :=
  ⟨⟨base, 4, 4095, 0, by decide +kernel, reaches_of (by decide +kernel), by decide +kernel⟩,
   ⟨posAll 4095 base, 4, 4095, 2 ^ 31, by decide +kernel, reaches_of (by decide +kernel), by decide +kernel⟩,
   ⟨base, 4, 4095, 2 ^ 32 - 1, by decide +kernel, reaches_of (by decide +kernel), by decide +kernel⟩,
   ⟨fields [(MSH_SSET.VALID 4095, 1), (ZPM_SSET.VALID 4095, 1)] base, 4, 4095, 0, by decide +kernel, reaches_of (by decide +kernel), by decide +kernel⟩,
   ⟨fields [(MSH_SSET.VALID 4095, 1)] base, 4, 4095, 0, by decide +kernel, reaches_of (by decide +kernel), by decide +kernel⟩,
   ⟨fields [(MSH_SSET.VALID 4095, 1)] base, 4, 4095, 2 ^ 32 - 1, by decide +kernel, reaches_of (by decide +kernel), by decide +kernel⟩,
   ⟨fields [(MSH_PSEL.SSET, 4095), (MSH_PSEL.POS, 65)] base, 4, 4095, 65, reaches_of (by decide +kernel), by decide +kernel⟩,
   ⟨fields [(MSH_SSET.VALID 4095, 1), (MSH_PSEL.SSET, 4095), (MSH_PSEL.POS, 65)] base, 4, 4095, 65, reaches_of (by decide +kernel), by decide +kernel⟩,
   ⟨fields [(MSH_RCPSEL.RECIPE, 15), (MSH_RCPSEL.WORD, 64)] base, 4, (fields [(MSH_RCPSEL.RECIPE, 15), (MSH_RCPSEL.WORD, 64)] base).fld MSH_RCPSEL.RECIPE, (fields [(MSH_RCPSEL.RECIPE, 15), (MSH_RCPSEL.WORD, 64)] base).fld MSH_RCPSEL.WORD, reaches_of (by decide +kernel), rfl, rfl, by decide +kernel, below_of (by decide +kernel)⟩,
   ⟨fields [(MSH_SSET.VALID 4095, 1)] base, 4, (fields [(MSH_SSET.VALID 4095, 1)] base).fld MSH_RCPSEL.RECIPE, (fields [(MSH_SSET.VALID 4095, 1)] base).fld MSH_RCPSEL.WORD, reaches_of (by decide +kernel), rfl, rfl, .inr ⟨4095, by decide +kernel, by decide +kernel, by decide +kernel⟩⟩,
   ⟨base, 4095, 65, ((base).position (4095) (65)).die, rfl, by decide +kernel⟩,
   ⟨rebuilding [15], 4095, 65, 15, 65535, ((rebuilding [15]).position (4095) (65)).die, rfl, by decide +kernel⟩,
   ⟨rebuilding [15, 16], 4095, 65, 15, 65535, ((rebuilding [15, 16]).position (4095) (65)).die, 16, rfl, by decide +kernel⟩,
   ⟨base, 4, 0, reaches_of (by decide +kernel), by decide +kernel⟩,
   ⟨base, 4, 2 ^ 32 - 1, reaches_of (by decide +kernel), by decide +kernel⟩,
   ⟨base, 4, 2 ^ 31 + 256, reaches_of (by decide +kernel), by decide +kernel⟩,
   ⟨base, 65535, by decide +kernel⟩,
   ⟨migrating { index := 1048575, reshape := true }, 1048575, { index := 1048575, reshape := true }, by decide +kernel⟩,
   ⟨migrating { index := 1048575, reshape := true, ready := true }, 1048575, { index := 1048575, reshape := true, ready := true }, by decide +kernel⟩,
   ⟨base, 4095, 15, by decide +kernel⟩,
   ⟨fields [(MSH_CTRL.EN, 1), (MSH_CTRL.PATROL_EN, 1), (MSH_SSET.VALID 4095, 1)] (rowsHeld [15] base), 4095, 15, by decide +kernel⟩⟩

/-- HoldUpManagerFollowsItsTable: a state and operands that meet the hypotheses of each clause. -/
theorem witness_HoldUpManagerFollowsItsTable :
    (∃ (s : State) (mv : Nat), s.up = true ∧ s.dnum 0x2301 0 ≤ mv) ∧
    (∃ (s : State) (mv : Nat), s.up = true ∧ mv < s.dnum 0x2301 0 ∧ s.hld.timer = false ∧ (s.hldState = hldArmed ∨ s.hldState = hldDraining)) ∧
    (∃ (s : State) (mv : Nat), s.up = true ∧ mv < s.dnum 0x2301 0 ∧ s.hld.timer = false ∧ (s.hldState = hldCharging ∨ s.hldState = hldInit)) ∧
    (∃ (s : State), s.up = true ∧ s.hld.timer = true ∧ s.hldState = hldCharging) ∧
    (∃ (s : State), s.up = true ∧ s.hld.timer = true ∧ s.hldState = hldSuspect ∧ s.drf.eng = []) ∧
    (∃ (s : State), s.up = true ∧ (s.hld.timer = false ∨ s.hldState ≠ hldCharging ∧ s.hldState ≠ hldSuspect)) ∧
    (∃ (s : State) (mv : Nat), s.up = true ∧ mv ≤ s.dnum 0x2302 0) ∧
    (∃ (s : State) (mv : Nat), s.up = true ∧ s.dnum 0x2302 0 < mv ∧ s.hld.timer = true ∧ s.hldState = hldSuspect ∧ s.hld.before = hldArmed) ∧
    (∃ (s : State) (mv : Nat), s.up = true ∧ s.dnum 0x2302 0 < mv ∧ s.hld.timer = true ∧ s.hldState = hldDumping) ∧
    (∃ (s : State), s.up = true ∧ s.ctl.waitMain = false ∧ s.hldState = hldInit ∧ s.hld.timer = false) ∧
    (∃ (s : State), s.up = true ∧ s.ctl.waitMain = false ∧ (s.hldState ≠ hldInit ∨ s.hld.timer = true)) ∧
    (∃ (s : State), s.up = true ∧ s.hldState = hldDone) ∧
    (∃ (s : State), s.up = true ∧ s.hldState ≠ hldDone) ∧
    (∃ (s : State) (m : Nat), s.reaches m HLD_CTRL.EN.addr) ∧
    (∃ (s : State) (m : Nat), s.reaches m HLD_CTRL.EN.addr ∧ (s.hldState = hldDumping ∨ s.hldState = hldDone)) ∧
    (∃ (s : State) (m : Nat) (v : Nat), s.reaches m HLD_CTRL.EN.addr ∧ s.hldState = hldArmed ∧ bit v 1 = true ∧ bit v 2 = false) ∧
    (∃ (s : State) (m : Nat) (v : Nat), s.reaches m HLD_CTRL.EN.addr ∧ s.hldState ≠ hldDumping ∧ s.hldState ≠ hldDone ∧ bit v 2 = true ∧ s.hld.timer = false ∧ s.hld.checking = false) ∧
    (∃ (s : State), s.hld.checking = false) ∧
    (∃ (s : State) (drop : Nat), s.hld.checking = true ∧ drop ≠ 0) ∧
    (∃ (s : State), s.hldState = hldArmed ∧ s.hld.checking = false) ∧
    (∃ (s : State), s.hldState ≠ hldArmed) ∧
    (∃ (s : State), s.armOk = true ∧ s.hldState = hldCharging ∧ s.hld.loaded = false ∧ s.hfe.ctx = []) ∧
    (∃ (s : State), s.armOk = false) ∧
    (∃ (s : State), s.hldState = hldDraining ∧ s.hfe.blkTub = [] ∧ s.msh.parity = [] ∧ s.hld.drainCkpt = true ∧ s.hld.drainFlush = true) ∧
    (∃ (s : State), (s.hldState ≠ hldDraining ∨ s.hfe.blkTub ≠ [] ∨ s.msh.parity ≠ [] ∨ s.hld.drainCkpt = false ∨ s.hld.drainFlush = false)) ∧
    (∃ (s : State), s.hldState = hldDumping ∧ s.hld.dumpLeft = 0) ∧
    (∃ (s : State), (s.hldState ≠ hldDumping ∨ s.hld.dumpLeft ≠ 0)) ∧
    (∃ (s : State), s.hldState = hldDone ∧ s.pow.shutPend = false) ∧
    (∃ (s : State), (s.hldState ≠ hldDone ∨ s.pow.shutPend = true)) :=
  ⟨⟨base, 65535, by decide +kernel⟩,
   ⟨fields [(HLD_STAT.STATE, 2)] base, 0, by decide +kernel⟩,
   ⟨base, 0, by decide +kernel⟩,
   ⟨fields [(HLD_STAT.STATE, 1)] (base.modHld fun h => { h with timer := true, before := 2 }), by decide +kernel⟩,
   ⟨fields [(HLD_STAT.STATE, 3)] (base.modHld fun h => { h with timer := true, before := 2 }), by decide +kernel⟩,
   ⟨base, by decide +kernel⟩,
   ⟨base, 0, by decide +kernel⟩,
   ⟨fields [(HLD_STAT.STATE, 3)] (base.modHld fun h => { h with timer := true, before := 2 }), 65535, by decide +kernel⟩,
   ⟨fields [(HLD_STAT.STATE, 5)] (base.modHld fun h => { h with timer := true, before := 2 }), 65535, by decide +kernel⟩,
   ⟨base, by decide +kernel⟩,
   ⟨fields [(HLD_STAT.STATE, 1)] base, by decide +kernel⟩,
   ⟨fields [(HLD_STAT.STATE, 6)] base, by decide +kernel⟩,
   ⟨base, by decide +kernel⟩,
   ⟨base, 4, reaches_of (by decide +kernel)⟩,
   ⟨fields [(HLD_STAT.STATE, 5)] base, 4, reaches_of (by decide +kernel), by decide +kernel⟩,
   ⟨fields [(HLD_STAT.STATE, 2)] base, 4, 2, reaches_of (by decide +kernel), by decide +kernel⟩,
   ⟨base, 4, 4, reaches_of (by decide +kernel), by decide +kernel⟩,
   ⟨base, by decide +kernel⟩,
   ⟨fields [(HLD_STAT.STATE, 0)] (base.modHld fun h => { h with checking := true }), 1, by decide +kernel⟩,
   ⟨fields [(HLD_STAT.STATE, 2)] base, by decide +kernel⟩,
   ⟨base, by decide +kernel⟩,
   ⟨usable base, by decide +kernel⟩,
   ⟨base, by decide +kernel⟩,
   ⟨fields [(HLD_STAT.STATE, 4)] (base.modHld fun h => { h with drainCkpt := true, drainFlush := true }), by decide +kernel⟩,
   ⟨base, by decide +kernel⟩,
   ⟨fields [(HLD_STAT.STATE, 5)] base, by decide +kernel⟩,
   ⟨base, by decide +kernel⟩,
   ⟨fields [(HLD_STAT.STATE, 6)] base, by decide +kernel⟩,
   ⟨base, by decide +kernel⟩⟩

/-- SramAccessesAreAtomicAndBanksAssigned: a state and operands that meet the hypotheses of each clause. -/
theorem witness_SramAccessesAreAtomicAndBanksAssigned :
    (∃ (s : State) (m : Nat) (a : Nat) (wide : Bool) (op : AmoOp), s.atomicOk m wide a ∧ op ≠ .other) ∧
    (∃ (s : State) (m : Nat) (a : Nat) (wide : Bool), s.atomicOk m wide a) ∧
    (∃ (s : State) (m : Nat) (a : Nat) (wide : Bool), s.atomicOk m wide a ∧ Tab.get none s.bus.resv m = some (a / 64)) ∧
    (∃ (s : State) (m : Nat) (a : Nat) (wide : Bool), s.atomicOk m wide a ∧ Tab.get none s.bus.resv m ≠ some (a / 64)) ∧
    (∃ (s : State) (m : Nat) (a : Nat) (c : Nat) (wide : Bool), s.masterRuns m a = true ∧ s.atomicFault m wide a = some c) ∧
    (∃ (s : State) (m : Nat) (a : Nat), s.masterRuns m a = false) ∧
    (∃ (s : State) (m : Nat) (n : Nat), n < 56 ∧ s.reaches m (MEM_BANKASN.OWNER n).addr ∧ n < 48 ∧ s.on MEM_CTRL.LOCK = false) ∧
    (∃ (s : State) (m : Nat) (n : Nat), n < 56 ∧ s.reaches m (MEM_BANKASN.OWNER n).addr ∧ (48 ≤ n ∨ s.on MEM_CTRL.LOCK = true)) ∧
    (∃ (s : State) (m : Nat) (v : Nat), s.reaches m MEM_CTRL.LOCK.addr ∧ bit v 0 = true ∧ s.on MEM_CTRL.LOCK = false ∧ s.lockOk = true) ∧
    (∃ (s : State) (m : Nat) (v : Nat), s.reaches m MEM_CTRL.LOCK.addr ∧ bit v 0 = true ∧ s.on MEM_CTRL.LOCK = false ∧ s.lockOk = false) ∧
    (∃ (s : State) (m : Nat) (v : Nat), s.reaches m MEM_CTRL.LOCK.addr ∧ (bit v 0 = false ∨ s.on MEM_CTRL.LOCK = true)) ∧
    (∃ (s : State) (m : Nat), s.reaches m MEM_CTRL.LOCK.addr) ∧
    (∃ (s : State) (m : Nat) (v : Nat) (b : Nat) (r : Nat), s.reaches m MEM_RETIRE.GO.addr ∧ b = slice v 16 6 ∧ r = slice v 0 11 ∧ bit v 31 = true ∧ b < 56 ∧ s.fld (MEM_BANKASN.SPARE b) ≠ 0) ∧
    (∃ (s : State) (m : Nat) (v : Nat) (b : Nat) (r : Nat), s.reaches m MEM_RETIRE.GO.addr ∧ b = slice v 16 6 ∧ r = slice v 0 11 ∧ bit v 31 = true ∧ (56 ≤ b ∨ s.fld (MEM_BANKASN.SPARE b) = 0)) ∧
    (∃ (s : State) (m : Nat) (v : Nat) (b : Nat) (r : Nat), s.reaches m MEM_RETIRE.GO.addr ∧ b = slice v 16 6 ∧ r = slice v 0 11 ∧ bit v 31 = false) :=
  ⟨⟨base, 3, 0x1007FFF8, true, .add, atomicOk_of (by decide +kernel), by decide +kernel⟩,
   ⟨base, 3, 0x1007FFF8, true, atomicOk_of (by decide +kernel)⟩,
   ⟨base.modBus fun b => { b with resv := [(3, some (0x1007FFF8 / 64))] }, 3, 0x1007FFF8, true, atomicOk_of (by decide +kernel), by decide +kernel⟩,
   ⟨base, 3, 0x1007FFF8, true, atomicOk_of (by decide +kernel), by decide +kernel⟩,
   ⟨base, 3, 0x1007FFF9, 1, true, by decide +kernel⟩,
   ⟨base.modMemc fun m => { m with clearing := true }, 3, 0x1007FFF8, by decide +kernel⟩,
   ⟨base, 3, 47, by decide +kernel, reaches_of (by decide +kernel), by decide +kernel⟩,
   ⟨base, 3, 55, by decide +kernel, reaches_of (by decide +kernel), by decide +kernel⟩,
   ⟨base, 3, 2 ^ 31 + 55 * 65536 + 2047, reaches_of (by decide +kernel), by decide +kernel⟩,
   ⟨fields [(MEM_BANKASN.OWNER 28, 0)] base, 3, 2 ^ 31 + 55 * 65536 + 2047, reaches_of (by decide +kernel), by decide +kernel⟩,
   ⟨base, 3, 2 ^ 31 + 56 * 65536, reaches_of (by decide +kernel), by decide +kernel⟩,
   ⟨base, 3, reaches_of (by decide +kernel)⟩,
   ⟨base, 3, 2 ^ 31 + 55 * 65536 + 2047, slice (2 ^ 31 + 55 * 65536 + 2047) 16 6, slice (2 ^ 31 + 55 * 65536 + 2047) 0 11, reaches_of (by decide +kernel), rfl, rfl, by decide +kernel⟩,
   ⟨base, 3, 2 ^ 31 + 56 * 65536, slice (2 ^ 31 + 56 * 65536) 16 6, slice (2 ^ 31 + 56 * 65536) 0 11, reaches_of (by decide +kernel), rfl, rfl, by decide +kernel⟩,
   ⟨base, 3, 1, slice (1) 16 6, slice (1) 0 11, reaches_of (by decide +kernel), rfl, rfl, by decide +kernel⟩⟩

/-- TubsAreGrantedAndReleased: a state and operands that meet the hypotheses of each clause. -/
theorem witness_TubsAreGrantedAndReleased :
    (∃ (s : State) (m : Nat) (v : Nat), s.reaches m TUB_CTRL.EN.addr ∧ bit v 0 = true ∧ s.on TUB_CTRL.EN = false ∧ s.tubEnableOk = true ∧ s.tubs.queueP = [] ∧ s.tubs.queueU = []) ∧
    (∃ (s : State) (m : Nat) (v : Nat), s.reaches m TUB_CTRL.EN.addr ∧ bit v 0 = true ∧ s.on TUB_CTRL.EN = false ∧ s.tubEnableOk = false) ∧
    (∃ (s : State) (m : Nat) (v : Nat), s.reaches m TUB_CTRL.EN.addr ∧ (bit v 0 = false ∨ s.on TUB_CTRL.EN = true)) ∧
    (∃ (s : State) (q : TubReq) (l : List Nat), s.asks q ∧ l = s.pickTubs q.prot q.n ∧ l.length = q.n ∧ l.Nodup ∧ (∀ x ∈ l, s.isJournalTub x = false) ∧ s.grantsNow q = true ∧ q.after = none) ∧
    (∃ (s : State) (q : TubReq) (l : List Nat) (x : _), s.asks q ∧ l = s.pickTubs q.prot q.n ∧ l.length = q.n ∧ l.Nodup ∧ (∀ x ∈ l, s.isJournalTub x = false) ∧ s.grantsNow q = true ∧ q.after = some x ∧ (s.tub x).owner = q.tag ∧ (s.tub x).last = true ∧ x ∉ l ∧ s.isJournalTub x = false) ∧
    (∃ (s : State) (q : TubReq) (l : List Nat) (w : List TubReq), tagOk q.tag = true ∧ 1 ≤ q.n ∧ l = s.pickTubs q.prot q.n ∧ l.length = q.n ∧ l.Nodup ∧ (∀ x ∈ l, s.isJournalTub x = false) ∧ s.tubQueue q.prot = q :: w ∧ q.after = none ∧ s.tubNeed q ≤ s.freeShared q.prot ∧ q.n ≤ s.tubsFree q.prot) ∧
    (∃ (s : State) (q : TubReq), s.asks q ∧ s.grantsNow q = false ∧ q.after = none) ∧
    (∃ (tag : Nat), tagOk tag = false) ∧
    (∃ (tag : Nat) (n : Nat), tagOk tag = true ∧ tag < 8 ∧ (n = 0 ∨ 1024 < n)) ∧
    (∃ (s : State) (tag : Nat) (x : Nat), tagOk tag = true ∧ 8 ≤ tag ∧ s.fld (TUB_RES.STATE (tag - 8)) ≠ 1 ∧ ((s.tub x).owner ≠ tag ∨ (s.tub x).last = false)) ∧
    (∃ (s : State) (prot : Bool), s.tubQueue prot = []) ∧
    (∃ (s : State) (r : Nat) (x : Nat) (l : List Nat), (s.on TUB_CTRL.EN = true ∧ (s.tub x).owner = r ∧ (s.tub x).head = true) ∧ l = s.chain 65536 x ∧ s.tubs.queueP = [] ∧ s.tubs.queueU = [] ∧ (∀ y ∈ l, s.isJournalTub y = false)) ∧
    (∃ (s : State) (r : Nat) (x : Nat) (l : List Nat), (s.on TUB_CTRL.EN = true ∧ (s.tub x).owner = r ∧ (s.tub x).last = false) ∧ l = s.chain 65536 (s.tub x).next ∧ x ∉ l ∧ s.tubs.queueP = [] ∧ s.tubs.queueU = [] ∧ (∀ y ∈ x :: l, s.isJournalTub y = false)) ∧
    (∃ (s : State) (r : Nat) (x : Nat), (s.on TUB_CTRL.EN = false ∨ (s.tub x).owner ≠ r)) ∧
    (∃ (s : State) (m : Nat) (off : Nat), s.reaches m (0x41800000 + off) ∧ off = 0x23C ∧ s.ownsTub m = true) ∧
    (∃ (s : State) (m : Nat) (off : Nat), s.reaches m (0x41800000 + off) ∧ 0x1000 ≤ off ∧ off < 0x1200 ∧ off % 4 = 0 ∧ s.ownsTub m = true) ∧
    (∃ (s : State) (m : Nat) (off : Nat), s.reaches m (0x41800000 + off) ∧ (off = 0x23C ∨ 0x1000 ≤ off ∧ off < 0x1200 ∧ off % 4 = 0) ∧ s.ownsTub m = false) :=
  ⟨⟨base, 3, 1, reaches_of (by decide +kernel), by decide +kernel⟩,
   ⟨fields [(TUB_SPLIT.P, 0)] base, 3, 1, reaches_of (by decide +kernel), by decide +kernel⟩,
   ⟨base, 3, 0, reaches_of (by decide +kernel), by decide +kernel⟩,
   ⟨tubsUp [], ({ tag := 4, prot := false, n := 2 } : TubReq), (tubsUp []).pickTubs (({ tag := 4, prot := false, n := 2 } : TubReq)).prot (({ tag := 4, prot := false, n := 2 } : TubReq)).n, asks_of (by decide +kernel), rfl, by decide +kernel⟩,
   ⟨tubsUp [(65535, { owner := 11, last := true })], ({ tag := 11, prot := false, n := 2, after := some 65535 } : TubReq), (tubsUp [(65535, { owner := 11, last := true })]).pickTubs (({ tag := 11, prot := false, n := 2, after := some 65535 } : TubReq)).prot (({ tag := 11, prot := false, n := 2, after := some 65535 } : TubReq)).n, 65535, asks_of (by decide +kernel), rfl, by decide +kernel⟩,
   ⟨(tubsUp []).modTubs fun t => { t with freshP := 6144, queueP := [{ tag := 0, prot := true, n := 1 }] }, ({ tag := 0, prot := true, n := 1 } : TubReq), ((tubsUp []).modTubs fun t => { t with freshP := 6144, queueP := [{ tag := 0, prot := true, n := 1 }] }).pickTubs (({ tag := 0, prot := true, n := 1 } : TubReq)).prot (({ tag := 0, prot := true, n := 1 } : TubReq)).n, [], by decide +kernel, by decide +kernel, rfl, by decide +kernel⟩,
   ⟨base, ({ tag := 4, prot := true, n := 1 } : TubReq), asks_of (by decide +kernel), by decide +kernel⟩,
   ⟨5, by decide +kernel⟩,
   ⟨4, 1025, by decide +kernel⟩,
   ⟨base, 11, 65535, by decide +kernel⟩,
   ⟨base, true, by decide +kernel⟩,
   ⟨tubsUp [(65535, { owner := 11, last := true, head := true })], 11, 65535, (tubsUp [(65535, { owner := 11, last := true, head := true })]).chain 65536 (65535), by decide +kernel, rfl, by decide +kernel⟩,
   ⟨tubsUp [(65534, { owner := 11, head := true, next := 65535 }), (65535, { owner := 11, last := true })], 11, 65534, (tubsUp [(65534, { owner := 11, head := true, next := 65535 }), (65535, { owner := 11, last := true })]).chain 65536 ((tubsUp [(65534, { owner := 11, head := true, next := 65535 }), (65535, { owner := 11, last := true })]).tub (65534)).next, by decide +kernel, rfl, by decide +kernel⟩,
   ⟨base, 11, 65535, by decide +kernel⟩,
   ⟨tubsUp [(65535, { owner := 11, last := true })], 3, 0x23C, reaches_of (by decide +kernel), by decide +kernel⟩,
   ⟨tubsUp [(65535, { owner := 11, last := true })], 3, 0x11FC, reaches_of (by decide +kernel), by decide +kernel⟩,
   ⟨base, 3, 0x23C, reaches_of (by decide +kernel), by decide +kernel⟩⟩

/-- CipherJobsRunAndKeysChange: a state and operands that meet the hypotheses of each clause. -/
theorem witness_CipherJobsRunAndKeysChange :
    (∃ (s : State) (m : Nat) (v : Nat) (h : Nat), s.reaches m CIP_GTAIL.TAIL.addr ∧ h = s.fld CIP_GHEAD.HEAD ∧ v % 1024 % 2 ^ s.fld CIP_GRING.LOG2 = h) ∧
    (∃ (s : State) (m : Nat) (v : Nat) (h : Nat), s.reaches m CIP_GTAIL.TAIL.addr ∧ h = s.fld CIP_GHEAD.HEAD ∧ v % 1024 % 2 ^ s.fld CIP_GRING.LOG2 ≠ h ∧ v % 1024 % 2 ^ s.fld CIP_GRING.LOG2 = (h + 1) % 2 ^ s.fld CIP_GRING.LOG2 ∧ s.cip.jobs.length < 4 ∧ s.jobRefused h = none) ∧
    (∃ (s : State) (m : Nat) (v : Nat) (h : Nat) (st : _), s.reaches m CIP_GTAIL.TAIL.addr ∧ h = s.fld CIP_GHEAD.HEAD ∧ v % 1024 % 2 ^ s.fld CIP_GRING.LOG2 ≠ h ∧ v % 1024 % 2 ^ s.fld CIP_GRING.LOG2 = (h + 1) % 2 ^ s.fld CIP_GRING.LOG2 ∧ s.cip.jobs.length < 4 ∧ s.jobRefused h = some st) ∧
    (∃ (s : State), s.nextJob 1 = none) ∧
    (∃ (s : State), s.nextJob 2 = none) ∧
    (∃ (s : State) (j : GJob) (c : Nat) (iv : Nat) (check : GcmCheck) (ct : List Nat), (s.cip.jobs = [j] ∧ s.nextJob 1 = some j ∧ s.fld CIP_GHEAD.HEAD = s.fld CIP_GTAIL.TAIL) ∧ c = s.jobCtx j.slot ∧ ((s.jobDst j.slot + s.jobLen j.slot ≤ s.jobAddr j.slot ∨ s.jobAddr j.slot + 64 ≤ s.jobDst j.slot)) ∧ ct = gcmXor (fwKey c j.gen) iv (s.bytes (s.jobSrc j.slot + s.jobAad j.slot) (s.jobLen j.slot)) ∧ check ≠ .mismatchTwice ∧ ((j.iv = some iv ∨ j.iv = none ∧ (s.gctx c).needs = false ∧ iv = (2 ^ 31 + c) * 2 ^ 64 + (s.gctx c).window.getD 0 * 2 ^ 24 + (s.gctx c).k))) ∧
    (∃ (s : State) (j : GJob) (c : Nat) (iv : Nat) (ct : List Nat), (s.cip.jobs = [j] ∧ s.nextJob 1 = some j ∧ s.fld CIP_GHEAD.HEAD = s.fld CIP_GTAIL.TAIL) ∧ c = s.jobCtx j.slot ∧ ((s.jobDst j.slot + s.jobLen j.slot ≤ s.jobAddr j.slot ∨ s.jobAddr j.slot + 64 ≤ s.jobDst j.slot)) ∧ ct = gcmXor (fwKey c j.gen) iv (s.bytes (s.jobSrc j.slot + s.jobAad j.slot) (s.jobLen j.slot)) ∧ j.iv = none ∧ (s.gctx c).needs = true ∧ s.dnum 0x8001 0 < Tab.get 0 s.cip.wcount c + 1) ∧
    (∃ (s : State) (j : GJob) (c : Nat) (iv : Nat) (ct : List Nat), (s.cip.jobs = [j] ∧ s.nextJob 1 = some j ∧ s.fld CIP_GHEAD.HEAD = s.fld CIP_GTAIL.TAIL) ∧ c = s.jobCtx j.slot ∧ ((s.jobDst j.slot + s.jobLen j.slot ≤ s.jobAddr j.slot ∨ s.jobAddr j.slot + 64 ≤ s.jobDst j.slot)) ∧ ct = gcmXor (fwKey c j.gen) iv (s.bytes (s.jobSrc j.slot + s.jobAad j.slot) (s.jobLen j.slot)) ∧ j.iv = some iv) ∧
    (∃ (s : State) (j : GJob) (key : Nat) (iv : Nat) (_ : GcmCheck) (ct : List Nat), s.cip.jobs = [j] ∧ s.nextJob 2 = some j ∧ s.fld CIP_GHEAD.HEAD = s.fld CIP_GTAIL.TAIL ∧ key = fwKey (s.jobCtx j.slot) j.gen ∧ iv = s.jobWord j.slot 7 * 2 ^ 64 + s.jobWord j.slot 8 * 2 ^ 32 + s.jobWord j.slot 9 ∧ ct = s.bytes (s.jobSrc j.slot + s.jobAad j.slot) (s.jobLen j.slot) ∧ (Config.gcmTag key iv (s.bytes (s.jobSrc j.slot) (s.jobAad j.slot)) ct).toNat ≠ s.jobTag j.slot) ∧
    (∃ (s : State) (j : GJob) (key : Nat) (iv : Nat) (check : GcmCheck) (ct : List Nat), s.cip.jobs = [j] ∧ s.nextJob 2 = some j ∧ s.fld CIP_GHEAD.HEAD = s.fld CIP_GTAIL.TAIL ∧ key = fwKey (s.jobCtx j.slot) j.gen ∧ iv = s.jobWord j.slot 7 * 2 ^ 64 + s.jobWord j.slot 8 * 2 ^ 32 + s.jobWord j.slot 9 ∧ ct = s.bytes (s.jobSrc j.slot + s.jobAad j.slot) (s.jobLen j.slot) ∧ (Config.gcmTag key iv (s.bytes (s.jobSrc j.slot) (s.jobAad j.slot)) ct).toNat = s.jobTag j.slot ∧ check ≠ .mismatchTwice ∧ (s.jobDst j.slot + s.jobLen j.slot ≤ s.jobAddr j.slot ∨ s.jobAddr j.slot + 64 ≤ s.jobDst j.slot)) ∧
    (∃ (s : State) (m : Nat) (v : Nat) (c : Nat), s.reaches m CIP_REKEY.GO.addr ∧ c = slice v 0 8 ∧ bit v 31 = false) ∧
    (∃ (s : State) (m : Nat) (v : Nat) (c : Nat), s.reaches m CIP_REKEY.GO.addr ∧ c = slice v 0 8 ∧ bit v 31 = true ∧ c < 64) ∧
    (∃ (s : State) (m : Nat) (v : Nat) (c : Nat), s.reaches m CIP_REKEY.GO.addr ∧ c = slice v 0 8 ∧ bit v 31 = true ∧ 64 ≤ c ∧ s.cip.jobs = [] ∧ s.fld CIP_GHEAD.HEAD = s.fld CIP_GTAIL.TAIL) ∧
    (∃ (s : State) (m : Nat), s.reaches m CIP_RNG.WORD.addr ∧ s.on CIP_STAT.RNGOK = true) ∧
    (∃ (s : State) (m : Nat), s.reaches m CIP_RNG.WORD.addr ∧ s.on CIP_STAT.RNGOK = false) ∧
    (∃ (s : State) (m : Nat), s.reaches m CIP_LEASE.HOLD.addr ∧ s.secure m = false) ∧
    (∃ (s : State) (m : Nat), s.reaches m CIP_LEASE.HOLD.addr ∧ s.secure m = true) :=
  ⟨⟨job 1 255 base, 4, 15, (job 1 255 base).fld CIP_GHEAD.HEAD, reaches_of (by decide +kernel), rfl, by decide +kernel⟩,
   ⟨job 1 255 base, 4, 0, (job 1 255 base).fld CIP_GHEAD.HEAD, reaches_of (by decide +kernel), rfl, by decide +kernel⟩,
   ⟨job 1 63 base, 4, 0, (job 1 63 base).fld CIP_GHEAD.HEAD, gcmDenied, reaches_of (by decide +kernel), rfl, by decide +kernel⟩,
   ⟨job 1 255 base, by decide +kernel⟩,
   ⟨job 1 255 base, by decide +kernel⟩,
   ⟨jobs 1 255 { slot := 15, iv := some 7 }, ({ slot := 15, iv := some 7 } : GJob), (jobs 1 255 { slot := 15, iv := some 7 }).jobCtx (({ slot := 15, iv := some 7 } : GJob)).slot, 7, .mismatchOnce, gcmXor (fwKey ((jobs 1 255 { slot := 15, iv := some 7 }).jobCtx (({ slot := 15, iv := some 7 } : GJob)).slot) (({ slot := 15, iv := some 7 } : GJob)).gen) (7) ((jobs 1 255 { slot := 15, iv := some 7 }).bytes ((jobs 1 255 { slot := 15, iv := some 7 }).jobSrc (({ slot := 15, iv := some 7 } : GJob)).slot + (jobs 1 255 { slot := 15, iv := some 7 }).jobAad (({ slot := 15, iv := some 7 } : GJob)).slot) ((jobs 1 255 { slot := 15, iv := some 7 }).jobLen (({ slot := 15, iv := some 7 } : GJob)).slot)), by decide +kernel, rfl, by decide +kernel, rfl, by decide +kernel⟩,
   ⟨(jobs 1 255 { slot := 15 }).modCip fun c => { c with wcount := [(255, 2 ^ 32)] }, ({ slot := 15 } : GJob), ((jobs 1 255 { slot := 15 }).modCip fun c => { c with wcount := [(255, 2 ^ 32)] }).jobCtx (({ slot := 15 } : GJob)).slot, 7, gcmXor (fwKey (((jobs 1 255 { slot := 15 }).modCip fun c => { c with wcount := [(255, 2 ^ 32)] }).jobCtx (({ slot := 15 } : GJob)).slot) (({ slot := 15 } : GJob)).gen) (7) (((jobs 1 255 { slot := 15 }).modCip fun c => { c with wcount := [(255, 2 ^ 32)] }).bytes (((jobs 1 255 { slot := 15 }).modCip fun c => { c with wcount := [(255, 2 ^ 32)] }).jobSrc (({ slot := 15 } : GJob)).slot + ((jobs 1 255 { slot := 15 }).modCip fun c => { c with wcount := [(255, 2 ^ 32)] }).jobAad (({ slot := 15 } : GJob)).slot) (((jobs 1 255 { slot := 15 }).modCip fun c => { c with wcount := [(255, 2 ^ 32)] }).jobLen (({ slot := 15 } : GJob)).slot)), by decide +kernel, rfl, by decide +kernel, rfl, by decide +kernel⟩,
   ⟨jobs 1 255 { slot := 15, iv := some 7 }, ({ slot := 15, iv := some 7 } : GJob), (jobs 1 255 { slot := 15, iv := some 7 }).jobCtx (({ slot := 15, iv := some 7 } : GJob)).slot, 7, gcmXor (fwKey ((jobs 1 255 { slot := 15, iv := some 7 }).jobCtx (({ slot := 15, iv := some 7 } : GJob)).slot) (({ slot := 15, iv := some 7 } : GJob)).gen) (7) ((jobs 1 255 { slot := 15, iv := some 7 }).bytes ((jobs 1 255 { slot := 15, iv := some 7 }).jobSrc (({ slot := 15, iv := some 7 } : GJob)).slot + (jobs 1 255 { slot := 15, iv := some 7 }).jobAad (({ slot := 15, iv := some 7 } : GJob)).slot) ((jobs 1 255 { slot := 15, iv := some 7 }).jobLen (({ slot := 15, iv := some 7 } : GJob)).slot)), by decide +kernel, rfl, by decide +kernel, rfl, by decide +kernel⟩,
   tagJob_differs,
   tagJob_agrees,
   ⟨job 1 255 base, 4, 15, slice (15) 0 8, reaches_of (by decide +kernel), rfl, by decide +kernel⟩,
   ⟨job 1 255 base, 4, 2 ^ 31 + 63, slice (2 ^ 31 + 63) 0 8, reaches_of (by decide +kernel), rfl, by decide +kernel⟩,
   ⟨job 1 255 base, 4, 2 ^ 31 + 255, slice (2 ^ 31 + 255) 0 8, reaches_of (by decide +kernel), rfl, by decide +kernel⟩,
   ⟨fields [(CIP_STAT.RNGOK, 1)] base, 4, reaches_of (by decide +kernel), by decide +kernel⟩,
   ⟨job 1 255 base, 4, reaches_of (by decide +kernel), by decide +kernel⟩,
   ⟨job 1 255 base, 3, reaches_of (by decide +kernel), by decide +kernel⟩,
   ⟨job 1 255 base, 4, reaches_of (by decide +kernel), by decide +kernel⟩⟩

/-- StartUpFollowsItsSteps: a state and operands that meet the hypotheses of each clause. -/
theorem witness_StartUpFollowsItsSteps :
    (∃ (s : State), s.ctl.vaon = false) ∧
    (∃ (s : State), s.ctl.vaon = true) ∧
    (∃ (s : State) (i : Nat), i < 8 ∧ bit s.ctl.pwrseq i = true ∧ bit s.ctl.pgood i = false ∧ i < 7) ∧
    (∃ (s : State) (i : Nat), i < 8 ∧ bit s.ctl.pwrseq i = true ∧ bit s.ctl.pgood i = false) ∧
    (∃ (s : State) (i : Nat), i < 8 ∧ (bit s.ctl.pwrseq i = false ∨ bit s.ctl.pgood i = true)) ∧
    (∃ (s : State), s.ctl.pwrseq = 0xFF ∧ s.ctl.pgood = 0x7F) ∧
    (∃ (s : State), s.ctl.retry = true ∧ s.saf.startHold = false) ∧
    (∃ (s : State), s.ctl.retry = false ∧ s.saf.startHold = false) ∧
    (∃ (s : State), s.saf.startHold = true ∧ s.up = true) ∧
    (∃ (s : State), s.up = true ∧ s.memc.clearing = true) ∧
    (∃ (s : State), (s.up = false ∨ s.memc.clearing = false)) ∧
    (∃ (s : State) (x0 : Source) (i : Image), s.mayBoot ∧ x0 = .image i ∧ s.accepts x0 = true) ∧
    (∃ (s : State) (x0 : Source) (x1 : Source) (i : Image), s.mayBoot ∧ s.accepts x0 = false ∧ x1 = .image i ∧ s.accepts x1 = true) ∧
    (∃ (s : State) (x0 : Source) (x1 : Source) (a : Source) (i : Image), s.mayBoot ∧ (grpUntrained ≤ s.grp 0 ∧ s.accepts x0 = false ∧ s.accepts x1 = false) ∧ a = .image i ∧ s.accepts a = true) ∧
    (∃ (s : State) (x0 : Source) (x1 : Source) (a : Source) (b : Source) (i : Image), s.mayBoot ∧ (grpUntrained ≤ s.grp 0 ∧ s.accepts x0 = false ∧ s.accepts x1 = false ∧ s.accepts a = false) ∧ b = .image i ∧ s.accepts b = true) ∧
    (∃ (s : State) (x0 : Source) (x1 : Source) (a : Source) (b : Source), s.mayBoot ∧ grpUntrained ≤ s.grp 0 ∧ s.accepts x0 = false ∧ s.accepts x1 = false ∧ s.accepts a = false ∧ s.accepts b = false) ∧
    (∃ (s : State), (s.bootStep ≠ 6 ∨ s.up = false ∨ s.memc.clearing = true)) ∧
    (∃ (s : State), s.up = true ∧ 8 ≤ s.bootStep ∧ s.bootStep ≤ 10 ∧ s.grp 1 = grpUntrained ∧ s.grp 2 = grpUntrained) ∧
    (∃ (s : State), (s.bootStep < 8 ∨ 10 < s.bootStep ∨ s.grp 1 ≠ grpUntrained ∨ s.grp 2 ≠ grpUntrained)) ∧
    (∃ (s : State), s.up = true ∧ s.on MEM_CTRL.LOCK = true ∧ s.grp 1 = grpReady ∧ s.grp 2 = grpReady ∧ 12 ≤ s.bootStep ∧ s.bootStep < 15) ∧
    (∃ (s : State), (s.on MEM_CTRL.LOCK = false ∨ s.bootStep < 12 ∨ 15 ≤ s.bootStep)) ∧
    (∃ (s : State) (crc : Bool) (k : _), s.up = true ∧ s.bootStep = 15 ∧ s.on TUB_CTRL.EN = true ∧ s.dumpReady = true ∧ s.replayable = some k ∧ crc = true ∧ s.on HLD_DUMP.INCOMPLETE = false) ∧
    (∃ (s : State) (crc : Bool), s.up = true ∧ s.bootStep = 15 ∧ s.on TUB_CTRL.EN = true ∧ s.dumpReady = true ∧ s.dumpSlots ≠ [] ∧ (s.replayable = none ∨ crc = false) ∧ s.on HLD_DUMP.INCOMPLETE = false) ∧
    (∃ (s : State), s.up = true ∧ s.bootStep = 15 ∧ s.on TUB_CTRL.EN = true ∧ s.dumpReady = true ∧ s.dumpSlots = []) ∧
    (∃ (s : State), s.up = true ∧ s.bootStep = 15 ∧ s.dumpSlots = [] ∧ s.hld.loaded = false) ∧
    (∃ (s : State), s.up = true ∧ s.bootStep = 16 ∧ s.hld.loaded = true) ∧
    (∃ (s : State), s.up = true ∧ (s.bootStep < 15 ∨ 16 < s.bootStep)) ∧
    (∃ (s : State), s.up = true ∧ s.bootStep = 17 ∧ s.hld.loaded = true) ∧
    (∃ (s : State), s.up = true ∧ s.bootStep = 17 ∧ s.hld.loaded = false) ∧
    (∃ (s : State), s.up = true ∧ s.bootStep ≠ 17) :=
  ⟨⟨base.modCtl fun c => { c with vaon := false }, by decide +kernel⟩,
   ⟨base, by decide +kernel⟩,
   ⟨base.modCtl fun c => { c with pgood := 0xBF }, 6, by decide +kernel⟩,
   ⟨base.modCtl fun c => { c with pgood := 0x7F }, 7, by decide +kernel⟩,
   ⟨base, 6, by decide +kernel⟩,
   ⟨base.modCtl fun c => { c with pgood := 0x7F }, by decide +kernel⟩,
   ⟨base.modCtl fun c => { c with retry := true }, by decide +kernel⟩,
   ⟨base, by decide +kernel⟩,
   ⟨base.modSaf fun c => { c with startHold := true }, by decide +kernel⟩,
   ⟨base.modMemc fun m => { m with clearing := true }, by decide +kernel⟩,
   ⟨base, by decide +kernel⟩,
   ⟨base, .image (img), img, mayBoot_of (by decide +kernel), rfl, by decide +kernel⟩,
   ⟨base, .absent, .image (img), img, mayBoot_of (by decide +kernel), by decide +kernel, rfl, by decide +kernel⟩,
   ⟨grpAt 0 2 base, .absent, .absent, .image (img), img, mayBoot_of (by decide +kernel), by decide +kernel, rfl, by decide +kernel⟩,
   ⟨grpAt 0 2 base, .absent, .absent, .absent, .image (img), img, mayBoot_of (by decide +kernel), by decide +kernel, rfl, by decide +kernel⟩,
   ⟨grpAt 0 2 base, .absent, .absent, .absent, .absent, mayBoot_of (by decide +kernel), by decide +kernel⟩,
   ⟨base.modCtl fun c => { c with pgood := 0x7F }, by decide +kernel⟩,
   ⟨boot 10 (grpAt 1 2 (grpAt 2 2 base)), by decide +kernel⟩,
   ⟨base, by decide +kernel⟩,
   ⟨fields [(MEM_CTRL.LOCK, 1)] (boot 14 (grpAt 1 3 (grpAt 2 3 base))), by decide +kernel⟩,
   ⟨base, by decide +kernel⟩,
   ⟨lead 3 (slots { erased := false, gen := 1, trailers := 62 } base), true, 1, by decide +kernel⟩,
   ⟨lead 3 (slots { erased := false, gen := 1, trailers := 62 } base), false, by decide +kernel⟩,
   ⟨lead 3 (fields [(TUB_CTRL.EN, 1)] (boot 15 base)), by decide +kernel⟩,
   ⟨boot 15 base, by decide +kernel⟩,
   ⟨(boot 16 base).modHld fun h => { h with loaded := true }, by decide +kernel⟩,
   ⟨base, by decide +kernel⟩,
   ⟨(boot 17 base).modHld fun h => { h with loaded := true }, by decide +kernel⟩,
   ⟨boot 17 base, by decide +kernel⟩,
   ⟨base, by decide +kernel⟩⟩

/-- CoresEventsAndRestartsFollowTheirWrites: a state and operands that meet the hypotheses of each clause. -/
theorem witness_CoresEventsAndRestartsFollowTheirWrites :
    (∃ (s : State) (m : Nat) (v : Nat) (n : Nat), s.reaches m SYS_CORECTL.RUN.addr ∧ n < 4 ∧ slice v 8 4 = 0 ∧ slice v 0 4 = 2 ^ n ∧ 12 ≤ s.bootStep ∧ bit (s.fld SYS_CORECTL.RUN) n = false ∧ n ∉ s.saf.lastingCores) ∧
    (∃ (s : State) (m : Nat) (v : Nat) (n : Nat), s.reaches m SYS_CORECTL.RUN.addr ∧ n < 4 ∧ slice v 8 4 = 0 ∧ slice v 0 4 = 2 ^ n ∧ (s.bootStep < 12 ∨ bit (s.fld SYS_CORECTL.RUN) n = true ∨ n ∈ s.saf.lastingCores)) ∧
    (∃ (s : State) (m : Nat) (v : Nat) (n : Nat), s.reaches m SYS_CORECTL.RUN.addr ∧ n < 4 ∧ slice v 0 4 = 0 ∧ slice v 8 4 = 2 ^ n ∧ s.tubs.queueP = [] ∧ s.tubs.queueU = [] ∧ (n ≠ 0 ∨ (∃ k, k < 4 ∧ 0 < k ∧ bit (s.fld SYS_CORECTL.RUN) k = true))) ∧
    (∃ (s : State) (m : Nat) (v : Nat) (n : Nat), s.reaches m SYS_CORECTL.RUN.addr ∧ n < 4 ∧ slice v 0 4 = 0 ∧ slice v 8 4 = 2 ^ n ∧ s.tubs.queueP = [] ∧ s.tubs.queueU = [] ∧ n = 0 ∧ s.fld SYS_CORECTL.RUN = 1 ∧ 12 ≤ s.bootStep ∧ 0 ∉ s.saf.lastingCores) ∧
    (∃ (s : State) (m : Nat) (v : Nat), s.reaches m SYS_RSTCTL.RESTART.addr ∧ bit v 31 = true ∧ m ≤ 4 ∧ (s.hldState = hldInit ∨ s.hldState = hldCharging)) ∧
    (∃ (s : State) (m : Nat) (v : Nat), s.reaches m SYS_RSTCTL.RESTART.addr ∧ bit v 31 = true ∧ m ≤ 4 ∧ s.hldState ≠ hldInit ∧ s.hldState ≠ hldCharging) ∧
    (∃ (s : State) (m : Nat) (v : Nat), s.reaches m SYS_RSTCTL.RESTART.addr ∧ (bit v 31 = false ∨ 4 < m)) ∧
    (∃ (s : State) (m : Nat) (x : Nat) (n : _), x < 6 ∧ s.reaches m (EVT_CLAIM.VALID x).addr ∧ n < 512 ∧ m = x ∧ s.on (EVT_SRC.PEND n) = true ∧ s.on (EVT_SRC.EN n) = true ∧ s.fld (EVT_SRC.TARGET n) = x ∧ ((∀ j, j < n → s.on (EVT_SRC.PEND j) = false ∨ s.on (EVT_SRC.EN j) = false ∨ s.fld (EVT_SRC.TARGET j) ≠ x))) ∧
    (∃ (s : State) (m : Nat) (x : Nat), x < 6 ∧ s.reaches m (EVT_CLAIM.VALID x).addr ∧ (m ≠ x ∨ (∀ j, j < 512 → s.on (EVT_SRC.PEND j) = false ∨ s.on (EVT_SRC.EN j) = false ∨ s.fld (EVT_SRC.TARGET j) ≠ x))) ∧
    (∃ (x : Nat), 6 ≤ x) ∧
    (∃ (s : State) (m : Nat) (v : Nat) (n : Nat), s.reaches m EVT_SWTRIG.SOURCE.addr ∧ n = slice v 0 9 ∧ 480 ≤ n) ∧
    (∃ (s : State) (m : Nat) (v : Nat) (n : Nat), s.reaches m EVT_SWTRIG.SOURCE.addr ∧ n = slice v 0 9 ∧ n < 480) ∧
    (∃ (s : State) (m : Nat) (v : Nat) (f : Nat) (type : Nat) (info : Nat) (log : Nat) (e : Nat), s.reaches m EVT_AEN.TYPE.addr ∧ f = slice v 0 9 ∧ type = slice v 29 3 ∧ info = slice v 21 8 ∧ log = slice v 13 8 ∧ e = log * 65536 + info * 256 + type ∧ bit v 12 = false ∧ s.fnExists f = true ∧ (s.fn f).en = true ∧ aenEnabled (Tab.get 0 (s.fn f).feats 0x0B) type info = true ∧ (s.fn f).aers = [] ∧ e ∉ (s.fn f).events ∧ (s.fn f).events.length < 16) ∧
    (∃ (s : State) (m : Nat) (v : Nat) (f : Nat) (type : Nat) (info : Nat) (log : Nat) (e : Nat), s.reaches m EVT_AEN.TYPE.addr ∧ f = slice v 0 9 ∧ type = slice v 29 3 ∧ info = slice v 21 8 ∧ log = slice v 13 8 ∧ e = log * 65536 + info * 256 + type ∧ bit v 12 = false ∧ s.fnExists f = true ∧ (s.fn f).en = true ∧ aenEnabled (Tab.get 0 (s.fn f).feats 0x0B) type info = true ∧ (s.fn f).aers = [] ∧ (e ∈ (s.fn f).events ∨ 16 ≤ (s.fn f).events.length)) ∧
    (∃ (s : State) (m : Nat) (v : Nat) (f : Nat) (type : Nat) (info : Nat) (log : Nat) (e : Nat) (c : _) (tk : _) (rest : List (Nat × Nat)), s.reaches m EVT_AEN.TYPE.addr ∧ f = slice v 0 9 ∧ type = slice v 29 3 ∧ info = slice v 21 8 ∧ log = slice v 13 8 ∧ e = log * 65536 + info * 256 + type ∧ bit v 12 = false ∧ s.fnExists f = true ∧ (s.fn f).en = true ∧ aenEnabled (Tab.get 0 (s.fn f).feats 0x0B) type info = true ∧ (s.fn f).aers = (c, tk) :: rest ∧ (s.fn f).events = [] ∧ (s.fn f).masked = [] ∧ s.cqRoom f 0 = true) ∧
    (∃ (s : State) (m : Nat) (v : Nat) (f : Nat) (type : Nat) (info : Nat) (log : Nat) (e : Nat), s.reaches m EVT_AEN.TYPE.addr ∧ f = slice v 0 9 ∧ type = slice v 29 3 ∧ info = slice v 21 8 ∧ log = slice v 13 8 ∧ e = log * 65536 + info * 256 + type ∧ bit v 12 = false ∧ (s.fnExists f = false ∨ (s.fn f).en = false ∨ aenEnabled (Tab.get 0 (s.fn f).feats 0x0B) type info = false)) ∧
    (∃ (s : State) (m : Nat) (v : Nat) (f : Nat) (type : Nat) (info : Nat) (log : Nat) (e : Nat), s.reaches m EVT_AEN.TYPE.addr ∧ f = slice v 0 9 ∧ type = slice v 29 3 ∧ info = slice v 21 8 ∧ log = slice v 13 8 ∧ e = log * 65536 + info * 256 + type ∧ bit v 12 = true) :=
  ⟨⟨boot 12 base, 5, 8, 3, reaches_of (by decide +kernel), by decide +kernel⟩,
   ⟨base, 5, 8, 3, reaches_of (by decide +kernel), by decide +kernel⟩,
   ⟨base, 5, 0x800, 3, reaches_of (by decide +kernel), by decide +kernel⟩,
   ⟨fields [(SYS_CORECTL.RUN, 1)] (boot 12 base), 5, 0x100, 0, reaches_of (by decide +kernel), by decide +kernel⟩,
   ⟨base, 4, 2 ^ 31, reaches_of (by decide +kernel), by decide +kernel⟩,
   ⟨fields [(HLD_STAT.STATE, 2)] base, 4, 2 ^ 31, reaches_of (by decide +kernel), by decide +kernel⟩,
   ⟨base, 5, 8, reaches_of (by decide +kernel), by decide +kernel⟩,
   ⟨fields [(EVT_SRC.PEND 511, 1), (EVT_SRC.EN 511, 1), (EVT_SRC.TARGET 511, 5)] base, 5, 5, 511, by decide +kernel, reaches_of (by decide +kernel), by decide +kernel⟩,
   ⟨base, 5, 5, by decide +kernel, reaches_of (by decide +kernel), by decide +kernel⟩,
   ⟨6, by decide +kernel⟩,
   ⟨base, 5, 511, 511, reaches_of (by decide +kernel), by decide +kernel⟩,
   ⟨base, 5, 0x800, 0, reaches_of (by decide +kernel), by decide +kernel⟩,
   ⟨host, 5, 0x800, slice (0x800) 0 9, slice (0x800) 29 3, slice (0x800) 21 8, slice (0x800) 13 8, (slice (0x800) 13 8) * 65536 + (slice (0x800) 21 8) * 256 + (slice (0x800) 29 3), reaches_of (by decide +kernel), rfl, rfl, rfl, rfl, rfl, by decide +kernel⟩,
   ⟨host.modFn 0 fun x => { x with events := [0] }, 5, 0x800, slice (0x800) 0 9, slice (0x800) 29 3, slice (0x800) 21 8, slice (0x800) 13 8, (slice (0x800) 13 8) * 65536 + (slice (0x800) 21 8) * 256 + (slice (0x800) 29 3), reaches_of (by decide +kernel), rfl, rfl, rfl, rfl, rfl, by decide +kernel⟩,
   ⟨host.modFn 0 fun x => { x with aers := [(9, 1)] }, 5, 0x800, slice (0x800) 0 9, slice (0x800) 29 3, slice (0x800) 21 8, slice (0x800) 13 8, (slice (0x800) 13 8) * 65536 + (slice (0x800) 21 8) * 256 + (slice (0x800) 29 3), 9, 1, [], reaches_of (by decide +kernel), rfl, rfl, rfl, rfl, rfl, by decide +kernel⟩,
   ⟨base, 5, 8, slice (8) 0 9, slice (8) 29 3, slice (8) 21 8, slice (8) 13 8, (slice (8) 13 8) * 65536 + (slice (8) 21 8) * 256 + (slice (8) 29 3), reaches_of (by decide +kernel), rfl, rfl, rfl, rfl, rfl, by decide +kernel⟩,
   ⟨base, 5, 4096, slice (4096) 0 9, slice (4096) 29 3, slice (4096) 21 8, slice (4096) 13 8, (slice (4096) 13 8) * 65536 + (slice (4096) 21 8) * 256 + (slice (4096) 29 3), reaches_of (by decide +kernel), rfl, rfl, rfl, rfl, rfl, by decide +kernel⟩⟩

/-- RecordsAreTakenFlushedAndFetched: a state and operands that meet the hypotheses of each clause. -/
theorem witness_RecordsAreTakenFlushedAndFetched :
    (∃ (s : State) (m : Nat), s.reaches m TLY_CTRL.SNAP.addr) ∧
    (∃ (s : State) (m : Nat) (p : Snap), s.reaches m TLY_VAL.VALUE.addr ∧ s.snap (s.fld TLY_SEL.AGE) = some p) ∧
    (∃ (s : State) (m : Nat), s.reaches m TLY_VAL.VALUE.addr ∧ s.snap (s.fld TLY_SEL.AGE) = none) ∧
    (∃ (s : State) (m : Nat) (v : Nat) (n : Nat), s.reaches m EVR_TRIG.GO.addr ∧ n = slice v 0 16 ∧ (bit v 31 = false ∨ s.triggers 3 (fun a => a == n) = [])) ∧
    (∃ (s : State) (m : Nat) (v : Nat) (n : Nat) (k : Nat), s.reaches m EVR_TRIG.GO.addr ∧ n = slice v 0 16 ∧ bit v 31 = true ∧ s.triggers 3 (fun a => a == n) = [k] ∧ k ∈ s.evr.fired) ∧
    (∃ (s : State) (m : Nat) (v : Nat) (n : Nat) (k : Nat), s.reaches m EVR_TRIG.GO.addr ∧ n = slice v 0 16 ∧ bit v 31 = true ∧ s.triggers 3 (fun a => a == n) = [k] ∧ k ∉ s.evr.fired ∧ s.dnum (0x6010 + k) 4 ≠ 1 ∧ s.evr.scanned = true ∧ s.evr.ring.length + s.evr.early.length < 1024 ∧ s.evr.ring.length + 1 < s.dnum 0x6008 0) ∧
    (∃ (s : State) (m : Nat) (v : Nat) (n : Nat) (k : Nat), s.reaches m EVR_TRIG.GO.addr ∧ n = slice v 0 16 ∧ bit v 31 = true ∧ s.triggers 3 (fun a => a == n) = [k] ∧ k ∉ s.evr.fired ∧ s.dnum (0x6010 + k) 4 ≠ 1 ∧ s.evr.scanned = true ∧ 1024 ≤ s.evr.ring.length + s.evr.early.length) ∧
    (∃ (s : State) (m : Nat) (v : Nat), s.reaches m EVR_CTRL.EN.addr ∧ bit v 1 = true ∧ bit v 2 = false ∧ bit v 3 = false ∧ s.on EVR_STAT.BUSY = true) ∧
    (∃ (s : State) (m : Nat) (v : Nat), s.reaches m EVR_CTRL.EN.addr ∧ bit v 1 = true ∧ bit v 2 = false ∧ bit v 3 = false ∧ s.on EVR_STAT.BUSY = false ∧ s.areasOk = false) ∧
    (∃ (s : State) (m : Nat) (v : Nat), s.reaches m EVR_CTRL.EN.addr ∧ bit v 1 = true ∧ bit v 2 = false ∧ bit v 3 = false ∧ s.on EVR_STAT.BUSY = false ∧ s.areasOk = true ∧ s.evr.ring = []) ∧
    (∃ (s : State) (m : Nat) (v : Nat), s.reaches m EVR_CTRL.EN.addr ∧ bit v 1 = true ∧ bit v 2 = false ∧ bit v 3 = false ∧ s.on EVR_STAT.BUSY = false ∧ s.areasOk = true ∧ s.evr.ring ≠ [] ∧ s.grp 3 ≠ groupReady) ∧
    (∃ (s : State) (m : Nat) (v : Nat), s.reaches m EVR_CTRL.EN.addr ∧ bit v 1 = true ∧ bit v 2 = false ∧ bit v 3 = false ∧ s.on EVR_STAT.BUSY = false ∧ s.areasOk = true ∧ s.evr.ring ≠ [] ∧ s.grp 3 = groupReady) ∧
    (∃ (s : State), s.up = true ∧ s.on EVR_STAT.BUSY = false ∧ s.areasOk = true ∧ s.evr.ring ≠ [] ∧ s.grp 3 = groupReady) ∧
    (∃ (s : State), s.up = true ∧ s.on EVR_STAT.BUSY = false ∧ s.areasOk = false) ∧
    (∃ (s : State), s.up = false) ∧
    (∃ (s : State) (m : Nat) (v : Nat), s.reaches m EVR_CTRL.EN.addr ∧ bit v 1 = false ∧ bit v 2 = true ∧ bit v 3 = false) ∧
    (∃ (s : State) (m : Nat) (v : Nat) (r : Rec), s.reaches m EVR_CTRL.EN.addr ∧ bit v 1 = false ∧ bit v 2 = false ∧ bit v 3 = true ∧ r ∈ s.heldRecs ∧ s.fld EVR_CUR.SEQ < r.seq ∧ ((∀ x ∈ s.heldRecs, s.fld EVR_CUR.SEQ < x.seq → r.seq ≤ x.seq))) ∧
    (∃ (s : State) (m : Nat) (v : Nat), s.reaches m EVR_CTRL.EN.addr ∧ bit v 1 = false ∧ bit v 2 = false ∧ bit v 3 = true ∧ (∀ x ∈ s.heldRecs, x.seq ≤ s.fld EVR_CUR.SEQ)) ∧
    (∃ (s : State) (m : Nat) (lo : Nat), s.reaches m (EVR_CUR.SEQ.addr + 4) ∧ (Tab.get none s.bus.staged (EVR_CUR.SEQ.addr * 16 + m) = some lo ∨ Tab.get none s.bus.staged (EVR_CUR.SEQ.addr * 16 + m) = none ∧ lo = s.fld EVR_CUR.SEQ)) ∧
    (∃ (s : State) (q : Nat) (r : Rec), s.up = true ∧ s.fld EVR_WST.STATE = wstFetching ∧ q = s.fld EVR_CUR.SEQ ∧ s.heldRecs.find? (fun x => x.seq == q) = some r) ∧
    (∃ (s : State) (q : Nat), s.up = true ∧ s.fld EVR_WST.STATE = wstFetching ∧ q = s.fld EVR_CUR.SEQ ∧ (∀ r ∈ s.heldRecs, r.seq ≠ q)) ∧
    (∃ (s : State), s.fld EVR_WST.STATE ≠ wstFetching) :=
  ⟨⟨base, 3, reaches_of (by decide +kernel)⟩,
   ⟨base.modTly fun t => { t with snaps := [{}] }, 3, {}, reaches_of (by decide +kernel), by decide +kernel⟩,
   ⟨base, 3, reaches_of (by decide +kernel), by decide +kernel⟩,
   ⟨base, 3, 2 ^ 31 + 65535, slice (2 ^ 31 + 65535) 0 16, reaches_of (by decide +kernel), rfl, by decide +kernel⟩,
   ⟨((fields [(EVR_CTRL.EN, 1)] base).modMgt fun m => { m with dict := Tab.set none (Tab.set none m.dict (dictKey 0x601F 1) (some (.num 3))) (dictKey 0x601F 2) (some (.num 65535)) }).modEvr fun e => { e with fired := [15] }, 3, 2 ^ 31 + 65535, slice (2 ^ 31 + 65535) 0 16, 15, reaches_of (by decide +kernel), rfl, by decide +kernel⟩,
   ⟨((fields [(EVR_CTRL.EN, 1)] base).modMgt fun m => { m with dict := Tab.set none (Tab.set none m.dict (dictKey 0x601F 1) (some (.num 3))) (dictKey 0x601F 2) (some (.num 65535)) }).modEvr fun e => { e with scanned := true }, 3, 2 ^ 31 + 65535, slice (2 ^ 31 + 65535) 0 16, 15, reaches_of (by decide +kernel), rfl, by decide +kernel⟩,
   ⟨((fields [(EVR_CTRL.EN, 1)] base).modMgt fun m => { m with dict := Tab.set none (Tab.set none m.dict (dictKey 0x601F 1) (some (.num 3))) (dictKey 0x601F 2) (some (.num 65535)) }).modEvr fun e => { e with scanned := true, ring := List.replicate 1024 {} }, 3, 2 ^ 31 + 65535, slice (2 ^ 31 + 65535) 0 16, 15, reaches_of (by decide +kernel), rfl, by decide +kernel⟩,
   ⟨fields [(EVR_STAT.BUSY, 1)] base, 3, 2, reaches_of (by decide +kernel), by decide +kernel⟩,
   ⟨base, 3, 2, reaches_of (by decide +kernel), by decide +kernel⟩,
   ⟨(fields [(EVR_CTRL.EN, 1)] base).modMed fun m => { m with units := [(24 * 16 * 131072, { state := .system }), (25 * 16 * 131072, { state := .system }), (31 * 16 * 131072, { state := .system })] }, 3, 2, reaches_of (by decide +kernel), by decide +kernel⟩,
   ⟨((fields [(EVR_CTRL.EN, 1)] base).modMed fun m => { m with units := [(24 * 16 * 131072, { state := .system }), (25 * 16 * 131072, { state := .system }), (31 * 16 * 131072, { state := .system })] }).modEvr fun e => { e with ring := [{ seq := 1 }] }, 3, 2, reaches_of (by decide +kernel), by decide +kernel⟩,
   ⟨grpAt 3 3 (((fields [(EVR_CTRL.EN, 1)] base).modMed fun m => { m with units := [(24 * 16 * 131072, { state := .system }), (25 * 16 * 131072, { state := .system }), (31 * 16 * 131072, { state := .system })] }).modEvr fun e => { e with ring := [{ seq := 1 }] }), 3, 2, reaches_of (by decide +kernel), by decide +kernel⟩,
   ⟨grpAt 3 3 (((fields [(EVR_CTRL.EN, 1)] base).modMed fun m => { m with units := [(24 * 16 * 131072, { state := .system }), (25 * 16 * 131072, { state := .system }), (31 * 16 * 131072, { state := .system })] }).modEvr fun e => { e with ring := [{ seq := 1 }] }), by decide +kernel⟩,
   ⟨base, by decide +kernel⟩,
   ⟨base.modCtl fun c => { c with pgood := 0x7F }, by decide +kernel⟩,
   ⟨base, 3, 4, reaches_of (by decide +kernel), by decide +kernel⟩,
   ⟨((fields [(EVR_CTRL.EN, 1)] base).modMed fun m => { m with units := [(24 * 16 * 131072, { state := .system }), (25 * 16 * 131072, { state := .system }), (31 * 16 * 131072, { state := .system })] }).modEvr fun e => { e with ring := [{ seq := 1 }] }, 3, 8, { seq := 1 }, reaches_of (by decide +kernel), by decide +kernel⟩,
   ⟨base, 3, 8, reaches_of (by decide +kernel), by decide +kernel⟩,
   ⟨base.modBus fun b => { b with staged := [(EVR_CUR.SEQ.addr * 16 + 3, some 5)] }, 3, 5, reaches_of (by decide +kernel), by decide +kernel⟩,
   ⟨fields [(EVR_WST.STATE, 0), (EVR_CUR.SEQ, 1)] (base.modEvr fun e => { e with ring := [{ seq := 1 }, { seq := 2 }] }), (fields [(EVR_WST.STATE, 0), (EVR_CUR.SEQ, 1)] (base.modEvr fun e => { e with ring := [{ seq := 1 }, { seq := 2 }] })).fld EVR_CUR.SEQ, { seq := 1 }, by decide +kernel, by decide +kernel, rfl, by decide +kernel⟩,
   ⟨fields [(EVR_WST.STATE, 0), (EVR_CUR.SEQ, 9)] base, (fields [(EVR_WST.STATE, 0), (EVR_CUR.SEQ, 9)] base).fld EVR_CUR.SEQ, by decide +kernel, by decide +kernel, rfl, by decide +kernel⟩,
   ⟨base, by decide +kernel⟩⟩

/-- FaultsHaveTheirOutcomes: a state and operands that meet the hypotheses of each clause. -/
theorem witness_FaultsHaveTheirOutcomes :
    (∃ (s : State) (m : Nat) (n : Nat), n < 6 ∧ s.reaches m (SAF_WDOG.KICK n).addr ∧ m = n) ∧
    (∃ (s : State) (m : Nat) (n : Nat), n < 6 ∧ s.reaches m (SAF_WDOG.KICK n).addr ∧ m ≠ n) ∧
    (∃ (n : Nat), 6 ≤ n) ∧
    (∃ (s : State) (n : Nat), n < 4 ∧ s.procRuns n = true ∧ (n ≠ 0 ∨ (∃ k, k < 4 ∧ 0 < k ∧ bit (s.fld SYS_CORECTL.RUN) k = true)) ∧ s.on SAF_CTRL.WDOG_EN = true ∧ n ∉ s.tst.halted) ∧
    (∃ (s : State) (n : Nat), n < 4 ∧ s.procRuns n = true ∧ (n ≠ 0 ∨ (∃ k, k < 4 ∧ 0 < k ∧ bit (s.fld SYS_CORECTL.RUN) k = true))) ∧
    (∃ (s : State), s.up = true ∧ s.memc.clearing = false ∧ s.on SAF_CTRL.WDOG_EN = true ∧ 4 ∉ s.tst.halted) ∧
    (∃ (s : State), s.up = true ∧ s.ctl.vaon = true ∧ s.on SAF_CTRL.WDOG_EN = true ∧ 5 ∉ s.tst.halted) ∧
    (∃ (s : State), s.up = true ∧ s.memc.clearing = false) ∧
    (∃ (s : State) (u : _), s.up = true ∧ u ∉ s.bell.modeFenced ∧ u ∉ s.saf.unitHold ∧ ((∀ d, unitDomain u = some d → s.fld (PWR_DOM.STATE d) = 0))) ∧
    (∃ (s : State) (u : _), s.up = true ∧ (u ∈ s.bell.modeFenced ∨ u ∈ s.saf.unitHold ∨ (∃ d, unitDomain u = some d ∧ s.fld (PWR_DOM.STATE d) ≠ 0))) ∧
    (∃ (s : State), s.up = true) ∧
    (∃ (s : State), s.up = true) ∧
    (∃ (s : State) (n : Nat), (s.on SAF_CTRL.WDOG_EN = false ∨ n ∈ s.tst.halted ∨ s.procRuns n = false ∨ s.up = false)) ∧
    (∃ (s : State) (n : Nat), (s.procRuns n = false ∨ 4 < n)) ∧
    (∃ (s : State), s.up = false) ∧
    (∃ (s : State) (k : Nat) (pass : Bool), s.up = true ∧ s.on SAF_CTRL.PST_EN = true ∧ pass = false ∧ k ≤ 8) ∧
    (∃ (s : State) (k : Nat) (pass : Bool), (s.up = false ∨ s.on SAF_CTRL.PST_EN = false ∨ pass = true ∨ 8 < k)) ∧
    (∃ (s : State) (a : Nat) (bad : Nat), (s.up = true ∧ s.memc.clearing = false ∧ s.on SAF_CTRL.SCRUB_EN = true ∧ a < scrubPass) ∧ bad = 0) ∧
    (∃ (s : State) (a : Nat) (bad : Nat), s.up = true ∧ s.memc.clearing = false ∧ s.on SAF_CTRL.SCRUB_EN = true ∧ a < scrubPass ∧ bad ≠ 0 ∧ a < 0x6400000) ∧
    (∃ (s : State) (a : Nat) (bad : Nat), s.up = true ∧ s.memc.clearing = false ∧ s.on SAF_CTRL.SCRUB_EN = true ∧ a < scrubPass ∧ bad ≠ 0 ∧ 0x6400000 ≤ a) ∧
    (∃ (s : State) (a : Nat), (s.up = false ∨ s.memc.clearing = true ∨ s.on SAF_CTRL.SCRUB_EN = false ∨ scrubPass ≤ a)) ∧
    (∃ (s : State) (ty : Nat) (unit : Nat), s.up = true ∧ s.testRuns ty unit = true) ∧
    (∃ (s : State) (ty : Nat) (unit : Nat), s.up = true ∧ s.testRuns ty unit = true ∧ ty ≠ 0x09) ∧
    (∃ (s : State) (ty : Nat) (unit : Nat), s.up = true ∧ s.testRuns ty unit = true ∧ ty = 0x09) ∧
    (∃ (s : State) (ty : Nat) (unit : Nat), (s.up = false ∨ s.testRuns ty unit = false)) :=
  ⟨⟨base, (5), 5, by decide +kernel, reaches_of (by decide +kernel), rfl⟩,
   ⟨base, 0, 5, by decide +kernel, reaches_of (by decide +kernel), by decide +kernel⟩,
   ⟨47, by decide +kernel⟩,
   ⟨fields [(SYS_CORECTL.RUN, 8)] base, 3, by decide +kernel⟩,
   ⟨fields [(SYS_CORECTL.RUN, 8)] base, 3, by decide +kernel⟩,
   ⟨base, by decide +kernel⟩,
   ⟨base, by decide +kernel⟩,
   ⟨base, by decide +kernel⟩,
   ⟨base, 149, by decide +kernel⟩,
   ⟨base.modBell fun b => { b with modeFenced := [149] }, 149, by decide +kernel⟩,
   ⟨base, by decide +kernel⟩,
   ⟨base, by decide +kernel⟩,
   ⟨base, 3, by decide +kernel⟩,
   ⟨base, 47, by decide +kernel⟩,
   ⟨base.modCtl fun c => { c with pgood := 0x7F }, by decide +kernel⟩,
   ⟨base, 7, false, by decide +kernel, by decide +kernel, rfl, by decide +kernel⟩,
   ⟨base, 15, false, by decide +kernel⟩,
   ⟨base, 0x647FFFF, 0, by decide +kernel, rfl⟩,
   ⟨base, 0, 1, by decide +kernel⟩,
   ⟨base, 0x647FFFF, 1, by decide +kernel⟩,
   ⟨base, 0x6480000, by decide +kernel⟩,
   ⟨base.modSaf fun f => { f with tests := [(8, 127), (9, 0)] }, 8, 127, by decide +kernel⟩,
   ⟨base.modSaf fun f => { f with tests := [(8, 127), (9, 0)] }, 8, 127, by decide +kernel⟩,
   ⟨base.modSaf fun f => { f with tests := [(8, 127), (9, 0)] }, 9, 0, by decide +kernel⟩,
   ⟨base, 0, 0, by decide +kernel⟩⟩

/-- LoopbacksAndBistRunAndEnd: a state and operands that meet the hypotheses of each clause. -/
theorem witness_LoopbacksAndBistRunAndEnd :
    (∃ (s : State) (m : Nat) (k : Nat) (v : Nat) (intf : Nat) (index : Nat) (depth : Nat), k < 4 ∧ s.reaches m (TST_LBCTL.GO k).addr ∧ intf = slice v 24 4 ∧ index = slice v 8 4 ∧ depth = slice v 20 4 ∧ bit v 30 = false ∧ (bit v 31 = false ∨ (s.loopOf k).isSome = true)) ∧
    (∃ (s : State) (m : Nat) (k : Nat) (v : Nat) (intf : Nat) (index : Nat) (depth : Nat) (r : _), k < 4 ∧ s.reaches m (TST_LBCTL.GO k).addr ∧ intf = slice v 24 4 ∧ index = slice v 8 4 ∧ depth = slice v 20 4 ∧ bit v 30 = false ∧ bit v 31 = true ∧ s.loopOf k = none ∧ (r = (if depth = 0 ∨ 3 < depth ∨ 5 < intf then 3 else if s.hld.committed then 4 else if (List.range 4).any (fun j => match s.loopOf j with | some l => l.1 == intf && l.2.1 == index | none => false) then 2 else if !s.loopOk intf index depth then 1 else 0)) ∧ r ≠ 0) ∧
    (∃ (s : State) (m : Nat) (k : Nat) (v : Nat) (intf : Nat) (index : Nat) (depth : Nat) (r : _), k < 4 ∧ s.reaches m (TST_LBCTL.GO k).addr ∧ intf = slice v 24 4 ∧ index = slice v 8 4 ∧ depth = slice v 20 4 ∧ (bit v 30 = false ∧ bit v 31 = true ∧ s.loopOf k = none ∧ (r = (if depth = 0 ∨ 3 < depth ∨ 5 < intf then 3 else if s.hld.committed then 4 else if (List.range 4).any (fun j => match s.loopOf j with | some l => l.1 == intf && l.2.1 == index | none => false) then 2 else if !s.loopOk intf index depth then 1 else 0))) ∧ r = 0 ∧ (intf ≠ 1 ∨ s.fld BEL_MODE_STAT.STATE = modeStable)) ∧
    (∃ (s : State) (m : Nat) (k : Nat) (v : Nat) (l : Nat × Nat × Nat), k < 4 ∧ s.reaches m (TST_LBCTL.GO k).addr ∧ bit v 31 = false ∧ bit v 30 = true ∧ s.loopOf k = some l ∧ 1 < l.1) ∧
    (∃ (s : State) (m : Nat) (k : Nat) (v : Nat), k < 4 ∧ s.reaches m (TST_LBCTL.GO k).addr ∧ bit v 31 = false ∧ (bit v 30 = false ∨ s.loopOf k = none)) ∧
    (∃ (k : Nat), 4 ≤ k) ∧
    (∃ (s : State) (k : Nat) (l : Nat × Nat × Nat), k < 4 ∧ s.fld (TST_LBCTL.DURATION k) ≠ 0 ∧ s.loopOf k = some l) ∧
    (∃ (s : State) (k : Nat), k < 4 ∧ (s.fld (TST_LBCTL.DURATION k) = 0 ∨ s.loopOf k = none)) ∧
    (∃ (s : State) (m : Nat) (v : Nat) (ty : Nat) (tgt : Nat), s.reaches m TST_BIST.GO.addr ∧ ty = slice v 8 2 ∧ tgt = slice v 0 8 ∧ bit v 31 = true ∧ s.tst.bistRun = none ∧ s.bistOk ty tgt = true) ∧
    (∃ (s : State) (m : Nat) (v : Nat) (ty : Nat) (tgt : Nat), s.reaches m TST_BIST.GO.addr ∧ ty = slice v 8 2 ∧ tgt = slice v 0 8 ∧ bit v 31 = true ∧ (s.tst.bistRun ≠ none ∨ s.bistOk ty tgt = false)) ∧
    (∃ (s : State) (m : Nat) (v : Nat) (ty : Nat) (tgt : Nat), s.reaches m TST_BIST.GO.addr ∧ ty = slice v 8 2 ∧ tgt = slice v 0 8 ∧ bit v 31 = false) ∧
    (∃ (s : State) (ty : Nat) (tgt : Nat), s.tst.bistRun = some (ty, tgt)) ∧
    (∃ (s : State), s.tst.bistRun = none) :=
  ⟨⟨base, 3, 3, 0, slice (0) 24 4, slice (0) 8 4, slice (0) 20 4, by decide +kernel, reaches_of (by decide +kernel), rfl, rfl, rfl, by decide +kernel⟩,
   ⟨base, 3, 3, 2 ^ 31 + 47, slice (2 ^ 31 + 47) 24 4, slice (2 ^ 31 + 47) 8 4, slice (2 ^ 31 + 47) 20 4, 3, by decide +kernel, reaches_of (by decide +kernel), rfl, rfl, rfl, by decide +kernel⟩,
   ⟨base, 3, 3, 2 ^ 31 + 5 * 2 ^ 24 + 2 ^ 20, slice (2 ^ 31 + 5 * 2 ^ 24 + 2 ^ 20) 24 4, slice (2 ^ 31 + 5 * 2 ^ 24 + 2 ^ 20) 8 4, slice (2 ^ 31 + 5 * 2 ^ 24 + 2 ^ 20) 20 4, 0, by decide +kernel, reaches_of (by decide +kernel), rfl, rfl, rfl, by decide +kernel, rfl, by decide +kernel⟩,
   ⟨base.modTst fun t => { t with loops := [(3, some (5, 0, 1))] }, 3, 3, 2 ^ 30, (5, 0, 1), by decide +kernel, reaches_of (by decide +kernel), by decide +kernel⟩,
   ⟨base, 3, 3, 2 ^ 30, by decide +kernel, reaches_of (by decide +kernel), by decide +kernel⟩,
   ⟨4, by decide +kernel⟩,
   ⟨base.modTst fun t => { t with loops := [(3, some (5, 0, 1))] }, 3, (5, 0, 1), by decide +kernel⟩,
   ⟨base, 3, by decide +kernel⟩,
   ⟨fields [(MEM_BANKASN.OWNER 47, 0)] base, 3, 2 ^ 31 + 47, slice (2 ^ 31 + 47) 8 2, slice (2 ^ 31 + 47) 0 8, reaches_of (by decide +kernel), rfl, rfl, by decide +kernel⟩,
   ⟨base, 3, 2 ^ 31 + 5 * 2 ^ 24 + 2 ^ 20, slice (2 ^ 31 + 5 * 2 ^ 24 + 2 ^ 20) 8 2, slice (2 ^ 31 + 5 * 2 ^ 24 + 2 ^ 20) 0 8, reaches_of (by decide +kernel), rfl, rfl, by decide +kernel⟩,
   ⟨base, 3, 2 ^ 30, slice (2 ^ 30) 8 2, slice (2 ^ 30) 0 8, reaches_of (by decide +kernel), rfl, rfl, by decide +kernel⟩,
   ⟨base.modTst fun t => { t with bistRun := some (0, 0) }, 0, 0, by decide +kernel⟩,
   ⟨base, by decide +kernel⟩⟩

/-- TapAndDebugAccessFollowTheirTables: a state and operands that meet the hypotheses of each clause. -/
theorem witness_TapAndDebugAccessFollowTheirTables :
    (∃ (opcode : Nat), opcode % 256 ∉ [0x01, 0x02, 0x03, 0x04, 0x05, 0x06, 0x07, 0x10, 0x11]) ∧
    (∃ (opcode : Nat), opcode % 256 ∈ [0x01, 0x02, 0x03, 0x04, 0x05, 0x06, 0x07, 0x10, 0x11]) ∧
    (∃ (s : State) (d : Nat) (h : Nat), s.tst.dmistat = 0 ∧ h = slice d 16 10 + slice d 6 10 * 1024 ∧ bit d 0 = true ∧ bit d 31 = true ∧ s.hartOpen h = true ∧ h ∉ s.tst.halted) ∧
    (∃ (s : State) (d : Nat) (h : Nat), s.tst.dmistat = 0 ∧ h = slice d 16 10 + slice d 6 10 * 1024 ∧ bit d 0 = true ∧ bit d 31 = false ∧ bit d 30 = true ∧ s.hartOpen h = true) ∧
    (∃ (s : State) (d : Nat) (h : Nat), s.tst.dmistat = 0 ∧ h = slice d 16 10 + slice d 6 10 * 1024 ∧ bit d 0 = true ∧ s.hartOpen h = false) ∧
    (∃ (s : State) (d : Nat) (h : Nat), s.tst.dmistat = 0 ∧ h = slice d 16 10 + slice d 6 10 * 1024 ∧ bit d 0 = false) ∧
    (∃ (s : State) (a : Nat) (d : Nat) (h : Nat), s.tst.dmistat = 0 ∧ h = slice d 16 10 + slice d 6 10 * 1024 ∧ a ≠ 0x10 ∧ a ≠ 0x11) ∧
    (∃ (s : State) (a : Nat) (d : Nat) (h : Nat), s.tst.dmistat = 0 ∧ h = slice d 16 10 + slice d 6 10 * 1024 ∧ a ≠ 0x11) ∧
    (∃ (s : State) (d : Nat) (h : Nat), s.tst.dmistat = 0 ∧ h = slice d 16 10 + slice d 6 10 * 1024) ∧
    (∃ (s : State) (h : Nat), s.tst.dmistat = 0 ∧ h = dmHart (Tab.get 0 s.tst.dmi 0x10)) ∧
    (∃ (s : State), s.tst.dmistat ≠ 0) ∧
    (∃ (s : State) (h : Nat), s.hartOpen h = true) ∧
    (∃ (s : State) (h : Nat), s.hartOpen h = false) ∧
    (∃ (s : State) (h : Nat), s.hartOpen h = true ∧ h ≠ 4) ∧
    (∃ (s : State) (m : Nat) (v : Nat) (l : Nat), s.reaches m TST_DBG.REQ.addr ∧ l = slice v 28 2 ∧ bit v 31 = true ∧ s.on TST_DBG.BUSY = false ∧ s.fld TST_DBG.FAILS < 3 ∧ (l = 1 ∨ l = 2)) ∧
    (∃ (s : State) (m : Nat) (v : Nat) (l : Nat), s.reaches m TST_DBG.REQ.addr ∧ l = slice v 28 2 ∧ (bit v 31 = false ∨ s.on TST_DBG.BUSY = true ∨ 3 ≤ s.fld TST_DBG.FAILS ∨ l = 0 ∨ l = 3)) ∧
    (∃ (s : State), s.on TST_DBG.BUSY = false) ∧
    (∃ (s : State) (k : Bool) (sg : Bool), s.on TST_DBG.BUSY = true ∧ k = true ∧ sg = true) ∧
    (∃ (s : State) (k : Bool) (sg : Bool), s.on TST_DBG.BUSY = true ∧ (k = false ∨ sg = false)) :=
  ⟨⟨0, by decide +kernel⟩,
   ⟨1, by decide +kernel⟩,
   ⟨base, 2 ^ 31 + 1 + 5 * 2 ^ 16, slice (2 ^ 31 + 1 + 5 * 2 ^ 16) 16 10 + slice (2 ^ 31 + 1 + 5 * 2 ^ 16) 6 10 * 1024, by decide +kernel, rfl, by decide +kernel⟩,
   ⟨base, 2 ^ 30 + 1 + 5 * 2 ^ 16, slice (2 ^ 30 + 1 + 5 * 2 ^ 16) 16 10 + slice (2 ^ 30 + 1 + 5 * 2 ^ 16) 6 10 * 1024, by decide +kernel, rfl, by decide +kernel⟩,
   ⟨base, 1 + 6 * 2 ^ 16, slice (1 + 6 * 2 ^ 16) 16 10 + slice (1 + 6 * 2 ^ 16) 6 10 * 1024, by decide +kernel, rfl, by decide +kernel⟩,
   ⟨base, 20, slice (20) 16 10 + slice (20) 6 10 * 1024, by decide +kernel, rfl, by decide +kernel⟩,
   ⟨base, 0, 47, slice (47) 16 10 + slice (47) 6 10 * 1024, by decide +kernel, rfl, by decide +kernel⟩,
   ⟨base, 0, 47, slice (47) 16 10 + slice (47) 6 10 * 1024, by decide +kernel, rfl, by decide +kernel⟩,
   ⟨base, 47, slice (47) 16 10 + slice (47) 6 10 * 1024, by decide +kernel, rfl⟩,
   ⟨base, dmHart (Tab.get 0 (base).tst.dmi 0x10), by decide +kernel, rfl⟩,
   ⟨base.modTst fun t => { t with dmistat := 2 }, by decide +kernel⟩,
   ⟨base, 0, by decide +kernel⟩,
   ⟨base, 6, by decide +kernel⟩,
   ⟨base, 0, by decide +kernel⟩,
   ⟨base, 3, 2 ^ 31 + 2 * 2 ^ 28, slice (2 ^ 31 + 2 * 2 ^ 28) 28 2, reaches_of (by decide +kernel), rfl, by decide +kernel⟩,
   ⟨base, 0, 0, slice (0) 28 2, reaches_of (by decide +kernel), rfl, by decide +kernel⟩,
   ⟨base, by decide +kernel⟩,
   ⟨fields [(TST_DBG.BUSY, 1)] base, true, true, by decide +kernel⟩,
   ⟨fields [(TST_DBG.BUSY, 1)] base, false, true, by decide +kernel⟩⟩

/-- MembershipCommandsComplete: a state and operands that meet the hypotheses of each clause. -/
theorem witness_MembershipCommandsComplete :
    (∃ (s : State) (m : Nat) (d : Nat), d < 2048 ∧ s.reaches m MSH_DCMD.OP.addr ∧ (s.mem d).state = .member) ∧
    (∃ (s : State) (m : Nat) (d : Nat), d < 2048 ∧ s.reaches m MSH_DCMD.OP.addr ∧ (s.mem d).state = .rebuilding) ∧
    (∃ (s : State) (m : Nat) (d : Nat), d < 2048 ∧ s.reaches m MSH_DCMD.OP.addr ∧ (s.mem d).state = .spare) ∧
    (∃ (s : State) (m : Nat) (d : Nat), d < 2048 ∧ s.reaches m MSH_DCMD.OP.addr ∧ (s.mem d).state = .failed) ∧
    (∃ (s : State) (m : Nat) (d : Nat), d < 2048 ∧ s.reaches m MSH_DCMD.OP.addr ∧ (s.mem d).state = .returning) ∧
    (∃ (s : State) (m : Nat) (d : Nat), d < 2048 ∧ s.reaches m MSH_DCMD.OP.addr) ∧
    (∃ (s : State) (m : Nat) (d : Nat) (k : Nat) (p : Nat), d < 2048 ∧ s.reaches m MSH_DCMD.OP.addr ∧ k = s.fld MSH_DARG.SSET ∧ p = s.fld MSH_DARG.POS ∧ s.on (MSH_SSET.VALID k) = true ∧ p < s.setPositions k ∧ (s.position k p).present = true ∧ (s.position k p).vacant = true ∧ (s.mem d).state = .spare ∧ s.channelUsed k p (chanOf d) = false) ∧
    (∃ (d : Nat), 2048 ≤ d) ∧
    (∃ (s : State) (l : List Nat) (d : Nat), s.on MSH_CTRL.EN = true ∧ s.hld.committed = false ∧ (s.mem d).state = .failed ∧ d ∈ l) ∧
    (∃ (s : State) (d : Nat), d < 2048 ∧ s.hld.committed = false ∧ (s.mem d).state = .testing ∧ s.on MSH_CTRL.AUTOSPARE = false) ∧
    (∃ (s : State) (d : Nat), d < 2048 ∧ s.hld.committed = false ∧ (s.mem d).state = .testing) :=
  ⟨⟨(base.modMsh fun m => { m with dies := [(2047, { state := .member })] }), 4, 2047, by decide +kernel, reaches_of (by decide +kernel), by decide +kernel⟩,
   ⟨(base.modMsh fun m => { m with dies := [(2047, { state := .rebuilding })] }), 4, 2047, by decide +kernel, reaches_of (by decide +kernel), by decide +kernel⟩,
   ⟨(base.modMsh fun m => { m with dies := [(2047, { state := .spare })] }), 4, 2047, by decide +kernel, reaches_of (by decide +kernel), by decide +kernel⟩,
   ⟨(base.modMsh fun m => { m with dies := [(2047, { state := .failed })] }), 4, 2047, by decide +kernel, reaches_of (by decide +kernel), by decide +kernel⟩,
   ⟨(base.modMsh fun m => { m with dies := [(2047, { state := .returning })] }), 4, 2047, by decide +kernel, reaches_of (by decide +kernel), by decide +kernel⟩,
   ⟨(base.modMsh fun m => { m with dies := [(2047, { state := .member })] }), 4, 2047, by decide +kernel, reaches_of (by decide +kernel)⟩,
   ⟨fields [(MSH_SSET.VALID 0, 1)] (base.modMsh fun m => { m with dies := [(2047, { state := .spare })], pos := [(0, { present := true, vacant := true })] }), 4, 2047, 0, 0, by decide +kernel, reaches_of (by decide +kernel), by decide +kernel⟩,
   ⟨2048, by decide +kernel⟩,
   ⟨fields [(MSH_CTRL.EN, 1)] (base.modMsh fun m => { m with dies := [(2047, { state := .failed })] }), [2047], 2047, by decide +kernel⟩,
   ⟨fields [(MSH_CTRL.AUTOSPARE, 0)] (base.modMsh fun m => { m with dies := [(2047, { state := .testing })] }), 2047, by decide +kernel⟩,
   ⟨(base.modMsh fun m => { m with dies := [(2047, { state := .testing })] }), 2047, by decide +kernel⟩⟩

/-- PowerAndLoopbackCommandsComplete: a state and operands that meet the hypotheses of each clause. -/
theorem witness_PowerAndLoopbackCommandsComplete :
    (∃ (s : State) (m : Nat) (v : Nat) (g : Nat), s.reaches m PWR_REQ.GO.addr ∧ PWR_REQ.GO.of v ≠ 0 ∧ g = PWR_REQ.TARGET.of v ∧ 2 ≤ g ∧ g ≤ 4 ∧ s.pwrCtrl = 0 ∧ s.pwrState < g) ∧
    (∃ (s : State) (m : Nat) (v : Nat) (g : Nat), s.reaches m PWR_REQ.GO.addr ∧ PWR_REQ.GO.of v ≠ 0 ∧ g = PWR_REQ.TARGET.of v ∧ 2 ≤ g ∧ g ≤ 4 ∧ s.pwrCtrl ≠ 0) ∧
    (∃ (s : State) (m : Nat) (v : Nat), s.reaches m PWR_REQ.GO.addr ∧ PWR_REQ.GO.of v ≠ 0 ∧ PWR_REQ.TARGET.of v = 0) ∧
    (∃ (s : State) (d : Nat) (a : Answer), s.pwrCtrl = ctrlAsking ∧ d ∈ s.pow.asked ∧ (if d < 10 then a else s.hwAnswer d s.pow.entry) = .ack) ∧
    (∃ (s : State) (d : Nat) (a : Answer) (c : Nat), s.pwrCtrl = ctrlAsking ∧ d ∈ s.pow.asked ∧ (if d < 10 then a else s.hwAnswer d s.pow.entry) = .refuse c) ∧
    (∃ (s : State) (d : Nat), s.pwrCtrl = ctrlAsking ∧ d ∈ s.pow.asked) ∧
    (∃ (s : State), s.pwrCtrl = ctrlEntering ∧ s.pow.entry = pwrNap ∧ s.on PWR_STAT.WAKEPEND = false) ∧
    (∃ (s : State), s.pwrCtrl = ctrlEntering ∧ s.pow.entry = pwrNap ∧ s.on PWR_STAT.WAKEPEND = true) ∧
    (∃ (s : State), s.pwrCtrl = ctrlEntering ∧ (s.pow.entry = pwrShelf ∨ s.pow.entry = pwrDeep)) ∧
    (∃ (s : State), s.up = true ∧ s.on PWR_CTRL.IDLE_EN = true ∧ s.pwrState = 0 ∧ s.pwrCtrl = 0 ∧ s.noWork = true) ∧
    (∃ (s : State) (m : Nat) (k : Nat) (v : Nat), k < 4 ∧ s.reaches m (TST_LBCTL.GO k).addr ∧ bit v 31 = true ∧ bit v 30 = false ∧ s.loopOf k = none ∧ 1 ≤ slice v 20 4 ∧ slice v 20 4 ≤ 3 ∧ slice v 24 4 ≤ 5 ∧ s.hld.committed = false ∧ ((∀ j, j < 4 → ∀ l ∈ s.loopOf j, l.1 ≠ slice v 24 4 ∨ l.2.1 ≠ slice v 8 4)) ∧ s.loopOk (slice v 24 4) (slice v 8 4) (slice v 20 4) = true) ∧
    (∃ (s : State) (k : Nat) (l : Nat × Nat × Nat) (m : Nat) (v : Nat), k < 4 ∧ s.loopOf k = some l ∧ s.reaches m (TST_LBCTL.GO k).addr ∧ bit v 31 = false ∧ bit v 30 = true) ∧
    (∃ (s : State) (k : Nat) (l : Nat × Nat × Nat), k < 4 ∧ s.loopOf k = some l ∧ s.fld (TST_LBCTL.DURATION k) ≠ 0) ∧
    (∃ (s : State) (m : Nat) (v : Nat), s.reaches m TST_BIST.GO.addr ∧ bit v 31 = true ∧ s.tst.bistRun = none ∧ s.bistOk (slice v 8 2) (slice v 0 8) = true) ∧
    (∃ (s : State), s.tst.bistRun ≠ none) :=
  ⟨⟨base, 3, 0x80000002, 2, reaches_of (by decide +kernel), by decide +kernel⟩,
   ⟨asking 2 [9], 3, 0x80000002, 2, reaches_of (by decide +kernel), by decide +kernel⟩,
   ⟨base, 3, 0x80000000, reaches_of (by decide +kernel), by decide +kernel⟩,
   ⟨asking 2 [9], 9, .ack, by decide +kernel⟩,
   ⟨asking 2 [9], 9, .refuse 1, 1, by decide +kernel⟩,
   ⟨asking 2 [9], 9, by decide +kernel⟩,
   ⟨entering 2, by decide +kernel⟩,
   ⟨fields [(PWR_STAT.WAKEPEND, 1)] (entering 2), by decide +kernel⟩,
   ⟨entering 3, by decide +kernel⟩,
   ⟨base, by decide +kernel⟩,
   ⟨base, 3, 3, 2 ^ 31 + 2 * 2 ^ 24 + 2 ^ 20, by decide +kernel, reaches_of (by decide +kernel), by decide +kernel⟩,
   ⟨fields [(TST_LBCTL.DURATION 3, 5)] (base.modTst fun t => { t with loops := [(3, some (1, 15, 2))] }), 3, (1, 15, 2), 3, 2 ^ 30, by decide +kernel, by decide +kernel, reaches_of (by decide +kernel), by decide +kernel⟩,
   ⟨fields [(TST_LBCTL.DURATION 3, 5)] (base.modTst fun t => { t with loops := [(3, some (1, 15, 2))] }), 3, (1, 15, 2), by decide +kernel⟩,
   ⟨fields [(MEM_BANKASN.OWNER 47, 0)] base, 3, 2 ^ 31 + 47, reaches_of (by decide +kernel), by decide +kernel⟩,
   ⟨base.modTst fun t => { t with bistRun := some (0, 47) }, by decide +kernel⟩⟩

/-! WellFormed: for each operand and bound a command whose operand is the bound, which is refused, and one below it, which is taken. -/

theorem test_wellFormed_refuses_1 : ([
    .atsInvalidation 0 w40, .dmi 0 w32 0, .bankAssignWrite 0 56 0, .cmd 0 0 0 false 0 256, .getQueueOrdering 0 w32,
    .setFunctionWeights 0 0 w32, .calibrationEntryWrite 0 0 8 0 0 0, .asynchronousEventRequest w16, .mediaRead 0 4, .lockstepMismatch 5,
    .yield 0 32, .codewordDecodeEnd 0 0 64 .uncorrectable, .loadedConfirm 0 16] : List Instr).all (fun i => !wellFormed i) = true := by decide +kernel

theorem test_wellFormed_takes_1 : ([
    .atsInvalidation 0 (w40 - 1), .dmi 0 (w32 - 1) 0, .bankAssignWrite 0 (56 - 1) 0, .cmd 0 0 0 false 0 (256 - 1),
    .getQueueOrdering 0 (w32 - 1), .setFunctionWeights 0 0 (w32 - 1), .calibrationEntryWrite 0 0 (8 - 1) 0 0 0,
    .asynchronousEventRequest (w16 - 1), .mediaRead 0 (4 - 1), .lockstepMismatch (5 - 1), .yield 0 (32 - 1),
    .codewordDecodeEnd 0 0 (64 - 1) .uncorrectable, .loadedConfirm 0 (16 - 1)] : List Instr).all wellFormed = true := by decide +kernel

theorem test_wellFormed_refuses_2 : ([
    .fail 0 2048, .domainDelayTimeout 48, .hwDescriptorSubmit 128, .functionLevelReset 512, .groupDieResetTimeout 16,
    .zpmPgrpWrite 0 64 0, .debugHalt 6, .cqHeadDoorbell 0 0 w16, .mailboxRingCommit 0 0 w32 0, .fenceSet 0 0 4 0, .pieceDispatch 0 w16,
    .reshapeCopySwitch w20, .drbgHealthFail 2] : List Instr).all (fun i => !wellFormed i) = true := by decide +kernel

theorem test_wellFormed_takes_2 : ([
    .fail 0 (2048 - 1), .domainDelayTimeout (48 - 1), .hwDescriptorSubmit (128 - 1), .functionLevelReset (512 - 1),
    .groupDieResetTimeout (16 - 1), .zpmPgrpWrite 0 (64 - 1) 0, .debugHalt (6 - 1), .cqHeadDoorbell 0 0 (w16 - 1),
    .mailboxRingCommit 0 0 (w32 - 1) 0, .fenceSet 0 0 (4 - 1) 0, .pieceDispatch 0 (w16 - 1), .reshapeCopySwitch (w20 - 1),
    .drbgHealthFail (2 - 1)] : List Instr).all wellFormed = true := by decide +kernel

theorem test_wellFormed_refuses_3 : ([
    .dictionaryRead 0 0 0 8192, .mailboxRingCommit 0 w32 0 0, .waitst 0 0 0 0 256 0 0, .candPop 16, .eccProfileWrite 0 16 0,
    .addr 0 0 0 0 9, .read 0 0 0 w16 {}, .flush 0 w32, .tubWindowWrite 0 512 0, .engineConfigWrite 0 0 8192 0, .dmi 4 0 0, .bypass 256,
    .gpioWake 32] : List Instr).all (fun i => !wellFormed i) = true := by decide +kernel

theorem test_wellFormed_takes_3 : ([
    .dictionaryRead 0 0 0 (8192 - 1), .mailboxRingCommit 0 (w32 - 1) 0 0, .waitst 0 0 0 0 (256 - 1) 0 0, .candPop (16 - 1),
    .eccProfileWrite 0 (16 - 1) 0, .addr 0 0 0 0 (9 - 1), .read 0 0 0 (w16 - 1) {}, .flush 0 (w32 - 1), .tubWindowWrite 0 (512 - 1) 0,
    .engineConfigWrite 0 0 (8192 - 1) 0, .dmi (4 - 1) 0 0, .bypass (256 - 1), .gpioWake (32 - 1)] : List Instr).all wellFormed = true := by decide +kernel

theorem test_wellFormed_refuses_4 : ([
    .perstAssert 2, .rebuildRowTake 0 128 0 [], .watchdogExpire 6, .deleteIoSubmissionQueue 0 w16, .addr 0 0 0 8 0, .pgoodRise 8,
    .linkUp 0 7 0 false, .addr 0 0 8 0 0, .done 0 0 8 0, .rebuildRowTake 0 0 16384 [], .std 0 0 8 0 0, .sessionIdleExpire w16,
    .timingSetWrite 0 0 2 0 0] : List Instr).all (fun i => !wellFormed i) = true := by decide +kernel

theorem test_wellFormed_takes_4 : ([
    .perstAssert (2 - 1), .rebuildRowTake 0 (128 - 1) 0 [], .watchdogExpire (6 - 1), .deleteIoSubmissionQueue 0 (w16 - 1),
    .addr 0 0 0 (8 - 1) 0, .pgoodRise (8 - 1), .linkUp 0 (7 - 1) 0 false, .addr 0 0 (8 - 1) 0 0, .done 0 0 (8 - 1) 0,
    .rebuildRowTake 0 0 (16384 - 1) [], .std 0 0 (8 - 1) 0 0, .sessionIdleExpire (w16 - 1), .timingSetWrite 0 0 (2 - 1) 0 0] : List Instr).all wellFormed = true := by decide +kernel

theorem test_wellFormed_refuses_5 : ([
    .zpmSsetWrite 0 4096 0, .mailboxRingCommit 0 0 0 32, .zoneOpen 0 0 w64 false, .firmwareCommit 0 4 0, .done 0 0 0 256,
    .dictionaryRead 0 0 256 0, .linkL1Entry 0 4, .free 12 0, .sqTailDoorbell 0 0 w16, .eventClaim 0 6, .call 0 0 8192, .abort 0 0 w16,
    .pieceDispatch w64 0] : List Instr).all (fun i => !wellFormed i) = true := by decide +kernel

theorem test_wellFormed_takes_5 : ([
    .zpmSsetWrite 0 (4096 - 1) 0, .mailboxRingCommit 0 0 0 (32 - 1), .zoneOpen 0 0 (w64 - 1) false, .firmwareCommit 0 (4 - 1) 0,
    .done 0 0 0 (256 - 1), .dictionaryRead 0 0 (256 - 1) 0, .linkL1Entry 0 (4 - 1), .free (12 - 1) 0, .sqTailDoorbell 0 0 (w16 - 1),
    .eventClaim 0 (6 - 1), .call 0 0 (8192 - 1), .abort 0 0 (w16 - 1), .pieceDispatch (w64 - 1) 0] : List Instr).all wellFormed = true := by decide +kernel

theorem test_wellFormed_refuses_6 : ([
    .free 0 w16, .esnexWrite { seq := 0, src := 0, dst := 0 } 0 0 256 (.num 0), .selfTestVerdict 32 0 false, .unitEpochReport 150,
    .heartbeatMissing 256, .waitst 0 0 0 0 0 256 0, .belCtrlWrite 0 w32, .sc 0 false 0 w64, .createIoCompletionQueue 0 0 0 2048 false,
    .mailboxOutAck 0 w16, .getFeatures 0 0 0 w32 0, .l0pRequest 0 17, .timingSetWrite 0 0 0 2 0] : List Instr).all (fun i => !wellFormed i) = true := by decide +kernel

theorem test_wellFormed_takes_6 : ([
    .free 0 (w16 - 1), .esnexWrite { seq := 0, src := 0, dst := 0 } 0 0 (256 - 1) (.num 0), .selfTestVerdict (32 - 1) 0 false,
    .unitEpochReport (150 - 1), .heartbeatMissing (256 - 1), .waitst 0 0 0 0 0 (256 - 1) 0, .belCtrlWrite 0 (w32 - 1),
    .sc 0 false 0 (w64 - 1), .createIoCompletionQueue 0 0 0 (2048 - 1) false, .mailboxOutAck 0 (w16 - 1), .getFeatures 0 0 0 (w32 - 1) 0,
    .l0pRequest 0 (17 - 1), .timingSetWrite 0 0 0 (2 - 1) 0] : List Instr).all wellFormed = true := by decide +kernel

theorem test_wellFormed_refuses_7 : ([
    .calibrationEntryWrite 0 0 0 0 4 0, .zoneAppend 0 0 w64 0 {}] : List Instr).all (fun i => !wellFormed i) = true := by decide +kernel

theorem test_wellFormed_takes_7 : ([
    .calibrationEntryWrite 0 0 0 0 (4 - 1) 0, .zoneAppend 0 0 (w64 - 1) 0 {}] : List Instr).all wellFormed = true := by decide +kernel

theorem test_wellFormed_requests_refuses : ([
  .configurationRequest 0 0 (.readBarSize 6), .configurationRequest 0 0 (.setVfEnable w16), .configurationRequest 0 0 (.setBus 256),
    .configurationRequest 0 0 (.setPayload 8192), .configurationRequest 0 0 (.setReadRequest 8192),
    .configurationRequest 0 0 (.readAerHeader 14), .configurationRequest 0 0 (.clearAer w32),
    .configurationRequest 0 0 (.clearAerCorrectable w32), .configurationRequest 0 0 (.atsTranslation w64),
    .configurationRequest 0 0 (.barRead 6 0 4), .configurationRequest 0 0 (.barRead 0 131072 4),
    .configurationRequest 0 0 (.barRead 0 0 3), .configurationRequest 0 0 (.barWrite 6 0 4 0),
    .configurationRequest 0 0 (.barWrite 0 131072 4 0), .configurationRequest 0 0 (.barWrite 0 0 16 0),
    .configurationRequest 0 0 (.barWrite 0 0 1 256)] : List Instr).all (fun i => !wellFormed i) = true := by decide +kernel

theorem test_wellFormed_requests_takes : ([
  .configurationRequest 0 0 (.readBarSize 5), .configurationRequest 0 0 (.setVfEnable (w16 - 1)),
    .configurationRequest 0 0 (.setBus 255), .configurationRequest 0 0 (.setPayload 8191),
    .configurationRequest 0 0 (.setReadRequest 8191), .configurationRequest 0 0 (.readAerHeader 13),
    .configurationRequest 0 0 (.clearAer (w32 - 1)), .configurationRequest 0 0 (.clearAerCorrectable (w32 - 1)),
    .configurationRequest 0 0 (.atsTranslation (w64 - 1)), .configurationRequest 0 0 (.barRead 5 131071 8),
    .configurationRequest 0 0 (.barWrite 5 131071 1 255)] : List Instr).all wellFormed = true := by decide +kernel

theorem test_wellFormed_access_size : ([.registerWrite 0 0 0 3 0, .rcRead 0 0 16 0, .rlRead 0 0 0 0, .registerWrite 0 0 256 1 0] : List Instr).all (fun i => !wellFormed i) = true ∧
    ([.registerWrite 0 0 255 1 0, .rcRead 0 0 8 0, .rlRead 0 0 2 0] : List Instr).all wellFormed = true := by decide +kernel

/-! The spec's own examples, each about one command or one decoding. -/

/-- The state after a command. -/
def after (c : Instr) (s : State) : State :=
  match exec c s with
  | .next t => t
  | _ => s

/-- Table 10.11: the words of the erase program are its instructions. -/
theorem test_table_10_11_words :
    [0x20000000, 0x04080060, 0x08000003, 0x070800D0, 0x15004040, 0x51A80001, 0x80580049, 0x42000001, 0x2A000004, 0x42000000, 0x2A000000].map decodeMicro =
      [some (.fchk false), some (.cmd 0 true 0 0x60), some (.addr 0 0 3), some (.cmd 3 true 0 0xD0), some (.waitst 2 0 0x40 0x40),
        some (.alu 1 3 2 true 1), some (.br 1 3 0x49), some (.ldi 4 false 1), some (.done 4 4), some (.ldi 4 false 0), some (.done 4 0)] := by
  decide +kernel

/-- SYS_REFCNT at a value of Table 1.10. -/
def counted (n : Nat) : State := fields [(SYS_REFCNT.COUNT, n)] base

/-- Step 1 of Table 1.10: L0's read returns the low half and latches the high half. -/
theorem test_table_1_10_step_1 :
    let t := after (.rlRead 0 SYS_REFCNT.COUNT.addr 4 0) (counted 0x1FFFFFFF0)
    Tab.get 0 t.bus.rdata 0 = 0xFFFFFFF0 ∧ t.shadow SYS_REFCNT.COUNT.addr 0 = 1 := by
  decide +kernel

/-- Step 3 of Table 1.10: L0's read of the high half returns its shadow, not the counter. -/
theorem test_table_1_10_step_3 :
    let t := after (.rcRead 0 (SYS_REFCNT.COUNT.addr + 4) 4 0)
      (after (.rlRead 0 SYS_REFCNT.COUNT.addr 4 0) (counted 0x1FFFFFFF0) |>.setFld SYS_REFCNT.COUNT 0x200000009)
    Tab.get 0 t.bus.rdata 0 = 1 := by
  decide +kernel

/-- Steps 5 and 6 of Table 1.10: a peek latches no shadow, and L1's stays zero. -/
theorem test_table_1_10_steps_5_6 :
    let t := after (.rcRead 1 (SYS_REFCNT.COUNT.addr + 0x100000) 4 0) (counted 0x20000000B)
    Tab.get 0 t.bus.rdata 1 = 0xB ∧ t.shadow SYS_REFCNT.COUNT.addr 1 = 0 ∧
      Tab.get 0 (after (.rcRead 1 (SYS_REFCNT.COUNT.addr + 0x100004) 4 0) t).bus.rdata 1 = 0 := by
  decide +kernel

/-- 01: the page of Drift engine 17. -/
theorem test_drift_page_17 : (DRF_STAT.STATE 17).addr = 0x41022004 := by decide

/-- 02: the fallback mask of node 6. -/
theorem test_fallback_mask_node_6 : fallbackMask 6 = 0x4444444444444444 := by decide

/-- Table 2.1: a pulse of 2 µs is a slot mark, one of 6 µs a frame mark, one of 4 µs invalid. -/
theorem test_pulse_classes : pulseClass 2000 = .slotMark ∧ pulseClass 6000 = .frameMark ∧ pulseClass 4000 = .invalid := by decide

/-- R452, R455: the pool is enabled with the default reservations, and with none of its tubs held. -/
theorem test_tub_enable : (after (.tubEnable 0 1) base).on TUB_CTRL.EN = true := by decide +kernel

/-- R46: an empty queue lets one reference cycle pass. -/
theorem test_tick : base.tick.fld SYS_REFCNT.COUNT = 1 := by decide +kernel

/-- The reset words of the profiles of ECC_PROF: soft for all but the last. -/
theorem test_ecc_prof_resets :
    [0, 1, 14, 15].map (fun n => base.peekWord 0 (0x41200100 + 4 * n)) =
      [0x80214000, 0x80210000, 0x20000028, 0x20000048] := by decide +kernel

end Sys2Proof.Tests
end

/-! Proofs of O1: every command completes, and keeps to the parts of the state that `mayChange` lists for it. What each operation may
change is stated once in Laws/Frames1 to Frames4; here each command is tied to the lemma of its operation, whose mask its own covers. -/

namespace Sys2Proof.Machine

/-- Every command answers a next state, and that state lies within the command's parts. -/
theorem exec_within (s : State) (i : Instr) : ∃ t, exec i s = .next t ∧ Within (mayChange i) s t := by
  cases i with simp only [mayChange]
  -- 01, 14: registers and memory
  | registerWrite => exact ⟨_, rfl, registerWrite_in .refl rfl⟩
  | highHalfWrite => exact ⟨_, rfl, highHalfWrite_in .refl rfl⟩
  | rcRead => exact ⟨_, rfl, rcRead_in .refl rfl⟩
  | rlRead => exact ⟨_, rfl, rlRead_in .refl rfl⟩
  | amo => exact ⟨_, rfl, amo_in .refl rfl⟩
  | lr => exact ⟨_, rfl, lr_in .refl rfl⟩
  | sc => exact ⟨_, rfl, sc_in .refl rfl⟩
  -- 02: Bell time
  | shbellPulse => exact ⟨_, rfl, shbellPulse_in .refl rfl⟩
  | plcaBeacon => exact ⟨_, rfl, plcaBeacon_in .refl rfl⟩
  | slotWindowClose => exact ⟨_, rfl, slotWindowClose_in .refl rfl⟩
  | slotBoundary => exact ⟨_, rfl, slotBoundary_in .refl rfl⟩
  | frameStart => exact ⟨_, rfl, frameStart_in .refl rfl⟩
  | belCtrlWrite => exact ⟨_, rfl, belCtrlWrite_in .refl rfl⟩
  | belBudgetWrite => exact ⟨_, rfl, belBudgetWrite_in .refl rfl⟩
  | modeCommitRequest => exact ⟨_, rfl, modeCommitRequest_in .refl rfl⟩
  | unitEpochReport => exact ⟨_, rfl, unitEpochReport_in .refl rfl⟩
  | powerupLockWaitExpire => exact ⟨_, rfl, powerupLockWaitExpire_in .refl rfl⟩
  -- 03: the host link
  | perstDeassert => exact ⟨_, rfl, State.endPcieLoops_in (perstDeassert_in .refl rfl) rfl⟩
  | perstAssert => exact ⟨_, rfl, State.endPcieLoops_in (perstAssert_in .refl rfl) rfl⟩
  | hotReset => exact ⟨_, rfl, State.endPcieLoops_in (hotReset_in .refl rfl) rfl⟩
  | linkDisable => exact ⟨_, rfl, State.endPcieLoops_in (linkDisable_in .refl rfl) rfl⟩
  | linkLoss => exact ⟨_, rfl, State.endPcieLoops_in (linkLoss_in .refl rfl) rfl⟩
  | flitCrcFail => exact ⟨_, rfl, flitCrcFail_in .refl rfl⟩
  | l0pRequest => exact ⟨_, rfl, l0pRequest_in .refl rfl⟩
  | l0pWidthWrite => exact ⟨_, rfl, l0pWidthWrite_in .refl rfl⟩
  | cfgReadySet => exact ⟨_, rfl, cfgReadySet_in .refl rfl⟩
  | cfgReadyTimeout => exact ⟨_, rfl, cfgReadyTimeout_in .refl rfl⟩
  | configurationRequest => exact ⟨_, rfl, configurationRequest_in .refl rfl⟩
  | atsInvalidation => exact ⟨_, rfl, State.modPort_in .refl rfl⟩
  -- 04, 05: controllers, queues and commands
  | functionLevelReset => exact ⟨_, rfl, functionLevelReset_in .refl rfl⟩
  | vfEnableClear => exact ⟨_, rfl, State.settle_in (State.clearVfs_in .refl rfl) rfl⟩
  | controllerEnable => exact ⟨_, rfl, State.endPcieLoops_in (controllerEnable_in .refl rfl) rfl⟩
  | controllerReset => exact ⟨_, rfl, controllerReset_in .refl rfl⟩
  | sqTailDoorbell => exact ⟨_, rfl, sqTailDoorbell_in .refl rfl⟩
  | cqHeadDoorbell => exact ⟨_, rfl, cqHeadDoorbell_in .refl rfl⟩
  | deferredDoorbellObserve => exact ⟨_, rfl, deferredDoorbellObserve_in .refl rfl⟩
  | admission => exact ⟨_, rfl, admission_in .refl rfl⟩
  | commandDispatch => exact ⟨_, rfl, commandDispatch_in .refl rfl⟩
  | hostDataFetch => exact ⟨_, rfl, hostDataFetch_in .refl rfl⟩
  | pieceDispatch => exact ⟨_, rfl, pieceDispatch_in .refl rfl⟩
  | pieceCommit => exact ⟨_, rfl, pieceCommit_in .refl rfl⟩
  | read => exact ⟨_, rfl, read_in .refl rfl⟩
  | write => exact ⟨_, rfl, write_in .refl rfl⟩
  | writeZeroes => exact ⟨_, rfl, writeZeroes_in .refl rfl⟩
  | flush => exact ⟨_, rfl, flush_in .refl rfl⟩
  | verify => exact ⟨_, rfl, verify_in .refl rfl⟩
  | orderFence => exact ⟨_, rfl, orderFence_in .refl rfl⟩
  | zoneAppend => exact ⟨_, rfl, zoneAppend_in .refl rfl⟩
  | datasetManagement => exact ⟨_, rfl, datasetManagement_in .refl rfl⟩
  | ioManagementSend => exact ⟨_, rfl, ioManagementSend_in .refl rfl⟩
  | ioManagementReceive => exact ⟨_, rfl, ioManagementReceive_in .refl rfl⟩
  | zoneOpen => exact ⟨_, rfl, zoneOpen_in .refl rfl⟩
  | zoneClose => exact ⟨_, rfl, zoneClose_in .refl rfl⟩
  | zoneFinish => exact ⟨_, rfl, zoneFinish_in .refl rfl⟩
  | zoneReset => exact ⟨_, rfl, zoneReset_in .refl rfl⟩
  | zoneOffline => exact ⟨_, rfl, zoneOffline_in .refl rfl⟩
  | zoneManagementReceive => exact ⟨_, rfl, zoneManagementReceive_in .refl rfl⟩
  | identify => exact ⟨_, rfl, identify_in .refl rfl⟩
  | getLogPage => exact ⟨_, rfl, getLogPage_in .refl rfl⟩
  | lostStripesLog => exact ⟨_, rfl, lostStripesLog_in .refl rfl⟩
  | tallySnapshotLog => exact ⟨_, rfl, tallySnapshotLog_in .refl rfl⟩
  | eventRecorderWindowLog => exact ⟨_, rfl, eventRecorderWindowLog_in .refl rfl⟩
  | createIoSubmissionQueue => exact ⟨_, rfl, createIoSubmissionQueue_in .refl rfl⟩
  | createIoCompletionQueue => exact ⟨_, rfl, createIoCompletionQueue_in .refl rfl⟩
  | deleteIoSubmissionQueue => exact ⟨_, rfl, deleteIoSubmissionQueue_in .refl rfl⟩
  | deleteIoCompletionQueue => exact ⟨_, rfl, deleteIoCompletionQueue_in .refl rfl⟩
  | setFeatures => exact ⟨_, rfl, setFeatures_in .refl rfl⟩
  | getFeatures => exact ⟨_, rfl, getFeatures_in .refl rfl⟩
  | setNumberOfQueues => exact ⟨_, rfl, setNumberOfQueues_in .refl rfl⟩
  | setPowerManagement => exact ⟨_, rfl, setPowerManagement_in .refl rfl⟩
  | setQueueOrdering => exact ⟨_, rfl, setQueueOrdering_in .refl rfl⟩
  | getQueueOrdering => exact ⟨_, rfl, getQueueOrdering_in .refl rfl⟩
  | setFunctionWeights => exact ⟨_, rfl, setFunctionWeights_in .refl rfl⟩
  | getFunctionWeights => exact ⟨_, rfl, getFunctionWeights_in .refl rfl⟩
  | setTailClass => exact ⟨_, rfl, setTailClass_in .refl rfl⟩
  | getTailClass => exact ⟨_, rfl, getTailClass_in .refl rfl⟩
  | setFdp => exact ⟨_, rfl, setFdp_in .refl rfl⟩
  | abort => exact ⟨_, rfl, abort_in .refl rfl⟩
  | asynchronousEventRequest => exact ⟨_, rfl, asynchronousEventRequest_in .refl rfl⟩
  | namespaceCreate => exact ⟨_, rfl, namespaceCreate_in .refl rfl⟩
  | namespaceDelete => exact ⟨_, rfl, namespaceDelete_in .refl rfl⟩
  | namespaceAttachment => exact ⟨_, rfl, namespaceAttachment_in .refl rfl⟩
  | formatNvm => exact ⟨_, rfl, formatNvm_in .refl rfl⟩
  | firmwareImageDownload => exact ⟨_, rfl, firmwareImageDownload_in .refl rfl⟩
  | firmwareCommit => exact ⟨_, rfl, firmwareCommit_in .refl rfl⟩
  | deviceSelfTest => exact ⟨_, rfl, deviceSelfTest_in .refl rfl⟩
  | sanitizeBlockErase => exact ⟨_, rfl, sanitizeBlockErase_in .refl rfl⟩
  | sanitizeCryptoErase => exact ⟨_, rfl, sanitizeCryptoErase_in .refl rfl⟩
  | nvmeMiSend => exact ⟨_, rfl, nvmeMiSend_in .refl rfl⟩
  | nvmeMiReceive => exact ⟨_, rfl, nvmeMiReceive_in .refl rfl⟩
  | dictionaryRead => exact ⟨_, rfl, dictionaryRead_in .refl rfl⟩
  | dictionaryWrite => exact ⟨_, rfl, dictionaryWrite_in .refl rfl⟩
  -- 05: shares and mailboxes
  | hfeQallocWrite => exact ⟨_, rfl, hfeQallocWrite_in .refl rfl⟩
  | hfeCmdlimWrite => exact ⟨_, rfl, hfeCmdlimWrite_in .refl rfl⟩
  | admitEnSet => exact ⟨_, rfl, admitEnSet_in .refl rfl⟩
  | mailboxInPost => exact ⟨_, rfl, mailboxInPost_in .refl rfl⟩
  | mailboxOutAck => exact ⟨_, rfl, mailboxOutAck_in .refl rfl⟩
  | mailboxRingCommit => exact ⟨_, rfl, mailboxRingCommit_in .refl rfl⟩
  | outPost => exact ⟨_, rfl, outPost_in .refl rfl⟩
  | inDone => exact ⟨_, rfl, inDone_in .refl rfl⟩
  -- 06: zones and placement
  | zpmSsetWrite => exact ⟨_, rfl, zpmSsetWrite_in .refl rfl⟩
  | zpmPgrpWrite => exact ⟨_, rfl, zpmPgrpWrite_in .refl rfl⟩
  | dcmdRead => exact ⟨_, rfl, dcmdRead_in .refl rfl⟩
  | setAttr => exact ⟨_, rfl, setAttr_in .refl rfl⟩
  | readOnly => exact ⟨_, rfl, readOnly_in .refl rfl⟩
  | offline => exact ⟨_, rfl, offline_in .refl rfl⟩
  | setFwtag => exact ⟨_, rfl, setFwtag_in .refl rfl⟩
  | ckptNow => exact ⟨_, rfl, ckptNow_in .refl rfl⟩
  | zoneCheckpointEnd => exact ⟨_, rfl, zoneCheckpointEnd_in .refl rfl⟩
  -- 07: media management
  | layout => exact ⟨_, rfl, layout_in .refl rfl⟩
  | ucmdRead => exact ⟨_, rfl, ucmdRead_in .refl rfl⟩
  | ucmdSet => exact ⟨_, rfl, ucmdSet_in .refl rfl⟩
  | mapflush => exact ⟨_, rfl, mapflush_in .refl rfl⟩
  | mapFlushEnd => exact ⟨_, rfl, mapFlushEnd_in .refl rfl⟩
  | kilnEn => exact ⟨_, rfl, kilnEn_in .refl rfl⟩
  | recipeStepWrite => exact ⟨_, rfl, recipeStepWrite_in .refl rfl⟩
  | migrate => exact ⟨_, rfl, migrate_in .refl rfl⟩
  | healthWrite => exact ⟨_, rfl, healthWrite_in .refl rfl⟩
  -- 08: flash channels
  | pwrOn => exact ⟨_, rfl, pwrOn_in .refl rfl⟩
  | pwrOff => exact ⟨_, rfl, pwrOff_in .refl rfl⟩
  | groupReady => exact ⟨_, rfl, groupReadyReq_in .refl rfl⟩
  | rampWaitEnd => exact ⟨_, rfl, rampWaitEnd_in .refl rfl⟩
  | groupDieResetTimeout => exact ⟨_, rfl, groupDieResetTimeout_in .refl rfl⟩
  | vccqUndervoltage => exact ⟨_, rfl, vccqUndervoltage_in .refl rfl⟩
  | timingSetWrite => exact ⟨_, rfl, timingSetWrite_in .refl rfl⟩
  | fenceSet => exact ⟨_, rfl, fenceSet_in .refl rfl⟩
  | calibrationEntryWrite => exact ⟨_, rfl, calibrationEntryWrite_in .refl rfl⟩
  -- 09: flash descriptors
  | descriptorSubmit => exact ⟨_, rfl, descriptorSubmit_in .refl rfl⟩
  | hwDescriptorSubmit => exact ⟨_, rfl, hwDescriptorSubmit_in .refl rfl⟩
  | mediaRead => exact ⟨_, rfl, mediaReadRow_in .refl rfl⟩
  | prog => exact ⟨_, rfl, prog_in .refl rfl⟩
  | progPass => exact ⟨_, rfl, progPass_in .refl rfl⟩
  | erase => exact ⟨_, rfl, erase_in .refl rfl⟩
  | dieReset => exact ⟨_, rfl, dieReset_in .refl rfl⟩
  | setfeat => exact ⟨_, rfl, setfeat_in .refl rfl⟩
  | getfeat => exact ⟨_, rfl, getfeat_in .refl rfl⟩
  | readid => exact ⟨_, rfl, readid_in .refl rfl⟩
  | train => exact ⟨_, rfl, train_in .refl rfl⟩
  | lib => exact ⟨_, rfl, lib_in .refl rfl⟩
  | run => exact ⟨_, rfl, run_in .refl rfl⟩
  | loadedConfirm => exact ⟨_, rfl, loadedConfirm_in .refl rfl⟩
  | statusPoll => exact ⟨_, rfl, statusPoll_in .refl rfl⟩
  | tailSuspend => exact ⟨_, rfl, tailSuspend_in .refl rfl⟩
  | suspendTimeout => exact ⟨_, rfl, suspendTimeout_in .refl rfl⟩
  | dieWaitTimeout => exact ⟨_, rfl, dieWaitTimeout_in .refl rfl⟩
  | descriptorMaxwaitExpire => exact ⟨_, rfl, descriptorMaxwaitExpire_in .refl rfl⟩
  | cqHeadAdvance => exact ⟨_, rfl, cqHeadAdvance_in .refl rfl⟩
  | engineRun => exact ⟨_, rfl, engineRun_in .refl rfl⟩
  | engineStop => exact ⟨_, rfl, engineStop_in .refl rfl⟩
  | engineReset => exact ⟨_, rfl, engineReset_in .refl rfl⟩
  | descriptorWithdraw => exact ⟨_, rfl, descriptorWithdraw_in .refl rfl⟩
  | engineConfigWrite => exact ⟨_, rfl, engineConfigWrite_in .refl rfl⟩
  -- 10: microcode
  | cmd => exact ⟨_, rfl, cmd_in .refl rfl⟩
  | addr => exact ⟨_, rfl, addr_in .refl rfl⟩
  | dout => exact ⟨_, rfl, dout_in .refl rfl⟩
  | din => exact ⟨_, rfl, din_in .refl rfl⟩
  | waitst => exact ⟨_, rfl, waitst_in .refl rfl⟩
  | wait => exact ⟨_, rfl, wait_in .refl rfl⟩
  | sett => exact ⟨_, rfl, sett_in .refl rfl⟩
  | fchk => exact ⟨_, rfl, fchk_in .refl rfl⟩
  | yield => exact ⟨_, rfl, yield_in .refl rfl⟩
  | done => exact ⟨_, rfl, doneInstr_in .refl rfl⟩
  | ldi => exact ⟨_, rfl, ldi_in .refl rfl⟩
  | ldd => exact ⟨_, rfl, ldd_in .refl rfl⟩
  | std => exact ⟨_, rfl, std_in .refl rfl⟩
  | add => exact ⟨_, rfl, add_in .refl rfl⟩
  | and => exact ⟨_, rfl, andInstr_in .refl rfl⟩
  | or => exact ⟨_, rfl, orInstr_in .refl rfl⟩
  | xor => exact ⟨_, rfl, xorInstr_in .refl rfl⟩
  | shl => exact ⟨_, rfl, shl_in .refl rfl⟩
  | shr => exact ⟨_, rfl, shr_in .refl rfl⟩
  | br => exact ⟨_, rfl, br_in .refl rfl⟩
  | call => exact ⟨_, rfl, call_in .refl rfl⟩
  | ret => exact ⟨_, rfl, ret_in .refl rfl⟩
  | programStoreWrite => exact ⟨_, rfl, programStoreWrite_in .refl rfl⟩
  | programStoreRead => exact ⟨_, rfl, programStoreRead_in .refl rfl⟩
  | localMemoryWindowAccess => exact ⟨_, rfl, localMemoryWindowAccess_in .refl rfl⟩
  -- 11: ECC
  | codewordDecodeEnd => exact ⟨_, rfl, codewordDecodeEnd_in .refl rfl⟩
  | candPop => exact ⟨_, rfl, candPop_in .refl rfl⟩
  | dclr => exact ⟨_, rfl, dclr_in .refl rfl⟩
  | eccProfileWrite => exact ⟨_, rfl, eccProfileWrite_in .refl rfl⟩
  -- 12: redundancy
  | mshSsetWrite => exact ⟨_, rfl, mshSsetWrite_in .refl rfl⟩
  | positionWrite => exact ⟨_, rfl, positionWrite_in .refl rfl⟩
  | mashRecipeWrite => exact ⟨_, rfl, mashRecipeWrite_in .refl rfl⟩
  | fail => exact ⟨_, rfl, fail_in .refl rfl⟩
  | assign => exact ⟨_, rfl, assign_in .refl rfl⟩
  | readmit => exact ⟨_, rfl, readmit_in .refl rfl⟩
  | retire => exact ⟨_, rfl, retire_in .refl rfl⟩
  | dieStateRead => exact ⟨_, rfl, dieStateRead_in .refl rfl⟩
  | dieProbe => exact ⟨_, rfl, dieProbe_in .refl rfl⟩
  | dieSelfTestEnd => exact ⟨_, rfl, dieSelfTestEnd_in .refl rfl⟩
  | rebuildRowTake => exact ⟨_, rfl, rebuildRowTake_in .refl rfl⟩
  | reshapeStart => exact ⟨_, rfl, reshapeStart_in .refl rfl⟩
  | reshapeCopySwitch => exact ⟨_, rfl, reshapeCopySwitch_in .refl rfl⟩
  | patrolRead => exact ⟨_, rfl, patrolRead_in .refl rfl⟩
  -- 13: the protected cache and hold-up
  | mainSenseLow => exact ⟨_, rfl, mainSenseLow_in .refl rfl⟩
  | lossDebounceExpire => exact ⟨_, rfl, lossDebounceExpire_in .refl rfl⟩
  | lossTimerClear => exact ⟨_, rfl, lossTimerClear_in .refl rfl⟩
  | goodDebounceExpire => exact ⟨_, rfl, goodDebounceExpire_in .refl rfl⟩
  | huSenseCrossing => exact ⟨_, rfl, huSenseCrossing_in .refl rfl⟩
  | checkNow => exact ⟨_, rfl, checkNow_in .refl rfl⟩
  | storeCheckEnd => exact ⟨_, rfl, storeCheckEnd_in .refl rfl⟩
  | storeCheckInterval => exact ⟨_, rfl, storeCheckInterval_in .refl rfl⟩
  | drain => exact ⟨_, rfl, drainWrite_in .refl rfl⟩
  | holdupEnableWrite => exact ⟨_, rfl, holdupEnableWrite_in .refl rfl⟩
  | holdupArm => exact ⟨_, rfl, holdupArm_in .refl rfl⟩
  | drainComplete => exact ⟨_, rfl, drainComplete_in .refl rfl⟩
  | dumpEnd => exact ⟨_, rfl, dumpEnd_in .refl rfl⟩
  | doneRestart => exact ⟨_, rfl, doneRestart_in .refl rfl⟩
  -- 14: memory and tubs
  | bankAssignWrite => exact ⟨_, rfl, bankAssignWrite_in .refl rfl⟩
  | lock => exact ⟨_, rfl, lockBanks_in .refl rfl⟩
  | cclr => exact ⟨_, rfl, cclr_in .refl rfl⟩
  | rowRetire => exact ⟨_, rfl, rowRetire_in .refl rfl⟩
  | scrubRead => exact ⟨_, rfl, scrubRead_in .refl rfl⟩
  | tubEnable => exact ⟨_, rfl, tubEnable_in .refl rfl⟩
  | alloc => exact ⟨_, rfl, alloc_in .refl rfl⟩
  | append => exact ⟨_, rfl, append_in .refl rfl⟩
  | tubGrant => exact ⟨_, rfl, tubGrant_in .refl rfl⟩
  | free => exact ⟨_, rfl, free_in .refl rfl⟩
  | trim => exact ⟨_, rfl, trim_in .refl rfl⟩
  | tubWindowWrite => exact ⟨_, rfl, tubWindowWrite_in .refl rfl⟩
  -- 15: the cipher
  | gcmTailWrite => exact ⟨_, rfl, gcmTailWrite_in .refl rfl⟩
  | encrypt => exact ⟨_, rfl, encrypt_in .refl rfl⟩
  | decrypt => exact ⟨_, rfl, decrypt_in .refl rfl⟩
  | rekey => exact ⟨_, rfl, rekey_in .refl rfl⟩
  | rngRead => exact ⟨_, rfl, rngRead_in .refl rfl⟩
  | drbgHealthFail => exact ⟨_, rfl, drbgHealthFail_in .refl rfl⟩
  | force => exact ⟨_, rfl, force_in .refl rfl⟩
  -- 16: start-up and control
  | vaonPowerOn => exact ⟨_, rfl, vaonPowerOn_in .refl rfl⟩
  | pgoodRise => exact ⟨_, rfl, pgoodRise_in .refl rfl⟩
  | pgoodTimeout => exact ⟨_, rfl, pgoodTimeout_in .refl rfl⟩
  | supplyRetry => exact ⟨_, rfl, supplyRetry_in .refl rfl⟩
  | sramClearEnd => exact ⟨_, rfl, sramClearEnd_in .refl rfl⟩
  | bootImageLoad => exact ⟨_, rfl, bootImageLoad_in .refl rfl⟩
  | configRecordLoad => exact ⟨_, rfl, configRecordLoad_in .refl rfl⟩
  | metadataLoad => exact ⟨_, rfl, metadataLoad_in .refl rfl⟩
  | dumpLoad => exact ⟨_, rfl, dumpLoad_in .refl rfl⟩
  | zoneTableReload => exact ⟨_, rfl, zoneTableReload_in .refl rfl⟩
  | dumpApplication => exact ⟨_, rfl, dumpApplication_in .refl rfl⟩
  | coreRun => exact ⟨_, rfl, coreRun_in .refl rfl⟩
  | coreReset => exact ⟨_, rfl, coreReset_in .refl rfl⟩
  | restart => exact ⟨_, rfl, restart_in .refl rfl⟩
  | eventClaim => exact ⟨_, rfl, eventClaim_in .refl rfl⟩
  | softwareTrigger => exact ⟨_, rfl, softwareTrigger_in .refl rfl⟩
  | asyncEventRaise => exact ⟨_, rfl, asyncEventRaise_in .refl rfl⟩
  -- 17: power and temperature
  | powerRequest => exact ⟨_, rfl, powerRequest_in .refl rfl⟩
  | domainGate => exact ⟨_, rfl, domainGate_in .refl rfl⟩
  | domainPowerDown => exact ⟨_, rfl, domainPowerDown_in .refl rfl⟩
  | domainPowerOn => exact ⟨_, rfl, domainPowerOn_in .refl rfl⟩
  | domainAnswer => exact ⟨_, rfl, domainAnswer_in .refl rfl⟩
  | domainDelayTimeout => exact ⟨_, rfl, domainDelayTimeout_in .refl rfl⟩
  | entryComplete => exact ⟨_, rfl, entryComplete_in .refl rfl⟩
  | idleEntry => exact ⟨_, rfl, idleEntry_in .refl rfl⟩
  | mainWake => exact ⟨_, rfl, mainWake_in .refl rfl⟩
  | rtcAlarm => exact ⟨_, rfl, rtcAlarm_in .refl rfl⟩
  | gpioWake => exact ⟨_, rfl, gpioWake_in .refl rfl⟩
  | esnexWakeFrame => exact ⟨_, rfl, esnexWakeFrame_in .refl rfl⟩
  | thermalShutdown => exact ⟨_, rfl, thermalShutdown_in .refl rfl⟩
  | thermalRestart => exact ⟨_, rfl, thermalRestart_in .refl rfl⟩
  | suspclr => exact ⟨_, rfl, suspclr_in .refl rfl⟩
  -- 18: the dictionary and the network
  | mgtRead => exact ⟨_, rfl, mgtRead_in .refl rfl⟩
  | mgtWrite => exact ⟨_, rfl, mgtWrite_in .refl rfl⟩
  | frameReject => exact ⟨_, rfl, frameReject_in .refl rfl⟩
  | esnexRead => exact ⟨_, rfl, esnexRead_in .refl rfl⟩
  | esnexWrite => exact ⟨_, rfl, esnexWrite_in .refl rfl⟩
  | readBlock => exact ⟨_, rfl, readBlock_in .refl rfl⟩
  | writeBlock => exact ⟨_, rfl, writeBlock_in .refl rfl⟩
  | notify => exact ⟨_, rfl, notify_in .refl rfl⟩
  | snapshot => exact ⟨_, rfl, snapshot_in .refl rfl⟩
  | sessionOpen => exact ⟨_, rfl, sessionOpen_in .refl rfl⟩
  | sessionClose => exact ⟨_, rfl, sessionClose_in .refl rfl⟩
  | configRecordWriteDone => exact ⟨_, rfl, configRecordWriteDone_in .refl rfl⟩
  | configCopyTimeout => exact ⟨_, rfl, configCopyTimeout_in .refl rfl⟩
  | stagingExpire => exact ⟨_, rfl, stagingExpire_in .refl rfl⟩
  | sessionIdleExpire => exact ⟨_, rfl, sessionIdleExpire_in .refl rfl⟩
  | networkDownTimeout => exact ⟨_, rfl, networkDownTimeout_in .refl rfl⟩
  | mctpMessage => exact ⟨_, rfl, mctpMessage_in .refl rfl⟩
  | readNvmeMiDataStructure => exact ⟨_, rfl, readNvmeMiDataStructure_in .refl rfl⟩
  | nvmSubsystemHealthStatusPoll => exact ⟨_, rfl, nvmSubsystemHealthStatusPoll_in .refl rfl⟩
  | controllerHealthStatusPoll => exact ⟨_, rfl, controllerHealthStatusPoll_in .refl rfl⟩
  | configurationGet => exact ⟨_, rfl, configurationGet_in .refl rfl⟩
  | configurationSet => exact ⟨_, rfl, configurationSet_in .refl rfl⟩
  | vpdRead => exact ⟨_, rfl, vpdRead_in .refl rfl⟩
  | vpdWrite => exact ⟨_, rfl, vpdWrite_in .refl rfl⟩
  | nvmeAdminCommand => exact ⟨_, rfl, nvmeAdminCommand_in .refl rfl⟩
  -- 19: recorder and tally
  | snap => exact ⟨_, rfl, snapWrite_in .refl rfl⟩
  | tallyValueRead => exact ⟨_, rfl, tallyValueRead_in .refl rfl⟩
  | softTrigger => exact ⟨_, rfl, softTrigger_in .refl rfl⟩
  | recorderFlush => exact ⟨_, rfl, recorderFlush_in .refl rfl⟩
  | recorderFlushTimer => exact ⟨_, rfl, recorderFlushTimer_in .refl rfl⟩
  | recordFetch => exact ⟨_, rfl, recordFetch_in .refl rfl⟩
  | recordFetchDone => exact ⟨_, rfl, recordFetchDone_in .refl rfl⟩
  | step => exact ⟨_, rfl, stepWrite_in .refl rfl⟩
  | clrlast => exact ⟨_, rfl, clrlast_in .refl rfl⟩
  -- 20: safety
  | kick => exact ⟨_, rfl, kick_in .refl rfl⟩
  | watchdogExpire => exact ⟨_, rfl, watchdogExpire_in .refl rfl⟩
  | heartbeatMissing => exact ⟨_, rfl, heartbeatMissing_in .refl rfl⟩
  | lockstepMismatch => exact ⟨_, rfl, lockstepMismatch_in .refl rfl⟩
  | supplyMonitorTrip => exact ⟨_, rfl, supplyMonitorTrip_in .refl rfl⟩
  | referenceClockLost => exact ⟨_, rfl, referenceClockLost_in .refl rfl⟩
  | periodicSelfTest => exact ⟨_, rfl, periodicSelfTest_in .refl rfl⟩
  | selfTestVerdict => exact ⟨_, rfl, selfTestVerdict_in .refl rfl⟩
  -- 21: loopbacks, self-tests and debug
  | loopbackStart => exact ⟨_, rfl, loopbackStart_in .refl rfl⟩
  | loopbackStop => exact ⟨_, rfl, loopbackStop_in .refl rfl⟩
  | loopbackDurationEnd => exact ⟨_, rfl, loopbackDurationEnd_in .refl rfl⟩
  | bistStart => exact ⟨_, rfl, bistStart_in .refl rfl⟩
  | bistDone => exact ⟨_, rfl, bistDone_in .refl rfl⟩
  | debugUnlockRequest => exact ⟨_, rfl, debugUnlockRequest_in .refl rfl⟩
  | debugUnlockVerdict => exact ⟨_, rfl, debugUnlockVerdict_in .refl rfl⟩
  | idcode => exact ⟨_, rfl, tapIdcode_in .refl rfl⟩
  | samplePreload => exact ⟨_, rfl, samplePreload_in .refl rfl⟩
  | extest => exact ⟨_, rfl, extest_in .refl rfl⟩
  | highz => exact ⟨_, rfl, highz_in .refl rfl⟩
  | clamp => exact ⟨_, rfl, clamp_in .refl rfl⟩
  | extestPulse => exact ⟨_, rfl, extestPulse_in .refl rfl⟩
  | extestTrain => exact ⟨_, rfl, extestTrain_in .refl rfl⟩
  | dtmcs => exact ⟨_, rfl, dtmcs_in .refl rfl⟩
  | dmi => exact ⟨_, rfl, dmiAccess_in .refl rfl⟩
  | bypass => exact ⟨_, rfl, tapBypass_in .refl rfl⟩
  | debugHalt => exact ⟨_, rfl, debugHalt_in .refl rfl⟩
  -- 03, 16, 17: supplies, clocks and links
  | vaonLoss => exact ⟨_, rfl, vaonLoss_in .refl rfl⟩
  | lampCrystalStable => exact ⟨_, rfl, lampCrystalStable_in .refl rfl⟩
  | linkUp => exact ⟨_, rfl, linkUp_in .refl rfl⟩
  | recoveryEntry => exact ⟨_, rfl, State.endPcieLoops_in (recoveryEntry_in .refl rfl) rfl⟩
  | linkL1Entry => exact ⟨_, rfl, State.endPcieLoops_in (linkL1Entry_in .refl rfl) rfl⟩
  | linkL1Exit => exact ⟨_, rfl, linkL1Exit_in .refl rfl⟩
  | linkL2Entry => exact ⟨_, rfl, State.endPcieLoops_in (linkL2Entry_in .refl rfl) rfl⟩
  | runTimeLimitExpire => exact ⟨_, rfl, runTimeLimitExpire_in .refl rfl⟩

/-- No command may change the part's identity (bit 27) or the queue of waiting commands (bit 56). -/
theorem mayChange_ident_pending (i : Instr) : (mayChange i).testBit 27 = false ∧ (mayChange i).testBit 56 = false := by
  cases i <;> simp only [mayChange] <;> exact ⟨rfl, rfl⟩

/-- Settles O1: the frame of every command, and the two parts that are in no command's mask. -/
theorem everyCommandStaysWithinItsParts : Obligations.EveryCommandStaysWithinItsParts := by
  intro i s
  obtain ⟨t, hexec, hwithin⟩ := exec_within s i
  obtain ⟨hident, hpending⟩ := mayChange_ident_pending i
  exact ⟨t, hexec, hwithin, hwithin.pending hpending, hwithin.ident hident⟩

end Sys2Proof.Machine

/-! Proofs of O6 and O8: what a register write, a read and the halves of a 64-bit pair do when the access goes through (R14, R17, R42).
An access that goes through (`State.direct`) acts on the word in the state in which it arrives, which events and the clock of a gated
domain alone set apart from the state it was sent in. -/

namespace Sys2Proof.Machine

/-! What an access that arrives finds: the registers no event changes, the bytes of memory and the halves of pairs are still those of
the state it was sent in (R40). -/

theorem State.arrive_fld (m a : Nat) (s : State) {g : Fld} (h : eventKey g.key = false) : (s.arrive m a).fld g = s.fld g :=
  (s.arrive_quiet m a).fld g h

theorem Quiet.shadow {s t : State} (h : Quiet s t) : t.bus.shadow = s.bus.shadow := (congrArg (fun x => x.bus.shadow) h.rest :)
theorem Quiet.staged {s t : State} (h : Quiet s t) : t.bus.staged = s.bus.staged := (congrArg (fun x => x.bus.staged) h.rest :)

theorem State.arrive_rfault (m a : Nat) (s : State) : Tab.get 0 (s.arrive m a).bus.rfault m = 0 := by
  simp [State.arrive]

theorem keepsMem_of_mem {s t : State} (h : t.bus.mem = s.bus.mem) : keepsMem s t := fun a => by simp only [State.byte, h]

/-! What a read returns, and the halves of pairs (R16, R17, R42). -/

section
variable (s : State) (m a v : Nat)

@[simp] theorem State.returns_rdata : Tab.get 0 (s.returns m v).bus.rdata m = v := by simp [State.returns]
@[simp] theorem State.returns_rfault : Tab.get 0 (s.returns m v).bus.rfault m = 0 := by simp [State.returns]
@[simp] theorem State.returns_mem : (s.returns m v).bus.mem = s.bus.mem := rfl
@[simp] theorem State.returns_regs : (s.returns m v).regs = s.regs := rfl
@[simp] theorem State.fld_returns (g : Fld) : (s.returns m v).fld g = s.fld g := rfl

@[simp] theorem State.returnPair_rdata : Tab.get 0 (s.returnPair m a v).bus.rdata m = v % 2 ^ 32 := by
  simp [State.returnPair]
@[simp] theorem State.returnPair_shadow : Tab.get 0 (s.returnPair m a v).bus.shadow (a * 16 + m) = v / 2 ^ 32 % 2 ^ 32 := by
  simp [State.returnPair]
theorem State.returnPair_shadow_ne {k : Nat} (h : k ≠ a * 16 + m) :
    Tab.get 0 (s.returnPair m a v).bus.shadow k = Tab.get 0 s.bus.shadow k := Tab.get_set_ne 0 _ _ h
@[simp] theorem State.returnPair_mem : (s.returnPair m a v).bus.mem = s.bus.mem := rfl
@[simp] theorem State.returnPair_regs : (s.returnPair m a v).regs = s.regs := rfl

@[simp] theorem State.stageLow_staged : Tab.get none (s.stageLow m a v).bus.staged (a * 16 + m) = some (v % 2 ^ 32) := by
  simp [State.stageLow]
@[simp] theorem State.stageLow_mem : (s.stageLow m a v).bus.mem = s.bus.mem := rfl
@[simp] theorem State.stageLow_regs : (s.stageLow m a v).regs = s.regs := rfl
@[simp] theorem State.fld_stageLow (g : Fld) : (s.stageLow m a v).fld g = s.fld g := rfl

@[simp] theorem State.unstage_staged : Tab.get none (s.unstage m a).bus.staged (a * 16 + m) = none := by simp [State.unstage]
@[simp] theorem State.unstage_mem : (s.unstage m a).bus.mem = s.bus.mem := rfl
@[simp] theorem State.fld_unstage (g : Fld) : (s.unstage m a).fld g = s.fld g := rfl

end

/-! REGISTER_WRITE of the words of `plainRw` (R14). -/

/-- Every field of such a word is RW, so that the word has no field of another type, and each stands at a place of its own. -/
theorem plainRw_word : ∀ f ∈ plainRw, (f, Acc.rw) ∈ fieldsAt f.addr ∧ (∀ e ∈ fieldsAt f.addr, e.2 = .rw) ∧
    (fieldsAt f.addr).Pairwise fun x y => x.1.key ≠ y.1.key := by
  decide +kernel

/-- Does a write of the word at `a` do more than its access types say, in the blocks BEL, FNS, MED, ECC, MSH, TUB, MEM and THM? -/
def ownWrite (a : Nat) : Bool :=
  let prof := (a - 0x41200100) / 4
  let set := (a - 0x41410000) / 4
  let core := (a - 0x41800200) / 8
  let bank := (a - 0x41a00100) / 4
  decide (a = BEL_CTRL.SRC.addr ∨ a = BEL_MASK.MASK.addr + 4 ∨ a = BEL_BUDGET.BUDGET.addr ∨ a = BEL_MODE_CMD.GO.addr ∨
    a = FNS_MBXACK.FUNC.addr ∨ (0x40810000 ≤ a ∧ a < 0x40820000) ∨
    a = MED_CTRL.LAYOUT.addr ∨ a = MED_UCMD.OP.addr ∨ a = MED_MIGR.OP.addr ∨ a = MED_RCPDATA.STEPWORD.addr ∨
    a = ECC_CTRL.DCLR.addr ∨ (a = (ECC_PROF.SOFT prof).addr ∧ prof < 16) ∨
    a = MSH_DCMD.OP.addr ∨ a = MSH_PDATA.DIE.addr ∨ a = MSH_RCPDATA.WORD.addr ∨ a = MSH_RSHP.GO.addr ∨
    (a = (MSH_SSET.VALID set).addr ∧ set < 4096) ∨
    a = TUB_CTRL.EN.addr ∨ (0x41800100 ≤ a ∧ a < 0x41800130) ∨ (a = (TUB_REQ.OP core).addr ∧ core < 4) ∨ a = TUB_REL.OP.addr ∨
    a = TUB_WUSE.USE.addr ∨ (0x41801000 ≤ a ∧ a < 0x41801200) ∨
    a = MEM_CTRL.LOCK.addr ∨ a = MEM_RETIRE.GO.addr ∨ (a = (MEM_BANKASN.OWNER bank).addr ∧ bank < 56) ∨
    a = THM_CTRL.NANDEN.addr)

/-- The blocks of Table 1.6 that `ownWrite` speaks of. -/
def writeBlocks : List Nat := [1, 4, 6, 9, 10, 12, 13, 17]

theorem State.writeWord_plain {a : Nat} (hb : (a - 0x40000000) / 0x200000 ∈ writeBlocks) (hr : rsWord a = false)
    (ho : ownWrite a = false) (m v : Nat) (s : State) : s.writeWord m a v = s.plainWrite m a v := by
  simp only [ownWrite, decide_eq_false_iff_not, not_or] at ho
  simp only [writeBlocks, List.mem_cons, List.not_mem_nil, or_false] at hb
  unfold State.writeWord
  rw [hr, Bool.false_and, if_neg Bool.false_ne_true]
  rcases hb with hb | hb | hb | hb | hb | hb | hb | hb <;> rw [hb]
  · simp only [writeBel, ho, if_false]
  · simp only [writeFns, ho, if_false]
  · simp only [writeMed, ho, if_false]
  · simp only [writeEcc, ho, if_false]
  · simp only [writeMsh, ho, if_false]
  · simp only [writeTub, ho, if_false]
  · simp only [writeMem, ho, if_false]
  · simp only [writeThm, ho, if_false]

theorem plainRw_own : ∀ f ∈ plainRw, (f.addr - 0x40000000) / 0x200000 ∈ writeBlocks ∧ rsWord f.addr = false ∧
    ownWrite f.addr = false := by
  decide +kernel

/-! A write with no operation of its own changes registers and staged halves alone: neither bit 28 (memory) nor bit 29 (the last access)
stands in the mask of `State.plainWrite_in`. -/

theorem State.plainWrite_mem (m a v : Nat) (s : State) : (s.plainWrite m a v).bus.mem = s.bus.mem :=
  (State.plainWrite_in (m := 1107296255) .refl rfl).mem rfl

theorem State.plainWrite_rfault (m a v : Nat) (s : State) : (s.plainWrite m a v).bus.rfault = s.bus.rfault :=
  ((State.plainWrite_in (m := 1107296255) .refl rfl).lastAccess rfl).2

theorem exec_registerWrite_plainRw {s : State} {m n v : Nat} {f : Fld} (hf : f ∈ plainRw) (h : s.direct m f.addr n) :
    exec (.registerWrite m f.addr v 4 n) s = .next ((s.arrive m f.addr).plainWrite m f.addr v) := by
  obtain ⟨hb, hr, ho⟩ := plainRw_own f hf
  rw [← State.writeWord_plain hb hr ho, ← State.busWrite_direct h]
  rfl

/-! RC_READ of the words of `plainRc` (R14). -/

/-- What a read does to one field of the word. -/
def State.clearField (e : Fld × Acc) (s : State) : State := if e.2 = .rc then s.setFld e.1 0 else s

theorem State.clearRc_eq {a : Nat} (h : a ≠ BEL_ACCT.PEAK.addr) (s : State) : s.clearRc a = each (fieldsAt a) State.clearField s :=
  if_neg h

theorem State.clearField_rc (f : Fld) (s : State) : (State.clearField (f, .rc) s).fld f = 0 :=
  (State.fld_setFld s f 0).trans (Nat.zero_mod _)

theorem State.clearField_ne {e : Fld × Acc} {g : Fld} (h : e.2 = .rc → g.key ≠ e.1.key) (s : State) :
    (State.clearField e s).fld g = s.fld g := by
  unfold State.clearField
  split
  case isTrue he => exact State.fld_setFld_ne s e.1 g 0 (h he)
  case isFalse => rfl

theorem clearFields_ne {g : Fld} {l : List (Fld × Acc)} (h : ∀ e ∈ l, e.2 = .rc → g.key ≠ e.1.key) (s : State) :
    (each l State.clearField s).fld g = s.fld g := by
  induction l generalizing s with
  | nil => rfl
  | cons e l ih =>
    exact (ih (fun x hx => h x (.tail _ hx)) _).trans (State.clearField_ne (h e (.head _)) s)

theorem clearFields_rc {f : Fld} {l : List (Fld × Acc)} (hf : (f, Acc.rc) ∈ l) (hp : l.Pairwise fun x y => x.1.key ≠ y.1.key)
    (s : State) : (each l State.clearField s).fld f = 0 := by
  induction l generalizing s with
  | nil => cases hf
  | cons e l ih =>
    obtain ⟨he, hl⟩ := List.pairwise_cons.1 hp
    rcases List.mem_cons.1 hf with rfl | hf
    · exact (clearFields_ne (fun x hx _ => he x hx) _).trans (State.clearField_rc f s)
    · exact ih hf hl _

/-- Such a word has its RC field, no field that an event may change, and each field at a place of its own. -/
theorem plainRc_word : ∀ f ∈ plainRc, f.addr ≠ BEL_ACCT.PEAK.addr ∧ (f, Acc.rc) ∈ fieldsAt f.addr ∧
    (∀ e ∈ fieldsAt f.addr, eventKey e.1.key = false) ∧ (fieldsAt f.addr).Pairwise fun x y => x.1.key ≠ y.1.key := by
  decide +kernel

/-- Two fields of a word whose fields each stand at a place of their own have different places. -/
theorem key_ne_of_mem {l : List (Fld × Acc)} (hp : l.Pairwise fun x y => x.1.key ≠ y.1.key) {e x : Fld × Acc} (he : e ∈ l)
    (hx : x ∈ l) (hne : e ≠ x) : e.1.key ≠ x.1.key := by
  induction l with
  | nil => cases he
  | cons y l ih =>
    obtain ⟨hy, hl⟩ := List.pairwise_cons.1 hp
    rcases List.mem_cons.1 he with rfl | hel
    · rcases List.mem_cons.1 hx with rfl | hxl
      · exact absurd rfl hne
      · exact hy x hxl
    · rcases List.mem_cons.1 hx with rfl | hxl
      · exact (hy e hel).symm
      · exact ih hl hel hxl

/-- A field of another type is at the place of no RC field of its word. -/
theorem key_ne_of_not_rc {l : List (Fld × Acc)} (hp : l.Pairwise fun x y => x.1.key ≠ y.1.key) {e : Fld × Acc} (he : e ∈ l)
    (ht : e.2 ≠ .rc) : ∀ x ∈ l, x.2 = .rc → e.1.key ≠ x.1.key :=
  fun _ hx hr => key_ne_of_mem hp he hx fun hex => ht (hex ▸ hr)

/-- Has the word at `a` a read operation of its own? -/
def ownRead (a : Nat) : Bool :=
  let eng := (a - 0x41000000) / 0x2000
  let target := (a - 0x41e01000) / 4
  let ring := (a - 0x40820000) / 0x10
  decide (a = CIP_RNG.WORD.addr ∨ a = ECC_CAND.ENTRY.addr ∨ (a = (EVT_CLAIM.VALID target).addr ∧ target < 6) ∨ a = TLY_VAL.VALUE.addr ∨
    (a = (DRF_PSDATA.WORD eng).addr ∧ eng < 128) ∨ (a = (DRF_LMDATA.WORD eng).addr ∧ eng < 128) ∨
    (a = 0x40820000 + 0x10 * ring ∧ ring < 512) ∨ (0x41a80000 ≤ a ∧ a < 0x41b00000))

theorem State.readWord_plain {a : Nat} (h : ownRead a = false) (m : Nat) (s : State) : s.readWord m a = s.plainRead m a := by
  simp only [ownRead, decide_eq_false_iff_not, not_or] at h
  simp only [State.readWord, h, if_false]

theorem plainRc_own : ∀ f ∈ plainRc, ownRead f.addr = false ∧ rlField f.addr = none := by decide +kernel

theorem State.readWord_plainRc {f : Fld} (hf : f ∈ plainRc) (m : Nat) (s : State) :
    s.readWord m f.addr = (s.returns m (s.peekWord m f.addr)).clearRc f.addr := by
  obtain ⟨hown, hnone⟩ := plainRc_own f hf
  rw [State.readWord_plain hown, State.plainRead, hnone, State.fieldRead]

/-- The mask of `State.clearRc_in` holds register blocks alone. -/
theorem State.clearRc_bus (a : Nat) (s : State) : (s.clearRc a).bus.mem = s.bus.mem ∧ (s.clearRc a).bus.rdata = s.bus.rdata ∧
    (s.clearRc a).bus.rfault = s.bus.rfault :=
  have h : Within 33554431 s (s.clearRc a) := State.clearRc_in .refl rfl
  ⟨h.mem rfl, h.lastAccess rfl⟩

theorem exec_rcRead_plainRc {s : State} {m n : Nat} {f : Fld} (hf : f ∈ plainRc) (h : s.direct m f.addr n) :
    exec (.rcRead m f.addr 4 n) s =
      .next (((s.arrive m f.addr).returns m ((s.arrive m f.addr).peekWord m f.addr)).clearRc f.addr) := by
  rw [← State.readWord_plainRc hf, ← State.busRead_direct h]
  rfl

theorem registerWrite_plainRw_effect {s : State} {m n v : Nat} {f : Fld} (hf : f ∈ plainRw) (h : s.direct m f.addr n) :
    ∃ t, exec (.registerWrite m f.addr v 4 n) s = .next t ∧ t.fld f = f.of v ∧
      (∀ e ∈ fieldsAt f.addr, e.2 ≠ .rw → t.fld e.1 = s.fld e.1) ∧
      keepsRegs ((fieldsAt f.addr).map (·.1)) s t ∧ keepsMem s t ∧ Tab.get 0 t.bus.rfault m = 0 := by
  obtain ⟨hrw, hall, hkeys⟩ := plainRw_word f hf
  refine ⟨_, exec_registerWrite_plainRw hf h, State.plainWrite_rw hrw hkeys, ?_, ?_, ?_, ?_⟩
  · exact fun e he ht => absurd (hall e he) ht
  · intro g hg hl
    rw [State.plainWrite_ne fun e he => hl e.1 (List.mem_map_of_mem he), State.arrive_fld m _ s hg]
  · exact (s.arrive_quiet m f.addr).keepsMem.trans (keepsMem_of_mem (State.plainWrite_mem ..))
  · rw [State.plainWrite_rfault]
    exact s.arrive_rfault m f.addr

theorem rcRead_plainRc_effect {s : State} {m n : Nat} {f : Fld} (hf : f ∈ plainRc) (h : s.direct m f.addr n) :
    ∃ t, exec (.rcRead m f.addr 4 n) s = .next t ∧ t.fld f = 0 ∧
      Tab.get 0 t.bus.rdata m = (s.arrive m f.addr).peekWord m f.addr ∧
      (∀ e ∈ fieldsAt f.addr, e.2 ≠ .rc → t.fld e.1 = s.fld e.1) ∧
      keepsRegs ((fieldsAt f.addr).map (·.1)) s t ∧ keepsMem s t ∧ Tab.get 0 t.bus.rfault m = 0 := by
  obtain ⟨hpeak, hrc, hquiet, hkeys⟩ := plainRc_word f hf
  refine ⟨_, exec_rcRead_plainRc hf h, ?_⟩
  generalize hu : (s.arrive m f.addr).returns m _ = u
  have hreg : ∀ g : Fld, eventKey g.key = false → u.fld g = s.fld g := by
    intro g hg
    rw [← hu, State.fld_returns, s.arrive_fld m f.addr hg]
  obtain ⟨hmem, hdata, hfault⟩ := u.clearRc_bus f.addr
  have hclear := State.clearRc_eq hpeak u
  refine ⟨?_, ?_, ?_, ?_, ?_, ?_⟩
  · rw [hclear]
    exact clearFields_rc hrc hkeys u
  · rw [hdata, ← hu, State.returns_rdata]
  · intro e he ht
    rw [hclear, clearFields_ne (key_ne_of_not_rc hkeys he ht)]
    exact hreg e.1 (hquiet e he)
  · intro g hg hl
    rw [hclear, clearFields_ne fun e he _ => hl e.1 (List.mem_map_of_mem he)]
    exact hreg g hg
  · refine keepsMem.trans (b := u) ?_ (keepsMem_of_mem hmem)
    rw [← hu]
    exact (s.arrive_quiet m f.addr).keepsMem.trans (keepsMem_of_mem (State.returns_mem ..))
  · rw [hfault, ← hu, State.returns_rfault]

/-- Settles O6: what an RW word takes from a write, and what a read leaves of an RC word. -/
theorem registerAccessFollowsFieldTypes : Obligations.RegisterAccessFollowsFieldTypes :=
  ⟨fun _ _ _ _ _ => registerWrite_plainRw_effect, fun _ _ _ _ => rcRead_plainRc_effect⟩

/-! The 64-bit pairs (R17, R42). -/

theorem plainRl_own : ∀ f ∈ plainRl, ownRead f.addr = false ∧ rlField f.addr = some f := by decide +kernel

theorem plainRl_not_faddr : ∀ f ∈ plainRl, f.addr ≠ SAF_FADDR.ADDR.addr := by decide

theorem State.readWord_plainRl {f : Fld} (hf : f ∈ plainRl) (m : Nat) (s : State) :
    s.readWord m f.addr = s.returnPair m f.addr (s.view f) := by
  obtain ⟨hown, hsome⟩ := plainRl_own f hf
  rw [State.readWord_plain hown, State.plainRead, hsome, State.fieldRead, State.afterRl, if_neg (plainRl_not_faddr f hf)]

theorem exec_rlRead_plainRl {s : State} {m n : Nat} {f : Fld} (hf : f ∈ plainRl) (h : s.direct m f.addr n) :
    exec (.rlRead m f.addr 4 n) s = .next ((s.arrive m f.addr).returnPair m f.addr ((s.arrive m f.addr).view f)) := by
  rw [← State.readWord_plainRl hf, ← State.busRead_direct h]
  rfl

theorem rlRead_plainRl_effect {s : State} {m n : Nat} {f : Fld} (hf : f ∈ plainRl) (h : s.direct m f.addr n) :
    ∃ t, exec (.rlRead m f.addr 4 n) s = .next t ∧ Tab.get 0 t.bus.rdata m = (s.arrive m f.addr).view f % 2 ^ 32 ∧
      Tab.get 0 t.bus.shadow (f.addr * 16 + m) = (s.arrive m f.addr).view f / 2 ^ 32 % 2 ^ 32 ∧
      (∀ k, k ≠ f.addr * 16 + m → Tab.get 0 t.bus.shadow k = Tab.get 0 s.bus.shadow k) ∧ keepsRegs [] s t ∧ keepsMem s t := by
  have hq := s.arrive_quiet m f.addr
  refine ⟨_, exec_rlRead_plainRl hf h, State.returnPair_rdata .., State.returnPair_shadow .., ?_, ?_, ?_⟩
  · intro k hk
    rw [State.returnPair_shadow_ne _ _ _ _ hk, hq.shadow]
  · exact (hq.keepsRegs []).trans (keepsRegs_of_regs (State.returnPair_regs ..))
  · exact hq.keepsMem.trans (keepsMem_of_mem (State.returnPair_mem ..))

theorem fieldsAt_mask : fieldsAt BEL_MASK.MASK.addr = [(BEL_MASK.MASK, .pair)] ∧
    fieldsAt (BEL_MASK.MASK.addr + 4) = [(BEL_MASK.MASK, .pair)] := by
  decide +kernel

/-- A write of the low half of the slot mask is staged for the master. -/
theorem State.writeWord_maskLow (m v : Nat) (s : State) :
    s.writeWord m BEL_MASK.MASK.addr v = s.stageLow m BEL_MASK.MASK.addr v := by
  rw [State.writeWord_plain (by decide) (by decide) (by decide), State.plainWrite, fieldsAt_mask.1]
  rfl

theorem registerWrite_maskLow_effect {s : State} {m n : Nat} (v : Nat) (h : s.direct m BEL_MASK.MASK.addr n) :
    ∃ t, exec (.registerWrite m BEL_MASK.MASK.addr v 4 n) s = .next t ∧ t.fld BEL_MASK.MASK = s.fld BEL_MASK.MASK ∧
      Tab.get none t.bus.staged (BEL_MASK.MASK.addr * 16 + m) = some (v % 2 ^ 32) ∧ keepsRegs [] s t ∧ keepsMem s t := by
  have hq := s.arrive_quiet m BEL_MASK.MASK.addr
  have he : exec (.registerWrite m BEL_MASK.MASK.addr v 4 n) s =
      .next ((s.arrive m BEL_MASK.MASK.addr).stageLow m BEL_MASK.MASK.addr v) := by
    rw [← State.writeWord_maskLow, ← State.busWrite_direct h]
    rfl
  refine ⟨_, he, ?_, State.stageLow_staged .., ?_, ?_⟩
  · rw [State.fld_stageLow, hq.fld _ (by decide)]
  · exact (hq.keepsRegs []).trans (keepsRegs_of_regs (State.stageLow_regs ..))
  · exact hq.keepsMem.trans (keepsMem_of_mem (State.stageLow_mem ..))

/-- A commit of the slot mask's high half by master `m`: the pair, the staged half consumed, the mask pending and mirrored (R17, R58, R75). -/
def State.commitMask (m v : Nat) (s : State) : State :=
  (((s.setFld BEL_MASK.MASK (s.halves m BEL_MASK.MASK.addr v (s.fld BEL_MASK.MASK))).unstage m BEL_MASK.MASK.addr).put
    BEL_STAT.MASK_PEND true).mirrorPowerUp

theorem State.writeWord_maskHigh (m v : Nat) (s : State) : s.writeWord m (BEL_MASK.MASK.addr + 4) v = s.commitMask m v := by
  have hbel : s.writeWord m (BEL_MASK.MASK.addr + 4) v = writeBel m (BEL_MASK.MASK.addr + 4) v s := by
    unfold State.writeWord
    rw [show rsWord (BEL_MASK.MASK.addr + 4) = false by decide, show (BEL_MASK.MASK.addr + 4 - 0x40000000) / 0x200000 = 1 from rfl]
    rfl
  rw [hbel, writeBel, if_neg (by decide), if_pos rfl, State.plainWrite, fieldsAt_mask.2]
  rfl

theorem halves_lt (s : State) (m a v cur : Nat) : s.halves m a v cur < 2 ^ 64 := by
  unfold State.halves
  omega

/-- The retention words 0 to 2 are the only registers that the mirror of the power-up parameters writes (R75). -/
theorem State.mirrorPowerUp_ne {g : Fld} (s : State) (h0 : g.key ≠ (AON_RET.WORD 0).key) (h1 : g.key ≠ (AON_RET.WORD 1).key)
    (h2 : g.key ≠ (AON_RET.WORD 2).key) : s.mirrorPowerUp.fld g = s.fld g := by
  unfold State.mirrorPowerUp
  extract_lets mask
  rw [State.fld_setFld_ne _ _ _ _ h2, State.fld_setFld_ne _ _ _ _ h1, State.fld_setFld_ne _ _ _ _ h0]

theorem State.mirrorPowerUp_bus (s : State) : s.mirrorPowerUp.bus = s.bus := by
  unfold State.mirrorPowerUp
  extract_lets mask
  rw [State.setFld_bus, State.setFld_bus, State.setFld_bus]

theorem State.commitMask_mask (m v : Nat) (s : State) :
    (s.commitMask m v).fld BEL_MASK.MASK = s.halves m BEL_MASK.MASK.addr v (s.fld BEL_MASK.MASK) := by
  rw [State.commitMask, State.mirrorPowerUp_ne _ (by decide) (by decide) (by decide), State.fld_put_ne _ _ _ _ (by decide),
    State.fld_unstage, State.fld_setFld]
  exact Nat.mod_eq_of_lt (halves_lt ..)

theorem State.commitMask_pend (m v : Nat) (s : State) : (s.commitMask m v).on BEL_STAT.MASK_PEND = true := by
  rw [State.commitMask, State.on, State.mirrorPowerUp_ne _ (by decide) (by decide) (by decide), State.fld_put]
  rfl

theorem State.commitMask_staged (m v : Nat) (s : State) :
    Tab.get none (s.commitMask m v).bus.staged (BEL_MASK.MASK.addr * 16 + m) = none := by
  rw [State.commitMask, State.mirrorPowerUp_bus, State.put_bus, State.unstage_staged]

theorem State.commitMask_mem (m v : Nat) (s : State) : (s.commitMask m v).bus.mem = s.bus.mem := by
  rw [State.commitMask, State.mirrorPowerUp_bus, State.put_bus, State.unstage_mem, State.setFld_bus]

/-- What a commit of the slot mask writes. -/
def maskFields : List Fld := [BEL_MASK.MASK, BEL_STAT.MASK_PEND, AON_RET.WORD 0, AON_RET.WORD 1, AON_RET.WORD 2]

theorem State.commitMask_ne {g : Fld} (m v : Nat) (s : State) (h : ∀ f ∈ maskFields, g.key ≠ f.key) :
    (s.commitMask m v).fld g = s.fld g := by
  have hmask : g.key ≠ BEL_MASK.MASK.key := h _ (.head _)
  have hpend : g.key ≠ BEL_STAT.MASK_PEND.key := h _ (.tail _ (.head _))
  have h0 : g.key ≠ (AON_RET.WORD 0).key := h _ (.tail _ (.tail _ (.head _)))
  have h1 : g.key ≠ (AON_RET.WORD 1).key := h _ (.tail _ (.tail _ (.tail _ (.head _))))
  have h2 : g.key ≠ (AON_RET.WORD 2).key := h _ (.tail _ (.tail _ (.tail _ (.tail _ (.head _)))))
  rw [State.commitMask, State.mirrorPowerUp_ne _ h0 h1 h2, State.fld_put_ne _ _ _ _ hpend, State.fld_unstage,
    State.fld_setFld_ne _ _ _ _ hmask]

theorem highHalfWrite_mask_effect {s : State} {m : Nat} (v : Nat) (h : s.direct m (BEL_MASK.MASK.addr + 4) 0) :
    ∃ t, exec (.highHalfWrite m (BEL_MASK.MASK.addr + 4) v) s = .next t ∧
      t.fld BEL_MASK.MASK = v % 2 ^ 32 * 2 ^ 32 +
        (Tab.get none s.bus.staged (BEL_MASK.MASK.addr * 16 + m)).getD (s.fld BEL_MASK.MASK) % 2 ^ 32 ∧
      Tab.get none t.bus.staged (BEL_MASK.MASK.addr * 16 + m) = none ∧ t.on BEL_STAT.MASK_PEND = true ∧
      keepsRegs [BEL_MASK.MASK, BEL_STAT.MASK_PEND, AON_RET.WORD 0, AON_RET.WORD 1, AON_RET.WORD 2] s t ∧ keepsMem s t := by
  have hq := s.arrive_quiet m (BEL_MASK.MASK.addr + 4)
  have he : exec (.highHalfWrite m (BEL_MASK.MASK.addr + 4) v) s =
      .next ((s.arrive m (BEL_MASK.MASK.addr + 4)).commitMask m v) := by
    rw [← State.writeWord_maskHigh, ← State.busWrite_direct h]
    rfl
  refine ⟨_, he, ?_, State.commitMask_staged .., State.commitMask_pend .., ?_, ?_⟩
  · rw [State.commitMask_mask, State.halves, hq.staged, hq.fld _ (by decide)]
  · exact (hq.keepsRegs _).trans fun g _ hl => State.commitMask_ne m v _ hl
  · exact hq.keepsMem.trans (keepsMem_of_mem (State.commitMask_mem ..))

/-- Settles O8: the latch of a low half read, the stage of a low half written, and the commit. -/
theorem widePairsLatchAndCommit : Obligations.WidePairsLatchAndCommit :=
  ⟨fun _ _ _ _ hf h => rlRead_plainRl_effect hf h, fun _ _ v _ h => registerWrite_maskLow_effect v h,
   fun _ _ v h => highHalfWrite_mask_effect v h⟩

end Sys2Proof.Machine

/-! Proofs of O2, O3 and O5: the sparse stores start in canonical form and every step keeps it (R14, R29), and what a step is: the command
at the front of the queue, or one cycle of the reference clock (R46, log entries 1 to 3). -/

namespace Sys2Proof.Machine

theorem step_nil {s : State} (h : s.pending = []) : step s = .next s.tick := by
  rw [step, h]

theorem step_cons {s : State} {c : Instr} {q : List Instr} (h : s.pending = c :: q) : step s = exec c { s with pending := q } := by
  rw [step, h]

/-- The canonical form speaks of memory and registers alone, not of the queue. -/
theorem State.canon_setPending {s : State} (h : s.canon) (q : List Instr) : State.canon { s with pending := q } := h

theorem exec_canon {i : Instr} {s t : State} (h : s.canon) (hexec : exec i s = .next t) : t.canon := by
  obtain ⟨u, hu, hwithin⟩ := exec_within s i
  obtain rfl : u = t := Host.Outcome.next.inj (hu.symm.trans hexec)
  exact hwithin.canon h

theorem State.tick_canon {s : State} (h : s.canon) : s.tick.canon :=
  have hwithin : Within 140739644227585 s s.tick := State.tick_in .refl rfl
  hwithin.canon h

/-- Settles O2: a step is a command, which keeps the canonical form by its frame (O1), or a cycle of the reference clock. -/
theorem everyStepKeepsCanonicalStores : Obligations.EveryStepKeepsCanonicalStores := by
  intro s t hcanon hstep
  cases hq : s.pending with
  | nil =>
    obtain rfl : s.tick = t := Host.Outcome.next.inj ((step_nil hq).symm.trans hstep)
    exact State.tick_canon hcanon
  | cons c q => exact exec_canon (State.canon_setPending hcanon q) ((step_cons hq).symm.trans hstep)

theorem State.reset_canon : State.reset.canon := ⟨by decide +kernel, by decide +kernel⟩

/-- Settles O3: nothing has been written at reset, and nothing waits. -/
theorem resetIsCanonical : Obligations.ResetIsCanonical :=
  ⟨State.reset_canon, State.reset_canon.1, rfl⟩

/-! The reference cycle (R46, R537). -/

theorem State.tickRtc_ne {g : Fld} (s : State) (h : g.key ≠ AON_RTC.COUNT.key) : s.tickRtc.fld g = s.fld g := by
  unfold State.tickRtc
  extract_lets acc
  split
  · rfl
  split
  · rfl
  · rw [State.fld_modPow, State.fld_setFld_ne _ _ _ _ h]

/-- The RTC's cycle changes its register and the divider alone. -/
theorem State.tickRtc_rest (s : State) : s.tickRtc.bus = s.bus ∧ s.tickRtc.bell = s.bell ∧ s.tickRtc.ctl = s.ctl := by
  unfold State.tickRtc
  extract_lets acc
  split
  · exact ⟨rfl, rfl, rfl⟩
  split <;> exact ⟨rfl, rfl, rfl⟩

/-- A reference cycle of a device that is up, as one update of the state after the RTC's own cycle. -/
theorem State.tick_up {s : State} (h : s.up = true) : s.tick =
    (s.tickRtc.setFld SYS_REFCNT.COUNT (s.tickRtc.fld SYS_REFCNT.COUNT + 1)).modBell fun b =>
      { b with cycles := b.cycles + 1, phase := min 1023 ((b.cycles + 1) * 1024 / max 1 s.tickRtc.slotCycles) } := by
  obtain ⟨-, -, hctl⟩ := s.tickRtc_rest
  have hup : s.tickRtc.up = true := by rw [← h, State.up, State.up, hctl]
  rw [State.tick, if_pos hup]

theorem State.tick_up_effect {s : State} (h : s.up = true) : s.tick.fld SYS_REFCNT.COUNT = (s.fld SYS_REFCNT.COUNT + 1) % 2 ^ 64 ∧
    s.tick.bell.slot = s.bell.slot ∧ s.tick.bell.frame = s.bell.frame ∧ s.bell.cycles + 1 = s.tick.bell.cycles ∧
    onlyRegs [SYS_REFCNT.COUNT, AON_RTC.COUNT] s s.tick := by
  obtain ⟨hbus, hbell, -⟩ := s.tickRtc_rest
  rw [State.tick_up h]
  refine ⟨?_, (congrArg Bell.slot hbell :), (congrArg Bell.frame hbell :), (congrArg (fun b : Bell => b.cycles + 1) hbell).symm, ?_,
    keepsMem_of_mem (congrArg BusIf.mem hbus)⟩
  · rw [State.fld_modBell, State.fld_setFld, State.tickRtc_ne s (by decide)]
    rfl
  · intro g hg
    have hcnt : g.key ≠ SYS_REFCNT.COUNT.key := hg _ (.head _)
    have hrtc : g.key ≠ AON_RTC.COUNT.key := hg _ (.tail _ (.head _))
    rw [State.fld_modBell, State.fld_setFld_ne _ _ _ _ hcnt, State.tickRtc_ne s hrtc]

/-- Settles O5: the command in front, the reference cycle of an empty queue, and no word that spells a command. -/
theorem stepRunsFrontCommand : Obligations.StepRunsFrontCommand :=
  ⟨fun _ _ _ => step_cons, fun s hq hup => ⟨s.tick, step_nil hq, State.tick_up_effect hup⟩, fun _ _ _ => ⟨rfl, rfl⟩⟩

end Sys2Proof.Machine

/-! Proof of O54: cores start and are reset (R44, R462, R499, R500), the device restarts (R520), sources are claimed and triggered
(R503, R506), asynchronous events are queued, merged, dropped or posted (R507, R508). -/

namespace Sys2Proof.Machine

/-! The only registers that change. -/

theorem onlyRegs.trans {l : List Fld} {a b c : State} (h : onlyRegs l a b) (k : onlyRegs l b c) : onlyRegs l a c :=
  ⟨fun g hl => (k.1 g hl).trans (h.1 g hl), keepsMem.trans h.2 k.2⟩

theorem onlyRegs_of_eq {l : List Fld} {s t : State} (hregs : t.regs = s.regs) (hmem : t.bus.mem = s.bus.mem) : onlyRegs l s t :=
  ⟨fun g _ => by simp only [State.fld, hregs], keepsMem_of_mem hmem⟩

theorem onlyRegs_setFld {l : List Fld} (s : State) {f : Fld} (v : Nat) (h : f ∈ l) : onlyRegs l s (s.setFld f v) :=
  ⟨fun g hl => State.fld_setFld_ne s f g v (hl f h), fun _ => rfl⟩

theorem onlyRegs_put {l : List Fld} (s : State) {f : Fld} (b : Bool) (h : f ∈ l) : onlyRegs l s (s.put f b) :=
  onlyRegs_setFld s b.toNat h

theorem partOfKey_lt (k : Nat) : partOfKey k < 25 := by
  unfold partOfKey
  split <;> omega

/-- A mask with no register block (bits 0 to 24) and no memory (bit 28) leaves all registers and all of memory. -/
theorem Within.onlyRegs_nil {m : Nat} {s t : State} (h : Within m s t) (hregs : ∀ i < 25, m.testBit i = false)
    (hmem : m.testBit 28 = false) : onlyRegs [] s t :=
  ⟨fun g _ => h.regs g (hregs _ (partOfKey_lt g.key)), keepsMem_of_mem (h.mem hmem)⟩

/-! An access of a block that no power domain gates changes nothing but the master's last fault (R40). -/

/-- The state without a fault of master `m`'s last access. -/
def State.clearFault (m : Nat) (s : State) : State := s.modBus fun b => { b with rfault := Tab.set 0 b.rfault m 0 }

theorem State.arrive_noDomain {m a : Nat} (h : domainOfReg a = none) (s : State) : s.arrive m a = s.clearFault m := by
  rw [State.arrive, h]
  rfl

section
variable (m : Nat) (s : State)
@[simp] theorem State.clearFault_fld (f : Fld) : (s.clearFault m).fld f = s.fld f := rfl
@[simp] theorem State.clearFault_hfe : (s.clearFault m).hfe = s.hfe := rfl
theorem State.clearFault_onlyRegs (l : List Fld) : onlyRegs l s (s.clearFault m) := onlyRegs_of_eq rfl rfl
theorem State.clearFault_quiet : Quiet s (s.clearFault m) := Quiet.rfault s fun l => Tab.set 0 l m 0
end

/-- An access that goes through, of a block that no power domain gates. -/
theorem State.access_noDomain {m a : Nat} {s : State} (h : s.reaches m a) (hd : domainOfReg a = none) (f : State → State) :
    s.access m a f = f (s.clearFault m) := by
  rw [State.access_reaches h, State.arrive_noDomain hd]

/-! Bits of a number with one bit set or cleared. -/

theorem setBit_succ (v i : Nat) (b : Bool) : setBit v (i + 1) b = 2 * setBit (v / 2) i b + v % 2 := by
  unfold setBit
  rw [Nat.testBit_succ, Nat.pow_succ]
  cases b with
  | true =>
    split
    · omega
    · simp only [if_true]
      omega
  | false =>
    split
    · omega
    next hb =>
      have hle : 2 ^ i ≤ v / 2 := Nat.ge_two_pow_of_testBit (by simpa using hb)
      simp only [Bool.false_eq_true, if_false]
      omega

theorem setBit_zero (v : Nat) (b : Bool) : setBit v 0 b = 2 * (v / 2) + b.toNat := by
  unfold setBit
  rw [Nat.testBit_zero, Nat.pow_zero]
  cases b with
  | true =>
    simp only [decide_eq_true_eq, if_true, Bool.toNat_true]
    split <;> omega
  | false =>
    simp only [decide_eq_false_iff_not, Bool.false_eq_true, if_false, Bool.toNat_false]
    split <;> omega

theorem testBit_setBit (v i k : Nat) (b : Bool) : (setBit v i b).testBit k = if k = i then b else v.testBit k := by
  induction i generalizing v k with
  | zero =>
    rw [setBit_zero]
    cases k with
    | zero => cases b <;> simp
    | succ k =>
      have hhalf : (2 * (v / 2) + b.toNat) / 2 = v / 2 := by
        have := Bool.toNat_le b
        omega
      rw [Nat.testBit_succ, hhalf, if_neg (Nat.succ_ne_zero k), Nat.testBit_succ]
  | succ i ih =>
    rw [setBit_succ]
    cases k with
    | zero => simp [Nat.testBit_zero, Nat.add_mod]
    | succ k =>
      have hhalf : (2 * setBit (v / 2) i b + v % 2) / 2 = setBit (v / 2) i b := by omega
      rw [Nat.testBit_succ, hhalf, ih, Nat.testBit_succ]
      simp only [Nat.add_right_cancel_iff]

/-- The RUN bits after bit `n` of them has been written. -/
theorem bit_run (s : State) (v n k : Nat) (b : Bool) (hk : k < 4) :
    bit ((s.setFld SYS_CORECTL.RUN (setBit v n b)).fld SYS_CORECTL.RUN) k = if k = n then b else bit v k := by
  rw [State.fld_setFld, bit, show SYS_CORECTL.RUN.w = 4 from rfl, Nat.testBit_mod_two_pow, testBit_setBit, bit]
  simp [hk]

theorem bitsOf_zero : bitsOf 0 4 = [] := by decide

theorem bitsOf_two_pow {n : Nat} (h : n < 4) : bitsOf (2 ^ n) 4 = [n] :=
  (by decide : ∀ n < 4, bitsOf (2 ^ n) 4 = [n]) n h

/-! A core starts (R499). -/

theorem State.startCore_onlyRegs (n pc : Nat) (s : State) :
    onlyRegs [SYS_CORECTL.RUN, SAF_WDOG.TIMEOUT n] s (s.startCore n pc) := by
  have hdog : onlyRegs [SYS_CORECTL.RUN, SAF_WDOG.TIMEOUT n] s (s.startWatchdog n) :=
    (onlyRegs_setFld s _ (.tail _ (.head _))).trans (onlyRegs_of_eq rfl rfl)
  exact (hdog.trans (onlyRegs_setFld _ _ (.head _))).trans (onlyRegs_of_eq rfl rfl)

theorem State.startCore_run (n pc : Nat) (s : State) :
    (s.startCore n pc).fld SYS_CORECTL.RUN = setBit (s.fld SYS_CORECTL.RUN) n true % 2 ^ 4 :=
  State.fld_setFld ..

theorem State.startCore_bit {n k : Nat} (pc : Nat) (s : State) (hk : k < 4) :
    bit ((s.startCore n pc).fld SYS_CORECTL.RUN) k = if k = n then true else bit (s.fld SYS_CORECTL.RUN) k :=
  bit_run (s.startWatchdog n) (s.fld SYS_CORECTL.RUN) n k true hk

theorem State.startCore_pc (n pc : Nat) (s : State) : Tab.get 0 (s.startCore n pc).ctl.pc n = pc % 2 ^ 40 :=
  Tab.get_set_self ..

theorem State.startCore_starts (n pc : Nat) (s : State) : Tab.get 0 (s.startCore n pc).ctl.starts n = Tab.get 0 s.ctl.starts n + 1 :=
  Tab.get_upd_self 0 s.ctl.starts n (· + 1)

/-- Does a RUN bit written 1 start core `n` (R499)? -/
def State.mayRun (s : State) (n : Nat) : Prop :=
  12 ≤ s.bootStep ∧ bit (s.fld SYS_CORECTL.RUN) n = false ∧ n ∉ s.saf.lastingCores

theorem State.runCore_starts {n : Nat} {s : State} (h : s.mayRun n) : s.runCore n = s.startCore n s.bootAddr := by
  obtain ⟨hstep, hrun, hlasting⟩ := h
  simp [State.runCore, Nat.not_lt.2 hstep, hrun, hlasting]

theorem State.runCore_ignored {n : Nat} {s : State}
    (h : s.bootStep < 12 ∨ bit (s.fld SYS_CORECTL.RUN) n = true ∨ n ∈ s.saf.lastingCores) : s.runCore n = s := by
  refine if_pos ?_
  simpa [or_assoc] using h

theorem State.writeCorectl_run {n v : Nat} (hn : n < 4) (hreset : slice v 8 4 = 0) (hrun : slice v 0 4 = 2 ^ n) (s : State) :
    s.writeCorectl v = s.runCore n := by
  rw [State.writeCorectl, hreset, hrun, bitsOf_zero, bitsOf_two_pow hn]
  rfl

theorem State.writeCorectl_reset {n v : Nat} (hn : n < 4) (hrun : slice v 0 4 = 0) (hreset : slice v 8 4 = 2 ^ n) (s : State) :
    s.writeCorectl v = s.resetCore n := by
  rw [State.writeCorectl, hreset, hrun, bitsOf_zero, bitsOf_two_pow hn]
  rfl

theorem exec_coreRun {s : State} {m : Nat} (v : Nat) (h : s.reaches m SYS_CORECTL.RUN.addr) :
    exec (.coreRun m v) s = .next ((s.clearFault m).writeCorectl v) :=
  congrArg Host.Outcome.next (State.access_noDomain h (by decide) (State.writeCorectl v))

theorem exec_coreReset {s : State} {m : Nat} (v : Nat) (h : s.reaches m SYS_CORECTL.RUN.addr) :
    exec (.coreReset m v) s = .next ((s.clearFault m).writeCorectl v) :=
  exec_coreRun v h

theorem coreRun_starts_effect {s : State} {m v n : Nat} (h : s.reaches m SYS_CORECTL.RUN.addr) (hn : n < 4) (hreset : slice v 8 4 = 0)
    (hrun : slice v 0 4 = 2 ^ n) (hmay : s.mayRun n) :
    ∃ t, exec (.coreRun m v) s = .next t ∧ bit (t.fld SYS_CORECTL.RUN) n = true ∧
      (∀ k, k < 4 → k ≠ n → bit (t.fld SYS_CORECTL.RUN) k = bit (s.fld SYS_CORECTL.RUN) k) ∧
      Tab.get 0 t.ctl.pc n = s.fld SYS_BOOTADDR.ADDR % 2 ^ 40 ∧ Tab.get 0 t.ctl.starts n = Tab.get 0 s.ctl.starts n + 1 ∧
      onlyRegs [SYS_CORECTL.RUN, SAF_WDOG.TIMEOUT n] s t := by
  rw [exec_coreRun v h, State.writeCorectl_run hn hreset hrun, State.runCore_starts (s := s.clearFault m) hmay]
  refine ⟨_, rfl, ?_, ?_, State.startCore_pc .., State.startCore_starts .., ?_⟩
  · rw [State.startCore_bit _ _ hn, if_pos rfl]
  · intro k hk hne
    rw [State.startCore_bit _ _ hk, if_neg hne, State.clearFault_fld]
  · exact (s.clearFault_onlyRegs m _).trans (State.startCore_onlyRegs ..)

theorem coreRun_ignored_effect {s : State} {m v n : Nat} (h : s.reaches m SYS_CORECTL.RUN.addr) (hn : n < 4) (hreset : slice v 8 4 = 0)
    (hrun : slice v 0 4 = 2 ^ n) (hnot : s.bootStep < 12 ∨ bit (s.fld SYS_CORECTL.RUN) n = true ∨ n ∈ s.saf.lastingCores) :
    ∃ t, exec (.coreRun m v) s = .next t ∧ t.ctl = s.ctl ∧ onlyRegs [] s t := by
  rw [exec_coreRun v h, State.writeCorectl_run hn hreset hrun, State.runCore_ignored (s := s.clearFault m) hnot]
  exact ⟨_, rfl, rfl, s.clearFault_onlyRegs m _⟩

/-! The tubs of a core that is reset (R462). -/

theorem Tab.mem_of_get_ne {V : Type} {d : V} {t : Tab V} {k : Nat} (h : Tab.get d t k ≠ d) : (k, Tab.get d t k) ∈ t := by
  induction t with
  | nil => exact absurd rfl h
  | cons e t ih =>
    obtain ⟨j, v⟩ := e
    by_cases hj : j = k
    · subst hj
      simp [Tab.get]
    · simp only [Tab.get, hj, if_false] at h ⊢
      exact .tail _ (ih h)

/-- The table of headers after the tubs of `l` have been released: each takes the free value, but for what is known of its parity. -/
def freedHeaders (l : List Nat) (t : Tab Tub) : Tab Tub := l.foldl (fun m x => Tab.upd {} m x fun h => ({ bad := h.bad } : Tub)) t

theorem freedHeaders_owner {x : Nat} {l : List Nat} {t : Tab Tub} (h : x ∈ l ∨ (Tab.get {} t x).owner = 0xFF) :
    (Tab.get {} (freedHeaders l t) x).owner = 0xFF := by
  induction l generalizing t with
  | nil => exact h.resolve_left List.not_mem_nil
  | cons a l ih =>
    refine ih ?_
    by_cases hx : x = a
    · subst hx
      exact .inr (by rw [Tab.get_upd_self])
    · rw [Tab.get_upd_ne _ _ _ hx]
      exact h.imp_left fun hm => (List.mem_cons.1 hm).resolve_left hx

/-- The state in which the tubs of `l` are free, before any waiting request is served. -/
def State.freed (l : List Nat) (s : State) : State :=
  s.modTubs fun p => { p with tub := freedHeaders l p.tub, freed := p.freed ++ l }

theorem State.releaseTubs_noneWaits {s : State} (hp : s.tubs.queueP = []) (hu : s.tubs.queueU = []) (l : List Nat) :
    s.releaseTubs l = s.freed l := by
  have hp' : (s.freed l).tubs.queueP.length = 0 := List.length_eq_zero_iff.2 hp
  have hu' : (s.freed l).tubs.queueU.length = 0 := List.length_eq_zero_iff.2 hu
  change ((s.freed l).grantCovered true (s.freed l).tubs.queueP.length).grantCovered false (s.freed l).tubs.queueU.length = _
  rw [hp', hu']
  rfl

/-- The unprotected tubs of core `n`. -/
def State.coreTubs (s : State) (n : Nat) : List Nat :=
  (s.tubs.tub.filter fun t => t.2.owner == 8 + n && decide (s.fld TUB_SPLIT.P ≤ t.1)).map (·.1)

theorem State.freed_nil (s : State) : s.freed [] = s := by
  simp only [State.freed, State.modTubs, freedHeaders, List.foldl_nil, List.append_nil]

theorem State.reclaimTubs_quiet {s : State} (hp : s.tubs.queueP = []) (hu : s.tubs.queueU = []) (n : Nat) :
    Quiet (s.freed (s.coreTubs n)) (s.reclaimTubs n) := by
  change Quiet _ (if (s.coreTubs n).isEmpty then s else (s.releaseTubs (s.coreTubs n)).assertEvent 265)
  split
  next hnone =>
    rw [List.isEmpty_iff.1 hnone, State.freed_nil]
    exact Quiet.refl s
  next =>
    rw [State.releaseTubs_noneWaits hp hu]
    exact State.assertEvent_quiet (by decide) _

/-- The journals' tubs are no core's. -/
theorem journalTub_owner {x n : Nat} : (journalTub x).owner ≠ 8 + n := by
  unfold journalTub
  dsimp only
  split <;> omega

theorem State.mem_coreTubs {s : State} {x n : Nat} (hsplit : s.fld TUB_SPLIT.P ≤ x) (howner : (s.tub x).owner = 8 + n) (hn : n < 4) :
    s.isJournalTub x = false ∧ x ∈ s.coreTubs n := by
  unfold State.tub at howner
  split at howner
  next => exact absurd howner journalTub_owner
  next hj =>
    have hne : Tab.get {} s.tubs.tub x ≠ {} := by
      intro he
      rw [he] at howner
      have hfree : 0xFF = 8 + n := howner
      omega
    refine ⟨by simpa using hj, List.mem_map.2 ⟨_, List.mem_filter.2 ⟨Tab.mem_of_get_ne hne, ?_⟩, rfl⟩⟩
    simp [howner, hsplit]

theorem State.freed_owner {s : State} {x : Nat} {l : List Nat} (hx : x ∈ l) (hj : s.isJournalTub x = false) :
    ((s.freed l).tub x).owner = 0xFF := by
  have hj' : (s.freed l).isJournalTub x = false := hj
  rw [State.tub, if_neg (by simp [hj'])]
  exact freedHeaders_owner (.inl hx)

theorem Quiet.tub {s t : State} (h : Quiet s t) (x : Nat) : t.tub x = s.tub x := by
  rw [State.tub, State.tub, State.isJournalTub, State.isJournalTub, h.tubs, h.on TUB_CTRL.EN (by decide)]

theorem State.reclaimTubs_owner {s : State} {x n : Nat} (hp : s.tubs.queueP = []) (hu : s.tubs.queueU = [])
    (hsplit : s.fld TUB_SPLIT.P ≤ x) (howner : (s.tub x).owner = 8 + n) (hn : n < 4) : ((s.reclaimTubs n).tub x).owner = 0xFF := by
  obtain ⟨hj, hx⟩ := State.mem_coreTubs hsplit howner hn
  rw [(State.reclaimTubs_quiet hp hu n).tub, State.freed_owner hx hj]

/-! A core is reset (R44, R500). -/

/-- Core `n` in reset, before L0 may start again: its RUN bit, its latched halves and its reservation are gone, and it waits for no
interrupt. -/
def State.stopped (n : Nat) (s : State) : State :=
  ((s.setFld SYS_CORECTL.RUN (setBit (s.fld SYS_CORECTL.RUN) n false)).clearHalves n).modCtl fun c => { c with wfi := setBit c.wfi n false }

/-- L0 starts again at once when it is reset with no other core running (R500). -/
theorem State.resetCore_eq (n : Nat) (s : State) : s.resetCore n =
    if n = 0 && ((s.stopped n).reclaimTubs n).fld SYS_CORECTL.RUN == 0 && !((s.stopped n).reclaimTubs n).saf.lastingCores.contains 0 &&
      decide (12 ≤ ((s.stopped n).reclaimTubs n).bootStep)
    then ((s.stopped n).reclaimTubs n).startCore 0 ((s.stopped n).reclaimTubs n).bootAddr else (s.stopped n).reclaimTubs n := rfl

section
variable {s : State} (hp : s.tubs.queueP = []) (hu : s.tubs.queueU = []) (n : Nat)
include hp hu

/-- A reset core leaves what the stop and the release of its tubs leave, but for event 265. -/
theorem State.stopped_reclaim_quiet :
    Quiet ((s.stopped n).freed ((s.stopped n).coreTubs n)) ((s.stopped n).reclaimTubs n) :=
  State.reclaimTubs_quiet (s := s.stopped n) hp hu n

theorem State.stopped_reclaim_run : ((s.stopped n).reclaimTubs n).fld SYS_CORECTL.RUN = setBit (s.fld SYS_CORECTL.RUN) n false % 2 ^ 4 :=
  ((State.stopped_reclaim_quiet hp hu n).fld _ (by decide)).trans (State.fld_setFld ..)

theorem State.stopped_reclaim_bit {k : Nat} (hk : k < 4) :
    bit (((s.stopped n).reclaimTubs n).fld SYS_CORECTL.RUN) k = if k = n then false else bit (s.fld SYS_CORECTL.RUN) k := by
  rw [(State.stopped_reclaim_quiet hp hu n).fld _ (by decide)]
  exact bit_run s (s.fld SYS_CORECTL.RUN) n k false hk

theorem State.stopped_reclaim_fld {g : Fld} (hg : eventKey g.key = false) (hrun : g.key ≠ SYS_CORECTL.RUN.key) :
    ((s.stopped n).reclaimTubs n).fld g = s.fld g :=
  ((State.stopped_reclaim_quiet hp hu n).fld g hg).trans (State.fld_setFld_ne _ _ _ _ hrun)

theorem State.stopped_reclaim_keepsRegs : keepsRegs [SYS_CORECTL.RUN] s ((s.stopped n).reclaimTubs n) :=
  fun _ hg hl => State.stopped_reclaim_fld hp hu n hg (hl _ (.head _))

theorem State.stopped_reclaim_keepsMem : keepsMem s ((s.stopped n).reclaimTubs n) :=
  keepsMem_of_mem (State.stopped_reclaim_quiet hp hu n).memory

theorem State.stopped_reclaim_resv : Tab.get none ((s.stopped n).reclaimTubs n).bus.resv n = none := by
  have hresv : ((s.stopped n).reclaimTubs n).bus.resv = Tab.set none s.bus.resv n none :=
    (congrArg (fun x => x.bus.resv) (State.stopped_reclaim_quiet hp hu n).rest :)
  rw [hresv, Tab.get_set_self]

theorem State.stopped_reclaim_tub {x : Nat} (hn : n < 4) (hsplit : s.fld TUB_SPLIT.P ≤ x) (howner : (s.tub x).owner = 8 + n) :
    (((s.stopped n).reclaimTubs n).tub x).owner = 0xFF := by
  refine State.reclaimTubs_owner (s := s.stopped n) hp hu ?_ ?_ hn
  · exact Nat.le_trans (Nat.le_of_eq (State.fld_setFld_ne s SYS_CORECTL.RUN TUB_SPLIT.P _ (by decide))) hsplit
  · have hen : (s.stopped n).on TUB_CTRL.EN = s.on TUB_CTRL.EN := State.on_setFld_ne s _ _ _ (by decide)
    rw [← howner, State.tub, State.isJournalTub, hen]
    rfl

/-- A core other than L0 stays in reset, and L0 does while another core runs. -/
theorem State.resetCore_stays (h : n ≠ 0 ∨ ∃ k, k < 4 ∧ 0 < k ∧ bit (s.fld SYS_CORECTL.RUN) k = true) :
    s.resetCore n = (s.stopped n).reclaimTubs n := by
  rw [State.resetCore_eq]
  refine if_neg ?_
  rcases h with hn | ⟨k, hk, hpos, hbit⟩
  · simp [hn]
  · by_cases hn : n = 0
    · have hother := State.stopped_reclaim_bit hp hu n hk
      rw [if_neg (by omega), hbit] at hother
      have hrun : ((s.stopped n).reclaimTubs n).fld SYS_CORECTL.RUN ≠ 0 := by
        intro h0
        rw [h0, bit, Nat.zero_testBit] at hother
        cases hother
      simp [hrun]
    · simp [hn]

end

/-- L0 alone starts again. -/
theorem State.resetCore_restarts {s : State} (hp : s.tubs.queueP = []) (hu : s.tubs.queueU = []) (hrun : s.fld SYS_CORECTL.RUN = 1)
    (hstep : 12 ≤ s.bootStep) (hlasting : 0 ∉ s.saf.lastingCores) :
    s.resetCore 0 = ((s.stopped 0).reclaimTubs 0).startCore 0 s.bootAddr := by
  have hnone : ((s.stopped 0).reclaimTubs 0).fld SYS_CORECTL.RUN = 0 := by
    rw [State.stopped_reclaim_run hp hu, hrun]
    rfl
  have hsaf : ((s.stopped 0).reclaimTubs 0).saf = s.saf := (State.stopped_reclaim_quiet hp hu 0).saf
  have hboot : ((s.stopped 0).reclaimTubs 0).bootStep = s.bootStep := State.stopped_reclaim_fld hp hu 0 (by decide) (by decide)
  have haddr : ((s.stopped 0).reclaimTubs 0).bootAddr = s.bootAddr := State.stopped_reclaim_fld hp hu 0 (by decide) (by decide)
  rw [State.resetCore_eq, hnone, hsaf, hboot, haddr]
  refine if_pos ?_
  simp [hstep, hlasting]

theorem keepsRegs_of_onlyRegs {l : List Fld} {s t : State} (h : onlyRegs l s t) : keepsRegs l s t := fun g _ hl => h.1 g hl

theorem keepsRegs.mono {l k : List Fld} {s t : State} (h : keepsRegs l s t) (hlk : ∀ f ∈ l, f ∈ k) : keepsRegs k s t :=
  fun g hg hk => h g hg fun f hf => hk f (hlk f hf)

theorem coreReset_stays_effect {s : State} {m v n : Nat} (h : s.reaches m SYS_CORECTL.RUN.addr) (hn : n < 4) (hrun : slice v 0 4 = 0)
    (hreset : slice v 8 4 = 2 ^ n) (hp : s.tubs.queueP = []) (hu : s.tubs.queueU = [])
    (hstays : n ≠ 0 ∨ ∃ k, k < 4 ∧ 0 < k ∧ bit (s.fld SYS_CORECTL.RUN) k = true) :
    ∃ t, exec (.coreReset m v) s = .next t ∧ bit (t.fld SYS_CORECTL.RUN) n = false ∧
      (∀ k, k < 4 → k ≠ n → bit (t.fld SYS_CORECTL.RUN) k = bit (s.fld SYS_CORECTL.RUN) k) ∧ Tab.get none t.bus.resv n = none ∧
      (∀ x, s.fld TUB_SPLIT.P ≤ x → (s.tub x).owner = 8 + n → (t.tub x).owner = 0xFF) ∧ keepsRegs [SYS_CORECTL.RUN] s t ∧
      keepsMem s t := by
  have hp' : (s.clearFault m).tubs.queueP = [] := hp
  have hu' : (s.clearFault m).tubs.queueU = [] := hu
  rw [exec_coreReset v h, State.writeCorectl_reset hn hrun hreset, State.resetCore_stays hp' hu' n hstays]
  refine ⟨_, rfl, ?_, ?_, State.stopped_reclaim_resv hp' hu' n, ?_, State.stopped_reclaim_keepsRegs hp' hu' n,
    State.stopped_reclaim_keepsMem hp' hu' n⟩
  · rw [State.stopped_reclaim_bit hp' hu' n hn, if_pos rfl]
  · intro k hk hne
    rw [State.stopped_reclaim_bit hp' hu' n hk, if_neg hne, State.clearFault_fld]
  · exact fun x hsplit howner => State.stopped_reclaim_tub hp' hu' n hn hsplit howner

theorem coreReset_restarts_effect {s : State} {m v : Nat} (h : s.reaches m SYS_CORECTL.RUN.addr) (hrun : slice v 0 4 = 0)
    (hreset : slice v 8 4 = 2 ^ 0) (hp : s.tubs.queueP = []) (hu : s.tubs.queueU = []) (hone : s.fld SYS_CORECTL.RUN = 1)
    (hstep : 12 ≤ s.bootStep) (hlasting : 0 ∉ s.saf.lastingCores) :
    ∃ t, exec (.coreReset m v) s = .next t ∧ t.fld SYS_CORECTL.RUN = 1 ∧ Tab.get 0 t.ctl.pc 0 = s.fld SYS_BOOTADDR.ADDR % 2 ^ 40 ∧
      Tab.get 0 t.ctl.starts 0 = Tab.get 0 s.ctl.starts 0 + 1 ∧ keepsRegs [SYS_CORECTL.RUN, SAF_WDOG.TIMEOUT 0] s t ∧ keepsMem s t := by
  have hp' : (s.clearFault m).tubs.queueP = [] := hp
  have hu' : (s.clearFault m).tubs.queueU = [] := hu
  rw [exec_coreReset v h, State.writeCorectl_reset (by decide) hrun hreset,
    State.resetCore_restarts (s := s.clearFault m) hp' hu' hone hstep hlasting]
  have hstart := State.startCore_onlyRegs 0 (s.clearFault m).bootAddr (((s.clearFault m).stopped 0).reclaimTubs 0)
  have hctl : (((s.clearFault m).stopped 0).reclaimTubs 0).ctl.starts = s.ctl.starts :=
    (congrArg Ctl.starts (State.stopped_reclaim_quiet hp' hu' 0).ctl :)
  refine ⟨_, rfl, ?_, State.startCore_pc .., ?_, ?_, keepsMem.trans (State.stopped_reclaim_keepsMem hp' hu' 0) hstart.2⟩
  · rw [State.startCore_run, State.stopped_reclaim_run hp' hu', State.clearFault_fld, hone]
    rfl
  · rw [State.startCore_starts, hctl]
  · exact keepsRegs.trans ((State.stopped_reclaim_keepsRegs hp' hu' 0).mono fun _ hf => List.mem_cons.2 (.inl (List.mem_singleton.1 hf)))
      (keepsRegs_of_onlyRegs hstart)

/-! The restart (R520). -/

theorem Tab.get_filter {V : Type} (d : V) (p : Nat → Bool) {k : Nat} (h : p k = true) (t : Tab V) :
    Tab.get d (t.filter fun e => p e.1) k = Tab.get d t k := by
  induction t with
  | nil => rfl
  | cons e t ih =>
    obtain ⟨j, v⟩ := e
    by_cases hj : j = k
    · subst hj
      simp [Tab.get, h]
    · by_cases hp : p j = true
      · simp [Tab.get, hj, hp, ih]
      · simp [Tab.get, hj, hp, ih]

theorem State.loseRails_aon {f : Fld} (h : aonKey f.key = true) (s : State) : s.loseRails.fld f = s.fld f :=
  Tab.get_filter f.reset aonKey h s.regs

theorem aonKey_ret (k : Nat) : aonKey (AON_RET.WORD k).key = true := by
  have hblock : 0x42e00000 * 32 ≤ (AON_RET.WORD k).key ∧ (AON_RET.WORD k).key < 0x42e00100 * 32 := by
    simp only [AON_RET.WORD, Fld.key]
    omega
  simp only [aonKey, hblock, decide_true, Bool.and_self, Bool.true_or]

theorem ret_ne_wake (k : Nat) : (AON_RET.WORD k).key ≠ AON_WAKE.CAUSE.key := by
  simp only [AON_RET.WORD, AON_WAKE.CAUSE, Fld.key]
  omega

theorem State.restartNow_ret (c k : Nat) (s : State) : (s.restartNow c).fld (AON_RET.WORD k) = s.fld (AON_RET.WORD k) :=
  (State.fld_setFld_ne s.loseRails AON_WAKE.CAUSE _ 0xFF (ret_ne_wake k)).trans (State.loseRails_aon (aonKey_ret k) s)

theorem State.restartNow_wake (c : Nat) (s : State) : (s.restartNow c).fld AON_WAKE.CAUSE = 0xFF :=
  State.fld_setFld s.loseRails AON_WAKE.CAUSE 0xFF

@[simp] theorem State.raiseRail_pwrseq (i : Nat) (s : State) : (s.raiseRail i).ctl.pwrseq = setBit s.ctl.pwrseq i true := rfl

theorem State.restartNow_pwrseq (c : Nat) (s : State) : (s.restartNow c).ctl.pwrseq = 1 := by
  have hnone : (s.loseRails.notWoken.modCtl fun x => { x with cause := c }).ctl.pwrseq = 0 := rfl
  rw [State.restartNow, State.raiseRail_pwrseq, hnone]
  decide

/-- The first rail's enable is all that is high, and SRAM holds nothing. -/
theorem State.restartNow_state (c : Nat) (s : State) : (s.restartNow c).ctl.cause = c ∧ (s.restartNow c).ctl.pwrseq = 1 ∧
    (s.restartNow c).ctl.pgood = 0 ∧ (s.restartNow c).drf.media = s.drf.media ∧ (s.restartNow c).hfe.ctx = [] ∧
    (s.restartNow c).bus.mem = [] :=
  ⟨rfl, State.restartNow_pwrseq c s, rfl, rfl, rfl, rfl⟩

theorem exec_restart {s : State} {m : Nat} (v : Nat) (h : s.reaches m SYS_RSTCTL.RESTART.addr) :
    exec (.restart m v) s = .next ((s.clearFault m).writeRstctl m v) :=
  congrArg Host.Outcome.next (State.access_noDomain h (by decide) (State.writeRstctl m v))

theorem State.writeRstctl_ignored {m v : Nat} (h : bit v 31 = false ∨ 4 < m) (s : State) : s.writeRstctl m v = s := by
  refine if_pos ?_
  simpa using h

theorem State.writeRstctl_allowed {m v : Nat} (hgo : bit v 31 = true) (hm : m ≤ 4) (s : State) : s.writeRstctl m v =
    if s.hldState = hldInit ∨ s.hldState = hldCharging then s.restartNow 6 else s.put SYS_RSTCTL.ERR true := by
  refine if_neg ?_
  simp [hgo, hm]

theorem State.writeRstctl_accepted {m v : Nat} {s : State} (hgo : bit v 31 = true) (hm : m ≤ 4)
    (hidle : s.hldState = hldInit ∨ s.hldState = hldCharging) : s.writeRstctl m v = s.restartNow 6 := by
  rw [State.writeRstctl_allowed hgo hm, if_pos hidle]

theorem State.writeRstctl_refused {m v : Nat} {s : State} (hgo : bit v 31 = true) (hm : m ≤ 4) (hinit : s.hldState ≠ hldInit)
    (hcharging : s.hldState ≠ hldCharging) : s.writeRstctl m v = s.put SYS_RSTCTL.ERR true := by
  rw [State.writeRstctl_allowed hgo hm, if_neg (not_or.2 ⟨hinit, hcharging⟩)]

theorem restart_accepted_effect {s : State} {m v : Nat} (h : s.reaches m SYS_RSTCTL.RESTART.addr) (hgo : bit v 31 = true) (hm : m ≤ 4)
    (hidle : s.hldState = hldInit ∨ s.hldState = hldCharging) :
    ∃ t, exec (.restart m v) s = .next t ∧ t.ctl.cause = 6 ∧ t.ctl.pwrseq = 1 ∧ t.ctl.pgood = 0 ∧ t.fld AON_WAKE.CAUSE = 0xFF ∧
      t.drf.media = s.drf.media ∧ t.hfe.ctx = [] ∧ (∀ a, t.byte a = 0) ∧ (∀ k, k < 8 → t.fld (AON_RET.WORD k) = s.fld (AON_RET.WORD k)) := by
  rw [exec_restart v h, State.writeRstctl_accepted (s := s.clearFault m) hgo hm hidle]
  obtain ⟨hcause, hseq, hgood, hmedia, hctx, hmem⟩ := State.restartNow_state 6 (s.clearFault m)
  refine ⟨_, rfl, hcause, hseq, hgood, State.restartNow_wake .., hmedia, hctx, ?_, fun k _ => State.restartNow_ret 6 k _⟩
  intro a
  rw [State.byte, hmem]
  rfl

theorem restart_refused_effect {s : State} {m v : Nat} (h : s.reaches m SYS_RSTCTL.RESTART.addr) (hgo : bit v 31 = true) (hm : m ≤ 4)
    (hinit : s.hldState ≠ hldInit) (hcharging : s.hldState ≠ hldCharging) :
    ∃ t, exec (.restart m v) s = .next t ∧ t.on SYS_RSTCTL.ERR = true ∧ t.ctl = s.ctl ∧ onlyRegs [SYS_RSTCTL.ERR] s t := by
  rw [exec_restart v h, State.writeRstctl_refused (s := s.clearFault m) hgo hm hinit hcharging]
  exact ⟨_, rfl, State.on_put _ _ _ (by decide), rfl, (s.clearFault_onlyRegs m _).trans (onlyRegs_put _ true (.head _))⟩

theorem restart_ignored_effect {s : State} {m v : Nat} (h : s.reaches m SYS_RSTCTL.RESTART.addr) (hnot : bit v 31 = false ∨ 4 < m) :
    ∃ t, exec (.restart m v) s = .next t ∧ t.ctl = s.ctl ∧ onlyRegs [] s t := by
  rw [exec_restart v h, State.writeRstctl_ignored hnot]
  exact ⟨_, rfl, rfl, s.clearFault_onlyRegs m _⟩

/-! Claims (R503). -/

theorem claim_noDomain {x : Nat} (h : x < 6) : domainOfReg (EVT_CLAIM.VALID x).addr = none :=
  (by decide : ∀ x < 6, domainOfReg (EVT_CLAIM.VALID x).addr = none) x h

theorem exec_eventClaim {s : State} {m x : Nat} (hx : x < 6) (h : s.reaches m (EVT_CLAIM.VALID x).addr) :
    exec (.eventClaim m x) s = .next ((s.clearFault m).claim m x) := by
  rw [← State.access_noDomain h (claim_noDomain hx) (State.claim m x)]
  exact congrArg Host.Outcome.next (if_neg (by omega))

theorem exec_eventClaim_noTarget {m x : Nat} (h : 6 ≤ x) (s : State) : exec (.eventClaim m x) s = .next s :=
  congrArg Host.Outcome.next (if_pos (by omega))

/-- Does source `n` ask for target `x`: pending, enabled and routed there (R502)? -/
def State.asksFor (s : State) (x n : Nat) : Bool :=
  s.on (EVT_SRC.PEND n) && s.on (EVT_SRC.EN n) && s.fld (EVT_SRC.TARGET n) == x

theorem State.asksFor_eq_false {s : State} {x n : Nat} : s.asksFor x n = false ↔
    s.on (EVT_SRC.PEND n) = false ∨ s.on (EVT_SRC.EN n) = false ∨ s.fld (EVT_SRC.TARGET n) ≠ x := by
  simp only [State.asksFor, Bool.and_eq_false_iff, beq_eq_false_iff_ne, or_assoc]

theorem State.claimable_eq (s : State) (x : Nat) : s.claimable x = (List.range 512).find? (s.asksFor x) := rfl

theorem State.claimable_lowest {s : State} {x n : Nat} (hn : n < 512) (hask : s.asksFor x n = true)
    (hlow : ∀ j < n, s.asksFor x j = false) : s.claimable x = some n := by
  rw [State.claimable_eq, List.find?_range_eq_some]
  exact ⟨hask, List.mem_range.2 hn, fun j hj => by rw [hlow j hj, Bool.not_false]⟩

theorem State.claimable_none {s : State} {x : Nat} (hnone : ∀ j < 512, s.asksFor x j = false) : s.claimable x = none := by
  rw [State.claimable_eq, List.find?_eq_none]
  exact fun j hj => ne_true_of_eq_false (hnone j (List.mem_range.1 hj))

theorem State.claim_some {s : State} {x n : Nat} (h : s.claimable x = some n) :
    s.claim x x = (s.put (EVT_SRC.PEND n) false).returns x (2 ^ 31 + n) := by
  rw [State.claim, if_neg fun hne => hne rfl, h]

theorem State.claim_nothing {s : State} {m x : Nat} (h : m ≠ x ∨ s.claimable x = none) : s.claim m x = s.returns m 0 := by
  unfold State.claim
  split
  next => rfl
  next heq => rw [h.resolve_left heq]

theorem eventClaim_takes_effect {s : State} {m x n : Nat} (hx : x < 6) (h : s.reaches m (EVT_CLAIM.VALID x).addr) (hn : n < 512)
    (hm : m = x) (hask : s.asksFor x n = true) (hlow : ∀ j < n, s.asksFor x j = false) :
    ∃ t, exec (.eventClaim m x) s = .next t ∧ Tab.get 0 t.bus.rdata m = 2 ^ 31 + n ∧ t.on (EVT_SRC.PEND n) = false ∧
      onlyRegs [EVT_SRC.PEND n] s t := by
  subst hm
  rw [exec_eventClaim hx h, State.claim_some (State.claimable_lowest (s := s.clearFault m) hn hask hlow)]
  exact ⟨_, rfl, State.returns_rdata .., State.on_put _ (EVT_SRC.PEND n) false (by simp [EVT_SRC.PEND]),
    ((s.clearFault_onlyRegs m _).trans (onlyRegs_put _ false (.head _))).trans (onlyRegs_of_eq rfl rfl)⟩

theorem eventClaim_nothing_effect {s : State} {m x : Nat} (hx : x < 6) (h : s.reaches m (EVT_CLAIM.VALID x).addr)
    (hnone : m ≠ x ∨ ∀ j < 512, s.asksFor x j = false) :
    ∃ t, exec (.eventClaim m x) s = .next t ∧ Tab.get 0 t.bus.rdata m = 0 ∧ onlyRegs [] s t := by
  rw [exec_eventClaim hx h, State.claim_nothing (hnone.imp_right (State.claimable_none (s := s.clearFault m)))]
  exact ⟨_, rfl, State.returns_rdata .., (s.clearFault_onlyRegs m _).trans (onlyRegs_of_eq rfl rfl)⟩

/-! What a trigger of the recorder fires changes no overflow bit (R502, R591): its register writes stand outside block EVT. -/

/-- Every source's overflow bit reads as before. -/
structure KeepsOvf (s t : State) : Prop where
  ovf : ∀ n, t.fld (EVT_SRC.OVF n) = s.fld (EVT_SRC.OVF n)

theorem KeepsOvf.refl (s : State) : KeepsOvf s s := ⟨fun _ => rfl⟩

theorem KeepsOvf.trans {a b c : State} (h : KeepsOvf a b) (k : KeepsOvf b c) : KeepsOvf a c := ⟨fun n => (k.ovf n).trans (h.ovf n)⟩

theorem KeepsOvf.of_regs {s t : State} (h : t.regs = s.regs) : KeepsOvf s t := ⟨fun n => by simp only [State.fld, h]⟩

theorem KeepsOvf.setFld (s : State) {f : Fld} (v : Nat) (h : f.key < 0x41e00000 * 32 ∨ 0x41e00800 * 32 ≤ f.key) :
    KeepsOvf s (s.setFld f v) := by
  refine ⟨fun n => ?_⟩
  have hovf : 0x41e00000 * 32 ≤ (EVT_SRC.OVF n).key ∧ (EVT_SRC.OVF n).key < 0x41e00800 * 32 := by
    simp only [EVT_SRC.OVF, Fld.key]
    omega
  exact State.fld_setFld_ne s f _ v (by omega)

theorem State.accessFault_keepsOvf (m a c : Nat) (s : State) : KeepsOvf s (s.accessFault m a c) := by
  have hset (u : State) {f : Fld} (v : Nat) (h : f.key < 0x41e00000 * 32) : KeepsOvf u (u.setFld f v) := KeepsOvf.setFld u v (.inl h)
  unfold State.accessFault
  extract_lets u
  have hu : KeepsOvf s u := KeepsOvf.of_regs rfl
  split
  · exact hu.trans (hset _ _ (by decide))
  · exact ((((hu.trans (hset _ _ (by decide))).trans (hset _ _ (by decide))).trans (hset _ _ (by decide))).trans
      (hset _ _ (by decide))).trans (hset _ _ (by decide))

theorem State.ungate_keepsOvf (d : Option Nat) (s : State) : KeepsOvf s (s.ungate d) := by
  cases d with
  | none => exact KeepsOvf.refl s
  | some k =>
    simp only [State.ungate]
    split
    · refine KeepsOvf.setFld s 0 (.inr ?_)
      simp only [PWR_DOM.STATE, Fld.key]
      omega
    · exact KeepsOvf.refl s

theorem State.peekRead_keepsOvf (m a : Nat) (s : State) : KeepsOvf s (s.peekRead m a).2 := by
  unfold State.peekRead
  split
  · exact s.accessFault_keepsOvf ..
  split
  · exact s.accessFault_keepsOvf ..
  · exact s.ungate_keepsOvf _

theorem State.capture_keepsOvf (l : List Nat) (i : Nat) (s : State) : KeepsOvf s (s.capture l i).2 := by
  induction l generalizing i s with
  | nil => exact KeepsOvf.refl s
  | cons o l ih => exact (s.peekRead_keepsOvf 7 _).trans (ih (i + 1) _)

/-- The descriptors of a flush are the engines' alone. -/
theorem State.flushPage_keepsOvf (s : State) : KeepsOvf s s.flushPage := by
  have h : Within 549755813888 s s.flushPage := State.flushPage_in .refl rfl
  exact ⟨fun n => h.regs _ (by rw [part_event (Or.inr (Or.inl (by simp only [EVT_SRC.OVF, Fld.key]; omega)))]; rfl)⟩

theorem State.startFlush_keepsOvf (s : State) : KeepsOvf s s.startFlush := by
  have hevr (u : State) (f : Evr → Evr) : KeepsOvf u (u.modEvr f) := KeepsOvf.of_regs rfl
  have harea (u : State) (b : Bool) : KeepsOvf u (u.put EVR_STAT.NOAREA b) := KeepsOvf.setFld u _ (.inr (by decide))
  have hbusy (u : State) : KeepsOvf u (u.put EVR_STAT.BUSY true) := KeepsOvf.setFld u _ (.inr (by decide))
  unfold State.startFlush
  extract_lets u w
  split
  · exact hevr ..
  split
  · exact harea ..
  split
  · exact harea ..
  split
  · exact (harea ..).trans (hevr ..)
  · exact (((harea ..).trans (hbusy _)).trans (hevr ..)).trans (State.flushPage_keepsOvf _)

theorem State.pushRecord_keepsOvf (r : Rec) (s : State) : KeepsOvf s (s.pushRecord r) := by
  unfold State.pushRecord
  split
  · exact KeepsOvf.of_regs rfl
  extract_lets u
  have hu : KeepsOvf s u := KeepsOvf.of_regs rfl
  split
  · exact hu.trans (State.startFlush_keepsOvf u)
  · exact hu

theorem State.record_keepsOvf (c l n d : Nat) (s : State) : KeepsOvf s (s.record c l n d) :=
  (s.capture_keepsOvf _ 0).trans (State.pushRecord_keepsOvf _ _)

theorem State.fire_keepsOvf (t n d : Nat) (s : State) : KeepsOvf s (s.fire t n d) := by
  unfold State.fire
  split
  · exact KeepsOvf.setFld s _ (.inr (by decide))
  extract_lets u w
  have hw : KeepsOvf s w := KeepsOvf.trans (b := u) (KeepsOvf.of_regs rfl) (State.record_keepsOvf ..)
  split
  · exact hw.trans (State.startFlush_keepsOvf w)
  · exact hw

/-! Software triggers (R506). -/

/-- A source that is pending already overflows. -/
theorem State.pendEvent_ovf {n : Nat} {s : State} (h : s.on (EVT_SRC.PEND n) = true) : (s.pendEvent n).on (EVT_SRC.OVF n) = true := by
  unfold State.pendEvent
  rw [if_pos h]
  extract_lets u w
  have hfires : KeepsOvf w (each (w.triggers 1 fun a => a == n) (fun t s => s.fire t n 0) w) :=
    each_rel KeepsOvf.refl (fun _ _ _ => KeepsOvf.trans) _ _ (fun t s => s.fire_keepsOvf t n 0) w
  rw [State.on, hfires.ovf n]
  exact State.on_put s (EVT_SRC.OVF n) true (by simp [EVT_SRC.OVF])

theorem State.assertEvent_ovf {n : Nat} (hn : n < 512) {s : State} (h : s.on (EVT_SRC.PEND n) = true) :
    (s.assertEvent n).on (EVT_SRC.OVF n) = true :=
  State.pendEvent_ovf (s.wakeIdle_quiet.pend n hn h)

theorem exec_softwareTrigger {s : State} {m : Nat} (v : Nat) (h : s.reaches m EVT_SWTRIG.SOURCE.addr) :
    exec (.softwareTrigger m v) s = .next ((s.clearFault m).writeSwtrig v) :=
  congrArg Host.Outcome.next (State.access_noDomain h (by decide) (State.writeSwtrig v))

theorem softwareTrigger_asserts_effect {s : State} {m v n : Nat} (h : s.reaches m EVT_SWTRIG.SOURCE.addr) (hv : n = slice v 0 9)
    (hsrc : 480 ≤ n) :
    ∃ t, exec (.softwareTrigger m v) s = .next t ∧ t.on (EVT_SRC.PEND n) = true ∧
      (s.on (EVT_SRC.PEND n) = true → t.on (EVT_SRC.OVF n) = true) ∧ keepsRegs [] s t ∧ keepsMem s t := by
  have hn : n < 512 := hv ▸ Nat.mod_lt _ (by decide)
  have hq := (s.clearFault_quiet m).trans ((s.clearFault m).assertEvent_quiet hn)
  rw [exec_softwareTrigger v h, State.writeSwtrig, ← hv, decide_eq_true hsrc, State.assertIf, if_pos rfl]
  exact ⟨_, rfl, State.assertEvent_pend hn _, State.assertEvent_ovf hn (s := s.clearFault m), hq.keepsRegs [], hq.keepsMem⟩

theorem softwareTrigger_ignored_effect {s : State} {m v n : Nat} (h : s.reaches m EVT_SWTRIG.SOURCE.addr) (hv : n = slice v 0 9)
    (hsrc : n < 480) : ∃ t, exec (.softwareTrigger m v) s = .next t ∧ onlyRegs [] s t := by
  rw [exec_softwareTrigger v h, State.writeSwtrig, ← hv, decide_eq_false (Nat.not_le.2 hsrc), State.assertIf, if_neg Bool.false_ne_true]
  exact ⟨_, rfl, s.clearFault_onlyRegs m _⟩

/-! Asynchronous events (R507): an event enters its function's list, and the list answers the function's outstanding requests. -/

/-- What an MSI-X message changes of its function's record does not touch the asynchronous events. -/
theorem State.sendMsix_aen (f w : Nat) (s : State) : ((s.sendMsix f w).fn f).aers = (s.fn f).aers ∧
    ((s.sendMsix f w).fn f).events = (s.fn f).events ∧ ((s.sendMsix f w).fn f).masked = (s.fn f).masked := by
  unfold State.sendMsix
  extract_lets r
  split
  · exact ⟨rfl, rfl, rfl⟩
  split
  · rw [State.fn_modFn_self]
    exact ⟨rfl, rfl, rfl⟩
  · exact ⟨rfl, rfl, rfl⟩

theorem State.sendMsix_fn_ne {f g : Nat} (h : g ≠ f) (w : Nat) (s : State) : (s.sendMsix f w).fn g = s.fn g := by
  unfold State.sendMsix
  extract_lets r
  split
  · rfl
  split
  · exact State.fn_modFn_ne _ s h
  · rfl

theorem State.sendMsix_posted (f w : Nat) (s : State) : (s.sendMsix f w).hfe.posted = s.hfe.posted := by
  unfold State.sendMsix
  extract_lets r
  split
  · rfl
  split <;> rfl

/-- The completion in its queue, its context free, before the interrupt. -/
def State.enteredCpl (c : Cpl) (s : State) : State :=
  s.modHfe fun h => { h with
    posted := h.posted ++ [c], ctx := h.ctx.filter (fun x => x.ticket != c.ticket),
    cqs := Tab.upd {} h.cqs (qkey c.fn c.cqid) (fun x => { x with used := x.used + 1 }) }

theorem State.postRaw_hfe (c : Cpl) (s : State) : (s.postRaw c).hfe =
    (if (s.cq c.fn c.cqid).ien then (s.enteredCpl c).sendMsix c.fn (s.cq c.fn c.cqid).vec else s.enteredCpl c).hfe := rfl

theorem State.fn_of_hfe {s t : State} (h : t.hfe = s.hfe) (f : Nat) : t.fn f = s.fn f := by rw [State.fn, h, State.fn]

theorem State.postRaw_aen (c : Cpl) (s : State) : ((s.postRaw c).fn c.fn).aers = (s.fn c.fn).aers ∧
    ((s.postRaw c).fn c.fn).events = (s.fn c.fn).events ∧ ((s.postRaw c).fn c.fn).masked = (s.fn c.fn).masked := by
  rw [State.fn_of_hfe (s.postRaw_hfe c)]
  split
  · exact (s.enteredCpl c).sendMsix_aen c.fn _
  · exact ⟨rfl, rfl, rfl⟩

theorem State.postRaw_fn_ne {g : Nat} {c : Cpl} (h : g ≠ c.fn) (s : State) : (s.postRaw c).fn g = s.fn g := by
  rw [State.fn_of_hfe (s.postRaw_hfe c)]
  split
  · exact (s.enteredCpl c).sendMsix_fn_ne h _
  · rfl

theorem State.postRaw_posted (c : Cpl) (s : State) : (s.postRaw c).hfe.posted = s.hfe.posted ++ [c] := by
  rw [State.postRaw_hfe]
  split
  · exact (s.enteredCpl c).sendMsix_posted c.fn _
  · rfl

theorem postAens_noRequest {f : Nat} {s : State} (h : (s.fn f).aers = []) (n : Nat) : postAens n f s = s := by
  cases n with
  | zero => rfl
  | succ n =>
    simp only [postAens, h]
    split <;> rfl

theorem postAens_noEvent {f : Nat} {s : State} (h : (s.fn f).events = []) (n : Nat) : postAens n f s = s := by
  cases n with
  | zero => rfl
  | succ n =>
    simp only [postAens, h, List.find?_nil]
    split
    · rfl
    · cases (s.fn f).aers <;> rfl

/-- The request `a` of function `f` and the event `e` are taken off its record, before the completion goes out. -/
def State.takenAen (f : Nat) (rest : List (Nat × Nat)) (e : Nat) (s : State) : State :=
  s.modFn f fun r => { r with aers := rest, events := r.events.erase e, masked := addTo e r.masked }

/-- The completion of an Asynchronous Event Request `a` with event `e`. -/
def aenCpl (f : Nat) (a : Nat × Nat) (e : Nat) : Cpl := { fn := f, cqid := 0, sqid := 0, cid := a.1, ticket := a.2, status := 0, dw0 := e }

theorem postAens_posts {f e : Nat} {a : Nat × Nat} {rest : List (Nat × Nat)} {s : State} (n : Nat) (hroom : s.cqRoom f 0 = true)
    (haers : (s.fn f).aers = a :: rest) (hevent : ((s.fn f).events.find? fun x => !(s.fn f).masked.any fun m => m % 8 == x % 8) = some e) :
    postAens (n + 1) f s = postAens n f ((s.takenAen f rest e).postRaw (aenCpl f a e)) := by
  simp only [postAens, hroom, haers, hevent]
  rfl

theorem postAens_fn_ne {f g : Nat} (h : g ≠ f) (n : Nat) (s : State) : (postAens n f s).fn g = s.fn g := by
  induction n generalizing s with
  | zero => rfl
  | succ n ih =>
    unfold postAens
    extract_lets r
    split
    · rfl
    split
    · rw [ih, State.postRaw_fn_ne h, State.fn_modFn_ne _ _ h]
    · rfl

/-- An event entered in its function's list. -/
def State.queuedAen (f e : Nat) (s : State) : State := s.modFn f fun r => { r with events := r.events ++ [e] }

/-- Does function `f` take events of this kind (R507)? -/
def State.takesAen (s : State) (f type info : Nat) : Prop := (s.fn f).en = true ∧ aenEnabled (Tab.get 0 (s.fn f).feats 0x0B) type info = true

theorem State.raiseAen_notTaken {f type info log : Nat} {s : State}
    (h : (s.fn f).en = false ∨ aenEnabled (Tab.get 0 (s.fn f).feats 0x0B) type info = false) : s.raiseAen f type info log = s := by
  refine if_pos ?_
  simpa using h

theorem State.raiseAen_full {f type info log : Nat} {s : State} (ht : s.takesAen f type info)
    (h : aenWord type info log ∈ (s.fn f).events ∨ 16 ≤ (s.fn f).events.length) : s.raiseAen f type info log = postAens 8 f s := by
  obtain ⟨hen, hkind⟩ := ht
  unfold State.raiseAen
  extract_lets r e u
  rw [if_neg (by simp [r, hen, hkind])]
  exact congrArg (postAens 8 f) (if_pos (by simpa [r, e] using h))

theorem State.raiseAen_queued {f type info log : Nat} {s : State} (ht : s.takesAen f type info)
    (hnew : aenWord type info log ∉ (s.fn f).events) (hroom : (s.fn f).events.length < 16) :
    s.raiseAen f type info log = postAens 8 f (s.queuedAen f (aenWord type info log)) := by
  obtain ⟨hen, hkind⟩ := ht
  unfold State.raiseAen
  extract_lets r e u
  rw [if_neg (by simp [r, hen, hkind])]
  exact congrArg (postAens 8 f) (if_neg (by simpa [r, e] using ⟨hnew, hroom⟩))

theorem State.raiseAen_fn_ne {f g : Nat} (h : g ≠ f) (type info log : Nat) (s : State) : (s.raiseAen f type info log).fn g = s.fn g := by
  unfold State.raiseAen
  extract_lets r e u
  split
  · rfl
  rw [postAens_fn_ne h]
  dsimp only [u]
  split
  · rfl
  · exact State.fn_modFn_ne _ s h

theorem exec_asyncEventRaise {s : State} {m : Nat} (v : Nat) (h : s.reaches m EVT_AEN.TYPE.addr) :
    exec (.asyncEventRaise m v) s = .next ((s.clearFault m).writeAen v) :=
  congrArg Host.Outcome.next (State.access_noDomain h (by decide) (State.writeAen v))

/-- The masks of the front end (bit 33) and of the tally counters (bit 51) hold no register. -/
theorem State.writeAen_onlyRegs (v : Nat) (s : State) : onlyRegs [] s (s.writeAen v) :=
  have h : Within 2251808403619840 s (s.writeAen v) := State.writeAen_in .refl rfl
  h.onlyRegs_nil (by decide) (by decide)

theorem State.raiseAen_onlyRegs (f type info log : Nat) (s : State) : onlyRegs [] s (s.raiseAen f type info log) :=
  have h : Within 2251808403619840 s (s.raiseAen f type info log) := State.raiseAen_in .refl rfl
  h.onlyRegs_nil (by decide) (by decide)

theorem clearFault_raiseAen_onlyRegs (m f type info log : Nat) (s : State) :
    onlyRegs [] s ((s.clearFault m).raiseAen f type info log) :=
  (s.clearFault_onlyRegs m []).trans (State.raiseAen_onlyRegs ..)

theorem State.writeAen_one {v : Nat} {s : State} (hone : bit v 12 = false) (hf : s.fnExists (slice v 0 9) = true) :
    s.writeAen v = s.raiseAen (slice v 0 9) (slice v 29 3) (slice v 21 8) (slice v 13 8) := by
  unfold State.writeAen
  extract_lets go
  rw [if_neg (by simp [hone]), if_pos hf]

theorem State.writeAen_noFunction {v : Nat} {s : State} (hone : bit v 12 = false) (hf : s.fnExists (slice v 0 9) = false) :
    s.writeAen v = s := by
  unfold State.writeAen
  extract_lets go
  rw [if_neg (by simp [hone]), if_neg (by simp [hf])]

theorem State.writeAen_all {v : Nat} {s : State} (hall : bit v 12 = true) : s.writeAen v =
    each ((List.range 512).filter s.fnExists) (fun f u => u.raiseAen f (slice v 29 3) (slice v 21 8) (slice v 13 8)) s := by
  unfold State.writeAen
  extract_lets go
  rw [if_pos hall]

/-! What the event that a write of EVT_AEN raises comes to, for a function that takes events of its kind. -/

section
variable {s : State} {f type info log : Nat}

/-- Without an outstanding request it waits in the list. -/
theorem State.raiseAen_waits (ht : s.takesAen f type info) (haers : (s.fn f).aers = []) (hnew : aenWord type info log ∉ (s.fn f).events)
    (hroom : (s.fn f).events.length < 16) : s.raiseAen f type info log = s.queuedAen f (aenWord type info log) := by
  have hnone : ((s.queuedAen f (aenWord type info log)).fn f).aers = [] := by
    rw [State.queuedAen, State.fn_modFn_self]
    exact haers
  rw [State.raiseAen_queued ht hnew hroom, postAens_noRequest hnone]

/-- An equal event, or a full list, and it is merged or dropped. -/
theorem State.raiseAen_lost (ht : s.takesAen f type info) (haers : (s.fn f).aers = [])
    (h : aenWord type info log ∈ (s.fn f).events ∨ 16 ≤ (s.fn f).events.length) : s.raiseAen f type info log = s := by
  rw [State.raiseAen_full ht h, postAens_noRequest haers]

/-- The state in which the event `e` has answered the first outstanding request of function `f`. -/
def State.answeredAen (f : Nat) (a : Nat × Nat) (rest : List (Nat × Nat)) (e : Nat) (s : State) : State :=
  ((s.queuedAen f e).takenAen f rest e).postRaw (aenCpl f a e)

theorem State.answeredAen_fn (f : Nat) (a : Nat × Nat) (rest : List (Nat × Nat)) (e : Nat) (s : State) :
    ((s.answeredAen f a rest e).fn f).aers = rest ∧ ((s.answeredAen f a rest e).fn f).events = ((s.fn f).events ++ [e]).erase e ∧
      ((s.answeredAen f a rest e).fn f).masked = addTo e (s.fn f).masked := by
  obtain ⟨haers, hevents, hmasked⟩ := State.postRaw_aen (aenCpl f a e) ((s.queuedAen f e).takenAen f rest e)
  have hq : (s.queuedAen f e).fn f = { s.fn f with events := (s.fn f).events ++ [e] } := State.fn_modFn_self ..
  have ht : ((s.queuedAen f e).takenAen f rest e).fn f =
      { s.fn f with aers := rest, events := ((s.fn f).events ++ [e]).erase e, masked := addTo e (s.fn f).masked } := by
    rw [State.takenAen, State.fn_modFn_self, hq]
  refine ⟨haers.trans ?_, hevents.trans ?_, hmasked.trans ?_⟩
  · exact congrArg Fn.aers ht
  · exact congrArg Fn.events ht
  · exact congrArg Fn.masked ht

/-- With nothing pending or masked and room in the admin completion queue, it answers the first outstanding request. -/
theorem State.raiseAen_answers {a : Nat × Nat} {rest : List (Nat × Nat)} (ht : s.takesAen f type info) (haers : (s.fn f).aers = a :: rest)
    (hevents : (s.fn f).events = []) (hmasked : (s.fn f).masked = []) (hroom : s.cqRoom f 0 = true) :
    s.raiseAen f type info log = s.answeredAen f a rest (aenWord type info log) := by
  have hq : (s.queuedAen f (aenWord type info log)).fn f = { s.fn f with events := (s.fn f).events ++ [aenWord type info log] } :=
    State.fn_modFn_self ..
  have hdone : ((s.answeredAen f a rest (aenWord type info log)).fn f).events = [] := by
    rw [(State.answeredAen_fn ..).2.1, hevents, List.nil_append, List.erase_cons_head]
  rw [State.raiseAen_queued ht (by simp [hevents]) (by simp [hevents]),
    postAens_posts (s := s.queuedAen f (aenWord type info log)) (a := a) (rest := rest) (e := aenWord type info log) 7 hroom
      (by rw [hq]; exact haers) (by rw [hq]; simp [hevents, hmasked])]
  exact postAens_noEvent hdone 7

end

/-! A write of EVT_AEN for one function. -/

section
variable {s : State} {m v f type info log e : Nat} (h : s.reaches m EVT_AEN.TYPE.addr) (hf : f = slice v 0 9) (htype : type = slice v 29 3)
  (hinfo : info = slice v 21 8) (hlog : log = slice v 13 8) (he : e = log * 65536 + info * 256 + type)
include h hf htype hinfo hlog

theorem exec_asyncEventRaise_one (hone : bit v 12 = false) (hex : s.fnExists f = true) :
    exec (.asyncEventRaise m v) s = .next ((s.clearFault m).raiseAen f type info log) := by
  subst hf htype hinfo hlog
  rw [exec_asyncEventRaise v h, State.writeAen_one (s := s.clearFault m) hone hex]

theorem asyncEventRaise_notTaken_effect (hone : bit v 12 = false)
    (hnot : s.fnExists f = false ∨ (s.fn f).en = false ∨ aenEnabled (Tab.get 0 (s.fn f).feats 0x0B) type info = false) :
    ∃ t, exec (.asyncEventRaise m v) s = .next t ∧ t.hfe = s.hfe ∧ onlyRegs [] s t := by
  cases hex : s.fnExists f with
  | false =>
    rw [hf] at hex
    rw [exec_asyncEventRaise v h, State.writeAen_noFunction (s := s.clearFault m) hone hex]
    exact ⟨_, rfl, rfl, s.clearFault_onlyRegs m []⟩
  | true =>
    have hoff := hnot.resolve_left (by simp [hex])
    rw [exec_asyncEventRaise_one h hf htype hinfo hlog hone hex, State.raiseAen_notTaken (s := s.clearFault m) hoff]
    exact ⟨_, rfl, rfl, s.clearFault_onlyRegs m []⟩

include he

theorem asyncEventRaise_queued_effect (hone : bit v 12 = false) (hex : s.fnExists f = true) (ht : s.takesAen f type info)
    (haers : (s.fn f).aers = []) (hnew : e ∉ (s.fn f).events) (hroom : (s.fn f).events.length < 16) :
    ∃ t, exec (.asyncEventRaise m v) s = .next t ∧ t.fn f = { s.fn f with events := (s.fn f).events ++ [e] } ∧
      t.hfe.posted = s.hfe.posted ∧ (∀ g, g ≠ f → t.fn g = s.fn g) ∧ onlyRegs [] s t := by
  subst he
  have hwaits := State.raiseAen_waits (s := s.clearFault m) (log := log) ht haers hnew hroom
  refine ⟨_, exec_asyncEventRaise_one h hf htype hinfo hlog hone hex, ?_, ?_, fun g hg => State.raiseAen_fn_ne hg ..,
    clearFault_raiseAen_onlyRegs ..⟩
  · rw [hwaits]
    exact State.fn_modFn_self ..
  · rw [hwaits]
    rfl

theorem asyncEventRaise_lost_effect (hone : bit v 12 = false) (hex : s.fnExists f = true) (ht : s.takesAen f type info)
    (haers : (s.fn f).aers = []) (hlost : e ∈ (s.fn f).events ∨ 16 ≤ (s.fn f).events.length) :
    ∃ t, exec (.asyncEventRaise m v) s = .next t ∧ t.hfe = s.hfe ∧ onlyRegs [] s t := by
  subst he
  rw [exec_asyncEventRaise_one h hf htype hinfo hlog hone hex, State.raiseAen_lost (s := s.clearFault m) ht haers hlost]
  exact ⟨_, rfl, rfl, s.clearFault_onlyRegs m []⟩

theorem asyncEventRaise_answers_effect {c tk : Nat} {rest : List (Nat × Nat)} (hone : bit v 12 = false) (hex : s.fnExists f = true)
    (ht : s.takesAen f type info) (haers : (s.fn f).aers = (c, tk) :: rest) (hevents : (s.fn f).events = [])
    (hmasked : (s.fn f).masked = []) (hroom : s.cqRoom f 0 = true) :
    ∃ t, exec (.asyncEventRaise m v) s = .next t ∧
      t.hfe.posted = s.hfe.posted ++ [{ fn := f, cqid := 0, sqid := 0, cid := c, ticket := tk, status := 0, dw0 := e }] ∧
      (t.fn f).aers = rest ∧ (t.fn f).events = [] ∧ (t.fn f).masked = [e] ∧ (∀ g, g ≠ f → t.fn g = s.fn g) ∧ onlyRegs [] s t := by
  have hanswers := State.raiseAen_answers (s := s.clearFault m) (log := log) ht haers hevents hmasked hroom
  obtain ⟨hrest, hleft, hmask⟩ := State.answeredAen_fn f (c, tk) rest (aenWord type info log) (s.clearFault m)
  subst he
  refine ⟨_, exec_asyncEventRaise_one h hf htype hinfo hlog hone hex, ?_, ?_, ?_, ?_, fun g hg => State.raiseAen_fn_ne hg ..,
    clearFault_raiseAen_onlyRegs ..⟩
  · rw [hanswers]
    exact State.postRaw_posted ..
  · rw [hanswers, hrest]
  · rw [hanswers, hleft, State.fn_of_hfe (s.clearFault_hfe m), hevents, List.nil_append, List.erase_cons_head]
  · rw [hanswers, hmask, State.fn_of_hfe (s.clearFault_hfe m), hmasked]
    rfl

end

/-! A write of EVT_AEN for all functions. -/

/-- Function `g` holds event `e`, with no request that could take it. -/
def State.holdsAen (g e : Nat) (s : State) : Prop := (s.fn g).aers = [] ∧ e ∈ (s.fn g).events

theorem State.raiseAen_holds {f g type info log : Nat} {s : State} (h : s.holdsAen g (aenWord type info log)) :
    (s.raiseAen f type info log).holdsAen g (aenWord type info log) := by
  by_cases hg : g = f
  · subst hg
    have hsame : s.raiseAen g type info log = s := by
      by_cases ht : s.takesAen g type info
      · exact State.raiseAen_lost ht h.1 (.inl h.2)
      · exact State.raiseAen_notTaken ((Classical.not_and_iff_not_or_not.1 ht).imp eq_false_of_ne_true eq_false_of_ne_true)
    rw [hsame]
    exact h
  · rw [State.holdsAen, State.raiseAen_fn_ne hg]
    exact h

/-- A function that takes the event, has no request outstanding and room in its list, holds it after the event's turn. -/
theorem State.raiseAen_enters {g type info log : Nat} {s : State} (ht : s.takesAen g type info) (haers : (s.fn g).aers = [])
    (hroom : (s.fn g).events.length < 16) : (s.raiseAen g type info log).holdsAen g (aenWord type info log) := by
  by_cases hin : aenWord type info log ∈ (s.fn g).events
  · rw [State.raiseAen_lost ht haers (.inl hin)]
    exact ⟨haers, hin⟩
  · rw [State.raiseAen_waits ht haers hin hroom, State.holdsAen, State.queuedAen, State.fn_modFn_self]
    exact ⟨haers, List.mem_append_right _ (.head _)⟩

theorem each_raiseAen_holds {g type info log : Nat} (l : List Nat) {s : State} (h : s.holdsAen g (aenWord type info log)) :
    (each l (fun f u => u.raiseAen f type info log) s).holdsAen g (aenWord type info log) := by
  induction l generalizing s with
  | nil => exact h
  | cons f l ih => exact ih (State.raiseAen_holds h)

theorem each_raiseAen_enters {g type info log : Nat} {l : List Nat} {s : State} (hg : g ∈ l) (ht : s.takesAen g type info)
    (haers : (s.fn g).aers = []) (hroom : (s.fn g).events.length < 16) :
    (each l (fun f u => u.raiseAen f type info log) s).holdsAen g (aenWord type info log) := by
  induction l generalizing s with
  | nil => cases hg
  | cons f l ih =>
    by_cases hf : g = f
    · subst hf
      exact each_raiseAen_holds l (State.raiseAen_enters ht haers hroom)
    · have hfn : (s.raiseAen f type info log).fn g = s.fn g := State.raiseAen_fn_ne hf ..
      refine ih ((List.mem_cons.1 hg).resolve_left hf) ?_ ?_ ?_
      · rw [State.takesAen, hfn]
        exact ht
      · rw [hfn]
        exact haers
      · rw [hfn]
        exact hroom

theorem asyncEventRaise_all_effect {s : State} {m v type info log e : Nat} (h : s.reaches m EVT_AEN.TYPE.addr)
    (htype : type = slice v 29 3) (hinfo : info = slice v 21 8) (hlog : log = slice v 13 8)
    (he : e = log * 65536 + info * 256 + type) (hall : bit v 12 = true) :
    ∃ t, exec (.asyncEventRaise m v) s = .next t ∧ onlyRegs [] s t ∧
      ∀ g, g < 512 → s.fnExists g = true → (s.fn g).en = true → aenEnabled (Tab.get 0 (s.fn g).feats 0x0B) type info = true →
        (s.fn g).aers = [] → (s.fn g).events.length < 16 → e ∈ (t.fn g).events := by
  subst htype hinfo hlog he
  refine ⟨_, exec_asyncEventRaise v h, (s.clearFault_onlyRegs m []).trans (State.writeAen_onlyRegs v _), ?_⟩
  intro g hg hex hen hkind haers hroom
  have hmem : g ∈ (List.range 512).filter (s.clearFault m).fnExists := List.mem_filter.2 ⟨List.mem_range.2 hg, hex⟩
  rw [State.writeAen_all hall]
  exact (each_raiseAen_enters (s := s.clearFault m) hmem ⟨hen, hkind⟩ haers hroom).2

/-! The statement. -/

/-- Settles O54: each clause is the effect of its write in the state in which the access arrives. -/
theorem coresEventsAndRestartsFollowTheirWrites : Obligations.CoresEventsAndRestartsFollowTheirWrites := by
  unfold Obligations.CoresEventsAndRestartsFollowTheirWrites
  refine ⟨?run, ?reset, ?restart, ?claim, fun s _ _ hx => exec_eventClaim_noTarget hx s, ?trigger, ?aen⟩
  case run =>
    intro s m v n h hn hreset hrun
    exact ⟨fun hstep hoff hl => coreRun_starts_effect h hn hreset hrun ⟨hstep, hoff, hl⟩, coreRun_ignored_effect h hn hreset hrun⟩
  case reset =>
    intro s m v n h hn hrun hreset hp hu
    refine ⟨coreReset_stays_effect h hn hrun hreset hp hu, ?_⟩
    rintro rfl
    exact coreReset_restarts_effect h hrun hreset hp hu
  case restart =>
    intro s m v h
    exact ⟨restart_accepted_effect h, restart_refused_effect h, restart_ignored_effect h⟩
  case claim =>
    intro s m x hx h
    refine ⟨?_, ?_⟩
    · intro n hn hm hpend hen htarget hlow
      have hask : s.asksFor x n = true := by simp [State.asksFor, hpend, hen, htarget]
      exact eventClaim_takes_effect hx h hn hm hask fun j hj => State.asksFor_eq_false.2 (hlow j hj)
    · intro hnone
      exact eventClaim_nothing_effect hx h (hnone.imp_right fun hj j hlt => State.asksFor_eq_false.2 (hj j hlt))
  case trigger =>
    intro s m v n h hv
    exact ⟨softwareTrigger_asserts_effect h hv, softwareTrigger_ignored_effect h hv⟩
  case aen =>
    intro s m v f type info log e h hf htype hinfo hlog he
    refine ⟨?_, asyncEventRaise_notTaken_effect h hf htype hinfo hlog, asyncEventRaise_all_effect h htype hinfo hlog he⟩
    intro hone hex hen hkind
    exact ⟨asyncEventRaise_queued_effect h hf htype hinfo hlog he hone hex ⟨hen, hkind⟩,
      asyncEventRaise_lost_effect h hf htype hinfo hlog he hone hex ⟨hen, hkind⟩,
      fun _ _ _ => asyncEventRaise_answers_effect h hf htype hinfo hlog he hone hex ⟨hen, hkind⟩⟩

end Sys2Proof.Machine

/-! Proofs of O10 to O12: the lock loop (R50, R52, R62, R63), Bell time (R55, R58, R61) and the writes of the Bell's registers (R53, R71,
R78, R80). Each transition of Table 2.3 is one equation for its operation; what the statements say of it is read off that equation. -/

namespace Sys2Proof.Machine

/-! A command that may not change memory leaves every byte (O1). -/

theorem exec_keepsMem {i : Instr} {s t : State} (hexec : exec i s = .next t)
    (h : (mayChange i).testBit 28 = false := by simp only [mayChange]; rfl) : keepsMem s t := by
  obtain ⟨u, hu, hwithin⟩ := exec_within s i
  obtain rfl : u = t := Host.Outcome.next.inj (hu.symm.trans hexec)
  exact keepsMem_of_mem (hwithin.mem h)

/-! Pulse classes (Table 2.1). -/

/-- Away from the bounds of Table 2.1 the class is the table's (R646). -/
theorem State.pulseKind_off {w : Nat} (h : ∀ b ∈ [500, 1500, 3000, 5000, 8000], w + 50 < b ∨ b + 50 < w) (s : State) :
    s.pulseKind w = pulseClass w := by
  have hnone : [500, 1500, 3000, 5000, 8000].find? (fun b => decide (b ≤ w + 50) && decide (w ≤ b + 50)) = none := by
    rw [List.find?_eq_none]
    intro b hb
    have := h b hb
    simp only [Bool.and_eq_true, decide_eq_true_eq]
    omega
  rw [State.pulseKind, hnone]

theorem State.pulseKind_glitch {w : Nat} (h : w + 50 < 500) (s : State) : s.pulseKind w = .glitch := by
  rw [State.pulseKind_off (by simp; omega), pulseClass, if_pos (by omega)]

theorem State.pulseKind_invalid {w : Nat} (h : (550 < w ∧ w + 50 < 1500) ∨ (3050 < w ∧ w + 50 < 5000) ∨ 8050 < w) (s : State) :
    s.pulseKind w = .invalid := by
  rw [State.pulseKind_off (by simp; omega), pulseClass, if_neg (by omega)]
  rcases h with ⟨_, _⟩ | ⟨_, _⟩ | _
  · rw [if_pos (by omega)]
  · rw [if_neg (by omega), if_neg (by omega), if_pos (by omega)]
  · rw [if_neg (by omega), if_neg (by omega), if_neg (by omega), if_neg (by omega)]

theorem State.pulseKind_slotMark {w : Nat} (hlow : 1550 < w) (hhigh : w + 50 < 3000) (s : State) : s.pulseKind w = .slotMark := by
  rw [State.pulseKind_off (by simp; omega), pulseClass, if_neg (by omega), if_neg (by omega), if_pos (by omega)]

theorem State.pulseKind_frameMark {w : Nat} (hlow : 5050 < w) (hhigh : w + 50 < 8000) (s : State) : s.pulseKind w = .frameMark := by
  rw [State.pulseKind_off (by simp; omega), pulseClass, if_neg (by omega), if_neg (by omega), if_neg (by omega), if_neg (by omega),
    if_pos (by omega)]

section
variable {s : State} {w : Nat} (d : Int) (hruns : s.bellRuns = true)
include hruns

theorem exec_shbellPulse_glitch (h : s.pulseKind w = .glitch) : exec (.shbellPulse w d) s = .next s.tookFree :=
  congrArg Host.Outcome.next (by simp [shbellPulse, hruns, h])

theorem exec_shbellPulse_invalid (h : s.pulseKind w = .invalid) : exec (.shbellPulse w d) s = .next s.tookFree.misplaced :=
  congrArg Host.Outcome.next (by simp [shbellPulse, hruns, h])

theorem exec_shbellPulse_slotMark (h : s.pulseKind w = .slotMark) (hsrc : s.bellSrc = 0) :
    exec (.shbellPulse w d) s = .next (s.tookFree.slotMark d) :=
  congrArg Host.Outcome.next (by simp [shbellPulse, hruns, h, hsrc])

theorem exec_shbellPulse_frameMark (h : s.pulseKind w = .frameMark) (hsrc : s.bellSrc = 0) :
    exec (.shbellPulse w d) s = .next (s.tookFree.takeFrameMark d) :=
  congrArg Host.Outcome.next (by simp [shbellPulse, hruns, h, hsrc])

end

/-! Misplaced marks (R50, R52). -/

/-- A misplaced mark is a count and an event. -/
theorem State.misplaced_quiet (s : State) : Quiet (s.count BEL_ERRCNT.MISPLACED 1) s.misplaced :=
  State.assertEvent_quiet (by decide) _

theorem State.misplaced_count (s : State) :
    s.misplaced.fld BEL_ERRCNT.MISPLACED = min (s.fld BEL_ERRCNT.MISPLACED + 1) 0xFFFF := by
  rw [s.misplaced_quiet.fld _ (by decide), State.fld_count, show BEL_ERRCNT.MISPLACED.w = 16 from rfl]
  omega

theorem State.misplaced_pend (s : State) : s.misplaced.on (EVT_SRC.PEND 420) = true := State.assertEvent_pend (by decide) _

theorem State.misplaced_keepsRegs (s : State) : keepsRegs [BEL_ERRCNT.MISPLACED] s s.misplaced :=
  (keepsRegs_setFld s _ _ (.head _)).trans (s.misplaced_quiet.keepsRegs _)

theorem State.misplaced_bell (s : State) : s.misplaced.bell = s.bell := s.misplaced_quiet.bell

theorem State.misplaced_lock (s : State) : s.misplaced.lock = s.lock :=
  s.misplaced_keepsRegs _ (by decide) (by decide)

/-! Slot marks (Table 2.3). -/

section
variable {s : State} {d : Int}

theorem State.slotMark_free (h : s.lock = lockFree) : s.slotMark d = s := if_pos h

theorem State.slotMark_misplaced (h : s.lock = lockAcquire ∨ ((s.lock = lockConfirm ∨ s.lock = lockLocked) ∧ onTime d = false)) :
    s.slotMark d = s.misplaced := by
  unfold State.slotMark
  rcases h with h | ⟨h | h, hlate⟩ <;> simp [*, lockFree, lockAcquire, lockConfirm, lockLocked]

theorem State.slotMark_candidate (h : s.lock = lockConfirm) (htime : onTime d = true) (hcand : s.bell.cand ≠ 0) :
    s.slotMark d = s.marked.modBell fun b => { b with cand := (b.cand + 1) % 64 } := by
  simp [State.slotMark, h, htime, hcand, lockFree, lockAcquire, lockConfirm]

/-- A slot mark where the candidate expects a frame mark. -/
theorem State.slotMark_frameExpected (h : s.lock = lockConfirm) (htime : onTime d = true) (hcand : s.bell.cand = 0) :
    s.slotMark d = s.marked.toLock lockAcquire := by
  simp [State.slotMark, h, htime, hcand, lockFree, lockAcquire, lockConfirm]

theorem State.slotMark_locked (h : s.lock = lockLocked) (htime : onTime d = true) : s.slotMark d = s.correct d := by
  simp [State.slotMark, h, htime, lockFree, lockAcquire, lockConfirm, lockLocked]

end

/-- What marks write, whatever the lock state. -/
def markFields : List Fld := [BEL_STAT.MISSED, BEL_STAT.LOCK, BEL_ERRCNT.MISPLACED]

section
variable (s : State)

theorem State.marked_missed : s.marked.fld BEL_STAT.MISSED = 0 := State.fld_setFld s BEL_STAT.MISSED 0

theorem State.marked_ne {g : Fld} (h : g.key ≠ BEL_STAT.MISSED.key) : s.marked.fld g = s.fld g := State.fld_setFld_ne _ _ _ _ h

theorem State.marked_keepsRegs : keepsRegs markFields s s.marked :=
  keepsRegs_setFld s _ 0 (.head _)

theorem State.toLock_lock {l : Nat} (h : l < 8) : (s.toLock l).lock = l :=
  (State.fld_setFld s BEL_STAT.LOCK l).trans (Nat.mod_eq_of_lt h)

theorem State.toLock_ne {g : Fld} (l : Nat) (h : g.key ≠ BEL_STAT.LOCK.key) : (s.toLock l).fld g = s.fld g :=
  State.fld_setFld_ne _ _ _ _ h

/-- The phase correction of an on-time mark is no register: it clears MISSED as every mark does. -/
theorem State.correct_fld (d : Int) (g : Fld) : (s.correct d).fld g = s.marked.fld g := rfl

end

/-! The pulses of O10. -/

section
variable {s : State} {w : Nat} {d : Int} (hruns : s.bellRuns = true)
include hruns

theorem shbellPulse_invalid_effect (hw : (550 < w ∧ w + 50 < 1500) ∨ (3050 < w ∧ w + 50 < 5000) ∨ 8050 < w) :
    ∃ t, exec (.shbellPulse w d) s = .next t ∧ t.fld BEL_ERRCNT.MISPLACED = min (s.fld BEL_ERRCNT.MISPLACED + 1) 0xFFFF ∧
      t.on (EVT_SRC.PEND 420) = true ∧ t.bell = s.bell ∧ t.lock = s.lock ∧ keepsRegs [BEL_ERRCNT.MISPLACED] s t ∧ keepsMem s t := by
  have hexec := exec_shbellPulse_invalid d hruns (State.pulseKind_invalid hw s)
  exact ⟨_, hexec, State.misplaced_count _, State.misplaced_pend _, State.misplaced_bell _, State.misplaced_lock _,
    State.misplaced_keepsRegs s.tookFree, exec_keepsMem hexec⟩

theorem shbellPulse_slotMark_effect (hsrc : s.bellSrc = 0) (hlow : 1550 < w) (hhigh : w + 50 < 3000) :
    ∃ t, exec (.shbellPulse w d) s = .next t ∧
      (s.lock = lockFree → t = s.tookFree) ∧
      (s.lock = lockAcquire ∨ ((s.lock = lockConfirm ∨ s.lock = lockLocked) ∧ onTime d = false) →
        t.fld BEL_ERRCNT.MISPLACED = min (s.fld BEL_ERRCNT.MISPLACED + 1) 0xFFFF ∧ t.lock = s.lock ∧ t.bell = s.bell) ∧
      (s.lock = lockConfirm → onTime d = true → s.bell.cand ≠ 0 →
        t.lock = lockConfirm ∧ t.bell.cand = (s.bell.cand + 1) % 64 ∧ t.fld BEL_STAT.MISSED = 0) ∧
      (s.lock = lockConfirm → onTime d = true → s.bell.cand = 0 → t.lock = lockAcquire ∧ t.fld BEL_STAT.MISSED = 0) ∧
      (s.lock = lockLocked → onTime d = true → t.lock = lockLocked ∧ t.fld BEL_STAT.MISSED = 0 ∧
        t.fld BEL_ERRCNT.MISPLACED = s.fld BEL_ERRCNT.MISPLACED) := by
  have hexec := exec_shbellPulse_slotMark d hruns (State.pulseKind_slotMark hlow hhigh s) hsrc
  refine ⟨_, hexec, State.slotMark_free (s := s.tookFree), ?_, ?_, ?_, ?_⟩
  · intro hmis
    rw [State.slotMark_misplaced (s := s.tookFree) hmis]
    exact ⟨State.misplaced_count _, State.misplaced_lock _, State.misplaced_bell _⟩
  · intro hl htime hcand
    rw [State.slotMark_candidate (s := s.tookFree) hl htime hcand]
    exact ⟨(State.marked_ne s.tookFree (by decide)).trans hl, rfl, State.marked_missed s.tookFree⟩
  · intro hl htime hcand
    rw [State.slotMark_frameExpected (s := s.tookFree) hl htime hcand]
    exact ⟨State.toLock_lock _ (by decide), (State.toLock_ne _ _ (by decide)).trans (State.marked_missed _)⟩
  · intro hl htime
    rw [State.slotMark_locked (s := s.tookFree) hl htime]
    exact ⟨(State.marked_ne s.tookFree (by decide)).trans hl, State.marked_missed s.tookFree, State.marked_ne s.tookFree (by decide)⟩

end

/-! A frame mark in ACQUIRE (Table 2.3). -/

theorem State.frameMark_acquire {s : State} (d : Int) (h : s.lock = lockAcquire) :
    s.frameMark d = ⟨((s.modBell fun b => { b with cand := 1 }).toLock lockConfirm).marked, false⟩ := by
  simp [State.frameMark, h, lockFree, lockAcquire]

theorem State.takeFrameMark_acquire {s : State} (d : Int) (h : s.lock = lockAcquire) :
    s.takeFrameMark d = ((s.modBell fun b => { b with cand := 1 }).toLock lockConfirm).marked.frameTemp.recalCheck := by
  rw [State.takeFrameMark, State.frameMark_acquire d h, if_neg (by rw [h]; decide)]
  rfl

/-- The samples of a frame mark (R262, R291) change neither the Bell nor its registers. -/
theorem State.frameSamples_within (s : State) : Within (othersThan [.regBel, .bell]) s s.frameTemp.recalCheck :=
  State.recalCheck_in (State.frameTemp_in .refl rfl) rfl

theorem State.frameSamples_bell (s : State) : s.frameTemp.recalCheck.bell = s.bell := s.frameSamples_within.bell rfl

theorem State.frameSamples_fld (s : State) {g : Fld} (h : partOfKey g.key = 1) : s.frameTemp.recalCheck.fld g = s.fld g :=
  s.frameSamples_within.regs g (by rw [h]; rfl)

theorem shbellPulse_frameMark_effect {s : State} {w : Nat} {d : Int} (hruns : s.bellRuns = true) (hsrc : s.bellSrc = 0) (hlow : 5050 < w)
    (hhigh : w + 50 < 8000) (hlock : s.lock = lockAcquire) :
    ∃ t, exec (.shbellPulse w d) s = .next t ∧ t.lock = lockConfirm ∧ t.bell.cand = 1 ∧ t.bell.frame = s.bell.frame ∧
      t.fld BEL_STAT.EPOCH = s.fld BEL_STAT.EPOCH := by
  have hexec := exec_shbellPulse_frameMark d hruns (State.pulseKind_frameMark hlow hhigh s) hsrc
  rw [State.takeFrameMark_acquire (s := s.tookFree) d hlock] at hexec
  refine ⟨_, hexec, ?_, by rw [State.frameSamples_bell]; rfl, by rw [State.frameSamples_bell]; rfl, ?_⟩
  · rw [State.lock, State.frameSamples_fld _ BEL_STAT.LOCK_part, State.marked_ne _ (by decide)]
    exact State.toLock_lock _ (by decide)
  · rw [State.frameSamples_fld _ BEL_STAT.EPOCH_part, State.marked_ne _ (by decide), State.toLock_ne _ _ (by decide)]
    rfl

/-! A transition out of LOCKED (Table 2.3, R57, R70). -/

/-- What a transition out of LOCKED writes. -/
def lossFields : List Fld := [BEL_STAT.LOCK, BEL_STAT.FALLBACK, BEL_STAT.DEGRADED, BEL_STAT.EPOCH, BEL_ERRCNT.LOSSES]

section
variable (s : State)

theorem State.nextEpoch_quiet : Quiet (s.setFld BEL_STAT.EPOCH (s.fld BEL_STAT.EPOCH + 1)) s.nextEpoch :=
  State.assertEvent_quiet (by decide) _

theorem State.nextEpoch_epoch : s.nextEpoch.fld BEL_STAT.EPOCH = (s.fld BEL_STAT.EPOCH + 1) % 256 := by
  rw [s.nextEpoch_quiet.fld _ (by decide)]
  exact State.fld_setFld ..

theorem State.nextEpoch_ne {g : Fld} (hq : eventKey g.key = false) (h : g.key ≠ BEL_STAT.EPOCH.key) : s.nextEpoch.fld g = s.fld g := by
  rw [s.nextEpoch_quiet.fld g hq, State.fld_setFld_ne _ _ _ _ h]

theorem State.nextEpoch_bell : s.nextEpoch.bell = s.bell := s.nextEpoch_quiet.bell

end

section
variable (l : Nat) (s : State)

theorem State.leaveLocked_lock (h : l < 8) : (s.leaveLocked l).lock = l := by
  unfold State.leaveLocked State.lock
  rw [State.nextEpoch_ne _ (by decide) (by decide), State.fld_modBell, State.fld_count_ne _ _ _ _ (by decide),
    State.fld_put_ne _ _ _ _ (by decide), State.fld_put_ne _ _ _ _ (by decide)]
  exact State.toLock_lock s h

theorem State.leaveLocked_epoch : (s.leaveLocked l).fld BEL_STAT.EPOCH = (s.fld BEL_STAT.EPOCH + 1) % 256 := by
  unfold State.leaveLocked
  rw [State.nextEpoch_epoch, State.fld_modBell, State.fld_count_ne _ _ _ _ (by decide), State.fld_put_ne _ _ _ _ (by decide),
    State.fld_put_ne _ _ _ _ (by decide), State.fld_setFld_ne _ _ _ _ (by decide)]

theorem State.leaveLocked_fallback : (s.leaveLocked l).on BEL_STAT.FALLBACK = true := by
  unfold State.leaveLocked State.on
  rw [State.nextEpoch_ne _ (by decide) (by decide), State.fld_modBell, State.fld_count_ne _ _ _ _ (by decide),
    State.fld_put_ne _ _ _ _ (by decide), State.fld_put]
  rfl

theorem State.leaveLocked_degraded : (s.leaveLocked l).on BEL_STAT.DEGRADED = true := by
  unfold State.leaveLocked State.on
  rw [State.nextEpoch_ne _ (by decide) (by decide), State.fld_modBell, State.fld_count_ne _ _ _ _ (by decide), State.fld_put]
  rfl

theorem State.leaveLocked_keepsRegs : keepsRegs lossFields s (s.leaveLocked l) := by
  intro g hq hl
  have hlock : g.key ≠ BEL_STAT.LOCK.key := hl _ (by decide)
  have hfall : g.key ≠ BEL_STAT.FALLBACK.key := hl _ (by decide)
  have hdeg : g.key ≠ BEL_STAT.DEGRADED.key := hl _ (by decide)
  have hepoch : g.key ≠ BEL_STAT.EPOCH.key := hl _ (by decide)
  have hloss : g.key ≠ BEL_ERRCNT.LOSSES.key := hl _ (by decide)
  unfold State.leaveLocked
  rw [State.nextEpoch_ne _ hq hepoch, State.fld_modBell, State.fld_count_ne _ _ _ _ hloss, State.fld_put_ne _ _ _ _ hdeg,
    State.fld_put_ne _ _ _ _ hfall, State.fld_setFld_ne _ _ _ _ hlock]

end

/-! Missing slots (R62, R63). -/

/-- A missing slot counted in BEL_STAT.MISSED and the tally. -/
def State.countMissing (s : State) : State := (s.count BEL_STAT.MISSED 1).tally 2210 1

theorem State.countMissing_missed {s : State} (h : s.fld BEL_STAT.MISSED < 255) :
    s.countMissing.fld BEL_STAT.MISSED = s.fld BEL_STAT.MISSED + 1 := by
  have hcount : s.countMissing.fld BEL_STAT.MISSED = min (s.fld BEL_STAT.MISSED + 1) (2 ^ 8 - 1) % 2 ^ 8 :=
    State.fld_count s BEL_STAT.MISSED 1
  omega

theorem State.countMissing_ne {g : Fld} (s : State) (h : g.key ≠ BEL_STAT.MISSED.key) : s.countMissing.fld g = s.fld g :=
  State.fld_count_ne s BEL_STAT.MISSED g 1 h

section
variable {s : State}

theorem State.missingSlot_locked (h : s.lock = lockLocked) : s.missingSlot =
    if 3 ≤ s.countMissing.fld BEL_STAT.MISSED then (s.countMissing.leaveLocked lockAcquire).assertEvent 419 else s.countMissing := by
  rw [State.missingSlot, if_neg (by rw [h]; decide), if_pos (by rw [State.locked, h]; rfl)]
  rfl

theorem State.missingSlot_none (h : s.lock = lockFree ∨ s.lock = lockAcquire) : s.missingSlot = s := by
  rw [State.missingSlot, if_neg (by rcases h with h | h <;> rw [h] <;> decide),
    if_neg (by rcases h with h | h <;> rw [State.locked, h] <;> decide)]

theorem exec_slotWindowClose (h : s.bellRuns = true) : exec .slotWindowClose s = .next s.missingSlot :=
  congrArg Host.Outcome.next (if_pos h)

theorem slotWindowClose_counted_effect (hruns : s.bellRuns = true) (hlock : s.lock = lockLocked) (hfew : s.fld BEL_STAT.MISSED < 2) :
    ∃ t, exec .slotWindowClose s = .next t ∧ t.lock = lockLocked ∧ t.fld BEL_STAT.MISSED = s.fld BEL_STAT.MISSED + 1 ∧
      t.fld BEL_STAT.EPOCH = s.fld BEL_STAT.EPOCH := by
  have hmissed := State.countMissing_missed (s := s) (by omega)
  refine ⟨s.countMissing, ?_, (s.countMissing_ne (by decide)).trans hlock, hmissed, s.countMissing_ne (by decide)⟩
  rw [exec_slotWindowClose hruns, State.missingSlot_locked hlock, if_neg (by omega)]

theorem slotWindowClose_lost_effect (hruns : s.bellRuns = true) (hlock : s.lock = lockLocked) (htwo : s.fld BEL_STAT.MISSED = 2) :
    ∃ t, exec .slotWindowClose s = .next t ∧ t.lock = lockAcquire ∧ t.fld BEL_STAT.EPOCH = (s.fld BEL_STAT.EPOCH + 1) % 256 ∧
      t.on BEL_STAT.FALLBACK = true ∧ t.on BEL_STAT.DEGRADED = true ∧ t.on (EVT_SRC.PEND 419) = true := by
  have hmissed := State.countMissing_missed (s := s) (by omega)
  have hq := State.assertEvent_quiet (n := 419) (by decide) (s.countMissing.leaveLocked lockAcquire)
  refine ⟨_, ?_, (hq.fld _ (by decide)).trans (State.leaveLocked_lock _ _ (by decide)), ?_,
    (hq.on _ (by decide)).trans (State.leaveLocked_fallback ..), (hq.on _ (by decide)).trans (State.leaveLocked_degraded ..),
    State.assertEvent_pend (by decide) _⟩
  · rw [exec_slotWindowClose hruns, State.missingSlot_locked hlock, if_pos (by omega)]
  · rw [hq.fld _ (by decide), State.leaveLocked_epoch, s.countMissing_ne (by decide)]

end

/-- Settles O10: each pulse and each missing slot by its row of Table 2.3. -/
theorem bellMarksDriveTheLockLoop : Obligations.BellMarksDriveTheLockLoop := by
  unfold Obligations.BellMarksDriveTheLockLoop
  refine ⟨?glitch, fun s w d => shbellPulse_invalid_effect, fun s w d => shbellPulse_slotMark_effect,
    fun s w d => shbellPulse_frameMark_effect, ?missing, ?unlocked⟩
  case glitch =>
    intro s w d hruns hw
    exact ⟨_, exec_shbellPulse_glitch d hruns (State.pulseKind_glitch hw s), rfl⟩
  case missing =>
    intro s hruns hlock
    exact ⟨slotWindowClose_counted_effect hruns hlock, slotWindowClose_lost_effect hruns hlock⟩
  case unlocked =>
    intro s hruns hlock
    rw [exec_slotWindowClose hruns, State.missingSlot_none hlock]

end Sys2Proof.Machine

/-! Proof of O11: a beacon as a slot mark (R55), slot boundaries and frame starts (R53, R58, R61). What hangs on a boundary changes much of
the device, but of the Bell only its mode epochs, its power-up sequence and its pending values: Bell time itself stands. -/

namespace Sys2Proof.Machine

/-! Beacons (R55). -/

/-- A beacon takes the notice that announced it as a frame mark. -/
def State.clearNotice (s : State) : State := s.modBell fun b => { b with frameNotice := false }

/-- A beacon of a network that is up, with no frame notice waiting, is a slot mark where the PLCA-derived source drives. -/
theorem plcaBeacon_slotMark {s : State} (d : Int) (hup : s.up = true) (hcold : s.coldNum 0x1104 0 ≠ 0)
    (hcoord : s.on MGT_STAT.COORD = false) (hnet : s.on MGT_STAT.NETUP = true) (hruns : s.bellRuns = true) (hsrc : s.bellSrc = 1)
    (hnote : s.bell.frameNotice = false) :
    plcaBeacon d s = s.clearNotice.slotMark d := by
  have hseen : s.beaconSeen = s := if_pos hnet
  rw [plcaBeacon, if_neg (by simp [hup, hcold, hcoord]), hseen]
  refine (if_neg ?_).trans (if_neg (by simp [hnote]))
  rintro (hstop | hother)
  · have hstops : (!s.bellRuns) = true := hstop
    simp [hruns] at hstops
  · exact hother hsrc

theorem plcaBeacon_effect {s : State} {d : Int} (hup : s.up = true) (hcold : s.coldNum 0x1104 0 ≠ 0)
    (hcoord : s.on MGT_STAT.COORD = false) (hnet : s.on MGT_STAT.NETUP = true) (hruns : s.bellRuns = true) (hsrc : s.bellSrc = 1)
    (hnote : s.bell.frameNotice = false) (htime : onTime d = true) :
    (s.lock = lockConfirm → s.bell.cand ≠ 0 →
      ∃ t, exec (.plcaBeacon d) s = .next t ∧ t.bell.cand = (s.bell.cand + 1) % 64 ∧ t.lock = lockConfirm ∧
        keepsRegs markFields s t ∧ keepsMem s t) ∧
    (s.lock = lockLocked →
      ∃ t, exec (.plcaBeacon d) s = .next t ∧ t.lock = lockLocked ∧ t.fld BEL_STAT.MISSED = 0 ∧
        keepsRegs markFields s t ∧ keepsMem s t) := by
  have hexec : exec (.plcaBeacon d) s = .next (s.clearNotice.slotMark d) :=
    congrArg Host.Outcome.next (plcaBeacon_slotMark d hup hcold hcoord hnet hruns hsrc hnote)
  refine ⟨fun hlock hcand => ?_, fun hlock => ?_⟩
  · rw [State.slotMark_candidate (s := s.clearNotice) hlock htime hcand] at hexec
    exact ⟨_, hexec, rfl, (s.marked_ne (by decide)).trans hlock, s.marked_keepsRegs, exec_keepsMem hexec⟩
  · rw [State.slotMark_locked (s := s.clearNotice) hlock htime] at hexec
    exact ⟨_, hexec, (s.marked_ne (by decide)).trans hlock, s.marked_missed, s.marked_keepsRegs, exec_keepsMem hexec⟩

/-! Bell time. -/

/-- Bell time and the cycles of its slot read as before. -/
structure KeepsTime (s t : State) : Prop where
  frame : t.bell.frame = s.bell.frame
  slot : t.bell.slot = s.bell.slot
  phase : t.bell.phase = s.bell.phase
  cycles : t.bell.cycles = s.bell.cycles

namespace KeepsTime

theorem refl (s : State) : KeepsTime s s := ⟨rfl, rfl, rfl, rfl⟩

theorem trans {a b c : State} (h : KeepsTime a b) (k : KeepsTime b c) : KeepsTime a c :=
  ⟨k.frame.trans h.frame, k.slot.trans h.slot, k.phase.trans h.phase, k.cycles.trans h.cycles⟩

theorem of_bell {s t : State} (h : t.bell = s.bell) : KeepsTime s t := by
  constructor <;> rw [h]

/-- What may change any part but the Bell leaves Bell time. -/
theorem of_within {s t : State} (h : Within (othersThan [.bell]) s t) : KeepsTime s t := of_bell (h.bell rfl)

theorem ite {s a b : State} {c : Prop} [Decidable c] (h : KeepsTime s a) (k : KeepsTime s b) : KeepsTime s (if c then a else b) := by
  split
  · exact h
  · exact k

theorem each {α : Type} {f : α → State → State} (h : ∀ a s, KeepsTime s (f a s)) (l : List α) (s : State) :
    KeepsTime s (Machine.each l f s) :=
  each_rel refl (fun _ _ _ => trans) l f h s

end KeepsTime

/-! Mode epochs (R78 to R82) do not move Bell time. -/

section
variable (s : State)

theorem State.modeCommit_keepsTime (w st : Nat) : KeepsTime s (s.modeCommit w st) := ⟨rfl, rfl, rfl, rfl⟩

theorem State.modeLag_keepsTime (u : Nat) : KeepsTime s (s.modeLag u) := ⟨rfl, rfl, rfl, rfl⟩

theorem State.modeSettle_keepsTime : KeepsTime s s.modeSettle := .of_within (State.modeSettle_in .refl rfl)

theorem State.assertEvent_keepsTime (n : Nat) : KeepsTime s (s.assertEvent n) := .of_within (State.assertEvent_in .refl rfl)

theorem State.reportUnit_keepsTime (u : Nat) : KeepsTime s (s.reportUnit u) := by
  have happly : KeepsTime s ((s.applyMode u).modBell fun b => { b with modeDone := u :: b.modeDone }) :=
    KeepsTime.trans (.of_within (State.applyMode_in .refl rfl)) ⟨rfl, rfl, rfl, rfl⟩
  exact .ite (.refl s) (happly.trans (State.modeSettle_keepsTime _))

theorem State.modeEngines_keepsTime : KeepsTime s s.modeEngines :=
  .each (fun e s => .ite (s.reportUnit_keepsTime e) (.refl s)) _ s

theorem State.modeAtOnce_keepsTime : KeepsTime s s.modeAtOnce := by
  unfold State.modeAtOnce
  extract_lets engines groups mode ecc
  have hgroups : KeepsTime engines groups := .each (fun g s => .ite (s.reportUnit_keepsTime _) (.refl s)) _ _
  have hmode : KeepsTime groups mode := .of_bell (State.put_bell ..)
  have hecc : KeepsTime mode ecc := .ite (.of_bell (State.modEcc_bell ..)) (mode.reportUnit_keepsTime 144)
  exact (((s.modeEngines_keepsTime.trans hgroups).trans hmode).trans hecc).trans (State.reportUnit_keepsTime _ _)

theorem State.modeFence_keepsTime (u : Nat) : KeepsTime s (s.modeFence u) := by
  unfold State.modeFence
  extract_lets noted
  have hnoted : KeepsTime s noted := (s.modeLag_keepsTime u).trans (.of_within (State.noteError_in .refl rfl))
  exact .ite (hnoted.trans ⟨rfl, rfl, rfl, rfl⟩) hnoted

theorem State.modeAging_keepsTime : KeepsTime s s.modeAging := by
  unfold State.modeAging
  extract_lets n aged late back fenced
  have haged : KeepsTime s aged := ⟨rfl, rfl, rfl, rfl⟩
  have hfenced : KeepsTime aged fenced := .each (fun u s => (s.modeFence_keepsTime u).trans (State.assertEvent_keepsTime _ _)) _ _
  have hback : KeepsTime fenced (fenced.modBell fun b => { b with rbPend := back }) := ⟨rfl, rfl, rfl, rfl⟩
  exact .ite (.refl s) (.ite haged (((haged.trans hfenced).trans hback).trans (State.modeSettle_keepsTime _)))

theorem State.modeBoundary_keepsTime : KeepsTime s s.modeBoundary := by
  unfold State.modeBoundary
  refine .ite ((s.modeCommit_keepsTime ..).trans (State.modeAtOnce_keepsTime _)) ?_
  split
  next w _ =>
    refine .ite ?_ s.modeAging_keepsTime
    extract_lets u
    have hu : KeepsTime s u := ⟨rfl, rfl, rfl, rfl⟩
    have hclear : KeepsTime u u.modeClearLag := .of_within (State.modeClearLag_in .refl rfl)
    exact ((hu.trans hclear).trans (State.modeCommit_keepsTime ..)).trans (State.modeAtOnce_keepsTime _)
  next => exact s.modeAging_keepsTime

end

/-! The power-up sequence (R73, R74) does not move Bell time. -/

section
variable (s : State)

theorem State.puEnd_keepsTime : KeepsTime s s.puEnd := by
  unfold State.puEnd
  split <;> exact ⟨rfl, rfl, rfl, rfl⟩

theorem State.puTurn_keepsTime : KeepsTime s s.puTurn := by
  have hpowers (f : Bell → Bell) (g : Nat) (hf : KeepsTime s (s.modBell f)) : KeepsTime s ((s.modBell f).enterPowering g) :=
    hf.trans (.of_within (State.enterPowering_in .refl rfl))
  unfold State.puTurn
  refine .ite (.refl s) (.ite ⟨rfl, rfl, rfl, rfl⟩ ?_)
  split
  next => exact KeepsTime.trans (.of_within (State.assertIf_in .refl rfl)) (State.puEnd_keepsTime _)
  next g rest _ =>
    extract_lets u
    have hu : KeepsTime s u := hpowers _ g ⟨rfl, rfl, rfl, rfl⟩
    exact .ite (hu.trans ((u.assertEvent_keepsTime 426).trans (State.puEnd_keepsTime _))) hu

theorem State.slotHooks_keepsTime (temps : List Int) : KeepsTime s (s.slotHooks temps) := by
  unfold State.slotHooks
  extract_lets fresh turned read paused
  have hturned : KeepsTime fresh turned := fresh.modeBoundary_keepsTime.trans (State.puTurn_keepsTime _)
  have hread : KeepsTime turned read := .of_within (State.readSensors_in .refl rfl)
  have hpaused : KeepsTime read paused := .of_bell (State.modPow_bell ..)
  have hrest : KeepsTime paused ((paused.issueResets.holdCheck).assertEvent 416) :=
    .of_within (State.assertEvent_in (State.holdCheck_in (State.issueResets_in .refl rfl) rfl) rfl)
  exact KeepsTime.trans (b := fresh) ⟨rfl, rfl, rfl, rfl⟩ (((hturned.trans hread).trans hpaused).trans hrest)

theorem State.slotHooks_pend (temps : List Int) : (s.slotHooks temps).on (EVT_SRC.PEND 416) = true :=
  State.assertEvent_pend (by decide) _

end

/-! Frame starts (R53, R58, R61). -/

section
variable (s : State)

theorem State.applyMask_keepsTime : KeepsTime s s.applyMask := ⟨rfl, rfl, rfl, rfl⟩

theorem State.leaveLocked_keepsTime (l : Nat) : KeepsTime s (s.leaveLocked l) := by
  unfold State.leaveLocked
  extract_lets u
  have hu : KeepsTime s (u.modBell fun b => { b with lastSlip := none }) := ⟨rfl, rfl, rfl, rfl⟩
  exact hu.trans (.of_bell (State.nextEpoch_bell _))

/-- The pending values that come into force are no part of Bell time. -/
theorem State.frameBell_keepsTime : KeepsTime s s.frameBell := by
  unfold State.frameBell
  extract_lets masked p swapped
  have hmasked : KeepsTime s masked := .ite s.applyMask_keepsTime (.refl s)
  have hswapped : KeepsTime s swapped := hmasked.trans ⟨rfl, rfl, rfl, rfl⟩
  refine .ite ?_ hmasked
  exact .ite (hswapped.trans (State.leaveLocked_keepsTime _ _)) (.ite (hswapped.trans ⟨rfl, rfl, rfl, rfl⟩) hswapped)

theorem State.frameHooks_keepsTime : KeepsTime s s.frameHooks := .of_within (State.frameHooks_in .refl rfl)

theorem State.frameHooks_pend : s.frameHooks.on (EVT_SRC.PEND 417) = true := State.assertEvent_pend (by decide) _

/-- Bell time after the end of slot 63 is that of the frame start. -/
theorem State.frameBoundary_keepsTime (temps : List Int) : KeepsTime s.startFrame (s.frameBoundary temps) :=
  ((State.frameBell_keepsTime _).trans (State.slotHooks_keepsTime _ temps)).trans (State.frameHooks_keepsTime _)

theorem State.startFrame_slot : s.startFrame.bell.slot = 0 ∧ s.startFrame.bell.phase = 0 := by
  unfold State.startFrame
  split
  · split
    · exact ⟨rfl, rfl⟩
    · rw [State.nextEpoch_bell]
      exact ⟨rfl, rfl⟩
  · exact ⟨rfl, rfl⟩

variable {s}

theorem State.startFrame_frame (h : s.bell.presetPend = none) : s.startFrame.bell.frame = (s.bell.frame + 1) % 2 ^ 40 := by
  rw [State.startFrame, h]
  rfl

theorem State.startFrame_preset {p : Nat} (h : s.bell.presetPend = some p) (hlock : s.lock = lockLocked ∨ s.lock = lockFree) :
    s.startFrame.bell.frame = p % 2 ^ 40 := by
  have hloop : ¬ (s.lock = lockAcquire ∨ s.lock = lockConfirm) := by
    rcases hlock with hlock | hlock <;> rw [hlock] <;> decide
  rw [State.startFrame, h]
  exact (congrArg (fun u : State => u.bell.frame) (if_neg hloop)).trans (congrArg Bell.frame (State.nextEpoch_bell _))

end

/-- The end of slot 63, from whichever command it comes. -/
theorem State.frameBoundary_effect (s : State) (temps : List Int) :
    (s.frameBoundary temps).bell.slot = 0 ∧ (s.frameBoundary temps).bell.phase = 0 ∧
      (s.bell.presetPend = none → (s.frameBoundary temps).bell.frame = (s.bell.frame + 1) % 2 ^ 40) ∧
      (∀ p, s.bell.presetPend = some p → s.lock = lockLocked ∨ s.lock = lockFree →
        (s.frameBoundary temps).bell.frame = p % 2 ^ 40) ∧
      (s.frameBoundary temps).on (EVT_SRC.PEND 417) = true := by
  have htime := s.frameBoundary_keepsTime temps
  obtain ⟨hslot, hphase⟩ := s.startFrame_slot
  exact ⟨htime.slot.trans hslot, htime.phase.trans hphase, fun hnone => htime.frame.trans (State.startFrame_frame hnone),
    fun p hsome hlock => htime.frame.trans (State.startFrame_preset hsome hlock), State.frameHooks_pend _⟩

section
variable {s : State}

theorem exec_slotBoundary_last (temps : List Int) (hruns : s.bellRuns = true) (hslot : s.bell.slot = 63) :
    exec (.slotBoundary temps) s = .next (s.frameBoundary temps) :=
  congrArg Host.Outcome.next (by simp [slotBoundary, hruns, hslot])

theorem exec_frameStart (hruns : s.bellRuns = true) (hslot : s.bell.slot = 63) :
    exec .frameStart s = .next (s.frameBoundary s.pow.temp) :=
  congrArg Host.Outcome.next (if_pos ⟨hruns, hslot⟩)

theorem slotBoundary_within_effect {temps : List Int} (hruns : s.bellRuns = true) (hslot : s.bell.slot < 63) :
    ∃ t, exec (.slotBoundary temps) s = .next t ∧ t.bell.slot = s.bell.slot + 1 ∧ t.bell.phase = 0 ∧ t.bell.cycles = 0 ∧
      t.bell.frame = s.bell.frame ∧ t.on (EVT_SRC.PEND 416) = true ∧ keepsMem s t := by
  have hexec : exec (.slotBoundary temps) s = .next ((s.modBell fun b =>
      { b with slot := (b.slot + 1) % 64, phase := 0, cycles := 0, corr := b.corrNext, corrNext := 0 }).slotHooks temps) :=
    congrArg Host.Outcome.next (by simp [slotBoundary, hruns, Nat.ne_of_lt hslot])
  have htime := State.slotHooks_keepsTime (s.modBell fun b =>
    { b with slot := (b.slot + 1) % 64, phase := 0, cycles := 0, corr := b.corrNext, corrNext := 0 }) temps
  exact ⟨_, hexec, htime.slot.trans (Nat.mod_eq_of_lt (by omega)), htime.phase, htime.cycles, htime.frame, State.slotHooks_pend _ temps,
    exec_keepsMem hexec⟩

end

/-- Settles O11: a beacon as a slot mark, and Bell time as the start of a slot or frame leaves it. -/
theorem bellTimeAdvances : Obligations.BellTimeAdvances := by
  unfold Obligations.BellTimeAdvances
  refine ⟨fun s d => plcaBeacon_effect, fun s temps => slotBoundary_within_effect, ?last, ?frame, ?wait⟩
  case last =>
    intro s temps hruns hslot
    have hexec := exec_slotBoundary_last temps hruns hslot
    obtain ⟨hslot', hphase, hframe, hpreset, hpend⟩ := s.frameBoundary_effect temps
    exact ⟨_, hexec, hslot', hphase, hframe, hpreset, hpend, exec_keepsMem hexec⟩
  case frame =>
    intro s hruns hslot
    have hexec := exec_frameStart hruns hslot
    obtain ⟨hslot', -, hframe, -, hpend⟩ := s.frameBoundary_effect s.pow.temp
    exact ⟨_, hexec, hslot', hframe, hpend, exec_keepsMem hexec⟩
  case wait =>
    intro s hactive
    exact ⟨s.modBell fun b => { b with puOpen := true }, congrArg Host.Outcome.next (if_pos hactive), rfl, onlyRegs_of_eq rfl rfl⟩

end Sys2Proof.Machine

/-! Proof of O12: the writes of BEL_CTRL (R53, R54, R62), BEL_BUDGET (R71) and BEL_MODE_CMD (R78, R83), which act in the state in which the
access arrives, and a unit's report of the mode epoch (R80). -/

namespace Sys2Proof.Machine

/-! What the values of the object dictionary rest on: its store, the part's identity and the node number (R551, R563). -/

section
variable {s t : State}

theorem State.dictDefaultNum_congr (hident : t.ident = s.ident) (hnode : t.fld MGT_STAT.NODE = s.fld MGT_STAT.NODE) (i k : Nat) :
    t.dictDefaultNum i k = s.dictDefaultNum i k := by
  simp only [State.dictDefaultNum, hident, hnode]

theorem State.dnum_congr (hdict : t.mgt.dict = s.mgt.dict) (hident : t.ident = s.ident)
    (hnode : t.fld MGT_STAT.NODE = s.fld MGT_STAT.NODE) (i k : Nat) : t.dnum i k = s.dnum i k := by
  have hdefault : t.dictDefault i k = s.dictDefault i k := by
    simp only [State.dictDefault, State.dictDefaultNum_congr hident hnode, State.dictDefaultBytes, hident]
  simp only [State.dnum, State.dstored, hdict, hdefault]

theorem State.coldNum_congr (hcold : t.mgt.nextCold = s.mgt.nextCold) (hident : t.ident = s.ident)
    (hnode : t.fld MGT_STAT.NODE = s.fld MGT_STAT.NODE) (i k : Nat) : t.coldNum i k = s.coldNum i k := by
  simp only [State.coldNum, State.dictDefaultNum_congr hident hnode, hcold]

theorem State.effSrc_congr (hcold : t.mgt.nextCold = s.mgt.nextCold) (hident : t.ident = s.ident)
    (hnode : t.fld MGT_STAT.NODE = s.fld MGT_STAT.NODE) (src : Nat) : t.effSrc src = s.effSrc src := by
  simp only [State.effSrc, State.coldNum_congr hcold hident hnode, hnode]

theorem Quiet.maxNominal (h : Quiet s t) : t.maxNominal = s.maxNominal := by
  simp only [State.maxNominal, State.dnum_congr h.dict h.ident (h.fld MGT_STAT.NODE (by decide))]

theorem Quiet.effSrc (h : Quiet s t) (src : Nat) : t.effSrc src = s.effSrc src :=
  have hcold : t.mgt.nextCold = s.mgt.nextCold := (congrArg (fun x => x.mgt.nextCold) h.rest :)
  State.effSrc_congr hcold h.ident (h.fld MGT_STAT.NODE (by decide)) src

end

/-! The end of loopbacks (R625). -/

theorem State.endLoops_onlyRegs (r : Nat) (p : Nat × Nat × Nat → Bool) (s : State) : onlyRegs loopFields s (s.endLoops r p) := by
  refine each_rel (R := onlyRegs loopFields) (fun s => onlyRegs_of_eq rfl rfl) (fun _ _ _ => onlyRegs.trans) _ _ (fun k s => ?_) s
  have hstate : TST_LBSTAT.STATE k ∈ loopFields := by
    refine List.mem_flatMap.2 ⟨k % 4, List.mem_range.2 (Nat.mod_lt _ (by decide)), ?_⟩
    simp [TST_LBSTAT.STATE]
  have hreason : TST_LBSTAT.REASON k ∈ loopFields := by
    refine List.mem_flatMap.2 ⟨k % 4, List.mem_range.2 (Nat.mod_lt _ (by decide)), ?_⟩
    simp [TST_LBSTAT.REASON]
  split
  next =>
    split
    · exact ((onlyRegs_of_eq rfl rfl).trans (onlyRegs_setFld _ 3 hstate)).trans (onlyRegs_setFld _ r hreason)
    · exact onlyRegs_of_eq rfl rfl
  next => exact onlyRegs_of_eq rfl rfl

theorem State.endNetLoops_keepsRegs (s : State) : keepsRegs loopFields s s.endNetLoops :=
  keepsRegs_of_onlyRegs (State.endLoops_onlyRegs ..)

/-- The end of loopbacks changes no register of the Bell. -/
theorem State.endNetLoops_bel {g : Fld} (s : State) (h : partOfKey g.key = 1) : s.endNetLoops.fld g = s.fld g := by
  have hwithin : Within (parts [.regTst, .tst]) s s.endNetLoops := State.endNetLoops_in .refl rfl
  exact hwithin.regs g (by rw [h]; rfl)

/-! BEL_CTRL (R53, R54, R62). -/

/-- What a write of BEL_CTRL changes. -/
def ctrlFields : List Fld :=
  [BEL_CTRL.SRC, BEL_CTRL.PERIOD, BEL_STAT.LOCK, BEL_STAT.FALLBACK, BEL_STAT.DEGRADED, BEL_STAT.EPOCH, BEL_ERRCNT.LOSSES] ++ loopFields

theorem Fld.of_lt (f : Fld) (v : Nat) : f.of v < 2 ^ f.w := Nat.mod_lt _ (Nat.two_pow_pos _)

/-- A field written with its bits of a word reads those bits. -/
theorem State.fld_setFld_of (s : State) (f : Fld) (v : Nat) : (s.setFld f (f.of v)).fld f = f.of v :=
  (State.fld_setFld ..).trans (Nat.mod_eq_of_lt (f.of_lt v))

section
variable (s : State) (l p : Nat)

theorem State.relockTo_keepsRegs : keepsRegs lossFields s (s.relockTo l) := by
  unfold State.relockTo
  split
  · exact s.leaveLocked_keepsRegs l
  · exact keepsRegs_setFld s _ l (.head _)

theorem State.relockTo_lock (h : l < 8) : (s.relockTo l).lock = l := by
  unfold State.relockTo
  split
  · exact s.leaveLocked_lock l h
  · exact s.toLock_lock h

theorem State.relockTo_epoch : (s.relockTo l).fld BEL_STAT.EPOCH =
    if s.locked then (s.fld BEL_STAT.EPOCH + 1) % 256 else s.fld BEL_STAT.EPOCH := by
  unfold State.relockTo
  split
  · exact s.leaveLocked_epoch l
  · exact s.toLock_ne l (by decide)

theorem State.writePeriod_keepsRegs : keepsRegs [BEL_CTRL.PERIOD] s (s.writePeriod p) := by
  unfold State.writePeriod
  split
  · exact keepsRegs_setFld s _ p (.head _)
  · exact keepsRegs_of_regs rfl

theorem State.writePeriod_period :
    (s.writePeriod p).fld BEL_CTRL.PERIOD = if 250 ≤ p ∧ p ≤ 2000 then p else s.fld BEL_CTRL.PERIOD := by
  unfold State.writePeriod
  split
  next h => exact (State.fld_setFld ..).trans (Nat.mod_eq_of_lt (by simp only [BEL_CTRL.PERIOD]; omega))
  next => rfl

theorem State.writePeriod_rest : (s.writePeriod p).mgt = s.mgt ∧ (s.writePeriod p).ident = s.ident := by
  unfold State.writePeriod
  split <;> exact ⟨rfl, rfl⟩

end

/-- The fields of BEL_CTRL stand in the Bell's block, apart from what events and a loss of the Bell write. -/
theorem ctrlWord_fields : ∀ g ∈ [BEL_CTRL.SRC, BEL_CTRL.PERIOD],
    partOfKey g.key = 1 ∧ eventKey g.key = false ∧ ∀ f ∈ lossFields, g.key ≠ f.key := by
  decide

/-- The state in which a write of BEL_CTRL looks at the effective source. -/
def State.setCtrl (v : Nat) (s : State) : State := (s.writePeriod (BEL_CTRL.PERIOD.of v)).setFld BEL_CTRL.SRC (BEL_CTRL.SRC.of v)

section
variable (v : Nat) (s : State)

theorem State.setCtrl_keepsRegs : keepsRegs [BEL_CTRL.SRC, BEL_CTRL.PERIOD] s (s.setCtrl v) :=
  ((s.writePeriod_keepsRegs _).mono (by simp)).trans (keepsRegs_setFld _ _ _ (.head _))

theorem State.setCtrl_src : (s.setCtrl v).fld BEL_CTRL.SRC = BEL_CTRL.SRC.of v := State.fld_setFld_of ..

theorem State.setCtrl_period : (s.setCtrl v).fld BEL_CTRL.PERIOD =
    if 250 ≤ BEL_CTRL.PERIOD.of v ∧ BEL_CTRL.PERIOD.of v ≤ 2000 then BEL_CTRL.PERIOD.of v else s.fld BEL_CTRL.PERIOD :=
  (State.fld_setFld_ne _ _ _ _ (by decide)).trans (s.writePeriod_period _)

theorem State.setCtrl_effSrc (src : Nat) : (s.setCtrl v).effSrc src = s.effSrc src := by
  obtain ⟨hmgt, hident⟩ := s.writePeriod_rest (BEL_CTRL.PERIOD.of v)
  exact State.effSrc_congr (t := s.setCtrl v) (congrArg Mgt.nextCold hmgt) hident (s.setCtrl_keepsRegs v _ (by decide) (by decide)) src

theorem State.setCtrl_bellSrc : (s.setCtrl v).bellSrc = s.effSrc (BEL_CTRL.SRC.of v) := by
  rw [State.bellSrc, State.setCtrl_src, State.setCtrl_effSrc]

theorem State.writePeriod_bellSrc : (s.writePeriod (BEL_CTRL.PERIOD.of v)).bellSrc = s.bellSrc := by
  obtain ⟨hmgt, hident⟩ := s.writePeriod_rest (BEL_CTRL.PERIOD.of v)
  have hkeeps := s.writePeriod_keepsRegs (BEL_CTRL.PERIOD.of v)
  rw [State.bellSrc, hkeeps _ (by decide) (by decide)]
  exact State.effSrc_congr (congrArg Mgt.nextCold hmgt) hident (hkeeps _ (by decide) (by decide)) _

variable {v s}

theorem State.writeBelCtrl_same (h : s.effSrc (BEL_CTRL.SRC.of v) = s.bellSrc) : s.writeBelCtrl v = (s.setCtrl v).endNetLoops := by
  refine congrArg State.endNetLoops (if_pos ?_)
  rw [State.writePeriod_bellSrc, ← h]
  exact s.setCtrl_bellSrc v

theorem State.writeBelCtrl_changed (h : s.effSrc (BEL_CTRL.SRC.of v) ≠ s.bellSrc) : s.writeBelCtrl v =
    ((s.setCtrl v).relockTo (if s.effSrc (BEL_CTRL.SRC.of v) = 2 then lockFree else lockAcquire)).endNetLoops := by
  have hsrc := s.setCtrl_bellSrc v
  rw [← hsrc]
  refine congrArg State.endNetLoops (if_neg ?_)
  rw [State.writePeriod_bellSrc]
  exact fun heq => h (hsrc.symm.trans heq)

end

/-- The state before the loopbacks end. -/
theorem State.writeBelCtrl_eq (v : Nat) (s : State) : ∃ u, s.writeBelCtrl v = u.endNetLoops ∧ keepsRegs lossFields (s.setCtrl v) u := by
  by_cases h : s.effSrc (BEL_CTRL.SRC.of v) = s.bellSrc
  · exact ⟨_, State.writeBelCtrl_same h, keepsRegs_of_regs rfl⟩
  · exact ⟨_, State.writeBelCtrl_changed h, State.relockTo_keepsRegs _ _⟩

section
variable (v : Nat) (s : State)

theorem State.writeBelCtrl_keepsRegs : keepsRegs ctrlFields s (s.writeBelCtrl v) := by
  obtain ⟨u, hu, hkeeps⟩ := s.writeBelCtrl_eq v
  rw [hu]
  exact (((s.setCtrl_keepsRegs v).mono (by decide)).trans (hkeeps.mono (by decide))).trans
    (u.endNetLoops_keepsRegs.mono fun f hf => List.mem_append_right _ hf)

/-- SRC and PERIOD stand as the write has set them. -/
theorem State.writeBelCtrl_ctrl {g : Fld} (hg : g ∈ [BEL_CTRL.SRC, BEL_CTRL.PERIOD]) :
    (s.writeBelCtrl v).fld g = (s.setCtrl v).fld g := by
  obtain ⟨hpart, hquiet, hloss⟩ := ctrlWord_fields g hg
  obtain ⟨u, hu, hkeeps⟩ := s.writeBelCtrl_eq v
  rw [hu, State.endNetLoops_bel _ hpart, hkeeps g hquiet hloss]

variable {v s}

theorem State.writeBelCtrl_same_loop (h : s.effSrc (BEL_CTRL.SRC.of v) = s.bellSrc) :
    (s.writeBelCtrl v).lock = s.lock ∧ (s.writeBelCtrl v).fld BEL_STAT.EPOCH = s.fld BEL_STAT.EPOCH := by
  rw [State.writeBelCtrl_same h, State.lock, State.endNetLoops_bel _ BEL_STAT.LOCK_part, State.endNetLoops_bel _ BEL_STAT.EPOCH_part]
  exact ⟨s.setCtrl_keepsRegs v _ (by decide) (by decide), s.setCtrl_keepsRegs v _ (by decide) (by decide)⟩

theorem State.writeBelCtrl_changed_loop (h : s.effSrc (BEL_CTRL.SRC.of v) ≠ s.bellSrc) :
    (s.writeBelCtrl v).lock = (if s.effSrc (BEL_CTRL.SRC.of v) = 2 then lockFree else lockAcquire) ∧
      (s.writeBelCtrl v).fld BEL_STAT.EPOCH = if s.locked then (s.fld BEL_STAT.EPOCH + 1) % 256 else s.fld BEL_STAT.EPOCH := by
  have hlock : (s.setCtrl v).lock = s.lock := s.setCtrl_keepsRegs v _ (by decide) (by decide)
  have hepoch : (s.setCtrl v).fld BEL_STAT.EPOCH = s.fld BEL_STAT.EPOCH := s.setCtrl_keepsRegs v _ (by decide) (by decide)
  rw [State.writeBelCtrl_changed h, State.lock, State.endNetLoops_bel _ BEL_STAT.LOCK_part, State.endNetLoops_bel _ BEL_STAT.EPOCH_part,
    State.relockTo_epoch, State.locked, hlock, hepoch]
  exact ⟨State.relockTo_lock _ _ (by split <;> decide), rfl⟩

end

theorem belCtrlWrite_effect {s : State} {m v : Nat} (h : s.reaches m BEL_CTRL.SRC.addr) :
    ∃ t, exec (.belCtrlWrite m v) s = .next t ∧ t.fld BEL_CTRL.SRC = BEL_CTRL.SRC.of v ∧
      t.fld BEL_CTRL.PERIOD =
        (if 250 ≤ BEL_CTRL.PERIOD.of v ∧ BEL_CTRL.PERIOD.of v ≤ 2000 then BEL_CTRL.PERIOD.of v else s.fld BEL_CTRL.PERIOD) ∧
      (s.effSrc (BEL_CTRL.SRC.of v) = s.bellSrc → t.lock = s.lock ∧ t.fld BEL_STAT.EPOCH = s.fld BEL_STAT.EPOCH) ∧
      (s.effSrc (BEL_CTRL.SRC.of v) ≠ s.bellSrc →
        t.lock = (if s.effSrc (BEL_CTRL.SRC.of v) = 2 then lockFree else lockAcquire) ∧
        t.fld BEL_STAT.EPOCH = (if s.locked then (s.fld BEL_STAT.EPOCH + 1) % 256 else s.fld BEL_STAT.EPOCH)) ∧
      keepsRegs ctrlFields s t ∧ keepsMem s t := by
  have hexec : exec (.belCtrlWrite m v) s = .next ((s.arrive m BEL_CTRL.SRC.addr).writeBelCtrl v) :=
    congrArg Host.Outcome.next (State.access_reaches h _)
  have hq := s.arrive_quiet m BEL_CTRL.SRC.addr
  have hmem := exec_keepsMem hexec
  generalize s.arrive m BEL_CTRL.SRC.addr = u at hexec hq hmem
  have hlock : u.lock = s.lock := hq.fld _ (by decide)
  have hsrc : u.bellSrc = s.bellSrc := by rw [State.bellSrc, hq.effSrc, hq.fld _ (by decide), State.bellSrc]
  refine ⟨_, hexec, ?_, ?_, fun hsame => ?_, fun hchanged => ?_, (hq.keepsRegs _).trans (State.writeBelCtrl_keepsRegs _ _), hmem⟩
  · rw [State.writeBelCtrl_ctrl _ _ (by decide), State.setCtrl_src]
  · rw [State.writeBelCtrl_ctrl _ _ (by decide), State.setCtrl_period, hq.fld _ (by decide)]
  · rw [← hlock, ← hq.fld BEL_STAT.EPOCH (by decide)]
    exact State.writeBelCtrl_same_loop (by rw [hq.effSrc, hsrc, hsame])
  · rw [← hq.effSrc, State.locked, ← hlock, ← hq.fld BEL_STAT.EPOCH (by decide)]
    exact State.writeBelCtrl_changed_loop (by rwa [hq.effSrc, hsrc])

/-! BEL_BUDGET (R64, R71). -/

section
variable {s : State} {v : Nat}

/-- A budget that meets R71, pending a frame start. -/
def State.setBudget (v : Nat) (s : State) : State :=
  ((s.setFld BEL_BUDGET.BUDGET (BEL_BUDGET.BUDGET.of v)).setFld BEL_BUDGET.RESERVE (BEL_BUDGET.RESERVE.of v)).put BEL_STAT.MASK_PEND true

theorem State.writeBelBudget_taken (h : budgetOk (BEL_BUDGET.BUDGET.of v) (BEL_BUDGET.RESERVE.of v) s.maxNominal = true) :
    s.writeBelBudget v = s.setBudget v := by
  rw [State.writeBelBudget, State.writeBudget, if_pos h, State.setBudget]

theorem State.writeBelBudget_refused (h : budgetOk (BEL_BUDGET.BUDGET.of v) (BEL_BUDGET.RESERVE.of v) s.maxNominal = false) :
    s.writeBelBudget v = s.assertEvent 425 := by
  rw [State.writeBelBudget, State.writeBudget, if_neg (ne_true_of_eq_false h)]

theorem State.setBudget_fields (v : Nat) (s : State) : (s.setBudget v).fld BEL_BUDGET.BUDGET = BEL_BUDGET.BUDGET.of v ∧
    (s.setBudget v).fld BEL_BUDGET.RESERVE = BEL_BUDGET.RESERVE.of v ∧ (s.setBudget v).on BEL_STAT.MASK_PEND = true := by
  refine ⟨?_, ?_, State.on_put _ _ _ (by decide)⟩
  · rw [State.setBudget, State.fld_put_ne _ _ _ _ (by decide), State.fld_setFld_ne _ _ _ _ (by decide), State.fld_setFld_of]
  · rw [State.setBudget, State.fld_put_ne _ _ _ _ (by decide), State.fld_setFld_of]

theorem State.setBudget_keepsRegs (v : Nat) (s : State) :
    keepsRegs [BEL_BUDGET.BUDGET, BEL_BUDGET.RESERVE, BEL_STAT.MASK_PEND] s (s.setBudget v) :=
  ((keepsRegs_setFld _ _ _ (by decide)).trans (keepsRegs_setFld _ _ _ (by decide))).trans (keepsRegs_setFld _ _ _ (by decide))

theorem exec_belBudgetWrite {m : Nat} (v : Nat) (h : s.reaches m BEL_BUDGET.BUDGET.addr) :
    exec (.belBudgetWrite m v) s = .next ((s.arrive m BEL_BUDGET.BUDGET.addr).writeBelBudget v) :=
  congrArg Host.Outcome.next (State.access_reaches h _)

theorem belBudgetWrite_taken_effect {m : Nat} (h : s.reaches m BEL_BUDGET.BUDGET.addr)
    (hok : budgetOk (BEL_BUDGET.BUDGET.of v) (BEL_BUDGET.RESERVE.of v) s.maxNominal = true) :
    ∃ t, exec (.belBudgetWrite m v) s = .next t ∧ t.fld BEL_BUDGET.BUDGET = BEL_BUDGET.BUDGET.of v ∧
      t.fld BEL_BUDGET.RESERVE = BEL_BUDGET.RESERVE.of v ∧ t.on BEL_STAT.MASK_PEND = true ∧ t.bell = s.bell ∧
      keepsRegs [BEL_BUDGET.BUDGET, BEL_BUDGET.RESERVE, BEL_STAT.MASK_PEND] s t ∧ keepsMem s t := by
  have hq := s.arrive_quiet m BEL_BUDGET.BUDGET.addr
  have hexec := exec_belBudgetWrite v h
  rw [← hq.maxNominal] at hok
  rw [State.writeBelBudget_taken hok] at hexec
  obtain ⟨hbudget, hreserve, hpend⟩ := (s.arrive m BEL_BUDGET.BUDGET.addr).setBudget_fields v
  exact ⟨_, hexec, hbudget, hreserve, hpend, hq.bell, (hq.keepsRegs _).trans (State.setBudget_keepsRegs _ _), exec_keepsMem hexec⟩

theorem belBudgetWrite_refused_effect {m : Nat} (h : s.reaches m BEL_BUDGET.BUDGET.addr)
    (hbad : budgetOk (BEL_BUDGET.BUDGET.of v) (BEL_BUDGET.RESERVE.of v) s.maxNominal = false) :
    ∃ t, exec (.belBudgetWrite m v) s = .next t ∧ t.on (EVT_SRC.PEND 425) = true ∧ keepsRegs [] s t ∧ keepsMem s t := by
  have hq := s.arrive_quiet m BEL_BUDGET.BUDGET.addr
  have hexec := exec_belBudgetWrite v h
  rw [← hq.maxNominal] at hbad
  rw [State.writeBelBudget_refused hbad] at hexec
  exact ⟨_, hexec, State.assertEvent_pend (by decide) _, (hq.trans (State.assertEvent_quiet (by decide) _)).keepsRegs [],
    exec_keepsMem hexec⟩

end

/-! BEL_MODE_CMD (R78, R83). -/

/-- A write of BEL_MODE_CMD stores its operands, whatever becomes of GO. -/
def State.setModeCmd (v : Nat) (s : State) : State :=
  ((s.setFld BEL_MODE_CMD.ROLLBACK (BEL_MODE_CMD.ROLLBACK.of v)).setFld BEL_MODE_CMD.ANY (BEL_MODE_CMD.ANY.of v)).setFld
    BEL_MODE_CMD.AT_SLOT (BEL_MODE_CMD.AT_SLOT.of v)

/-- The request a GO captures. -/
def State.captureMode (v : Nat) (s : State) : State :=
  (s.modBell fun b => { b with modePend := some (s.fld BEL_MODE_STAGE.WORD), modeAt := BEL_MODE_CMD.AT_SLOT.of v,
                               modeAny := BEL_MODE_CMD.ANY.of v == 1, modeRb := BEL_MODE_CMD.ROLLBACK.of v == 1 }).put
    BEL_MODE_STAT.PENDING true

/-- What a write of BEL_MODE_CMD changes. -/
def modeCmdFields : List Fld :=
  [BEL_MODE_CMD.ROLLBACK, BEL_MODE_CMD.ANY, BEL_MODE_CMD.AT_SLOT, BEL_MODE_STAT.PENDING, BEL_MODE_STAT.REJECTED]

section
variable (v : Nat) (s : State)

theorem State.setModeCmd_keepsRegs : keepsRegs [BEL_MODE_CMD.ROLLBACK, BEL_MODE_CMD.ANY, BEL_MODE_CMD.AT_SLOT] s (s.setModeCmd v) :=
  ((keepsRegs_setFld _ _ _ (by decide)).trans (keepsRegs_setFld _ _ _ (by decide))).trans (keepsRegs_setFld _ _ _ (by decide))

theorem State.modeCommand_go (hgo : BEL_MODE_CMD.GO.of v = 1) (hdump : s.hld.committed = false) : s.modeCommand v =
    if s.fld BEL_MODE_STAT.STATE ≠ modeStable ∨ s.on BEL_MODE_STAT.PENDING = true then (s.setModeCmd v).put BEL_MODE_STAT.REJECTED true
    else (s.setModeCmd v).captureMode v := by
  have hstate : (s.setModeCmd v).fld BEL_MODE_STAT.STATE = s.fld BEL_MODE_STAT.STATE :=
    s.setModeCmd_keepsRegs v _ (by decide) (by decide)
  have hpend : (s.setModeCmd v).fld BEL_MODE_STAT.PENDING = s.fld BEL_MODE_STAT.PENDING :=
    s.setModeCmd_keepsRegs v _ (by decide) (by decide)
  have hheld : (s.setModeCmd v).hld.committed = false := hdump
  have hbusy : ((s.setModeCmd v).fld BEL_MODE_STAT.STATE ≠ modeStable ∨ (s.setModeCmd v).on BEL_MODE_STAT.PENDING = true ∨
      (s.setModeCmd v).hld.committed = true) ↔ (s.fld BEL_MODE_STAT.STATE ≠ modeStable ∨ s.on BEL_MODE_STAT.PENDING = true) := by
    simp [State.on, hstate, hpend, hheld]
  exact (if_neg (by omega)).trans (ite_congr (propext hbusy) (fun _ => rfl) fun _ => rfl)

variable {v s}

theorem State.modeCommand_captured (hgo : BEL_MODE_CMD.GO.of v = 1) (hdump : s.hld.committed = false)
    (hstate : s.fld BEL_MODE_STAT.STATE = modeStable) (hpend : s.on BEL_MODE_STAT.PENDING = false) :
    s.modeCommand v = (s.setModeCmd v).captureMode v := by
  rw [State.modeCommand_go v s hgo hdump, if_neg (by simp [hstate, hpend])]

theorem State.modeCommand_rejected (hgo : BEL_MODE_CMD.GO.of v = 1) (hdump : s.hld.committed = false)
    (hbusy : s.fld BEL_MODE_STAT.STATE ≠ modeStable ∨ s.on BEL_MODE_STAT.PENDING = true) :
    s.modeCommand v = (s.setModeCmd v).put BEL_MODE_STAT.REJECTED true := by
  rw [State.modeCommand_go v s hgo hdump, if_pos hbusy]

theorem State.modeCommand_keepsRegs (hgo : BEL_MODE_CMD.GO.of v = 1) (hdump : s.hld.committed = false) :
    keepsRegs modeCmdFields s (s.modeCommand v) := by
  have hset : keepsRegs modeCmdFields s (s.setModeCmd v) := (s.setModeCmd_keepsRegs v).mono (by decide)
  rw [State.modeCommand_go v s hgo hdump]
  split
  · exact hset.trans (keepsRegs_setFld _ _ _ (by decide))
  · exact (hset.trans (keepsRegs_of_regs rfl)).trans (keepsRegs_setFld _ _ _ (by decide))

end

theorem modeCommitRequest_effect {s : State} {m v : Nat} (h : s.reaches m BEL_MODE_CMD.GO.addr) (hgo : BEL_MODE_CMD.GO.of v = 1)
    (hdump : s.hld.committed = false) :
    ∃ t, exec (.modeCommitRequest m v) s = .next t ∧
      (s.fld BEL_MODE_STAT.STATE = modeStable → s.on BEL_MODE_STAT.PENDING = false →
        t.on BEL_MODE_STAT.PENDING = true ∧ t.bell.modePend = some (s.fld BEL_MODE_STAGE.WORD) ∧
          t.bell.modeAt = BEL_MODE_CMD.AT_SLOT.of v) ∧
      (s.fld BEL_MODE_STAT.STATE ≠ modeStable ∨ s.on BEL_MODE_STAT.PENDING = true →
        t.on BEL_MODE_STAT.REJECTED = true ∧ t.bell = s.bell) ∧
      t.fld BEL_MODE_STAT.EPOCH = s.fld BEL_MODE_STAT.EPOCH ∧ t.fld BEL_MODE_STAGE.WORD = s.fld BEL_MODE_STAGE.WORD ∧
      keepsRegs modeCmdFields s t ∧ keepsMem s t := by
  have hexec : exec (.modeCommitRequest m v) s = .next ((s.arrive m BEL_MODE_CMD.GO.addr).modeCommand v) :=
    congrArg Host.Outcome.next (State.access_reaches h _)
  have hq := s.arrive_quiet m BEL_MODE_CMD.GO.addr
  have hmem := exec_keepsMem hexec
  generalize s.arrive m BEL_MODE_CMD.GO.addr = u at hexec hq hmem
  have hheld : u.hld.committed = false := by rw [hq.hld, hdump]
  have hkeeps : keepsRegs modeCmdFields s (u.modeCommand v) := (hq.keepsRegs _).trans (State.modeCommand_keepsRegs hgo hheld)
  refine ⟨_, hexec, fun hstate hpend => ?_, fun hbusy => ?_, hkeeps _ (by decide) (by decide), hkeeps _ (by decide) (by decide), hkeeps,
    hmem⟩
  · rw [← hq.fld _ (by decide)] at hstate
    rw [← hq.on _ (by decide)] at hpend
    have hword : (u.setModeCmd v).fld BEL_MODE_STAGE.WORD = s.fld BEL_MODE_STAGE.WORD :=
      (u.setModeCmd_keepsRegs v _ (by decide) (by decide)).trans (hq.fld _ (by decide))
    rw [State.modeCommand_captured hgo hheld hstate hpend]
    exact ⟨State.on_put _ _ _ (by decide), congrArg some hword, rfl⟩
  · rw [← hq.fld _ (by decide), ← hq.on _ (by decide)] at hbusy
    rw [State.modeCommand_rejected hgo hheld hbusy]
    exact ⟨State.on_put _ _ _ (by decide), hq.bell⟩

/-! A unit's report of the mode epoch (R80). -/

theorem State.mem_modeLate {s : State} {u : Nat} :
    u ∈ s.modeLate ↔ u < modeUnits ∧ u ∉ s.bell.modeDone ∧ u ∉ s.bell.modeFenced := by
  simp [State.modeLate]

/-- The report of Drift engine `u` as it is noted. -/
def State.noteEngineReport (u : Nat) (s : State) : State :=
  (s.setFld (DRF_STAT.EPOCH u) (s.fld BEL_MODE_STAT.EPOCH)).modBell fun b => { b with modeDone := u :: b.modeDone }

theorem State.reportUnit_engine {s : State} {u : Nat} (hu : u < 128) (hstate : s.fld BEL_MODE_STAT.STATE = modeMixed)
    (hlate : u ∈ s.modeLate) : s.reportUnit u = (s.noteEngineReport u).modeSettle := by
  obtain ⟨-, hdone, hfenced⟩ := State.mem_modeLate.1 hlate
  have happly : s.applyMode u = s.setFld (DRF_STAT.EPOCH u) (s.fld BEL_MODE_STAT.EPOCH) := if_pos hu
  rw [State.reportUnit, if_neg (by simp [hstate, modeMixed, modeStable, hdone, hfenced]), happly]
  rfl

/-- Once the last late unit has reported, none is late. -/
theorem State.noteEngineReport_modeLate {s : State} {u : Nat} (h : s.modeLate = [u]) : (s.noteEngineReport u).modeLate = [] := by
  rw [List.eq_nil_iff_forall_not_mem]
  intro x hx
  obtain ⟨hunit, hdone, hfenced⟩ := State.mem_modeLate.1 hx
  have hnot : ¬ (x = u ∨ x ∈ s.bell.modeDone) := fun hmem => hdone (List.mem_cons.2 hmem)
  obtain ⟨hne, hold⟩ := not_or.1 hnot
  have hlate : x ∈ s.modeLate := State.mem_modeLate.2 ⟨hunit, hold, hfenced⟩
  rw [h] at hlate
  exact hne (List.mem_singleton.1 hlate)

theorem State.modeSettle_mixed {s : State} (hrb : s.bell.rbPend = false) (hlate : s.modeLate = [])
    (hstate : s.fld BEL_MODE_STAT.STATE = modeMixed) : s.modeSettle = (s.setFld BEL_MODE_STAT.STATE modeStable).assertEvent 422 := by
  rw [State.modeSettle, if_neg (by simp [hrb, hlate]), if_pos hstate]

/-- The engines' registers stand outside the Bell's block. -/
theorem engineEpoch_ne {g : Fld} (u : Nat) (h : partOfKey g.key = 1) : g.key ≠ (DRF_STAT.EPOCH u).key := by
  intro heq
  rw [heq, DRF_STAT.EPOCH_part] at h
  exact absurd h (by decide)

theorem unitEpochReport_effect {s : State} {u : Nat} (hu : u < 128) (hstate : s.fld BEL_MODE_STAT.STATE = modeMixed)
    (hrb : s.bell.rbPend = false) (hlate : s.modeLate = [u]) :
    ∃ t, exec (.unitEpochReport u) s = .next t ∧ t.fld BEL_MODE_STAT.STATE = modeStable ∧ t.on (EVT_SRC.PEND 422) = true ∧
      t.fld (DRF_STAT.EPOCH u) = s.fld BEL_MODE_STAT.EPOCH % 65536 ∧ keepsRegs [BEL_MODE_STAT.STATE, DRF_STAT.EPOCH u] s t ∧
      keepsMem s t := by
  have hnoted : (s.noteEngineReport u).fld BEL_MODE_STAT.STATE = modeMixed :=
    (State.fld_setFld_ne _ _ _ _ (engineEpoch_ne u BEL_MODE_STAT.STATE_part)).trans hstate
  have hexec : exec (.unitEpochReport u) s =
      .next (((s.noteEngineReport u).setFld BEL_MODE_STAT.STATE modeStable).assertEvent 422) := by
    rw [← State.modeSettle_mixed (s := s.noteEngineReport u) hrb (State.noteEngineReport_modeLate hlate) hnoted,
      ← State.reportUnit_engine hu hstate (by rw [hlate]; exact .head _)]
    exact congrArg Host.Outcome.next (if_pos (by unfold modeUnits; omega))
  have hq := State.assertEvent_quiet (n := 422) (by decide) ((s.noteEngineReport u).setFld BEL_MODE_STAT.STATE modeStable)
  have hquiet : eventKey (DRF_STAT.EPOCH u).key = false := by
    refine decide_eq_false ?_
    simp only [DRF_STAT.EPOCH, Fld.key]
    omega
  refine ⟨_, hexec, (hq.fld _ (by decide)).trans (State.fld_setFld ..), State.assertEvent_pend (by decide) _, ?_, ?_,
    exec_keepsMem hexec⟩
  · rw [hq.fld _ hquiet, State.fld_setFld_ne _ _ _ _ (engineEpoch_ne u BEL_MODE_STAT.STATE_part).symm]
    exact State.fld_setFld ..
  · have hreport : keepsRegs [BEL_MODE_STAT.STATE, DRF_STAT.EPOCH u] s (s.noteEngineReport u) :=
      keepsRegs_setFld s _ _ (.tail _ (.head _))
    exact (hreport.trans (keepsRegs_setFld _ _ _ (.head _))).trans (hq.keepsRegs _)

/-- Settles O12: each write in the state in which its access arrives, and the report of the last late unit. -/
theorem bellRegisterWrites : Obligations.BellRegisterWrites := by
  unfold Obligations.BellRegisterWrites
  exact ⟨fun s m v => belCtrlWrite_effect, fun s m v h => ⟨belBudgetWrite_taken_effect h, belBudgetWrite_refused_effect h⟩,
    fun s m v => modeCommitRequest_effect, fun s u => unitEpochReport_effect⟩

end Sys2Proof.Machine

/-! Proof of O21: the mailbox of a function (R176 to R179). Each operation changes the record of its own function and raises at most one
event; an outbound post also sends the function's MSI-X message. -/

namespace Sys2Proof.Machine

/-! What an operation on one function's record leaves. -/

/-- The records of the other functions, the registers that no event changes and all of memory are as before. -/
def FnOnly (f : Nat) (s t : State) : Prop := (∀ g, g ≠ f → t.fn g = s.fn g) ∧ keepsRegs [] s t ∧ keepsMem s t

theorem FnOnly.trans {f : Nat} {a b c : State} (h : FnOnly f a b) (k : FnOnly f b c) : FnOnly f a c :=
  ⟨fun g hg => (k.1 g hg).trans (h.1 g hg), h.2.1.trans k.2.1, h.2.2.trans k.2.2⟩

theorem State.modFn_fnOnly (f : Nat) (g : Fn → Fn) (s : State) : FnOnly f s (s.modFn f g) :=
  ⟨fun _ h => State.fn_modFn_ne g s h, keepsRegs_of_regs rfl, fun _ => rfl⟩

theorem Quiet.fn {s t : State} (h : Quiet s t) (f : Nat) : t.fn f = s.fn f := State.fn_of_hfe h.hfe f

theorem Quiet.fnOnly {s t : State} (h : Quiet s t) (f : Nat) : FnOnly f s t :=
  ⟨fun g _ => h.fn g, h.keepsRegs [], h.keepsMem⟩

/-! A change of a function's record that raises an event. -/

section
variable (f n : Nat) (g : Fn → Fn) (s : State)

theorem State.modFn_assertEvent_fn (hn : n < 512) : ((s.modFn f g).assertEvent n).fn f = g (s.fn f) :=
  ((State.assertEvent_quiet hn _).fn f).trans (State.fn_modFn_self f g s)

theorem State.modFn_assertEvent_fnOnly (hn : n < 512) : FnOnly f s ((s.modFn f g).assertEvent n) :=
  (s.modFn_fnOnly f g).trans ((State.assertEvent_quiet hn _).fnOnly f)

end

/-! The inbound message (R177). -/

/-- A table written at the first `n` keys holds what was written. -/
theorem Tab.get_foldl_set_range (w : Nat → Nat) {n i : Nat} (h : i < n) :
    Tab.get 0 ((List.range n).foldl (fun t k => Tab.set 0 t k (w k)) []) i = w i := by
  induction n with
  | zero => omega
  | succ n ih =>
    rw [List.range_succ, List.foldl_append, List.foldl_cons, List.foldl_nil]
    by_cases e : i = n
    · rw [e, Tab.get_set_self]
    · rw [Tab.get_set_ne 0 _ _ e, ih (by omega)]

/-- The words of IN_MSG as the host writes them. -/
def inMsgOf (msg : List Nat) : Tab Nat := (List.range 16).foldl (fun t i => Tab.set 0 t i (msg.getD i 0 % 2 ^ 32)) []

section
variable {s : State} {f : Nat} (msg : List Nat) (hbar : s.bar f = true)
include hbar

theorem exec_mailboxInPost : exec (.mailboxInPost f msg) s = .next ((s.modFn f fun r => { r with inMsg := inMsgOf msg }).inPost f) :=
  congrArg Host.Outcome.next (by simp [mailboxInPost, hbar, inMsgOf])

theorem mailboxInPost_delivers (hfree : (s.fn f).inBusy = false) :
    ∃ t, exec (.mailboxInPost f msg) s = .next t ∧ (t.fn f).inBusy = true ∧
      (∀ i, i < 16 → Tab.get 0 (t.fn f).mbxIn i = msg.getD i 0 % 2 ^ 32) ∧ t.on (EVT_SRC.PEND 208) = true ∧ FnOnly f s t := by
  refine ⟨_, exec_mailboxInPost msg hbar, ?_⟩
  have hwrite := State.fn_modFn_self f (fun r => { r with inMsg := inMsgOf msg }) s
  rw [State.inPost, if_neg (by rw [hwrite]; simp [hfree])]
  have hfn := State.modFn_assertEvent_fn f 208 (fun r => { r with mbxIn := r.inMsg, inBusy := true })
    (s.modFn f fun r => { r with inMsg := inMsgOf msg }) (by decide)
  refine ⟨by rw [hfn], fun i hi => ?_, State.assertEvent_pend (by decide) _,
    (s.modFn_fnOnly f _).trans (State.modFn_assertEvent_fnOnly f 208 _ _ (by decide))⟩
  rw [hfn, hwrite]
  exact Tab.get_foldl_set_range (fun k => msg.getD k 0 % 2 ^ 32) hi

theorem mailboxInPost_overruns (hbusy : (s.fn f).inBusy = true) :
    ∃ t, exec (.mailboxInPost f msg) s = .next t ∧ (t.fn f).inOver = true ∧ (t.fn f).mbxIn = (s.fn f).mbxIn ∧
      t.on (EVT_SRC.PEND 210) = true ∧ FnOnly f s t := by
  refine ⟨_, exec_mailboxInPost msg hbar, ?_⟩
  have hwrite := State.fn_modFn_self f (fun r => { r with inMsg := inMsgOf msg }) s
  rw [State.inPost, if_pos (by rw [hwrite]; exact hbusy)]
  have hfn := State.modFn_assertEvent_fn f 210 (fun r => { r with inOver := true })
    (s.modFn f fun r => { r with inMsg := inMsgOf msg }) (by decide)
  exact ⟨by rw [hfn], by rw [hfn, hwrite], State.assertEvent_pend (by decide) _,
    (s.modFn_fnOnly f _).trans (State.modFn_assertEvent_fnOnly f 210 _ _ (by decide))⟩

end

/-! The acknowledge of the outbound message (R178). -/

theorem mailboxOutAck_effect {s : State} {f : Nat} (v : Nat) (hbar : s.bar f = true) :
    ∃ t, exec (.mailboxOutAck f v) s = .next t ∧ (t.fn f).outFull = false ∧ (t.fn f).vector = v % 2 ^ 11 ∧ (t.fn f).vecEn = v.testBit 15 ∧
      t.on (EVT_SRC.PEND 209) = true ∧ FnOnly f s t := by
  have hexec : exec (.mailboxOutAck f v) s = .next ((s.modFn f fun r => { r with vector := slice v 0 11, vecEn := bit v 15 }).outAck f) :=
    congrArg Host.Outcome.next (by simp [mailboxOutAck, hbar, State.mbxPageWrite])
  refine ⟨_, hexec, ?_⟩
  have hfn := State.modFn_assertEvent_fn f 209 (fun r => { r with outFull := false })
    (s.modFn f fun r => { r with vector := slice v 0 11, vecEn := bit v 15 }) (by decide)
  rw [State.fn_modFn_self] at hfn
  rw [State.outAck]
  exact ⟨by rw [hfn], by rw [hfn, slice, Nat.pow_zero, Nat.div_one], by rw [hfn, bit], State.assertEvent_pend (by decide) _,
    (s.modFn_fnOnly f _).trans (State.modFn_assertEvent_fnOnly f 209 _ _ (by decide))⟩

/-! The ring (R179). -/

/-- A function's record after the host has written RING_LO, RING_SIZE and RING_HI, before the commit. -/
def Fn.ringWritten (lo hi size : Nat) (r : Fn) : Fn :=
  { r with ringLo := lo % 2 ^ 32 / 4096 * 4096, ringSize := size % 32, ringHi := hi % 2 ^ 32 }

/-- The state after these three writes. -/
def State.ringWritten (f lo hi size : Nat) (s : State) : State :=
  ((s.modFn f fun r => { r with ringLo := lo % 2 ^ 32 / 4096 * 4096 }).modFn f fun r => { r with ringSize := size % 32 }).modFn f
    fun r => { r with ringHi := hi % 2 ^ 32 }

/-- The written base and size in force (R179). -/
def Fn.ringTaken (r : Fn) : Fn := { r with ringBase := r.ringHi * 2 ^ 32 + r.ringLo, ringExp := r.ringSize }

theorem State.ringWritten_fn (f lo hi size : Nat) (s : State) : (s.ringWritten f lo hi size).fn f = (s.fn f).ringWritten lo hi size := by
  rw [State.ringWritten, State.fn_modFn_self, State.fn_modFn_self, State.fn_modFn_self, Fn.ringWritten]

theorem State.ringWritten_fnOnly (f lo hi size : Nat) (s : State) : FnOnly f s (s.ringWritten f lo hi size) :=
  ((s.modFn_fnOnly f _).trans (State.modFn_fnOnly f _ _)).trans (State.modFn_fnOnly f _ _)

/-- Whether an address is aligned to a ring size (R179) is a matter of its low word. -/
theorem ringAddress_mod_two_pow {hi lo size : Nat} (h : size ≤ 20) : (hi * 2 ^ 32 + lo) % 2 ^ size = lo % 2 ^ size := by
  have hdvd : 2 ^ size ∣ hi * 2 ^ 32 := Nat.dvd_mul_left_of_dvd (Nat.pow_dvd_pow 2 (by omega)) hi
  rw [Nat.add_mod, Nat.mod_eq_zero_of_dvd hdvd, Nat.zero_add, Nat.mod_mod]

section
variable {lo hi size : Nat} (hmin : 12 ≤ size) (hmax : size ≤ 20) (hlo : lo < 2 ^ 32) (hhi : hi < 2 ^ 32)
include hmin hmax hlo hhi

theorem Fn.ringWritten_ringOk {r : Fn} (hmaster : r.busMaster = true) :
    (r.ringWritten lo hi size).ringOk = decide (lo / 4096 * 4096 % 2 ^ size = 0) := by
  have hsize : size % 32 = size := Nat.mod_eq_of_lt (by omega)
  rw [Fn.ringOk, Fn.ringWritten, hsize, Nat.mod_eq_of_lt hlo, Nat.mod_eq_of_lt hhi, ringAddress_mod_two_pow hmax]
  refine Bool.eq_iff_iff.2 ?_
  simp only [hmaster, hmin, hmax, decide_true, Bool.and_self, Bool.true_and, beq_iff_eq, decide_eq_true_eq]

section
variable {s : State} {f : Nat} (hbar : s.bar f = true) (hmaster : (s.fn f).busMaster = true)
include hbar hmaster

theorem exec_mailboxRingCommit : exec (.mailboxRingCommit f lo hi size) s =
    .next (if lo / 4096 * 4096 % 2 ^ size = 0 then ((s.ringWritten f lo hi size).modFn f Fn.ringTaken).assertEvent 211
    else (s.ringWritten f lo hi size).modFn f fun r => { r with ringErr := true }) := by
  have hok := Fn.ringWritten_ringOk hmin hmax hlo hhi hmaster
  rw [← State.ringWritten_fn] at hok
  have hcommit : exec (.mailboxRingCommit f lo hi size) s = .next (if ((s.ringWritten f lo hi size).fn f).ringOk then
      ((s.ringWritten f lo hi size).modFn f Fn.ringTaken).assertEvent 211
    else (s.ringWritten f lo hi size).modFn f fun r => { r with ringErr := true }) :=
    congrArg Host.Outcome.next (if_neg (by simp [hbar]))
  simp only [hcommit, hok, decide_eq_true_eq]

theorem mailboxRingCommit_accepted (halign : lo % 2 ^ size = 0) :
    ∃ t, exec (.mailboxRingCommit f lo hi size) s = .next t ∧ (t.fn f).ringBase = hi * 2 ^ 32 + lo ∧ (t.fn f).ringExp = size ∧
      t.on (EVT_SRC.PEND 211) = true ∧ FnOnly f s t := by
  have hpage : lo / 4096 * 4096 = lo :=
    Nat.div_mul_cancel (Nat.dvd_trans (Nat.pow_dvd_pow 2 hmin) (Nat.dvd_of_mod_eq_zero halign))
  have hexec := exec_mailboxRingCommit hmin hmax hlo hhi hbar hmaster
  rw [hpage, if_pos halign] at hexec
  have hfn := State.modFn_assertEvent_fn f 211 Fn.ringTaken (s.ringWritten f lo hi size) (by decide)
  rw [State.ringWritten_fn] at hfn
  refine ⟨_, hexec, ?_, ?_, State.assertEvent_pend (by decide) _,
    (s.ringWritten_fnOnly f lo hi size).trans (State.modFn_assertEvent_fnOnly f 211 _ _ (by decide))⟩
  · rw [hfn]
    simp only [Fn.ringTaken, Fn.ringWritten, Nat.mod_eq_of_lt hlo, Nat.mod_eq_of_lt hhi, hpage]
  · rw [hfn]
    exact Nat.mod_eq_of_lt (by omega)

theorem mailboxRingCommit_rejected (halign : lo / 4096 * 4096 % 2 ^ size ≠ 0) :
    ∃ t, exec (.mailboxRingCommit f lo hi size) s = .next t ∧ (t.fn f).ringErr = true ∧ (t.fn f).ringBase = (s.fn f).ringBase ∧
      (t.fn f).ringExp = (s.fn f).ringExp ∧ FnOnly f s t := by
  have hexec := exec_mailboxRingCommit hmin hmax hlo hhi hbar hmaster
  rw [if_neg halign] at hexec
  refine ⟨_, hexec, ?_⟩
  rw [State.fn_modFn_self, State.ringWritten_fn]
  exact ⟨rfl, rfl, rfl, (s.ringWritten_fnOnly f lo hi size).trans (State.modFn_fnOnly f _ _)⟩

end
end

/-! The device's side (R178): posts and takes through FNS_MBXACK. -/

/-- Of a function's record an MSI-X message changes the pending-bit array at most. -/
theorem State.sendMsix_fn (f w : Nat) (s : State) : ∃ p, (s.sendMsix f w).fn f = { s.fn f with msixPend := p } := by
  unfold State.sendMsix
  extract_lets r
  split
  · exact ⟨_, rfl⟩
  split
  · exact ⟨_, State.fn_modFn_self f _ s⟩
  · exact ⟨_, rfl⟩

theorem State.sendMsix_fnOnly (f w : Nat) (s : State) : FnOnly f s (s.sendMsix f w) := by
  have hwithin : Within 8589934592 s (s.sendMsix f w) := State.sendMsix_in .refl rfl
  have honly := hwithin.onlyRegs_nil (by decide) (by decide)
  exact ⟨fun _ h => State.sendMsix_fn_ne h w s, fun g _ _ => honly.1 g (by simp), honly.2⟩

/-- The message goes out when MSI-X is enabled and neither the function nor the vector is masked (R103). -/
theorem State.sendMsix_msix (f w : Nat) (s : State) : (s.sendMsix f w).hfe.msix =
    if (s.fn f).msixEn && !(s.fn f).msixMask && (s.fn f).msixOpen.contains w then s.hfe.msix ++ [(f, w)] else s.hfe.msix := by
  unfold State.sendMsix
  extract_lets r
  cases hen : r.msixEn <;> cases hmask : r.msixMask <;> cases hopen : r.msixOpen.contains w <;> simp_all [r, State.modFn]

section
variable {s : State} {m f : Nat} (hf : f < 512) (h : s.reaches m FNS_MBXACK.FUNC.addr)
include hf h

theorem exec_outPost : exec (.outPost m (0x20000 + f)) s = .next ((s.arrive m FNS_MBXACK.FUNC.addr).outPost f) := by
  have hfn : FNS_MBXACK.FUNC.of (0x20000 + f) = f := by simp only [Fld.of, FNS_MBXACK.FUNC]; omega
  have hpost : FNS_MBXACK.OUT_POST.of (0x20000 + f) = 1 := by simp only [Fld.of, FNS_MBXACK.OUT_POST]; omega
  have hdone : FNS_MBXACK.IN_DONE.of (0x20000 + f) ≠ 1 := by simp only [Fld.of, FNS_MBXACK.IN_DONE]; omega
  refine congrArg Host.Outcome.next ((State.access_reaches h _).trans ?_)
  rw [State.writeMbxAck, hfn, if_neg hdone, if_pos hpost]

theorem exec_inDone : exec (.inDone m (0x10000 + f)) s = .next ((s.arrive m FNS_MBXACK.FUNC.addr).inDone f) := by
  have hfn : FNS_MBXACK.FUNC.of (0x10000 + f) = f := by simp only [Fld.of, FNS_MBXACK.FUNC]; omega
  have hpost : FNS_MBXACK.OUT_POST.of (0x10000 + f) ≠ 1 := by simp only [Fld.of, FNS_MBXACK.OUT_POST]; omega
  have hdone : FNS_MBXACK.IN_DONE.of (0x10000 + f) = 1 := by simp only [Fld.of, FNS_MBXACK.IN_DONE]; omega
  refine congrArg Host.Outcome.next ((State.access_reaches h _).trans ?_)
  rw [State.writeMbxAck, hfn, if_pos hdone, if_neg hpost]

end

section
variable {s : State} {f : Nat}

/-- The outbound message of function `f` copied to its page, before the MSI-X message. -/
def State.outCopied (f : Nat) (s : State) : State := s.modFn f fun r => { r with outMsg := r.mbxOut, outFull := true, outNew := true }

theorem State.outPost_unread (h : (s.fn f).outFull = true) : s.outPost f = s.put FNS_MBXACK.REJ true := if_pos h

theorem State.outPost_posts (h : (s.fn f).outFull = false) :
    s.outPost f = if (s.fn f).vecEn then (s.outCopied f).sendMsix f (s.fn f).vector else s.outCopied f :=
  if_neg (by simp [h])

theorem State.outPost_fn (h : (s.fn f).outFull = false) :
    ∃ p, (s.outPost f).fn f = { s.fn f with outMsg := (s.fn f).mbxOut, outFull := true, outNew := true, msixPend := p } := by
  have hcopy : (s.outCopied f).fn f = _ := State.fn_modFn_self f _ s
  rw [State.outPost_posts h]
  split
  · obtain ⟨p, hp⟩ := State.sendMsix_fn f (s.fn f).vector (s.outCopied f)
    exact ⟨p, by rw [hp, hcopy]⟩
  · exact ⟨_, hcopy⟩

theorem State.outPost_fnOnly (h : (s.fn f).outFull = false) : FnOnly f s (s.outPost f) := by
  have hcopy : FnOnly f s (s.outCopied f) := s.modFn_fnOnly f _
  rw [State.outPost_posts h]
  split
  · exact hcopy.trans (State.sendMsix_fnOnly ..)
  · exact hcopy

theorem State.outPost_msix (h : (s.fn f).outFull = false) : (s.outPost f).hfe.msix =
    if (s.fn f).vecEn && (s.fn f).msixEn && !(s.fn f).msixMask && (s.fn f).msixOpen.contains (s.fn f).vector
      then s.hfe.msix ++ [(f, (s.fn f).vector)] else s.hfe.msix := by
  have hcopy : (s.outCopied f).fn f = _ := State.fn_modFn_self f _ s
  rw [State.outPost_posts h]
  split
  next hvec => rw [State.sendMsix_msix, hcopy, hvec, Bool.true_and]; rfl
  next hvec => rw [Bool.eq_false_iff.2 hvec]; rfl

end

section
variable {s : State} {m f : Nat} (hf : f < 512) (h : s.reaches m FNS_MBXACK.FUNC.addr)
include hf h

theorem outPost_posted_effect (hfree : (s.fn f).outFull = false) :
    ∃ t, exec (.outPost m (0x20000 + f)) s = .next t ∧ (t.fn f).outFull = true ∧ (t.fn f).outMsg = (s.fn f).mbxOut ∧
      t.hfe.msix = (if (s.fn f).vecEn && (s.fn f).msixEn && !(s.fn f).msixMask && (s.fn f).msixOpen.contains (s.fn f).vector
        then s.hfe.msix ++ [(f, (s.fn f).vector)] else s.hfe.msix) ∧ FnOnly f s t := by
  have harrive := s.arrive_quiet m FNS_MBXACK.FUNC.addr
  have hfree' : ((s.arrive m FNS_MBXACK.FUNC.addr).fn f).outFull = false := by rw [harrive.fn]; exact hfree
  obtain ⟨p, hfn⟩ := State.outPost_fn hfree'
  have hmsix := State.outPost_msix hfree'
  rw [harrive.fn, harrive.hfe] at hmsix
  rw [harrive.fn] at hfn
  exact ⟨_, exec_outPost hf h, by rw [hfn], by rw [hfn], hmsix, (harrive.fnOnly f).trans (State.outPost_fnOnly hfree')⟩

theorem outPost_rejected_effect (hfull : (s.fn f).outFull = true) :
    ∃ t, exec (.outPost m (0x20000 + f)) s = .next t ∧ t.on FNS_MBXACK.REJ = true ∧ t.hfe = s.hfe ∧
      (∀ g, t.fn g = s.fn g) ∧ keepsRegs [FNS_MBXACK.REJ] s t ∧ keepsMem s t := by
  have harrive := s.arrive_quiet m FNS_MBXACK.FUNC.addr
  have hexec := exec_outPost hf h
  rw [State.outPost_unread (by rw [harrive.fn]; exact hfull)] at hexec
  exact ⟨_, hexec, State.on_put _ _ _ (by decide), harrive.hfe, harrive.fn,
    (harrive.keepsRegs _).trans (keepsRegs_setFld _ _ _ (.head _)), harrive.keepsMem⟩

theorem inDone_effect : ∃ t, exec (.inDone m (0x10000 + f)) s = .next t ∧ (t.fn f).inBusy = false ∧ (t.fn f).inTaken = true ∧
    FnOnly f s t := by
  have harrive := s.arrive_quiet m FNS_MBXACK.FUNC.addr
  refine ⟨_, exec_inDone hf h, ?_⟩
  rw [State.inDone, State.fn_modFn_self]
  exact ⟨rfl, rfl, (harrive.fnOnly f).trans (State.modFn_fnOnly f _ _)⟩

end

/-- Settles O21: each side of the mailbox by the equation of its operation. -/
theorem mailboxesPassMessages : Obligations.MailboxesPassMessages := by
  unfold Obligations.MailboxesPassMessages
  refine ⟨?deliver, ?overrun, ?ack, ?ring, ?post, ?done⟩
  case deliver => exact fun s f msg hbar hfree => mailboxInPost_delivers msg hbar hfree
  case overrun =>
    intro s f msg hbar hbusy
    obtain ⟨t, hexec, hover, hkept, hpend, -, hregs, hmem⟩ := mailboxInPost_overruns msg hbar hbusy
    exact ⟨t, hexec, hover, hkept, hpend, hregs, hmem⟩
  case ack => exact fun s f v hbar => mailboxOutAck_effect v hbar
  case ring =>
    intro s f lo hi size hbar hmaster hmin hmax hlo hhi
    exact ⟨mailboxRingCommit_accepted hmin hmax hlo hhi hbar hmaster, mailboxRingCommit_rejected hmin hmax hlo hhi hbar hmaster⟩
  case post => exact fun s m f hf h => ⟨outPost_posted_effect hf h, outPost_rejected_effect hf h⟩
  case done => exact fun s m f hf h => inDone_effect hf h

end Sys2Proof.Machine

/-! Refutation of O29. A function's class for the tickets before a change is kept as a list of changes, each with the first ticket it does
not concern; `pastAt` takes the first of them above a ticket, so it rests on a list that rises. The statement is about every state, and a
list that does not rise, which no sequence of commands builds, loses the entry it answered from to a Set Features C2h. -/

namespace Sys2Proof.Machine

/-- A lone admin entry of ticket 1 before function 0, whose class of that ticket rests on the first of two past changes out of order:
tail before ticket 6, not tail before ticket 2. -/
def tailPastUnordered : State :=
  (State.reset.setFld FNS_CTRL.TOKEN_EN 0).modHfe fun h => { h with
    tickets := [{ ticket := 1, fn := 0, sqid := 0 }], sqs := [(qkey 0 0, { size := 64 })], cqs := [(qkey 0 0, { size := 64 })],
    fns := [(0, { en := true, deficit := 1, tailPast := [(6, true), (2, false)] })] }

theorem tailPastUnordered_onlyAdmin : tailPastUnordered.onlyAdmin { ticket := 1, fn := 0, sqid := 0 } where
  only :=
    { tickets := rfl
      contexts := by decide +kernel
      running := by decide +kernel
      fn := by decide
      deficit := by decide +kernel
      prio := by decide +kernel
      tokens := by decide +kernel
      room := by decide +kernel
      limit := by decide +kernel
      media := ⟨by decide +kernel, by decide +kernel, by decide +kernel, by decide +kernel, by decide +kernel⟩ }
  queue := rfl
  cq := by decide +kernel

/-- The entry that ticket 1 rested on concerns tickets past the one the command changes from, so the change drops it. -/
theorem setTailClass_moves_ticket :
    tailPastUnordered.tailFor 0 1 = true ∧ (setTailClass 0 0 tailPastUnordered).tailFor 0 1 = false := by decide +kernel

/-- Refutes O29: with past changes out of order, the command's own ticket does not keep its class. -/
theorem not_weightsAndTailClassAreSet : ¬ Obligations.WeightsAndTailClassAreSet := by
  unfold Obligations.WeightsAndTailClassAreSet
  rintro ⟨-, -, -, htail, -⟩
  obtain ⟨t, hexec, -, -, -, hown, -⟩ := htail tailPastUnordered { ticket := 1, fn := 0, sqid := 0 } 0 0 tailPastUnordered_onlyAdmin
    (by decide +kernel) (by decide +kernel) fun _ => by decide +kernel
  obtain rfl : setTailClass 0 0 tailPastUnordered = t := Host.Outcome.next.inj hexec
  obtain ⟨hbefore, hafter⟩ := setTailClass_moves_ticket
  exact absurd (hafter.symm.trans (hown.trans hbefore)) (by decide)

end Sys2Proof.Machine
